-- ==== Sys2Proof/Word.lean ====
section
/-!
DEFINITION. The word types of the QP-24: bytes, 32-bit registers, and sparse tables.
-/
namespace Sys2Proof

/-- One byte. -/
abbrev Byte := BitVec 8

/-- One register, or one result word (R485). -/
abbrev W32 := BitVec 32

/-- A sparse table: (key, value) pairs in strictly rising order of key. An unlisted key holds the
table's default, which its reader names, and no listed value equals that default. -/
abbrev Tbl (V : Type) := List (Nat × V)

/-- A 64 B line or any other run of bytes, lowest address first (R5). -/
abbrev Bytes := List Byte

end Sys2Proof
end

