-- ==== Sys2Proof/Records.lean ====
section
/-!
DEFINITION. The records that the QP-24's state, its packets and its commands are made of: plain data,
each field with the table of spec/ that gives it.
-/
namespace Sys2Proof

/-! ## Packets (chapters 11 and 12) -/

/-- A fabric packet: the header slots of Tables 11-4 and 12-1, and the payload. -/
structure Packet where
  dest : Nat := 0
  src : Nat := 0
  ch : Nat := 0
  sc : Nat := 0
  poison : Bool := false
  pcode : Nat := 0
  tag : Nat := 0
  /-- Table 4-6 code; 0 on data channels. -/
  code : Nat := 0
  granted : Bool := false
  wbPending : Bool := false
  /-- PA[51:6]. -/
  line : Nat := 0
  /-- WR_DATA's byte mask. -/
  mask : BitVec 64 := 0
  /-- Table 12-1 KIND. -/
  kind : Nat := 0
  last : Bool := false
  mc : Bool := false
  group : Nat := 0
  msgId : Nat := 0
  msgLen : Nat := 0
  /-- CMP's STATUS; a NAK's status code rides here too (R80: "carries a status code"). -/
  status : Nat := 0
  queue : Nat := 0
  tail : Nat := 0
  ptag : Nat := 0
  addr : Nat := 0
  payBytes : Nat := 0
  offset : Nat := 0
  data : Bytes := []
  /-- the slots as received, for a packet that came from a port and may be forwarded unchanged (R282). -/
  raw : Bytes := []
  deriving DecidableEq, Repr, Inhabited

/-- A packet that a port has received whole, with the time at which its last flit was accepted; one whose buffer was
forgotten at a new training returns no credit (R261, Table 11-9). -/
structure RxPkt where
  pkt : Packet
  since : Nat := 0
  stale : Bool := false
  deriving DecidableEq, Repr, Inhabited

/-- What a Runnel packet says: its channel of Table 17-3, its tag, bits [127:64] of the first header slot (Table 17-4),
its further header slots, the poison code of its payload (0: none), and the payload in whole slots. -/
structure RunMsg where
  ch : Nat
  tag : Nat := 0
  hi : Nat := 0
  more : List Nat := []
  pcode : Nat := 0
  data : Bytes := []
  deriving DecidableEq, Repr, Inhabited

/-- One 16 B slot of a flit body (R247). -/
abbrev Slot := Bytes

/-- A link message of Table 11-5: code and three operands. -/
structure LinkMsg where
  code : Nat
  a : Nat := 0
  b : Nat := 0
  c : Nat := 0
  deriving DecidableEq, Repr, Inhabited

/-- A flit body kept for replay (R258, R262). -/
structure Kept where
  fseq : Nat
  slots : List Slot
  firstHdr : Nat
  /-- the body lies in the Spillway (R262). -/
  spilled : Bool := false
  /-- packets of which it carries a slot. -/
  pkts : List Packet := []
  /-- it has been retransmitted. -/
  resent : Bool := false
  deriving DecidableEq, Repr, Inhabited

/-! ## Regions and pages (chapters 02 and 06) -/

/-- A region (Table 2-2); sizes and base in pool pages of 2 MiB. -/
structure Region where
  gen : Nat
  dom : Nat
  base : Nat
  size : Nat
  max : Nat
  coherent : Bool := false
  mirrored : Bool := false
  versioned : Bool := false
  reserve : Bool := false
  residency : Nat := 0
  grain : Nat := 0
  defaultSc : Nat := 0
  version : Nat := 1
  freeing : Bool := false
  /-- handle of the operation that marked it FREEING (tiles of earlier operations are served, R42). -/
  freedBy : Nat := 0
  /-- FREE came with FORCE (R43). -/
  force : Bool := false
  /-- assignment serial when it executed: tiles assigned before were in engines (R43). -/
  freedAt : Nat := 0
  /-- handle of a shrinking RESIZE not yet completed, 0 for none (R515). -/
  shrinking : Nat := 0
  /-- pages kept while the shrink runs; whether it came with FORCE, and the assignment serial when it executed (R43). -/
  shrinkTo : Nat := 0
  shrinkForce : Bool := false
  shrinkAt : Nat := 0
  /-- handle of the last SET_ATTR over COHERENT, while it has yet to complete, 0 for none. -/
  changing : Nat := 0
  /-- reserved units of this region not yet taken by a materialisation (R35, R120). -/
  unitsLeft : Nat := 0
  /-- the reservation lies in DRAM units (R132). -/
  dramUnits : Bool := false
  deriving DecidableEq, Repr, Inhabited

/-- A sub-page record (Table 6-3): code 0 DRY, 1 DRAM, 2 BASIN, 3 CISTERN. -/
structure SubRec where
  state : Nat := 0
  /-- home frame: a DRAM frame number, or drive × 2^28 + Cistern frame. -/
  frame : Nat := 0
  /-- CACHE frame while in BASIN. -/
  cache : Nat := 0
  /-- valid and dirty bits of the CACHE frame's 1,024 lines (R123). -/
  valid : BitVec 1024 := 0
  dirty : BitVec 1024 := 0
  evicting : Bool := false
  deriving DecidableEq, Repr, Inhabited

/-- One staging version of a region (R46). -/
structure Staging where
  region : Nat
  ident : Nat
  /-- key of its sub-pages and its bytes. -/
  key : Nat
  /-- the sub-pages that it has staged (PA / 64 KiB in the current view), rising. -/
  subs : List Nat
  /-- pool pages it holds a backing unit for. -/
  pages : List Nat
  deriving DecidableEq, Repr, Inhabited

/-- A version that a PUBLISH replaced and that earlier tiles still read (R50). -/
structure OldVersion where
  region : Nat
  version : Nat
  key : Nat
  /-- serial of the PUBLISH: tiles assigned before it read this version. -/
  serial : Nat
  /-- the sub-pages that the PUBLISH replaced, rising. -/
  subs : List Nat
  /-- units to return, by pool page. -/
  pages : List Nat
  deriving DecidableEq, Repr, Inhabited

/-- The page record of one pool page (R121, R126). -/
structure PageRec where
  /-- it holds a backing unit. -/
  backed : Bool := false
  /-- 16-bit access count. -/
  count : Nat := 0
  touched : BitVec 32 := 0
  prevTouched : BitVec 32 := 0
  deriving DecidableEq, Repr, Inhabited

/-- Why a sub-page is being moved: the busy mark's holder (chapter 02). -/
inductive MoveKind where
  | promote            -- CISTERN to DRAM (R128)
  | lehr               -- DRAM to CISTERN by the Lehr (R129)
  | migrate            -- DRAM to CISTERN by MIGRATE (R144)
  deriving DecidableEq, Repr, Inhabited

/-- A tier move in flight: it holds the page's busy mark. -/
structure Move where
  sub : Nat
  kind : MoveKind
  /-- frame being filled, coded as in SubRec.frame. -/
  dest : Nat
  drive : Nat
  /-- operation it serves (PIN or MIGRATE), or 0. -/
  op : Nat := 0
  /-- the NVMe command has been issued once more (R137). -/
  retried : Bool := false
  /-- blocks whose CRC failed have been read once more (R136). -/
  reread : Bool := false
  /-- the partner's MACK for a demotion is awaited (Table 17-5). -/
  asked : Bool := false
  deriving DecidableEq, Repr, Inhabited

/-! ## Translation (chapter 03) -/

/-- What a translation was found under: the contents of its context (Table 3-3) and the two words of its walk
descriptor (Tables 3-1, 3-2), whole, so that no translation mixes old contents with new (R57). -/
structure CtxView where
  word : Nat
  lo : Nat
  hi : Nat
  deriving DecidableEq, Repr, Inhabited

/-- A cached leaf (R62, R64). -/
structure Leaf where
  cluster : Nat
  ctx : Nat
  view : CtxView
  /-- VA / 4 KiB of the leaf's first page, and the number of 4 KiB pages it maps. -/
  vpn : Nat
  pages : Nat
  /-- PA of the leaf's first byte. -/
  pa : Nat
  writable : Bool
  a : Bool
  d : Bool
  /-- address and location of the entry itself. -/
  entry : Nat
  host : Bool
  deriving DecidableEq, Repr, Inhabited

/-- An entry of a cluster's upper-level cache (512 entries a cluster). -/
structure Upper where
  cluster : Nat
  ctx : Nat
  view : CtxView
  /-- levels below the table that the entry points to: 0 the last-level table. -/
  level : Nat
  /-- VA above the range that the table covers. -/
  tag : Nat
  table : Nat
  deriving DecidableEq, Repr, Inhabited

/-- A walk in flight (R64). -/
structure Walk where
  id : Nat
  cluster : Nat
  ctx : Nat
  view : CtxView
  va : Nat
  write : Bool
  /-- levels still below the one being read: 4 … 0, 0 the last level. -/
  level : Nat
  /-- address of the entry being read. -/
  entry : Nat
  /-- the upper-level entries that it has found; they are installed when it ends (R65). -/
  ups : List Upper := []
  /-- made for a tile (operation handle, tile number) or a prefetch (R65). -/
  op : Nat
  tile : Nat
  prefetch : Bool
  deriving DecidableEq, Repr, Inhabited

/-! ## Operations and tiles (chapters 07 to 10) -/

/-- Where an operation stands. -/
inductive Phase where
  | taken       -- accepted; its command has not executed
  | fetching    -- the stream descriptor is being read
  | block       -- the UPDATE parameter block is being read
  | running     -- work goes on
  | suspending  -- assignment stopped; tiles drain
  | suspended   -- frontier recorded
  | ending      -- its last work has ended, or it was cancelled; the completion is due
  | ended       -- final completion written (record kept, R475)
  deriving DecidableEq, Repr, Inhabited

/-- A 64-bit slot account (R242): retired, wasted, front-starved, back-starved. -/
structure Slots where
  retired : Nat := 0
  wasted : Nat := 0
  front : Nat := 0
  back : Nat := 0
  deriving DecidableEq, Repr, Inhabited

/-- The arrival state of a reduction (Table 9-1 and R217 to R224). -/
structure Arrival where
  /-- PA of the arrival record. -/
  record : Nat
  contribs : Nat
  tilesPer : Nat
  /-- dense tile bytes of one tile. -/
  tileBytes : Nat
  expect : Nat
  /-- PA of each 4 KiB page that the landing bitmap touches, and where in the first it begins. -/
  mapPas : List Nat
  mapOff : Nat
  /-- the listed EIDs, none where VALID is 0 or there is no list (R223). -/
  eids : List (Option Nat)
  sparse : Bool
  /-- the runs (PA, bytes) of each landing tile or body slot, and of each header for a SPARSE source. -/
  lands : List (List (Nat × Nat))
  hdrs : List (List (Nat × Nat))
  armed : Bool := true
  /-- bytes written so far of each landing tile, keyed 2 × tile for its body and 2 × tile + 1 for its header. -/
  got : Tbl Nat := []
  /-- in landing order (R220). -/
  landed : List Nat := []
  /-- tiles landed and not yet dealt, in landing order. -/
  queue : List Nat := []
  /-- tiles whose fold committed or that were counted lost. -/
  closed : List Nat := []
  skipped : List Nat := []
  done : Nat := 0
  folded : Nat := 0
  lostBytes : Nat := 0
  /-- fold time of R225 so far, the start of the interval that runs, and the time of the last commit. -/
  foldNs : Nat := 0
  foldSince : Option Nat := none
  lastClose : Nat := 0
  /-- STATE of Table 9-1, and what the record at its home shows: its counts and its STATE. -/
  state : Nat := 1
  shown : List Nat := [0, 0, 0, 0]
  shownState : Nat := 0
  /-- tiles whose fold was lost and whose accumulator tile is yet to be marked, with the code (R222). -/
  lostAcc : List (Nat × Nat) := []
  deriving DecidableEq, Repr, Inhabited

/-- Progress of MIGRATE and SCRUB (R145, R363). -/
structure Progress where
  /-- next sub-page, stripe or line of the scope. -/
  next : Nat := 0
  moved : Nat := 0
  skipped : Nat := 0
  left : Nat := 0
  linesRead : Nat := 0
  linesSkipped : Nat := 0
  uncorr : Nat := 0
  poisonFound : Nat := 0
  rowsMarked : Nat := 0
  corr : Tbl Nat := []
  corrBasin : Nat := 0
  crcFail : Nat := 0
  uncorrLoc : List Nat := []
  rowKeys : List Nat := []
  deriving DecidableEq, Repr, Inhabited

/-- An operation (R159 to R169): every entry that a control processor takes. -/
structure Op where
  queue : Nat
  dom : Nat
  /-- identity in QOWN.OWNER when taken. -/
  owner : Nat
  tag : Nat
  opcode : Nat
  notify : Bool
  /-- the 64-byte command entry. -/
  entry : Bytes
  /-- it holds one of the 4,096 operation slots (R160). -/
  slot : Bool
  /-- it holds a reserved completion slot (R151). -/
  reserved : Bool
  phase : Phase := .taken
  /-- COND so far (Table 7-9). -/
  cond : Nat := 0
  /-- result words (R161). -/
  res : List Nat := [0, 0, 0, 0]
  desc : Bytes := []
  block : Bytes := []
  /-- UPDATE coefficients A1 … LAMBDA as FP32 words (Table 8-14). -/
  coef : List W32 := []
  next : Nat := 0
  /-- uncommitted tiles below next that wait to be dealt (frontier list). -/
  redo : List Nat := []
  committed : Nat := 0
  failed : Nat := 0
  suspect : Nat := 0
  firstFail : Nat := 0xFFFFFFFF
  faults : Nat := 0
  /-- lowest faulting tile and its two fault words (R72). -/
  faultTile : Nat := 0xFFFFFFFF
  fault0 : Nat := 0
  fault1 : Nat := 0
  faultSusp : Bool := false
  stopped : Bool := false
  bytesRun : Nat := 0
  bytesAdmitted : Nat := 0
  runStart : Option Nat := none
  /-- limit, and rate in the rate form, of its class when its run was admitted (R100). -/
  terms : Nat × Nat := (0, 0)
  /-- ns that its tiles have waited at each cluster's scheduler in its run (R113). -/
  waitAt : Tbl Nat := []
  void : Bool := false
  engines : BitVec 80 := 0
  suspectEngines : BitVec 80 := 0
  slots : Slots := {}
  arrival : Option Arrival := none
  prog : Progress := {}
  /-- engines an ENGINE_TEST still tests: (engine, rounds left); and its counts. -/
  tests : List (Nat × Nat) := []
  tested : Nat := 0
  testFails : List Nat := []
  substituted : Nat := 0
  /-- SUSPEND or CANCEL commands that wait for this operation's completion (R166, R168). -/
  waiters : List Nat := []
  /-- release order of its operation slot (R475); 0 while held. -/
  released : Nat := 0
  /-- its completion queue. -/
  cq : Nat := 0
  /-- its reservation was cancelled: no completion is written (R152). -/
  slotLost : Bool := false
  /-- it has written a completion, final or SUSPENDED (R151, R172). -/
  wrote : Bool := false
  /-- a SUSPEND came before its first tile. -/
  askSusp : Bool := false
  /-- when it was suspended. -/
  suspendedAt : Nat := 0
  /-- CANCEL has stopped it (R168). -/
  cancelled : Bool := false
  /-- tick that records its end (R392). -/
  endTick : Nat := 0
  /-- control processor that took its entry (R371). -/
  cp : Nat := 0
  /-- what a START of work left for its last step: the state the executing command keeps. -/
  aux : List Nat := []
  /-- EIDs that its multicast has skipped (R292). -/
  skips : List Nat := []
  deriving DecidableEq, Repr, Inhabited

/-- A translation that a tile holds: the page's VA / 4 KiB and its PA, whether it was taken for a write, and the VA
pages that its leaf maps (R62, R69, R73). -/
structure Held where
  vpn : Nat
  pa : Nat
  write : Bool
  base : Nat
  pages : Nat
  deriving DecidableEq, Repr, Inhabited

/-- A write that a tile will make at its commit (R190). -/
structure PendWrite where
  pa : Nat
  data : Bytes
  /-- poison code for the line it covers, or 0. -/
  pcode : Nat := 0
  deriving DecidableEq, Repr, Inhabited

/-- A tile that has been dealt to a core (R230) and not yet ended. -/
structure Tile where
  op : Nat
  num : Nat
  core : Nat
  admitted : Bool := false
  /-- its cluster's scheduler has started it (R108). -/
  started : Bool := false
  /-- engine 0–79 once assigned (R232). -/
  eng : Option Nat := none
  /-- version of each versioned region when it was assigned (R50): the assignment's serial. -/
  serial : Nat := 0
  /-- next station to run: 0 the source, 1 … NSTAT the middle stations, NSTAT + 1 the sink. -/
  stage : Nat := 0
  fmt : Nat := 0
  sparse : Bool := false
  nm : Nat := 0
  elems : List (BitVec 64) := []
  scales : Bytes := []
  occ : BitVec 64 := 0
  /-- stored blocks of a SPARSE tile, in ascending group order. -/
  blocks : List Bytes := []
  /-- poisoned source lines carried: (line of the tile, code) (R360). -/
  carried : List (Nat × Nat) := []
  /-- routes of a ROUTE tile: (row, output, weight) in order. -/
  routes : List (Nat × Nat × Nat) := []
  rowLen : Nat := 0
  writes : List PendWrite := []
  suspect : Bool := false
  /-- sink write begun (R168). -/
  sinking : Bool := false
  /-- translations it holds (R62, R73). -/
  leaves : List Held := []
  /-- VA pages whose miss has been counted (Table 21-2). -/
  missed : List Nat := []
  /-- walk restarts that it has caused (R62). -/
  restarts : Nat := 0
  /-- pool pages touched, for the access count (R126). -/
  touched : List Nat := []
  failed : Option Nat := none
  fenceSkip : Bool := false
  void : Bool := false
  start : Nat := 0
  /-- bound in ns by the terms of its admission, for an SC2 tile (R100). -/
  bound : Nat := 0
  /-- datapath cycles that its stations have cost (Table 10-2). -/
  work : Nat := 0
  /-- what each datapath station computed: the groups that no later one has discarded, their number when computed, and
  the cycles (R242). -/
  spans : List (BitVec 64 × Nat × Nat) := []
  /-- runs (PA, bytes) of the accumulator tile that it folds into, from its fold to its commit (R203). -/
  fold : List (Nat × Nat) := []
  /-- poison code that it has consumed, 0 for none (R222). -/
  eaten : Nat := 0
  /-- its sink's writes have been issued, and their bytes. -/
  issued : Bool := false
  sinkBytes : Nat := 0
  deriving DecidableEq, Repr, Inhabited

/-! ## Coherence (chapter 04) -/

/-- The caching and non-caching requests of Table 4-6, and internal recalls. -/
inductive ReqKind where
  | rdShared | rdOwn | upgrade | rdOnce | wrOnce | recall
  deriving DecidableEq, Repr, Inhabited

/-- The bank atomics (Table 15-1). -/
inductive AtomicKind where
  | addI32
  | addI64
  | addF32
  | addBf16x2
  | swap32
  | swap64
  deriving DecidableEq, Repr, Inhabited

/-- A bank atomic's operand (R348, R349). -/
structure AtomicReq where
  pa : Nat
  value : BitVec 64
  deriving DecidableEq, Repr, Inhabited

/-- Who asks: a fabric agent or endpoint, the CXL host, one of the controller's own users, or the home
itself for a recall (R78, R104). -/
inductive Requester where
  | fabric (eid : Nat)
  | cxl
  /-- a tile (operation, number). -/
  | tile (op num : Nat)
  /-- a received message, by its entry. -/
  | put (entry : Nat)
  /-- the page-table walker. -/
  | walk (id : Nat)
  /-- a ring, descriptor or parameter-block read of an operation. -/
  | fetch (op : Nat)
  /-- an atomic, which its line's home performs as a WR_ONCE (R349). -/
  | atomic (kind : AtomicKind) (req : AtomicReq)
  | home
  deriving DecidableEq, Repr, Inhabited

/-- A request as its home holds it. -/
structure HomeReq where
  kind : ReqKind
  who : Requester
  tag : Nat
  sc : Nat
  line : Nat
  start : Nat
  /-- CXL.mem write data travels with the request. -/
  data : Bytes := []
  mask : BitVec 64 := 0
  pcode : Nat := 0
  void : Bool := false
  bound : Nat := 0
  dom : Nat := 0
  /-- backlog charge and its scheduler, carried to the response's unit (R106). -/
  charge : Nat := 0
  sch : Nat := 0
  /-- port that it came in by. -/
  via : Option Nat := none
  deriving DecidableEq, Repr, Inhabited

/-- A FWD that has been sent and not answered. -/
structure FwdOut where
  agent : Nat
  code : Nat
  deriving DecidableEq, Repr, Inhabited

/-- An open transaction in the home tracker (R82, R85). -/
structure Tran where
  req : HomeReq
  waits : List FwdOut := []
  /-- the owner's answer: 0 none, 1 ACK_SHR, 2 HOLD_DATA or the write-back, 3 ACK_MISS, 5 ACK_CLEAN, 6 ACK_INV,
  7 fenced. -/
  answer : Nat := 0
  /-- dirty data returned by an owner, with its poison code (0 none). -/
  owned : Option (Bytes × Nat) := none
  /-- the write-back of this agent is awaited (R88). -/
  awaitWb : Option Nat := none
  /-- WR_ONCE: WR_DATA has not arrived. -/
  pull : Bool := false
  /-- WR_DATA: data, mask, poison code. -/
  wdata : Option (Bytes × BitVec 64 × Nat) := none
  /-- all answers in and the response sent; what remains is the egress that TRANSACTION_CLOSE reports. -/
  done : Bool := false
  /-- sub-page whose promotion it waits for. -/
  tier : Option Nat := none
  /-- WR_DATA was refused with this status: nothing is written (R410). -/
  refused : Nat := 0
  /-- partner acknowledgements awaited (R389), and the response that waits for them. -/
  macks : Nat := 0
  resp : Option Packet := none
  /-- a recall of one agent's holding alone (R95). -/
  only : Option Nat := none
  /-- the request that waits for the way this recall frees (R90). -/
  forReq : Option HomeReq := none
  /-- a recall whose data is discarded (R44), or of a sweep. -/
  discard : Bool := false
  /-- state, owner and sharers recorded when it began. -/
  oldState : Nat := 0
  oldOwner : Nat := 0
  oldSharers : BitVec 256 := 0
  deriving DecidableEq, Repr, Inhabited

/-- A directory entry (Table 4-2). -/
structure DirEntry where
  sharers : BitVec 256 := 0
  /-- 1 S, 2 E, 3 M, 4 O. -/
  state : Nat
  owner : Nat := 0
  opened : Bool := false
  age : Nat := 0
  way : Nat := 0
  mirror : Bool := false
  deriving DecidableEq, Repr, Inhabited

/-- An agent-table entry (Table 4-4). -/
structure Agent where
  eid : Nat := 0
  valid : Bool := false
  fenced : Bool := false
  sweepDone : Bool := false
  timedOut : Bool := false
  /-- fenced by AGENT_CMD FENCE with its sweep running: answers are still taken (R95). -/
  answers : Bool := false
  deriving DecidableEq, Repr, Inhabited

/-! ## NVMe (R133 to R139) -/

/-- An NVMe command that leaves for a drive (Table 6-5). A DMA address is an offset in the controller's private window, in
which DRAM frame f begins at f × 64 KiB (R134). -/
inductive NvmeCmd where
  | identify
  /-- Set Features, Number of Queues. -/
  | setQueues (pairs : Nat)
  | createCq (id entries : Nat)
  | createSq (id entries : Nat)
  | asyncEvent
  /-- Abort of the command for a Cistern frame (R137). -/
  | abort (frame : Nat)
  /-- Set Features, Power Management: the deepest non-operational state allowed (R458). -/
  | sleep
  | read (lba blocks dma : Nat)
  /-- a data write; none: the data comes from the request that makes it (R131). -/
  | write (lba blocks : Nat) (dma : Option Nat)
  /-- the metadata block of a group, with the frame's new entry (R135). -/
  | metadata (lba entry : Nat) (bytes : Bytes)
  | deallocate (lba blocks : Nat)
  /-- reservations: register a key, acquire Exclusive Access, preempt, release, report (R139). -/
  | resRegister (key : Nat)
  | resAcquire (key : Nat)
  | resPreempt (key former : Nat)
  | resRelease (key : Nat)
  | resReport
  deriving DecidableEq, Repr, Inhabited

/-! ## Outputs -/

/-- What leaves the block. -/
inductive Out where
  /-- a flit on a port's wire (chapter 11). -/
  | flit (port : Nat) (bytes : Bytes)
  /-- a write or read over CXL.io (rings, completions in host memory). -/
  | hostWrite (addr : Nat) (bytes : Bytes)
  | hostRead (addr len : Nat)
  /-- an MSI-X message (R305). -/
  | msix (vec : Nat)
  /-- the internal interrupt to Holhild and the control processors (R490). -/
  | summary (hhd cp : Bool)
  /-- CXL.mem responses (R308). -/
  | cxlData (hpa : Nat) (data : Bytes) (poison : Bool)
  | cxlDone (hpa : Nat)
  /-- what a register read, a mailbox command, an SPDM, PLDM or MCTP request, or a configuration read answers. -/
  | readData (addr : Nat) (value : W32)
  | reply (code : Nat) (words : List Nat) (bytes : Bytes)
  /-- an NVMe command to a drive. -/
  | nvme (drive : Nat) (cmd : NvmeCmd)
  /-- a DRAM command on a channel: opcode and address. -/
  | dram (ch op : Nat) (arg : Nat)
  /-- a heartbeat's 64-bit frame on HB_TX (Table 17-7). -/
  | heartbeat (frame : Nat)
  /-- an output pin's level. -/
  | pin (name : String) (level : Bool)
  deriving DecidableEq, Repr, Inhabited

/-! ## Weir (chapter 05) -/

/-- A bound that ends when a unit leaves: class, scheduler, requester index, domain, start, bound in ns, and whether it is
void (R100, R113). -/
structure Due where
  cls : Nat
  sch : Nat
  req : Nat
  dom : Nat
  start : Nat
  bound : Nat
  void : Bool
  deriving DecidableEq, Repr, Inhabited

/-- A unit of work queued at a scheduler (R109): a packet, a CXL response, or a tile. -/
structure WUnit where
  tag : Nat := 0
  cls : Nat
  len : Nat
  /-- bytes charged at admission that leave the backlog when the unit's transmission ends (R106). -/
  charge : Nat := 0
  pkt : Packet := {}
  out : Option Out := none
  tile : Option (Nat × Nat) := none
  /-- the bound of a PUT whose completion it carries (Table 5-1). -/
  due : Option Due := none
  /-- the scheduler whose backlog holds the charge. -/
  chargeAt : Nat := 0
  deriving DecidableEq, Repr, Inhabited

/-- One scheduler: virtual time, last tag of each flow, queued units. -/
structure Sched where
  vtime : Nat := 0
  fprev : List Nat := [0, 0, 0, 0, 0, 0, 0, 0]
  units : List WUnit := []
  deriving DecidableEq, Repr, Inhabited

/-- A gate list: (duration ns, open mask) windows (R110). -/
structure Gate where
  active : List (Nat × BitVec 8) := []
  pending : Option (List (Nat × BitVec 8)) := none
  /-- window in force. -/
  window : Nat := 0
  /-- time at which the window in force began. -/
  since : Nat := 0
  deriving DecidableEq, Repr, Inhabited

/-! ## Routing (chapter 12) -/

/-- A routing entry (R277, R278, R291). -/
structure Route where
  valid : Bool := false
  ports : BitVec 20 := 0
  alt : BitVec 20 := 0
  /-- the ordered set, ascending, and its members that have been DOWN or FAILED since it was fixed: they carry nothing
  until the next swap (R278). -/
  ordered : List Nat := []
  lost : BitVec 20 := 0
  /-- set in use: 0 primary, 1 alternate, 2 none. -/
  path : Nat := 2
  fenced : Bool := false
  unreachable : Bool := false
  draining : Bool := false
  deriving DecidableEq, Repr, Inhabited

/-- A message entry (R287): state 0 FREE, 1 OPEN, 2 REFUSED. -/
structure MsgEntry where
  state : Nat := 0
  id : Nat := 0
  count : Nat := 0
  len : Nat := 0
  /-- MSG_ID last closed; none before the first. -/
  lastId : Option Nat := none
  /-- conditions met so far, as COND bits of Table 7-9. -/
  cond : Nat := 0
  ch : Nat := 0
  sc : Nat := 0
  start : Nat := 0
  bound : Nat := 0
  void : Bool := false
  dom : Nat := 0
  charge : Nat := 0
  sch : Nat := 0
  /-- port that its first packet came in by. -/
  via : Option Nat := none
  /-- all of its bytes have been counted (R288). -/
  full : Bool := false
  /-- its tokens and its charge have been returned: a sub-page has failed the residency test (R107). -/
  returned : Bool := false
  deriving DecidableEq, Repr, Inhabited

/-- A message that a STORE PUT tile has sent and that has no CMP yet (R290). -/
structure OutMsg where
  op : Nat
  tile : Nat
  dest : Nat
  msgId : Nat
  mc : Bool
  deriving DecidableEq, Repr, Inhabited

/-! ## Faults (chapter 16) -/

/-- A fault-queue entry (Table 16-6). -/
structure FaultEntry where
  time : Nat := 0
  source : Nat
  sev : Nat
  summary : Bool := false
  cls : Nat
  count : Nat := 1
  dom : Nat := 0xFFFF
  pcode : Nat := 0
  status : Nat := 0
  handle : Nat := 0
  loc : Nat := 0
  detail : Nat := 0
  deriving DecidableEq, Repr, Inhabited

/-- An overflow slot of one class (R376). -/
structure OvfSlot where
  count : Nat
  first : FaultEntry
  last : FaultEntry
  sev : Nat
  deriving DecidableEq, Repr, Inhabited

/-- One row of a channel's row tracker, or one bank's count (R366). -/
structure Track where
  key : Nat
  count : Nat
  firstTime : Nat
  bits : List Nat := []
  lasting : Bool := false
  deriving DecidableEq, Repr, Inhabited

/-! ## DRAM and Basin (chapters 14 and 15) -/

/-- A queued DRAM request (R325). -/
structure DramReq where
  sub : Nat
  line : Nat
  write : Bool
  deadline : Nat
  row : Nat
  cls : Nat
  deriving DecidableEq, Repr, Inhabited

/-- A merge-buffer entry (R335). -/
structure MergeEntry where
  line : Nat
  mask : BitVec 64
  data : Bytes
  opened : Nat
  deriving DecidableEq, Repr, Inhabited

/-- A data access to Basin by bank group and offset, with the bits that upsets have flipped in the two
stored words since they were written (R343, R345). -/
structure BasinAccess where
  group : Nat
  offset : Nat
  upset0 : BitVec 272 := 0
  upset1 : BitVec 272 := 0
  /-- none: a read; some: the bytes written with their byte mask, and a poison code (0 none). -/
  write : Option (Bytes × BitVec 64 × Nat) := none
  /-- the path's parity failed (R360). -/
  parity : Bool := false
  deriving DecidableEq, Repr, Inhabited

/-! ## Isolation (chapter 18) -/

/-- A requester binding (R410). -/
structure Binding where
  base : Nat
  pages : Nat
  req : Nat
  dom : Nat
  rd : Bool
  wr : Bool
  deriving DecidableEq, Repr, Inhabited

/-- A key slot: 0 EMPTY, 1 PENDING, 2 ARMED (R414). -/
structure KeySlot where
  state : Nat
  key : BitVec 512
  deriving DecidableEq, Repr, Inhabited

/-- An SPDM session (R419). -/
structure Session where
  id : Nat
  via : Nat
  mutAuth : Bool
  established : Bool := false
  keyGen : Nat := 0
  deriving DecidableEq, Repr, Inhabited

/-- What NEGOTIATE_ALGORITHMS offers, by name (Table 18-2). -/
structure SpdmAlgs where
  ecdsaP256 : Bool
  sha256 : Bool
  secp256r1 : Bool
  aesGcm : Bool
  deriving DecidableEq, Repr, Inhabited

/-! ## Profiles and images (chapters 19 and 21) -/

/-- A record of a profile's REGISTERS section (Table 21-8). -/
structure RegRecord where
  page : Nat
  offset : Nat
  value : W32
  mask : W32
  deriving DecidableEq, Repr, Inhabited

/-- A stored profile (Table 21-8). A section that is missing is none. -/
structure Profile where
  version : Nat
  setFmt : Nat := 0
  moduleGb : Nat
  speed9600 : Bool := false
  /-- each section other than GATES appears exactly once and is well formed (R479). -/
  sectionsOk : Bool := true
  dirG : Nat
  scratchG : Nat
  cacheG : Nat
  /-- no timing value is tighter than the modules' SPDs allow (R321). -/
  timingOk : Bool := true
  timing : Nat := 0
  /-- the five quotas, keyed by domain × 8 + k. -/
  quotas : Tbl Nat := []
  pinLimit : Nat := 640
  regs : List RegRecord := []
  /-- (eid, primary, alternate) routes. -/
  routes : List (Nat × BitVec 20 × BitVec 20) := []
  /-- (group, base, count) and (member entry, eid). -/
  groups : List (Nat × Nat × Nat) := []
  members : List (Nat × Nat) := []
  agents : List (Nat × Nat) := []
  /-- gate lists: (port, cycle µs, windows). -/
  gates : List (Nat × Nat × List (Nat × BitVec 8)) := []
  deriving DecidableEq, Repr, Inhabited

/-- The header of an image (Table 19-2) with what the loader reads beside it. -/
structure ImageHead where
  magic : Nat
  type : Nat
  format : Nat
  setFmt : Nat
  version : Nat
  svn : Nat
  length : Nat
  nblk : Nat
  key : Nat
  rsvd : Nat
  patchLen : Nat
  baseHash : BitVec 256
  hashes : List (BitVec 256)
  sig : Bytes
  deriving DecidableEq, Repr, Inhabited

/-- A piece of an image's body or patch records (R432, R438, R439). -/
structure ImagePiece where
  bytes : Bytes
  deriving DecidableEq, Repr, Inhabited

/-- One copy of an image in flash. -/
structure ImageCopy where
  version : Nat := 0
  svn : Nat := 0
  setFmt : Nat := 0
  body : Bytes := []
  hashes : List (BitVec 256) := []
  /-- its signature verifies (R428). -/
  sigOk : Bool := true
  profile : Option Profile := none
  deriving DecidableEq, Repr, Inhabited

/-- An image type: 0 CONFIRMED, 1 UNCONFIRMED, 2 FELL_BACK, 3 INCOMPLETE, 4 ABSENT (Table 19-5). -/
structure ImageType where
  state : Nat := 4
  runB : Bool := false
  boots : Nat := 0
  a : ImageCopy := {}
  b : ImageCopy := {}
  /-- a CONFIRM copy is running (R436). -/
  copying : Bool := false
  /-- the loaded copy's security version. -/
  runSvn : Nat := 0
  deriving DecidableEq, Repr, Inhabited

/-- What COLD_START finds outside the controller: straps, modules, drives, flash, fuses, and the mailbox bindings
(channel, sender, receiver) that Holhild's firmware writes before it locks them (Table 20-4). -/
structure BootInput where
  profileSel : Nat := 0
  pairRole : Nat := 0
  sbMode : Nat := 0
  /-- module size in GB of each channel, 0 for an empty one (R320), and its temperature. -/
  modules : List Nat := List.replicate 24 64
  temps : List Nat := List.replicate 24 40
  /-- VDD_CORE settled within tolerance (R453). -/
  coreOk : Bool := true
  /-- root ports with a drive, and its frames. -/
  drives : List (Nat × Nat) := []
  /-- the images in flash, where the sender states them; otherwise flash holds what it held. -/
  flash : Option (Tbl ImageType) := none
  /-- the fuse CONF_FORCE is blown (R422). -/
  confForce : Bool := false
  mailboxes : List (Nat × Nat × Nat) := []
  deriving DecidableEq, Repr, Inhabited

/-- What a warm reset finds: the mailbox bindings that Holhild's firmware writes again (R492). -/
structure WarmInput where
  mailboxes : List (Nat × Nat × Nat) := []
  deriving DecidableEq, Repr, Inhabited

/-! ## Pair (chapter 17) -/

/-- A heartbeat or its answer (Table 17-7). -/
structure Heartbeat where
  pathB : Bool
  seq : Nat
  state : Nat
  role : Nat
  clean : Bool
  tick : Nat
  crcOk : Bool := true
  deriving DecidableEq, Repr, Inhabited

/-- A directory change from the partner (Table 17-4). -/
structure DirChange where
  line : Nat
  state : Nat
  owner : Nat
  sharers : Option (BitVec 256) := none
  data : Option (Bytes × Nat) := none
  deriving DecidableEq, Repr, Inhabited

/-! ## Reads that outside memory answers -/

/-- How a page-table read returns (R61). -/
inductive TableRead where
  | pool
  | host (line : Bytes)
  | error
  deriving DecidableEq, Repr, Inhabited

/-- How a ring read returns (R152). -/
inductive RingRead where
  | pool
  | host (entry : Bytes)
  | error
  deriving DecidableEq, Repr, Inhabited

/-- A CXL.io read that got no completion (R61, R152). -/
inductive CxlioRead where
  | walk (id : Nat)
  | ring (q : Nat)
  deriving DecidableEq, Repr, Inhabited

/-- A write to the MSI-X capability or table (R305). -/
inductive MsixWrite where
  | vector (v : Nat) (masked : Bool)
  | enable (on : Bool)
  | functionMask (on : Bool)
  | busMaster (on : Bool)
  | ltrEnable (on : Bool)
  deriving DecidableEq, Repr, Inhabited

/-- MCTP control messages (R476). -/
inductive MctpControl where
  | setEid (eid : Nat)
  | getEid
  | getTypes
  | getVersion
  | other (code : Nat)
  deriving DecidableEq, Repr, Inhabited

/-- What a patrol read decodes to (Table 17-11). -/
inductive PatrolOutcome where
  | clean
  | corrected
  | uncorrectable
  deriving DecidableEq, Repr, Inhabited

end Sys2Proof
end

