-- ==== Sys2Proof/Blocks.lean ====
section
/-!
DEFINITION. The state of each block: one structure a block, plain data, each field with the rule of spec/
that gives it. Registers that hold nothing more than their fields stand in the register file of State.
-/
namespace Sys2Proof

/-! ## Allocator (chapter 02) -/

/-- The allocator: regions, quotas, staging versions (R27, R30, R46, R50). -/
structure AllocSt where
  regions : Tbl Region := []
  /-- generation last used at each region index (R32). -/
  gens : Tbl Nat := []
  /-- accepted allocator commands that have not executed, oldest first (R38). -/
  queue : List Nat := []
  /-- quota limits and charges, keyed by domain × 8 + k, k as in Q_LIMITk (Table 2-1). -/
  limits : Tbl Nat := []
  charges : Tbl Nat := []
  staging : List Staging := []
  old : List OldVersion := []
  nextKey : Nat := 1
  /-- bytes of staging and replaced versions, keyed by key × 2^52 + PA; an unlisted byte is 0. -/
  store : Tbl Byte := []
  /-- their poisoned lines, keyed by key × 2^46 + line. -/
  storePoison : Tbl Nat := []
  deriving DecidableEq, Repr, Inhabited

/-! ## Translation (chapter 03) -/

/-- Stream translation. -/
structure XltSt where
  /-- live contexts, 128 bits each (Table 3-3). -/
  ctxs : Tbl Nat := []
  /-- leaf caches of the four clusters, oldest first; 8,192 entries a cluster (R64). -/
  leaves : List Leaf := []
  upper : List Upper := []
  walks : List Walk := []
  nextWalk : Nat := 1
  /-- tiles that each open XLT_INVAL still waits for (R69). -/
  invals : Tbl (List (Nat × Nat)) := []
  deriving DecidableEq, Repr, Inhabited

/-! ## Directory (chapter 04) -/

/-- The coherence directory and the home tracker. -/
structure DirSt where
  /-- entries by line; an unlisted line is in state U. -/
  entries : Tbl DirEntry := []
  /-- open transactions by line. -/
  trans : Tbl Tran := []
  /-- requests that wait behind an open transaction of their line, in order of arrival (R82). -/
  chain : List HomeReq := []
  /-- allocations parked because all ways of their set are open, in order (R91). -/
  overflow : List HomeReq := []
  agents : Tbl Agent := []
  /-- agents whose sweep runs (R94, R95). -/
  sweeps : List Nat := []
  /-- lines that a snoop has brought for one of the controller's own users (R78). -/
  snoops : List (Requester × Nat × Bytes × Nat) := []
  deriving DecidableEq, Repr, Inhabited

/-! ## Weir (chapter 05) -/

/-- A CXL.mem request whose credit is withheld (Table 5-9). -/
structure CxlWait where
  hpa : Nat
  write : Bool
  data : Bytes := []
  mask : BitVec 64 := 0
  poison : Bool := false
  start : Nat
  deriving DecidableEq, Repr, Inhabited

/-- Admission and scheduling. -/
structure WeirSt where
  /-- tokens missing from each bucket, in 1/1,200 B, keyed by requester × 8 + class (R104, R106). -/
  missing : Tbl Nat := []
  /-- tokens missing from every bucket of a class that is not listed, in 1/1,200 B: after a rise of its depth. -/
  lack : Tbl Nat := []
  /-- class masks by requester (Table 5-8). -/
  mask : Tbl Nat := []
  /-- bytes charged, keyed by scheduler × 8 + class (R106). -/
  backlog : Tbl Nat := []
  scheds : Tbl Sched := []
  gates : Tbl Gate := []
  /-- shadow gate lists, keyed by port × 64 + window (R111). -/
  shadow : Tbl (Nat × BitVec 8) := []
  /-- millisecond of the last BOUND event, plus one, keyed by class × 32 + scheduler (R113). -/
  lastBound : Tbl Nat := []
  /-- CXL.mem requests whose credit is withheld, oldest first. -/
  cxlHeld : List CxlWait := []
  nextTag : Nat := 0
  deriving DecidableEq, Repr, Inhabited

/-! ## Tiers (chapter 06) -/

/-- The tier manager, the Lehr and the Cistern. -/
structure TierSt where
  pages : Tbl PageRec := []
  /-- sub-page records that are not DRY: a sub-page of a staging or replaced version stands under key × 2^36 + its
  number (R46, R50). -/
  subs : Tbl SubRec := []
  moves : List Move := []
  /-- CACHE releases that run, by sub-page (R124), with the sub-page that waits for the frame, or 0. -/
  releases : Tbl Nat := []
  /-- promotions to BASIN whose background fill runs (R123). -/
  fills : List Nat := []
  /-- DRAM frames outside the DRAM system area (R120, R121), and those in use, rising. -/
  dramFrames : Nat := 0
  dramUsed : List Nat := []
  /-- grain of the frames in use, by frame; the stripe's grain follows it (R323). -/
  grains : Tbl Nat := []
  /-- frames of each drive, and those in use, coded drive × 2^28 + frame, rising. -/
  drvFrames : Tbl Nat := []
  cisUsed : List Nat := []
  /-- CACHE frames in use, rising. -/
  cacheUsed : List Nat := []
  /-- the Lehr runs until HIGH_PM (R129), and where it last stopped in the page map. -/
  lehrOn : Bool := false
  lehrPos : Nat := 0
  /-- drives whose reservation preempt is outstanding, and the commands that wait for its end, oldest first (R139). -/
  preempt : List Nat := []
  later : List (Nat × NvmeCmd) := []
  /-- direct writes and deallocates of Cistern frames, with whether each has been issued once more (R137), until the
  frame is used again. -/
  io : Tbl Bool := []
  /-- generation number in each Cistern frame's metadata entry (R135). -/
  gens : Tbl Nat := []
  /-- time from which the Lehr, and MIGRATE, may move the next sub-page (R130, R144). -/
  lehrNext : Nat := 0
  migNext : Nat := 0
  /-- drives that report the end of spin-up is awaited (R503). -/
  waking : List Nat := []
  /-- drives put to a low power state (R458). -/
  drvIdle : List Nat := []
  /-- drives whose CIS_PERST_N a soft reset of the root port holds asserted, and until when (R503). -/
  perst : Tbl Nat := []
  deriving DecidableEq, Repr, Inhabited

/-! ## Commands (chapters 07 to 10) -/

/-- A completion queue's state beside its registers (R151, R161, R164). -/
structure CqSt where
  phase : Bool := true
  /-- entries written since the last notification, and when the oldest was written. -/
  accum : Nat := 0
  oldest : Nat := 0
  deriving DecidableEq, Repr, Inhabited

/-- A record of the engine history (R368). -/
structure History where
  handle : Nat
  engines : BitVec 80
  suspect : BitVec 80
  deriving DecidableEq, Repr, Inhabited

/-- Queues, operations and tiles. -/
structure CmdSt where
  ops : Tbl Op := []
  /-- handle given last; 0 before the first (R159). -/
  lastHandle : Nat := 0
  /-- rotating pointer over queues (Table 5-13). -/
  pointer : Nat := 0
  cqs : Tbl CqSt := []
  tiles : List Tile := []
  /-- assignment and publish serial (R50). -/
  serial : Nat := 0
  /-- batch dealing position by operation: (next cluster, next core) (R230). -/
  deal : Tbl Nat := []
  history : List History := []
  /-- messages sent that have no CMP yet, and the next MSG_ID to each destination (R287, R290). -/
  sent : List OutMsg := []
  /-- messages sent whose CMP has not been received: (destination, MSG_ID) (R287). -/
  opened : List (Nat × Nat) := []
  msgNext : Tbl Nat := []
  releases : Nat := 0
  /-- queue entries read from host memory that have not returned, by queue (R152). -/
  reading : List Nat := []
  deriving DecidableEq, Repr, Inhabited

/-! ## Routing (chapter 12) -/

/-- The routing table, groups, message entries. -/
structure RouteSt where
  entries : Tbl Route := []
  /-- shadow (ports, alternate, valid) written through ENT_DATA (R294). -/
  shadow : Tbl (BitVec 20 × BitVec 20 × Bool) := []
  /-- the EID whose swap runs. -/
  swapping : Option Nat := none
  /-- groups: (base, count, valid); members: (eid, valid). -/
  groups : Tbl (Nat × Nat × Bool) := []
  members : Tbl (Nat × Bool) := []
  msgs : Tbl MsgEntry := []
  /-- packets of the controller held while their EID drains (R280, R294), oldest first. -/
  held : List WUnit := []
  deriving DecidableEq, Repr, Inhabited

/-! ## Faults (chapter 16) -/

/-- The fault queue and the lasting-fault trackers. -/
structure FaultSt where
  /-- the 4,096-entry ring by index. -/
  ring : Tbl FaultEntry := []
  tail : Nat := 0
  used : Nat := 0
  /-- events missing from each source's bucket, by SOURCE (R375). -/
  missing : Tbl Nat := []
  /-- summary counts with their severity, keyed by SOURCE × 64 + class. -/
  folded : Tbl (Nat × Nat) := []
  ovf : Tbl OvfSlot := []
  /-- FATAL entries not yet sent on channel 63, oldest first (R377). -/
  fatals : List FaultEntry := []
  /-- FATAL entries sent and ACKed but not cleared. -/
  acked : Nat := 0
  inFlight : Bool := false
  /-- correction buckets: DRAM channel 0–23, Basin group 64 + g (R365). -/
  buckets : Tbl Nat := []
  /-- row trackers by channel, bank counts by global bank (R366). -/
  rows : Tbl (List Track) := []
  banks : Tbl Track := []
  /-- lasting rows waiting for a remap, by channel, and lasting banks waiting, by group (R367). -/
  rowWait : Tbl (List Nat) := []
  bankWait : Tbl (List Nat) := []
  /-- ERROR and FATAL events so far (R402; the model's own count). -/
  errors : Nat := 0
  /-- watchdog: time of each processor's last kick (R371). -/
  kicks : List Nat := [0, 0, 0, 0, 0]
  deriving DecidableEq, Repr, Inhabited

/-! ## CXL and mailboxes (chapter 13) -/

/-- A committed HDM decoder (R306). -/
structure Decoder where
  base : Nat
  size : Nat
  dpa : Nat
  deriving DecidableEq, Repr, Inhabited

/-- A record of a CXL event log (R312): General Media (kind 1) with its DPA, or Generic (kind 0). -/
structure CxlRecord where
  handle : Nat
  kind : Nat
  arg : Nat
  time : Nat
  deriving DecidableEq, Repr, Inhabited

/-- An event log: 0 Informational, 1 Warning, 2 Failure, 3 Fatal. -/
structure CxlLog where
  records : List CxlRecord := []
  overflow : Bool := false
  lost : Nat := 0
  nextHandle : Nat := 1
  deriving DecidableEq, Repr, Inhabited

/-- The CXL port beside its registers. -/
structure CxlSt where
  decoders : Tbl Decoder := []
  /-- unmasked MSI-X vectors (PCI Express masks every vector at reset; log entry 30) and the pending-bit array
  (R305). -/
  vecOpen : List Nat := []
  pba : List Nat := []
  logs : Tbl CxlLog := []
  /-- event interrupt policy of the four logs. -/
  policy : List Nat := [0, 0, 0, 0]
  /-- timestamp set by the host and the device time at which it was set. -/
  stamp : Nat := 0
  stampAt : Option Nat := none
  /-- 1 × 16, 2 × 8, 3 × 4: width trained; rate in GT/s (Table 13-1). -/
  width : Nat := 16
  rate : Nat := 32
  /-- configuration space bytes written by the host, by offset. -/
  cfg : Tbl W32 := []
  /-- Memory_Active (R454). -/
  memActive : Bool := false
  /-- bandwidth that the CDAT reports, in MB/s: fixed at profile load (R311). -/
  bandwidth : Nat := 0
  deriving DecidableEq, Repr, Inhabited

/-- A mailbox binding (Table 13-5). -/
structure MbxBind where
  sender : Nat := 0
  receiver : Nat := 0
  valid : Bool := false
  deriving DecidableEq, Repr, Inhabited

/-- Mailbox channels beside their registers. -/
structure MbxSt where
  binds : Tbl MbxBind := [(63, { sender := 2, receiver := 1, valid := true })]
  /-- device time at which FULL became 1, by channel. -/
  since : Tbl Nat := []
  deriving DecidableEq, Repr, Inhabited

/-! ## Isolation (chapter 18) -/

/-- Bindings, keys, sessions. -/
structure SecSt where
  /-- valid binding entries by index (R410). -/
  binds : Tbl Binding := []
  /-- what an entry that is not VALID holds (Table 18-6). -/
  bindsOff : Tbl Binding := []
  /-- key slots that are not EMPTY, 0 to 1,024 (R414). -/
  keys : Tbl KeySlot := []
  sessions : List Session := []
  nextSession : Nat := 1
  /-- how far the SPDM handshake of each transport stands: 0 none, 1 version, 2 capabilities, 3 signing algorithms
  agreed, 4 those of a session too. -/
  spdm : Tbl Nat := []
  /-- measurements 1 to 8 (Table 18-3), and the firmware hash that the Alias key was derived from (R420). -/
  measured : List (BitVec 256) := []
  aliasOf : BitVec 256 := 0
  /-- number of Holhild's nonce for the next DEBUG_UNLOCK (R421). -/
  nonceNo : Nat := 0
  /-- fuses: CONF_FORCE, debug lifecycle. -/
  confForce : Bool := false
  /-- CONF.ENABLE takes effect at this capture boundary (R473). -/
  confNext : Bool := false
  deriving DecidableEq, Repr, Inhabited

/-! ## DRAM and Basin (chapters 14 and 15) -/

/-- The DRAM channels beside their registers. -/
structure DramSt where
  /-- queued requests by channel (R325). -/
  queue : Tbl (List DramReq) := []
  /-- merge buffers by channel, oldest first (R335). -/
  merge : Tbl (List MergeEntry) := []
  /-- remap slots by channel × 4,096 + slot: the key (R337). -/
  remap : Tbl Nat := []
  /-- the copy that runs on each channel: (slot, key, by the controller itself). -/
  copying : Tbl (Nat × Nat × Bool) := []
  /-- refresh debt by channel × 2 + subchannel (R326). -/
  refDue : Tbl Nat := []
  /-- open row of each bank, by channel × 256 + bank, plus one. -/
  open_ : Tbl Nat := []
  /-- write drain runs, by channel × 2 + subchannel (R325). -/
  drain : Tbl Bool := []
  /-- live and shadow delay words, by (channel × 4 + rank × 2 + SC) × 128 + word (R331). -/
  delay : Tbl Nat := []
  shadow : Tbl Nat := []
  /-- subchannels, channel × 2 + SC, whose next refresh installs the shadow set (R331). -/
  apply : List Nat := []
  /-- rows in the remapped-row list that both flash devices hold, by channel (R339). -/
  rows : Tbl (List Nat) := []
  /-- number of the timing set in force (R321). -/
  timing : Nat := 0
  /-- rows repaired by PPR, by channel (R339). -/
  ppr : Tbl (List Nat) := []
  deriving DecidableEq, Repr, Inhabited

/-- The Basin bank groups beside their registers. -/
structure BasinSt where
  /-- substitution running by group: (failing bank, reserve bank, lines copied). -/
  subst : Tbl (Nat × Nat × Nat) := []
  /-- reinstatement test running by group: bank. -/
  test : Tbl Nat := []
  /-- columns left from fuses by global bank, where not 32. -/
  cols : Tbl Nat := []
  /-- global banks that entered service from the reserve (R367). -/
  entered : List Nat := []
  /-- bytes and marks of the lines that hold no valid line of a CACHE frame, by group × 2^26 + offset. -/
  data : Tbl Byte := []
  mark : Tbl Nat := []
  deriving DecidableEq, Repr, Inhabited

/-! ## Supplies, clocks, reset (chapter 20) -/

/-- Power state beside its registers. -/
structure PwrSt where
  /-- stated tolerance in ns by domain; an unlisted domain states none (R457). -/
  tol : Tbl Nat := []
  /-- held in reset: 0 nothing, 1 the whole controller, 2 everything but the management domain (R453). -/
  held : Nat := 1
  /-- the pin THERMTRIP_N is asserted (R461). -/
  tripped : Bool := false
  /-- VDD_AON is valid (R444). -/
  aon : Bool := true
  /-- the rail order was broken: held until VDD_AON is removed (R444). -/
  order : Bool := false
  /-- the cold reset came from PERST_N alone: straps stay as latched (R451). -/
  perst : Bool := false
  /-- warm reset: 0 none, 1 waits for the end of a handover, 2 steps 1 to 4 of Table 20-5 run; and its input. -/
  warm : Nat := 0
  warmIn : WarmInput := {}
  deriving DecidableEq, Repr, Inhabited

/-! ## Counters and sideband (chapter 21) -/

/-- One captured record: page, NUM, ACCESS, DOMAIN, and the 48-bit counters that are not zero (Table 21-4). -/
structure CapRecord where
  page : Nat
  num : Nat
  acc : Nat
  dom : Nat
  vals : Tbl Nat
  deriving DecidableEq, Repr, Inhabited

/-- A counter snapshot (Table 21-4). -/
structure Snapshot where
  gen : Nat
  time : Nat
  coarse : Bool
  restart : Bool
  recs : List CapRecord
  deriving DecidableEq, Repr, Inhabited

/-- The counter reader. -/
structure CtrSt where
  /-- the 64 slots by number (R470). -/
  slots : Tbl Snapshot := []
  /-- generations taken. -/
  gen : Nat := 0
  /-- the next capture follows a management-plane restart. -/
  restart : Bool := false
  /-- latched bits [47:32], keyed identity × 4,096 + page (R467). -/
  latch : Tbl Nat := []
  deriving DecidableEq, Repr, Inhabited

/-- The sideband endpoint (R476, R477). -/
structure SideSt where
  /-- MCTP EID, and the event receiver's. -/
  eid : Nat := 0
  receiver : Option Nat := none
  deriving DecidableEq, Repr, Inhabited

/-! ## Link (chapter 11) -/

/-- The link layer of one port beside its registers. -/
structure LinkPort where
  /-- FSEQ of the next new PAYLOAD flit, and EXPECTED (R257). -/
  next : Nat := 0
  expected : Nat := 0
  /-- flits kept until an ACK covers them, oldest first (R258, R262). -/
  kept : List Kept := []
  /-- time of the last ACK that advanced, or of the first flit kept after none was. -/
  ackAt : Nat := 0
  /-- a REPLAY_REQ is outstanding (R257). -/
  reqOut : Bool := false
  /-- FSEQ to retransmit next. -/
  replay : Option Nat := none
  /-- FSEQ at which the last replay began, and when. -/
  lastReplay : Option (Nat × Nat) := none
  /-- FSEQ whose replays are counted, and their number (R260). -/
  replaySeq : Nat := 0
  replays : Nat := 0
  /-- link messages to send, those that await an answer, and those received and not yet acted on (R250). -/
  ctl : List LinkMsg := []
  awaiting : List LinkMsg := []
  inbox : List LinkMsg := []
  /-- slots received of a packet that is not yet whole. -/
  part : Bytes := []
  /-- slots of the first unit in LinkSt.tx that flits already carry. -/
  sent : Nat := 0
  /-- buffer whose count the next flit header carries (R255). -/
  rotation : Nat := 0
  /-- failed training attempts in a row (R270). -/
  attempts : Nat := 0
  /-- what the peer's LINK_ID said in this attempt: (EID, width, lanes). -/
  peer : Option (Nat × Nat × Nat) := none
  /-- buffers whose CREDIT_INIT has come in this attempt, and whether one of them fails it. -/
  inits : List Nat := []
  bad : Bool := false
  /-- lanes trained in each direction. -/
  lanesTx : BitVec 9 := 0x1FF
  lanesRx : BitVec 9 := 0x1FF
  /-- lanes that have crossed their threshold (R264, R266). -/
  crossed : BitVec 9 := 0
  /-- corrected bytes by lane: (count, start of the window). -/
  corrections : Tbl (Nat × Nat) := []
  /-- threshold crossings that wait for a change in progress (Table 11-11): (transmit, lane). -/
  waiting : List (Bool × Nat) := []
  /-- a swap of the transmit direction runs: the lane, and SWAP_MARKs left to send. -/
  swapTx : Option (Nat × Nat) := none
  /-- a swap of the receive direction: the lane, and IDLE flits accepted on the new map. -/
  swapRx : Option (Nat × Option Nat) := none
  /-- the physical lane that carries each logical lane, 0–7, in each direction (R264, R266). -/
  txLanes : List Nat := [0, 1, 2, 3, 4, 5, 6, 7]
  rxLanes : List Nat := [0, 1, 2, 3, 4, 5, 6, 7]
  /-- width that this end has requested, as LINK_CTL.WIDTH_MAX encodes it. -/
  widthTo : Option Nat := none
  /-- power state that this end has requested. -/
  pwrTo : Option Nat := none
  /-- low power state that this end has granted to the peer and not yet entered. -/
  granted : Option Nat := none
  /-- EN was cleared on the FAILED port and may be set again (R382). -/
  recovering : Bool := false
  /-- time of the last packet (R458). -/
  busyAt : Nat := 0
  deriving DecidableEq, Repr, Inhabited

/-- The fabric and mirror ports: F0–F19 are 0–19, M0–M1 20–21; 22 is the controller's own delivery. -/
structure LinkSt where
  ports : Tbl LinkPort := []
  /-- packets received whole and not yet taken, oldest first. -/
  rx : Tbl (List RxPkt) := []
  /-- freed counts of the receive buffers, keyed port × 16 + channel (R255). -/
  freedRx : Tbl Nat := []
  /-- the peer's buffers: LIMIT, SENT and FREED, keyed port × 16 + channel (R254). -/
  limitTx : Tbl Nat := []
  sentTx : Tbl Nat := []
  freedTx : Tbl Nat := []
  /-- units started at the scheduler and not yet wholly in flits, oldest first, by port. -/
  tx : Tbl (List WUnit) := []
  /-- ports past their replay limit that have not since delivered a packet without replay (Table 5-2). -/
  overLimit : List Nat := []
  deriving DecidableEq, Repr, Inhabited

/-! ## Pair (chapter 17) -/

/-- What waits for a MACK (Table 17-5). -/
inductive MackFor where
  | tran (line : Nat)
  | msg (entry : Nat)
  | tile (op num : Nat)
  | take (h : Nat)
  | demote (sub : Nat)
  | dealloc (frame : Nat)
  | atomic
  deriving DecidableEq, Repr, Inhabited

/-- A mirror write that waits for a frame: its tag, whether a directory packet brought it, and what it writes. -/
structure MirrorWrite where
  tag : Nat
  dir : Bool
  pa : Nat
  data : Bytes
  mask : Option (BitVec 64)
  pcode : Nat
  deriving DecidableEq, Repr, Inhabited

/-- What an MDIR packet changes (Table 17-5): a line's directory entry, an agent's fence state, a queue whose entry was
taken, or a sub-page that enters CISTERN in a frame or leaves it. -/
inductive MirrorChange where
  | line (c : DirChange)
  | fence (agent : Nat) (timedOut : Bool)
  | taken (queue head opcode handle : Nat)
  | cistern (sub : Nat) (frame : Option Nat)
  deriving DecidableEq, Repr, Inhabited

/-- The pair supervisor beside its registers. -/
structure PairSt where
  /-- outstanding MACKs: (packet tag, directory channel, what waits). -/
  macks : List (Nat × Bool × MackFor) := []
  nextTag : Nat := 0
  /-- mirror writes received and not yet applied, oldest first: the mirror staging of Table 6-2. -/
  staged : List MirrorWrite := []
  /-- while the partner resynchronises: the sub-pages yet to be copied (R404). -/
  sync : Option (List Nat) := none
  /-- MWR and MDIR messages that the partner has not acknowledged, with the port that carries each (R388). -/
  unacked : List (Nat × RunMsg) := []
  /-- this PRIMARY has begun a return: its ports come into service (R406). -/
  returning : Bool := false
  /-- the frame audit of a takeover runs (Table 17-8). -/
  audit : Bool := false
  /-- ticks closed (R391). -/
  tick : Nat := 0
  /-- good heartbeats in a row on each path, and since when both paths are good (R394). -/
  goodA : Nat := 0
  goodB : Nat := 0
  since : Option Nat := none
  /-- SEQ of the last heartbeat sent (R393). -/
  seq : Nat := 0
  /-- this controller has served since it was last outside the pair's serving states: it sends heartbeats. -/
  beats : Bool := false
  /-- start-up has reached the pair decision and BOOT_WAIT runs (Table 17-2). -/
  booting : Bool := false
  /-- a serving controller has recognised failure (R396), and it fenced itself. -/
  recognised : Bool := false
  fencedSelf : Bool := false
  /-- the handover pause runs (R406), and its final tick has closed. -/
  pause : Bool := false
  finalTick : Bool := false
  /-- it has taken over: redeliveries are answered (R398). -/
  took : Bool := false
  /-- sub-pages with data in regions that are not mirrored, as the last delta gives them (Table 17-8). -/
  held : List Nat := []
  /-- fault-queue entries that the last delta carried. -/
  ring : Tbl FaultEntry := []
  /-- self-tests that failed since the last report, and the errors counted at it (R400, R402). -/
  fails : BitVec 4 := 0
  errSeen : Nat := 0
  /-- next engine and next bank of the self-test rotation (Table 17-11). -/
  nextEng : Nat := 0
  nextBank : Nat := 0
  deriving DecidableEq, Repr, Inhabited

/-! ## Firmware (chapter 19) -/

/-- Flash images and the update that runs. -/
structure FwSt where
  /-- image types 0x00–0x0B (Table 19-1); a profile is type 8 + n. -/
  types : Tbl ImageType := []
  /-- PLDM firmware-update state: 0 idle, 1 learning components, 2 ready for transfer, 3 download, 4 waiting to
  activate. -/
  phase : Nat := 0
  /-- the image that is being received, and what of its body has been checked and of the block that fills. -/
  head : Option ImageHead := none
  body : Bytes := []
  part : Bytes := []
  blocks : Nat := 0
  /-- bytes of patch records received (R438). -/
  patched : Nat := 0
  /-- image types that took effect and have not been confirmed, with the device time; a FATAL event or the retirement
  of a control processor removes them (R436). -/
  since : Tbl Nat := []
  /-- the type and time of the last ACTION of FWU.CMD that was accepted (Table 19-4). -/
  acted : Option (Nat × Nat) := none
  /-- settings format of the OLD area, and of the NEW area while an unconfirmed image runs on it (R437). -/
  setOld : Nat := 0
  setNew : Option Nat := none
  /-- minimum security version by type (R429). -/
  minSvn : Tbl Nat := []
  deriving DecidableEq, Repr, Inhabited

/-! ## What crosses the Runnel (chapter 17) -/

/-- The slower state of Table 17-6. -/
structure Slow where
  alloc : AllocSt := {}
  ctxs : Tbl Nat := []
  weir : WeirSt := {}
  tier : TierSt := {}
  cmd : CmdSt := {}
  route : RouteSt := {}
  agents : Tbl Agent := []
  fault : FaultSt := {}
  /-- registers of the pages that Table 17-6 names: XLT, WEIR and CMDQ. -/
  regs : Tbl W32 := []
  /-- key slots that the sender's Holhild has sent under the Holhilds' session (R417). -/
  keys : Tbl KeySlot := []
  deriving DecidableEq, Repr, Inhabited

/-- What a DELTA message carries (R391, R404). -/
inductive TickDelta where
  /-- part of a tick's delta. -/
  | part
  /-- the last part: the changes, here as the owners' state after them. -/
  | whole (slow : Slow)
  /-- a sub-page of a mirrored region, with its poisoned lines. -/
  | copy (sub : Nat) (data : Bytes) (poison : List (Nat × Nat))
  /-- directory entries of the resynchronisation. -/
  | dir (entries : Tbl DirEntry)
  deriving DecidableEq, Repr, Inhabited

/-- What RELAY carries (R403). -/
inductive Relayed where
  | packet (pkt : Packet)
  | cxlRead (hpa : Nat)
  | cxlWrite (hpa : Nat) (data : Bytes) (mask : BitVec 64) (poison : Bool)
  deriving DecidableEq, Repr, Inhabited

end Sys2Proof
end

