-- ==== Sys2Proof/Syntax.lean ====
section
/-!
DEFINITION. The commands of the QP-24: one constructor for each row of spec/opcode_table.json, in its order,
with the operands that the rule of its row needs. `id` is the master identity that makes a register access
(R15, R79, R487); `port` the port a packet arrived on; `h` an operation handle (R159).
-/
namespace Sys2Proof

/-- A command or event of the block. -/
inductive Instr where
  /-- REGISTER_WRITE (R7). A write to a register field that has no behaviour of its own sets it according to its access code, with reserved encodings, identity checks and locks applied. -/
  | registerWrite (id : Nat) (addr : Nat) (size : Nat) (value : BitVec 64)
  /-- ALLOC (R30). The allocator creates a region with the given size, maximum and attributes after checking quotas, attribute combinations and address space. -/
  | alloc (h : Nat)
  /-- FREE (R42). The allocator marks a region FREEING and refuses new access to it, with or without FORCE. -/
  | free (h : Nat)
  /-- FREE_COMPLETE (R44). Once earlier operations are done, FREE recalls the region's lines, invalidates its translations, returns its units and completes. -/
  | freeComplete (h : Nat)
  /-- RESIZE (R41). The allocator grows or shrinks a region within its maximum size, subject to quota. -/
  | resize (h : Nat)
  /-- RESIZE_SHRINK_COMPLETE (R44). A shrinking RESIZE completes after the removed pages are recalled, invalidated and returned to the Cullet. -/
  | resizeShrinkComplete (h : Nat)
  /-- RESIZE_GROW_RESUME (R515). A growing RESIZE that waited for an earlier shrink executes once that shrink completes, checking quotas at that moment. -/
  | resizeGrowResume (h : Nat)
  /-- SET_ATTR (R41). The allocator changes the masked changeable attributes of a region, refusing forbidden combinations. -/
  | setAttr (h : Nat)
  /-- SET_ATTR_COMPLETE (R41). A SET_ATTR that waits for recalls, promotions or a partner copy completes once that work ends. -/
  | setAttrComplete (h : Nat)
  /-- PIN (R132). The allocator pins a region in DRAM or Basin after checking pin quotas and the Basin pin limit. -/
  | pin (h : Nat)
  /-- PIN_COMPLETE (R41). PIN completes when every sub-page is materialised and resident in the target tier. -/
  | pinComplete (h : Nat)
  /-- UNPIN (R132). The allocator returns a region to TIERED residency without moving data. -/
  | unpin (h : Nat)
  /-- PUBLISH (R48). The home compares EXPECTED with the current version and either installs the publisher's staging version or discards it with CONFLICT. -/
  | publish (h : Nat)
  /-- VERSION_UNITS_RELEASE (R50). The backing units of a replaced version return to the Cullet once every tile assigned before the PUBLISH has committed. -/
  | versionUnitsRelease (region : Nat) (version : Nat)
  /-- XLT_INVAL (R66). The controller removes matching translations in all clusters for a range, a context or all contexts. -/
  | xltInval (h : Nat)
  /-- XLT_INVAL_COMPLETE (R69). XLT_INVAL completes once matching entries are gone, walks are discarded and affected tiles have committed or failed. -/
  | xltInvalComplete (h : Nat)
  /-- CTX_IDX_WRITE (R497). A write of XLT.CTX_IDX loads the writing identity's staging words from the live context. -/
  | ctxIdxWrite (id : Nat) (value : W32)
  /-- CTX_DATA3_WRITE (R497). A write of XLT.CTX_DATA3 installs all four staging words in the context in one cycle. -/
  | ctxData3Write (id : Nat) (value : W32)
  /-- TRANSLATION_PREFETCH (R65). A core sequencer starts walks so that translations are ready for up to PF_DEPTH of its next tiles. -/
  | translationPrefetch (core : Nat)
  /-- WALK_ENTRY_READ (R59). A page-table entry read returns, and the walker checks it and either faults, finds a leaf or reads the next level. -/
  | walkEntryRead (walk : Nat) (read : TableRead)
  /-- RD_SHARED (R86). The home serves a request for a shareable copy of a line by its directory state. -/
  | rdShared (port : Nat) (pkt : Packet)
  /-- RD_OWN (R86). The home serves a read for ownership, invalidating other holders. -/
  | rdOwn (port : Nat) (pkt : Packet)
  /-- UPGRADE (R86). The home grants ownership of a line the requester already holds, or serves it as RD_OWN. -/
  | upgrade (port : Nat) (pkt : Packet)
  /-- RD_ONCE (R86). The home returns line data without granting any state, snooping an owner if needed. -/
  | rdOnce (port : Nat) (pkt : Packet)
  /-- WR_ONCE (R86). The home invalidates holders, pulls the write data with WR_PULL and writes the line without caching. -/
  | wrOnce (port : Nat) (pkt : Packet)
  /-- WR_DATA (R86). The home merges WR_ONCE data under its byte mask and sends CMP. -/
  | wrData (port : Nat) (pkt : Packet)
  /-- WB_DIRTY (R86). The home absorbs an owner's dirty write-back, updates the line state and sends WB_ACK. -/
  | wbDirty (port : Nat) (pkt : Packet)
  /-- EVICT (R86). The home absorbs a clean holder's drop of a line and clears its sharer bit. -/
  | evict (port : Nat) (pkt : Packet)
  /-- ACK_SHR (R87). The home absorbs a holder's answer that it kept a clean shared copy. -/
  | ackShr (port : Nat) (pkt : Packet)
  /-- ACK_INV (R87). The home absorbs a holder's answer that it invalidated a clean line. -/
  | ackInv (port : Nat) (pkt : Packet)
  /-- ACK_MISS (R88). The home absorbs a not-held answer, waiting on a pending write-back or poisoning a lost owner's line. -/
  | ackMiss (port : Nat) (pkt : Packet)
  /-- ACK_CLEAN (R87). The home absorbs a holder's answer that no snapshot data is needed. -/
  | ackClean (port : Nat) (pkt : Packet)
  /-- HOLD_DATA (R87). The home absorbs a holder's dirty data in answer to a FWD and completes the waiting transaction. -/
  | holdData (port : Nat) (pkt : Packet)
  /-- TRANSACTION_CLOSE (R85). When a transaction's last home-side action ends, the next request in the line's pending chain is served. -/
  | transactionClose (line : Nat)
  /-- RECALL_TIMEOUT (R93). A FWD unanswered within LIMIT_US fences the holder, poisons its dirty line and completes the transaction. -/
  | recallTimeout (line : Nat) (agent : Nat)
  /-- DIRECTORY_SWEEP_DONE (R94). The sweep after a fence has covered every directory entry, so SWEEP_DONE is set and an INFO event is recorded. -/
  | directorySweepDone (agent : Nat)
  /-- AGENT_DATA_WRITE (R79). A write of DIR.AGENT_DATA changes an agent-table entry only if the entry is invalid or fenced and swept. -/
  | agentDataWrite (id : Nat) (value : W32)
  /-- AGENT_FENCE (R95). DIR.AGENT_CMD FENCE fences a live agent and starts a sweep that recalls its lines. -/
  | agentFence (id : Nat) (agent : Nat)
  /-- AGENT_UNFENCE (R95). DIR.AGENT_CMD UNFENCE clears an agent's fence once its sweep is done. -/
  | agentUnfence (id : Nat) (agent : Nat)
  /-- SCHEDULER_START_UNIT (R109). A port or cluster scheduler starts the eligible unit with the smallest finish tag. -/
  | schedulerStartUnit (sched : Nat)
  /-- GATE_COMMIT (R111). A write of GATE_CTL.COMMIT checks the shadow gate list and accepts or refuses it. -/
  | gateCommit (id : Nat) (port : Nat) (value : W32)
  /-- GATE_CYCLE_START (R111). At a gate cycle start an accepted pending gate list takes effect. -/
  | gateCycleStart (port : Nat)
  /-- GATE_WINDOW_BOUNDARY (R110). At the end of a gate window the next window's class mask applies. -/
  | gateWindowBoundary (port : Nat)
  /-- TILE_ADMISSION_RETRY (R107). A tile refused by the bucket or backlog test retries admission at its sequencer each cycle. -/
  | tileAdmissionRetry (op : Nat) (tile : Nat)
  /-- CACHE_FILL_DONE (R123). The background fill of a newly allocated CACHE frame completes. -/
  | cacheFillDone (sub : Nat)
  /-- CACHE_RELEASE_DONE (R124). The copy of a released CACHE frame's dirty lines ends, the frame is freed and the sub-page returns to DRAM. -/
  | cacheReleaseDone (sub : Nat)
  /-- EPOCH_END (R126). At the end of each epoch every page access count is halved and touched bits shift to the previous-epoch copy. -/
  | epochEnd
  /-- CISTERN_PROMOTION_DONE (R136). An NVMe read of a Cistern frame completes, its CRCs and tag are checked and the sub-page enters DRAM. -/
  | cisternPromotionDone (sub : Nat) (failed : BitVec 16)
  /-- LEHR_DEMOTE_START (R129). The Lehr selects an eligible cold sub-page and starts writing it to a Cistern drive when DRAM frames run low. -/
  | lehrDemoteStart
  /-- LEHR_DEMOTION_COMMIT (R129). A demotion commits when the drive completes the data and metadata writes, and the DRAM frame is freed. -/
  | lehrDemotionCommit (sub : Nat)
  /-- NVME_CMD_TIMEOUT (R137). An NVMe command not completed in time is aborted and reissued once, then fails the drive. -/
  | nvmeCmdTimeout (drive : Nat) (sub : Nat)
  /-- DRIVE_FAILURE (R137). A drive that reports a fatal status or drops its link is set FAILED and its sub-pages are poisoned DRIVE_LOST. -/
  | driveFailure (drive : Nat)
  /-- RESERVATION_PREEMPT_DONE (R139). A drive completes the Reservation Acquire Preempt, so the new active may issue other commands to it. -/
  | reservationPreemptDone (drive : Nat)
  /-- CISTERN_ENABLE (R142). A write of CIS.CFG.EN brings up the drives and serves Cistern, or holds them in reset. -/
  | cisternEnable (id : Nat) (value : W32)
  /-- MIGRATE (R143). The controller checks a MIGRATE command and starts moving the range's sub-pages to a tier or grain. -/
  | migrate (h : Nat)
  /-- MIGRATE_MOVE_DONE (R144). One sub-page move of a MIGRATE completes and the next sub-page is taken, or the command completes. -/
  | migrateMoveDone (h : Nat)
  /-- SQ_DOORBELL (R149). A write of SQ_TAIL from the queue's owner publishes new entries in the submission ring. -/
  | sqDoorbell (id : Nat) (q : Nat) (value : W32)
  /-- DOORBELL_PACKET (R149). A fabric DOORBELL packet from an accelerator sets a queue's tail under the owner check. -/
  | doorbellPacket (port : Nat) (pkt : Packet)
  /-- TAKE_ENTRY (R151). A control processor takes the head entry of a queue, reserves a completion slot and gives it a handle. -/
  | takeEntry (q : Nat) (read : RingRead)
  /-- SQ_CFG_WRITE (R148). A write of SQ_CFG enables or disables a submission queue, resetting HEAD and TAIL on enable. -/
  | sqCfgWrite (id : Nat) (q : Nat) (value : W32)
  /-- CQ_CFG_WRITE (R152). A write of CQ_CFG enables a completion queue or, on clearing EN, cancels its reservations. -/
  | cqCfgWrite (id : Nat) (q : Nat) (value : W32)
  /-- CQ_HEAD_WRITE (R151). The consumer's write of CQ_HEAD frees completion slots for held queues. -/
  | cqHeadWrite (id : Nat) (q : Nat) (value : W32)
  /-- STREAM (R157). A STREAM command is accepted and its descriptor is fetched and checked before any tile. -/
  | stream (h : Nat)
  /-- DESCRIPTOR_FETCH_DONE (R155). The stream descriptor read returns and is checked, and the operation arms or completes. -/
  | descriptorFetchDone (h : Nat)
  /-- UPDATE_BLOCK_FETCH_DONE (R205). The UPDATE parameter block read returns and its coefficients are computed, or the operation fails. -/
  | updateBlockFetchDone (h : Nat)
  /-- SUSPEND (R166). SUSPEND stops tile assignment for a target operation. -/
  | suspend (h : Nat)
  /-- OPERATION_SUSPENDED (R166). Once a suspending operation's tiles have drained, its frontier is recorded and a SUSPENDED completion is written. -/
  | operationSuspended (h : Nat)
  /-- RESUME (R167). RESUME reserves a completion slot and re-admits a suspended operation from its frontier. -/
  | resume (h : Nat)
  /-- CANCEL (R168). CANCEL stops assignment, discards tiles not yet writing and ends the target with PARTIAL. -/
  | cancel (h : Nat)
  /-- FENCE (R172). FENCE holds its queue until earlier operations of the queue or domain have written completions. -/
  | fence (h : Nat)
  /-- FENCE_COMPLETE (R172). A FENCE completes when every operation it waits for has written a completion. -/
  | fenceComplete (h : Nat)
  /-- OPERATION_COMPLETE (R161). When an operation's last work ends, its final completion entry is written and any notification raised. -/
  | operationComplete (h : Nat)
  /-- NOTIFY_COAL_TIMEOUT (R164). COAL_US after the oldest unnotified entry the completion queue raises a notification. -/
  | notifyCoalTimeout (cq : Nat)
  /-- BATCH_DEAL (R230). A cluster deals a batch of 16 consecutive tiles of an operation to an asking core. -/
  | batchDeal (cluster : Nat)
  /-- TILE_ASSIGN (R232). A sequencer assigns a translated tile to the lowest-numbered free engine of its core. -/
  | tileAssign (core : Nat)
  /-- TILE_COMMIT (R23). A tile's sink write and deferred state writes take effect together and the tile counts as committed. -/
  | tileCommit (op : Nat) (tile : Nat)
  /-- FETCH_RANGE (R191). The source station reads a contiguous or strided tile in its format. -/
  | fetchRange (op : Nat) (tile : Nat)
  /-- FETCH_GATHER (R191). The source station gathers table rows named by an index list into a tile. -/
  | fetchGather (op : Nat) (tile : Nat)
  /-- FETCH_SPARSE (R191). The source station reads a sparse header and only the stored blocks of its body. -/
  | fetchSparse (op : Nat) (tile : Nat)
  /-- FILL_CONST (R193). The source station writes one constant value to every element. -/
  | fillConst (op : Nat) (tile : Nat)
  /-- FILL_PATTERN (R193). The source station repeats an 8-byte pattern through the tile. -/
  | fillPattern (op : Nat) (tile : Nat)
  /-- FILL_RAMP (R193). The source station writes START plus stream index times STEP to each element. -/
  | fillRamp (op : Nat) (tile : Nat)
  /-- EXPAND (R194). The station places stored blocks at their groups and decompresses N:M blocks into a dense tile. -/
  | expand (op : Nat) (tile : Nat)
  /-- CONVERT (R195). The Marver scales and converts every element to the target format, including MX scaling. -/
  | convert (op : Nat) (tile : Nat)
  /-- SELECT_MASK (R198). The station replaces elements failing the predicate with +0 and clears empty groups. -/
  | selectMask (op : Nat) (tile : Nat)
  /-- SELECT_TOPK (R199). The station replaces each row with its K highest-ranked PAIR records. -/
  | selectTopk (op : Nat) (tile : Nat)
  /-- SELECT_ROUTE (R200). The station sends each row to the outputs named by its route records. -/
  | selectRoute (op : Nat) (tile : Nat)
  /-- COMBINE_ADD (R201). The station adds the B stream to the tile. -/
  | combineAdd (op : Nat) (tile : Nat)
  /-- COMBINE_SUB (R201). The station subtracts the B stream from the tile. -/
  | combineSub (op : Nat) (tile : Nat)
  /-- COMBINE_MUL (R201). The station multiplies the tile by the B stream. -/
  | combineMul (op : Nat) (tile : Nat)
  /-- COMBINE_MAX (R201). The station takes the element-wise maximum of tile and B. -/
  | combineMax (op : Nat) (tile : Nat)
  /-- COMBINE_MIN (R201). The station takes the element-wise minimum of tile and B. -/
  | combineMin (op : Nat) (tile : Nat)
  /-- COMBINE_FMA (R201). The station computes A times S plus B for each element. -/
  | combineFma (op : Nat) (tile : Nat)
  /-- COMBINE_SCALE (R201). The station multiplies each element by S without reading B. -/
  | combineScale (op : Nat) (tile : Nat)
  /-- REDUCE_ACCUM (R203). The station folds the tile indivisibly into its accumulator tile by SUM, MAX or MIN. -/
  | reduceAccum (op : Nat) (tile : Nat)
  /-- REDUCE_GROUP (R202). The station folds each run of L consecutive rows into one row. -/
  | reduceGroup (op : Nat) (tile : Nat)
  /-- UPDATE_SGDM (R206). The station applies an SGD-with-momentum step to weights and momentum. -/
  | updateSgdm (op : Nat) (tile : Nat)
  /-- UPDATE_ADAMW (R206). The station applies an AdamW step to weights and both moments. -/
  | updateAdamw (op : Nat) (tile : Nat)
  /-- UPDATE_TABLE (R206). The station applies the optimizer step with coefficients taken from the parameter block. -/
  | updateTable (op : Nat) (tile : Nat)
  /-- COMPACT (R208). The station drops below-threshold groups and optionally prunes to N:M, producing a sparse tile. -/
  | compact (op : Nat) (tile : Nat)
  /-- CHECK (R209). The station applies NaN, infinity, range and residue tests and marks a failing tile SUSPECT. -/
  | check (op : Nat) (tile : Nat)
  /-- COMPARE_BITWISE (R210). The station compares the tile bit for bit with tile i of B and writes a summary. -/
  | compareBitwise (op : Nat) (tile : Nat)
  /-- COMPARE_TOL (R210). The station compares the tile with B within absolute and relative tolerance and writes a summary. -/
  | compareTol (op : Nat) (tile : Nat)
  /-- STORE_RANGE (R211). The sink writes the tile to a contiguous or strided range. -/
  | storeRange (op : Nat) (tile : Nat)
  /-- STORE_SCATTER (R211). The sink writes each row to the table row named by the index list. -/
  | storeScatter (op : Nat) (tile : Nat)
  /-- STORE_SPARSE (R211). The sink writes a sparse header and the stored blocks, in slot or packed layout. -/
  | storeSparse (op : Nat) (tile : Nat)
  /-- STORE_PUT (R211). The sink sends the tile as PUT messages to an endpoint or multicast group. -/
  | storePut (op : Nat) (tile : Nat)
  /-- STORE_ROUTED (R212). The sink reserves slots by cursor adds and writes routed rows and records to output buffers. -/
  | storeRouted (op : Nat) (tile : Nat)
  /-- STORE_NULL (R211). The sink writes nothing. -/
  | storeNull (op : Nat) (tile : Nat)
  /-- REDUCTION_COMPLETE (R224). When contributor and byte counts close, STATE becomes COMPLETE and the final completion is written. -/
  | reductionComplete (h : Nat)
  /-- RESERVE_POWER_UP (R239). Two microseconds after retirement the reserve core leaves power gating. -/
  | reservePowerUp (cluster : Nat)
  /-- RESERVE_GOLDEN_TILE_DONE (R240). The reserve core's golden tiles finish, and it takes over or is itself retired. -/
  | reserveGoldenTileDone (cluster : Nat) (pass : Bool)
  /-- FLIT_RECEIVE (R257). A flit is decoded, its ACK and credit count applied, and a PAYLOAD flit is accepted, discarded as duplicate or treated as a gap. -/
  | flitReceive (port : Nat) (bytes : List Byte)
  /-- FLIT_TRANSMIT (R251). In each flit period the transmitter sends a CONTROL flit, a retransmission, a new PAYLOAD flit or an IDLE flit. -/
  | flitTransmit (port : Nat)
  /-- REPLAY_REQ (R258). On REPLAY_REQ the sender retransmits every kept flit from the named sequence number. -/
  | replayReq (port : Nat) (seq : Nat)
  /-- ACK_TIMEOUT (R258). When no ACK advances for ACK_TIMEOUT_NS the sender replays from its oldest kept flit. -/
  | ackTimeout (port : Nat)
  /-- REPLAY_REQ_TIMEOUT (R257). An outstanding REPLAY_REQ is sent again if the expected flit is not accepted in time. -/
  | replayReqTimeout (port : Nat)
  /-- LINK_MSG_REPEAT (R250). A link message awaiting an answer is sent again every microsecond. -/
  | linkMsgRepeat (port : Nat)
  /-- CREDIT_INIT (R253). The peer's receive buffer size is taken as the credit limit for that buffer. -/
  | creditInit (port : Nat) (buf : Nat) (size : Nat)
  /-- LINK_ID (R269). The peer's EID, width and trained lanes are recorded for tie-breaks and status. -/
  | linkId (port : Nat) (eid : Nat) (width : Nat) (lanes : Nat)
  /-- LANE_THRESHOLD_CROSSED (R264). A lane's corrections or loss of lock cross its threshold, starting a swap or a width change. -/
  | laneThresholdCrossed (port : Nat) (tx : Bool) (lane : Nat)
  /-- SWAP_REQ (R264). The transmitter receives a request to move a logical lane onto the reserve and sends SWAP_MARK. -/
  | swapReq (port : Nat) (lane : Nat)
  /-- SWAP_MARK (R264). The receiver maps the named logical lane onto the reserve lane. -/
  | swapMark (port : Nat) (lane : Nat)
  /-- SWAP_DONE (R265). The transmitter resumes PAYLOAD flits on the new lane map. -/
  | swapDone (port : Nat) (lane : Nat)
  /-- SWAP_TIMEOUT (R265). A swap without SWAP_DONE within 2 µs starts a retrain. -/
  | swapTimeout (port : Nat)
  /-- WIDTH_REQ (R267). The follower consents to a width change with WIDTH_ACK and moves to the new striping. -/
  | widthReq (port : Nat) (width : Nat)
  /-- WIDTH_ACK (R267). The leader moves to the new width after the follower's consent. -/
  | widthAck (port : Nat) (width : Nat)
  /-- RETRAIN_REQ (R268). A peer's RETRAIN_REQ starts a retrain of all lanes. -/
  | retrainReq (port : Nat) (attempt : Nat)
  /-- FRAME_LOCK_LOSS (R268). The receiver losing frame lock starts a retrain. -/
  | frameLockLoss (port : Nat)
  /-- RETRAIN_COMPLETE (R268). A training attempt ends, and the port resumes at its widest width or counts a failed attempt. -/
  | retrainComplete (port : Nat) (txOk : BitVec 9) (rxOk : BitVec 9) (exchangeOk : Bool)
  /-- PWR_REQ (R271). The peer grants or refuses entry to a link power state. -/
  | pwrReq (port : Nat) (target : Nat)
  /-- PWR_ACK (R271). A granted power request moves the port into the target power state. -/
  | pwrAck (port : Nat) (target : Nat)
  /-- PWR_NAK (R271). A refused power request leaves the port ACTIVE. -/
  | pwrNak (port : Nat) (target : Nat)
  /-- LINK_ENABLE_WRITE (R274). A write of LINK_CTL.EN trains the port or takes it DOWN, discarding kept flits. -/
  | linkEnableWrite (id : Nat) (port : Nat) (value : W32)
  /-- WIDTH_MAX_WRITE (R267). A write of LINK_CTL.WIDTH_MAX while ACTIVE starts a width change. -/
  | widthMaxWrite (id : Nat) (port : Nat) (value : W32)
  /-- LINK_RETRAIN_WRITE (R268). A write of 1 to LINK_CTL.RETRAIN starts a retrain. -/
  | linkRetrainWrite (id : Nat) (port : Nat) (value : W32)
  /-- PWR_TARGET_WRITE (R271). A write of LINK_CTL.PWR_TARGET makes the port request the named power state. -/
  | pwrTargetWrite (id : Nat) (port : Nat) (value : W32)
  /-- PASS_THROUGH_PACKET (R282). A packet not for the controller is forwarded unchanged to the egress port its route names. -/
  | passThroughPacket (port : Nat) (pkt : Packet)
  /-- PUT_PACKET (R288). A PUT packet opens or counts into its message entry, is admitted and written, and completes the message at MSG_LEN. -/
  | putPacket (port : Nat) (pkt : Packet)
  /-- PUT_SPARSE_PACKET (R285). A PUT_SPARSE packet writes a landing tile's header and stored blocks into an armed reduction. -/
  | putSparsePacket (port : Nat) (pkt : Packet)
  /-- CMP_PACKET (R290). A CMP from a STORE PUT target completes one message of the tile. -/
  | cmpPacket (port : Nat) (pkt : Packet)
  /-- NOTIFY_PACKET (R286). A received NOTIFY packet is consumed without waiting. -/
  | notifyPacket (port : Nat) (pkt : Packet)
  /-- PUB_NOTIFY_PACKET (R286). A received PUB_NOTIFY packet is consumed without waiting. -/
  | pubNotifyPacket (port : Nat) (pkt : Packet)
  /-- MSG_TIMEOUT (R289). A message entry open for MSG_TIMEOUT_US sends CMP INTERNAL and is freed. -/
  | msgTimeout (entry : Nat)
  /-- PUT_CMP_TIMEOUT (R290). A STORE PUT tile with no CMP within twice MSG_TIMEOUT_US fails with INTERNAL. -/
  | putCmpTimeout (op : Nat) (tile : Nat)
  /-- ROUTE_SWAP (R294). SWAP_CMD SWAP holds new packets for an EID and starts draining its old route. -/
  | routeSwap (id : Nat) (eid : Nat)
  /-- ROUTE_SWAP_COMPLETE (R294). When the drain ends the shadow entry becomes live and held packets are released on the new route. -/
  | routeSwapComplete
  /-- ROUTE_SWAP_ABORT (R294). SWAP_CMD ABORT discards the shadow and releases held packets on the old route. -/
  | routeSwapAbort (id : Nat) (eid : Nat)
  /-- ROUTE_RETURN_DRAIN_DONE (R280). After a primary port becomes usable and the alternate ports drain, the EID moves back to its primary set. -/
  | routeReturnDrainDone (eid : Nat)
  /-- EID_FENCE (R291). FENCE_CMD FENCE fences an EID, freeing its message entries and skipping it in multicast. -/
  | eidFence (id : Nat) (eid : Nat)
  /-- EID_UNFENCE (R291). FENCE_CMD UNFENCE clears an EID's routing fence and unreachable mark. -/
  | eidUnfence (id : Nat) (eid : Nat)
  /-- CXL_MEM_READ (R308). A CXL.mem read is mapped through an HDM window, admitted and served as RD_ONCE. -/
  | cxlMemRead (hpa : Nat)
  /-- CXL_MEM_WRITE (R308). A CXL.mem write is mapped through an HDM window, admitted and served as WR_ONCE. -/
  | cxlMemWrite (hpa : Nat) (data : List Byte) (mask : BitVec 64) (poison : Bool)
  /-- CXL_HOT_RESET (R301). A hot reset or link loss resets configuration, MSI-X, decoders and the device mailbox and discards admitted CXL.mem requests. -/
  | cxlHotReset
  /-- CXL_CONFIG_REQUEST (R454). A configuration request is answered, with retry status until Memory_Active is set. -/
  | cxlConfigRequest (write : Bool) (offset : Nat) (value : W32)
  /-- LTR_WRITE (R302). A host write of the Max No-Snoop Latency sets the CXL host's latency tolerance. -/
  | ltrWrite (value : W32)
  /-- HDM_DECODER_COMMIT (R306). The host commits an HDM decoder, which fails if it names interleave or exceeds DPA_SIZE. -/
  | hdmDecoderCommit (dec : Nat) (base : Nat) (size : Nat) (dpa : Nat) (ways : Option Nat)
  /-- MSIX_UNMASK (R305). Unmasking or enabling an MSI-X vector sends any pending interrupt. -/
  | msixUnmask (req : MsixWrite)
  /-- GET_EVENT_RECORDS (R312). The device mailbox returns records from an event log. -/
  | getEventRecords (log : Nat)
  /-- CLEAR_EVENT_RECORDS (R312). The device mailbox clears records from an event log. -/
  | clearEventRecords (log : Nat) (handles : List Nat)
  /-- GET_EVENT_INTERRUPT_POLICY (R310). The device mailbox returns the event interrupt policy. -/
  | getEventInterruptPolicy
  /-- SET_EVENT_INTERRUPT_POLICY (R310). The device mailbox sets the event interrupt policy on vector 1. -/
  | setEventInterruptPolicy (policy : List Nat)
  /-- GET_FW_INFO (R310). The device mailbox reports the running control-processor firmware slot. -/
  | getFwInfo
  /-- GET_TIMESTAMP (R310). The device mailbox returns the timestamp. -/
  | getTimestamp
  /-- SET_TIMESTAMP (R310). The device mailbox sets the timestamp. -/
  | setTimestamp (value : BitVec 64)
  /-- GET_SUPPORTED_LOGS (R310). The device mailbox lists the Command Effects Log. -/
  | getSupportedLogs
  /-- GET_LOG (R310). The device mailbox returns the Command Effects Log. -/
  | getLog (uuid : BitVec 128) (offset : Nat) (len : Nat)
  /-- IDENTIFY_MEMORY_DEVICE (R310). The device mailbox reports volatile capacity DPA_SIZE and no persistent capacity. -/
  | identifyMemoryDevice
  /-- GET_PARTITION_INFO (R310). The device mailbox reports all capacity as volatile. -/
  | getPartitionInfo
  /-- GET_HEALTH_INFO (R310). The device mailbox reports die temperature and corrected-error counts. -/
  | getHealthInfo
  /-- UNSUPPORTED_MAILBOX_OPCODE (R310). Any other device mailbox opcode completes with Unsupported. -/
  | unsupportedMailboxOpcode (opcode : Nat)
  /-- DOE_DISCOVERY (R299). A DOE Discovery request lists the supported DOE protocols. -/
  | doeDiscovery (index : Nat)
  /-- CDAT_TABLE_ACCESS (R311). A DOE request returns the CDAT with its DSMAS and DSLBIS entries. -/
  | cdatTableAccess (entry : Nat)
  /-- MAILBOX_BIND_WRITE (R313). A write of MBXC.BIND_DATA binds a channel's sender and receiver, refusing invalid bindings. -/
  | mailboxBindWrite (id : Nat) (value : W32)
  /-- MAILBOX_SEND (R315). MSG_CTL SEND posts a message, sets FULL and raises the wake event. -/
  | mailboxSend (id : Nat) (ch : Nat) (value : W32)
  /-- MAILBOX_RETRACT (R315). MSG_CTL RETRACT withdraws a posted message and raises the empty interrupt. -/
  | mailboxRetract (id : Nat) (ch : Nat)
  /-- MAILBOX_ACK (R315). RCV_CTL ACK marks the message taken, clears FULL and raises the empty interrupt. -/
  | mailboxAck (id : Nat) (ch : Nat)
  /-- MAILBOX_PACKET (R316). A Runnel mailbox packet copies a message or an ACK between the partners' channels. -/
  | mailboxPacket (ch : Nat) (ack : Bool) (data : List Byte)
  /-- RX_STATE_LIVE (R316). A channel's receiver becoming LIVE while a message waits raises the wake event again. -/
  | rxStateLive (ch : Nat)
  /-- DRAM_COMMAND_ISSUE (R325). Each CLK_MEM cycle the channel issues one command chosen by deadline, write drain and row hits. -/
  | dramCommandIssue (ch : Nat)
  /-- DRAM_READ_DATA (R333). Data of a DRAM read returns and is decoded as clean, corrected, poisoned or uncorrectable. -/
  | dramReadData (ch : Nat) (da : Nat) (upset : List (Nat × Nat × BitVec 16))
  /-- MERGE_WINDOW_EXPIRY (R335). A merge-buffer entry open for WINDOW_NS leaves by read-modify-write. -/
  | mergeWindowExpiry (ch : Nat) (line : Nat)
  /-- REFSB_DUE (R326). A same-bank refresh falls due and is issued, postponed, or installs a pending delay set. -/
  | refsbDue (ch : Nat) (sc : Nat) (bank : Nat)
  /-- ZQ_CALIBRATION (R326). ZQ calibration runs every 128 ms. -/
  | zqCalibration (ch : Nat)
  /-- SPD_TEMP_READ (R331). Every 10 ms the module sensors are read and the temperature band and refresh rate updated. -/
  | spdTempRead (ch : Nat) (tempC : Nat)
  /-- DLY_APPLY (R331). DLY_CTL APPLY schedules the shadow delay set for install at each subchannel's next refresh. -/
  | dlyApply (id : Nat) (ch : Nat) (value : W32)
  /-- DLY_STALE_WARN (R331). While delays are stale a WARN event is recorded every 100 ms. -/
  | dlyStaleWarn (ch : Nat)
  /-- REMAP (R338). REMAP_CMD REMAP takes the lowest free slot and starts copying the keyed row. -/
  | remap (id : Nat) (ch : Nat)
  /-- REMAP_LOOKUP (R338). REMAP_CMD LOOKUP reports whether a key is remapped and its slot. -/
  | remapLookup (id : Nat) (ch : Nat)
  /-- PPR (R339). REMAP_CMD PPR performs post-package repair of a listed row or installs a remap entry. -/
  | ppr (id : Nat) (ch : Nat) (repaired : Bool)
  /-- REMAP_COPY_DONE (R338). A row copy ends, the lookup switches to the slot and REMAP_DONE is set. -/
  | remapCopyDone (ch : Nat)
  /-- AUTO_REMAP_START (R367). With AUTO_SPARE set a waiting lasting row is remapped once no copy runs on its channel. -/
  | autoRemapStart (ch : Nat)
  /-- DRAM_CHANNEL_FAIL (R334). A channel whose module stops answering or whose reads are all uncorrectable becomes FAILED. -/
  | dramChannelFail (ch : Nat)
  /-- BASIN_LINE_ACCESS (R345). A bank reads or writes a line and decodes its words as clean, corrected, poisoned or uncorrectable. -/
  | basinLineAccess (acc : BasinAccess)
  /-- ATOMIC_ADD_I32 (R348). A bank adds a 32-bit integer to an operand and returns the old value. -/
  | atomicAddI32 (req : AtomicReq)
  /-- ATOMIC_ADD_I64 (R348). A bank adds a 64-bit integer to an operand and returns the old value. -/
  | atomicAddI64 (req : AtomicReq)
  /-- ATOMIC_ADD_F32 (R348). A bank adds an FP32 value to an operand and returns the old value. -/
  | atomicAddF32 (req : AtomicReq)
  /-- ATOMIC_ADD_BF16X2 (R348). A bank adds two BF16 lanes to an operand and returns the old value. -/
  | atomicAddBf16x2 (req : AtomicReq)
  /-- ATOMIC_SWAP_32 (R348). A bank swaps a 32-bit operand and returns the old value. -/
  | atomicSwap32 (req : AtomicReq)
  /-- ATOMIC_SWAP_64 (R348). A bank swaps a 64-bit operand and returns the old value. -/
  | atomicSwap64 (req : AtomicReq)
  /-- BANK_RET_ENTRY (R350). An eligible bank enters retention 16 cycles after its last access. -/
  | bankRetEntry (group : Nat) (bank : Nat)
  /-- BANK_SUBSTITUTE (R352). BANK_CMD SUBSTITUTE starts moving a position to the group's reserve bank. -/
  | bankSubstitute (id : Nat) (group : Nat) (bank : Nat)
  /-- BANK_SUBSTITUTION_DONE (R352). The line copy ends, the reserve takes the position and the source is retired. -/
  | bankSubstitutionDone (group : Nat)
  /-- BANK_REINSTATE (R353). BANK_CMD REINSTATE powers a repaired bank, clears it and starts a march test. -/
  | bankReinstate (id : Nat) (group : Nat) (bank : Nat)
  /-- REINSTATE_TEST_DONE (R353). The march test ends and the bank becomes RESERVE or stays RETIRED. -/
  | reinstateTestDone (group : Nat) (pass : Bool)
  /-- BANK_SET_ON (R350). BANK_CMD SET_ON brings a bank to ON. -/
  | bankSetOn (id : Nat) (group : Nat) (bank : Nat)
  /-- BANK_SET_RET (R351). BANK_CMD SET_RET places a permitted bank in retention. -/
  | bankSetRet (id : Nat) (group : Nat) (bank : Nat)
  /-- BANK_SET_OFF (R351). BANK_CMD SET_OFF powers off a permitted bank. -/
  | bankSetOff (id : Nat) (group : Nat) (bank : Nat)
  /-- AUTO_SUBSTITUTE_START (R367). With AUTO_SUBST set a lasting bank is substituted once its group has no substitution running. -/
  | autoSubstituteStart (group : Nat)
  /-- FIELD_FUSE_BLOW (R353). Holhild blows a field fuse that brings in a redundant column of an off bank. -/
  | fieldFuseBlow (id : Nat) (group : Nat) (bank : Nat) (column : Nat)
  /-- SCRUB (R362). SCRUB starts reading and decoding every line of a PA range, channel or bank group. -/
  | scrub (h : Nat)
  /-- SCRUB_COMPLETE (R364). A scrub writes its summary and completion when its scope is read. -/
  | scrubComplete (h : Nat)
  /-- CE_BUCKET_LEAK (R365). Every LEAK_MS a correction bucket's level falls by one. -/
  | ceBucketLeak (basin : Bool) (index : Nat)
  /-- ENGINE_TEST (R369). ENGINE_TEST drains the named engines and runs golden-tile rounds on them. -/
  | engineTest (h : Nat)
  /-- ENGINE_TEST_ROUND_DONE (R370). A golden-tile round on an engine ends, retiring the engine if it failed, or completing the command. -/
  | engineTestRoundDone (h : Nat) (eng : Nat) (pass : Bool)
  /-- CP_KICK (R371). A control processor's write of CP_KICK restarts its watchdog. -/
  | cpKick (id : Nat)
  /-- CP_WATCHDOG_EXPIRY (R371). A processor missing its watchdog is retired and the reserve processor takes its place. -/
  | cpWatchdogExpiry (cp : Nat)
  /-- FAULT_Q_HEAD_WRITE (R373). The reader advances Q_HEAD, consuming fault-queue entries. -/
  | faultQHeadWrite (id : Nat) (value : W32)
  /-- EVENT_RATE_REFILL (R375). Each source's event bucket gains PER_SOURCE events per second up to BURST. -/
  | eventRateRefill (source : Nat)
  /-- FOLD_SUMMARY (R375). At the end of each 100 ms with folding a summary record is written per source and class. -/
  | foldSummary
  /-- OVERFLOW_RECORD_WRITE (R376). When entries become free an OVERFLOW record is written per non-empty class slot. -/
  | overflowRecordWrite
  /-- ALERT_ACK (R377). A write of FLT.ALERT.ACK clears pending FATAL events already sent and ACKed. -/
  | alertAck (id : Nat)
  /-- HEARTBEAT_SEND (R393). Every 2 µs the serving controller sends a heartbeat on both paths. -/
  | heartbeatSend
  /-- HEARTBEAT (R393). A received heartbeat is answered at once and its partner state recorded. -/
  | heartbeat (hb : Heartbeat)
  /-- HEARTBEAT_ANSWER (R394). A received answer to a heartbeat keeps its path good. -/
  | heartbeatAnswer (hb : Heartbeat)
  /-- HEARTBEAT_PATH_LOSS (R394). Five missed periods lose a path, and the loss of both paths recognises failure. -/
  | heartbeatPathLoss (pathB : Bool)
  /-- SELF_FENCE (R396). At 12 µs after failure the serving controller becomes FENCED and discards waiting happenings. -/
  | selfFence
  /-- FENCED_PORTS_OUT (R396). At 16 µs the fenced controller has drained responses and takes its fabric ports out of service. -/
  | fencedPortsOut
  /-- SOLO_WAIT_EXPIRY (R397). After SOLO_WAIT_US a self-fenced controller checks reservations and may become SOLO. -/
  | soloWaitExpiry (held : List Nat)
  /-- RUNNEL_LOSS_TIMEOUT (R383). With the Runnel down for RUNNEL_LOSS_US and path B good, the active becomes SOLO and its partner FENCED. -/
  | runnelLossTimeout
  /-- BOOT_WAIT_EXPIRY (R383). With no partner heartbeat by BOOT_WAIT_MS the controller tries to become SOLO or becomes FENCED. -/
  | bootWaitExpiry (acquired : Bool)
  /-- FRAME_AUDIT_DONE (R395). The new active's Cistern frame audit ends and the Lehr may run again. -/
  | frameAuditDone
  /-- MWR (R389). The partner applies a mirror write and returns MACK. -/
  | mwr (tag : Nat) (pa : Nat) (data : List Byte) (mask : Option (BitVec 64)) (poison : Option Nat)
  /-- MDIR (R389). The partner applies a directory change and returns MACK. -/
  | mdir (tag : Nat) (change : MirrorChange)
  /-- MACK (R389). A MACK lets the synchronous happening it acknowledges proceed. -/
  | mack (tag : Nat) (dir : Bool)
  /-- TICK_CLOSE (R391). Every 5 µs the serving controller closes a tick and sends its delta. -/
  | tickClose
  /-- DELTA (R391). The standby applies a whole tick delta in order and sends TICK_ACK. -/
  | delta (tick : Nat) (change : TickDelta)
  /-- TICK_ACK (R392). A tick acknowledgement releases completions held for that tick. -/
  | tickAck (tick : Nat)
  /-- RELAY (R403). The serving partner handles a relayed packet as if it arrived at its own port. -/
  | relay (port : Nat) (what : Relayed)
  /-- HEALTH (R401). The active receives a standby health report and updates CLEAN_REPORTS. -/
  | health (seq : Nat) (clean : Bool) (fails : BitVec 4)
  /-- HEALTH_REPORT_SEND (R400). Every 1 ms the standby sends a HEALTH message with its self-test results. -/
  | healthReportSend
  /-- HEALTH_REPORT_MISSED (R401). A health report that does not arrive restarts CLEAN_REPORTS. -/
  | healthReportMissed
  /-- HANDOVER_REQ (R406). The serving controller stops admitting and starts the handover pause. -/
  | handoverReq
  /-- HANDOVER_DRAIN_TIMEOUT (R406). At 10 µs uncommitted tiles are discarded to frontiers and the final tick closes. -/
  | handoverDrainTimeout
  /-- HANDOVER_GO (R406). The handover ends: one controller becomes ACTIVE and the other STANDBY. -/
  | handoverGo (received : Bool)
  /-- HANDOVER_DONE (R406). The partner's report that the handover has ended is absorbed. -/
  | handoverDone
  /-- RESYNC_COMPLETE (R404). The resynchronisation copy ends and the syncing controller becomes STANDBY. -/
  | resyncComplete
  /-- FENCE_SELF (R409). PAIR.CMD FENCE_SELF moves a serving controller to FENCED at once. -/
  | fenceSelf (id : Nat)
  /-- GO_SOLO (R397). PAIR.CMD GO_SOLO moves a FENCED controller to SOLO, or is refused while heartbeats are good. -/
  | goSolo (id : Nat)
  /-- HANDOVER (R405). PAIR.CMD HANDOVER starts a handover towards either role. -/
  | handover (id : Nat)
  /-- STANDBY_GOLDEN_ROUND (R399). Every 10 ms the standby runs a golden-tile round on the next engine. -/
  | standbyGoldenRound (pass : Bool)
  /-- STANDBY_MARCH_TEST (R399). The standby march-tests the next reserve bank. -/
  | standbyMarchTest (pass : Bool)
  /-- DRAM_PATROL_READ (R399). The standby patrols its DRAM frames and refetches uncorrectable lines from the active. -/
  | dramPatrolRead (line : Nat) (outcome : PatrolOutcome)
  /-- EYE_MARGIN_CHECK (R399). Once per second every lane's eye margin is checked. -/
  | eyeMarginCheck (failed : List Nat)
  /-- BIND_WRITE (R411). SEC.BIND_CMD WRITE installs a binding entry unless a refusal case applies. -/
  | bindWrite (id : Nat)
  /-- BIND_READ (R426). SEC.BIND_CMD READ copies a binding entry into the data registers. -/
  | bindRead (id : Nat)
  /-- KEY_GENERATE (R414). KEY_CMD GENERATE fills an empty key slot from the random number generator. -/
  | keyGenerate (id : Nat)
  /-- KEY_IMPORT (R414). KEY_CMD IMPORT fills an empty key slot with a wrapped key from a secured session. -/
  | keyImport (id : Nat) (session : Nat) (wrapped : List Byte)
  /-- KEY_ZEROISE (R414). KEY_CMD ZEROISE empties a key slot whose domain holds no regions or backing. -/
  | keyZeroise (id : Nat)
  /-- KEY_PARTNER_INSTALLED (R417). A pending key becomes ARMED once the standby partner has installed it. -/
  | keyPartnerInstalled (slot : Nat)
  /-- GET_VERSION (R419). Holhild answers an SPDM GET_VERSION with version 1.2. -/
  | getVersion (via : Nat)
  /-- GET_CAPABILITIES (R419). Holhild answers an SPDM GET_CAPABILITIES. -/
  | getCapabilities (via : Nat)
  /-- NEGOTIATE_ALGORITHMS (R419). Holhild negotiates the supported SPDM algorithms. -/
  | negotiateAlgorithms (via : Nat) (offer : SpdmAlgs)
  /-- GET_DIGESTS (R419). Holhild returns the certificate chain digest of slot 0. -/
  | getDigests (via : Nat)
  /-- GET_CERTIFICATE (R420). Holhild returns the slot 0 certificate chain. -/
  | getCertificate (via : Nat) (slot : Nat) (offset : Nat) (len : Nat)
  /-- CHALLENGE (R419). Holhild signs a challenge with its Alias key. -/
  | challenge (via : Nat) (slot : Nat) (nonce : BitVec 256)
  /-- GET_MEASUREMENTS (R420). Holhild returns the measurement digests of Table 18-3. -/
  | getMeasurements (via : Nat) (index : Nat) (nonce : Option (BitVec 256))
  /-- KEY_EXCHANGE (R419). Holhild starts an SPDM secured session. -/
  | keyExchange (via : Nat) (slot : Nat) (mutAuth : Bool) (exchange : List Byte)
  /-- FINISH (R419). Holhild completes the establishment of an SPDM session. -/
  | finish (session : Nat) (verified : Bool)
  /-- END_SESSION (R419). Holhild ends an SPDM session. -/
  | endSession (session : Nat)
  /-- SPDM_HEARTBEAT (R419). Holhild answers an SPDM session heartbeat. -/
  | spdmHeartbeat (session : Nat)
  /-- KEY_UPDATE (R419). Holhild updates the keys of an SPDM session. -/
  | keyUpdate (session : Nat) (keyOp : Nat)
  /-- DEBUG_UNLOCK (R421). A signed vendor-defined request unlocks debug if all conditions hold. -/
  | debugUnlock (session : Nat) (sig : List Byte)
  /-- SPDM_UNSUPPORTED_REQUEST (R419). Any other SPDM request is answered with ERROR UnsupportedRequest. -/
  | spdmUnsupportedRequest (via : Nat) (code : Nat)
  /-- CONF_ENABLE (R422). A write of SEC.CONF.ENABLE turns confidential mode on and locks debug. -/
  | confEnable (id : Nat) (value : W32)
  /-- QUERY_DEVICE_IDENTIFIERS (R439). Holhild answers a PLDM QueryDeviceIdentifiers. -/
  | queryDeviceIdentifiers
  /-- GET_FIRMWARE_PARAMETERS (R439). Holhild answers a PLDM GetFirmwareParameters. -/
  | getFirmwareParameters
  /-- REQUEST_UPDATE (R431). A PLDM RequestUpdate starts an update, or is refused while one is in progress. -/
  | requestUpdate
  /-- PASS_COMPONENT_TABLE (R439). Holhild accepts the component table of an update. -/
  | passComponentTable (types : List Nat)
  /-- UPDATE_COMPONENT (R431). The loader checks the image header, hash list and signature before writing flash. -/
  | updateComponent (image : ImageHead)
  /-- FIRMWARE_DATA_RECEIVED (R432). A piece of image body arrives and is hashed and written to flash A. -/
  | firmwareDataReceived (piece : ImagePiece)
  /-- ACTIVATE_FIRMWARE (R434). PLDM ActivateFirmware activates a loader, Holhild or key-policy image, or answers that activation waits for reset. -/
  | activateFirmware
  /-- GET_STATUS (R439). Holhild reports the update status. -/
  | getStatus
  /-- CANCEL_UPDATE_COMPONENT (R433). Cancelling a component leaves its type INCOMPLETE. -/
  | cancelUpdateComponent
  /-- CANCEL_UPDATE (R433). Cancelling an update leaves the type INCOMPLETE and the running image untouched. -/
  | cancelUpdate
  /-- FWU_CONFIRM (R436). FWU.CMD CONFIRM records the type as CONFIRMED and copies slot A to slot B. -/
  | fwuConfirm (id : Nat) (type : Nat)
  /-- FWU_REVERT (R436). FWU.CMD REVERT sets the remaining boots of an unconfirmed type to zero. -/
  | fwuRevert (id : Nat) (type : Nat)
  /-- AUTO_CONFIRM_EXPIRY (R436). AUTO_CONFIRM_S after activation without fault Holhild confirms the image. -/
  | autoConfirmExpiry (type : Nat)
  /-- COLD_START (R452). Release of PWRGD and PERST_N runs the cold start-up sequence to a serving pool. -/
  | coldStart (boot : BootInput)
  /-- COLD_RESET (R450). PWRGD or PERST_N low holds the controller in cold reset. -/
  | coldReset (perst : Bool)
  /-- WARM_RESET_PIN (R450). WARM_RST_N low for at least 1 µs starts a warm reset. -/
  | warmResetPin (boot : WarmInput)
  /-- WARM (R455). RST.CMD WARM starts a warm reset that settles work, saves state and restores it. -/
  | warm (id : Nat) (boot : WarmInput)
  /-- MGMT_RESTART (R450). RST.CMD MGMT_RESTART restarts the management plane, keeping keys, bindings and data service. -/
  | mgmtRestart (id : Nat)
  /-- RAIL_ORDER (R444). A power-up sequencing breach holds all but the always-on domain in reset with ALERT_N. -/
  | railOrder (breachMs : Nat)
  /-- RAIL_DROP (R445). A rail below 90 % for over 2 µs stops the data plane and holds reset. -/
  | railDrop (rail : Nat)
  /-- REF_LOST (R448). Loss of REFCLK or PLL lock moves the always-on domain to its oscillator and stops as for a rail drop. -/
  | refLost (pll : Bool)
  /-- SET_LATENCY_TOL (R457). SET_LATENCY_TOL sets a domain's latency tolerance and so its power level. -/
  | setLatencyTol (h : Nat)
  /-- DIE_TEMP_SAMPLE (R461). Every 100 µs the hottest die sensor is read and warning and throttle limits applied. -/
  | dieTempSample (tempC : Nat)
  /-- THERMTRIP (R461). At 115 °C hardware asserts THERMTRIP_N and holds reset until cold reset. -/
  | thermtrip
  /-- PORT_IDLE_TIMEOUT (R458). A fabric port idle for its level's time enters STANDBY or OFF. -/
  | portIdleTimeout (port : Nat) (idleUs : Nat)
  /-- CORE_IDLE_GATE (R458). An in-service core with no dealt tile for 10 µs is power-gated at PL1 or deeper. -/
  | coreIdleGate (core : Nat)
  /-- DRIVE_IDLE_TIMEOUT (R458). A Cistern drive with no command for 10 ms enters a non-operational state at PL3. -/
  | driveIdleTimeout (drive : Nat)
  /-- COUNTER_CAPTURE (R470). The counter reader captures every counter into the next snapshot slot. -/
  | counterCapture
  /-- CNT_LO_READ (R467). A read of CNT_LO returns the low counter bits and latches the high bits for the reader. -/
  | cntLoRead (id : Nat) (page : Nat)
  /-- COUNTER_SNAPSHOT_PAGES (R474). COUNTER_SNAPSHOT in mode PAGES copies granted records of the newest snapshot to memory. -/
  | counterSnapshotPages (h : Nat)
  /-- COUNTER_SNAPSHOT_OPERATION (R475). COUNTER_SNAPSHOT in mode OPERATION writes an operation report. -/
  | counterSnapshotOperation (h : Nat)
  /-- SET_PROFILE (R480). SET_PROFILE checks a stored profile and records it as pending for the next warm reset. -/
  | setProfile (h : Nat)
  /-- SET_PROFILE_CANCEL (R480). SET_PROFILE with CANCEL clears the pending profile. -/
  | setProfileCancel (h : Nat)
  /-- READ32 (R476). A vendor-defined MCTP READ32 reads a BAR0 offset as identity 0x003. -/
  | read32 (addr : Nat)
  /-- WRITE32 (R476). A vendor-defined MCTP WRITE32 writes a BAR0 offset as identity 0x003. -/
  | write32 (addr : Nat) (value : W32)
  /-- MCTP_CONTROL (R476). The endpoint answers MCTP control messages, including EID assignment. -/
  | mctpControl (req : MctpControl)
  /-- GET_PDR (R477). PLDM GetPDR returns entries of the sensor PDR repository. -/
  | getPdr (record : Nat)
  /-- GET_SENSOR_READING (R477). PLDM GetSensorReading returns a numeric sensor. -/
  | getSensorReading (sensor : Nat)
  /-- GET_STATE_SENSOR_READINGS (R477). PLDM GetStateSensorReadings returns a state sensor. -/
  | getStateSensorReadings (sensor : Nat)
  /-- SET_EVENT_RECEIVER (R477). PLDM SetEventReceiver names the receiver of platform event messages. -/
  | setEventReceiver (eid : Option Nat)
  /-- SOFT_RESET (R489). BLK_CTL.SRST resets a page's block-specific fields when its condition holds. -/
  | softReset (id : Nat) (page : Nat)
  /-- BLK_LOCK (R491). BLK_CTL.LOCK freezes the page's RWL fields until its reset domain resets. -/
  | blkLock (id : Nat) (page : Nat)
  /-- BLK_ISR_CLEAR (R490). A W1C write to BLK_ISR clears event bits and may drop the interrupt summary. -/
  | blkIsrClear (id : Nat) (page : Nat) (value : W32)
  /-- BLK_IER_WRITE (R490). A write of BLK_IER enables events and raises the summary for pending ones. -/
  | blkIerWrite (id : Nat) (page : Nat) (value : W32)
  /-- CXLIO_READ_TIMEOUT (R61). A CXL.io read of a host page table or ring entry that gets no completion within 50 µs ends the walk with WALK_ERROR, or fails the ring read. -/
  | cxlioReadTimeout (what : CxlioRead)
  /-- CXL_MEM_ADMISSION_RETRY (R107). A CXL.mem request held on the link by a failed bucket or backlog test is admitted once its test passes, and CXLP returns its credit. -/
  | cxlMemAdmissionRetry
  /-- DRIVE_READY (R142). A Cistern drive whose NVMe bring-up completes becomes ACTIVE and takes frames, counting in the node's units. -/
  | driveReady (drive : Nat) (dualPort : Bool) (frames : Nat)
  /-- DRIVE_READY_TIMEOUT (R452). A drive not ready within 10 s becomes FAILED. -/
  | driveReadyTimeout (drive : Nat)
  /-- CONFIRM_COPY_DONE (R436). The copy of slot A to slot B started by CONFIRM ends, and FWU.STAT leaves COPYING. -/
  | confirmCopyDone (type : Nat)
  /-- CXL_LINK_UP (R316). The CXL link finishes training and sets CXLP.STAT.LINK_UP. -/
  | cxlLinkUp
  /-- PLDM_BASE (R476). Holhild answers a PLDM type 0 base request on the sideband. -/
  | pldmBase (code : Nat)
  /-- VDD_AON_LOSS (R449). Loss of VDD_AON resets the sticky domain, including RST.CAUSE, and floats the class A outputs. -/
  | vddAonLoss
  /-- VDD_AON_VALID (R444). VDD_AON becoming valid starts the always-on rail monitors and makes the class A pins valid. -/
  | vddAonValid
  /-- JTAG_TAP_ACCESS (R510). An IEEE 1149.1 scan on the TAP pins is answered with IDCODE or BYPASS while debug is locked, and fully once debug is unlocked. -/
  | jtagTapAccess (instr : Nat)
  deriving DecidableEq, Repr

end Sys2Proof
end

