-- ==== Sys2Proof/Decode.lean ====
section
/-!
DEFINITION. The commands of this block come from outside, and the table of commands gives no row any bits: no word spells
a command.
-/
namespace Sys2Proof

/-- The command that a word spells: none, since no row of the table has bits. -/
def decodeTableWord (_nbits _w : Nat) : Option Instr := none

end Sys2Proof
end

