-- ==== Sys2Proof/Config.lean ====
section
/-!
DEFINITION. What the spec leaves open: constants without a body, so that no proof can see their values.
Each is named in the assumption log.
-/
namespace Sys2Proof.Config

/-- Base PA, in pool pages, that the allocator prefers for a region, by a running number: R24 fixes only
alignment and a lower limit (log entry 5). -/
opaque placeBase : Nat → Nat

/-- Region index that the allocator prefers, by a running number: R32 leaves the choice open (log entry 5). -/
opaque placeIndex : Nat → Nat

/-- Random bits of Holhild's generator: keys (R414), nonces and session identifiers (R419) (log entry 6). -/
opaque random : Nat → BitVec 512

/-- SHA-256, used by R420, R428, R432 as a published standard the spec names but does not state (log entry 6). -/
opaque sha256 : Bytes → BitVec 256

/-- Whether an ECDSA P-256 signature verifies: key number, message, signature (log entry 6). -/
opaque sigOk : Nat → Bytes → Bytes → Bool

/-- A signature made with a device key: key number, message (log entry 6). -/
opaque sign : Nat → Bytes → Bytes

/-- A key unwrapped from an import message: session key generation and wrapped bytes; none where the
integrity check fails (log entry 6). -/
opaque unwrap : Nat → Bytes → Option (BitVec 512)

/-- A key wrapped for the partner under a session's keys, 72 B: session key generation and key (R417; log entry 6). -/
opaque wrap : Nat → BitVec 512 → Bytes

/-- The key under which the partner holds the drives' reservations, as a reservation report gives it (R139; log
entry 90). -/
opaque partnerKey : BitVec 64

/-- AES-256-XTS of one 64 B line: key pair, tweak and plaintext (R415, R417; log entry 6). -/
opaque lineCipher : BitVec 512 → Nat → Bytes → Bytes

/-- The secret of a Diffie–Hellman exchange (log entry 6). -/
opaque exchangeReply : Nat → Bytes → Bytes

/-- The certificate chain of slot 0, by the hash of the Holhild firmware that the Alias key was derived from (R420;
log entry 6). -/
opaque certChain : BitVec 256 → Bytes

/-- Fuses and constants of one part: the SHA-256 of the boot ROM (Table 18-3), OWNER_PK_HASH, and the device
serial (R421) (log entry 6). -/
opaque romHash : BitVec 256
opaque ownerKeyHash : BitVec 256
opaque serial : Bytes

/-- OWNER_PK_HASH is blown (R428; log entry 42). -/
opaque ownerFused : Bool

/-- The profile that the sections of a profile image's body spell: the spec names their contents and not their
layout (Table 21-8; log entry 42). -/
opaque profileOf : Bytes → Option Profile

/-- The minimum security version of an image type that a key-policy body holds (R429; log entry 42). -/
opaque policyMin : Bytes → Nat → Nat

/-- The fused operating voltage of VDD_CORE in mV (R442) and the package power in W measured over a window of time, by
the window's number (PWR.POWER, Table 20-11; log entry 47). -/
opaque vddCore : Nat
opaque powerOver : Nat → BitVec 16

/-- What the bus endpoints answer where the spec names a request and not the answer's contents, by request code
(log entry 48). -/
opaque endpointWord : Nat → Nat

/-- A value that the spec leaves open, by a running number (log entry 8). -/
opaque freeValue : Nat → BitVec 64

end Sys2Proof.Config
end

