-- ==== Sys2Proof/Machine/Bits.lean ====
section
/-!
DEFINITION. Bit fields, byte order (R5) and the sparse tables that State is made of.
-/
namespace Sys2Proof.Machine

/-! ## Fields and bytes -/

/-- Bits [lo + w - 1 : lo] of a number. -/
def fld (v lo w : Nat) : Nat := (v >>> lo) % 2 ^ w

/-- The number with bits [lo + w - 1 : lo] replaced by `x`. -/
def setFld (v lo w x : Nat) : Nat :=
  v - (fld v lo w) * 2 ^ lo + (x % 2 ^ w) * 2 ^ lo

/-- Bit `i` of a number. -/
def bitN (v i : Nat) : Bool := v.testBit i

/-- The number a little-endian run of bytes holds (R5). -/
def leNat : Bytes → Nat
  | [] => 0
  | b :: bs => b.toNat + 256 * leNat bs

/-- `n` bytes of a number, lowest first (R5). -/
def natLe : Nat → Nat → Bytes
  | 0, _ => []
  | n + 1, v => BitVec.ofNat 8 v :: natLe n (v / 256)

/-- The little-endian number in `w` bytes from byte `o` of a run. -/
def leAt (bs : Bytes) (o w : Nat) : Nat := leNat ((bs.drop o).take w)

/-- `n` copies of a zero byte. -/
def zeros (n : Nat) : Bytes := List.replicate n 0

/-- A run of bytes cut or filled with zeros to `n`. -/
def fitBytes (n : Nat) (bs : Bytes) : Bytes := bs.take n ++ zeros (n - bs.length)

/-- `bs` with the bytes from `o` replaced by `xs`. -/
def splice (bs : Bytes) (o : Nat) (xs : Bytes) : Bytes :=
  bs.take o ++ xs ++ bs.drop (o + xs.length)

/-- Bytes of `new` where the mask's bit is set, of `old` elsewhere. -/
def mergeMask : Nat → Bytes → Bytes → Nat → Bytes
  | 0, _, _, _ => []
  | n + 1, old, new, m =>
    (if m % 2 = 1 then new.headD 0 else old.headD 0) :: mergeMask n old.tail new.tail (m / 2)

/-- Number of bits set among the lowest `n`. -/
def popc : Nat → Nat → Nat
  | 0, _ => 0
  | n + 1, v => v % 2 + popc n (v / 2)

/-- The bits set among the lowest `n`, ascending, counted from `i`. -/
def bitsFrom : Nat → Nat → Nat → List Nat
  | 0, _, _ => []
  | n + 1, i, v => if v % 2 = 1 then i :: bitsFrom n (i + 1) (v / 2) else bitsFrom n (i + 1) (v / 2)

/-- The set bits of a vector, ascending. -/
def bitList {n : Nat} (v : BitVec n) : List Nat := bitsFrom n 0 v.toNat

/-- A vector with bit `i` set. -/
def setBit {n : Nat} (v : BitVec n) (i : Nat) : BitVec n := v ||| BitVec.ofNat n (2 ^ i)

/-- A vector with bit `i` clear. -/
def clrBit {n : Nat} (v : BitVec n) (i : Nat) : BitVec n := v &&& ~~~ BitVec.ofNat n (2 ^ i)

/-- A vector with bit `i` set to `b`. -/
def putBit {n : Nat} (v : BitVec n) (i : Nat) (b : Bool) : BitVec n :=
  if b then setBit v i else clrBit v i

/-- Division rounded up; 0 for a zero divisor. -/
def ceilDiv (a b : Nat) : Nat := (a + b - 1) / b

/-- The pool page, sub-page, tile and line of a PA (Table 0-4). -/
def pageOf (pa : Nat) : Nat := pa / 2097152
def subOf (pa : Nat) : Nat := pa / 65536
def lineOf (pa : Nat) : Nat := pa / 64

/-- The XOR of the five-bit fields of PA[51:6], `n` of them. -/
def foldXor : Nat → Nat → Nat
  | 0, _ => 0
  | n + 1, v => Nat.xor (v % 32) (foldXor n (v / 32))

/-- The home slice of a line: PA[10:6] is the line number's bits [4:0] (R75). -/
def homeSlice (line : Nat) : Nat := foldXor 10 line

/-! ## Lists -/

/-- Element `i`, or the default. -/
def nth {α : Type} (xs : List α) (i : Nat) (d : α) : α := xs.getD i d

/-- The list with element `i` replaced, unchanged where there is none. -/
def setNth {α : Type} (xs : List α) (i : Nat) (x : α) : List α := xs.set i x

/-- The numbers a, a + 1, … (n of them). -/
def rangeFrom (a : Nat) : Nat → List Nat
  | 0 => []
  | n + 1 => a :: rangeFrom (a + 1) n

/-- Insert into a rising list without repeats. -/
def insNat (x : Nat) : List Nat → List Nat
  | [] => [x]
  | y :: ys => if x < y then x :: y :: ys else if x = y then y :: ys else y :: insNat x ys

/-- The least element that satisfies a test. -/
def findMin (p : Nat → Bool) (xs : List Nat) : Option Nat :=
  xs.foldl (fun acc x => if p x then (match acc with
    | none => some x
    | some y => some (min x y)) else acc) none

/-! ## Sparse tables -/

variable {V : Type}

/-- The value listed for a key. -/
def tget : Tbl V → Nat → Option V
  | [], _ => none
  | (k, v) :: t, a => if a = k then some v else tget t a

/-- The value for a key, or the table's default. -/
def tgetD (t : Tbl V) (a : Nat) (d : V) : V := (tget t a).getD d

/-- The table with a value listed. -/
def tput : Tbl V → Nat → V → Tbl V
  | [], a, x => [(a, x)]
  | (k, v) :: t, a, x =>
    if a < k then (a, x) :: (k, v) :: t
    else if a = k then (k, x) :: t
    else (k, v) :: tput t a x

/-- The table without a key. -/
def tdel : Tbl V → Nat → Tbl V
  | [], _ => []
  | (k, v) :: t, a => if a = k then tdel t a else (k, v) :: tdel t a

/-- The table with a key set, kept canonical: the default is never listed. -/
def tset [DecidableEq V] (d : V) (t : Tbl V) (a : Nat) (x : V) : Tbl V :=
  if x = d then tdel t a else tput t a x

/-- The table with the value of a listed key changed. -/
def tmod (t : Tbl V) (a : Nat) (f : V → V) : Tbl V :=
  match tget t a with
  | some v => tput t a (f v)
  | none => t

/-- The canonical form: keys strictly rising, no listed value the default. -/
def twf [DecidableEq V] (d : V) : Tbl V → Bool
  | [] => true
  | [(_, v)] => decide (v ≠ d)
  | (k, v) :: (k', v') :: t => decide (v ≠ d) && decide (k < k') && twf d ((k', v') :: t)

/-- The first entry that satisfies a test. -/
def tfind (t : Tbl V) (p : Nat → V → Bool) : Option (Nat × V) := t.find? fun e => p e.1 e.2

/-- The keys that satisfy a test, rising. -/
def tkeys (t : Tbl V) (p : Nat → V → Bool) : List Nat :=
  (t.filter fun e => p e.1 e.2).map Prod.fst

/-- Every value changed. -/
def tmap (t : Tbl V) (f : Nat → V → V) : Tbl V := t.map fun e => (e.1, f e.1 e.2)

/-- The entries that satisfy a test. -/
def tfilter (t : Tbl V) (p : Nat → V → Bool) : Tbl V := t.filter fun e => p e.1 e.2

end Sys2Proof.Machine
end

