-- ==== Sys2Proof/Machine/RegMap.lean ====
section
/-!
DEFINITION. The register map (chapter 22, Tables 22-1 to 22-7, and the register tables of every home
chapter): pages, offsets, fields with their access codes (Table 0-3), reset values and value ranges (R9).
-/
namespace Sys2Proof.Machine

/-- The access codes of Table 0-3. RSVD bits are those that no field covers. -/
inductive Acc where
  | ro | rw | rwl | wo | w1c
  deriving DecidableEq, Repr

/-- A field: its lowest bit, width, access code, reset value and range of legal values (R9). -/
structure Field where
  lo : Nat
  w : Nat
  acc : Acc
  reset : Nat := 0
  minv : Nat := 0
  maxv : Nat := 0xFFFFFFFF
  deriving DecidableEq, Repr

/-- A register, or an array of `cnt` of them 4 B apart, on each page from `p0` to `p1`. -/
structure RegD where
  p0 : Nat
  p1 : Nat
  off : Nat
  cnt : Nat
  /-- kept once per master identity (R487). -/
  perId : Bool
  fields : List Field
  deriving DecidableEq, Repr

/-- A read-only field. -/
def fRO (lo w : Nat) (reset : Nat := 0) : Field := { lo, w, acc := .ro, reset }
/-- A read-write field. -/
def fRW (lo w : Nat) (reset : Nat := 0) (minv : Nat := 0) (maxv : Nat := 0xFFFFFFFF) : Field :=
  { lo, w, acc := .rw, reset, minv, maxv }
/-- A lockable field. -/
def fRWL (lo w : Nat) (reset : Nat := 0) (minv : Nat := 0) (maxv : Nat := 0xFFFFFFFF) : Field :=
  { lo, w, acc := .rwl, reset, minv, maxv }
/-- A write-only field. -/
def fWO (lo w : Nat) : Field := { lo, w, acc := .wo }
/-- A write-one-to-clear field. -/
def fW1C (lo w : Nat) : Field := { lo, w, acc := .w1c }

/-- One register on one page. -/
def reg1 (p off : Nat) (fields : List Field) : RegD := ⟨p, p, off, 1, false, fields⟩
/-- One register on each of several pages. -/
def regP (p0 p1 off : Nat) (fields : List Field) : RegD := ⟨p0, p1, off, 1, false, fields⟩
/-- An array of registers. -/
def regA (p0 p1 off cnt : Nat) (fields : List Field) : RegD := ⟨p0, p1, off, cnt, false, fields⟩
/-- A register kept per identity. -/
def regI (p0 p1 off cnt : Nat) (fields : List Field) : RegD := ⟨p0, p1, off, cnt, true, fields⟩

/-! ## Pages (Table 22-1) -/

def pgTOP := 0x000
def pgPWR := 0x001
def pgCLK := 0x002
def pgRST := 0x003
def pgPROF := 0x004
def pgPAIR := 0x005
def pgFWU := 0x006
def pgSEC := 0x007
def pgHHD := 0x008
def pgCTR := 0x009
def pgFLT := 0x00A
def pgWEIR := 0x00B
def pgXLT := 0x00C
def pgDIR := 0x00D
def pgTIER := 0x00E
def pgCIS := 0x00F
def pgALLOC := 0x010
def pgRTE := 0x011
def pgCXLP := 0x012
def pgMBXC := 0x013
def pgDRAM := 0x020
def pgFAB := 0x040
def pgRUN := 0x054
def pgCLU := 0x060
def pgCORE := 0x064
def pgBASN := 0x080
def pgCISP := 0x0C0
def pgCMDQ := 0x100
def pgMBX := 0x200

/-- Page ranges with BLK_ID.TYPE (Table 22-1). -/
def pageTypes : List (Nat × Nat × Nat) :=
  [(0, 0, 1), (1, 1, 2), (2, 2, 3), (3, 3, 4), (4, 4, 5), (5, 5, 6), (6, 6, 7), (7, 7, 8), (8, 8, 9),
   (9, 9, 10), (10, 10, 11), (11, 11, 12), (12, 12, 13), (13, 13, 14), (14, 14, 15), (15, 15, 16),
   (16, 16, 17), (17, 17, 18), (18, 18, 19), (19, 19, 20)] ++
  [(0x20, 0x37, 0x20), (0x40, 0x53, 0x21), (0x54, 0x55, 0x22), (0x60, 0x63, 0x23), (0x64, 0x77, 0x24),
   (0x80, 0xBF, 0x25), (0xC0, 0xCF, 0x26), (0x100, 0x1FF, 0x30), (0x200, 0x23F, 0x31)]

/-- The page range that holds a page, with its type; none for an unassigned or private page (R21). -/
def pageRange (p : Nat) : Option (Nat × Nat × Nat) :=
  pageTypes.find? fun r => decide (r.1 ≤ p) && decide (p ≤ r.2.1)

/-- The page is assigned to a block that the host can reach (R21). -/
def assigned (p : Nat) : Bool := (pageRange p).isSome

/-- BLK_ID (Table 22-2). -/
def blkId (p : Nat) : Nat :=
  match pageRange p with
  | some (a, _, t) => t + (p - a) * 65536 + 0xB0 * 16777216
  | none => 0

/-- The page supports soft reset (Table 22-4). -/
def softResettable (p : Nat) : Bool :=
  (decide (0x40 ≤ p) && decide (p ≤ 0x55)) || (decide (0xC0 ≤ p) && decide (p ≤ 0xCF)) ||
  (decide (0x100 ≤ p) && decide (p ≤ 0x23F))

/-- HOST_INT (R490). -/
def hostInt (p : Nat) : Bool := assigned p && decide (p ≤ 0xFF)

/-! ## Reset domains (Table 22-1, Table 20-3) -/

/-- The reset domain of a page. -/
inductive RDom where
  | mgmt | aon | data | control | held
  deriving DecidableEq, Repr

/-- The reset domain of a page (Table 22-1). -/
def resetDomain (p : Nat) : RDom :=
  if p = 5 ∨ p = 7 ∨ p = 8 then .aon
  else if p ≤ 10 then .mgmt
  else if p = pgXLT ∨ p = pgALLOC ∨ p = pgMBXC then .control
  else if 0x20 ≤ p ∧ p ≤ 0x37 then .held
  else if 0x100 ≤ p then .control
  else .data

/-! ## The registers -/

/-- TOP, PWR, CLK, RST (Tables 22-6 and 20-11). -/
def regsTop : List RegD :=
  [reg1 pgTOP 0x100 [fRO 0 32], reg1 pgTOP 0x104 [fRO 0 32],
   reg1 pgTOP 0x108 [fRW 0 1, fRW 1 1 1, fRW 2 1 1],
   regA pgTOP pgTOP 0x110 8 [fRO 0 32],
   reg1 pgCLK 0x100 [fRO 0 1, fRO 1 1, fRO 2 1, fRO 3 1],
   reg1 pgRST 0x100 [fWO 0 2],
   reg1 pgRST 0x104 [fW1C 0 8],
   reg1 pgRST 0x108 [fRO 0 4, fRO 4 2, fRO 6 1, fRO 7 1],
   reg1 pgPWR 0x100 [fRW 0 2, fRW 2 8 100 80 110, fRW 10 8 95 70 105],
   regI pgPWR pgPWR 0x104 1 [fRW 0 10],
   reg1 pgPWR 0x108 [fRO 0 32 0xFFFFFFFF], reg1 pgPWR 0x10C [fRO 0 2],
   reg1 pgPWR 0x110 [fRO 0 8, fRO 8 1, fRO 9 1],
   reg1 pgPWR 0x114 [fRO 0 16]]

/-- PROF, PAIR, FWU (Tables 21-11, 17-14, 19-5). -/
def regsProf : List RegD :=
  [reg1 pgPROF 0x100 [fRO 0 2, fRO 2 2, fRO 4 1, fRO 5 1, fRO 6 1, fRO 7 1, fRO 8 1, fRO 9 1, fRO 10 4],
   reg1 pgPROF 0x104 [fRO 0 32],
   reg1 pgPAIR 0x100 [fRO 0 1, fRW 1 1 1, fRW 2 10 100 1 1000, fRW 12 10 500],
   reg1 pgPAIR 0x104 [fRW 0 16 1000 100 65535, fRW 16 8 20 10 255],
   reg1 pgPAIR 0x108 [fRO 0 3 3, fRO 3 3 7, fRO 6 1, fRO 7 1, fRO 8 1, fRO 16 16],
   reg1 pgPAIR 0x10C [fRO 0 32],
   reg1 pgPAIR 0x110 [fWO 0 2, fW1C 2 1],
   reg1 pgPAIR 0x114 [fRO 0 32],
   reg1 pgPAIR 0x118 [fRO 0 1, fRO 1 4, fRO 16 16],
   reg1 pgFWU 0x100 [fRO 0 3, fRO 8 8],
   regI pgFWU pgFWU 0x104 1 [fRW 0 4 1],
   reg1 pgFWU 0x108 [fRO 0 3, fRO 3 1, fRO 4 3],
   reg1 pgFWU 0x10C [fRO 0 32], reg1 pgFWU 0x110 [fRO 0 32],
   reg1 pgFWU 0x114 [fRO 0 16, fRO 16 16],
   reg1 pgFWU 0x118 [fRW 0 3 2 1 7, fRW 3 16],
   reg1 pgFWU 0x11C [fWO 0 2, fWO 2 4, fW1C 6 1, fW1C 7 1, fRO 8 3]]

/-- SEC, CTR, FLT (Tables 18-6, 21-10, 16-10). FLT.BANK_CFG.WINDOW_H is held
to 1 to 4,095 as ROW_CFG.WINDOW_H is: its row names no range (DESIGN CHOICE, log entry 94). -/
def regsSec : List RegD :=
  [regI pgSEC pgSEC 0x100 1 [fRW 0 13],
   regI pgSEC pgSEC 0x104 1 [fRW 0 31],
   regI pgSEC pgSEC 0x108 1 [fRW 0 31 0 1],
   regI pgSEC pgSEC 0x10C 1 [fRW 0 13 0 0 4352, fRW 13 10, fRW 23 1, fRW 24 1, fRW 25 1],
   reg1 pgSEC 0x110 [fWO 0 2, fW1C 2 1, fRO 3 3],
   regI pgSEC pgSEC 0x114 1 [fRW 0 11 0 0 1024],
   reg1 pgSEC 0x118 [fWO 0 2, fW1C 2 1, fRO 3 1],
   reg1 pgSEC 0x11C [fRO 0 2, fRO 2 11],
   reg1 pgSEC 0x120 [fRW 0 1, fRO 1 1],
   reg1 pgSEC 0x124 [fRO 0 2, fRO 2 2],
   reg1 pgCTR 0x100 [fRW 0 1 1], reg1 pgCTR 0x104 [fRO 0 32],
   regI pgCTR pgCTR 0x108 1 [fRW 0 6, fRW 6 11],
   regA pgCTR pgCTR 0x140 16 [fRO 0 32]] ++
  [reg1 pgFLT 0x100 [fRW 0 1 1, fRW 1 1 1],
   reg1 pgFLT 0x104 [fRW 0 16 1000 1 65535, fRW 16 8 64 1 255],
   reg1 pgFLT 0x108 [fRW 0 16 32, fRW 16 16 1000 1 65535],
   reg1 pgFLT 0x10C [fRW 0 16 16, fRW 16 16 1000 1 65535],
   reg1 pgFLT 0x110 [fRW 0 4 4 2 15, fRW 4 12 24 1 4095],
   reg1 pgFLT 0x114 [fRW 0 8 8 2 255, fRW 8 12 24 1 4095, fRW 20 4 3 2 4],
   reg1 pgFLT 0x118 [fRW 0 12],
   reg1 pgFLT 0x11C [fRO 0 12, fRO 12 13, fRO 25 1],
   regI pgFLT pgFLT 0x120 1 [fRW 0 12],
   regI pgFLT pgFLT 0x124 1 [fRW 0 6, fRW 6 2 0 0 2, fRW 8 1],
   reg1 pgFLT 0x128 [fRO 0 1, fWO 1 1, fRO 2 12],
   reg1 pgFLT 0x12C [fRW 0 24 2000 1 200000],
   reg1 pgFLT 0x130 [fRW 0 10 10 1 1023, fRO 10 10 0x100],
   reg1 pgFLT 0x134 [fWO 0 32],
   reg1 pgFLT 0x138 [fRO 0 5 16, fRO 5 7 64, fRO 12 6 40, fRO 18 3 4, fRO 21 1 1, fRO 22 2],
   reg1 pgFLT 0x13C [fRO 0 13 4096, fRO 13 5],
   regA pgFLT pgFLT 0x140 16 [fRO 0 32]]

/-- One class's row of WEIR registers (Tables 5-3, 5-5, 5-6). -/
def weirClass (n rate burst bound : Nat) : List RegD :=
  [reg1 pgWEIR (0x100 + 4 * n) [fRW 0 24 rate],
   reg1 pgWEIR (0x120 + 4 * n) [fRW 0 20 burst 4 1048575],
   reg1 pgWEIR (0x140 + 4 * n) [fRW 0 32 bound]]

/-- One class's WEIR.SC_CTRL register (Tables 5-3 and 5-6). -/
def weirCtrl (n fixed res form weight : Nat) : RegD :=
  reg1 pgWEIR (0x160 + 4 * n)
    [fRW 0 20 fixed, fRW 20 2 res 0 2, fRW 22 1 form, fRW 24 8 weight 1 255]

/-- WEIR (chapter 05). -/
def regsWeir : List RegD :=
  weirClass 0 2000 64 1500 ++ weirClass 1 20000 1024 4000 ++ weirClass 2 20000 1024 20000 ++
  weirClass 3 100000 16384 10000 ++ weirClass 4 200000 65536 10000 ++ weirClass 5 10000 4096 250000 ++
  weirClass 6 1000 1024 10000000 ++
  [weirCtrl 0 400 2 0 16, weirCtrl 1 500 1 0 8, weirCtrl 2 2000 1 0 8, weirCtrl 3 2000 1 1 4,
   weirCtrl 4 2000 1 1 8, weirCtrl 5 100000 0 0 2, weirCtrl 6 1000000 0 0 1,
   reg1 pgWEIR 0x17C [fRW 24 8 16 1 255]] ++
  [reg1 pgWEIR 0x180 [fRW 0 1, fRW 1 3 1 0 6],
   regI pgWEIR pgWEIR 0x184 1 [fRW 0 13 0 0 4352],
   reg1 pgWEIR 0x188 [fRW 0 7],
   regA pgWEIR pgWEIR 0x200 20 [fRW 0 8 24],
   reg1 pgWEIR 0x250 [fRW 0 8 20],
   regA pgWEIR pgWEIR 0x254 2 [fRW 0 8 24],
   regA pgWEIR pgWEIR 0x280 21 [fRW 0 10 10 10 1000, fRW 10 7 0 0 64, fWO 17 1, fRO 18 1, fW1C 19 1],
   regI pgWEIR pgWEIR 0x300 1 [fRW 0 5 0 0 20, fRW 5 6],
   reg1 pgWEIR 0x304 [fRW 0 24, fRW 24 8]]

/-- XLT, DIR, ALLOC (Tables 3-1, 3-2, 4-3 to 4-5, 4-9, 22-7). -/
def regsXlt : List RegD :=
  (rangeFrom 0 16).flatMap (fun n =>
    [reg1 pgXLT (0x100 + 8 * n)
       [fRWL 0 1, fRWL 1 1, fRWL 2 1, fRWL 3 6, fRWL 9 6, fRWL 15 1, fRWL 16 6, fRWL 22 1, fRWL 23 6,
        fRWL 29 2 0 0 2, fRWL 31 1],
     reg1 pgXLT (0x104 + 8 * n) [fRWL 0 6, fRWL 6 6 12, fRWL 12 6 40 1 40]]) ++
  [regI pgXLT pgXLT 0x180 1 [fRW 0 12],
   regI pgXLT pgXLT 0x184 4 [fRW 0 32],
   reg1 pgXLT 0x194 [fRW 0 5 16 0 16],
   regI pgDIR pgDIR 0x100 1 [fRW 0 8],
   reg1 pgDIR 0x104 [fRW 0 12, fRW 12 1, fRO 13 1, fRO 14 1, fRO 15 1],
   reg1 pgDIR 0x108 [fWO 0 8, fWO 8 2],
   reg1 pgDIR 0x10C [fRW 0 20 100 10 1000000],
   reg1 pgDIR 0x110 [fRO 0 2],
   reg1 pgALLOC 0x100 [fRW 0 12 640],
   reg1 pgALLOC 0x104 [fRO 0 17],
   regI pgALLOC pgALLOC 0x108 1 [fRW 0 10],
   regA pgALLOC pgALLOC 0x10C 5 [fRW 0 32],
   regA pgALLOC pgALLOC 0x120 5 [fRO 0 32]]

/-- TIER and CIS (Tables 6-8, 6-9). -/
def regsTier : List RegD :=
  [reg1 pgTIER 0x100 [fRW 0 20 1000 100 1000000, fRW 20 1],
   reg1 pgTIER 0x104 [fRW 0 16 32, fRW 16 16],
   reg1 pgTIER 0x108 [fRW 0 1, fRW 1 10 20, fRW 11 10 40],
   reg1 pgTIER 0x10C [fRW 0 24 4000 1 200000],
   reg1 pgTIER 0x110 [fRO 0 6 4, fRO 6 6 12, fRO 12 6 8, fRO 18 6 40],
   reg1 pgTIER 0x114 [fRO 0 32], reg1 pgTIER 0x118 [fRO 0 32], reg1 pgTIER 0x11C [fRO 0 32],
   reg1 pgTIER 0x120 [fRW 0 24 8000 1 200000],
   reg1 pgCIS 0x100 [fRW 0 1, fRW 1 7 16 1 64, fRW 8 10 30 1 1000],
   reg1 pgCIS 0x104 [fRWL 0 16],
   reg1 pgCIS 0x108 [fRWL 0 32], reg1 pgCIS 0x10C [fRWL 0 32],
   regA pgCIS pgCIS 0x140 16 [fRO 0 3, fRO 3 1, fRO 4 1]]

/-- RTE, CXLP, MBXC (Tables 12-8, 13-9, 13-5). -/
def regsRte : List RegD :=
  [reg1 pgRTE 0x100 [fRWL 0 8, fRW 8 12 1000 10 4095],
   reg1 pgRTE 0x104 [fRWL 0 12, fRWL 12 12, fRWL 24 1],
   regI pgRTE pgRTE 0x108 1 [fRW 0 12],
   reg1 pgRTE 0x10C [fRW 0 20, fRW 20 1], reg1 pgRTE 0x110 [fRW 0 20],
   reg1 pgRTE 0x114 [fRO 0 1, fRO 1 1, fRO 2 1, fRO 3 1, fRO 4 2 2],
   reg1 pgRTE 0x118 [fWO 0 12, fWO 12 2, fRO 14 1, fW1C 15 1],
   reg1 pgRTE 0x11C [fWO 0 12, fWO 12 2],
   regI pgRTE pgRTE 0x120 1 [fRW 0 8],
   reg1 pgRTE 0x124 [fRW 0 12, fRW 12 13 0 0 4096, fRW 25 1],
   regI pgRTE pgRTE 0x128 1 [fRW 0 12],
   reg1 pgRTE 0x12C [fRW 0 12, fRW 12 1],
   regA pgCXLP pgCXLP 0x100 4 [fRW 0 24],
   reg1 pgCXLP 0x110 [fRWL 0 16],
   reg1 pgCXLP 0x114 [fRO 0 1, fRO 1 1, fRO 2 1, fRO 3 1, fRO 4 4, fRO 8 1],
   reg1 pgCXLP 0x118 [fRO 0 32 0xFFFFFFFF],
   regI pgMBXC pgMBXC 0x100 1 [fRW 0 6],
   reg1 pgMBXC 0x104 [fRWL 0 13, fRWL 13 13, fRWL 26 1],
   reg1 pgMBXC 0x108 [fRO 0 32], reg1 pgMBXC 0x10C [fRO 0 32]]

/-- DRAM0–23 (Table 14-5). -/
def regsDram : List RegD :=
  [regP 0x20 0x37 0x100 [fRWL 0 2, fRWL 2 1],
   regP 0x20 0x37 0x104 [fRO 0 2, fRO 2 2, fRO 4 4, fRO 8 8, fRO 16 1, fRO 17 1],
   regP 0x20 0x37 0x108 [fRW 0 6 40, fRW 6 6 16, fRW 12 10 100],
   regP 0x20 0x37 0x10C [fRW 0 20 150], regP 0x20 0x37 0x110 [fRW 0 20 300],
   regA 0x20 0x37 0x114 3 [fRW 0 20 1000], regP 0x20 0x37 0x120 [fRW 0 20 5000],
   regP 0x20 0x37 0x124 [fRW 0 20 20000], regP 0x20 0x37 0x128 [fRW 0 20 2000],
   regP 0x20 0x37 0x12C [fRW 0 12 500, fRO 12 7],
   regI 0x20 0x37 0x130 1 [fRW 0 7, fRW 7 1, fRW 8 1],
   regP 0x20 0x37 0x134 [fRW 0 10],
   regP 0x20 0x37 0x138 [fRW 0 4, fWO 4 1],
   regI 0x20 0x37 0x13C 1 [fRW 0 17, fRW 17 2, fRW 19 3, fRW 22 1, fRW 23 1],
   regP 0x20 0x37 0x140 [fWO 0 2, fRO 2 1, fW1C 3 1, fRO 4 1, fRO 5 12, fRO 17 13]]

/-- FAB0–19 and RUN0–1 (Table 11-12). -/
def regsFab : List RegD :=
  [regP 0x40 0x53 0x100 [fRW 0 1, fRW 1 2 0 0 2, fWO 3 1, fRW 4 2, fRW 6 4 8 2 8, fRW 10 1 1],
   regP 0x54 0x55 0x100 [fRW 0 1, fRW 1 2 0 0 2, fWO 3 1, fRW 4 2 0 0 0, fRW 6 4 8 2 8, fRW 10 1 1],
   regP 0x40 0x55 0x104 [fRO 0 3, fRO 3 2, fRO 5 2, fRO 7 1, fRO 8 1, fRO 9 4 15, fRO 13 12],
   regP 0x40 0x53 0x108 [fRW 0 16 4000 500 65535, fRW 16 4 3 1 15, fRW 20 4 8, fRW 24 2 3 1 3, fRW 26 1 1],
   regP 0x54 0x55 0x108 [fRW 0 16 4000 500 65535, fRW 16 4 3 1 15, fRW 20 4 8, fRW 24 2 3 1 3],
   regP 0x40 0x55 0x10C [fRW 0 16 1024 1 65535, fRW 16 16 1000 1 65535],
   regP 0x40 0x55 0x110 [fRO 0 18],
   regP 0x40 0x55 0x114 [fRO 0 16, fRO 16 1]]

/-- CORE0–19 and BASN (Tables 10-5, 15-5). -/
def regsCore : List RegD :=
  (rangeFrom 0 20).map (fun c =>
    reg1 (0x64 + c) 0x100
      [fRO 0 2 (if c % 5 = 4 then 1 else 0), fRO 2 3 (c % 5), fRO 5 4, fRO 9 1 (if c % 5 = 4 then 1 else 0)]) ++
  (rangeFrom 0 16).map (fun n =>
    regP 0x80 0xBF (0x100 + 4 * n) [fRO 0 4 n, fRO 4 2, fRO 6 2, fRO 8 6]) ++
  [regP 0x80 0xBF 0x140 [fRO 0 4, fRO 4 2 2, fRO 6 2 1, fRO 8 6],
   regP 0x80 0xBF 0x144 [fWO 0 5, fWO 5 3, fRO 8 1, fW1C 9 1],
   regP 0x80 0xBF 0x148 [fRO 0 17]]

/-- CMDQ and MBX (Tables 7-1, 13-6). -/
def regsCmdq : List RegD :=
  [regP 0x100 0x1FF 0x100 [fRW 12 20], regP 0x100 0x1FF 0x104 [fRW 0 20],
   regP 0x100 0x1FF 0x108 [fRW 0 5 4 4 16, fRW 5 1, fRW 6 1, fRW 8 8],
   regP 0x100 0x1FF 0x10C [fRW 0 16], regP 0x100 0x1FF 0x110 [fRO 0 16],
   regP 0x100 0x1FF 0x114 [fRW 12 20], regP 0x100 0x1FF 0x118 [fRW 0 20],
   regP 0x100 0x1FF 0x11C [fRW 0 5 4 4 16, fRW 5 1, fRW 6 1, fW1C 7 1],
   regP 0x100 0x1FF 0x120 [fRW 0 12, fRW 12 2 0 0 2, fRW 14 8, fRW 22 10],
   regP 0x100 0x1FF 0x124 [fRW 0 16], regP 0x100 0x1FF 0x128 [fRO 0 16],
   regP 0x100 0x1FF 0x12C [fRW 0 10, fRW 10 13, fRW 23 1, fRW 24 1],
   regP 0x100 0x1FF 0x130 [fRW 0 12],
   regP 0x100 0x1FF 0x134 [fRO 0 13, fRO 13 1, fW1C 14 1, fW1C 15 1],
   regP 0x200 0x23F 0x100 [fWO 0 9, fWO 9 1, fWO 10 1], regP 0x200 0x23F 0x104 [fWO 0 1],
   regP 0x200 0x23F 0x108 [fRO 0 1, fRO 1 1, fRO 2 2 3, fRO 8 9, fRO 17 15],
   regP 0x200 0x23F 0x10C [fRO 0 32],
   regP 0x200 0x23F 0x110 [fRW 0 11, fRW 11 11, fRW 22 1, fRW 23 1],
   regA 0x200 0x23F 0x200 64 [fRW 0 32]]

/-- The common header and the counter window, on every assigned page (Tables 22-2 and 21-1). The fields
BLK_ID, BLK_CAP, BLK_STAT and the counter values are computed by the read. -/
def regsHeader : List RegD :=
  [regP 0 0xFFF 0x008 [fRO 0 1, fWO 1 1, fRWL 2 1],
   regP 0 0xFFF 0x010 [fW1C 0 31, fW1C 31 1],
   regP 0 0xFF 0x014 [fRW 0 32],
   regP 0 0xFFF 0x018 [fRO 0 32],
   regP 0 0xFFF 0x01C [fRO 0 12, fRO 31 1],
   regI 0 0xFFF 0x020 1 [fRW 0 5],
   regP 0x000 0x0FF 0x02C [fRO 0 6, fRWL 6 2 0 0 2, fRWL 8 10],
   regP 0x100 0x1FF 0x02C [fRO 0 6, fRWL 6 2 2 0 2, fRWL 8 10],
   regP 0x200 0xFFF 0x02C [fRO 0 6, fRWL 6 2 0 0 2, fRWL 8 10]]

/-- The registers of the block-specific part of a page. -/
def regsOfPage (p : Nat) : List RegD :=
  if p ≤ 3 then regsTop else if p ≤ 6 then regsProf else if p ≤ 10 then regsSec
  else if p = pgWEIR then regsWeir else if p = pgXLT ∨ p = pgDIR ∨ p = pgALLOC then regsXlt
  else if p = pgTIER ∨ p = pgCIS then regsTier else if p ≤ 0x13 then regsRte
  else if p ≤ 0x37 then regsDram else if p ≤ 0x55 then regsFab else if p ≤ 0xBF then regsCore
  else regsCmdq

/-- The register at an offset of a page. -/
def regDesc (p off : Nat) : Option RegD :=
  if assigned p then
    (if off < 0x100 then regsHeader else regsOfPage p).find? fun d =>
      decide (d.p0 ≤ p) && decide (p ≤ d.p1) && decide (d.off ≤ off) &&
      decide (off < d.off + 4 * d.cnt) && decide (off % 4 = 0)
  else none

/-- The reset value that a list of fields makes. -/
def resetOf (fs : List Field) : Nat := fs.foldl (fun acc f => acc + f.reset * 2 ^ f.lo) 0

/-- The reset value of the register at a BAR0 address (R493); 0 where there is none. -/
def regReset (addr : Nat) : Nat :=
  match regDesc (addr / 4096) (addr % 4096) with
  | some d => resetOf d.fields % 4294967296
  | none => 0

/-- What one field becomes under a write (Table 0-3, R9). -/
def writeField (locked : Bool) (old new : Nat) (f : Field) : Nat :=
  let x := fld new f.lo f.w
  let legal := decide (f.minv ≤ x) && decide (x ≤ f.maxv)
  match f.acc with
  | .rw => if legal then setFld old f.lo f.w x else old
  | .rwl => if legal && !locked then setFld old f.lo f.w x else old
  | .w1c => setFld old f.lo f.w (Nat.xor (fld old f.lo f.w) (Nat.land (fld old f.lo f.w) x))
  | .ro | .wo => old

/-- What a register becomes under a write: every field by its access code. -/
def writeFields (locked : Bool) (old new : Nat) (fs : List Field) : Nat :=
  fs.foldl (fun v f => writeField locked v new f) old

end Sys2Proof.Machine
end

