-- ==== Sys2Proof/Machine/State.lean ====
section
/-!
DEFINITION. The state of one QP-24, the reasons a step can stop, and the state at reset.
-/
namespace Sys2Proof.Machine

/-- Why the machine stops with a fault. -/
inductive Fault where
  /-- raised by RAIL_ORDER: a breach of the rail order of more than 20 ms leaves the part outside its
  ratings, and the spec gives no behaviour there (R444). Safe. -/
  | outsideRatings
  deriving DecidableEq, Repr

/-- Why the model has no next state for a command. -/
inductive Refusal where
  /-- raised by an arm of the dispatch whose meaning is not written. Safe. -/
  | notModelled (mnemonic : String)
  /-- raised by REGISTER_WRITE and WRITE32 when identity 0x002 writes a block-specific register of HHD:
  R484 says that Holhild's fuse and attestation commands stand there and gives none of them. Safe. -/
  | hhdRegister
  /-- raised by JTAG_TAP_ACCESS for an instruction other than IDCODE and BYPASS on an unlocked part: the spec
  names the instructions' existence and not what they do (R510). Safe. -/
  | jtagUnlocked
  deriving DecidableEq, Repr

/-- The state. -/
structure State where
  /-- device time in ns (R513). -/
  now : Nat := 0
  /-- running number of the free values drawn (log entry 8; the model's own field). -/
  fresh : Nat := 0
  /-- registers by BAR0 address; one that is not listed holds its reset value. -/
  regs : Tbl W32 := []
  /-- index and staging registers, once per identity, keyed id × 2^24 + address (R487). -/
  idx : Tbl W32 := []
  /-- pool memory by PA; a byte that is not listed reads 0 (R34). -/
  mem : Tbl Byte := []
  /-- poisoned lines with their codes (R356). -/
  poison : Tbl Nat := []
  alloc : AllocSt := {}
  xlt : XltSt := {}
  dir : DirSt := {}
  weir : WeirSt := {}
  tier : TierSt := {}
  cmd : CmdSt := {}
  route : RouteSt := {}
  fault : FaultSt := {}
  link : LinkSt := {}
  cxl : CxlSt := {}
  mbx : MbxSt := {}
  sec : SecSt := {}
  dram : DramSt := {}
  basin : BasinSt := {}
  pwr : PwrSt := {}
  pair : PairSt := {}
  fw : FwSt := {}
  ctr : CtrSt := {}
  side : SideSt := {}
  /-- counters, keyed page × 64 + index (chapter 21). -/
  counters : Tbl Nat := []
  /-- what has left the block, newest first. -/
  out : List Out := []
  /-- commands that wait, first in first out. -/
  pending : List Instr := []
  deriving DecidableEq, Repr

/-- The state right after reset. -/
def State.reset : State := {}

/-- The outcome type of a meaning. -/
abbrev Result := Host.Outcome State Fault Refusal

end Sys2Proof.Machine
end

