-- ==== Sys2Proof/Machine/Regs.lean ====
section
/-!
DEFINITION. Registers and their fields, outputs, free values, counters and interrupts (R490, R305).
-/
namespace Sys2Proof.Machine

/-! ## Registers -/

/-- BAR0 address of an offset on a page (R484). -/
def ra (page off : Nat) : Nat := page * 4096 + off

/-- The value a register holds. -/
def rd (s : State) (a : Nat) : Nat := ((tget s.regs a).map BitVec.toNat).getD (regReset a)

/-- The state with a register's value set; a value equal to the reset value is not listed. -/
def wr (s : State) (a v : Nat) : State :=
  { s with regs := tset (BitVec.ofNat 32 (regReset a)) s.regs a (BitVec.ofNat 32 v) }

/-- A field of a register. -/
def rf (s : State) (a lo w : Nat) : Nat := fld (rd s a) lo w

/-- The state with a field of a register set. -/
def wf (s : State) (a lo w x : Nat) : State := wr s a (setFld (rd s a) lo w x)

/-- A one-bit field. -/
def rb (s : State) (a lo : Nat) : Bool := decide (rf s a lo 1 = 1)

/-- The state with a one-bit field set. -/
def wb (s : State) (a lo : Nat) (b : Bool) : State := wf s a lo 1 (if b then 1 else 0)

/-- Key of a register that is kept per identity (R487). -/
def idKey (id a : Nat) : Nat := id * 16777216 + a

/-- An index or staging register of an identity. -/
def ri (s : State) (id a : Nat) : Nat := ((tget s.idx (idKey id a)).map BitVec.toNat).getD (regReset a)

/-- The state with an index or staging register of an identity set. -/
def wi (s : State) (id a v : Nat) : State :=
  { s with idx := tset (BitVec.ofNat 32 (regReset a)) s.idx (idKey id a) (BitVec.ofNat 32 v) }

/-- The lock of a page (R491). -/
def locked (s : State) (p : Nat) : Bool := rb s (ra p 0x008) 2

/-- Identities 0x010 to 0x014, the control processors. -/
def isCp (id : Nat) : Bool := decide (0x010 ≤ id) && decide (id ≤ 0x014)

/-- Identities 0x002 and 0x010 to 0x014. -/
def isFw (id : Nat) : Bool := decide (id = 2) || isCp id

/-- Something leaves the block. An NVMe command other than the power-state one brings an idle drive back to
operation (R460). -/
def put (s : State) (o : Out) : State :=
  match o with
  | .nvme d c =>
    { s with
      out := o :: s.out
      tier := { s.tier with drvIdle := if c = .sleep then s.tier.drvIdle else s.tier.drvIdle.erase d } }
  | _ => { s with out := o :: s.out }

/-- A free value, and the state that has drawn it (log entry 8). -/
def drawFree (s : State) : BitVec 64 × State := (Config.freeValue s.fresh, { s with fresh := s.fresh + 1 })

/-- Confidential mode is on (R422). -/
def confidential (s : State) : Bool := rb s (ra pgSEC 0x120) 0 || s.sec.confForce

/-! ## Counters (chapter 21) -/

/-- Add to a counter of a page; 48 bits, wrapping as R467 gives. -/
def count (s : State) (page i n : Nat) : State :=
  let k := page * 64 + i
  { s with counters := tset 0 s.counters k ((tgetD s.counters k 0 + n) % 2 ^ 48) }

/-- A counter's value. -/
def counter (s : State) (page i : Nat) : Nat := tgetD s.counters (page * 64 + i) 0

/-- Set a gauge. -/
def gauge (s : State) (page i v : Nat) : State :=
  { s with counters := tset 0 s.counters (page * 64 + i) (v % 2 ^ 48) }

/-! ## Interrupts -/

/-- MSI-X can be sent: enabled, Bus Master Enable 1, no function mask (Table 13-9). -/
def msixOpen (s : State) : Bool :=
  rb s (ra pgCXLP 0x114) 0 && rb s (ra pgCXLP 0x114) 1 && rb s (ra pgCXLP 0x114) 2 &&
  !rb s (ra pgCXLP 0x114) 3

/-- Raise an MSI-X vector: sent, or pending while masked or disabled (R305). -/
def msix (s : State) (v : Nat) : State :=
  if msixOpen s && s.cxl.vecOpen.contains v then put s (.msix v)
  else { s with cxl := { s.cxl with pba := insNat v s.cxl.pba } }

/-- The page has an enabled interrupt pending (R490). -/
def pageInt (s : State) (p : Nat) : Bool :=
  hostInt p && decide (Nat.land (rd s (ra p 0x010)) (rd s (ra p 0x014)) ≠ 0)

/-- Bring the summary bit of a page up to date; a rise interrupts the enabled destinations (R490). -/
def summarize (s : State) (p : Nat) : State :=
  let a := ra pgTOP (0x110 + 4 * (p / 32))
  if p ≤ 0xFF then
    let was := rb s a (p % 32)
    let is := pageInt s p
    let s := wb s a (p % 32) is
    if is && !was then
      let cfg := ra pgTOP 0x108
      let s := if rb s cfg 0 then msix s 0 else s
      if rb s cfg 1 || rb s cfg 2 then put s (.summary (rb s cfg 1) (rb s cfg 2)) else s
    else s
  else s

/-- Set a bit of BLK_ISR. -/
def setIsr (s : State) (p b : Nat) : State := summarize (wb s (ra p 0x010) b true) p

/-- Count `n` errors in BLK_ERR_CNT, which saturates, and set ERR_INC (Table 22-2). -/
def errInc (s : State) (p n : Nat) : State :=
  let a := ra p 0x018
  setIsr (wr s a (min 0xFFFFFFFF (rd s a + n))) p 31

/-! ## Serving state (chapter 17) -/

/-- PAIR.STAT.STATE: 0 ACTIVE, 1 STANDBY, 2 SYNCING, 3 FENCED, 4 SOLO. -/
def pairState (s : State) : Nat := rf s (ra pgPAIR 0x108) 0 3

/-- The controller serves: ACTIVE or SOLO (R295). -/
def serving (s : State) : Bool := decide (pairState s = 0) || decide (pairState s = 4)

end Sys2Proof.Machine
end

