-- ==== Sys2Proof/Machine/Sched.lean ====
section
/-!
DEFINITION. The controller's identifiers (R275, R276), the sizes of packets (R252), the schedulers' queues (R108, R109)
and the packets of the Runnel (R386 to R388).
-/
namespace Sys2Proof.Machine

/-! ## Identifiers -/

def ownEid (s : State) : Nat := rf s (ra pgRTE 0x104) 0 12
def svcEid (s : State) : Nat := rf s (ra pgRTE 0x104) 12 12
def paired (s : State) : Bool := rb s (ra pgRTE 0x104) 24

/-- The packet is delivered locally (R275). -/
def isLocal (s : State) (dest : Nat) : Bool :=
  decide (dest = ownEid s) || (paired s && decide (dest = svcEid s))

/-- SRC of the packets that the controller originates as home (R276). -/
def selfEid (s : State) : Nat := if paired s then svcEid s else ownEid s

/-- Page of a port: F0–F19 are 0–19, M0 and M1 are 20 and 21 here. -/
def portPage (p : Nat) : Nat := pgFAB + p

/-- Scheduler number of a port (R113): F0–F19 0–19, CXL 20, M0–M1 21–22, clusters 24–27. -/
def portSched (p : Nat) : Nat := if p < 20 then p else p + 1

/-! ## Sizes -/

/-- Header slots of a packet that the controller makes, less one: PUT kinds and WR_DATA carry a second slot (R284,
Table 4-6). -/
def hlen (p : Packet) : Nat :=
  if 4 ≤ p.ch then (if p.kind ≤ 1 then 1 else 0) else if p.code = 0x06 then 1 else 0

/-- Payload slots of a packet. -/
def plen (p : Packet) : Nat := ceilDiv p.data.length 16

/-- Slots of a packet: those received, or those that the controller makes of it. -/
def pktSlots (p : Packet) : Nat := if p.raw.isEmpty then hlen p + 1 + plen p else p.raw.length / 16

/-- Bytes of a packet with its header slots. -/
def pktBytes (p : Packet) : Nat := pktSlots p * 16

/-- Credit units of a packet (R252). -/
def pktUnits (p : Packet) : Nat := ceilDiv (pktSlots p) 4

/-! ## Schedulers -/

/-- WEIR.PORT_OVHp at a port, 0 at a cluster (R109). -/
def overhead (s : State) (sch : Nat) : Nat :=
  if sch ≤ 22 then rf s (ra pgWEIR (0x200 + 4 * sch)) 0 8 else 0

/-- Class weights and their sum (R108). -/
def weight (s : State) (c : Nat) : Nat := rf s (ra pgWEIR (0x160 + 4 * c)) 24 8
def weightSum (s : State) : Nat := ((rangeFrom 0 8).map (weight s)).sum

def sched (s : State) (sch : Nat) : Sched := tgetD s.weir.scheds sch {}
def setSched (s : State) (sch : Nat) (x : Sched) : State :=
  { s with weir := { s.weir with scheds := tset {} s.weir.scheds sch x } }

/-- a is later than b among 48-bit tags (R109). -/
def tagLater (a b : Nat) : Bool := decide (0 < (a + 2 ^ 48 - b) % 2 ^ 48) && decide ((a + 2 ^ 48 - b) % 2 ^ 48 < 2 ^ 47)

/-- The finish tag of a unit: max(V, F_prev) + (length + overhead) / weight, 8 fraction bits, rounded up (R109). -/
def finishTag (s : State) (sch cls len : Nat) : Nat :=
  let x := sched s sch
  let prev := nth x.fprev cls 0
  let base := if tagLater prev x.vtime then prev else x.vtime
  (base + ceilDiv ((len + overhead s sch) * 256) (max 1 (weight s cls))) % 2 ^ 48

/-- Egress queue depth gauge of a port's channel (Table 12-7). -/
def depthGauge (s : State) (sch : Nat) : State :=
  if 20 ≤ sch then s
  else (rangeFrom 0 12).foldl (fun s ch =>
    gauge s (pgFAB + sch) (10 + ch) (((sched s sch).units.filter fun u => u.pkt.ch = ch).map fun u =>
      pktUnits u.pkt).sum) s

/-- Queue a unit of work at a scheduler with its finish tag. -/
def enqueue (s : State) (sch : Nat) (u : WUnit) : State :=
  let t := finishTag s sch u.cls u.len
  let x := sched s sch
  depthGauge (setSched s sch { x with
    fprev := setNth x.fprev u.cls t, units := x.units ++ [{ u with tag := t }] }) sch

/-- Charge a request's length at a scheduler, or remove the charge (R106). -/
def chargeBacklog (s : State) (sch cls n : Nat) : State :=
  let k := sch * 8 + cls
  { s with weir := { s.weir with backlog := tset 0 s.weir.backlog k (tgetD s.weir.backlog k 0 + n) } }
def unchargeBacklog (s : State) (sch cls n : Nat) : State :=
  let k := sch * 8 + cls
  { s with weir := { s.weir with backlog := tset 0 s.weir.backlog k (tgetD s.weir.backlog k 0 - n) } }

/-! ## Runnel packets (R386 to R388, Tables 17-3 and 17-4) -/

/-- FAB.LINK_STAT.STATE of a port: 0 DOWN, 1 TRAINING, 2 ACTIVE, 3 RETRAIN, 4 WIDTH_CHANGE, 5 SWAP, 6 LOW_POWER,
7 FAILED. F0–F19 are 0–19, M0 and M1 20 and 21. -/
def linkState (s : State) (p : Nat) : Nat := rf s (ra (pgFAB + p) 0x104) 0 3

/-- A port is usable unless DOWN or FAILED (chapter 12). -/
def usable (s : State) (p : Nat) : Bool := decide (linkState s p ≠ 0) && decide (linkState s p ≠ 7)

/-- Bytes in whole slots. -/
def padSlots (bs : Bytes) : Bytes := bs ++ zeros (ceilDiv bs.length 16 * 16 - bs.length)

/-- MWR: a write of whole lines, or of the bytes of one line that a mask picks. -/
def runMwr (tag pa : Nat) (mask : Option (BitVec 64)) (pcode : Nat) (data : Bytes) : RunMsg :=
  { ch := 0, tag, pcode, data := padSlots data, hi := pa % 2 ^ 52 + (if mask.isSome then 2 ^ 52 else 0),
    more := mask.toList.map BitVec.toNat }

/-- MDIR for a line: its new STATE and OWNER, with the line's data and the sharers where they travel. -/
def runMdir (tag line st owner : Nat) (sharers : Option (BitVec 256)) (data : Option (Bytes × Nat)) : RunMsg :=
  { ch := 1, tag, pcode := (data.map Prod.snd).getD 0, data := (data.map Prod.fst).getD [],
    hi := line % 2 ^ 46 + st % 8 * 2 ^ 46 + owner % 256 * 2 ^ 49 + (if data.isSome then 2 ^ 57 else 0) +
      (if sharers.isSome then 2 ^ 58 else 0),
    more := match sharers with
      | some v => [v.toNat % 2 ^ 128, v.toNat / 2 ^ 128]
      | none => [] }

/-- The other changes of Table 17-5 travel on MDIR as one payload slot (log entry 22): 1 an agent is fenced (index,
TIMED_OUT), 2 a command entry is taken (queue, new HEAD, opcode, handle), 3 a sub-page enters CISTERN (sub-page,
frame), 4 it leaves (sub-page). -/
def runChange (tag kind : Nat) (words : List Nat) : RunMsg :=
  { ch := 1, tag, data := fitBytes 16 (natLe 1 kind ++ words.flatMap fun w => natLe 5 w) }

/-- MACK. -/
def runMack (tag : Nat) (dir : Bool) : RunMsg := { ch := 2, tag, hi := if dir then 1 else 0 }

/-- DELTA: TICK and OFFSET, with what travels at that place of the tick's delta. -/
def runDelta (tick off : Nat) (data : Bytes) : RunMsg :=
  { ch := 3, hi := tick % 2 ^ 32 + off % 2 ^ 32 * 2 ^ 32, data := padSlots data }

/-- CTL: the message code; what the message says is its payload (log entry 22). -/
def runCtl (code : Nat) (data : Bytes) : RunMsg := { ch := 4, hi := code, data := padSlots data }

/-- RELAY: a packet or a CXL.mem request as payload; TAG names the port that it reached (log entry 22). -/
def runRelay (port : Nat) (data : Bytes) : RunMsg := { ch := 5, tag := port, data := padSlots data }

/-- The slots of a Runnel packet (Table 11-4): its ends are the two controllers, its class SC7. -/
def runRaw (dest src : Nat) (m : RunMsg) : Bytes :=
  natLe 16 (dest + src * 0x1000 + m.ch * 0x1000000 + 7 * 0x10000000 + (if m.pcode = 0 then 0 else 2 ^ 31) +
    m.data.length / 16 * 2 ^ 32 + m.more.length * 2 ^ 41 + m.pcode % 16 * 2 ^ 43 + m.tag % 65536 * 2 ^ 48 +
    m.hi * 2 ^ 64) ++ (m.more.flatMap fun n => natLe 16 n) ++ m.data

/-- Bits of the first header slot, from 64 on, that a channel's packets use (Table 17-4). -/
def runUsed (ch : Nat) : Nat := nth [53, 59, 1, 64, 8] ch 0

/-- What a received Runnel packet says. -/
def runRead (p : Packet) : RunMsg :=
  let h := leNat (p.raw.take 16)
  let n := fld h 41 2
  { ch := fld h 24 4, tag := fld h 48 16, hi := fld h 64 (runUsed (fld h 24 4)),
    more := (rangeFrom 1 n).map fun k => leNat ((p.raw.drop (16 * k)).take 16),
    pcode := if h.testBit 31 then fld h 43 4 else 0, data := p.raw.drop (16 * (n + 1)) }

/-- Line data on MWR, MDIR and DELTA is ciphertext (R417): of it, the length. -/
def runShape (m : RunMsg) : RunMsg × Nat :=
  (if m.ch ≤ 1 ∨ m.ch = 3 then { m with data := [] } else m, if m.ch ≤ 1 ∨ m.ch = 3 then m.data.length else 0)

/-- Queue a Runnel packet at a mirror port's scheduler. -/
def runAt (s : State) (p : Nat) (m : RunMsg) : State :=
  let pkt : Packet :=
    { dest := rf s (ra (portPage p) 0x104) 13 12, src := ownEid s, ch := m.ch, sc := 7, tag := m.tag,
      raw := runRaw (rf s (ra (portPage p) 0x104) 13 12) (ownEid s) m }
  enqueue s (portSched p) { cls := 7, len := pktBytes pkt, pkt }

/-- Send a Runnel message: on M(k mod 2), or on the other port when that one is FAILED or DOWN (R388). MWR and MDIR are
remembered until their MACK. -/
def sendRunnel (s : State) (k : Nat) (m : RunMsg) : State :=
  let p := if usable s (20 + k % 2) then 20 + k % 2 else 21 - k % 2
  let s := if m.ch ≤ 1 then { s with pair := { s.pair with unacked := s.pair.unacked ++ [(p, m)] } } else s
  runAt s p m

/-- Packets that stand at a mirror port's scheduler go to the other port. -/
def moveRunnel (s : State) (p : Nat) : State :=
  let us := (sched s (portSched p)).units
  us.foldl (fun s u => enqueue s (portSched (41 - p)) u) (setSched s (portSched p) { sched s (portSched p) with units := [] })

/-- A mirror port has failed: what stands at it goes to the other port, and what the partner has not acknowledged of
what it carried is sent there again (R388). -/
def resendRunnel (s : State) (p : Nat) : State :=
  let waits := (sched s (portSched p)).units.map fun u => runRead u.pkt
  let lost := (s.pair.unacked.filter fun e => decide (e.1 = p) && !(waits.any fun m => m.ch = e.2.ch && m.tag = e.2.tag)).map
    Prod.snd
  let us := s.pair.unacked.map fun e => (if e.1 = p then 41 - p else e.1, e.2)
  lost.foldl (fun s m => runAt s (41 - p) m) (moveRunnel { s with pair := { s.pair with unacked := us } } p)

/-- The controller mirrors no longer: mirror packets that no flit carries are dropped. -/
def dropRunnel (s : State) : State :=
  let keep (u : WUnit) : Bool := u.pkt.ch = 2 || 4 ≤ u.pkt.ch
  let drop (s : State) (p : Nat) : State :=
    let x := sched s (portSched p)
    setSched s (portSched p) { x with units := x.units.filter keep }
  drop (drop { s with pair := { s.pair with unacked := [] } } 20) 21

end Sys2Proof.Machine
end

