-- ==== Sys2Proof/Machine/Ops.lean ====
section
/-!
DEFINITION. The shared operations over the block: mailbox posting (R315) and the fault queue (R373 to R377), over the
registers of Regs.lean and the schedulers of Sched.lean.
-/
namespace Sys2Proof.Machine

/-! ## Mailbox posting (R315, R316) -/

/-- The binding of a channel. -/
def mbxBind (s : State) (m : Nat) : MbxBind := tgetD s.mbx.binds m {}

/-- Wake a receiver or report empty to a sender (Table 13-7). -/
def mbxWake (s : State) (id vec : Nat) : State :=
  if id = 1 then msix s vec
  else if id = 3 then (if rb s (ra pgRST 0x108) 7 then s else put s (.reply 0x103 [] []))
  else put s (.summary (decide (id = 2)) (isCp id))

/-- The DATA bytes of a channel, `n` of them. -/
def mbxBytes (s : State) (m n : Nat) : Bytes :=
  ((rangeFrom 0 64).flatMap fun i => natLe 4 (rd s (ra (pgMBX + m) (0x200 + 4 * i)))).take n

/-- A Runnel mailbox packet: its channel's number, 0 for a message, 1 for an ACK or 2 for a key (R417), and the message
with its length (log entry 22). -/
def runMailbox (m kind : Nat) (bs : Bytes) : RunMsg :=
  runCtl 4 (fitBytes 16 (natLe 1 m ++ natLe 1 kind ++ natLe 2 bs.length) ++ bs)

/-- The wake event of a channel's message: for the partner, the Runnel mailbox packet with the message (R316). -/
def mbxWakeEvent (s : State) (m : Nat) : State :=
  let b := mbxBind s m
  let v := rd s (ra (pgMBX + m) 0x110)
  if b.receiver = 4 then sendRunnel s 0 (runMailbox m 0 (mbxBytes s m (rf s (ra (pgMBX + m) 0x108) 8 9)))
  else if fld v 23 1 = 1 then mbxWake s b.receiver (fld v 11 11) else s

/-- The empty interrupt of a channel: to the partner, the ACK that its message has been taken (Table 13-7). -/
def mbxEmptyInt (s : State) (m : Nat) : State :=
  let b := mbxBind s m
  let v := rd s (ra (pgMBX + m) 0x110)
  if b.sender = 4 then sendRunnel s 0 (runMailbox m 1 [])
  else if fld v 22 1 = 1 then mbxWake s b.sender (fld v 0 11) else s

/-- Post a message: FULL, LEN, SEQ, RETRACTED cleared, FULL_AGE started, the wake event (R315). -/
def mbxPost (s : State) (m len : Nat) : State :=
  let a := ra (pgMBX + m) 0x108
  let s := wf (wf (wf (wf s a 0 1 1) a 1 1 0) a 8 9 len) a 17 15 (rf s a 17 15 + 1)
  let s := wb s (ra pgMBXC (0x108 + 4 * (m / 32))) (m % 32) true
  mbxWakeEvent { s with mbx := { s.mbx with since := tput s.mbx.since m s.now } } m

/-- Clear FULL. -/
def mbxClear (s : State) (m : Nat) : State :=
  let s := wb s (ra (pgMBX + m) 0x108) 0 false
  let s := wb s (ra pgMBXC (0x108 + 4 * (m / 32))) (m % 32) false
  { s with mbx := { s.mbx with since := tdel s.mbx.since m } }

/-- The DATA bytes of a channel replaced. -/
def mbxData (s : State) (m : Nat) : Nat → Bytes → Nat → State
  | 0, _, _ => s
  | n + 1, bs, i =>
    mbxData (wr s (ra (pgMBX + m) (0x200 + 4 * i)) (leNat (bs.take 4))) m n (bs.drop 4) (i + 1)

/-! ## The fault queue -/

/-- The 64 bytes of an entry (Table 16-6). -/
def faultBytes (e : FaultEntry) : Bytes :=
  natLe 8 e.time ++ natLe 2 e.source ++ natLe 1 (e.sev + if e.summary then 4 else 0) ++ natLe 1 e.cls ++
  natLe 4 e.count ++ natLe 2 e.dom ++ natLe 1 e.pcode ++ natLe 1 e.status ++ natLe 4 e.handle ++
  natLe 8 e.loc ++ natLe 32 e.detail

/-- The control processors in service. -/
def cpRole (s : State) (n : Nat) : Nat := fld (rf s (ra pgFLT 0x130) 10 10) (2 * n) 2

/-- A record of a CXL event log (R312); a full log discards and counts. -/
def cxlRecord (s : State) (log kind arg : Nat) : State :=
  let l := tgetD s.cxl.logs log {}
  let l' : CxlLog :=
    if l.records.length < 64 then
      { l with records := l.records ++ [⟨l.nextHandle, kind, arg, s.now⟩], nextHandle := l.nextHandle + 1 }
    else { l with overflow := true, lost := l.lost + 1 }
  let s := { s with cxl := { s.cxl with logs := tput s.cxl.logs log l' } }
  if nth s.cxl.policy log 0 = 1 ∧ l.records.length < 64 then msix s 1 else s

/-- Send the oldest unsent FATAL entry on channel 63 when it is free (R377). -/
def sendFatal (s : State) : State :=
  match s.fault.fatals with
  | [] => s
  | e :: rest =>
    if rb s (ra (pgMBX + 63) 0x108) 0 || s.fault.inFlight then s
    else
      let s := mbxData s 63 16 (faultBytes e) 0
      mbxPost { s with fault := { s.fault with fatals := rest, inFlight := true } } 63 64

/-- Write a record into the ring at Q_TAIL (R373). -/
def faultPut (s : State) (e : FaultEntry) : State :=
  let f := s.fault
  let i := f.tail
  let s := { s with fault := { f with ring := tput f.ring i e, tail := (i + 1) % 4096, used := f.used + 1 } }
  let s := wr s (ra pgFLT 0x11C) (s.fault.tail + s.fault.used * 4096 +
    (if s.fault.ovf.isEmpty then 0 else 33554432))
  let p := e.source % 4096
  let s := if assigned p then wr s (ra p 0x01C) (i + 2147483648) else s
  let s := if p = pgCXLP then cxlRecord s (min 3 e.sev) 0 e.loc else s
  if s.fault.used = 2049 then setIsr s pgFLT 1 else s

/-- A record that found no entry: its class's overflow slot (R376). -/
def faultOvf (s : State) (e : FaultEntry) : State :=
  let o : OvfSlot :=
    match tget s.fault.ovf e.cls with
    | some o => { o with count := (o.count + e.count) % 2 ^ 48, last := e, sev := max o.sev e.sev }
    | none => ⟨e.count, e, e, e.sev⟩
  let s := { s with fault := { s.fault with ovf := tput s.fault.ovf e.cls o } }
  wb s (ra pgFLT 0x11C) 25 true

/-- Fold an event into its source's and class's summary count (R375). -/
def faultFold (s : State) (e : FaultEntry) : State :=
  let k := e.source * 64 + e.cls
  let old := tgetD s.fault.folded k (0, e.sev)
  count { s with fault := { s.fault with
    folded := tput s.fault.folded k (old.1 + 1, max old.2 e.sev) } } pgFLT 3 1

/-- A PlatformEventMessage to the event receiver, if one is set (R477). -/
def platformEvent (s : State) (words : List Nat) : State :=
  match s.side.receiver with
  | some r => put s (.reply 0x5020A (r :: words) [])
  | none => s

/-- The FATAL side of an event: ALERT_N, PENDING, channel 63 (R377), the event message (R477); no image confirms itself
after it (R436). -/
def fatalAlert (s : State) (e : FaultEntry) : State :=
  let s := platformEvent { s with fw := { s.fw with since := [] } } [e.source, e.sev, e.cls]
  let a := ra pgFLT 0x128
  let s := wf (wb s a 0 true) a 2 12 (min 4095 (rf s a 2 12 + 1))
  let s := put s (.pin "ALERT_N" false)
  sendFatal { s with fault := { s.fault with fatals := s.fault.fatals ++ [e] } }

/-- Raise an event (R375): by source rate, occupancy and severity it is written, folded, or overflows. In confidential
mode the TIME of an INFO or WARN event is rounded down to 1 ms (Table 18-4). -/
def event (s : State) (e : FaultEntry) : State :=
  let e := { e with time := if confidential s && decide (e.sev ≤ 1) then s.now / 1000000 * 1000000 else s.now }
  let s := if 2 ≤ e.sev then { s with fault := { s.fault with errors := s.fault.errors + 1 } } else s
  if e.sev = 3 then
    let s := fatalAlert s e
    if s.fault.used < 4096 then faultPut s e else faultFold s e
  else
    let miss := tgetD s.fault.missing e.source 0
    if rf s (ra pgFLT 0x104) 16 8 ≤ miss then faultFold s e
    else
      let s := { s with fault := { s.fault with missing := tput s.fault.missing e.source (miss + 1) } }
      if 3072 < s.fault.used ∧ e.sev = 0 then faultFold s e
      else if 3686 < s.fault.used ∧ e.sev = 1 then faultFold s e
      else if 4032 ≤ s.fault.used then faultFold s e
      else faultPut s e

/-- The event severities and classes of Tables 16-6 and 16-7. -/
def sevInfo := 0
def sevWarn := 1
def sevError := 2
def sevFatal := 3
def clDramCe := 0x01
def clDramUe := 0x02
def clRowLasting := 0x03
def clDramChannel := 0x04
def clBasinCe := 0x05
def clBasinUe := 0x06
def clBankLasting := 0x07
def clPoison := 0x08
def clCistern := 0x09
def clLink := 0x0A
def clCoherence := 0x0B
def clEngine := 0x0C
def clSuspect := 0x0D
def clBound := 0x0E
def clReserve := 0x0F
def clCp := 0x10
def clQueue := 0x11
def clPair := 0x12
def clConfig := 0x13
def clDatapath := 0x14

/-- An event with no more than its source, severity, class and location. -/
def eventAt (s : State) (page sev cls loc : Nat) : State :=
  event s { source := page, sev, cls, loc }

/-- Use of a reserve: an INFO event, after a WARN event when the kind falls to zero (R372, Table 5-13). -/
def reserveEvent (s : State) (page loc left : Nat) : State :=
  let s := if left = 0 then eventAt s page sevWarn clReserve loc else s
  eventAt s page sevInfo clReserve loc

/-! ## Results -/

/-- Shorthand for a next state. -/
def ok (s : State) : Result := .next s

/-- Run a change only where a condition holds; otherwise nothing happens (log entry 2). -/
def guarded (c : Bool) (s : State) (f : State → State) : Result := .next (if c then f s else s)

end Sys2Proof.Machine
end

