-- ==== Sys2Proof/Machine/Memory.lean ====
section
/-!
DEFINITION. Pool memory: bindings (R410), regions and their views (R26, R45), units and frames (R34 to R36,
R120, R323), bytes and poison (R356 to R358).
-/
namespace Sys2Proof.Machine

/-! ## Quotas and units -/

/-- A quota's charge and limit (Table 2-1): k = 0 REGIONS, 1 SIZE, 2 BACKED, 3 PIN_DRAM, 4 PIN_BASIN. -/
def charge (s : State) (dom k : Nat) : Nat := tgetD s.alloc.charges (dom * 8 + k) 0
def limit (s : State) (dom k : Nat) : Nat := tgetD s.alloc.limits (dom * 8 + k) 0

/-- The charge may rise by `n`. -/
def quotaOk (s : State) (dom k n : Nat) : Bool :=
  decide (n = 0) || decide (charge s dom k + n ≤ limit s dom k)

/-- Raise or lower a charge. -/
def chargeAdd (s : State) (dom k n : Nat) : State :=
  { s with alloc := { s.alloc with
    charges := tset 0 s.alloc.charges (dom * 8 + k) (charge s dom k + n) } }
def chargeSub (s : State) (dom k n : Nat) : State :=
  { s with alloc := { s.alloc with
    charges := tset 0 s.alloc.charges (dom * 8 + k) (charge s dom k - n) } }

/-- CIS.DRV_STATd.STATE. -/
def drvState (s : State) (d : Nat) : Nat := rf s (ra pgCIS (0x140 + 4 * d)) 0 3

def setDrv (s : State) (d st : Nat) : State := wf s (ra pgCIS (0x140 + 4 * d)) 0 3 st

/-- CIS.SPARE names a drive as a hot spare (R138). -/
def spareMask (s : State) (d : Nat) : Bool := bitN (rd s (ra pgCIS 0x104)) d

/-- Drives that are ACTIVE. -/
def activeDrives (s : State) : List Nat := (rangeFrom 0 16).filter fun d => drvState s d = 2

/-- Frames in use on a drive. -/
def drvUsed (s : State) (d : Nat) : Nat := (s.tier.cisUsed.filter fun f => f / 0x10000000 = d).length

/-- Bring a drive into step with SPARE_MASK: a spare holds no frames, so an ACTIVE drive that the mask names takes no more
and becomes one once it holds none; a spare that the mask no longer names becomes ACTIVE (R138). -/
def spareStep (s : State) (d : Nat) : State :=
  if drvState s d = 2 ∧ spareMask s d ∧ drvUsed s d = 0 then setDrv s d 3
  else if drvState s d = 3 ∧ ¬ spareMask s d then setDrv s d 2
  else s

/-- Free frames of a drive. -/
def drvFree (s : State) (d : Nat) : Nat := tgetD s.tier.drvFrames d 0 - drvUsed s d

/-- The node's units (R120). -/
def nodeUnits (s : State) : Nat :=
  (s.tier.dramFrames + ((activeDrives s).map fun d => tgetD s.tier.drvFrames d 0).sum) / 32

/-- Backed pages, staging copies and replaced versions included. -/
def backedPages (s : State) : Nat :=
  (s.tier.pages.filter fun e => e.2.backed).length + (s.alloc.staging.map fun v => v.pages.length).sum +
  (s.alloc.old.map fun v => v.pages.length).sum

/-- Units reserved and not yet taken (R35). -/
def reservedUnits (s : State) : Nat := (s.alloc.regions.map fun e => e.2.unitsLeft).sum

/-- The count of unreserved units (R120). -/
def unitsFree (s : State) : Nat := nodeUnits s - (backedPages s + reservedUnits s)

/-- Free DRAM frames. -/
def dramFree (s : State) : Nat := s.tier.dramFrames - s.tier.dramUsed.length

/-! Bytes, lines and sub-pages of a staging or replaced version are numbered beyond those of pool memory: sub-page
`key × 2^36 + q`, line `key × 2^46 + line` and byte `key × 2^52 + PA`; key 0 is the current view (R45, R46, R50). -/

/-- The PA sub-page, and the pool page, of a numbered sub-page. -/
def subBase (q : Nat) : Nat := q % 2 ^ 36
def pageOfSub (q : Nat) : Nat := subBase q / 32

/-- The sub-page q of a version. -/
def subIn (key q : Nat) : Nat := key * 2 ^ 36 + q

/-- The sub-page record of a sub-page. -/
def subRec (s : State) (q : Nat) : SubRec := tgetD s.tier.subs q {}

/-- Set a sub-page record; a DRY one is not listed. -/
def setSub (s : State) (q : Nat) (r : SubRec) : State :=
  { s with tier := { s.tier with subs := tset {} s.tier.subs q r } }

/-- The page record of a pool page. -/
def pageRec (s : State) (p : Nat) : PageRec := tgetD s.tier.pages p {}

/-- Set a page record; an empty one is not listed. -/
def setPage (s : State) (p : Nat) (r : PageRec) : State :=
  { s with tier := { s.tier with pages := tset {} s.tier.pages p r } }

/-- A sub-page of the current view lies in a run of pages. -/
def inPages (base pages q : Nat) : Bool := decide (base * 32 ≤ q) && decide (q < (base + pages) * 32)

/-- DRAM frames that a region's sub-pages hold, and that its promotions in flight are filling. -/
def regionFrames (s : State) (r : Region) : Nat :=
  (s.tier.subs.filter fun e => inPages r.base r.size e.1 && (decide (e.2.state = 1) || decide (e.2.state = 2))).length +
  (s.tier.moves.filter fun m => inPages r.base r.size m.sub && decide (m.kind = .promote)).length

/-- DRAM frames promised to regions that reserve DRAM units and not yet taken (R132). -/
def dramPromised (s : State) : Nat :=
  (s.alloc.regions.map fun e =>
    if e.2.dramUnits then e.2.size * 32 - regionFrames s e.2 else 0).sum

/-- DRAM frames that a taker without a promise may use. -/
def dramAvail (s : State) : Nat := dramFree s - dramPromised s

/-! ## Frames -/

/-- Channel that carries frame f of a 64 KiB stripe (R322). -/
def frameChannel (f : Nat) : Nat :=
  let st := f / 24
  (f % 24 + Nat.xor (fld st 0 8) (Nat.xor (fld st 8 8) (fld st 16 8)) % 24) % 24

/-- Channel of every frame of a pool page of GRAIN 2 MiB (R323). -/
def pageChannel (pg : Nat) : Nat :=
  Nat.xor (fld pg 0 8) (Nat.xor (fld pg 8 8) (Nat.xor (fld pg 16 8) (fld pg 24 7))) % 24

/-- The grain code of a region's stripes: 2 MiB regions use 64 KiB stripes. -/
def stripeGrain (g : Nat) : Nat := min g 3

/-- The lowest number that a rising list skips, counted from `n`. -/
def firstGap : List Nat → Nat → Nat
  | [], n => n
  | x :: xs, n => if x = n then firstGap xs (n + 1) else if x < n then firstGap xs n else n

/-- The first free frame of a stripe that satisfies a test. -/
def stripeFree (s : State) (st : Nat) (p : Nat → Bool) : Option Nat :=
  (rangeFrom (24 * st) 24).find? fun f =>
    decide (f < s.tier.dramFrames) && !s.tier.dramUsed.contains f && p f

/-- The stripes that hold a frame in use, rising. -/
def usedStripes (s : State) : List Nat := (s.tier.dramUsed.map fun f => f / 24).eraseDups

/-- The grain of a stripe that holds a frame in use. -/
def grainOf (s : State) (st : Nat) : Nat := tgetD s.tier.grains st 3

/-- A free DRAM frame for a sub-page of a region's grain: one that meets R323's preference, with false, or
the lowest free frame, with true (log entry 9). -/
def pickFrame (s : State) (grain q : Nat) : Option (Nat × Bool) :=
  let p : Nat → Bool := fun f => decide (grain ≠ 4) || decide (frameChannel f = pageChannel (pageOfSub q))
  let us := usedStripes s
  let same := us.findSome? fun st =>
    if grainOf s st = stripeGrain grain then stripeFree s st p else none
  match same with
  | some f => some (f, false)
  | none =>
    match stripeFree s (firstGap us 0) p with
    | some f => some (f, false)
    | none =>
      let f := firstGap s.tier.dramUsed 0
      if f < s.tier.dramFrames then some (f, true) else none

/-- Take a DRAM frame. -/
def takeFrame (s : State) (grain q : Nat) : Option (Nat × State) :=
  match pickFrame s grain q with
  | none => none
  | some (f, fb) =>
    let st := f / 24
    let fresh := !(usedStripes s).contains st
    let s := { s with tier := { s.tier with
      dramUsed := insNat f s.tier.dramUsed,
      grains := if fresh then tput s.tier.grains st (stripeGrain grain) else s.tier.grains } }
    let s := if fb then count s pgTIER 6 1 else s
    some (f, wr s (ra pgTIER 0x114) (dramFree s))

/-- Return a DRAM frame. -/
def freeFrame (s : State) (f : Nat) : State :=
  let s := { s with tier := { s.tier with dramUsed := s.tier.dramUsed.erase f } }
  let s := if (usedStripes s).contains (f / 24) then s
    else { s with tier := { s.tier with grains := tdel s.tier.grains (f / 24) } }
  wr s (ra pgTIER 0x114) (dramFree s)

/-- Free Cistern frames on ACTIVE drives. -/
def cisFree (s : State) : Nat := ((activeDrives s).map (drvFree s)).sum

/-- The ACTIVE drive with the most free frames, the lowest at equal counts (R129); a drive whose preempt is
outstanding takes no command (R139). -/
def pickDrive (s : State) : Option Nat :=
  ((activeDrives s).filter fun d => !s.tier.preempt.contains d && !spareMask s d).foldl (fun acc d =>
    if drvFree s d = 0 then acc
    else match acc with
      | none => some d
      | some b => if drvFree s b < drvFree s d then some d else some b) none

/-- Drive number, and frame number on the drive, of a Cistern frame. -/
def frameDrive (f : Nat) : Nat := f / 0x10000000
def frameNum (f : Nat) : Nat := f % 0x10000000

/-- First LBA of a frame of a drive, and the LBA of its group's metadata block (R135). -/
def frameLba (k : Nat) : Nat := k / 32 * 513 + 1 + k % 32 * 16
def metaLba (k : Nat) : Nat := k / 32 * 513

/-- A command for a drive: while the drive's preempt is outstanding it waits (R139). -/
def issueNvme (s : State) (d : Nat) (c : NvmeCmd) : State :=
  if s.tier.preempt.contains d then { s with tier := { s.tier with later := s.tier.later ++ [(d, c)] } }
  else put s (.nvme d c)

/-- Read a Cistern frame into a DRAM frame; write a DRAM frame, or the data of a request, to a Cistern frame; deallocate
one (R128, R129, R131, R135). -/
def readCis (s : State) (f dram : Nat) : State :=
  issueNvme s (frameDrive f) (.read (frameLba (frameNum f)) 16 (dram * 65536))
def writeCis (s : State) (f : Nat) (dram : Option Nat) : State :=
  issueNvme s (frameDrive f) (.write (frameLba (frameNum f)) 16 (dram.map (· * 65536)))
def deallocCis (s : State) (f : Nat) : State :=
  issueNvme s (frameDrive f) (.deallocate (frameLba (frameNum f)) 16)

/-- A direct write or a deallocate of a frame is under way, or is so no longer. -/
def setIo (s : State) (f : Nat) (io : Option Bool) : State :=
  { s with tier := { s.tier with io := match io with
      | some b => tput s.tier.io f b
      | none => tdel s.tier.io f } }

/-- Take the lowest free frame of the chosen drive. -/
def takeCis (s : State) : Option (Nat × State) :=
  match pickDrive s with
  | none => none
  | some d =>
    let f := d * 0x10000000 + firstGap ((s.tier.cisUsed.filter fun f => f / 0x10000000 = d).map fun f => f % 0x10000000) 0
    let s := setIo { s with tier := { s.tier with
      cisUsed := insNat f s.tier.cisUsed, gens := tput s.tier.gens f (tgetD s.tier.gens f 0 + 1) } } f none
    some (f, wr s (ra pgTIER 0x118) (cisFree s))

/-- Return a Cistern frame with a deallocate to its drive (R128). -/
def freeCis (s : State) (f : Nat) : State :=
  let s := { s with tier := { s.tier with cisUsed := s.tier.cisUsed.erase f } }
  let s := spareStep (count (setIo (deallocCis s f) f (some false)) (pgCISP + frameDrive f) 5 1) (frameDrive f)
  wr s (ra pgTIER 0x118) (cisFree s)

/-- CACHE frames of the partition (R117, R123). -/
def cacheFrames (s : State) : Nat := rf s (ra pgTIER 0x110) 18 6 * 1024

/-- Take the lowest free CACHE frame. -/
def takeCache (s : State) : Option (Nat × State) :=
  let f := firstGap s.tier.cacheUsed 0
  if f < cacheFrames s then
    let s := { s with tier := { s.tier with cacheUsed := insNat f s.tier.cacheUsed } }
    some (f, wr s (ra pgTIER 0x11C) (cacheFrames s - s.tier.cacheUsed.length))
  else none

/-- Return a CACHE frame. -/
def freeCache (s : State) (f : Nat) : State :=
  let s := { s with tier := { s.tier with cacheUsed := s.tier.cacheUsed.erase f } }
  wr s (ra pgTIER 0x11C) (cacheFrames s - s.tier.cacheUsed.length)

/-- Release what a sub-page record holds. -/
def releaseRec (s : State) (r : SubRec) : State :=
  match r.state with
  | 1 => freeFrame s r.frame
  | 2 => freeCache (freeFrame s r.frame) r.cache
  | 3 => freeCis s r.frame
  | _ => s

/-! ## Bindings and regions -/

/-- The binding of a requester for a PA with the permissions needed (R410). -/
def bindingOf (s : State) (req pa : Nat) (needR needW : Bool) : Option Binding :=
  (s.sec.binds.find? fun e =>
    decide (e.2.req = req) && decide (e.2.base ≤ pageOf pa) && decide (pageOf pa < e.2.base + e.2.pages)).bind
    fun e => if (needR && !e.2.rd) || (needW && !e.2.wr) then none else some e.2

/-- Where a PA falls: the region, its index, the view and the PA in the current view (R45). -/
structure Place where
  idx : Nat
  reg : Region
  staging : Bool
  pa : Nat
  deriving DecidableEq, Repr

/-- The live region that holds a PA, in either view (R26, R45). -/
def placeOf (s : State) (pa : Nat) : Option Place :=
  s.alloc.regions.findSome? fun e =>
    let r := e.2
    let p := pageOf pa
    if r.base ≤ p ∧ p < r.base + r.size then some ⟨e.1, r, false, pa⟩
    else if r.versioned ∧ r.base + r.max ≤ p ∧ p < r.base + r.max + r.size then
      some ⟨e.1, r, true, pa - r.max * 2097152⟩
    else none

/-- The place's page is one that a shrinking RESIZE removes (Table 2-5). -/
def pageShrinking (pl : Place) : Bool :=
  decide (pl.reg.shrinking ≠ 0) && decide (pl.reg.base + pl.reg.shrinkTo ≤ pageOf pl.pa)

/-- The place's page is being freed: by FREE, or by a shrinking RESIZE of the pages it removes (R42, Table 2-5). -/
def pageFreeing (pl : Place) : Bool := pl.reg.freeing || pageShrinking pl

/-- A requester's access to a PA: the place, where the binding and the region's domain allow it (R26, R410). -/
def permitted (s : State) (req pa : Nat) (needR needW : Bool) : Option Place :=
  match bindingOf s req pa needR needW, placeOf s pa with
  | some b, some pl => if pl.reg.dom = b.dom then some pl else none
  | _, _ => none

/-- The handle of a region (R32). -/
def handleOf (idx : Nat) (r : Region) : Nat := r.gen * 65536 + idx

/-- The region that a handle names, if it is the live generation (R32). -/
def regionOf (s : State) (h : Nat) : Option Region :=
  (tget s.alloc.regions (h % 65536)).bind fun r => if r.gen = h / 65536 then some r else none

/-- Replace a region. -/
def setRegion (s : State) (idx : Nat) (r : Region) : State :=
  { s with alloc := { s.alloc with regions := tput s.alloc.regions idx r } }

/-! ## Views and bytes -/

/-- The staging version of an identity (R46). -/
def stagingOf (s : State) (idx ident : Nat) : Option Staging :=
  s.alloc.staging.find? fun v => v.region = idx && v.ident = ident

/-- The sub-page that a reader of a place sees: its own staged one, the one that a tile's version holds (R50), or the
current one. `serial` is the assignment serial of a tile, none for any other reader. -/
def viewSub (s : State) (pl : Place) (ident : Nat) (serial : Option Nat) : Nat :=
  let q := subOf pl.pa
  let cur := ((serial.bind fun n => s.alloc.old.find? fun v =>
    v.region = pl.idx && decide (n < v.serial) && v.subs.contains q).map fun v => subIn v.key q).getD q
  if pl.staging then
    (((stagingOf s pl.idx ident).filter fun v => v.subs.contains q).map fun v => subIn v.key q).getD cur
  else cur

/-- The line that a reader of a place sees (R45, R46, R50). -/
def viewLine (s : State) (pl : Place) (ident : Nat) (serial : Option Nat) : Nat :=
  viewSub s pl ident serial * 1024 + lineOf pl.pa % 1024

/-- The PA of a line: that of the current line for a staged or replaced one. -/
def paOfLine (line : Nat) : Nat := line % 2 ^ 46 * 64

/-- One byte of memory. -/
def byteAt (s : State) (a : Nat) : Byte :=
  if a < 2 ^ 52 then tgetD s.mem a 0 else tgetD s.alloc.store a 0

/-- `n` bytes of memory from an address. -/
def bytesAt (s : State) (a n : Nat) : Bytes := (rangeFrom a n).map (byteAt s)

/-- Set one byte; the canonical form lists no zero. -/
def setByte (s : State) (a : Nat) (b : Byte) : State :=
  if a < 2 ^ 52 then { s with mem := tset 0 s.mem a b }
  else { s with alloc := { s.alloc with store := tset 0 s.alloc.store a b } }

/-- Set a run of bytes. -/
def setBytes (s : State) (a : Nat) : Bytes → State
  | [] => s
  | b :: bs => setBytes (setByte s a b) (a + 1) bs

/-- The poison code of a line, 0 for none. -/
def poisonAt (s : State) (line : Nat) : Nat :=
  if line < 2 ^ 46 then tgetD s.poison line 0 else tgetD s.alloc.storePoison line 0

/-- Mark a line, or clear its mark with code 0. -/
def setPoison (s : State) (line code : Nat) : State :=
  if line < 2 ^ 46 then { s with poison := tset 0 s.poison line code }
  else { s with alloc := { s.alloc with storePoison := tset 0 s.alloc.storePoison line code } }

/-- Some line of a sub-page is poisoned. -/
def subPoisoned (s : State) (q : Nat) : Bool :=
  (if q < 2 ^ 36 then s.poison else s.alloc.storePoison).any fun e => decide (e.1 / 1024 = q)

/-- The code that a supplied poison code is stored with (R356). -/
def storedCode (c : Nat) : Nat := if 1 ≤ c ∧ c ≤ 9 then c else 7

/-- Write the masked bytes of one line, with R358's rule for its mark: a poisoned write marks it, a full
write clears it, a partial one leaves it. -/
def writeLine (s : State) (line : Nat) (data : Bytes) (mask : Nat) (pcode : Nat) : State :=
  let old := bytesAt s (line * 64) 64
  let s := setBytes s (line * 64) (mergeMask 64 old data mask)
  if pcode ≠ 0 then setPoison s line pcode
  else if mask = 2 ^ 64 - 1 then setPoison s line 0 else s

/-- A run of bytes cut at line boundaries: (line, 64 bytes, mask), `n` at most. -/
def cutLines : Nat → Nat → Bytes → List (Nat × Bytes × Nat)
  | 0, _, _ => []
  | n + 1, pa, bs =>
    if bs.isEmpty then []
    else
      let o := pa % 64
      let k := min (64 - o) bs.length
      (pa / 64, zeros o ++ bs.take k ++ zeros (64 - o - k), (2 ^ k - 1) * 2 ^ o) ::
        cutLines n (pa + k) (bs.drop k)

/-- Write a run of bytes line by line. -/
def writeRun (s : State) (pa : Nat) (bs : Bytes) (pcode : Nat) : State :=
  (cutLines (bs.length + 1) pa bs).foldl (fun s e => writeLine s e.1 e.2.1 e.2.2 pcode) s

/-- The lines that a run of bytes touches. -/
def linesOf (pa n : Nat) : List Nat :=
  if n = 0 then [] else rangeFrom (pa / 64) ((pa + n - 1) / 64 - pa / 64 + 1)

/-- The first poison code in a run, 0 for none. -/
def runPoison (s : State) (pa n : Nat) : Nat :=
  ((linesOf pa n).map (poisonAt s)).find? (fun c => c ≠ 0) |>.getD 0

/-- Drop the entries of a table whose keys fall in [a, a + n). -/
def dropRange {V : Type} (t : Tbl V) (a n : Nat) : Tbl V :=
  tfilter t fun k _ => !(decide (a ≤ k) && decide (k < a + n))

/-- The entries of a table whose keys fall in [a, a + n), moved to begin at b. -/
def moveRange {V : Type} (t : Tbl V) (a n b : Nat) : Tbl V :=
  (tfilter t fun k _ => decide (a ≤ k) && decide (k < a + n)).map fun e => (e.1 - a + b, e.2)

/-- List every entry of one table in another. -/
def mergeTbl {V : Type} (t u : Tbl V) : Tbl V := u.foldl (fun t e => tput t e.1 e.2) t

/-- Set every entry of one table in another that lists no `d`. -/
def mergeSet {V : Type} [DecidableEq V] (d : V) (t u : Tbl V) : Tbl V := u.foldl (fun t e => tset d t e.1 e.2) t

/-- The canonical form of pool memory: addresses strictly rising, no zero byte listed. -/
def Memory.wf (m : Tbl Byte) : Bool := twf 0 m

/-- Zero a sub-page and clear its marks (R34). -/
def zeroSub (s : State) (q : Nat) : State :=
  if q < 2 ^ 36 then
    { s with mem := dropRange s.mem (q * 65536) 65536, poison := dropRange s.poison (q * 1024) 1024 }
  else
    { s with alloc := { s.alloc with
      store := dropRange s.alloc.store (q * 65536) 65536,
      storePoison := dropRange s.alloc.storePoison (q * 1024) 1024 } }

/-- The bytes that a sub-page lists, and its marks. -/
def subBytes (s : State) (q : Nat) : Tbl Byte :=
  moveRange (if q < 2 ^ 36 then s.mem else s.alloc.store) (q * 65536) 65536 0
def subMarks (s : State) (q : Nat) : Tbl Nat :=
  moveRange (if q < 2 ^ 36 then s.poison else s.alloc.storePoison) (q * 1024) 1024 0

/-- Copy the bytes and the marks of one sub-page to another. -/
def copySub (s : State) (a b : Nat) : State :=
  let bs := (subBytes s a).map fun e => (b * 65536 + e.1, e.2)
  let ms := (subMarks s a).map fun e => (b * 1024 + e.1, e.2)
  let s := zeroSub s b
  if b < 2 ^ 36 then { s with mem := mergeSet 0 s.mem bs, poison := mergeSet 0 s.poison ms }
  else { s with alloc := { s.alloc with
    store := mergeSet 0 s.alloc.store bs, storePoison := mergeSet 0 s.alloc.storePoison ms } }

/-! ## Classes and residency -/

/-- Residency rule of a class: 0 any tier, 1 no tier miss, 2 pinned only (Table 5-6); SC7 is any tier. -/
def classResidency (s : State) (c : Nat) : Nat := if c = 7 then 0 else rf s (ra pgWEIR (0x160 + 4 * c)) 20 2

/-- Record an access: the page's count and touched bit (R126). -/
def touchPages (s : State) (subs : List Nat) : State :=
  let pgs := (subs.map pageOfSub).eraseDups
  pgs.foldl (fun s p =>
    let r := pageRec s p
    setPage s p { r with
      count := min 65535 (r.count + 1),
      touched := (subs.filter fun q => pageOfSub q = p).foldl (fun v q => setBit v (q % 32)) r.touched }) s

/-- A move that holds the busy mark of a page. -/
def moveOn (s : State) (page : Nat) : Option Move := s.tier.moves.find? fun m => m.sub / 32 = page

/-- A move of one sub-page. -/
def moveOf (s : State) (q : Nat) : Option Move := s.tier.moves.find? fun m => m.sub = q

/-- Remove a move. -/
def dropMove (s : State) (q : Nat) : State :=
  { s with tier := { s.tier with moves := s.tier.moves.filter fun m => m.sub ≠ q } }

/-- Abandon a move before it commits: its destination space is released (Table 2-7). -/
def abandonMove (s : State) (m : Move) : State :=
  let s := dropMove s m.sub
  let s := if m.kind = .promote then freeFrame s m.dest else freeCis s m.dest
  if m.kind = .promote then s else count s pgTIER 4 1

/-- How a write may proceed at a sub-page. -/
inductive WriteGo where
  /-- the sub-page can take the write in this state. -/
  | go (s : State)
  /-- it waits for the busy mark or a promotion, which has been started where one was needed. -/
  | wait (s : State)
  /-- it is refused with a status code of Table 7-9. -/
  | refuse (status : Nat)

/-- Back a page of a region: one unit, from the reservation or against the quota (R34 to R36). -/
def backPage (s : State) (idx : Nat) (r : Region) (p : Nat) : Option State :=
  if (pageRec s p).backed then some s
  else if 0 < r.unitsLeft then
    let s := setRegion s idx { r with unitsLeft := r.unitsLeft - 1 }
    some (count (setPage s p { pageRec s p with backed := true }) pgTIER 5 1)
  else if quotaOk s r.dom 2 1 && decide (0 < unitsFree s) then
    let s := chargeAdd s r.dom 2 1
    some (count (setPage s p { pageRec s p with backed := true }) pgTIER 5 1)
  else none

/-- A free DRAM frame may be taken for a sub-page of a region: any, where DRAM is reserved to it, else an unpromised
one (R132). -/
def canTakeDram (s : State) (dram : Bool) : Bool := decide (0 < (if dram then dramFree s else dramAvail s))

/-- What the search for a sub-page's first frame gives. -/
inductive FrameGo where
  | got (r : SubRec) (s : State)
  /-- the frame audit of a takeover runs: no Cistern frame is taken yet (Table 17-8). -/
  | wait
  /-- refused with a status code of Table 7-9. -/
  | refuse (status : Nat)

/-- Give a sub-page its first frame (R34, R131). Without a free DRAM frame a class with any-tier residency takes a Cistern
frame; so does every class in a region with RESERVE = 1, whose materialisation never fails (R35; log entry 72). Status codes:
0x13 QUOTA, 0x19 NOT_RESIDENT. -/
def frameFor (s : State) (r : Region) (q cls : Nat) : FrameGo :=
  match (if canTakeDram s r.dramUnits then takeFrame s r.grain q else none) with
  | some (f, s) => .got { state := 1, frame := f } s
  | none =>
    if (classResidency s cls = 0 ∨ r.reserve) ∧ r.residency = 0 ∧ ¬ r.coherent ∧ ¬ r.dramUnits then
      if s.pair.audit then .wait
      else
        match takeCis s with
        | some (f, s) => .got { state := 3, frame := f }
            (setIo (writeCis (count s (pgCISP + frameDrive f) 1 1) f none) f (some false))
        | none => .refuse 0x13
    else if dramFree s = 0 ∧ cisFree s = 0 then .refuse 0x13
    else .refuse 0x19

/-- Mark the lines of a write in a BASIN sub-page: valid and dirty, or invalid while it is EVICTING
(R123, R124). -/
def markLines (s : State) (pa n : Nat) : State :=
  (linesOf pa n).foldl (fun s l =>
    let q := l / 1024
    let r := subRec s q
    if r.state = 2 then
      if r.evicting then setSub s q { r with valid := clrBit r.valid (l % 1024), dirty := clrBit r.dirty (l % 1024) }
      else setSub s q { r with valid := setBit r.valid (l % 1024), dirty := setBit r.dirty (l % 1024) }
    else s) s

/-- The region that owns a sub-page, of the current view or of another version. -/
def regionOfSub (s : State) (q : Nat) : Option (Nat × Region) :=
  s.alloc.regions.find? fun e => decide (e.2.base ≤ pageOfSub q) && decide (pageOfSub q < e.2.base + e.2.size)

/-- DRAM is reserved for a sub-page (R132). -/
def subDram (s : State) (q : Nat) : Bool :=
  decide (q < 2 ^ 36) && ((regionOfSub s q).map fun e => e.2.dramUnits).getD false

/-- Begin a promotion of a CISTERN sub-page to DRAM: the busy mark, a frame, one NVMe read (R128, Table 6-6).
Without a free frame, or an unpromised one, the promotion waits (R131, R132). -/
def startPromote (s : State) (grain q op : Nat) : State :=
  match moveOf s q with
  | some _ => s
  | none =>
    let r := subRec s q
    if r.state ≠ 3 ∨ s.tier.preempt.contains (r.frame / 0x10000000) ∨ ¬ canTakeDram s (subDram s q) then s
    else match takeFrame s grain q with
      | none => s
      | some (f, s) =>
        let d := frameDrive r.frame
        let s := { s with tier := { s.tier with
          moves := s.tier.moves ++ [{ sub := q, kind := .promote, dest := f, drive := d, op }] } }
        readCis (setIo (count (count s pgTIER 2 1) (pgCISP + d) 0 1) r.frame none) r.frame f

/-- A class meets a sub-page: what lies in CISTERN is promoted for a class with any-tier residency, and refused to any
other (R107, R128). -/
def needDram (s : State) (grain q cls : Nat) : WriteGo :=
  if (subRec s q).state = 3 then
    (if classResidency s cls = 0 then .wait (startPromote s grain q 0) else .refuse 0x19)
  else .go s

/-- A write to a sub-page that holds a frame: the busy mark, and the tier miss of its class (R128, Tables 2-7, 6-7,
6-11). -/
def gateSub (s : State) (grain q cls : Nat) : WriteGo :=
  match moveOf s q with
  | some m =>
    match m.kind with
    | .lehr => .go (abandonMove s m)
    | .migrate => .wait s
    | .promote => needDram s grain q cls
  | none => needDram s grain q cls

/-- Prepare one sub-page for a write of a class through the current view: materialisation, frame, busy marks
and tier misses (R34, R128, R131, Tables 2-7, 6-7, 6-11). A dry sub-page is filled with zeros, but for the poison that a
takeover has left (Table 17-8). -/
def prepareWrite (s : State) (pl : Place) (cls : Nat) : WriteGo :=
  let q := subOf pl.pa
  match backPage s pl.idx pl.reg (q / 32) with
  | none => .refuse 0x13
  | some s =>
    let reg := (tget s.alloc.regions pl.idx).getD pl.reg
    if (subRec s q).state = 0 then
      match frameFor s reg q cls with
      | .refuse e => .refuse e
      | .wait => .wait s
      | .got r s => .go (setSub (if subPoisoned s q then s else zeroSub s q) q r)
    else gateSub s reg.grain q cls

/-! ## Staging versions (R46, R49) -/

/-- The staging version of an identity, made where there is none and fewer than 8 exist (R46). -/
def openStaging (s : State) (idx ident : Nat) : Option (Staging × State) :=
  match stagingOf s idx ident with
  | some v => some (v, s)
  | none =>
    if (s.alloc.staging.filter fun v => v.region = idx).length < 8 then
      let v : Staging := { region := idx, ident, key := s.alloc.nextKey, subs := [], pages := [] }
      some (v, { s with alloc := { s.alloc with staging := s.alloc.staging ++ [v], nextKey := v.key + 1 } })
    else none

/-- Replace a staging version. -/
def setStaging (s : State) (v : Staging) : State :=
  { s with alloc := { s.alloc with staging := s.alloc.staging.map fun w => if w.key = v.key then v else w } }

/-- A PUBLISH of an identity over a region has been accepted and has not executed: what the identity stages from then
on belongs to the next staging version (R49). -/
def publishing (s : State) (idx ident dom : Nat) : Bool :=
  s.alloc.queue.any fun h => ((tget s.cmd.ops h).map fun o =>
    decide (o.opcode = 0x16) && decide (o.owner = ident) && decide (o.dom = dom) &&
    decide (leAt o.entry 0x10 4 % 65536 = idx)).getD false

/-- The unit of a staged page, taken and charged with its first staged sub-page (R46). -/
def stagePage (s : State) (v : Staging) (dom p : Nat) : Option (Staging × State) :=
  if v.pages.contains p then some (v, s)
  else if quotaOk s dom 2 1 && decide (0 < unitsFree s) then
    some ({ v with pages := insNat p v.pages }, chargeAdd s dom 2 1)
  else none

/-- Prepare a staged sub-page for a write: copy on write over the current version (R46). While a PUBLISH of the identity
waits, the write waits for it (R49; log entry 73). -/
def stageSub (s : State) (pl : Place) (ident cls : Nat) : WriteGo :=
  let q := subOf pl.pa
  if publishing s pl.idx ident pl.reg.dom then .wait s
  else
    match openStaging s pl.idx ident with
    | none => .refuse 0x13
    | some (v, s) =>
      if v.subs.contains q then gateSub s pl.reg.grain (subIn v.key q) cls
      else
        match needDram s pl.reg.grain q cls with
        | .wait s => .wait s
        | .refuse e => .refuse e
        | .go s =>
          match stagePage s v pl.reg.dom (q / 32) with
          | none => .refuse 0x13
          | some (v, s) =>
            match frameFor (setStaging s v) { pl.reg with dramUnits := false } (subIn v.key q) cls with
            | .refuse e => .refuse e
            | .wait => .wait s
            | .got r s =>
              let s := setSub (setStaging s { v with subs := insNat q v.subs }) (subIn v.key q) r
              .go (copySub s q (subIn v.key q))

/-- Prepare a place for a write of an identity, in the view that it names; the current view of a versioned region takes
none (R45). -/
def preparePlace (s : State) (pl : Place) (ident cls : Nat) : WriteGo :=
  if pl.staging then stageSub s pl ident cls
  else if pl.reg.versioned then .refuse 0x12
  else prepareWrite s pl cls

end Sys2Proof.Machine
end

