-- ==== Sys2Proof/Machine/Packets.lean ====
section
/-!
DEFINITION. Packets: the controller's identifiers (R275, R276), the choice of a port (R277 to R280), the
schedulers' queues (R108, R109), fencing of endpoints (R291) and the refusal of packets (R249).
-/
namespace Sys2Proof.Machine

/-! ## The choice of a port -/

def route (s : State) (eid : Nat) : Route := tgetD s.route.entries eid {}
def setRoute (s : State) (eid : Nat) (r : Route) : State :=
  { s with route := { s.route with entries := tset {} s.route.entries eid r } }

/-- The usable ports of a set, ascending. -/
def usableOf (s : State) (set : BitVec 20) : List Nat := (bitList set).filter (usable s)

/-- The set in use now: 0 primary, 1 alternate, 2 none, with its usable ports (R277). -/
def pickSet (s : State) (r : Route) : Nat × List Nat :=
  let a := usableOf s r.ports
  if a.isEmpty then
    let b := usableOf s r.alt
    if b.isEmpty then (2, []) else (1, b)
  else (0, a)

/-- The members of a route's ordered set that it may still use. -/
def liveOrdered (s : State) (r : Route) : List Nat :=
  r.ordered.filter fun p => usable s p && !((bitList r.lost).contains p)

/-- The route with its path and ordered set brought up to date (R277, R278, R280): a fall to the alternate is
immediate, a return to the primary waits for its drain. -/
def refreshRoute (s : State) (r : Route) : Route :=
  let (p, us) := pickSet s r
  if p = 2 then { r with path := 2, ordered := [] }
  else if r.path = 1 ∧ p = 0 ∧ ¬ (usableOf s r.alt).isEmpty then
    if (liveOrdered s r).isEmpty then { r with ordered := usableOf s r.alt, lost := 0 } else r
  else if r.path ≠ p then { r with path := p, ordered := us, lost := 0 }
  else if (liveOrdered s r).isEmpty then { r with ordered := us, lost := 0 }
  else r

/-- The first member of a route's ordered set from position k, in cyclic order, that it may still use. -/
def cyclicPick (s : State) (r : Route) (k : Nat) : Option Nat :=
  ((r.ordered.drop k) ++ (r.ordered.take k)).find? fun p => (liveOrdered s r).contains p

/-- Units queued at a port's egress for a channel. -/
def egressDepth (s : State) (p ch : Nat) : Nat :=
  (((sched s p).units.filter fun u => u.pkt.ch = ch).map fun u => pktUnits u.pkt).sum

/-- The channel is unordered: its bit of RTE.CFG.UNORD is 1 (R279). -/
def unordered (s : State) (ch : Nat) : Bool := decide (4 ≤ ch) && rb s (ra pgRTE 0x100) (ch - 4)

/-- The port of a packet, with whether it was spread (R278, R279). -/
def choosePort (s : State) (r : Route) (pkt : Packet) : Option (Nat × Bool) :=
  let set := if r.path = 1 then r.alt else r.ports
  let act := (bitList set).filter fun p => linkState s p = 2
  if unordered s pkt.ch ∧ ¬ act.isEmpty then
    (act.foldl (fun acc p => match acc with
      | none => some p
      | some b => if egressDepth s p pkt.ch < egressDepth s b pkt.ch then some p else some b) none).map
        fun p => (p, true)
  else
    let n := r.ordered.length
    if n = 0 then none
    else (cyclicPick s r (Nat.xor pkt.src (Nat.xor pkt.dest pkt.ch) % n)).map fun p => (p, false)

/-! ## Arrival-driven reductions and skipped contributors (R218, R221, R223) -/

def opOf (s : State) (h : Nat) : Option Op := tget s.cmd.ops h
def setOp (s : State) (h : Nat) (o : Op) : State :=
  { s with cmd := { s.cmd with ops := tput s.cmd.ops h o } }
def modOp (s : State) (h : Nat) (f : Op → Op) : State :=
  { s with cmd := { s.cmd with ops := tmod s.cmd.ops h f } }

/-- The tile of an operation that has been dealt and has not ended. -/
def tileOf (s : State) (h n : Nat) : Option Tile := s.cmd.tiles.find? fun t => t.op = h && t.num = n

/-- Change a tile. -/
def modTile (s : State) (h n : Nat) (f : Tile → Tile) : State :=
  let ts := s.cmd.tiles.map fun t => if t.op = h ∧ t.num = n then f t else t
  { s with cmd := { s.cmd with tiles := ts } }

/-- Contributors, not skipped, all of whose tiles are closed (R221). -/
def arrivalDone (a : Arrival) : Nat :=
  ((rangeFrom 0 a.contribs).filter fun c => !a.skipped.contains c &&
    (rangeFrom (c * a.tilesPer) a.tilesPer).all a.closed.contains).length

/-- Change the arrival state of an operation. -/
def modArrival (s : State) (h : Nat) (f : Arrival → Arrival) : State :=
  modOp s h fun o => { o with arrival := o.arrival.map f }

/-- Count a tile as closed with its bytes folded or lost (R221, R222). The record follows at its home. -/
def arrivalClose (s : State) (h tile : Nat) (fold : Bool) : State :=
  modArrival s h fun a =>
    if a.closed.contains tile then a
    else
      let a := { a with
        closed := insNat tile a.closed,
        folded := if fold then a.folded + a.tileBytes else a.folded,
        lostBytes := if fold then a.lostBytes else a.lostBytes + a.tileBytes }
      let a := { a with done := arrivalDone a }
      if a.landed.all a.closed.contains then
        { a with foldNs := a.foldNs + (s.now - (a.foldSince.getD s.now)), foldSince := none, lastClose := s.now }
      else a

/-- The counts of R224 have closed. -/
def reductionClosed (a : Arrival) : Bool :=
  decide (a.done + a.skipped.length = a.contribs) && decide (a.folded + a.lostBytes = a.expect)

/-- A contributor of one reduction becomes fenced (R223). -/
def skipIn (s : State) (h eid : Nat) : State :=
  match (opOf s h).bind fun o => o.arrival with
  | none => s
  | some a =>
    let cs := (rangeFrom 0 a.contribs).filter fun c => nth a.eids c none = some eid && !a.skipped.contains c
    if !a.armed || cs.isEmpty then s
    else
      let s := modOp s h fun o => { o with cond := Nat.lor o.cond 512 }
      let s := modArrival s h fun a => { a with skipped := cs.foldl (fun l c => insNat c l) a.skipped }
      let s := (cs.flatMap fun c => (rangeFrom (c * a.tilesPer) a.tilesPer).filter fun t => !a.landed.contains t).foldl
        (fun s t => arrivalClose s h t false) s
      modArrival s h fun a => { a with done := arrivalDone a }

/-- Every armed reduction sees a fenced EID (R223). -/
def contributorSkip (s : State) (eid : Nat) : State :=
  (s.cmd.ops.map Prod.fst).foldl (fun s h => skipIn s h eid) s

/-! ## Fencing -/

/-- The agent index bound to an EID. -/
def agentOf (s : State) (eid : Nat) : Option Nat :=
  (tfind s.dir.agents fun _ a => a.valid && decide (a.eid = eid)).map Prod.fst

/-- The agent entry bound to the EID is fenced. -/
def agentFenced (s : State) (eid : Nat) : Bool :=
  (tfind s.dir.agents fun _ a => a.fenced && decide (a.eid = eid)).isSome

/-- The EID is fenced (R291). -/
def eidFenced (s : State) (eid : Nat) : Bool := (route s eid).fenced || agentFenced s eid

/-- The effects of an EID becoming fenced: its open entries become FREE, open multicast messages to it are
skipped, contributors are skipped (R289, R291, R292, R223). -/
def fenceEffects (s : State) (eid : Nat) : State :=
  let s := (s.route.msgs.filter fun x => decide (x.1 / 32 = eid) && decide (x.2.state ≠ 0)).foldl
    (fun s x => unchargeBacklog s x.2.sch x.2.sc x.2.charge) s
  let s := { s with cmd := { s.cmd with opened := s.cmd.opened.filter fun m => m.1 ≠ eid } }
  let s := { s with route := { s.route with msgs := tmap s.route.msgs fun k e =>
    if k / 32 = eid ∧ e.state ≠ 0 then { lastId := some e.id } else e } }
  let skipped := s.cmd.sent.filter fun m => m.mc && decide (m.dest = eid)
  let s := { s with cmd := { s.cmd with sent := s.cmd.sent.filter fun m => !(m.mc && decide (m.dest = eid)) } }
  let s := skipped.foldl (fun s m =>
    count (modOp s m.op fun o => { o with cond := Nat.lor o.cond 512, skips := insNat eid o.skips }) pgRTE 2 1) s
  contributorSkip s eid

/-- Fence an EID's route as unreachable (R277). -/
def fenceUnreachable (s : State) (eid : Nat) : State :=
  let r := route s eid
  if r.fenced then setRoute s eid { r with unreachable := true }
  else fenceEffects (setRoute s eid { r with fenced := true, unreachable := true }) eid

/-! ## Sending -/

/-- Place a routed packet at its egress scheduler; its charge stands there from now on (R106). -/
def placeAt (s : State) (p : Nat) (spread : Bool) (u : WUnit) : State :=
  let s := if spread then count s (portPage p) 5 1 else s
  let s := if u.charge = 0 ∨ u.chargeAt = p then s
    else chargeBacklog (unchargeBacklog s u.chargeAt u.pkt.sc u.charge) p u.pkt.sc u.charge
  enqueue s p { u with cls := u.pkt.sc, len := pktBytes u.pkt, chargeAt := p }

/-- A packet of the controller whose EID has no valid entry is discarded with an ERROR event (R277). -/
def dropUnrouted (s : State) (u : WUnit) : State :=
  event (unchargeBacklog s u.chargeAt u.pkt.sc u.charge)
    { source := pgRTE, sev := sevError, cls := clLink, loc := u.pkt.dest }

/-- Route a packet at once and queue it. The EID's path and ordered set are refreshed, and an EID with no usable port
becomes unreachable (R277). -/
def routeNow (s : State) (u : WUnit) : State :=
  let r := route s u.pkt.dest
  if !r.valid then dropUnrouted s u
  else
    let r := refreshRoute s r
    let s := setRoute s u.pkt.dest r
    match choosePort s r u.pkt with
    | some (p, sp) => placeAt s p sp u
    | none => fenceUnreachable (unchargeBacklog s u.chargeAt u.pkt.sc u.charge) u.pkt.dest

/-- Route a packet of the controller; it is held while its EID drains (R280, R294). -/
def routePacket (s : State) (u : WUnit) : State :=
  if (route s u.pkt.dest).draining then { s with route := { s.route with held := s.route.held ++ [u] } }
  else routeNow s u

/-- A packet stands whole in a port's receive buffer. -/
def receive (s : State) (port : Nat) (pkt : Packet) : State :=
  { s with link := { s.link with rx := tput s.link.rx port (tgetD s.link.rx port [] ++ [{ pkt, since := s.now }]) } }

/-- When a packet that stands at a port was received (R261). -/
def rxSince (s : State) (port : Nat) (pkt : Packet) : Nat :=
  (((tgetD s.link.rx port []).find? fun x => x.pkt = pkt).map RxPkt.since).getD s.now

/-- A packet that the controller originates (R276, R277). A packet for itself is delivered to its own
receive queue, numbered 22. -/
def emit (s : State) (pkt : Packet) (charge : Nat := 0) (chargeAt : Nat := 0) (due : Option Due := none) : State :=
  let pkt := { pkt with src := selfEid s }
  if isLocal s pkt.dest then receive (unchargeBacklog s chargeAt pkt.sc charge) 22 pkt
  else routePacket s { cls := pkt.sc, len := 0, charge, chargeAt, pkt, due }

/-- The first header slot of a packet as a number (Tables 11-4 and 12-1). -/
def headNum (p : Packet) : Nat :=
  let base := p.dest + p.src * 0x1000 + p.ch * 0x1000000 + p.sc * 0x10000000 + (if p.poison then 2 ^ 31 else 0) +
    plen p * 2 ^ 32 + hlen p * 2 ^ 41 + p.pcode * 2 ^ 43 + p.tag * 2 ^ 48
  if p.ch < 4 then
    base + p.code * 2 ^ 64 + (if p.granted then 2 ^ 69 else 0) + (if p.wbPending then 2 ^ 70 else 0) +
      p.line * 2 ^ 72 + (if p.code = 0x19 then p.status * 2 ^ 118 else 0)
  else
    base + p.kind * 2 ^ 64 + (if p.last then 2 ^ 68 else 0) + (if p.mc then 2 ^ 69 else 0) +
      p.group * 2 ^ 70 + p.msgId * 2 ^ 80 +
      (match p.kind with
       | 0 | 1 => p.msgLen * 2 ^ 96
       | 2 => p.status * 2 ^ 96
       | 3 | 4 => p.queue * 2 ^ 96 + p.tail * 2 ^ 104
       | 5 => p.ptag * 2 ^ 96
       | _ => 0)

/-- The second header slot of a packet, where it has one (Table 12-1, R248). -/
def head2Num (p : Packet) : Nat :=
  if p.ch < 4 then p.mask.toNat else p.addr + p.payBytes * 2 ^ 64 + p.offset * 2 ^ 80

/-- The slots of a packet as bytes: as they came, or header slots and payload (R248, R282). -/
def packetBytes (p : Packet) : Bytes :=
  if !p.raw.isEmpty then p.raw else
  natLe 16 (headNum p) ++ (if hlen p = 1 then natLe 16 (head2Num p) else []) ++
    p.data ++ zeros (plen p * 16 - p.data.length)

/-- A heartbeat path is good (Table 17-14). -/
def heartbeatGood (s : State) : Bool := rb s (ra pgPAIR 0x108) 6 || rb s (ra pgPAIR 0x108) 7

/-- What reaches this controller for the service EID goes to its serving partner (R403). -/
def relays (s : State) : Bool :=
  !serving s && heartbeatGood s &&
    (decide (rf s (ra pgPAIR 0x108) 3 3 = 0) || decide (rf s (ra pgPAIR 0x108) 3 3 = 4))

/-- The packet goes over RELAY (R403). -/
def relayPacket (s : State) (port : Nat) (pkt : Packet) : State :=
  sendRunnel (wb s (ra pgPAIR 0x108) 8 true) 0 (runRelay port (packetBytes pkt))

/-- A CMP, NOTIFY or PUB_NOTIFY: it waits on no other packet (R286). -/
def neverWaits (pkt : Packet) : Bool := decide (4 ≤ pkt.ch) && (decide (pkt.kind = 2) || decide (pkt.kind = 4) || decide (pkt.kind = 5))

/-- Take a packet out of a port's receive queue, unless it must wait behind one of the same source and channel (R281,
R286); its credits go back (R255). -/
def popRx (s : State) (port : Nat) (pkt : Packet) : Option State :=
  let q := tgetD s.link.rx port []
  match q.find? fun x => x.pkt = pkt with
  | none => none
  | some x =>
    if neverWaits pkt || (q.takeWhile (· ≠ x)).all fun y => y.pkt.src ≠ pkt.src || y.pkt.ch ≠ pkt.ch then
      let k := port * 16 + pkt.ch
      let f := tset 0 s.link.freedRx k ((tgetD s.link.freedRx k 0 + pktUnits pkt) % 65536)
      some { s with link := { s.link with
        rx := tset [] s.link.rx port (q.erase x), freedRx := if x.stale then s.link.freedRx else f } }
    else none

/-- Take the Runnel packet that says a message out of a mirror port's buffers (R386): the row of its name acts on it. -/
def takeRunnel (s : State) (m : RunMsg) : Option State :=
  [20, 21].findSome? fun p =>
    ((tgetD s.link.rx p []).find? fun x => runShape (runRead x.pkt) = runShape m).bind fun x => popRx s p x.pkt

/-- A row that acts on a Runnel packet: the packet must have come. -/
def onRunnel (s : State) (m : RunMsg) (f : State → State) : Result :=
  match takeRunnel s m with
  | none => .next s
  | some s => .next (f s)

/-- Refuse a received packet under R249: an ERROR event of class LINK with SRC and the first header slot. -/
def refusePacket (s : State) (port : Nat) (pkt : Packet) : State :=
  let s := count s (portPage port) 6 1
  event s { source := portPage port, sev := sevError, cls := clLink, loc := pkt.src,
            detail := if pkt.raw.isEmpty then headNum pkt else leNat (pkt.raw.take 16) }

/-- A packet's sender is fenced: discard and count it (R291). -/
def discardPacket (s : State) (port : Nat) : State := count s (portPage port) 6 1

/-- A packet that asks for admission: it waits for credit during a handover pause (Table 17-12). -/
def newWork (pkt : Packet) : Bool :=
  decide (pkt.ch = 0) || (decide (4 ≤ pkt.ch) && !neverWaits pkt)

/-- A packet that has arrived whole at a port for this controller: one with another code or channel, or that is
not at the port, leaves the state as it is (log entry 2); one for a serving partner is relayed (R403); one that
reaches a controller that is not serving, or comes from a fenced EID, goes as the arguments give. -/
def arrive (s : State) (port : Nat) (pkt : Packet) (fits : Bool) (idle fenced serve : State → State) : Result :=
  if !fits || !isLocal s pkt.dest || (s.pair.pause && newWork pkt) then .next s
  else
    match popRx s port pkt with
    | none => .next s
    | some s =>
      if !serving s then
        (if relays s && paired s && decide (pkt.dest = svcEid s) then .next (relayPacket s port pkt)
         else if eidFenced s pkt.src then .next (fenced s)
         else .next (idle s))
      else if eidFenced s pkt.src then .next (fenced s)
      else .next (serve s)

/-- Some run meets the bytes [pa, pa + n). -/
def runHit (rs : List (Nat × Nat)) (pa n : Nat) : Bool :=
  rs.any fun r => decide (r.1 < pa + n) && decide (pa < r.1 + r.2)

/-- The tile of an armed reduction whose landing area holds any byte of a run, with its operation (R217). -/
def landingOf (s : State) (pa n : Nat) : Option (Nat × Nat) :=
  s.cmd.ops.findSome? fun e => match e.2.arrival with
    | none => none
    | some a =>
      if !a.armed then none
      else
        match a.lands.findIdx? fun x => runHit x pa n with
        | some i => some (e.1, i)
        | none => (a.hdrs.findIdx? fun x => runHit x pa n).map fun i => (e.1, i)

end Sys2Proof.Machine
end

