-- ==== Sys2Proof/Machine/Flags.lean ====
section
/-!
DEFINITION. Status codes, COND bits and their precedence (Table 7-9, R163).
-/
namespace Sys2Proof.Machine

def stOk := 0x00
def stPartial := 0x01
def stSuspended := 0x02
def stPoison := 0x10
def stTransFault := 0x11
def stNotPermitted := 0x12
def stQuota := 0x13
def stConflict := 0x14
def stNotAdmitted := 0x15
def stSuspect := 0x16
def stFencedSkip := 0x17
def stBoundExceeded := 0x18
def stNotResident := 0x19
def stInternal := 0x1F

/-- (status code, COND bit) from the highest precedence to the lowest (Table 7-9). -/
def precedence : List (Nat × Nat) :=
  [(0x1F, 12), (0x10, 2), (0x11, 3), (0x12, 4), (0x13, 5), (0x19, 11), (0x14, 6), (0x15, 7), (0x16, 8),
   (0x17, 9), (0x02, 1), (0x18, 10), (0x01, 0)]

/-- The COND bit of a status, as a mask; OK sets none. -/
def condOf (st : Nat) : Nat :=
  match precedence.find? fun e => e.1 = st with
  | some e => 2 ^ e.2
  | none => 0

/-- STATUS of a final completion: the condition that stands highest (R163). -/
def statusOf (cond : Nat) : Nat :=
  match precedence.find? fun e => cond.testBit e.2 with
  | some e => e.1
  | none => 0

/-- STATUS of a completion: a completion that is not final always carries SUSPENDED (R163). -/
def statusFor (final : Bool) (cond : Nat) : Nat := if final then statusOf cond else stSuspended

/-- Add a condition. -/
def addCond (cond st : Nat) : Nat := Nat.lor cond (condOf st)

end Sys2Proof.Machine
end

