-- ==== Sys2Proof/Machine/Operands.lean ====
section
/-!
DEFINITION. The operand bytes of command entries (Tables 2-4, 3-5, 6-10, 7-2, 7-3, 16-2, 16-4, 20-6, 21-5)
and their reserved bits (R154).
-/
namespace Sys2Proof.Machine

/-- The operand of a given size at an offset of an operation's entry. -/
def opnd (o : Op) (off size : Nat) : Nat := leAt o.entry off size

/-- Opcodes of Table 7-3. -/
def opcodes : List Nat :=
  [0x01, 0x02, 0x03, 0x04, 0x05, 0x10, 0x11, 0x12, 0x13, 0x14, 0x15, 0x16, 0x17, 0x20, 0x21, 0x22, 0x30,
   0x31, 0x32]

/-- Privileged opcodes (Table 7-3). -/
def privileged (op : Nat) : Bool := [0x20, 0x21, 0x30, 0x31].contains op

/-- Allocator opcodes (R38). -/
def isAllocOp (op : Nat) : Bool := decide (0x10 ≤ op) && decide (op ≤ 0x16)

/-- SUSPEND, RESUME and CANCEL, which hold no operation slot (R160). -/
def isControlOp (op : Nat) : Bool := decide (0x02 ≤ op) && decide (op ≤ 0x04)

/-- The operand bits that an opcode defines: (offset, size, mask of defined bits). -/
def definedBits (op : Nat) : List (Nat × Nat × Nat) :=
  match op with
  | 0x01 => [(0x08, 8, 2 ^ 64 - 1), (0x10, 24, 2 ^ 192 - 1), (0x28, 24, 2 ^ 192 - 1)]
  | 0x02 | 0x03 | 0x04 => [(0x10, 4, 2 ^ 32 - 1)]
  | 0x05 => [(0x10, 1, 1)]
  | 0x10 => [(0x10, 4, 2 ^ 32 - 1), (0x14, 4, 2 ^ 32 - 1), (0x18, 4, 0xFFF)]
  | 0x11 => [(0x10, 4, 2 ^ 32 - 1), (0x14, 4, 1)]
  | 0x12 => [(0x10, 4, 2 ^ 32 - 1), (0x14, 4, 2 ^ 32 - 1), (0x18, 4, 1)]
  | 0x13 => [(0x10, 4, 2 ^ 32 - 1), (0x14, 4, 2 ^ 32 - 1), (0x18, 4, 2 ^ 32 - 1)]
  | 0x14 => [(0x10, 4, 2 ^ 32 - 1), (0x14, 4, 2 ^ 32 - 1)]
  | 0x15 => [(0x10, 4, 2 ^ 32 - 1)]
  | 0x16 => [(0x10, 4, 2 ^ 32 - 1), (0x14, 4, 1), (0x18, 4, 2 ^ 32 - 1)]
  | 0x17 => [(0x10, 4, 2 ^ 32 - 1), (0x14, 4, 2 ^ 32 - 1), (0x18, 4, 2 ^ 32 - 1), (0x1C, 4, 0x1F)]
  | 0x20 => [(0x10, 4, 0x1FF), (0x18, 8, 2 ^ 64 - 1), (0x20, 4, 2 ^ 32 - 1), (0x28, 8, 2 ^ 64 - 1)]
  | 0x21 => [(0x10, 4, 0xFF07), (0x14, 4, 2 ^ 32 - 1), (0x18, 16, 2 ^ 80 - 1)]
  | 0x22 => [(0x10, 4, 0x3FFF), (0x18, 8, 2 ^ 64 - 1), (0x20, 4, 2 ^ 32 - 1)]
  | 0x30 => [(0x10, 1, 0x7)]
  | 0x31 => [(0x10, 4, 0x7FF), (0x14, 4, 2 ^ 32 - 1)]
  | 0x32 => [(0x10, 4, 0x3), (0x14, 4, 0x1FFFFFF), (0x18, 4, 2 ^ 32 - 1), (0x20, 8, 2 ^ 64 - 1),
             (0x28, 4, 2 ^ 32 - 1)]
  | _ => []

/-- The bits of an entry that are not RSVD, as one number over the 64 bytes. -/
def definedMask (op : Nat) : Nat :=
  (definedBits op).foldl (fun m e => m + (e.2.2 % 2 ^ (8 * e.2.1)) * 2 ^ (8 * e.1)) (0xFF + 0x300 + 0xFFFFFFFF * 2 ^ 32)

/-- No RSVD bit of the entry is set (R154). -/
def rsvdClear (entry : Bytes) : Bool :=
  let v := leNat entry
  decide (Nat.land v (definedMask (v % 256)) = v)

end Sys2Proof.Machine
end

