-- ==== Sys2Proof/Machine/Weir.lean ====
section
/-!
DEFINITION. The Weir (chapter 05): contracts, the bucket and backlog tests, schedulers, gates and the report of
missed bounds.
-/
namespace Sys2Proof.Machine

/-! ## Contracts -/

def scRate (s : State) (c : Nat) : Nat := rf s (ra pgWEIR (0x100 + 4 * c)) 0 24
def scBurst (s : State) (c : Nat) : Nat := rf s (ra pgWEIR (0x120 + 4 * c)) 0 20
def scLimit (s : State) (c : Nat) : Nat := rd s (ra pgWEIR (0x140 + 4 * c))
def scFixed (s : State) (c : Nat) : Nat := rf s (ra pgWEIR (0x160 + 4 * c)) 0 20
def scForm (s : State) (c : Nat) : Bool := rb s (ra pgWEIR (0x160 + 4 * c)) 22
def admitEn (s : State) : Bool := rb s (ra pgWEIR 0x180) 0

/-- The class mask of a requester allows a class (R105). -/
def classAllowed (s : State) (req c : Nat) : Bool := (tgetD s.weir.mask req 0).testBit c

/-- The terms of a class's bound: its limit, and its rate in the rate form, else 0 (Table 5-3). -/
def boundTerms (s : State) (c : Nat) : Nat × Nat := (scLimit s c, if scForm s c then max 1 (scRate s c) else 0)

/-- The bound in ns that terms give for some bytes. -/
def boundOf (t : Nat × Nat) (bytes : Nat) : Nat := t.1 + if t.2 = 0 then 0 else ceilDiv (bytes * 1000) t.2

/-- The bound of a request in ns: the limit, plus bytes over rate in the rate form (Table 5-3). -/
def boundNs (s : State) (c bytes : Nat) : Nat := boundOf (boundTerms s c) bytes

/-- Width of a port: lanes 8, 4 or 2 from LINK_STAT.WIDTH. -/
def portLanes (s : State) (p : Nat) : Nat := 8 / 2 ^ rf s (ra (portPage p) 0x104) 3 2

/-- Capacity of a scheduler in B/ns, as a fraction (R108, R246). -/
def capacity (s : State) (sch : Nat) : Nat × Nat :=
  if sch < 20 then (28 * portLanes s sch, 1)
  else if sch = 20 then (55 * s.cxl.width * s.cxl.rate, 512)
  else if sch ≤ 22 then (28 * portLanes s (sch - 1), 1)
  else (6144, 5)

/-- Lmax over C in tenths of a ns, as Table 11-1 and R108 give it. -/
def lmaxTime (s : State) (sch : Nat) : Nat :=
  if sch = 20 then ceilDiv (100 * 512) (max 1 (s.cxl.width * s.cxl.rate))
  else if sch ≤ 22 then
    (match portLanes s (if sch < 20 then sch else sch - 1) with
     | 8 => 187
     | 4 => 374
     | _ => 747)
  else 33

/-! ## Gates -/

def gate (s : State) (p : Nat) : Gate := tgetD s.weir.gates p {}
def setGate (s : State) (p : Nat) (g : Gate) : State :=
  { s with weir := { s.weir with gates := tset {} s.weir.gates p g } }

/-- The longest run of closed time of a class in a list of windows, from a running total. -/
def longestClosed (c : Nat) : List (Nat × BitVec 8) → Nat → Nat → Nat
  | [], cur, best => max cur best
  | (d, m) :: ws, cur, best =>
    if m.getLsbD c then longestClosed c ws 0 (max cur best) else longestClosed c ws (cur + d) best

/-- W of a class at a scheduler: the longest closed interval, over the cycle's wrap as well (R111). -/
def gateW (s : State) (sch c : Nat) : Nat :=
  let ws := (gate s sch).active
  if ws.any fun w => w.2.getLsbD c then longestClosed c (ws ++ ws) 0 0
  else (ws.map Prod.fst).sum

/-- The class's gate is open and a frame of `n` bytes ends within the window (R110). -/
def gateOpen (s : State) (sch c n : Nat) : Bool :=
  let g := gate s sch
  match g.active with
  | [] => true
  | ws =>
    let w := nth ws g.window (0, 0)
    let cap := capacity s sch
    w.2.getLsbD c && decide (s.now + ceilDiv (n * cap.2) (max 1 cap.1) ≤ g.since + w.1)

/-! ## Admission -/

/-- Tokens missing from a bucket, in 1/1,200 B. -/
def lacking (s : State) (req c : Nat) : Nat := tgetD s.weir.missing (req * 8 + c) (tgetD s.weir.lack c 0)

/-- The bucket holds `n` bytes of tokens (R106). -/
def bucketOk (s : State) (req c n : Nat) : Bool :=
  decide (lacking s req c + n * 1200 ≤ scBurst s c * 1024 * 1200)

/-- Set what a bucket lacks. -/
def setLacking (s : State) (req c n : Nat) : State :=
  { s with weir := { s.weir with missing := tset (tgetD s.weir.lack c 0) s.weir.missing (req * 8 + c) n } }

/-- A class's depth changes from `old` to `new` KiB: every bucket keeps the tokens that it holds, as far as the new depth
takes them, and fills at its rate (R106). -/
def reburst (s : State) (c old new : Nat) : State :=
  let f (n : Nat) : Nat := n + new * 1228800 - old * 1228800
  let d := f (tgetD s.weir.lack c 0)
  { s with weir := { s.weir with
    lack := tset 0 s.weir.lack c d
    missing := (tmap s.weir.missing fun k n => if k % 8 = c then f n else n).filter fun e =>
      e.1 % 8 ≠ c || decide (e.2 ≠ d) } }

def debit (s : State) (req c n : Nat) : State := setLacking s req c (lacking s req c + n * 1200)
def credit (s : State) (req c n : Nat) : State := setLacking s req c (lacking s req c - n * 1200)

/-- The backlog test at one scheduler, in exact arithmetic (R106). -/
def backlogOk (s : State) (sch c len : Nat) : Bool :=
  let b := tgetD s.weir.backlog (sch * 8 + c) 0
  let cap := capacity s sch
  let w := max 1 (weight s c)
  let r := max 1 (scRate s c)
  let den := 10 * cap.1 * w * r
  let lhs := (b + len) * weightSum s * cap.2 * 10 * r + (gateW s sch c + scFixed s c) * den +
    lmaxTime s sch * (cap.1 * w * r)
  let rhs := scLimit s c * den + if scForm s c then len * 1000 * (10 * cap.1 * w) else 0
  decide (lhs ≤ rhs)

/-- The first two tests of R106 for a request of `len` bytes whose responses of `resp` bytes pass the
schedulers `schs`: none where one fails. Tokens are debited and the backlog charged. -/
def weirAdmit (s : State) (req c len : Nat) (schs : List (Nat × Nat)) : Option State :=
  if !admitEn s || decide (scRate s c = 0) then none
  else if !bucketOk s req c len then none
  else if schs.all fun e => backlogOk s e.1 c (e.2 + overhead s e.1) then
    some (schs.foldl (fun s e => chargeBacklog s e.1 c (e.2 + overhead s e.1)) (count (debit s req c len) pgWEIR 7 1))
  else none

/-- Count a refusal by the test that failed. -/
def countRefusal (s : State) (req c len : Nat) : State :=
  if bucketOk s req c len then count s pgWEIR 9 1 else count s pgWEIR 8 1

/-- Undo an admission that fails the residency test (R107). -/
def unadmit (s : State) (req c len : Nat) (schs : List (Nat × Nat)) : State :=
  schs.foldl (fun s e => unchargeBacklog s e.1 c (e.2 + overhead s e.1))
    (count (credit s req c len) pgWEIR 10 1)

/-- Class of a fabric request: 7 means the region's DEFAULT_SC (R105). -/
def fabricClass (sc : Nat) (r : Region) : Nat := if sc = 7 then r.defaultSc else sc

/-! ## Void bounds (R102) -/

/-- A port is in one of the spans of Table 5-2: a retrain, a width change, a lane swap, or replays past the limit. -/
def portVoid (s : State) (p : Nat) : Bool :=
  [3, 4, 5].contains (linkState s p) || (tgetD s.link.ports p {}).swapRx.isSome || s.link.overLimit.contains p

/-- An optional port, or the port of a scheduler, is in such a span. -/
def viaVoid (s : State) (via : Option Nat) : Bool := (via.map (portVoid s)).getD false

/-- The port that a scheduler feeds, if it is a port's. -/
def schedPort (sch : Nat) : Option Nat :=
  if sch < 20 then some sch else if sch = 21 ∨ sch = 22 then some (sch - 1) else none

/-- Void the bounds of the requests in flight at the homes that a test picks. -/
def voidReqs (s : State) (p : HomeReq → Bool) : State :=
  let v (r : HomeReq) : HomeReq := if p r then { r with void := true } else r
  { s with dir := { s.dir with
    chain := s.dir.chain.map v
    overflow := s.dir.overflow.map v
    trans := tmap s.dir.trans fun _ t => { t with req := v t.req, forReq := t.forReq.map v } } }

/-- Void the bounds of the messages in flight that a test picks, by entry. -/
def voidMsgs (s : State) (p : Nat → MsgEntry → Bool) : State :=
  let v (k : Nat) (m : MsgEntry) : MsgEntry := if m.state ≠ 0 ∧ p k m then { m with void := true } else m
  { s with route := { s.route with msgs := tmap s.route.msgs v } }

/-- Void the bounds of the tiles in flight that a test picks. -/
def voidTiles (s : State) (p : Tile → Bool) : State :=
  { s with cmd := { s.cmd with tiles := s.cmd.tiles.map fun t => if p t then { t with void := true } else t } }

/-- A span begins at a port: every request that crosses it has a void bound. -/
def voidPort (s : State) (p : Nat) : State :=
  let meets (via : Option Nat) (sch : Nat) : Bool := decide (via = some p) || decide (schedPort sch = some p)
  voidMsgs (voidReqs s fun r => meets r.via r.sch) fun _ m => meets m.via m.sch

/-- The route of an EID begins to drain: every request of it, and every tile with a message to it. -/
def voidEid (s : State) (eid : Nat) : State :=
  let s := voidReqs s fun r => decide (r.who = .fabric eid)
  let s := voidMsgs s fun k _ => decide (k / 32 = eid)
  voidTiles s fun t => s.cmd.sent.any fun m => m.dest = eid && m.op = t.op && m.tile = t.num

/-- Requests for some lines become void. -/
def voidLines (s : State) (p : Nat → Bool) : State := voidReqs s fun r => p r.line

/-- Every request in flight becomes void: a takeover (R102). -/
def voidAll (s : State) : State :=
  let s := voidTiles (voidMsgs (voidReqs s fun _ => true) fun _ _ => true) fun _ => true
  { s with cmd := { s.cmd with ops := tmap s.cmd.ops fun _ o => if o.runStart.isSome then { o with void := true } else o } }

/-! ## Missed bounds -/

/-- Report a request that completed after its bound, or count it as void (R113, R114). -/
def boundReport (s : State) (c sch req dom handle start bound : Nat) (isVoid : Bool) : State :=
  if isVoid then (if c ≤ 6 then count s pgWEIR c 1 else s)
  else if s.now ≤ start + bound ∨ 6 < c then s
  else
    let s := if sch < 20 then count s (pgFAB + sch) (22 + c) 1
      else if sch = 20 then count s pgCXLP c 1
      else if sch ≤ 22 then count s (pgFAB + sch - 1) (22 + c) 1
      else if sch ≤ 27 then count s (pgCLU + (sch - 24)) c 1
      else s
    let k := c * 32 + sch
    let ms := s.now / 1000000 + 1
    if tgetD s.weir.lastBound k 0 = ms then s
    else
      let s := { s with weir := { s.weir with lastBound := tput s.weir.lastBound k ms } }
      let d := c + sch * 256 + min (2 ^ 48 - 1) (s.now - (start + bound)) * 65536
      event s { source := pgWEIR, sev := sevWarn, cls := clBound, dom, handle, loc := req, detail := d }

/-- A request that ended now missed its bound. -/
def boundMissed (s : State) (start bound : Nat) (isVoid : Bool) : Bool :=
  !isVoid && decide (start + bound < s.now)

/-! ## Scheduler commands -/

/-- The peer has room for a packet on its channel (R254). -/
def creditOk (s : State) (p : Nat) (pkt : Packet) : Bool :=
  let k := p * 16 + pkt.ch
  decide (pktUnits pkt + (tgetD s.link.sentTx k 0 + 65536 - tgetD s.link.freedTx k 0) % 65536 ≤
    tgetD s.link.limitTx k 0)

/-- A unit may start: its gate is open and, at a port, the port is ACTIVE and the peer has room. -/
def unitReady (s : State) (sch : Nat) (u : WUnit) : Bool :=
  gateOpen s sch u.cls (u.len + overhead s sch) &&
  match schedPort sch with
  | some p => decide (linkState s p = 2) && creditOk s p u.pkt
  | none => if sch = 20 then rb s (ra pgCXLP 0x114) 0 else true

/-- Two units keep their order at a scheduler: those of one flow and channel (R108), and packets of one source,
destination and ordered channel, whatever their classes (R281). -/
def keepsOrder (s : State) (v u : WUnit) : Bool :=
  decide (v.pkt.ch = u.pkt.ch) &&
    (decide (v.cls = u.cls) ||
      (u.out.isNone && u.tile.isNone && decide (v.pkt.src = u.pkt.src) && decide (v.pkt.dest = u.pkt.dest) && !unordered s u.pkt.ch))

/-- The units that no earlier one holds back. -/
def heads (s : State) : List WUnit → List WUnit → List WUnit
  | [], _ => []
  | u :: us, seen =>
    if seen.any fun v => keepsOrder s v u then heads s us (u :: seen)
    else u :: heads s us (u :: seen)

/-- The eligible unit with the smallest tag; at equal tags the lower class (R109, Table 5-13). -/
def nextUnit (s : State) (sch : Nat) : Option WUnit :=
  ((heads s (sched s sch).units []).filter (unitReady s sch)).foldl (fun acc u => match acc with
    | none => some u
    | some b => if tagLater b.tag u.tag || (decide (b.tag = u.tag) && decide (u.cls < b.cls)) then some u
        else some b) none

/-- The bound of a PUT ends as its completion leaves: a late one is reported, and the completion carries BOUND_EXCEEDED
where it would carry OK (R100, R113). -/
def endDue (s : State) (u : WUnit) : State × WUnit :=
  match u.due with
  | none => (s, u)
  | some d =>
    let late := boundMissed s d.start d.bound d.void && decide (u.pkt.status = 0)
    (boundReport s d.cls d.sch d.req d.dom 0 d.start d.bound d.void,
      { u with due := none, pkt := if late then { u.pkt with status := stBoundExceeded } else u.pkt })

/-- A cluster's scheduler starts a tile: what it waited there is its operation's (R113). -/
def startTile (s : State) (sch h n : Nat) : State :=
  let waited := s.now - ((tileOf s h n).map Tile.start).getD s.now
  modOp (modTile s h n fun t => { t with started := true }) h fun o =>
    { o with waitAt := tset 0 o.waitAt (sch - 24) (tgetD o.waitAt (sch - 24) 0 + waited) }

/-- Start a unit: V becomes its tag, and it passes to the port, the CXL link or its cluster (R109). -/
def startUnit (s : State) (sch : Nat) (u : WUnit) : State :=
  let x := sched s sch
  let s := depthGauge (setSched s sch { x with vtime := u.tag, units := x.units.erase u }) sch
  match schedPort sch with
  | some p =>
    let (s, u) := endDue s u
    let k := p * 16 + u.pkt.ch
    let sent := tset 0 s.link.sentTx k ((tgetD s.link.sentTx k 0 + pktUnits u.pkt) % 65536)
    let s := { s with link := { s.link with sentTx := sent, tx := tput s.link.tx p (tgetD s.link.tx p [] ++ [u]) } }
    count (count s (portPage p) 0 1) (portPage p) 1 (pktBytes u.pkt)
  | none =>
    let s := unchargeBacklog s sch u.cls u.charge
    match u.out with
    | some o => put s o
    | none =>
      match u.tile with
      | some (h, n) => startTile s sch h n
      | none => s

/-- SCHEDULER_START_UNIT (R108, R109, R110). -/
def execSchedulerStartUnit (sched : Nat) (s : State) : Result :=
  match nextUnit s sched with
  | some u => .next (startUnit s sched u)
  | none => .next s

/-- The shadow list of a port: ENTRIES windows. -/
def shadowList (s : State) (p n : Nat) : List (Nat × BitVec 8) :=
  (rangeFrom 0 n).map fun i => tgetD s.weir.shadow (p * 64 + i) (0, 0)

/-- The check of R111: durations sum to the cycle, and every class that opens has a window of 18.7 ns. -/
def gateListOk (ws : List (Nat × BitVec 8)) (cycleUs : Nat) : Bool :=
  ws.isEmpty ||
  (decide ((ws.map Prod.fst).sum = cycleUs * 1000) &&
   (rangeFrom 0 8).all fun c =>
    !(ws.any fun w => w.2.getLsbD c) || ws.any fun w => w.2.getLsbD c && decide (19 ≤ w.1))

/-- GATE_COMMIT (R111): a write of WEIR.GATE_CTLp with COMMIT. COMMIT_ERR stays set until a 1 is written to it, also past a
later commit that is accepted (DESIGN CHOICE, log entry 100). -/
def execGateCommit (id port : Nat) (value : W32) (s : State) : Result :=
  let a := ra pgWEIR (0x280 + 4 * port)
  if 20 < port ∨ id = 0 then .next s
  else
    let v := writeFields false (rd s a) value.toNat
      [fRW 0 10 10 10 1000, fRW 10 7 0 0 64, fW1C 19 1]
    let s := wr s a v
    if value.toNat.testBit 17 then
      let ws := shadowList s port (fld v 10 7)
      if gateListOk ws (fld v 0 10) then
        .next (wb (setGate s port { gate s port with pending := some ws }) a 18 true)
      else .next (wb s a 19 true)
    else .next s

/-- GATE_CYCLE_START (R111): an accepted list takes effect at a cycle start. -/
def execGateCycleStart (port : Nat) (s : State) : Result :=
  let g := gate s port
  let s := wb s (ra pgWEIR (0x280 + 4 * port)) 18 false
  .next (setGate s port
    { active := g.pending.getD g.active, pending := none, window := 0, since := s.now })

/-- GATE_WINDOW_BOUNDARY (R110): the next window's mask applies. -/
def execGateWindowBoundary (port : Nat) (s : State) : Result :=
  let g := gate s port
  guarded (decide (g.window + 1 < g.active.length)) s fun s =>
    setGate s port { g with window := g.window + 1, since := g.since + (nth g.active g.window (0, 0)).1 }

end Sys2Proof.Machine
end

