-- ==== Sys2Proof/Machine/Access.lean ====
section
/-!
DEFINITION. Accesses at the home of a line: tier of the line and its DRAM channel (R322), reads and writes with
poison, CACHE frames (R123, R124, R127), merge buffers (R335), and the mirror (R389).
-/
namespace Sys2Proof.Machine

/-! ## From line to channel -/

/-- Bytes of a grain code (Table 2-2), 64 KiB for a stripe of grain 64 KiB or 2 MiB (R322). -/
def grainBytes (g : Nat) : Nat :=
  match g with
  | 0 => 256
  | 1 => 1024
  | 2 => 4096
  | _ => 65536

/-- Channel and channel address of a DRAM address in a stripe of a grain (R322). -/
def mapDa (g da : Nat) : Nat × Nat :=
  let st := da / 1572864
  let o := da % 1572864
  let gb := grainBytes g
  let j := o / gb
  let q := j / 24
  let h := Nat.xor (fld st 0 8) (Nat.xor (fld st 8 8) (Nat.xor (fld st 16 8) (fld q 0 8))) % 24
  ((j % 24 + h) % 24, st * 65536 + q * gb + o % gb)

/-- DRAM address of a line whose sub-page has its home in DRAM. -/
def lineDa (s : State) (line : Nat) : Option Nat :=
  let r := subRec s (line / 1024)
  if r.state = 1 ∨ r.state = 2 then some (r.frame * 65536 + (line % 1024) * 64) else none

/-- DRAM channel of a line. -/
def lineChannel (s : State) (line : Nat) : Option Nat :=
  (lineDa s line).map fun da => (mapDa (grainOf s (da / 1572864)) da).1

/-- DRAM.STAT.STATE of a channel: 3 FAILED (Table 14-5). -/
def chanState (s : State) (ch : Nat) : Nat := rf s (ra (pgDRAM + ch) 0x104) 0 2
def chanFailed (s : State) (ch : Nat) : Bool := decide (chanState s ch = 3)

/-- The line is served from a valid line of its CACHE frame (Table 6-3). -/
def inBasin (s : State) (line : Nat) : Bool :=
  let r := subRec s (line / 1024)
  decide (r.state = 2) && r.valid.getLsbD (line % 1024)

/-- First group and number of groups of the CACHE partition (R117). -/
def cacheFirst (s : State) : Nat :=
  let v := rd s (ra pgTIER 0x110)
  fld v 0 6 + fld v 6 6 + fld v 12 6
def cacheGroups (s : State) : Nat := rf s (ra pgTIER 0x110) 18 6

/-- MIGRATE is moving the sub-page of a line, or a bank of the line's Basin group is being substituted (Table 5-2). -/
def lineVoid (s : State) (line : Nat) : Bool :=
  ((moveOf s (line / 1024)).map fun m => decide (m.kind = .migrate) ||
      ((opOf s m.op).map fun o => decide (o.opcode = 0x17)).getD false).getD false ||
    (inBasin s line && decide (cacheGroups s ≠ 0) &&
      (tget s.basin.subst (cacheFirst s + ((subRec s (line / 1024)).cache * 1024 + line % 1024) % cacheGroups s)).isSome)

/-- A request that is admitted now has a void bound: its EID's route drains, a port that it crosses is in a span, or its
line is being moved (Table 5-2, R294). -/
def bornVoid (s : State) (eid : Option Nat) (via : Option Nat) (sch line : Nat) : Bool :=
  (eid.map fun e => (route s e).draining).getD false || viaVoid s via || viaVoid s (schedPort sch) || lineVoid s line

/-- The line would be served by a channel that is FAILED (Table 14-3). -/
def onFailed (s : State) (line : Nat) : Bool :=
  !inBasin s line && (match lineChannel s line with
    | some ch => chanFailed s ch
    | none => false)

def drPage (ch : Nat) : Nat := pgDRAM + ch
def drStat (ch : Nat) : Nat := ra (drPage ch) 0x104

/-! ## Address decoding (R324) -/

/-- The fields of a channel address. -/
structure CaFields where
  sc : Nat
  rk : Nat
  bg : Nat
  ba : Nat
  col : Nat
  row : Nat
  deriving DecidableEq, Repr

/-- Cut fields of given widths from a number, upward. -/
def cutFields : List Nat → Nat → List Nat
  | [], v => [v]
  | w :: ws, v => v % 2 ^ w :: cutFields ws (v / 2 ^ w)

/-- Decode a channel address under a MAP with `b` bank bits (Table 14-2), with the XOR of R324. -/
def caDecode (map b ca : Nat) : CaFields :=
  let v := ca / 64
  let f (ws : List Nat) (i : Nat) : Nat := nth (cutFields ws v) i 0
  let x : CaFields := match map with
    | 0 => let w := [1, 3, 7, b, 1]; { sc := f w 0, bg := f w 1, col := f w 2, ba := f w 3, rk := f w 4, row := f w 5 }
    | 1 => let w := [1, 7, 3, b, 1]; { sc := f w 0, col := f w 1, bg := f w 2, ba := f w 3, rk := f w 4, row := f w 5 }
    | 2 => let w := [1, 3, b, 1, 7]; { sc := f w 0, bg := f w 1, ba := f w 2, rk := f w 3, col := f w 4, row := f w 5 }
    | _ => let w := [7, 1, 3, b, 1]; { col := f w 0, sc := f w 1, bg := f w 2, ba := f w 3, rk := f w 4, row := f w 5 }
  { x with bg := Nat.xor x.bg (x.row % 8), ba := Nat.xor x.ba (fld x.row 3 b) }

/-- Decode a channel address of a channel. -/
def chanDecode (s : State) (ch ca : Nat) : CaFields :=
  caDecode (rf s (ra (drPage ch) 0x100) 0 2) (if rf s (drStat ch) 2 2 = 1 then 1 else 2) ca

/-- The key of a row (Tables 14-5 and 16-3). -/
def rowKey (x : CaFields) : Nat := x.row + x.ba * 0x20000 + x.bg * 0x80000 + x.rk * 0x400000 + x.sc * 0x800000

/-- The bank of an address within its channel. -/
def bankOf (x : CaFields) : Nat := x.ba + 4 * x.bg + 32 * x.rk + 64 * x.sc

/-- The slot that serves a remapped key of a channel. -/
def remapSlot (s : State) (ch key : Nat) : Option Nat :=
  (s.dram.remap.find? fun e => decide (e.1 / 4096 = ch) && decide (e.2 = key)).map fun e => e.1 % 4096

/-- The channel address that serves another: a line of a remapped row lies in its slot, in the channel's top 32 MiB
(R337). -/
def servedCa (s : State) (ch ca : Nat) : Nat :=
  let x := chanDecode s ch ca
  match remapSlot s ch (rowKey x) with
  | some k => 2 ^ (34 + rf s (drStat ch) 2 2) - 2 ^ 25 + 8192 * k + 64 * x.col
  | none => ca

/-! ## Line accesses at the channels -/

/-- Queue a DRAM request on the line's channel (R325); a full subchannel makes it wait at the home. -/
def dramQueue (s : State) (line cls : Nat) (write : Bool) : State :=
  match lineDa s line with
  | none => s
  | some da =>
    let (ch, ca) := mapDa (grainOf s (da / 1572864)) da
    let q := tgetD s.dram.queue ch []
    let dl := rf s (ra (pgDRAM + ch) (0x10C + 4 * cls)) 0 20
    let r : DramReq := { sub := (chanDecode s ch (servedCa s ch ca)).sc, line, write, deadline := s.now + dl, row := ca, cls }
    { s with dram := { s.dram with queue := tput s.dram.queue ch (q ++ [r]) } }

/-! ## Merge buffers (R335) -/

def mergeOf (s : State) (ch : Nat) : List MergeEntry := tgetD s.dram.merge ch []
def setMerge (s : State) (ch : Nat) (m : List MergeEntry) : State :=
  let s := { s with dram := { s.dram with merge := tset [] s.dram.merge ch m } }
  wf s (ra (pgDRAM + ch) 0x12C) 12 7 m.length

/-- Forget the merge entries of a sub-page that leaves its frame. -/
def dropMerges (s : State) (q : Nat) : State :=
  (tkeys s.dram.merge fun _ es => es.any fun e => decide (e.line / 1024 = q)).foldl (fun s ch =>
    setMerge s ch ((mergeOf s ch).filter fun e => e.line / 1024 ≠ q)) s

/-- A sub-page gives up its move, its frames, its bytes and its marks: it is DRY (R44). -/
def dropSub (s : State) (q : Nat) : State :=
  let s := match moveOf s q with
    | some m => abandonMove s m
    | none => s
  let s := setSub (zeroSub (releaseRec (dropMerges s q) (subRec s q)) q) q {}
  { s with tier := { s.tier with releases := tdel s.tier.releases q, fills := s.tier.fills.erase q } }

/-- A line number after sub-page a has become sub-page b. -/
def renumber (a b line : Nat) : Nat := if line / 1024 = a then b * 1024 + line % 1024 else line

/-- Sub-page a, with its record, its bytes and all that runs on it, becomes sub-page b (R48, R50). -/
def moveSub (a b : Nat) (s : State) : State :=
  let sub (q : Nat) : Nat := if q = a then b else q
  let s := zeroSub (setSub (setSub (copySub s a b) b (subRec s a)) a {}) a
  { s with
    tier := { s.tier with
      moves := s.tier.moves.map fun m => { m with sub := sub m.sub },
      releases := (tfilter s.tier.releases fun q _ => q ≠ b).foldl (fun t e => tput t (sub e.1) (sub e.2)) [],
      fills := (s.tier.fills.filter fun q => q ≠ b).foldl (fun l q => insNat (sub q) l) [] }
    dram := { s.dram with
      queue := tmap s.dram.queue fun _ rs => rs.map fun r => { r with line := renumber a b r.line },
      merge := tmap s.dram.merge fun _ es => es.map fun e => { e with line := renumber a b e.line } }
    dir := { s.dir with trans := tmap s.dir.trans fun _ t => { t with tier := t.tier.map sub } } }

/-- An entry leaves: a whole line, or a read-modify-write (R335). -/
def mergeLeave (s : State) (ch cls : Nat) (e : MergeEntry) : State :=
  let s := setMerge s ch ((mergeOf s ch).filter fun x => x.line ≠ e.line)
  if e.mask = BitVec.allOnes 64 then dramQueue s e.line cls true
  else count (dramQueue (dramQueue s e.line cls false) e.line cls true) (pgDRAM + ch) 6 1

/-- A narrow write enters or merges (R335). The bytes are already in memory; the entry records what the
channel still has to write. -/
def mergeEnter (s : State) (ch line cls : Nat) (mask : BitVec 64) : State :=
  if rf s (ra (pgDRAM + ch) 0x12C) 0 12 = 0 then
    count (dramQueue (dramQueue s line cls false) line cls true) (pgDRAM + ch) 6 1
  else
    match (mergeOf s ch).find? fun e => e.line = line with
    | some e =>
      let e := { e with mask := e.mask ||| mask }
      if e.mask = BitVec.allOnes 64 then mergeLeave s ch cls e
      else setMerge s ch ((mergeOf s ch).map fun x => if x.line = line then e else x)
    | none =>
      let s := if 64 ≤ (mergeOf s ch).length then
          match mergeOf s ch with
          | e :: _ => count (mergeLeave s ch cls e) (pgDRAM + ch) 7 1
          | [] => s
        else s
      setMerge s ch (mergeOf s ch ++ [{ line, mask, data := [], opened := s.now }])

/-! ## CACHE frames -/

/-- Commit the release of a CACHE frame: it returns to the free list and the sub-page enters DRAM (R124). -/
def releaseCommit (s : State) (q : Nat) : State :=
  let r := subRec s q
  let s := freeCache s r.cache
  let s := setSub s q { state := 1, frame := r.frame }
  count { s with tier := { s.tier with releases := tdel s.tier.releases q, fills := s.tier.fills.erase q } } pgTIER 1 1

/-- Allocate a CACHE frame for a DRAM sub-page, every line invalid, and begin its background fill (R123). -/
def basinEnter (s : State) (q : Nat) : State :=
  match takeCache s with
  | none => s
  | some (f, s) =>
    let r := subRec s q
    let s := setSub s q { r with state := 2, cache := f, valid := 0, dirty := 0, evicting := false }
    count { s with tier := { s.tier with fills := insNat q s.tier.fills } } pgTIER 0 1

/-- Begin the release of a CACHE frame for `next`, or 0: with no dirty line it ends at once (R124). -/
def releaseStart (s : State) (q next : Nat) : State :=
  let r := subRec s q
  if r.dirty = 0 then
    let s := releaseCommit s q
    if next = 0 then s else basinEnter s next
  else
    let s := setSub s q { r with evicting := true }
    { s with tier := { s.tier with releases := tput s.tier.releases q next } }

/-- The victim of R127: a BASIN sub-page, not pinned, with the lowest page count, then the lowest frame. -/
def basinVictim (s : State) : Option Nat :=
  ((s.tier.subs.filter fun e => decide (e.2.state = 2) && !e.2.evicting &&
      decide (((regionOfSub s e.1).map fun r => r.2.residency).getD 0 ≠ 2)).foldl (fun acc e =>
    let c := (pageRec s (pageOfSub e.1)).count
    match acc with
    | none => some (e.1, c, e.2.cache)
    | some (_, c', f') => if c < c' ∨ (c = c' ∧ e.2.cache < f') then some (e.1, c, e.2.cache) else acc) none).map
      Prod.fst

/-- Promote a hot DRAM sub-page (R127). -/
def hotPromote (s : State) (q : Nat) : State :=
  let r := subRec s q
  let c := (pageRec s (pageOfSub q)).count
  if !rb s (ra pgTIER 0x100) 20 || decide (r.state ≠ 1) || decide (c < rf s (ra pgTIER 0x104) 0 16) ||
      (moveOn s (q / 32)).isSome then s
  else if (takeCache s).isSome then basinEnter s q
  else match basinVictim s with
    | none => s
    | some v => if (pageRec s (pageOfSub v)).count < c then releaseStart s v q else s

/-- Record the accesses of one request and promote what has become hot (R126, R127). -/
def access (s : State) (subs : List Nat) : State :=
  subs.foldl hotPromote (touchPages s subs)

/-! ## Reads and writes of lines -/

/-- A sub-page lost at a takeover takes a frame at its first access, with every line poisoned (Table 17-8, action 3). -/
def lostFrame (s : State) (q : Nat) : State :=
  if (subRec s q).state = 0 ∧ subPoisoned s q then
    match takeFrame s (((regionOfSub s q).map fun e => e.2.grain).getD 3) q with
    | some (f, s) => setSub s q { state := 1, frame := f }
    | none => s
  else s

/-- Read a line at its home: data and poison code. A failed channel returns zeros and UNCORR_DRAM. -/
def readLine (s : State) (line cls : Nat) : Bytes × Nat × State :=
  if onFailed s line then (zeros 64, 1, s)
  else
    let s := lostFrame s (line / 1024)
    let s :=
      if inBasin s line then s
      else
        let s := match lineChannel s line with
          | some ch => (match (mergeOf s ch).find? fun e => e.line = line with
              | some e => mergeLeave s ch cls e
              | none => s)
          | none => s
        let s := dramQueue s line cls false
        let r := subRec s (line / 1024)
        if r.state = 2 ∧ ¬ r.evicting then setSub s (line / 1024) { r with valid := setBit r.valid (line % 1024) }
        else s
    (bytesAt s (line * 64) 64, poisonAt s line, s)

/-- PAIR.STAT.PARTNER is STANDBY and this controller is ACTIVE: synchronous happenings go across (R389). -/
def mirroring (s : State) : Bool := decide (rf s (ra pgPAIR 0x108) 3 3 = 1) && decide (pairState s = 0)

/-- Something waits for the MACK of the next packet, whose tag is the answer (R389). -/
def awaitMack (s : State) (dir : Bool) (who : MackFor) : Nat × State :=
  let t := s.pair.nextTag
  (t, { s with pair := { s.pair with macks := s.pair.macks ++ [(t, dir, who)], nextTag := (t + 1) % 65536 } })

/-- A line as it leaves on the Runnel: ciphertext under its domain's key, tweaked by PA[51:6] (R415, R417). -/
def sealedLine (s : State) (line : Nat) (bs : Bytes) : Bytes :=
  let dom := ((regionOfSub s (line / 1024)).map fun e => e.2.dom).getD 1024
  fitBytes 64 (Config.lineCipher ((tget s.sec.keys dom).map KeySlot.key |>.getD 0) (line % 2 ^ 46) bs)

/-- Some lines as they leave on the Runnel. -/
def sealedLines (s : State) (line n : Nat) : Bytes :=
  (rangeFrom line n).flatMap fun l => sealedLine s l (bytesAt s (l * 64) 64)

/-- Send a mirrored line and wait for its MACK. -/
def mirrorLine (s : State) (line : Nat) (who : MackFor) : State :=
  let (t, s) := awaitMack s false who
  sendRunnel s (homeSlice line) (runMwr t (line * 64) none (poisonAt s line) (sealedLines s line 1))

/-- The line's sub-page has been copied to a partner that resynchronises: a write to it goes across, and nothing waits for
it (R404, Table 17-1; log entry 87). -/
def copiedLine (s : State) (line : Nat) : Bool :=
  decide (pairState s = 4) && (s.pair.sync.map fun l => !l.contains (line / 1024)).getD false

/-- Send a sub-page, as much in a packet as it holds; a poisoned line goes again by itself. -/
def mirrorSub (s : State) (q : Nat) (who : MackFor) : State :=
  let part (s : State) (line n pc : Nat) : State :=
    let (t, s) := awaitMack s false who
    sendRunnel s (homeSlice line) (runMwr t (line * 64) none pc (sealedLines s line n))
  let s := (rangeFrom 0 16).foldl (fun s b => part s (q * 1024 + b * 64) 64 0) s
  (rangeFrom (q * 1024) 1024).foldl (fun s l => if poisonAt s l = 0 then s else part s l 1 (poisonAt s l)) s

/-- Write the masked bytes of a line at its home in a sub-page that has been prepared. -/
def storeLine (s : State) (mirrored : Bool) (line cls : Nat) (data : Bytes) (mask pcode : Nat)
    (who : MackFor) : State :=
  if onFailed s line then
    match lineChannel s line with
    | some ch => count s (pgDRAM + ch) 9 1
    | none => s
  else
    let r := subRec s (line / 1024)
    let s := markLines (writeLine s line data mask (if pcode = 0 then 0 else storedCode pcode)) (line * 64) 1
    let s := if r.state = 2 ∧ ¬ r.evicting then s
      else
        match lineChannel s line with
        | some ch =>
          if mask = 2 ^ 64 - 1 then
            dramQueue (setMerge s ch ((mergeOf s ch).filter fun e => e.line ≠ line)) line cls true
          else mergeEnter s ch line cls (BitVec.ofNat 64 mask)
        | none => s
    if mirrored ∧ mirroring s then mirrorLine s line who
    else if mirrored ∧ copiedLine s line then mirrorLine s line .atomic
    else s

end Sys2Proof.Machine
end

