-- ==== Sys2Proof/Machine/Formats.lean ====
section
/-!
DEFINITION. Number formats (R179 to R182) and rounding (R183, Table 8-8): exact values, IEEE 754 arithmetic with
one rounding an operation, and the packing of elements.
-/
namespace Sys2Proof.Machine

/-! ## Exact values -/

/-- A floating value: NaN, an infinity, or (−1)^neg × m × 2^e. -/
inductive Fp where
  | nan
  | inf (neg : Bool)
  | fin (neg : Bool) (m : Nat) (e : Int)
  deriving DecidableEq, Repr

/-- A floating format: stored fraction bits, exponent of the smallest normal, largest finite value
maxM × 2^maxE, code of the canonical NaN, whether it has infinities, and bits in all. -/
structure FpFmt where
  mb : Nat
  emin : Int
  maxM : Nat
  maxE : Int
  nan : Nat
  inf : Bool
  bits : Nat
  deriving DecidableEq, Repr

def fmt32 : FpFmt := ⟨23, -126, 0x1000000 - 1, 104, 0x7FC00000, true, 32⟩
def fmtBf16 : FpFmt := ⟨7, -126, 255, 120, 0x7FC0, true, 16⟩
def fmtFp16 : FpFmt := ⟨10, -14, 2047, 5, 0x7E00, true, 16⟩
def fmtE4M3 : FpFmt := ⟨3, -6, 14, 5, 0x7F, false, 8⟩
def fmtE5M2 : FpFmt := ⟨2, -14, 7, 13, 0x7E, true, 8⟩
def fmtE2M3 : FpFmt := ⟨3, 0, 15, -1, 0, false, 6⟩
def fmtE3M2 : FpFmt := ⟨2, -2, 7, 2, 0, false, 6⟩
def fmtE2M1 : FpFmt := ⟨1, 0, 3, 1, 0, false, 4⟩
def fmt64 : FpFmt := ⟨52, -1022, 2 ^ 53 - 1, 971, 0x7FF8000000000000, true, 64⟩

/-- Exponent of a finite non-zero value: floor(log2). -/
def fpExp (m : Nat) (e : Int) : Int := (Nat.log2 m : Int) + e

/-- m × 2^e over 2^q, rounded to nearest, ties to even. -/
def rneAt (m : Nat) (e q : Int) : Nat :=
  if q ≤ e then m * 2 ^ (e - q).toNat
  else
    let d := (q - e).toNat
    let k := m >>> d
    let r := m - k * 2 ^ d
    if 2 ^ d < 2 * r ∨ (2 ^ d = 2 * r ∧ k % 2 = 1) then k + 1 else k

/-- The quantum of a value in a format: weight of the least bit that the format keeps at its exponent. -/
def quantum (f : FpFmt) (m : Nat) (e : Int) : Int := max (fpExp m e) f.emin - f.mb

/-- n × 2^q exceeds the largest finite value of a format. -/
def beyond (f : FpFmt) (n : Nat) (q : Int) : Bool :=
  if f.maxE ≤ q then decide (f.maxM < n * 2 ^ (q - f.maxE).toNat)
  else decide (f.maxM * 2 ^ (f.maxE - q).toNat < n)

/-- Finite overflow (Table 8-8): an infinity, or NaN where there is none; with SAT the largest finite. -/
def overflow (f : FpFmt) (sat neg : Bool) : Fp :=
  if sat then .fin neg f.maxM f.maxE else if f.inf then .inf neg else .nan

/-- Round to nearest even into a format. -/
def fpRne (f : FpFmt) (x : Fp) : Fp :=
  match x with
  | .nan => .nan
  | .inf n => .inf n
  | .fin neg m e =>
    if m = 0 then .fin neg 0 0
    else
      let q := quantum f m e
      let n := rneAt m e q
      if beyond f n q then overflow f false neg else .fin neg n q

/-! ## Arithmetic with one rounding (R182) -/

/-- Signed integer of a magnitude. -/
def signed (neg : Bool) (m : Nat) : Int := if neg then -(m : Int) else m

/-- Exact sum of two finite values, with the IEEE sign of a zero. -/
def exactAdd (na : Bool) (ma : Nat) (ea : Int) (nb : Bool) (mb : Nat) (eb : Int) : Fp :=
  let e := min ea eb
  let s := signed na ma * 2 ^ (ea - e).toNat + signed nb mb * 2 ^ (eb - e).toNat
  if s = 0 then .fin (na && nb && decide (ma = 0) && decide (mb = 0)) 0 0
  else .fin (decide (s < 0)) s.natAbs e

def fpNeg : Fp → Fp
  | .nan => .nan
  | .inf n => .inf (!n)
  | .fin n m e => .fin (!n) m e

def fpAbs : Fp → Fp
  | .nan => .nan
  | .inf _ => .inf false
  | .fin _ m e => .fin false m e

/-- Exact sum. -/
def sumEx (a b : Fp) : Fp :=
  match a, b with
  | .nan, _ | _, .nan => .nan
  | .inf x, .inf y => if x = y then .inf x else .nan
  | .inf x, _ => .inf x
  | _, .inf y => .inf y
  | .fin na ma ea, .fin nb mb eb => exactAdd na ma ea nb mb eb

/-- Exact product. -/
def mulEx (a b : Fp) : Fp :=
  match a, b with
  | .nan, _ | _, .nan => .nan
  | .inf x, .inf y => .inf (Bool.xor x y)
  | .inf x, .fin n m _ => if m = 0 then .nan else .inf (Bool.xor x n)
  | .fin n m _, .inf y => if m = 0 then .nan else .inf (Bool.xor n y)
  | .fin na ma ea, .fin nb mb eb => .fin (Bool.xor na nb) (ma * mb) (ea + eb)

def fpAdd (f : FpFmt) (a b : Fp) : Fp := fpRne f (sumEx a b)
def fpSub (f : FpFmt) (a b : Fp) : Fp := fpAdd f a (fpNeg b)
def fpMul (f : FpFmt) (a b : Fp) : Fp := fpRne f (mulEx a b)
/-- a × b + c with one rounding. -/
def fpFma (f : FpFmt) (a b c : Fp) : Fp := fpRne f (sumEx (mulEx a b) c)

/-- Division, correctly rounded: the quotient carries a sticky bit. -/
def fpDiv (f : FpFmt) (a b : Fp) : Fp :=
  match a, b with
  | .nan, _ | _, .nan => .nan
  | .inf _, .inf _ => .nan
  | .inf x, .fin n _ _ => .inf (Bool.xor x n)
  | .fin n _ _, .inf y => .fin (Bool.xor n y) 0 0
  | .fin na ma ea, .fin nb mb eb =>
    let s := Bool.xor na nb
    if mb = 0 then (if ma = 0 then .nan else .inf s)
    else if ma = 0 then .fin s 0 0
    else
      let k := f.mb + 4 + Nat.log2 mb
      let q := ma * 2 ^ k / mb
      let r := ma * 2 ^ k % mb
      fpRne f (.fin s (2 * q + if r = 0 then 0 else 1) (ea - eb - k - 1))

/-- Integer square root, by bits from the highest. -/
def isqrtFrom : Nat → Nat → Nat → Nat
  | 0, r, n => if (r + 1) * (r + 1) ≤ n then r + 1 else r
  | i + 1, r, n => isqrtFrom i (if (r + 2 ^ (i + 1)) * (r + 2 ^ (i + 1)) ≤ n then r + 2 ^ (i + 1) else r) n

def isqrt (n : Nat) : Nat := isqrtFrom (Nat.log2 n / 2 + 1) 0 n

/-- Square root, correctly rounded; of a negative value NaN. -/
def fpSqrt (f : FpFmt) (a : Fp) : Fp :=
  match a with
  | .nan => .nan
  | .inf n => if n then .nan else .inf false
  | .fin neg m e =>
    if m = 0 then .fin neg 0 0
    else if neg then .nan
    else
      let (m, e) := if e % 2 = 0 then (m, e) else (2 * m, e - 1)
      let k := f.mb + 4
      let n := m * 2 ^ (2 * k)
      let r := isqrt n
      fpRne f (.fin false (2 * r + if r * r = n then 0 else 1) (e / 2 - k - 1))

/-- x ^ t, formed exactly and rounded once (R206; log entry 7). -/
def fpPow (f : FpFmt) (x : Fp) (t : Nat) : Fp :=
  match x with
  | .nan => .nan
  | .inf n => .inf (n && decide (t % 2 = 1))
  | .fin n m e => fpRne f (.fin (n && decide (t % 2 = 1)) (m ^ t) (e * t))

/-- Order of two values that are not NaN, −0 equal to +0. -/
def fpLt (a b : Fp) : Bool :=
  match a, b with
  | .nan, _ | _, .nan => false
  | .inf x, .inf y => x && !y
  | .inf x, _ => x
  | _, .inf y => !y
  | .fin na ma ea, .fin nb mb eb =>
    let e := min ea eb
    decide (signed na ma * 2 ^ (ea - e).toNat < signed nb mb * 2 ^ (eb - e).toNat)

/-- A finite value, a NaN, an infinity. -/
def fpFinite : Fp → Bool
  | .fin .. => true
  | _ => false
def fpIsNan : Fp → Bool
  | .nan => true
  | _ => false
def fpIsInf : Fp → Bool
  | .inf _ => true
  | _ => false
def fpNegBit : Fp → Bool
  | .nan => false
  | .inf n => n
  | .fin n _ _ => n

def fpEq (a b : Fp) : Bool := !fpIsNan a && !fpIsNan b && !fpLt a b && !fpLt b a

/-- MAX and MIN (R201): NaN if either is NaN; −0 orders below +0. -/
def fpMax (a b : Fp) : Fp :=
  if fpIsNan a || fpIsNan b then .nan
  else if fpLt a b || (fpEq a b && fpNegBit a) then b else a
def fpMin (a b : Fp) : Fp :=
  if fpIsNan a || fpIsNan b then .nan
  else if fpLt b a || (fpEq a b && fpNegBit b) then b else a

/-! ## Codes -/

/-- The value of a code. -/
def fpDecode (f : FpFmt) (c : Nat) : Fp :=
  let neg := c.testBit (f.bits - 1)
  let eb := f.bits - 1 - f.mb
  let ex := fld c f.mb eb
  let fr := fld c 0 f.mb
  if f.inf ∧ ex = 2 ^ eb - 1 then (if fr = 0 then .inf neg else .nan)
  else if f = fmtE4M3 ∧ c % 128 = 127 then .nan
  else if ex = 0 then .fin neg fr (f.emin - f.mb)
  else .fin neg (2 ^ f.mb + fr) (f.emin - f.mb + (ex : Int) - 1)

/-- The code of a value that the format holds exactly. -/
def fpCode (f : FpFmt) (x : Fp) : Nat :=
  match x with
  | .nan => f.nan
  | .inf n => (if n then 2 ^ (f.bits - 1) else 0) + (2 ^ (f.bits - 1 - f.mb) - 1) * 2 ^ f.mb
  | .fin neg m e =>
    let s := if neg then 2 ^ (f.bits - 1) else 0
    if m = 0 then s
    else
      let q := quantum f m e
      let n := rneAt m e q
      s + (if n < 2 ^ f.mb then n else ((q - (f.emin - f.mb)).toNat + 1) * 2 ^ f.mb + n - 2 ^ f.mb)

def fp32 (c : Nat) : Fp := fpDecode fmt32 c
def code32 (x : Fp) : Nat := fpCode fmt32 x

/-! ## Format codes (Table 8-1) -/

def isIntFmt (c : Nat) : Bool := [0x10, 0x11, 0x12].contains c
def isMx (c : Nat) : Bool := decide (0x08 ≤ c) && decide (c ≤ 0x0D)
def isFp8 (c : Nat) : Bool := decide (c = 3) || decide (c = 4)
def isFloatFmt (c : Nat) : Bool := decide (c ≤ 4)
def isFmt (c : Nat) : Bool := isFloatFmt c || isMx c || isIntFmt c || decide (c = 0x20)
def fmtPair : Nat := 0x20

/-- Bits per element, scales apart. -/
def elemBits (c : Nat) : Nat :=
  match c with
  | 0x00 | 0x10 => 32
  | 0x01 | 0x02 => 16
  | 0x0A | 0x0B => 6
  | 0x0C | 0x12 => 4
  | 0x20 => 64
  | _ => 8

/-- Bytes of E elements in a format. -/
def elemBytes (c e : Nat) : Nat := e * elemBits c / 8

/-- Width of an integer format. -/
def intBits (c : Nat) : Nat :=
  match c with
  | 0x10 => 32
  | 0x11 => 8
  | _ => 4

/-- The floating format of a code, or of an MX format's elements. -/
def floatFmt (c : Nat) : FpFmt :=
  match c with
  | 0x01 => fmtBf16
  | 0x02 => fmtFp16
  | 0x03 | 0x08 => fmtE4M3
  | 0x04 | 0x09 => fmtE5M2
  | 0x0A => fmtE2M3
  | 0x0B => fmtE3M2
  | 0x0C => fmtE2M1
  | _ => fmt32

/-- Two's complement of `w` bits. -/
def toSigned (w c : Nat) : Int := if c.testBit (w - 1) then (c % 2 ^ w : Nat) - (2 ^ w : Nat) else (c % 2 ^ w : Nat)
def ofSigned (w : Nat) (x : Int) : Nat := (x % (2 ^ w : Nat)).toNat

/-- Clamp to the limits of a `w`-bit integer (R182). -/
def clampInt (w : Nat) (x : Int) : Int :=
  let hi : Int := (2 ^ (w - 1) : Nat) - 1
  max (-hi - 1) (min hi x)

/-- A working value (R182): FP32, or INT32 for the integer formats. -/
inductive Num where
  | fp (x : Fp)
  | int (x : Int)
  deriving DecidableEq, Repr

/-- The integer value as a float, exactly. -/
def intFp (x : Int) : Fp := .fin (decide (x < 0)) x.natAbs 0

/-- Widened to FP32. -/
def numFp : Num → Fp
  | .fp x => x
  | .int x => fpRne fmt32 (intFp x)

/-- The working value of an element code; MX formats need the scale too. -/
def numOf (fmt c : Nat) : Num :=
  if isIntFmt fmt then .int (toSigned (intBits fmt) c) else .fp (fpDecode (floatFmt fmt) c)

/-- The value of an MX element's code. DEDUCED: an MX format has no infinities (Table 8-1), and the two codes that E5M2
gives to them are NaN (log entry 82). -/
def mxRead (fmt c : Nat) : Fp :=
  if fmt = 0x0D then
    let v := toSigned 8 c
    .fin (decide (v < 0)) v.natAbs (-6)
  else
    match fpDecode (floatFmt fmt) c with
    | .inf _ => .nan
    | x => x

/-- An MX element times its scale, in FP32 (R181, R196). -/
def mxValue (fmt c scale : Nat) : Fp :=
  if scale = 0xFF then .nan else fpMul fmt32 (mxRead fmt c) (.fin false 1 ((scale : Int) - 127))

/-! ## Stochastic rounding (R183) -/

/-- The random bits of element j of tile i. -/
def stochBits (seed i j : Nat) : Nat :=
  let x := Nat.xor (Nat.xor (seed % 2 ^ 32) (i * 0x9E3779B9)) (j * 0x85EBCA6B) % 2 ^ 32
  let x := Nat.xor x (x >>> 16)
  let x := x * 0x7FEB352D % 2 ^ 32
  let x := Nat.xor x (x >>> 15)
  let x := x * 0x846CA68B % 2 ^ 32
  Nat.xor x (x >>> 16)

/-- m × 2^e over 2^q with r added to the 24-bit magnitude and the dropped bits cleared. The magnitude stands in the
units of the working value's last place: for d below 24 this is what the rule's bits [30:0] give, and for d of 24 or
more it is the reading under which the result is a value of the output format (DEDUCED, log entry 23). -/
def stochAt (m : Nat) (e q : Int) (x : Nat) : Nat :=
  let u := max (fpExp m e) (-126) - 23
  let big := rneAt m e u
  if q ≤ u then big * 2 ^ (u - q).toNat
  else
    let d := (q - u).toNat
    let r := if d ≤ 32 then x >>> (32 - d) else x * 2 ^ (d - 32)
    (big + r) >>> d

/-- How a rounding to a narrower format is made: none for nearest even, else the random bits. -/
abbrev Rnd := Option Nat

def roundAt (rnd : Rnd) (m : Nat) (e q : Int) : Nat :=
  match rnd with
  | none => rneAt m e q
  | some x => stochAt m e q x

/-- Round a working FP32 value into a floating format (Table 8-8); FP32 itself drops no bit. -/
def fpNarrow (f : FpFmt) (sat : Bool) (rnd : Rnd) (x : Fp) : Fp :=
  match x with
  | .nan => .nan
  | .inf neg => if f.inf then .inf neg else if sat then .fin neg f.maxM f.maxE else .nan
  | .fin neg m e =>
    if m = 0 then .fin neg 0 0
    else
      let q := quantum f m e
      let n := roundAt rnd m e q
      if beyond f n q then overflow f sat neg else .fin neg n q

/-- Round a working FP32 value to an integer of `w` bits (Table 8-8, R183). -/
def fpToInt (w : Nat) (rnd : Rnd) (x : Fp) : Int :=
  match x with
  | .nan => 0
  | .inf neg => clampInt w (signed neg (2 ^ 40))
  | .fin neg m e => if m = 0 then 0 else clampInt w (signed neg (roundAt rnd m e 0))

/-- The element code of a working value in an output format other than MX and PAIR. -/
def numCode (fmt : Nat) (sat : Bool) (rnd : Rnd) (v : Num) : Nat :=
  if isIntFmt fmt then
    let w := intBits fmt
    match v with
    | .int x => ofSigned w (clampInt w x)
    | .fp x => ofSigned w (fpToInt w rnd x)
  else
    let f := floatFmt fmt
    fpCode f (fpNarrow f sat rnd (numFp v))

/-! ## Conversion to MX (R196) -/

/-- The largest finite magnitude of an MX element, and emax of its format. -/
def mxMax (fmt : Nat) : Nat × Int :=
  if fmt = 0x0D then (127, -6) else ((floatFmt fmt).maxM, (floatFmt fmt).maxE)
def mxEmax (fmt : Nat) : Int :=
  match fmt with
  | 0x08 => 8
  | 0x09 => 15
  | 0x0A => 2
  | 0x0B => 4
  | 0x0C => 2
  | _ => 0

/-- The largest of some magnitudes. -/
def maxMag : List Fp → Fp
  | [] => .fin false 0 0
  | x :: xs => let y := maxMag xs; if fpLt y (fpAbs x) then fpAbs x else y

/-- amax / 2^k does not exceed the element's largest finite. -/
def mxFits (fmt m : Nat) (e k : Int) : Bool := let (mm, me) := mxMax fmt; !fpLt (.fin false mm me) (.fin false m (e - k))

/-- The scale exponent of a block (R196), before the clamp. -/
def mxExp (fmt : Nat) (noClip : Bool) (m : Nat) (e : Int) : Int :=
  let ocp := fpExp m e - mxEmax fmt
  if noClip then (if mxFits fmt m e (ocp - 1) then ocp - 1 else if mxFits fmt m e ocp then ocp else ocp + 1) else ocp

/-- One MX element: rounded from x / 2^k; saturates at the element's largest finite (Table 8-8). -/
def mxElem (fmt : Nat) (rnd : Rnd) (k : Int) (x : Fp) : Nat :=
  match x with
  | .fin neg m e =>
    if fmt = 0x0D then
      ofSigned 8 (if m = 0 then 0 else max (-127) (min 127 (signed neg (roundAt rnd m (e - k + 6) 0))))
    else
      let f := floatFmt fmt
      fpCode f (fpNarrow f true rnd (.fin neg m (e - k)))
  | _ => 0

/-- A block of 32 working values as element codes and a scale byte. -/
def mxBlock (fmt : Nat) (noClip : Bool) (xs : List (Fp × Rnd)) : List Nat × Nat :=
  if xs.any fun x => fpIsNan x.1 || fpIsInf x.1 then (xs.map fun _ => 0, 0xFF)
  else
    match maxMag (xs.map Prod.fst) with
    | .fin _ m e =>
      if m = 0 then (xs.map fun x => mxElem fmt x.2 0 x.1, 0)
      else
        let k := max (-127) (min 127 (mxExp fmt noClip m e))
        (xs.map fun x => mxElem fmt x.2 k x.1, (k + 127).toNat)
    | _ => (xs.map fun _ => 0, 0xFF)

/-! ## Packing (R5, R180) -/

/-- Split into runs of `n`. -/
def chunks {α : Type} (n : Nat) : Nat → List α → List (List α)
  | 0, _ => []
  | k + 1, xs => if xs.isEmpty then [] else xs.take n :: chunks n k (xs.drop n)

/-- The codes of `n` elements of `w` bits in a little-endian number. -/
def codesOf (w : Nat) : Nat → Nat → List (BitVec 64)
  | 0, _ => []
  | n + 1, v => BitVec.ofNat 64 (v % 2 ^ w) :: codesOf w n (v >>> w)

/-- Codes as one little-endian number. -/
def codesNum (w : Nat) : List (BitVec 64) → Nat
  | [] => 0
  | c :: cs => c.toNat % 2 ^ w + codesNum w cs * 2 ^ w

/-- Elements of a run of bytes: every 24 bytes hold whole elements of every format. -/
def unpackElems (fmt : Nat) (bs : Bytes) : List (BitVec 64) :=
  let w := elemBits fmt
  (chunks 24 (bs.length + 1) bs).flatMap fun c => codesOf w (c.length * 8 / w) (leNat c)

/-- Bytes of elements. -/
def packElems (fmt : Nat) (xs : List (BitVec 64)) : Bytes :=
  let w := elemBits fmt
  (chunks (192 / w) (xs.length + 1) xs).flatMap fun c => natLe ((c.length * w + 7) / 8) (codesNum w c)

/-- Every NaN that a station produces or passes on becomes the canonical one of its format (R182). DEDUCED: FETCH and
FILL, which bring a tile in, are stations that pass on what they read (log entry 26). -/
def canonCode (fmt c : Nat) : Nat :=
  if isFloatFmt fmt || decide (fmt = 8) || decide (fmt = 9) then
    (if fpIsNan (if isMx fmt then mxRead fmt c else fpDecode (floatFmt fmt) c) then (floatFmt fmt).nan else c)
  else c

end Sys2Proof.Machine
end

