-- ==== Sys2Proof/Machine/Atomics.lean ====
section
/-!
DEFINITION. Bank registers and places in Basin (R342, R343), and what an atomic computes (R348, R349).
-/
namespace Sys2Proof.Machine

def baPage (g : Nat) : Nat := pgBASN + g
def bankReg (g n : Nat) : Nat := ra (baPage g) (0x100 + 4 * n)
def bankPos (s : State) (g n : Nat) : Nat := rf s (bankReg g n) 0 4
def bankPwr (s : State) (g n : Nat) : Nat := rf s (bankReg g n) 4 2
def bankRole (s : State) (g n : Nat) : Nat := rf s (bankReg g n) 6 2
def setPwr (s : State) (g n x : Nat) : State := wf s (bankReg g n) 4 2 x

/-- The group and offset of a line that is valid in a CACHE frame. -/
def basinPlace (s : State) (line : Nat) : Option (Nat × Nat) :=
  if !inBasin s line || decide (cacheGroups s = 0) then none
  else
    let n := (subRec s (line / 1024)).cache * 1024 + line % 1024
    some (cacheFirst s + n % cacheGroups s, n / cacheGroups s * 64)

/-- The position and the bank that serve an offset (R343). -/
def posOf (o : Nat) : Nat := Nat.xor (o / 64 % 16) (o / 1024 % 16)
def servingBank (s : State) (g o : Nat) : Option Nat :=
  (rangeFrom 0 17).find? fun n => decide (bankPos s g n = posOf o) && (decide (bankRole s g n = 0) || decide (bankRole s g n = 3))

/-- An access to a bank that is not ON: it leaves RET, or OFF with its words zero (R350). -/
def bankWake (s : State) (g n : Nat) : State := if bankPwr s g n = 0 then s else setPwr s g n 0

/-- BF16 lane sum: in FP32, then rounded to BF16 (Table 15-1). -/
def addBf16 (a b : Nat) : Nat :=
  fpCode fmtBf16 (fpRne fmtBf16 (fpAdd fmt32 (fpDecode fmtBf16 a) (fpDecode fmtBf16 b)))

/-- Operand bytes of an atomic (Table 15-1). -/
def atomicWidth : AtomicKind → Nat
  | .addI64 | .swap64 => 8
  | .addI32 | .addF32 | .addBf16x2 | .swap32 => 4

/-- What an atomic writes, from the old value and the operand, both below 2^32 or 2^64 (Table 15-1). -/
def atomicResult (k : AtomicKind) (a b : Nat) : Nat :=
  match k with
  | .addI32 => (a + b) % 2 ^ 32
  | .addI64 => (a + b) % 2 ^ 64
  | .addF32 => code32 (fpAdd fmt32 (fp32 a) (fp32 b))
  | .addBf16x2 => addBf16 (a % 65536) (b % 65536) + 65536 * addBf16 (a / 65536) (b / 65536)
  | .swap32 | .swap64 => b

/-- The old value of an atomic's operand in its line's bytes. -/
def atomicOld (k : AtomicKind) (req : AtomicReq) (line : Bytes) : Nat := leAt line (req.pa % 64) (atomicWidth k)

/-- The line that an atomic writes, of which the mask takes the operand. -/
def atomicData (k : AtomicKind) (req : AtomicReq) (line : Bytes) : Bytes :=
  let w := atomicWidth k
  splice (zeros 64) (req.pa % 64)
    (natLe w (atomicResult k (atomicOld k req line) (req.value.toNat % 2 ^ (8 * w))))
def atomicMask (k : AtomicKind) (req : AtomicReq) : Nat := (2 ^ atomicWidth k - 1) * 2 ^ (req.pa % 64)

/-- The bank of a line that is valid in Basin serves an atomic: it is counted, and a bank that is not ON wakes. -/
def atomicBank (s : State) (line : Nat) : State :=
  match basinPlace s line with
  | none => s
  | some (g, o) =>
    let s := count (count s (baPage g) 2 1) (baPage g) 3 1
    match servingBank s g o with
    | some n => bankWake s g n
    | none => s

/-- The answer to the issuer of an atomic: its operand's address, a status, a poison code and the old value. -/
def atomicAnswer (s : State) (req : AtomicReq) (st c old : Nat) : State := put s (.reply 0x30002 [req.pa, st, c, old] [])

end Sys2Proof.Machine
end

