-- ==== Sys2Proof/Machine/Home.lean ====
section
/-!
DEFINITION. The home of a line (chapter 04): slices and sets (R75), the directory, open transactions, snoops,
recalls, fencing. The commands of the family stand in Coherent.lean.
-/
namespace Sys2Proof.Machine

/-! ## Slices and sets (R74, R75) -/

/-- Set index bits (Table 4-1) by DIR.CFG.DIR_SIZE. -/
def setBits (s : State) : Nat :=
  match rf s (ra pgDIR 0x110) 0 2 with
  | 1 => 13
  | 2 => 14
  | 3 => 15
  | _ => 0

/-- The set index of a line (R75). -/
def setIndex (s : State) (line : Nat) : Nat :=
  Nat.xor (fld line 5 15) (Nat.xor (fld line 20 15) (fld line 35 11)) % 2 ^ setBits s

/-- Two lines share a set. -/
def sameSet (s : State) (a b : Nat) : Bool :=
  decide (homeSlice a = homeSlice b) && decide (setIndex s a = setIndex s b)

/-! ## The directory -/

def dirOf (s : State) (line : Nat) : Option DirEntry := tget s.dir.entries line
def setDir (s : State) (line : Nat) (e : DirEntry) : State :=
  { s with dir := { s.dir with entries := tput s.dir.entries line e } }
def dropDir (s : State) (line : Nat) : State :=
  { s with dir := { s.dir with entries := tdel s.dir.entries line } }
def tranOf (s : State) (line : Nat) : Option Tran := tget s.dir.trans line
def setTran (s : State) (line : Nat) (t : Tran) : State :=
  { s with dir := { s.dir with trans := tput s.dir.trans line t } }
def dropTran (s : State) (line : Nat) : State :=
  { s with dir := { s.dir with trans := tdel s.dir.trans line } }

/-- Entries of a line's set. -/
def setEntries (s : State) (line : Nat) : Tbl DirEntry := tfilter s.dir.entries fun l _ => sameSet s l line

/-- Make an entry the most recent of its set (Table 4-2, AGE). -/
def ageSet (s : State) (line age : Nat) : State :=
  let es := tmap s.dir.entries fun l (e : DirEntry) =>
    if l = line then { e with age := 0 }
    else if sameSet s l line ∧ e.age < age then { e with age := min 15 (e.age + 1) } else e
  { s with dir := { s.dir with entries := es } }

/-- The lowest free way of a line's set. -/
def freeWay (s : State) (line : Nat) : Option Nat :=
  (rangeFrom 0 16).find? fun w => !(setEntries s line).any fun e => e.2.way = w

/-- The oldest entry of a set that is not open, the lowest way at equal age (R90, Table 5-13). -/
def victim (s : State) (line : Nat) : Option Nat :=
  ((setEntries s line).filter fun e => !e.2.opened).foldl (fun acc e => match acc with
    | none => some (e.1, e.2)
    | some b => if b.2.age < e.2.age ∨ (b.2.age = e.2.age ∧ e.2.way < b.2.way) then some (e.1, e.2) else some b)
    none |>.map Prod.fst

/-- Tracker entries of a slice in use: open transactions, waiting requests and those that wait for a way (R82). -/
def trackerUsed (s : State) (sl : Nat) : Nat :=
  (s.dir.trans.filter fun e => homeSlice e.1 = sl).length +
  (s.dir.trans.filter fun e => (e.2.forReq.map fun r => homeSlice r.line) = some sl).length +
  (s.dir.chain.filter fun r => homeSlice r.line = sl).length +
  (s.dir.overflow.filter fun r => homeSlice r.line = sl).length

/-- The slice takes no further REQ: no tracker entry, or a full set-overflow queue (R82, R91). -/
def sliceHeld (s : State) (sl : Nat) : Bool :=
  decide (2048 ≤ trackerUsed s sl) ||
  decide (256 ≤ (s.dir.overflow.filter fun r => homeSlice r.line = sl).length)

/-! ## Agents -/

def agent (s : State) (i : Nat) : Agent := tgetD s.dir.agents i {}
def setAgent (s : State) (i : Nat) (a : Agent) : State :=
  { s with dir := { s.dir with agents := tset {} s.dir.agents i a } }

/-- An agent's fence state goes to the partner (Table 17-5). -/
def mirrorFence (s : State) (i : Nat) (timedOut : Bool) : State :=
  if mirroring s then
    let (t, s) := awaitMack s true .atomic
    sendRunnel s 0 (runChange t 1 [i, if timedOut then 1 else 0])
  else s

/-- The agent index of a requester that may cache lines (R77). -/
def cachingAgent (s : State) (eid : Nat) : Option Nat :=
  (agentOf s eid).bind fun i => if eidFenced s eid then none else some i

/-- A request of an agent for a line. -/
def asksFor (eid line : Nat) (r : HomeReq) : Bool := decide (r.line = line) && decide (r.who = .fabric eid)

/-- The agent's own grant for the line has not left: it has a request that waits, or that the transaction `serving`
serves (R89; log entry 10). -/
def awaitsGrant (s : State) (line i : Nat) (serving : HomeReq) : Bool :=
  asksFor (agent s i).eid line serving || s.dir.chain.any (asksFor (agent s i).eid line)

/-- A directory change goes to the partner (Table 17-5). -/
def mirrorDir (s : State) (line : Nat) (t : Tran) : State × Tran :=
  if mirroring s then
    let tag := s.pair.nextTag
    let e := (dirOf s line).getD { state := 0 }
    let s := { s with pair := { s.pair with
        macks := s.pair.macks ++ [(tag, true, .tran line)], nextTag := (tag + 1) % 65536 } }
    let data := if e.mirror then t.owned.map fun d => (sealedLine s line d.1, d.2) else none
    (sendRunnel s (homeSlice line) (runMdir tag line e.state e.owner (some e.sharers) data), { t with macks := t.macks + 1 })
  else (s, t)

/-! ## Sending -/

/-- Send a FWD to an agent: codes 0x08 FWD_SHR, 0x09 FWD_INV, 0x0A FWD_SNAP; GRANTED as R89 gives. -/
def sendFwd (s : State) (line code i sc : Nat) (req : HomeReq) : State :=
  count (emit s { dest := (agent s i).eid, ch := 1, sc, tag := req.tag, code, line,
                  granted := !awaitsGrant s line i req }) pgDIR 1 1

/-- Send FWDs to several agents and record that their answers are awaited. -/
def sendFwds (s : State) (line code : Nat) (is : List Nat) (sc : Nat) (t : Tran) : State × Tran :=
  (is.foldl (fun s i => sendFwd s line code i sc t.req) s,
   { t with waits := t.waits ++ is.map fun i => { agent := i, code } })

/-- NAK a fabric request (Table 4-6). -/
def nak (s : State) (eid tag sc line status : Nat) : State :=
  emit s { dest := eid, ch := 2, sc, tag, code := 0x19, line, status }

/-- The scheduler that a response to an EID passes, none where it has no route (R106). -/
def respSched (s : State) (dest ch : Nat) : Option Nat :=
  if isLocal s dest then none
  else
    let r := refreshRoute s (route s dest)
    if r.valid then (choosePort s r { dest, src := selfEid s, ch }).map Prod.fst else none

/-- The committed decoder that an HPA falls in (R306). -/
def decoderOf (s : State) (hpa : Nat) : Option (Nat × Decoder) :=
  s.cxl.decoders.find? fun e => decide (e.2.base ≤ hpa) && decide (hpa < e.2.base + e.2.size)

/-- The DPA of an HPA, 0 where no decoder matches. -/
def dpaOf (s : State) (hpa : Nat) : Nat :=
  ((decoderOf s hpa).map fun e => e.2.dpa + (hpa - e.2.base)).getD 0

/-- Bytes of a CXL.mem response: with data 80, without 16, as for coherent responses (R106; log entry 31). -/
def cxlRespBytes (code : Nat) : Nat := if code = 0x12 then 16 else 80

/-- A CXL.mem write is discarded: the fault queue and the event log record it (R26, R37, R312). -/
def cxlDiscard (s : State) (hpa pa st : Nat) : State :=
  let s := cxlRecord (count s pgCXLP 10 1) 2 1 (dpaOf s hpa)
  event s { source := pgCXLP, sev := sevError, cls := clPoison, status := st, loc := pa }

/-- A response to the requester: a packet for a fabric requester, a CXL unit for the host, data for one of the
controller's own users. -/
def respond (s : State) (r : HomeReq) (code : Nat) (data : Bytes) (pcode : Nat) : State :=
  match r.who with
  | .fabric eid =>
    emit s { dest := eid, ch := if data.isEmpty then 2 else 3, sc := r.sc, tag := r.tag, code, line := r.line,
             poison := decide (pcode ≠ 0), pcode, data } r.charge r.sch
  | .cxl =>
    let hpa := r.tag
    let o := if code = 0x12 then Out.cxlDone hpa else Out.cxlData hpa data (decide (pcode ≠ 0))
    let s := if pcode ≠ 0 then count (cxlRecord s 1 1 (dpaOf s hpa)) pgCXLP 9 1 else s
    enqueue s 20 { tag := 0, cls := r.sc, len := cxlRespBytes code, charge := r.charge, out := some o }
  | .atomic _ a => atomicAnswer s a stOk pcode (leNat data)
  | .home => s
  | who => if code = 0x12 then s else
    { s with dir := { s.dir with snoops := s.dir.snoops ++ [(who, r.line, data, pcode)] } }

/-- A request that its home cannot perform: NAK with a status; a CXL.mem write is discarded and recorded. -/
def refuseReq (s : State) (r : HomeReq) (st : Nat) : State :=
  match r.who with
  | .fabric eid =>
    emit s { dest := eid, ch := 2, sc := r.sc, tag := r.tag, code := 0x19, line := r.line, status := st } r.charge r.sch
  | .cxl =>
    respond (cxlDiscard s r.tag (r.line * 64) st) r 0x12 [] 0
  | .atomic _ a => atomicAnswer s a st 0 0
  | _ => s

/-! ## Completing a transaction -/

/-- The agents of a sharer vector but one. -/
def sharersBut (v : BitVec 256) (i : Option Nat) : List Nat :=
  (bitList v).filter fun j => decide (some j ≠ i)

/-- A fault disposition on a line voids the bound of every request that waits on it (R97). -/
def voidLine (s : State) (line : Nat) : State :=
  { s with dir := { s.dir with
    chain := s.dir.chain.map fun r => if r.line = line then { r with void := true } else r
    trans := tmod s.dir.trans line fun t =>
      { t with req := { t.req with void := true }, forReq := t.forReq.map fun r => { r with void := true } } } }

/-- Mark a line LOST_OWNER and record the ERROR event (R88, R93, R97). -/
def loseOwner (s : State) (line i : Nat) : State :=
  let s := count (setPoison (voidLine s line) line 5) pgDIR 6 1
  event s { source := pgDIR, sev := sevError, cls := clCoherence, pcode := 5, loc := line * 64, detail := i }

/-- A fenced agent that was only a sharer leaves a line: the ERROR event names it and the line (R93, R94, R97). -/
def loseSharer (s : State) (line i : Nat) : State :=
  event (voidLine s line) { source := pgDIR, sev := sevError, cls := clCoherence, loc := line * 64, detail := i }

/-- The requester's agent index. -/
def reqAgent (s : State) (r : HomeReq) : Option Nat :=
  match r.who with
  | .fabric e => agentOf s e
  | _ => none

/-- The mirrored flag of the region that holds a line. -/
def lineMirrored (s : State) (line : Nat) : Bool :=
  ((regionOfSub s (line / 1024)).map fun e => e.2.mirrored).getD false

/-- Write a line's data to memory at the home: a write-back, or data that an owner has returned. A dry sub-page is
materialised first (R34, R120); data of a page that no region holds any longer is discarded. It never waits (R81). -/
def homeStore (s : State) (line cls : Nat) (data : Bytes) (mask pcode : Nat) : State :=
  match placeOf s (line * 64) with
  | none => s
  | some pl =>
    match prepareWrite s pl cls with
    | .go s | .wait s => storeLine s pl.reg.mirrored line cls data mask pcode (.tran line)
    | .refuse _ => s

/-- The master identity of a requester's writes (R46). -/
def identityOf (s : State) (w : Requester) : Nat :=
  match w with
  | .fabric e => 0x100 + e
  | .cxl => 1
  | .tile h _ => ((opOf s h).map Op.owner).getD 0
  | .put e => 0x100 + e / 32
  | _ => 0

/-- The line that a request reads (R45, R46). -/
def reqLine (s : State) (r : HomeReq) : Nat :=
  match placeOf s (r.line * 64) with
  | some pl => viewLine s pl (identityOf s r.who) none
  | none => r.line

/-- Write a line that a request brings: materialisation, staging and frames first (R34, R46, R131). -/
def homePut (s : State) (r : HomeReq) (data : Bytes) (mask pcode : Nat) : WriteGo :=
  match placeOf s (r.line * 64) with
  | none => .refuse stNotPermitted
  | some pl =>
    match preparePlace s pl (identityOf s r.who) r.sc with
    | .go s => .go (storeLine s (pl.reg.mirrored && !pl.staging) (viewLine s pl (identityOf s r.who) none) r.sc data mask
        pcode (.tran r.line))
    | w => w

/-- The state that a caching grant leaves, with the data message's code (Table 4-7). Arguments: kind, old
state (after a write-back: 0 or 1), the owner's answer, requester, owner, sharers. -/
def grantState (kind : ReqKind) (st ans r h : Nat) (sh : BitVec 256) (e : DirEntry) : DirEntry × Nat :=
  let one := setBit (0 : BitVec 256) r
  match kind with
  | .rdShared =>
    match st with
    | 0 => ({ e with state := 2, owner := r, sharers := 0 }, 0x1B)
    | 1 => ({ e with state := 1, owner := 0, sharers := setBit sh r }, 0x1A)
    | 2 =>
      if ans = 1 then ({ e with state := 1, owner := 0, sharers := setBit one h }, 0x1A)
      else if ans = 2 then ({ e with state := 4, owner := h, sharers := one }, 0x1A)
      else ({ e with state := 2, owner := r, sharers := 0 }, 0x1B)
    | _ =>
      if ans = 2 then ({ e with state := 4, owner := h, sharers := setBit sh r }, 0x1A)
      else if ans = 1 then ({ e with state := 1, owner := 0, sharers := setBit (setBit sh r) h }, 0x1A)
      else if sh = 0 then ({ e with state := 2, owner := r, sharers := 0 }, 0x1B)
      else ({ e with state := 1, owner := 0, sharers := setBit sh r }, 0x1A)
  | _ => ({ e with state := 3, owner := r, sharers := 0 }, 0x1C)

/-- The requester of an UPGRADE holds the line (Table 4-7). -/
def holds (st h : Nat) (sh : BitVec 256) (r : Nat) : Bool :=
  (decide (2 ≤ st) && decide (h = r)) || ((decide (st = 1) || decide (st = 4)) && sh.getLsbD r)

/-- What a recall leaves of a line: dirty data written back or discarded, the way free, or one agent's holding gone
(R44, R90, R95). -/
def finishRecall (s : State) (line : Nat) (t : Tran) (e : DirEntry) : State :=
  let s := match t.owned with
    | some (d, c) => if t.discard then s else homeStore s line 7 d (2 ^ 64 - 1) c
    | none => s
  match t.only with
  | none => dropDir s line
  | some a =>
    let sh := clrBit e.sharers a
    if e.owner = a ∧ 2 ≤ e.state then
      if sh = 0 then dropDir s line else setDir s line { e with state := 1, owner := 0, sharers := sh }
    else if sh = 0 ∧ e.state = 1 then dropDir s line
    else setDir s line { e with sharers := sh }

/-- A WR_ONCE whose answers and data are in: the owner's data first, then the write, then CMP; the line is in U. One that is
refused has invalidated its holders all the same (Table 4-7, R410). -/
def finishWrite (s : State) (line : Nat) (t : Tran) : State :=
  let r := t.req
  let s := match t.owned with
    | some (d, c) => homeStore s line r.sc d (2 ^ 64 - 1) c
    | none => s
  let t := { t with owned := none }
  let ended (s : State) : State := setTran s line { t with done := true }
  let refused (st : Nat) : State := ended (refuseReq (dropDir s line) r st)
  -- the line's bytes, mask and code, and what the response brings: an atomic's old value
  let write (s : State) (d : Bytes) (m c : Nat) (old : Bytes) : State :=
    match homePut s r d m c with
    | .wait s => setTran s line { t with answer := 6, tier := some (reqLine s r / 1024) }
    | .refuse st => refused st
    | .go s =>
      let had := (dirOf s line).isSome
      let s := dropDir s line
      let (s, t) := if had then mirrorDir s line t else (s, t)
      if t.macks = 0 ∧ ¬ (s.pair.macks.any fun m => m.2.2 = .tran line) then
        setTran (respond s r 0x12 old 0) line { t with done := true }
      else setTran s line { t with resp := some { code := 0x12, data := old } }
  if t.refused ≠ 0 then refused t.refused
  else
    match r.who with
    | .atomic k a =>
      let (d, c, s) := readLine s line r.sc
      if c ≠ 0 then ended (respond (dropDir s line) r 0x12 [] c)
      else write (atomicBank s line) (atomicData k a d) (atomicMask k a) 0 (natLe 8 (atomicOld k a d))
    | _ =>
      let (d, m, c) := t.wdata.getD ([], 0, 0)
      write s d m.toNat c []

/-- The data of a read: what the owner returned, or memory's. -/
def tranData (s : State) (t : Tran) : Bytes × Nat × State :=
  match t.owned with
  | some (d, c) => (d, c, s)
  | none => readLine s (reqLine s t.req) t.req.sc

/-- Finish a transaction whose answers are in: the directory's new state, the data, the response. -/
def finishTran (s : State) (line : Nat) (t : Tran) : State :=
  let e := (dirOf s line).getD { state := 0 }
  -- a lost owner (R88): recorded in M or O, an ACK_MISS without a write-back
  let lost := decide (t.answer = 3) && (decide (t.oldState = 3) || decide (t.oldState = 4))
  let s := if lost then loseOwner s line t.oldOwner else s
  let t := if lost then { t with req := { t.req with void := true } } else t
  let r := t.req
  -- the state seen: a write-back absorbed meanwhile, a lost owner or a fenced one has left U or S
  let st := if t.answer = 7 then 0
    else if t.answer = 4 ∨ lost then (if t.oldSharers = 0 then 0 else 1)
    else if t.answer = 3 then 0 else t.oldState
  match r.kind with
  | .recall => finishRecall s line t e
  | .rdOnce =>
    let s := if (lost ∨ t.answer = 7) ∧ (dirOf s line).isSome then
        (if t.oldSharers = 0 ∨ t.answer = 7 then dropDir s line
         else setDir s line { e with state := 1, owner := 0, sharers := t.oldSharers })
      else s
    let (data, pc, s) := tranData s t
    setTran (respond s r 0x1D data pc) line { t with done := true }
  | .wrOnce => finishWrite s line t
  | kind =>
    match reqAgent s r with
    | none => setTran s line { t with done := true }
    | some i =>
      -- an UPGRADE of a line whose owner timed out is served from the poisoned data (R93)
      let up := decide (kind = .upgrade) && holds t.oldState t.oldOwner t.oldSharers i && decide (t.answer ≠ 7)
      let k := if kind = .upgrade then ReqKind.rdOwn else kind
      let (data, pc, s) : Bytes × Nat × State := if up then ([], 0, s) else tranData s t
      let (e', code) := grantState k st t.answer i t.oldOwner t.oldSharers e
      let s := setDir s line { e' with opened := true, mirror := lineMirrored s line }
      let (s, t) := mirrorDir s line t
      let code := if up then 0x10 else code
      if t.macks = 0 then setTran (respond s r code data pc) line { t with done := true }
      else setTran s line { t with resp := some { code, data, pcode := pc } }

/-- The transaction has nothing left to wait for. -/
def tranReady (t : Tran) : Bool :=
  t.waits.isEmpty && t.awaitWb.isNone && !t.pull && t.tier.isNone && !t.done && t.resp.isNone

/-! ## Opening a transaction -/

/-- The holder is fenced and answers nothing (R94). -/
def deadHolder (s : State) (i : Nat) : Bool := (agent s i).fenced && !(agent s i).answers

/-- The FWDs that a request needs: (code, agents) by Table 4-7. An UPGRADE by a holder sends none to its requester; an
RD_OWN sends none to a requester that is a sharer, and one to a requester that is the recorded owner. -/
def fwdsFor (kind : ReqKind) (st h : Nat) (sh : BitVec 256) (r : Option Nat) : Nat × List Nat :=
  let own := [h].filter fun j => decide (kind ≠ .upgrade) || decide (some j ≠ r)
  match kind with
  | .rdShared => if 2 ≤ st then (0x08, [h]) else (0, [])
  | .rdOnce => if 2 ≤ st then (0x0A, [h]) else (0, [])
  | .rdOwn | .upgrade | .wrOnce | .recall =>
    match st with
    | 0 => (0, [])
    | 1 => (0x09, sharersBut sh r)
    | 4 => (0x09, sharersBut sh r ++ own)
    | _ => (0x09, own)

/-- Open the transaction of a request on a line whose entry, if it needs one, exists. -/
def openTran (s : State) (r : HomeReq) (forReq : Option HomeReq) (only : Option Nat) (discard : Bool) : State :=
  let line := r.line
  let e := (dirOf s line).getD { state := 0 }
  let ra' := if r.kind = ReqKind.recall then none else reqAgent s r
  let (code, is) := match only with
    | some a => (0x09, [a])
    | none => fwdsFor r.kind e.state e.owner e.sharers
        (if r.kind = ReqKind.upgrade ∨ r.kind = ReqKind.rdOwn then ra' else none)
  let s := match dirOf s line with
    | some e => setDir s line { e with opened := true }
    | none => s
  let internal := match r.who with
    | .fabric _ => false
    | _ => true
  let t : Tran := {
    req := r, oldState := e.state, oldOwner := e.owner, oldSharers := e.sharers, forReq, only, discard,
    pull := decide (r.kind = ReqKind.wrOnce) && !internal,
    wdata := if r.kind = ReqKind.wrOnce ∧ internal then some (r.data, r.mask, r.pcode) else none }
  let (s, t) := sendFwds s line code is (if r.kind = ReqKind.recall then 7 else r.sc) t
  let s := if t.pull then respond s { r with charge := 0 } 0x11 [] 0 else s
  let q := reqLine s r / 1024
  let t := if (subRec s q).state = 3 ∧ r.kind ≠ ReqKind.recall then { t with tier := some q } else t
  let s := setTran s line t
  if tranReady t then finishTran s line t else s

/-- A recall of a line, made by the home in SC7 (R90). -/
def recallReq (s : State) (line : Nat) : HomeReq :=
  { kind := .recall, who := .home, tag := 0, sc := 7, line, start := s.now }

/-- The fenced, silent holders of a line: sharers, and the owner. -/
def deadSharers (s : State) (e : DirEntry) : List Nat := (bitList e.sharers).filter (deadHolder s)
def deadOwner (s : State) (e : DirEntry) : Bool := decide (2 ≤ e.state) && deadHolder s e.owner

/-- A closed line gives up every fenced, silent holder, with no FWD to it: an owner's line is poisoned LOST_OWNER and
every other sharer is sent FWD_INV; a sharer's bit is cleared (R93, R94). -/
def dropDead (s : State) (line : Nat) : State :=
  match dirOf s line with
  | none => s
  | some e =>
    let ds := deadSharers s e
    if ds.isEmpty && !deadOwner s e then s
    else
      let sh := ds.foldl clrBit e.sharers
      let s := ds.foldl (fun s i => loseSharer s line i) s
      if deadOwner s e then
        let s := loseOwner s line e.owner
        if sh = 0 then dropDir s line
        else openTran (setDir s line { e with state := 1, owner := 0, sharers := sh }) (recallReq s line) none none false
      else if e.state = 1 ∧ sh = 0 then dropDir s line
      else setDir s line { e with sharers := sh }

/-- A line names a fenced, silent holder. -/
def namesDead (s : State) (line : Nat) : Bool :=
  ((dirOf s line).map fun e => !(deadSharers s e).isEmpty || deadOwner s e).getD false

/-- The code of the grant that an agent's recorded state already gives for a request, at a new active: it is sent
again (R398). -/
def redelivered (s : State) (r : HomeReq) : Option Nat :=
  if !s.pair.took then none
  else
    match dirOf s r.line, reqAgent s r with
    | some e, some i =>
      let owner := decide (2 ≤ e.state) && decide (e.owner = i)
      match r.kind with
      | .rdShared =>
        if owner then some (if e.state = 2 then 0x1B else if e.state = 3 then 0x1C else 0x1A)
        else if e.sharers.getLsbD i then some 0x1A else none
      | .rdOwn | .upgrade => if owner ∧ e.state = 3 then some 0x1C else none
      | _ => none
    | _, _ => none

/-- Take a free way for a request, recall a victim for it, or park it (R90, R91). A fenced, silent holder of the victim
is sent no FWD (R94). -/
def allocate (s : State) (r : HomeReq) : State :=
  let place (s : State) (w : Nat) : State :=
    openTran (ageSet (setDir s r.line { state := 0, way := w }) r.line 16) r none none false
  let park (s : State) : State :=
    count { s with dir := { s.dir with overflow := s.dir.overflow ++ [r] } } pgDIR 4 1
  match freeWay s r.line with
  | some w => place s w
  | none =>
    match victim s r.line with
    | none => park s
    | some v =>
      let s := dropDead (count (count s pgDIR 3 1) pgDIR 2 1) v
      match freeWay s r.line, tranOf s v with
      | some w, _ => place s w
      | none, some t => setTran s v { t with forReq := some r }
      | none, none => openTran s (recallReq s v) (some r) none false

/-- A caching request, which holds the line in its set (R90). -/
def caching (k : ReqKind) : Bool := decide (k = .rdShared) || decide (k = .rdOwn) || decide (k = .upgrade)

/-- An allocation is parked for a line's set (R91). -/
def parked (s : State) (line : Nat) : Option HomeReq := s.dir.overflow.find? fun r => sameSet s r.line line

/-- Serve a request on a line with no open transaction: allocate a way where it needs one, evict or park behind the
allocations that its set has parked (R86, R90, R91, R94). `oldest`: it is the oldest of them itself. -/
def serve (s : State) (r : HomeReq) (oldest : Bool := false) : State :=
  let r := if namesDead s r.line then { r with void := true } else r
  let s := dropDead s r.line
  if (tranOf s r.line).isSome then { s with dir := { s.dir with chain := r :: s.dir.chain } } else
  let s := count s pgDIR 0 1
  match redelivered s r with
  | some code => let (d, c, s) := readLine s r.line r.sc; respond s r code d c
  | none =>
  if caching r.kind && (dirOf s r.line).isNone then
    (if (parked s r.line).isSome && !oldest then
      count { s with dir := { s.dir with overflow := s.dir.overflow ++ [r] } } pgDIR 4 1
     else allocate s r)
  else
    let s := match dirOf s r.line with
      | some e => ageSet s r.line e.age
      | none => s
    openTran s r none none false

/-- A request reaches its line's home: it waits behind an open transaction or is served (R82). -/
def homeRequest (s : State) (r : HomeReq) : State :=
  if (tranOf s r.line).isSome then { s with dir := { s.dir with chain := s.dir.chain ++ [r] } } else serve s r

/-! ## Messages -/

/-- A write of a user has yet to be performed. -/
def ownPending (s : State) (who : Requester) : Bool :=
  (s.dir.chain.any fun r => decide (r.who = who)) || s.dir.trans.any fun e => decide (e.2.req.who = who)

/-- The bound of a message that was admitted, which ends as its completion leaves (Table 5-1). -/
def msgDue (e : Nat) (m : MsgEntry) : Option Due :=
  if m.state = 1 then
    some { cls := m.sc, sch := m.sch, req := e / 32, dom := m.dom, start := m.start, bound := m.bound, void := m.void }
  else none

/-- Send the completion of a received message with a status; its entry becomes FREE (R288, R289). A completion for
the controller itself ends the bound at once. -/
def msgEnd (s : State) (e : Nat) (m : MsgEntry) (st : Nat) : State :=
  let s := { s with route := { s.route with msgs := tput s.route.msgs e { lastId := some m.id } } }
  let (s, u) := if isLocal s (e / 32) then endDue s { cls := m.sc, len := 0, due := msgDue e m, pkt := { status := st } }
    else (s, { cls := m.sc, len := 0, due := msgDue e m, pkt := { status := st } })
  emit s { dest := e / 32, ch := m.ch, sc := m.sc, kind := 2, msgId := m.id, status := u.pkt.status } m.charge m.sch u.due

/-- A received message whose bytes have all been counted and written completes to its sender (R288). -/
def msgTry (s : State) (e : Nat) : State :=
  let m := tgetD s.route.msgs e {}
  if m.state = 0 ∨ ¬ m.full ∨ ownPending s (.put e) ∨ s.pair.macks.any (fun x => x.2.2 = .msg e) then s
  else msgEnd s e m (statusOf m.cond)

/-! ## Closing -/

/-- A transaction of the home itself or of the controller's own users closes with its last answer; any other waits for
the egress that TRANSACTION_CLOSE reports (R85). -/
def selfClosing (t : Tran) : Bool :=
  match t.req.who with
  | .fabric _ | .cxl => false
  | _ => t.done || (decide (t.req.kind = .recall) && t.waits.isEmpty && t.awaitWb.isNone)

/-- Serve the allocations that a set has parked, oldest first, while a way is free or can be freed; `n` bounds their
number (R91). -/
def wakeSet : Nat → State → Nat → State
  | 0, s, _ => s
  | n + 1, s, line =>
    match parked s line with
    | none => s
    | some r =>
      if (freeWay s line).isSome ∨ (victim s line).isSome then
        wakeSet n (serve { s with dir := { s.dir with overflow := s.dir.overflow.erase r } } r true) line
      else s

/-- A line's transaction ends: OPEN clears, an unused entry is freed, and the request that waited for the way takes it
(R85, R90). -/
def endTran (s : State) (line : Nat) (t : Tran) : State :=
  let s := dropTran s line
  let s := match dirOf s line with
    | some e => if e.state = 0 then dropDir s line else setDir s line { e with opened := false }
    | none => s
  let s := match t.forReq with
    | some r => if (tranOf s r.line).isSome then { s with dir := { s.dir with chain := s.dir.chain ++ [r] } }
        else serve s r true
    | none => s
  match t.req.who with
  | .put e => msgTry s e
  | _ => s

/-- Serve what waits for a line that has no open transaction, ending at once what has no egress; `n` bounds the number
served (R85). -/
def wakeLine : Nat → State → Nat → State
  | 0, s, _ => s
  | n + 1, s, line =>
    match tranOf s line with
    | some t => if selfClosing t then wakeLine n (endTran s line t) line else s
    | none =>
      match s.dir.chain.find? fun r => r.line = line with
      | some r => wakeLine n (serve { s with dir := { s.dir with chain := s.dir.chain.erase r } } r) line
      | none => s

/-- After a transaction closed or a way freed: the line's chain, then the parked allocations of its set (R85, R91). -/
def wake (s : State) (line : Nat) : State :=
  let s := wakeLine (2 * s.dir.chain.length + 4) s line
  wakeSet s.dir.overflow.length s line

/-- Close a line's transaction: OPEN clears, an unused entry is freed, the next request is served (R85). -/
def closeTran (s : State) (line : Nat) : State :=
  match tranOf s line with
  | none => s
  | some t => wake (endTran s line t) line

/-- Close a transaction that has no egress of its own once it is done; what a freed way lets go on goes on (R85, R91). -/
def settle (s : State) (line : Nat) : State :=
  match tranOf s line with
  | none => wake s line
  | some t => if selfClosing t then closeTran s line else wakeSet s.dir.overflow.length s line

/-- Advance a transaction after an answer. -/
def advance (s : State) (line : Nat) : State :=
  match tranOf s line with
  | none => s
  | some t => settle (if tranReady t then finishTran s line t else s) line

/-- Begin a request and settle it. -/
def homeBegin (s : State) (r : HomeReq) : State := settle (homeRequest s r) r.line

/-- Recall every cached line among some, discarding or keeping what is written back (R44, Table 2-5). -/
def recallLines (s : State) (p : Nat → Bool) (discard : Bool) : State :=
  ((s.dir.entries.filter fun e => p e.1 && !e.2.opened).map Prod.fst).foldl (fun s l =>
    let s := settle (dropDead s l) l
    if (tranOf s l).isSome ∨ (dirOf s l).isNone then s
    else settle (openTran (count s pgDIR 2 1) (recallReq s l) none none discard) l) s

/-- No line among some is cached or in transaction. -/
def noneCached (s : State) (p : Nat → Bool) : Bool :=
  !(s.dir.entries.any fun e => p e.1) && !(s.dir.trans.any fun e => p e.1)

/-! ## What waits for a tier (R128, R131) -/

/-- The requests that waited for a sub-page go on (Table 6-7). -/
def tierReady (s : State) (q : Nat) : State :=
  ((s.dir.trans.filter fun e => e.2.tier = some q).map Prod.fst).foldl (fun s l =>
    match tranOf s l with
    | some t => advance (setTran s l { t with tier := none }) l
    | none => s) s

/-- The sub-pages that requests wait for: the one of the higher page access count first, then the one asked for at the lower
home slice (Table 5-13). -/
def tierWaits (s : State) : List Nat :=
  let before (a b : Nat × Nat) : Bool :=
    let ca := (pageRec s (pageOfSub a.2)).count
    let cb := (pageRec s (pageOfSub b.2)).count
    decide (cb < ca) || (decide (ca = cb) && decide (homeSlice a.1 < homeSlice b.1))
  let ins (x : Nat × Nat) (l : List (Nat × Nat)) : List (Nat × Nat) :=
    l.takeWhile (fun y => !before x y) ++ x :: l.dropWhile fun y => !before x y
  (((s.dir.trans.filterMap fun e => e.2.tier.map fun q => (e.1, q)).foldl (fun l x => ins x l) []).map Prod.snd).eraseDups

/-- Start again the promotions that requests wait for, and let go on what waits for a sub-page that is settled
(R131). -/
def retryTier (s : State) : State :=
  (tierWaits s).foldl (fun s q =>
    if (moveOf s q).isSome then s
    else if (subRec s q).state = 3 then startPromote s (((regionOfSub s q).map fun e => e.2.grain).getD 3) q 0
    else tierReady s q) s

/-- Mark every line of a sub-page with a code. -/
def poisonSub (s : State) (q code : Nat) : State :=
  (rangeFrom (q * 1024) 1024).foldl (fun s l => setPoison s l code) s

/-- A sub-page whose drive failed: a zero-filled DRAM frame with every line poisoned DRIVE_LOST (R137). Without a
free frame that is not promised the record stays until one is (R132). -/
def loseSub (s : State) (q : Nat) : State :=
  let grain := ((regionOfSub s q).map fun e => e.2.grain).getD 3
  let s := poisonSub (zeroSub s q) q 4
  match (if canTakeDram s (subDram s q) then takeFrame s grain q else none) with
  | some (f, s) => setSub s q { state := 1, frame := f }
  | none => s

/-- DRAM frames have become free: the sub-pages of failed drives and the waiting promotions take them (R131, R137). -/
def retryPromotes (s : State) : State :=
  let lost := tkeys s.tier.subs fun _ r => decide (r.state = 3) && decide (drvState s (frameDrive r.frame) = 4)
  retryTier (lost.foldl loseSub s)

/-! ## The controller's own users (R78) -/

/-- A read of a line by one of the controller's own users goes through the line's transactions. -/
def readsHome (s : State) (line : Nat) : Bool :=
  ((dirOf s line).map fun e => decide (2 ≤ e.state)).getD false || (tranOf s line).isSome

/-- A write of a line by one of them does. -/
def writesHome (s : State) (line : Nat) : Bool := (dirOf s line).isSome || (tranOf s line).isSome

/-- The slices of some lines take requests for all of them (R82, R91). -/
def homeRoom (s : State) (ls : List Nat) : Bool :=
  ls.all fun l => !sliceHeld s (homeSlice l) &&
    decide (trackerUsed s (homeSlice l) + (ls.filter fun m => homeSlice m = homeSlice l).length ≤ 2048)

/-- The line that has been brought for a user. -/
def snooped (s : State) (who : Requester) (line : Nat) : Option (Bytes × Nat) :=
  (s.dir.snoops.find? fun e => e.1 = who && e.2.1 = line).map fun e => e.2.2

/-- A user's read of a line is under way. -/
def readWaits (s : State) (who : Requester) (line : Nat) : Bool :=
  (s.dir.chain.any fun r => decide (r.who = who) && decide (r.line = line)) ||
    ((tranOf s line).map fun t => decide (t.req.who = who)).getD false

/-- A read by one of the controller's own users: the data, or a snoop that has been started. -/
def ownRead (s : State) (who : Requester) (line cls : Nat) : Option (Bytes × Nat) × State :=
  match snooped s who line with
  | some x => (some x, s)
  | none =>
    if readsHome s line then
      if readWaits s who line then (none, s)
      else
        let s := homeBegin s { kind := .rdOnce, who, tag := 0, sc := cls, line, start := s.now }
        (snooped s who line, s)
    else
      let (d, c, s) := readLine s line cls
      (some (d, c), s)

/-- Forget the lines brought for a user. -/
def forgetSnoops (s : State) (who : Requester) : State :=
  { s with dir := { s.dir with snoops := s.dir.snoops.filter fun e => e.1 ≠ who } }

/-- A write by one of the controller's own users: performed at once, or opened as a WR_ONCE that first
invalidates the holders. The result says whether it has been performed. -/
def ownWrite (s : State) (who : Requester) (mirrored : Bool) (line cls : Nat) (data : Bytes)
    (mask pcode : Nat) (mk : MackFor) : Bool × State :=
  if writesHome s line then
    let s := homeBegin s { kind := .wrOnce, who, tag := 0, sc := cls, line, start := s.now, data,
                           mask := BitVec.ofNat 64 mask, pcode }
    (false, s)
  else (true, storeLine s mirrored line cls data mask pcode mk)

end Sys2Proof.Machine
end

