-- ==== Sys2Proof/Machine/Coherent.lean ====
section
/-!
DEFINITION. The coherent commands (chapter 04): requests, answers, write-backs, the close of a transaction, recall
timeouts and the agent table.
-/
namespace Sys2Proof.Machine

/-! ## Requests -/

/-- NAK a request that opens no transaction (Table 4-6). -/
def nakPacket (s : State) (pkt : Packet) (status : Nat) : State :=
  nak s pkt.src pkt.tag pkt.sc pkt.line status

/-- The class passes the residency test at a sub-page (R106): pinned only, no tier miss, any tier. -/
def residencyOk (s : State) (cls : Nat) (r : Region) (state : Nat) : Bool :=
  match classResidency s cls with
  | 2 => decide (r.residency ≠ 0)
  | 1 => decide (state ≠ 3)
  | _ => true

/-- Count a refusal of the bucket or backlog test; admission that is off counts nothing (Table 21-2). -/
def refusedCount (s : State) (req c len : Nat) : State :=
  if !admitEn s || decide (scRate s c = 0) then s else countRefusal s req c len

/-- An endpoint's request for a line is outstanding: it waits, for the line or for a way, or its transaction has not
closed (R84). -/
def outstanding (s : State) (eid line : Nat) : Bool :=
  s.dir.chain.any (asksFor eid line) || s.dir.overflow.any (asksFor eid line) ||
  s.dir.trans.any fun e => asksFor eid line e.2.req || (e.2.forReq.map (asksFor eid line)).getD false

/-- The refusal that stands before admission, if any: NOT_PERMITTED for the binding, a FREEING region, a current
view that is written, a requester that may not cache, the class, a second request, or an armed landing area
(R26, R42, R45, R77, R84, R105, R217, R410). -/
def reqRefused (s : State) (kind : ReqKind) (pkt : Packet) : Option Place :=
  let pa := pkt.line * 64
  let writes := decide (kind = .rdOwn) || decide (kind = .upgrade) || decide (kind = .wrOnce)
  let reads := decide (kind ≠ .wrOnce)
  let caches := decide (kind ≠ .rdOnce) && decide (kind ≠ .wrOnce)
  match permitted s pkt.src pa reads writes with
  | none => none
  | some pl =>
    let c := fabricClass pkt.sc pl.reg
    let again := outstanding s pkt.src pkt.line
    if pageFreeing pl || (pl.reg.versioned && writes && !pl.staging) ||
        (caches && ((cachingAgent s pkt.src).isNone || !pl.reg.coherent)) ||
        decide (6 < c) || !classAllowed s pkt.src c || again ||
        (writes && (landingOf s pa 64).isSome) then none
    else some pl

/-- Bytes of the response that admission charges: 80 B with data, 16 B without (R106, Table 4-6). -/
def respBytes (s : State) (kind : ReqKind) (pkt : Packet) : Nat :=
  let held : Bool := match agentOf s pkt.src, dirOf s pkt.line with
    | some i, some e => holds e.state e.owner e.sharers i
    | _, _ => false
  if kind = .wrOnce ∨ (kind = .upgrade ∧ held) then 16 else 80

/-- A request taken from a port, which received it at a time (R261): checks, admission, residency, and its home. -/
def reqServe (kind : ReqKind) (port since : Nat) (pkt : Packet) (s : State) : State :=
  match reqRefused s kind pkt with
  | none => nakPacket s pkt stNotPermitted
  | some pl =>
    let c := fabricClass pkt.sc pl.reg
    let sch := respSched s pkt.src (if kind = .wrOnce then 2 else 3)
    let len := respBytes s kind pkt
    let schs := match sch with
      | some x => [(x, len)]
      | none => []
    match weirAdmit s pkt.src c 64 schs with
    | none => nakPacket (refusedCount s pkt.src c 64) pkt stNotAdmitted
    | some s1 =>
      let q := viewSub s pl (0x100 + pkt.src) none
      let st := (subRec s q).state
      if !residencyOk s c pl.reg st then
        nakPacket (count (touchPages (unadmit s1 pkt.src c 64 schs) [q]) pgTIER 7 1) pkt stNotResident
      else
        let s1 := if st = 3 then startPromote s1 pl.reg.grain q 0 else s1
        homeBegin (access s1 [q])
          { kind, who := .fabric pkt.src, tag := pkt.tag, sc := c, line := pkt.line, start := since,
            void := bornVoid s (some pkt.src) (some port) (sch.getD 31) (q * 1024 + pkt.line % 1024),
            bound := boundNs s c 64, dom := pl.reg.dom, sch := sch.getD 31, via := some port,
            charge := match sch with
              | some x => len + overhead s x
              | none => 0 }

/-- A request packet: held at its port while its slice takes none (R82, R91). -/
def reqPacket (kind : ReqKind) (code port : Nat) (pkt : Packet) (s : State) : Result :=
  if serving s && sliceHeld s (homeSlice pkt.line) && isLocal s pkt.dest then .next (errInc s pgDIR 1)
  else
    arrive s port pkt (decide (pkt.code = code) && decide (pkt.ch = 0))
      (fun s => nakPacket s pkt stNotAdmitted) (fun s => discardPacket s port)
      (reqServe kind port (rxSince s port pkt) pkt)

/-- RD_SHARED (R86). -/
def execRdShared (port : Nat) (pkt : Packet) (s : State) : Result := reqPacket .rdShared 0x01 port pkt s
/-- RD_OWN (R86). -/
def execRdOwn (port : Nat) (pkt : Packet) (s : State) : Result := reqPacket .rdOwn 0x02 port pkt s
/-- UPGRADE (R86). -/
def execUpgrade (port : Nat) (pkt : Packet) (s : State) : Result := reqPacket .upgrade 0x03 port pkt s
/-- RD_ONCE (R86). -/
def execRdOnce (port : Nat) (pkt : Packet) (s : State) : Result := reqPacket .rdOnce 0x04 port pkt s
/-- WR_ONCE (R86). -/
def execWrOnce (port : Nat) (pkt : Packet) (s : State) : Result := reqPacket .wrOnce 0x05 port pkt s

/-! ## Data and answers -/

/-- The poison code that a packet brings, 0 for none. -/
def pktPoison (pkt : Packet) : Nat := if pkt.poison then storedCode pkt.pcode else 0

/-- WR_DATA: the pulled data of a WR_ONCE (R86). Without WR in the binding it is refused, once the holders have answered
(R410). -/
def wrDataServe (pkt : Packet) (s : State) : State :=
  match tranOf s pkt.line with
  | none => s
  | some t =>
    if t.pull ∧ t.req.who = .fabric pkt.src ∧ t.req.tag = pkt.tag then
      let bad := (permitted s pkt.src (pkt.line * 64) false true).isNone
      advance (setTran s pkt.line { t with
        pull := false, refused := if bad then stNotPermitted else 0,
        wdata := some (fitBytes 64 pkt.data, pkt.mask, pktPoison pkt) }) pkt.line
    else s

/-- WR_DATA (R86). -/
def execWrData (port : Nat) (pkt : Packet) (s : State) : Result :=
  arrive s port pkt (decide (pkt.code = 0x06) && decide (pkt.ch = 3)) id (fun s => discardPacket s port)
    (wrDataServe pkt)

/-- The agent may still answer: it is fenced and its sweep runs (R95). -/
def answersStill (s : State) (eid : Nat) : Bool :=
  ((agentOf s eid).map fun i => (agent s i).answers).getD false && !(route s eid).fenced

/-- An open transaction awaits an agent's answer, or the write-back that it has promised. -/
def awaits (s : State) (line i : Nat) : Bool :=
  ((tranOf s line).map fun t => (t.waits.any fun w => w.agent = i) || decide (t.awaitWb = some i)).getD false

/-- An answer or write-back of an agent arrives: absorbed under R81. Of a fenced agent whose sweep runs only what answers
a FWD is; the rest is discarded (R95, R291). -/
def absorb (s : State) (port : Nat) (pkt : Packet) (code ch : Nat) (f : Nat → State → State) : Result :=
  let serve (s : State) : State :=
    match agentOf s pkt.src with
    | some i => f i s
    | none => s
  let asked := ((agentOf s pkt.src).map fun i => awaits s pkt.line i).getD false && decide (code ≠ 0x18)
  arrive s port pkt (decide (pkt.code = code) && decide (pkt.ch = ch)) id
    (fun s => if answersStill s pkt.src && asked then serve s else discardPacket s port) serve

/-- An agent's entry after its dirty line has been written back: U from M (or E), S from O (Table 4-7). -/
def dirAfterWb (s : State) (line : Nat) (e : DirEntry) : State :=
  if e.sharers = 0 then
    (if e.opened then setDir s line { e with state := 0, owner := 0 } else dropDir s line)
  else setDir s line { e with state := 1, owner := 0 }

/-- The write-back that an open transaction awaits or meets (R88). -/
def wbMeets (s : State) (line i : Nat) : State :=
  match tranOf s line with
  | none => s
  | some t =>
    if !t.done && decide (2 ≤ t.oldState) && decide (t.oldOwner = i) then
      advance (setTran s line { t with
        answer := 4, awaitWb := if t.awaitWb = some i then none else t.awaitWb }) line
    else s

/-- WB_DIRTY: data written and the entry left by its owner, or discarded; WB_ACK in every case (Table 4-7). -/
def wbServe (pkt : Packet) (i : Nat) (s : State) : State :=
  let ack (s : State) : State :=
    emit s { dest := pkt.src, ch := 2, sc := pkt.sc, tag := pkt.tag, code := 0x13, line := pkt.line }
  match dirOf s pkt.line with
  | none => ack s
  | some e =>
    if 2 ≤ e.state ∧ e.owner = i ∧ (permitted s pkt.src (pkt.line * 64) false true).isSome then
      let s := homeStore s pkt.line pkt.sc (fitBytes 64 pkt.data) (2 ^ 64 - 1) (pktPoison pkt)
      wbMeets (settle (ack (dirAfterWb s pkt.line e)) pkt.line) pkt.line i
    else ack s

/-- WB_DIRTY (R86). -/
def execWbDirty (port : Nat) (pkt : Packet) (s : State) : Result := absorb s port pkt 0x1E 3 (wbServe pkt)

/-- A sharer leaves a line, and the transaction that is open on it sees it no longer. -/
def dropSharer (s : State) (line i : Nat) (e : DirEntry) : State :=
  let sh := clrBit e.sharers i
  let s := { s with dir := { s.dir with trans := tmod s.dir.trans line fun t =>
    if t.done then t else { t with oldSharers := clrBit t.oldSharers i } } }
  if e.state = 1 ∧ sh = 0 then
    (if e.opened then setDir s line { e with state := 0, sharers := 0 } else dropDir s line)
  else setDir s line { e with sharers := sh }

/-- EVICT from a holder (Table 4-7). -/
def evictServe (pkt : Packet) (i : Nat) (s : State) : State :=
  match dirOf s pkt.line with
  | none => s
  | some e =>
    if 2 ≤ e.state ∧ e.owner = i then
      if e.state = 2 then
        (if e.opened then setDir s pkt.line { e with state := 0, owner := 0 } else settle (dropDir s pkt.line) pkt.line)
      else s
    else if (e.state = 1 ∨ e.state = 4) ∧ e.sharers.getLsbD i then settle (dropSharer s pkt.line i e) pkt.line
    else s

/-- EVICT (R86). -/
def execEvict (port : Nat) (pkt : Packet) (s : State) : Result := absorb s port pkt 0x18 2 (evictServe pkt)

/-- One holder's answer to a FWD: `code` as in Tran.answer, with the data it brings (R87, R88). An answer that no
FWD awaits changes nothing. -/
def answer (code : Nat) (data : Option (Bytes × Nat)) (wbp : Bool) (line i : Nat) (s : State) : State :=
  match tranOf s line with
  | none => s
  | some t =>
    match t.waits.find? fun w => w.agent = i with
    | none => s
    | some w =>
      let owner := decide (2 ≤ t.oldState) && decide (t.oldOwner = i)
      let t := { t with waits := t.waits.erase w }
      let t := if !owner then t
        else if code = 3 ∧ wbp then (if t.answer = 4 then t else { t with awaitWb := some i })
        else if t.answer = 4 then t
        else { t with answer := code, owned := data }
      advance (setTran s line t) line

/-- An answer to a FWD that a new active did not send: HOLD_DATA is a WB_DIRTY, ACK_INV an EVICT (R398). -/
def strayAnswer (pkt : Packet) (code i : Nat) (s : State) : State :=
  if code = 2 then wbServe pkt i s else evictServe pkt i s

/-- ACK_SHR (R87). -/
def execAckShr (port : Nat) (pkt : Packet) (s : State) : Result :=
  absorb s port pkt 0x14 2 (answer 1 none false pkt.line)
/-- ACK_INV (R87). -/
def execAckInv (port : Nat) (pkt : Packet) (s : State) : Result :=
  absorb s port pkt 0x15 2 fun i s =>
    if s.pair.took && !awaits s pkt.line i then strayAnswer pkt 6 i s else answer 6 none false pkt.line i s
/-- ACK_MISS (R88). -/
def execAckMiss (port : Nat) (pkt : Packet) (s : State) : Result :=
  absorb s port pkt 0x16 2 (answer 3 none pkt.wbPending pkt.line)
/-- ACK_CLEAN (R87). -/
def execAckClean (port : Nat) (pkt : Packet) (s : State) : Result :=
  absorb s port pkt 0x17 2 (answer 5 none false pkt.line)
/-- HOLD_DATA (R87). -/
def execHoldData (port : Nat) (pkt : Packet) (s : State) : Result :=
  absorb s port pkt 0x1F 3 fun i s =>
    if s.pair.took && !awaits s pkt.line i then strayAnswer pkt 2 i s
    else answer 2 (some (fitBytes 64 pkt.data, pktPoison pkt)) false pkt.line i s

/-! ## Closing -/

/-- The requester index of a home request (R104). -/
def reqIndex (w : Requester) : Nat :=
  match w with
  | .fabric e => e
  | .cxl => 4096
  | _ => 0

/-- TRANSACTION_CLOSE (R85): the response's last byte has left; the bound is checked and the chain served. -/
def execTransactionClose (line : Nat) (s : State) : Result :=
  match tranOf s line with
  | none => .next s
  | some t =>
    if !t.done then .next s
    else
      let s := closeTran s line
      let r := t.req
      .next (boundReport s r.sc r.sch (reqIndex r.who) r.dom 0 r.start r.bound r.void)

/-! ## Recall timeout, fencing and sweeps -/

/-- A fenced holder's FWD on a line is settled: an owner's line is poisoned and every other sharer invalidated; a
sharer's bit is cleared (R93). What waited on the line has a void bound (R97). -/
def timeoutLine (s : State) (line i : Nat) : State :=
  match tranOf s line with
  | none => s
  | some t =>
    let owner := decide (2 ≤ t.oldState) && decide (t.oldOwner = i)
    let s := if owner then loseOwner s line i else loseSharer s line i
    let t := (tranOf s line).getD t
    let t := { t with waits := t.waits.filter fun w => w.agent ≠ i,
                      awaitWb := if t.awaitWb = some i then none else t.awaitWb }
    if owner then
      let asked := decide (t.req.kind ≠ .rdShared) && decide (t.req.kind ≠ .rdOnce) && t.only.isNone
      let is := if asked then [] else (bitList t.oldSharers).filter fun j => j ≠ i && !deadHolder s j
      let (s, t) := sendFwds s line 0x09 is t.req.sc { t with answer := 7, owned := none, only := none }
      advance (setTran s line t) line
    else
      let s := match dirOf s line with
        | some e => setDir s line { e with sharers := clrBit e.sharers i }
        | none => s
      advance (setTran s line { t with oldSharers := clrBit t.oldSharers i }) line

/-- RECALL_TIMEOUT (R92, R93): a FWD to an agent, or the write-back it promised, is overdue. -/
def execRecallTimeout (line agent : Nat) (s : State) : Result :=
  match tranOf s line with
  | none => .next s
  | some t =>
    if (t.waits.any fun w => w.agent = agent) ∨ t.awaitWb = some agent then
      let a := Machine.agent s agent
      let s := mirrorFence (setAgent s agent { a with fenced := true, timedOut := true, sweepDone := false, answers := false })
        agent true
      let s := count (fenceEffects s a.eid) pgDIR 5 1
      let s := { s with dir := { s.dir with sweeps := insNat agent s.dir.sweeps } }
      .next (timeoutLine s line agent)
    else .next s

/-- The directory entry names an agent. -/
def entryNames (e : DirEntry) (i : Nat) : Bool :=
  (decide (2 ≤ e.state) && decide (e.owner = i)) || e.sharers.getLsbD i

/-- An open transaction waits on an agent. -/
def tranNames (t : Tran) (i : Nat) : Bool := (t.waits.any fun w => w.agent = i) || decide (t.awaitWb = some i)

/-- Recall the closed lines of an agent that is fenced and answers (R95). -/
def recallAgent (s : State) (i : Nat) : State :=
  ((s.dir.entries.filter fun e => !e.2.opened && entryNames e.2 i).map Prod.fst).foldl (fun s l =>
    if (tranOf s l).isSome then s
    else settle (openTran (count s pgDIR 2 1) (recallReq s l) none (some i) false) l) s

/-- Treat every line that names a silent, fenced agent as R93 does (R94). -/
def sweepSilent (s : State) (i : Nat) : State :=
  let s := ((s.dir.trans.filter fun e => tranNames e.2 i).map Prod.fst).foldl (fun s l => timeoutLine s l i) s
  ((s.dir.entries.filter fun e => !e.2.opened && entryNames e.2 i).map Prod.fst).foldl
    (fun s l => settle (dropDead s l) l) s

/-- DIRECTORY_SWEEP_DONE (R94, R95): the sweep has covered every entry; lines that a transaction still holds for
the agent keep it running. -/
def execDirectorySweepDone (agent : Nat) (s : State) : Result :=
  if !s.dir.sweeps.contains agent then .next s
  else
    let a := Machine.agent s agent
    let s := if a.answers then recallAgent s agent else sweepSilent s agent
    if (s.dir.entries.any fun e => entryNames e.2 agent) || (s.dir.trans.any fun e => tranNames e.2 agent) then
      .next s
    else
      let s := setAgent s agent { Machine.agent s agent with sweepDone := true, answers := false }
      let s := { s with dir := { s.dir with sweeps := s.dir.sweeps.erase agent } }
      .next (event s { source := pgDIR, sev := sevInfo, cls := clCoherence, detail := agent })

/-- AGENT_DATA_WRITE (R79). FENCED, TIMED_OUT and SWEEP_DONE stay when an entry is bound to a new EID: an UNFENCE
clears them (DESIGN CHOICE, log entry 99). -/
def execAgentDataWrite (id : Nat) (value : W32) (s : State) : Result :=
  let i := fld (ri s id (ra pgDIR 0x100)) 0 8
  let a := agent s i
  let eid := fld value.toNat 0 12
  let valid := value.toNat.testBit 12
  let free := !a.valid || (a.fenced && a.sweepDone)
  let changes := decide (eid ≠ a.eid) || (a.valid && !valid)
  guarded (isFw id && (!changes || free)) s fun s => setAgent s i { a with eid, valid }

/-- Fence a live agent, and begin the sweep that recalls its lines (R95). -/
def fenceAgent (s : State) (i : Nat) : State :=
  let a := agent s i
  if a.fenced then s
  else
    let s := mirrorFence (setAgent s i { a with fenced := true, sweepDone := false, timedOut := false, answers := true }) i
      false
    let s := fenceEffects s a.eid
    recallAgent { s with dir := { s.dir with sweeps := insNat i s.dir.sweeps } } i

/-- AGENT_FENCE (R95). -/
def execAgentFence (id agent : Nat) (s : State) : Result :=
  guarded (isFw id && decide (agent < 256)) s fun s => fenceAgent s agent

/-- AGENT_UNFENCE (R95). -/
def execAgentUnfence (id agent : Nat) (s : State) : Result :=
  let a := Machine.agent s agent
  guarded (isFw id && a.sweepDone) s fun s =>
    setAgent s agent { a with fenced := false, timedOut := false, sweepDone := false }

end Sys2Proof.Machine
end

