-- ==== Sys2Proof/Machine/Reads.lean ====
section
/-!
DEFINITION. Reads and writes of pool memory by the controller's own users: command queues, tiles, the walker and
received messages (R26, R42, R43, R78, R107, R128, R410).
-/
namespace Sys2Proof.Machine

/-- How far a user's access has come. -/
inductive Go (α : Type) where
  /-- it is done, with its result. -/
  | done (x : α) (s : State)
  /-- it waits for a promotion, a busy mark or a snoop, which has been started. -/
  | wait (s : State)
  /-- it is refused with a status code of Table 7-9. -/
  | refuse (status : Nat) (s : State)

/-- Continue after a finished access. -/
def Go.bind {α β : Type} (x : Go α) (f : α → State → Go β) : Go β :=
  match x with
  | .done a s => f a s
  | .wait s => .wait s
  | .refuse st s => .refuse st s

/-- A list of accesses, in order. -/
def goList {α β : Type} (f : α → State → Go β) : List α → State → Go (List β)
  | [], s => .done [] s
  | a :: as, s => (f a s).bind fun b s => (goList f as s).bind fun bs s => .done (b :: bs) s

/-- A user of pool memory: who it is at the home, the requester whose bindings it uses (none: the domain alone,
R61), its domain and identity, the operation and assignment serial it works for, and its class. -/
structure User where
  who : Requester
  req : Option Nat
  dom : Nat
  ident : Nat := 0
  handle : Option Nat := none
  serial : Option Nat := none
  cls : Nat := 7
  deriving DecidableEq, Repr

/-- Handle a is earlier than handle b (R159). -/
def earlier (a b : Nat) : Bool := decide (0 < (b + 2 ^ 32 - a) % 2 ^ 32) && decide ((b + 2 ^ 32 - a) % 2 ^ 32 < 0x80000000)

/-- A user is served under a FREE or a shrinking RESIZE: its operation is earlier, and, with FORCE, its tile was in an
engine (R42, R43). -/
def servedUnder (u : User) (taker : Nat) (force : Bool) (since : Nat) : Bool :=
  match u.handle with
  | none => false
  | some h => earlier h taker && (!force || decide (u.serial.getD 0 < since))

/-- The user may still use the place: it is served under each of the FREE and the shrinking RESIZE that take the page
away (R42, R43, Table 2-5). -/
def userServed (u : User) (pl : Place) : Bool :=
  (!pl.reg.freeing || servedUnder u pl.reg.freedBy pl.reg.force pl.reg.freedAt) &&
  (!pageShrinking pl || servedUnder u pl.reg.shrinking pl.reg.shrinkForce pl.reg.shrinkAt)

/-- The place that a user reaches, where its binding, its domain and the region's life allow it (R26, R42, R410). -/
def userPlace (s : State) (u : User) (pa : Nat) (write : Bool) : Option Place :=
  (match u.req with
   | some r => permitted s r pa (!write) write
   | none => placeOf s pa).bind fun pl =>
    if pl.reg.dom = u.dom ∧ userServed u pl then some pl else none

/-- The sub-pages of a run. -/
def subsOf (pa n : Nat) : List Nat := rangeFrom (pa / 65536) ((pa + max 1 n - 1) / 65536 - pa / 65536 + 1)

/-- The tier state that a user meets at a place. -/
def tierState (s : State) (u : User) (pl : Place) : Nat := (subRec s (viewSub s pl u.ident u.serial)).state

/-- Check every sub-page of a run for a read: places, and promotion of what lies in CISTERN. -/
def readGate (s : State) (u : User) : List Nat → Go Unit
  | [] => .done () s
  | pa :: pas =>
    match userPlace s u pa false with
    | none => .refuse stNotPermitted s
    | some pl =>
      if tierState s u pl = 3 then
        (if classResidency s u.cls = 0 then .wait (startPromote s pl.reg.grain (viewSub s pl u.ident u.serial) 0)
         else .refuse stNotResident s)
      else readGate s u pas

/-- The first PA of each sub-page of a run. -/
def runHeads (pa n : Nat) : List Nat := (subsOf pa n).map fun q => max pa (q * 65536)

/-- Read lines in order; none while any is being snooped. -/
def readLines (u : User) : List Nat → State → Option (List (Bytes × Nat)) × State
  | [], s => (some [], s)
  | l :: ls, s =>
    let (d, s) := match userPlace s u (l * 64) false with
      | some pl => ownRead s u.who (viewLine s pl u.ident u.serial) u.cls
      | none => (some (zeros 64, 0), s)
    let (ds, s) := readLines u ls s
    (match d, ds with
     | some x, some xs => some (x :: xs)
     | _, _ => none, s)

/-- The lines, among some, whose read the user has yet to begin at their homes. -/
def readsToBegin (s : State) (u : User) (ls : List Nat) : List Nat :=
  ls.filterMap fun l => (userPlace s u (l * 64) false).bind fun pl =>
    let x := viewLine s pl u.ident u.serial
    if readsHome s x && (snooped s u.who x).isNone && !readWaits s u.who x then some x else none

/-- The lines, among some, whose write goes through their homes. -/
def writesToBegin (s : State) (u : User) (ls : List Nat) : List Nat :=
  ls.filterMap fun l => (userPlace s u (l * 64) true).bind fun pl =>
    let x := viewLine s pl u.ident none
    if writesHome s x then some x else none

/-- A user reads a run: its bytes, and the poison code of each of its lines (R96, R107, R128). It waits while a slice has
no tracker entry for it (R82). -/
def userRead (s : State) (u : User) (pa n : Nat) : Go (Bytes × List Nat) :=
  if n = 0 then .done ([], []) s
  else
    match readGate s u (runHeads pa n) with
    | .wait s => .wait s
    | .refuse st s => .refuse st s
    | .done _ s =>
      if !homeRoom s (readsToBegin s u (linesOf pa n)) then .wait s else
      let (r, s) := readLines u (linesOf pa n) s
      match r with
      | none => .wait s
      | some ls => .done ((ls.flatMap Prod.fst).drop (pa % 64) |>.take n, ls.map Prod.snd) s

/-- Prepare every sub-page of a run for a write (R34, R36, R45, R46, R131). -/
def writeGate (s : State) (u : User) : List Nat → Go Unit
  | [] => .done () s
  | pa :: pas =>
    match userPlace s u pa true with
    | none => .refuse stNotPermitted s
    | some pl =>
      match preparePlace s pl u.ident u.cls with
      | .go s => writeGate s u pas
      | .wait s => .wait s
      | .refuse e => .refuse e s

/-- Write the lines of a run; the result says whether some wait for their holders. -/
def writeLines (u : User) (pcode : Nat) (mk : MackFor) : List (Nat × Bytes × Nat) → State → Bool × State
  | [], s => (false, s)
  | (l, d, m) :: es, s =>
    let (now, s) := match userPlace s u (l * 64) true with
      | some pl => ownWrite s u.who pl.reg.mirrored (viewLine s pl u.ident none) u.cls d m pcode mk
      | none => (true, s)
    let (w, s) := writeLines u pcode mk es s
    (w || !now, s)

/-- Prepare a run for a write. An armed landing area takes no write but those of PUT messages (R217). -/
def runGate (s : State) (u : User) (pa n : Nat) : Go Unit :=
  let put : Bool := match u.who with
    | .put _ => true
    | _ => false
  if !put && (landingOf s pa n).isSome then .refuse stNotPermitted s else writeGate s u (runHeads pa n)

/-- A user writes a run; it waits while a slice has no tracker entry for it (R82). `done true` says that some lines are still being taken from their holders. -/
def userWrite (s : State) (u : User) (pa : Nat) (data : Bytes) (pcode : Nat) (mk : MackFor) : Go Bool :=
  if data.isEmpty then .done false s
  else
    match runGate s u pa data.length with
    | .wait s => .wait s
    | .refuse st s => .refuse st s
    | .done _ s =>
      if !homeRoom s (writesToBegin s u (linesOf pa data.length)) then .wait s else
      let (w, s) := writeLines u pcode mk (cutLines (data.length + 1) pa data) s
      .done w s

/-! ## Read-modify-writes at the home (R78, R82) -/

/-- Forget the copies of some lines that were brought for a user. -/
def forgetLines (s : State) (who : Requester) (ls : List Nat) : State :=
  { s with dir := { s.dir with snoops := s.dir.snoops.filter fun e => !(decide (e.1 = who) && ls.contains e.2.1) } }

/-- Take the lines of a run from their holders, by a write of nothing at their homes, so that what follows is one step
there; whether no line is held or in transaction any longer. Copies brought earlier are forgotten. -/
def claimRun (s : State) (u : User) (pa n : Nat) : Bool × State :=
  let ls := (linesOf pa n).filterMap fun l => (userPlace s u (l * 64) true).map fun pl => viewLine s pl u.ident none
  let held := ls.filter (writesHome s)
  if held.isEmpty then (true, forgetLines s u.who ls)
  else if ownPending s u.who || !homeRoom s held then (false, s)
  else
    let s := held.foldl (fun s l => (ownWrite s u.who (lineMirrored s l) l u.cls (zeros 64) 0 0 .atomic).2) s
    (!ls.any (writesHome s), forgetLines s u.who ls)

/-- Write a run in one step at its homes, once no agent holds a line of it. -/
def userStore (s : State) (u : User) (pa : Nat) (data : Bytes) (pcode : Nat) (mk : MackFor) : Go Unit :=
  match runGate s u pa data.length with
  | .wait s => .wait s
  | .refuse st s => .refuse st s
  | .done _ s =>
    let (free, s) := claimRun s u pa data.length
    if free then .done () (writeLines u pcode mk (cutLines (data.length + 1) pa data) s).2 else .wait s

/-- The user that an operation is for its own reads and writes. -/
def opUser (o : Op) (who : Requester) (h : Nat) : User :=
  { who, req := some (4097 + o.queue), dom := o.dom, ident := o.owner, handle := some h }

/-- The counts of Table 9-1 that the controller keeps. -/
def recordCounts (a : Arrival) : List Nat := [a.done, a.skipped.length, a.folded, a.lostBytes]

/-- The arrival record shows the counts and the state. -/
def recordShown (a : Arrival) : Bool := decide (a.shown = recordCounts a) && decide (a.shownState = a.state)

/-- The controller's part of the arrival record after its adds: offsets 0x20 to 0x38 (Table 9-1). -/
def recordBytes (a : Arrival) (old : Bytes) : Bytes :=
  let add (off w i : Nat) : Bytes :=
    let m := 2 ^ (8 * w)
    natLe w ((leAt old off w + nth (recordCounts a) i 0 + m - nth a.shown i 0 % m) % m)
  add 0 4 0 ++ add 4 4 1 ++ add 8 8 2 ++ add 16 8 3 ++
    natLe 1 (if a.shownState = a.state then leAt old 24 1 else a.state)

/-- Bring an operation's arrival record up to date by an atomic add at its home slice (R221), as soon as no agent holds
its line. A record that can no longer be written is left. -/
def flushRecord (s : State) (h : Nat) : State :=
  match (opOf s h).bind fun o => o.arrival.map fun a => (o, a) with
  | none => s
  | some (o, a) =>
    let shown (s : State) : State := modArrival s h fun a => { a with shown := recordCounts a, shownState := a.state }
    let u := opUser o (.fetch (2 ^ 43 + h)) h
    if recordShown a then s
    else
      match runGate s u a.record 64 with
      | .wait s => s
      | .refuse _ s => shown s
      | .done _ s =>
        let (free, s) := claimRun s u a.record 64
        if !free then s
        else
          match readLines u [lineOf a.record] s with
          | (some [(d, _)], s) =>
            shown (writeLines u 0 .atomic (cutLines 26 (a.record + 0x20) (recordBytes a (d.drop 0x20))) s).2
          | (_, s) => s

/-- Every reduction's record (R221). -/
def flushRecords (s : State) : State :=
  (tkeys s.cmd.ops fun _ o => o.arrival.isSome).foldl flushRecord s

/-- The record of an operation's reduction, if it has one, shows its counts, and what lost a fold is marked. -/
def recordSettled (s : State) (h : Nat) : Bool :=
  (((opOf s h).bind fun o => o.arrival).map fun a => recordShown a && a.lostAcc.isEmpty).getD true

end Sys2Proof.Machine
end

