-- ==== Sys2Proof/Machine/Queue.lean ====
section
/-!
DEFINITION. Command queues (chapter 07): doorbells, taking entries, completions and notifications, SUSPEND, RESUME,
CANCEL and FENCE.
-/
namespace Sys2Proof.Machine

/-! ## Rings -/

def qPage (q : Nat) : Nat := pgCMDQ + q
def sqEn (s : State) (q : Nat) : Bool := rb s (ra (qPage q) 0x108) 6
def sqSize (s : State) (q : Nat) : Nat := 2 ^ rf s (ra (qPage q) 0x108) 0 5
def sqHost (s : State) (q : Nat) : Bool := rb s (ra (qPage q) 0x108) 5
def sqHead (s : State) (q : Nat) : Nat := rf s (ra (qPage q) 0x110) 0 16
def sqTail (s : State) (q : Nat) : Nat := rf s (ra (qPage q) 0x10C) 0 16
def sqBase (s : State) (q : Nat) : Nat :=
  rd s (ra (qPage q) 0x100) / 4096 * 4096 + rf s (ra (qPage q) 0x104) 0 20 * 2 ^ 32
def cqNum (s : State) (q : Nat) : Nat := rf s (ra (qPage q) 0x108) 8 8
def cqEn (s : State) (c : Nat) : Bool := rb s (ra (qPage c) 0x11C) 6
def cqSize (s : State) (c : Nat) : Nat := 2 ^ rf s (ra (qPage c) 0x11C) 0 5
def cqHost (s : State) (c : Nat) : Bool := rb s (ra (qPage c) 0x11C) 5
def cqHead (s : State) (c : Nat) : Nat := rf s (ra (qPage c) 0x124) 0 16
def cqTail (s : State) (c : Nat) : Nat := rf s (ra (qPage c) 0x128) 0 16
def cqBase (s : State) (c : Nat) : Nat :=
  rd s (ra (qPage c) 0x114) / 4096 * 4096 + rf s (ra (qPage c) 0x118) 0 20 * 2 ^ 32
def qDomain (s : State) (q : Nat) : Nat := rf s (ra (qPage q) 0x12C) 0 10
def qOwner (s : State) (q : Nat) : Nat := rf s (ra (qPage q) 0x12C) 10 13
def qPaGrant (s : State) (q : Nat) : Bool := rb s (ra (qPage q) 0x12C) 23
def qPriv (s : State) (q : Nat) : Bool := rb s (ra (qPage q) 0x12C) 24
def qDescCtx (s : State) (q : Nat) : Nat := rf s (ra (qPage q) 0x130) 0 12

/-- Requester index of a command queue (R104). -/
def qReq (q : Nat) : Nat := 4097 + q

/-- Completion slots of a queue reserved by entries (R151). -/
def cqReserved (s : State) (c : Nat) : Nat :=
  (s.cmd.ops.filter fun e => e.2.reserved && decide (e.2.cq = c)).length

/-- A completion slot is free and unreserved (R151). -/
def cqFree (s : State) (c : Nat) : Bool :=
  cqEn s c && decide (cqReserved s c < (cqHead s c + 2 * cqSize s c - 1 - cqTail s c) % cqSize s c)

/-- An operation slot is free (R160). -/
def opSlotFree (s : State) : Bool :=
  decide ((s.cmd.ops.filter fun e => e.2.slot && decide (e.2.phase ≠ .ended)).length < 4096)

/-- Operations of a queue in flight (QSTAT.INFLIGHT). -/
def inflight (s : State) (q : Nat) : Nat :=
  (s.cmd.ops.filter fun e => decide (e.2.queue = q) && decide (e.2.phase ≠ .ended)).length

/-- The queue's binding entries exist and all name its domain (R412). -/
def queueBound (s : State) (q : Nat) : Bool :=
  let bs := s.sec.binds.filter fun e => e.2.req = qReq q
  !bs.isEmpty && bs.all fun e => e.2.dom = qDomain s q

/-! ## Doorbells and queue registers -/

/-- A doorbell from an identity (R149). -/
def doorbell (s : State) (id q tail : Nat) : State :=
  if id = qOwner s q ∧ tail < sqSize s q then wf s (ra (qPage q) 0x10C) 0 16 tail
  else errInc (wb s (ra (qPage q) 0x134) 14 true) (qPage q) 1

/-- SQ_DOORBELL (R149). -/
def execSqDoorbell (id q : Nat) (value : W32) (s : State) : Result :=
  guarded (decide (q < 256)) s fun s => doorbell s id q (value.toNat % 65536)

/-- DOORBELL_PACKET (R149): the identity is 0x100 + EID. -/
def execDoorbellPacket (port : Nat) (pkt : Packet) (s : State) : Result :=
  arrive s port pkt (decide (4 ≤ pkt.ch) && decide (pkt.kind = 3) && decide (pkt.queue < 256))
    (fun s => event s { source := pgRTE, sev := sevWarn, cls := clQueue, loc := pkt.src })
    (fun s => discardPacket s port)
    fun s => doorbell s (0x100 + pkt.src) pkt.queue (pkt.tail % 65536)

/-- Cancel every reservation held in a completion queue (R152): a suspended operation that holds none loses none. -/
def cancelReservations (s : State) (c : Nat) : State :=
  { s with cmd := { s.cmd with ops := tmap s.cmd.ops fun _ o =>
      if o.cq = c ∧ o.reserved then { o with reserved := false, slotLost := true } else o } }

/-- SQ_CFG_WRITE (R148). -/
def execSqCfgWrite (_id q : Nat) (value : W32) (s : State) : Result :=
  let a := ra (qPage q) 0x108
  let was := sqEn s q
  let fs := (if was then [] else [fRW 0 5 4 4 16]) ++ [fRW 5 1, fRW 6 1, fRW 8 8]
  guarded (decide (q < 256)) s fun s =>
    let s := wr s a (writeFields false (rd s a) value.toNat fs)
    if !was && sqEn s q then wr (wr s (ra (qPage q) 0x110) 0) (ra (qPage q) 0x10C) 0 else s

/-- CQ_CFG_WRITE (R148, R152). -/
def execCqCfgWrite (_id q : Nat) (value : W32) (s : State) : Result :=
  let a := ra (qPage q) 0x11C
  let was := cqEn s q
  let fs := (if was then [] else [fRW 0 5 4 4 16]) ++ [fRW 5 1, fRW 6 1, fW1C 7 1]
  guarded (decide (q < 256)) s fun s =>
    let s := wr s a (writeFields false (rd s a) value.toNat fs)
    if !was && cqEn s q then
      let s := wr (wr s (ra (qPage q) 0x124) 0) (ra (qPage q) 0x128) 0
      { s with cmd := { s.cmd with cqs := tset {} s.cmd.cqs q {} } }
    else if was && !cqEn s q then cancelReservations s q
    else s

/-- CQ_HEAD_WRITE (R151). -/
def execCqHeadWrite (_id q : Nat) (value : W32) (s : State) : Result :=
  guarded (decide (q < 256)) s fun s => wr s (ra (qPage q) 0x124) (value.toNat % 65536)

/-! ## Ends of operations -/

/-- A reduction that ends before its completion: STATE becomes ENDED and its landing area is not armed (R226). -/
def arrivalEnd (s : State) (h : Nat) : State :=
  modArrival s h fun a => if a.state = 1 then { a with state := 3, armed := false } else a

/-- An operation's last work has ended with a condition: its completion is due (R161, R392). -/
def endOp (s : State) (h cond : Nat) : State :=
  let tick := if mirroring s then s.pair.tick + 1 else 0
  let s := flushRecord (arrivalEnd s h) h
  modOp s h fun o =>
    if o.phase = .ended ∨ o.phase = .ending then o
    else { o with phase := .ending, cond := Nat.lor o.cond cond, endTick := tick }

/-- An operation ends with a status and result words. -/
def endWith (s : State) (h st : Nat) (res : List Nat) : State :=
  endOp (modOp s h fun o => { o with res }) h (condOf st)

/-- Tiles of an operation that have been dealt and have not ended. -/
def opTiles (s : State) (h : Nat) : List Tile := s.cmd.tiles.filter fun t => t.op = h

/-- N of a stream operation (Table 7-4). -/
def opN (o : Op) : Nat := leAt o.desc 8 4

/-- Every tile of a stream has ended and none is left to deal. -/
def streamDone (s : State) (h : Nat) (o : Op) : Bool :=
  (opTiles s h).isEmpty && (o.cancelled || o.stopped || (decide (opN o ≤ o.next) && o.redo.isEmpty))

/-- After a tile ended: an operation with nothing left ends, except an arrival-driven one (R224). -/
def settleOp (s : State) (h : Nat) : State :=
  match opOf s h with
  | none => s
  | some o =>
    if o.opcode = 0x01 ∧ o.phase = .running ∧ streamDone s h o ∧
        (o.arrival.isNone ∨ o.cancelled ∨ o.stopped) then endOp s h 0
    else s

/-- Remove the units of a tile that no longer waits at its cluster's scheduler. -/
def dropUnits (s : State) (h num : Nat) : State :=
  (rangeFrom 24 4).foldl (fun s sch =>
    let x := sched s sch
    let mine := x.units.filter fun u => u.tile = some (h, num)
    if mine.isEmpty then s
    else mine.foldl (fun s u => unchargeBacklog s sch u.cls u.charge)
      (setSched s sch { x with units := x.units.filter fun u => u.tile ≠ some (h, num) })) s

/-- Give uncommitted tiles back to their operation: to its frontier list, or to the landed tiles in their order of
landing (R166, R222, R226, R240). -/
def giveBack (s : State) (h : Nat) (nums : List Nat) : State :=
  modOp (nums.foldl (fun s n => dropUnits s h n) s) h fun o =>
    match o.arrival with
    | some a => { o with arrival := some { a with queue := a.landed.filter fun i => nums.contains i || a.queue.contains i } }
    | none => { o with redo := nums.foldl (fun l n => insNat n l) o.redo }

/-- Return the dealt tiles of an operation that no engine holds to its frontier (R166). -/
def undeal (s : State) (h : Nat) : State :=
  let back := (opTiles s h).filter fun t => t.eng.isNone
  let ts := s.cmd.tiles.filter fun t => !(decide (t.op = h) && t.eng.isNone)
  giveBack { s with cmd := { s.cmd with tiles := ts } } h (back.map fun t => t.num)

/-- Stop assignment: the operation drains (R166). -/
def beginSuspend (s : State) (h : Nat) : State :=
  undeal (modOp s h fun o => { o with phase := .suspending }) h

/-- A tile leaves its engine without a commit: counter `k` of its core, and its datapath slots as wasted (R242). -/
def wasteTile (s : State) (t : Tile) (k : Nat) : State :=
  match t.eng with
  | none => s
  | some e =>
    let s := count (count s (pgCORE + e / 4) k 1) (pgCORE + e / 4) (4 * (e % 4) + 1) t.work
    match opOf s t.op with
    | none => s
    | some o => count (setOp s t.op { o with slots := { o.slots with wasted := o.slots.wasted + t.work } })
        (qPage o.queue) 6 t.work

/-- Discard the tiles of an operation that have not begun their sink write, and stop it (R168). -/
def beginCancel (s : State) (h : Nat) : State :=
  let gone := (opTiles s h).filter fun t => !t.sinking
  let s := gone.foldl (fun s t => dropUnits (wasteTile s t 18) h t.num) s
  let ts := s.cmd.tiles.filter fun t => t.op ≠ h ∨ t.sinking
  let s := { s with cmd := { s.cmd with tiles := ts } }
  let s := flushRecord (arrivalEnd (modOp s h fun o => { o with
    cancelled := true, cond := addCond o.cond stPartial }) h) h
  settleOp s h

/-! ## Completions -/

/-- The 32 bytes of a completion entry (Table 7-7). -/
def cplBytes (s : State) (h : Nat) (o : Op) (final : Bool) (res : List Nat) : Bytes :=
  let phase := (tgetD s.cmd.cqs o.cq {}).phase
  natLe 4 h ++ natLe 4 o.tag ++ natLe 1 o.opcode ++ natLe 1 (statusFor final o.cond) ++ natLe 2 o.cond ++
  natLe 2 (sqHead s o.queue) ++ natLe 1 o.queue ++
  natLe 1 ((if phase then 1 else 0) + if final then 2 else 0) ++
  ((rangeFrom 0 4).flatMap fun i => natLe 4 (nth res i 0))

/-- The result words of a completion (Table 7-8 for a stream). -/
def cplResult (o : Op) (final : Bool) : List Nat :=
  if o.opcode ≠ 0x01 then o.res
  else
    let fault := if final then decide (statusOf o.cond = stTransFault) else o.faultSusp
    if fault then [o.fault0, o.fault1, o.faults, o.committed]
    else [o.firstFail, o.suspect, o.failed, o.committed]

/-- Send the notification of a completion queue (R164, R286). -/
def notify (s : State) (c : Nat) : State :=
  let v := rd s (ra (qPage c) 0x120)
  let x := tgetD s.cmd.cqs c {}
  let s := { s with cmd := { s.cmd with cqs := tset {} s.cmd.cqs c { x with accum := 0 } } }
  let s := count s (qPage c) 2 1
  match fld v 12 2 with
  | 1 => msix s (fld v 0 12)
  | 2 =>
    if eidFenced s (fld v 0 12) then s
    else emit s { dest := fld v 0 12, ch := 4, sc := 7, kind := 4, queue := c, tail := cqTail s c }
  | _ => s

/-- An entry has been written: CQ_TAIL, phase and the notification rules (R161, R164). -/
def cplAdvance (s : State) (c : Nat) (asked : Bool) : State :=
  let x := tgetD s.cmd.cqs c {}
  let t := (cqTail s c + 1) % cqSize s c
  let x := { x with phase := if t = 0 then !x.phase else x.phase, accum := x.accum + 1,
                    oldest := if x.accum = 0 then s.now else x.oldest }
  let s := wf { s with cmd := { s.cmd with cqs := tset {} s.cmd.cqs c x } } (ra (qPage c) 0x128) 0 16 t
  let v := rd s (ra (qPage c) 0x120)
  if fld v 12 2 ≠ 0 ∧ (asked ∨ (fld v 14 8 ≠ 0 ∧ fld v 14 8 ≤ x.accum)) then notify s c else s

/-- A completion write failed (R152). -/
def cplFail (s : State) (c : Nat) : State :=
  let s := wb (wb s (ra (qPage c) 0x11C) 6 false) (ra (qPage c) 0x11C) 7 true
  event (cancelReservations s c) { source := qPage c, sev := sevError, cls := clQueue }

/-- How far the write of a completion entry has come. -/
inductive CplGo where
  | written (s : State)
  | wait (s : State)

/-- The name under which the completion entry of an operation is written at the home. -/
def cplWho (h : Nat) : Requester := .fetch (2 ^ 40 + h)

/-- The bytes and the place of the completion entry of an operation. -/
def cplEntry (s : State) (h : Nat) (o : Op) (final : Bool) : Nat × Bytes :=
  (cqBase s o.cq + 32 * cqTail s o.cq, cplBytes s h o final (cplResult o final))

/-- Write the completion entry of an operation into pool memory, in one step once no agent holds its line. -/
def cplStore (s : State) (h : Nat) (o : Op) (final : Bool) : Go Unit :=
  userStore s { opUser o (cplWho h) h with handle := none } (cplEntry s h o final).1 (cplEntry s h o final).2 0 .atomic

/-- The entry is written: the queue advances and the operation holds no entry. DEDUCED: every entry of a command whose
NOTIFY flag is 1 notifies, as R164 says; Table 7-2 names the final one (log entry 80). -/
def cplWritten (s : State) (h : Nat) (o : Op) : State :=
  count (cplAdvance (modOp s h fun o => { o with reserved := false }) o.cq o.notify) (qPage o.queue) 1 1

/-- Write the completion entry of an operation, or discard it where its reservation was cancelled. -/
def writeCpl (s : State) (h : Nat) (o : Op) (final : Bool) : CplGo :=
  if o.slotLost then .written s
  else if !o.reserved && !cqFree s o.cq then .wait s
  else if cqHost s o.cq then
    .written (cplWritten (put s (.hostWrite (cplEntry s h o final).1 (cplEntry s h o final).2)) h o)
  else
    match cplStore s h o final with
    | .done _ s => .written (cplWritten s h o)
    | .wait s => .wait s
    | .refuse _ s => .written (cplFail s o.cq)

/-- The time that counts in the bound of a stream's run: from its first admission; of a reduction its fold time (R169,
R225). DESIGN CHOICE: fold time adds up over the runs of a reduction, and the wait for the completion entry counts once
every tile is closed (log entry 81). -/
def runTime (s : State) (o : Op) (start : Nat) : Nat :=
  match o.arrival with
  | none => s.now - start
  | some a =>
    a.foldNs + (match a.foldSince with
      | some t => s.now - t
      | none => if reductionClosed a ∧ a.lastClose ≠ 0 then s.now - a.lastClose else 0)

/-- The cluster scheduler at which a run's tiles have waited longest (R113). -/
def runSched (o : Op) : Nat :=
  24 + (rangeFrom 0 4).foldl (fun b c => if tgetD o.waitAt b 0 < tgetD o.waitAt c 0 then c else b) 0

/-- The bound of a stream's run ends as its completion is written: what it committed is measured against the terms of
its admission (R100, R113, R169). With a completion that is late, its condition; the run's counts begin again. -/
def runBound (s : State) (h : Nat) (o : Op) : Op × (State → State) :=
  let cls := fld (leAt o.desc 4 1) 0 3
  match o.runStart with
  | none => (o, id)
  | some st =>
    let fresh := { o with runStart := none, bytesRun := 0, void := false, waitAt := [] }
    if o.opcode ≠ 0x01 ∨ cls < 3 then (o, fun s => setOp s h fresh)
    else
      let b := boundOf o.terms (match o.arrival with
        | some a => a.expect
        | none => o.bytesRun)
      let st := s.now - runTime s o st
      let late := boundMissed s st b o.void
      let o' := { fresh with cond := if late then addCond o.cond stBoundExceeded else o.cond }
      (o', fun s => boundReport (setOp s h o') cls (runSched o) (qReq o.queue) o.dom h st b o.void)

/-- Write a completion of an operation with its run's bound. -/
def completeRun (s : State) (h : Nat) (o : Op) (final : Bool) : CplGo :=
  let (o', report) := runBound s h o
  match writeCpl s h o' final with
  | .wait s => .wait s
  | .written s => .written (modOp (report s) h fun x => { x with reserved := false })

/-- The control commands that waited for an operation's completion end with a result (R165, R166, R168). -/
def wakeWaiters (s : State) (h result : Nat) : State :=
  match opOf s h with
  | none => s
  | some o => o.waiters.foldl (fun s w => endWith s w stOk [result, 0, 0, 0])
      (modOp s h fun o => { o with waiters := [] })

/-- Keep one record of the engine history (R368). -/
def keepHistory (s : State) (h : Nat) (o : Op) : State :=
  if o.opcode ≠ 0x01 then s
  else
    let l := s.cmd.history ++ [{ handle := h, engines := o.engines, suspect := o.suspectEngines }]
    { s with cmd := { s.cmd with history := if 65536 < l.length then l.drop 1 else l } }

/-- The operation's slot is released; a record that holds no slot is dropped (R160, R475). -/
def releaseOp (s : State) (h : Nat) : State :=
  let n := s.cmd.releases + 1
  let s := { s with cmd := { s.cmd with releases := n, deal := tdel s.cmd.deal h } }
  match opOf s h with
  | none => s
  | some o =>
    if o.slot then setOp s h { o with phase := .ended, released := n, wrote := true, reserved := false,
                                      arrival := o.arrival.map fun a => { a with armed := false } }
    else { s with cmd := { s.cmd with ops := tdel s.cmd.ops h } }

/-- The partner has acknowledged the tick that records the operation's end (R392). -/
def tickAcked (s : State) (o : Op) : Bool := !mirroring s || decide (o.endTick ≤ rd s (ra pgPAIR 0x10C))

/-- OPERATION_COMPLETE (R161): the final completion of an operation whose last work has ended. -/
def execOperationComplete (h : Nat) (s : State) : Result :=
  match opOf s h with
  | none => .next s
  | some o =>
    if o.phase ≠ .ending ∨ ¬ (opTiles s h).isEmpty ∨ ¬ tickAcked s o then .next s
    else if !recordSettled s h then .next (flushRecord s h)
    else
      match completeRun s h o true with
      | .wait s => .next s
      | .written s =>
        let s := if (runBound s h o).1.cond.testBit 10 then count s (qPage o.queue) 9 1 else s
        let s := keepHistory s h o
        .next (releaseOp (wakeWaiters s h 3) h)

/-- NOTIFY_COAL_TIMEOUT (R164). -/
def execNotifyCoalTimeout (cq : Nat) (s : State) : Result :=
  let v := rd s (ra (qPage cq) 0x120)
  guarded (decide (cq < 256) && decide (0 < (tgetD s.cmd.cqs cq {}).accum) && decide (fld v 12 2 ≠ 0) &&
    decide (fld v 22 10 ≠ 0)) s fun s => notify s cq

/-! ## Taking an entry -/

/-- Entry conditions of R151 on a queue and its head entry. -/
def takeable (s : State) (q : Nat) (entry : Bytes) : Bool :=
  let op := leAt entry 0 1
  let ctl := isControlOp op
  sqEn s q && decide (sqHead s q ≠ sqTail s q) && cqFree s (cqNum s q) &&
  (if ctl then !(s.cmd.ops.any fun e => decide (e.2.queue = q) && isControlOp e.2.opcode &&
      decide (e.2.phase ≠ .ended))
   else opSlotFree s) &&
  (!(leAt entry 1 1).testBit 1 || s.cmd.ops.all fun e => decide (e.2.queue ≠ q) || e.2.wrote) &&
  !(s.cmd.ops.any fun e => decide (e.2.queue = q) && decide (e.2.opcode = 0x05) && decide (e.2.phase ≠ .ended))

/-- The head entry of a queue whose ring lies in pool memory, as it stands. -/
def peekEntry (s : State) (q : Nat) : Option Bytes :=
  if sqHost s q then none else some (bytesAt s (sqBase s q + 64 * sqHead s q) 64)

/-- It is the queue's turn: no takeable queue stands between the pointer and it (Table 5-13). A host ring whose
read has not returned cannot be taken. -/
def turnOf (s : State) (q : Nat) : Bool :=
  (rangeFrom 0 ((q + 256 - s.cmd.pointer) % 256)).all fun k =>
    match peekEntry s ((s.cmd.pointer + k) % 256) with
    | some e => !takeable s ((s.cmd.pointer + k) % 256) e
    | none => true

/-- The control processors in service (R371). -/
def cpsInService (s : State) : List Nat := (rangeFrom 0 5).filter fun n => cpRole s n = 0

/-- A failed ring read (R152). -/
def ringFail (s : State) (q : Nat) : State :=
  let s := wb (wb s (ra (qPage q) 0x108) 6 false) (ra (qPage q) 0x134) 15 true
  event { s with cmd := { s.cmd with reading := s.cmd.reading.erase q } }
    { source := qPage q, sev := sevError, cls := clQueue, loc := sqBase s q + 64 * sqHead s q }

/-- Drop the oldest ended record when all operation slots are spoken for (R475). -/
def recycle (s : State) : State :=
  if (s.cmd.ops.filter fun e => e.2.slot).length < 4096 then s
  else
    match (s.cmd.ops.filter fun e => decide (e.2.phase = .ended)).foldl (fun acc e => match acc with
        | none => some (e.1, e.2.released)
        | some b => if e.2.released < b.2 then some (e.1, e.2.released) else some b) none with
    | some b => { s with cmd := { s.cmd with ops := tdel s.cmd.ops b.1 } }
    | none => s

/-- The result words of an entry that is refused as it is taken: of a PUBLISH, the version of the region that its HANDLE
names, whatever the status (R40). -/
def refusedWords (s : State) (o : Op) : List Nat :=
  [if o.opcode = 0x16 then
      (((regionOf s (opnd o 0x10 4)).filter fun r => r.dom = o.dom).map Region.version).getD 0
    else 0, 0, 0, 0]

/-- Take an entry: HEAD, handle, completion slot, and the refusals that end it at once (R151, R154, R159, R412). -/
def takeEntry (s : State) (q : Nat) (entry : Bytes) : State :=
  let op := leAt entry 0 1
  let ctl := isControlOp op
  let s := if ctl then s else recycle s
  let h := if s.cmd.lastHandle = 2 ^ 32 - 1 then 1 else s.cmd.lastHandle + 1
  let (free, s) := drawFree s
  let cps := cpsInService s
  let o : Op := {
    queue := q, dom := qDomain s q, owner := qOwner s q, tag := leAt entry 4 4, opcode := op,
    notify := (leAt entry 1 1).testBit 0, entry, slot := !ctl, reserved := true, cq := cqNum s q,
    cp := nth cps (free.toNat % max 1 cps.length) 0 }
  let s := { s with cmd := { s.cmd with
    ops := tput s.cmd.ops h o, lastHandle := h, pointer := (q + 1) % 256, reading := s.cmd.reading.erase q } }
  let s := wf s (ra (qPage q) 0x110) 0 16 ((sqHead s q + 1) % sqSize s q)
  let s := count s (qPage q) 0 1
  let s := if mirroring s then
      let t := s.pair.nextTag
      let s := { s with pair := { s.pair with
        macks := s.pair.macks ++ [(t, true, .take h)], nextTag := (t + 1) % 65536 } }
      sendRunnel s 0 (runChange t 2 [q, sqHead s q, op, h])
    else s
  if !opcodes.contains op || (privileged op && !qPriv s q) || !rsvdClear entry || !queueBound s q then
    endWith s h stNotPermitted (refusedWords s o)
  else if isAllocOp op then { s with alloc := { s.alloc with queue := s.alloc.queue ++ [h] } }
  else s

/-- TAKE_ENTRY (R151, R152, R516): the entry at HEAD, as pool memory holds it or as the host returned it. -/
def execTakeEntry (q : Nat) (read : RingRead) (s : State) : Result :=
  if 256 ≤ q ∨ ¬ serving s ∨ s.pair.pause ∨ s.pwr.warm = 2 ∨ ¬ sqEn s q ∨ sqHead s q = sqTail s q ∨ (cpsInService s).isEmpty ∨ ¬ turnOf s q then
    .next s
  else
    let a := sqBase s q + 64 * sqHead s q
    match read with
    | .host e =>
      if ¬ sqHost s q ∨ e.length ≠ 64 then .next s
      else guarded (takeable s q e) s fun s => takeEntry (put s (.hostRead a 64)) q e
    | .error => guarded (sqHost s q && cqFree s (cqNum s q)) s fun s => ringFail s q
    | .pool =>
      if sqHost s q ∨ ¬ cqFree s (cqNum s q) then .next s
      else
        let u : User := { who := .fetch (2 ^ 41 + q), req := some (qReq q), dom := qDomain s q, ident := qOwner s q }
        match userRead s u a 64 with
        | .wait s => .next s
        | .refuse _ s => .next (ringFail s q)
        | .done (e, ps) s =>
          let s := forgetSnoops s u.who
          if ps.any (· ≠ 0) then .next (ringFail s q)
          else guarded (takeable s q e) s fun s => takeEntry s q e

/-! ## SUSPEND, RESUME, CANCEL -/

/-- A taken entry has passed the meeting point: its MACK has come (R389). -/
def passed (s : State) (h : Nat) : Bool := !(s.pair.macks.any fun m => m.2.2 = .take h)

/-- An operation whose command is ready to execute, with its opcode. -/
def ready (s : State) (h op : Nat) : Option Op :=
  (opOf s h).bind fun o => if o.phase = .taken ∧ o.opcode = op ∧ passed s h then some o else none

/-- The target of a control command: in flight, of the same domain and finished with nothing. -/
def target (s : State) (o : Op) : Option (Nat × Op) :=
  (opOf s (opnd o 0x10 4)).bind fun t =>
    if t.dom = o.dom ∧ t.phase ≠ .ended ∧ t.phase ≠ .ending then some (opnd o 0x10 4, t) else none

/-- A target's opcode may be suspended, resumed and cancelled (R165). -/
def targetable (op : Nat) : Bool := decide (op = 0x01) || decide (op = 0x17) || decide (op = 0x20)

/-- A control command over its target, with the refusals and the null results of R165. -/
def control (s : State) (h op : Nat) (f : State → Nat → Op → State) : Result :=
  match ready s h op with
  | none => .next s
  | some o =>
    match target s o with
    | none => .next (endWith s h stOk [0, 0, 0, 0])
    | some (t, x) =>
      if !targetable x.opcode then .next (endWith s h stNotPermitted [0, 0, 0, 0]) else .next (f s t x)

/-- The control command waits for its target's completion. -/
def awaitTarget (s : State) (h t : Nat) : State :=
  modOp (modOp s h fun o => { o with phase := .running }) t fun x => { x with waiters := x.waiters ++ [h] }

/-- SUSPEND (R166). -/
def execSuspend (h : Nat) (s : State) : Result :=
  control s h 0x02 fun s t x =>
    match x.phase with
    | .suspended => endWith s h stOk [2, 0, 0, 0]
    | .running => awaitTarget (if x.cancelled then s else beginSuspend s t) h t
    | .suspending => awaitTarget s h t
    | _ => awaitTarget (modOp s t fun x => { x with askSusp := true }) h t

/-- The conditions that a suspended operation keeps: not SUSPENDED itself, nor what the tiles it will run again
raised (R163, R166). -/
def keptCond (o : Op) : Nat :=
  let m := if o.opcode = 0x01 then leAt o.desc 4 1 else 0
  let c := Nat.land o.cond 0x1FFD
  if fld m 3 2 = 2 then Nat.land c 0x0701 else c

/-- REDUCTION_COMPLETE's effect (R224, Table 9-2): STATE = 2, the completion is due, and a SUSPEND that was executing
gives RESULT0 = 0. -/
def closeReduction (s : State) (h : Nat) : State :=
  endOp (modArrival (wakeWaiters s h 0) h fun a => { a with state := 2 }) h 0

/-- The tiles that a suspended operation will run again have not failed: under FAULT_POLICY SUSPEND the failed ones stay
uncommitted (R162, R166). -/
def afterSuspend (o : Op) : Op :=
  let again := decide (o.opcode = 0x01) && decide (fld (leAt o.desc 4 1) 3 2 = 2)
  let o := { o with phase := .suspended, wrote := true, cond := keptCond o, faultSusp := false }
  let o := { o with arrival := o.arrival.map fun a =>
    { a with foldNs := a.foldNs + (o.suspendedAt - (a.foldSince.getD o.suspendedAt)), foldSince := none } }
  if again then { o with failed := 0, firstFail := 0xFFFFFFFF, faults := 0, faultTile := 0xFFFFFFFF } else o

/-- OPERATION_SUSPENDED (R166): the tiles have drained; the frontier is recorded and SUSPENDED written. A stream
all of whose tiles have committed, or a reduction whose counts have closed, ends instead (Tables 7-10, 9-2). -/
def execOperationSuspended (h : Nat) (s : State) : Result :=
  match opOf s h with
  | none => .next s
  | some o =>
    if o.phase ≠ .suspending ∨ ¬ (opTiles s h).isEmpty ∨ s.tier.moves.any (fun m => m.op = h) then .next s
    else if o.opcode = 0x01 ∧ o.arrival.isNone ∧ opN o ≤ o.committed then
      .next (endOp (wakeWaiters s h 0) h 0)
    else if (o.arrival.map reductionClosed).getD false then .next (closeReduction s h)
    else if !recordSettled s h then .next (flushRecord s h)
    else
      match completeRun s h { o with cond := addCond o.cond stSuspended } false with
      | .wait s => .next s
      | .written s => .next (wakeWaiters (modOp s h fun x => afterSuspend { x with suspendedAt := s.now }) h 2)

/-- RESUME (R167). -/
def execResume (h : Nat) (s : State) : Result :=
  control s h 0x03 fun s t x =>
    match x.phase with
    | .suspended =>
      if !cqFree s x.cq then endWith s h stQuota [2, 0, 0, 0]
      else
        let s := modOp s t fun x => { x with
          phase := .running, reserved := true, slotLost := false,
          arrival := x.arrival.map fun a => { a with foldSince := if a.queue.isEmpty then none else some s.now } }
        endWith (settleOp s t) h stOk [1, 0, 0, 0]
    | .suspending => s
    | _ => endWith s h stOk [1, 0, 0, 0]

/-- A cancelled SCRUB still writes the summary of the part that it has read (R363). -/
def cancelScrub (s : State) (t : Nat) : State :=
  modOp s t fun x => { x with cancelled := true, phase := .running, cond := addCond x.cond stPartial }

/-- The conditions of a cancelled MIGRATE: PARTIAL, and QUOTA for the sub-pages that it has left (R145). -/
def cancelConds (x : Op) : Nat :=
  Nat.lor (condOf stPartial) (if x.opcode = 0x17 ∧ x.prog.left ≠ 0 then condOf stQuota else 0)

/-- CANCEL (R168). Where a SUSPEND is executing, or is to act on an operation that has yet to begin, that acts fully
first (Table 7-10). -/
def execCancel (h : Nat) (s : State) : Result :=
  control s h 0x04 fun s t x =>
    if x.phase = .suspending ∨ x.askSusp then s
    else
      let s := awaitTarget s h t
      match x.phase with
      | .running =>
        if x.opcode = 0x01 then beginCancel s t
        else if x.opcode = 0x20 then cancelScrub s t
        else if s.tier.moves.any fun m => m.op = t then
          modOp s t fun x => { x with cancelled := true, cond := addCond x.cond stPartial }
        else endOp (modOp s t fun x => { x with cancelled := true }) t (cancelConds x)
      | .suspended =>
        if x.opcode = 0x20 then cancelScrub s t
        else endOp (modOp s t fun x => { x with cancelled := true }) t (cancelConds x)
      | _ => endOp (modOp s t fun x => { x with cancelled := true }) t (condOf stPartial)

/-! ## FENCE -/

/-- FENCE (R172): it is open until its completion. -/
def execFence (h : Nat) (s : State) : Result :=
  match ready s h 0x05 with
  | none => .next s
  | some _ => .next (modOp s h fun o => { o with phase := .running })

/-- FENCE_COMPLETE (R172). -/
def execFenceComplete (h : Nat) (s : State) : Result :=
  match opOf s h with
  | none => .next s
  | some o =>
    let dom := (opnd o 0x10 1).testBit 0
    let waits := s.cmd.ops.any fun e => earlier e.1 h && !e.2.wrote &&
      (if dom then decide (e.2.dom = o.dom) else decide (e.2.queue = o.queue))
    if o.opcode = 0x05 ∧ o.phase = .running ∧ ¬ waits then .next (endOp s h 0) else .next s

end Sys2Proof.Machine
end

