-- ==== Sys2Proof/Machine/Translate.lean ====
section
/-!
DEFINITION. Virtual addresses of streams (chapter 03): contexts, walks, the translation caches, XLT_INVAL.
-/
namespace Sys2Proof.Machine

/-! ## Contexts and descriptors -/

/-- The 128 bits of a context (Table 3-3). -/
def ctxWord (s : State) (c : Nat) : Nat := tgetD s.xlt.ctxs c 0
def wdLo (s : State) (n : Nat) : Nat := rd s (ra pgXLT (0x100 + 8 * n))
def wdHi (s : State) (n : Nat) : Nat := rd s (ra pgXLT (0x104 + 8 * n))

/-- A context's contents in force, with those of its walk descriptor. -/
def ctxView (s : State) (c : Nat) : CtxView :=
  let w := ctxWord s c
  { word := w, lo := wdLo s (fld w 53 4), hi := wdHi s (fld w 53 4) }

/-- A walk descriptor may be named by a context (R53, R54): its two words. -/
def wdOk (lo hi : Nat) : Bool :=
  bitN lo 31 && decide (fld hi 6 6 + fld hi 12 6 ≤ 64) &&
  decide (fld hi 12 6 ≠ 0) && decide (fld hi 12 6 ≤ 40) && decide (fld lo 29 2 ≠ 3)

/-- AD_MODE. -/
def viewMode (v : CtxView) : Nat := fld v.lo 29 2

/-- The owning domain. -/
def viewDom (v : CtxView) : Nat := fld v.word 64 10

/-- The tables lie in host memory. -/
def viewHost (v : CtxView) : Bool := bitN v.word 52

/-- An operation of a domain can use a context's contents (R56). DESIGN CHOICE: contents whose ROOT[11:0] is not zero,
against Table 3-3, are unusable too; the spec names no outcome for them (log entry 77). -/
def viewOk (v : CtxView) (dom : Nat) : Bool :=
  bitN v.word 57 && wdOk v.lo v.hi && decide ((viewDom v) = dom) && decide (fld v.word 0 12 = 0) &&
  (!(viewHost v) || decide ((viewMode v) = 0))

/-- An operation of a domain can use a context (R56). -/
def ctxOk (s : State) (c dom : Nat) : Bool := viewOk (ctxView s c) dom

/-- Number of levels of the tables. -/
def viewLevels (v : CtxView) : Nat := if bitN v.lo 0 then 5 else 4

/-- R58: the VA is canonical. -/
def canonical (v : CtxView) (va : Nat) : Bool :=
  let top := if (viewLevels v) = 5 then 56 else 47
  let hi := va >>> top
  decide (hi = 0) || decide (hi = 2 ^ (64 - top) - 1)

/-- The address field of an entry, as an address (R54). -/
def entryAddr (v : CtxView) (e : Nat) : Nat := fld e (fld v.hi 6 6) (fld v.hi 12 6) * 4096

def entryPresent (v : CtxView) (e : Nat) : Bool := e.testBit (fld v.lo 3 6)
def entryWritable (v : CtxView) (e : Nat) : Bool := Bool.xor (e.testBit (fld v.lo 9 6)) (bitN v.lo 15)
def entryLeaf (v : CtxView) (e : Nat) : Bool := Bool.xor (e.testBit (fld v.lo 16 6)) (bitN v.lo 22)
def entryA (v : CtxView) (e : Nat) : Bool := e.testBit (fld v.lo 23 6)
def entryD (v : CtxView) (e : Nat) : Bool := e.testBit (fld v.hi 0 6)

/-- The 9-bit index of a VA with `l` levels below the table. -/
def vaIndex (va l : Nat) : Nat := fld va (12 + 9 * l) 9

/-- Level number that a fault reports: 0 for the top level (R72). -/
def faultLevel (v : CtxView) (l : Nat) : Nat := (viewLevels v) - 1 - l

/-! ## Walks -/

def setWalks (s : State) (ws : List Walk) : State := { s with xlt := { s.xlt with walks := ws } }
def setLeaves (s : State) (ls : List Leaf) : State := { s with xlt := { s.xlt with leaves := ls } }

/-- A cached leaf of a cluster that maps a VA. -/
def leafOf (s : State) (cl c va : Nat) : Option Leaf :=
  s.xlt.leaves.find? fun f => decide (f.cluster = cl) && decide (f.ctx = c) && decide (f.vpn ≤ va / 4096) &&
    decide (va / 4096 < f.vpn + f.pages)

/-- Levels below the table that holds a leaf. -/
def leafLevel (f : Leaf) : Nat := if f.pages = 1 then 0 else if f.pages = 512 then 1 else 2

/-- Install a leaf; a cluster keeps 8,192 (R64). DESIGN CHOICE: the set index, which R64 leaves to the implementation,
is one that fills every way before any entry is replaced, and the oldest entry is replaced (log entry 61). -/
def installLeaf (s : State) (f : Leaf) : State :=
  let ls := s.xlt.leaves.filter fun g => !(decide (g.cluster = f.cluster) && decide (g.ctx = f.ctx) &&
    decide (g.vpn = f.vpn))
  let ls := if 8192 ≤ (ls.filter fun g => g.cluster = f.cluster).length then
      (match ls.find? fun g => g.cluster = f.cluster with
       | some g => ls.erase g
       | none => ls) else ls
  setLeaves s (ls ++ [f])

/-- Remember an upper-level entry; a cluster keeps 512. -/
def installUpper (s : State) (u : Upper) : State :=
  let us := s.xlt.upper.filter fun v => !(decide (v.cluster = u.cluster) && decide (v.ctx = u.ctx) &&
    decide (v.level = u.level) && decide (v.tag = u.tag))
  let us := if 512 ≤ (us.filter fun v => v.cluster = u.cluster).length then
      (match us.find? fun v => v.cluster = u.cluster with
       | some v => us.erase v
       | none => us) else us
  { s with xlt := { s.xlt with upper := us ++ [u] } }

/-- Tag of a VA for a table with `l` levels below it. -/
def upperTag (va l : Nat) : Nat := va / 2 ^ (21 + 9 * l)

/-- Level and table that a walk under the contents in force begins with: the lowest cached one that was found under the
same contents, or the root (R57). -/
def walkStart (s : State) (cl c : Nat) (v : CtxView) (va : Nat) : Nat × Nat :=
  let top := (viewLevels v) - 1
  match (rangeFrom 0 top).findSome? fun l =>
      (s.xlt.upper.find? fun u => decide (u.cluster = cl) && decide (u.ctx = c) && decide (u.view = v) &&
        decide (u.level = l) && decide (u.tag = upperTag va l)).map fun u => (l, u.table) with
  | some x => x
  | none => (top, fld v.word 0 52)

/-- A host table read goes out over CXL.io. -/
def walkRead (s : State) (w : Walk) : State :=
  if (viewHost w.view) then count (put s (.hostRead (w.entry / 64 * 64) 64)) pgXLT 2 1 else s

/-- Two walks of a cluster read the same table line of the same context (R64). -/
def sameLine (a b : Walk) : Bool :=
  decide (a.cluster = b.cluster) && decide (a.ctx = b.ctx) && decide (a.view = b.view) &&
  decide (a.entry / 64 = b.entry / 64)

/-- Begin a walk at a level, unless one of the cluster already reads the same table line, or 16 run (R64). What it was
for asks again. -/
def beginWalk (s : State) (w : Walk) : State :=
  if s.xlt.walks.any (sameLine w) ∨ 16 ≤ (s.xlt.walks.filter fun x => x.cluster = w.cluster).length then s
  else
    let w := { w with id := s.xlt.nextWalk }
    let s := { s with xlt := { s.xlt with walks := s.xlt.walks ++ [w], nextWalk := w.id + 1 } }
    walkRead (count s (pgCLU + w.cluster) 9 1) w

/-- Begin a walk for an address under the contents in force. -/
def startWalk (s : State) (cl c va op tile : Nat) (write prefetch : Bool) : State :=
  let v := ctxView s c
  let (l, tbl) := walkStart s cl c v va
  beginWalk s { id := 0, cluster := cl, ctx := c, view := v, va, write, level := l, entry := tbl + 8 * vaIndex va l,
                op, tile, prefetch }

/-- What a translation gives. -/
inductive Xl where
  /-- the PA, and the leaf that gave it: none in context 0xFFF. -/
  | hit (pa : Nat) (leaf : Option Leaf) (s : State)
  /-- subcode of Table 3-7 and level. -/
  | fault (code level : Nat) (s : State)
  | wait (s : State)

/-- How far an update of A or D has come at the home of the leaf's entry. -/
inductive AdGo where
  /-- the bits that the use needs are recorded. -/
  | kept (f : Leaf) (s : State)
  | wait (s : State)
  /-- present or the address has changed, or the entry cannot be read there: the walk restarts. -/
  | changed (s : State)

/-- The walker as a user that updates a leaf's entry, under the domain's binding (R61). -/
def adUser (f : Leaf) : User := { who := .walk (2 ^ 52 + f.entry), req := none, dom := (viewDom f.view) }

/-- Set A, and D on a write, in a leaf's entry at its home slice, each where the use needs it and it is not recorded
(R62). The home takes a cached line from its holders before the read-modify-write, which sees the entry as it then
stands and changes no other bit of it. DEDUCED: an entry in the current view of a versioned region cannot be changed
(R45), and counts as changed (log entry 78). -/
def updateAD (s : State) (f : Leaf) (write : Bool) : AdGo :=
  let setA := decide (1 ≤ (viewMode f.view)) && !f.a
  let setD := decide ((viewMode f.view) = 2) && write && !f.d
  let u := adUser f
  if !setA && !setD then .kept f s
  else
    match userPlace s u f.entry true with
    | none => .changed s
    | some pl =>
      let line := viewLine s pl u.ident none
      if ownPending s u.who then .wait s
      else if writesHome s line then
        if homeRoom s [line] then .wait (ownWrite s u.who (lineMirrored s line) line 7 (zeros 64) 0 0 .atomic).2
        else .wait s
      else
        match writeGate s u [f.entry] with
        | .wait s => .wait s
        | .refuse _ s => .changed s
        | .done _ s =>
          let line := viewLine s pl u.ident none
          let o := f.entry % 64
          let (d, bad, s) := readLine s line 7
          let e := leNat ((d.drop o).take 8)
          if bad ≠ 0 ∨ !entryPresent f.view e ∨ entryAddr f.view e ≠ f.pa then .changed s
          else
            let e := if setA then Nat.lor e (2 ^ fld f.view.lo 23 6) else e
            let e := if setD then Nat.lor e (2 ^ fld f.view.hi 0 6) else e
            let s := storeLine s (lineMirrored s line) line 7 (zeros o ++ natLe 8 e ++ zeros (56 - o)) (255 * 2 ^ o) 0
              .atomic
            .kept { f with a := f.a || setA, d := f.d || setD } s

/-- A cached leaf is used: its permission, then its A and D bits. A restart goes on at the leaf's own level, and a
fifth of one tile ends the walk (R62). -/
def useLeaf (s : State) (f : Leaf) (va op tile : Nat) (write : Bool) : Xl :=
  let level := faultLevel f.view (leafLevel f)
  if write ∧ ¬ f.writable then .fault 2 level s
  else
    match updateAD s f write with
    | .wait s => .wait s
    | .kept g s =>
      let s := setLeaves s (s.xlt.leaves.map fun x => if x = f then g else x)
      .hit (f.pa + (va - f.vpn * 4096)) (some g) (count s (pgCLU + f.cluster) 7 1)
    | .changed s =>
      let s := setLeaves s (s.xlt.leaves.erase f)
      let n := ((tileOf s op tile).map Tile.restarts).getD 0
      if 4 ≤ n then .fault 5 level (count s (pgCLU + f.cluster) 10 1)
      else
        let s := modTile (count s pgXLT 1 1) op tile fun t => { t with restarts := n + 1 }
        .wait (beginWalk s { id := 0, cluster := f.cluster, ctx := f.ctx, view := f.view, va, write,
                             level := leafLevel f, entry := f.entry, op, tile, prefetch := false })

/-- Count a miss, once for each page of a tile; for an operation's own read while it has no walk. -/
def countMiss (s : State) (cl va op tile : Nat) : State :=
  match tileOf s op tile with
  | some t =>
    if t.missed.contains (va / 4096) then s
    else modTile (count s (pgCLU + cl) 8 1) op tile fun t => { t with missed := t.missed ++ [va / 4096] }
  | none => if s.xlt.walks.any fun w => w.op = op && w.tile = tile then s else count s (pgCLU + cl) 8 1

/-- Translate a VA of a context for an operation's tile (R52 to R65). A cached translation is used whatever its context
holds now (R56). In context 0xFFF the address is a PA; DESIGN CHOICE: its bits above 51, of which the spec says nothing,
are dropped (log entry 77). -/
def xlate (s : State) (cl c dom va op tile : Nat) (write : Bool) : Xl :=
  if c = 0xFFF then .hit (va % 2 ^ 52) none s
  else
    match leafOf s cl c va with
    | some f => useLeaf s f va op tile write
    | none =>
      let s := countMiss s cl va op tile
      if !ctxOk s c dom then .fault 6 0 (count s (pgCLU + cl) 10 1)
      else if !canonical (ctxView s c) va then .fault 3 0 s
      else .wait (startWalk s cl c va op tile write false)

/-! ## Faults of tiles and operations -/

/-- Fault words 0 and 1 (R72). -/
def faultWords (va code level : Nat) : Nat × Nat :=
  (va % 2 ^ 32, fld va 32 25 + level * 0x2000000 + code * 0x10000000)

/-- Record a tile's translation fault in its operation: the lowest-numbered tile's words stand (R72). -/
def recordFault (s : State) (h tile va code level : Nat) : State :=
  let (w0, w1) := faultWords va code level
  modOp s h fun o =>
    let o := { o with faults := o.faults + 1, cond := addCond o.cond stTransFault }
    if tile < o.faultTile ∨ o.faultTile = 0xFFFFFFFF then { o with faultTile := tile, fault0 := w0, fault1 := w1 }
    else o

/-- The bound of an SC2 tile that fails is void: counted, and not reported (R102, R114). -/
def tileVoid (s : State) (o : Op) (t : Tile) : State :=
  if fld (leAt o.desc 4 1) 0 3 = 2 ∧ t.admitted then count s pgWEIR 2 1 else s

/-- A tile has failed under STOP or CONTINUE, or under SUSPEND: what the operation does (Table 3-6, R222). A fault that
comes while a SUSPEND drains the tiles is a fault suspension too (Table 3-8). -/
def failPolicy (s : State) (h : Nat) (o : Op) (t : Tile) (st : Nat) : State :=
  match fld (leAt o.desc 4 1) 3 2 with
  | 0 => undeal (modOp s h fun o => { o with stopped := true, redo := [] }) h
  | 2 =>
    let s := modOp s h fun o => { o with
      redo := if o.arrival.isNone then insNat t.num o.redo else o.redo,
      arrival := o.arrival.map fun a =>
        { a with queue := a.landed.filter fun i => decide (i = t.num) || a.queue.contains i } }
    if o.cancelled then s
    else
      let s := if o.phase = .running ∨ o.phase = .suspending then
          modOp s h fun o => { o with faultSusp := o.faultSusp || decide (st = stTransFault) } else s
      if o.phase = .running then beginSuspend s h else s
  | _ =>
    match o.arrival with
    | none => s
    | some _ =>
      let code := if t.eaten = 0 then 8 else t.eaten
      let s := arrivalClose s h t.num false
      flushRecord (modArrival s h fun a => { a with lostAcc := a.lostAcc ++ [(t.num, code)] }) h

/-- A tile fails with a status: it leaves its engine, and the operation's policy follows (Table 3-6, R157). -/
def failTile (s : State) (h num st : Nat) : State :=
  match opOf s h, tileOf s h num with
  | some o, some t =>
    let s := tileVoid (wasteTile s t 17) o t
    let s := dropUnits s h num
    let ts := s.cmd.tiles.filter fun x => !(decide (x.op = h) && decide (x.num = num))
    let s := { s with cmd := { s.cmd with tiles := ts } }
    let s := if st = stPoison then count s pgFLT 0 1 else s
    let s := modOp s h fun o => { o with
      cond := addCond o.cond st, failed := o.failed + 1, firstFail := min o.firstFail num, void := true }
    settleOp (failPolicy s h o t st) h
  | _, _ => s

/-- The tile number that stands for an operation's descriptor or parameter block in a walk. -/
def descTile : Nat := 2 ^ 40

/-- The tile number that stands, in a walk, for an accumulator tile that is to be marked with poison (R222). -/
def markTile : Nat := 2 ^ 41

/-- A walk made for a tile, or for an operation's own reads, has faulted (R71, R155). A tile whose sink writes are issued
ends committed (R23), and one that holds the translation by now needs the walk no longer. -/
def faultTile (s : State) (h tile va code level : Nat) (write : Bool) : State :=
  if tile = descTile then endOp (modOp (recordFault s h 0 va code level) h fun o => { o with faults := 0 }) h 0
  else if tile = markTile then modArrival s h fun a => { a with lostAcc := a.lostAcc.drop 1 }
  else
    match tileOf s h tile with
    | some t =>
      if t.issued || t.leaves.any (fun l => decide (l.vpn = va / 4096) && (!write || l.write)) then s
      else failTile (recordFault s h tile va code level) h tile stTransFault
    | none => s

/-! ## The walk -/

/-- A walk is over. -/
def dropWalk (s : State) (w : Walk) : State := setWalks s (s.xlt.walks.filter fun x => x.id ≠ w.id)

/-- Install the upper-level entries that a walk has found. -/
def keepUppers (s : State) (w : Walk) : State := w.ups.foldl installUpper s

/-- End a walk with a fault; a prefetch reports nothing and installs nothing (R65). BAD_CONTEXT reports level 0 (R72). -/
def walkFault (s : State) (w : Walk) (code : Nat) : State :=
  let s := count (dropWalk s w) (pgCLU + w.cluster) 10 1
  if w.prefetch then s
  else faultTile (keepUppers s w) w.op w.tile w.va code (if code = 6 then 0 else faultLevel w.view w.level) w.write

/-- The leaf that an entry of a walk's table is: its first VA page, pages, entry and the entry's address. -/
def leafAt (w : Walk) (vpn pages e entry : Nat) (host : Bool) : Leaf :=
  { cluster := w.cluster, ctx := w.ctx, view := w.view, vpn, pages, pa := entryAddr w.view e,
    writable := entryWritable w.view e, a := entryA w.view e, d := entryD w.view e, entry, host }

/-- Install every present leaf of a last-level line (R64). -/
def installLine (s : State) (w : Walk) (line : Bytes) (host : Bool) : State :=
  (rangeFrom 0 8).foldl (fun s i =>
    let e := leNat ((line.drop (8 * i)).take 8)
    if entryPresent w.view e then
      installLeaf s (leafAt w (w.va / 32768 * 8 + i) 1 e (w.entry / 64 * 64 + 8 * i) host)
    else s) s

/-- A walk has read its leaf's entry: it ends with the fault of R59, or with the leaves installed. A prefetch that
faults installs nothing (R65). -/
def walkLeaf (s : State) (w : Walk) (code : Nat) (install : State → State) : State :=
  if code = 0 then dropWalk (install (keepUppers s w)) w
  else walkFault (if w.prefetch then s else install s) w code

/-- One entry read by the walker, with its whole line (R59). A walk that comes to a line which another of the cluster
reads is merged into it (R64). -/
def walkEntry (s : State) (w : Walk) (line : Bytes) (host : Bool) : State :=
  let e := leNat ((line.drop (w.entry % 64)).take 8)
  let present := entryPresent w.view e
  let protect := w.write && !entryWritable w.view e
  if w.level = 0 then
    walkLeaf s w (if !present then 1 else if protect then 2 else 0) fun s => installLine s w line host
  else if !present then walkFault s w 1
  else if entryLeaf w.view e then
    let pages := 512 ^ w.level
    if 3 ≤ w.level ∨ ¬ bitN w.view.lo w.level then walkFault s w 7
    else if entryAddr w.view e % (pages * 4096) ≠ 0 then walkFault s w 4
    else walkLeaf s w (if protect then 2 else 0) fun s =>
      installLeaf s (leafAt w (w.va / 4096 / pages * pages) pages e w.entry host)
  else
    let t := entryAddr w.view e
    let u : Upper := { cluster := w.cluster, ctx := w.ctx, view := w.view, level := w.level - 1,
                       tag := upperTag w.va (w.level - 1), table := t }
    let w' := { w with level := w.level - 1, entry := t + 8 * vaIndex w.va (w.level - 1), ups := w.ups ++ [u] }
    let s := dropWalk s w
    if s.xlt.walks.any (sameLine w') then (if w.prefetch then s else keepUppers s w')
    else walkRead (setWalks s (s.xlt.walks ++ [w'])) w'

/-- WALK_ENTRY_READ (R59 to R62): a table read returns, from pool memory as it stands, or from the host. -/
def execWalkEntryRead (walk : Nat) (read : TableRead) (s : State) : Result :=
  match s.xlt.walks.find? fun w => w.id = walk with
  | none => .next s
  | some w =>
    let dom := (viewDom w.view)
    if !viewOk w.view (((opOf s w.op).map Op.dom).getD dom) then .next (walkFault s w 6)
    else
      match read with
      | .host l => guarded ((viewHost w.view) && decide (l.length = 64)) s fun s => walkEntry s w l true
      | .error => guarded (viewHost w.view) s fun s => walkFault s w 5
      | .pool =>
        if (viewHost w.view) then .next s
        else
          let u : User := { who := .walk w.id, req := none, dom, cls := 7 }
          match userRead s u (w.entry / 64 * 64) 64 with
          | .wait s => .next s
          | .refuse _ s => .next (walkFault (forgetSnoops s u.who) w 5)
          | .done (l, ps) s =>
            let s := forgetSnoops s u.who
            if ps.any (· ≠ 0) then .next (walkFault s w 5) else .next (walkEntry s w l false)

/-- CXLIO_READ_TIMEOUT (R61, R152). -/
def execCxlioReadTimeout (what : CxlioRead) (s : State) : Result :=
  match what with
  | .walk id =>
    match s.xlt.walks.find? fun w => w.id = id with
    | none => .next s
    | some w => guarded (viewHost w.view) s fun s => walkFault s w 5
  | .ring q => guarded (decide (q < 256) && sqEn s q && sqHost s q && decide (sqHead s q ≠ sqTail s q) &&
      cqFree s (cqNum s q)) s fun s => ringFail s q

/-! ## Contexts -/

/-- CTX_IDX_WRITE (R497): the identity's staging words are loaded from the live context. -/
def execCtxIdxWrite (id : Nat) (value : W32) (s : State) : Result :=
  guarded (isCp id) s fun s =>
    let c := value.toNat % 4096
    let w := ctxWord s c
    (rangeFrom 0 4).foldl (fun s k => wi s id (ra pgXLT (0x184 + 4 * k)) (fld w (32 * k) 32))
      (wi s id (ra pgXLT 0x180) c)

/-- CTX_DATA3_WRITE (R55, R497): staging word 3 is set and all four are installed. RSVD bits read as zero. -/
def execCtxData3Write (id : Nat) (value : W32) (s : State) : Result :=
  guarded (isCp id) s fun s =>
    let s := wi s id (ra pgXLT 0x190) value.toNat
    let c := ri s id (ra pgXLT 0x180) % 4096
    let w := (ri s id (ra pgXLT 0x184)) + (ri s id (ra pgXLT 0x188)) * 2 ^ 32 + (ri s id (ra pgXLT 0x18C)) * 2 ^ 64
    { s with xlt := { s.xlt with ctxs := tset 0 s.xlt.ctxs c (fld w 0 58 + fld w 64 10 * 2 ^ 64) } }

/-! ## XLT_INVAL -/

/-- A leaf or walk of a context over a run of 4 KiB pages falls under an invalidation: scope, context, first page,
pages (R68). -/
def invalHits (scope c lo n : Nat) (ctx vpn pages : Nat) : Bool :=
  match scope with
  | 0 => decide (ctx = c) && decide (vpn < lo + n) && decide (lo < vpn + pages)
  | 1 => decide (ctx = c)
  | _ => true

/-- The context that a stream operation names (Table 7-4). -/
def opCtx (o : Op) : Nat := leAt o.desc 2 2 % 4096

/-- A tile holds a translation that falls under an invalidation. -/
def tileHolds (s : State) (scope c lo n : Nat) (t : Tile) (l : Held) : Bool :=
  invalHits scope c lo n (((opOf s t.op).map opCtx).getD 0) l.base l.pages

/-- What a walk was for still needs it: its tile, or its operation's own read. -/
def walkNeeded (s : State) (w : Walk) : Bool :=
  !w.prefetch && (if w.tile = descTile ∨ w.tile = markTile then (opOf s w.op).isSome else (tileOf s w.op w.tile).isSome)

/-- Remove every matching translation, also from the tiles that no engine holds, discard every walk in flight and
start again those that something needs, and name the assigned tiles that hold a removed translation (R68, R69). -/
def invalidate (s : State) (scope c lo n : Nat) : State × List (Nat × Nat) :=
  let held := s.cmd.tiles.filter fun t => t.eng.isSome && t.leaves.any (tileHolds s scope c lo n t)
  let again := s.xlt.walks.filter (walkNeeded s)
  let tiles := s.cmd.tiles.map fun t =>
    if t.eng.isSome then t else { t with leaves := t.leaves.filter fun l => !tileHolds s scope c lo n t l }
  let s := { s with
    cmd := { s.cmd with tiles }
    xlt := { s.xlt with
      walks := []
      leaves := s.xlt.leaves.filter fun f => !invalHits scope c lo n f.ctx f.vpn f.pages
      upper := s.xlt.upper.filter fun u => !(decide (scope = 2) || decide (u.ctx = c)) } }
  (again.foldl (fun s w => startWalk s w.cluster w.ctx w.va w.op w.tile w.write false) s,
    held.map fun t => (t.op, t.num))

/-- XLT_INVAL (R66 to R69). -/
def execXltInval (h : Nat) (s : State) : Result :=
  match ready s h 0x22 with
  | none => .next s
  | some o =>
    let tg := opnd o 0x10 4
    let c := tg % 4096
    let scope := fld tg 12 2
    let va := opnd o 0x18 8
    let n := opnd o 0x20 4
    let bad := decide (scope = 3) ||
      (decide (scope < 2) && decide (fld (ctxWord s c) 64 10 ≠ o.dom)) ||
      (decide (scope = 2) && !isCp o.owner) ||
      (decide (scope = 0) && (decide (va % 4096 ≠ 0) || decide (n = 0)))
    if bad then .next (endWith s h stNotPermitted [0, 0, 0, 0])
    else
      let (s, held) := invalidate s scope c (va / 4096) n
      let s := { s with xlt := { s.xlt with invals := tput s.xlt.invals h held } }
      .next (count (modOp s h fun o => { o with phase := .running }) pgXLT 0 1)

/-- XLT_INVAL_COMPLETE (R69): every tile that held a removed translation has ended. -/
def execXltInvalComplete (h : Nat) (s : State) : Result :=
  match tget s.xlt.invals h with
  | none => .next s
  | some held =>
    if held.any fun t => (tileOf s t.1 t.2).isSome then .next s
    else .next (endOp { s with xlt := { s.xlt with invals := tdel s.xlt.invals h } } h 0)

end Sys2Proof.Machine
end

