-- ==== Sys2Proof/Machine/Alloc.lean ====
section
/-!
DEFINITION. The hardware allocator (chapter 02): ALLOC, FREE, RESIZE, SET_ATTR, PIN, UNPIN and PUBLISH.
-/
namespace Sys2Proof.Machine

/-! ## Order of execution (R38, R515) -/

/-- A waiting RESIZE keeps this mark in its operation. -/
def waitingResize (s : State) (h : Nat) : Bool := ((opOf s h).map fun o => decide (o.aux = [1])).getD false

/-- The region index that an allocator command names; none for ALLOC. -/
def namedRegion (s : State) (h : Nat) : Option Nat :=
  (opOf s h).bind fun o => if o.opcode = 0x10 then none else some (opnd o 0x10 4 % 65536)

/-- The commands before one in the allocator's queue. -/
def before (s : State) (h : Nat) : List Nat := s.alloc.queue.takeWhile (· ≠ h)

/-- Every earlier command is a waiting RESIZE or waits behind one for the same region, and this one names another
region. -/
def allocTurn (s : State) (h : Nat) : Bool :=
  let early := before s h
  let held := (early.filter (waitingResize s)).filterMap (namedRegion s)
  let blocked (x : Nat) : Bool := ((namedRegion s x).map fun r => held.contains r).getD false
  s.alloc.queue.contains h && early.all blocked && !blocked h

/-- Remove a command from the allocator's queue. -/
def leaveQueue (s : State) (h : Nat) : State :=
  { s with alloc := { s.alloc with queue := s.alloc.queue.erase h } }

/-- An allocator command ends with a status; the counters of Table 21-2. -/
def allocEnd (s : State) (h st : Nat) (res : List Nat) : State :=
  let s := if st = stQuota then count s pgALLOC 1 1 else if st = stConflict then count s pgALLOC 2 1 else s
  let s := gauge s pgALLOC 3 (unitsFree s)
  endWith (leaveQueue s h) h st res

/-- Run an allocator command in its turn. -/
def allocCmd (s : State) (h op : Nat) (f : State → Op → State) : Result :=
  match ready s h op with
  | none => .next s
  | some o => guarded (allocTurn s h) s fun s => f (count s pgALLOC 0 1) o

/-- An allocator command over the region it names: stale, foreign and FREEING handles are refused (R32, R42). -/
def regionCmd (s : State) (h op : Nat) (f : State → Op → Nat → Region → State) : Result :=
  allocCmd s h op fun s o =>
    let hd := opnd o 0x10 4
    match regionOf s hd with
    | some r =>
      if r.dom ≠ o.dom ∨ r.freeing then allocEnd s h stNotPermitted [0, 0, 0, 0] else f s o (hd % 65536) r
    | none => allocEnd s h stNotPermitted [0, 0, 0, 0]

/-! ## Attributes -/

/-- The combinations of Table 2-3. -/
def attrsRefused (coherent versioned reserve : Bool) (residency grain sc : Nat) : Bool :=
  (coherent && !reserve) || (coherent && versioned) || (decide (sc = 0) && decide (residency = 0)) ||
  (decide (residency ≠ 0) && !reserve) || decide (sc = 7) || decide (residency = 3) || decide (4 < grain)

/-- The directory partition is 0 (Table 4-1). -/
def noDirectory (s : State) : Bool := decide (rf s (ra pgDIR 0x110) 0 2 = 0)

/-- The pending profile, as the loader would read it (R480, Table 19-4). -/
def pendProfile (s : State) : Option Profile :=
  if rb s (ra pgPROF 0x100) 4 then
    (tget s.fw.types (8 + rf s (ra pgPROF 0x100) 2 2)).bind fun t => (if t.state = 3 then t.b else t.a).profile
  else none

/-- Limit on pinned Basin pages (R29, R480). -/
def pinBasinLimit (s : State) : Nat :=
  let l := rf s (ra pgALLOC 0x100) 0 12
  match pendProfile s with
  | some p => min l p.pinLimit
  | none => l

/-- Pages of PINNED_BASIN regions over all domains (R29). -/
def pinnedBasin (s : State) : Nat :=
  (s.alloc.regions.map fun e => if e.2.residency = 2 then e.2.size else 0).sum

/-- The pin quota and limit allow `n` more pages of a residency. -/
def pinOk (s : State) (dom residency n : Nat) : Bool :=
  match residency with
  | 1 => quotaOk s dom 3 n
  | 2 => quotaOk s dom 4 n && decide (pinnedBasin s + n ≤ pinBasinLimit s)
  | _ => true

/-- Charge or release the pin quota of a residency. -/
def pinCharge (s : State) (dom residency n : Nat) : State :=
  match residency with
  | 1 => chargeAdd s dom 3 n
  | 2 => chargeAdd s dom 4 n
  | _ => s
def pinRelease (s : State) (dom residency n : Nat) : State :=
  match residency with
  | 1 => chargeSub s dom 3 n
  | 2 => chargeSub s dom 4 n
  | _ => s

/-! ## Materialising a pinned region -/

/-- The sub-page numbers of a region. -/
def allSubs (r : Region) : List Nat := rangeFrom (r.base * 32) (r.size * 32)

/-- The listed sub-pages of a run of pages. -/
def listedSubs (s : State) (base pages : Nat) : List Nat :=
  tkeys s.tier.subs fun q _ => decide (base * 32 ≤ q) && decide (q < (base + pages) * 32)

/-- Free a CACHE frame for a pinned sub-page by releasing the coldest one (R127). -/
def makeRoom (s : State) (q : Nat) : State :=
  match basinVictim s with
  | some v => releaseStart s v q
  | none => s

/-- One sub-page of a pinned region moves towards its target tier (R132, Table 2-5). -/
def pinSub (idx : Nat) (s : State) (q : Nat) : State :=
  match tget s.alloc.regions idx with
  | none => s
  | some r =>
    let x := subRec s q
    match x.state with
    | 0 =>
      match backPage s idx r (q / 32) with
      | none => s
      | some s =>
        match takeFrame s r.grain q with
        | none => s
        | some (f, s) =>
          let s := setSub (zeroSub s q) q { state := 1, frame := f }
          if r.residency = 2 then basinEnter s q else s
    | 1 =>
      if r.residency = 2 ∧ (moveOf s q).isNone then
        (if s.tier.cacheUsed.length < cacheFrames s then basinEnter s q else makeRoom s q)
      else s
    | 3 => startPromote s r.grain q 0
    | _ => s

/-- Move every sub-page of a pinned region towards its target. -/
def pinStep (s : State) (idx : Nat) : State :=
  match tget s.alloc.regions idx with
  | none => s
  | some r => if r.residency = 0 then s else (allSubs r).foldl (pinSub idx) s

/-- Every sub-page of a pinned region is resident in its tier, with every line valid in Basin (Table 6-4). -/
def pinReady (s : State) (r : Region) : Bool :=
  (allSubs r).all fun q =>
    let x := subRec s q
    (match r.residency with
     | 2 => decide (x.state = 2) && decide (x.valid = BitVec.allOnes 1024)
     | _ => decide (x.state = 1) || decide (x.state = 2)) && (moveOf s q).isNone

/-! ## ALLOC -/

/-- A span is free of every reserved span (R25). -/
def spanOf (r : Region) : Nat := if r.versioned then 2 * r.max else r.max
def spanFree (s : State) (base span : Nat) : Bool :=
  decide (512 ≤ base) && decide (base + span ≤ 0x80000000) &&
  s.alloc.regions.all fun e => decide (base + span ≤ e.2.base) || decide (e.2.base + spanOf e.2 ≤ base)

/-- A base for a span: the allocator's own preference where it is free, else the lowest free one (R24, log entry 5). -/
def findBase (s : State) (span : Nat) : Option Nat :=
  let al := if 512 ≤ span then 512 else 1
  let up (x : Nat) : Nat := (x + al - 1) / al * al
  let pref := up (max 512 (Config.placeBase s.fresh % 0x80000000))
  if spanFree s pref span then some pref
  else findMin (fun b => spanFree s b span) (512 :: s.alloc.regions.map fun e => up (e.2.base + spanOf e.2))

/-- A free region index (R32). -/
def findIndex (s : State) : Nat :=
  let pref := Config.placeIndex s.fresh % 65536
  if (tget s.alloc.regions pref).isNone then pref else firstGap (s.alloc.regions.map Prod.fst) 0

/-- Generation of the next use of an index (R32). -/
def nextGen (s : State) (idx : Nat) : Nat :=
  match tget s.alloc.gens idx with
  | none => 1
  | some g => if g = 65535 then 1 else g + 1

/-- Reserve backing for `n` pages: units and, for DRAM units, frames (R35, R132). -/
def reserveOk (s : State) (dom n : Nat) (dram : Bool) : Bool :=
  quotaOk s dom 2 n && decide (n ≤ unitsFree s) && (!dram || decide (n * 32 ≤ dramAvail s))

/-- The key slot of a domain is not EMPTY (R414). -/
def keyed (s : State) (dom : Nat) : Bool := (tget s.sec.keys dom).isSome

/-- ALLOC with its operands (Tables 2-4, 2-5). -/
def allocRegion (s : State) (h : Nat) (o : Op) : State :=
  let size := opnd o 0x10 4
  let mx := if opnd o 0x14 4 = 0 then size else opnd o 0x14 4
  let fl := opnd o 0x18 4
  let coherent := bitN fl 0
  let versioned := bitN fl 2
  let reserve := bitN fl 3
  let residency := fld fl 4 2
  let grain := fld fl 6 3
  let sc := fld fl 9 3
  let dirOff := noDirectory s || ((pendProfile s).map fun p => decide (p.dirG = 0)).getD false
  let dram := coherent || decide (residency ≠ 0)
  let span := if versioned then 2 * mx else mx
  if size = 0 ∨ 0x8000000 < size ∨ mx < size ∨ 0x8000000 < mx ∨ 0x1000 ≤ fl ∨ ¬ keyed s o.dom ∨
      attrsRefused coherent versioned reserve residency grain sc ∨ (coherent ∧ dirOff) then
    allocEnd s h stNotPermitted [0, 0, 0, 0]
  else if !quotaOk s o.dom 0 1 || !quotaOk s o.dom 1 size || !pinOk s o.dom residency size ||
      (reserve && !reserveOk s o.dom size dram) || decide (65536 ≤ s.alloc.regions.length) then
    allocEnd s h stQuota [0, 0, 0, 0]
  else
    match findBase s span with
    | none => allocEnd s h stQuota [0, 0, 0, 0]
    | some base =>
      let idx := findIndex s
      let r : Region := {
        gen := nextGen s idx, dom := o.dom, base, size, max := mx, coherent, mirrored := bitN fl 1, versioned,
        reserve, residency, grain, defaultSc := sc, unitsLeft := if reserve then size else 0, dramUnits := dram }
      let s := { s with fresh := s.fresh + 1 }
      let s := { setRegion s idx r with alloc := { (setRegion s idx r).alloc with gens := tput s.alloc.gens idx r.gen } }
      let s := chargeAdd (chargeAdd s o.dom 0 1) o.dom 1 size
      let s := pinCharge (if reserve then chargeAdd s o.dom 2 size else s) o.dom residency size
      let res := [handleOf idx r, base * 2097152 % 2 ^ 32, base * 2097152 / 2 ^ 32, 0]
      if residency = 0 then allocEnd s h stOk res
      else
        let s := pinStep s idx
        if pinReady s ((tget s.alloc.regions idx).getD r) then allocEnd s h stOk res
        else modOp (leaveQueue s h) h fun o => { o with phase := .running, res, aux := [2, handleOf idx r] }

/-- ALLOC (R30). -/
def execAlloc (h : Nat) (s : State) : Result := allocCmd s h 0x10 fun s o => allocRegion s h o

/-! ## FREE -/

/-- Abandon the moves of a run of pages that satisfy a test (Tables 2-7, 6-11). -/
def abandonMoves (s : State) (base pages : Nat) (p : Move → Bool) : State :=
  (s.tier.moves.filter fun m => inPages base pages (subBase m.sub) && p m).foldl abandonMove s

/-- FREE and a shrinking RESIZE abandon the demotions and every MIGRATE move of the pages they take, before they
commit (Tables 2-7, 6-11). -/
def abandonFreed (s : State) (base pages : Nat) : State :=
  abandonMoves s base pages fun m => decide (m.kind ≠ .promote) || decide (m.op ≠ 0)

/-- FREE (R42, R43): the region is FREEING. -/
def execFree (h : Nat) (s : State) : Result :=
  regionCmd s h 0x11 fun s o idx r =>
    let s := { s with cmd := { s.cmd with serial := s.cmd.serial + 1 } }
    let s := setRegion s idx { r with freeing := true, freedBy := h, force := bitN (opnd o 0x14 4) 0,
                                      freedAt := s.cmd.serial }
    let s := retryTier (abandonFreed s r.base r.size)
    modOp (leaveQueue s h) h fun o => { o with phase := .running }

/-- Every operation accepted before a handle has written its final completion. -/
def earlierDone (s : State) (h : Nat) : Bool :=
  s.cmd.ops.all fun e => !earlier e.1 h || decide (e.2.phase = .ended)

/-- A tile in an engine touches a run of pages: one that it has reached or holds a translation of. -/
def tileTouches (t : Tile) (base pages : Nat) : Bool :=
  (t.touched.any fun p => decide (base ≤ p) && decide (p < base + pages)) ||
    t.leaves.any fun l => decide (base ≤ pageOf l.pa) && decide (pageOf l.pa < base + pages)

/-- A tile in an engine may yet reach the region: it was assigned before the command, its operation is an earlier one
of the region's domain, and its sink writes are not issued, so that addresses which it has not translated, or which its
data gives, may lie there (R43; log entry 74). -/
def tileMayTouch (s : State) (t : Tile) (h dom since : Nat) : Bool :=
  !t.issued && earlier t.op h && decide (t.serial < since) &&
    ((opOf s t.op).map fun o => decide (o.dom = dom)).getD false

/-- What FREE and a shrinking RESIZE wait for (R42, R43). -/
def freeReady (s : State) (h dom : Nat) (force : Bool) (since base pages : Nat) : Bool :=
  if force then s.cmd.tiles.all fun t =>
    t.eng.isNone || !(tileTouches t base pages || tileMayTouch s t h dom since)
  else earlierDone s h

/-- The bytes [a, a + n) meet a run of pages. -/
def meetsPages (base pages a n : Nat) : Bool :=
  decide (a < (base + pages) * 2097152) && decide (base * 2097152 < a + n)

/-- Invalidate every cached translation whose PA lies in a run of pages: leaves, upper-level entries whose table in
pool memory lies there, and what unassigned tiles hold (R44). -/
def invalidatePas (s : State) (base pages : Nat) : State :=
  let far (l : Held) : Bool := !meetsPages base pages l.pa 4096
  { s with
    xlt := { s.xlt with
      leaves := s.xlt.leaves.filter fun f => !meetsPages base pages f.pa (f.pages * 4096)
      upper := s.xlt.upper.filter fun u => bitN u.view.word 52 || !meetsPages base pages u.table 4096 }
    cmd := { s.cmd with tiles := s.cmd.tiles.map fun t =>
      if t.eng.isNone then { t with leaves := t.leaves.filter far } else t } }

/-- Return every frame, unit and byte of a run of pages to the Cullet; the result counts the units (R44). -/
def releasePages (s : State) (base pages : Nat) : State × Nat :=
  let s := (listedSubs s base pages).foldl dropSub s
  let pgs := tkeys s.tier.pages fun p _ => decide (base ≤ p) && decide (p < base + pages)
  let n := (pgs.filter fun p => (pageRec s p).backed).length
  (pgs.foldl (fun s p => setPage s p {}) s, n)

/-- A staging or replaced version gives up sub-pages and units (R44, R48, R50). -/
def dropVersion (s : State) (key : Nat) (subs pages : List Nat) (dom : Nat) : State :=
  chargeSub (subs.foldl (fun s q => dropSub s (subIn key q)) s) dom 2 pages.length

/-- Drop a staging version: its frames and units return (R48). -/
def dropStaging (s : State) (v : Staging) (dom : Nat) : State :=
  let s := dropVersion s v.key v.subs v.pages dom
  { s with alloc := { s.alloc with staging := s.alloc.staging.filter fun w => w.key ≠ v.key } }

/-- Drop a replaced version (R50). -/
def dropOld (s : State) (v : OldVersion) (dom : Nat) : State :=
  let s := dropVersion s v.key v.subs v.pages dom
  { s with alloc := { s.alloc with old := s.alloc.old.filter fun w => w.key ≠ v.key } }

/-- The staging and replaced versions of a region give up a run of its pages (R44). -/
def trimVersions (s : State) (idx dom base pages : Nat) : State :=
  let sub (q : Nat) : Bool := inPages base pages q
  let pg (p : Nat) : Bool := decide (base ≤ p) && decide (p < base + pages)
  let s := (s.alloc.staging.filter fun v => v.region = idx).foldl (fun s v =>
    dropVersion s v.key (v.subs.filter sub) (v.pages.filter pg) dom) s
  let s := (s.alloc.old.filter fun v => v.region = idx).foldl (fun s v =>
    dropVersion s v.key (v.subs.filter sub) (v.pages.filter pg) dom) s
  { s with alloc := { s.alloc with
    staging := s.alloc.staging.map fun v => if v.region = idx then
      { v with subs := v.subs.filter fun q => !sub q, pages := v.pages.filter fun p => !pg p } else v
    old := s.alloc.old.map fun v => if v.region = idx then
      { v with subs := v.subs.filter fun q => !sub q, pages := v.pages.filter fun p => !pg p } else v } }

/-- Remove a region with all that it holds (R44). -/
def removeRegion (s : State) (idx : Nat) (r : Region) : State :=
  let s := (s.alloc.staging.filter fun v => v.region = idx).foldl (fun s v => dropStaging s v r.dom) s
  let s := (s.alloc.old.filter fun v => v.region = idx).foldl (fun s v => dropOld s v r.dom) s
  let s := invalidatePas s r.base (spanOf r)
  let (s, n) := releasePages s r.base r.max
  let left := ((tget s.alloc.regions idx).map fun x => x.unitsLeft).getD 0
  let s := { s with alloc := { s.alloc with regions := tdel s.alloc.regions idx } }
  let s := chargeSub (chargeSub (chargeSub s r.dom 0 1) r.dom 1 r.size) r.dom 2 (n + left)
  pinRelease s r.dom r.residency r.size

/-- A line lies in a run of pages. -/
def lineIn (base pages line : Nat) : Bool := decide (base * 32768 ≤ line) && decide (line < (base + pages) * 32768)

/-- FREE_COMPLETE (R44): lines recalled and discarded, translations invalidated, units returned. -/
def execFreeComplete (h : Nat) (s : State) : Result :=
  match opOf s h with
  | none => .next s
  | some o =>
    let hd := opnd o 0x10 4
    match regionOf s hd with
    | none => .next s
    | some r =>
      if o.opcode ≠ 0x11 ∨ o.phase ≠ .running ∨ ¬ freeReady s h r.dom r.force r.freedAt r.base (spanOf r) then .next s
      else
        let s := recallLines s (lineIn r.base r.max) true
        if !noneCached s (lineIn r.base r.max) then .next s
        else
          let s := retryPromotes (removeRegion s (hd % 65536) r)
          .next (endOp (gauge s pgALLOC 3 (unitsFree s)) h 0)

/-! ## RESIZE -/

/-- A growing RESIZE executes with its quota checks (Table 2-5, R35, R515). Table 2-5 does not say when a growth that is
accepted completes: it completes at once, and the pages added to a pinned region move to its tier afterwards (DESIGN CHOICE,
log entry 63). -/
def growRegion (s : State) (h idx : Nat) (r : Region) (new : Nat) : State :=
  let d := new - r.size
  if !quotaOk s r.dom 1 d || !pinOk s r.dom r.residency d || (r.reserve && !reserveOk s r.dom d r.dramUnits) then
    allocEnd s h stQuota [0, 0, 0, 0]
  else
    let s := setRegion s idx { r with size := new, unitsLeft := if r.reserve then r.unitsLeft + d else r.unitsLeft }
    let s := chargeAdd s r.dom 1 d
    let s := pinCharge (if r.reserve then chargeAdd s r.dom 2 d else s) r.dom r.residency d
    allocEnd (pinStep s idx) h stOk [0, 0, 0, 0]

/-- Begin a shrinking RESIZE: the tail is FREEING (Table 2-5). -/
def shrinkRegion (s : State) (h idx : Nat) (r : Region) (new : Nat) (force : Bool) : State :=
  let s := { s with cmd := { s.cmd with serial := s.cmd.serial + 1 } }
  let s := setRegion s idx { r with shrinking := h, shrinkTo := new, shrinkForce := force, shrinkAt := s.cmd.serial }
  let s := retryTier (abandonFreed s (r.base + new) (r.size - new))
  modOp (leaveQueue s h) h fun o => { o with phase := .running, aux := [] }

/-- RESIZE with its operands, once no shrink of the region runs. -/
def resizeRegion (s : State) (h : Nat) (o : Op) (idx : Nat) (r : Region) : State :=
  let new := opnd o 0x14 4
  if new = 0 ∨ r.max < new then allocEnd s h stNotPermitted [0, 0, 0, 0]
  else if r.size < new then growRegion s h idx r new
  else if new < r.size then shrinkRegion s h idx r new (bitN (opnd o 0x18 4) 0)
  else allocEnd s h stOk [0, 0, 0, 0]

/-- RESIZE (R41, R515). -/
def execResize (h : Nat) (s : State) : Result :=
  regionCmd s h 0x12 fun s o idx r =>
    if r.shrinking ≠ 0 ∧ 0 < opnd o 0x14 4 ∧ opnd o 0x14 4 ≤ r.max then
      modOp s h fun o => { o with phase := .running, aux := [1] }
    else resizeRegion s h o idx r

/-- RESIZE_GROW_RESUME (R515). -/
def execResizeGrowResume (h : Nat) (s : State) : Result :=
  match opOf s h with
  | none => .next s
  | some o =>
    if o.aux ≠ [1] ∨ o.phase ≠ .running ∨
        (before s h).any (fun x => waitingResize s x && decide (namedRegion s x = namedRegion s h)) then .next s
    else
      match regionOf s (opnd o 0x10 4) with
      | some r =>
        if r.freeing then .next (allocEnd s h stNotPermitted [0, 0, 0, 0])
        else guarded (decide (r.shrinking = 0)) s fun s =>
          resizeRegion (modOp s h fun o => { o with aux := [] }) h o (opnd o 0x10 4 % 65536) r
      | none => .next (allocEnd s h stNotPermitted [0, 0, 0, 0])

/-- A shrink that has nothing left to wait for takes its pages out of the region (R44). -/
def shrinkNow (s : State) (idx : Nat) (r : Region) : State :=
  let base := r.base + r.shrinkTo
  let n := r.size - r.shrinkTo
  let s := invalidatePas (invalidatePas s base n) (base + (if r.versioned then r.max else 0)) n
  let s := trimVersions s idx r.dom base n
  let (s, units) := releasePages s base n
  let left := if r.reserve then n - units else 0
  let cur := (tget s.alloc.regions idx).getD r
  let s := setRegion s idx { cur with size := r.shrinkTo, shrinking := 0, shrinkForce := false,
                                      unitsLeft := cur.unitsLeft - left }
  pinRelease (chargeSub (chargeSub s r.dom 1 n) r.dom 2 (units + left)) r.dom r.residency n

/-- RESIZE_SHRINK_COMPLETE (R44). A FREE that has removed the region meanwhile has done what the shrink was to do. -/
def execResizeShrinkComplete (h : Nat) (s : State) : Result :=
  match opOf s h with
  | none => .next s
  | some o =>
    let hd := opnd o 0x10 4
    if o.opcode ≠ 0x12 ∨ o.phase ≠ .running ∨ o.aux = [1] then .next s
    else
      match regionOf s hd with
      | none => .next (endOp s h 0)
      | some r =>
        let base := r.base + r.shrinkTo
        let n := r.size - r.shrinkTo
        if r.shrinking ≠ h ∨ ¬ freeReady s h r.dom r.shrinkForce r.shrinkAt base n then .next s
        else
          let s := recallLines s (lineIn base n) true
          if !noneCached s (lineIn base n) then .next s
          else
            let s := retryPromotes (shrinkNow s (hd % 65536) r)
            .next (endOp (gauge s pgALLOC 3 (unitsFree s)) h 0)

/-! ## SET_ATTR -/

/-- Copy a sub-page over DELTA, in the delta of the tick that runs. -/
def deltaSub (s : State) (q : Nat) : State :=
  (rangeFrom 0 16).foldl (fun s b =>
    sendRunnel s 0 (runDelta (s.pair.tick + 1) (b * 4096) (sealedLines s (q * 1024 + b * 64) 64))) s

/-- Send every sub-page of a region that is not in CISTERN to the partner (R404). -/
def copyMirror (s : State) (r : Region) : State :=
  ((listedSubs s r.base r.size).filter fun q => (subRec s q).state ≠ 3).foldl deltaSub s

/-- Promote every sub-page of a region that lies in CISTERN. -/
def promoteAll (s : State) (r : Region) : State :=
  (listedSubs s r.base r.size).foldl (fun s q => startPromote s r.grain q 0) s

/-- What a SET_ATTR does to COHERENT: 0 nothing, 1 it sets it, 2 it clears it (Table 2-4). -/
def coherentWay (m f : Nat) (r : Region) : Nat :=
  if !bitN m 0 then 0 else if bitN f 0 then (if r.coherent then 0 else 1) else 2

/-- SET_ATTR with its operands (Tables 2-4, 2-5). -/
def setAttr (s : State) (h : Nat) (o : Op) (idx : Nat) (r : Region) : State :=
  let m := opnd o 0x14 4
  let f := opnd o 0x18 4
  let pick (i : Nat) (old : Bool) : Bool := if bitN m i then bitN f i else old
  let coherent := pick 0 r.coherent
  let mirrored := pick 1 r.mirrored
  let reserve := pick 3 r.reserve
  let sc := (if bitN m 9 then fld f 9 1 else fld r.defaultSc 0 1) +
    2 * (if bitN m 10 then fld f 10 1 else fld r.defaultSc 1 1) +
    4 * (if bitN m 11 then fld f 11 1 else fld r.defaultSc 2 1)
  let needs := if reserve ∧ ¬ r.reserve then
      r.size - (tkeys s.tier.pages fun p x => x.backed && decide (r.base ≤ p) && decide (p < r.base + r.size)).length
    else 0
  let way := coherentWay m f r
  if Nat.land m 0xE0B ≠ m ∨ (r.reserve ∧ ¬ reserve) ∨
      attrsRefused coherent r.versioned reserve r.residency r.grain sc ∨ (way = 1 ∧ noDirectory s) then
    allocEnd s h stNotPermitted [0, 0, 0, 0]
  else if !(quotaOk s r.dom 2 needs && (decide (needs = 0) || decide (needs ≤ unitsFree s))) ||
      (decide (way = 1) && !r.dramUnits && decide (dramAvail s + regionFrames s r < r.size * 32)) then
    allocEnd s h stQuota [0, 0, 0, 0]
  else
    let s := chargeAdd s r.dom 2 needs
    let s := setRegion s idx { r with coherent := r.coherent && decide (way ≠ 2), mirrored, reserve, defaultSc := sc,
                                      unitsLeft := r.unitsLeft + needs, dramUnits := r.dramUnits || decide (way = 1),
                                      changing := if way = 0 then r.changing else h }
    let s := if way = 1 then promoteAll (abandonMoves s r.base r.size fun m => decide (m.kind ≠ .promote)) r else s
    let copy := mirrored && !r.mirrored && mirroring s
    let s := if copy then copyMirror s { r with mirrored } else s
    modOp (leaveQueue s h) h fun o => { o with
      phase := .running, aux := [3, way, if copy then s.pair.tick + 1 else 0] }

/-- A SET_ATTR that has executed completes once what it waits for has ended: promotions into DRAM, recalls, the partner's
copy (Table 2-5). COHERENT takes the value of the last SET_ATTR that changes it. -/
def setAttrFinish (s : State) (h : Nat) : State :=
  match opOf s h with
  | none => s
  | some o =>
    match regionOf s (opnd o 0x10 4) with
    | none => endOp s h 0
    | some r =>
      let way := nth o.aux 1 0
      let mine := decide (r.changing = h)
      let s := if way = 1 ∧ r.dramUnits then promoteAll s r
        else if way = 2 ∧ mine then recallLines s (lineIn r.base r.size) false
        else s
      let up := decide (way = 1) && r.dramUnits && (listedSubs s r.base r.size).any fun q => (subRec s q).state = 3
      let down := decide (way = 2) && mine && !noneCached s (lineIn r.base r.size)
      if up || down || (mirroring s && decide (rd s (ra pgPAIR 0x10C) < nth o.aux 2 0)) then s
      else
        let s := if way = 0 ∨ ¬ mine then s
          else setRegion s (opnd o 0x10 4 % 65536) { r with
            coherent := decide (way = 1), changing := 0, dramUnits := decide (way = 1) || decide (r.residency ≠ 0) }
        endOp (gauge s pgALLOC 3 (unitsFree s)) h 0

/-- SET_ATTR (R41): with nothing to wait for it ends at once. -/
def execSetAttr (h : Nat) (s : State) : Result :=
  regionCmd s h 0x13 fun s o idx r =>
    let s := setAttr s h o idx r
    if ((opOf s h).map fun o => decide (o.phase = .running)).getD false then setAttrFinish s h else s

/-- SET_ATTR_COMPLETE (R41). -/
def execSetAttrComplete (h : Nat) (s : State) : Result :=
  guarded (((opOf s h).map fun o => decide (o.opcode = 0x13) && decide (o.phase = .running)).getD false) s
    fun s => setAttrFinish s h

/-! ## PIN and UNPIN -/

/-- PIN with its operands (Tables 2-4, 2-5, R132). -/
def pinRegion (s : State) (h : Nat) (o : Op) (idx : Nat) (r : Region) : State :=
  let tg := opnd o 0x14 4
  if (tg ≠ 1 ∧ tg ≠ 2) ∨ attrsRefused r.coherent r.versioned r.reserve tg r.grain r.defaultSc then
    allocEnd s h stNotPermitted [0, 0, 0, 0]
  else if (tg ≠ r.residency ∧ ¬ pinOk s r.dom tg r.size) ∨
      (¬ r.dramUnits ∧ dramAvail s + regionFrames s r < r.size * 32) then
    allocEnd s h stQuota [0, 0, 0, 0]
  else
    let s := abandonMoves s r.base r.size fun m => decide (m.kind ≠ .promote)
    let s := setRegion s idx { r with residency := tg, dramUnits := true }
    let s := if tg = r.residency then s else pinCharge (pinRelease s r.dom r.residency r.size) r.dom tg r.size
    pinStep (modOp (leaveQueue s h) h fun o => { o with phase := .running, aux := [2, handleOf idx r] }) idx

/-- A pin that runs completes once every sub-page is resident in the target tier. -/
def pinFinish (s : State) (h : Nat) : State :=
  match opOf s h with
  | none => s
  | some o =>
    let hd := nth o.aux 1 0
    if (regionOf s hd).isNone then endOp s h 0
    else
      let s := pinStep s (hd % 65536)
      if ((regionOf s hd).map (pinReady s)).getD false then endOp (gauge s pgALLOC 3 (unitsFree s)) h 0 else s

/-- PIN (R132). -/
def execPin (h : Nat) (s : State) : Result :=
  regionCmd s h 0x14 fun s o idx r => pinRegion s h o idx r

/-- PIN_COMPLETE (R41), of a PIN or of an ALLOC with a pinned residency. -/
def execPinComplete (h : Nat) (s : State) : Result :=
  guarded (((opOf s h).map fun o => decide (o.phase = .running) && decide (o.aux.head? = some 2)).getD false) s
    fun s => pinFinish s h

/-- UNPIN (R132): data stays where it is. -/
def execUnpin (h : Nat) (s : State) : Result :=
  regionCmd s h 0x15 fun s _ idx r =>
    if r.residency = 0 then allocEnd s h stOk [0, 0, 0, 0]
    else if attrsRefused r.coherent r.versioned r.reserve 0 r.grain r.defaultSc then
      allocEnd s h stNotPermitted [0, 0, 0, 0]
    else
      let s := setRegion s idx { r with residency := 0, dramUnits := r.coherent || decide (r.changing ≠ 0) }
      allocEnd (pinRelease s r.dom r.residency r.size) h stOk [0, 0, 0, 0]

/-! ## PUBLISH -/

/-- Install a staging version as the current one: the sub-pages that it replaces are kept for the tiles assigned before
(R48, R50). Its pages keep their staged units; those of the pages that they replace, reserved ones too, return with
the replaced version. -/
def publish (s : State) (idx : Nat) (r : Region) (v : Staging) : State :=
  let n := s.cmd.serial + 1
  let ok := s.alloc.nextKey
  let replaced := v.pages.filter fun p => (pageRec s p).backed || r.reserve
  let taken := (v.pages.filter fun p => !(pageRec s p).backed && r.reserve).length
  let s := v.subs.foldl (fun s q => moveSub (subIn v.key q) q (moveSub q (subIn ok q) s))
    { s with cmd := { s.cmd with serial := n } }
  let s := v.pages.foldl (fun s p => setPage s p { pageRec s p with backed := true }) s
  let s := setRegion s idx { r with unitsLeft := r.unitsLeft - taken }
  let o : OldVersion := { region := idx, version := r.version, key := ok, serial := n, subs := v.subs, pages := replaced }
  let rest := s.alloc.staging.filter fun w => w.key ≠ v.key
  { s with alloc := { s.alloc with nextKey := ok + 1, old := s.alloc.old ++ [o], staging := rest } }

/-- The next version number (R47). -/
def nextVersion (v : Nat) : Nat := if v = 2 ^ 32 - 1 then 1 else v + 1

/-- PUBLISH (R40, R48). -/
def execPublish (h : Nat) (s : State) : Result :=
  allocCmd s h 0x16 fun s o =>
    let hd := opnd o 0x10 4
    let idx := hd % 65536
    match regionOf s hd with
    | none => allocEnd s h stNotPermitted [0, 0, 0, 0]
    | some r =>
      if r.dom ≠ o.dom then allocEnd s h stNotPermitted [0, 0, 0, 0]
      else if r.freeing ∨ ¬ r.versioned then allocEnd s h stNotPermitted [r.version, 0, 0, 0]
      else
        let st := stagingOf s idx o.owner
        let drop (s : State) : State := match st with
          | some v => dropStaging s v r.dom
          | none => s
        if bitN (opnd o 0x14 4) 0 then retryPromotes (allocEnd (drop s) h stOk [r.version, 0, 0, 0])
        else if opnd o 0x18 4 ≠ r.version then retryPromotes (allocEnd (drop s) h stConflict [r.version, 0, 0, 0])
        else
          let s := match st with
            | some v => publish s idx r v
            | none => s
          let cur := (tget s.alloc.regions idx).getD r
          retryPromotes (allocEnd (setRegion s idx { cur with version := nextVersion r.version }) h stOk
            [nextVersion r.version, 0, 0, 0])

/-- VERSION_UNITS_RELEASE (R50): no tile assigned before the PUBLISH remains. -/
def execVersionUnitsRelease (region version : Nat) (s : State) : Result :=
  match s.alloc.old.find? fun v => v.region = region && v.version = version with
  | none => .next s
  | some v =>
    let used := s.cmd.tiles.any fun t => t.eng.isSome && decide (t.serial < v.serial)
    guarded (!used) s fun s =>
      let s := retryPromotes (dropOld s v (((tget s.alloc.regions region).map fun r => r.dom).getD 0))
      gauge s pgALLOC 3 (unitsFree s)

end Sys2Proof.Machine
end

