-- ==== Sys2Proof/Machine/Fec.lean ====
section
/-!
DEFINITION. The flit's CRC-64 and its two RS(144,136) codewords over GF(2^8) (R247), and the CRC-8 of a heartbeat
(Table 17-7).
-/
namespace Sys2Proof.Machine

/-! ## CRC -/

/-- Shift one message bit at a time through a CRC register of width `w`: `n` shifts. -/
def crcShift (w poly : Nat) : Nat → Nat → Nat
  | 0, r => r
  | n + 1, r => crcShift w poly n (if r.testBit (w - 1) then Nat.xor ((r * 2) % 2 ^ w) poly else r * 2)

/-- Feed bytes, each most significant bit first. -/
def crcBytes (w poly : Nat) (r : Nat) (bs : Bytes) : Nat :=
  bs.foldl (fun r b => crcShift w poly 8 (Nat.xor r (b.toNat * 2 ^ (w - 8)))) r

/-- CRC-64 of R247: polynomial of ECMA-182, initial value and final XOR all ones. -/
def crc64 (bs : Bytes) : Nat :=
  Nat.xor (crcBytes 64 0x42F0E1EBA9EA3693 (2 ^ 64 - 1) bs) (2 ^ 64 - 1)

/-- CRC-32C of R135: the reflected polynomial 0x82F63B78, initial value and final XOR all ones. -/
def crc32cShift : Nat → Nat → Nat
  | 0, r => r
  | n + 1, r => crc32cShift n (if r % 2 = 1 then Nat.xor (r / 2) 0x82F63B78 else r / 2)
def crc32c (bs : Bytes) : Nat :=
  Nat.xor (bs.foldl (fun r b => crc32cShift 8 (Nat.xor r b.toNat)) (2 ^ 32 - 1)) (2 ^ 32 - 1)

/-- CRC-8 of Table 17-7: polynomial 0x07, over bits [55:0] as the bytes of the frame. -/
def crc8 (bs : Bytes) : Nat := crcBytes 8 0x07 0 bs

/-! ## GF(2^8) with x^8 + x^4 + x^3 + x^2 + 1 -/

/-- Product: `n` bits of `b`, from the highest. -/
def gfMulN : Nat → Nat → Nat → Nat → Nat
  | 0, _, _, acc => acc
  | n + 1, a, b, acc =>
    let acc := if acc.testBit 7 then Nat.xor ((acc * 2) % 256) 0x1D else acc * 2
    gfMulN n a b (if b.testBit n then Nat.xor acc a else acc)

def gfMul (a b : Nat) : Nat := gfMulN 8 a b 0

/-- α^n, with α = 2. -/
def gfExp : Nat → Nat
  | 0 => 1
  | n + 1 => gfMul 2 (gfExp n)

/-- a^n. -/
def gfPow (a : Nat) : Nat → Nat
  | 0 => 1
  | n + 1 => gfMul a (gfPow a n)

/-- The inverse of a non-zero element: a^254. -/
def gfInv (a : Nat) : Nat := gfPow a 254

/-- Value of a polynomial, highest coefficient first. -/
def gfEval (cs : List Nat) (x : Nat) : Nat := cs.foldl (fun acc c => Nat.xor (gfMul acc x) c) 0

/-! ## RS(144,136) -/

/-- The generator polynomial with roots α^0 to α^7, highest coefficient first, without its leading 1. -/
def rsGen : List Nat :=
  ((rangeFrom 0 8).foldl (fun g i =>
    let a := gfExp i
    List.zipWith Nat.xor (g ++ [0]) (0 :: g.map (gfMul a))) [1]).tail

/-- The 8 parity symbols of the data symbols: the remainder of data × x^8 by the generator. -/
def rsParity (data : List Nat) : List Nat :=
  data.foldl (fun st d =>
    let f := Nat.xor d (st.headD 0)
    List.zipWith (fun a g => Nat.xor a (gfMul f g)) (st.tail ++ [0]) rsGen) (List.replicate 8 0)

/-- The syndromes of a codeword of 144 symbols, highest coefficient first. -/
def rsSyndromes (cw : List Nat) : List Nat := (rangeFrom 0 8).map fun i => gfEval cw (gfExp i)

/-- One step of elimination: the first row with a non-zero head becomes the pivot. Rows are coefficients with the
right side last. The result is the reduced rows, without the head column, and the scaled pivot. -/
def gfPivot (rows : List (List Nat)) : Option (List Nat × List (List Nat)) :=
  match rows.find? fun r => r.headD 0 ≠ 0 with
  | none => none
  | some p =>
    let inv := gfInv (p.headD 0)
    let p' := p.map (gfMul inv)
    let rest := (rows.erase p).map fun r =>
      (List.zipWith (fun a b => Nat.xor a (gfMul (r.headD 0) b)) r p').tail
    some (p'.tail, rest)

/-- Solve a square linear system over GF(2^8); none where it is singular. `n` is its size. -/
def gfSolve : Nat → List (List Nat) → Option (List Nat)
  | 0, _ => some []
  | n + 1, rows =>
    match gfPivot rows with
    | none => none
    | some (p, rest) =>
      match gfSolve n rest with
      | none => none
      | some xs =>
        let x := (List.zipWith gfMul p xs).foldl Nat.xor (p.getLastD 0)
        some (x :: xs)

/-- Positions (exponents of x) of `v` errors: the roots of the locator that the syndromes give. -/
def rsLocate (syn : List Nat) (v : Nat) : Option (List Nat) :=
  let rows := (rangeFrom 0 v).map fun i => ((syn.drop i).take v) ++ [nth syn (i + v) 0]
  match gfSolve v rows with
  | none => none
  | some lam =>
    -- locator 1 + lam[v-1] x + … + lam[0] x^v, evaluated at α^(-j)
    let poly := lam ++ [1]
    let js := (rangeFrom 0 144).filter fun j => gfEval poly (gfExp ((255 - j) % 255)) = 0
    if js.length = v then some js else none

/-- Correct a codeword with `v` errors. -/
def rsFix (cw syn : List Nat) (v : Nat) : Option (List Nat) :=
  match rsLocate syn v with
  | none => none
  | some js =>
    let rows := (rangeFrom 0 v).map fun i => js.map (fun j => gfExp (i * j % 255)) ++ [nth syn i 0]
    match gfSolve v rows with
    | none => none
    | some es =>
      let fixed := (List.zip js es).foldl (fun cw e =>
        setNth cw (143 - e.1) (Nat.xor (nth cw (143 - e.1) 0) e.2)) cw
      if (rsSyndromes fixed).all (· = 0) then some fixed else none

/-- Decode one codeword: up to 4 symbol errors are corrected (R247). -/
def rsDecode (cw : List Nat) : Option (List Nat) :=
  let syn := rsSyndromes cw
  if syn.all (· = 0) then some cw
  else
    match rsFix cw syn 1 with
    | some r => some r
    | none =>
      match rsFix cw syn 2 with
      | some r => some r
      | none =>
        match rsFix cw syn 3 with
        | some r => some r
        | none => rsFix cw syn 4

/-! ## Flits -/

/-- Elements at even places, and at odd places. -/
def unzip2 {α : Type} : List α → List α × List α
  | [] => ([], [])
  | [a] => ([a], [])
  | a :: b :: t => let r := unzip2 t; (a :: r.1, b :: r.2)

/-- Interleave two lists. -/
def zip2 {α : Type} : List α → List α → List α
  | a :: as, b :: bs => a :: b :: zip2 as bs
  | as, [] => as
  | [], bs => bs

/-- The 288 bytes of a flit: header, 16 slots, CRC and parity (Table 11-2). -/
def flitBytes (header : Nat) (body : Bytes) : Bytes :=
  let h := natLe 8 header ++ fitBytes 256 body
  let d := h ++ natLe 8 (crc64 h)
  let (e, o) := unzip2 (d.map BitVec.toNat)
  d ++ (zip2 (rsParity e) (rsParity o)).map (BitVec.ofNat 8)

/-- Decode a flit: its header and body where the FEC leaves a good CRC, and the places of the bytes corrected, those of
a codeword that decodes beside one that does not among them (R247, R264). -/
def flitDecode (bs : Bytes) : Option (Nat × Bytes) × List Nat :=
  let (e, o) := unzip2 (bs.map BitVec.toNat)
  let e' := rsDecode e
  let o' := rsDecode o
  let fixed := (zip2 (e'.getD e) (o'.getD o)).map (BitVec.ofNat 8)
  let places := (rangeFrom 0 288).filter fun i => nth fixed i 0 ≠ nth bs i 0
  if e'.isSome ∧ o'.isSome ∧ leAt fixed 264 8 = crc64 (fixed.take 264) then
    (some (leAt fixed 0 8, (fixed.drop 8).take 256), places)
  else (none, places)

end Sys2Proof.Machine
end

