-- ==== Sys2Proof/Machine/Tier.lean ====
section
/-!
DEFINITION. The tiers (chapter 06): CACHE frames, epochs, Cistern promotions and demotions, drives, MIGRATE.
-/
namespace Sys2Proof.Machine

/-! ## CACHE frames -/

/-- CACHE_FILL_DONE (R123). -/
def execCacheFillDone (sub : Nat) (s : State) : Result :=
  guarded (s.tier.fills.contains sub) s fun s =>
    let r := subRec s sub
    let s := { s with tier := { s.tier with fills := s.tier.fills.erase sub } }
    if r.state = 2 ∧ ¬ r.evicting then setSub s sub { r with valid := BitVec.allOnes 1024 } else s

/-- CACHE_RELEASE_DONE (R124, R127): the frame returns, and the sub-page that waited for one takes it. -/
def execCacheReleaseDone (sub : Nat) (s : State) : Result :=
  match tget s.tier.releases sub with
  | none => .next s
  | some next =>
    let s := releaseCommit s sub
    .next (if next ≠ 0 ∧ (subRec s next).state = 1 then basinEnter s next else s)

/-- EPOCH_END (R126). -/
def execEpochEnd (s : State) : Result :=
  let ps := tfilter (tmap s.tier.pages fun _ r =>
    { r with count := r.count / 2, prevTouched := r.touched, touched := 0 }) fun _ r => r ≠ {}
  .next { s with tier := { s.tier with pages := ps } }

/-! ## Promotions from Cistern -/

/-- Copy a sub-page whose home is a DRAM frame to a frame of a grain where its stripe has another (R144): none where no
frame is free. The flag says that it was copied. -/
def regrain (s : State) (g q : Nat) : Option (Bool × State) :=
  let r := subRec s q
  if g = 7 ∨ (r.state ≠ 1 ∧ r.state ≠ 2) ∨ grainOf s (r.frame / 24) = stripeGrain g then some (false, s)
  else if !canTakeDram s (subDram s q) then none
  else (takeFrame s g q).map fun x => (true, freeFrame (setSub x.2 q { r with frame := x.1 }) r.frame)

/-- Operands of MIGRATE (Table 6-10). -/
def migTarget (o : Op) : Nat := fld (opnd o 0x1C 4) 0 2
def migGrain (o : Op) : Nat := fld (opnd o 0x1C 4) 2 3
def migEnd (o : Op) (r : Region) : Nat := (r.base + opnd o 0x14 4 + opnd o 0x18 4) * 32
def migStart (o : Op) (r : Region) : Nat := (r.base + opnd o 0x14 4) * 32

/-- A move of a MIGRATE has committed: the grain copy that is still due follows it, and the sub-page counts (R144,
R145). -/
def migMoved (s : State) (h q : Nat) : State :=
  match opOf s h with
  | none => s
  | some o =>
    let (f, s) : (Progress → Progress) × State := match regrain s (migGrain o) q with
      | some (_, s) => (fun p => { p with moved := p.moved + 1, next := q + 1 }, s)
      | none => (fun p => { p with left := p.left + 1, next := q + 1 }, s)
    modOp s h fun o => { o with prog := f o.prog }

/-- The sub-page enters DRAM and its Cistern frame is freed; a mirrored one first goes to the partner (R128,
Table 17-5). -/
def promoteCommit (s : State) (m : Move) (failed : BitVec 16) : State :=
  let q := m.sub
  let old := (subRec s q).frame
  let s := setSub (dropMove s q) q { state := 1, frame := m.dest }
  let s := (bitList failed).foldl (fun s b =>
    (rangeFrom (q * 1024 + b * 64) 64).foldl (fun s l => setPoison s l 3) s) s
  let s := if failed = 0 then s
    else event s { source := pgCISP + m.drive, sev := sevError, cls := clCistern, pcode := 3, loc := subBase q * 65536 }
  let s := count s (pgCISP + m.drive) 2 65536
  let s := if lineMirrored s (q * 1024) && mirroring s then
      let (t, s) := awaitMack s true (.dealloc old)
      mirrorSub (sendRunnel s (homeSlice (q * 1024)) (runChange t 4 [q])) q (.dealloc old)
    else freeCis s old
  tierReady (if m.op = 0 then s else migMoved s m.op q) q

/-- What the blocks that fail their check a second time hold in the new DRAM frame: R136 marks their lines and gives no
contents, so the bytes are free values (log entry 8). -/
def spoilBlocks (s : State) (q : Nat) (failed : BitVec 16) : State :=
  (bitList failed).foldl (fun s b =>
    let bs := (rangeFrom s.fresh 512).flatMap fun k => natLe 8 (Config.freeValue k).toNat
    let n := s.fresh
    { setBytes s (q * 65536 + b * 4096) bs with fresh := n + 512 }) s

/-- CISTERN_PROMOTION_DONE (R128, R136): `failed` names the 4 KiB blocks whose CRC or tag failed. -/
def execCisternPromotionDone (sub : Nat) (failed : BitVec 16) (s : State) : Result :=
  match moveOf s sub with
  | none => .next s
  | some m =>
    if m.kind ≠ .promote then .next s
    else if failed ≠ 0 ∧ ¬ m.reread then
      let ms := s.tier.moves.map fun x => if x.sub = sub then { x with reread := true } else x
      .next ((bitList failed).foldl (fun s b => issueNvme s m.drive
          (.read (frameLba (frameNum (subRec s sub).frame) + b) 1 (m.dest * 65536 + b * 4096)))
        { s with tier := { s.tier with moves := ms } })
    else .next (promoteCommit (spoilBlocks s sub failed) m failed)

/-! ## The Lehr -/

/-- A sub-page is eligible for demotion (R129). -/
def lehrEligible (s : State) (q : Nat) (r : SubRec) : Bool :=
  let p := pageRec s (pageOfSub q)
  decide (r.state = 1) &&
  ((regionOfSub s q).map fun e => decide (e.2.residency = 0) && !e.2.coherent && !e.2.dramUnits).getD false &&
  decide (p.count ≤ rf s (ra pgTIER 0x104) 16 16) && !p.touched.getLsbD (q % 32) && !p.prevTouched.getLsbD (q % 32) &&
  !subPoisoned s q && (moveOn s (q / 32)).isNone

/-- The next sub-page the Lehr takes: lowest page count, then page-map order round from where it stopped. -/
def lehrPick (s : State) : Option Nat :=
  let key (q : Nat) : Nat × Nat := ((pageRec s (pageOfSub q)).count, (subBase q + 2 ^ 36 - s.tier.lehrPos) % 2 ^ 36)
  (s.tier.subs.filter fun e => lehrEligible s e.1 e.2).foldl (fun acc e => match acc with
    | none => some e.1
    | some b => if (key e.1).1 < (key b).1 ∨ ((key e.1).1 = (key b).1 ∧ (key e.1).2 < (key b).2) then some e.1
        else some b) none

/-- Per mille of the DRAM frames that are free, against a level. -/
def freeBelow (s : State) (level : Nat) : Bool := decide (dramFree s * 1000 < level * s.tier.dramFrames)

/-- A transfer of one sub-page under a rate in MB/s may begin at a time; the next may after it (R130, R144). The depth of the
token bucket, which the spec does not give, is one sub-page (DESIGN CHOICE, log entry 75). -/
def rateOk (s : State) (next : Nat) : Bool := decide (next ≤ s.now)
def rateNext (s : State) (rate : Nat) : Nat := s.now + ceilDiv 65536000 (max 1 rate)

/-- Begin to write a sub-page to a Cistern frame (R129, R144). -/
def startDemote (s : State) (kind : MoveKind) (q op : Nat) : Option State :=
  match takeCis s with
  | none => none
  | some (f, s) =>
    let d := frameDrive f
    let m : Move := { sub := q, kind, dest := f, drive := d, op }
    let s := { s with tier := { s.tier with moves := s.tier.moves ++ [m] } }
    some (writeCis (count (count s (pgCISP + d) 1 1) (pgCISP + d) 3 65536) f (some (subRec s q).frame))

/-- LEHR_DEMOTE_START (R129). -/
def execLehrDemoteStart (s : State) : Result :=
  let ctl := ra pgTIER 0x108
  let on := if s.tier.lehrOn then freeBelow s (rf s ctl 11 10) else freeBelow s (rf s ctl 1 10)
  let s := { s with tier := { s.tier with lehrOn := on } }
  if !on || !rb s ctl 0 || (activeDrives s).isEmpty || s.pair.audit || !serving s || s.pair.pause ||
      decide (s.pwr.warm = 2) || !(rateOk s s.tier.lehrNext || decide (dramFree s = 0)) then .next s
  else
    match lehrPick s with
    | none => .next s
    | some q =>
      match startDemote s .lehr q 0 with
      | none => .next s
      | some s => .next { s with tier := { s.tier with
          lehrPos := subBase q + 1, lehrNext := rateNext s (rf s (ra pgTIER 0x10C) 0 24) } }

/-- The 128-byte metadata entry of a sub-page in a Cistern frame: the CRC-32C of each 4 KiB block, the PA tag and the
generation number (R135). The spec gives the entry's contents and not their places (DESIGN CHOICE, log entry 76). -/
def metaEntry (s : State) (q f : Nat) : Bytes :=
  fitBytes 128 (((rangeFrom 0 16).flatMap fun b => natLe 4 (crc32c (bytesAt s (q * 65536 + b * 4096) 4096))) ++
    natLe 8 (subBase q) ++ natLe 8 (tgetD s.tier.gens f 0))

/-- Write a frame's metadata entry to its group's block (R129, R135). -/
def writeMeta (s : State) (q f : Nat) : State :=
  issueNvme s (frameDrive f) (.metadata (metaLba (frameNum f)) (frameNum f % 32) (metaEntry s q f))

/-- The drive has completed the data and metadata writes: the sub-page enters CISTERN (R129). -/
def demoteCommit (s : State) (q : Nat) : State :=
  match moveOf s q with
  | none => s
  | some m =>
    let r := subRec s q
    let s := freeFrame (setSub (dropMove (dropMerges s q) q) q { state := 3, frame := m.dest }) r.frame
    retryPromotes (if m.kind = .lehr then count s pgTIER 3 1 else migMoved s m.op q)

/-- A demotion's data write is complete, and its metadata write with it: a mirrored sub-page first waits for the partner
(Table 17-5). -/
def demoteWritten (s : State) (m : Move) : State :=
  if m.asked then s else
  let s := writeMeta s m.sub m.dest
  if lineMirrored s (m.sub * 1024) && mirroring s then
    let (t, s) := awaitMack s true (.demote m.sub)
    let ms := s.tier.moves.map fun x => if x.sub = m.sub then { x with asked := true } else x
    sendRunnel { s with tier := { s.tier with moves := ms } } (homeSlice (m.sub * 1024))
      (runChange t 3 [m.sub, m.dest])
  else demoteCommit s m.sub

/-- LEHR_DEMOTION_COMMIT (R129). -/
def execLehrDemotionCommit (sub : Nat) (s : State) : Result :=
  match moveOf s sub with
  | none => .next s
  | some m => guarded (decide (m.kind = .lehr)) s fun s => demoteWritten s m

/-! ## Drives -/

/-- DRV_STATd.RES_HELD. -/
def setHeld (s : State) (d : Nat) (b : Bool) : State := wb s (ra pgCIS (0x140 + 4 * d)) 3 b

/-- Bring the Cistern gauges up to date after a drive changed. -/
def drvGauges (s : State) : State :=
  gauge (wr s (ra pgTIER 0x118) (cisFree s)) pgALLOC 3 (unitsFree s)

/-- Bring every drive into step with SPARE_MASK (R138). -/
def spareAll (s : State) : State := drvGauges ((rangeFrom 0 16).foldl spareStep s)

/-- This controller's reservation key (R139). -/
def resKey (s : State) : Nat := rd s (ra pgCIS 0x108) + rd s (ra pgCIS 0x10C) * 2 ^ 32

/-- Drives that hold the pool's frames or stand by for it. -/
def upDrives (s : State) : List Nat := (rangeFrom 0 16).filter fun d => drvState s d = 2 || drvState s d = 3

/-- Acquire the Exclusive Access reservation of some drives without preempting (R139, Table 17-2). -/
def acquireDrives (s : State) (ds : List Nat) : State :=
  ds.foldl (fun s d => setHeld (issueNvme s d (.resAcquire (resKey s))) d true) s

/-- The partner has taken one drive's reservation: it is PREEMPTED here (R139, Table 6-9). -/
def driveTaken (s : State) (d : Nat) : State := setHeld (setDrv s d 5) d false

/-- The partner has taken every drive's reservation. -/
def drivesTaken (s : State) : State := drvGauges ((upDrives s).foldl driveTaken s)

/-- Take every drive's reservation by a preempt with the former active's key (R139). A drive that was PREEMPTED here serves
again, and takes no other command until its preempt ends. -/
def preemptDrives (s : State) : State :=
  let ds := (rangeFrom 0 16).filter fun d => drvState s d = 2 || drvState s d = 3 || drvState s d = 5
  drvGauges (ds.foldl (fun s d =>
    let s := if drvState s d = 5 then setDrv s d (if spareMask s d then 3 else 2) else s
    let s := count (put s (.nvme d (.resPreempt (resKey s) Config.partnerKey.toNat))) pgCIS 0 1
    { s with tier := { s.tier with preempt := insNat d s.tier.preempt } }) s)

/-- Ask every ACTIVE drive for its reservation report (R397). -/
def askReports (s : State) : State := (activeDrives s).foldl (fun s d => issueNvme s d .resReport) s

/-- Moves that used a failed drive: promotions fail, demotions are abandoned, a MIGRATE counts its sub-page as left
(R137, Table 6-11). -/
def dropDriveMoves (s : State) (d : Nat) : State :=
  (s.tier.moves.filter fun m => m.drive = d).foldl (fun s m =>
    let s := abandonMove s m
    if m.op = 0 then s
    else modOp s m.op fun o => { o with prog := { o.prog with left := o.prog.left + 1, next := m.sub + 1 } }) s

/-- R137 and R138: a drive has failed. Every sub-page that it holds is lost, those of staging and replaced versions too;
the lowest spare takes the place of an ACTIVE drive. -/
def failDrive (s : State) (d : Nat) : State :=
  let active := decide (drvState s d = 2)
  let s := dropDriveMoves (setHeld (setDrv s d 4) d false) d
  let lost := tkeys s.tier.subs fun _ r => decide (r.state = 3) && decide (frameDrive r.frame = d)
  let s := lost.foldl loseSub s
  let s := { s with tier := { s.tier with
    cisUsed := s.tier.cisUsed.filter fun f => frameDrive f ≠ d, preempt := s.tier.preempt.erase d
    later := s.tier.later.filter fun e => e.1 ≠ d, io := tfilter s.tier.io fun f _ => frameDrive f ≠ d } }
  let s := event (count s pgCIS 2 1)
    { source := pgCISP + d, sev := if lost.isEmpty then sevError else sevFatal, cls := clCistern, loc := d }
  let s := match (rangeFrom 0 16).filter fun e => drvState s e = 3 with
    | e :: rest => if active then reserveEvent (setDrv s e 2) pgCIS e rest.length else s
    | [] => s
  retryTier (drvGauges s)

/-- DRIVE_FAILURE (R137): a fatal status, or the link dropped. -/
def execDriveFailure (drive : Nat) (s : State) : Result :=
  guarded (decide (drive < 16) && decide (drvState s drive ≠ 0) && decide (drvState s drive ≠ 4)) s
    fun s => failDrive s drive

/-- The command that is under way for a frame of a drive: a move's read or write, a direct write or a deallocate
(R137). -/
inductive CisCmd where
  | move (m : Move)
  | direct (again : Bool)
  | dealloc (again : Bool)
  deriving Repr

def cisCmd (s : State) (f : Nat) : Option CisCmd :=
  match s.tier.moves.find? fun m => decide ((if m.kind = .promote then (subRec s m.sub).frame else m.dest) = f) with
  | some m => some (.move m)
  | none => (tget s.tier.io f).map fun again => if s.tier.cisUsed.contains f then .direct again else .dealloc again

/-- The command for a frame is issued once more, after its Abort (R137). -/
def retryCis (s : State) (f : Nat) (c : CisCmd) : State :=
  let s := issueNvme (count s pgCIS 1 1) (frameDrive f) (.abort (frameNum f))
  match c with
  | .move m =>
    let ms := s.tier.moves.map fun x => if x.sub = m.sub then { x with retried := true } else x
    let s := { s with tier := { s.tier with moves := ms } }
    if m.kind = .promote then readCis s f m.dest else writeCis s f (some (subRec s m.sub).frame)
  | .direct _ => writeCis (setIo s f (some true)) f none
  | .dealloc _ => deallocCis (setIo s f (some true)) f

/-- The command has been issued twice. -/
def CisCmd.twice : CisCmd → Bool
  | .move m => m.retried
  | .direct again | .dealloc again => again

/-- NVME_CMD_TIMEOUT (R137): the overdue command for a frame of a drive is aborted and issued once more, then the drive
fails. -/
def execNvmeCmdTimeout (drive frame : Nat) (s : State) : Result :=
  let f := drive * 0x10000000 + frame
  match cisCmd s f with
  | none => .next s
  | some c => guarded (decide (drive < 16) && decide (frame < 0x10000000)) s fun s =>
      let s := count s (pgCISP + drive) 4 1
      if c.twice then failDrive s drive else retryCis s f c

/-- RESERVATION_PREEMPT_DONE (R139): the drive takes other commands again: those that waited go out, and the reads in
flight are issued again. -/
def execReservationPreemptDone (drive : Nat) (s : State) : Result :=
  guarded (s.tier.preempt.contains drive) s fun s =>
    let now := s.tier.later.filter fun e => e.1 = drive
    let s := { s with tier := { s.tier with
      preempt := s.tier.preempt.erase drive, later := s.tier.later.filter fun e => e.1 ≠ drive } }
    let s := now.foldl (fun s e => put s (.nvme e.1 e.2)) (setHeld s drive true)
    let s := (s.tier.moves.filter fun m => decide (m.drive = drive) && decide (m.kind = .promote)).foldl
      (fun s m => readCis s (subRec s m.sub).frame m.dest) s
    retryPromotes s

/-- CISTERN_ENABLE (R142, R503): a write of CIS.CFG. -/
def execCisternEnable (_id : Nat) (value : W32) (s : State) : Result :=
  let a := ra pgCIS 0x100
  let was := rb s a 0
  let s := wr s a (writeFields false (rd s a) value.toNat [fRW 0 1, fRW 1 7 16 1 64, fRW 8 10 30 1 1000])
  let is := rb s a 0
  if is = was then .next s
  else if is then .next (put s (.pin "CIS_PERST_N" true))
  else
    let s := (rangeFrom 0 16).foldl (fun s d => if drvState s d = 4 then s else setHeld (setDrv s d 0) d false) s
    .next (drvGauges (put s (.pin "CIS_PERST_N" false)))

/-- The commands that bring a drive up: Identify, the number of queues, CIS.CFG.QPAIRS pairs of I/O queues of 256 entries,
and one Asynchronous Event Request (R133, R134). -/
def bringUp (s : State) (d : Nat) : State :=
  let n := rf s (ra pgCIS 0x100) 1 7
  (NvmeCmd.identify :: NvmeCmd.setQueues n ::
    (rangeFrom 1 n).flatMap (fun k => [NvmeCmd.createCq k 256, NvmeCmd.createSq k 256]) ++ [NvmeCmd.asyncEvent]).foldl
    (fun s c => issueNvme s d c) s

/-- DRIVE_READY (R138, R142): the drive becomes ACTIVE, or SPARE where the mask names it. In a pair each controller
registers its key, and the serving one acquires the reservation (R139). -/
def execDriveReady (drive : Nat) (dualPort : Bool) (frames : Nat) (s : State) : Result :=
  guarded (decide (drive < 16) && rb s (ra pgCIS 0x100) 0 &&
      (decide (drvState s drive ≤ 1) || s.tier.waking.contains drive)) s fun s =>
    let s := bringUp s drive
    let s := wb (setDrv s drive (if spareMask s drive then 3 else 2)) (ra pgCIS (0x140 + 4 * drive)) 4 dualPort
    let s := { s with tier := { s.tier with
      drvFrames := tset 0 s.tier.drvFrames drive (min frames 233918112), waking := s.tier.waking.erase drive } }
    let s := if paired s then issueNvme s drive (.resRegister (resKey s)) else s
    let s := if paired s && serving s then acquireDrives s [drive] else s
    drvGauges (retryPromotes s)

/-- DRIVE_READY_TIMEOUT (R452). -/
def execDriveReadyTimeout (drive : Nat) (s : State) : Result :=
  guarded (decide (drive < 16) && decide (drvState s drive = 1)) s fun s =>
    event (setDrv s drive 4) { source := pgCISP + drive, sev := sevError, cls := clCistern, loc := drive }

/-! ## MIGRATE -/

/-- Keep the result words up to date (R145). -/
def migResults (s : State) (h : Nat) (r : Region) : State :=
  modOp s h fun o => { o with res :=
    [o.prog.moved, o.prog.skipped, o.prog.left, (o.prog.next - migStart o r) / 32] }

/-- What MIGRATE does with one sub-page. -/
inductive MigGo where
  | moved (s : State)
  | skipped (s : State)
  | left (s : State)
  /-- a move or a release has begun, or the page is busy. -/
  | wait (s : State)

/-- A sub-page that makes no tier move takes the grain copy that is due (R144). -/
def migGrainSub (s : State) (o : Op) (q : Nat) : MigGo :=
  match regrain s (migGrain o) q with
  | none => .left s
  | some (true, s) => .moved s
  | some (false, s) => .skipped s

/-- A sub-page that finds no frame in the tier it needs is left there, with the grain copy that is due (R144). -/
def migLeave (s : State) (o : Op) (q : Nat) : MigGo :=
  .left (((regrain s (migGrain o) q).map Prod.snd).getD s)

/-- The grain of the frames that a MIGRATE takes (R144). -/
def migTakes (o : Op) (r : Region) : Nat := if migGrain o = 7 then r.grain else migGrain o

/-- A MIGRATE begins a move of a sub-page: its rate runs from there (R144), and the bounds of the requests to it are void
(Table 5-2). -/
def migRate (s : State) (q : Nat) : State :=
  let s := voidLines s fun line => decide (line / 1024 = q)
  { s with tier := { s.tier with migNext := rateNext s (rf s (ra pgTIER 0x120) 0 24) } }

/-- One sub-page of a MIGRATE (R144, Table 6-11). -/
def migSub (s : State) (h : Nat) (o : Op) (r : Region) (q : Nat) : MigGo :=
  let x := subRec s q
  let t := migTarget o
  let freed := r.freeing || decide (r.base + r.size ≤ q / 32) ||
    (decide (r.shrinking ≠ 0) && decide (r.base + r.shrinkTo ≤ q / 32))
  if freed || decide (x.state = 0) || (decide (t = 2) && (decide (r.residency ≠ 0) || r.coherent || r.dramUnits)) then
    .skipped s
  else if (moveOn s (q / 32)).isSome || (tget s.tier.releases q).isSome then .wait s
  else
    match t with
    | 1 =>
      if x.state = 3 then
        if !rateOk s s.tier.migNext then .wait s
        else
          let s := startPromote s (migTakes o r) q h
          if (moveOf s q).isSome then .wait (migRate s q) else .left s
      else migGrainSub s o q
    | 2 =>
      match x.state with
      | 2 => if (activeDrives s).isEmpty then migLeave s o q else .wait (releaseStart s q 0)
      | 1 =>
        if subPoisoned s q then migGrainSub s o q
        else if (activeDrives s).isEmpty then migLeave s o q
        else if !rateOk s s.tier.migNext then .wait s
        else
          match startDemote s .migrate q h with
          | some s => .wait (migRate s q)
          | none => migLeave s o q
      | _ => .skipped s
    | _ => migGrainSub s o q

/-- The condition of a MIGRATE that ends: QUOTA where any sub-page was left (R145). -/
def migCond (s : State) (h : Nat) : Nat :=
  ((opOf s h).map fun o => if o.prog.left = 0 then 0 else condOf stQuota).getD 0

/-- Take sub-pages until one has to be waited for, or the range ends; `n` bounds the number taken. -/
def migNext : Nat → State → Nat → State
  | 0, s, _ => s
  | n + 1, s, h =>
    match opOf s h with
    | none => s
    | some o =>
      match regionOf s (opnd o 0x10 4) with
      | none => endWith s h stNotPermitted o.res
      | some r =>
        let s := migResults s h r
        if o.prog.next ≥ migEnd o r then
          let s := if migGrain o = 7 then s
            else setRegion s (opnd o 0x10 4 % 65536) { r with grain := migGrain o }
          endOp s h (migCond s h)
        else
          let step (s : State) (f : Progress → Progress) : State :=
            migNext n (modOp s h fun o => { o with prog := f { o.prog with next := o.prog.next + 1 } }) h
          match migSub s h o r o.prog.next with
          | .wait s => s
          | .moved s => step s fun p => { p with moved := p.moved + 1 }
          | .skipped s => step s fun p => { p with skipped := p.skipped + 1 }
          | .left s => step s fun p => { p with left := p.left + 1 }

/-- Number of steps that a MIGRATE may need. -/
def migFuel (o : Op) (r : Region) : Nat := migEnd o r + 1 - o.prog.next

/-- Go on with a MIGRATE that runs. -/
def migGo (s : State) (h : Nat) : State :=
  match opOf s h with
  | none => s
  | some o =>
    match regionOf s (opnd o 0x10 4) with
    | none => endWith s h stNotPermitted o.res
    | some r => migNext (migFuel o r) s h

/-- MIGRATE (R143, R144). -/
def execMigrate (h : Nat) (s : State) : Result :=
  match ready s h 0x17 with
  | none => .next s
  | some o =>
    let hd := opnd o 0x10 4
    match regionOf s hd with
    | none => .next (endWith s h stNotPermitted [0, 0, 0, 0])
    | some r =>
      let first := opnd o 0x14 4
      let n := opnd o 0x18 4
      let g := migGrain o
      let bad := r.freeing || decide (r.dom ≠ o.dom) || decide (n = 0) || decide (r.size < first + n) ||
        decide (migTarget o = 3) || decide (g = 5) || decide (g = 6) ||
        (decide (migTarget o = 2) && (r.coherent || decide (r.residency ≠ 0))) ||
        (decide (g ≠ 7) && (decide (first ≠ 0) || decide (n ≠ r.size)))
      if bad then .next (endWith s h stNotPermitted [0, 0, 0, 0])
      else
        let s := modOp s h fun o => { o with
          phase := if o.askSusp then .suspending else .running, prog := { o.prog with next := migStart o r } }
        .next (if o.askSusp then s else migGo s h)

/-- MIGRATE_MOVE_DONE (R144, R145): the move that runs commits, and the next sub-page is taken unless the operation
suspends or was cancelled. -/
def execMigrateMoveDone (h : Nat) (s : State) : Result :=
  match opOf s h with
  | none => .next s
  | some o =>
    if o.opcode ≠ 0x17 ∨ (o.phase ≠ Phase.running ∧ o.phase ≠ Phase.suspending) then .next s
    else
      let s := match s.tier.moves.find? fun m => m.op = h with
        | some m => if m.kind = MoveKind.promote then promoteCommit s m 0 else demoteWritten s m
        | none => s
      let s := match regionOf s (opnd o 0x10 4) with
        | some r => migResults s h r
        | none => s
      if s.tier.moves.any fun m => m.op = h then .next s
      else if o.cancelled then .next (endOp s h (migCond s h))
      else if o.phase = Phase.suspending then .next s
      else .next (migGo s h)

end Sys2Proof.Machine
end

