-- ==== Sys2Proof/Machine/Route.lean ====
section
/-!
DEFINITION. Routing and messages (chapter 12): pass-through, PUT messages and their completion, landing tiles of
arrival-driven reductions (R217 to R219), route swaps, fencing of endpoints.
-/
namespace Sys2Proof.Machine

/-! ## Pass-through -/

/-- PASS_THROUGH_PACKET (R277 to R282): one that its draining route holds stays in its ingress buffer. -/
def execPassThroughPacket (port : Nat) (pkt : Packet) (s : State) : Result :=
  if isLocal s pkt.dest ∨ 20 ≤ port then .next s
  else
    let r := route s pkt.dest
    if r.valid ∧ r.draining then .next s
    else
      match popRx s port pkt with
      | none => .next s
      | some s =>
        if !r.valid then .next (refusePacket s port pkt)
        else
          let r := refreshRoute s r
          let s := setRoute s pkt.dest r
          match choosePort s r pkt with
          | none => .next (fenceUnreachable s pkt.dest)
          | some (p, spread) =>
            if p = port then .next (refusePacket s port pkt)
            else .next (placeAt (count s (portPage port) 4 1) p spread { cls := pkt.sc, len := 0, pkt })

/-! ## Landing tiles -/

/-- What a run of bytes meets in the landing areas. -/
inductive Landing where
  | outside
  /-- operation, tile, and whether the bytes fall in its header. -/
  | tile (h i : Nat) (header : Bool)

/-- The landing tile that holds a run of bytes of one line. -/
def landingAt (s : State) (pa n : Nat) : Landing :=
  match landingOf s pa n with
  | none => .outside
  | some (h, i) =>
    match (opOf s h).bind Op.arrival with
    | none => .outside
    | some a =>
      .tile h i !(runHit (nth a.lands i []) pa n)

/-- Bytes aimed at the tile are discarded: it has landed, or was counted lost (R219, R223). -/
def landingClosed (s : State) (h i : Nat) : Bool :=
  match (opOf s h).bind Op.arrival with
  | none => false
  | some a => a.landed.contains i || a.closed.contains i

/-- The bytes that some runs hold. -/
def runBytes (s : State) (rs : List (Nat × Nat)) : Bytes := rs.flatMap fun r => bytesAt s r.1 r.2

/-- The tile has all of its bytes (R218). -/
def landingFull (s : State) (a : Arrival) (i : Nat) : Bool :=
  let body := tgetD a.got (2 * i) 0
  if a.sparse then
    decide (16 ≤ tgetD a.got (2 * i + 1) 0) &&
      decide (64 * fld (leNat (runBytes s (nth a.hdrs i []))) 106 7 ≤ body)
  else decide (a.tileBytes ≤ body)

/-- Set bit i of the landing bitmap. -/
def landingBit (s : State) (a : Arrival) (i : Nat) : State :=
  let o := a.mapOff + i / 8
  let pa := nth a.mapPas (o / 4096) 0 + o % 4096
  setByte s pa (byteAt s pa ||| BitVec.ofNat 8 (2 ^ (i % 8)))

/-- Bytes that a landing tile may yet take before it lands with one of them: none where no number is fixed yet
(R218, R219). -/
def landingRoom (s : State) (h i : Nat) (header : Bool) : Option Nat :=
  (opOf s h).bind fun o => o.arrival.bind fun a =>
    let body := tgetD a.got (2 * i) 0
    if !a.sparse then some (a.tileBytes - body)
    else if header || decide (tgetD a.got (2 * i + 1) 0 < 16) then none
    else some (64 * fld (leNat (runBytes s (nth a.hdrs i []))) 106 7 - body)

/-- Count bytes written into a landing tile; it lands with the last of them (R218, R225). -/
def landingCount (s : State) (h i n : Nat) (header : Bool) : State :=
  match (opOf s h).bind fun o => o.arrival.map fun a => (o, a) with
  | none => s
  | some (o, a) =>
    let k := 2 * i + if header then 1 else 0
    let a := { a with got := tput a.got k (tgetD a.got k 0 + n) }
    if landingFull s a i then
      let a := { a with landed := a.landed ++ [i], queue := a.queue ++ [i],
                        foldSince := some (a.foldSince.getD s.now) }
      landingBit (setOp s h { o with arrival := some a }) a i
    else setOp s h { o with arrival := some a }

/-! ## PUT messages -/

/-- A piece of a payload within one line: line, data, mask. -/
abbrev Piece := Nat × Bytes × Nat

/-- First byte and number of bytes of a piece. -/
def pieceSpan (p : Piece) : Nat × Nat :=
  let o := (rangeFrom 0 64).find? (fun i => p.2.2.testBit i) |>.getD 0
  (p.1 * 64 + o, popc 64 p.2.2)

/-- The user that a message is. -/
def putUser (s : State) (e cls pa : Nat) : User :=
  { who := .put e, req := some (e / 32), dom := ((placeOf s pa).map fun pl => pl.reg.dom).getD 0,
    ident := 0x100 + e / 32, cls }

/-- The landing area of a run of bytes is closed. -/
def pieceClosed (s : State) (pa n : Nat) : Bool :=
  match landingAt s pa n with
  | .tile h i _ => landingClosed s h i
  | .outside => false

/-- Whether one piece may be written: its status, or a wait. Permission comes before the landing area and the residency
test (R26, R36, R42, R45, R107, R219, R410). The lines of a landing area are taken from their holders first, so that
their bytes are at the home as they are counted (R218). -/
def pieceGate (e cls : Nat) (p : Piece) (s : State) : Go Nat :=
  let (pa, n) := pieceSpan p
  let u := putUser s e cls pa
  match userPlace s u pa true with
  | none => .done stNotPermitted s
  | some pl =>
    if (pl.reg.versioned && !pl.staging) || pieceClosed s pa n then .done stNotPermitted s
    else if !residencyOk s cls pl.reg (tierState s u pl) then .done stNotResident s
    else
      match writeGate s u [pa] with
      | .wait s => .wait s
      | .refuse st s => .done st s
      | .done _ s =>
        if (landingOf s pa n).isNone then .done stOk s
        else
          let (free, s) := claimRun s u pa n
          if free then .done stOk s else .wait s

/-- The status of each piece; the packet waits while one of them must. -/
def putGate (e cls : Nat) (ps : List Piece) (s : State) : Go (List (Piece × Nat)) :=
  goList (fun p s => (pieceGate e cls p s).bind fun st s => .done (p, st) s) ps s

/-- The first `k` bytes of a piece. -/
def pieceHead (p : Piece) (k : Nat) : Piece :=
  let o := (pieceSpan p).1 % 64
  (p.1, p.2.1, Nat.land p.2.2 (2 ^ (o + k) - 1))

/-- Write one piece. Bytes of a tile that lands part of the way through are discarded from there on, and the message is
NOT_PERMITTED (R219). -/
def pieceWrite (e cls pcode : Nat) (p : Piece) (s : State) : Nat × State :=
  let (pa, n) := pieceSpan p
  let u := putUser s e cls pa
  let write (q : Piece) (s : State) : State := (writeLines u pcode (.msg e) [q] s).2
  match landingAt s pa n with
  | .outside => (0, write p s)
  | .tile h i hd =>
    let k := min n ((landingRoom s h i hd).getD n)
    if landingClosed s h i then (condOf stNotPermitted, s)
    else
      (if k < n then condOf stNotPermitted else 0,
        landingCount (if k = 0 then s else write (pieceHead p k) s) h i k hd)

/-- Write the pieces that may be written and collect the conditions of the others. -/
def putWrite (e cls pcode : Nat) : List (Piece × Nat) → State → Nat × State
  | [], s => (0, s)
  | (p, st) :: ps, s =>
    let (c, s) := if st ≠ stOk then (condOf st, s) else pieceWrite e cls pcode p s
    let (c', s) := putWrite e cls pcode ps s
    (Nat.lor c c', s)

/-- The pieces of a PUT packet's payload. -/
def putPieces (pkt : Packet) : List Piece :=
  let d := pkt.data.take pkt.payBytes
  cutLines (d.length + 1) pkt.addr d

/-- Lay bytes over some runs from an offset: (PA, bytes) of each part. -/
def spread : List (Nat × Nat) → Nat → Bytes → List (Nat × Bytes)
  | [], _, _ => []
  | (pa, n) :: rs, off, bs =>
    if n ≤ off then spread rs (off - n) bs
    else if bs.isEmpty then []
    else (pa + off, bs.take (n - off)) :: spread rs 0 (bs.drop (n - off))

/-- The pieces of a PUT_SPARSE packet: offsets 0–15 are the header of the landing tile whose body slot ADDR names;
none where it names none (R285). -/
def sparsePieces (s : State) (pkt : Packet) : Option (List Piece) :=
  let d := pkt.data.take pkt.payBytes
  s.cmd.ops.findSome? fun x => x.2.arrival.bind fun a =>
    if !a.armed || !a.sparse then none
    else
      (a.lands.findIdx? fun l => decide (l.head?.map Prod.fst = some pkt.addr)).map fun i =>
        let hd := d.take (16 - pkt.offset)
        let body := d.drop (16 - pkt.offset)
        (spread (nth a.hdrs i []) pkt.offset hd ++ spread (nth a.lands i []) (pkt.offset - 16) body).flatMap fun x =>
          cutLines (x.2.length + 1) x.1 x.2

/-- Replace a message entry. -/
def setMsg (s : State) (e : Nat) (m : MsgEntry) : State :=
  { s with route := { s.route with msgs := tput s.route.msgs e m } }

/-- Open an entry for a message's first packet, received at a port at a time: its class, its bound and the bucket and
backlog tests (R105, R106, R261, R288). -/
def putOpen (s : State) (port since e : Nat) (pkt : Packet) : State :=
  let m : MsgEntry := { lastId := (tgetD s.route.msgs e {}).lastId, state := 1, id := pkt.msgId, len := pkt.msgLen,
                        ch := pkt.ch, start := since, via := some port }
  match placeOf s pkt.addr with
  | none => setMsg s e { m with state := 2, sc := pkt.sc, cond := condOf stNotPermitted }
  | some pl =>
    let c := fabricClass pkt.sc pl.reg
    let sch := respSched s pkt.src pkt.ch
    let m := { m with sc := c, dom := pl.reg.dom, bound := boundNs s c pkt.msgLen, sch := sch.getD 31,
                      void := bornVoid s (some pkt.src) (some port) (sch.getD 31) (lineOf pkt.addr) }
    if 6 < c ∨ ¬ classAllowed s pkt.src c then setMsg s e { m with state := 2, cond := condOf stNotPermitted }
    else
      let schs := match sch with
        | some x => [(x, 16)]
        | none => []
      match weirAdmit s pkt.src c pkt.msgLen schs with
      | none => setMsg (refusedCount s pkt.src c pkt.msgLen) e { m with state := 2, cond := condOf stNotAdmitted }
      | some s1 =>
        setMsg s1 e { m with charge := match sch with
                        | some x => 16 + overhead s x
                        | none => 0 }

/-- A sub-page of a message has failed the residency test: the message's tokens and its charge are returned, once
(R107). -/
def putReturn (s : State) (e : Nat) : State :=
  let m := tgetD s.route.msgs e {}
  if m.returned then s
  else
    let s := count (unchargeBacklog (credit s (e / 32) m.sc m.len) m.sch m.sc m.charge) pgWEIR 10 1
    setMsg s e { m with returned := true, charge := 0 }

/-- The accesses of a packet's pieces: a refused sub-page counts one access and starts nothing (R107, R126). -/
def putAccess (s : State) (e cls : Nat) (xs : List (Piece × Nat)) : State :=
  let sub (p : Piece) : Nat :=
    let u := putUser s e cls (pieceSpan p).1
    ((userPlace s u (pieceSpan p).1 true).map fun pl => viewSub s pl u.ident none).getD (p.1 / 1024)
  let pick (st : Nat) : List Nat := ((xs.filter fun x => x.2 = st).map fun x => sub x.1).eraseDups
  let cold := pick stNotResident
  let s := access s (pick stOk)
  if cold.isEmpty then s else putReturn (count (touchPages s cold) pgTIER 7 1) e

/-- A PUT-kind packet counts into its entry, once the entry is open for its message (R288). -/
def putCount (s : State) (e : Nat) (pkt : Packet) (sparse : Bool) : Go Unit :=
  let fin (s : State) (cond : Nat) : Go Unit :=
    let m := tgetD s.route.msgs e {}
    .done () (msgTry (setMsg s e { m with
      count := m.count + pkt.payBytes, cond := Nat.lor m.cond cond,
      full := m.full || decide (m.count + pkt.payBytes = m.len) }) e)
  let m := tgetD s.route.msgs e {}
  if m.state = 2 then fin s 0
  else
    match (if sparse then sparsePieces s pkt else some (putPieces pkt)) with
    | none => fin s (condOf stNotPermitted)
    | some ps =>
      match putGate e m.sc ps s with
      | .wait s => .wait s
      | .refuse _ s => .wait s
      | .done xs s =>
        let (c, s) := putWrite e m.sc (pktPoison pkt) xs (putAccess s e m.sc xs)
        fin s c

/-- A packet that meets another message in its entry is discarded, with an ERROR event (R288). -/
def putClash (s : State) (port : Nat) (m : MsgEntry) (pkt : Packet) : State :=
  event (discardPacket s port) {
    source := portPage port, sev := sevError, cls := clLink, loc := pkt.src, detail := m.id + pkt.msgId * 65536 }

/-- A PUT-kind packet at a serving controller, its sender not fenced (R288). -/
def putServe (s : State) (port since : Nat) (pkt : Packet) (sparse : Bool) : Go Unit :=
  let e := pkt.src * 32 + pkt.msgId % 32
  let m := tgetD s.route.msgs e {}
  if m.state = 0 then
    if m.lastId = some pkt.msgId then .done () (discardPacket s port)
    else putCount (putOpen s port since e pkt) e pkt sparse
  else if m.id = pkt.msgId then putCount s e pkt sparse
  else .done () (putClash s port m pkt)

/-- A PUT-kind packet at a controller that is not serving: its entry is REFUSED with NOT_ADMITTED (Table 12-6). -/
def putIdle (s : State) (port : Nat) (pkt : Packet) : State :=
  let e := pkt.src * 32 + pkt.msgId % 32
  let m := tgetD s.route.msgs e {}
  let counted (s : State) (m : MsgEntry) : State := msgTry (setMsg s e { m with
    count := m.count + pkt.payBytes, full := m.full || decide (m.count + pkt.payBytes = m.len) }) e
  if m.state = 0 then
    if m.lastId = some pkt.msgId then discardPacket s port
    else counted s { lastId := m.lastId, state := 2, id := pkt.msgId, len := pkt.msgLen, ch := pkt.ch, sc := pkt.sc,
                     start := s.now, cond := condOf stNotAdmitted }
  else if m.id = pkt.msgId then counted s m
  else putClash s port m pkt

/-- A PUT-kind packet: it stays at its port while a write of it waits for a promotion or a busy mark. -/
def putPacket (kind port : Nat) (pkt : Packet) (s : State) : Result :=
  if pkt.ch < 4 ∨ pkt.kind ≠ kind ∨ ¬ isLocal s pkt.dest ∨ s.pair.pause then .next s
  else
    match popRx s port pkt with
    | none => .next s
    | some p =>
      if !serving s then
        (if relays s ∧ paired s ∧ pkt.dest = svcEid s then .next (relayPacket p port pkt)
         else .next (if eidFenced s pkt.src then discardPacket p port else putIdle p port pkt))
      else if eidFenced s pkt.src then .next (discardPacket p port)
      else
        match putServe s port (rxSince s port pkt) pkt (decide (kind = 1)) with
        | .wait s => .next s
        | .done _ s | .refuse _ s => .next ((popRx s port pkt).getD s)

/-- PUT_PACKET (R288). -/
def execPutPacket (port : Nat) (pkt : Packet) (s : State) : Result := putPacket 0 port pkt s
/-- PUT_SPARSE_PACKET (R218, R285). -/
def execPutSparsePacket (port : Nat) (pkt : Packet) (s : State) : Result := putPacket 1 port pkt s

/-- MSG_TIMEOUT (R289). -/
def execMsgTimeout (entry : Nat) (s : State) : Result :=
  let m := tgetD s.route.msgs entry {}
  guarded (decide (m.state ≠ 0)) s fun s =>
    event (msgEnd s entry m stInternal) { source := pgRTE, sev := sevWarn, cls := clLink, loc := entry / 32, status := stInternal }

/-! ## Answers to messages that the controller sent -/

/-- Messages of a tile that have no CMP yet. -/
def tileMsgs (s : State) (h num : Nat) : List OutMsg := s.cmd.sent.filter fun m => m.op = h && m.tile = num

/-- A CMP: its message is open no longer (R287); one message of its tile is complete with OK or BOUND_EXCEEDED, or the
tile fails with its status (R290). -/
def cmpServe (pkt : Packet) (s : State) : State :=
  let s := { s with cmd := { s.cmd with opened := s.cmd.opened.erase (pkt.src, pkt.msgId) } }
  match s.cmd.sent.find? fun m => m.dest = pkt.src && m.msgId = pkt.msgId with
  | none => s
  | some m =>
    let s := { s with cmd := { s.cmd with sent := s.cmd.sent.erase m } }
    if pkt.status = stOk ∨ pkt.status = stBoundExceeded then s else failTile s m.op m.tile pkt.status

/-- CMP_PACKET (R286, R290). -/
def execCmpPacket (port : Nat) (pkt : Packet) (s : State) : Result :=
  arrive s port pkt (decide (4 ≤ pkt.ch) && decide (pkt.kind = 2)) id (fun s => discardPacket s port) (cmpServe pkt)

/-- NOTIFY_PACKET (R286): consumed. -/
def execNotifyPacket (port : Nat) (pkt : Packet) (s : State) : Result :=
  arrive s port pkt (decide (4 ≤ pkt.ch) && decide (pkt.kind = 4)) id (fun s => discardPacket s port) id

/-- PUB_NOTIFY_PACKET (R286): consumed. -/
def execPubNotifyPacket (port : Nat) (pkt : Packet) (s : State) : Result :=
  arrive s port pkt (decide (4 ≤ pkt.ch) && decide (pkt.kind = 5)) id (fun s => discardPacket s port) id

/-- PUT_CMP_TIMEOUT (R290). -/
def execPutCmpTimeout (op tile : Nat) (s : State) : Result :=
  guarded (!(tileMsgs s op tile).isEmpty) s fun s =>
    let sent := s.cmd.sent.filter fun m => !(decide (m.op = op) && decide (m.tile = tile))
    failTile { s with cmd := { s.cmd with sent } } op tile stInternal

/-! ## Swapping a route -/

/-- No packet for the EID stands at an egress port, in a started unit or in a flit that is not acknowledged
(Table 12-5, step 3). -/
def drained (s : State) (eid : Nat) : Bool :=
  (rangeFrom 0 20).all fun p =>
    !((sched s p).units.any fun u => u.pkt.dest = eid) &&
    !((tgetD s.link.tx p []).any fun u => u.pkt.dest = eid) &&
    !((tgetD s.link.ports p {}).kept.any fun k => k.pkts.any fun x => x.dest = eid)

/-- A STORE PUT message that cannot be sent, since its EID has no valid entry, fails its tile at once (R277, R290). -/
def failUnsent (s : State) (dest msgId : Nat) : State :=
  match s.cmd.sent.find? fun m => m.dest = dest && m.msgId = msgId with
  | none => s
  | some m =>
    failTile { s with cmd := { s.cmd with
      sent := s.cmd.sent.erase m, opened := s.cmd.opened.erase (dest, msgId) } } m.op m.tile stNotPermitted

/-- Release the packets that an EID's drain held (Table 12-5, step 4). -/
def releaseHeld (s : State) (eid : Nat) : State :=
  let mine := s.route.held.filter fun u => u.pkt.dest = eid
  let s := { s with route := { s.route with held := s.route.held.filter fun u => u.pkt.dest ≠ eid } }
  let s := mine.foldl routePacket s
  if (route s eid).valid then s
  else (mine.filter fun u => decide (4 ≤ u.pkt.ch) && decide (u.pkt.kind ≤ 1)).foldl
    (fun s u => failUnsent s eid u.pkt.msgId) s

/-- The route with its set in use and its ordered set taken afresh (R278). -/
def freshRoute (s : State) (r : Route) : Route :=
  let (p, us) := pickSet s r
  { r with path := p, ordered := us, lost := 0, draining := false }

/-- The shadow of an entry; what has not been written there stands as in the live entry (R294). -/
def shadowOf (s : State) (eid : Nat) : BitVec 20 × BitVec 20 × Bool :=
  let r := route s eid
  tgetD s.route.shadow eid (r.ports, r.alt, r.valid)

/-- Step 4 of Table 12-5: the shadow becomes live. -/
def swapDone (s : State) (eid : Nat) : State :=
  let (ports, alt, valid) := shadowOf s eid
  let s := setRoute s eid (freshRoute s { route s eid with ports, alt, valid })
  let s := { s with route := { s.route with swapping := none, shadow := tdel s.route.shadow eid } }
  releaseHeld (wb s (ra pgRTE 0x118) 14 false) eid

/-- ROUTE_SWAP (R294): with nothing to drain the swap completes at once. -/
def execRouteSwap (id eid : Nat) (s : State) : Result :=
  guarded (isFw id && decide (eid < 4096) && s.route.swapping.isNone) s fun s =>
    let s := voidEid (setRoute s eid { route s eid with draining := true }) eid
    let s := wb { s with route := { s.route with swapping := some eid } } (ra pgRTE 0x118) 14 true
    if drained s eid then swapDone s eid else s

/-- ROUTE_SWAP_COMPLETE (R294). -/
def execRouteSwapComplete (s : State) : Result :=
  match s.route.swapping with
  | none => .next s
  | some eid => guarded (drained s eid) s fun s => swapDone s eid

/-- ROUTE_SWAP_ABORT (R294): the swap that runs is abandoned. -/
def execRouteSwapAbort (id _eid : Nat) (s : State) : Result :=
  match s.route.swapping with
  | none => .next s
  | some eid => guarded (isFw id) s fun s =>
    let s := setRoute s eid { route s eid with draining := false }
    let s := { s with route := { s.route with swapping := none, shadow := tdel s.route.shadow eid } }
    releaseHeld (wb (wb s (ra pgRTE 0x118) 14 false) (ra pgRTE 0x118) 15 true) eid

/-- ROUTE_RETURN_DRAIN_DONE (R280): the EID moves back to its primary set. -/
def execRouteReturnDrainDone (eid : Nat) (s : State) : Result :=
  let r := route s eid
  guarded (r.draining && decide (s.route.swapping ≠ some eid) && drained s eid) s fun s =>
    releaseHeld (setRoute s eid (freshRoute s r)) eid

/-! ## Fencing -/

/-- EID_FENCE (R291). -/
def execEidFence (id eid : Nat) (s : State) : Result :=
  guarded (isFw id && decide (eid < 4096)) s fun s =>
    let was := eidFenced s eid
    let s := setRoute s eid { route s eid with fenced := true }
    if was then s else fenceEffects s eid

/-- EID_UNFENCE (R291). -/
def execEidUnfence (id eid : Nat) (s : State) : Result :=
  guarded (isFw id && decide (eid < 4096)) s fun s =>
    setRoute s eid { route s eid with fenced := false, unreachable := false }

end Sys2Proof.Machine
end

