-- ==== Sys2Proof/Machine/Stations.lean ====
section
/-!
DEFINITION. Station records (chapter 08, Tables 8-5 to 8-19), the stream descriptor (Table 7-4), and the checks of
a chain before its first tile (R157, R188).
-/
namespace Sys2Proof.Machine

/-! ## Records -/

/-- Number of middle stations. -/
def nstat (o : Op) : Nat := fld (leAt o.desc 1 1) 0 4

/-- Record k of a chain: 0 the source, NSTAT + 1 the sink (R147). -/
def recOf (o : Op) (k : Nat) : Bytes :=
  if k = 0 then (o.entry.drop 16).take 24
  else if k ≤ nstat o then (o.desc.drop (64 + 24 * (k - 1))).take 24
  else (o.entry.drop 40).take 24

/-- A parameter of a record: offset and size in bytes. -/
def par (r : Bytes) (off size : Nat) : Nat := leAt r off size
/-- Bits of one byte of a record. -/
def parBits (r : Bytes) (off lo w : Nat) : Nat := fld (leAt r off 1) lo w

/-- Station code, and the MODE byte of those that have one. -/
def stCode (r : Bytes) : Nat := par r 0 1
def stMode (r : Bytes) : Nat := par r 1 1

/-- Header fields of the descriptor (Table 7-4). -/
def opClass (o : Op) : Nat := fld (leAt o.desc 4 1) 0 3
def opFaultPolicy (o : Op) : Nat := fld (leAt o.desc 4 1) 3 2
def opStoch (o : Op) : Bool := (leAt o.desc 4 1).testBit 5
def opSuspectPolicy (o : Op) : Nat := fld (leAt o.desc 4 1) 6 2
def opClusters (o : Op) : List Nat :=
  let m := fld (leAt o.desc 5 1) 0 4
  if m = 0 then [0, 1, 2, 3] else bitsFrom 4 0 m
def opCap (o : Op) : Nat := let c := leAt o.desc 6 2; if c = 0 then 512 else c
def opSeed (o : Op) : Nat := leAt o.desc 12 4

/-! ## Reserved bits (R156) -/

/-- A mask of whole bytes, and of bits of one byte. -/
def mBytes (off n : Nat) : Nat := (2 ^ (8 * n) - 1) * 2 ^ (8 * off)
def mBits (off lo w : Nat) : Nat := (2 ^ w - 1) * 2 ^ (8 * off + lo)

/-- The bits of a record that its station uses in its mode; every other is RSVD (R156; log entry 24). `mx` says that
the tile is in an MX format. -/
def usedBits (r : Bytes) (mx : Bool) : Nat :=
  let va := mBytes 8 8
  let va2 := mBytes 16 8
  mBytes 0 1 +
  match stCode r with
  | 0x01 => mBytes 1 2 +
    (match stMode r with
     | 0 => mBits 3 0 5 + mBytes 4 4 + va + if mx then va2 else 0
     | 1 => mBits 3 0 5 + mBytes 4 4 + va + va2
     | _ => mBits 3 0 5 + va + va2)
  | 0x02 => mBytes 1 2 + mBits 3 0 4 + va + if stMode r = 2 then mBytes 4 4 else 0
  | 0x10 => 0
  | 0x11 => mBytes 1 1 + mBits 2 0 2 + mBytes 4 4
  | 0x12 => mBytes 1 1 +
    (match stMode r with
     | 0 => mBytes 2 1 + mBytes 8 4
     | 1 => mBits 2 0 2 + mBytes 3 3
     | _ => mBytes 3 3 + va2)
  | 0x13 =>
    (match stMode r with
     | 6 => mBytes 1 1 + mBytes 3 1 + mBytes 8 4
     | 5 => mBytes 1 3 + mBits 4 0 4 + mBytes 8 4 + va2
     | _ => mBytes 1 3 + mBits 4 0 4 + va2)
  | 0x14 => mBits 1 0 5 +
    (if parBits r 1 0 2 = 0 then mBytes 4 4 + va + va2 else mBytes 2 2)
  | 0x15 => mBytes 1 1 + mBits 2 0 1 + va
  | 0x16 => mBits 1 0 2 + mBytes 4 4
  | 0x17 => mBits 1 0 5 + mBytes 2 2 + mBytes 4 4 + va
  | 0x18 => mBits 1 0 2 + mBytes 2 1 + mBytes 7 16 + if parBits r 1 0 1 = 1 then mBytes 3 4 else 0
  | 0x20 => mBytes 1 1 +
    (match stMode r with
     | 0 => mBits 2 4 1 + mBytes 4 4 + va + if mx then va2 else 0
     | 1 => mBits 2 0 5 + mBytes 4 4 + va + va2
     | 2 => mBits 2 4 1 + va + va2
     | 3 => mBits 2 4 3 + mBits 3 0 3 + va + if parBits r 2 5 1 = 1 then mBytes 4 1 else mBits 4 0 12
     | 4 => mBytes 3 1 + va
     | _ => 0)
  | _ => 0

/-- No RSVD bit of a record is set. -/
def recClean (r : Bytes) (mx : Bool) : Bool := decide (Nat.land (leNat r) (usedBits r mx) = leNat r)

/-! ## Shapes: what the records alone say of a tile between stations (R175, R176, R188) -/

/-- Format, elements, form, and elements per routed row (0 where the rows are not routed). -/
structure Shape where
  fmt : Nat
  e : Nat
  sparse : Bool := false
  rowLen : Nat := 0
  deriving DecidableEq, Repr, Inhabited

/-- Bytes of the dense tile. -/
def Shape.bytes (x : Shape) : Nat := elemBytes x.fmt x.e

/-- E of a source (R176): none where it is refused. -/
def sourceE (fmt size : Nat) : Option Nat :=
  if 4 < size then none
  else
    let e := if size ≠ 0 then 512 * 2 ^ size else if elemBits fmt = 6 then 4096 else 32768 / elemBits fmt
    if elemBytes fmt e ≤ 4096 then some e else none

/-- The shape that a source gives (Table 8-4). -/
def sourceShape (r : Bytes) : Option Shape :=
  let fmt := par r 2 1
  if !isFmt fmt ∨ fmt = fmtPair ∨ ¬ recClean r (isMx fmt) then none
  else
    match stCode r, stMode r with
    | 0x01, 0 => (sourceE fmt (parBits r 3 0 4)).map fun e => { fmt, e }
    | 0x01, 1 => if isMx fmt ∨ 6 < parBits r 3 0 4 then none else some { fmt, e := 32768 / elemBits fmt }
    | 0x01, 2 => if isMx fmt ∨ parBits r 3 0 4 ≠ 0 then none
        else some { fmt, e := 32768 / elemBits fmt, sparse := true }
    | 0x02, 0 | 0x02, 1 | 0x02, 2 => if isMx fmt then none else (sourceE fmt (parBits r 3 0 4)).map fun e => { fmt, e }
    | _, _ => none

/-- The output format of REDUCE and of COMPARE's difference. -/
def accFmt (fmt : Nat) : Nat := if isIntFmt fmt then 0x10 else 0x00

/-- The shape after a middle station, none where the chain is refused (Table 8-4 and the records' own limits). -/
def middleShape (r sink : Bytes) (x : Shape) : Option Shape :=
  let plain := decide (x.fmt ≠ fmtPair) && !isMx x.fmt
  if !recClean r (isMx x.fmt) then none
  else
    match stCode r with
    | 0x10 => if x.sparse then some { x with sparse := false } else none
    | 0x11 =>
      let toFmt := par r 1 1
      if !x.sparse ∧ x.fmt ≠ fmtPair ∧ isFmt toFmt ∧ toFmt ≠ fmtPair then some { x with fmt := toFmt } else none
    | 0x12 =>
      if x.sparse ∨ ¬ plain then none
      else
        let k := par r 3 1
        let rl := par r 4 2
        match stMode r with
        | 0 => if par r 2 1 ≤ 7 then some x else none
        | 1 => if 1 ≤ k ∧ k ≤ 64 ∧ 1 ≤ rl ∧ rl ≤ 8192 ∧ rl ≤ x.e ∧ k ≤ rl ∧ x.e / rl * k * 8 ≤ 32768 then
            some { fmt := fmtPair, e := x.e / rl * k } else none
        | 2 => if 1 ≤ k ∧ k ≤ 8 ∧ 1 ≤ rl ∧ rl ≤ 8192 ∧ rl ≤ x.e ∧ rl * elemBits x.fmt % 512 = 0 ∧ stMode sink = 4 then
            some { x with rowLen := rl } else none
        | _ => none
    | 0x13 =>
      let op := par r 1 1
      let bf := par r 2 1
      let of := par r 3 1
      if !x.sparse ∧ plain ∧ op ≤ 6 ∧ isFmt bf ∧ ¬ isMx bf ∧ bf ≠ fmtPair ∧ [0, 1, 2, 3, 4, 0x10, 0x11].contains of ∧
          parBits r 4 0 4 ≤ 12 then some { x with fmt := of } else none
    | 0x14 =>
      let op := parBits r 1 2 2
      match parBits r 1 0 2 with
      | 0 =>
        if ¬ plain ∨ op = 3 ∨ par r 4 4 = 0 then none
        else if (par r 1 1).testBit 4 then some { fmt := accFmt x.fmt, e := x.e, rowLen := x.rowLen }
        else if stMode sink = 5 then some { fmt := accFmt x.fmt, e := 0 } else none
      | 1 =>
        let row := 2 ^ par r 2 1
        let l := par r 3 1
        if x.sparse ∨ ¬ plain ∨ op = 3 ∨ 13 < par r 2 1 ∨ l = 0 ∨ 64 < l ∨ x.e % row ≠ 0 ∨ x.e / row % l ≠ 0 then none
        else some { fmt := accFmt x.fmt, e := x.e / l }
      | _ => none
    | 0x15 =>
      if isFloatFmt x.fmt ∧ par r 1 1 ≤ 2 ∧ par r 8 8 % 64 = 0 then some { x with fmt := 0, sparse := false } else none
    | 0x16 =>
      if !x.sparse ∧ plain ∧ x.bytes = 4096 ∧ parBits r 1 0 2 ≤ 2 then some { x with sparse := true, rowLen := 0 } else none
    | 0x17 => if !x.sparse ∧ x.fmt ≠ fmtPair then some x else none
    | 0x18 =>
      let bf := par r 2 1
      if !x.sparse ∧ x.fmt ≠ fmtPair ∧ isFmt bf ∧ bf ≠ fmtPair ∧ par r 15 8 % 32 = 0 ∧
          (parBits r 1 0 1 = 1 ∨ bf = x.fmt) then
        (if parBits r 1 1 1 = 1 then some { x with fmt := if isIntFmt x.fmt && isIntFmt bf then 0x10 else 0x00 }
         else some x)
      else none
    | _ => none

/-- The sink accepts the tile that reaches it (R188, R211, R212). -/
def sinkOk (r : Bytes) (x : Shape) : Bool :=
  recClean r (isMx x.fmt) && decide (stCode r = 0x20) &&
  match stMode r with
  | 0 => !x.sparse
  | 1 =>
    let row := 2 ^ (6 + parBits r 2 0 4)
    !x.sparse && !isMx x.fmt && decide (parBits r 2 0 4 ≤ 6) && decide (row ≤ x.bytes) && decide (x.bytes % row = 0)
  | 2 => x.sparse
  | 3 => if parBits r 2 4 1 = 1 then !isMx x.fmt && decide (x.fmt ≠ fmtPair) else !x.sparse && !isMx x.fmt
  | 4 => !x.sparse && !isMx x.fmt && decide (x.fmt ≠ fmtPair) && decide (x.rowLen ≠ 0) && decide (1 ≤ par r 3 1) &&
      decide (par r 3 1 ≤ 64)
  | 5 => true
  | _ => false

/-- The shapes on entry to records 1 … NSTAT + 1, from the shape on entry to the first. -/
def shapesFrom (sink : Bytes) : List Bytes → Shape → Option (List Shape)
  | [], x => some [x]
  | r :: rs, x => (middleShape r sink x).bind fun y => (shapesFrom sink rs y).map fun l => x :: l

/-- The shapes that enter records 1 … NSTAT + 1 of an operation's chain. -/
def shapes (o : Op) : Option (List Shape) :=
  let sink := recOf o (nstat o + 1)
  (sourceShape (recOf o 0)).bind fun x =>
    shapesFrom sink ((rangeFrom 1 (nstat o)).map (recOf o)) x

/-- The shape that enters record k, k ≥ 1. -/
def shapeAt (o : Op) (k : Nat) : Shape := nth ((shapes o).getD []) (k - 1) default

/-! ## Auxiliary operands (R233, R237) -/

/-- Number of B elements that tile i of COMBINE meets, and the first of them (R201). -/
def combineB (r : Bytes) (i e : Nat) : Nat × Nat :=
  let bc := 2 ^ parBits r 4 0 4
  let first := i * e / bc
  if e = 0 then (first, 0) else (first, (i * e + e - 1) / bc - first + 1)

/-- Bytes of auxiliary operands that a station brings for one tile; UPDATE's follow its block. -/
def auxNeed (r : Bytes) (x : Shape) (upd : Nat) : Nat :=
  match stCode r with
  | 0x13 => if stMode r = 6 then 0 else ceilDiv ((combineB r 0 x.e).2 * elemBits (par r 2 1)) 8
  | 0x15 => x.e * upd
  | 0x17 => if (par r 1 1).testBit 3 && !(par r 1 1).testBit 4 then 4 else 0
  | 0x18 => elemBytes (par r 2 1) x.e
  | _ => 0

/-- Auxiliary bytes of the whole chain, given the bytes per element of each UPDATE station in order. -/
def auxTotal (o : Op) : List (Bytes × Shape) → List Nat → Nat
  | [], _ => 0
  | (r, x) :: rs, us =>
    if stCode r = 0x15 then auxNeed r x (us.headD 0) + auxTotal o rs us.tail
    else auxNeed r x 0 + auxTotal o rs us

/-- The middle records with the shapes that enter them. -/
def middles (o : Op) : List (Bytes × Shape) :=
  (rangeFrom 1 (nstat o)).map fun k => (recOf o k, shapeAt o k)

/-- Middle stations that are UPDATE, in record order. -/
def updates (o : Op) : List Nat := (rangeFrom 1 (nstat o)).filter fun k => stCode (recOf o k) = 0x15

/-- The middle station that folds with an arrival record (R215). -/
def arrivalStations (o : Op) : List Nat :=
  (rangeFrom 1 (nstat o)).filter fun k =>
    decide (stCode (recOf o k) = 0x14) && decide (parBits (recOf o k) 1 0 2 = 0) && decide (par (recOf o k) 16 8 ≠ 0)

/-- The first REDUCE in ACCUM mode of a chain. -/
def accumStation (o : Op) : Option Nat :=
  (rangeFrom 1 (nstat o)).find? fun k => decide (stCode (recOf o k) = 0x14) && decide (parBits (recOf o k) 1 0 2 = 0)

/-- A tile of the chain carries poison instead of consuming it (R360). -/
def carries (o : Op) : Bool :=
  let src := recOf o 0
  let snk := recOf o (nstat o + 1)
  decide (nstat o = 0) && decide (stCode src = 0x01) && decide (stMode src ≤ 1) &&
  (decide (stMode snk ≤ 1) || (decide (stMode snk = 3) && decide (parBits snk 2 4 1 = 0)))

/-! ## The checks before the first tile -/

/-- A core is in service. -/
def coreRole (s : State) (c : Nat) : Nat := rf s (ra (pgCORE + c) 0x100) 0 2
def coreInService (s : State) (c : Nat) : Bool := decide (coreRole s c = 0)

/-- R157: the descriptor and the records are accepted. An INFLIGHT_CAP above 512, which R157 does not list, is no accepted
value (DESIGN CHOICE, log entry 79). -/
def chainOk (s : State) (o : Op) : Bool :=
  let n := nstat o
  decide (leAt o.desc 0 1 = 1) && decide (fld (leAt o.desc 1 1) 4 4 = 0) && decide (n ≤ 8) &&
  decide (leAt o.desc 2 2 < 4096) && decide (fld (leAt o.desc 5 1) 4 4 = 0) && decide (leAt o.desc 6 2 ≤ 512) &&
  decide (2 ≤ opClass o) && decide (opClass o ≤ 6) && classAllowed s (qReq o.queue) (opClass o) &&
  decide (opFaultPolicy o ≠ 3) && decide (opSuspectPolicy o ≠ 3) &&
  decide (leNat ((o.desc.drop 16).take 48) = 0) && decide (leNat (o.desc.drop (64 + 24 * n)) = 0) &&
  ((opClusters o).any fun cl => (rangeFrom (5 * cl) 5).any (coreInService s)) &&
  (match shapes o with
   | some l => sinkOk (recOf o (n + 1)) (nth l n default) && decide (auxTotal o (middles o) [] ≤ 65536)
   | none => false)

/-! ## OCC (R177) -/

/-- First element of group k of E, and one past its last. -/
def groupSpan (e k : Nat) : Nat × Nat :=
  if 64 ≤ e then (k * e / 64, (k + 1) * e / 64) else if k < e then (k, k + 1) else (e, e)

/-- OCC as a source computes it: groups whose bytes are not all zero. -/
def occOf (xs : List (BitVec 64)) : BitVec 64 :=
  let e := xs.length
  let bits := (rangeFrom 0 64).map fun k =>
    let (a, b) := groupSpan e k
    ((xs.drop a).take (b - a)).any fun c => decide (c ≠ 0)
  BitVec.ofNat 64 ((bits.foldr (fun b n => 2 * n + if b then 1 else 0) 0))

/-- The group of an element. -/
def groupOf (e j : Nat) : Nat :=
  if 64 ≤ e then ((rangeFrom 0 64).find? fun k => decide (j < (groupSpan e k).2)).getD 63 else j

/-- The elements marked with their number. -/
def indexed {α : Type} : Nat → List α → List (Nat × α)
  | _, [] => []
  | n, x :: xs => (n, x) :: indexed (n + 1) xs

/-! ## Sparse blocks (R184 to R187) -/

/-- Malformed N:M indices: a group of indices that does not ascend strictly. -/
def ascending : List Nat → Bool
  | a :: b :: l => decide (a < b) && ascending (b :: l)
  | _ => true

/-- Values kept per group, index bits, and group size of an NM code. -/
def nmShape (nm : Nat) : Nat × Nat × Nat := if nm = 1 then (2, 2, 4) else (4, 3, 8)

/-- The in-group indices of group g of a block (Table 8-3). -/
def nmIndices (nm : Nat) (block : Bytes) (g : Nat) : List Nat :=
  let (k, w, _) := nmShape nm
  let md := leNat (block.drop 32)
  (rangeFrom 0 k).map fun j => fld md (k * w * g + w * j) w

/-- Groups of a block of 64 B. -/
def nmGroups (fmt nm : Nat) : Nat := 512 / elemBits fmt / (nmShape nm).2.2

/-- Every metadata group of a block ascends. -/
def blockOk (fmt nm : Nat) (block : Bytes) : Bool :=
  decide (nm = 0) || (rangeFrom 0 (nmGroups fmt nm)).all fun g => ascending (nmIndices nm block g)

/-- The elements of a stored block, decompressed (R194). -/
def blockElems (fmt nm : Nat) (block : Bytes) : List (BitVec 64) :=
  let xs := unpackElems fmt block
  if nm = 0 then xs
  else
    let (k, _, n) := nmShape nm
    (rangeFrom 0 (nmGroups fmt nm)).flatMap fun g =>
      let ix := nmIndices nm block g
      (rangeFrom 0 n).map fun p =>
        match ix.findIdx? (· = p) with
        | some j => nth xs (k * g + j) 0
        | none => 0

/-- The dense elements of stored blocks: absent groups are +0. -/
def expandBlocks (fmt nm : Nat) (occ : BitVec 64) : Nat → List Bytes → List (BitVec 64)
  | k, bs =>
    let n := 512 / elemBits fmt
    ((rangeFrom k (64 - k)).foldl (fun (acc : List (List (BitVec 64)) × List Bytes) g =>
      if occ.getLsbD g then (blockElems fmt nm (acc.2.headD []) :: acc.1, acc.2.tail)
      else (List.replicate n 0 :: acc.1, acc.2)) ([], bs)).1.reverse.flatten

/-- The 16 bytes of a header (Table 8-2). -/
def headerBytes (occ : BitVec 64) (off fmt nm nblk : Nat) : Bytes :=
  natLe 16 (occ.toNat + off % 2 ^ 32 * 2 ^ 64 + fmt * 2 ^ 96 + nm * 2 ^ 104 + nblk * 2 ^ 106)

/-- A header that R187 accepts for a reading format. -/
def headerOk (h fmt : Nat) : Bool :=
  decide (fld h 106 7 = popc 64 (fld h 0 64)) && decide (fld h 96 8 = fmt) && decide (fld h 104 2 ≠ 3) &&
  decide (fld h 113 15 = 0)

/-! ## Tile values -/

/-- The elements of a tile, a sparse one in dense form. -/
def tileElems (t : Tile) : List (BitVec 64) :=
  if t.sparse then expandBlocks t.fmt t.nm t.occ 0 t.blocks else t.elems

/-- The working values of a tile (R182); MX elements with their scales. -/
def tileNums (t : Tile) : List Num :=
  if isMx t.fmt then (indexed 0 t.elems).map fun x =>
    .fp (mxValue t.fmt x.2.toNat (nth t.scales (x.1 / 32) 0).toNat)
  else (tileElems t).map fun c => numOf t.fmt c.toNat

/-- Random bits of an operation's tile, or nearest even (R183). -/
def tileRnd (o : Op) (i j : Nat) : Rnd := if opStoch o then some (stochBits (opSeed o) i j) else none

/-- Element rate of a format (Table 10-1). -/
def laneRate (fmt : Nat) : Nat :=
  match fmt with
  | 0x00 | 0x10 | 0x20 => 32
  | 0x01 | 0x02 => 64
  | 0x0C | 0x12 => 256
  | _ => 128

end Sys2Proof.Machine
end

