-- ==== Sys2Proof/Machine/TileMem.lean ====
section
/-!
DEFINITION. How a tile reaches memory: its translations (R52, R62, R73), its reads with poison (R359), its accesses
as the tiers count them (R126), and the frame that every station command shares.
-/
namespace Sys2Proof.Machine

/-! ## Translation -/

/-- The user that a tile is. -/
def tileUser (o : Op) (h : Nat) (t : Tile) : User :=
  { opUser o (.tile h t.num) h with serial := some t.serial, cls := opClass o }

/-- Translate one address of a tile: a translation that it holds stands until it ends (R73). -/
def tileXlate (h num va : Nat) (write : Bool) (s : State) : Go Nat :=
  match opOf s h, tileOf s h num with
  | some o, some t =>
    let va := va % 2 ^ 64
    match t.leaves.find? fun l => decide (l.vpn = va / 4096) && (!write || l.write) with
    | some l => .done (l.pa + va % 4096) s
    | none =>
      match xlate s (t.core / 5) (opCtx o) o.dom va h num write with
      | .hit pa none s => .done pa s
      | .hit pa (some f) s =>
        let l : Held := { vpn := va / 4096, pa := pa - va % 4096, write, base := f.vpn, pages := f.pages }
        .done pa (modTile s h num fun t => { t with leaves := t.leaves ++ [l] })
      | .fault code level s => .refuse stTransFault (recordFault s h num va code level)
      | .wait s => .wait s
  | _, _ => .wait s

/-- The 4 KiB pieces of a run of addresses. -/
def vaPieces : Nat → Nat → Nat → List (Nat × Nat)
  | 0, _, _ => []
  | k + 1, va, n =>
    if n = 0 then []
    else
      let m := min n (4096 - va % 4096)
      (va, m) :: vaPieces k (va + m) (n - m)

/-- Translate a run: its (PA, bytes) pieces. -/
def tileRuns (h num va n : Nat) (write : Bool) (s : State) : Go (List (Nat × Nat)) :=
  goList (fun p s => (tileXlate h num p.1 write s).bind fun pa s => .done (pa, p.2) s)
    (vaPieces (n / 4096 + 2) va n) s

/-! ## Accesses -/

/-- A tile, and its operation's run, lose their bounds where one of the lines that it reaches is being moved (Table 5-2). -/
def tileSpanVoid (h num : Nat) (runs : List (Nat × Nat)) (s : State) : State :=
  if (runs.flatMap fun r => linesOf r.1 r.2).any (lineVoid s) then
    modOp (modTile s h num fun t => { t with void := true }) h fun o => { o with void := true }
  else s

/-- Count a tile's accesses: once for each page it touches, however often (R126, R127). -/
def tileTouch (h num : Nat) (runs : List (Nat × Nat)) (s : State) : State :=
  match tileOf s h num with
  | none => s
  | some t =>
    let s := tileSpanVoid h num runs s
    let subs := (runs.flatMap fun r => subsOf r.1 r.2).eraseDups
    let pages := (subs.map fun q => q / 32).eraseDups
    let fresh := pages.filter fun p => !t.touched.contains p
    let s := modTile s h num fun t => { t with touched := t.touched ++ fresh }
    let s := touchPages s (subs.filter fun q => fresh.contains (q / 32))
    let s := (subs.filter fun q => !fresh.contains (q / 32)).foldl (fun s q =>
      let r := pageRec s (q / 32)
      setPage s (q / 32) { r with touched := setBit r.touched (q % 32) }) s
    subs.foldl hotPromote s

/-- The residency test of a tile's class at every sub-page that it reaches (R106, R107). -/
def tileResident (o : Op) (h : Nat) (t : Tile) (runs : List (Nat × Nat)) (s : State) : Bool :=
  (runs.flatMap fun r => runHeads r.1 r.2).all fun pa =>
    match userPlace s (tileUser o h t) pa false with
    | some pl => residencyOk s (opClass o) pl.reg (tierState s (tileUser o h t) pl)
    | none => true

/-- A tile has failed the residency test: its admission is undone (R107). -/
def tileNotResident (o : Op) (t : Tile) (runs : List (Nat × Nat)) (s : State) : State :=
  let s := count (touchPages s ((runs.flatMap fun r => subsOf r.1 r.2).eraseDups)) pgTIER 7 1
  unadmit s (qReq o.queue) (opClass o) 4096 (if t.started then [] else [(24 + t.core / 5, 4096)])

/-- Read a run of pool memory for a tile: its bytes and the poisoned parts, as (offset in the run, bytes, code). -/
def tilePaRead (h num pa n : Nat) (s : State) : Go (Bytes × List (Nat × Nat × Nat)) :=
  match opOf s h, tileOf s h num with
  | some o, some t =>
    let u := tileUser o h t
    if !tileResident o h t [(pa, n)] s then .refuse stNotResident (tileNotResident o t [(pa, n)] s)
    else (userRead s u pa n).bind fun x s =>
      let bad := (indexed 0 x.2).filterMap fun l =>
        if l.2 = 0 then none
        else
          let a := max pa ((pa / 64 + l.1) * 64)
          let b := min (pa + n) ((pa / 64 + l.1 + 1) * 64)
          some (a - pa, b - a, l.2)
      .done (x.1, bad) s
  | _, _ => .wait s

/-- The poisoned parts of one run moved to where it stands in a longer one. -/
def shiftBad (off : Nat) (bad : List (Nat × Nat × Nat)) : List (Nat × Nat × Nat) :=
  bad.map fun b => (b.1 + off, b.2.1, b.2.2)

/-- Join the parts of a read in order. -/
def joinParts : Nat → List (Bytes × List (Nat × Nat × Nat)) → Bytes × List (Nat × Nat × Nat)
  | _, [] => ([], [])
  | off, (b, bad) :: ps =>
    let (bs, bads) := joinParts (off + b.length) ps
    (b ++ bs, shiftBad off bad ++ bads)

/-- Read a run of a tile's addresses. -/
def tileGet (h num va n : Nat) (s : State) : Go (Bytes × List (Nat × Nat × Nat)) :=
  (tileRuns h num va n false s).bind fun runs s =>
    (goList (fun r s => tilePaRead h num r.1 r.2 s) runs s).bind fun parts s =>
      .done (joinParts 0 parts) (tileTouch h num runs s)

/-- A tile has consumed poison: the event, and the code that a lost fold leaves (R359, R222). -/
def poisonEaten (h num : Nat) (pa code : Nat) (s : State) : State :=
  let s := event s { source := pgFLT, sev := sevInfo, cls := clPoison, handle := h, loc := pa, pcode := code }
  modTile s h num fun t => { t with eaten := code }

/-- A read by a computing tile: poison fails the tile (R359). -/
def tileEat (h num va n : Nat) (s : State) : Go Bytes :=
  (tileGet h num va n s).bind fun x s =>
    match x.2 with
    | [] => .done x.1 s
    | b :: _ =>
      match tileXlate h num (va + b.1) false s with
      | .done pa s => .refuse stPoison (poisonEaten h num pa b.2.2 s)
      | .wait s | .refuse _ s => .refuse stPoison (poisonEaten h num 0 b.2.2 s)

/-- Take the lines of a run from their holders, so that what the tile reads there next is memory's, and what it then
writes joins it in one step (R185, R203, R212). -/
def tileClaim (h num va n : Nat) (s : State) : Go Unit :=
  (tileRuns h num va n true s).bind fun runs s =>
    match opOf s h, tileOf s h num with
    | some o, some t =>
      let (free, s) := runs.foldl (fun acc r =>
        let (f, s) := claimRun acc.2 (tileUser o h t) r.1 r.2
        (acc.1 && f, s)) (true, s)
      if free then .done () s else .wait s
    | _, _ => .wait s

/-- A write that a tile will make at its commit (R190), cut at its pages. -/
def tilePut (h num va : Nat) (bs : Bytes) (s : State) (pcode : Nat := 0) : Go Unit :=
  (tileRuns h num va bs.length true s).bind fun runs s =>
    let ws := (runs.foldl (fun (acc : List PendWrite × Bytes) r =>
      (acc.1 ++ [{ pa := r.1, data := acc.2.take r.2, pcode }], acc.2.drop r.2)) ([], bs)).1
    .done () (modTile s h num fun t => { t with writes := t.writes ++ ws })

/-! ## Station commands -/

/-- A tile in an engine whose next record is number k, with its operation and that record. -/
structure At where
  o : Op
  t : Tile
  r : Bytes
  deriving Repr

/-- The tile that a station command names, where it stands before a record that the test accepts. -/
def stationAt (s : State) (h num : Nat) (p : Op → Tile → Bytes → Bool) : Option At :=
  match opOf s h, tileOf s h num with
  | some o, some t =>
    let r := recOf o t.stage
    if t.eng.isSome && decide (t.stage ≤ nstat o + 1) && !t.issued && p o t r then some ⟨o, t, r⟩ else none
  | _, _ => none

/-- Station cost in datapath cycles, at least one (R235). -/
def cyclesOf (n r : Nat) : Nat := max 1 (ceilDiv n (max 1 r))

/-- PRE_SCALE of CONVERT as FP32; 0 means 1.0 (Table 8-7). -/
def preScale (r : Bytes) : Fp := if par r 4 4 = 0 then fp32 0x3F800000 else fp32 (par r 4 4)

/-- The station skips absent groups (Table 10-2). -/
def skips (a : At) : Bool :=
  match stCode a.r with
  | 0x10 | 0x11 | 0x16 | 0x17 => true
  | 0x12 => decide (stMode a.r = 0)
  | 0x13 => decide (stMode a.r = 6) && (isIntFmt a.t.fmt || fpFinite (fp32 (par a.r 8 4)))
  | 0x14 => decide (parBits a.r 1 0 2 = 0)
  | 0x15 => decide (parBits a.r 2 0 1 = 1)
  | _ => false

/-- The groups that a station computes: one that skips computes those whose OCC bit is set, unless another operand is NaN or
infinite (R178, R235). -/
def computed (a : At) : BitVec 64 :=
  if skips a && (decide (stCode a.r ≠ 0x11) || fpFinite (preScale a.r)) then a.t.occ else BitVec.allOnes 64

/-- Datapath cycles of a station whose cost follows the groups that it computes (Table 10-2). -/
def groupCycles (a : At) (rate : Nat) : Nat :=
  cyclesOf (ceilDiv ((tileElems a.t).length * popc 64 (computed a).toNat) 64) rate

/-- The station may clear OCC bits of the groups that enter it: MASK and COMPACT (R198, R208). -/
def discards (r : Bytes) : Bool := (decide (stCode r = 0x12) && decide (stMode r = 0)) || decide (stCode r = 0x16)

/-- What a station adds to the account of a tile's datapath slots (R242). A group that a later MASK or COMPACT clears, and one
that a station which does not skip has computed as all +0, does not count as retired. -/
def spansAfter (a : At) (cyc : Nat) (u : Tile) : List (BitVec 64 × Nat × Nat) :=
  let e := if a.t.stage = 0 then u.elems.length else if a.t.sparse then 64 else a.t.elems.length
  let made := computed a &&& BitVec.ofNat 64 (2 ^ min 64 e - 1)
  let kept := if skips a || decide (u.elems.length ≠ e) then made else made &&& occOf u.elems
  let gone := a.t.occ &&& ~~~u.occ
  let old := if discards a.r then a.t.spans.map fun x => (x.1 &&& ~~~gone, x.2) else a.t.spans
  if cyc = 0 then old else old ++ [(kept, popc 64 made.toNat, cyc)]

/-- The datapath cycles of a committed tile that count as retired. DESIGN CHOICE: the cycles of a station divide among the
groups that it computed, rounded down, and those of one that computed none are retired (log entry 83). -/
def retiredWork (t : Tile) : Nat :=
  (t.spans.map fun x => if x.2.1 = 0 then x.2.2 else x.2.2 * popc 64 x.1.toNat / x.2.1).sum

/-- Run a station: it waits, it fails the tile, or the tile goes on changed with its cycles counted. -/
def runStation (s : State) (h num : Nat) (p : Op → Tile → Bytes → Bool)
    (f : At → State → Go ((Tile → Tile) × Nat)) : Result :=
  match stationAt s h num p with
  | none => .next s
  | some a =>
    match f a s with
    | .wait s => .next s
    | .refuse st s => .next (failTile (forgetSnoops s (.tile h num)) h num st)
    | .done (g, cyc) s =>
      let s := forgetSnoops s (.tile h num)
      .next (modTile s h num fun t =>
        let u := g t
        { u with stage := t.stage + 1, work := t.work + cyc, spans := spansAfter a cyc u })

/-- The tile stands before the record and its station has a code. -/
def isStation (code : Nat) : Op → Tile → Bytes → Bool := fun _ _ r => decide (stCode r = code)

/-- The tile stands before the record and its station has a code and a mode byte. -/
def isMode (code mode : Nat) : Op → Tile → Bytes → Bool :=
  fun _ _ r => decide (stCode r = code) && decide (stMode r = mode)

/-- Give a tile dense elements of a format with an OCC; every NaN among them is canonical (R182). -/
def withElems (fmt : Nat) (xs : List (BitVec 64)) (occ : BitVec 64) (t : Tile) : Tile :=
  { t with fmt, elems := xs.map fun c => BitVec.ofNat 64 (canonCode fmt c.toNat), occ, sparse := false, blocks := [], scales := [], nm := 0 }

/-- OCC of a station that keeps it, with the groups that it has made non-zero (R175, R177; log entry 25). -/
def keepOcc (t : Tile) (xs : List (BitVec 64)) : BitVec 64 := t.occ ||| occOf xs

end Sys2Proof.Machine
end

