-- ==== Sys2Proof/Machine/Sources.lean ====
section
/-!
DEFINITION. The source stations FETCH and FILL (R191 to R193) and EXPAND (R194).
-/
namespace Sys2Proof.Machine

/-! ## Placement -/

/-- Address of tile i of a RANGE (R191): VA + i × S, or VA − i × S with DIR = 1. -/
def rangeVa (r : Bytes) (dirByte tileBytes i : Nat) : Nat :=
  let s := if par r 4 4 = 0 then tileBytes else par r 4 4 * 64
  if parBits r dirByte 4 1 = 1 then (par r 8 8 + 2 ^ 64 * (i * s / 2 ^ 64 + 1) - i * s) % 2 ^ 64
  else (par r 8 8 + i * s) % 2 ^ 64

/-- Address of the scales of tile i (R181). -/
def scaleVa (r : Bytes) (e i : Nat) : Nat := (par r 16 8 + i * e / 32) % 2 ^ 64

/-- Row bytes of GATHER and SCATTER, and rows of a tile (R191, R211). -/
def gatherRow (r : Bytes) : Nat := 2 ^ (6 + parBits r 3 0 4)
def scatterRow (r : Bytes) : Nat := 2 ^ (6 + parBits r 2 0 4)

/-- Address of a sparse header (R184). -/
def headerVa (r : Bytes) (packed : Bool) (i : Nat) : Nat :=
  (par r 8 8 + 16 * i + if packed then 16 else 0) % 2 ^ 64

/-- The E and bytes of a source's tile. -/
def srcShape (o : Op) : Shape := (sourceShape (recOf o 0)).getD default

/-- The 64 B blocks of a tile's source that poison covers, each with its code (R360); the blocks of the scale array
are numbered from 2^20. -/
def carryBlocks (base : Nat) (bad : List (Nat × Nat × Nat)) : List (Nat × Nat) :=
  bad.flatMap fun b => (rangeFrom (b.1 / 64) ((b.1 + b.2.1 - 1) / 64 - b.1 / 64 + 1)).map fun k => (base + k, b.2.2)

/-- Read for a source: a carrying tile keeps the poison, every other consumes it (R359, R360). -/
def sourceRead (a : At) (h num va n : Nat) (s : State) : Go (Bytes × List (Nat × Nat × Nat)) :=
  if carries a.o then tileGet h num va n s
  else (tileEat h num va n s).bind fun b s => .done (b, []) s

/-! ## FETCH -/

/-- FETCH_RANGE (R191). -/
def execFetchRange (op tile : Nat) (s : State) : Result :=
  runStation s op tile (fun o t r => isMode 0x01 0 o t r && decide (t.stage = 0)) fun a s =>
    let x := srcShape a.o
    (sourceRead a op tile (rangeVa a.r 3 x.bytes tile) x.bytes s).bind fun d s =>
      let go (sc : Bytes × List (Nat × Nat × Nat)) (s : State) : Go ((Tile → Tile) × Nat) :=
        let xs := unpackElems x.fmt d.1
        .done (fun t => { withElems x.fmt xs (occOf xs) t with
          scales := sc.1, carried := carryBlocks 0 d.2 ++ carryBlocks (0x100000) sc.2 }, 0) s
      if isMx x.fmt then (sourceRead a op tile (scaleVa a.r x.e tile) (x.e / 32) s).bind go
      else go ([], []) s

/-- Read the rows of a GATHER tile: index by index (R191, R192). -/
def gatherRows (a : At) (h num : Nat) : List Nat → State → Go (List (Bytes × List (Nat × Nat × Nat)))
  | [], s => .done [] s
  | ix :: is, s =>
    let n := gatherRow a.r
    let row : Go (Bytes × List (Nat × Nat × Nat)) :=
      if ix = 0xFFFFFFFF then .done (zeros n, []) s
      else if par a.r 4 4 ≤ ix then
        (if parBits a.r 3 4 1 = 1 then .done (zeros n, []) s else .refuse stNotPermitted s)
      else sourceRead a h num (par a.r 8 8 + ix * n) n s
    row.bind fun x s => (gatherRows a h num is s).bind fun xs s => .done (x :: xs) s

/-- The indices of a list of unsigned 32-bit values. -/
def indexList (bs : Bytes) : List Nat := (chunks 4 (bs.length + 1) bs).map leNat

/-- FETCH_GATHER (R191, R192). -/
def execFetchGather (op tile : Nat) (s : State) : Result :=
  runStation s op tile (fun o t r => isMode 0x01 1 o t r && decide (t.stage = 0)) fun a s =>
    let x := srcShape a.o
    let rows := 4096 / gatherRow a.r
    (tileEat op tile (par a.r 16 8 + 4 * (tile * rows)) (4 * rows) s).bind fun ix s =>
      (gatherRows a op tile (indexList ix) s).bind fun ps s =>
        let (bs, bad) := joinParts 0 ps
        let xs := unpackElems x.fmt bs
        .done (fun t => { withElems x.fmt xs (occOf xs) t with carried := carryBlocks 0 bad }, 0) s

/-- A stored block with every NaN among its values canonical (R182); N:M metadata stands in its second half. -/
def canonBlock (fmt nm : Nat) (b : Bytes) : Bytes :=
  if !isFloatFmt fmt then b
  else
    let n := if nm = 0 then 64 else 32
    packElems fmt ((unpackElems fmt (b.take n)).map fun c => BitVec.ofNat 64 (canonCode fmt c.toNat)) ++ b.drop n

/-- FETCH_SPARSE (R184 to R187, R191). -/
def execFetchSparse (op tile : Nat) (s : State) : Result :=
  runStation s op tile (fun o t r => isMode 0x01 2 o t r && decide (t.stage = 0)) fun a s =>
    let packed := parBits a.r 3 4 1 = 1
    let fmt := par a.r 2 1
    (tileEat op tile (headerVa a.r packed tile) 16 s).bind fun hb s =>
      let hd := leNat hb
      if !headerOk hd fmt then .refuse stNotPermitted s
      else
        let nm := fld hd 104 2
        let va := par a.r 16 8 + if packed then 64 * fld hd 64 32 else 4096 * tile
        (tileEat op tile va (64 * fld hd 106 7) s).bind fun body s =>
          let bs := chunks 64 65 body
          if !bs.all (blockOk fmt nm) then .refuse stNotPermitted s
          else .done (fun t => { t with fmt, sparse := true, nm, blocks := bs.map (canonBlock fmt nm), occ := BitVec.ofNat 64 (fld hd 0 64),
                                        elems := [], scales := [] }, 0) s

/-! ## FILL -/

/-- A FILL tile of given element codes. -/
def fillTile (s : State) (op tile mode : Nat) (f : At → Shape → List (BitVec 64)) : Result :=
  runStation s op tile (fun o t r => isMode 0x02 mode o t r && decide (t.stage = 0)) fun a s =>
    let x := srcShape a.o
    let xs := f a x
    .done (withElems x.fmt xs (occOf xs), max 1 (x.bytes / 128)) s

/-- FILL_CONST (R193). -/
def execFillConst (op tile : Nat) (s : State) : Result :=
  fillTile s op tile 0 fun a x => List.replicate x.e (BitVec.ofNat 64 (par a.r 8 8 % 2 ^ elemBits x.fmt))

/-- FILL_PATTERN (R193). -/
def execFillPattern (op tile : Nat) (s : State) : Result :=
  fillTile s op tile 1 fun a x =>
    unpackElems x.fmt ((List.replicate (x.bytes / 8) ((a.r.drop 8).take 8)).flatten)

/-- START + n × STEP, formed exactly and rounded once (R193). -/
def rampCode (a : At) (fmt i e j : Nat) : Nat :=
  let n := i * e + j
  if isIntFmt fmt then
    numCode fmt false none (.int (toSigned 32 (par a.r 8 4) + (n : Int) * toSigned 32 (par a.r 4 4)))
  else
    let v := fpRne fmt32 (sumEx (fp32 (par a.r 8 4)) (mulEx (.fin false n 0) (fp32 (par a.r 4 4))))
    numCode fmt false (tileRnd a.o i j) (.fp v)

/-- FILL_RAMP (R193). -/
def execFillRamp (op tile : Nat) (s : State) : Result :=
  fillTile s op tile 2 fun a x => (rangeFrom 0 x.e).map fun j => BitVec.ofNat 64 (rampCode a x.fmt tile x.e j)

/-! ## EXPAND -/

/-- EXPAND (R194): OCC is kept. -/
def execExpand (op tile : Nat) (s : State) : Result :=
  runStation s op tile (isStation 0x10) fun a s =>
    .done (withElems a.t.fmt (tileElems a.t) a.t.occ, groupCycles a (laneRate a.t.fmt)) s

end Sys2Proof.Machine
end

