-- ==== Sys2Proof/Machine/Middles.lean ====
section
/-!
DEFINITION. The middle stations CONVERT, SELECT, COMBINE, COMPACT, CHECK and COMPARE (R195 to R201, R208 to R210).
-/
namespace Sys2Proof.Machine

/-- A dense tile goes on with new codes in a format. -/
def goOn (a : At) (fmt : Nat) (cs : List Nat) (cyc : Nat) (s : State) : Go ((Tile → Tile) × Nat) :=
  let xs := cs.map (BitVec.ofNat 64)
  .done (withElems fmt xs (keepOcc a.t xs), cyc) s

/-! ## CONVERT -/

/-- An element multiplied by PRE_SCALE in FP32; a finite overflow keeps the outcome of SAT (Table 8-8). -/
def scaled (r : Bytes) (sat : Bool) (v : Num) : Fp :=
  let x := numFp v
  let y := fpMul fmt32 x (preScale r)
  if sat && fpIsInf y && !fpIsInf x && !fpIsInf (preScale r) then .fin (fpNegBit y) fmt32.maxM fmt32.maxE else y

/-- CONVERT to an MX format: blocks of 32 with their scales (R196). -/
def convertMx (toFmt : Nat) (noClip : Bool) (xs : List (Fp × Rnd)) : List Nat × Bytes :=
  let bs := (chunks 32 (xs.length + 1) xs).map (mxBlock toFmt noClip)
  (bs.flatMap Prod.fst, bs.map fun b => BitVec.ofNat 8 b.2)

/-- CONVERT (R195, R196). An absent group stays +0 whatever the sign of a finite PRE_SCALE (Table 8-21). -/
def execConvert (op tile : Nat) (s : State) : Result :=
  runStation s op tile (isStation 0x11) fun a s =>
    let toFmt := par a.r 1 1
    let sat := parBits a.r 2 0 1 = 1
    let exact := isIntFmt a.t.fmt && isIntFmt toFmt && (decide (par a.r 4 4 = 0) || decide (par a.r 4 4 = 0x3F800000))
    let ns := indexed 0 (tileNums a.t)
    let e := a.t.elems.length
    let cyc := groupCycles a (laneRate a.t.fmt)
    let still (j : Nat) : Bool :=
      (par a.r 4 4).testBit 31 && fpFinite (preScale a.r) && !a.t.occ.getLsbD (groupOf e j)
    let value (sat : Bool) (v : Nat × Num) : Fp := if still v.1 then .fin false 0 0 else scaled a.r sat v.2
    if isMx toFmt then
      let (cs, sc) := convertMx toFmt (parBits a.r 2 1 1 = 1) (ns.map fun v => (value false v, tileRnd a.o tile v.1))
      let xs := cs.map (BitVec.ofNat 64)
      .done (fun t => { withElems toFmt xs (keepOcc t xs) t with scales := sc }, cyc) s
    else
      goOn a toFmt (ns.map fun v =>
        numCode toFmt sat (tileRnd a.o tile v.1) (if exact then v.2 else .fp (value sat v))) cyc s

/-! ## SELECT -/

/-- Order of two working values of one kind. -/
def numLt (a b : Num) : Bool :=
  match a, b with
  | .int x, .int y => decide (x < y)
  | _, _ => fpLt (numFp a) (numFp b)
def numNan : Num → Bool
  | .fp x => fpIsNan x
  | .int _ => false
def numEq (a b : Num) : Bool := !numNan a && !numNan b && !numLt a b && !numLt b a
def numAbs : Num → Num
  | .fp x => .fp (fpAbs x)
  | .int x => .int x.natAbs

/-- The predicates of MASK (Table 8-9): a NaN fails every one but NE (R198). -/
def maskHolds (p : Nat) (x th : Num) : Bool :=
  match p with
  | 0 => numLt th x
  | 1 => numLt th x || numEq x th
  | 2 => numLt x th
  | 3 => numLt x th || numEq x th
  | 4 => numEq x th
  | 5 => !numEq x th
  | 6 => numLt th (numAbs x)
  | _ => numLt (numAbs x) th || numEq (numAbs x) th

/-- THRESH or THR in the type of a format. -/
def threshold (fmt v : Nat) : Num := if isIntFmt fmt then .int (toSigned 32 v) else .fp (fp32 v)

/-- SELECT_MASK (R198). -/
def execSelectMask (op tile : Nat) (s : State) : Result :=
  runStation s op tile (isMode 0x12 0) fun a s =>
    let th := threshold a.t.fmt (par a.r 8 4)
    let xs := a.t.elems.map fun c =>
      if maskHolds (par a.r 2 1) (numOf a.t.fmt c.toNat) th then c else 0
    .done (withElems a.t.fmt xs (a.t.occ &&& occOf xs), groupCycles a (laneRate a.t.fmt)) s

/-- x ranks before y at lower index: larger first, or smaller first; a NaN below every number (R199). -/
def ranksBefore (ab small : Bool) (x y : Num) : Bool :=
  let k := fun v => if ab then numAbs v else v
  if numNan x then false
  else if numNan y then true
  else if small then numLt (k x) (k y) else numLt (k y) (k x)

/-- Insert an element into a ranked list: it goes behind every one that it does not rank before. -/
def rankInsert (lt : Num → Num → Bool) (x : Num × Nat) : List (Num × Nat) → List (Num × Nat)
  | [] => [x]
  | y :: ys => if lt x.1 y.1 then x :: y :: ys else y :: rankInsert lt x ys

/-- The K records of a row in order of rank, equal values by lower index (R199). -/
def topk (ab small : Bool) (k : Nat) (row : List Num) : List (Num × Nat) :=
  (((indexed 0 row).foldl (fun acc x => rankInsert (ranksBefore ab small) (x.2, x.1) acc) [])).take k

/-- SELECT_TOPK (R199). -/
def execSelectTopk (op tile : Nat) (s : State) : Result :=
  runStation s op tile (isMode 0x12 1) fun a s =>
    let rl := par a.r 4 2
    let k := par a.r 3 1
    let ns := tileNums a.t
    let rows := ns.length / rl
    let xs := ((chunks rl (ns.length + 1) ns).take rows).flatMap fun row =>
      (topk (parBits a.r 2 0 1 = 1) (parBits a.r 2 1 1 = 1) k row).map fun x =>
        BitVec.ofNat 64 (code32 (numFp x.1) + x.2 * 2 ^ 32)
    .done (withElems fmtPair xs (occOf xs), max 1 (ns.length / 16 + 2 * k * rows)) s

/-- SELECT_ROUTE (R200): every record names an output below NOUT, or none. -/
def execSelectRoute (op tile : Nat) (s : State) : Result :=
  runStation s op tile (isMode 0x12 2) fun a s =>
    let rl := par a.r 4 2
    let k := par a.r 3 1
    let rows := a.t.elems.length / rl
    let nout := par (recOf a.o (nstat a.o + 1)) 3 1
    (tileEat op tile (par a.r 16 8 + 8 * (k * (tile * rows))) (8 * k * rows) s).bind fun bs s =>
      let rs := (indexed 0 (unpackElems fmtPair bs)).map fun x =>
        (x.1 / k, fld x.2.toNat 32 32, fld x.2.toNat 0 32)
      if rs.any fun x => decide (x.2.1 ≠ 0xFFFFFFFF) && decide (nout ≤ x.2.1) then .refuse stNotPermitted s
      else .done (fun t => { t with routes := rs.filter fun x => x.2.1 ≠ 0xFFFFFFFF, rowLen := rl }, max 1 rows) s

/-! ## COMBINE -/

/-- Saturate an exact integer to INT32 (R182). -/
def sat32 (x : Int) : Int := clampInt 32 x

/-- The working result of an operation (R201): integers where both operands are, else FP32. -/
def combine (opc : Nat) (sv : Nat) (a b : Num) : Num :=
  match a, b with
  | .int x, .int y =>
    let k := toSigned 32 sv
    .int (sat32 (match opc with
      | 0 => x + y
      | 1 => x - y
      | 2 => x * y
      | 3 => max x y
      | 4 => min x y
      | 5 => x * k + y
      | _ => x * k))
  | _, _ =>
    let x := numFp a
    let y := numFp b
    let k := fp32 sv
    .fp (match opc with
      | 0 => fpAdd fmt32 x y
      | 1 => fpSub fmt32 x y
      | 2 => fpMul fmt32 x y
      | 3 => fpMax x y
      | 4 => fpMin x y
      | 5 => fpFma fmt32 x k y
      | _ => fpMul fmt32 x k)

/-- COMBINE for one operation code (R201). SCALE reads no B: its other operand is S. -/
def combineTile (opc op tile : Nat) (s : State) : Result :=
  runStation s op tile (isMode 0x13 opc) fun a s =>
    let e := a.t.elems.length
    let bf := par a.r 2 1
    let w := elemBits bf
    let (first, n) := combineB a.r tile e
    let off := first * w / 8
    let skip := first * w % 8 / w
    let cyc := groupCycles a (min (laneRate a.t.fmt) (laneRate bf))
    let fin (bs : List Num) (s : State) : Go ((Tile → Tile) × Nat) :=
      goOn a (par a.r 3 1) ((indexed 0 (tileNums a.t)).map fun v =>
        let b := if opc = 6 then (if isIntFmt a.t.fmt then Num.int 0 else Num.fp (.fin false 0 0))
          else nth bs ((tile * e + v.1) / 2 ^ parBits a.r 4 0 4 - first) (.fp .nan)
        numCode (par a.r 3 1) false (tileRnd a.o tile v.1) (combine opc (par a.r 8 4) v.2 b)) cyc s
    if opc = 6 then fin [] s
    else
      (tileEat op tile (par a.r 16 8 + off) (ceilDiv ((skip + n) * w) 8) s).bind fun bs s =>
        fin (((unpackElems bf bs).drop skip).map fun c => numOf bf c.toNat) s

/-- COMBINE_ADD (R201). -/
def execCombineAdd (op tile : Nat) (s : State) : Result := combineTile 0 op tile s
/-- COMBINE_SUB (R201). -/
def execCombineSub (op tile : Nat) (s : State) : Result := combineTile 1 op tile s
/-- COMBINE_MUL (R201). -/
def execCombineMul (op tile : Nat) (s : State) : Result := combineTile 2 op tile s
/-- COMBINE_MAX (R201). -/
def execCombineMax (op tile : Nat) (s : State) : Result := combineTile 3 op tile s
/-- COMBINE_MIN (R201). -/
def execCombineMin (op tile : Nat) (s : State) : Result := combineTile 4 op tile s
/-- COMBINE_FMA (R201, R234): the product is exact and the sum is rounded once (log entry 27). -/
def execCombineFma (op tile : Nat) (s : State) : Result := combineTile 5 op tile s
/-- COMBINE_SCALE (R201). -/
def execCombineScale (op tile : Nat) (s : State) : Result := combineTile 6 op tile s

/-! ## COMPACT -/

/-- An element counts as absent: |x| ≤ THR; a NaN never does (R208). -/
def belowThr (th x : Num) : Bool := !numNan x && (numLt (numAbs x) th || numEq (numAbs x) th)

/-- Indices of the `k` elements of largest magnitude of a group, ascending: NaN the largest, the lower index at equal
magnitudes (R208). -/
def keepLargest (k : Nat) (xs : List Num) : List Nat :=
  let lt := fun x y => if numNan y then false else if numNan x then true else numLt (numAbs y) (numAbs x)
  let best := ((indexed 0 xs).foldl (fun acc x => rankInsert lt (x.2, x.1) acc) []).take k
  (best.map Prod.snd).foldl (fun l i => insNat i l) []

/-- A block of 64 B in N:M form (R186). -/
def pruneBlock (fmt nm : Nat) (xs : List (BitVec 64)) : Bytes :=
  let (k, w, n) := nmShape nm
  let gs := (chunks n (xs.length + 1) xs).map fun g => (g, keepLargest k (g.map fun c => numOf fmt c.toNat))
  let vals := gs.flatMap fun g => g.2.map fun i => nth g.1 i 0
  let md := gs.foldr (fun g acc => acc * 2 ^ (k * w) + g.2.foldr (fun i m => m * 2 ^ w + i) 0) 0
  fitBytes 32 (packElems fmt vals) ++ natLe 32 md

/-- COMPACT (R208). -/
def execCompact (op tile : Nat) (s : State) : Result :=
  runStation s op tile (isStation 0x16) fun a s =>
    let nm := parBits a.r 1 0 2
    let th := threshold a.t.fmt (par a.r 4 4)
    let gs := indexed 0 (chunks (512 / elemBits a.t.fmt) (a.t.elems.length + 1) a.t.elems)
    let kept := gs.filter fun g => !g.2.all fun c => belowThr th (numOf a.t.fmt c.toNat)
    let bs := kept.map fun g => if nm = 0 then packElems a.t.fmt g.2 else pruneBlock a.t.fmt nm g.2
    let occ := kept.foldl (fun v g => setBit v g.1) (0 : BitVec 64)
    .done (fun t => { t with sparse := true, nm, blocks := bs, occ, elems := [] },
      groupCycles a (laneRate a.t.fmt) * if nm = 0 then 1 else 2) s

/-! ## CHECK -/

/-- Pairwise sum in ascending order; an odd one passes up (R209). -/
def pairSums : List Fp → List Fp
  | x :: y :: l => fpAdd fmt32 x y :: pairSums l
  | l => l
def treeSum : Nat → List Fp → Fp
  | 0, l => l.headD (.fin false 0 0)
  | n + 1, l => if l.length ≤ 1 then l.headD (.fin false 0 0) else treeSum n (pairSums l)

/-- S and A of the residue test as FP32 (R209): an integer S is taken modulo 2^32 as a two's-complement value. -/
def residue (ns : List Num) (ints : Bool) : Fp × Fp :=
  let mags := ns.map fun v => fpAbs (numFp v)
  let s := if ints then
      fpRne fmt32 (intFp (toSigned 32 (ofSigned 32 ((ns.map fun v => match v with
        | .int x => x
        | .fp _ => 0).foldl (· + ·) 0))))
    else treeSum (ns.length + 1) (ns.map numFp)
  (s, treeSum (ns.length + 1) mags)

/-- The RANGE test fails (R209). -/
def rangeFails (emax emin : Int) (v : Num) : Bool :=
  match v with
  | .int x => fpLt (.fin false 1 emax) (.fin false x.natAbs 0)
  | .fp (.fin _ m e) => decide (m ≠ 0) && (decide (emax < fpExp m e) || decide (fpExp m e < emin))
  | .fp _ => false

/-- CHECK (R209): the tile passes on unchanged, SUSPECT if an enabled test fails. One with OCC = 0 passes (Table 8-21). -/
def execCheck (op tile : Nat) (s : State) : Result :=
  runStation s op tile (isStation 0x17) fun a s =>
    let tests := par a.r 1 1
    let ns := tileNums a.t
    let ints := isIntFmt a.t.fmt
    let bad := (tests.testBit 0 && ns.any numNan) ||
      (tests.testBit 1 && ns.any fun v => match v with
        | .fp x => fpIsInf x
        | .int _ => false) ||
      (tests.testBit 2 && ns.any (rangeFails (toSigned 8 (par a.r 2 1)) (toSigned 8 (par a.r 3 1))))
    let cyc := groupCycles a (laneRate a.t.fmt)
    let ref := par a.r 8 8 + 4 * tile
    let mark (b : Bool) : Tile → Tile := fun t => { t with suspect := t.suspect || (b && decide (a.t.occ ≠ 0)) }
    if tests.testBit 4 then
      (tilePut op tile ref (natLe 4 (code32 (residue ns ints).1)) s).bind fun _ s => .done (mark bad, cyc) s
    else if tests.testBit 3 then
      (tileEat op tile ref 4 s).bind fun bs s =>
        let (sum, mags) := residue ns ints
        let diff := fpAbs (fpSub fmt32 sum (fp32 (leNat bs)))
        .done (mark (bad || fpLt (fpMul fmt32 (fp32 (par a.r 4 4)) mags) diff), cyc) s
    else .done (mark bad, cyc) s

/-! ## COMPARE -/

/-- One pair of elements compared: differs, NaN mismatch, and their difference in FP32. -/
structure Cmp where
  differs : Bool
  nan : Bool
  diff : Fp
  deriving Repr

/-- Compare element codes bit by bit, or values within a tolerance (R210). -/
def compareAt (tol : Bool) (rtol atol : Fp) (ca cb : BitVec 64) (a b : Num) : Cmp :=
  let x := numFp a
  let y := numFp b
  let d := fpSub fmt32 x y
  let mis := Bool.xor (fpIsNan x) (fpIsNan y)
  let differs := if tol then mis ||
      fpLt (fpAdd fmt32 atol (fpMul fmt32 rtol (fpAbs y))) (fpAbs d)
    else decide (ca ≠ cb)
  { differs, nan := mis, diff := d }

/-- The largest finite |a − b| and its index, at equal values the lowest. -/
def maxDiff : List (Nat × Cmp) → Option (Fp × Nat)
  | [] => none
  | (i, c) :: l =>
    let rest := maxDiff l
    match c.diff with
    | .fin _ m e =>
      match rest with
      | some (x, j) => if fpLt (.fin false m e) x then some (x, j) else some (.fin false m e, i)
      | none => some (.fin false m e, i)
    | _ => rest

/-- The 32 bytes of a summary (Table 8-18). MAX_ABS and MAX_IDX where no difference is finite are open and given as
arguments. -/
def summaryBytes (cs : List Cmp) (openAbs openIdx : Nat) : Bytes :=
  let l := indexed 0 cs
  let first := ((l.find? fun x => x.2.differs).map Prod.fst).getD 0xFFFFFFFF
  let (mx, ix) := match maxDiff l with
    | some (x, i) => (code32 x, i)
    | none => (openAbs, openIdx)
  let sq := cs.foldl (fun acc c => match c.diff with
    | .fin n m e => fpAdd fmt32 acc (fpMul fmt32 (.fin n m e) (.fin n m e))
    | _ => acc) (.fin false 0 0)
  natLe 4 (cs.filter Cmp.differs).length ++ natLe 4 first ++ natLe 4 mx ++ natLe 4 ix ++
    natLe 4 (cs.filter Cmp.nan).length ++ natLe 4 (code32 sq) ++ zeros 8

/-- The values of B: an MX B has no scale array, and its scales are open (log entry 8). -/
def compareB (bf : Nat) (cs : List (BitVec 64)) (s : State) : List Num × State :=
  if isMx bf then
    let n := ceilDiv cs.length 32
    let sc := (rangeFrom s.fresh n).map fun k => (Config.freeValue k).toNat % 256
    ((indexed 0 cs).map fun x => .fp (mxValue bf x.2.toNat (nth sc (x.1 / 32) 0)), { s with fresh := s.fresh + n })
  else (cs.map fun c => numOf bf c.toNat, s)

/-- COMPARE in one mode (R210). -/
def compareTile (mode op tile : Nat) (s : State) : Result :=
  runStation s op tile (fun o t r => isStation 0x18 o t r && decide (parBits r 1 0 1 = mode)) fun a s =>
    let bf := par a.r 2 1
    let e := a.t.elems.length
    let n := elemBytes bf e
    (tileEat op tile (par a.r 7 8 + tile * n) n s).bind fun bs s =>
      let cb := (unpackElems bf bs).take e
      let na := tileNums a.t
      let (nb, s) := compareB bf cb s
      let f16 := fun v => fpDecode fmtFp16 v
      let cs := (List.zip (List.zip a.t.elems cb) (List.zip na nb)).map fun x =>
        compareAt (mode = 1) (f16 (par a.r 3 2)) (f16 (par a.r 5 2)) x.1.1 x.1.2 x.2.1 x.2.2
      let (v, s) : BitVec 64 × State := if (maxDiff (indexed 0 cs)).isSome then (0, s) else drawFree s
      (tilePut op tile (par a.r 15 8 + 32 * tile) (summaryBytes cs (v.toNat % 2 ^ 32) (v.toNat / 2 ^ 32)) s).bind fun _ s =>
        let cyc := cyclesOf e (laneRate a.t.fmt)
        if parBits a.r 1 1 1 = 0 then .done (id, cyc) s
        else
          let ints := isIntFmt a.t.fmt && isIntFmt bf
          goOn a (if ints then 0x10 else 0x00) ((List.zip na nb).map fun x =>
            numCode (if ints then 0x10 else 0x00) false none (combine 1 0 x.1 x.2)) cyc s

/-- COMPARE_BITWISE (R210). -/
def execCompareBitwise (op tile : Nat) (s : State) : Result := compareTile 0 op tile s
/-- COMPARE_TOL (R210). -/
def execCompareTol (op tile : Nat) (s : State) : Result := compareTile 1 op tile s

end Sys2Proof.Machine
end

