-- ==== Sys2Proof/Machine/Folds.lean ====
section
/-!
DEFINITION. REDUCE (R202 to R204) and UPDATE (R205 to R207).
-/
namespace Sys2Proof.Machine

/-! ## REDUCE -/

/-- One fold step in the accumulator's type, with whether an INT32 result saturated or an FP32 one is NaN or
infinite (R202, R204). -/
def foldStep (opc : Nat) (acc x : Num) : Num :=
  match acc, x with
  | .int a, .int b => .int (match opc with
      | 0 => a + b
      | 1 => max a b
      | _ => min a b)
  | _, _ =>
    let a := numFp acc
    let b := numFp x
    .fp (match opc with
      | 0 => fpAdd fmt32 a b
      | 1 => fpMax a b
      | _ => fpMin a b)

/-- The implicit tests fail on a result before it saturates (R204). -/
def foldBad : Num → Bool
  | .int x => decide (sat32 x ≠ x)
  | .fp x => fpIsNan x || fpIsInf x

/-- Another tile holds a fold into some of these runs (R203). -/
def foldBusy (s : State) (h num : Nat) (runs : List (Nat × Nat)) : Bool :=
  s.cmd.tiles.any fun t => !(decide (t.op = h) && decide (t.num = num)) &&
    t.fold.any fun r => runHit runs r.1 r.2

/-- The groups of an OCC as element spans. -/
def occSpans (e : Nat) (occ : BitVec 64) : List (Nat × Nat) :=
  ((rangeFrom 0 64).filter fun k => occ.getLsbD k).map (groupSpan e) |>.filter fun p => p.1 < p.2

/-- Bytes at an address with a write laid over them. -/
def laidOver (pa : Nat) (bs : Bytes) (w : PendWrite) : Bytes :=
  let lo := max pa w.pa
  let hi := min (pa + bs.length) (w.pa + w.data.length)
  if lo < hi then bs.take (lo - pa) ++ (w.data.drop (lo - w.pa)).take (hi - lo) ++ bs.drop (hi - pa) else bs

/-- Read a part of an accumulator as the folds of this tile, which write at its commit, leave it (R203). -/
def foldRead (h num : Nat) (folds : List (Nat × Nat)) (va n : Nat) (s : State) : Go Bytes :=
  (tileEat h num va n s).bind fun bs s => (tileRuns h num va n false s).bind fun runs s =>
    let ws := (((tileOf s h num).map Tile.writes).getD []).filter fun w => runHit folds w.pa w.data.length
    let step (acc : Bytes × Bytes) (r : Nat × Nat) : Bytes × Bytes :=
      (acc.1 ++ ws.foldl (laidOver r.1) (acc.2.take r.2), acc.2.drop r.2)
    .done (runs.foldl step ([], bs)).1 s

/-- Fold the spans of a tile into its accumulator: read, fold, and leave the writes for the commit. The result says whether a
test failed. -/
def foldSpans (h num va opc fmt : Nat) (folds : List (Nat × Nat)) (ns : List Num) : List (Nat × Nat) → State → Go Bool
  | [], s => .done false s
  | (a, b) :: l, s =>
    (foldRead h num folds (va + 4 * a) (4 * (b - a)) s).bind fun bs s =>
      let acc := (unpackElems fmt bs).map fun c => numOf fmt c.toNat
      let res := (List.zip acc ((ns.drop a).take (b - a))).map fun x => foldStep opc x.1 x.2
      let codes := res.map fun v => BitVec.ofNat 64 (numCode fmt false none v)
      (tilePut h num (va + 4 * a) (packElems fmt codes) s).bind fun _ s =>
        (foldSpans h num va opc fmt folds ns l s).bind fun r s => .done (res.any foldBad || r) s

/-- REDUCE_ACCUM (R202, R203). The groups whose OCC bit is set are translated, taken from their holders, read and folded, in one
step with their accumulator, which no other tile folds into until this one's commit. -/
def execReduceAccum (op tile : Nat) (s : State) : Result :=
  runStation s op tile (fun o t r => isStation 0x14 o t r && decide (parBits r 1 0 2 = 0)) fun a s =>
    let ns := tileNums a.t
    let e := ns.length
    let fmt := accFmt a.t.fmt
    let va := par a.r 8 8 + tile % par a.r 4 4 * e * 4
    let cyc := groupCycles a (laneRate a.t.fmt)
    let spans := occSpans e a.t.occ
    (goList (fun p s => tileRuns op tile (va + 4 * p.1) (4 * (p.2 - p.1)) true s) spans s).bind fun runs s =>
      let runs := runs.flatten
      if foldBusy s op tile runs then .wait s
      else
        let folded : Go ((Tile → Tile) × Nat) :=
          (goList (fun p s => tileClaim op tile (va + 4 * p.1) (4 * (p.2 - p.1)) s) spans s).bind fun _ s =>
          (foldSpans op tile va (parBits a.r 1 2 2) fmt a.t.fold ns spans s).bind fun bad s =>
            if parBits a.r 1 4 1 = 1 then
              (foldRead op tile (a.t.fold ++ runs) va (4 * e) s).bind fun bs s =>
                let xs := unpackElems fmt bs
                let bad := bad || xs.any fun c => foldBad (numOf fmt c.toNat)
                .done (fun t => { withElems fmt xs (keepOcc t xs) t with
                  fold := t.fold ++ runs, suspect := t.suspect || bad }, cyc) s
            else .done (fun t => { withElems fmt [] 0 t with fold := t.fold ++ runs, suspect := t.suspect || bad }, cyc) s
        match folded with
        | .wait s => .wait (modTile s op tile fun t => { t with writes := a.t.writes })
        | x => x

/-- REDUCE_GROUP (R202): rows fold in ascending order; an integer result saturates once (log entry 28). -/
def execReduceGroup (op tile : Nat) (s : State) : Result :=
  runStation s op tile (fun o t r => isStation 0x14 o t r && decide (parBits r 1 0 2 = 1)) fun a s =>
    let fmt := accFmt a.t.fmt
    let row := 2 ^ par a.r 2 1
    let l := par a.r 3 1
    let ns := tileNums a.t
    let rows := chunks row (ns.length + 1) ns
    let res := (chunks l (rows.length + 1) rows).flatMap fun g =>
      match g with
      | [] => []
      | r :: rs => rs.foldl (fun acc x => (List.zip acc x).map fun p => foldStep (parBits a.r 1 2 2) p.1 p.2) r
    let xs := res.map fun v => BitVec.ofNat 64 (numCode fmt false none v)
    .done (fun t => { withElems fmt xs (occOf xs) t with suspect := t.suspect || res.any foldBad },
      cyclesOf ns.length (laneRate a.t.fmt)) s

/-! ## UPDATE -/

/-- The parameter block is accepted for a rule (R205, Table 8-13). -/
def blockOkFor (rule : Nat) (b : Bytes) : Bool :=
  decide (leAt b 0x1C 4 ≠ 0) && [0, 1, 2].contains (leAt b 0x18 1) && [0, 1].contains (leAt b 0x19 1) &&
  decide (leAt b 0x1A 2 = 0) && decide (leAt b 0x38 8 = 0) && decide (leNat ((b.drop 0x64).take 28) = 0) &&
  (decide (rule ≠ 0) || decide (leAt b 0x10 8 = 0))

/-- The eleven coefficients of an UPDATE as FP32 words: A1, B1, A2, B2, P1, P2, Q, EPSD, LAMBDA, LR, GSCALE; the
built-in rules compute in binary64 and round once to FP32 (R206, Table 8-14). -/
def coefficients (rule : Nat) (b : Bytes) : List W32 :=
  let v (off : Nat) : Fp := fp32 (leAt b off 4)
  let w (x : Fp) : W32 := BitVec.ofNat 32 (code32 (fpRne fmt32 x))
  let one : Fp := .fin false 1 0
  let zero : Fp := .fin false 0 0
  let lam := fpMul fmt64 (v 0x20) (v 0x30)
  let inv (beta : Fp) : Fp := fpDiv fmt64 one (fpSub fmt64 one (fpPow fmt64 beta (leAt b 0x1C 4)))
  let tail : List W32 := [w (v 0x20), w (v 0x34)]
  match rule with
  | 0 => [w (v 0x24), w one, w zero, w zero, w one, w zero, w zero, w zero, w lam] ++ tail
  | 1 => [w (v 0x24), w (fpSub fmt64 one (v 0x24)), w (v 0x28), w (fpSub fmt64 one (v 0x28)), w (inv (v 0x24)),
          w zero, w (inv (v 0x28)), w (v 0x2C), w lam] ++ tail
  | _ => (rangeFrom 0 9).map (fun k => w (v (0x40 + 4 * k))) ++ tail

/-- One element (R206), g being the gradient times GSCALE: weight, first and second state after the step; every
operation rounds to FP32 (log entry 27). -/
def updateElem (k : List Fp) (two : Bool) (g w s1 s2 : Fp) : Fp × Fp × Fp :=
  let c (i : Nat) : Fp := nth k i .nan
  let mul := fpMul fmt32
  let add := fpAdd fmt32
  let s1 := add (mul (c 0) s1) (mul (c 1) g)
  let s2 := if two then add (mul (c 2) s2) (mul (mul (c 3) g) g) else s2
  let n := add (mul (c 4) s1) (mul (c 5) g)
  let d := if two then fpDiv fmt32 n (add (fpSqrt fmt32 (mul (c 6) s2)) (c 7)) else n
  (fpSub fmt32 (mul (fpSub fmt32 (.fin false 1 0) (c 8)) w) (mul (c 9) d), s1, s2)

/-- Working values of a run of elements. -/
def getFp (h num va fmt n : Nat) (s : State) : Go (List Fp) :=
  (tileEat h num va (elemBytes fmt n) s).bind fun bs s =>
    .done ((unpackElems fmt bs).map fun c => fpDecode (floatFmt fmt) c.toNat) s

/-- Step one span of elements: the output weights of the span. -/
def updateSpan (a : At) (h num : Nat) (b : Bytes) (k : List Fp) (gs : List Fp) (x y : Nat) (s : State) :
    Go (List Fp) :=
  let wf := leAt b 0x18 1
  let sf := leAt b 0x19 1
  let e := gs.length
  let at' (base fmt : Nat) : Nat := leAt b base 8 + elemBytes fmt (num * e + x)
  let two := decide (leAt b 0x10 8 ≠ 0)
  let n := y - x
  (getFp h num (at' 0 wf) wf n s).bind fun ws s =>
  (getFp h num (at' 8 sf) sf n s).bind fun s1 s =>
  (if two then getFp h num (at' 0x10 sf) sf n s else .done (List.replicate n (.fin false 0 0)) s).bind fun s2 s =>
    let res := (indexed x (List.zip (List.zip ((gs.drop x).take n) ws) (List.zip s1 s2))).map fun p =>
      (p.1, updateElem k two p.2.1.1 p.2.1.2 p.2.2.1 p.2.2.2)
    let enc (fmt : Nat) (f : Fp × Fp × Fp → Fp) : Bytes :=
      packElems fmt (res.map fun r => BitVec.ofNat 64 (numCode fmt false (tileRnd a.o num r.1) (.fp (f r.2))))
    (tilePut h num (at' 0 wf) (enc wf fun r => r.1) s).bind fun _ s =>
    (tilePut h num (at' 8 sf) (enc sf fun r => r.2.1) s).bind fun _ s =>
    (if two then tilePut h num (at' 0x10 sf) (enc sf fun r => r.2.2) s else .done () s).bind fun _ s =>
      .done (res.map fun r => r.2.1) s

/-- UPDATE with one rule (R205 to R207). With LAZY = 1 absent groups are neither read nor written, and stay absent in
the output (log entry 29). -/
def updateTile (rule op tile : Nat) (s : State) : Result :=
  runStation s op tile (isMode 0x15 rule) fun a s =>
    let idx := ((updates a.o).findIdx? fun k => decide (k = a.t.stage)).getD 0
    let b := (a.o.block.drop (128 * idx)).take 128
    let k := ((a.o.coef.drop (11 * idx)).take 11).map fun w => fp32 w.toNat
    let lzy : Bool := parBits a.r 2 0 1 = 1
    let ns := (tileNums a.t).map numFp
    let e := ns.length
    let gs := (indexed 0 ns).map fun x => if a.t.occ.getLsbD (groupOf e x.1) then fpMul fmt32 x.2 (nth k 10 .nan) else .fin false 0 0
    let spans := if lzy then occSpans e a.t.occ else [(0, e)]
    let before := a.t.writes
    match goList (fun p s => (updateSpan a op tile b k gs p.1 p.2 s).bind fun ws s => .done (p, ws) s) spans s with
    | .wait s => .wait (modTile s op tile fun t => { t with writes := before })
    | .refuse st s => .refuse st s
    | .done rs s =>
      let out := rs.flatMap fun r => indexed r.1.1 r.2
      let xs := (rangeFrom 0 e).map fun j => match tget out j with
        | some w => BitVec.ofNat 64 (code32 w)
        | none => 0
      let bad := out.any fun w => fpIsNan w.2 || fpIsInf w.2
      let u := if rule = 0 ∨ leAt b 0x10 8 = 0 then 8 else 4
      .done (fun t => { withElems 0 xs (keepOcc t xs) t with suspect := t.suspect || bad },
        groupCycles a u) s

/-- UPDATE_SGDM (R206). -/
def execUpdateSgdm (op tile : Nat) (s : State) : Result := updateTile 0 op tile s
/-- UPDATE_ADAMW (R206). -/
def execUpdateAdamw (op tile : Nat) (s : State) : Result := updateTile 1 op tile s
/-- UPDATE_TABLE (R206). -/
def execUpdateTable (op tile : Nat) (s : State) : Result := updateTile 2 op tile s

end Sys2Proof.Machine
end

