-- ==== Sys2Proof/Machine/Sinks.lean ====
section
/-!
DEFINITION. The sink STORE (R211, R212), STORE PUT (R290, R292) and the commit of a tile (R23, R170, R190).
-/
namespace Sys2Proof.Machine

/-! ## Writes with carried poison (R360) -/

/-- A run of bytes cut into clean runs and single poisoned blocks of 64 B: (offset, bytes, code). -/
def carryPieces : Nat → Nat → List (Nat × Nat) → Bytes → List (Nat × Bytes × Nat)
  | 0, _, _, _ => []
  | n + 1, k, bad, bs =>
    if bs.isEmpty then []
    else
      match bad.find? fun b => decide (k ≤ b.1) with
      | none => [(64 * k, bs, 0)]
      | some b =>
        if b.1 = k then (64 * k, bs.take 64, b.2) :: carryPieces n (k + 1) bad (bs.drop 64)
        else (64 * k, bs.take (64 * (b.1 - k)), 0) :: carryPieces n b.1 bad (bs.drop (64 * (b.1 - k)))

/-- The carried blocks of a part of a tile that begins at block `base` and has `n` blocks, numbered from 0. -/
def carriedIn (t : Tile) (base n : Nat) : List (Nat × Nat) :=
  (t.carried.filter fun b => decide (base ≤ b.1) && decide (b.1 < base + n)).map fun b => (b.1 - base, b.2)

/-- Leave the writes of a part of a tile for its commit. -/
def putCarried (h num va : Nat) (bad : List (Nat × Nat)) (bs : Bytes) (s : State) : Go Unit :=
  (goList (fun p s => tilePut h num (va + p.1) p.2.1 s p.2.2) (carryPieces (bs.length + 1) 0 bad bs) s).bind
    fun _ s => .done () s

/-- A sink station: its writes are recorded and its sink write has begun (R168); a wait leaves none of them. -/
def runSink (s : State) (h num mode : Nat) (f : At → State → Go Nat) : Result :=
  match stationAt s h num (fun o t r => isMode 0x20 mode o t r && decide (t.stage = nstat o + 1)) with
  | none => .next s
  | some a =>
    match f a s with
    | .wait s => .next (modTile s h num fun t => { t with writes := a.t.writes })
    | .refuse st s => .next (failTile (forgetSnoops s (.tile h num)) h num st)
    | .done n s =>
      .next (modTile (forgetSnoops s (.tile h num)) h num fun t => { t with
        stage := t.stage + 1, sinking := true, sinkBytes := n })

/-- The bytes of a dense tile. -/
def tileBytes (t : Tile) : Bytes := packElems t.fmt t.elems

/-- STORE_RANGE (R211). -/
def execStoreRange (op tile : Nat) (s : State) : Result :=
  runSink s op tile 0 fun a s =>
    let bs := tileBytes a.t
    (putCarried op tile (rangeVa a.r 2 bs.length tile) (carriedIn a.t 0 (0x100000)) bs s).bind fun _ s =>
      if isMx a.t.fmt then
        (putCarried op tile (scaleVa a.r a.t.elems.length tile) (carriedIn a.t (0x100000) (0x100000)) a.t.scales s).bind
          fun _ s => .done (bs.length + a.t.scales.length) s
      else .done bs.length s

/-- The row writes of SCATTER in tile order, so that the last of one index stands (Table 8-22). -/
def scatterRows (a : At) (h num n : Nat) (bs : Bytes) : List (Nat × Nat) → State → Go Unit
  | [], s => .done () s
  | (m, ix) :: l, s =>
    if ix = 0xFFFFFFFF then scatterRows a h num n bs l s
    else if par a.r 4 4 ≤ ix then
      (if parBits a.r 2 4 1 = 1 then scatterRows a h num n bs l s else .refuse stNotPermitted s)
    else (putCarried h num (par a.r 8 8 + ix * n) (carriedIn a.t (m * (n / 64)) (n / 64))
        ((bs.drop (m * n)).take n) s).bind fun _ s => scatterRows a h num n bs l s

/-- STORE_SCATTER (R211). -/
def execStoreScatter (op tile : Nat) (s : State) : Result :=
  runSink s op tile 1 fun a s =>
    let bs := tileBytes a.t
    let n := scatterRow a.r
    let rows := bs.length / n
    (tileEat op tile (par a.r 16 8 + 4 * (tile * rows)) (4 * rows) s).bind fun ix s =>
      (scatterRows a op tile n bs (indexed 0 (indexList ix)) s).bind fun _ s => .done bs.length s

/-- STORE_SPARSE (R184, R185, R211): a PACKED tile takes its place at its commit. -/
def execStoreSparse (op tile : Nat) (s : State) : Result :=
  runSink s op tile 2 fun a s =>
    let n := a.t.blocks.length
    if parBits a.r 2 4 1 = 1 then .done (16 + 64 * n) s
    else
      (tilePut op tile (headerVa a.r false tile) (headerBytes a.t.occ (64 * tile) a.t.fmt a.t.nm n) s).bind fun _ s =>
        (tilePut op tile (par a.r 16 8 + 4096 * tile) a.t.blocks.flatten s).bind fun _ s => .done (16 + 64 * n) s

/-- STORE_ROUTED (R212): all of its reservations and writes take place at its commit. -/
def execStoreRouted (op tile : Nat) (s : State) : Result :=
  runSink s op tile 4 fun a s => .done (a.t.routes.length * elemBytes a.t.fmt a.t.rowLen) s

/-- STORE_NULL (R211): nothing is written. -/
def execStoreNull (op tile : Nat) (s : State) : Result := runSink s op tile 5 fun _ s => .done 0 s

/-! ## STORE PUT -/

/-- The packets of one message: (offset, bytes, poison code), at most 4,096 B each (R284). -/
def putParts (parts : List (Nat × Bytes × Nat)) : List (Nat × Bytes × Nat) :=
  parts.flatMap fun p => (indexed 0 (chunks 4096 (p.2.1.length + 1) p.2.1)).map fun c =>
    (p.1 + 4096 * c.1, c.2, p.2.2)

/-- The message of a tile: its kind, and its parts (R211, R285, R360). -/
def putMessage (a : At) (tile : Nat) : Nat × List (Nat × Bytes × Nat) :=
  if parBits a.r 2 4 1 = 1 then
    let bs := if a.t.sparse then a.t.blocks
      else (occSpans a.t.elems.length a.t.occ).map fun p => packElems a.t.fmt ((a.t.elems.drop p.1).take (p.2 - p.1))
    (1, [(0, headerBytes a.t.occ (64 * tile) a.t.fmt a.t.nm bs.length ++ bs.flatten, 0)])
  else
    let bs := tileBytes a.t
    (0, carryPieces (bs.length + 1) 0 (carriedIn a.t 0 (0x100000)) bs)

/-- Dense bytes of a tile, by which REMOTE advances (R211). -/
def denseBytes (t : Tile) : Nat := if t.sparse then 4096 else elemBytes t.fmt t.elems.length

/-- The targets of a PUT: none where its group is not valid (R292). -/
def putTargets (s : State) (r : Bytes) : Option (List Nat) :=
  if parBits r 2 5 1 = 1 then
    let g := tgetD s.route.groups (par r 4 1) (0, 0, false)
    if g.2.2 then some ((rangeFrom g.1 g.2.1).filterMap fun k =>
      let m := tgetD s.route.members k (0, false)
      if m.2 then some m.1 else none)
    else none
  else some [par r 4 2 % 4096]

/-- Messages open to a destination: sent, and no CMP received (R287). -/
def openTo (s : State) (dest : Nat) : Nat := (s.cmd.opened.filter fun m => decide (m.1 = dest)).length

/-- No message can be sent to a target: its routing entry is not valid (R277). -/
def unroutable (s : State) (dest : Nat) : Bool := !eidFenced s dest && !isLocal s dest && !(route s dest).valid

/-- Send one message of a tile to a target. A fenced unicast target is sent nothing, and the tile waits for a CMP that
does not come (R290, R291). -/
def putSend (a : At) (h num : Nat) (kind : Nat) (parts : List (Nat × Bytes × Nat)) (dest : Nat) (s : State) : State :=
  let mc := decide (parBits a.r 2 5 1 = 1)
  if eidFenced s dest then
    (if mc then
      count (modOp s h fun o => { o with cond := addCond o.cond stFencedSkip, skips := insNat dest o.skips }) pgRTE 2 1
     else
      let m : OutMsg := { op := h, tile := num, dest, msgId := 65536, mc }
      { s with cmd := { s.cmd with sent := s.cmd.sent ++ [m] } })
  else
    let id := tgetD s.cmd.msgNext dest 0
    let m : OutMsg := { op := h, tile := num, dest, msgId := id, mc }
    let s := { s with cmd := { s.cmd with
      sent := s.cmd.sent ++ [m], opened := s.cmd.opened ++ [(dest, id)], msgNext := tset 0 s.cmd.msgNext dest ((id + 1) % 65536) } }
    let ps := putParts parts
    let len := (ps.map fun p => p.2.1.length).sum
    let base := par a.r 8 8 + num * denseBytes a.t
    (indexed 1 ps).foldl (fun s x =>
      let p := x.2
      emit s { dest, ch := 4 + parBits a.r 3 0 3, sc := opClass a.o, kind, last := decide (x.1 = ps.length), mc,
               group := if mc then par a.r 4 1 else 0, msgId := id, msgLen := len,
               addr := if kind = 1 then base else base + p.1, payBytes := p.2.1.length, offset := p.1, data := p.2.1,
               poison := decide (p.2.2 ≠ 0), pcode := p.2.2 }) s

/-- STORE_PUT (R211, R277, R287, R290, R292). -/
def execStorePut (op tile : Nat) (s : State) : Result :=
  runSink s op tile 3 fun a s =>
    match putTargets s a.r with
    | none => .refuse stNotPermitted s
    | some ds =>
      if ds.any (unroutable s) then
        .refuse stNotPermitted ((ds.filter (unroutable s)).foldl (fun s d =>
          event s { source := pgRTE, sev := sevError, cls := clLink, loc := d }) s)
      else if ds.any fun d => !eidFenced s d && decide (32 ≤ openTo s d) then .wait s
      else
        let (kind, parts) := putMessage a tile
        .done ((parts.map fun p => p.2.1.length).sum) (ds.foldl (fun s d => putSend a op tile kind parts d s) s)

/-! ## What a commit adds -/

/-- The body, header and cursor of a PACKED tile (R185, R211). The cursor is taken from its holders first, so that its add is
one step at its home (R214). -/
def packedWrites (a : At) (h num : Nat) (s : State) : Go Unit :=
  (tileClaim h num (par a.r 8 8) 16 s).bind fun _ s =>
  (tileEat h num (par a.r 8 8) 16 s).bind fun cb s =>
    let cur := leNat (cb.take 8)
    let n := a.t.blocks.length
    if leAt cb 8 4 < cur + n then .refuse stQuota s
    else
      (tilePut h num (par a.r 8 8) (natLe 8 (cur + n)) s).bind fun _ s =>
      (tilePut h num (par a.r 16 8 + 64 * cur) a.t.blocks.flatten s).bind fun _ s =>
        tilePut h num (headerVa a.r true num) (headerBytes a.t.occ cur a.t.fmt a.t.nm n) s

/-- A cursor as the reservations of this tile have left it, by its address. It is taken from its holders before it is read
(R214). -/
def cursorOf (h num va : Nat) (cs : Tbl Nat) (s : State) : Go Nat :=
  match tget cs va with
  | some c => .done c s
  | none => (tileClaim h num va 8 s).bind fun _ s => (tileEat h num va 8 s).bind fun bs s => .done (leNat bs) s

/-- The rows of a ROUTED tile in order (R212): the cursors after it. -/
def routedRows (a : At) (h num : Nat) (tbl : Bytes) : List (Nat × Nat × Nat) → Tbl Nat → State → Go (Tbl Nat)
  | [], cs, s => .done cs s
  | (m, out, wt) :: l, cs, s =>
    let e := (tbl.drop (32 * out)).take 32
    let n := elemBytes a.t.fmt a.t.rowLen
    let rows := a.t.elems.length / max 1 a.t.rowLen
    (cursorOf h num (leAt e 0x10 8) cs s).bind fun c s =>
      let cs := tput cs (leAt e 0x10 8) ((c + 1) % 2 ^ 64)
      if c < leAt e 0x18 4 then
        let row := packElems a.t.fmt ((a.t.elems.drop (m * a.t.rowLen)).take a.t.rowLen)
        (tilePut h num (leAt e 0 8 + c * n) row s).bind fun _ s =>
        (tilePut h num (leAt e 8 8 + 8 * c) (natLe 4 (num * rows + m) ++ natLe 4 wt) s).bind fun _ s =>
          routedRows a h num tbl l cs s
      else routedRows a h num tbl l cs s

/-- The reservations of a ROUTED tile and their writes. -/
def routedWrites (a : At) (h num : Nat) (s : State) : Go Unit :=
  (tileEat h num (par a.r 8 8) (32 * par a.r 3 1) s).bind fun tbl s =>
    (routedRows a h num tbl a.t.routes [] s).bind fun cs s =>
      (goList (fun c s => tilePut h num c.1 (natLe 8 c.2) s) cs s).bind fun _ s => .done () s

/-- What the sink adds at the commit. -/
def commitExtra (a : At) (h num : Nat) (s : State) : Go Unit :=
  match stMode a.r with
  | 2 => if parBits a.r 2 4 1 = 1 then packedWrites a h num s else .done () s
  | 4 => routedWrites a h num s
  | _ => .done () s

/-! ## The commit -/

/-- The notification of a PUBLISH sink to each target that was not skipped (R211, R292). -/
def publishDone (s : State) (o : Op) : State :=
  let r := recOf o (nstat o + 1)
  if stMode r = 3 ∧ parBits r 2 6 1 = 1 ∧ o.committed = opN o then
    (((putTargets s r).getD []).filter fun d => !o.skips.contains d && !eidFenced s d).foldl (fun s d =>
      emit s { dest := d, ch := 4 + parBits r 3 0 3, sc := opClass o, kind := 5, ptag := o.tag,
               mc := decide (parBits r 2 5 1 = 1), group := if parBits r 2 5 1 = 1 then par r 4 1 else 0 }) s
  else s

/-- A committed tile that is SUSPECT: counts, the event naming its engine, and SUSPECT_POLICY (R367, Table 7-4). -/
def suspectTile (s : State) (h eng : Nat) : State :=
  let s := modOp (count s pgFLT 2 1) h fun o => { o with
    suspect := o.suspect + 1, cond := addCond o.cond stSuspect, suspectEngines := setBit o.suspectEngines eng }
  let s := event s { source := pgCORE + eng / 4, sev := sevInfo, cls := clSuspect, handle := h, loc := eng }
  match opOf s h with
  | none => s
  | some o =>
    match opSuspectPolicy o with
    | 1 => undeal (modOp s h fun o => { o with stopped := true, redo := [] }) h
    | 2 => if o.phase = .running ∧ ¬ o.cancelled then beginSuspend s h else s
    | _ => s

/-- The bound of an SC2 tile, fixed at its admission, ends at its commit (R100, Table 5-1, R113). -/
def tileBound (s : State) (h : Nat) (o : Op) (t : Tile) : State :=
  if opClass o ≠ 2 then s
  else
    let s := if boundMissed s t.start t.bound t.void then
        modOp s h fun o => { o with cond := addCond o.cond stBoundExceeded }
      else s
    boundReport s 2 (24 + t.core / 5) (qReq o.queue) o.dom h t.start t.bound t.void

/-- Every write of a tile has been performed: it counts as committed and leaves its engine, with its datapath slots (R170,
R221, R242). -/
def tileDone (s : State) (h : Nat) (o : Op) (t : Tile) : State :=
  let eng := t.eng.getD 0
  let s := arrivalClose s h t.num true
  let s := { s with cmd := { s.cmd with
    tiles := s.cmd.tiles.filter fun x => !(decide (x.op = h) && decide (x.num = t.num)) } }
  let core := pgCORE + eng / 4
  let good := retiredWork t
  let s := count (count (count s core 16 1) core (4 * (eng % 4)) good) core (4 * (eng % 4) + 1) (t.work - good)
  let s := count (count s (qPage o.queue) 3 1) (qPage o.queue) 4 t.sinkBytes
  let s := count (count s (qPage o.queue) 5 good) (qPage o.queue) 6 (t.work - good)
  let s := if t.carried.isEmpty then s else count s pgFLT 1 1
  let s := modOp s h fun o => { o with
    committed := o.committed + 1, bytesRun := o.bytesRun + t.sinkBytes, engines := setBit o.engines eng,
    slots := { o.slots with retired := o.slots.retired + good, wasted := o.slots.wasted + (t.work - good) } }
  let s := tileBound s h o t
  let s := if t.suspect then suspectTile s h eng else s
  let s := match opOf s h with
    | some o => publishDone s o
    | none => s
  settleOp s h

/-- Some of a tile's writes are still being taken from their holders, or wait for the partner (R78, R389). -/
def tileWriting (s : State) (h num : Nat) : Bool :=
  ownPending s (.tile h num) || s.pair.macks.any fun m => m.2.2 = .tile h num

/-- Issue the writes of a tile's commit: all of them may be made, or none is (R23, R217). -/
def issueWrites (o : Op) (t : Tile) (h : Nat) (s : State) : Go Unit :=
  let u := tileUser o h t
  let runs := t.writes.map fun w => (w.pa, w.data.length)
  if t.writes.any fun w => (landingOf s w.pa w.data.length).isSome then .refuse stNotPermitted s
  else if !tileResident o h t runs s then .refuse stNotResident (tileNotResident o t runs s)
  else
    (writeGate s u (runs.flatMap fun r => runHeads r.1 r.2)).bind fun _ s =>
      let s := t.writes.foldl (fun s w =>
        (writeLines u w.pcode (.tile h t.num) (cutLines (w.data.length + 1) w.pa w.data) s).2) s
      .done () (modTile (tileTouch h t.num runs s) h t.num fun t => { t with writes := [], issued := true })

/-- TILE_COMMIT (R23): the sink write and the deferred writes take effect together. -/
def execTileCommit (op tile : Nat) (s : State) : Result :=
  match opOf s op, tileOf s op tile with
  | some o, some t =>
    if t.eng.isNone ∨ t.stage ≠ nstat o + 2 ∨ ¬ (tileMsgs s op tile).isEmpty then .next s
    else if t.issued then (if tileWriting s op tile then .next s else .next (tileDone s op o t))
    else
      match commitExtra ⟨o, t, recOf o (nstat o + 1)⟩ op tile s with
      | .wait s => .next (modTile s op tile fun x => { x with writes := t.writes })
      | .refuse st s => .next (failTile (forgetSnoops s (.tile op tile)) op tile st)
      | .done _ s =>
        let s := forgetSnoops s (.tile op tile)
        match issueWrites o ((tileOf s op tile).getD t) op s with
        | .wait s => .next (modTile s op tile fun x => { x with writes := t.writes })
        | .refuse st s => .next (failTile s op tile st)
        | .done _ s => if tileWriting s op tile then .next s else .next (tileDone s op o ((tileOf s op tile).getD t))
  | _, _ => .next s

end Sys2Proof.Machine
end

