-- ==== Sys2Proof/Machine/Streams.lean ====
section
/-!
DEFINITION. A STREAM before its first tile (R155 to R158, R205) and the arming and completion of an
arrival-driven reduction (R215 to R226).
-/
namespace Sys2Proof.Machine

/-! ## Reads made for an operation itself -/

/-- An operation may use a context: 0xFFF with the queue's grant, any other under R56 (R52). -/
def ctxUsable (s : State) (o : Op) (c : Nat) : Bool :=
  if c = 0xFFF then qPaGrant s o.queue else ctxOk s c o.dom

/-- Translate an address that an operation itself uses, in the caches of cluster 0. -/
def opXlate (h : Nat) (o : Op) (c va : Nat) (write : Bool) (s : State) (tile : Nat := descTile) : Go Nat :=
  match xlate s 0 c o.dom va h tile write with
  | .hit pa _ s => .done pa s
  | .fault code level s => .refuse stTransFault (if tile = descTile then recordFault s h 0 va code level else s)
  | .wait s => .wait s

/-- Translate a run: its (PA, bytes) pieces. -/
def opRuns (h : Nat) (o : Op) (c va n : Nat) (write : Bool) (s : State) (tile : Nat := descTile) :
    Go (List (Nat × Nat)) :=
  goList (fun p s => (opXlate h o c p.1 write s tile).bind fun pa s => .done (pa, p.2) s)
    (vaPieces (n / 4096 + 2) va n) s

/-- Read one run of pool memory for an operation; poison is consumed (R359). -/
def opPaRead (h : Nat) (o : Op) (pa n : Nat) (s : State) : Go Bytes :=
  (userRead s (opUser o (.fetch h) h) pa n).bind fun x s =>
    match x.2.find? (· ≠ 0) with
    | none => .done x.1 s
    | some c => .refuse stPoison
        (event s { source := pgFLT, sev := sevInfo, cls := clPoison, handle := h, loc := pa, pcode := c })

/-- Read a run of addresses in a context. -/
def opRead (h : Nat) (o : Op) (c va n : Nat) (s : State) : Go Bytes :=
  (opRuns h o c va n false s).bind fun runs s =>
    (goList (fun r s => opPaRead h o r.1 r.2 s) runs s).bind fun ps s => .done ps.flatten s

/-- An operation ends before its first tile with a status (R157): the fault words stand, and no tile has failed. -/
def endEarly (s : State) (h st : Nat) : State :=
  endOp (modOp (forgetSnoops s (.fetch h)) h fun o => { o with faults := 0 }) h (condOf st)

/-! ## Arming a reduction -/

/-- The arrival record as the submitter wrote it (Table 9-1). -/
structure ArrivalRec where
  contribs : Nat
  tilesPer : Nat
  expect : Nat
  map : Nat
  eids : Nat
  /-- the controller's fields and RSVD bytes are zero. -/
  clean : Bool
  deriving DecidableEq, Repr

/-- Read Table 9-1. -/
def arrivalRec (b : Bytes) : ArrivalRec :=
  { contribs := leAt b 0 4, tilesPer := leAt b 4 4, expect := leAt b 8 8, map := leAt b 0x10 8, eids := leAt b 0x18 8,
    clean := decide (leNat (b.drop 0x20) = 0) }

/-- The source of an arrival-driven operation is one that R215 allows. -/
def arrivalSource (o : Op) : Bool :=
  let r := recOf o 0
  decide (stCode r = 0x01) && decide (stMode r ≠ 1) && decide (parBits r 3 4 1 = 0)

/-- R215 on the arrival record. -/
def arrivalRecOk (o : Op) (r : Bytes) (a : ArrivalRec) : Bool :=
  decide (1 ≤ a.contribs) && decide (a.contribs ≤ 4096) && decide (opN o = a.contribs * a.tilesPer) &&
  decide (par r 4 4 = a.tilesPer) && decide (a.expect = opN o * (if stMode (recOf o 0) = 2 then 4096 else (srcShape o).bytes)) &&
  a.clean && decide (a.map % 64 = 0)

/-- The runs of landing tile i: its body, and its header for a SPARSE source (R217, R218). -/
def landingRuns (h : Nat) (o : Op) (i : Nat) (s : State) : Go (List (Nat × Nat) × List (Nat × Nat)) :=
  let r := recOf o 0
  if stMode r = 2 then
    (opRuns h o (opCtx o) (headerVa r false i) 16 false s).bind fun hd s =>
      (opRuns h o (opCtx o) (par r 16 8 + 4096 * i) 4096 false s).bind fun bd s => .done (bd, hd) s
  else
    (opRuns h o (opCtx o) (rangeVa r 3 (srcShape o).bytes i) (srcShape o).bytes false s).bind fun bd s =>
      .done (bd, []) s

/-- The listed EIDs (Table 9-1): none where VALID is 0. -/
def eidList (bs : Bytes) : List (Option Nat) :=
  (chunks 2 (bs.length + 1) bs).map fun c =>
    let v := leNat c
    if v.testBit 15 then some (v % 4096) else none

/-- Armed reductions (R215). -/
def armedOps (s : State) : Nat :=
  (s.cmd.ops.filter fun e => (e.2.arrival.map fun a => a.armed).getD false).length

/-- Check and arm an arrival-driven operation: STATE = 1, and contributors that are fenced already are skipped
(R215 to R217, R223). -/
def armReduction (h : Nat) (o : Op) (s : State) : Go Unit :=
  match arrivalStations o with
  | [] => .done () s
  | _ :: _ :: _ => .refuse stNotPermitted s
  | [k] =>
    let r := recOf o k
    if !arrivalSource o || decide (opFaultPolicy o = 0) || decide (par r 16 8 % 64 ≠ 0) then .refuse stNotPermitted s
    else
      (opRead h o (opCtx o) (par r 16 8) 64 s).bind fun rb s =>
        let a := arrivalRec rb
        if !arrivalRecOk o r a then .refuse stNotPermitted s
        else if 64 ≤ armedOps s then .refuse stQuota s
        else
          let mapBytes := ceilDiv (opN o) 8
          let off := a.map % 4096
          (if a.eids = 0 then .done [] s else opRead h o (opCtx o) a.eids (2 * a.contribs) s).bind fun eb s =>
          (opXlate h o (opCtx o) (par r 16 8) true s).bind fun rec s =>
          (goList (fun j s => opXlate h o (opCtx o) (a.map - off + 4096 * j) true s)
            (rangeFrom 0 (ceilDiv (off + mapBytes) 4096)) s).bind fun maps s =>
          (goList (fun i s => landingRuns h o i s) (rangeFrom 0 (opN o)) s).bind fun lands s =>
          (writeGate s (opUser o (.fetch h) h) (rec :: maps.map fun p => p + off % 4096)).bind fun _ s =>
            let arr : Arrival := {
              record := rec, contribs := a.contribs, tilesPer := a.tilesPer, expect := a.expect,
              tileBytes := if stMode (recOf o 0) = 2 then 4096 else (srcShape o).bytes,
              mapPas := maps, mapOff := off, eids := eidList eb, sparse := decide (stMode (recOf o 0) = 2),
              lands := lands.map Prod.fst, hdrs := if stMode (recOf o 0) = 2 then lands.map Prod.snd else [] }
            let s := modOp s h fun o => { o with arrival := some arr }
            let gone := ((eidList eb).filterMap id).eraseDups.filter fun e => eidFenced s e
            .done () (flushRecord (gone.foldl (fun s e => skipIn s h e) s) h)

/-- The operation begins to run, or suspends at once where a SUSPEND came first (R165, R166). -/
def beginRun (h : Nat) (o : Op) (s : State) : Go Unit :=
  (armReduction h o s).bind fun _ s =>
    let s := modOp (forgetSnoops s (.fetch h)) h fun o => { o with phase := .running }
    .done () (if o.askSusp then beginSuspend s h else s)

/-! ## Acceptance -/

/-- STREAM (R155): the descriptor read begins. DESIGN CHOICE: a DESC that is not aligned to 256 B, for which the spec
names no outcome, completes with NOT_PERMITTED (log entry 79). -/
def execStream (h : Nat) (s : State) : Result :=
  match ready s h 0x01 with
  | none => .next s
  | some o =>
    if leAt o.entry 8 8 % 256 ≠ 0 then .next (endOp s h (condOf stNotPermitted))
    else .next (modOp s h fun o => { o with phase := .fetching })

/-- End a set-up step: it waits, the operation ends, or the step's state stands. -/
def setupEnd (h : Nat) (g : Go Unit) : Result :=
  match g with
  | .done _ s => .next s
  | .wait s => .next s
  | .refuse st s => .next (endEarly s h st)

/-- What follows an accepted descriptor (R52, R56, R157, R158, Table 5-9, R205). DESIGN CHOICE: the grounds of R157 are
tested before the context, whose failure is the other one, and BAD_CONTEXT found here, where no address has faulted,
reports VA 0 (log entry 79). -/
def descChecked (h : Nat) (o : Op) (s : State) : Go Unit :=
  if !chainOk s o then .refuse stNotPermitted s
  else if !ctxUsable s o (opCtx o) then .refuse stTransFault (recordFault s h 0 0 6 0)
  else if opN o = 0 then .refuse stOk s
  else if !admitEn s || decide (scRate s (opClass o) = 0) then .refuse stNotAdmitted s
  else if (updates o).isEmpty then beginRun h o s
  else .done () (modOp (forgetSnoops s (.fetch h)) h fun o => { o with phase := .block })

/-- DESCRIPTOR_FETCH_DONE (R155, R157). -/
def execDescriptorFetchDone (h : Nat) (s : State) : Result :=
  match opOf s h with
  | none => .next s
  | some o =>
    if o.phase ≠ .fetching then .next s
    else
      let c := qDescCtx s o.queue
      setupEnd h
        (if !ctxUsable s o c then .refuse stTransFault (recordFault s h 0 (leAt o.entry 8 8) 6 0)
         else (opRead h o c (leAt o.entry 8 8) 256 s).bind fun d s =>
           let o := { o with desc := d }
           descChecked h o (modOp s h fun x => { x with desc := d }))

/-- Auxiliary bytes per element of an UPDATE: its weight and its states (R207, R233). -/
def updateBytes (b : Bytes) : Nat :=
  (elemBits (leAt b 0x18 1) + elemBits (leAt b 0x19 1) * (if leAt b 0x10 8 = 0 then 1 else 2)) / 8

/-- Read the parameter blocks of the UPDATE stations in order (R205). -/
def readBlocks (h : Nat) (o : Op) (s : State) : Go (List (Nat × Bytes)) :=
  goList (fun k s => (opRead h o (opCtx o) (par (recOf o k) 8 8) 128 s).bind fun b s =>
    .done (par (recOf o k) 1 1, b) s) (updates o) s

/-- UPDATE_BLOCK_FETCH_DONE (R205, R206, R237). -/
def execUpdateBlockFetchDone (h : Nat) (s : State) : Result :=
  match opOf s h with
  | none => .next s
  | some o =>
    if o.phase ≠ .block then .next s
    else
      setupEnd h
        ((readBlocks h o s).bind fun bs s =>
          if !bs.all (fun b => blockOkFor b.1 b.2) ||
              decide (65536 < auxTotal o (middles o) (bs.map fun b => updateBytes b.2)) then .refuse stNotPermitted s
          else
            let block := bs.flatMap Prod.snd
            let coef := bs.flatMap fun b => coefficients b.1 b.2
            beginRun h { o with block, coef } (modOp s h fun x => { x with block, coef }))

/-! ## Completion of a reduction -/

/-- The accumulator of an arrival-driven tile: (VA, bytes) (R202). -/
def accumSpan (o : Op) (i : Nat) : Option (Nat × Nat) :=
  if o.arrival.isNone then none
  else (arrivalStations o).head?.map fun k =>
    let r := recOf o k
    let e := (shapeAt o k).e
    (par r 8 8 + i % max 1 (par r 4 4) * e * 4, 4 * e)

/-- Mark the accumulator tile of the first tile that failed before it had translated it: every line, with poison (R222).
One that no longer translates, or may not be written, holds nothing to mark. -/
def markLost (s : State) (h : Nat) : State :=
  match (opOf s h).bind fun o => o.arrival.map fun a => (o, a) with
  | none => s
  | some (o, a) =>
    match a.lostAcc with
    | [] => s
    | (i, code) :: _ =>
      let next (s : State) : State := modArrival s h fun a => { a with lostAcc := a.lostAcc.drop 1 }
      let go : Go Unit := match accumSpan o i with
        | none => .refuse stNotPermitted s
        | some (va, n) => (opRuns h o (opCtx o) va n true s markTile).bind fun runs s =>
          (goList (fun r s => userStore s (opUser o (.fetch (2 ^ 44 + h)) h) r.1 (zeros r.2) code .atomic) runs s).bind
            fun _ s => .done () s
      match go with
      | .done _ s => next s
      | .wait s => s
      | .refuse _ s => next s

/-- What reductions owe to memory: marks of lost folds, and their records (R221, R222). -/
def settleReductions (s : State) : State :=
  flushRecords ((tkeys s.cmd.ops fun _ o => o.arrival.isSome).foldl markLost s)

/-- REDUCTION_COMPLETE (R224, Table 9-2): STATE = 2, and the completion is due. -/
def execReductionComplete (h : Nat) (s : State) : Result :=
  match opOf s h with
  | none => .next s
  | some o =>
    match o.arrival with
    | none => .next s
    | some a =>
      guarded ((decide (o.phase = .running) || decide (o.phase = .suspending)) && !o.cancelled && a.armed &&
          (opTiles s h).isEmpty && reductionClosed a) s fun s => closeReduction (markLost s h) h

end Sys2Proof.Machine
end

