-- ==== Sys2Proof/Machine/Engine.lean ====
section
/-!
DEFINITION. Dealing and assigning tiles (R230 to R232, R65, R106, R107) and the substitution of a reserve core
(R239, R240).
-/
namespace Sys2Proof.Machine

/-! ## Cores -/

def coreReg (c : Nat) : Nat := ra (pgCORE + c) 0x100
def coreGated (s : State) (c : Nat) : Bool := rb s (coreReg c) 9
def setRole (s : State) (c role : Nat) : State := wf s (coreReg c) 0 2 role
def setGated (s : State) (c : Nat) (b : Bool) : State := wb s (coreReg c) 9 b

/-- Cores of a cluster that are in service. -/
def clusterCores (s : State) (cl : Nat) : List Nat := (rangeFrom (5 * cl) 5).filter (coreInService s)

/-- Tiles dealt to a core and not assigned. -/
def coreDealt (s : State) (c : Nat) : List Tile := s.cmd.tiles.filter fun t => decide (t.core = c) && t.eng.isNone

/-- Tiles of an operation that engines hold. -/
def inEngines (s : State) (h : Nat) : Nat := ((opTiles s h).filter fun t => t.eng.isSome).length

/-- The mode of PWR gates a core until a tile is dealt to it: dealing wakes it (R458). -/
def wakeCore (s : State) (c : Nat) : State := if coreGated s c then setGated s c false else s

/-! ## Dealing -/

/-- The clusters that an operation's batches go to in rotation: allowed, with a core in service (R230). -/
def opRotation (s : State) (o : Op) : List Nat := (opClusters o).filter fun cl => !(clusterCores s cl).isEmpty

/-- The next tiles of an operation: at most 16 of its frontier list or from NEXT, or one landed tile (R230, R231,
R167). -/
def nextBatch (o : Op) : List Nat :=
  match o.arrival with
  | some a => (o.redo ++ a.queue).take 1
  | none => if o.redo.isEmpty then rangeFrom o.next (min 16 (opN o - o.next)) else o.redo.take 16

/-- An operation may be dealt to a cluster: it runs, it is that cluster's turn, and it is below its cap (R231). -/
def dealable (s : State) (cl h : Nat) (o : Op) : Bool :=
  let ro := opRotation s o
  decide (o.opcode = 0x01) && decide (o.phase = .running) && !o.stopped && !o.cancelled &&
  decide (nth ro (tgetD s.cmd.deal h 0 % max 1 ro.length) 4 = cl) && decide (inEngines s h < opCap o) &&
  !(nextBatch o).isEmpty

/-- The operation whose batch a cluster deals next: the smallest finish tag, then the lower class, then the earlier
handle (R108, R109, R230). -/
def dealPick (s : State) (cl : Nat) : Option (Nat × Op) :=
  (s.cmd.ops.filter fun e => dealable s cl e.1 e.2).foldl (fun acc e => match acc with
    | none => some e
    | some b =>
      let te := finishTag s (24 + cl) (opClass e.2) 4096
      let tb := finishTag s (24 + cl) (opClass b.2) 4096
      if tagLater tb te then some e
      else if te = tb ∧ (opClass e.2 < opClass b.2 ∨ (opClass e.2 = opClass b.2 ∧ earlier e.1 b.1)) then some e
      else some b) none

/-- The first asking core at or after the cluster's rotating pointer (R230). -/
def askingCore (s : State) (cl : Nat) : Option Nat :=
  let p := tgetD s.cmd.deal (2 ^ 40 + cl) 0
  ((rangeFrom p 5).map fun k => 5 * cl + k % 5).find? fun c =>
    coreInService s c && decide ((coreDealt s c).length < 16)

/-- A tile that is admitted now has a void bound: its core is being substituted (Table 5-2). -/
def tileBornVoid (s : State) (t : Tile) : Bool := decide (coreRole s t.core = 3)

/-- A dealt tile asks for admission (R106, Table 5-9). Its bound, or that of its operation's run, is fixed now (R100). -/
def admitTile (s : State) (h num : Nat) : State :=
  match opOf s h, tileOf s h num with
  | some o, some t =>
    let c := opClass o
    let sch := 24 + t.core / 5
    if t.admitted || t.eng.isSome then s
    else if !admitEn s || decide (scRate s c = 0) then failTile s h num stNotAdmitted
    else
      match weirAdmit s (qReq o.queue) c 4096 [(sch, 4096)] with
      | none => countRefusal s (qReq o.queue) c 4096
      | some s =>
        let s := modTile s h num fun t => { t with
          admitted := true, start := s.now, bound := boundNs s c 4096, void := t.void || tileBornVoid s t }
        let s := enqueue s sch { tag := 0, cls := c, len := 4096, charge := 4096 + overhead s sch, tile := some (h, num) }
        modOp s h fun o => { o with
          bytesAdmitted := o.bytesAdmitted + 4096, runStart := some (o.runStart.getD s.now),
          terms := if o.runStart.isNone then boundTerms s c else o.terms }
  | _, _ => s

/-- The tiles of a batch leave the operation's frontier. -/
def takeBatch (o : Op) (b : List Nat) : Op :=
  let o := { o with
    redo := o.redo.filter fun n => !b.contains n,
    next := if o.arrival.isNone ∧ o.redo.isEmpty then o.next + b.length else o.next }
  { o with arrival := o.arrival.map fun a => { a with queue := a.queue.filter fun n => !b.contains n } }

/-- Tiles that a retired core of a cluster has left undone: they go to its other cores (R240). -/
def stranded (s : State) (cl : Nat) : List Tile :=
  s.cmd.tiles.filter fun t => decide (t.core / 5 = cl) && t.eng.isNone && decide (coreRole s t.core = 2)

/-- The stranded tiles that a cluster deals next: at most 16 of the first operation that is below its cap. -/
def strandedBatch (s : State) (cl : Nat) : List Tile :=
  let ts := (stranded s cl).filter fun t => ((opOf s t.op).map fun o => decide (inEngines s t.op < opCap o)).getD false
  match ts with
  | [] => []
  | t :: _ => (ts.filter fun u => u.op = t.op).take 16

/-- The rotating pointer of a cluster moves past a core (R230). -/
def passCore (s : State) (cl c : Nat) : State :=
  { s with cmd := { s.cmd with deal := tput s.cmd.deal (2 ^ 40 + cl) ((c - 5 * cl + 1) % 5) } }

/-- Deal stranded tiles to a core, behind those that it has. -/
def dealStranded (s : State) (cl c : Nat) (b : List Tile) : State :=
  let s := passCore (wakeCore s c) cl c
  { s with cmd := { s.cmd with tiles := (s.cmd.tiles.filter fun t => !b.contains t) ++ b.map fun t => { t with core := c } } }

/-- Deal the next batch of an operation to a core. -/
def dealBatch (s : State) (cl c h : Nat) (o : Op) : State :=
  let b := nextBatch o
  let s := setOp (passCore (wakeCore s c) cl c) h (takeBatch o b)
  let s := { s with cmd := { s.cmd with
    tiles := s.cmd.tiles ++ b.map fun n => { op := h, num := n, core := c }
    deal := tput s.cmd.deal h (tgetD s.cmd.deal h 0 + 1) } }
  b.foldl (fun s n => admitTile s h n) s

/-- BATCH_DEAL (R230, R231, R240). DESIGN CHOICE: what a retired core has left is dealt before anything new (log entry 84). -/
def execBatchDeal (cluster : Nat) (s : State) : Result :=
  if 4 ≤ cluster ∨ s.pair.pause ∨ ¬ serving s then .next s
  else
    match askingCore s cluster with
    | none => .next s
    | some c =>
      match strandedBatch s cluster, dealPick s cluster with
      | [], none => .next s
      | [], some (h, o) => .next (dealBatch (count s (pgCLU + cluster) 11 1) cluster c h o)
      | b, _ => .next (dealStranded (count s (pgCLU + cluster) 11 1) cluster c b)

/-- TILE_ADMISSION_RETRY (R107). -/
def execTileAdmissionRetry (op tile : Nat) (s : State) : Result := guarded (serving s) s fun s => admitTile s op tile

/-! ## Assignment -/

/-- The addresses of a tile that its records alone give: (VA, bytes, write). -/
def staticSpans (o : Op) (i : Nat) : List (Nat × Nat × Bool) :=
  let src := recOf o 0
  let x := srcShape o
  let source :=
    if stCode src ≠ 0x01 then []
    else
      match stMode src with
      | 0 => (rangeVa src 3 x.bytes i, x.bytes, false) ::
          (if isMx x.fmt then [(scaleVa src x.e i, x.e / 32, false)] else [])
      | 1 => let n := 4096 / gatherRow src
          [(par src 16 8 + 4 * (i * n), 4 * n, false)]
      | _ => [(headerVa src (parBits src 3 4 1 = 1) i, 16, false)]
  let k := nstat o + 1
  let sink := recOf o k
  let y := shapeAt o k
  source ++ if stCode sink = 0x20 ∧ stMode sink = 0 then [(rangeVa sink 2 y.bytes i, y.bytes, true)] else []

/-- The engines that an ENGINE_TEST holds (R370). -/
def testedEngines (s : State) : List Nat :=
  s.cmd.ops.flatMap fun e => if e.2.phase = .running then e.2.tests.map Prod.fst else []

/-- The lowest-numbered free engine of a core (Table 5-13, R232, R370). -/
def freeEngine (s : State) (c : Nat) : Option Nat :=
  (rangeFrom (4 * c) 4).find? fun e =>
    decide ((s.cmd.tiles.filter fun t => t.eng = some e).length < 8) && !(testedEngines s).contains e

/-- Translate what a tile's records give. -/
def translateTile (h num : Nat) (o : Op) (s : State) : Go Unit :=
  (goList (fun (x : Nat × Nat × Bool) s => tileRuns h num x.1 x.2.1 x.2.2 s) (staticSpans o num) s).bind
    fun _ s => .done () s

/-- Assign the first tile of a list that can be assigned; a tile whose translation waits lets the next go first. -/
def assignFirst (eng : Nat) : List Tile → State → State
  | [], s => s
  | t :: ts, s =>
    match opOf s t.op, tileOf s t.op t.num with
    | some o, some _ =>
      if opCap o ≤ inEngines s t.op then assignFirst eng ts s
      else
        match translateTile t.op t.num o s with
        | .wait s => assignFirst eng ts s
        | .refuse st s => failTile s t.op t.num st
        | .done _ s => modTile s t.op t.num fun t => { t with eng := some eng, serial := s.cmd.serial, stage := 0 }
    | _, _ => assignFirst eng ts s

/-- TILE_ASSIGN (R232): started tiles of the core, in stream order. -/
def execTileAssign (core : Nat) (s : State) : Result :=
  if 20 ≤ core ∨ ¬ coreInService s core ∨ coreGated s core ∨ s.pair.pause ∨ ¬ serving s then .next s
  else
    match freeEngine s core with
    | none => .next s
    | some e => .next (assignFirst e ((coreDealt s core).filter fun t => t.started) s)

/-! ## Prefetch -/

/-- A prefetch walk for one address: nothing where it could not succeed (R65). -/
def prefetchAt (s : State) (o : Op) (t : Tile) (va : Nat) (write : Bool) : State :=
  let c := opCtx o
  let cl := t.core / 5
  if c = 0xFFF ∨ (leafOf s cl c va).isSome ∨ ¬ ctxOk s c o.dom ∨ ¬ canonical (ctxView s c) va then s
  else startWalk s cl c va t.op t.num write true

/-- Prefetch the pages of one run. -/
def prefetchRun (s : State) (o : Op) (t : Tile) (x : Nat × Nat × Bool) : State :=
  (vaPieces (x.2.1 / 4096 + 2) x.1 x.2.1).foldl (fun s p => prefetchAt s o t p.1 x.2.2) s

/-- The bytes at a run of a tile's addresses as they stand, where its translations are ready. -/
def peekRun (s : State) (o : Op) (t : Tile) (va n : Nat) : Option Bytes :=
  let u := tileUser o t.op t
  let parts := (vaPieces (n / 4096 + 2) va n).map fun p =>
    (leafOf s (t.core / 5) (opCtx o) p.1).bind fun f =>
      let pa := f.pa + (p.1 - f.vpn * 4096)
      (userPlace s u pa false).map fun pl => bytesAt s (viewSub s pl u.ident u.serial * 65536 + pa % 65536) p.2
  if parts.any Option.isNone then none else some (parts.filterMap id).flatten

/-- The rows of a tile's FETCH GATHER in list order, once its index list can be read (R65). -/
def gatherSpans (s : State) (o : Op) (t : Tile) : List (Nat × Nat × Bool) :=
  let r := recOf o 0
  if stCode r ≠ 0x01 ∨ stMode r ≠ 1 then []
  else
    let n := gatherRow r
    let rows := 4096 / n
    match peekRun s o t (par r 16 8 + 4 * (t.num * rows)) (4 * rows) with
    | none => []
    | some bs => ((indexList bs).filter fun ix => ix < par r 4 4).map fun ix => (par r 8 8 + ix * n, n, false)

/-- TRANSLATION_PREFETCH (R65): the next tiles of each operation of the core, up to PF_DEPTH of each. -/
def execTranslationPrefetch (core : Nat) (s : State) : Result :=
  let depth := rf s (ra pgXLT 0x194) 0 5
  let ts := coreDealt s core
  guarded (decide (core < 20) && coreInService s core) s fun s =>
    (ts.filter fun t => decide (((ts.takeWhile (· ≠ t)).filter fun u => u.op = t.op).length < depth)).foldl (fun s t =>
      match opOf s t.op with
      | none => s
      | some o => (staticSpans o t.num ++ gatherSpans s o t).foldl (fun s x => prefetchRun s o t x) s) s

/-! ## Substitution of a reserve core -/

/-- A tile that has left its engine and waits to be assigned again. -/
def freshTile (t : Tile) : Tile :=
  { op := t.op, num := t.num, core := t.core, admitted := t.admitted, started := t.started, start := t.start,
    bound := t.bound, void := true }

/-- Insert a tile into a list by its number. -/
def insTile (t : Tile) : List Tile → List Tile
  | [] => [t]
  | u :: us => if t.num ≤ u.num then t :: u :: us else u :: insTile t us

/-- The queue of one operation's tiles at a core that drains: discarded and unassigned tiles in stream order; of an
arrival-driven one the discarded come first (Tables 10-4, 10-6). -/
def drainedQueue (s : State) (h : Nat) (gone wait : List Tile) : List Tile :=
  let all := (gone ++ wait).filter fun t => t.op = h
  if ((opOf s h).bind fun o => o.arrival).isSome then all else all.foldr insTile []

/-- Draining (Table 10-4): tiles whose sink write has begun stay; every other is discarded, holds no translation any
longer (Table 10-6), and stands in the core's queue again. -/
def drainCore (s : State) (c : Nat) : State :=
  let mine := s.cmd.tiles.filter fun t => t.core = c
  let gone := mine.filter fun t => t.eng.isSome && !t.sinking
  let s := gone.foldl (fun s t => forgetSnoops (wasteTile s t 18) (.tile t.op t.num)) s
  let keep := (s.cmd.tiles.filter fun t => decide (t.core ≠ c) || t.sinking).map fun t =>
    if t.core = c then { t with void := true } else t
  let wait := (mine.filter fun t => t.eng.isNone).map fun t => { t with void := true }
  let hs := (mine.map fun t => t.op).eraseDups
  let tiles := keep ++ hs.flatMap fun h => drainedQueue s h (gone.map freshTile) wait
  let left (l : List (Nat × Nat)) : List (Nat × Nat) := l.filter fun x => !gone.any fun t => t.op = x.1 && t.num = x.2
  { s with
    cmd := { s.cmd with tiles }
    xlt := { s.xlt with invals := tmap s.xlt.invals fun _ l => left l } }

/-- What a retired core has left is dealt again by its cluster (R240), or, where no core of it is in service, goes back to
its operations. -/
def returnQueue (s : State) (c : Nat) : State :=
  if !(clusterCores s (c / 5)).isEmpty then s
  else
    let back := stranded s (c / 5)
    let s := { s with cmd := { s.cmd with tiles := s.cmd.tiles.filter fun t => !back.contains t } }
    ((back.map fun t => t.op).eraseDups).foldl (fun s h =>
      giveBack s h ((back.filter fun t => t.op = h).map fun t => t.num)) s

/-- Reserve engines left: four for each RESERVE core (Table 16-5). -/
def enginesLeft (s : State) : Nat := 4 * ((rangeFrom 0 20).filter fun c => coreRole s c = 1).length

/-- The cluster's reserve core, while it is RESERVE. -/
def reserveCore (s : State) (cl : Nat) : Option Nat := (rangeFrom (5 * cl) 5).find? fun c => coreRole s c = 1

/-- LEDGER0.ENGINES follows the RESERVE cores. -/
def engineLedger (s : State) : State := wf s (ra pgFLT 0x138) 0 5 (enginesLeft s)

/-- The core of a cluster that is being substituted. -/
def substituting (s : State) (cl : Nat) : Option Nat := (rangeFrom (5 * cl) 5).find? fun c => coreRole s c = 3

/-- A core becomes RETIRED, and its queue returns to its cluster (R240). -/
def retireCore (s : State) (c : Nat) : State := returnQueue (setRole s c 2) c

/-- An engine is retired, and its whole core leaves service (R239, R240). A second core of a cluster finds the reserve core
taken; a reserve core that is retired while it is to serve leaves the core that it was to serve RETIRED. -/
def retireEngine (s : State) (e : Nat) : State :=
  let c := e / 4
  let s := wf s (coreReg c) 5 4 (Nat.lor (rf s (coreReg c) 5 4) (2 ^ (e % 4)))
  let s := event s { source := pgCORE + c, sev := sevError, cls := clEngine, loc := e }
  match coreRole s c with
  | 0 =>
    let s := drainCore s c
    if c % 5 ≠ 4 ∧ (reserveCore s (c / 5)).isSome ∧ (substituting s (c / 5)).isNone then setRole s c 3
    else retireCore s c
  | 1 =>
    let s := engineLedger (setRole s c 2)
    match substituting s (c / 5) with
    | some d => retireCore s d
    | none => s
  | _ => s

/-- RESERVE_POWER_UP (R239): the reserve core leaves power gating. -/
def execReservePowerUp (cluster : Nat) (s : State) : Result :=
  match (if cluster < 4 then substituting s cluster else none), reserveCore s cluster with
  | some _, some r => .next (setGated s r false)
  | _, _ => .next s

/-- RESERVE_GOLDEN_TILE_DONE (R239, R240). -/
def execReserveGoldenTileDone (cluster : Nat) (pass : Bool) (s : State) : Result :=
  match (if cluster < 4 then substituting s cluster else none), reserveCore s cluster with
  | some c, some r =>
    if coreGated s r then .next s
    else
      let s := setRole s c 2
      if pass then
        let s := engineLedger (wf (setRole s r 0) (coreReg r) 2 3 (c % 5))
        let s := { s with cmd := { s.cmd with tiles := s.cmd.tiles.map fun t =>
          if t.core = c ∧ t.eng.isNone then { t with core := r } else t } }
        .next (reserveEvent s (pgCORE + r) c (enginesLeft s))
      else
        let s := engineLedger (setRole s r 2)
        .next (retireCore (event s { source := pgCORE + r, sev := sevError, cls := clEngine, loc := 4 * r }) c)
  | _, _ => .next s

end Sys2Proof.Machine
end

