-- ==== Sys2Proof/Machine/Cxl.lean ====
section
/-!
DEFINITION. The CXL host (chapter 13): CXL.mem through the HDM decoders (R306 to R308), resets of the link (R301),
MSI-X (R305), the memory-device mailbox, DOE and CDAT (R310 to R312).
-/
namespace Sys2Proof.Machine

/-! ## CXL.mem -/

def linkUp (s : State) : Bool := rb s (ra pgCXLP 0x114) 0

/-- Class of CXL.mem requests (R105). -/
def cxlClass (s : State) : Nat := rf s (ra pgWEIR 0x180) 1 3

/-- The PA of an HPA: the window's base plus the offset in the decoder's range (R306). -/
def cxlPa (s : State) (hpa : Nat) : Option Nat :=
  (decoderOf s hpa).map fun e => rf s (ra pgCXLP (0x100 + 4 * e.1)) 0 24 * 0x10000000 + (hpa - e.2.base)

/-- The answer of a request that is refused: a read returns poison, a write is discarded and recorded (R26). A read
refused by the residency test is recorded too (Table 5-9). -/
def cxlRefuse (s : State) (w : CxlWait) (pa st : Nat) : State :=
  if w.write then put (cxlDiscard s w.hpa pa st) (.cxlDone w.hpa)
  else
    let s := count (cxlRecord s 1 1 (dpaOf s w.hpa)) pgCXLP 9 1
    let s := if st = stNotResident then
        event s { source := pgCXLP, sev := sevError, cls := clPoison, status := st, loc := pa }
      else s
    put s (.cxlData w.hpa (zeros 64) true)

/-- A CXL.mem request as RELAY's payload: HPA, the byte mask, 1 for a write, 1 for poison, and the data (log entry 22). -/
def cxlRelayed (w : CxlWait) : Bytes :=
  natLe 8 w.hpa ++ natLe 8 w.mask.toNat ++
    fitBytes 16 (natLe 1 (if w.write then 1 else 0) ++ natLe 1 (if w.poison then 1 else 0)) ++ w.data

/-- A CXL.mem request at CXLP: none while its credit is withheld (R308, R384, R403, R454, Table 5-9). -/
def cxlServe (s : State) (w : CxlWait) : Option State :=
  let pa := (cxlPa s w.hpa).map fun p => p / 64 * 64
  let c := cxlClass s
  if !s.cxl.memActive || s.pair.pause then none
  else if !serving s then
    match pa with
    | none => some (cxlRefuse s w 0 stNotPermitted)
    | some pa =>
      if relays s then
        some (sendRunnel (wb s (ra pgPAIR 0x108) 8 true) 0 (runRelay 20 (cxlRelayed w)))
      else some (cxlRefuse s w pa stNotAdmitted)
  else
    match pa.bind fun p => permitted s 4096 p (!w.write) w.write with
    | none => some (cxlRefuse s w (pa.getD 0) stNotPermitted)
    | some pl =>
      let addr := pa.getD 0
      let line := addr / 64
      if pageFreeing pl || (w.write && pl.reg.versioned && !pl.staging) || !classAllowed s 4096 c ||
          (w.write && (landingOf s addr 64).isSome) then some (cxlRefuse s w addr stNotPermitted)
      else if !admitEn s || decide (scRate s c = 0) then some (cxlRefuse s w addr stNotAdmitted)
      else if sliceHeld s (homeSlice line) then none
      else
        let len := cxlRespBytes (if w.write then 0x12 else 0x1D)
        match weirAdmit s 4096 c 64 [(20, len)] with
        | none => none
        | some s1 =>
          let q := viewSub s pl 1 none
          let st := (subRec s q).state
          if !residencyOk s c pl.reg st then
            some (cxlRefuse (count (touchPages (unadmit s1 4096 c 64 [(20, len)]) [q]) pgTIER 7 1) w addr stNotResident)
          else
            let s1 := count s1 pgCXLP (if w.write then 8 else 7) 1
            let s1 := if st = 3 then startPromote s1 pl.reg.grain q 0 else s1
            some (homeBegin (access s1 [q])
              { kind := if w.write then .wrOnce else .rdOnce, who := .cxl, tag := w.hpa, sc := c, line, start := s.now,
                data := w.data, mask := w.mask, pcode := if w.poison then 7 else 0, bound := boundNs s c 64,
                void := bornVoid s none none 20 (q * 1024 + line % 1024), dom := pl.reg.dom, sch := 20, charge := len + overhead s 20 })

/-- A request from the link: it waits behind those whose credit is withheld. -/
def cxlArrive (s : State) (w : CxlWait) : State :=
  let hold := { s with weir := { s.weir with cxlHeld := s.weir.cxlHeld ++ [w] } }
  if s.weir.cxlHeld.isEmpty then
    match cxlServe s w with
    | some s => s
    | none => if admitEn s && s.cxl.memActive then refusedCount hold 4096 (cxlClass s) 64 else hold
  else hold

/-- CXL_MEM_READ (R308). -/
def execCxlMemRead (hpa : Nat) (s : State) : Result :=
  guarded (linkUp s) s fun s => cxlArrive s { hpa := hpa / 64 * 64, write := false, start := s.now }

/-- CXL_MEM_WRITE (R308). -/
def execCxlMemWrite (hpa : Nat) (data : Bytes) (mask : BitVec 64) (poison : Bool) (s : State) : Result :=
  guarded (linkUp s) s fun s =>
    cxlArrive s { hpa := hpa / 64 * 64, write := true, data := fitBytes 64 data, mask, poison, start := s.now }

/-- CXL_MEM_ADMISSION_RETRY (R107, Table 5-9): the oldest request whose credit is withheld. -/
def execCxlMemAdmissionRetry (s : State) : Result :=
  match s.weir.cxlHeld with
  | [] => .next s
  | w :: ws =>
    match cxlServe { s with weir := { s.weir with cxlHeld := ws } } w with
    | some s => .next s
    | none => .next (if admitEn s && s.cxl.memActive then refusedCount s 4096 (cxlClass s) 64 else s)

/-! ## The link -/

/-- Requests of the host that are admitted and not answered: discarded and counted, each with a void bound (R114,
R301). A transaction that waits for an agent goes on for the home alone. -/
def cxlDropRequests (s : State) : State :=
  let mine (r : HomeReq) : Bool := decide (r.who = .cxl)
  let open_ := s.dir.trans.filter fun e => mine e.2.req
  let units := (sched s 20).units.filter fun u => match u.out with
    | some (.cxlData ..) | some (.cxlDone ..) => true
    | _ => false
  let asked := (s.dir.chain.filter mine) ++ (s.dir.overflow.filter mine) ++ open_.map fun e => e.2.req
  let s := { s with dir := { s.dir with
    chain := s.dir.chain.filter fun r => !mine r, overflow := s.dir.overflow.filter fun r => !mine r } }
  let s := open_.foldl (fun s e =>
    let t := e.2
    if t.done then closeTran s e.1
    else
      let r := { t.req with who := Requester.home, kind := ReqKind.rdOnce, void := true }
      advance (setTran s e.1 { t with req := r, wdata := none, resp := none, tier := none }) e.1) s
  let s := units.foldl (fun s u => unchargeBacklog s 20 u.cls u.charge) s
  let x := sched s 20
  let s := setSched s 20 { x with units := x.units.filter fun u => !units.contains u }
  let s := { s with weir := { s.weir with cxlHeld := [] } }
  let s := asked.foldl (fun s r => count s pgWEIR r.sc 1) s
  if asked.isEmpty then s else errInc s pgCXLP asked.length

/-- CXL_HOT_RESET (R301): the configuration space, MSI-X, the decoders and the device mailbox, and nothing else. -/
def execCxlHotReset (s : State) : Result :=
  let s := cxlDropRequests s
  let s := wr s (ra pgCXLP 0x114) 0
  .next { s with cxl := { s.cxl with decoders := [], vecOpen := [], pba := [], cfg := [], policy := [0, 0, 0, 0] } }

/-- CXL_LINK_UP (R316). -/
def execCxlLinkUp (s : State) : Result := .next (wb s (ra pgCXLP 0x114) 0 true)

/-- Send what a change has unmasked: every pending vector that is open (R305). -/
def msixFlush (s : State) : State :=
  if msixOpen s then
    let go := s.cxl.pba.filter s.cxl.vecOpen.contains
    go.foldl (fun s v => put s (.msix v))
      { s with cxl := { s.cxl with pba := s.cxl.pba.filter fun v => !go.contains v } }
  else s

/-- MSIX_UNMASK (R305): a write to the MSI-X capability, its table, or an enable bit beside it. -/
def execMsixUnmask (req : MsixWrite) (s : State) : Result :=
  let a := ra pgCXLP 0x114
  guarded (linkUp s) s fun s =>
    match req with
    | .vector v masked =>
      if 2048 ≤ v then s
      else msixFlush { s with cxl := { s.cxl with
        vecOpen := if masked then s.cxl.vecOpen.erase v else insNat v s.cxl.vecOpen } }
    | .enable on => msixFlush (wb s a 2 on)
    | .functionMask on => msixFlush (wb s a 3 on)
    | .busMaster on => msixFlush (wb s a 1 on)
    | .ltrEnable on => wb s a 8 on

/-- First writable address bit of the low half of each BAR (Table 13-2), by its offset in the configuration space: the
BARs are 64-bit, so the word above each is its high half (log entry 91). -/
def barBit (offset : Nat) : Option Nat :=
  match offset with
  | 0x10 => some 24
  | 0x18 => some 21
  | 0x20 => some 17
  | 0x14 | 0x1C | 0x24 => some 0
  | _ => none

/-- What is stored of a value written to a BAR half: address bits from its size upwards, and the 64-bit,
not-prefetchable type of a low half (R303). -/
def barWord (bit : Nat) (v : W32) : W32 :=
  BitVec.ofNat 32 (v.toNat / 2 ^ bit * 2 ^ bit + if bit = 0 then 0 else 4)

/-- The bits of the Command register that the host writes, Bus Master Enable apart: memory space, parity response and
SERR. I/O space and INTx are not supported (log entry 91). -/
def commandKept (v : W32) : W32 := v &&& 0x142

/-- A configuration write (R303; log entry 91): the Command register and the BARs. The spec places nothing else. -/
def configWrite (s : State) (offset : Nat) (v : W32) : State :=
  if offset = 4 then
    msixFlush (wb { s with cxl := { s.cxl with cfg := tput s.cxl.cfg 4 (commandKept v) } } (ra pgCXLP 0x114) 1
      (v.getLsbD 2))
  else match barBit offset with
  | some bit => { s with cxl := { s.cxl with cfg := tput s.cxl.cfg offset (barWord bit v) } }
  | none => s

/-- A configuration read: the Command register below its Status half, a BAR, or a word that the spec does not give,
which is a free value (log entries 8 and 91). -/
def configRead (s : State) (offset : Nat) : W32 × State :=
  match barBit offset with
  | some bit => ((tget s.cxl.cfg offset).getD (barWord bit 0), s)
  | none =>
    let (v, s) := drawFree s
    let v := v.setWidth 32
    if offset = 4 then
      let bme : W32 := if rb s (ra pgCXLP 0x114) 1 then 4 else 0
      (v &&& 0xFFFF0000 ||| tgetD s.cxl.cfg 4 0 ||| bme, s)
    else (v, s)

/-- CXL_CONFIG_REQUEST (R303, R454): before Memory_Active, Configuration Request Retry Status. -/
def execCxlConfigRequest (write : Bool) (offset : Nat) (value : W32) (s : State) : Result :=
  let offset := offset / 4 * 4
  guarded (linkUp s) s fun s =>
    if !s.cxl.memActive then put s (.reply 0x20001 [offset] [])
    else if write then configWrite s offset value
    else
      let r := configRead s offset
      put r.2 (.readData offset r.1)

/-- HDM_DECODER_COMMIT (R306): Error Not Committed for interleave or a range beyond DPA_SIZE. A committed decoder is
locked to its range until the host takes the commit back, which `ways` none stands for (CXL 2.0; log entry 91). -/
def execHdmDecoderCommit (dec base size dpa : Nat) (ways : Option Nat) (s : State) : Result :=
  let a := ra pgCXLP 0x114
  guarded (linkUp s && decide (dec < 4)) s fun s =>
    let u := 0x10000000
    let (base, size, dpa) := (base / u * u, size / u * u, dpa / u * u)
    if ways.isNone then wb { s with cxl := { s.cxl with decoders := tdel s.cxl.decoders dec } } a (4 + dec) false
    else if rb s a (4 + dec) then s
    else if ways ≠ some 1 ∨ rf s (ra pgCXLP 0x110) 0 16 * u < dpa + size then put s (.reply 0x20002 [dec, 1] [])
    else
      let s := { s with cxl := { s.cxl with decoders := tput s.cxl.decoders dec { base, size, dpa } } }
      put (wb s a (4 + dec) true) (.reply 0x20002 [dec, 0] [])

/-! ## The memory-device mailbox (R310) -/

/-- Return codes (CXL 2.0; log entry 32). -/
def mbSuccess := 0
def mbInvalidInput := 2
def mbUnsupported := 3
def mbInvalidHandle := 14
def mbInvalidLog := 15

/-- A command completes: its reply, and vector 1 (R305). -/
def mbReply (s : State) (op rc : Nat) (words : List Nat) (bytes : Bytes := []) : State :=
  msix (put s (.reply (0x10000 + op) (rc :: words) bytes)) 1

/-- A mailbox command while the link is up. -/
def mailbox (s : State) (f : State → State) : Result := guarded (linkUp s) s f

/-- The words of an event record: handle, kind, DPA or location, time. -/
def cxlRecordWords (r : CxlRecord) : List Nat := [r.handle, r.kind, r.arg, r.time]

/-- GET_EVENT_RECORDS (R312). -/
def execGetEventRecords (log : Nat) (s : State) : Result :=
  mailbox s fun s =>
    if 4 ≤ log then mbReply s 0x0100 mbInvalidLog []
    else
      let l := tgetD s.cxl.logs log {}
      mbReply s 0x0100 mbSuccess
        ((if l.overflow then 1 else 0) :: l.lost :: l.records.length :: l.records.flatMap cxlRecordWords)

/-- CLEAR_EVENT_RECORDS (R312): no handle clears all; named ones must be the oldest, in order. -/
def execClearEventRecords (log : Nat) (handles : List Nat) (s : State) : Result :=
  mailbox s fun s =>
    let l := tgetD s.cxl.logs log {}
    if 4 ≤ log then mbReply s 0x0101 mbInvalidLog []
    else if (l.records.map fun r => r.handle).take handles.length ≠ handles then mbReply s 0x0101 mbInvalidHandle []
    else
      let rs := if handles.isEmpty then [] else l.records.drop handles.length
      let l' := { l with records := rs, overflow := false, lost := 0 }
      mbReply { s with cxl := { s.cxl with logs := tset {} s.cxl.logs log l' } } 0x0101 mbSuccess []

/-- GET_EVENT_INTERRUPT_POLICY (R310). -/
def execGetEventInterruptPolicy (s : State) : Result := mailbox s fun s => mbReply s 0x0102 mbSuccess s.cxl.policy

/-- SET_EVENT_INTERRUPT_POLICY (R310): none, or MSI-X on vector 1. -/
def execSetEventInterruptPolicy (policy : List Nat) (s : State) : Result :=
  mailbox s fun s =>
    if policy.length = 4 ∧ policy.all (· ≤ 1) then
      mbReply { s with cxl := { s.cxl with policy } } 0x0103 mbSuccess []
    else mbReply s 0x0103 mbInvalidInput []

/-- GET_FW_INFO (R310): the slot of the running control-processor firmware, and the versions of both. -/
def execGetFwInfo (s : State) : Result :=
  mailbox s fun s =>
    let i := tgetD s.fw.types 4 {}
    mbReply s 0x0200 mbSuccess [if i.runB then 2 else 1, i.a.version, i.b.version]

/-- GET_TIMESTAMP (R310): the time set by the host advances with device time; 0 before it is set. -/
def execGetTimestamp (s : State) : Result :=
  mailbox s fun s =>
    mbReply s 0x0300 mbSuccess [match s.cxl.stampAt with
      | some t => s.cxl.stamp + (s.now - t)
      | none => 0]

/-- SET_TIMESTAMP (R310). -/
def execSetTimestamp (value : BitVec 64) (s : State) : Result :=
  mailbox s fun s =>
    mbReply { s with cxl := { s.cxl with stamp := value.toNat, stampAt := some s.now } } 0x0301 mbSuccess []

/-- The identifier of the Command Effects Log (CXL 2.0; log entry 32). -/
def celUuid : Nat := 0x0da9c0b5bf414b788f7996b1623b3f17

/-- The Command Effects Log: opcode and effect of every command of Table 13-4 (log entry 32). -/
def celBytes : Bytes :=
  [(0x0100, 0), (0x0101, 0x10), (0x0102, 0), (0x0103, 8), (0x0200, 0), (0x0300, 0), (0x0301, 8), (0x0400, 0),
   (0x0401, 0), (0x4000, 0), (0x4100, 0), (0x4200, 0)].flatMap fun e => natLe 2 e.1 ++ natLe 2 e.2

/-- GET_SUPPORTED_LOGS (R310). -/
def execGetSupportedLogs (s : State) : Result :=
  mailbox s fun s => mbReply s 0x0400 mbSuccess [celUuid, celBytes.length]

/-- GET_LOG (R310). -/
def execGetLog (uuid : BitVec 128) (offset len : Nat) (s : State) : Result :=
  mailbox s fun s =>
    if uuid.toNat ≠ celUuid ∨ celBytes.length < offset + len then mbReply s 0x0401 mbInvalidInput []
    else mbReply s 0x0401 mbSuccess [] ((celBytes.drop offset).take len)

/-- Volatile capacity in 256 MiB units (Table 13-9). -/
def dpaUnits (s : State) : Nat := rf s (ra pgCXLP 0x110) 0 16

/-- IDENTIFY_MEMORY_DEVICE (R310): total and volatile capacity; persistent capacity, label area and poison list 0. -/
def execIdentifyMemoryDevice (s : State) : Result :=
  mailbox s fun s => mbReply s 0x4000 mbSuccess [dpaUnits s, dpaUnits s, 0, 0, 0]

/-- GET_PARTITION_INFO (R310): active volatile and persistent, next volatile and persistent. -/
def execGetPartitionInfo (s : State) : Result :=
  mailbox s fun s => mbReply s 0x4100 mbSuccess [dpaUnits s, 0, dpaUnits s, 0]

/-- GET_HEALTH_INFO (R310): the die temperature and the corrected-error counts. Table 21-2 gives CXLP no counter of
corrected errors: those are free values (log entry 8). -/
def execGetHealthInfo (s : State) : Result :=
  mailbox s fun s =>
    let (v, s) := drawFree s
    mbReply s 0x4200 mbSuccess [rf s (ra pgPWR 0x110) 0 8, v.toNat % 2 ^ 32, v.toNat / 2 ^ 32]

/-- UNSUPPORTED_MAILBOX_OPCODE (R310). -/
def execUnsupportedMailboxOpcode (opcode : Nat) (s : State) : Result :=
  mailbox s fun s =>
    if [0x0100, 0x0101, 0x0102, 0x0103, 0x0200, 0x0300, 0x0301, 0x0400, 0x0401, 0x4000, 0x4100, 0x4200].contains opcode
    then s else mbReply s opcode mbUnsupported []

/-! ## DOE -/

/-- DOE_DISCOVERY (Table 13-1): Discovery, CMA/SPDM and CDAT, with the next index (0 at the end). -/
def execDoeDiscovery (index : Nat) (s : State) : Result :=
  guarded (linkUp s) s fun s =>
    match index with
    | 0 => put s (.reply 0x20003 [0x0001, 0, 1] [])
    | 1 => put s (.reply 0x20003 [0x0001, 1, 2] [])
    | 2 => put s (.reply 0x20003 [0x1E98, 2, 0] [])
    | _ => put s (.reply 0x20003 [0xFFFF, 0, 0] [])

/-- CDAT_TABLE_ACCESS (R311): entry 0 the DSMAS over DPA 0 to DPA_SIZE; 1 and 2 the read and write latency in ns; 3 and
4 the read and write bandwidth in MB/s. -/
def execCdatTableAccess (entry : Nat) (s : State) : Result :=
  guarded (linkUp s) s fun s =>
    match entry with
    | 0 => put s (.reply 0x20004 [0, 0, dpaUnits s * 0x10000000, 1] [])
    | 1 => put s (.reply 0x20004 [1, 1, 400, 2] [])
    | 2 => put s (.reply 0x20004 [1, 2, 400, 3] [])
    | 3 => put s (.reply 0x20004 [1, 4, s.cxl.bandwidth, 4] [])
    | 4 => put s (.reply 0x20004 [1, 5, s.cxl.bandwidth, 0xFFFF] [])
    | _ => s

end Sys2Proof.Machine
end

