-- ==== Sys2Proof/Machine/Mailbox.lean ====
section
/-!
DEFINITION. Mailbox channels (R313 to R318).
-/
namespace Sys2Proof.Machine

def mbxStat (m : Nat) : Nat := ra (pgMBX + m) 0x108
def mbxFull (s : State) (m : Nat) : Bool := rb s (mbxStat m) 0

/-- SEND is allowed on a channel: Holhild has locked the bindings, or it is channel 63 (R313). -/
def mbxLocked (s : State) (m : Nat) : Bool := locked s pgMBXC || decide (m = 63)

/-- RX_STATE of a receiving identity: 0 LIVE, 2 DOWN, 3 UNKNOWN (Table 13-7). -/
def rxState (s : State) (id : Nat) : Nat :=
  let st := ra pgCXLP 0x114
  if id = 1 then (if linkUp s && rb s st 1 && rb s st 2 then 0 else 2)
  else if id = 2 then 0
  else if id = 3 then (if rb s (ra pgRST 0x108) 7 then 3 else 0)
  else if id = 4 then (if heartbeatGood s then 0 else 2)
  else if isCp id then (if cpRole s (id - 0x10) = 0 then 0 else 2)
  else 3

/-- RX_STATE of a channel. -/
def mbxRx (s : State) (m : Nat) : Nat :=
  let b := mbxBind s m
  if b.valid then rxState s b.receiver else 3

/-- FULL_AGE of a channel in ms. -/
def mbxAge (s : State) (m : Nat) : Nat :=
  match tget s.mbx.since m with
  | some t => min 0xFFFFFFFF ((s.now - t) / 1000000)
  | none => 0

/-- An identity that a binding may name (R313). -/
def mbxIdentity (id : Nat) : Bool := (decide (1 ≤ id) && decide (id ≤ 4)) || isCp id

/-- MAILBOX_BIND_WRITE (R313). -/
def execMailboxBindWrite (id : Nat) (value : W32) (s : State) : Result :=
  let m := ri s id (ra pgMBXC 0x100) % 64
  let v := value.toNat
  let b : MbxBind := { sender := if m = 63 then 2 else fld v 0 13, receiver := fld v 13 13, valid := v.testBit 26 }
  let refused := b.valid && (decide (b.sender = b.receiver) || !mbxIdentity b.sender || !mbxIdentity b.receiver)
  guarded (decide (id = 2) && !locked s pgMBXC && !refused) s fun s =>
    { s with mbx := { s.mbx with binds := tset {} s.mbx.binds m b } }

/-- MAILBOX_SEND (R314, R315): a write of MSG_CTL with SEND. -/
def execMailboxSend (id ch : Nat) (value : W32) (s : State) : Result :=
  let b := mbxBind s ch
  let len := fld value.toNat 0 9
  guarded (decide (ch < 64) && value.toNat.testBit 9) s fun s =>
    if !b.valid || decide (b.sender ≠ id) || mbxFull s ch || decide (len = 0) || decide (256 < len) ||
        !mbxLocked s ch then errInc s (pgMBX + ch) 1
    else mbxPost s ch len

/-- MAILBOX_RETRACT (R315). -/
def execMailboxRetract (id ch : Nat) (s : State) : Result :=
  let b := mbxBind s ch
  guarded (decide (ch < 64)) s fun s =>
    if !b.valid || decide (b.sender ≠ id) then errInc s (pgMBX + ch) 1
    else if mbxFull s ch then mbxEmptyInt (wb (mbxClear s ch) (mbxStat ch) 1 true) ch
    else s

/-- A FATAL entry on channel 63 has been taken: it may be acknowledged, and the next is sent (R377). -/
def fatalTaken (s : State) (ch : Nat) : State :=
  if ch = 63 ∧ s.fault.inFlight then
    sendFatal { s with fault := { s.fault with inFlight := false, acked := s.fault.acked + 1 } }
  else s

/-- MAILBOX_ACK (R315). -/
def execMailboxAck (id ch : Nat) (s : State) : Result :=
  let b := mbxBind s ch
  guarded (decide (ch < 64)) s fun s =>
    if !b.valid || decide (b.receiver ≠ id) then errInc s (pgMBX + ch) 1
    else if mbxFull s ch then fatalTaken (mbxEmptyInt (mbxClear s ch) ch) ch
    else s

/-- MAILBOX_PACKET (R316): the partner's message is copied into the channel of the same number, or its ACK returns. -/
def execMailboxPacket (ch : Nat) (ack : Bool) (data : Bytes) (s : State) : Result :=
  let b := mbxBind s ch
  onRunnel s (runMailbox ch (if ack then 1 else 0) data) fun s =>
    if 64 ≤ ch ∨ ¬ b.valid then s
    else if ack then
      (if b.receiver = 4 ∧ mbxFull s ch then fatalTaken (mbxEmptyInt (mbxClear s ch) ch) ch else s)
    else if b.sender = 4 ∧ ¬ mbxFull s ch ∧ mbxLocked s ch ∧ data ≠ [] ∧ data.length ≤ 256 then
      mbxPost (mbxData s ch 64 (fitBytes 256 data) 0) ch data.length
    else s

/-- RX_STATE_LIVE (R316): the receiver has become LIVE while a message waits. -/
def execRxStateLive (ch : Nat) (s : State) : Result :=
  guarded (decide (ch < 64) && mbxFull s ch && decide (mbxRx s ch = 0)) s fun s => mbxWakeEvent s ch

end Sys2Proof.Machine
end

