-- ==== Sys2Proof/Machine/Dram.lean ====
section
/-!
DEFINITION. The DRAM channels (chapter 14): address decoding (R324), scheduling and refresh (R325, R326), delays
(R331), the check code (R332 to R334), merge buffers (R335), remaps (R337 to R339), and the lasting-row trackers of
R365 and R366.
-/
namespace Sys2Proof.Machine

def drCmd (ch : Nat) : Nat := ra (drPage ch) 0x140

/-! ## Scheduling (R325) -/

/-- The queued requests that a channel chooses from: 64 of each subchannel, none before an older one for its line. -/
def chanEntries (s : State) (ch : Nat) : List DramReq :=
  let q := tgetD s.dram.queue ch []
  let of (sc : Nat) : List DramReq := (q.filter fun r => r.sub = sc).take 64
  q.filter fun r => (of r.sub).contains r && ((q.takeWhile (· ≠ r)).all fun x => x.line ≠ r.line)

/-- A request hits the open row of its bank. -/
def rowHit (s : State) (ch : Nat) (r : DramReq) : Bool :=
  let x := chanDecode s ch (servedCa s ch r.row)
  decide (tgetD s.dram.open_ (ch * 256 + bankOf x) 0 = x.row + 1)

/-- The earliest of some requests by deadline, the older at equal deadlines. -/
def earliest (rs : List DramReq) : Option DramReq :=
  rs.foldl (fun acc r => match acc with
    | none => some r
    | some b => if r.deadline < b.deadline then some r else some b) none

/-- A row hit first, then the oldest. -/
def hitFirst (s : State) (ch : Nat) (rs : List DramReq) : Option DramReq :=
  match rs.find? (rowHit s ch) with
  | some r => some r
  | none => rs.head?

/-- The write drain of each subchannel begins at WR_HI and ends at WR_LO. -/
def drainUpdate (s : State) (ch : Nat) : State :=
  let q := tgetD s.dram.queue ch []
  (rangeFrom 0 2).foldl (fun s sc =>
    let n := (q.filter fun r => decide (r.sub = sc) && r.write).length
    let k := ch * 2 + sc
    let on := tgetD s.dram.drain k false
    let on := if rf s (ra (drPage ch) 0x108) 0 6 ≤ n then true
      else if n ≤ rf s (ra (drPage ch) 0x108) 6 6 then false else on
    { s with dram := { s.dram with drain := tset false s.dram.drain k on } }) s

/-- The request that a channel issues next. -/
def dramPick (s : State) (ch : Nat) : Option DramReq :=
  let es := chanEntries s ch
  let urgent := es.filter fun r => decide (r.deadline ≤ s.now + rf s (ra (drPage ch) 0x108) 12 10)
  if !urgent.isEmpty then earliest urgent
  else
    let ws := es.filter fun r => r.write && tgetD s.dram.drain (ch * 2 + r.sub) false
    if !ws.isEmpty then hitFirst s ch ws else hitFirst s ch (es.filter fun r => !r.write)

/-- Reads of a line that has an older queued write are served from that write's data (R325). -/
def serveQueued (s : State) (ch : Nat) : State :=
  let q := tgetD s.dram.queue ch []
  let keep := q.filter fun r => r.write || !((q.takeWhile (· ≠ r)).any fun x => x.write && decide (x.line = r.line))
  { s with dram := { s.dram with queue := tset [] s.dram.queue ch keep } }

/-- DRAM_COMMAND_ISSUE (R325). -/
def execDramCommandIssue (ch : Nat) (s : State) : Result :=
  if 24 ≤ ch ∨ chanState s ch ≠ 2 then .next s
  else
    let s := drainUpdate (serveQueued s ch) ch
    match dramPick s ch with
    | none => .next s
    | some r =>
      let ca := servedCa s ch r.row
      let x := chanDecode s ch ca
      let s := if rowHit s ch r then count s (drPage ch) 5 1 else s
      let s := count s (drPage ch) (if r.write then 4 else 3) 1
      let q := (tgetD s.dram.queue ch []).erase r
      let s := { s with dram := { s.dram with
        queue := tset [] s.dram.queue ch q, open_ := tput s.dram.open_ (ch * 256 + bankOf x) (x.row + 1) } }
      .next (drainUpdate (put s (.dram ch (if r.write then 2 else 1) ca)) ch)

/-- MERGE_WINDOW_EXPIRY (R335). -/
def execMergeWindowExpiry (ch line : Nat) (s : State) : Result :=
  match (mergeOf s ch).find? fun e => e.line = line with
  | none => .next s
  | some e => .next (mergeLeave s ch 7 e)

/-! ## The check code over GF(2^16) (R332, R333) -/

/-- α·x. -/
def dramStep (x : Nat) : Nat := if 32768 ≤ x then Nat.xor (2 * x) 0x1100B else 2 * x

/-- α^n·x. -/
def dramPow : Nat → Nat → Nat
  | 0, x => x
  | n + 1, x => dramPow n (dramStep x)

/-- Flipped bits of a stored line: symbol m of device d at bits (4d + m) × 16. -/
abbrev Flips := List (Nat × Nat × Nat)

/-- The flips of one symbol. -/
def flipOf (e : Flips) (d m : Nat) : Nat :=
  (e.filter fun x => decide (x.1 = d) && decide (x.2.1 = m)).foldl (fun a x => Nat.xor a (x.2.2 % 65536)) 0

/-- Syndromes of codeword m of a line stored with a poison code (0 for none) and with flips. -/
def syndrome (c : Nat) (e : Flips) (m : Nat) : Nat × Nat :=
  let s0 := (rangeFrom 0 10).foldl (fun a d => Nat.xor a (flipOf e d m)) 0
  let s1 := (rangeFrom 0 10).foldl (fun a d => Nat.xor a (dramPow d (flipOf e d m))) 0
  if c = 0 then (s0, s1) else (Nat.xor s0 0x5C3B, Nat.xor s1 (dramPow (16 + c) 0x5C3B))

/-- What a line decodes to: a poison code (0 for none) and a corrected device, or uncorrectable. -/
inductive Decoded where
  | good (code : Nat) (device : Option Nat)
  | bad
  deriving DecidableEq, Repr

/-- Every codeword is clean. -/
def allZero (ss : List (Nat × Nat)) : Bool := ss.all fun x => decide (x = (0, 0))

/-- The one device whose correction clears every codeword. -/
def oneDevice (ss : List (Nat × Nat)) : Option Nat :=
  (rangeFrom 0 10).find? fun p => ss.all fun x => decide (x = (0, 0)) || (decide (x.1 ≠ 0) && decide (x.2 = dramPow p x.1))

/-- The syndromes less those of poison code c. -/
def lessPoison (c : Nat) (ss : List (Nat × Nat)) : List (Nat × Nat) :=
  ss.map fun x => (Nat.xor x.1 0x5C3B, Nat.xor x.2 (dramPow (16 + c) 0x5C3B))

/-- R333 over the four codewords. No line is stored with code 0 (Table 16-1). -/
def decodeSyndromes (ss : List (Nat × Nat)) : Decoded :=
  if allZero ss then .good 0 none
  else
    match oneDevice ss with
    | some p => .good 0 (some p)
    | none =>
      match (rangeFrom 1 15).find? fun c => allZero (lessPoison c ss) with
      | some c => .good c none
      | none =>
        match (rangeFrom 1 15).findSome? fun c => (oneDevice (lessPoison c ss)).map fun p => (c, p) with
        | some (c, p) => .good c (some p)
        | none => .bad

/-- Flip bits of one symbol in the line's bytes; the check devices hold no line bytes (R332). -/
def flipSymbol (bs : Bytes) (d m x : Nat) : Bytes :=
  if 8 ≤ d then bs
  else (bitsFrom 16 0 x).foldl (fun bs b =>
    let k := 4 * d + b % 4
    let i := 4 * (4 * m + b / 4) + k / 8
    setNth bs i ((nth bs i 0) ^^^ BitVec.ofNat 8 (2 ^ (k % 8)))) bs

/-- The bytes of a line with flips. -/
def flipLine (bs : Bytes) (e : Flips) : Bytes := e.foldl (fun bs x => flipSymbol bs x.1 x.2.1 (x.2.2 % 65536)) bs

/-! ## Buckets and lasting rows (R365, R366) -/

/-- A correction fills a leaky bucket: `k` names a channel, or 64 + a bank group. -/
def bucketAdd (s : State) (k page cls reg : Nat) : State :=
  let lv := tgetD s.fault.buckets k 0 + 1
  if rf s (ra pgFLT reg) 0 16 < lv then
    let s := { s with fault := { s.fault with buckets := tset 0 s.fault.buckets k 0 } }
    setIsr (eventAt s page sevWarn cls (k % 64)) pgFLT 0
  else { s with fault := { s.fault with buckets := tset 0 s.fault.buckets k lv } }

def trackRows (s : State) (ch : Nat) : List Track := tgetD s.fault.rows ch []
def setTrackRows (s : State) (ch : Nat) (ts : List Track) : State :=
  { s with fault := { s.fault with rows := tset [] s.fault.rows ch ts } }

/-- A row becomes lasting: the WARN event with its key; it waits for a remap, and a remapped one is not spared again
(R366, R367). -/
def rowLasting (s : State) (ch key : Nat) : State :=
  let loc := key + ch * 0x1000000
  let s := eventAt s (drPage ch) sevWarn clRowLasting loc
  if (remapSlot s ch key).isSome then eventAt s (drPage ch) sevError clRowLasting loc
  else if rb s (ra pgFLT 0x100) 0 then
    let w := tgetD s.fault.rowWait ch []
    if w.contains key then s
    else { s with fault := { s.fault with rowWait := tput s.fault.rowWait ch (w ++ [key]) } }
  else s

/-- The entry of a row in its tracker, taken where there is none: a free one, else the one whose first correction is
oldest (R366). -/
def rowEntry (s : State) (ch key : Nat) : Track × List Track :=
  let ts := trackRows s ch
  match ts.find? fun t => t.key = key with
  | some t => (t, ts.filter fun x => x.key ≠ key)
  | none =>
    let new : Track := { key, count := 0, firstTime := s.now }
    if ts.length < 256 then (new, ts)
    else
      match ts.foldl (fun acc t => match acc with
          | none => some t
          | some (b : Track) => if t.firstTime < b.firstTime then some t else some b) none with
      | some b => (new, ts.erase b)
      | none => (new, ts)

/-- Hours in ns. -/
def hours (n : Nat) : Nat := n * 3600000000000

/-- One correction, or an uncorrectable line, at a row (R366). The flag says that the row has become lasting. -/
def rowCount (s : State) (ch key : Nat) (fatal : Bool) : Bool × State :=
  let (t, rest) := rowEntry s ch key
  let fresh := decide (hours (rf s (ra pgFLT 0x110) 4 12) < s.now - t.firstTime)
  let t := if fresh then { t with count := 0, firstTime := s.now } else t
  let t := { t with count := t.count + 1 }
  let now := !t.lasting && (fatal || decide (rf s (ra pgFLT 0x110) 0 4 ≤ t.count))
  let s := setTrackRows s ch (rest ++ [{ t with lasting := t.lasting || now }])
  (now, if now then rowLasting s ch key else s)

/-! ## Scrub summaries -/

/-- The lines of SCRUB's scope (Table 16-2): SPACE, channel or group, and the range of PA lines. -/
def scrubSpace (o : Op) : Nat := fld (opnd o 0x10 4) 0 2
def scrubUnit (o : Op) : Nat := fld (opnd o 0x10 4) 2 6
def scrubCistern (o : Op) : Bool := (opnd o 0x10 4).testBit 8

/-- A running SCRUB takes a decode on a channel, or in a group, as one of its reads (log entry 33). -/
def scrubSees (o : Op) (space unit : Nat) (line : Option Nat) : Bool :=
  decide (o.opcode = 0x20) && decide (o.phase = .running) &&
  (match scrubSpace o with
   | 0 => (line.map fun l => decide (opnd o 0x18 8 ≤ paOfLine l) &&
       decide (paOfLine l < opnd o 0x18 8 + opnd o 0x20 4 * 2097152)).getD false
   | k => decide (k = space) && decide (scrubUnit o = unit))

/-- Change the progress of every SCRUB that sees a decode. -/
def scrubNote (s : State) (space unit : Nat) (line : Option Nat) (f : Progress → Progress) : State :=
  let ops := tmap s.cmd.ops fun _ o =>
    if scrubSees o space unit line then { o with prog := f o.prog } else o
  { s with cmd := { s.cmd with ops := ops } }

/-- An uncorrectable line enters the summary. -/
def noteUncorr (loc : Nat) (p : Progress) : Progress :=
  { p with uncorr := p.uncorr + 1, uncorrLoc := if p.uncorrLoc.length < 16 then p.uncorrLoc ++ [loc] else p.uncorrLoc }

/-- A lasting row or bank enters the summary. -/
def noteRow (key : Nat) (p : Progress) : Progress :=
  { p with rowsMarked := p.rowsMarked + 1, rowKeys := if p.rowKeys.length < 16 then p.rowKeys ++ [key] else p.rowKeys }

/-! ## Read data (R333, R334) -/

/-- The PA line that a DRAM address holds: the home frame of a sub-page. -/
def daLine (s : State) (da : Nat) : Option Nat :=
  (s.tier.subs.find? fun e => (decide (e.2.state = 1) || decide (e.2.state = 2)) && decide (e.2.frame = da / 65536)).map
    fun e => e.1 * 1024 + da % 65536 / 64

/-- A device was corrected: counts of channel and row, and the write-back (Table 14-3). -/
def dramCorrected (s : State) (ch : Nat) (x : CaFields) (line : Option Nat) : State :=
  let s := count s (drPage ch) x.sc 1
  let s := bucketAdd s ch (drPage ch) clDramCe 0x108
  let s := scrubNote s 1 ch line fun p => { p with corr := tput p.corr ch (tgetD p.corr ch 0 + 1) }
  let (now, s) := rowCount s ch (rowKey x) false
  if now then scrubNote s 1 ch line (noteRow (rowKey x + ch * 0x1000000)) else s

/-- An uncorrectable line: the ERROR event, and its row lasting at once (Table 14-3, Table 16-8). -/
def dramUncorrectable (s : State) (ch : Nat) (x : CaFields) (line : Option Nat) (da : Nat) : State :=
  let loc := (line.map paOfLine).getD da
  let s := count s (drPage ch) 2 1
  let s := event s { source := drPage ch, sev := sevError, cls := clDramUe, pcode := 1, loc }
  let s := scrubNote s 1 ch line (noteUncorr (loc + ch * 2 ^ 56))
  let (now, s) := rowCount s ch (rowKey x) true
  if now then scrubNote s 1 ch line (noteRow (rowKey x + ch * 0x1000000)) else s

/-- A read of a DRAM line that finds some bits flipped (R333, R334): the line's bytes and mark as they stand after it. -/
def dramRead (s : State) (ch da : Nat) (e : Flips) : State :=
  let (c', ca) := mapDa (grainOf s (da / 1572864)) da
  if c' ≠ ch ∨ chanState s ch ≠ 2 then s
  else
    let x := chanDecode s ch ca
    let line := daLine s da
    let live := line.filter fun l => !inBasin s l
    let c := (live.map (poisonAt s)).getD 0
    let setLine (s : State) (e : Flips) (code : Nat) : State := match live with
      | none => s
      | some l => setPoison (setBytes s (l * 64) (flipLine (bytesAt s (l * 64) 64) e)) l code
    match decodeSyndromes ((rangeFrom 0 4).map (syndrome c e)) with
    | .good k none => if e.isEmpty then s else setLine s e k
    | .good k (some p) =>
      let ss := (rangeFrom 0 4).map (syndrome c e)
      let ss := if k = 0 then ss else lessPoison k ss
      let fix := (indexed 0 ss).map fun y => (p, y.1, y.2.1)
      setLine (dramCorrected s ch x line) (e ++ fix) k
    | .bad => setLine (dramUncorrectable s ch x line da) e 1

/-- DRAM_READ_DATA (R333, R334). -/
def execDramReadData (ch da : Nat) (upset : List (Nat × Nat × BitVec 16)) (s : State) : Result :=
  guarded (decide (ch < 24)) s fun s => dramRead s ch (da / 64 * 64) (upset.map fun u => (u.1, u.2.1, u.2.2.toNat))

/-! ## Refresh, calibration, temperature -/

/-- DLY_STALE clears once the installed set is that of the band (R331). -/
def dlySettled (s : State) (ch : Nat) : State :=
  if (s.dram.apply.any fun k => k / 2 = ch) ∨ rf s (ra (drPage ch) 0x138) 0 4 ≠ rf s (drStat ch) 4 4 then s
  else wb s (drStat ch) 17 false

/-- Install the shadow set of one subchannel, both ranks. -/
def dlyInstall (s : State) (ch sc : Nat) : State :=
  if !s.dram.apply.contains (ch * 2 + sc) then s
  else
    let ks := (rangeFrom 0 2).flatMap fun rk => rangeFrom ((ch * 4 + rk * 2 + sc) * 128) 128
    let s := { s with dram := { s.dram with
      delay := ks.foldl (fun t k => tset 0 t k (tgetD s.dram.shadow k 0)) s.dram.delay,
      apply := s.dram.apply.erase (ch * 2 + sc) } }
    dlySettled s ch

/-- An urgent entry of a channel targets a bank index of a rank (R326). -/
def refUrgent (s : State) (ch sc rk ba : Nat) : Bool :=
  (chanEntries s ch).any fun r =>
    let x := chanDecode s ch (servedCa s ch r.row)
    decide (x.sc = sc) && decide (x.rk = rk) && decide (x.ba = ba) &&
      decide (r.deadline ≤ s.now + rf s (ra (drPage ch) 0x108) 12 10)

/-- REFSB_DUE (R326, R331) for a bank index of a rank (`bank` is rank · 4 + index) of a subchannel: postponed behind an urgent entry, up to four times;
otherwise it is issued with those postponed before it (log entry 93). -/
def execRefsbDue (ch sc bank : Nat) (s : State) : Result :=
  let k := (ch * 2 + sc) * 8 + bank
  let debt := tgetD s.dram.refDue k 0
  guarded (decide (ch < 24) && decide (sc < 2) && decide (bank < 8) && decide (1 ≤ chanState s ch)) s fun s =>
      let urgent := refUrgent s ch sc (bank / 4) (bank % 4)
      if urgent && decide (debt < 4) then
        count { s with dram := { s.dram with refDue := tput s.dram.refDue k (debt + 1) } } (drPage ch) 8 1
      else
        let n := if urgent then 1 else debt + 1
        let s := { s with dram := { s.dram with refDue := if urgent then s.dram.refDue else tdel s.dram.refDue k } }
        dlyInstall ((rangeFrom 0 n).foldl (fun s _ => put s (.dram ch 3 (sc + 2 * (bank / 4) + 4 * (bank % 4)))) s) ch sc

/-- ZQ_CALIBRATION (R326). -/
def execZqCalibration (ch : Nat) (s : State) : Result :=
  guarded (decide (ch < 24) && decide (1 ≤ chanState s ch)) s fun s => put s (.dram ch 4 0)

/-- The band of a temperature, from the band in force (R331). -/
def bandOf (band t : Nat) : Nat :=
  if 10 * (band + 1) ≤ t then min 11 (t / 10)
  else if t + 2 < 10 * band then (t + 2) / 10 else band

/-- SPD_TEMP_READ (R326, R331): HOT stands on every channel while any module reads 85 °C or more. -/
def execSpdTempRead (ch tempC : Nat) (s : State) : Result :=
  guarded (decide (ch < 24) && decide (1 ≤ chanState s ch)) s fun s =>
    let old := rf s (drStat ch) 4 4
    let new := bandOf old tempC
    let s := wf (wf s (drStat ch) 8 8 (min 255 tempC)) (drStat ch) 4 4 new
    let hot := (rangeFrom 0 24).any fun c => 85 ≤ rf s (drStat c) 8 8
    let s := (rangeFrom 0 24).foldl (fun s c => wb s (drStat c) 16 (hot && decide (1 ≤ chanState s c))) s
    if new = old then s else setIsr (wb s (drStat ch) 17 true) (drPage ch) 0

/-- DLY_APPLY (R331, R341): a write of DLY_CTL with APPLY. -/
def execDlyApply (id ch : Nat) (value : W32) (s : State) : Result :=
  let a := ra (drPage ch) 0x138
  guarded (decide (ch < 24) && isFw id) s fun s =>
    let s := wr s a (writeFields false (rd s a) value.toNat [fRW 0 4])
    if value.toNat.testBit 4 then
      { s with dram := { s.dram with apply := insNat (2 * ch) (insNat (2 * ch + 1) s.dram.apply) } }
    else s

/-- DLY_STALE_WARN (R331). -/
def execDlyStaleWarn (ch : Nat) (s : State) : Result :=
  guarded (decide (ch < 24) && rb s (drStat ch) 17) s fun s =>
    eventAt s (drPage ch) sevWarn clDramChannel (rf s (drStat ch) 4 4)

/-! ## Remaps (R337 to R339, R367) -/

/-- Slots in use on a channel. -/
def slotsUsed (s : State) (ch : Nat) : Nat := (s.dram.remap.filter fun e => e.1 / 4096 = ch).length

/-- The lowest free slot of a channel. -/
def freeSlot (s : State) (ch : Nat) : Option Nat :=
  let used := (s.dram.remap.filter fun e => e.1 / 4096 = ch).map fun e => e.1 % 4096
  let k := firstGap used 0
  if k < 4096 then some k else none

/-- LEDGER1: the fewest free slots on any channel, and the lowest such channel. -/
def rowLedger (s : State) : State :=
  let ch := (rangeFrom 1 23).foldl (fun b c => if slotsUsed s b < slotsUsed s c then c else b) 0
  wf (wf s (ra pgFLT 0x13C) 0 13 (4096 - slotsUsed s ch)) (ra pgFLT 0x13C) 13 5 ch

/-- Install a remap entry. -/
def remapInstall (s : State) (ch slot key : Nat) : State :=
  let s := { s with dram := { s.dram with remap := tput s.dram.remap (ch * 4096 + slot) key } }
  rowLedger (wf (wf s (drCmd ch) 5 12 slot) (drCmd ch) 17 13 (slotsUsed s ch))

/-- The key that an identity has written. -/
def remapKey (s : State) (id ch : Nat) : Nat := ri s id (ra (drPage ch) 0x13C) % 0x1000000

/-- Start the copy of a row (R338): HIT where the key is remapped already, NO_SLOT where no slot is free. -/
def remapStart (s : State) (ch key : Nat) (auto : Bool) : State :=
  match remapSlot s ch key with
  | some k => wf (wb s (drCmd ch) 4 true) (drCmd ch) 5 12 k
  | none =>
    match freeSlot s ch with
    | none =>
      let s := wb (wb s (drCmd ch) 3 true) (drCmd ch) 4 false
      if auto then eventAt s (drPage ch) sevWarn clReserve (key + ch * 0x1000000) else s
    | some k =>
      let s := wf (wb (wb (wb s (drCmd ch) 4 false) (drCmd ch) 3 false) (drCmd ch) 2 true) (drCmd ch) 5 12 k
      { s with dram := { s.dram with copying := tput s.dram.copying ch (k, key, auto) } }

/-- REMAP_CMD is accepted: from firmware, while no copy runs (R341, Table 14-5). -/
def remapOpen (s : State) (id ch : Nat) : Bool := decide (ch < 24) && isFw id && !rb s (drCmd ch) 2

/-- REMAP (R338). -/
def execRemap (id ch : Nat) (s : State) : Result :=
  guarded (remapOpen s id ch) s fun s => remapStart s ch (remapKey s id ch) false

/-- REMAP_LOOKUP (R338). -/
def execRemapLookup (id ch : Nat) (s : State) : Result :=
  guarded (remapOpen s id ch) s fun s =>
    match remapSlot s ch (remapKey s id ch) with
    | some k => wf (wb s (drCmd ch) 4 true) (drCmd ch) 5 12 k
    | none => wb s (drCmd ch) 4 false

/-- PPR (R339): ignored once the channel is ACTIVE. Each use of a repair resource or slot is an event (R372). -/
def execPpr (id ch : Nat) (repaired : Bool) (s : State) : Result :=
  guarded (remapOpen s id ch && decide (chanState s ch ≠ 2)) s fun s =>
    let key := remapKey s id ch
    if repaired then
      let s := { s with dram := { s.dram with ppr := tput s.dram.ppr ch (insNat key (tgetD s.dram.ppr ch [])) } }
      eventAt (wb s (drCmd ch) 4 false) (drPage ch) sevInfo clReserve (key + ch * 0x1000000)
    else
      match remapSlot s ch key, freeSlot s ch with
      | some k, _ => wf (wb s (drCmd ch) 4 true) (drCmd ch) 5 12 k
      | none, some k =>
        let s := wb (remapInstall s ch k key) (drCmd ch) 4 true
        reserveEvent s (drPage ch) (key + ch * 0x1000000) (4096 - slotsUsed s ch)
      | none, none => wb s (drCmd ch) 3 true

/-- REMAP_COPY_DONE (R338): the lookup switches; the row starts anew in its tracker. -/
def execRemapCopyDone (ch : Nat) (s : State) : Result :=
  match tget s.dram.copying ch with
  | none => .next s
  | some (k, key, _) =>
    let s := { s with dram := { s.dram with copying := tdel s.dram.copying ch } }
    let s := wb (remapInstall s ch k key) (drCmd ch) 2 false
    let s := setTrackRows s ch ((trackRows s ch).filter fun t => t.key ≠ key)
    .next (reserveEvent (setIsr s (drPage ch) 1) (drPage ch) (key + ch * 0x1000000) (4096 - slotsUsed s ch))

/-- AUTO_REMAP_START (R367): the lasting row that has waited longest. -/
def execAutoRemapStart (ch : Nat) (s : State) : Result :=
  match tgetD s.fault.rowWait ch [] with
  | [] => .next s
  | key :: rest =>
    guarded (decide (ch < 24) && rb s (ra pgFLT 0x100) 0 && !rb s (drCmd ch) 2) s fun s =>
      remapStart { s with fault := { s.fault with rowWait := tset [] s.fault.rowWait ch rest } } ch key true

/-- DRAM_CHANNEL_FAIL (R334). -/
def execDramChannelFail (ch : Nat) (s : State) : Result :=
  guarded (decide (ch < 24) && decide (chanState s ch = 2)) s fun s =>
    eventAt (wf s (drStat ch) 0 2 3) (drPage ch) sevFatal clDramChannel ch

end Sys2Proof.Machine
end

