-- ==== Sys2Proof/Machine/Levels.lean ====
section
/-!
DEFINITION. Power levels (R458, R459, Table 20-7): the level of a domain and of each shared resource.
-/
namespace Sys2Proof.Machine

/-- A domain's stated tolerance in ns, all ones for none (R457). -/
def tolOf (s : State) (dom : Nat) : Nat := tgetD s.pwr.tol dom 0xFFFFFFFF

/-- PWR.CFG.MAX_LEVEL. -/
def maxLevel (s : State) : Nat := rf s (ra pgPWR 0x100) 0 2

/-- The level that a tolerance gives (Table 20-7). -/
def levelFor (t : Nat) : Nat :=
  if t = 0xFFFFFFFF then 0 else if t < 2000 then 0 else if t < 20000 then 1 else if t < 1000000 then 2 else 3

/-- A domain's level, never deeper than MAX_LEVEL (R458). -/
def domLevel (s : State) (dom : Nat) : Nat := min (levelFor (tolOf s dom)) (maxLevel s)

/-- The shallowest level among the domains that a resource serves; MAX_LEVEL where it serves none (R459). -/
def levelOver (s : State) (doms : List Nat) : Nat := doms.foldl (fun l d => min l (domLevel s d)) (maxLevel s)

/-- Domains with an enabled command queue. -/
def queueDomains (s : State) : List Nat :=
  (((rangeFrom 0 256).filter (sqEn s)).map (qDomain s)).eraseDups

/-- Level of cores, clusters and SCRATCH banks. -/
def coreLevel (s : State) : Nat := levelOver s (queueDomains s)

/-- Level of CACHE banks: domains with a backed page. -/
def cacheLevel (s : State) : Nat :=
  levelOver s ((s.alloc.regions.filterMap fun e =>
    if s.tier.pages.any fun p => p.2.backed && decide (e.2.base ≤ p.1) && decide (p.1 < e.2.base + e.2.size)
    then some e.2.dom else none).eraseDups)

/-- Level of a fabric port: domains bound to every EID whose route in use includes it. -/
def portLevel (s : State) (p : Nat) : Nat :=
  let eids := (s.route.entries.filter fun e => e.2.valid && e.2.ordered.contains p).map Prod.fst
  levelOver s ((s.sec.binds.filterMap fun b => if eids.contains b.2.req then some b.2.dom else none).eraseDups)

/-- Level of a Cistern drive: domains with a TIERED region. -/
def driveLevel (s : State) : Nat :=
  levelOver s ((s.alloc.regions.filterMap fun e => if e.2.residency = 0 then some e.2.dom else none).eraseDups)

end Sys2Proof.Machine
end

