-- ==== Sys2Proof/Machine/Basin.lean ====
section
/-!
DEFINITION. The Basin banks (chapter 15): lines and words (R342 to R347), atomics (R348, R349), bank states (R350,
R351), substitution and repair (R352 to R354), and the lasting-bank counts of R365 to R367.
-/
namespace Sys2Proof.Machine

def bankCmd (g : Nat) : Nat := ra (baPage g) 0x144
def setBankRole (s : State) (g n x : Nat) : State := wf s (bankReg g n) 6 2 x

/-- Global bank number (R342). -/
def globalBank (g n : Nat) : Nat := 17 * g + n

/-! ## Partitions and places -/

/-- Partition of a group: 0 SYSTEM, 1 DIR, 2 SCRATCH, 3 CACHE (R117). -/
def groupPart (s : State) (g : Nat) : Nat :=
  let v := rd s (ra pgTIER 0x110)
  if g < fld v 0 6 then 0
  else if g < fld v 0 6 + fld v 6 6 then 1
  else if g < cacheFirst s then 2 else 3

/-- The PA line that a line of a group holds: lines of CACHE frames rotate over the CACHE groups (R117; log
entry 34), and only a valid line of a frame in use holds one. -/
def basinLine (s : State) (g o : Nat) : Option Nat :=
  if groupPart s g ≠ 3 ∨ cacheGroups s = 0 then none
  else
    let n := o / 64 * cacheGroups s + (g - cacheFirst s)
    (s.tier.subs.find? fun e => decide (e.2.state = 2) && decide (e.2.cache = n / 1024) &&
      e.2.valid.getLsbD (n % 1024)).map fun e => e.1 * 1024 + n % 1024

def basinKey (g o : Nat) : Nat := g * 0x4000000 + o

/-- Stored bytes and mark of a line. -/
def basinGet (s : State) (g o : Nat) : Bytes × Nat :=
  match basinLine s g o with
  | some l => (bytesAt s (l * 64) 64, poisonAt s l)
  | none => ((rangeFrom (basinKey g o) 64).map fun a => tgetD s.basin.data a 0, tgetD s.basin.mark (basinKey g o / 64) 0)

/-- Set a run of raw bytes. -/
def basinRaw (t : Tbl Byte) (a : Nat) : Bytes → Tbl Byte
  | [] => t
  | b :: bs => basinRaw (tset 0 t a b) (a + 1) bs

/-- Store a line's bytes and mark. -/
def basinPut (s : State) (g o : Nat) (bs : Bytes) (c : Nat) : State :=
  match basinLine s g o with
  | some l => setPoison (setBytes s (l * 64) bs) l c
  | none => { s with basin := { s.basin with
      data := basinRaw s.basin.data (basinKey g o) bs, mark := tset 0 s.basin.mark (basinKey g o / 64) c } }

/-! ## Check code (R345) -/

/-- The 16-bit values of weight 3, rising. -/
def weight3 : List Nat :=
  (rangeFrom 2 14).flatMap fun a => (rangeFrom 1 (a - 1)).flatMap fun b => (rangeFrom 0 b).map fun c => 2 ^ a + 2 ^ b + 2 ^ c

/-- Column of stored bit i: data bits 0–255, check bits 256–271. -/
def column (cols : List Nat) (i : Nat) : Nat := if i < 256 then nth cols i 0 else 2 ^ (i - 256)

/-- What one word decodes to: its flips that remain, the corrected bit, and whether it is poisoned. -/
inductive WordRead where
  | clean (flips : Nat) (fixed : Option Nat)
  | poisoned (flips : Nat) (fixed : Option Nat)
  | bad
  deriving DecidableEq, Repr

/-- Decode a word by its flips and whether it is stored poisoned (R345): H·d of what was written cancels its check
bits, so the syndrome is that of the flips, with P where poisoned. -/
def decodeWord (flips : Nat) (pois : Bool) : WordRead :=
  let cols := weight3
  let f := (bitsFrom 272 0 flips).foldl (fun a i => Nat.xor a (column cols i)) 0
  let s := if pois then Nat.xor f 0xFFFF else f
  let at_ (x : Nat) : Option Nat := (rangeFrom 0 272).find? fun i => column cols i = x
  if s = 0 then .clean flips none
  else
    match at_ s with
    | some b => .clean (Nat.xor flips (2 ^ b)) (some b)
    | none =>
      if s = 0xFFFF then .poisoned flips none
      else
        match at_ (Nat.xor s 0xFFFF) with
        | some b => .poisoned (Nat.xor flips (2 ^ b)) (some b)
        | none => .bad

/-- The bit that a word's decode corrected. -/
def fixedBit : WordRead → Option Nat
  | .clean _ b => b
  | .poisoned _ b => b
  | .bad => none

/-- XOR of two byte runs, the second given as a number. -/
def xorBytes (bs : Bytes) (v : Nat) : Bytes := natLe bs.length (Nat.xor (leNat bs) v)

/-! ## Bank counts (R365 to R367) -/

/-- LEDGER0.BANKS: banks that are RESERVE. -/
def banksLeft (s : State) : Nat :=
  ((rangeFrom 0 64).map fun g => ((rangeFrom 0 17).filter fun n => bankRole s g n = 1).length).sum
def bankLedger (s : State) : State := wf s (ra pgFLT 0x138) 5 7 (banksLeft s)

/-- A bank becomes lasting: the WARN event with its key; one that came from the reserve is not spared again. -/
def bankLasting (s : State) (g n : Nat) (line : Option Nat) : State :=
  let key := 2 ^ 63 + globalBank g n
  let s := eventAt s (baPage g) sevWarn clBankLasting key
  let s := scrubNote s 2 g line (noteRow key)
  if n = 16 ∨ s.basin.entered.contains (globalBank g n) then eventAt s (baPage g) sevError clBankLasting key
  else if rb s (ra pgFLT 0x100) 1 then
    let w := tgetD s.fault.bankWait g []
    if w.contains n then s
    else { s with fault := { s.fault with bankWait := tput s.fault.bankWait g (w ++ [n]) } }
  else s

/-- One correction at a bit of a bank, or none for an uncorrectable line (R366). -/
def bankCount (s : State) (g n : Nat) (bit line : Option Nat) : State :=
  let k := globalBank g n
  let new : Track := { key := k, count := 0, firstTime := s.now }
  let t := tgetD s.fault.banks k new
  let t := if hours (rf s (ra pgFLT 0x114) 8 12) < s.now - t.firstTime then
      { t with count := 0, firstTime := s.now } else t
  let bits := match bit with
    | some b => (t.bits ++ [b]).drop (t.bits.length - 3)
    | none => t.bits
  let t := { t with count := t.count + 1, bits }
  let col := match bit with
    | some b => decide (b < 256) && decide (rf s (ra pgFLT 0x114) 20 4 ≤ (bits.filter fun x => x = b).length)
    | none => true
  let now := !t.lasting && (col || decide (rf s (ra pgFLT 0x114) 0 8 ≤ t.count))
  let s := { s with fault := { s.fault with banks := tput s.fault.banks k { t with lasting := t.lasting || now } } }
  if now then bankLasting s g n line else s

/-- A word was corrected (R347, R365). -/
def basinCorrected (s : State) (g o n bit : Nat) : State :=
  let s := bucketAdd (count s (baPage g) 0 1) (64 + g) (baPage g) clBasinCe 0x10C
  let line := basinLine s g o
  bankCount (scrubNote s 2 g line fun p => { p with corrBasin := p.corrBasin + 1 }) g n (some bit) line

/-- The PA of a line, or its place in the group where it holds none. -/
def basinLoc (s : State) (g o : Nat) : Nat := ((basinLine s g o).map paOfLine).getD (basinKey g o)

/-- An uncorrectable line (R346, Table 16-8). -/
def basinUncorrectable (s : State) (g o n : Nat) : State :=
  let loc := basinLoc s g o
  let s := event (count s (baPage g) 1 1) { source := baPage g, sev := sevError, cls := clBasinUe, pcode := 2, loc }
  let line := basinLine s g o
  let s := scrubNote s 2 g line (noteUncorr (loc + 2 ^ 52 + g * 2 ^ 56))
  bankCount (basinPut s g o (zeros 64) 2) g n none line

/-- Decode a stored line with the flips of its two words, and settle it (R345 to R347). -/
def basinDecode (s : State) (g o n : Nat) (u0 u1 : Nat) : State :=
  let (bs, c) := basinGet s g o
  let w0 := decodeWord u0 (decide (c ≠ 0))
  let w1 := decodeWord u1 (decide (c ≠ 0))
  let fix (s : State) : State := ([w0, w1].filterMap fixedBit).foldl (fun s b => basinCorrected s g o n b) s
  let dat (f : Nat) : Nat := f % 2 ^ 256
  match w0, w1 with
  | .clean f0 _, .clean f1 _ =>
    let bs := if c = 0 then bs else natLe 64 (c + c * 2 ^ 256)
    if u0 = 0 ∧ u1 = 0 then s else fix (basinPut s g o (xorBytes bs (dat f0 + dat f1 * 2 ^ 256)) 0)
  | .poisoned f0 _, .poisoned f1 _ =>
    let c0 := Nat.xor c (f0 % 16)
    let c1 := Nat.xor c (f1 % 16)
    if c0 = c1 then (if u0 = 0 ∧ u1 = 0 then s else fix (basinPut s g o (zeros 64) (storedCode c0)))
    else basinUncorrectable (fix s) g o n
  | _, _ => basinUncorrectable (fix s) g o n

/-! ## Line accesses -/

/-- A parity error on a path (R360). -/
def parityError (s : State) (g o : Nat) : State :=
  event s { source := baPage g, sev := sevError, cls := clDatapath, pcode := 9, loc := basinLoc s g o }

/-- What a read of a line answers: 64 B of zeros for a poisoned line (R346). -/
def basinAnswer (s : State) (g o : Nat) (parity : Bool) : State :=
  let (bs, c) := basinGet s g o
  let c := if parity then 9 else c
  let s := if parity then parityError s g o else s
  put s (.reply 0x30001 [g, o, c] (if c = 0 then bs else zeros 64))

/-- Write the masked bytes of a line (R346, R360). -/
def basinWrite (s : State) (g o n u0 u1 : Nat) (data : Bytes) (mask : BitVec 64) (pcode : Nat) (parity : Bool) : State :=
  let full := decide (mask = BitVec.allOnes 64)
  let s := if full || decide (pcode ≠ 0) then s else basinDecode s g o n u0 u1
  let (bs, c) := basinGet s g o
  let s :=
    if parity then basinPut (parityError s g o) g o (zeros 64) 9
    else if pcode ≠ 0 then basinPut s g o (zeros 64) (storedCode pcode)
    else if full then basinPut s g o (fitBytes 64 data) 0
    else if c ≠ 0 then s
    else basinPut s g o (mergeMask 64 bs (fitBytes 64 data) mask.toNat) 0
  match basinLine s g o with
  | some l => markLines s (l * 64) 1
  | none => s

/-- BASIN_LINE_ACCESS (R343 to R347, R350). -/
def execBasinLineAccess (acc : BasinAccess) (s : State) : Result :=
  let g := acc.group
  let o := acc.offset / 64 * 64
  match (if g < 64 ∧ acc.offset < 0x4000000 then servingBank s g o else none) with
  | none => .next s
  | some n =>
    let s := count (bankWake s g n) (baPage g) 3 1
    .next (match acc.write with
      | none => basinAnswer (basinDecode s g o n acc.upset0.toNat acc.upset1.toNat) g o acc.parity
      | some (d, m, c) => basinWrite s g o n acc.upset0.toNat acc.upset1.toNat d m c acc.parity)

/-! ## Atomics (R348, R349) -/

/-- An atomic on a line of the pool: its home serialises it as a WR_ONCE (R349). One that is not naturally aligned, or on
a line that takes no such write (R45, R217), is refused. -/
def atomic (k : AtomicKind) (req : AtomicReq) (s : State) : Result :=
  let w := atomicWidth k
  let refused := req.pa % w ≠ 0 || (landingOf s req.pa w).isSome ||
    ((placeOf s req.pa).map fun pl => pageFreeing pl || pl.reg.versioned).getD true
  let q := req.pa / 65536
  if refused then .next (atomicAnswer s req stNotPermitted 0 0)
  else
    let s := if (subRec s q).state = 3 then startPromote s (((regionOfSub s q).map fun e => e.2.grain).getD 3) q 0 else s
    .next (homeBegin s { kind := .wrOnce, who := .atomic k req, tag := 0, sc := 7, line := req.pa / 64, start := s.now })

/-- ATOMIC_ADD_I32 (R348). -/
def execAtomicAddI32 (req : AtomicReq) (s : State) : Result := atomic .addI32 req s
/-- ATOMIC_ADD_I64 (R348). -/
def execAtomicAddI64 (req : AtomicReq) (s : State) : Result := atomic .addI64 req s
/-- ATOMIC_ADD_F32 (R348). -/
def execAtomicAddF32 (req : AtomicReq) (s : State) : Result := atomic .addF32 req s
/-- ATOMIC_ADD_BF16X2 (R348). -/
def execAtomicAddBf16x2 (req : AtomicReq) (s : State) : Result := atomic .addBf16x2 req s
/-- ATOMIC_SWAP_32 (R348). -/
def execAtomicSwap32 (req : AtomicReq) (s : State) : Result := atomic .swap32 req s
/-- ATOMIC_SWAP_64 (R348). -/
def execAtomicSwap64 (req : AtomicReq) (s : State) : Result := atomic .swap64 req s

/-! ## Bank states (R350, R351) -/

/-- The bank may enter RET: in service, in a SCRATCH or CACHE group. -/
def mayRet (s : State) (g n : Nat) : Bool := decide (bankRole s g n = 0) && decide (2 ≤ groupPart s g)

/-- The bank may enter OFF: in service in a CACHE group while no CACHE frame is in use. -/
def mayOff (s : State) (g n : Nat) : Bool :=
  decide (bankRole s g n = 0) && decide (groupPart s g = 3) && s.tier.cacheUsed.isEmpty

/-- A bank's contents are lost: the lines of its position. -/
def loseBank (s : State) (g n : Nat) : State :=
  let gone (o : Nat) : Bool := decide (o / 0x4000000 = g) && decide (posOf (o % 0x4000000) = bankPos s g n)
  { s with basin := { s.basin with
      data := tfilter s.basin.data fun a _ => !gone a, mark := tfilter s.basin.mark fun l _ => !gone (l * 64) } }

/-- The level that holds for a group's banks (R459). -/
def bankLevel (s : State) (g : Nat) : Nat :=
  match groupPart s g with
  | 2 => coreLevel s
  | 3 => cacheLevel s
  | _ => 0

/-- BANK_RET_ENTRY (R350, R458): an idle bank enters RET at PL1 or deeper. -/
def execBankRetEntry (group bank : Nat) (s : State) : Result :=
  guarded (decide (group < 64) && decide (bank < 17) && mayRet s group bank && decide (bankPwr s group bank = 0) &&
    decide (1 ≤ bankLevel s group)) s fun s => setPwr s group bank 1

def bankBusy (s : State) (g : Nat) : Bool := rb s (bankCmd g) 8
def cmdErr (s : State) (g : Nat) (b : Bool) : State := wb s (bankCmd g) 9 b

/-- A write of BANK_CMD: from firmware; while BUSY only CMD_ERR can change, where Table 15-4 says so. -/
def bankWriteCmd (id g : Nat) (s : State) (errBusy : Bool) (f : State → State) : Result :=
  guarded (decide (g < 64) && isFw id) s fun s =>
    if bankBusy s g then (if errBusy then cmdErr s g true else s) else f (cmdErr s g false)

/-- The bank is the source or the reserve of the group's running substitution. -/
def inSubst (s : State) (g n : Nat) : Bool :=
  match tget s.basin.subst g with
  | some (a, b, _) => decide (n = a) || decide (n = b)
  | none => false

/-- BANK_SET_ON (R350, R351). -/
def execBankSetOn (id group bank : Nat) (s : State) : Result :=
  bankWriteCmd id group s false fun s =>
    if bank < 17 ∧ bankRole s group bank = 0 then setPwr s group bank 0 else cmdErr s group true

/-- BANK_SET_RET (R350, R351, R354). -/
def execBankSetRet (id group bank : Nat) (s : State) : Result :=
  bankWriteCmd id group s (inSubst s group bank) fun s =>
    if bank < 17 && mayRet s group bank then setPwr s group bank 1 else cmdErr s group true

/-- BANK_SET_OFF (R350, R351, R354). A RESERVE or RETIRED bank is OFF already. -/
def execBankSetOff (id group bank : Nat) (s : State) : Result :=
  bankWriteCmd id group s (inSubst s group bank) fun s =>
    if bank < 17 && mayOff s group bank then loseBank (setPwr s group bank 2) group bank
    else if bank < 17 && bankPwr s group bank = 2 && (bankRole s group bank = 1 || bankRole s group bank = 2) then s
    else cmdErr s group true

/-! ## Substitution and repair (R352, R353) -/

/-- The group's RESERVE bank, the lowest. -/
def reserveBank (s : State) (g : Nat) : Option Nat := (rangeFrom 0 17).find? fun n => bankRole s g n = 1

/-- Start a substitution. -/
def substStart (s : State) (g n : Nat) : State :=
  match (if n < 17 ∧ bankRole s g n = 0 then reserveBank s g else none) with
  | none => cmdErr s g true
  | some r =>
    let s := wb (setPwr (setPwr (setBankRole s g n 3) g n 0) g r 0) (bankCmd g) 8 true
    let s := { s with basin := { s.basin with subst := tput s.basin.subst g (n, r, s.now) } }
    wf (voidLines s fun line => ((basinPlace s line).map fun x => decide (x.1 = g)).getD false) (ra (baPage g) 0x148) 0 17 0

/-- BANK_SUBSTITUTE (R352, R354). -/
def execBankSubstitute (id group bank : Nat) (s : State) : Result :=
  bankWriteCmd id group s (tget s.basin.subst group).isSome fun s => substStart s group bank

/-- BANK_SUBSTITUTION_DONE (R352, R367, R372). -/
def execBankSubstitutionDone (group : Nat) (s : State) : Result :=
  match tget s.basin.subst group with
  | none => .next s
  | some (n, r, _) =>
    let s := wf (setBankRole s group r 0) (bankReg group r) 0 4 (bankPos s group n)
    let s := wb (setPwr (setBankRole s group n 2) group n 2) (bankCmd group) 8 false
    let s := wf s (ra (baPage group) 0x148) 0 17 65536
    let s := { s with
      basin := { s.basin with
        subst := tdel s.basin.subst group, entered := insNat (globalBank group r) s.basin.entered },
      fault := { s.fault with banks := tdel s.fault.banks (globalBank group r) } }
    let s := bankLedger s
    .next (reserveEvent s (baPage group) (2 ^ 63 + globalBank group n) (banksLeft s))

/-- BANK_REINSTATE (R353). -/
def execBankReinstate (id group bank : Nat) (s : State) : Result :=
  bankWriteCmd id group s false fun s =>
    if bank < 17 ∧ (bankRole s group bank = 1 ∨ bankRole s group bank = 2) then
      let s := wb (setPwr s group bank 0) (bankCmd group) 8 true
      { s with basin := { s.basin with test := tput s.basin.test group bank } }
    else cmdErr s group true

/-- REINSTATE_TEST_DONE (R353). -/
def execReinstateTestDone (group : Nat) (pass : Bool) (s : State) : Result :=
  match tget s.basin.test group with
  | none => .next s
  | some n =>
    let s := wb { s with basin := { s.basin with test := tdel s.basin.test group } } (bankCmd group) 8 false
    let s := setPwr (setBankRole s group n (if pass then 1 else 2)) group n 2
    let s := if pass then
        { s with
          basin := { s.basin with entered := s.basin.entered.erase (globalBank group n) },
          fault := { s.fault with banks := tdel s.fault.banks (globalBank group n) } }
      else cmdErr s group true
    .next (bankLedger s)

/-- AUTO_SUBSTITUTE_START (R367): the lasting bank that has waited longest. -/
def execAutoSubstituteStart (group : Nat) (s : State) : Result :=
  match tgetD s.fault.bankWait group [] with
  | [] => .next s
  | n :: rest =>
    guarded (decide (group < 64) && rb s (ra pgFLT 0x100) 1 && !bankBusy s group) s fun s =>
      substStart { s with fault := { s.fault with bankWait := tset [] s.fault.bankWait group rest } } group n

/-- FIELD_FUSE_BLOW (R353, R372): by Holhild, in a bank that is RETIRED or RESERVE and OFF. -/
def execFieldFuseBlow (id group bank _column : Nat) (s : State) : Result :=
  let k := globalBank group bank
  let left := tgetD s.basin.cols k 32
  guarded (decide (id = 2) && decide (group < 64) && decide (bank < 17) && decide (bankPwr s group bank = 2) &&
    (decide (bankRole s group bank = 1) || decide (bankRole s group bank = 2)) && decide (0 < left)) s fun s =>
    let s := { s with basin := { s.basin with cols := tset 32 s.basin.cols k (left - 1) } }
    reserveEvent s (baPage group) (2 ^ 63 + k) (left - 1)

end Sys2Proof.Machine
end

