-- ==== Sys2Proof/Machine/Faults.lean ====
section
/-!
DEFINITION. Fault handling (chapter 16): SCRUB (R362 to R364), buckets (R365), ENGINE_TEST (R369, R370), the processor
watchdog (R371), and the fault queue's reader and folding (R373 to R377).
-/
namespace Sys2Proof.Machine

/-! ## SCRUB -/

def sumPa (o : Op) : Nat := opnd o 0x28 8
def scrubStart (o : Op) : Nat := opnd o 0x18 8
def scrubPages (o : Op) : Nat := opnd o 0x20 4

/-- SUM_PA lies in a region of the queue's domain, 512 bytes of it. -/
def sumOk (s : State) (h : Nat) (o : Op) : Bool :=
  let u := opUser o (.fetch h) h
  decide (sumPa o % 64 = 0) && (userPlace s u (sumPa o) true).isSome && (userPlace s u (sumPa o + 511) true).isSome

/-- The command keeps Table 16-2. -/
def scrubOk (s : State) (h : Nat) (o : Op) : Bool :=
  (match scrubSpace o with
   | 0 => decide (scrubStart o % 2097152 = 0) && decide (1 ≤ scrubPages o) && decide (scrubPages o ≤ 0x8000000)
   | 1 => decide (scrubUnit o < 24) && !scrubCistern o
   | 2 => !scrubCistern o
   | _ => false) && sumOk s h o

/-- SCRUB (R362). -/
def execScrub (h : Nat) (s : State) : Result :=
  match ready s h 0x20 with
  | none => .next s
  | some o =>
    .next (if scrubOk s h o then modOp s h fun o => { o with phase := if o.askSusp then .suspending else .running }
      else endWith s h stNotPermitted [0, 0, 0, 0])

/-- What a scrub has read: lines read, lines skipped, lines found poisoned, and Cistern blocks checked. -/
structure Scrubbed where
  read : Nat := 0
  skipped : Nat := 0
  poison : Nat := 0
  blocks : Nat := 0
  deriving DecidableEq, Repr

/-- SPACE 0 over the first `n` pages of the range (R363). -/
def scrubPa (s : State) (o : Op) (n : Nat) : Scrubbed :=
  let a := scrubStart o / 65536
  let subs := s.tier.subs.filter fun e => decide (a ≤ e.1) && decide (e.1 < a + 32 * n)
  let of (k : Nat) : Nat := (subs.filter fun e => e.2.state = k).length
  let cached := (subs.map fun e => if e.2.state = 2 then popc 1024 e.2.valid.toNat else 0).sum
  let held := (subs.filter fun e => decide (1 ≤ e.2.state)).length
  let cis := of 3
  { read := 1024 * (of 1 + of 2 + if scrubCistern o then cis else 0) + cached
    skipped := 1024 * (32 * n - held + if scrubCistern o then 0 else cis)
    poison := (s.poison.filter fun e => subs.any fun q => decide (q.1 = e.1 / 1024) &&
      (decide (q.2.state = 1) || decide (q.2.state = 2))).length
    blocks := if scrubCistern o then 16 * cis else 0 }

/-- Bytes of a channel by its module (Table 14-5). -/
def chanBytes (s : State) (ch : Nat) : Nat := match rf s (drStat ch) 2 2 with
  | 0 => 0
  | m => 2 ^ (34 + m)

/-- Lines of the frames in use that lie on a channel. -/
def chanLines (s : State) (ch : Nat) : Nat :=
  (s.tier.dramUsed.map fun f =>
    ((rangeFrom 0 1024).filter fun i => (mapDa (grainOf s (f / 24)) (f * 65536 + i * 64)).1 = ch).length).sum

/-- Every poisoned line, those of staged and replaced sub-pages too. -/
def marks (s : State) : Tbl Nat := s.poison ++ s.alloc.storePoison

/-- SPACE 1: the channel's frames in use and its part of the system area (R121, R363). -/
def scrubChan (s : State) (ch : Nat) : Scrubbed :=
  { read := chanLines s ch + (chanBytes s ch / 64 - s.tier.dramFrames * 1024 / 24)
    poison := ((marks s).filter fun e => lineChannel s e.1 = some ch).length }

/-- SPACE 2: the group's in-service banks. -/
def scrubGroup (s : State) (g : Nat) : Scrubbed :=
  { read := 65536 * ((rangeFrom 0 17).filter fun n => bankRole s g n = 0 ∨ bankRole s g n = 3).length
    poison := ((marks s).filter fun e => (basinPlace s e.1).map Prod.fst = some g).length +
      (s.basin.mark.filter fun e => e.1 * 64 / 0x4000000 = g).length }

/-- What the scope of a scrub holds, cut at a frontier that a cancelled one has reached: the spec gives no place
for it, so it is a free value (log entry 35). -/
def scrubRead (s : State) (o : Op) (cut : Nat) : Scrubbed :=
  let part (n : Nat) : Nat := if o.cancelled then cut % (n + 1) else n
  match scrubSpace o with
  | 0 => scrubPa s o (part (scrubPages o))
  | 1 => let x := scrubChan s (scrubUnit o); { x with read := part x.read, poison := part x.poison }
  | _ => let x := scrubGroup s (scrubUnit o); { x with read := part x.read, poison := part x.poison }

/-- A list of 8-byte words filled to 16 with ones. -/
def sixteen (xs : List Nat) : Bytes :=
  (rangeFrom 0 16).flatMap fun i => natLe 8 (nth xs i (2 ^ 64 - 1))

/-- The summary (Table 16-3). -/
def scrubBytes (x : Scrubbed) (p : Progress) (crc : Nat) : Bytes :=
  natLe 8 x.read ++ natLe 8 x.skipped ++ ((rangeFrom 0 24).flatMap fun c => natLe 4 (tgetD p.corr c 0)) ++
  natLe 4 p.corrBasin ++ natLe 4 p.uncorr ++ natLe 4 (x.poison - p.uncorr) ++ natLe 4 p.rowsMarked ++
  sixteen p.uncorrLoc ++ sixteen p.rowKeys ++ natLe 4 crc ++ zeros 124

/-- SCRUB_COMPLETE (R363, R364). The number of Cistern blocks that fail is the drives' to say: a free value (log
entry 35). -/
def execScrubComplete (h : Nat) (s : State) : Result :=
  match opOf s h with
  | none => .next s
  | some o =>
    if o.opcode ≠ 0x20 ∨ o.phase ≠ .running then .next s
    else
      let (cut, s) := drawFree s
      let (bad, s) := drawFree s
      let x := scrubRead s o cut.toNat
      let crc := bad.toNat % (x.blocks + 1)
      let bs := scrubBytes x o.prog crc
      let corr := (o.prog.corr.map Prod.snd).sum + o.prog.corrBasin
      let res := [o.prog.uncorr, o.prog.rowsMarked, corr, x.read]
      .next (match userWrite s (opUser o (.fetch h) h) (sumPa o) bs 0 .atomic with
        | .done _ s => endWith (count s pgFLT 4 x.read) h stOk res
        | .wait s => s
        | .refuse st s => endWith s h st res)

/-! ## Buckets (R365) -/

/-- CE_BUCKET_LEAK (R365): a channel's bucket, or a bank group's. -/
def execCeBucketLeak (basin : Bool) (index : Nat) (s : State) : Result :=
  let k := if basin then 64 + index else index
  guarded (decide (index < if basin then 64 else 24)) s fun s =>
    { s with fault := { s.fault with buckets := tset 0 s.fault.buckets k (tgetD s.fault.buckets k 0 - 1) } }

/-! ## ENGINE_TEST (R369, R370) -/

/-- The engines that the command names. -/
def namedEngines (s : State) (o : Op) : Option (List Nat) :=
  let ctl := opnd o 0x10 4
  match fld ctl 0 2 with
  | 0 =>
    (s.cmd.history.reverse.find? fun x => x.handle = opnd o 0x14 4).map fun x =>
      bitList (if ctl.testBit 2 then x.suspect else x.engines)
  | 1 => some (bitsFrom 80 0 (opnd o 0x18 16))
  | 2 => some (rangeFrom 0 80)
  | _ => none

/-- The engine has been retired. -/
def engineRetired (s : State) (e : Nat) : Bool :=
  decide (coreRole s (e / 4) = 2) || (rf s (coreReg (e / 4)) 5 4).testBit (e % 4)

/-- The core that serves a core's position, for a core that was substituted. -/
def successor (s : State) (c : Nat) : Option Nat :=
  (clusterCores s (c / 5)).find? fun r => decide (r ≠ c) && decide (rf s (coreReg r) 2 3 = c % 5)

/-- The engine that a named one stands for: itself, or the same of the reserve core once that has taken its core's
place (Table 16-9); none while the substitution runs, or where nothing has taken it. -/
def testEngine (s : State) (e : Nat) : Option Nat :=
  match coreRole s (e / 4) with
  | 3 => none
  | 2 => (successor s (e / 4)).map fun r => 4 * r + e % 4
  | _ => some e

/-- A named engine that can never be tested: its core was retired and nothing replaced it. -/
def untestable (s : State) (e : Nat) : Bool := decide (coreRole s (e / 4) = 2) && (testEngine s e).isNone

/-- Wake a RESERVE core for a test. -/
def wakeReserve (s : State) (e : Nat) : State := if coreRole s (e / 4) = 1 then setGated s (e / 4) false else s

/-- A RESERVE core returns to power gating after its last test. -/
def gateReserve (s : State) (c : Nat) : State :=
  if coreRole s c = 1 ∧ ¬ ((testedEngines s).any fun e => e / 4 = c) then setGated s c true else s

/-- The command completes when every named engine has finished (R370). -/
def testEnd (s : State) (h : Nat) : State :=
  match opOf s h with
  | none => s
  | some o =>
    let left := o.tests.filter fun t => !untestable s t.1
    let s := modOp s h fun o => { o with tests := left }
    if left.isEmpty then
      let mask := ((o.testFails.map fun e => e / 4).eraseDups.map fun c => 2 ^ c).sum
      endWith s h stOk [o.tested, o.testFails.length, mask, o.substituted]
    else s

/-- ENGINE_TEST (R369). -/
def execEngineTest (h : Nat) (s : State) : Result :=
  match ready s h 0x21 with
  | none => .next s
  | some o =>
    match namedEngines s o with
    | none => .next (endWith s h stNotPermitted [0, 0, 0, 0])
    | some es =>
      let r := fld (opnd o 0x10 4) 8 8
      let es := es.filter fun e => !engineRetired s e
      let s := modOp s h fun o => { o with
        phase := .running, tests := es.map fun e => (e, if r = 0 then 16 else r) }
      .next (testEnd (es.foldl wakeReserve s) h)

/-- An earlier ENGINE_TEST still tests the engine (Table 16-9). -/
def testedEarlier (s : State) (h e : Nat) : Bool :=
  s.cmd.ops.any fun x => earlier x.1 h && decide (x.2.opcode = 0x21) && decide (x.2.phase = .running) &&
    x.2.tests.any fun t => testEngine s t.1 = some e

/-- ENGINE_TEST_ROUND_DONE (R370). `eng` is the engine as the command named it. -/
def execEngineTestRoundDone (h eng : Nat) (pass : Bool) (s : State) : Result :=
  match opOf s h with
  | none => .next s
  | some o =>
    if o.opcode ≠ 0x21 ∨ o.phase ≠ .running then .next s
    else
      match testEngine s eng, o.tests.find? fun t => t.1 = eng with
      | some e, some (_, left) =>
        if testedEarlier s h e ∨ (s.cmd.tiles.any fun t => t.eng = some e) then .next s
        else if pass ∧ 1 < left then
          .next (modOp s h fun o => { o with tests := o.tests.map fun t => if t.1 = eng then (eng, left - 1) else t })
        else
          let s := modOp s h fun o => { o with
            tests := o.tests.filter fun t => t.1 ≠ eng, tested := o.tested + 1,
            testFails := if pass then o.testFails else o.testFails ++ [e] }
          let s :=
            if pass then gateReserve s (e / 4)
            else
              let s := retireEngine s e
              if coreRole s (e / 4) = 3 then modOp s h fun o => { o with substituted := o.substituted + 1 } else s
          .next (testEnd s h)
      | _, _ => .next (testEnd s h)

/-! ## Control processors (R371) -/

/-- CP_KICK (R371): each processor its own. -/
def execCpKick (id : Nat) (s : State) : Result :=
  guarded (isCp id) s fun s =>
    { s with fault := { s.fault with kicks := setNth s.fault.kicks (id - 0x010) s.now } }

/-- Set a processor's role: 0 IN_SERVICE, 1 RESERVE, 2 RETIRED. No image confirms itself after a retirement (R436). -/
def setCpRole (s : State) (n r : Nat) : State :=
  let s := wf s (ra pgFLT 0x130) (10 + 2 * n) 2 r
  if r = 2 then { s with fw := { s.fw with since := [] } } else s

/-- An entry that a processor had taken and not yet passed to the data plane (R371; log entry 36). -/
def heldBy (s : State) (n h : Nat) (o : Op) : Bool :=
  decide (o.cp = n) && decide (o.phase = .taken) && (!isAllocOp o.opcode || !passed s h)

/-- A processor in service has not kicked its watchdog for WDT_MS (R371). -/
def cpLate (s : State) (n : Nat) : Bool :=
  decide (cpRole s n = 0) && decide (nth s.fault.kicks n 0 + rf s (ra pgFLT 0x130) 0 10 * 1000000 ≤ s.now)

/-- CP_WATCHDOG_EXPIRY (R371, R372). -/
def execCpWatchdogExpiry (cp : Nat) (s : State) : Result :=
  guarded (decide (cp < 5) && cpLate s cp) s fun s =>
    let s := eventAt (setCpRole s cp 2) pgFLT sevError clCp cp
    let lost := tkeys s.cmd.ops (heldBy s cp)
    let s := lost.foldl (fun s h => endWith (leaveQueue s h) h stInternal [0, 0, 0, 0]) s
    match (rangeFrom 0 5).find? fun n => cpRole s n = 1 with
    | none => s
    | some n =>
      let s := wb (setCpRole s n 0) (ra pgFLT 0x138) 21 false
      let s := { s with fault := { s.fault with kicks := setNth s.fault.kicks n s.now } }
      reserveEvent s pgFLT n 0

/-! ## The fault queue (R373 to R377) -/

/-- Q_STAT follows the queue. -/
def faultStat (s : State) : State :=
  wr s (ra pgFLT 0x11C) (s.fault.tail + s.fault.used * 4096 + (if s.fault.ovf.isEmpty then 0 else 33554432))

/-- FAULT_Q_HEAD_WRITE (R373). -/
def execFaultQHeadWrite (_id : Nat) (value : W32) (s : State) : Result :=
  let a := ra pgFLT 0x118
  let n := (value.toNat % 4096 + 4096 - rd s a) % 4096
  if s.fault.used < n then .next (errInc s pgFLT 1)
  else .next (faultStat (wr { s with fault := { s.fault with used := s.fault.used - n } } a (value.toNat % 4096)))

/-- EVENT_RATE_REFILL (R375): one event returns to a source's bucket. -/
def execEventRateRefill (source : Nat) (s : State) : Result :=
  .next { s with fault := { s.fault with
    missing := tset 0 s.fault.missing source (tgetD s.fault.missing source 0 - 1) } }

/-- An entry is free for a record of a severity: the last 64 take only FATAL ones (R373, R376). -/
def entryFree (s : State) (sev : Nat) : Bool :=
  decide (s.fault.used < 4032) || (decide (sev = 3) && decide (s.fault.used < 4096))

/-- Write a record, or count it in its class's overflow slot. -/
def putRecord (s : State) (e : FaultEntry) : State := if entryFree s e.sev then faultPut s e else faultOvf s e

/-- FOLD_SUMMARY (R375): one summary record for each source and class with a count, the highest severity first. -/
def execFoldSummary (s : State) : Result :=
  let es := s.fault.folded
  let s := { s with fault := { s.fault with folded := [] } }
  .next ([3, 2, 1, 0].foldl (fun s sev => (es.filter fun e => e.2.2 = sev).foldl (fun s e =>
    putRecord s { time := s.now, source := e.1 / 64, sev := sev, summary := true, cls := e.1 % 64, count := e.2.1 }) s) s)

/-- OVERFLOW_RECORD_WRITE (R376). -/
def execOverflowRecordWrite (s : State) : Result :=
  let slots := s.fault.ovf
  .next (faultStat (slots.foldl (fun s e =>
    if entryFree s e.2.sev then
      let s := { s with fault := { s.fault with ovf := tdel s.fault.ovf e.1 } }
      faultPut s { time := s.now, source := pgFLT, sev := e.2.sev, cls := 0x3F, count := e.2.count, detail := e.1 }
    else s) s))

/-- ALERT_ACK (R377): the FATAL events that were sent and ACKed leave PENDING. -/
def execAlertAck (_id : Nat) (s : State) : Result :=
  let a := ra pgFLT 0x128
  let left := rf s a 2 12 - s.fault.acked
  let s := wf { s with fault := { s.fault with acked := 0 } } a 2 12 left
  .next (if left = 0 ∧ rb s a 0 then put (wb s a 0 false) (.pin "ALERT_N" true) else s)

end Sys2Proof.Machine
end

