-- ==== Sys2Proof/Machine/Link.lean ====
section
/-!
DEFINITION. Fabric and mirror ports (chapter 11): flits, acknowledgement and replay, credits, link messages, the
reserve lane, width changes, training, port failure and power states. Ports 0–19 are F0–F19, 20 and 21 M0 and M1.
-/
namespace Sys2Proof.Machine

/-! ## One port -/

def lp (s : State) (p : Nat) : LinkPort := tgetD s.link.ports p {}

/-- Bodies kept on the port, and in the Spillway (R262). -/
def onPort (x : LinkPort) : Nat := (x.kept.filter fun k => !k.spilled).length
def inSpill (x : LinkPort) : Nat := (x.kept.filter fun k => k.spilled).length

/-- Replace a port's link layer; REPLAY_STAT and SPILL_STAT follow it. -/
def setLp (s : State) (p : Nat) (x : LinkPort) : State :=
  let s := { s with link := { s.link with ports := tset {} s.link.ports p x } }
  wr (wr s (ra (portPage p) 0x110) x.kept.length) (ra (portPage p) 0x114)
    (inSpill x % 65536 + if 32768 ≤ inSpill x then 65536 else 0)

def modLp (s : State) (p : Nat) (f : LinkPort → LinkPort) : State := setLp s p (f (lp s p))

def ctlReg (p : Nat) : Nat := ra (portPage p) 0x100
def statReg (p : Nat) : Nat := ra (portPage p) 0x104
def replayReg (p : Nat) : Nat := ra (portPage p) 0x108
def setLinkState (s : State) (p st : Nat) : State := wf s (statReg p) 0 3 st
def linkWidth (s : State) (p : Nat) : Nat := rf s (statReg p) 3 2
def linkPower (s : State) (p : Nat) : Nat := rf s (statReg p) 5 2
def widthMax (s : State) (p : Nat) : Nat := rf s (ctlReg p) 1 2
def peerEid (s : State) (p : Nat) : Nat := rf s (statReg p) 13 12
def ackTimeout (s : State) (p : Nat) : Nat := rf s (replayReg p) 0 16

/-- The widest width code that a number of lanes allows. -/
def widthFor (n : Nat) : Nat := if 8 ≤ n then 0 else if 4 ≤ n then 1 else 2

/-- Lanes of a width code. -/
def lanesOf (w : Nat) : Nat := 8 / 2 ^ w

/-- The physical lanes that carry the logical lanes at a width, of those that a set allows: at ×8 each logical lane its
own, or the reserve in place of one; at less the lowest-numbered (R266, R268; log entry 86). -/
def laneMap (set : BitVec 9) (w : Nat) : List Nat :=
  if w = 0 then (rangeFrom 0 8).map fun i => if set.getLsbD i then i else 8
  else ((rangeFrom 0 9).filter fun i => set.getLsbD i).take (lanesOf w)

/-- This end leads where both have sent a request of one kind (R269). -/
def leads (s : State) (p : Nat) : Bool := decide (ownEid s < peerEid s p)

/-- Receive buffers enabled on a port (R252, Table 17-3). -/
def buffers (s : State) (p : Nat) : List Nat := rangeFrom 0 (if p < 20 then 4 + rf s (ctlReg p) 6 4 else 6)

/-- Units of a receive buffer (Tables 11-6 and 17-3). -/
def bufferUnits (s : State) (p b : Nat) : Nat :=
  if p < 20 then
    match b with
    | 0 => 512
    | 1 | 2 => 256
    | 3 => 1024
    | _ => 4096 / max 1 (rf s (ctlReg p) 6 4)
  else nth [2048, 1024, 256, 4096, 256, 2048] b 0

/-! ## Link messages -/

/-- Send a message once. -/
def say (s : State) (p : Nat) (m : LinkMsg) : State := modLp s p fun x => { x with ctl := x.ctl ++ [m] }

/-- Send a message that needs an answer (R250). -/
def ask (s : State) (p : Nat) (m : LinkMsg) : State :=
  modLp s p fun x => { x with ctl := x.ctl ++ [m], awaiting := x.awaiting ++ [m] }

/-- The answer to a message of a code has come, or the request is aborted. -/
def answered (s : State) (p code : Nat) : State :=
  let rest (ms : List LinkMsg) : List LinkMsg := ms.filter fun m => m.code ≠ code
  modLp s p fun x => { x with awaiting := rest x.awaiting, ctl := rest x.ctl }

/-- Take a received message out of the port's inbox. -/
def takeMsg (s : State) (p : Nat) (f : LinkMsg → Bool) : Option State :=
  ((lp s p).inbox.find? f).map fun m => modLp s p fun x => { x with inbox := x.inbox.erase m }

/-- A message command: the message must have been received. -/
def onMsg (s : State) (p : Nat) (f : LinkMsg → Bool) (g : State → State) : Result :=
  match takeMsg s p f with
  | none => .next s
  | some s => .next (g s)

/-- The lane set that a WIDTH_REQ in the inbox names, 0 where none is there. -/
def askedSet (s : State) (p width : Nat) : BitVec 9 :=
  BitVec.ofNat 9 ((((lp s p).inbox.find? fun m => m.code = 7 && m.a = width).map LinkMsg.b).getD 0)

/-- A message as a slot: its code in byte 0 and its operands as 32-bit words from byte 4 (log entry 21). -/
def msgSlot (m : LinkMsg) : Slot := natLe 1 m.code ++ zeros 3 ++ natLe 4 m.a ++ natLe 4 m.b ++ natLe 4 m.c

/-- The message that a slot holds. -/
def slotMsg (b : Slot) : LinkMsg := { code := leAt b 0 1, a := leAt b 4 4, b := leAt b 8 4, c := leAt b 12 4 }

/-- Ask for a replay from EXPECTED, unless a request is outstanding (R257). -/
def askReplay (s : State) (p : Nat) : State :=
  if (lp s p).reqOut then s
  else
    let s := modLp s p fun x => { x with reqOut := true }
    say s p { code := 1, a := (lp s p).expected }

/-! ## Training -/

/-- The messages that begin a training attempt: LINK_ID and a CREDIT_INIT for each enabled buffer (R253, R268). -/
def trainMsgs (s : State) (p : Nat) : List LinkMsg :=
  { code := 3, a := ownEid s, b := widthMax s p, c := popc 9 (lp s p).lanesTx.toNat } ::
    (buffers s p).map fun b => { code := 2, a := b, b := bufferUnits s p b }

/-- Begin a training attempt in state TRAINING or RETRAIN; requests under way are aborted, counts cleared (R268,
R269, Table 11-11). Bounds are void while a port retrains (Table 5-2). -/
def startTraining (s : State) (p st : Nat) : State :=
  let s := if st = 3 then voidPort s p else s
  let s := setLinkState s p st
  let s := modLp s p fun x => { x with
    ctl := [], awaiting := [], peer := none, inits := [], bad := false, crossed := 0, corrections := [],
    waiting := [], swapTx := none, swapRx := none, widthTo := none, pwrTo := none, granted := none, replay := none }
  modLp s p fun x => { x with ctl := trainMsgs s p }

/-- Begin a retrain of a port that runs, and tell the peer where this end begins it. -/
def retrain (s : State) (p : Nat) (own : Bool) : State :=
  let st := linkState s p
  if st = 0 ∨ st = 1 ∨ st = 3 ∨ st = 7 then s
  else
    let s := startTraining s p 3
    if own then ask s p { code := 9, a := (lp s p).attempts + 1 } else s

/-! ## Ports leave and enter service -/

/-- A packet that kept flits carried is lost with its port (Table 11-9). -/
def loseKept (s : State) (pkt : Packet) : State :=
  if pkt.ch < 4 then
    match agentOf s pkt.dest with
    | some i => fenceAgent s i
    | none => s
  else if pkt.kind ≤ 1 ∧ pkt.src = selfEid s then
    match s.cmd.sent.find? fun m => m.dest = pkt.dest && m.msgId = pkt.msgId with
    | some m => failTile { s with cmd := { s.cmd with sent := s.cmd.sent.erase m } } m.op m.tile stInternal
    | none => s
  else s

/-- Reserve lanes left (Table 16-10, LEDGER0): fabric, then Runnel. -/
def lanesLeft (s : State) (runnel : Bool) : Nat :=
  let ps := if runnel then rangeFrom 20 2 else rangeFrom 0 20
  2 * ps.length - (ps.map fun p => rf s (statReg p) 7 1 + rf s (statReg p) 8 1).sum

/-- The lanes of a width in each direction, and the bits of LINK_STAT that follow: RES_TX_USED, RES_RX_USED and
RX_SWAPPED. The reserve ledger follows them (R372). -/
def setLanes (s : State) (p w : Nat) (tx rx : List Nat) : State :=
  let r := statReg p
  let s := wb (wb (wf s r 3 2 w) r 7 (tx.contains 8)) r 8 (rx.contains 8)
  let s := wf s r 9 4 ((rx.findIdx? fun l => l = 8).getD 15)
  let s := modLp s p fun x => { x with txLanes := tx, rxLanes := rx, widthTo := none, corrections := [] }
  if p < 20 then wf s (ra pgFLT 0x138) 12 6 (lanesLeft s false) else wf s (ra pgFLT 0x138) 18 3 (lanesLeft s true)

/-- The failed port leaves the ordered set of every EID for good (R278). -/
def loseMember (s : State) (p : Nat) : State :=
  let mark (_ : Nat) (r : Route) : Route := if r.ordered.contains p then { r with lost := setBit r.lost p } else r
  { s with route := { s.route with entries := tmap s.route.entries mark } }

/-- A port becomes DOWN or FAILED (R277, R278, R280, Table 11-9). Packets that no flit carries are routed again, or go
to the other mirror port (R388). -/
def portDown (s : State) (p st : Nat) : State :=
  let x := lp s p
  let used := (s.route.entries.filter fun e => e.2.valid && decide (p < 20) &&
    (match (pickSet s e.2).1 with
     | 0 => e.2.ports.getLsbD p
     | 1 => e.2.alt.getLsbD p
     | _ => false)).map Prod.fst
  let tx := tgetD s.link.tx p []
  let begun := if 0 < x.sent then tx.take 1 else []
  let lost := ((x.kept.flatMap Kept.pkts) ++ begun.map WUnit.pkt).eraseDups
  let waiting := tx.drop begun.length ++ (sched s (portSched p)).units
  let s := setLinkState (voidPort s p) p st
  let s := setLp s p {}
  let s := setLanes s p (linkWidth s p) (lp s p).txLanes (lp s p).rxLanes
  let s := { s with link := { s.link with tx := tdel s.link.tx p, overLimit := s.link.overLimit.erase p } }
  let s := setSched s (portSched p) { sched s (portSched p) with units := if p < 20 then [] else waiting }
  let s := begun.foldl (fun s u => unchargeBacklog s (portSched p) u.cls u.charge) s
  let s := if x.kept.isEmpty then s
    else event s { source := portPage p, sev := sevError, cls := clLink, loc := p, detail := x.kept.length }
  let s := if p < 20 then waiting.foldl routeNow (loseMember s p) else resendRunnel s p
  let s := lost.foldl loseKept s
  used.foldl (fun s e =>
    let r := refreshRoute s (route s e)
    if r.path = 2 then fenceUnreachable s e else setRoute s e r) s

/-- A port fails (R270). -/
def portFail (s : State) (p : Nat) : State :=
  portDown (event s { source := portPage p, sev := sevError, cls := clLink, loc := p }) p 7

/-- An EID whose alternate set is in use returns to its primary set when one of its ports becomes usable; its new
packets wait until the alternate ports have drained (R280). -/
def beginReturn (s : State) (p : Nat) : State :=
  let es := (s.route.entries.filter fun e => e.2.valid && decide (e.2.path = 1) && e.2.ports.getLsbD p &&
    !e.2.draining).map Prod.fst
  es.foldl (fun s e =>
    if drained s e then releaseHeld (setRoute s e (freshRoute s (route s e))) e
    else setRoute s e { route s e with draining := true }) s

/-- Drop a port's keys from a table of buffers. -/
def clearBuffers (t : Tbl Nat) (p : Nat) : Tbl Nat := dropRange t (p * 16) 16

/-- EN becomes 1: sequence numbers and credits start afresh and the port trains (R257, R274). What the receive buffers
still hold returns no credit to the new peer (Table 11-9). A mirror port takes what stands at the other where that one is
out of use (R388). -/
def portUp (s : State) (p : Nat) : State :=
  let l := s.link
  let old := (tgetD l.rx p []).map fun x => { x with stale := true }
  let s := { s with link := { l with
    rx := tset [] l.rx p old,
    freedRx := clearBuffers l.freedRx p, limitTx := clearBuffers l.limitTx p, sentTx := clearBuffers l.sentTx p,
    freedTx := clearBuffers l.freedTx p } }
  let s := startTraining (wb (setLp s p {}) (ctlReg p) 0 true) p 1
  if p < 20 then beginReturn s p else if usable s (41 - p) then s else moveRunnel s (41 - p)

/-- The pair state keeps the fabric ports in service (Table 17-1). -/
def portsServe (s : State) : Bool :=
  serving s || (decide (pairState s = 1) && (rb s (ra pgPAIR 0x100) 0 || s.pair.returning))

/-- The controller puts the fabric ports in or out of service (R382). -/
def servicePorts (s : State) (on : Bool) : State :=
  (rangeFrom 0 20).foldl (fun s p =>
    if on then
      (if rb s (ctlReg p) 10 ∧ ¬ rb s (ctlReg p) 0 then portUp s p else s)
    else if rb s (ctlReg p) 0 then portDown (wb s (ctlReg p) 0 false) p 0 else s) s

/-! ## Width -/

/-- Lanes that trained in both directions and have not crossed a threshold. -/
def goodLanes (s : State) (p : Nat) : BitVec 9 :=
  let x := lp s p
  x.lanesTx &&& x.lanesRx &&& ~~~ x.crossed

/-- The widest width that WIDTH_MAX, the peer and the good lanes allow. -/
def bestWidth (s : State) (p : Nat) : Nat :=
  max (max (widthMax s p) (((lp s p).peer.map fun e => e.2.1).getD 0)) (widthFor (popc 9 (goodLanes s p).toNat))

/-- A list of lanes as a set. -/
def laneSet (ls : List Nat) : BitVec 9 := ls.foldl (fun b l => setBit b l) 0

/-- Begin a width change (R267): WIDTH_REQ names the width and the lanes of both directions (log entry 86). -/
def startWidth (s : State) (p w : Nat) : State :=
  if linkState s p ≠ 2 ∨ linkWidth s p = w then s
  else
    let s := setLinkState (modLp (voidPort s p) p fun x => { x with widthTo := some w }) p 4
    ask s p { code := 7, a := w, b := (laneSet (laneMap (goodLanes s p) w)).toNat }

/-- The new width is in force on the lanes that WIDTH_REQ named, and corrections are counted afresh; a set that does not
give the width stands for this end's own good lanes. -/
def setWidth (s : State) (p w : Nat) (set : BitVec 9) : State :=
  let ls := laneMap (if popc 9 set.toNat = lanesOf w then set else goodLanes s p) w
  setLanes s p w ls ls

/-! ## Lanes -/

/-- A swap, or a fall in width, is reported and drawn on the reserve ledger (R266, R372). -/
def laneEvents (s : State) (p lane : Nat) : State :=
  let s := event s { source := portPage p, sev := sevWarn, cls := clLink, loc := p, detail := lane }
  reserveEvent s (portPage p) lane (lanesLeft s (decide (20 ≤ p)))

/-- A lane crossed its threshold and its direction's reserve cannot take its place: the next lower width (R266). -/
def narrower (s : State) (p lane : Nat) : State :=
  if 2 ≤ linkWidth s p then s else startWidth (laneEvents s p lane) p (linkWidth s p + 1)

/-- The reserve of the receive direction, or of the transmit direction, is free for a swap (R264). -/
def reserveFree (x : LinkPort) (tx : Bool) : Bool :=
  let ok := if tx then x.lanesTx else x.lanesRx
  ok.getLsbD 8 && !x.crossed.getLsbD 8 && !(if tx then x.txLanes else x.rxLanes).contains 8

/-- A physical lane has crossed its threshold (R264, R266). During a swap it waits; during training or a width change it
is decided afresh on the new lanes, its counts cleared; a lane that carries nothing is only kept out of use
(Table 11-11). -/
def crossLane (s : State) (p : Nat) (tx : Bool) (lane : Nat) : State :=
  let st := linkState s p
  let x := lp s p
  if st = 0 ∨ st = 6 ∨ st = 7 ∨ x.crossed.getLsbD lane then s
  else if st ≠ 2 ∧ st ≠ 5 then setLp s p { x with corrections := [] }
  else if st = 5 ∨ x.swapRx.isSome ∨ x.swapTx.isSome then
    setLp s p { x with waiting := x.waiting ++ (if x.waiting.contains (tx, lane) then [] else [(tx, lane)]) }
  else
    let s := setLp s p { x with crossed := setBit x.crossed lane }
    match (if tx then x.txLanes else x.rxLanes).findIdx? fun l => l = lane with
    | none => s
    | some l =>
      if tx then (if reserveFree x true then s else narrower s p lane)
      else if !reserveFree x false then narrower s p lane
      else ask (modLp (voidPort s p) p fun x => { x with swapRx := some (l, none) }) p { code := 4, a := l }

/-- Decide the crossings that waited for a swap (Table 11-11). -/
def retryLanes (s : State) (p : Nat) : State :=
  (lp s p).waiting.foldl (fun s e => crossLane s p e.1 e.2) (modLp s p fun x => { x with waiting := [] })

/-! ## Power states -/

/-- Enter a low power state (R271). The reserve lanes are powered down with it, and are back on return. -/
def enterPower (s : State) (p t : Nat) : State :=
  modLp (setLinkState (wf s (statReg p) 5 2 t) p 6) p fun x => { x with pwrTo := none, granted := none }

/-- Leave a low power state: STANDBY at once, NARROW by a width change, OFF by a retrain that the peer is asked to join
(Table 11-10). -/
def exitPower (s : State) (p : Nat) : State :=
  let t := linkPower s p
  let s := wf s (statReg p) 5 2 0
  match t with
  | 1 => startWidth (setLinkState (voidPort s p) p 2) p (bestWidth s p)
  | 3 => ask (startTraining s p 3) p { code := 9, a := (lp s p).attempts + 1 }
  | _ => setLinkState s p 2

/-- A granted NARROW is entered at once where the width is ×2 already, and else by a width change (Table 11-10). -/
def narrowDown (s : State) (p : Nat) : State :=
  if linkWidth s p = 2 then enterPower s p 1 else startWidth s p 2

/-- A width change has ended: the port is ACTIVE, or in the NARROW state that it served, and waiting crossings are
decided. -/
def widthDone (s : State) (p w : Nat) (set : BitVec 9) : State :=
  let s := setLinkState (wf (setWidth s p w set) (statReg p) 5 2 0) p 2
  let x := lp s p
  if w = 2 ∧ (x.granted = some 1 ∨ x.pwrTo = some 1) then enterPower s p 1
  else retryLanes (setLp s p { x with
    granted := if x.granted = some 1 then none else x.granted, pwrTo := if x.pwrTo = some 1 then none else x.pwrTo }) p

/-- Ask the peer for a power state, or leave the one in force. -/
def requestPower (s : State) (p t : Nat) : State :=
  if t = 0 then (if linkState s p = 6 then exitPower s p
    else answered (modLp s p fun x => { x with pwrTo := none }) p 10)
  else if linkState s p = 2 ∧ (lp s p).pwrTo.isNone then
    ask (modLp s p fun x => { x with pwrTo := some t }) p { code := 10, a := t }
  else s

/-- The port has PAYLOAD flits to send or kept flits unacknowledged. -/
def linkBusy (s : State) (p : Nat) : Bool :=
  !(tgetD s.link.tx p []).isEmpty || !(sched s (portSched p)).units.isEmpty || !(lp s p).kept.isEmpty

/-! ## Replay -/

/-- Begin a replay at a kept FSEQ, or a retrain in its place as its count reaches RETRAIN_AFTER; past REPLAY_LIMIT, the
bounds at the port are void until it delivers without replay (R258, R260, Table 5-2). -/
def beginReplay (s : State) (p seq : Nat) : State :=
  let x := lp s p
  let old := if x.replaySeq = seq then x.replays else 0
  let after := rf s (replayReg p) 20 4
  let s := setLp s p { x with replaySeq := seq, replays := old + 1 }
  let s := if rf s (replayReg p) 16 4 < old + 1 then
      let s := voidPort s p
      { s with link := { s.link with overLimit := insNat p s.link.overLimit } }
    else s
  if old < after ∧ after ≤ old + 1 then retrain s p true
  else modLp s p fun x => { x with replay := some seq, lastReplay := some (seq, s.now) }

/-- REPLAY_REQ (R258). -/
def execReplayReq (port seq : Nat) (s : State) : Result :=
  onMsg s port (fun m => decide (m.code = 1) && decide (m.a = seq)) fun s =>
    let x := lp s port
    let again : Bool := match x.lastReplay with
      | some (q, t) => decide (q = seq) && decide (s.now < t + ackTimeout s port)
      | none => false
    if (x.kept.any fun k => k.fseq = seq) ∧ ¬ again then beginReplay s port seq else s

/-- ACK_TIMEOUT (R258): no ACK has advanced while flits are kept. -/
def execAckTimeout (port : Nat) (s : State) : Result :=
  match (lp s port).kept with
  | [] => .next s
  | k :: _ => .next (beginReplay (modLp s port fun x => { x with ackAt := s.now }) port k.fseq)

/-- REPLAY_REQ_TIMEOUT (R257): the outstanding request is sent again. -/
def execReplayReqTimeout (port : Nat) (s : State) : Result :=
  guarded (lp s port).reqOut s fun s => say s port { code := 1, a := (lp s port).expected }

/-- LINK_MSG_REPEAT (R250). -/
def execLinkMsgRepeat (port : Nat) (s : State) : Result :=
  .next (modLp s port fun x => { x with ctl := x.ctl ++ x.awaiting.filter fun m => !x.ctl.contains m })

/-! ## Receiving -/

/-- The packet that a run of slots holds (Tables 11-4 and 12-1); of one on a mirror port, what every packet has. -/
def parsePacket (bs : Bytes) (mirror : Bool := false) : Packet :=
  let h := leNat (bs.take 16)
  let hl := fld h 41 2
  let h2 := if 1 ≤ hl then leAt bs 16 16 else 0
  let ch := fld h 24 4
  let data := (bs.drop (16 * (hl + 1))).take (16 * fld h 32 9)
  let base : Packet := {
    dest := fld h 0 12, src := fld h 12 12, ch, sc := fld h 28 3, poison := h.testBit 31, pcode := fld h 43 4,
    tag := fld h 48 16, data, raw := bs }
  if mirror then base
  else if ch < 4 then
    { base with
      code := fld h 64 5, granted := h.testBit 69, wbPending := h.testBit 70, line := fld h 72 46,
      status := fld h 118 8, mask := BitVec.ofNat 64 h2 }
  else
    let k := fld h 64 4
    let b := { base with
      kind := k, last := h.testBit 68, mc := h.testBit 69, group := fld h 70 8, msgId := fld h 80 16 }
    match k with
    | 0 | 1 => { b with msgLen := fld h 96 24, addr := fld h2 0 52, payBytes := fld h2 64 13, offset := fld h2 80 24,
                        data := data.take (fld h2 64 13) }
    | 2 => { b with status := fld h 96 8 }
    | 3 | 4 => { b with queue := fld h 96 8, tail := fld h 104 16 }
    | _ => { b with ptag := fld h 96 32 }

/-- The channel that a coherent code travels in (Table 4-6); 15 for a code that is not in the table. -/
def codeChannel (c : Nat) : Nat :=
  if 1 ≤ c ∧ c ≤ 5 then 0 else if 8 ≤ c ∧ c ≤ 10 then 1 else if 0x10 ≤ c ∧ c ≤ 0x19 then 2
  else if (0x1A ≤ c ∧ c ≤ 0x1F) ∨ c = 6 then 3 else 15

/-- R249 and R285, for what is known when the packet is whole. A RELAY packet carries another whole, with its header
slots (log entry 22). -/
def packetRefused (s : State) (p : Nat) (pkt : Packet) : Bool :=
  let h := leNat (pkt.raw.take 16)
  let hl := fld h 41 2
  let len := fld h 32 9
  let put := decide (4 ≤ pkt.ch) && decide (pkt.kind ≤ 1)
  !(buffers s p).contains pkt.ch || decide ((if 20 ≤ p ∧ pkt.ch = 5 then 260 else 256) < len) ||
  (decide (p < 20) &&
    ((decide (pkt.ch < 4) && decide (codeChannel pkt.code ≠ pkt.ch)) ||
     (isLocal s pkt.dest &&
       (decide (pkt.ch = 1) ||
        (decide (4 ≤ pkt.ch) && (decide (5 < pkt.kind) ||
          (if put then decide (hl ≠ 1) else decide (hl ≠ 0) || decide (len ≠ 0)))))) ||
     (put && (decide (pkt.payBytes ≤ (len - 1) * 16) || decide (len * 16 < pkt.payBytes) || decide (len = 0) ||
       decide (pkt.msgLen < pkt.offset + pkt.payBytes)))))

/-- Return a packet's credits (R255). -/
def freeRx (s : State) (p : Nat) (pkt : Packet) : State :=
  let k := p * 16 + pkt.ch
  let f := tset 0 s.link.freedRx k ((tgetD s.link.freedRx k 0 + pktUnits pkt) % 65536)
  { s with link := { s.link with freedRx := f } }

/-- A Runnel packet leaves its buffer as it comes: DELTA, whose row carries what it says; a CTL message that no row
takes; and a key for the partner's Holhild (log entry 22). A serving controller is asked on DELTA for a line again
(Table 17-11). -/
def runnelSoak (s : State) (p : Nat) (pkt : Packet) : Option State :=
  let m := runRead pkt
  if m.ch = 3 then
    let s := freeRx s p pkt
    some (if mirroring s then mirrorLine s (leAt m.data 0 8 / 64) .atomic else s)
  else if m.ch = 4 ∧ (m.hi = 0 ∨ 7 < m.hi ∨ (m.hi = 4 ∧ leAt m.data 1 1 = 2)) then some (freeRx s p pkt)
  else none

/-- A packet has been received whole: refused, or queued for the command that takes it. -/
def acceptPacket (s : State) (p : Nat) (bs : Bytes) : State :=
  let pkt := parsePacket bs (decide (20 ≤ p))
  if packetRefused s p pkt then
    refusePacket (if (buffers s p).contains pkt.ch then freeRx s p pkt else s) p pkt
  else
    let s := count (count s (portPage p) 2 1) (portPage p) 3 bs.length
    match (if p < 20 then none else runnelSoak s p pkt) with
    | some s => s
    | none => receive s p pkt

/-- Slots that a packet takes, from its first header slot. -/
def packetSlots (h : Nat) : Nat := fld h 41 2 + 1 + fld h 32 9

/-- Run slots through the reassembly of packets: `n` slots, with what has come of a packet. -/
def absorbSlots (p : Nat) : Nat → Bytes → Bytes → State → State × Bytes
  | 0, _, part, s => (s, part)
  | n + 1, body, part, s =>
    let slot := body.take 16
    if part.isEmpty ∧ fld (leNat slot) 24 4 = 15 then absorbSlots p n (body.drop 16) [] s
    else
      let part := part ++ slot
      if packetSlots (leNat (part.take 16)) ≤ part.length / 16 then
        absorbSlots p n (body.drop 16) [] (acceptPacket s p part)
      else absorbSlots p n (body.drop 16) part s

/-- An ACK frees the flits it covers (R258, R260). A flit that was accepted at its first transmission ends a void span
(Table 5-2). -/
def linkAck (s : State) (p a : Nat) : State :=
  let x := lp s p
  if x.kept.any fun k => k.fseq = a then
    let n := (x.kept.takeWhile fun k => k.fseq ≠ a).length + 1
    let gone := x.kept.take n
    let left := x.kept.drop n
    let covers (q : Nat) : Bool := gone.any fun k => k.fseq = q
    let s := setLp s p { x with
      kept := left, ackAt := s.now,
      replays := if covers x.replaySeq then 0 else x.replays,
      replay := match x.replay with
        | some q => if covers q then left.head?.map Kept.fseq else some q
        | none => none }
    if gone.any fun k => !k.resent then { s with link := { s.link with overLimit := s.link.overLimit.erase p } } else s
  else s

/-- A credit count for one of the peer's buffers (R256). -/
def linkCredit (s : State) (p b c : Nat) : State :=
  if b = 15 then s
  else
    let k := p * 16 + b
    let freed := tgetD s.link.freedTx k 0
    if (c + 65536 - freed) % 65536 ≤ (tgetD s.link.sentTx k 0 + 65536 - freed) % 65536 then
      { s with link := { s.link with freedTx := tset 0 s.link.freedTx k c } }
    else errInc s (portPage p) 1

/-- The FEC's corrections are counted by physical lane within a window, and a lane that gathers LANE_THR.COUNT of them
has crossed its threshold (R245, R264). -/
def countLanes (s : State) (p : Nat) (places : List Nat) : State :=
  let r := ra (portPage p) 0x10C
  let w := lanesOf (linkWidth s p)
  let win := rf s r 16 16 * 1000
  places.foldl (fun s i =>
    let l := nth (lp s p).rxLanes (i / 2 % w) 8
    let old := tgetD (lp s p).corrections l (0, s.now)
    let new := if old.2 + win < s.now then (1, s.now) else (old.1 + 1, old.2)
    let full := decide (rf s r 0 16 ≤ new.1)
    let s := modLp s p fun x => { x with corrections := if full then tdel x.corrections l else tput x.corrections l new }
    if full then crossLane s p false l else s) s

/-- A flit that fails its CRC (R257, R264). -/
def flitBad (s : State) (p : Nat) : State :=
  askReplay (modLp s p fun x => { x with
    swapRx := x.swapRx.map fun e => (e.1, e.2.map fun _ => 0) }) p

/-- An IDLE flit on a new lane map: the 64th ends the swap at this end (Table 11-8). -/
def idleFlit (s : State) (p : Nat) : State :=
  match (lp s p).swapRx with
  | some (lane, some n) =>
    if 63 ≤ n then
      retryLanes (say (modLp s p fun x => { x with swapRx := none }) p { code := 6, a := lane }) p
    else modLp s p fun x => { x with swapRx := some (lane, some (n + 1)) }
  | _ => s

/-- A PAYLOAD flit that passes the CRC (R257). -/
def payloadFlit (s : State) (p fseq : Nat) (body : Bytes) : State :=
  let x := lp s p
  let d := (fseq + 0x40000 - x.expected) % 0x40000
  if d = 0 then
    let s := setLp s p { x with expected := (x.expected + 1) % 0x40000, reqOut := false, busyAt := s.now }
    let (s, part) := absorbSlots p 16 body x.part s
    modLp s p fun x => { x with part }
  else if 2 ^ 17 ≤ d then s
  else askReplay s p

/-- FLIT_RECEIVE (R247, R256, R257). -/
def execFlitReceive (port : Nat) (bytes : List Byte) (s : State) : Result :=
  if 22 ≤ port ∨ bytes.length ≠ 288 ∨ ¬ usable s port then .next s
  else
    let (r, places) := flitDecode bytes
    let s := countLanes (if linkState s port = 6 ∧ linkPower s port = 2 then exitPower s port else s) port places
    match r with
    | none => .next (flitBad s port)
    | some (h, body) =>
      let ty := fld h 36 2
      if ty = 3 then .next (flitBad s port)
      else
        let s := linkCredit (linkAck s port (fld h 18 18)) port (fld h 39 4) (fld h 43 16)
        match ty with
        | 0 => .next (idleFlit s port)
        | 1 => .next (payloadFlit s port (fld h 0 18) body)
        | _ =>
          let ms := ((rangeFrom 0 16).map fun k => slotMsg ((body.drop (16 * k)).take 16)).filter fun m =>
            m.code ≠ 0 && m.code ≤ 11
          .next (modLp s port fun x => { x with inbox := x.inbox ++ ms })

/-! ## Transmitting -/

/-- What a new body takes from the started units. -/
structure Fill where
  slots : List Slot := []
  first : Nat := 31
  pkts : List Packet := []
  tx : List WUnit
  sent : Nat
  ended : List WUnit := []

/-- Fill `n` slots from the started units, then with null slots (R248). `k` is the slot's number. -/
def fillBody : Nat → Nat → Fill → Fill
  | 0, _, f => f
  | n + 1, k, f =>
    match f.tx with
    | [] => fillBody n (k + 1) { f with slots := f.slots ++ [natLe 16 (15 * 0x1000000)] }
    | u :: us =>
      let slot := ((packetBytes u.pkt).drop (16 * f.sent)).take 16
      let f := { f with
        slots := f.slots ++ [slot],
        first := if f.sent = 0 ∧ f.first = 31 then k else f.first,
        pkts := if f.pkts.contains u.pkt then f.pkts else f.pkts ++ [u.pkt] }
      if f.sent + 1 < pktSlots u.pkt then fillBody n (k + 1) { f with sent := f.sent + 1 }
      else fillBody n (k + 1) { f with tx := us, sent := 0, ended := f.ended ++ [u] }

/-- A flit leaves with its header: ACK and one buffer's freed count, in rotation (Table 11-3, R255). -/
def sendFlit (s : State) (p ty fseq : Nat) (replay : Bool) (first : Nat) (body : Bytes) : State :=
  let x := lp s p
  let bs := buffers s p
  let b := x.rotation % bs.length
  let h := fseq + ((x.expected + 0x40000 - 1) % 0x40000) * 0x40000 + ty * 2 ^ 36 + (if replay then 2 ^ 38 else 0) +
    b * 2 ^ 39 + tgetD s.link.freedRx (p * 16 + b) 0 * 2 ^ 43 + first * 2 ^ 59
  put (setLp s p { x with rotation := b + 1 }) (.flit p (flitBytes h body))

/-- The transmit direction moves to the lane map of the swap: the reserve carries the logical lane. -/
def swapOver (s : State) (p lane : Nat) : State :=
  let x := lp s p
  setLanes s p (linkWidth s p) (setNth x.txLanes lane 8) x.rxLanes

/-- A grant has left: the port enters the state that it granted (R271). -/
def grantSent (s : State) (p : Nat) (ms : List LinkMsg) : State :=
  match (lp s p).granted with
  | some t =>
    if (ms.any fun m => m.code = 11 && m.a = t && m.b = 0) ∧ (t ≠ 1 ∨ linkWidth s p = 2) then enterPower s p t else s
  | none => s

/-- A CONTROL flit with up to 16 messages (R250, Table 11-8). -/
def sendControl (s : State) (p : Nat) : State :=
  let x := lp s p
  let mark := match x.swapTx with
    | some (lane, _ + 1) => [({ code := 5, a := lane } : LinkMsg)]
    | _ => []
  let ms := mark ++ x.ctl.take (16 - mark.length)
  let s := setLp s p { x with
    ctl := x.ctl.drop (16 - mark.length),
    swapTx := x.swapTx.map fun e => (e.1, e.2 - 1) }
  let s := sendFlit s p 2 0 false 31 (ms.flatMap msgSlot)
  let s := match x.swapTx with
    | some (lane, 1) => swapOver s p lane
    | _ => s
  grantSent s p ms

/-- Retransmit a kept flit (R258). -/
def sendReplay (s : State) (p : Nat) (k : Kept) : State :=
  let after := ((lp s p).kept.dropWhile fun y => y.fseq ≠ k.fseq).drop 1
  let s := modLp s p fun x => { x with
    replay := after.head?.map Kept.fseq
    kept := x.kept.map fun y => if y.fseq = k.fseq then { y with resent := true } else y }
  sendFlit (count s (portPage p) 7 1) p 1 k.fseq true k.firstHdr k.slots.flatten

/-- The port may keep one more flit: room on the port, or in the Spillway (R262, R263). -/
def keepRoom (s : State) (p : Nat) : Bool :=
  decide (onPort (lp s p) < 1536) ||
    (decide (p < 20) && rb s (replayReg p) 26 && decide (inSpill (lp s p) < 32768))

/-- Send a new PAYLOAD flit; when the port's buffer is full the oldest body spills (R262). -/
def sendPayload (s : State) (p : Nat) : State :=
  let x := lp s p
  let f := fillBody 16 0 { tx := tgetD s.link.tx p [], sent := x.sent }
  let kept := if onPort x < 1536 then x.kept
    else match x.kept.findIdx? fun k => !k.spilled with
      | some i => x.kept.mapIdx fun j k => if j = i then { k with spilled := true } else k
      | none => x.kept
  let s := setLp s p { x with
    kept := kept ++ [{ fseq := x.next, slots := f.slots, firstHdr := f.first, pkts := f.pkts }],
    next := (x.next + 1) % 0x40000, sent := f.sent, busyAt := s.now,
    ackAt := if x.kept.isEmpty then s.now else x.ackAt }
  let s := { s with link := { s.link with tx := tset [] s.link.tx p f.tx } }
  let s := f.ended.foldl (fun s u => unchargeBacklog s (portSched p) u.cls u.charge) s
  sendFlit s p 1 x.next false f.first f.slots.flatten

/-- FLIT_TRANSMIT (R251). In STANDBY and OFF the lanes are idle or off, and no flit leaves (Table 11-10). -/
def execFlitTransmit (port : Nat) (s : State) : Result :=
  let st := linkState s port
  if 22 ≤ port ∨ ¬ usable s port then .next s
  else if st = 6 ∧ linkBusy s port then .next (exitPower s port)
  else if st = 6 ∧ 2 ≤ linkPower s port then .next s
  else
    let x := lp s port
    let marks : Bool := match x.swapTx with
      | some (_, n) => decide (0 < n)
      | none => false
    if marks || !x.ctl.isEmpty then .next (sendControl s port)
    else
      let runs := decide (st = 2)
      match (if runs then x.replay.bind fun q => x.kept.find? fun k => k.fseq = q else none) with
      | some k => .next (sendReplay s port k)
      | none =>
        if runs && !(tgetD s.link.tx port []).isEmpty then
          (if keepRoom s port then .next (sendPayload s port)
           else .next (sendFlit (count s (portPage port) 9 1) port 0 0 false 31 []))
        else
          let us := (sched s (portSched port)).units
          let s := if runs && !us.isEmpty && us.all (fun u => !creditOk s port u.pkt) then count s (portPage port) 8 1
            else s
          .next (sendFlit s port 0 0 false 31 [])

/-! ## Training commands -/

/-- CREDIT_INIT (R253, R268): the peer's size of one buffer. -/
def execCreditInit (port buf size : Nat) (s : State) : Result :=
  onMsg s port (fun m => decide (m.code = 2) && decide (m.a = buf) && decide (m.b = size)) fun s =>
    let least := if port < 20 then (if buf < 4 then 2 else 65) else nth [65, 2, 1, 65, 5, 65] buf 0
    let k := port * 16 + buf
    let differs := match tget s.link.limitTx k with
      | some n => decide (n ≠ size)
      | none => false
    if decide (32767 < size) || decide (size < least) || differs || !(buffers s port).contains buf then
      modLp s port fun x => { x with bad := true }
    else
      let s := { s with link := { s.link with limitTx := tput s.link.limitTx k size } }
      modLp s port fun x => { x with inits := insNat buf x.inits }

/-- LINK_ID (R268, R269): two ends that report the same EID fail training. -/
def execLinkId (port eid width lanes : Nat) (s : State) : Result :=
  onMsg s port (fun m => decide (m.code = 3) && decide (m.a = eid) && decide (m.b = width) && decide (m.c = lanes))
    fun s =>
      let s := wf s (statReg port) 13 12 eid
      modLp s port fun x => { x with peer := some (eid, width, lanes), bad := x.bad || decide (eid = ownEid s) }

/-- A training attempt has succeeded: the widest width that both ends' lanes allow, the reserve in place of one
failed lane (R268). -/
def trained (s : State) (p : Nat) (tx rx : BitVec 9) : State :=
  let again := decide (linkState s p = 3)
  let (_, pw, pl) := (lp s p).peer.getD (0, 0, 9)
  let w := max (max (widthMax s p) pw) (max (widthFor pl) (max (widthFor (popc 9 tx.toNat)) (widthFor (popc 9 rx.toNat))))
  let lt := laneMap tx w
  let lr := laneMap rx w
  let fresh := (lt.contains 8 && !rb s (statReg p) 7) || (lr.contains 8 && !rb s (statReg p) 8)
  let s := setLinkState (setLanes (wf s (statReg p) 5 2 0) p w lt lr) p 2
  let s := if fresh then laneEvents s p ((lr.findIdx? fun l => l = 8).getD ((lt.findIdx? fun l => l = 8).getD 15)) else s
  let s := modLp s p fun x => { x with attempts := 0, lanesTx := tx, lanesRx := rx, awaiting := [] }
  if again then say (modLp s p fun x => { x with reqOut := true }) p { code := 1, a := (lp s p).expected } else s

/-- Every port in service is ACTIVE: a returning PRIMARY asks for the handover (R406). -/
def returnReady (s : State) : State :=
  if s.pair.returning ∧ pairState s = 1 ∧
      (rangeFrom 0 20).all fun p => !rb s (ctlReg p) 0 || decide (linkState s p = 2) || decide (linkState s p = 7) then
    sendRunnel s 0 (runCtl 5 [])
  else s

/-- RETRAIN_COMPLETE (R268, R270): a training attempt ends. -/
def execRetrainComplete (port : Nat) (txOk rxOk : BitVec 9) (exchangeOk : Bool) (s : State) : Result :=
  let st := linkState s port
  if 22 ≤ port ∨ (st ≠ 1 ∧ st ≠ 3) then .next s
  else
    let x := lp s port
    let s1 := if popc 9 txOk.toNat < 2 ∨ popc 9 rxOk.toNat < 2 then portFail s port
      else if exchangeOk && !x.bad && x.peer.isSome && (buffers s port).all x.inits.contains then
        trained s port txOk rxOk
      else if rf s (replayReg port) 24 2 ≤ x.attempts + 1 then portFail s port
      else startTraining (setLp s port { x with attempts := x.attempts + 1 }) port st
    .next (returnReady s1)

/-- RETRAIN_REQ (R268, R269): a request of this end's own that does not lead is aborted; one retrain runs. -/
def execRetrainReq (port attempt : Nat) (s : State) : Result :=
  onMsg s port (fun m => decide (m.code = 9) && decide (m.a = attempt)) fun s =>
    retrain (if leads s port then s else answered s port 9) port false

/-- FRAME_LOCK_LOSS (R268). -/
def execFrameLockLoss (port : Nat) (s : State) : Result :=
  guarded (decide (port < 22)) s fun s => retrain s port true

/-! ## Lane and width commands -/

/-- LANE_THRESHOLD_CROSSED (R264, R266). -/
def execLaneThresholdCrossed (port : Nat) (tx : Bool) (lane : Nat) (s : State) : Result :=
  guarded (decide (port < 22) && decide (lane < 9)) s fun s => crossLane s port tx lane

/-- SWAP_REQ (Table 11-8, R269): this end sends the direction whose lane is swapped. A repeated request is answered
again (R250). -/
def execSwapReq (port lane : Nat) (s : State) : Result :=
  onMsg s port (fun m => decide (m.code = 4) && decide (m.a = lane)) fun s =>
    let x := lp s port
    let mine : Bool := match x.swapRx with
      | some (_, none) => true
      | _ => false
    if linkState s port = 5 ∧ (x.swapTx.map Prod.fst) = some lane then
      setLp s port { x with swapTx := some (lane, 4) }
    else if linkState s port ≠ 2 ∨ x.swapTx.isSome ∨ ¬ reserveFree x true ∨ 8 ≤ lane ∨ (mine ∧ leads s port) then s
    else
      let s := if mine then
          answered (modLp s port fun x => { x with
            swapRx := none,
            waiting := x.waiting ++ (x.swapRx.map fun e => (false, nth x.rxLanes e.1 8)).toList,
            crossed := x.swapRx.elim x.crossed fun e => x.crossed &&& ~~~ laneSet [nth x.rxLanes e.1 8] }) port 4
        else s
      setLinkState (modLp (voidPort s port) port fun x => { x with swapTx := some (lane, 4) }) port 5

/-- SWAP_MARK (Table 11-8): this end maps the logical lane to its reserve. -/
def execSwapMark (port lane : Nat) (s : State) : Result :=
  onMsg s port (fun m => decide (m.code = 5) && decide (m.a = lane)) fun s =>
    match (lp s port).swapRx with
    | some (l, none) =>
      if l ≠ lane then s
      else
        let s := modLp (answered s port 4) port fun x => { x with swapRx := some (lane, some 0) }
        laneEvents (setLanes s port (linkWidth s port) (lp s port).txLanes (setNth (lp s port).rxLanes lane 8)) port lane
    | _ => s

/-- SWAP_DONE (Table 11-8): PAYLOAD flits resume. -/
def execSwapDone (port lane : Nat) (s : State) : Result :=
  onMsg s port (fun m => decide (m.code = 6) && decide (m.a = lane)) fun s =>
    match (lp s port).swapTx with
    | some (l, n) =>
      if l ≠ lane ∨ 0 < n then s
      else
        let s := setLinkState (modLp s port fun x => { x with swapTx := none }) port 2
        retryLanes (laneEvents s port lane) port
    | none => s

/-- SWAP_TIMEOUT (R265). -/
def execSwapTimeout (port : Nat) (s : State) : Result :=
  guarded (lp s port).swapTx.isSome s fun s => retrain s port true

/-- WIDTH_REQ (R267, R269): this end follows, unless it leads a request of its own or the port retrains. It also follows
out of NARROW, and into a NARROW that it has granted (Table 11-10). -/
def execWidthReq (port width : Nat) (s : State) : Result :=
  let set := askedSet s port width
  onMsg s port (fun m => decide (m.code = 7) && decide (m.a = width)) fun s =>
    let st := linkState s port
    let own := (lp s port).widthTo.isSome
    let narrow := decide (st = 6) && decide (linkPower s port = 1)
    if (st ≠ 2 ∧ st ≠ 4 ∧ ¬ narrow) ∨ 2 < width ∨ (own ∧ leads s port) then s
    else
      let s := if own then answered s port 7 else s
      widthDone (say (voidPort s port) port { code := 8, a := width }) port width set

/-- WIDTH_ACK (R246, R267). -/
def execWidthAck (port width : Nat) (s : State) : Result :=
  onMsg s port (fun m => decide (m.code = 8) && decide (m.a = width)) fun s =>
    if (lp s port).widthTo = some width ∧ linkState s port = 4 then
      let set := (((lp s port).awaiting.find? fun m => m.code = 7).map LinkMsg.b).getD 0
      widthDone (answered s port 7) port width (BitVec.ofNat 9 set)
    else s

/-! ## Power commands -/

/-- PWR_REQ (R271, R269). PWR_ACK and PWR_NAK share their code; the second operand tells them apart. A granted state is
entered as the grant leaves, NARROW with the width change that follows; a repeated request is answered again. -/
def execPwrReq (port target : Nat) (s : State) : Result :=
  onMsg s port (fun m => decide (m.code = 10) && decide (m.a = target)) fun s =>
    let own := (lp s port).pwrTo.isSome
    let grant (s : State) : State := say s port { code := 11, a := target }
    if (lp s port).granted = some target ∨ (linkState s port = 6 ∧ linkPower s port = target) then grant s
    else if linkState s port ≠ 2 ∨ (own ∧ leads s port) then s
    else
      let s := if own then answered (modLp s port fun x => { x with pwrTo := none }) port 10 else s
      if linkBusy s port ∨ 20 ≤ port ∨ target = 0 ∨ 3 < target then say s port { code := 11, a := target, b := 1 }
      else grant (modLp s port fun x => { x with granted := some target })

/-- PWR_ACK (R271). -/
def execPwrAck (port target : Nat) (s : State) : Result :=
  onMsg s port (fun m => decide (m.code = 11) && decide (m.a = target) && decide (m.b = 0)) fun s =>
    if (lp s port).pwrTo = some target then
      let s := answered s port 10
      if target = 1 then narrowDown s port else enterPower s port target
    else s

/-- PWR_NAK (R271): the port stays ACTIVE. -/
def execPwrNak (port target : Nat) (s : State) : Result :=
  onMsg s port (fun m => decide (m.code = 11) && decide (m.a = target) && decide (m.b = 1)) fun s =>
    if (lp s port).pwrTo = some target then
      answered (modLp s port fun x => { x with pwrTo := none }) port 10
    else s

/-! ## LINK_CTL -/

/-- A write of EN takes effect (R382). -/
def enWritable (s : State) (p : Nat) (en : Bool) : Bool :=
  decide (20 ≤ p) || decide (pairState s = 4) ||
    (portsServe s && (if en then (lp s p).recovering else decide (linkState s p = 7)))

/-- A write of LINK_CTL: every field by its access code, then what the change starts (R267, R268, R271, R274). -/
def linkCtlWrite (s : State) (p v : Nat) : State :=
  let a := ctlReg p
  let old := rd s a
  let fs := [fRW 1 2 0 0 2, fRW 4 2 0 0 (if p < 20 then 3 else 0), fRW 10 1] ++
    (if bitN old 0 then [] else [fRW 6 4 8 2 8])
  let s := wr s a (writeFields false old v fs)
  let en := bitN v 0
  let s :=
    if en = bitN old 0 ∨ ¬ enWritable s p en then s
    else if en then portUp s p
    else
      let failed := decide (linkState s p = 7) && decide (pairState s ≠ 4)
      modLp (portDown (wb s a 0 false) p 0) p fun x => { x with recovering := failed }
  let s := if fld old 1 2 ≠ widthMax s p then startWidth s p (bestWidth s p) else s
  let s := if fld old 4 2 ≠ rf s a 4 2 then requestPower s p (rf s a 4 2) else s
  if bitN v 3 then retrain s p true else s

/-- LINK_ENABLE_WRITE (R274, R382). -/
def execLinkEnableWrite (_id port : Nat) (value : W32) (s : State) : Result :=
  guarded (decide (port < 22)) s fun s => linkCtlWrite s port value.toNat

/-- WIDTH_MAX_WRITE (R267, R274). -/
def execWidthMaxWrite (_id port : Nat) (value : W32) (s : State) : Result :=
  guarded (decide (port < 22)) s fun s => linkCtlWrite s port value.toNat

/-- LINK_RETRAIN_WRITE (R268, R274). -/
def execLinkRetrainWrite (_id port : Nat) (value : W32) (s : State) : Result :=
  guarded (decide (port < 22)) s fun s => linkCtlWrite s port value.toNat

/-- PWR_TARGET_WRITE (R271, R274). -/
def execPwrTargetWrite (_id port : Nat) (value : W32) (s : State) : Result :=
  guarded (decide (port < 22)) s fun s => linkCtlWrite s port value.toNat

end Sys2Proof.Machine
end

