-- ==== Sys2Proof/Machine/Pair.lean ====
section
/-!
DEFINITION. The redundant pair (chapter 17): pair states (R381 to R385), the Runnel's mirror messages (R389), ticks
(R391, R392), heartbeats (R393, R394), takeover (R395 to R398), self-test and health (R399 to R402),
resynchronisation, return and handover (R403 to R407).
-/
namespace Sys2Proof.Machine

def pairStat : Nat := ra pgPAIR 0x108
def pairCmd : Nat := ra pgPAIR 0x110
def partnerState (s : State) : Nat := rf s pairStat 3 3
def pathBit (pathB : Bool) : Nat := if pathB then 7 else 6
def pathGood (s : State) (pathB : Bool) : Bool := rb s pairStat (pathBit pathB)
def secondary (s : State) : Bool := rb s (ra pgPAIR 0x100) 0
def modPair (s : State) (f : PairSt → PairSt) : State := { s with pair := f s.pair }
def cleanReports (s : State) : Nat := rf s pairStat 16 16
def setClean (s : State) (n : Nat) : State := wf s pairStat 16 16 (min n 65535)

/-! ## State changes (R382, R383) -/

/-- The pair state changes: an INFO event, an ERROR event into FENCED, and the fabric ports as Table 17-1 gives. -/
def setPair (s : State) (st : Nat) : State :=
  if pairState s = st then s
  else
    let s := wf s pairStat 0 3 st
    let s := eventAt s pgPAIR (if st = 3 then sevError else sevInfo) clPair st
    let s := modPair s fun p => { p with
      beats := (p.beats || decide (st = 0) || decide (st = 4)) && decide (st ≠ 2), recognised := false, sync := none }
    if st = 3 ∨ st = 4 then dropRunnel s else s

/-- The ports follow the pair state. -/
def portsFollow (s : State) : State := servicePorts s (portsServe s)

/-! ## MACK (R389) -/

/-- What one acknowledged happening lets go on. -/
def mackTake (s : State) (dir : Bool) (who : MackFor) : State :=
  match who with
  | .tran line =>
    (match tranOf s line with
     | none => s
     | some t =>
       let t := if dir then { t with macks := t.macks - 1 } else t
       if t.macks = 0 && !(s.pair.macks.any fun m => m.2.2 = .tran line) then
         match t.resp with
         | some p => settle (setTran (respond s t.req p.code p.data p.pcode) line { t with done := true, resp := none }) line
         | none => setTran s line t
       else setTran s line t)
  | .msg e => msgTry s e
  | .demote q => demoteCommit s q
  | .dealloc f => if s.pair.macks.any fun m => m.2.2 = .dealloc f then s else freeCis s f
  | .tile .. | .take _ | .atomic => s

/-- MACK (R389): what waits for it goes on, except at a controller that has recognised failure (R396). -/
def execMack (tag : Nat) (dir : Bool) (s : State) : Result :=
  onRunnel s (runMack tag dir) fun s =>
    match s.pair.macks.find? fun m => decide (m.1 = tag) && m.2.1 == dir with
    | none => s
    | some m =>
      if s.pair.recognised then s
      else
        let s := modPair s fun p => { p with
          macks := p.macks.erase m, unacked := p.unacked.filter fun u => u.2.tag ≠ tag }
        mackTake s dir m.2.2

/-- In SOLO nothing waits for a partner: what waited goes on. -/
def releaseMacks (s : State) : State :=
  let ms := s.pair.macks
  let s := modPair s fun p => { p with macks := [], unacked := [] }
  ms.foldl (fun s m => mackTake s m.2.1 m.2.2) s

/-- The happenings that still wait for MACK are discarded without a response (R396). -/
def discardMacks (s : State) : State :=
  let trans := tfilter s.dir.trans fun _ t => t.resp.isNone
  let s := { s with dir := { s.dir with trans := trans } }
  modPair s fun p => { p with macks := [], unacked := [] }

/-! ## Mirror messages at the standby -/

/-- This controller receives mirror messages: STANDBY or SYNCING. -/
def receives (s : State) : Bool := decide (pairState s = 1) || decide (pairState s = 2)

/-- Give a mirrored sub-page a frame of this controller's own (R390); a staged one starts as a copy of the current one
(R46). -/
def ownFrame (s : State) (q : Nat) : Option State :=
  let r := subRec s q
  if r.state = 1 ∨ r.state = 2 then some s
  else
    let grain := ((regionOfSub s q).map fun e => e.2.grain).getD 3
    (takeFrame s grain q).map fun x =>
      let s := if r.state ≠ 0 then x.2 else if q < 2 ^ 36 then zeroSub x.2 q else copySub x.2 (subBase q) q
      setSub s q { state := 1, frame := x.1 }

/-- Apply a mirror write and acknowledge it: none where no frame is free. -/
def applyMirror (s : State) (w : MirrorWrite) : Option State :=
  ((subsOf w.pa w.data.length).foldl (fun (acc : Option State) q => acc.bind fun s => ownFrame s q) (some s)).map fun s =>
    let s := match w.mask with
      | some m => writeLine s (w.pa / 64) (fitBytes 64 w.data) m.toNat w.pcode
      | none => writeRun s w.pa w.data w.pcode
    sendRunnel s 0 (runMack w.tag w.dir)

/-- Mirror staging holds a write of a sub-page: later ones of it queue behind it. -/
def stagedOn (s : State) (w : MirrorWrite) : Bool := s.pair.staged.any fun x => x.pa / 65536 = w.pa / 65536

/-- Apply a mirror write, or let it wait in mirror staging, 64 MiB (Table 6-2): none where that is full. -/
def takeMirror (s : State) (w : MirrorWrite) : Option State :=
  match (if stagedOn s w then none else applyMirror s w) with
  | some s => some s
  | none =>
    if (s.pair.staged.map fun x => x.data.length).sum + w.data.length ≤ 67108864 then
      some (modPair s fun p => { p with staged := p.staged ++ [w] })
    else none

/-- What mirror staging holds is applied, oldest first, as far as frames are free (R389). -/
def drainStaged : List MirrorWrite → State → State
  | [], s => s
  | w :: ws, s =>
    match applyMirror s w with
    | some s => drainStaged ws (modPair s fun p => { p with staged := ws })
    | none => s

/-- MWR (R389): the write is applied, then acknowledged. With mirror staging full it stays in its buffer, and its credit
is withheld. -/
def execMwr (tag pa : Nat) (data : Bytes) (mask : Option (BitVec 64)) (poison : Option Nat) (s : State) : Result :=
  let pcode := (poison.map storedCode).getD 0
  guarded (receives s) s fun s =>
    match (takeRunnel s (runMwr tag pa mask pcode data)).bind fun s => takeMirror s ⟨tag, false, pa, data, mask, pcode⟩ with
    | some s => s
    | none => s

/-- An agent's fence state comes from the partner (R93, R95). -/
def fenceMirrored (s : State) (i : Nat) (timedOut : Bool) : State :=
  setAgent s i { agent s i with fenced := true, timedOut, sweepDone := false, answers := !timedOut }

/-- The partner has taken an entry of a queue: its HEAD, and the operation with what is known of it (Table 17-5). -/
def takenMirrored (s : State) (q head op h : Nat) : State :=
  let size := sqSize s q
  let entry := bytesAt s (sqBase s q + (head + size - 1) % size * 64) 64
  let o : Op := {
    queue := q, dom := qDomain s q, owner := qOwner s q, tag := leAt entry 4 4, opcode := op,
    notify := (leAt entry 1 1).testBit 0, entry := entry, slot := !isControlOp op, reserved := true, cq := cqNum s q }
  wf { s with cmd := { s.cmd with ops := tput s.cmd.ops h o, lastHandle := h } } (ra (qPage q) 0x110) 0 16 head

/-- A line's directory entry comes from the partner (Table 17-4). -/
def dirMirrored (s : State) (c : DirChange) : State :=
  let old := (dirOf s c.line).getD { state := 0, way := (freeWay s c.line).getD 0 }
  if c.state = 0 then dropDir s c.line
  else setDir s c.line { old with
    state := c.state, owner := c.owner, sharers := c.sharers.getD old.sharers, opened := false,
    mirror := lineMirrored s c.line }

/-- The packet of a change of Table 17-5. -/
def changeMsg (tag : Nat) : MirrorChange → RunMsg
  | .line c => runMdir tag c.line c.state c.owner c.sharers c.data
  | .fence i t => runChange tag 1 [i, if t then 1 else 0]
  | .taken q h op hd => runChange tag 2 [q, h, op, hd]
  | .cistern q (some f) => runChange tag 3 [q, f]
  | .cistern q none => runChange tag 4 [q]

/-- MDIR (R389): the change is applied, with the line's data where it travels, then acknowledged. -/
def execMdir (tag : Nat) (change : MirrorChange) (s : State) : Result :=
  guarded (receives s) s fun s0 =>
    match takeRunnel s0 (changeMsg tag change) with
    | none => s0
    | some s =>
      let done (s : State) : State := sendRunnel s 0 (runMack tag true)
      match change with
      | .line c =>
        (match c.data with
         | none => done (dirMirrored s c)
         | some (d, p) => (takeMirror (dirMirrored s c) ⟨tag, true, c.line * 64, fitBytes 64 d, none, p⟩).getD s0)
      | .fence i t => done (fenceMirrored s i t)
      | .taken q h op hd => done (takenMirrored s q h op hd)
      | .cistern q (some f) => done (setSub (releaseRec (dropMerges s q) (subRec s q)) q { state := 3, frame := f })
      | .cistern _ none => done s

/-! ## Ticks (R391, R392) -/

/-- TICK_CLOSE (R391). -/
def execTickClose (s : State) : Result :=
  guarded (mirroring s) s fun s =>
    let t := s.pair.tick + 1
    sendRunnel (modPair s fun p => { p with tick := t }) 0 (runDelta t 0 [])

/-- TICK_ACK (R392). -/
def execTickAck (tick : Nat) (s : State) : Result :=
  onRunnel s (runCtl 2 (natLe 4 tick)) fun s =>
    if serving s ∧ rd s (ra pgPAIR 0x10C) < tick ∧ tick ≤ s.pair.tick then wr s (ra pgPAIR 0x10C) tick else s

/-- A sub-page has data in a region that is not mirrored, or in none. -/
def unmirrored (rs : Tbl Region) (q : Nat) : Bool :=
  !(rs.any fun e => e.2.mirrored && decide (e.2.base ≤ pageOfSub q) && decide (pageOfSub q < e.2.base + e.2.size))

/-- Install the slower state of Table 17-6. Frames of mirrored sub-pages in DRAM, and what they hold, are this controller's own
(R390); dealt tiles return to their operations' frontiers. -/
def installSlow (s : State) (x : Slow) : State :=
  let rs := x.alloc.regions
  let theirs := tfilter x.tier.subs fun q r => !unmirrored rs q && decide (r.state = 3)
  let mine := tfilter s.tier.subs fun q r => !unmirrored rs q && (decide (r.state = 1) || decide (r.state = 2)) &&
    (tget theirs q).isNone && (tget x.tier.subs q).isSome
  let held := (tfilter x.tier.subs fun q r => unmirrored rs q && decide (r.state ≠ 0)).map Prod.fst
  let tier := { x.tier with
    subs := mergeTbl theirs mine, moves := [], releases := [], fills := [], dramFrames := s.tier.dramFrames,
    dramUsed := s.tier.dramUsed, grains := s.tier.grains, cacheUsed := s.tier.cacheUsed, drvFrames := s.tier.drvFrames,
    preempt := s.tier.preempt, waking := s.tier.waking, drvIdle := s.tier.drvIdle, perst := s.tier.perst, lehrOn := false }
  let new := x.fault.ring.filter fun e => tget s.pair.ring e.1 ≠ some e.2
  let scheds := tmap x.weir.scheds fun _ c => { c with units := [] }
  let s := { s with
    alloc := { x.alloc with store := s.alloc.store, storePoison := s.alloc.storePoison }, xlt := { s.xlt with ctxs := x.ctxs },
    weir := { x.weir with scheds := scheds, backlog := s.weir.backlog, cxlHeld := s.weir.cxlHeld },
    tier := tier, cmd := { x.cmd with tiles := [], deal := [], sent := [], reading := [] },
    route := { x.route with msgs := s.route.msgs, held := s.route.held },
    dir := { s.dir with agents := x.agents }, sec := { s.sec with keys := mergeTbl s.sec.keys x.keys },
    regs := mergeTbl (tfilter s.regs fun a _ => !slowPage (a / 4096)) x.regs,
    pair := { s.pair with held := held, ring := x.fault.ring } }
  let s := (x.cmd.tiles.map fun t => (t.op, t.num)).foldl (fun s t => giveBack s t.1 [t.2]) s
  new.foldl (fun s e => putRecord s e.2) s
where
  /-- pages whose registers the delta carries. -/
  slowPage (p : Nat) : Bool := decide (p = pgWEIR) || decide (p = pgXLT) || (decide (0x100 ≤ p) && decide (p ≤ 0x1FF))

/-- DELTA (R391, R404). -/
def execDelta (tick : Nat) (change : TickDelta) (s : State) : Result :=
  guarded (receives s) s fun s =>
    match change with
    | .part => s
    | .copy q d poison =>
      (match ownFrame s q with
       | none => s
       | some s =>
         let s := setBytes (zeroSub s q) (q * 65536) (fitBytes 65536 d)
         poison.foldl (fun s p => setPoison s p.1 p.2) s)
    | .dir es => { s with dir := { s.dir with entries := es } }
    | .whole x =>
      if tick ≤ rd s (ra pgPAIR 0x10C) ∧ pairState s = 1 then s
      else sendRunnel (wr (installSlow s x) (ra pgPAIR 0x10C) tick) 0 (runCtl 2 (natLe 4 tick))

/-! ## Takeover (R395) -/

/-- Lose one sub-page: no frame, every line poisoned PAIR_LOST (Table 17-8, 3). -/
def pairLose (s : State) (q : Nat) : State :=
  poisonSub (setSub (zeroSub (releaseRec (dropMerges s q) (subRec s q)) q) q {}) q 6

/-- Regions that are not mirrored lose their data and the copies that holders have (Table 17-8, 3 and 4). -/
def loseUnmirrored (s : State) : State :=
  let s := s.pair.held.foldl pairLose s
  let lost (l : Nat) : Bool := !lineMirrored s l
  let lines := (s.dir.entries.filter fun e => lost e.1).map Prod.fst
  let s := recallLines s lost true
  modPair (lines.foldl (fun s l => setPoison s l 6) s) fun p => { p with held := [] }

/-- End every operation taken and not ended (Table 17-8, 2): INTERNAL with RESULT3 from the last tick; what a command
had begun has had no effect. An arrival-driven operation ends too while it is suspended (R226). -/
def endAllOps (s : State) : State :=
  let hs := tkeys s.cmd.ops fun _ o => decide (o.phase ≠ .ended) && (decide (o.phase ≠ .suspended) || o.arrival.isSome)
  let s := hs.foldl (fun s h =>
    let n := ((opOf s h).map fun o => o.committed).getD 0
    endWith (modOp (leaveQueue s h) h fun o => { o with redo := [] }) h stInternal [0, 0, 0, n]) s
  let rs := tmap s.alloc.regions fun _ r => { r with
    freeing := false, freedBy := 0, shrinking := 0, shrinkTo := 0, changing := 0, force := false }
  { s with alloc := { s.alloc with regions := rs }, xlt := { s.xlt with invals := [] }, cmd := { s.cmd with tiles := [] } }

/-- What takeover and self-fencing leave of the pair's own state. -/
def pairAlone (s : State) : State :=
  modPair s fun p => { p with
    macks := [], unacked := [], staged := [], pause := false, finalTick := false, returning := false }

/-- A STANDBY controller takes over (R395, Table 17-8); a key still PENDING is EMPTY (R417), and every bound in flight is
void (R102). -/
def takeover (s : State) : State :=
  let s := setPair { s with sec := { s.sec with keys := tfilter s.sec.keys fun _ k => decide (k.state = 2) } } 4
  let s := modPair (pairAlone (voidAll s)) fun p => { p with audit := true, took := true }
  let s := loseUnmirrored (endAllOps (preemptDrives s))
  let s := event s { source := pgPAIR, sev := sevError, cls := clPair, detail := rd s (ra pgPAIR 0x10C) }
  portsFollow s

/-- A serving controller fences (R396, R409). -/
def fenceSelf (s : State) : State :=
  modPair (pairAlone (discardMacks (setPair (voidAll s) 3))) fun p => { p with fencedSelf := true }

/-- Keys that wait for the partner become ARMED: the partner is STANDBY no longer (R417). -/
def armKeys (s : State) : State :=
  wb { s with sec := { s.sec with keys := tmap s.sec.keys fun _ k => { k with state := 2 } } } (ra pgSEC 0x118) 3 false

/-- A controller becomes SOLO other than by takeover: it acquires what it does not hold of the drives (Table 17-2). -/
def goSolo (s : State) : State :=
  let s := armKeys s
  let s := acquireDrives s ((upDrives s).filter fun d => !rb s (ra pgCIS (0x140 + 4 * d)) 3)
  portsFollow (modPair (releaseMacks (setPair s 4)) fun p => { p with
    pause := false, finalTick := false, fencedSelf := false, booting := false })

/-! ## Heartbeats (R393, R394) -/

/-- The 64-bit frame of a heartbeat or answer (Table 17-7). -/
def beatFrame (seq state role : Nat) (clean : Bool) (tick : Nat) : Nat :=
  let v := seq % 65536 + state * 65536 + role * 524288 + (if clean then 1048576 else 0) + tick % 2 ^ 27 * 2 ^ 21
  v + crc8 (natLe 7 v) * 2 ^ 56

/-- The frame that this controller sends with a SEQ. -/
def ownBeat (s : State) (seq : Nat) : Nat :=
  beatFrame seq (pairState s) (if secondary s then 1 else 0) (rb s (ra pgPAIR 0x118) 0)
    (if serving s then s.pair.tick else rd s (ra pgPAIR 0x10C))

/-- A heartbeat as a CTL packet on one mirror port, where that port is in use. -/
def beatPacket (s : State) (p frame : Nat) : State := if usable s p then runAt s p (runCtl 1 (natLe 8 frame)) else s

/-- The CTL packet of a heartbeat that a row names, whatever its CRC. -/
def takeBeat (s : State) (hb : Heartbeat) : Option (Nat × State) :=
  let f := beatFrame hb.seq hb.state hb.role hb.clean hb.tick
  let is (x : RxPkt) : Bool :=
    let m := runRead x.pkt
    let g := leAt m.data 0 8
    decide (m.ch = 4) && decide (m.hi = 1) && decide (g % 2 ^ 48 = f % 2 ^ 48) &&
      (hb.crcOk == decide (crc8 (natLe 7 g) = g / 2 ^ 56))
  [20, 21].findSome? fun p => ((tgetD s.link.rx p []).find? is).bind fun x => (popRx s p x.pkt).map fun s => (p, s)

/-- HEARTBEAT_SEND (R393): the serving controller, and one that has fenced itself (R409). -/
def execHeartbeatSend (s : State) : Result :=
  guarded (decide (s.pwr.held = 0) && (serving s || (decide (pairState s = 3) && s.pair.beats))) s fun s =>
    let n := (s.pair.seq + 1) % 65536
    let s := modPair s fun p => { p with seq := n }
    put (beatPacket (beatPacket s 20 (ownBeat s n)) 21 (ownBeat s n)) (.heartbeat (ownBeat s n))

/-- The pair decision has been taken: the last row of Table 20-4, or step 8 of Table 20-5. The ports stand as the state
has them; ADMIT_EN and Memory_Active are set. -/
def finishStart (s : State) : State :=
  let s := modPair s fun p => { p with booting := false }
  { (wb (wf s (ra pgRST 0x108) 0 4 15) (ra pgWEIR 0x180) 0 true) with cxl := { s.cxl with memActive := true } }

/-- Sub-pages of mirrored regions that hold a frame in DRAM (R404). -/
def mirroredSubs (s : State) : List Nat :=
  tkeys s.tier.subs fun q r => (decide (r.state = 1) || decide (r.state = 2)) && lineMirrored s (q * 1024)

/-- The mailbox channel between the two Holhilds (R417), the lowest that is bound so. -/
def keyChannel (s : State) : Nat :=
  ((rangeFrom 0 64).find? fun m => (mbxBind s m).valid && decide ((mbxBind s m).sender = 2) &&
    decide ((mbxBind s m).receiver = 4)).getD 0

/-- Send a key slot to the partner's Holhild, wrapped, or its zeroisation (R417; log entry 22). -/
def sendKey (s : State) (d : Nat) (k : Option (BitVec 512)) : State :=
  sendRunnel s 0 (runMailbox (keyChannel s) 2 (natLe 2 d ++ match k with
    | some k => fitBytes 72 (Config.wrap d k)
    | none => []))

/-- The partner begins to resynchronise: the copy of every mirrored sub-page in DRAM begins, and every ARMED key goes
across (R404, R417). -/
def beginSync (s : State) : State :=
  let qs := mirroredSubs s
  let s := wr (modPair s fun p => { p with sync := some qs }) (ra pgPAIR 0x114) (ceilDiv qs.length 16)
  s.sec.keys.foldl (fun s e => if e.2.state = 2 then sendKey s e.1 (some e.2.key) else s) s

/-- Copy the next sub-page (R404). -/
def syncStep (s : State) : State :=
  match s.pair.sync with
  | some (q :: qs) => wr (modPair (deltaSub s q) fun p => { p with sync := some qs }) (ra pgPAIR 0x114) (ceilDiv qs.length 16)
  | _ => s

/-- The partner's state is recorded, and the state changes that it brings take place (Table 17-2). -/
def partnerSeen (s : State) (st : Nat) : State :=
  let s := wf s pairStat 3 3 st
  let s := if pairState s = 3 ∧ (st = 0 ∨ st = 4) then drivesTaken s else s
  match pairState s, st with
  | 1, 3 => takeover s
  | 0, 3 => goSolo s
  | 2, 4 => s
  | 2, _ => portsFollow (setPair s 3)
  | 3, 4 =>
    (match s.pair.since with
     | some t => if 10000000 ≤ s.now - t then
         let s' := modPair (setPair s 2) fun p => { p with fencedSelf := false }
         if s.pair.booting then finishStart s' else s'
       else s
     | none => s)
  | 4, 2 => if s.pair.sync.isNone then beginSync s else s
  | 4, _ => if s.pair.sync.isSome then wr (modPair s fun p => { p with sync := none }) (ra pgPAIR 0x114) 0 else s
  | _, _ => s

/-- A good or a bad heartbeat, or answer, on a path: 3 good ones in a row make it good again (R394). -/
def beat (s : State) (hb : Heartbeat) : State :=
  if !hb.crcOk then
    modPair s fun p => if hb.pathB then { p with goodB := 0 } else { p with goodA := 0 }
  else
    let n := min 3 ((if hb.pathB then s.pair.goodB else s.pair.goodA) + 1)
    let s := modPair s fun p => if hb.pathB then { p with goodB := n } else { p with goodA := n }
    let s := if n = 3 then wb s pairStat (pathBit hb.pathB) true else s
    let s := modPair s fun p => { p with
      since := if pathGood s false && pathGood s true then (match p.since with
        | some t => some t
        | none => some s.now) else none }
    partnerSeen s hb.state

/-- A heartbeat or an answer: on path A its CTL packet is taken, and answered on its port where it asks for it; on path B
it is the frame on HB_RX. -/
def onBeat (hb : Heartbeat) (answer : Bool) (s : State) : Result :=
  let reply (s : State) (f : State → State) : State := if answer && hb.crcOk then f s else s
  guarded (decide (s.pwr.held = 0)) s fun s =>
    if hb.pathB then reply (beat s hb) fun s => put s (.heartbeat (ownBeat s hb.seq))
    else
      match takeBeat s hb with
      | none => s
      | some (p, s) => reply (beat s hb) fun s => beatPacket s p (ownBeat s hb.seq)

/-- HEARTBEAT (R393, R394): recorded, and answered at once on its path. -/
def execHeartbeat (hb : Heartbeat) (s : State) : Result := onBeat hb true s

/-- HEARTBEAT_ANSWER (R394): an answer to the last heartbeat sent or an earlier one. -/
def execHeartbeatAnswer (hb : Heartbeat) (s : State) : Result := onBeat hb false s

/-- HEARTBEAT_PATH_LOSS (R394, R395, R396, R401, R407). -/
def execHeartbeatPathLoss (pathB : Bool) (s : State) : Result :=
  guarded (pathGood s pathB) s fun s =>
    let s := wb s pairStat (pathBit pathB) false
    let s := modPair s fun p => if pathB then { p with goodB := 0, since := none } else { p with goodA := 0, since := none }
    let s := setClean s 0
    if heartbeatGood s then eventAt s pgPAIR sevWarn clPair (if pathB then 1 else 0)
    else
      let s := wb (wf s pairStat 3 3 7) pairStat 8 false
      let s := modPair s fun p => { p with pause := false, finalTick := false }
      match pairState s with
      | 1 => takeover s
      | 2 => portsFollow (setPair s 3)
      | 0 | 4 => modPair s fun p => { p with recognised := true }
      | _ => s

/-- SELF_FENCE (R396). -/
def execSelfFence (s : State) : Result := guarded (serving s && s.pair.recognised) s fenceSelf

/-- FENCED_PORTS_OUT (R396). -/
def execFencedPortsOut (s : State) : Result := guarded (decide (pairState s = 3)) s fun s => servicePorts s false

/-- SOLO_WAIT_EXPIRY (R397): every ACTIVE drive is asked for its report; `held` names those whose reservation this
controller still holds. The others are PREEMPTED, and it stays FENCED. -/
def execSoloWaitExpiry (held : List Nat) (s : State) : Result :=
  guarded (decide (pairState s = 3) && s.pair.fencedSelf && !heartbeatGood s && !(activeDrives s).isEmpty) s fun s =>
    let s := askReports s
    if (activeDrives s).all held.contains then goSolo s
    else drvGauges (((activeDrives s).filter fun d => !held.contains d).foldl driveTaken s)

/-- RUNNEL_LOSS_TIMEOUT (R383): the active becomes SOLO and its partner FENCED. -/
def execRunnelLossTimeout (s : State) : Result :=
  guarded (!usable s 20 && !usable s 21 && pathGood s true) s fun s =>
    match pairState s with
    | 0 => goSolo s
    | 1 => portsFollow (setPair s 3)
    | _ => s

/-- BOOT_WAIT_EXPIRY (R383, Table 17-2). -/
def execBootWaitExpiry (acquired : Bool) (s : State) : Result :=
  guarded (s.pair.booting && decide (pairState s = 3) && !heartbeatGood s && decide (partnerState s = 7)) s fun s =>
    let solo := if (activeDrives s).isEmpty then !secondary s else acquired
    if solo then finishStart (goSolo s) else finishStart (eventAt s pgPAIR sevError clPair 3)

/-- FRAME_AUDIT_DONE (R395): Cistern frames that the map assigns to no mirrored sub-page are free. -/
def execFrameAuditDone (s : State) : Result :=
  guarded s.pair.audit s fun s =>
    let used := (s.tier.subs.filter fun e => e.2.state = 3).map fun e => e.2.frame
    let s := modPair s fun p => { p with audit := false }
    let s := { s with tier := { s.tier with cisUsed := s.tier.cisUsed.filter used.contains } }
    wr s (ra pgTIER 0x118) (cisFree s)

/-! ## Relays (R403) -/

/-- RELAY (R403): the serving partner takes it as if it had come to its own port; taking the packet returns no credit of
that port. -/
def execRelay (port : Nat) (what : Relayed) (s : State) : Result :=
  let bytes := match what with
    | .packet pkt => packetBytes pkt
    | .cxlRead hpa => cxlRelayed { hpa := hpa / 64 * 64, write := false, start := s.now }
    | .cxlWrite hpa d m p =>
      cxlRelayed { hpa := hpa / 64 * 64, write := true, data := fitBytes 64 d, mask := m, poison := p, start := s.now }
  guarded (serving s && decide (port < 21)) s fun s =>
    match takeRunnel s (runRelay port bytes) with
    | none => s
    | some s =>
      match what with
      | .packet _ =>
        { s with link := { s.link with
            rx := tput s.link.rx port (tgetD s.link.rx port [] ++ [{ pkt := parsePacket bytes, since := s.now, stale := true }]) } }
      | .cxlRead hpa => cxlArrive s { hpa := hpa / 64 * 64, write := false, start := s.now }
      | .cxlWrite hpa d m p =>
        cxlArrive s { hpa := hpa / 64 * 64, write := true, data := fitBytes 64 d, mask := m, poison := p, start := s.now }

/-! ## Self-test and health (R399 to R402) -/

/-- Mark a failed self-test: bit 0 engine, 1 bank, 2 DRAM, 3 eye margin. -/
def testFailed (s : State) (b : Nat) : State := modPair s fun p => { p with fails := setBit p.fails b }

/-- STANDBY_GOLDEN_ROUND (R399): the next in-service or reserve engine. -/
def execStandbyGoldenRound (pass : Bool) (s : State) : Result :=
  guarded (decide (pairState s = 1)) s fun s =>
    match (rangeFrom s.pair.nextEng 80).find? fun i => decide (coreRole s (i % 80 / 4) ≤ 1) with
    | none => s
    | some i =>
      let e := i % 80
      let s := modPair s fun p => { p with nextEng := (e + 1) % 80 }
      if pass then s else testFailed (retireEngine s e) 0

/-- STANDBY_MARCH_TEST (R399): the next RESERVE bank. -/
def execStandbyMarchTest (pass : Bool) (s : State) : Result :=
  guarded (decide (pairState s = 1)) s fun s =>
    match (rangeFrom s.pair.nextBank 1088).find? fun i => bankRole s (i % 1088 / 17) (i % 17) = 1 with
    | none => s
    | some i =>
      let k := i % 1088
      let s := modPair s fun p => { p with nextBank := (k + 1) % 1088 }
      if pass then s else testFailed (bankLedger (setBankRole s (k / 17) (k % 17) 2)) 1

/-- DRAM_PATROL_READ (R399): a line of the standby's frames. An uncorrectable line is asked for again. -/
def execDramPatrolRead (line : Nat) (outcome : PatrolOutcome) (s : State) : Result :=
  match lineDa s line, lineChannel s line with
  | some da, some ch =>
    guarded (decide (pairState s = 1)) s fun s =>
      let x := chanDecode s ch (mapDa (grainOf s (da / 1572864)) da).2
      match outcome with
      | .clean => s
      | .corrected => dramCorrected s ch x (some line)
      | .uncorrectable =>
        let s := setPoison (dramUncorrectable s ch x (some line) da) line 1
        testFailed (sendRunnel s 0 (runDelta 0 0 (natLe 8 (line * 64)))) 2
  | _, _ => .next s

/-- EYE_MARGIN_CHECK (R399): lanes below the profile's minimum, coded port × 16 + lane. -/
def execEyeMarginCheck (failed : List Nat) (s : State) : Result :=
  guarded (decide (pairState s = 1) && !failed.isEmpty) s fun s =>
    testFailed (failed.foldl (fun s l => eventAt s pgPAIR sevWarn clLink l) s) 3

/-- A returning PRIMARY takes its fabric ports into service (R405, R406). -/
def startReturn (s : State) : State :=
  returnReady (servicePorts (modPair s fun p => { p with returning := true }) true)

/-- HEALTH_REPORT_SEND (R400, R402, R405). -/
def execHealthReportSend (s : State) : Result :=
  guarded (decide (pairState s = 1)) s fun s =>
    let clean := decide (s.pair.fails = 0) && decide (s.fault.errors = s.pair.errSeen)
    let a := ra pgPAIR 0x118
    let n := (rf s a 16 16 + 1) % 65536
    let w := (if clean then 1 else 0) + s.pair.fails.toNat * 2 + n * 65536
    let s := sendRunnel (wr s a w) 0 (runCtl 3 (natLe 4 w))
    let s := modPair s fun p => { p with fails := 0, errSeen := s.fault.errors }
    let s := setClean s (if clean then cleanReports s + 1 else 0)
    if rb s (ra pgPAIR 0x100) 1 && !secondary s && !s.pair.returning && heartbeatGood s &&
        decide (rf s (ra pgPAIR 0x100) 2 10 ≤ cleanReports s) then startReturn s else s

/-- HEALTH (R401): at the active, PAIR.HEALTH as the standby has it. -/
def execHealth (seq : Nat) (clean : Bool) (fails : BitVec 4) (s : State) : Result :=
  let w := (if clean then 1 else 0) + fails.toNat * 2 + seq % 65536 * 65536
  onRunnel s (runCtl 3 (natLe 4 w)) fun s =>
    if serving s then setClean (wr s (ra pgPAIR 0x118) w) (if clean then cleanReports s + 1 else 0) else s

/-- HEALTH_REPORT_MISSED (R401). -/
def execHealthReportMissed (s : State) : Result := guarded (serving s) s fun s => setClean s 0

/-! ## Handover and resynchronisation (R404 to R407) -/

/-- The serving controller begins the handover pause. -/
def startPause (s : State) : State := modPair s fun p => { p with pause := true, finalTick := false }

/-- HANDOVER_REQ (R406): at the serving controller the pause begins; a STANDBY that is asked takes its ports into
service first. -/
def execHandoverReq (s : State) : Result :=
  onRunnel s (runCtl 5 []) fun s =>
    if pairState s = 0 ∧ partnerState s = 1 then (if s.pair.pause then s else startPause s)
    else if pairState s = 1 ∧ ¬ s.pair.returning then startReturn s
    else s

/-- HANDOVER_DRAIN_TIMEOUT (R406, Table 17-12): tiles whose writes have been issued have committed (R23; log entry 88);
every other returns to its operation's frontier, and the final tick closes. -/
def execHandoverDrainTimeout (s : State) : Result :=
  guarded (s.pair.pause && !s.pair.finalTick) s fun s =>
    let s := (s.cmd.tiles.filter Tile.issued).foldl (fun s t =>
      match opOf s t.op with
      | some o => tileDone s t.op o t
      | none => s) s
    let ts := s.cmd.tiles
    let s := ts.foldl (fun s t => wasteTile s t 18) s
    let s := { s with cmd := { s.cmd with tiles := [] } }
    let s := ts.foldl (fun s t => giveBack s t.op [t.num]) s
    let n := s.pair.tick + 1
    sendRunnel (modPair s fun p => { p with tick := n, finalTick := true }) 0 (runDelta n 0 [])

/-- The controller that pauses receives HANDOVER_GO: it is STANDBY, and its partner takes the drives (R406). -/
def handoverGone (s : State) : State :=
  let s := drivesTaken (modPair (pairAlone (setPair (voidAll s) 1)) fun p => { p with took := false })
  let s := setClean (wf s pairStat 3 3 0) 0
  let s := { s with dir := { s.dir with trans := [], chain := [], overflow := [] } }
  portsFollow (sendRunnel (dropRunnel s) 0 (runCtl 7 []))

/-- The standby that has applied the final tick sends HANDOVER_GO: it is ACTIVE, and preempts every drive (R406). -/
def handoverTaken (s : State) : State :=
  let s := sendRunnel s 0 (runCtl 6 [])
  let s := modPair (setPair s 0) fun p => { p with returning := false, took := true, tick := rd s (ra pgPAIR 0x10C) }
  let s := setClean (wf (wb s pairStat 8 false) pairStat 3 3 1) 0
  portsFollow (loseUnmirrored (preemptDrives s))

/-- HANDOVER_DONE (R406): absorbed. -/
def execHandoverDone (s : State) : Result := onRunnel s (runCtl 7 []) id

/-- What is left to copy, then the directory and a snapshot of the slower state (R404). -/
def finishSync (s : State) : State :=
  let s := (s.pair.sync.getD (mirroredSubs s)).foldl deltaSub s
  sendRunnel (modPair s fun p => { p with sync := none }) 0 (runDelta s.pair.tick 0 [])

/-- RESYNC_COMPLETE (R383, R404): SYNCING becomes STANDBY; its SOLO partner becomes ACTIVE in the same tick. -/
def execResyncComplete (s : State) : Result :=
  match pairState s with
  | 2 => .next (portsFollow (modPair (wf (setPair s 1) pairStat 3 3 0) fun p => { p with errSeen := s.fault.errors, took := false }))
  | 4 =>
    guarded (decide (partnerState s = 2)) s fun s =>
      let s := wr (finishSync s) (ra pgPAIR 0x114) 0
      setClean (wf (setPair s 0) pairStat 3 3 1) 0
  | _ => .next s

/-! ## PAIR.CMD (R409) -/

/-- An ACTION of PAIR.CMD, from identity 0x002; a refused one sets CMD_ERR. -/
def pairAction (id : Nat) (s : State) (ok : Bool) (f : State → State) : Result :=
  guarded (decide (id = 2)) s fun s => if ok then f (wb s pairCmd 2 false) else wb s pairCmd 2 true

/-- FENCE_SELF (R409). -/
def execFenceSelf (id : Nat) (s : State) : Result :=
  pairAction id s (serving s) fun s => portsFollow (modPair (fenceSelf s) fun p => { p with fencedSelf := false })

/-- GO_SOLO (R397, R408). -/
def execGoSolo (id : Nat) (s : State) : Result :=
  pairAction id s (decide (pairState s = 3) && !heartbeatGood s) goSolo

/-- HANDOVER (R405): towards a SECONDARY the pause begins at once; a PRIMARY first takes its ports into service. -/
def execHandover (id : Nat) (s : State) : Result :=
  pairAction id s (decide (pairState s = 0) && decide (partnerState s = 1) && heartbeatGood s && !s.pair.pause) fun s =>
    if secondary s then sendRunnel s 0 (runCtl 5 []) else startPause s

end Sys2Proof.Machine
end

