-- ==== Sys2Proof/Machine/Security.lean ====
section
/-!
DEFINITION. Isolation and attestation (chapter 18): requester bindings, key slots, SPDM, debug and confidential mode.
-/
namespace Sys2Proof.Machine

/-! ## Requester bindings (R410 to R413, Table 18-6) -/

def bindCmd : Nat := ra pgSEC 0x110
def keyCmd : Nat := ra pgSEC 0x118

/-- The entry that an identity's data registers describe, and its VALID bit. -/
def bindRegs (s : State) (id : Nat) : Binding × Bool :=
  let d := ri s id (ra pgSEC 0x10C)
  ({ base := fld (ri s id (ra pgSEC 0x104)) 0 31, pages := fld (ri s id (ra pgSEC 0x108)) 0 31,
     req := fld d 0 13, dom := fld d 13 10, rd := bitN d 23, wr := bitN d 24 }, bitN d 25)

/-- The entry may not be changed or invalidated: its EID is VALID in the agent table, and not fenced and swept (R411). -/
def bindHeld (s : State) (b : Binding) : Bool :=
  decide (b.req < 4096) && (match (agentOf s b.req).bind (tget s.dir.agents) with
    | some a => !(a.fenced && a.sweepDone)
    | none => false)

/-- ERR_CODE of a WRITE of entry `i`, 0 where it is accepted (R411, Table 18-5); for several grounds, log entry 38. -/
def bindRefusal (s : State) (i : Nat) (b : Binding) (valid : Bool) : Nat :=
  let mine := s.sec.binds.filter fun e => decide (e.1 ≠ i) && decide (e.2.req = b.req)
  if locked s pgSEC then 6
  else if valid && mine.any (fun e =>
      decide (e.2.base < b.base + b.pages) && decide (b.base < e.2.base + e.2.pages)) then 1
  else if valid && decide (16 ≤ mine.length) then 2
  else if valid && (decide (b.pages = 0) || decide (2147483648 < b.base + b.pages)) then 3
  else if (match tget s.sec.binds i with
      | some old => (!valid || decide (old ≠ b)) && bindHeld s old
      | none => false) then 4
  else if valid && (tget s.sec.keys b.dom).isNone then 5
  else 0

/-- BIND_WRITE (R411): ERR and ERR_CODE say how the last WRITE went. -/
def execBindWrite (id : Nat) (s : State) : Result :=
  guarded (decide (id = 2)) s fun s =>
    let i := fld (ri s id (ra pgSEC 0x100)) 0 13
    let (b, valid) := bindRegs s id
    let e := bindRefusal s i b valid
    let s := wf (wb s bindCmd 2 (decide (e ≠ 0))) bindCmd 3 3 e
    if e ≠ 0 then s
    else if valid then { s with sec := { s.sec with binds := tput s.sec.binds i b, bindsOff := tdel s.sec.bindsOff i } }
    else
      { s with sec := { s.sec with
        binds := tdel s.sec.binds i, bindsOff := tset ⟨0, 0, 0, 0, false, false⟩ s.sec.bindsOff i b } }

/-- BIND_READ (Table 18-6): entry INDEX into the data registers. -/
def execBindRead (id : Nat) (s : State) : Result :=
  guarded (decide (id = 2)) s fun s =>
    let i := fld (ri s id (ra pgSEC 0x100)) 0 13
    let v := tget s.sec.binds i
    let b := v.getD (tgetD s.sec.bindsOff i ⟨0, 0, 0, 0, false, false⟩)
    let bit (x : Bool) (n : Nat) : Nat := if x then 2 ^ n else 0
    let s := wi (wi s id (ra pgSEC 0x104) b.base) id (ra pgSEC 0x108) b.pages
    wi s id (ra pgSEC 0x10C) (b.req + b.dom * 8192 + bit b.rd 23 + bit b.wr 24 + bit v.isSome 25)

/-! ## Keys (R414, R417) -/

/-- The slot that KEY_IDX names. -/
def keySlot (s : State) (id : Nat) : Nat := fld (ri s id (ra pgSEC 0x114)) 0 11

def keyErr (s : State) (e : Bool) : State := wb s keyCmd 2 e
def keyBusy (s : State) : Bool := rb s keyCmd 3
def debugOpen (s : State) : Bool := decide (rf s (ra pgSEC 0x124) 0 2 = 1)

/-- Random bits of Holhild's generator. -/
def drawRandom (s : State) : BitVec 512 × State := (Config.random s.fresh, { s with fresh := s.fresh + 1 })

/-- GENERATE and IMPORT can fill the slot: it is EMPTY, not frozen, and debug is locked (R413, R414, R421). -/
def keyFillable (s : State) (d : Nat) : Bool := (tget s.sec.keys d).isNone && !locked s pgSEC && !debugOpen s

/-- A key enters its slot: PENDING while a STANDBY partner has to install it, ARMED otherwise (R417). -/
def keyFill (s : State) (d : Nat) (k : BitVec 512) : State :=
  let wait := decide (partnerState s = 1) && decide (pairState s = 0)
  let s := { s with sec := { s.sec with keys := tput s.sec.keys d ⟨if wait then 1 else 2, k⟩ } }
  if wait then sendKey (wb s keyCmd 3 true) d (some k) else s

/-- KEY_GENERATE (R414). -/
def execKeyGenerate (id : Nat) (s : State) : Result :=
  guarded (decide (id = 2) && !keyBusy s) s fun s =>
    let d := keySlot s id
    if keyFillable s d then let (k, s) := drawRandom s; keyFill (keyErr s false) d k else keyErr s true

/-- An established session with mutual authentication (Table 18-2). -/
def authSession (s : State) (n : Nat) : Option Session :=
  s.sec.sessions.find? fun x => decide (x.id = n) && x.established && x.mutAuth

/-- KEY_IMPORT (R414): 72 B, unwrapped with the session's keys. -/
def execKeyImport (id session : Nat) (wrapped : Bytes) (s : State) : Result :=
  guarded (decide (id = 2) && !keyBusy s) s fun s =>
    let d := keySlot s id
    let key := (authSession s session).bind fun x => Config.unwrap (x.id * 4294967296 + x.keyGen) wrapped
    match key with
    | some k => if keyFillable s d && decide (wrapped.length = 72) then keyFill (keyErr s false) d k else keyErr s true
    | none => keyErr s true

/-- KEY_ZEROISE (R414, R417): at both controllers. -/
def execKeyZeroise (id : Nat) (s : State) : Result :=
  guarded (decide (id = 2) && !keyBusy s) s fun s =>
    let d := keySlot s id
    if decide (1024 ≤ d) || decide (charge s d 0 ≠ 0) || decide (charge s d 2 ≠ 0) || locked s pgSEC then keyErr s true
    else
      let s := keyErr { s with sec := { s.sec with keys := tdel s.sec.keys d } } false
      if decide (partnerState s = 1) && decide (pairState s = 0) then sendKey s d none else s

/-- KEY_PARTNER_INSTALLED (R417). -/
def execKeyPartnerInstalled (slot : Nat) (s : State) : Result :=
  match tget s.sec.keys slot with
  | some k =>
    guarded (decide (k.state = 1) && decide (pairState s ≠ 1)) s fun s =>
      wb { s with sec := { s.sec with keys := tput s.sec.keys slot { k with state := 2 } } } keyCmd 3 false
  | none => .next s

/-- KEY_STAT of the slot that an identity's KEY_IDX names (Table 18-6). -/
def keyStat (s : State) (id : Nat) : Nat :=
  ((tget s.sec.keys (keySlot s id)).map fun k => k.state).getD 0 +
    (s.sec.keys.filter fun e => decide (e.1 < 1024) && decide (e.2.state = 2)).length * 4

/-! ## SPDM (R419, R420; message codes: log entry 39) -/

def spdmReply (s : State) (code : Nat) (words : List Nat) (bytes : Bytes) : State :=
  put s (.reply (0x40000 + code) words bytes)

/-- ERROR with its code. -/
def spdmError (s : State) (code : Nat) : State := spdmReply s 0x7F [code] []
def spdmInvalid := 0x01
def spdmUnexpected := 0x04
def spdmDecrypt := 0x06
def spdmUnsupported := 0x07
def spdmSessionLimit := 0x0A
def spdmSessionRequired := 0x0B

def spdmStage (s : State) (via : Nat) : Nat := tgetD s.sec.spdm via 0
def setStage (s : State) (via n : Nat) : State := { s with sec := { s.sec with spdm := tset 0 s.sec.spdm via n } }

/-- A request that the handshake must have led up to. -/
def spdmAfter (s : State) (via n : Nat) (f : State → State) : Result :=
  .next (if n ≤ spdmStage s via then f s else spdmError s spdmUnexpected)

def hashBytes (h : BitVec 256) : Bytes := natLe 32 h.toNat
def certChain (s : State) : Bytes := Config.certChain s.sec.aliasOf
def chainDigest (s : State) : Bytes := hashBytes (Config.sha256 (certChain s))

/-- A signature by the Alias key. -/
def aliasSign (s : State) (msg : Bytes) : Bytes := Config.sign s.sec.aliasOf.toNat msg

/-- GET_VERSION: 1.2 only. -/
def execGetVersion (via : Nat) (s : State) : Result := .next (spdmReply (setStage s via 1) 0x04 [0x12] [])

/-- GET_CAPABILITIES: the messages of Table 18-2. -/
def execGetCapabilities (via : Nat) (s : State) : Result :=
  spdmAfter s via 1 fun s => spdmReply (setStage s via (max 2 (spdmStage s via))) 0x61
    [0x81, 0x82, 0x83, 0x84, 0xE0, 0xE1, 0xE3, 0xE4, 0xE5, 0xE8, 0xE9, 0xEC, 0xFE] []

/-- NEGOTIATE_ALGORITHMS: what is offered and supported (Table 18-2). -/
def execNegotiateAlgorithms (via : Nat) (offer : SpdmAlgs) (s : State) : Result :=
  spdmAfter s via 2 fun s =>
    let sign := offer.ecdsaP256 && offer.sha256
    let full := sign && offer.secp256r1 && offer.aesGcm
    let flag (b : Bool) : Nat := if b then 1 else 0
    spdmReply (setStage s via (if full then 4 else if sign then 3 else 2)) 0x63
      [flag offer.ecdsaP256, flag offer.sha256, flag offer.secp256r1, flag offer.aesGcm] []

/-- GET_DIGESTS: slot 0 only. -/
def execGetDigests (via : Nat) (s : State) : Result :=
  spdmAfter s via 3 fun s => spdmReply s 0x01 [1] (chainDigest s)

/-- GET_CERTIFICATE: a part of slot 0's chain, and how much remains. -/
def execGetCertificate (via slot offset len : Nat) (s : State) : Result :=
  spdmAfter s via 3 fun s =>
    let c := certChain s
    if slot ≠ 0 ∨ c.length ≤ offset then spdmError s spdmInvalid
    else
      let part := (c.drop offset).take len
      spdmReply s 0x02 [part.length, c.length - offset - part.length] part

/-- CHALLENGE: Holhild signs both nonces and the chain's digest with its Alias key. -/
def execChallenge (via slot : Nat) (nonce : BitVec 256) (s : State) : Result :=
  spdmAfter s via 3 fun s =>
    if slot ≠ 0 then spdmError s spdmInvalid
    else
      let (r, s) := drawRandom s
      let own := natLe 32 r.toNat
      spdmReply s 0x03 [] (chainDigest s ++ own ++ aliasSign s (natLe 32 nonce.toNat ++ chainDigest s ++ own))

/-- Measurement 9: the security state (Table 18-3). -/
def securityState (s : State) : BitVec 256 :=
  Config.sha256 (natLe 1 (rf s (ra pgSEC 0x120) 0 1) ++ natLe 1 (if s.sec.confForce then 1 else 0) ++
    natLe 1 (rf s (ra pgSEC 0x124) 0 2) ++ natLe 1 (if locked s pgSEC then 1 else 0) ++ hashBytes Config.ownerKeyHash)

/-- The measurements 1 to 9 as they stand (Table 18-3). -/
def measurements (s : State) : List (BitVec 256) :=
  ((rangeFrom 0 8).map fun i => nth s.sec.measured i 0) ++ [securityState s]

/-- GET_MEASUREMENTS (R420): index 0 asks for their number, 255 for all. -/
def execGetMeasurements (via index : Nat) (nonce : Option (BitVec 256)) (s : State) : Result :=
  spdmAfter s via 3 fun s =>
    let ms := measurements s
    if 9 < index ∧ index ≠ 255 then spdmError s spdmInvalid
    else
      let bs := if index = 0 then [] else if index = 255 then ms.flatMap hashBytes else hashBytes (nth ms (index - 1) 0)
      let words := if index = 0 then [9] else if index = 255 then [9] else [1]
      match nonce with
      | none => spdmReply s 0x60 words bs
      | some n =>
        let (r, s) := drawRandom s
        let own := natLe 32 r.toNat
        spdmReply s 0x60 words (bs ++ own ++ aliasSign s (natLe 32 n.toNat ++ bs ++ own))

/-- KEY_EXCHANGE: a session, at most four at once. -/
def execKeyExchange (via slot : Nat) (mutAuth : Bool) (exchange : Bytes) (s : State) : Result :=
  spdmAfter s via 4 fun s =>
    if slot ≠ 0 then spdmError s spdmInvalid
    else if 4 ≤ s.sec.sessions.length then spdmError s spdmSessionLimit
    else
      let n := s.sec.nextSession
      let (r, s) := drawRandom s
      let s := { s with sec := { s.sec with
        sessions := s.sec.sessions ++ [{ id := n, via := via, mutAuth := mutAuth }], nextSession := n + 1 } }
      let bs := natLe 32 r.toNat ++ Config.exchangeReply s.fresh exchange
      spdmReply s 0x64 [n, if mutAuth then 1 else 0] (bs ++ aliasSign s (exchange ++ bs))

def dropSession (s : State) (n : Nat) : State :=
  { s with sec := { s.sec with sessions := s.sec.sessions.filter fun x => decide (x.id ≠ n) } }

/-- FINISH: the session is established, or ended where its proof does not verify. -/
def execFinish (session : Nat) (verified : Bool) (s : State) : Result :=
  match s.sec.sessions.find? fun x => decide (x.id = session) && !x.established with
  | none => .next (spdmError s spdmUnexpected)
  | some _ =>
    if verified then
      .next (spdmReply { s with sec := { s.sec with
        sessions := s.sec.sessions.map fun x => if x.id = session then { x with established := true } else x } }
        0x65 [session] [])
    else .next (spdmError (dropSession s session) spdmDecrypt)

/-- A request inside an established session. -/
def inSession (s : State) (n : Nat) (f : Session → State) : Result :=
  match s.sec.sessions.find? fun x => decide (x.id = n) && x.established with
  | some x => .next (f x)
  | none => .next (spdmError s spdmSessionRequired)

/-- END_SESSION. -/
def execEndSession (session : Nat) (s : State) : Result :=
  inSession s session fun _ => spdmReply (dropSession s session) 0x6C [session] []

/-- HEARTBEAT. -/
def execSpdmHeartbeat (session : Nat) (s : State) : Result :=
  inSession s session fun _ => spdmReply s 0x68 [session] []

/-- KEY_UPDATE: 1 UpdateKey and 2 UpdateAllKeys make the next keys, 3 VerifyNewKey does not. -/
def execKeyUpdate (session keyOp : Nat) (s : State) : Result :=
  inSession s session fun x =>
    if keyOp = 1 ∨ keyOp = 2 then
      spdmReply { s with sec := { s.sec with
        sessions := s.sec.sessions.map fun y => if y.id = x.id then { y with keyGen := y.keyGen + 1 } else y } }
        0x69 [session, keyOp] []
    else if keyOp = 3 then spdmReply s 0x69 [session, keyOp] []
    else spdmError s spdmInvalid

/-- Any other request (R419). -/
def execSpdmUnsupportedRequest (_via code : Nat) (s : State) : Result :=
  .next (spdmReply s 0x7F [spdmUnsupported, code] [])

/-! ## Debug unlock and confidential mode (R421, R422) -/

def debugReg : Nat := ra pgSEC 0x124

/-- The message that a DEBUG_UNLOCK request signs: SHA-256 of Holhild's nonce and the device serial. -/
def unlockHash (s : State) : Bytes :=
  hashBytes (Config.sha256 (natLe 32 (Config.random s.sec.nonceNo).toNat ++ Config.serial))

/-- Number of the debug key among the verification keys. -/
def debugKey := 0xFF

/-- The four conditions of R421. -/
def unlockOk (s : State) (sig : Bytes) : Bool :=
  !confidential s && !(s.sec.keys.any fun e => decide (e.1 < 1024)) &&
  Config.sigOk debugKey (unlockHash s) sig && decide (rf s debugReg 2 2 < 3)

/-- DEBUG_UNLOCK (R421): a refused attempt counts in FAILS. Each attempt takes a new nonce. -/
def execDebugUnlock (session : Nat) (sig : Bytes) (s : State) : Result :=
  match authSession s session with
  | none => .next (spdmError s spdmSessionRequired)
  | some _ =>
    let good := unlockOk s sig
    let s := { s with sec := { s.sec with nonceNo := s.fresh }, fresh := s.fresh + 1 }
    if good then .next (spdmReply (wf s debugReg 0 2 1) 0x7E [1] [])
    else .next (spdmReply (wf s debugReg 2 2 (min 3 (rf s debugReg 2 2 + 1))) 0x7E [0] [])

/-- CONF_ENABLE (R422): within a session with mutual authentication. A write of 0 is ignored, and an unlocked debug is
locked at once. In the mode counters stay exact until the first ms boundary (R473). -/
def execConfEnable (id : Nat) (value : W32) (s : State) : Result :=
  let auth := s.sec.sessions.any fun x => x.established && x.mutAuth
  guarded (decide (id = 2) && bitN value.toNat 0 && auth && !rb s (ra pgSEC 0x120) 0) s fun s =>
    let s := if debugOpen s then wf s debugReg 0 2 2 else s
    { (wb s (ra pgSEC 0x120) 0 true) with sec := { s.sec with confNext := true } }

end Sys2Proof.Machine
end

