-- ==== Sys2Proof/Machine/Resets.lean ====
section
/-!
DEFINITION. Reset domains (R449, Table 20-3) and what a management-plane restart does (R17, R450); the end of a
firmware update that is cut short (R433).
-/
namespace Sys2Proof.Machine

/-! ## Registers and counters of a domain -/

/-- Registers that a reset of their page leaves: RST.CAUSE and the straps (Table 20-3), and those that report what no
reset of the management domain changes: the clocks, the start-up row, the profile in force (log entry 43). -/
def keptReg (a : Nat) : Bool :=
  [ra pgRST 0x104, ra pgRST 0x108, ra pgCLK 0x100, ra pgPROF 0x100, ra pgPROF 0x104].contains a

/-- Registers back at their reset values on the pages of some domains, with the index registers and counters. -/
def resetPages (s : State) (p : Nat → Bool) (keep : Nat → Bool) : State :=
  { s with
    regs := tfilter s.regs fun a _ => !p (a / 4096) || keptReg a || keep a
    idx := tfilter s.idx fun k _ => !p (k % 16777216 / 4096)
    counters := tfilter s.counters fun k _ => !p (k / 64)
    ctr := { s.ctr with latch := tfilter s.ctr.latch fun k _ => !p (k % 4096) } }

/-- The summary follows the pages whose events still stand (R490). -/
def resummarize (s : State) : State :=
  ((s.regs.filter fun e => decide (e.1 % 4096 = 0x010) && decide (e.1 / 4096 ≤ 0xFF)).map Prod.fst).foldl
    (fun s a => summarize s (a / 4096)) s

/-! ## An update that ends early (R433) -/

def fwuStat : Nat := ra pgFWU 0x100
def fwuCmd : Nat := ra pgFWU 0x11C
def fwuState (s : State) : Nat := rf s fwuStat 0 3

/-- Set FWU.STAT.STATE: 0 IDLE, 1 RECEIVING, 2 READY, 3 COPYING, 4 FAILED. -/
def setFwu (s : State) (st : Nat) : State := wf s fwuStat 0 3 st

def imgType (s : State) (t : Nat) : ImageType := tgetD s.fw.types t {}
def setImg (s : State) (t : Nat) (x : ImageType) : State := { s with fw := { s.fw with types := tset {} s.fw.types t x } }

/-- The transfer that runs ends before its last block: its type is INCOMPLETE (R433). -/
def dropTransfer (s : State) : State :=
  match s.fw.head with
  | some h =>
    let s := if s.fw.phase = 3 then setImg s h.type { imgType s h.type with state := 3 } else s
    { s with fw := { s.fw with head := none, body := [], part := [], blocks := 0, patched := 0 } }
  | none => s

/-- A reset ends the update (Table 19-4); a copy that CONFIRM began is resumed by the loader (R436). -/
def endUpdate (s : State) : State :=
  let s := dropTransfer s
  let s := { s with fw := { s.fw with phase := 0 } }
  setFwu s (if s.fw.types.any fun e => e.2.copying then 3 else 0)

/-! ## The management-plane restart -/

/-- FLT registers that a management-plane restart keeps (Table 20-3), and the processors' roles, which belong to the
control domain (log entry 43). -/
def keptFlt (a : Nat) : Bool :=
  [ra pgFLT 0x118, ra pgFLT 0x11C, ra pgFLT 0x128, ra pgFLT 0x138, ra pgFLT 0x13C].contains a

/-- The management domain resets; keys, bindings, the pair state and the data plane stand (R17). Open SPDM sessions
end with the firmware that held them (R434). -/
def mgmtRestart (s : State) : State :=
  let roles := rf s (ra pgFLT 0x130) 10 10
  let s := endUpdate s
  let s := resetPages s (fun p => decide (resetDomain p = .mgmt)) keptFlt
  let s := wf (setFwu s (if s.fw.types.any fun e => e.2.copying then 3 else 0)) (ra pgFLT 0x130) 10 10 roles
  let s := wf s (ra pgPROF 0x100) 2 3 0
  resummarize { s with
    fault := { s.fault with missing := [], folded := [] }
    sec := { s.sec with sessions := [], spdm := [] }
    ctr := { s.ctr with restart := true } }

end Sys2Proof.Machine
end

