-- ==== Sys2Proof/Machine/Firmware.lean ====
section
/-!
DEFINITION. Firmware and configuration update (chapter 19): the image set, the transfer, selection at boot,
confirmation and fall-back.
-/
namespace Sys2Proof.Machine

/-! ## The image set (Table 19-1) -/

/-- Slot size in bytes of an image type; 0 for a type that is not in the table. -/
def slotSize (t : Nat) : Nat :=
  match t with
  | 1 => 131072
  | 2 => 524288
  | 3 => 65536
  | 4 => 8388608
  | 5 => 2097152
  | 6 | 7 | 8 | 9 | 10 | 11 => 1048576
  | _ => 0

/-- Limit on the body alone: types 0x02 and 0x03 (R427). -/
def bodyLimit (t : Nat) : Nat := if t = 2 then 393216 else if t = 3 then 32768 else slotSize t

/-- KEY of an image type: 0 Oagon, 1 owner. -/
def signer (t : Nat) : Nat := if t = 3 ∨ t = 7 ∨ 8 ≤ t then 1 else 0

/-- The key that verifies an image type (R428): 0 Oagon, 1 owner. -/
def verifyKey (t : Nat) : Nat := if signer t = 1 && Config.ownerFused then 1 else 0

/-- Checked before activation, and activated by ActivateFirmware (R434). -/
def selfActive (t : Nat) : Bool := decide (1 ≤ t) && decide (t ≤ 3)

/-- The 256 bytes of a header (Table 19-2). -/
def headBytes (h : ImageHead) : Bytes :=
  natLe 4 h.magic ++ natLe 1 h.type ++ natLe 1 h.format ++ natLe 2 h.setFmt ++ natLe 4 h.version ++ natLe 4 h.svn ++
  natLe 4 h.length ++ natLe 4 h.nblk ++ natLe 1 h.key ++ natLe 3 h.rsvd ++ natLe 4 h.patchLen ++
  natLe 32 h.baseHash.toNat ++ natLe 192 (h.rsvd / 16777216)

/-- The header fields are those of Tables 19-1 and 19-2, and the image fits its slot (R427, R430). -/
def headOk (h : ImageHead) : Bool :=
  decide (h.magic = 0x51494D47) && decide (slotSize h.type ≠ 0) && (decide (h.format = 1) || decide (h.format = 2)) &&
  decide (h.nblk = ceilDiv h.length 65536) && decide (h.hashes.length = h.nblk) && decide (h.key = signer h.type) &&
  decide (h.rsvd = 0) && decide (256 + 32 * h.nblk + 64 + h.length ≤ slotSize h.type) &&
  decide (h.length ≤ bodyLimit h.type) &&
  (if h.format = 1 then decide (h.patchLen = 0) && decide (h.baseHash = 0)
   else decide (4 ≤ h.type) && decide (h.type ≤ 6))

/-- The least security version that an image type is accepted at (R429). -/
def minSvn (s : State) (t : Nat) : Nat := if t = 3 then (imgType s 3).runSvn else tgetD s.fw.minSvn t 0

/-- ERR_CODE of an image offered, 0 where it is accepted (R431, R438, Table 19-5). -/
def offerRefusal (s : State) (h : ImageHead) : Nat :=
  let x := imgType s h.type
  if fwuState s ≠ 0 then 5
  else if !headOk h then 6
  else if x.state = 1 then 5
  else if !Config.sigOk (verifyKey h.type)
      (hashBytes (Config.sha256 (headBytes h ++ h.hashes.flatMap hashBytes))) h.sig then 1
  else if h.svn < minSvn s h.type then 3
  else if h.format = 2 ∧ x.state ≠ 0 then 5
  else if h.format = 2 ∧ Config.sha256 x.b.body ≠ h.baseHash then 4
  else 0

/-! ## Selection at boot (R435) -/

/-- The SHA-256 of each 64 KiB block of a body, `n` of them. -/
def blockHashes : Nat → Bytes → List (BitVec 256)
  | 0, _ => []
  | n + 1, bs => Config.sha256 (bs.take 65536) :: blockHashes n (bs.drop 65536)

/-- A copy passes its signature and every block hash. -/
def copyOk (c : ImageCopy) : Bool :=
  c.sigOk && decide (blockHashes c.hashes.length c.body = c.hashes) &&
  decide (c.hashes.length = ceilDiv c.body.length 65536)

/-- An image that takes effect: the time from which it may confirm itself, and the settings area that it runs on
(R436, R437). -/
def imageRuns (s : State) (t : Nat) (c : ImageCopy) (fromB : Bool) : State :=
  let x := imgType s t
  let s := setImg s t { x with runB := fromB, runSvn := c.svn }
  let fw := s.fw
  let since := if x.state = 1 && !fromB then (if (tget fw.since t).isSome then fw.since else tput fw.since t s.now)
    else tdel fw.since t
  let setNew := if fromB then (if x.state = 2 ∧ fw.setNew = some x.a.setFmt then none else fw.setNew)
    else if x.state = 1 && decide (c.setFmt ≠ 0) && decide (c.setFmt ≠ fw.setOld) then some c.setFmt else fw.setNew
  { s with fw := { fw with since, setNew } }

/-- Select and load an image (R435): the copy, or none where start-up stops. -/
def selectImage (s : State) (t : Nat) : Option ImageCopy × State :=
  let x := imgType s t
  let useB (s : State) : Option ImageCopy × State :=
    if copyOk x.b && decide (x.state ≠ 4) then (some x.b, imageRuns s t x.b true)
    else (none, eventAt s pgFWU sevFatal clConfig t)
  if x.state = 3 then useB s
  else if x.state = 1 ∧ x.boots = 0 then useB (setImg s t { x with state := 2 })
  else if x.state = 4 then useB s
  else if copyOk x.a then
    let s := if x.state = 1 then setImg s t { x with boots := x.boots - 1 } else s
    (some x.a, imageRuns s t x.a false)
  else useB (eventAt (setImg s t { x with state := 2 }) pgFWU sevError clConfig t)

/-- Select several images in turn; none where one fails. -/
def selectAll (s : State) : List Nat → Option State × State
  | [] => (some s, s)
  | t :: ts =>
    match selectImage s t with
    | (some _, s) => selectAll s ts
    | (none, s) => (none, s)

/-- The copy of an image that is loaded. -/
def loadedCopy (s : State) (t : Nat) : ImageCopy := let x := imgType s t; if x.runB then x.b else x.a

/-! ## PLDM for firmware update (R439; codes: log entry 40) -/

def pldmReply (s : State) (code : Nat) (words : List Nat) : State := put s (.reply (0x50500 + code) words [])
def pldmOk := 0
def notInUpdate := 0x80
def alreadyInUpdate := 0x81
def invalidState := 0x84

/-- A transfer or an offer fails: ERR with its code, STAT FAILED, and the update ends. -/
def updateFails (s : State) (code : Nat) : State :=
  let s := dropTransfer s
  let s := wf (wb s fwuCmd 7 true) fwuCmd 8 3 code
  let s := pldmReply s 0x17 [code]
  setFwu { s with fw := { s.fw with phase := 0 } } 4

/-- QUERY_DEVICE_IDENTIFIERS: the device's serial. -/
def execQueryDeviceIdentifiers (s : State) : Result :=
  .next (pldmReply s 0x01 [pldmOk, rd s (ra pgTOP 0x100), rd s (ra pgTOP 0x104)])

/-- GET_FIRMWARE_PARAMETERS: each component's type, versions in A and B, and state. -/
def execGetFirmwareParameters (s : State) : Result :=
  .next (pldmReply s 0x02 (pldmOk :: (rangeFrom 1 11).flatMap fun t =>
    let x := imgType s t
    [t, x.a.version, x.b.version, x.state]))

/-- REQUEST_UPDATE (R431, Table 19-4). -/
def execRequestUpdate (s : State) : Result :=
  if s.fw.phase ≠ 0 then .next (pldmReply s 0x10 [alreadyInUpdate])
  else
    let s := if fwuState s = 2 ∨ fwuState s = 4 then setFwu s 0 else s
    .next (pldmReply { s with fw := { s.fw with phase := 1 } } 0x10 [pldmOk])

/-- PASS_COMPONENT_TABLE. -/
def execPassComponentTable (_types : List Nat) (s : State) : Result :=
  if s.fw.phase = 1 then .next (pldmReply { s with fw := { s.fw with phase := 2 } } 0x13 [pldmOk])
  else .next (pldmReply s 0x13 [if s.fw.phase = 0 then notInUpdate else invalidState])

/-- Holhild asks for the next piece, at most 4,096 B (R439). -/
def askPiece (s : State) : State :=
  match s.fw.head with
  | some h =>
    let got := if h.format = 2 then s.fw.patched else s.fw.body.length + s.fw.part.length
    pldmReply s 0x15 [got, min 4096 ((if h.format = 2 then h.patchLen else h.length) - got)]
  | none => s

/-- The whole body has come: READY, and UNCONFIRMED with BOOT_TRIES boots (R432). -/
def transferDone (s : State) (h : ImageHead) (body : Bytes) : State :=
  let x := imgType s h.type
  let c : ImageCopy :=
    { version := h.version, svn := h.svn, setFmt := h.setFmt, body := body, hashes := h.hashes, sigOk := true,
      profile := if 8 ≤ h.type then Config.profileOf body else none }
  let s := setImg s h.type { x with state := 1, boots := rf s (ra pgFWU 0x118) 0 3, a := c }
  let s := pldmReply (pldmReply (pldmReply s 0x16 [pldmOk]) 0x17 [pldmOk]) 0x18 [pldmOk]
  setFwu { s with fw := { s.fw with phase := 4, head := none, body := [], part := [], blocks := 0, patched := 0 } } 2

/-- UPDATE_COMPONENT (R431): the header, hash list and signature are checked before anything is written. -/
def execUpdateComponent (image : ImageHead) (s : State) : Result :=
  if s.fw.phase ≠ 2 then .next (pldmReply s 0x14 [if s.fw.phase = 0 then notInUpdate else invalidState])
  else
    let e := offerRefusal s image
    if e ≠ 0 then
      .next (if fwuState s = 0 then updateFails s e
        else pldmReply (wf (wb s fwuCmd 7 true) fwuCmd 8 3 e) 0x14 [invalidState])
    else
      let s := wf (wb s fwuCmd 7 false) fwuCmd 8 3 0
      let s := setFwu (wf s fwuStat 8 8 image.type) 1
      let s := pldmReply { s with fw := { s.fw with
        phase := 3, head := some image, body := [], part := [], blocks := 0, patched := 0 } } 0x14 [pldmOk]
      if image.length = 0 ∧ image.format = 1 then .next (transferDone s image []) else .next (askPiece s)

/-! ## The transfer (R432, R438) -/

/-- How a stretch of patch records leaves the result (Table 19-3). -/
inductive Patch where
  | more (out rest : Bytes)
  | done (out : Bytes)
  | bad

/-- Follow whole patch records as far as the bytes go; the first number bounds the records. -/
def applyPatch (base : Bytes) (limit : Nat) : Nat → Bytes → Bytes → Patch
  | 0, out, rest => .more out rest
  | n + 1, out, rest =>
    match rest with
    | [] => .more out []
    | c :: bs =>
      let grow (x tail : Bytes) : Patch :=
        if limit < out.length + x.length then .bad else applyPatch base limit n (out ++ x) tail
      match c.toNat with
      | 0 => .done out
      | 1 =>
        if bs.length < 8 then .more out rest
        else
          let o := leAt bs 0 4
          let l := leAt bs 4 4
          if base.length < o + l then .bad else grow ((base.drop o).take l) (bs.drop 8)
      | 2 =>
        let l := leAt bs 0 4
        if bs.length < 4 ∨ bs.length - 4 < l then .more out rest
        else grow ((bs.drop 4).take l) (bs.drop (4 + l))
      | _ => .bad

/-- Before the first write the type is INCOMPLETE, and slot A holds the new header (R432). -/
def firstWrite (s : State) (h : ImageHead) : State :=
  let x := imgType s h.type
  setImg s h.type { x with
    state := 3, a := { version := h.version, svn := h.svn, setFmt := h.setFmt, hashes := h.hashes, sigOk := true } }

/-- Bytes of a native body: types 0x01 to 0x03 hash each block before they write it. The bytes of a block that is not
yet whole wait. -/
def nativePiece (s : State) (h : ImageHead) (bytes : Bytes) : State :=
  let room := h.length - (s.fw.body.length + s.fw.part.length)
  let part := s.fw.part ++ bytes.take room
  let whole := decide (65536 ≤ part.length) || decide (h.length ≤ s.fw.body.length + part.length)
  if !selfActive h.type then
    let body := s.fw.body ++ part
    if h.length ≤ body.length then transferDone s h body
    else askPiece { s with fw := { s.fw with body := body, part := [] } }
  else if whole then
    let blk := part.take 65536
    if Config.sha256 blk ≠ nth h.hashes s.fw.blocks 0 then updateFails s 2
    else
      let body := s.fw.body ++ blk
      if h.length ≤ body.length then transferDone s h body
      else askPiece { s with fw := { s.fw with body := body, part := part.drop 65536, blocks := s.fw.blocks + 1 } }
  else askPiece { s with fw := { s.fw with part := part } }

/-- Bytes of a differential image: the records are followed in order, and the result must be LENGTH bytes. -/
def patchPiece (s : State) (h : ImageHead) (bytes : Bytes) : State :=
  let bytes := bytes.take (h.patchLen - s.fw.patched)
  let got := s.fw.patched + bytes.length
  let rest := s.fw.part ++ bytes
  match applyPatch (imgType s h.type).b.body h.length (rest.length + 1) s.fw.body rest with
  | .bad => updateFails s 4
  | .done out => if out.length = h.length then transferDone s h out else updateFails s 4
  | .more out rest =>
    if h.patchLen ≤ got then updateFails s 4
    else askPiece { s with fw := { s.fw with body := out, part := rest, patched := got } }

/-- FIRMWARE_DATA_RECEIVED (R432, R438). -/
def execFirmwareDataReceived (piece : ImagePiece) (s : State) : Result :=
  match s.fw.head with
  | none => .next s
  | some h =>
    guarded (decide (s.fw.phase = 3) && !piece.bytes.isEmpty && decide (piece.bytes.length ≤ 4096)) s fun s =>
      let s := if (imgType s h.type).state = 3 ∧ (s.fw.body ≠ [] ∨ s.fw.part ≠ []) then s else firstWrite s h
      if h.format = 2 then patchPiece s h piece.bytes else nativePiece s h piece.bytes

/-! ## Activation (R434) -/

/-- The measurements that a newly activated image changes (Table 18-3). -/
def remeasure (s : State) (i : Nat) (body : Bytes) : State :=
  let ms := (rangeFrom 0 8).map fun k => nth s.sec.measured k 0
  { s with sec := { s.sec with measured := setNth ms (i - 1) (Config.sha256 body) } }

/-- Activate an image of type 0x01 to 0x03; this counts as its first boot. -/
def activateNow (s : State) (t : Nat) : State :=
  let x := imgType s t
  let s := imageRuns (setImg s t { x with boots := x.boots - 1 }) t x.a false
  let s := setFwu { s with fw := { s.fw with phase := 0 } } 0
  match t with
  | 1 => remeasure s 3 x.a.body
  | 2 =>
    let s := remeasure s 2 x.a.body
    mgmtRestart { s with sec := { s.sec with aliasOf := Config.sha256 x.a.body } }
  | _ =>
    let mins := ([1, 2] ++ rangeFrom 4 8).foldl (fun m k => tset 0 m k (Config.policyMin x.a.body k)) []
    { s with fw := { s.fw with minSvn := mins } }

/-- ACTIVATE_FIRMWARE (R434, R439): for the other types it answers that activation waits for a reset. -/
def execActivateFirmware (s : State) : Result :=
  if s.fw.phase = 0 then .next (pldmReply s 0x1A [notInUpdate])
  else if s.fw.phase ≠ 4 then .next (pldmReply s 0x1A [invalidState])
  else
    let t := rf s fwuStat 8 8
    if selfActive t then .next (activateNow (pldmReply s 0x1A [pldmOk, 0]) t)
    else .next (setFwu { (pldmReply s 0x1A [pldmOk, 1]) with fw := { s.fw with phase := 0 } } 0)

/-- GET_STATUS: the update's phase, STAT.STATE and TYPE, and ERR_CODE. -/
def execGetStatus (s : State) : Result :=
  .next (pldmReply s 0x1B [pldmOk, s.fw.phase, fwuState s, rf s fwuStat 8 8, rf s fwuCmd 8 3])

/-- The component's transfer is cancelled (R433): ERR says that the update ended. -/
def cancelComponent (s : State) : State :=
  if s.fw.phase = 3 then setFwu (wf (wb (dropTransfer s) fwuCmd 7 true) fwuCmd 8 3 0) 0
  else if fwuState s = 2 then setFwu s 0 else s

/-- CANCEL_UPDATE_COMPONENT (R433). -/
def execCancelUpdateComponent (s : State) : Result :=
  if s.fw.phase = 0 then .next (pldmReply s 0x1C [notInUpdate])
  else if s.fw.phase = 3 then
    let s := cancelComponent s
    .next (pldmReply { s with fw := { s.fw with phase := 2 } } 0x1C [pldmOk])
  else .next (pldmReply s 0x1C [invalidState])

/-- CANCEL_UPDATE (R433). -/
def execCancelUpdate (s : State) : Result :=
  if s.fw.phase = 0 then .next (pldmReply s 0x1D [notInUpdate])
  else
    let s := cancelComponent s
    .next (pldmReply { s with fw := { s.fw with phase := 0 } } 0x1D [pldmOk])

/-! ## Confirmation and fall-back (R436, R437) -/

/-- An ACTION of FWU.CMD on a type, from identity 0x002. It is refused, with CMD_ERR, for a type that is not UNCONFIRMED,
and after another on the type in the same cycle (Table 19-4). -/
def fwuAction (id type : Nat) (s : State) (f : State → State) : Result :=
  guarded (decide (id = 2)) s fun s =>
    if (imgType s type).state = 1 ∧ s.fw.acted ≠ some (type, s.now) then
      f (wb { s with fw := { s.fw with acted := some (type, s.now) } } fwuCmd 6 false)
    else wb s fwuCmd 6 true

/-- CONFIRM: recorded in flash A, then the copy of slot A to slot B begins; NEW settings become the area of record. -/
def confirm (s : State) (t : Nat) : State :=
  let x := imgType s t
  let s := setImg s t { x with state := 0, copying := true }
  let fw := s.fw
  let s := { s with fw := { fw with
    since := tdel fw.since t
    setOld := if fw.setNew = some x.a.setFmt then x.a.setFmt else fw.setOld
    setNew := if fw.setNew = some x.a.setFmt then none else fw.setNew } }
  if fwuState s = 1 then s else wf (setFwu s 3) fwuStat 8 8 t

/-- FWU_CONFIRM (R436). -/
def execFwuConfirm (id type : Nat) (s : State) : Result :=
  fwuAction id type s fun s => confirm s type

/-- FWU_REVERT (R436). -/
def execFwuRevert (id type : Nat) (s : State) : Result :=
  fwuAction id type s fun s => setImg s type { imgType s type with boots := 0 }

/-- AUTO_CONFIRM_S seconds have passed since an image took effect, with no FATAL event and no retirement (R436). -/
def confirmDue (s : State) (type : Nat) : Bool :=
  let n := rf s (ra pgFWU 0x118) 3 16
  decide (n ≠ 0) && ((tget s.fw.since type).map fun t => decide (t + n * 1000000000 ≤ s.now)).getD false

/-- AUTO_CONFIRM_EXPIRY (R436). -/
def execAutoConfirmExpiry (type : Nat) (s : State) : Result :=
  guarded (confirmDue s type && decide ((imgType s type).state = 1)) s fun s => confirm s type

/-- CONFIRM_COPY_DONE (R436). -/
def execConfirmCopyDone (type : Nat) (s : State) : Result :=
  let x := imgType s type
  guarded x.copying s fun s =>
    let s := setImg s type { x with b := x.a, copying := false }
    if fwuState s = 3 ∧ ¬ (s.fw.types.any fun e => e.2.copying) then setFwu s 0 else s

end Sys2Proof.Machine
end

