-- ==== Sys2Proof/Machine/Counters.lean ====
section
/-!
DEFINITION. Counter groups, the counter reader's snapshots, and COUNTER_SNAPSHOT (R466 to R475).
-/
namespace Sys2Proof.Machine

/-! ## Groups -/

/-- NUM of a page's group, 0 for a page without counters (Table 21-2). -/
def groupNum (p : Nat) : Nat :=
  if p = pgWEIR ∨ p = pgCXLP then 16
  else if pgFLT ≤ p ∧ p ≤ pgRTE then 8
  else if 0x20 ≤ p ∧ p ≤ 0x37 then 16
  else if 0x40 ≤ p ∧ p ≤ 0x55 then 32
  else if 0x60 ≤ p ∧ p ≤ 0x63 then 16
  else if 0x64 ≤ p ∧ p ≤ 0x77 then 24
  else if 0x80 ≤ p ∧ p ≤ 0xCF then 8
  else if 0x100 ≤ p ∧ p ≤ 0x1FF then 16
  else 0

/-- The 415 pages that hold counters, ascending (R471). -/
def counterPages : List Nat :=
  rangeFrom 0x00A 9 ++ rangeFrom 0x020 24 ++ rangeFrom 0x040 22 ++ rangeFrom 0x060 24 ++ rangeFrom 0x080 80 ++
  rangeFrom 0x100 256

/-- ACCESS and DOMAIN of a group: in CMDQ pages ACCESS is 2 and DOMAIN follows QOWN.DOMAIN (Table 21-1). -/
def groupAccess (s : State) (p : Nat) : Nat × Nat :=
  if 0x100 ≤ p ∧ p ≤ 0x1FF then (2, rf s (ra p 0x12C) 0 10)
  else (rf s (ra p 0x02C) 6 2, rf s (ra p 0x02C) 8 10)

/-- An identity may read a group (Table 21-3). Only the CXL host has a requester index of its own. -/
def mayRead (s : State) (id p : Nat) : Bool :=
  let g := groupAccess s p
  isFw id ||
  ((decide (id = 1) || decide (id = 3)) &&
    (if g.1 = 2 then decide (id = 1) && s.sec.binds.any fun e => decide (e.2.req = 4096) && decide (e.2.dom = g.2)
     else !confidential s))

/-- A coarsened value (R424). -/
def coarsen (v : Nat) : Nat := v / 4096 * 4096

/-- The newest snapshot (R472). -/
def newest (s : State) : Option Snapshot := if s.ctr.gen = 0 then none else tget s.ctr.slots (s.ctr.gen % 64)

/-- What a granted read of a counter sees: live, or in confidential mode the coarsened value of the newest snapshot;
until the first such capture, nothing but to identities 0x002 and 0x010 to 0x014 (R468, Table 21-9). -/
def counterSeen (s : State) (id p i : Nat) : Nat :=
  if groupNum p ≤ i then 0
  else if confidential s then
    (if s.sec.confNext then (if isFw id then counter s p i else 0)
     else match (newest s).bind fun x => x.recs.find? fun r => r.page = p with
      | some r => coarsen (tgetD r.vals i 0)
      | none => 0)
  else counter s p i

/-- A read of the counter window (R467, R468): the value, 0 and a count in CTR where it is not granted. -/
def windowRead (s : State) (id p : Nat) (f : State → Nat × State) : Nat × State :=
  if groupNum p = 0 then (0, s) else if mayRead s id p then f s else (0, errInc s pgCTR 1)

/-- A read of CNT_LO: it latches bits [47:32] for its identity. -/
def cntLo (s : State) (id p : Nat) : Nat × State :=
  windowRead s id p fun s =>
    let v := counterSeen s id p (ri s id (ra p 0x020) % 32)
    (v % 4294967296,
      { s with ctr := { s.ctr with latch := tset 0 s.ctr.latch (id * 4096 + p) (v / 4294967296) } })

/-- CNT_LO_READ (R467). -/
def execCntLoRead (id page : Nat) (s : State) : Result :=
  guarded (assigned page && decide (s.pwr.held = 0)) s fun s =>
    let (v, s) := cntLo s id page
    put s (.readData (ra page 0x024) (BitVec.ofNat 32 v))

/-! ## Captures (R470, R471, R473) -/

/-- The counters of a page that are not zero. -/
def pageVals (s : State) (p : Nat) (coarse : Bool) : Tbl Nat :=
  (rangeFrom 0 (groupNum p)).filterMap fun i =>
    let v := counter s p i
    let v := if coarse then coarsen v else v
    if v = 0 then none else some (i, v)

/-- Capture every counter into the next slot, at a time in steps of 10 ns (Table 21-4). -/
def capture (s : State) (coarse : Bool) : State :=
  let g := s.ctr.gen + 1
  let recs := counterPages.map fun p =>
    let a := groupAccess s p
    (⟨p, groupNum p, a.1, a.2, pageVals s p coarse⟩ : CapRecord)
  let x : Snapshot := { gen := g, time := s.now / 10 * 10, coarse := coarse, restart := s.ctr.restart, recs := recs }
  wr { s with ctr := { s.ctr with slots := tput s.ctr.slots (g % 64) x, gen := g, restart := false } }
    (ra pgCTR 0x104) (g % 4294967296)

/-- COUNTER_CAPTURE (R470). In confidential mode a capture is the one of the millisecond boundary (R473). -/
def execCounterCapture (s : State) : Result :=
  guarded (rb s (ra pgCTR 0x100) 0 && decide (s.pwr.held = 0)) s fun s =>
    if confidential s then { (capture s true) with sec := { s.sec with confNext := false } } else capture s false

/-! ## The layout of a slot (Table 21-4) -/

/-- The 64-byte header. -/
def slotHeader (x : Snapshot) : Bytes :=
  natLe 8 x.gen ++ natLe 8 x.time ++ natLe 4 415 ++
  natLe 4 ((if x.coarse then 1 else 0) + (if x.restart then 2 else 0)) ++ zeros 40

/-- A record: the descriptor and 32 counters. -/
def capRecordBytes (r : CapRecord) : Bytes :=
  natLe 8 (r.page + r.num * 4096 + r.acc * 262144 + r.dom * 1048576) ++
  ((rangeFrom 0 32).flatMap fun i => natLe 8 (tgetD r.vals i 0))

/-- Byte `o` of a slot. -/
def slotByte (x : Snapshot) (o : Nat) : Byte :=
  if o < 64 then (slotHeader x).getD o 0
  else if o < 64 + 264 * 415 then
    match x.recs[(o - 64) / 264]? with
    | some r => (capRecordBytes r).getD ((o - 64) % 264) 0
    | none => 0
  else if 0x1FFF8 ≤ o ∧ o < 0x20000 then (natLe 8 x.gen).getD (o - 0x1FFF8) 0
  else 0

/-- A word of CTR.RD_DATA, for identities 0x002 and 0x010 to 0x014 (R483). -/
def ctrData (s : State) (id k : Nat) : Nat :=
  let i := ri s id (ra pgCTR 0x108)
  match tget s.ctr.slots (fld i 0 6) with
  | some x =>
    if isFw id then leNat ((rangeFrom (fld i 6 11 * 64 + 4 * k) 4).map (slotByte x)) else 0
  | none => 0

/-! ## COUNTER_SNAPSHOT (R474, R475) -/

def snapMode (o : Op) : Nat := fld (opnd o 0x10 4) 0 2
def snapFirst (o : Op) : Nat := fld (opnd o 0x14 4) 0 12
def snapPages (o : Op) : Nat := fld (opnd o 0x14 4) 12 13
def snapDest (o : Op) : Nat := opnd o 0x20 8
def snapCap (o : Op) : Nat := opnd o 0x28 4

/-- A queue of domain `q` may read a captured group (Table 21-3). -/
def snapGranted (s : State) (q : Nat) (r : CapRecord) : Bool :=
  if r.acc = 2 then decide (r.dom = q) else decide (r.acc = 1) && !confidential s

/-- Write the output at DEST, or end with the status that refuses it. -/
def snapWrite (s : State) (h : Nat) (o : Op) (bs : Bytes) (res : List Nat) : State :=
  let u := opUser o (.fetch h) h
  let n := bs.length
  if snapDest o % 64 ≠ 0 ∨ (userPlace s u (snapDest o) true).isNone ∨ (userPlace s u (snapDest o + n - 1) true).isNone then
    endWith s h stNotPermitted [0, 0, 0, 0]
  else if snapCap o < n then endWith s h stQuota [0, 0, 0, 0]
  else match userWrite s u (snapDest o) bs 0 .atomic with
    | .done _ s => endWith s h stOk res
    | .wait s => s
    | .refuse st s => endWith s h st [0, 0, 0, 0]

/-- COUNTER_SNAPSHOT_PAGES (R474): MODE 0; modes 2 and 3 are refused. It waits for the first capture. -/
def execCounterSnapshotPages (h : Nat) (s : State) : Result :=
  match ready s h 0x32 with
  | none => .next s
  | some o =>
    if snapMode o = 1 then .next s
    else if snapMode o ≠ 0 ∨ snapPages o = 0 ∨ 4096 < snapPages o then .next (endWith s h stNotPermitted [0, 0, 0, 0])
    else match newest s with
      | none => .next s
      | some x =>
        let rs := x.recs.filter fun r =>
          decide (snapFirst o ≤ r.page) && decide (r.page < snapFirst o + snapPages o) && snapGranted s o.dom r
        let bs := slotHeader x ++ rs.flatMap capRecordBytes
        .next (snapWrite s h o bs [x.gen % 4294967296, rs.length, snapPages o - rs.length, bs.length])

/-- The operation report (Table 21-6). -/
def reportBytes (h : Nat) (t : Op) : Bytes :=
  let st := match t.phase with
    | .suspended => 2
    | .ending | .ended => 3
    | _ => 1
  natLe 4 h ++ natLe 4 st ++ natLe 8 t.slots.retired ++ natLe 8 t.slots.wasted ++ natLe 8 t.slots.front ++
  natLe 8 t.slots.back ++ natLe 8 t.committed ++ natLe 8 t.bytesAdmitted ++ zeros 8

/-- COUNTER_SNAPSHOT_OPERATION (R475): MODE 1. -/
def execCounterSnapshotOperation (h : Nat) (s : State) : Result :=
  match ready s h 0x32 with
  | none => .next s
  | some o =>
    if snapMode o ≠ 1 then .next s
    else
      let hd := opnd o 0x18 4
      match opOf s hd with
      | none => .next (endWith s h stNotPermitted [0, 0, 0, 0])
      | some t =>
        if t.dom ≠ o.dom ∨ ¬ (t.slot ∨ t.released ≠ 0) ∨ confidential s then
          .next (endWith s h stNotPermitted [0, 0, 0, 0])
        else
          let g := ((newest s).map fun x => x.gen % 4294967296).getD 0
          .next (snapWrite s h o (reportBytes hd t) [g, 0, 0, 64])

end Sys2Proof.Machine
end

