-- ==== Sys2Proof/Machine/RegWrite.lean ====
section
/-!
DEFINITION. Writes of register fields that have no behaviour of their own (R7, R9, R487, R491, R493), with the identity
checks of each block's chapter and the data registers that reach a table through an index register.
-/
namespace Sys2Proof.Machine

/-! ## Who may write -/

/-- An identity may write a register, by the rule of its block's chapter. -/
def mayWrite (id p off : Nat) : Bool :=
  if off = 0x008 then (if p = pgSEC ∨ p = pgMBXC ∨ p = pgHHD then decide (id = 2) else isFw id)      -- R489
  else if off = 0x02C then isFw id                                                                    -- R468
  else if off < 0x100 then true
  else if p = pgTOP then decide (id = 1) || isFw id                                                   -- R495
  else if p = pgPWR then off = 0x104 || decide (id = 2)                                               -- R465
  else if p = pgRST then off = 0x104 || decide (id = 2)
  else if p = pgPAIR ∨ p = pgFWU ∨ p = pgSEC ∨ p = pgHHD ∨ p = pgMBXC then decide (id = 2)            -- R418
  else if p = pgFLT then
    (if off = 0x134 then isCp id else [0x118, 0x120, 0x124, 0x128].contains off || isFw id)           -- R380
  else if p = pgXLT then isCp id                                                                      -- R55
  else if p = pgDIR then 0x108 < off || isFw id                                                       -- R79
  else if p = pgALLOC then isFw id                                                                    -- R496
  else if p = pgRTE then ! [0x10C, 0x110, 0x118, 0x11C, 0x124, 0x12C].contains off || isFw id          -- R297
  else if p = pgCXLP then 0x110 ≤ off || isFw id                                                      -- R319
  else if 0x20 ≤ p ∧ p ≤ 0x37 then off < 0x130 || isFw id                                             -- R341
  else if 0x80 ≤ p ∧ p ≤ 0xBF then off ≠ 0x144 || isFw id                                             -- R355
  else if 0x100 ≤ p ∧ p ≤ 0x1FF then (off ≠ 0x12C && off ≠ 0x130) || isFw id                          -- R148
  else true

/-! ## Fields that a write cannot reach -/

/-- Fields of a register that a write may set as things stand. -/
def openFields (s : State) (p off : Nat) (fs : List Field) : List Field :=
  let cmdq := decide (0x100 ≤ p) && decide (p ≤ 0x1FF)
  if 0x020 ≤ off ∧ off < 0x040 ∧ groupNum p = 0 then []                                  -- no counters (R467)
  else if off = 0x02C ∧ 0x100 ≤ p then []                                                -- CNT_GRP of queue pages (R468)
  else if cmdq && decide (off = 0x100 ∨ off = 0x104) && rb s (ra p 0x108) 6 then []       -- R148
  else if cmdq && decide (off = 0x114 ∨ off = 0x118) && rb s (ra p 0x11C) 6 then []
  else if p = pgCXLP ∧ off < 0x110 ∧ rb s (ra pgCXLP 0x114) (4 + (off - 0x100) / 4) then []   -- R319
  else if 0x40 ≤ p ∧ p ≤ 0x55 ∧ off = 0x100 then
    fs.filter fun f => f.lo ≠ 0 && (f.lo ≠ 6 || !rb s (ra p 0x100) 0)                     -- EN and NDC (R274, R382)
  else fs

/-- The fields whose limits other fields set keep their old values where a write breaks them: PIN_BASIN_LIMIT (R119),
WR_LO with WR_HI (Table 14-5), LOW_PM with HIGH_PM (Table 6-8), RETRAIN_AFTER (Table 11-12), and SPARE_MASK
(Table 6-9). -/
def crossFields (s : State) (p off old new : Nat) : Nat :=
  if p = pgALLOC ∧ off = 0x100 ∧ (rf s (ra pgTIER 0x110) 18 6 * 64 - 512) / 2 < fld new 0 12 then old
  else if 0x20 ≤ p ∧ p ≤ 0x37 ∧ off = 0x108 ∧ fld new 0 6 ≤ fld new 6 6 then setFld new 0 12 (fld old 0 12)
  else if p = pgTIER ∧ off = 0x108 ∧ fld new 11 10 ≤ fld new 1 10 then setFld new 1 20 (fld old 1 20)
  else if 0x40 ≤ p ∧ p ≤ 0x55 ∧ off = 0x108 ∧ fld new 20 4 ≤ fld new 16 4 then setFld new 20 4 (fld old 20 4)
  else if p = pgCIS ∧ off = 0x104 ∧ 2 < popc 16 new then old
  else new

/-! ## Data registers behind an index -/

/-- A data register that stands for a table entry: the state after the write, or none for another register. -/
def dataWrite (s : State) (id p off v : Nat) : Option State :=
  if p = pgWEIR ∧ off = 0x188 then                                     -- CLASS_MASK of REQ_IDX (Table 5-8)
    some { s with weir := { s.weir with mask := tset 0 s.weir.mask (fld (ri s id (ra p 0x184)) 0 13) (fld v 0 7) } }
  else if p = pgWEIR ∧ off = 0x304 then                                -- GATE_DATA of GATE_IDX (Table 5-12)
    let i := ri s id (ra p 0x300)
    some { s with weir := { s.weir with
      shadow := tset (0, 0) s.weir.shadow (fld i 0 5 * 64 + fld i 5 6) (fld v 0 24, BitVec.ofNat 8 (fld v 24 8)) } }
  else if p = pgALLOC ∧ 0x10C ≤ off ∧ off < 0x120 then                 -- Q_LIMITk of Q_IDX (Table 22-7)
    let k := fld (ri s id (ra p 0x108)) 0 10 * 8 + (off - 0x10C) / 4
    some { s with alloc := { s.alloc with limits := tset 0 s.alloc.limits k v } }
  else if p = pgRTE ∧ (off = 0x10C ∨ off = 0x110) then                 -- ENT_DATA of ENT_IDX, the shadow (R294)
    let e := fld (ri s id (ra p 0x108)) 0 12
    let x := shadowOf s e
    let y := if off = 0x10C then (BitVec.ofNat 20 v, x.2.1, v.testBit 20) else (x.1, BitVec.ofNat 20 v, x.2.2)
    some { s with route := { s.route with shadow := tput s.route.shadow e y } }
  else if p = pgRTE ∧ off = 0x124 then                                 -- MC_DATA of MC_IDX
    let g := fld (ri s id (ra p 0x120)) 0 8
    if 4096 < fld v 0 12 + fld v 12 13 ∨ 4096 < fld v 12 13 then some s
    else some { s with route := { s.route with
      groups := tset (0, 0, false) s.route.groups g (fld v 0 12, fld v 12 13, v.testBit 25) } }
  else if p = pgRTE ∧ off = 0x12C then                                 -- MEM_DATA of MEM_IDX
    some { s with route := { s.route with
      members := tset (0, false) s.route.members (fld (ri s id (ra p 0x128)) 0 12) (fld v 0 12, v.testBit 12) } }
  else if 0x20 ≤ p ∧ p ≤ 0x37 ∧ off = 0x134 then                       -- DLY_DATA of DLY_IDX (R331)
    let i := ri s id (ra p 0x130)
    let k := ((p - 0x20) * 4 + fld i 8 1 * 2 + fld i 7 1) * 128 + fld i 0 7
    some { s with dram := { s.dram with shadow := tset 0 s.dram.shadow k (fld v 0 10) } }
  else none

/-- Hot spares that SPARE_MASK names (Table 16-10). -/
def spareLedger (s : State) : State :=
  wf s (ra pgFLT 0x138) 22 2 (min 3 (popc 16 (rf s (ra pgCIS 0x104) 0 16)))

/-- What follows a change of a register: the hot spares that CIS.SPARE names (R138, Table 16-10), and the depth of a class's
buckets (R106). -/
def afterWrite (s : State) (p off old : Nat) : State :=
  if p = pgCIS ∧ off = 0x104 then spareAll (spareLedger s)
  else if p = pgWEIR ∧ 0x120 ≤ off ∧ off < 0x13C then
    reburst s ((off - 0x120) / 4) (fld old 0 20) (scBurst s ((off - 0x120) / 4))
  else s

/-- A write of a register whose fields have no behaviour of their own: identity, reserved encodings and locks applied
(R7, R9). -/
def plainWrite (s : State) (id p off v : Nat) : State :=
  match regDesc p off with
  | none => s
  | some d =>
    if !mayWrite id p off then s
    else match dataWrite s id p off v with
      | some s => s
      | none =>
        let a := ra p off
        let fs := openFields s p off d.fields
        if d.perId then wi s id a (writeFields (locked s p) (ri s id a) v fs)
        else
          let old := rd s a
          afterWrite (wr s a (crossFields s p off old (writeFields (locked s p) old v fs))) p off old

end Sys2Proof.Machine
end

