-- ==== Sys2Proof/Machine/Profile.lean ====
section
/-!
DEFINITION. Stored profiles (R478 to R481): their checks, their loading, and SET_PROFILE.
-/
namespace Sys2Proof.Machine

/-! ## The checks of Table 21-8 -/

/-- The partition keeps Tables 4-1 and 6-1. -/
def partitionOk (x : Profile) : Bool :=
  [0, 3, 6, 12].contains x.dirG && decide (4 ≤ x.scratchG) && decide (x.scratchG ≤ 16) && decide (32 ≤ x.cacheG) &&
  decide (x.cacheG ≤ 56) && decide (4 + x.dirG + x.scratchG + x.cacheG = 64)

/-- A REGISTERS record sets RW or RWL fields alone, to values that are not reserved. -/
def recordOk (r : RegRecord) : Bool :=
  match regDesc r.page r.offset with
  | none => false
  | some d =>
    let covered := d.fields.foldl (fun m f => m + (2 ^ f.w - 1) * 2 ^ f.lo) 0
    decide (Nat.land r.mask.toNat covered = r.mask.toNat) && d.fields.all fun f =>
      fld r.mask.toNat f.lo f.w = 0 ||
        ((f.acc = .rw || f.acc = .rwl) && decide (f.minv ≤ fld r.value.toNat f.lo f.w) &&
          decide (fld r.value.toNat f.lo f.w ≤ f.maxv))

/-- Routes, groups, members and agents lie in the ranges of Table 12-8. -/
def routesOk (x : Profile) : Bool :=
  (x.routes.all fun r => decide (r.1 < 4096)) &&
  (x.groups.all fun g => decide (g.1 < 256) && decide (g.2.1 + g.2.2 ≤ 4096)) &&
  (x.members.all fun m => decide (m.1 < 4096) && decide (m.2 < 4096)) &&
  (x.agents.all fun a => decide (a.1 < 256) && decide (a.2 < 4096))

/-- Capacity of the modules in GB, by DRAM0.STAT.MODULE. -/
def moduleGb (s : State) : Nat :=
  match rf s (ra 0x20 0x104) 2 2 with
  | 1 => 32
  | 2 => 64
  | 3 => 128
  | _ => 0

/-- A record of DRAM.CFG: MAP and SPEED wait for a cold reset (R481). -/
def dramCfg (r : RegRecord) : Bool := decide (0x20 ≤ r.page) && decide (r.page ≤ 0x37) && decide (r.offset = 0x100)

/-- The records that set DRAM.CFG.SPEED set the speed that IDENT expects (R321, Table 21-8; DEDUCED, log entry 98). -/
def speedOk (x : Profile) : Bool :=
  x.regs.all fun r => !dramCfg r || !r.mask.getLsbD 2 || r.value.getLsbD 2 == x.speed9600

/-- PROF.STAT.FAIL of a profile against modules of a capacity: 0 where it is accepted (R479, Table 21-11). -/
def profileFail (gb : Nat) (x : Profile) : Nat :=
  if !x.sectionsOk then 2
  else if !partitionOk x then 3
  else if (x.cacheG * 64 - 512) / 2 < x.pinLimit then 4
  else if x.moduleGb ≠ gb ∨ !x.timingOk ∨ !speedOk x then 5
  else if !(x.gates.all fun g => decide (g.1 ≤ 20) && decide (10 ≤ g.2.1) && decide (g.2.1 ≤ 1000) &&
      decide (g.2.2.length ≤ 64) && gateListOk g.2.2 g.2.1) then 6
  else if !(x.regs.all recordOk) then 7
  else if !routesOk x then 8
  else 0

/-- The profile that the loader would read from a slot (R435). -/
def storedProfile (s : State) (n : Nat) : Option Profile :=
  let x := imgType s (8 + n)
  let c := if x.state = 3 ∨ (x.state = 1 ∧ x.boots = 0) ∨ ¬ copyOk x.a then x.b else x.a
  if x.state = 4 ∨ ¬ copyOk c then none else c.profile

/-! ## Loading -/

def profStat : Nat := ra pgPROF 0x100

/-- One record, by the loader: under its mask, and past the identity checks. -/
def applyRecord (s : State) (r : RegRecord) : State :=
  let id := if mayWrite 0x010 r.page r.offset then 0x010 else 2
  let a := ra r.page r.offset
  let old := match regDesc r.page r.offset with
    | some d => if d.perId then ri s id a else rd s a
    | none => 0
  plainWrite s id r.page r.offset (Nat.lor (Nat.land r.value.toNat r.mask.toNat) (old - Nat.land old r.mask.toNat))

/-- The partition of a profile in force (R116, R119, R493). -/
def applyPartition (s : State) (x : Profile) : State :=
  let s := wr s (ra pgTIER 0x110) (4 + x.dirG * 64 + x.scratchG * 4096 + x.cacheG * 262144)
  let s := wf s (ra pgDIR 0x110) 0 2 (if x.dirG = 0 then 0 else if x.dirG = 3 then 1 else if x.dirG = 6 then 2 else 3)
  wr (wr s (ra pgTIER 0x11C) (x.cacheG * 1024)) (ra pgALLOC 0x100) x.pinLimit

/-- Routes, groups, members and the agent table (section 0x6). -/
def applyRoutes (s : State) (x : Profile) : State :=
  let s := x.routes.foldl (fun s r => setRoute s r.1
    (freshRoute s { valid := true, ports := r.2.1, alt := r.2.2 })) s
  let s := { s with route := { s.route with
    groups := x.groups.foldl (fun t (g : Nat × Nat × Nat) => tput t g.1 (g.2.1, g.2.2, true)) s.route.groups
    members := x.members.foldl (fun t (m : Nat × Nat) => tput t m.1 (m.2, true)) s.route.members } }
  { s with dir := { s.dir with
    agents := x.agents.foldl (fun t (a : Nat × Nat) => tput t a.1 { eid := a.2, valid := true }) s.dir.agents } }

/-- Gate lists (section 0x7): in force from the load. -/
def applyGates (s : State) (x : Profile) : State :=
  x.gates.foldl (fun s g =>
    let s := wf (wf s (ra pgWEIR (0x280 + 4 * g.1)) 0 10 g.2.1) (ra pgWEIR (0x280 + 4 * g.1)) 10 7 g.2.2.length
    setGate s g.1 { active := g.2.2, since := s.now }) s

/-- Differences of DRAM settings that wait for a cold reset (R481). -/
def dramDiffs (s : State) (x : Profile) : State :=
  let rs := x.regs.filter dramCfg
  let differs (lo w : Nat) : Bool := rs.any fun r =>
    decide (fld r.mask.toNat lo w ≠ 0) && decide (fld r.value.toNat lo w ≠ rf s (ra r.page 0x100) lo w)
  wb (wb (wb s profStat 6 (differs 0 2)) profStat 7 (differs 2 1)) profStat 8 (decide (x.timing ≠ s.dram.timing))

/-- Apply a profile's sections in ID order; every bucket is full then. At a cold reset the DRAM settings take effect; at a warm one they wait,
and routes and agents are those of the restored state (R456). -/
def applyProfile (s : State) (x : Profile) (cold : Bool) : State :=
  let s := applyPartition s x
  let s := if cold then { s with dram := { s.dram with timing := x.timing } } else dramDiffs s x
  let s := { s with alloc := { s.alloc with limits := x.quotas } }
  let s := (x.regs.filter fun r => cold || !dramCfg r).foldl applyRecord s
  let s := { s with weir := { s.weir with missing := [], lack := [] } }
  let s := if cold then applyRoutes s x else s
  applyGates (wr s (ra pgPROF 0x104) x.version) x

/-- Select, check and load profile `n`: none where it is refused, with FAIL set (R435, R479). -/
def loadProfile (s : State) (n gb : Nat) (cold : Bool) : Option State × State :=
  match selectImage s (8 + n) with
  | (none, s) => (none, wf s profStat 10 4 1)
  | (some c, s) =>
    match c.profile with
    | none => (none, wf s profStat 10 4 2)
    | some x =>
      let e := profileFail gb x
      if e ≠ 0 then (none, wf s profStat 10 4 e)
      else
        let s := wb (wf (wf s profStat 10 4 0) profStat 0 2 n) profStat 9 (imgType s (8 + n)).runB
        let s := applyProfile s x cold
        (some s, s)

/-! ## SET_PROFILE (R480) -/

def setProfileByte (o : Op) : Nat := opnd o 0x10 1

/-- SET_PROFILE (R480): the stored profile is checked at once and recorded as pending. -/
def execSetProfile (h : Nat) (s : State) : Result :=
  match ready s h 0x30 with
  | none => .next s
  | some o =>
    if bitN (setProfileByte o) 2 then .next s
    else
      let n := fld (setProfileByte o) 0 2
      match storedProfile s n with
      | none => .next (endWith s h stNotPermitted [0, 0, 0, 0])
      | some x =>
        if profileFail (moduleGb s) x ≠ 0 ∨ (x.dirG = 0 ∧ s.alloc.regions.any fun e => e.2.coherent) then
          .next (endWith s h stNotPermitted [0, 0, 0, 0])
        else if x.pinLimit < pinnedBasin s then .next (endWith s h stQuota [0, 0, 0, 0])
        else .next (endWith (wb (wf s profStat 2 2 n) profStat 4 true) h stOk [x.version, 0, 0, 0])

/-- SET_PROFILE_CANCEL (R480). -/
def execSetProfileCancel (h : Nat) (s : State) : Result :=
  match ready s h 0x30 with
  | none => .next s
  | some o =>
    if bitN (setProfileByte o) 2 then .next (endWith (wf s profStat 2 3 0) h stOk [0, 0, 0, 0]) else .next s

end Sys2Proof.Machine
end

