-- ==== Sys2Proof/Machine/Power.lean ====
section
/-!
DEFINITION. Supplies, clocks, resets, start-up, power levels and temperature (chapter 20).
-/
namespace Sys2Proof.Machine

def rstStat : Nat := ra pgRST 0x108
def setCause (s : State) (b : Nat) : State := wb s (ra pgRST 0x104) b true
def setPhase (s : State) (n : Nat) : State := wf s rstStat 0 4 n
def startedUp (s : State) : Bool := decide (rf s rstStat 0 4 = 15)

/-! ## Cold reset and the states that hold reset (R444, R445, R449, R450) -/

/-- Rows of the remapped-row list: those that a channel remaps or has repaired (R339). -/
def rowList (s : State) : Tbl (List Nat) :=
  (rangeFrom 0 24).filterMap fun ch =>
    let ks := ((s.dram.remap.filter fun e => e.1 / 4096 = ch).map Prod.snd) ++ tgetD s.dram.rows ch []
    if ks.isEmpty then none else some (ch, ks.eraseDups)

/-- What no reset of the controller touches: flash, fuses, the sticky CAUSE, repaired rows, what has left the block and
what waits to reach it. -/
def coldBase (s : State) : State :=
  { State.reset with
    fresh := s.fresh, out := s.out, pending := s.pending
    regs := tfilter s.regs fun a _ => a = ra pgRST 0x104
    fw := { types := s.fw.types, minSvn := s.fw.minSvn, setOld := s.fw.setOld, setNew := s.fw.setNew }
    dram := { ppr := s.dram.ppr, rows := rowList s }
    basin := { cols := s.basin.cols }
    sec := { confForce := s.sec.confForce }
    pwr := { aon := s.pwr.aon, order := s.pwr.order } }

/-- COLD_RESET (R450): a rail or clock cause that held reset ends with it, but not a broken rail order (R444). An update
that ran leaves its type INCOMPLETE (R433). -/
def execColdReset (perst : Bool) (s : State) : Result :=
  let straps := rf s rstStat 4 4
  let latched := perst && (decide (s.pwr.held ≠ 1) || s.pwr.perst)
  let t := setCause (coldBase (dropTransfer s)) (if perst then 1 else 0)
  let t := { t with pwr := { t.pwr with perst := latched } }
  let t := if latched then wf t rstStat 4 4 straps else t
  let t := put (put t (.pin "CIS_PERST_N" false)) (.pin "THERMTRIP_N" true)
  .next (put t (.pin "ALERT_N" (!s.pwr.order)))

/-- Every domain but the always-on one is held in reset with ALERT_N asserted (R444, R445). Holhild's tables, the pair
supervisor and the sideband stand. -/
def holdReset (s : State) (cause : Nat) : State :=
  let t := coldBase (dropTransfer s)
  let aon (a : Nat) : Bool := decide (resetDomain (a / 4096) = .aon) || keptReg a
  let t := { t with
    now := s.now, regs := tfilter s.regs fun a _ => aon a, idx := tfilter s.idx fun k _ => aon (k % 16777216)
    sec := s.sec, pair := s.pair, side := s.side
    pwr := { t.pwr with held := 2, perst := s.pwr.perst } }
  put (setCause t cause) (.pin "ALERT_N" false)

/-- RAIL_ORDER (R444): a breach of more than 20 ms lies outside the part's ratings. -/
def execRailOrder (breachMs : Nat) (s : State) : Result :=
  if 20 < breachMs then .fault .outsideRatings
  else
    guarded (s.pwr.aon && decide (s.pwr.held = 1)) s fun s =>
      let s := holdReset s 4
      { s with pwr := { s.pwr with order := true } }

/-- RAIL_DROP (R445): rail 0 is VDD_AON. -/
def execRailDrop (rail : Nat) (s : State) : Result :=
  guarded (s.pwr.aon && decide (0 < rail) && decide (rail < 9) && decide (s.pwr.held ≠ 1)) s fun s => holdReset s 5

/-- REF_LOST (R448): the always-on domain runs from its oscillator. -/
def execRefLost (pll : Bool) (s : State) : Result :=
  guarded (s.pwr.aon && decide (s.pwr.held ≠ 1)) s fun s =>
    wr (holdReset s 6) (ra pgCLK 0x100) (4 + if pll then 2 else 0)

/-- THERMTRIP (R461): by hardware, until a cold reset. -/
def execThermtrip (s : State) : Result :=
  guarded s.pwr.aon s fun s =>
    let s := holdReset s 7
    put { s with pwr := { s.pwr with tripped := true } } (.pin "THERMTRIP_N" false)

/-- VDD_AON_LOSS (R449): the sticky domain resets too, and the class A outputs float to the board's pull-ups (R507). -/
def execVddAonLoss (s : State) : Result :=
  let t := coldBase (dropTransfer s)
  let t := { t with regs := [], pwr := { held := 1, aon := false } }
  .next (put (put (put t (.pin "CIS_PERST_N" true)) (.pin "THERMTRIP_N" true)) (.pin "ALERT_N" true))

/-- VDD_AON_VALID (R444, R507): the monitors watch, and the class A pins are valid. -/
def execVddAonValid (s : State) : Result :=
  guarded (!s.pwr.aon) s fun s =>
    let s := { s with pwr := { s.pwr with aon := true } }
    put (put (put s (.pin "CIS_PERST_N" false)) (.pin "THERMTRIP_N" true)) (.pin "ALERT_N" true)

/-! ## Cold start (R452, R453, Table 20-4) -/

/-- Start-up stops (R453): a FATAL event of class CONFIG, ALERT_N, and every domain but the always-on one held. PHASE
gives the row, counted from 0. -/
def bootFails (s : State) (phase : Nat) (raised : Bool) : State :=
  let s := if raised then s else eventAt s pgRST sevFatal clConfig phase
  { (setPhase s phase) with pwr := { s.pwr with held := 2 } }

/-- 0 ms: straps latched on the rise of PWRGD (R451); 0.2 ms: the PLL has locked. Fuses are read. -/
def bootStraps (s : State) (b : BootInput) : State :=
  let straps := if s.pwr.perst then rf s rstStat 4 4 else b.profileSel % 4 + b.pairRole % 2 * 4 + b.sbMode % 2 * 8
  let s := { s with now := 0, pwr := { s.pwr with held := 0, perst := false, tripped := false } }
  let s := { s with fw := { s.fw with types := b.flash.getD s.fw.types }, sec := { s.sec with confForce := b.confForce } }
  let s := wf (setPhase s 2) rstStat 4 4 straps
  let s := wf (wf s (ra pgPAIR 0x100) 0 1 (fld straps 2 1)) profStat 0 2 (fld straps 0 2)
  let s := wr s (ra pgCLK 0x100) 3
  let s := wb s (ra pgSEC 0x120) 1 b.confForce
  if b.confForce then wf s (ra pgSEC 0x124) 0 2 2 else s

/-- The measurements of what is loaded (Table 18-3). -/
def bootMeasure (s : State) : State :=
  let h (t : Nat) : BitVec 256 := Config.sha256 (loadedCopy s t).body
  { s with sec := { s.sec with
    measured := [Config.romHash, h 2, h 1, h 4, h 5, h 6, h 7, h (8 + rf s profStat 0 2)] } }

/-- 20 ms: Holhild firmware runs and generates the device key in slot 1,024 (R414, R420). -/
def bootHolhild (s : State) : State :=
  let (k, s) := drawRandom s
  let mins := ([1, 2] ++ rangeFrom 4 8).foldl (fun m t => tset 0 m t (Config.policyMin (loadedCopy s 3).body t)) []
  setPhase { s with
    sec := { s.sec with keys := tput s.sec.keys 1024 ⟨2, k⟩, aliasOf := Config.sha256 (loadedCopy s 2).body }
    fw := { s.fw with minSvn := mins } } 4

/-- Every channel holds a module of Table 14-1 of one capacity (R320). -/
def modulesOk (b : BootInput) : Bool :=
  decide (b.modules.length = 24) && [32, 64, 128].contains (b.modules.headD 0) &&
  b.modules.all fun g => decide (g = b.modules.headD 0)

/-- Repair or remap the listed rows of a channel (R339): whether the row's bank group reports a free repair resource is
the module's to say, a free value (log entry 46). -/
def bootRows (s : State) (ch : Nat) : State :=
  (tgetD s.dram.rows ch []).foldl (fun s key =>
    let (v, s) := drawFree s
    if v.getLsbD 0 then
      { s with dram := { s.dram with ppr := tput s.dram.ppr ch (insNat key (tgetD s.dram.ppr ch [])) } }
    else match freeSlot s ch with
      | some k => remapInstall s ch k key
      | none => wb s (drCmd ch) 3 true) s

/-- 45–70 ms: modules, temperatures, repaired rows; the channels open (R330). -/
def bootDram (s : State) (b : BootInput) : State :=
  let code := if b.modules.headD 0 = 32 then 1 else if b.modules.headD 0 = 64 then 2 else 3
  let s := (rangeFrom 0 24).foldl (fun s ch =>
    let t := nth b.temps ch 0 % 256
    let s := bootRows s ch
    wf s (drStat ch) 0 18 (2 + code * 4 + min 11 (t / 10) * 16 + t * 256 + (if 85 ≤ t then 65536 else 0))) s
  setPhase { s with dram := { s.dram with rows := [] } } 6

/-- Drives that root ports find, once CIS.CFG.EN is set: their bring-up begins. -/
def bootDrives (s : State) (b : BootInput) : State :=
  if rb s (ra pgCIS 0x100) 0 then
    put ((b.drives.filter fun d => decide (d.1 < 16)).foldl (fun s d => setDrv s d.1 1) s) (.pin "CIS_PERST_N" true)
  else s

/-- 85 ms: the DRAM system area takes 256 B for each backing unit and 20 MiB, in whole GiB (R121); every frame outside
it is free. Units lie in DRAM and on the drives that become ACTIVE: none while CIS.CFG.EN is 0, and no hot spare
(R120, R138). -/
def bootArea (s : State) (b : BootInput) : State :=
  let frames := ((rangeFrom 0 24).map fun ch => chanBytes s ch / 65536).sum
  let drives := b.drives.filter fun d => rb s (ra pgCIS 0x100) 0 && decide (d.1 < 16) && !spareMask s d.1
  let cis := (drives.map fun d => min d.2 233918112).sum
  let area := ceilDiv ((frames + cis) / 32 * 256 + 20971520) 1073741824
  let s := { s with tier := { s.tier with dramFrames := frames - area * 16384 } }
  setPhase (drvGauges (wr s (ra pgTIER 0x114) (dramFree s))) 7

/-- Holhild writes the mailbox bindings and locks them (R313). -/
def lockMailboxes (s : State) (ms : List (Nat × Nat × Nat)) : State :=
  let ok := ms.filter fun m =>
    decide (m.1 < 63) && decide (m.2.1 ≠ m.2.2) && mbxIdentity m.2.1 && mbxIdentity m.2.2
  let s := { s with mbx := { s.mbx with
    binds := ok.foldl (fun t m => tset {} t m.1 { sender := m.2.1, receiver := m.2.2, valid := true }) s.mbx.binds } }
  wb s (ra pgMBXC 0x008) 2 true

/-- Bandwidth that the CDAT reports: the lower of 55 GB/s and the rate of the CXL_SC class (R311). -/
def cdatBandwidth (s : State) : State :=
  { s with cxl := { s.cxl with bandwidth := min 55000 (scRate s (cxlClass s)) } }

/-- 300 ms: processors run; the mailboxes are locked; the Runnel trains; then the pair decision is awaited. -/
def bootServe (s : State) (ms : List (Nat × Nat × Nat)) : State :=
  let s := lockMailboxes (cdatBandwidth s) ms
  let s := { s with fault := { s.fault with kicks := List.replicate 5 s.now } }
  let s := portUp (portUp s 20) 21
  setPhase (modPair s fun p => { p with booting := true }) 8

/-- The rows from 20 ms on. -/
def bootImages (s : State) (b : BootInput) : State :=
  match selectAll s [1, 2, 3] with
  | (none, s) => bootFails s 3 true
  | (some s, _) =>
    let s := bootHolhild s
    if !modulesOk b then bootFails s 5 false
    else match loadProfile s (rf s profStat 0 2) (b.modules.headD 0) true with
      | (none, s) => bootFails s 4 (decide (rf s profStat 10 4 = 1))
      | (some s, _) =>
        match selectAll s [7, 6] with
        | (none, s) => bootFails s 4 true
        | (some s, _) =>
          let s := bootArea (bootDrives (bootDram (setPhase s 5) b) b) b
          let s := wb s (ra pgCLK 0x100) 3 (rb s (ra pgDRAM 0x100) 2)
          match selectAll s [4, 5] with
          | (none, s) => bootFails s 7 true
          | (some s, _) => bootServe (bootMeasure s) b.mailboxes

/-- COLD_START (R452, R453): up to the pair decision of Table 17-2, which BOOT_WAIT_EXPIRY or the partner's heartbeats
bring, and which completes start-up. -/
def execColdStart (boot : BootInput) (s : State) : Result :=
  guarded (decide (s.pwr.held = 1) && s.pwr.aon && !s.pwr.order) s fun s =>
    let s := bootStraps s boot
    if !boot.coreOk then bootFails s 3 false else bootImages s boot

/-! ## Warm reset (R455, R456, Table 20-5) -/

/-- Step 2: what runs is settled. A stream's tiles settle as CANCEL settles them; its final completion carries INTERNAL
and its committed count. -/
def warmSettle (s : State) (h : Nat) : State :=
  match opOf s h with
  | none => s
  | some o =>
    if o.opcode = 0x01 ∨ o.phase = .suspending then
      let s := beginCancel (modOp s h fun o => { o with phase := .running }) h
      modOp s h fun o => { o with cond := addCond (o.cond - Nat.land o.cond (condOf stPartial)) stInternal }
    else endWith (leaveQueue s h) h stInternal [0, 0, 0, o.committed]

/-- Steps 1 to 4 begin: admission ends, work settles, every agent's lines are recalled, moves are abandoned. -/
def warmBegin (s : State) : State :=
  let s := wb s (ra pgWEIR 0x180) 0 false
  let s := { s with pwr := { s.pwr with warm := 2 }, tier := { s.tier with lehrOn := false } }
  let hs := tkeys s.cmd.ops fun _ o => decide (o.phase ≠ .ended) && decide (o.phase ≠ .ending) && decide (o.phase ≠ .suspended)
  let s := hs.foldl warmSettle s
  let s := s.tier.moves.foldl abandonMove s
  recallLines s (fun _ => true) false

/-- Steps 1 to 3 have ended: no tile is in its sink, no line is cached. -/
def warmSettled (s : State) : Bool := s.cmd.tiles.isEmpty && s.dir.entries.isEmpty && s.dir.trans.isEmpty

/-- Step 4: CACHE frames are released and the channels drain. -/
def warmRelease (s : State) : State :=
  let s := (tkeys s.tier.subs fun _ r => decide (r.state = 2)).foldl releaseCommit s
  { s with
    tier := { s.tier with releases := [], fills := [] }
    dram := { s.dram with queue := [], merge := [] } }

/-- Registers of the control and data domains that the restored state holds (Table 17-6): queue registers, walk
descriptors; the link part of CXLP, which is held; and the roles of cores and banks, which a cold reset alone returns
(R240, R342; log entry 96). -/
def warmKept (a : Nat) : Bool :=
  let p := a / 4096
  let off := a % 4096
  (decide (0x100 ≤ p) && decide (p ≤ 0x1FF) && decide (0x100 ≤ off)) ||
  (decide (p = pgXLT) && decide (0x100 ≤ off) && decide (off < 0x180)) ||
  (decide (p = pgCXLP) && decide (0x114 ≤ off)) ||
  (decide (pgCORE ≤ p) && decide (p < pgCORE + 20) && decide (off = 0x100)) ||
  (decide (pgBASN ≤ p) && decide (p < pgBASN + 64) && decide (0x100 ≤ off) && decide (off < 0x144)) ||
  [ra pgTIER 0x114, ra pgTIER 0x118, ra pgFLT 0x118, ra pgFLT 0x11C].contains a ||
  (decide (p = pgALLOC) && decide (off = 0x104))

/-- A core's role after a warm reset: a substitution that ran has ended, with the reserve core in the retired core's
place (R239, R240; log entry 96). -/
def warmCore (s : State) (c : Nat) : State :=
  let role := coreRole s c
  match substituting s (c / 5) with
  | some r =>
    if role = 3 then setRole s c 2
    else if role = 1 then setGated (wf (setRole s c 0) (coreReg c) 2 3 (r % 5)) c false else s
  | none => setGated s c (decide (role = 1))

/-- The cores of a cluster: the substituting one last, so that the reserve core sees it. -/
def warmCores (s : State) (cl : Nat) : State :=
  let cs := rangeFrom (5 * cl) 5
  ((cs.filter fun c => coreRole s c ≠ 3) ++ cs.filter fun c => coreRole s c = 3).foldl warmCore s

/-- A bank after a warm reset: the source of a substitution serves on; banks in service are ON, others OFF (R351, R352;
log entry 96). -/
def warmBank (s : State) (g n : Nat) : State :=
  let role := if bankRole s g n = 3 then 0 else bankRole s g n
  setPwr (setBankRole s g n role) g n (if role = 0 then 0 else 2)

/-- Cores, banks and ledgers after a warm reset (R372). -/
def warmRoles (s : State) : State :=
  let s := (rangeFrom 0 4).foldl warmCores s
  let s := (rangeFrom 0 64).foldl (fun s g => (rangeFrom 0 17).foldl (fun s n => warmBank s g n) s) s
  rowLedger (bankLedger (engineLedger s))

/-- Steps 5 and 6: the domains are reset, but for what step 5 saved (R456). -/
def warmDomains (s : State) : State :=
  let p (n : Nat) : Bool :=
    decide (resetDomain n = .control) || decide (resetDomain n = .data) || decide (resetDomain n = .mgmt)
  let drives := tfilter s.regs fun a _ => decide (ra pgCIS 0x140 ≤ a) && decide (a < ra pgCIS 0x180)
  let alert := rb s (ra pgFLT 0x128) 0
  let s := resetPages (endUpdate s) p warmKept
  let rs := tmap s.alloc.regions fun _ r => { r with
    freeing := false, freedBy := 0, shrinking := 0, shrinkTo := 0, changing := 0, force := false }
  let s := { s with
    regs := mergeTbl s.regs drives
    alloc := { s.alloc with regions := rs, queue := [] }
    xlt := { ctxs := s.xlt.ctxs }
    dir := { agents := s.dir.agents }
    weir := { gates := s.weir.gates, cxlHeld := s.weir.cxlHeld, nextTag := s.weir.nextTag }
    tier := { s.tier with preempt := [], waking := [] }
    cmd := { s.cmd with tiles := [], pointer := 0, deal := [], sent := [], reading := [] }
    route := { entries := tmap s.route.entries fun _ r => { r with draining := false, ordered := [], lost := 0, path := 2 }
               groups := s.route.groups
               members := s.route.members }
    fault := { ring := s.fault.ring, tail := s.fault.tail, used := s.fault.used, buckets := s.fault.buckets,
               rows := s.fault.rows, banks := s.fault.banks, rowWait := s.fault.rowWait, bankWait := s.fault.bankWait }
    link := {}
    mbx := {}
    basin := { cols := s.basin.cols, entered := s.basin.entered }
    ctr := {}
    pair := { s.pair with macks := [], unacked := [], staged := [], sync := none, pause := false, finalTick := false } }
  let s := (rangeFrom 0 256).foldl (fun s q => wr s (ra (qPage q) 0x10C) (rd s (ra (qPage q) 0x110))) s
  let s := faultStat (warmRoles s)
  if alert then put s (.pin "ALERT_N" true) else s

/-- Step 7: images and the profile are selected; a refused pending profile leaves the active one (R479, R481). -/
def warmImages (s : State) : Option State × State :=
  match selectAll s [4, 5] with
  | (none, s) => (none, s)
  | (some s, _) =>
    let st := rd s profStat
    let pend := bitN st 4
    let active := fld st 0 2
    let s := wf s profStat 2 3 0
    let gb := moduleGb s
    if pend then
      match loadProfile s (fld st 2 2) gb false with
      | (some s, _) => let s := wb s profStat 5 true; (some s, s)
      | (none, s') =>
        let code := rf s' profStat 10 4
        let s' := eventAt s' pgPROF sevError clConfig (fld st 2 2)
        match loadProfile s' active gb false with
        | (some s, _) => let s := wf s profStat 10 4 code; (some s, s)
        | (none, s) => (none, s)
    else loadProfile s active gb false

/-- Pinned Basin pages are promoted again (R125). -/
def warmPinned (s : State) : State :=
  let pinned := s.alloc.regions.filter fun e => e.2.residency = 2
  (tkeys s.tier.subs fun q r => decide (r.state = 1) &&
    pinned.any fun e => decide (e.2.base * 32 ≤ q) && decide (q < (e.2.base + e.2.size) * 32)).foldl basinEnter s

/-- Steps 4 to 8, once the recalls have ended: the pair decision is awaited as at a cold start. -/
def warmFinish (s : State) : State :=
  let ms := s.pwr.warmIn.mailboxes
  let s := warmDomains (warmRelease s)
  let s := { s with pwr := { s.pwr with warm := 0, warmIn := {} } }
  match warmImages s with
  | (none, s) => bootFails s 7 false
  | (some s, _) =>
    let s := bootMeasure (warmPinned s)
    bootServe (wf s pairStat 0 3 3) ms

/-- Go on with a warm reset whose work has settled. -/
def warmGo (s : State) : State := if s.pwr.warm = 2 && warmSettled s then warmFinish s else s

/-- A warm reset is asked for (R450, R455): ignored until start-up is complete, and part of one that runs. An ACTIVE
controller hands over first. -/
def warmRequest (s : State) (cause : Nat) (b : WarmInput) : State :=
  if s.pwr.held ≠ 0 then s
  else if s.pwr.warm = 2 then warmGo (setCause s cause)
  else if !startedUp s then s
  else
    let s := setCause { s with pwr := { s.pwr with warmIn := b } } cause
    if pairState s = 0 ∧ partnerState s = 1 ∧ heartbeatGood s then
      let s := { s with pwr := { s.pwr with warm := 1 } }
      if s.pair.pause then s else if secondary s then sendRunnel s 0 (runCtl 5 []) else startPause s
    else warmGo (warmBegin s)

/-- WARM_RESET_PIN (R450). -/
def execWarmResetPin (boot : WarmInput) (s : State) : Result := .next (warmRequest s 2 boot)

/-- WARM (R450, R465): RST.CMD, from identity 0x002. -/
def execWarm (id : Nat) (boot : WarmInput) (s : State) : Result :=
  guarded (decide (id = 2)) s fun s => warmRequest s 3 boot

/-- HANDOVER_GO (R406): sent by the standby that has applied the final tick (`received` false), or received by the
controller that pauses; a warm reset that waited for the handover then begins (R455). -/
def execHandoverGo (received : Bool) (s : State) : Result :=
  if received then
    onRunnel s (runCtl 6 []) fun s =>
      if s.pair.pause ∧ s.pair.finalTick then
        let s := handoverGone s
        if s.pwr.warm = 1 then warmGo (warmBegin s) else s
      else s
  else
    guarded (decide (pairState s = 1) && decide (partnerState s = 0) && heartbeatGood s) s handoverTaken

/-- MGMT_RESTART (R17, R450): RST.CMD, from identity 0x002. -/
def execMgmtRestart (id : Nat) (s : State) : Result :=
  guarded (decide (id = 2) && decide (s.pwr.held = 0)) s mgmtRestart

/-! ## Power levels (R457 to R460) -/

/-- A domain states a tolerance, all ones for none. -/
def setTol (s : State) (dom t : Nat) : State :=
  { s with pwr := { s.pwr with tol := tset 0xFFFFFFFF s.pwr.tol dom t } }

/-- The domains that the CXL host reaches: those of requester 4,096's bindings (R457). -/
def hostDomains (s : State) : List Nat :=
  ((s.sec.binds.filter fun b => b.2.req = 4096).map fun b => b.2.dom).eraseDups

/-- SET_LATENCY_TOL (R457, Table 20-6). One that states a tolerance for a domain of the CXL host governs from then on
(R302). -/
def execSetLatencyTol (h : Nat) (s : State) : Result :=
  match ready s h 0x31 with
  | none => .next s
  | some o =>
    let x := opnd o 0x10 4
    let t := opnd o 0x14 4
    let ds := if bitN x 10 then rangeFrom 0 1024 else [fld x 0 10]
    let s := ds.foldl (fun s d => setTol s d t) s
    let s := if (hostDomains s).any ds.contains then wr s (ra pgCXLP 0x118) t else s
    .next (endWith s h stOk [0, 0, 0, 0])

/-- The tolerance in ns that an LTR value states: value [9:0], scale [12:10] in powers of 32, requirement [15]. -/
def ltrNs (v : Nat) : Nat :=
  if bitN v 15 then min 0xFFFFFFFE (fld v 0 10 * 2 ^ (5 * min 5 (fld v 10 3))) else 0xFFFFFFFF

/-- LTR_WRITE (R302, R457): it applies to every domain that holds a binding for requester 4,096. -/
def execLtrWrite (value : W32) (s : State) : Result :=
  guarded (rb s (ra pgCXLP 0x114) 8) s fun s =>
    let t := ltrNs value.toNat
    wr ((hostDomains s).foldl (fun s d => setTol s d t) s) (ra pgCXLP 0x118) t

/-- PORT_IDLE_TIMEOUT (R458, Table 20-9): one timer, STANDBY at PL1, OFF from 100 µs at PL3. -/
def execPortIdleTimeout (port idleUs : Nat) (s : State) : Result :=
  guarded (decide (port < 20) && !linkBusy s port) s fun s =>
    let l := portLevel s port
    let ask (s : State) (t : Nat) : State := requestPower (wf s (ctlReg port) 4 2 t) port t
    if 3 ≤ l ∧ 100 ≤ idleUs then
      ask (if linkState s port = 6 ∧ linkPower s port = 2 then exitPower s port else s) 3
    else if 1 ≤ l ∧ 10 ≤ idleUs then ask s 2
    else s

/-- CORE_IDLE_GATE (R458): one core of each cluster stays ungated, but a whole cluster without dealt tiles is gated at
PL2. -/
def execCoreIdleGate (core : Nat) (s : State) : Result :=
  let cl := core / 5
  let idle (c : Nat) : Bool := !(s.cmd.tiles.any fun t => t.core = c)
  let other := (clusterCores s cl).any fun c => decide (c ≠ core) && !coreGated s c
  let whole := decide (2 ≤ coreLevel s) && (rangeFrom (5 * cl) 5).all idle
  guarded (decide (core < 20) && coreInService s core && decide (1 ≤ coreLevel s) && idle core && (other || whole)) s
    fun s => setGated s core true

/-- DRIVE_IDLE_TIMEOUT (R458): PL3 alone moves a drive. -/
def execDriveIdleTimeout (drive : Nat) (s : State) : Result :=
  guarded (decide (drive < 16) && decide (drvState s drive = 2) && decide (3 ≤ driveLevel s) &&
      !s.tier.drvIdle.contains drive && !(s.tier.moves.any fun m => m.drive = drive)) s fun s =>
    let s := put s (.nvme drive .sleep)
    { s with tier := { s.tier with drvIdle := insNat drive s.tier.drvIdle } }

/-! ## Temperature (R461) -/

/-- A limit with its 5 °C of hysteresis: whether it holds after a sample. -/
def limitHolds (was : Bool) (temp limit : Nat) : Bool := decide (limit < temp) || (was && decide (limit ≤ temp + 5))

/-- DIE_TEMP_SAMPLE (R461, R477): WARN and THROTTLE, each with its event and its platform event on a crossing. -/
def execDieTempSample (tempC : Nat) (s : State) : Result :=
  guarded (decide (s.pwr.held = 0)) s fun s =>
    let cfg := ra pgPWR 0x100
    let a := ra pgPWR 0x110
    let w := limitHolds (rb s a 8) tempC (rf s cfg 10 8)
    let t := limitHolds (rb s a 9) tempC (rf s cfg 2 8)
    let s0 := s
    let s := wb (wb (wf s a 0 8 (min 255 tempC)) a 8 w) a 9 t
    let s := if w && !rb s0 a 8 then eventAt s pgPWR sevWarn clConfig tempC else s
    let s := if t && !rb s0 a 9 then eventAt s pgPWR sevError clConfig tempC else s
    let s := if w == rb s0 a 8 then s else platformEvent s [1, tempC, if w then 1 else 0]
    if t == rb s0 a 9 then s else platformEvent s [1, tempC, if t then 3 else 2]

end Sys2Proof.Machine
end

