-- ==== Sys2Proof/Machine/Bus.lean ====
section
/-!
DEFINITION. Register accesses by address (R484 to R498), the common header, and the sideband and test endpoints (R476,
R477, R510).
-/
namespace Sys2Proof.Machine

/-! ## The header (Table 22-2) -/

/-- PHASE from which a page is READY (Table 22-9, rows of Table 20-4 counted from 0). -/
def readyPhase (p : Nat) : Nat :=
  if p = pgPROF ∨ (0x80 ≤ p ∧ p ≤ 0xBF) then 5
  else if p ≤ pgFLT then 4
  else if (0x20 ≤ p ∧ p ≤ 0x37) ∨ p = pgCIS ∨ (0xC0 ≤ p ∧ p ≤ 0xCF) ∨ p = pgCXLP then 6
  else if p = pgTIER ∨ p = pgALLOC then 7
  else if 0x40 ≤ p ∧ p ≤ 0x53 then 15
  else 8

/-- The block's own status reports FAILED or RETIRED. -/
def blockFailed (s : State) (p : Nat) : Bool :=
  if 0x20 ≤ p ∧ p ≤ 0x37 then chanFailed s (p - 0x20)
  else if 0x40 ≤ p ∧ p ≤ 0x55 then decide (linkState s (p - 0x40) = 7)
  else if 0x64 ≤ p ∧ p ≤ 0x77 then decide (coreRole s (p - 0x64) = 2)
  else if 0xC0 ≤ p ∧ p ≤ 0xCF then decide (drvState s (p - 0xC0) = 4)
  else false

/-- The page's reset domain is held in reset (R453). -/
def pageHeld (s : State) (p : Nat) : Bool :=
  decide (s.pwr.held = 1) || (decide (s.pwr.held = 2) && decide (resetDomain p ≠ .aon))

/-- BLK_CTL.EN (R512). -/
def pageUp (s : State) (p : Nat) : Bool := !pageHeld s p && decide (readyPhase p ≤ rf s rstStat 0 4)

/-- BLK_STAT.STATE: 0 RESET, 1 INIT, 2 READY, 3 FAILED (R512). -/
def pageState (s : State) (p : Nat) : Nat :=
  if pageHeld s p then 0 else if blockFailed s p then 3 else if pageUp s p then 2 else 1

/-- Pages that hold RWL fields (Table 22-3). -/
def lockable (p : Nat) : Bool :=
  p = pgXLT || p = pgSEC || p = pgMBXC || p = pgRTE || p = pgCIS || p = pgCXLP || (decide (0x20 ≤ p) && decide (p ≤ 0x37)) ||
  decide (groupNum p ≠ 0)

/-- BLK_CAP. -/
def blkCap (s : State) (p : Nat) : Nat :=
  (if softResettable p then 1 else 0) + (if groupNum p ≠ 0 then 2 else 0) + (if hostInt p then 4 else 0) +
  (if lockable p then 8 else 0) +
  (if p = pgTOP then (if rb s rstStat 7 then 131072 else 65536)
   else if 0x40 ≤ p ∧ p ≤ 0x55 then 9 * 65536 else 0)

/-- BLK_STAT. -/
def blkStat (s : State) (p : Nat) : Nat :=
  pageState s p + (if locked s p then 4 else 0) + (if rd s (ra p 0x018) ≠ 0 then 8 else 0)

/-! ## Reads -/

/-- PWR.POWER: a mean over 1 ms; in confidential mode over 250 ms and in steps of 8 W (R424). -/
def powerWatts (s : State) : Nat :=
  if confidential s then (Config.powerOver (2 * (s.now / 250000000) + 1)).toNat / 8 * 8
  else (Config.powerOver (2 * (s.now / 1000000))).toNat

/-- The 64 bytes that ENTRY_DATA shows (Table 16-10, R376). -/
def entryShown (s : State) (id : Nat) : Bytes :=
  let i := ri s id (ra pgFLT 0x124)
  if i.testBit 8 then
    match tget s.fault.ovf (fld i 0 6) with
    | some o =>
      if fld i 6 2 = 0 then natLe 6 o.count ++ zeros 58 else faultBytes (if fld i 6 2 = 1 then o.first else o.last)
    | none => zeros 64
  else
    match tget s.fault.ring (fld (ri s id (ra pgFLT 0x120)) 0 12) with
    | some e => faultBytes e
    | none => zeros 64

/-- Bits of a boolean at a place. -/
def bitAt (b : Bool) (n : Nat) : Nat := if b then 2 ^ n else 0

/-- What PROF, PWR, FWU, SEC, CTR and FLT compute for a read. An FWU.IMG_IDX that names no image shows 0 (DESIGN CHOICE, log
entry 95). -/
def readMgmt (s : State) (id p off : Nat) : Option Nat :=
  if p = pgTOP ∧ off = 0x100 then some (leAt Config.serial 0 4)
  else if p = pgTOP ∧ off = 0x104 then some (leAt Config.serial 4 4)
  else if p = pgPWR ∧ off = 0x108 then some (tolOf s (fld (ri s id (ra p 0x104)) 0 10))
  else if p = pgPWR ∧ off = 0x10C then some (domLevel s (fld (ri s id (ra p 0x104)) 0 10))
  else if p = pgPWR ∧ off = 0x114 then some (powerWatts s)
  else if p = pgFWU ∧ 0x108 ≤ off ∧ off ≤ 0x114 then
    let t := fld (ri s id (ra p 0x104)) 0 4
    let x := imgType s t
    if 12 ≤ t ∨ t = 0 then some 0
    else if off = 0x108 then some (x.state + bitAt x.runB 3 + min 7 x.boots * 16)
    else if off = 0x10C then some x.a.version
    else if off = 0x110 then some x.b.version
    else some (x.runSvn + minSvn s t * 65536)
  else if p = pgSEC ∧ off = 0x11C then some (keyStat s id)
  else if p = pgCTR ∧ 0x140 ≤ off ∧ off < 0x180 then some (ctrData s id ((off - 0x140) / 4))
  else if p = pgFLT ∧ 0x140 ≤ off ∧ off < 0x180 then some (leAt (entryShown s id) (off - 0x140) 4)
  else none

/-- What WEIR, DIR, ALLOC, RTE and MBXC compute for a read. -/
def readTables (s : State) (id p off : Nat) : Option Nat :=
  if p = pgWEIR ∧ off = 0x188 then some (tgetD s.weir.mask (fld (ri s id (ra p 0x184)) 0 13) 0)
  else if p = pgWEIR ∧ off = 0x304 then
    let i := ri s id (ra p 0x300)
    let w := tgetD s.weir.shadow (fld i 0 5 * 64 + fld i 5 6) (0, 0)
    some (w.1 + w.2.toNat * 16777216)
  else if p = pgDIR ∧ off = 0x104 then
    let a := agent s (fld (ri s id (ra p 0x100)) 0 8)
    some (a.eid + bitAt a.valid 12 + bitAt a.fenced 13 + bitAt a.sweepDone 14 + bitAt a.timedOut 15)
  else if p = pgALLOC ∧ off = 0x104 then some s.alloc.regions.length
  else if p = pgALLOC ∧ 0x10C ≤ off ∧ off < 0x120 then
    some (limit s (fld (ri s id (ra p 0x108)) 0 10) ((off - 0x10C) / 4))
  else if p = pgALLOC ∧ 0x120 ≤ off ∧ off < 0x134 then
    some (charge s (fld (ri s id (ra p 0x108)) 0 10) ((off - 0x120) / 4))
  else if p = pgRTE ∧ (off = 0x10C ∨ off = 0x110 ∨ off = 0x114) then
    let e := fld (ri s id (ra p 0x108)) 0 12
    let r := route s e
    if off = 0x10C then some (r.ports.toNat + bitAt r.valid 20)
    else if off = 0x110 then some r.alt.toNat
    else some (bitAt r.fenced 0 + bitAt (s.dir.agents.any fun a => decide (a.2.eid = e) && a.2.valid && a.2.fenced) 1 +
      bitAt r.unreachable 2 + bitAt r.draining 3 + (refreshRoute s r).path * 16)
  else if p = pgRTE ∧ off = 0x124 then
    let g := tgetD s.route.groups (fld (ri s id (ra p 0x120)) 0 8) (0, 0, false)
    some (g.1 + g.2.1 * 4096 + bitAt g.2.2 25)
  else if p = pgRTE ∧ off = 0x12C then
    let m := tgetD s.route.members (fld (ri s id (ra p 0x128)) 0 12) (0, false)
    some (m.1 + bitAt m.2 12)
  else if p = pgMBXC ∧ off = 0x104 then
    let b := mbxBind s (fld (ri s id (ra p 0x100)) 0 6)
    some (b.sender + b.receiver * 8192 + bitAt b.valid 26)
  else none

/-- What DRAM, BASN, CMDQ and MBX compute for a read. -/
def readUnits (s : State) (id p off : Nat) : Option Nat :=
  if 0x20 ≤ p ∧ p ≤ 0x37 ∧ off = 0x134 then
    let i := ri s id (ra p 0x130)
    some (tgetD s.dram.shadow (((p - 0x20) * 4 + fld i 8 1 * 2 + fld i 7 1) * 128 + fld i 0 7) 0)
  else if 0x80 ≤ p ∧ p ≤ 0xBF ∧ 0x100 ≤ off ∧ off ≤ 0x140 then
    some (fld (rd s (ra p off)) 0 8 + tgetD s.basin.cols (globalBank (p - 0x80) ((off - 0x100) / 4)) 32 * 256)
  else if 0x80 ≤ p ∧ p ≤ 0xBF ∧ off = 0x148 then
    -- one line every 16 CLK_FAB cycles of 1.2 GHz, from 2 µs after the command (R352)
    (tget s.basin.subst (p - 0x80)).map fun x => min 65536 ((s.now - (x.2.2 + 2000)) * 3 / 40)
  else if 0x100 ≤ p ∧ p ≤ 0x1FF ∧ off = 0x134 then
    let q := p - 0x100
    -- DEDUCED: a disabled completion queue stalls an enabled submission queue (R151; log entry 85)
    let stall := sqEn s q && (!cqEn s (cqNum s q) || (decide (sqHead s q ≠ sqTail s q) && !cqFree s (cqNum s q)))
    some (setFld (setFld (rd s (ra p off)) 0 13 (inflight s q)) 13 1 (if stall then 1 else 0))
  else if 0x200 ≤ p ∧ p ≤ 0x23F ∧ off = 0x108 then some (setFld (rd s (ra p off)) 2 2 (mbxRx s (p - 0x200)))
  else if 0x200 ≤ p ∧ p ≤ 0x23F ∧ off = 0x10C then some (mbxAge s (p - 0x200))
  else if 0x200 ≤ p ∧ p ≤ 0x23F ∧ 0x200 ≤ off then
    let b := mbxBind s (p - 0x200)
    if b.valid && (decide (id = b.sender) || decide (id = b.receiver)) then none else some 0
  else none

/-- The value that a register shows an identity. -/
def regValue (s : State) (id p off : Nat) : Nat :=
  if off = 0x000 then blkId p
  else if off = 0x004 then blkCap s p
  else if off = 0x008 then bitAt (pageUp s p) 0 + bitAt (locked s p) 2
  else if off = 0x00C then blkStat s p
  else if 0x020 ≤ off ∧ off < 0x040 ∧ groupNum p = 0 then 0
  else if off = 0x02C then let g := groupAccess s p; groupNum p + g.1 * 64 + g.2 * 256
  else if p = pgHHD ∧ 0x100 ≤ off then 0
  else
    match readMgmt s id p off, readTables s id p off, readUnits s id p off with
    | some v, _, _ => v
    | none, some v, _ => v
    | none, none, some v => v
    | none, none, none =>
      match regDesc p off with
      | some d => if d.perId then ri s id (ra p off) else rd s (ra p off)
      | none => 0

/-- A 32-bit read by an identity (R21, R485, Table 22-8); the counter window latches and counts (R467, R468). -/
def regRead (s : State) (id addr : Nat) : Nat × State :=
  let p := addr / 4096
  let off := addr % 4096
  if !assigned p || (pageHeld s p && !keptReg addr) then (0, s)
  else if addr % 4 ≠ 0 then (0, errInc s p 1)
  else if off = 0x024 then cntLo s id p
  else if off = 0x028 then windowRead s id p fun s => (tgetD s.ctr.latch (id * 4096 + p) 0, s)
  else (regValue s id p off, s)

/-! ## Writes of the header -/

/-- BLK_IER bits that a page has: where its chapter names no event, bit 31 alone (R490). -/
def ierMask (p : Nat) : Nat :=
  if 0xFF < p then 0
  else if p = pgFLT ∨ (0x20 ≤ p ∧ p ≤ 0x37) then 0xFFFFFFFF
  else 0x80000000

/-- A write of BLK_IER (R490, Table 22-8). -/
def ierWrite (s : State) (p v : Nat) : State := summarize (wr s (ra p 0x014) (Nat.land v (ierMask p))) p

/-- A W1C write of BLK_ISR (R490). -/
def isrWrite (s : State) (p v : Nat) : State :=
  let a := ra p 0x010
  summarize (wr s a (rd s a - Nat.land (rd s a) v)) p

/-- The condition of a soft reset (Table 22-4). -/
def srstOk (s : State) (p : Nat) : Bool :=
  if 0x40 ≤ p ∧ p ≤ 0x55 then !rb s (ra p 0x100) 0
  else if 0xC0 ≤ p ∧ p ≤ 0xCF then decide (drvState s (p - 0xC0) = 0) || decide (drvState s (p - 0xC0) = 4)
  else if 0x100 ≤ p ∧ p ≤ 0x1FF then
    !sqEn s (p - 0x100) && !cqEn s (p - 0x100) && decide (inflight s (p - 0x100) = 0)
  else !mbxFull s (p - 0x200)

/-- A register after a soft reset: its RW and W1C fields at their reset values (R489). -/
def srstReg (p : Nat) (e : Nat × W32) : W32 :=
  match regDesc p (e.1 % 4096) with
  | some d => BitVec.ofNat 32 (d.fields.foldl (fun v f =>
      if f.acc = .rw ∨ f.acc = .w1c then setFld v f.lo f.w f.reset else v) e.2.toNat)
  | none => e.2

/-- The soft reset of a Cistern root port: CIS_PERST_N[d] is asserted for 100 ms, and the port then trains and reads its
drive's identity again (R489, R503). While CIS.CFG.EN is 0 the pin stays asserted. -/
def srstCis (s : State) (d : Nat) : State :=
  if rb s (ra pgCIS 0x100) 0 then
    let s := { s with tier := { s.tier with perst := tput s.tier.perst d (s.now + 100000000) } }
    put s (.pin ("CIS_PERST_N[" ++ Nat.repr d ++ "]") false)
  else s

/-- The soft resets of root ports whose 100 ms are over. -/
def perstEnd (s : State) : State :=
  let due := s.tier.perst.filter fun e => decide (e.2 ≤ s.now)
  due.foldl (fun s e =>
    let s := { s with tier := { s.tier with perst := tdel s.tier.perst e.1 } }
    if rb s (ra pgCIS 0x100) 0 then
      put (put s (.pin ("CIS_PERST_N[" ++ Nat.repr e.1 ++ "]") true)) (.nvme e.1 .identify)
    else s) s

/-- The soft reset of a page (R489, Table 22-4): QOWN and QCTX stay. -/
def srstDo (s : State) (p : Nat) : State :=
  let hit (a : Nat) : Bool := decide (a / 4096 = p) && decide (0x100 ≤ a % 4096) &&
    !(decide (0x100 ≤ p) && decide (p ≤ 0x1FF) && (decide (a % 4096 = 0x12C) || decide (a % 4096 = 0x130)))
  let s := (s.regs.filter fun e => hit e.1).foldl (fun s e => wr s e.1 (srstReg p e).toNat) s
  let s := wr (wr (wr s (ra p 0x010) 0) (ra p 0x014) 0) (ra p 0x018) 0
  let s := if 0xC0 ≤ p ∧ p ≤ 0xCF then srstCis s (p - 0xC0) else s
  let s := if 0x40 ≤ p ∧ p ≤ 0x55 then modLp s (p - 0x40) fun x => { x with attempts := 0, recovering := false } else s
  summarize s p

/-- BLK_CTL.SRST: ignored on a page without soft reset; counted where its condition fails. -/
def srst (s : State) (p : Nat) : State :=
  if !softResettable p then s else if srstOk s p then srstDo s p else errInc s p 1

/-- A header write by an identity on a page that is not held. -/
def headerOpen (s : State) (p : Nat) : Bool := assigned p && !pageHeld s p

/-- SOFT_RESET (R489). -/
def execSoftReset (id page : Nat) (s : State) : Result :=
  guarded (headerOpen s page && mayWrite id page 0x008) s fun s => srst s page

/-- BLK_LOCK (R491). -/
def execBlkLock (id page : Nat) (s : State) : Result :=
  guarded (headerOpen s page && mayWrite id page 0x008) s fun s => wb s (ra page 0x008) 2 true

/-- BLK_ISR_CLEAR (R490). -/
def execBlkIsrClear (_id page : Nat) (value : W32) (s : State) : Result :=
  guarded (headerOpen s page) s fun s => isrWrite s page value.toNat

/-- BLK_IER_WRITE (R490). -/
def execBlkIerWrite (_id page : Nat) (value : W32) (s : State) : Result :=
  guarded (headerOpen s page) s fun s => ierWrite s page value.toNat

/-! ## Writes of registers with a behaviour of their own -/

/-- Clear W1C bits that a write names. -/
def clear1 (s : State) (a v mask : Nat) : State := wr s a (rd s a - Nat.land (rd s a) (Nat.land v mask))

/-- The bindings that Holhild holds, as the input of a warm reset that a register write asks for. -/
def boundNow (s : State) : WarmInput :=
  { mailboxes := (s.mbx.binds.filter fun e => decide (e.1 < 63) && e.2.valid).map fun e =>
      (e.1, e.2.sender, e.2.receiver) }

/-- Writes on a mailbox channel's page (R314). -/
def mbxWrite (s : State) (id m off v : Nat) : Result :=
  let b := mbxBind s m
  let p := pgMBX + m
  let snd := b.valid && decide (id = b.sender)
  let rcv := b.valid && decide (id = b.receiver)
  if off = 0x100 then
    if !snd then .next (errInc s p 1)
    else
      let go := if bitN v 9 then Machine.execMailboxSend id m (BitVec.ofNat 32 v) s else .next s
      match go with
      | .next s => if bitN v 10 then Machine.execMailboxRetract id m s else .next s
      | r => r
  else if off = 0x104 then
    if !rcv then .next (errInc s p 1) else if bitN v 0 then Machine.execMailboxAck id m s else .next s
  else if off = 0x110 then
    if snd then .next (wr s (ra p off) (writeFields false (rd s (ra p off)) v [fRW 0 11, fRW 22 1]))
    else if rcv then .next (wr s (ra p off) (writeFields false (rd s (ra p off)) v [fRW 11 11, fRW 23 1]))
    else .next (errInc s p 1)
  else if 0x200 ≤ off ∧ off < 0x300 then
    if !snd then .next (errInc s p 1)
    else if mbxFull s m then .next s
    else .next (wr s (ra p off) v)
  else .next (errInc s p 1)

/-- Commands in the management pages. -/
def mgmtWrite (s : State) (id p off v : Nat) : Option Result :=
  let w : W32 := BitVec.ofNat 32 v
  if p = pgRST ∧ off = 0x100 then
    some (if v % 4 = 1 then execWarm id (boundNow s) s else if v % 4 = 2 then execMgmtRestart id s else .next s)
  else if p = pgPAIR ∧ off = 0x110 then
    let s := if id = 2 then clear1 s pairCmd v 4 else s
    some (match v % 4 with
      | 1 => execFenceSelf id s
      | 2 => execGoSolo id s
      | 3 => execHandover id s
      | _ => .next s)
  else if p = pgFWU ∧ off = 0x11C then
    let s := if id = 2 then clear1 s fwuCmd v 0xC0 else s
    some (match v % 4 with
      | 1 => execFwuConfirm id (fld v 2 4) s
      | 2 => execFwuRevert id (fld v 2 4) s
      | _ => .next s)
  else if p = pgSEC ∧ off = 0x110 then
    let s := if id = 2 then clear1 s bindCmd v 4 else s
    some (match v % 4 with
      | 1 => execBindWrite id s
      | 2 => execBindRead id s
      | _ => .next s)
  else if p = pgSEC ∧ off = 0x118 then
    let s := if id = 2 then clear1 s keyCmd v 4 else s
    some (match v % 4 with
      | 1 => execKeyGenerate id s
      | 2 => execKeyImport id 0 [] s
      | 3 => execKeyZeroise id s
      | _ => .next s)
  else if p = pgSEC ∧ off = 0x120 then some (execConfEnable id w s)
  else if p = pgHHD ∧ 0x100 ≤ off then some (if id = 2 then .refused .hhdRegister else .next s)
  else if p = pgFLT ∧ off = 0x118 then some (execFaultQHeadWrite id w s)
  else if p = pgFLT ∧ off = 0x128 then some (if bitN v 1 then execAlertAck id s else .next s)
  else if p = pgFLT ∧ off = 0x134 then some (execCpKick id s)
  else none

/-- Commands in the other single pages. -/
def blockWrite (s : State) (id p off v : Nat) : Option Result :=
  let w : W32 := BitVec.ofNat 32 v
  if p = pgWEIR ∧ 0x280 ≤ off ∧ off < 0x2D4 then some (execGateCommit id ((off - 0x280) / 4) w s)
  else if p = pgXLT ∧ off = 0x180 then some (execCtxIdxWrite id w s)
  else if p = pgXLT ∧ off = 0x190 then some (execCtxData3Write id w s)
  else if p = pgDIR ∧ off = 0x104 then some (execAgentDataWrite id w s)
  else if p = pgDIR ∧ off = 0x108 then
    some (match fld v 8 2 with
      | 1 => execAgentFence id (v % 256) s
      | 2 => execAgentUnfence id (v % 256) s
      | _ => .next s)
  else if p = pgCIS ∧ off = 0x100 then some (execCisternEnable id w s)
  else if p = pgRTE ∧ off = 0x118 then
    let s := if isFw id then clear1 s (ra p off) v 0x8000 else s
    some (match fld v 12 2 with
      | 1 => execRouteSwap id (v % 4096) s
      | 2 => execRouteSwapAbort id (v % 4096) s
      | _ => .next s)
  else if p = pgRTE ∧ off = 0x11C then
    some (match fld v 12 2 with
      | 1 => execEidFence id (v % 4096) s
      | 2 => execEidUnfence id (v % 4096) s
      | _ => .next s)
  else if p = pgMBXC ∧ off = 0x104 then some (execMailboxBindWrite id w s)
  else none

/-- Commands in the pages of channels, ports, groups and queues. -/
def unitWrite (s : State) (id p off v : Nat) : Option Result :=
  let w : W32 := BitVec.ofNat 32 v
  if 0x20 ≤ p ∧ p ≤ 0x37 ∧ off = 0x138 then some (execDlyApply id (p - 0x20) w s)
  else if 0x20 ≤ p ∧ p ≤ 0x37 ∧ off = 0x140 then
    let s := if isFw id then clear1 s (ra p off) v 8 else s
    some (match v % 4 with
      | 1 => execRemap id (p - 0x20) s
      | 2 => execRemapLookup id (p - 0x20) s
      | 3 => let (x, s) := drawFree s; execPpr id (p - 0x20) (x.getLsbD 0) s
      | _ => .next s)
  else if 0x40 ≤ p ∧ p ≤ 0x55 ∧ off = 0x100 then some (execLinkEnableWrite id (p - 0x40) w s)
  else if 0x80 ≤ p ∧ p ≤ 0xBF ∧ off = 0x144 then
    let g := p - 0x80
    let n := v % 32
    let s := if isFw id then clear1 s (ra p off) v 0x200 else s
    some (match fld v 5 3 with
      | 1 => execBankSubstitute id g n s
      | 2 => execBankReinstate id g n s
      | 3 => execBankSetOn id g n s
      | 4 => execBankSetRet id g n s
      | 5 => execBankSetOff id g n s
      | _ => .next s)
  else if 0x100 ≤ p ∧ p ≤ 0x1FF then
    let q := p - 0x100
    match off with
    | 0x108 => some (execSqCfgWrite id q w s)
    | 0x10C => some (execSqDoorbell id q w s)
    | 0x11C => some (execCqCfgWrite id q w s)
    | 0x124 => some (execCqHeadWrite id q w s)
    | _ => none
  else if 0x200 ≤ p ∧ p ≤ 0x23F ∧ 0x100 ≤ off then some (mbxWrite s id (p - 0x200) off v)
  else none

/-- A 32-bit write of a page that is not held, by an identity. -/
def regWrite (s : State) (id p off v : Nat) : Result :=
  if off = 0x008 then
    if mayWrite id p off then
      let s := if bitN v 1 then srst s p else s
      .next (if bitN v 2 then wb s (ra p off) 2 true else s)
    else .next s
  else if off = 0x010 then .next (isrWrite s p v)
  else if off = 0x014 then .next (ierWrite s p v)
  else
    match mgmtWrite s id p off v, blockWrite s id p off v, unitWrite s id p off v with
    | some r, _, _ => r
    | none, some r, _ => r
    | none, none, some r => r
    | none, none, none => .next (plainWrite s id p off v)

/-- A write access (R485): 32 bits is the unit; 64 bits are two, the second only on the same page; 8 and 16 bits and
misaligned accesses are ignored and counted. -/
def busWrite (s : State) (id addr size : Nat) (v : Nat) : Result :=
  let p := addr / 4096
  if !assigned p || pageHeld s p then .next s
  else if addr % 4 = 0 ∧ size = 4 then regWrite s id p (addr % 4096) (v % 2 ^ 32)
  else if addr % 4 = 0 ∧ size = 8 then
    match regWrite s id p (addr % 4096) (v % 2 ^ 32) with
    | .next s =>
      if (addr + 4) / 4096 = p ∧ ¬ pageHeld s p then regWrite s id p ((addr + 4) % 4096) (v / 2 ^ 32 % 2 ^ 32) else .next s
    | r => r
  else .next (errInc s p 1)

/-- REGISTER_WRITE (R7, R9, R485). -/
def execRegisterWrite (id addr size : Nat) (value : BitVec 64) (s : State) : Result :=
  busWrite s id addr size value.toNat

/-! ## Sideband (R476, R477; message codes: log entry 48) -/

/-- The sideband answers: Holhild runs. -/
def sideband (s : State) (f : State → State) : Result := guarded (decide (s.pwr.held ≠ 1)) s f

/-- READ32 (R476). -/
def execRead32 (addr : Nat) (s : State) : Result :=
  sideband s fun s =>
    let (v, s) := regRead s 3 addr
    put s (.readData addr (BitVec.ofNat 32 v))

/-- WRITE32 (R476). -/
def execWrite32 (addr : Nat) (value : W32) (s : State) : Result :=
  if s.pwr.held = 1 then .next s else busWrite s 3 addr 4 value.toNat

/-- An MCTP control answer; replies are coded 0x60000 + command. -/
def mctpReply (s : State) (code : Nat) (words : List Nat) : State := put s (.reply (0x60000 + code) words [])

/-- MCTP_CONTROL (R476): types 0, 1, 5 and 0x7E. -/
def execMctpControl (req : MctpControl) (s : State) : Result :=
  sideband s fun s =>
    match req with
    | .setEid e =>
      if 1 ≤ e ∧ e ≤ 254 then mctpReply { s with side := { s.side with eid := e } } 0x01 [0, 0, e]
      else mctpReply s 0x01 [2, 0, s.side.eid]
    | .getEid => mctpReply s 0x02 [0, s.side.eid]
    | .getVersion => mctpReply s 0x04 [0, Config.endpointWord 0x60004]
    | .getTypes => mctpReply s 0x05 [0, 4, 0x00, 0x01, 0x05, 0x7E]
    | .other c => mctpReply s c [5]

/-- A PLDM answer: replies are coded 0x50000 + type × 256 + command. -/
def pldmAnswer (s : State) (code : Nat) (words : List Nat) : State := put s (.reply (0x50000 + code) words [])

/-- PLDM_BASE (R476): types 0, 2 and 5. -/
def execPldmBase (code : Nat) (s : State) : Result :=
  sideband s fun s =>
    if code = 0x04 then pldmAnswer s code [0, 37]
    else if code = 0x02 ∨ code = 0x03 ∨ code = 0x05 then pldmAnswer s code [0, Config.endpointWord (0x50000 + code)]
    else pldmAnswer s code [5]

/-- A numeric sensor of Table 21-7; sensor 28 is the state sensor. -/
def sensorValue (s : State) (n : Nat) : Option Nat :=
  if n = 1 then some (rf s (ra pgPWR 0x110) 0 8)
  else if n = 2 then some (powerWatts s)
  else if 3 ≤ n ∧ n ≤ 26 then some (rf s (drStat (n - 3)) 8 8)
  else if n = 27 then some Config.vddCore
  else if n = 29 then some s.fault.used
  else none

/-- GET_PDR (R477): one record a sensor, 0 for the first, with the handle of the next: (completion, next, record, PDR
type: 2 numeric, 4 state, sensor). -/
def execGetPdr (record : Nat) (s : State) : Result :=
  sideband s fun s =>
    let r := if record = 0 then 1 else record
    if r ≤ 29 then pldmAnswer s 0x251 [0, if r = 29 then 0 else r + 1, r, if r = 28 then 4 else 2, r]
    else pldmAnswer s 0x251 [0x82]

/-- GET_SENSOR_READING (R477). -/
def execGetSensorReading (sensor : Nat) (s : State) : Result :=
  sideband s fun s =>
    match sensorValue s sensor with
    | some v => pldmAnswer s 0x211 [0, v]
    | none => pldmAnswer s 0x211 [0x80]

/-- GET_STATE_SENSOR_READINGS (R477): sensor 28 is PAIR.STAT.STATE. -/
def execGetStateSensorReadings (sensor : Nat) (s : State) : Result :=
  sideband s fun s => if sensor = 28 then pldmAnswer s 0x221 [0, pairState s] else pldmAnswer s 0x221 [0x80]

/-- SET_EVENT_RECEIVER (R477). -/
def execSetEventReceiver (eid : Option Nat) (s : State) : Result :=
  sideband s fun s => pldmAnswer { s with side := { s.side with receiver := eid } } 0x204 [0]

/-! ## JTAG (R510) -/

/-- JTAG_TAP_ACCESS (R510, R423): instruction 0 is IDCODE, 1 BYPASS. A locked TAP answers those alone; in confidential
mode it is held in reset. -/
def execJtagTapAccess (instr : Nat) (s : State) : Result :=
  if confidential s ∨ ¬ s.pwr.aon then .next s
  else if instr = 0 then .next (put s (.reply 0x70000 [0xB0024A7D] []))
  else if instr = 1 then .next (put s (.reply 0x70001 [] []))
  else if debugOpen s then .refused .jtagUnlocked
  else .next s

end Sys2Proof.Machine
end

