-- ==== Sys2Proof/Machine/Dispatch.lean ====
section
/-!
DEFINITION. The dispatch: one arm for each constructor, one direct call of its meaning.
-/
namespace Sys2Proof.Machine

/-- The effect of one command on everything but the queue. -/
def exec (i : Instr) (s : State) : Host.Outcome State Fault Refusal :=
  match i with
  | .registerWrite id addr size value => Sys2Proof.Machine.execRegisterWrite id addr size value s
  | .alloc h => Sys2Proof.Machine.execAlloc h s
  | .free h => Sys2Proof.Machine.execFree h s
  | .freeComplete h => Sys2Proof.Machine.execFreeComplete h s
  | .resize h => Sys2Proof.Machine.execResize h s
  | .resizeShrinkComplete h => Sys2Proof.Machine.execResizeShrinkComplete h s
  | .resizeGrowResume h => Sys2Proof.Machine.execResizeGrowResume h s
  | .setAttr h => Sys2Proof.Machine.execSetAttr h s
  | .setAttrComplete h => Sys2Proof.Machine.execSetAttrComplete h s
  | .pin h => Sys2Proof.Machine.execPin h s
  | .pinComplete h => Sys2Proof.Machine.execPinComplete h s
  | .unpin h => Sys2Proof.Machine.execUnpin h s
  | .publish h => Sys2Proof.Machine.execPublish h s
  | .versionUnitsRelease region version => Sys2Proof.Machine.execVersionUnitsRelease region version s
  | .xltInval h => Sys2Proof.Machine.execXltInval h s
  | .xltInvalComplete h => Sys2Proof.Machine.execXltInvalComplete h s
  | .ctxIdxWrite id value => Sys2Proof.Machine.execCtxIdxWrite id value s
  | .ctxData3Write id value => Sys2Proof.Machine.execCtxData3Write id value s
  | .translationPrefetch core => Sys2Proof.Machine.execTranslationPrefetch core s
  | .walkEntryRead walk read => Sys2Proof.Machine.execWalkEntryRead walk read s
  | .rdShared port pkt => Sys2Proof.Machine.execRdShared port pkt s
  | .rdOwn port pkt => Sys2Proof.Machine.execRdOwn port pkt s
  | .upgrade port pkt => Sys2Proof.Machine.execUpgrade port pkt s
  | .rdOnce port pkt => Sys2Proof.Machine.execRdOnce port pkt s
  | .wrOnce port pkt => Sys2Proof.Machine.execWrOnce port pkt s
  | .wrData port pkt => Sys2Proof.Machine.execWrData port pkt s
  | .wbDirty port pkt => Sys2Proof.Machine.execWbDirty port pkt s
  | .evict port pkt => Sys2Proof.Machine.execEvict port pkt s
  | .ackShr port pkt => Sys2Proof.Machine.execAckShr port pkt s
  | .ackInv port pkt => Sys2Proof.Machine.execAckInv port pkt s
  | .ackMiss port pkt => Sys2Proof.Machine.execAckMiss port pkt s
  | .ackClean port pkt => Sys2Proof.Machine.execAckClean port pkt s
  | .holdData port pkt => Sys2Proof.Machine.execHoldData port pkt s
  | .transactionClose line => Sys2Proof.Machine.execTransactionClose line s
  | .recallTimeout line agent => Sys2Proof.Machine.execRecallTimeout line agent s
  | .directorySweepDone agent => Sys2Proof.Machine.execDirectorySweepDone agent s
  | .agentDataWrite id value => Sys2Proof.Machine.execAgentDataWrite id value s
  | .agentFence id agent => Sys2Proof.Machine.execAgentFence id agent s
  | .agentUnfence id agent => Sys2Proof.Machine.execAgentUnfence id agent s
  | .schedulerStartUnit sched => Sys2Proof.Machine.execSchedulerStartUnit sched s
  | .gateCommit id port value => Sys2Proof.Machine.execGateCommit id port value s
  | .gateCycleStart port => Sys2Proof.Machine.execGateCycleStart port s
  | .gateWindowBoundary port => Sys2Proof.Machine.execGateWindowBoundary port s
  | .tileAdmissionRetry op tile => Sys2Proof.Machine.execTileAdmissionRetry op tile s
  | .cacheFillDone sub => Sys2Proof.Machine.execCacheFillDone sub s
  | .cacheReleaseDone sub => Sys2Proof.Machine.execCacheReleaseDone sub s
  | .epochEnd => Sys2Proof.Machine.execEpochEnd s
  | .cisternPromotionDone sub failed => Sys2Proof.Machine.execCisternPromotionDone sub failed s
  | .lehrDemoteStart => Sys2Proof.Machine.execLehrDemoteStart s
  | .lehrDemotionCommit sub => Sys2Proof.Machine.execLehrDemotionCommit sub s
  | .nvmeCmdTimeout drive sub => Sys2Proof.Machine.execNvmeCmdTimeout drive sub s
  | .driveFailure drive => Sys2Proof.Machine.execDriveFailure drive s
  | .reservationPreemptDone drive => Sys2Proof.Machine.execReservationPreemptDone drive s
  | .cisternEnable id value => Sys2Proof.Machine.execCisternEnable id value s
  | .migrate h => Sys2Proof.Machine.execMigrate h s
  | .migrateMoveDone h => Sys2Proof.Machine.execMigrateMoveDone h s
  | .sqDoorbell id q value => Sys2Proof.Machine.execSqDoorbell id q value s
  | .doorbellPacket port pkt => Sys2Proof.Machine.execDoorbellPacket port pkt s
  | .takeEntry q read => Sys2Proof.Machine.execTakeEntry q read s
  | .sqCfgWrite id q value => Sys2Proof.Machine.execSqCfgWrite id q value s
  | .cqCfgWrite id q value => Sys2Proof.Machine.execCqCfgWrite id q value s
  | .cqHeadWrite id q value => Sys2Proof.Machine.execCqHeadWrite id q value s
  | .stream h => Sys2Proof.Machine.execStream h s
  | .descriptorFetchDone h => Sys2Proof.Machine.execDescriptorFetchDone h s
  | .updateBlockFetchDone h => Sys2Proof.Machine.execUpdateBlockFetchDone h s
  | .suspend h => Sys2Proof.Machine.execSuspend h s
  | .operationSuspended h => Sys2Proof.Machine.execOperationSuspended h s
  | .resume h => Sys2Proof.Machine.execResume h s
  | .cancel h => Sys2Proof.Machine.execCancel h s
  | .fence h => Sys2Proof.Machine.execFence h s
  | .fenceComplete h => Sys2Proof.Machine.execFenceComplete h s
  | .operationComplete h => Sys2Proof.Machine.execOperationComplete h s
  | .notifyCoalTimeout cq => Sys2Proof.Machine.execNotifyCoalTimeout cq s
  | .batchDeal cluster => Sys2Proof.Machine.execBatchDeal cluster s
  | .tileAssign core => Sys2Proof.Machine.execTileAssign core s
  | .tileCommit op tile => Sys2Proof.Machine.execTileCommit op tile s
  | .fetchRange op tile => Sys2Proof.Machine.execFetchRange op tile s
  | .fetchGather op tile => Sys2Proof.Machine.execFetchGather op tile s
  | .fetchSparse op tile => Sys2Proof.Machine.execFetchSparse op tile s
  | .fillConst op tile => Sys2Proof.Machine.execFillConst op tile s
  | .fillPattern op tile => Sys2Proof.Machine.execFillPattern op tile s
  | .fillRamp op tile => Sys2Proof.Machine.execFillRamp op tile s
  | .expand op tile => Sys2Proof.Machine.execExpand op tile s
  | .convert op tile => Sys2Proof.Machine.execConvert op tile s
  | .selectMask op tile => Sys2Proof.Machine.execSelectMask op tile s
  | .selectTopk op tile => Sys2Proof.Machine.execSelectTopk op tile s
  | .selectRoute op tile => Sys2Proof.Machine.execSelectRoute op tile s
  | .combineAdd op tile => Sys2Proof.Machine.execCombineAdd op tile s
  | .combineSub op tile => Sys2Proof.Machine.execCombineSub op tile s
  | .combineMul op tile => Sys2Proof.Machine.execCombineMul op tile s
  | .combineMax op tile => Sys2Proof.Machine.execCombineMax op tile s
  | .combineMin op tile => Sys2Proof.Machine.execCombineMin op tile s
  | .combineFma op tile => Sys2Proof.Machine.execCombineFma op tile s
  | .combineScale op tile => Sys2Proof.Machine.execCombineScale op tile s
  | .reduceAccum op tile => Sys2Proof.Machine.execReduceAccum op tile s
  | .reduceGroup op tile => Sys2Proof.Machine.execReduceGroup op tile s
  | .updateSgdm op tile => Sys2Proof.Machine.execUpdateSgdm op tile s
  | .updateAdamw op tile => Sys2Proof.Machine.execUpdateAdamw op tile s
  | .updateTable op tile => Sys2Proof.Machine.execUpdateTable op tile s
  | .compact op tile => Sys2Proof.Machine.execCompact op tile s
  | .check op tile => Sys2Proof.Machine.execCheck op tile s
  | .compareBitwise op tile => Sys2Proof.Machine.execCompareBitwise op tile s
  | .compareTol op tile => Sys2Proof.Machine.execCompareTol op tile s
  | .storeRange op tile => Sys2Proof.Machine.execStoreRange op tile s
  | .storeScatter op tile => Sys2Proof.Machine.execStoreScatter op tile s
  | .storeSparse op tile => Sys2Proof.Machine.execStoreSparse op tile s
  | .storePut op tile => Sys2Proof.Machine.execStorePut op tile s
  | .storeRouted op tile => Sys2Proof.Machine.execStoreRouted op tile s
  | .storeNull op tile => Sys2Proof.Machine.execStoreNull op tile s
  | .reductionComplete h => Sys2Proof.Machine.execReductionComplete h s
  | .reservePowerUp cluster => Sys2Proof.Machine.execReservePowerUp cluster s
  | .reserveGoldenTileDone cluster pass => Sys2Proof.Machine.execReserveGoldenTileDone cluster pass s
  | .flitReceive port bytes => Sys2Proof.Machine.execFlitReceive port bytes s
  | .flitTransmit port => Sys2Proof.Machine.execFlitTransmit port s
  | .replayReq port seq => Sys2Proof.Machine.execReplayReq port seq s
  | .ackTimeout port => Sys2Proof.Machine.execAckTimeout port s
  | .replayReqTimeout port => Sys2Proof.Machine.execReplayReqTimeout port s
  | .linkMsgRepeat port => Sys2Proof.Machine.execLinkMsgRepeat port s
  | .creditInit port buf size => Sys2Proof.Machine.execCreditInit port buf size s
  | .linkId port eid width lanes => Sys2Proof.Machine.execLinkId port eid width lanes s
  | .laneThresholdCrossed port tx lane => Sys2Proof.Machine.execLaneThresholdCrossed port tx lane s
  | .swapReq port lane => Sys2Proof.Machine.execSwapReq port lane s
  | .swapMark port lane => Sys2Proof.Machine.execSwapMark port lane s
  | .swapDone port lane => Sys2Proof.Machine.execSwapDone port lane s
  | .swapTimeout port => Sys2Proof.Machine.execSwapTimeout port s
  | .widthReq port width => Sys2Proof.Machine.execWidthReq port width s
  | .widthAck port width => Sys2Proof.Machine.execWidthAck port width s
  | .retrainReq port attempt => Sys2Proof.Machine.execRetrainReq port attempt s
  | .frameLockLoss port => Sys2Proof.Machine.execFrameLockLoss port s
  | .retrainComplete port txOk rxOk exchangeOk => Sys2Proof.Machine.execRetrainComplete port txOk rxOk exchangeOk s
  | .pwrReq port target => Sys2Proof.Machine.execPwrReq port target s
  | .pwrAck port target => Sys2Proof.Machine.execPwrAck port target s
  | .pwrNak port target => Sys2Proof.Machine.execPwrNak port target s
  | .linkEnableWrite id port value => Sys2Proof.Machine.execLinkEnableWrite id port value s
  | .widthMaxWrite id port value => Sys2Proof.Machine.execWidthMaxWrite id port value s
  | .linkRetrainWrite id port value => Sys2Proof.Machine.execLinkRetrainWrite id port value s
  | .pwrTargetWrite id port value => Sys2Proof.Machine.execPwrTargetWrite id port value s
  | .passThroughPacket port pkt => Sys2Proof.Machine.execPassThroughPacket port pkt s
  | .putPacket port pkt => Sys2Proof.Machine.execPutPacket port pkt s
  | .putSparsePacket port pkt => Sys2Proof.Machine.execPutSparsePacket port pkt s
  | .cmpPacket port pkt => Sys2Proof.Machine.execCmpPacket port pkt s
  | .notifyPacket port pkt => Sys2Proof.Machine.execNotifyPacket port pkt s
  | .pubNotifyPacket port pkt => Sys2Proof.Machine.execPubNotifyPacket port pkt s
  | .msgTimeout entry => Sys2Proof.Machine.execMsgTimeout entry s
  | .putCmpTimeout op tile => Sys2Proof.Machine.execPutCmpTimeout op tile s
  | .routeSwap id eid => Sys2Proof.Machine.execRouteSwap id eid s
  | .routeSwapComplete => Sys2Proof.Machine.execRouteSwapComplete s
  | .routeSwapAbort id eid => Sys2Proof.Machine.execRouteSwapAbort id eid s
  | .routeReturnDrainDone eid => Sys2Proof.Machine.execRouteReturnDrainDone eid s
  | .eidFence id eid => Sys2Proof.Machine.execEidFence id eid s
  | .eidUnfence id eid => Sys2Proof.Machine.execEidUnfence id eid s
  | .cxlMemRead hpa => Sys2Proof.Machine.execCxlMemRead hpa s
  | .cxlMemWrite hpa data mask poison => Sys2Proof.Machine.execCxlMemWrite hpa data mask poison s
  | .cxlHotReset => Sys2Proof.Machine.execCxlHotReset s
  | .cxlConfigRequest write offset value => Sys2Proof.Machine.execCxlConfigRequest write offset value s
  | .ltrWrite value => Sys2Proof.Machine.execLtrWrite value s
  | .hdmDecoderCommit dec base size dpa ways => Sys2Proof.Machine.execHdmDecoderCommit dec base size dpa ways s
  | .msixUnmask req => Sys2Proof.Machine.execMsixUnmask req s
  | .getEventRecords log => Sys2Proof.Machine.execGetEventRecords log s
  | .clearEventRecords log handles => Sys2Proof.Machine.execClearEventRecords log handles s
  | .getEventInterruptPolicy => Sys2Proof.Machine.execGetEventInterruptPolicy s
  | .setEventInterruptPolicy policy => Sys2Proof.Machine.execSetEventInterruptPolicy policy s
  | .getFwInfo => Sys2Proof.Machine.execGetFwInfo s
  | .getTimestamp => Sys2Proof.Machine.execGetTimestamp s
  | .setTimestamp value => Sys2Proof.Machine.execSetTimestamp value s
  | .getSupportedLogs => Sys2Proof.Machine.execGetSupportedLogs s
  | .getLog uuid offset len => Sys2Proof.Machine.execGetLog uuid offset len s
  | .identifyMemoryDevice => Sys2Proof.Machine.execIdentifyMemoryDevice s
  | .getPartitionInfo => Sys2Proof.Machine.execGetPartitionInfo s
  | .getHealthInfo => Sys2Proof.Machine.execGetHealthInfo s
  | .unsupportedMailboxOpcode opcode => Sys2Proof.Machine.execUnsupportedMailboxOpcode opcode s
  | .doeDiscovery index => Sys2Proof.Machine.execDoeDiscovery index s
  | .cdatTableAccess entry => Sys2Proof.Machine.execCdatTableAccess entry s
  | .mailboxBindWrite id value => Sys2Proof.Machine.execMailboxBindWrite id value s
  | .mailboxSend id ch value => Sys2Proof.Machine.execMailboxSend id ch value s
  | .mailboxRetract id ch => Sys2Proof.Machine.execMailboxRetract id ch s
  | .mailboxAck id ch => Sys2Proof.Machine.execMailboxAck id ch s
  | .mailboxPacket ch ack data => Sys2Proof.Machine.execMailboxPacket ch ack data s
  | .rxStateLive ch => Sys2Proof.Machine.execRxStateLive ch s
  | .dramCommandIssue ch => Sys2Proof.Machine.execDramCommandIssue ch s
  | .dramReadData ch da upset => Sys2Proof.Machine.execDramReadData ch da upset s
  | .mergeWindowExpiry ch line => Sys2Proof.Machine.execMergeWindowExpiry ch line s
  | .refsbDue ch sc bank => Sys2Proof.Machine.execRefsbDue ch sc bank s
  | .zqCalibration ch => Sys2Proof.Machine.execZqCalibration ch s
  | .spdTempRead ch tempC => Sys2Proof.Machine.execSpdTempRead ch tempC s
  | .dlyApply id ch value => Sys2Proof.Machine.execDlyApply id ch value s
  | .dlyStaleWarn ch => Sys2Proof.Machine.execDlyStaleWarn ch s
  | .remap id ch => Sys2Proof.Machine.execRemap id ch s
  | .remapLookup id ch => Sys2Proof.Machine.execRemapLookup id ch s
  | .ppr id ch repaired => Sys2Proof.Machine.execPpr id ch repaired s
  | .remapCopyDone ch => Sys2Proof.Machine.execRemapCopyDone ch s
  | .autoRemapStart ch => Sys2Proof.Machine.execAutoRemapStart ch s
  | .dramChannelFail ch => Sys2Proof.Machine.execDramChannelFail ch s
  | .basinLineAccess acc => Sys2Proof.Machine.execBasinLineAccess acc s
  | .atomicAddI32 req => Sys2Proof.Machine.execAtomicAddI32 req s
  | .atomicAddI64 req => Sys2Proof.Machine.execAtomicAddI64 req s
  | .atomicAddF32 req => Sys2Proof.Machine.execAtomicAddF32 req s
  | .atomicAddBf16x2 req => Sys2Proof.Machine.execAtomicAddBf16x2 req s
  | .atomicSwap32 req => Sys2Proof.Machine.execAtomicSwap32 req s
  | .atomicSwap64 req => Sys2Proof.Machine.execAtomicSwap64 req s
  | .bankRetEntry group bank => Sys2Proof.Machine.execBankRetEntry group bank s
  | .bankSubstitute id group bank => Sys2Proof.Machine.execBankSubstitute id group bank s
  | .bankSubstitutionDone group => Sys2Proof.Machine.execBankSubstitutionDone group s
  | .bankReinstate id group bank => Sys2Proof.Machine.execBankReinstate id group bank s
  | .reinstateTestDone group pass => Sys2Proof.Machine.execReinstateTestDone group pass s
  | .bankSetOn id group bank => Sys2Proof.Machine.execBankSetOn id group bank s
  | .bankSetRet id group bank => Sys2Proof.Machine.execBankSetRet id group bank s
  | .bankSetOff id group bank => Sys2Proof.Machine.execBankSetOff id group bank s
  | .autoSubstituteStart group => Sys2Proof.Machine.execAutoSubstituteStart group s
  | .fieldFuseBlow id group bank column => Sys2Proof.Machine.execFieldFuseBlow id group bank column s
  | .scrub h => Sys2Proof.Machine.execScrub h s
  | .scrubComplete h => Sys2Proof.Machine.execScrubComplete h s
  | .ceBucketLeak basin index => Sys2Proof.Machine.execCeBucketLeak basin index s
  | .engineTest h => Sys2Proof.Machine.execEngineTest h s
  | .engineTestRoundDone h eng pass => Sys2Proof.Machine.execEngineTestRoundDone h eng pass s
  | .cpKick id => Sys2Proof.Machine.execCpKick id s
  | .cpWatchdogExpiry cp => Sys2Proof.Machine.execCpWatchdogExpiry cp s
  | .faultQHeadWrite id value => Sys2Proof.Machine.execFaultQHeadWrite id value s
  | .eventRateRefill source => Sys2Proof.Machine.execEventRateRefill source s
  | .foldSummary => Sys2Proof.Machine.execFoldSummary s
  | .overflowRecordWrite => Sys2Proof.Machine.execOverflowRecordWrite s
  | .alertAck id => Sys2Proof.Machine.execAlertAck id s
  | .heartbeatSend => Sys2Proof.Machine.execHeartbeatSend s
  | .heartbeat hb => Sys2Proof.Machine.execHeartbeat hb s
  | .heartbeatAnswer hb => Sys2Proof.Machine.execHeartbeatAnswer hb s
  | .heartbeatPathLoss pathB => Sys2Proof.Machine.execHeartbeatPathLoss pathB s
  | .selfFence => Sys2Proof.Machine.execSelfFence s
  | .fencedPortsOut => Sys2Proof.Machine.execFencedPortsOut s
  | .soloWaitExpiry held => Sys2Proof.Machine.execSoloWaitExpiry held s
  | .runnelLossTimeout => Sys2Proof.Machine.execRunnelLossTimeout s
  | .bootWaitExpiry acquired => Sys2Proof.Machine.execBootWaitExpiry acquired s
  | .frameAuditDone => Sys2Proof.Machine.execFrameAuditDone s
  | .mwr tag pa data mask poison => Sys2Proof.Machine.execMwr tag pa data mask poison s
  | .mdir tag change => Sys2Proof.Machine.execMdir tag change s
  | .mack tag dir => Sys2Proof.Machine.execMack tag dir s
  | .tickClose => Sys2Proof.Machine.execTickClose s
  | .delta tick change => Sys2Proof.Machine.execDelta tick change s
  | .tickAck tick => Sys2Proof.Machine.execTickAck tick s
  | .relay port what => Sys2Proof.Machine.execRelay port what s
  | .health seq clean fails => Sys2Proof.Machine.execHealth seq clean fails s
  | .healthReportSend => Sys2Proof.Machine.execHealthReportSend s
  | .healthReportMissed => Sys2Proof.Machine.execHealthReportMissed s
  | .handoverReq => Sys2Proof.Machine.execHandoverReq s
  | .handoverDrainTimeout => Sys2Proof.Machine.execHandoverDrainTimeout s
  | .handoverGo received => Sys2Proof.Machine.execHandoverGo received s
  | .handoverDone => Sys2Proof.Machine.execHandoverDone s
  | .resyncComplete => Sys2Proof.Machine.execResyncComplete s
  | .fenceSelf id => Sys2Proof.Machine.execFenceSelf id s
  | .goSolo id => Sys2Proof.Machine.execGoSolo id s
  | .handover id => Sys2Proof.Machine.execHandover id s
  | .standbyGoldenRound pass => Sys2Proof.Machine.execStandbyGoldenRound pass s
  | .standbyMarchTest pass => Sys2Proof.Machine.execStandbyMarchTest pass s
  | .dramPatrolRead line outcome => Sys2Proof.Machine.execDramPatrolRead line outcome s
  | .eyeMarginCheck failed => Sys2Proof.Machine.execEyeMarginCheck failed s
  | .bindWrite id => Sys2Proof.Machine.execBindWrite id s
  | .bindRead id => Sys2Proof.Machine.execBindRead id s
  | .keyGenerate id => Sys2Proof.Machine.execKeyGenerate id s
  | .keyImport id session wrapped => Sys2Proof.Machine.execKeyImport id session wrapped s
  | .keyZeroise id => Sys2Proof.Machine.execKeyZeroise id s
  | .keyPartnerInstalled slot => Sys2Proof.Machine.execKeyPartnerInstalled slot s
  | .getVersion via => Sys2Proof.Machine.execGetVersion via s
  | .getCapabilities via => Sys2Proof.Machine.execGetCapabilities via s
  | .negotiateAlgorithms via offer => Sys2Proof.Machine.execNegotiateAlgorithms via offer s
  | .getDigests via => Sys2Proof.Machine.execGetDigests via s
  | .getCertificate via slot offset len => Sys2Proof.Machine.execGetCertificate via slot offset len s
  | .challenge via slot nonce => Sys2Proof.Machine.execChallenge via slot nonce s
  | .getMeasurements via index nonce => Sys2Proof.Machine.execGetMeasurements via index nonce s
  | .keyExchange via slot mutAuth exchange => Sys2Proof.Machine.execKeyExchange via slot mutAuth exchange s
  | .finish session verified => Sys2Proof.Machine.execFinish session verified s
  | .endSession session => Sys2Proof.Machine.execEndSession session s
  | .spdmHeartbeat session => Sys2Proof.Machine.execSpdmHeartbeat session s
  | .keyUpdate session keyOp => Sys2Proof.Machine.execKeyUpdate session keyOp s
  | .debugUnlock session sig => Sys2Proof.Machine.execDebugUnlock session sig s
  | .spdmUnsupportedRequest via code => Sys2Proof.Machine.execSpdmUnsupportedRequest via code s
  | .confEnable id value => Sys2Proof.Machine.execConfEnable id value s
  | .queryDeviceIdentifiers => Sys2Proof.Machine.execQueryDeviceIdentifiers s
  | .getFirmwareParameters => Sys2Proof.Machine.execGetFirmwareParameters s
  | .requestUpdate => Sys2Proof.Machine.execRequestUpdate s
  | .passComponentTable types => Sys2Proof.Machine.execPassComponentTable types s
  | .updateComponent image => Sys2Proof.Machine.execUpdateComponent image s
  | .firmwareDataReceived piece => Sys2Proof.Machine.execFirmwareDataReceived piece s
  | .activateFirmware => Sys2Proof.Machine.execActivateFirmware s
  | .getStatus => Sys2Proof.Machine.execGetStatus s
  | .cancelUpdateComponent => Sys2Proof.Machine.execCancelUpdateComponent s
  | .cancelUpdate => Sys2Proof.Machine.execCancelUpdate s
  | .fwuConfirm id type => Sys2Proof.Machine.execFwuConfirm id type s
  | .fwuRevert id type => Sys2Proof.Machine.execFwuRevert id type s
  | .autoConfirmExpiry type => Sys2Proof.Machine.execAutoConfirmExpiry type s
  | .coldStart boot => Sys2Proof.Machine.execColdStart boot s
  | .coldReset perst => Sys2Proof.Machine.execColdReset perst s
  | .warmResetPin boot => Sys2Proof.Machine.execWarmResetPin boot s
  | .warm id boot => Sys2Proof.Machine.execWarm id boot s
  | .mgmtRestart id => Sys2Proof.Machine.execMgmtRestart id s
  | .railOrder breachMs => Sys2Proof.Machine.execRailOrder breachMs s
  | .railDrop rail => Sys2Proof.Machine.execRailDrop rail s
  | .refLost pll => Sys2Proof.Machine.execRefLost pll s
  | .setLatencyTol h => Sys2Proof.Machine.execSetLatencyTol h s
  | .dieTempSample tempC => Sys2Proof.Machine.execDieTempSample tempC s
  | .thermtrip => Sys2Proof.Machine.execThermtrip s
  | .portIdleTimeout port idleUs => Sys2Proof.Machine.execPortIdleTimeout port idleUs s
  | .coreIdleGate core => Sys2Proof.Machine.execCoreIdleGate core s
  | .driveIdleTimeout drive => Sys2Proof.Machine.execDriveIdleTimeout drive s
  | .counterCapture => Sys2Proof.Machine.execCounterCapture s
  | .cntLoRead id page => Sys2Proof.Machine.execCntLoRead id page s
  | .counterSnapshotPages h => Sys2Proof.Machine.execCounterSnapshotPages h s
  | .counterSnapshotOperation h => Sys2Proof.Machine.execCounterSnapshotOperation h s
  | .setProfile h => Sys2Proof.Machine.execSetProfile h s
  | .setProfileCancel h => Sys2Proof.Machine.execSetProfileCancel h s
  | .read32 addr => Sys2Proof.Machine.execRead32 addr s
  | .write32 addr value => Sys2Proof.Machine.execWrite32 addr value s
  | .mctpControl req => Sys2Proof.Machine.execMctpControl req s
  | .getPdr record => Sys2Proof.Machine.execGetPdr record s
  | .getSensorReading sensor => Sys2Proof.Machine.execGetSensorReading sensor s
  | .getStateSensorReadings sensor => Sys2Proof.Machine.execGetStateSensorReadings sensor s
  | .setEventReceiver eid => Sys2Proof.Machine.execSetEventReceiver eid s
  | .softReset id page => Sys2Proof.Machine.execSoftReset id page s
  | .blkLock id page => Sys2Proof.Machine.execBlkLock id page s
  | .blkIsrClear id page value => Sys2Proof.Machine.execBlkIsrClear id page value s
  | .blkIerWrite id page value => Sys2Proof.Machine.execBlkIerWrite id page value s
  | .cxlioReadTimeout what => Sys2Proof.Machine.execCxlioReadTimeout what s
  | .cxlMemAdmissionRetry => Sys2Proof.Machine.execCxlMemAdmissionRetry s
  | .driveReady drive dualPort frames => Sys2Proof.Machine.execDriveReady drive dualPort frames s
  | .driveReadyTimeout drive => Sys2Proof.Machine.execDriveReadyTimeout drive s
  | .confirmCopyDone type => Sys2Proof.Machine.execConfirmCopyDone type s
  | .cxlLinkUp => Sys2Proof.Machine.execCxlLinkUp s
  | .pldmBase code => Sys2Proof.Machine.execPldmBase code s
  | .vddAonLoss => Sys2Proof.Machine.execVddAonLoss s
  | .vddAonValid => Sys2Proof.Machine.execVddAonValid s
  | .jtagTapAccess instr => Sys2Proof.Machine.execJtagTapAccess instr s

end Sys2Proof.Machine
end

