-- ==== Sys2Proof/Machine/Tick.lean ====
section
/-!
DEFINITION. What time alone does: one cycle of CLK_AON, 10 ns of device time (R513), in which the Weir's buckets fill
(R104), mirror writes that waited for a frame are applied (R389), the copy to a partner goes on (R404), the
soft reset of a root port ends (R503), and a warm reset whose work has settled goes on (R455).
-/
namespace Sys2Proof.Machine

/-- The buckets fill by 10 ns at SC_RATE: 12 units of 1/1,200 B for each MB/s (R104). -/
def refill (s : State) : State :=
  let left (c n : Nat) : Nat := n - scRate s c * 12
  let lack := s.weir.lack.filterMap fun e => if left e.1 e.2 = 0 then none else some (e.1, left e.1 e.2)
  { s with weir := { s.weir with
      lack
      missing := s.weir.missing.filterMap fun e =>
        let n := left (e.1 % 8) e.2
        if n = tgetD lack (e.1 % 8) 0 then none else some (e.1, n) } }

/-- The copy to a partner that resynchronises goes on, a sub-page in 170 ns: 400 GB/s at most (R404). -/
def copyOn (s : State) : State := if s.now % 170 = 0 then syncStep s else s

/-- One cycle of CLK_AON. Before the release of reset device time stands (R513). -/
def tick (s : State) : State :=
  if s.pwr.held = 1 then s
  else
    let s := { s with now := s.now + 10 }
    if s.pwr.held = 0 then warmGo (copyOn (drainStaged s.pair.staged (settleReductions (perstEnd (refill s))))) else s

end Sys2Proof.Machine
end

