-- ==== Sys2Proof/Safety.lean ====
section
/-!
DEFINITION. The terms that claims use: the parts of the state, the parts that each command may change, and the invariant
of the machine.
-/
namespace Sys2Proof.Machine

/-- A part of the state: a field of State other than the waiting commands. -/
inductive Part where
  /-- device time. -/
  | now
  /-- the number of the free values drawn. -/
  | fresh
  /-- the registers. -/
  | regs
  /-- the index and staging registers. -/
  | idx
  /-- pool memory. -/
  | mem
  /-- the poisoned lines. -/
  | poison
  /-- the allocator. -/
  | alloc
  /-- translation. -/
  | xlt
  /-- the directory and the home tracker. -/
  | dir
  /-- admission and scheduling. -/
  | weir
  /-- the tier manager. -/
  | tier
  /-- queues, operations and tiles. -/
  | cmd
  /-- the routing table. -/
  | route
  /-- the fault queue and the trackers. -/
  | fault
  /-- the fabric ports. -/
  | link
  /-- the CXL port. -/
  | cxl
  /-- the mailbox bindings. -/
  | mbx
  /-- bindings, keys, sessions. -/
  | sec
  /-- the DRAM channels. -/
  | dram
  /-- the Basin banks. -/
  | basin
  /-- supplies and reset. -/
  | pwr
  /-- the pair supervisor. -/
  | pair
  /-- the images. -/
  | fw
  /-- the counter reader. -/
  | ctr
  /-- the sideband endpoint. -/
  | side
  /-- the counters. -/
  | counters
  /-- what has left the block. -/
  | out
  deriving DecidableEq, Repr

/-- The number of a part, in the order of State's fields. -/
def Part.index : Part → Nat
  | .now => 0
  | .fresh => 1
  | .regs => 2
  | .idx => 3
  | .mem => 4
  | .poison => 5
  | .alloc => 6
  | .xlt => 7
  | .dir => 8
  | .weir => 9
  | .tier => 10
  | .cmd => 11
  | .route => 12
  | .fault => 13
  | .link => 14
  | .cxl => 15
  | .mbx => 16
  | .sec => 17
  | .dram => 18
  | .basin => 19
  | .pwr => 20
  | .pair => 21
  | .fw => 22
  | .ctr => 23
  | .side => 24
  | .counters => 25
  | .out => 26

/-- Two states agree in a part. -/
def Part.same : Part → State → State → Prop
  | .now, s, t => t.now = s.now
  | .fresh, s, t => t.fresh = s.fresh
  | .regs, s, t => t.regs = s.regs
  | .idx, s, t => t.idx = s.idx
  | .mem, s, t => t.mem = s.mem
  | .poison, s, t => t.poison = s.poison
  | .alloc, s, t => t.alloc = s.alloc
  | .xlt, s, t => t.xlt = s.xlt
  | .dir, s, t => t.dir = s.dir
  | .weir, s, t => t.weir = s.weir
  | .tier, s, t => t.tier = s.tier
  | .cmd, s, t => t.cmd = s.cmd
  | .route, s, t => t.route = s.route
  | .fault, s, t => t.fault = s.fault
  | .link, s, t => t.link = s.link
  | .cxl, s, t => t.cxl = s.cxl
  | .mbx, s, t => t.mbx = s.mbx
  | .sec, s, t => t.sec = s.sec
  | .dram, s, t => t.dram = s.dram
  | .basin, s, t => t.basin = s.basin
  | .pwr, s, t => t.pwr = s.pwr
  | .pair, s, t => t.pair = s.pair
  | .fw, s, t => t.fw = s.fw
  | .ctr, s, t => t.ctr = s.ctr
  | .side, s, t => t.side = s.side
  | .counters, s, t => t.counters = s.counters
  | .out, s, t => t.out = s.out

/-- The parts that a command may change. -/
def touches (i : Instr) : List Part :=
  match i with
  | .registerWrite _ _ _ _ => [.fresh, .regs, .idx, .mem, .poison, .alloc, .xlt, .dir, .weir, .tier, .cmd, .route,
    .fault, .link, .cxl, .mbx, .sec, .dram, .basin, .pwr, .pair, .fw, .ctr, .counters, .out]
  | .alloc _ => [.fresh, .regs, .mem, .poison, .alloc, .dir, .weir, .tier, .cmd, .route, .fault, .link, .cxl, .mbx,
    .dram, .pair, .fw, .counters, .out]
  | .free _ => [.regs, .mem, .poison, .alloc, .dir, .weir, .tier, .cmd, .route, .fault, .link, .cxl, .mbx, .dram,
    .pair, .fw, .counters, .out]
  | .freeComplete _ => [.regs, .mem, .poison, .alloc, .xlt, .dir, .weir, .tier, .cmd, .route, .fault, .link, .cxl,
    .mbx, .dram, .pair, .fw, .counters, .out]
  | .resize _ => [.regs, .mem, .poison, .alloc, .dir, .weir, .tier, .cmd, .route, .fault, .link, .cxl, .mbx, .dram,
    .pair, .fw, .counters, .out]
  | .resizeShrinkComplete _ => [.regs, .mem, .poison, .alloc, .xlt, .dir, .weir, .tier, .cmd, .route, .fault, .link,
    .cxl, .mbx, .dram, .pair, .fw, .counters, .out]
  | .resizeGrowResume _ => [.regs, .mem, .poison, .alloc, .dir, .weir, .tier, .cmd, .route, .fault, .link, .cxl,
    .mbx, .dram, .pair, .fw, .counters, .out]
  | .setAttr _ => [.regs, .mem, .poison, .alloc, .dir, .weir, .tier, .cmd, .route, .fault, .link, .cxl, .mbx, .dram,
    .pair, .fw, .counters, .out]
  | .setAttrComplete _ => [.regs, .mem, .poison, .alloc, .dir, .weir, .tier, .cmd, .route, .fault, .link, .cxl, .mbx,
    .dram, .pair, .fw, .counters, .out]
  | .pin _ => [.regs, .mem, .poison, .alloc, .dir, .weir, .tier, .cmd, .route, .fault, .link, .cxl, .mbx, .dram,
    .pair, .fw, .counters, .out]
  | .pinComplete _ => [.regs, .mem, .poison, .alloc, .dir, .weir, .tier, .cmd, .route, .fault, .link, .cxl, .mbx,
    .dram, .pair, .fw, .counters, .out]
  | .unpin _ => [.regs, .mem, .poison, .alloc, .dir, .weir, .tier, .cmd, .route, .fault, .link, .cxl, .mbx, .dram,
    .pair, .fw, .counters, .out]
  | .publish _ => [.regs, .mem, .poison, .alloc, .dir, .weir, .tier, .cmd, .route, .fault, .link, .cxl, .mbx, .dram,
    .pair, .fw, .counters, .out]
  | .versionUnitsRelease _ _ => [.regs, .mem, .poison, .alloc, .dir, .weir, .tier, .cmd, .route, .fault, .link, .cxl,
    .mbx, .dram, .pair, .fw, .counters, .out]
  | .xltInval _ => [.regs, .mem, .poison, .alloc, .xlt, .dir, .weir, .tier, .cmd, .route, .fault, .link, .cxl, .mbx,
    .dram, .pair, .fw, .counters, .out]
  | .xltInvalComplete _ => [.regs, .mem, .poison, .alloc, .xlt, .dir, .weir, .tier, .cmd, .route, .fault, .link,
    .cxl, .mbx, .dram, .pair, .fw, .counters, .out]
  | .ctxIdxWrite _ _ => [.idx]
  | .ctxData3Write _ _ => [.idx, .xlt]
  | .translationPrefetch _ => [.xlt, .tier, .counters, .out]
  | .walkEntryRead _ _ => [.regs, .mem, .poison, .alloc, .xlt, .dir, .weir, .tier, .cmd, .route, .fault, .link, .cxl,
    .mbx, .dram, .pair, .fw, .counters, .out]
  | .rdShared _ _ => [.regs, .mem, .poison, .alloc, .dir, .weir, .tier, .cmd, .route, .fault, .link, .cxl, .mbx,
    .dram, .pair, .fw, .counters, .out]
  | .rdOwn _ _ => [.regs, .mem, .poison, .alloc, .dir, .weir, .tier, .cmd, .route, .fault, .link, .cxl, .mbx, .dram,
    .pair, .fw, .counters, .out]
  | .upgrade _ _ => [.regs, .mem, .poison, .alloc, .dir, .weir, .tier, .cmd, .route, .fault, .link, .cxl, .mbx,
    .dram, .pair, .fw, .counters, .out]
  | .rdOnce _ _ => [.regs, .mem, .poison, .alloc, .dir, .weir, .tier, .cmd, .route, .fault, .link, .cxl, .mbx, .dram,
    .pair, .fw, .counters, .out]
  | .wrOnce _ _ => [.regs, .mem, .poison, .alloc, .dir, .weir, .tier, .cmd, .route, .fault, .link, .cxl, .mbx, .dram,
    .pair, .fw, .counters, .out]
  | .wrData _ _ => [.regs, .mem, .poison, .alloc, .dir, .weir, .tier, .cmd, .route, .fault, .link, .cxl, .mbx, .dram,
    .pair, .fw, .counters, .out]
  | .wbDirty _ _ => [.regs, .mem, .poison, .alloc, .dir, .weir, .tier, .cmd, .route, .fault, .link, .cxl, .mbx,
    .dram, .pair, .fw, .counters, .out]
  | .evict _ _ => [.regs, .mem, .poison, .alloc, .dir, .weir, .tier, .cmd, .route, .fault, .link, .cxl, .mbx, .dram,
    .pair, .fw, .counters, .out]
  | .ackShr _ _ => [.regs, .mem, .poison, .alloc, .dir, .weir, .tier, .cmd, .route, .fault, .link, .cxl, .mbx, .dram,
    .pair, .fw, .counters, .out]
  | .ackInv _ _ => [.regs, .mem, .poison, .alloc, .dir, .weir, .tier, .cmd, .route, .fault, .link, .cxl, .mbx, .dram,
    .pair, .fw, .counters, .out]
  | .ackMiss _ _ => [.regs, .mem, .poison, .alloc, .dir, .weir, .tier, .cmd, .route, .fault, .link, .cxl, .mbx,
    .dram, .pair, .fw, .counters, .out]
  | .ackClean _ _ => [.regs, .mem, .poison, .alloc, .dir, .weir, .tier, .cmd, .route, .fault, .link, .cxl, .mbx,
    .dram, .pair, .fw, .counters, .out]
  | .holdData _ _ => [.regs, .mem, .poison, .alloc, .dir, .weir, .tier, .cmd, .route, .fault, .link, .cxl, .mbx,
    .dram, .pair, .fw, .counters, .out]
  | .transactionClose _ => [.regs, .mem, .poison, .alloc, .dir, .weir, .tier, .cmd, .route, .fault, .link, .cxl,
    .mbx, .dram, .pair, .fw, .counters, .out]
  | .recallTimeout _ _ => [.regs, .mem, .poison, .alloc, .dir, .weir, .tier, .cmd, .route, .fault, .link, .cxl, .mbx,
    .dram, .pair, .fw, .counters, .out]
  | .directorySweepDone _ => [.regs, .mem, .poison, .alloc, .dir, .weir, .tier, .cmd, .route, .fault, .link, .cxl,
    .mbx, .dram, .pair, .fw, .counters, .out]
  | .agentDataWrite _ _ => [.dir]
  | .agentFence _ _ => [.regs, .mem, .poison, .alloc, .dir, .weir, .tier, .cmd, .route, .fault, .link, .cxl, .mbx,
    .dram, .pair, .fw, .counters, .out]
  | .agentUnfence _ _ => [.dir]
  | .schedulerStartUnit _ => [.regs, .weir, .tier, .cmd, .fault, .link, .cxl, .mbx, .pair, .fw, .counters, .out]
  | .gateCommit _ _ _ => [.regs, .weir]
  | .gateCycleStart _ => [.regs, .weir]
  | .gateWindowBoundary _ => [.weir]
  | .tileAdmissionRetry _ _ => [.regs, .mem, .poison, .alloc, .dir, .weir, .tier, .cmd, .route, .fault, .link, .cxl,
    .mbx, .dram, .pair, .fw, .counters, .out]
  | .cacheFillDone _ => [.tier]
  | .cacheReleaseDone _ => [.regs, .tier, .counters]
  | .epochEnd => [.tier]
  | .cisternPromotionDone _ _ => [.fresh, .regs, .mem, .poison, .alloc, .dir, .weir, .tier, .cmd, .route, .fault,
    .link, .cxl, .mbx, .dram, .pair, .fw, .counters, .out]
  | .lehrDemoteStart => [.regs, .tier, .counters, .out]
  | .lehrDemotionCommit _ => [.regs, .mem, .poison, .alloc, .dir, .weir, .tier, .cmd, .route, .fault, .link, .cxl,
    .mbx, .dram, .pair, .fw, .counters, .out]
  | .nvmeCmdTimeout _ _ => [.regs, .mem, .poison, .alloc, .dir, .weir, .tier, .cmd, .route, .fault, .link, .cxl,
    .mbx, .dram, .pair, .fw, .counters, .out]
  | .driveFailure _ => [.regs, .mem, .poison, .alloc, .dir, .weir, .tier, .cmd, .route, .fault, .link, .cxl, .mbx,
    .dram, .pair, .fw, .counters, .out]
  | .reservationPreemptDone _ => [.regs, .mem, .poison, .alloc, .dir, .weir, .tier, .cmd, .route, .fault, .link,
    .cxl, .mbx, .dram, .pair, .fw, .counters, .out]
  | .cisternEnable _ _ => [.regs, .tier, .counters, .out]
  | .migrate _ => [.regs, .mem, .poison, .alloc, .dir, .weir, .tier, .cmd, .route, .fault, .link, .cxl, .mbx, .dram,
    .pair, .fw, .counters, .out]
  | .migrateMoveDone _ => [.regs, .mem, .poison, .alloc, .dir, .weir, .tier, .cmd, .route, .fault, .link, .cxl, .mbx,
    .dram, .pair, .fw, .counters, .out]
  | .sqDoorbell _ _ _ => [.regs, .tier, .cxl, .out]
  | .doorbellPacket _ _ => [.regs, .weir, .tier, .fault, .link, .cxl, .mbx, .pair, .fw, .counters, .out]
  | .takeEntry _ _ => [.fresh, .regs, .mem, .poison, .alloc, .dir, .weir, .tier, .cmd, .route, .fault, .link, .cxl,
    .mbx, .dram, .pair, .fw, .counters, .out]
  | .sqCfgWrite _ _ _ => [.regs]
  | .cqCfgWrite _ _ _ => [.regs, .cmd]
  | .cqHeadWrite _ _ _ => [.regs]
  | .stream _ => [.regs, .mem, .poison, .alloc, .dir, .weir, .tier, .cmd, .route, .fault, .link, .cxl, .mbx, .dram,
    .pair, .fw, .counters, .out]
  | .descriptorFetchDone _ => [.regs, .mem, .poison, .alloc, .xlt, .dir, .weir, .tier, .cmd, .route, .fault, .link,
    .cxl, .mbx, .dram, .pair, .fw, .counters, .out]
  | .updateBlockFetchDone _ => [.regs, .mem, .poison, .alloc, .xlt, .dir, .weir, .tier, .cmd, .route, .fault, .link,
    .cxl, .mbx, .dram, .pair, .fw, .counters, .out]
  | .suspend _ => [.regs, .mem, .poison, .alloc, .dir, .weir, .tier, .cmd, .route, .fault, .link, .cxl, .mbx, .dram,
    .pair, .fw, .counters, .out]
  | .operationSuspended _ => [.regs, .mem, .poison, .alloc, .dir, .weir, .tier, .cmd, .route, .fault, .link, .cxl,
    .mbx, .dram, .pair, .fw, .counters, .out]
  | .resume _ => [.regs, .mem, .poison, .alloc, .dir, .weir, .tier, .cmd, .route, .fault, .link, .cxl, .mbx, .dram,
    .pair, .fw, .counters, .out]
  | .cancel _ => [.regs, .mem, .poison, .alloc, .dir, .weir, .tier, .cmd, .route, .fault, .link, .cxl, .mbx, .dram,
    .pair, .fw, .counters, .out]
  | .fence _ => [.cmd]
  | .fenceComplete _ => [.regs, .mem, .poison, .alloc, .dir, .weir, .tier, .cmd, .route, .fault, .link, .cxl, .mbx,
    .dram, .pair, .fw, .counters, .out]
  | .operationComplete _ => [.regs, .mem, .poison, .alloc, .dir, .weir, .tier, .cmd, .route, .fault, .link, .cxl,
    .mbx, .dram, .pair, .fw, .counters, .out]
  | .notifyCoalTimeout _ => [.regs, .weir, .tier, .cmd, .route, .fault, .link, .cxl, .mbx, .pair, .fw, .counters,
    .out]
  | .batchDeal _ => [.regs, .mem, .poison, .alloc, .dir, .weir, .tier, .cmd, .route, .fault, .link, .cxl, .mbx,
    .dram, .pair, .fw, .counters, .out]
  | .tileAssign _ => [.regs, .mem, .poison, .alloc, .xlt, .dir, .weir, .tier, .cmd, .route, .fault, .link, .cxl,
    .mbx, .dram, .pair, .fw, .counters, .out]
  | .tileCommit _ _ => [.regs, .mem, .poison, .alloc, .xlt, .dir, .weir, .tier, .cmd, .route, .fault, .link, .cxl,
    .mbx, .dram, .pair, .fw, .counters, .out]
  | .fetchRange _ _ => [.regs, .mem, .poison, .alloc, .xlt, .dir, .weir, .tier, .cmd, .route, .fault, .link, .cxl,
    .mbx, .dram, .pair, .fw, .counters, .out]
  | .fetchGather _ _ => [.regs, .mem, .poison, .alloc, .xlt, .dir, .weir, .tier, .cmd, .route, .fault, .link, .cxl,
    .mbx, .dram, .pair, .fw, .counters, .out]
  | .fetchSparse _ _ => [.regs, .mem, .poison, .alloc, .xlt, .dir, .weir, .tier, .cmd, .route, .fault, .link, .cxl,
    .mbx, .dram, .pair, .fw, .counters, .out]
  | .fillConst _ _ => [.regs, .mem, .poison, .alloc, .dir, .weir, .tier, .cmd, .route, .fault, .link, .cxl, .mbx,
    .dram, .pair, .fw, .counters, .out]
  | .fillPattern _ _ => [.regs, .mem, .poison, .alloc, .dir, .weir, .tier, .cmd, .route, .fault, .link, .cxl, .mbx,
    .dram, .pair, .fw, .counters, .out]
  | .fillRamp _ _ => [.regs, .mem, .poison, .alloc, .dir, .weir, .tier, .cmd, .route, .fault, .link, .cxl, .mbx,
    .dram, .pair, .fw, .counters, .out]
  | .expand _ _ => [.regs, .mem, .poison, .alloc, .dir, .weir, .tier, .cmd, .route, .fault, .link, .cxl, .mbx, .dram,
    .pair, .fw, .counters, .out]
  | .convert _ _ => [.regs, .mem, .poison, .alloc, .dir, .weir, .tier, .cmd, .route, .fault, .link, .cxl, .mbx,
    .dram, .pair, .fw, .counters, .out]
  | .selectMask _ _ => [.regs, .mem, .poison, .alloc, .dir, .weir, .tier, .cmd, .route, .fault, .link, .cxl, .mbx,
    .dram, .pair, .fw, .counters, .out]
  | .selectTopk _ _ => [.regs, .mem, .poison, .alloc, .dir, .weir, .tier, .cmd, .route, .fault, .link, .cxl, .mbx,
    .dram, .pair, .fw, .counters, .out]
  | .selectRoute _ _ => [.regs, .mem, .poison, .alloc, .xlt, .dir, .weir, .tier, .cmd, .route, .fault, .link, .cxl,
    .mbx, .dram, .pair, .fw, .counters, .out]
  | .combineAdd _ _ => [.regs, .mem, .poison, .alloc, .xlt, .dir, .weir, .tier, .cmd, .route, .fault, .link, .cxl,
    .mbx, .dram, .pair, .fw, .counters, .out]
  | .combineSub _ _ => [.regs, .mem, .poison, .alloc, .xlt, .dir, .weir, .tier, .cmd, .route, .fault, .link, .cxl,
    .mbx, .dram, .pair, .fw, .counters, .out]
  | .combineMul _ _ => [.regs, .mem, .poison, .alloc, .xlt, .dir, .weir, .tier, .cmd, .route, .fault, .link, .cxl,
    .mbx, .dram, .pair, .fw, .counters, .out]
  | .combineMax _ _ => [.regs, .mem, .poison, .alloc, .xlt, .dir, .weir, .tier, .cmd, .route, .fault, .link, .cxl,
    .mbx, .dram, .pair, .fw, .counters, .out]
  | .combineMin _ _ => [.regs, .mem, .poison, .alloc, .xlt, .dir, .weir, .tier, .cmd, .route, .fault, .link, .cxl,
    .mbx, .dram, .pair, .fw, .counters, .out]
  | .combineFma _ _ => [.regs, .mem, .poison, .alloc, .xlt, .dir, .weir, .tier, .cmd, .route, .fault, .link, .cxl,
    .mbx, .dram, .pair, .fw, .counters, .out]
  | .combineScale _ _ => [.regs, .mem, .poison, .alloc, .xlt, .dir, .weir, .tier, .cmd, .route, .fault, .link, .cxl,
    .mbx, .dram, .pair, .fw, .counters, .out]
  | .reduceAccum _ _ => [.regs, .mem, .poison, .alloc, .xlt, .dir, .weir, .tier, .cmd, .route, .fault, .link, .cxl,
    .mbx, .dram, .pair, .fw, .counters, .out]
  | .reduceGroup _ _ => [.regs, .mem, .poison, .alloc, .dir, .weir, .tier, .cmd, .route, .fault, .link, .cxl, .mbx,
    .dram, .pair, .fw, .counters, .out]
  | .updateSgdm _ _ => [.regs, .mem, .poison, .alloc, .xlt, .dir, .weir, .tier, .cmd, .route, .fault, .link, .cxl,
    .mbx, .dram, .pair, .fw, .counters, .out]
  | .updateAdamw _ _ => [.regs, .mem, .poison, .alloc, .xlt, .dir, .weir, .tier, .cmd, .route, .fault, .link, .cxl,
    .mbx, .dram, .pair, .fw, .counters, .out]
  | .updateTable _ _ => [.regs, .mem, .poison, .alloc, .xlt, .dir, .weir, .tier, .cmd, .route, .fault, .link, .cxl,
    .mbx, .dram, .pair, .fw, .counters, .out]
  | .compact _ _ => [.regs, .mem, .poison, .alloc, .dir, .weir, .tier, .cmd, .route, .fault, .link, .cxl, .mbx,
    .dram, .pair, .fw, .counters, .out]
  | .check _ _ => [.regs, .mem, .poison, .alloc, .xlt, .dir, .weir, .tier, .cmd, .route, .fault, .link, .cxl, .mbx,
    .dram, .pair, .fw, .counters, .out]
  | .compareBitwise _ _ => [.fresh, .regs, .mem, .poison, .alloc, .xlt, .dir, .weir, .tier, .cmd, .route, .fault,
    .link, .cxl, .mbx, .dram, .pair, .fw, .counters, .out]
  | .compareTol _ _ => [.fresh, .regs, .mem, .poison, .alloc, .xlt, .dir, .weir, .tier, .cmd, .route, .fault, .link,
    .cxl, .mbx, .dram, .pair, .fw, .counters, .out]
  | .storeRange _ _ => [.regs, .mem, .poison, .alloc, .xlt, .dir, .weir, .tier, .cmd, .route, .fault, .link, .cxl,
    .mbx, .dram, .pair, .fw, .counters, .out]
  | .storeScatter _ _ => [.regs, .mem, .poison, .alloc, .xlt, .dir, .weir, .tier, .cmd, .route, .fault, .link, .cxl,
    .mbx, .dram, .pair, .fw, .counters, .out]
  | .storeSparse _ _ => [.regs, .mem, .poison, .alloc, .xlt, .dir, .weir, .tier, .cmd, .route, .fault, .link, .cxl,
    .mbx, .dram, .pair, .fw, .counters, .out]
  | .storePut _ _ => [.regs, .mem, .poison, .alloc, .dir, .weir, .tier, .cmd, .route, .fault, .link, .cxl, .mbx,
    .dram, .pair, .fw, .counters, .out]
  | .storeRouted _ _ => [.regs, .mem, .poison, .alloc, .dir, .weir, .tier, .cmd, .route, .fault, .link, .cxl, .mbx,
    .dram, .pair, .fw, .counters, .out]
  | .storeNull _ _ => [.regs, .mem, .poison, .alloc, .dir, .weir, .tier, .cmd, .route, .fault, .link, .cxl, .mbx,
    .dram, .pair, .fw, .counters, .out]
  | .reductionComplete _ => [.regs, .mem, .poison, .alloc, .xlt, .dir, .weir, .tier, .cmd, .route, .fault, .link,
    .cxl, .mbx, .dram, .pair, .fw, .counters, .out]
  | .reservePowerUp _ => [.regs]
  | .reserveGoldenTileDone _ _ => [.regs, .weir, .tier, .cmd, .fault, .cxl, .mbx, .pair, .fw, .counters, .out]
  | .flitReceive _ _ => [.regs, .dir, .weir, .tier, .route, .fault, .link, .cxl, .mbx, .pair, .fw, .counters, .out]
  | .flitTransmit _ => [.regs, .dir, .weir, .tier, .route, .link, .counters, .out]
  | .replayReq _ _ => [.regs, .dir, .route, .link]
  | .ackTimeout _ => [.regs, .dir, .route, .link]
  | .replayReqTimeout _ => [.regs, .link]
  | .linkMsgRepeat _ => [.regs, .link]
  | .creditInit _ _ _ => [.regs, .link]
  | .linkId _ _ _ _ => [.regs, .link]
  | .laneThresholdCrossed _ _ _ => [.regs, .dir, .weir, .tier, .route, .fault, .link, .cxl, .mbx, .pair, .fw,
    .counters, .out]
  | .swapReq _ _ => [.regs, .dir, .route, .link]
  | .swapMark _ _ => [.regs, .weir, .tier, .fault, .link, .cxl, .mbx, .pair, .fw, .counters, .out]
  | .swapDone _ _ => [.regs, .dir, .weir, .tier, .route, .fault, .link, .cxl, .mbx, .pair, .fw, .counters, .out]
  | .swapTimeout _ => [.regs, .dir, .route, .link]
  | .widthReq _ _ => [.regs, .dir, .weir, .tier, .route, .fault, .link, .cxl, .mbx, .pair, .fw, .counters, .out]
  | .widthAck _ _ => [.regs, .dir, .weir, .tier, .route, .fault, .link, .cxl, .mbx, .pair, .fw, .counters, .out]
  | .retrainReq _ _ => [.regs, .dir, .route, .link]
  | .frameLockLoss _ => [.regs, .dir, .route, .link]
  | .retrainComplete _ _ _ _ => [.regs, .mem, .poison, .alloc, .dir, .weir, .tier, .cmd, .route, .fault, .link, .cxl,
    .mbx, .dram, .pair, .fw, .counters, .out]
  | .pwrReq _ _ => [.regs, .link]
  | .pwrAck _ _ => [.regs, .dir, .route, .link]
  | .pwrNak _ _ => [.regs, .link]
  | .linkEnableWrite _ _ _ => [.regs, .mem, .poison, .alloc, .dir, .weir, .tier, .cmd, .route, .fault, .link, .cxl,
    .mbx, .dram, .pair, .fw, .counters, .out]
  | .widthMaxWrite _ _ _ => [.regs, .mem, .poison, .alloc, .dir, .weir, .tier, .cmd, .route, .fault, .link, .cxl,
    .mbx, .dram, .pair, .fw, .counters, .out]
  | .linkRetrainWrite _ _ _ => [.regs, .mem, .poison, .alloc, .dir, .weir, .tier, .cmd, .route, .fault, .link, .cxl,
    .mbx, .dram, .pair, .fw, .counters, .out]
  | .pwrTargetWrite _ _ _ => [.regs, .mem, .poison, .alloc, .dir, .weir, .tier, .cmd, .route, .fault, .link, .cxl,
    .mbx, .dram, .pair, .fw, .counters, .out]
  | .passThroughPacket _ _ => [.regs, .weir, .tier, .cmd, .route, .fault, .link, .cxl, .mbx, .pair, .fw, .counters,
    .out]
  | .putPacket _ _ => [.regs, .mem, .poison, .alloc, .dir, .weir, .tier, .cmd, .route, .fault, .link, .cxl, .mbx,
    .dram, .pair, .fw, .counters, .out]
  | .putSparsePacket _ _ => [.regs, .mem, .poison, .alloc, .dir, .weir, .tier, .cmd, .route, .fault, .link, .cxl,
    .mbx, .dram, .pair, .fw, .counters, .out]
  | .cmpPacket _ _ => [.regs, .mem, .poison, .alloc, .dir, .weir, .tier, .cmd, .route, .fault, .link, .cxl, .mbx,
    .dram, .pair, .fw, .counters, .out]
  | .notifyPacket _ _ => [.regs, .weir, .link, .pair, .counters]
  | .pubNotifyPacket _ _ => [.regs, .weir, .link, .pair, .counters]
  | .msgTimeout _ => [.regs, .weir, .tier, .cmd, .route, .fault, .link, .cxl, .mbx, .pair, .fw, .counters, .out]
  | .putCmpTimeout _ _ => [.regs, .mem, .poison, .alloc, .dir, .weir, .tier, .cmd, .route, .fault, .link, .cxl, .mbx,
    .dram, .pair, .fw, .counters, .out]
  | .routeSwap _ _ => [.regs, .mem, .poison, .alloc, .dir, .weir, .tier, .cmd, .route, .fault, .link, .cxl, .mbx,
    .dram, .pair, .fw, .counters, .out]
  | .routeSwapComplete => [.regs, .mem, .poison, .alloc, .dir, .weir, .tier, .cmd, .route, .fault, .link, .cxl, .mbx,
    .dram, .pair, .fw, .counters, .out]
  | .routeSwapAbort _ _ => [.regs, .mem, .poison, .alloc, .dir, .weir, .tier, .cmd, .route, .fault, .link, .cxl,
    .mbx, .dram, .pair, .fw, .counters, .out]
  | .routeReturnDrainDone _ => [.regs, .mem, .poison, .alloc, .dir, .weir, .tier, .cmd, .route, .fault, .link, .cxl,
    .mbx, .dram, .pair, .fw, .counters, .out]
  | .eidFence _ _ => [.weir, .cmd, .route, .counters]
  | .eidUnfence _ _ => [.route]
  | .cxlMemRead _ => [.regs, .mem, .poison, .alloc, .dir, .weir, .tier, .cmd, .route, .fault, .link, .cxl, .mbx,
    .dram, .pair, .fw, .counters, .out]
  | .cxlMemWrite _ _ _ _ => [.regs, .mem, .poison, .alloc, .dir, .weir, .tier, .cmd, .route, .fault, .link, .cxl,
    .mbx, .dram, .pair, .fw, .counters, .out]
  | .cxlHotReset => [.regs, .mem, .poison, .alloc, .dir, .weir, .tier, .cmd, .route, .fault, .link, .cxl, .mbx,
    .dram, .pair, .fw, .counters, .out]
  | .cxlConfigRequest _ _ _ => [.fresh, .regs, .tier, .cxl, .out]
  | .ltrWrite _ => [.regs, .pwr]
  | .hdmDecoderCommit _ _ _ _ _ => [.regs, .tier, .cxl, .out]
  | .msixUnmask _ => [.regs, .tier, .cxl, .out]
  | .getEventRecords _ => [.tier, .cxl, .out]
  | .clearEventRecords _ _ => [.tier, .cxl, .out]
  | .getEventInterruptPolicy => [.tier, .cxl, .out]
  | .setEventInterruptPolicy _ => [.tier, .cxl, .out]
  | .getFwInfo => [.tier, .cxl, .out]
  | .getTimestamp => [.tier, .cxl, .out]
  | .setTimestamp _ => [.tier, .cxl, .out]
  | .getSupportedLogs => [.tier, .cxl, .out]
  | .getLog _ _ _ => [.tier, .cxl, .out]
  | .identifyMemoryDevice => [.tier, .cxl, .out]
  | .getPartitionInfo => [.tier, .cxl, .out]
  | .getHealthInfo => [.fresh, .tier, .cxl, .out]
  | .unsupportedMailboxOpcode _ => [.tier, .cxl, .out]
  | .doeDiscovery _ => [.tier, .out]
  | .cdatTableAccess _ => [.tier, .out]
  | .mailboxBindWrite _ _ => [.mbx]
  | .mailboxSend _ _ _ => [.regs, .weir, .tier, .cxl, .mbx, .pair, .counters, .out]
  | .mailboxRetract _ _ => [.regs, .weir, .tier, .cxl, .mbx, .pair, .counters, .out]
  | .mailboxAck _ _ => [.regs, .weir, .tier, .fault, .cxl, .mbx, .pair, .counters, .out]
  | .mailboxPacket _ _ _ => [.regs, .weir, .tier, .fault, .link, .cxl, .mbx, .pair, .counters, .out]
  | .rxStateLive _ => [.weir, .tier, .cxl, .pair, .counters, .out]
  | .dramCommandIssue _ => [.tier, .dram, .counters, .out]
  | .dramReadData _ _ _ => [.regs, .mem, .poison, .alloc, .weir, .tier, .cmd, .fault, .cxl, .mbx, .pair, .fw,
    .counters, .out]
  | .mergeWindowExpiry _ _ => [.regs, .dram, .counters]
  | .refsbDue _ _ _ => [.regs, .tier, .dram, .counters, .out]
  | .zqCalibration _ => [.tier, .out]
  | .spdTempRead _ _ => [.regs, .tier, .cxl, .out]
  | .dlyApply _ _ _ => [.regs, .dram]
  | .dlyStaleWarn _ => [.regs, .weir, .tier, .fault, .cxl, .mbx, .pair, .fw, .counters, .out]
  | .remap _ _ => [.regs, .weir, .tier, .fault, .cxl, .mbx, .dram, .pair, .fw, .counters, .out]
  | .remapLookup _ _ => [.regs]
  | .ppr _ _ _ => [.regs, .weir, .tier, .fault, .cxl, .mbx, .dram, .pair, .fw, .counters, .out]
  | .remapCopyDone _ => [.regs, .weir, .tier, .fault, .cxl, .mbx, .dram, .pair, .fw, .counters, .out]
  | .autoRemapStart _ => [.regs, .weir, .tier, .fault, .cxl, .mbx, .dram, .pair, .fw, .counters, .out]
  | .dramChannelFail _ => [.regs, .weir, .tier, .fault, .cxl, .mbx, .pair, .fw, .counters, .out]
  | .basinLineAccess _ => [.regs, .mem, .poison, .alloc, .weir, .tier, .cmd, .fault, .cxl, .mbx, .basin, .pair, .fw,
    .counters, .out]
  | .atomicAddI32 _ => [.regs, .mem, .poison, .alloc, .dir, .weir, .tier, .cmd, .route, .fault, .link, .cxl, .mbx,
    .dram, .pair, .fw, .counters, .out]
  | .atomicAddI64 _ => [.regs, .mem, .poison, .alloc, .dir, .weir, .tier, .cmd, .route, .fault, .link, .cxl, .mbx,
    .dram, .pair, .fw, .counters, .out]
  | .atomicAddF32 _ => [.regs, .mem, .poison, .alloc, .dir, .weir, .tier, .cmd, .route, .fault, .link, .cxl, .mbx,
    .dram, .pair, .fw, .counters, .out]
  | .atomicAddBf16x2 _ => [.regs, .mem, .poison, .alloc, .dir, .weir, .tier, .cmd, .route, .fault, .link, .cxl, .mbx,
    .dram, .pair, .fw, .counters, .out]
  | .atomicSwap32 _ => [.regs, .mem, .poison, .alloc, .dir, .weir, .tier, .cmd, .route, .fault, .link, .cxl, .mbx,
    .dram, .pair, .fw, .counters, .out]
  | .atomicSwap64 _ => [.regs, .mem, .poison, .alloc, .dir, .weir, .tier, .cmd, .route, .fault, .link, .cxl, .mbx,
    .dram, .pair, .fw, .counters, .out]
  | .bankRetEntry _ _ => [.regs]
  | .bankSubstitute _ _ _ => [.regs, .dir, .basin]
  | .bankSubstitutionDone _ => [.regs, .weir, .tier, .fault, .cxl, .mbx, .basin, .pair, .fw, .counters, .out]
  | .bankReinstate _ _ _ => [.regs, .basin]
  | .reinstateTestDone _ _ => [.regs, .fault, .basin]
  | .bankSetOn _ _ _ => [.regs]
  | .bankSetRet _ _ _ => [.regs]
  | .bankSetOff _ _ _ => [.regs, .basin]
  | .autoSubstituteStart _ => [.regs, .dir, .fault, .basin]
  | .fieldFuseBlow _ _ _ _ => [.regs, .weir, .tier, .fault, .cxl, .mbx, .basin, .pair, .fw, .counters, .out]
  | .scrub _ => [.regs, .mem, .poison, .alloc, .dir, .weir, .tier, .cmd, .route, .fault, .link, .cxl, .mbx, .dram,
    .pair, .fw, .counters, .out]
  | .scrubComplete _ => [.fresh, .regs, .mem, .poison, .alloc, .dir, .weir, .tier, .cmd, .route, .fault, .link, .cxl,
    .mbx, .dram, .pair, .fw, .counters, .out]
  | .ceBucketLeak _ _ => [.fault]
  | .engineTest _ => [.regs, .mem, .poison, .alloc, .dir, .weir, .tier, .cmd, .route, .fault, .link, .cxl, .mbx,
    .dram, .pair, .fw, .counters, .out]
  | .engineTestRoundDone _ _ _ => [.regs, .mem, .poison, .alloc, .xlt, .dir, .weir, .tier, .cmd, .route, .fault,
    .link, .cxl, .mbx, .dram, .pair, .fw, .counters, .out]
  | .cpKick _ => [.fault]
  | .cpWatchdogExpiry _ => [.regs, .mem, .poison, .alloc, .dir, .weir, .tier, .cmd, .route, .fault, .link, .cxl,
    .mbx, .dram, .pair, .fw, .counters, .out]
  | .faultQHeadWrite _ _ => [.regs, .tier, .fault, .cxl, .out]
  | .eventRateRefill _ => [.fault]
  | .foldSummary => [.regs, .tier, .fault, .cxl, .out]
  | .overflowRecordWrite => [.regs, .tier, .fault, .cxl, .out]
  | .alertAck _ => [.regs, .tier, .fault, .out]
  | .heartbeatSend => [.weir, .tier, .pair, .counters, .out]
  | .heartbeat _ => [.regs, .mem, .poison, .alloc, .xlt, .dir, .weir, .tier, .cmd, .route, .fault, .link, .cxl, .mbx,
    .sec, .dram, .pair, .fw, .counters, .out]
  | .heartbeatAnswer _ => [.regs, .mem, .poison, .alloc, .xlt, .dir, .weir, .tier, .cmd, .route, .fault, .link, .cxl,
    .mbx, .sec, .dram, .pair, .fw, .counters, .out]
  | .heartbeatPathLoss _ => [.regs, .mem, .poison, .alloc, .xlt, .dir, .weir, .tier, .cmd, .route, .fault, .link,
    .cxl, .mbx, .sec, .dram, .pair, .fw, .counters, .out]
  | .selfFence => [.regs, .dir, .weir, .tier, .cmd, .route, .fault, .cxl, .mbx, .pair, .fw, .counters, .out]
  | .fencedPortsOut => [.regs, .mem, .poison, .alloc, .dir, .weir, .tier, .cmd, .route, .fault, .link, .cxl, .mbx,
    .dram, .pair, .fw, .counters, .out]
  | .soloWaitExpiry _ => [.regs, .mem, .poison, .alloc, .dir, .weir, .tier, .cmd, .route, .fault, .link, .cxl, .mbx,
    .sec, .dram, .pair, .fw, .counters, .out]
  | .runnelLossTimeout => [.regs, .mem, .poison, .alloc, .dir, .weir, .tier, .cmd, .route, .fault, .link, .cxl, .mbx,
    .sec, .dram, .pair, .fw, .counters, .out]
  | .bootWaitExpiry _ => [.regs, .mem, .poison, .alloc, .dir, .weir, .tier, .cmd, .route, .fault, .link, .cxl, .mbx,
    .sec, .dram, .pair, .fw, .counters, .out]
  | .frameAuditDone => [.regs, .tier, .pair]
  | .mwr _ _ _ _ _ => [.regs, .mem, .poison, .alloc, .weir, .tier, .link, .pair, .counters]
  | .mdir _ _ => [.regs, .mem, .poison, .alloc, .dir, .weir, .tier, .cmd, .link, .dram, .pair, .counters, .out]
  | .mack _ _ => [.regs, .mem, .poison, .alloc, .dir, .weir, .tier, .cmd, .route, .fault, .link, .cxl, .mbx, .dram,
    .pair, .fw, .counters, .out]
  | .tickClose => [.weir, .pair, .counters]
  | .delta _ _ => [.regs, .mem, .poison, .alloc, .xlt, .dir, .weir, .tier, .cmd, .route, .fault, .cxl, .sec, .pair,
    .counters, .out]
  | .tickAck _ => [.regs, .link]
  | .relay _ _ => [.regs, .mem, .poison, .alloc, .dir, .weir, .tier, .cmd, .route, .fault, .link, .cxl, .mbx, .dram,
    .pair, .fw, .counters, .out]
  | .health _ _ _ => [.regs, .link]
  | .healthReportSend => [.regs, .mem, .poison, .alloc, .dir, .weir, .tier, .cmd, .route, .fault, .link, .cxl, .mbx,
    .dram, .pair, .fw, .counters, .out]
  | .healthReportMissed => [.regs]
  | .handoverReq => [.regs, .mem, .poison, .alloc, .dir, .weir, .tier, .cmd, .route, .fault, .link, .cxl, .mbx,
    .dram, .pair, .fw, .counters, .out]
  | .handoverDrainTimeout => [.regs, .mem, .poison, .alloc, .dir, .weir, .tier, .cmd, .route, .fault, .link, .cxl,
    .mbx, .dram, .pair, .fw, .counters, .out]
  | .handoverGo _ => [.regs, .idx, .mem, .poison, .alloc, .xlt, .dir, .weir, .tier, .cmd, .route, .fault, .link,
    .cxl, .mbx, .sec, .dram, .basin, .pwr, .pair, .fw, .ctr, .counters, .out]
  | .handoverDone => [.link]
  | .resyncComplete => [.regs, .mem, .poison, .alloc, .dir, .weir, .tier, .cmd, .route, .fault, .link, .cxl, .mbx,
    .dram, .pair, .fw, .counters, .out]
  | .fenceSelf _ => [.regs, .mem, .poison, .alloc, .dir, .weir, .tier, .cmd, .route, .fault, .link, .cxl, .mbx,
    .dram, .pair, .fw, .counters, .out]
  | .goSolo _ => [.regs, .mem, .poison, .alloc, .dir, .weir, .tier, .cmd, .route, .fault, .link, .cxl, .mbx, .sec,
    .dram, .pair, .fw, .counters, .out]
  | .handover _ => [.regs, .weir, .pair, .counters]
  | .standbyGoldenRound _ => [.regs, .xlt, .dir, .weir, .tier, .cmd, .fault, .cxl, .mbx, .pair, .fw, .counters, .out]
  | .standbyMarchTest _ => [.regs, .pair]
  | .dramPatrolRead _ _ => [.regs, .poison, .alloc, .weir, .tier, .cmd, .fault, .cxl, .mbx, .pair, .fw, .counters,
    .out]
  | .eyeMarginCheck _ => [.regs, .weir, .tier, .fault, .cxl, .mbx, .pair, .fw, .counters, .out]
  | .bindWrite _ => [.regs, .sec]
  | .bindRead _ => [.idx]
  | .keyGenerate _ => [.fresh, .regs, .weir, .sec, .pair, .counters]
  | .keyImport _ _ _ => [.regs, .weir, .sec, .pair, .counters]
  | .keyZeroise _ => [.regs, .weir, .sec, .pair, .counters]
  | .keyPartnerInstalled _ => [.regs, .sec]
  | .getVersion _ => [.tier, .sec, .out]
  | .getCapabilities _ => [.tier, .sec, .out]
  | .negotiateAlgorithms _ _ => [.tier, .sec, .out]
  | .getDigests _ => [.tier, .out]
  | .getCertificate _ _ _ _ => [.tier, .out]
  | .challenge _ _ _ => [.fresh, .tier, .out]
  | .getMeasurements _ _ _ => [.fresh, .tier, .out]
  | .keyExchange _ _ _ _ => [.fresh, .tier, .sec, .out]
  | .finish _ _ => [.tier, .sec, .out]
  | .endSession _ => [.tier, .sec, .out]
  | .spdmHeartbeat _ => [.tier, .out]
  | .keyUpdate _ _ => [.tier, .sec, .out]
  | .debugUnlock _ _ => [.fresh, .regs, .tier, .sec, .out]
  | .spdmUnsupportedRequest _ _ => [.tier, .out]
  | .confEnable _ _ => [.regs, .sec]
  | .queryDeviceIdentifiers => [.tier, .out]
  | .getFirmwareParameters => [.tier, .out]
  | .requestUpdate => [.regs, .tier, .fw, .out]
  | .passComponentTable _ => [.tier, .fw, .out]
  | .updateComponent _ => [.regs, .tier, .fw, .out]
  | .firmwareDataReceived _ => [.regs, .tier, .fw, .out]
  | .activateFirmware => [.regs, .idx, .tier, .fault, .cxl, .sec, .fw, .ctr, .counters, .out]
  | .getStatus => [.tier, .out]
  | .cancelUpdateComponent => [.regs, .tier, .fw, .out]
  | .cancelUpdate => [.regs, .tier, .fw, .out]
  | .fwuConfirm _ _ => [.regs, .fw]
  | .fwuRevert _ _ => [.regs, .fw]
  | .autoConfirmExpiry _ => [.regs, .fw]
  | .coldStart _ => [.now, .fresh, .regs, .idx, .mem, .poison, .alloc, .dir, .weir, .tier, .cmd, .route, .fault,
    .link, .cxl, .mbx, .sec, .dram, .pwr, .pair, .fw, .counters, .out]
  | .coldReset _ => [.now, .regs, .idx, .mem, .poison, .alloc, .xlt, .dir, .weir, .tier, .cmd, .route, .fault, .link,
    .cxl, .mbx, .sec, .dram, .basin, .pwr, .pair, .fw, .ctr, .side, .counters, .out]
  | .warmResetPin _ => [.regs, .idx, .mem, .poison, .alloc, .xlt, .dir, .weir, .tier, .cmd, .route, .fault, .link,
    .cxl, .mbx, .sec, .dram, .basin, .pwr, .pair, .fw, .ctr, .counters, .out]
  | .warm _ _ => [.regs, .idx, .mem, .poison, .alloc, .xlt, .dir, .weir, .tier, .cmd, .route, .fault, .link, .cxl,
    .mbx, .sec, .dram, .basin, .pwr, .pair, .fw, .ctr, .counters, .out]
  | .mgmtRestart _ => [.regs, .idx, .tier, .fault, .cxl, .sec, .fw, .ctr, .counters, .out]
  | .railOrder _ => [.now, .regs, .idx, .mem, .poison, .alloc, .xlt, .dir, .weir, .tier, .cmd, .route, .fault, .link,
    .cxl, .mbx, .sec, .dram, .basin, .pwr, .pair, .fw, .ctr, .side, .counters, .out]
  | .railDrop _ => [.now, .regs, .idx, .mem, .poison, .alloc, .xlt, .dir, .weir, .tier, .cmd, .route, .fault, .link,
    .cxl, .mbx, .sec, .dram, .basin, .pwr, .pair, .fw, .ctr, .side, .counters, .out]
  | .refLost _ => [.now, .regs, .idx, .mem, .poison, .alloc, .xlt, .dir, .weir, .tier, .cmd, .route, .fault, .link,
    .cxl, .mbx, .sec, .dram, .basin, .pwr, .pair, .fw, .ctr, .side, .counters, .out]
  | .setLatencyTol _ => [.regs, .mem, .poison, .alloc, .dir, .weir, .tier, .cmd, .route, .fault, .link, .cxl, .mbx,
    .dram, .pwr, .pair, .fw, .counters, .out]
  | .dieTempSample _ => [.regs, .weir, .tier, .fault, .cxl, .mbx, .pair, .fw, .counters, .out]
  | .thermtrip => [.now, .regs, .idx, .mem, .poison, .alloc, .xlt, .dir, .weir, .tier, .cmd, .route, .fault, .link,
    .cxl, .mbx, .sec, .dram, .basin, .pwr, .pair, .fw, .ctr, .side, .counters, .out]
  | .portIdleTimeout _ _ => [.regs, .dir, .route, .link]
  | .coreIdleGate _ => [.regs]
  | .driveIdleTimeout _ => [.tier, .out]
  | .counterCapture => [.regs, .sec, .ctr]
  | .cntLoRead _ _ => [.regs, .tier, .cxl, .ctr, .out]
  | .counterSnapshotPages _ => [.regs, .mem, .poison, .alloc, .dir, .weir, .tier, .cmd, .route, .fault, .link, .cxl,
    .mbx, .dram, .pair, .fw, .counters, .out]
  | .counterSnapshotOperation _ => [.regs, .mem, .poison, .alloc, .dir, .weir, .tier, .cmd, .route, .fault, .link,
    .cxl, .mbx, .dram, .pair, .fw, .counters, .out]
  | .setProfile _ => [.regs, .mem, .poison, .alloc, .dir, .weir, .tier, .cmd, .route, .fault, .link, .cxl, .mbx,
    .dram, .pair, .fw, .counters, .out]
  | .setProfileCancel _ => [.regs, .mem, .poison, .alloc, .dir, .weir, .tier, .cmd, .route, .fault, .link, .cxl,
    .mbx, .dram, .pair, .fw, .counters, .out]
  | .read32 _ => [.regs, .tier, .cxl, .ctr, .out]
  | .write32 _ _ => [.fresh, .regs, .idx, .mem, .poison, .alloc, .xlt, .dir, .weir, .tier, .cmd, .route, .fault,
    .link, .cxl, .mbx, .sec, .dram, .basin, .pwr, .pair, .fw, .ctr, .counters, .out]
  | .mctpControl _ => [.tier, .side, .out]
  | .getPdr _ => [.tier, .out]
  | .getSensorReading _ => [.tier, .out]
  | .getStateSensorReadings _ => [.tier, .out]
  | .setEventReceiver _ => [.tier, .side, .out]
  | .softReset _ _ => [.regs, .tier, .link, .cxl, .out]
  | .blkLock _ _ => [.regs]
  | .blkIsrClear _ _ _ => [.regs, .tier, .cxl, .out]
  | .blkIerWrite _ _ _ => [.regs, .tier, .cxl, .out]
  | .cxlioReadTimeout _ => [.regs, .mem, .poison, .alloc, .xlt, .dir, .weir, .tier, .cmd, .route, .fault, .link,
    .cxl, .mbx, .dram, .pair, .fw, .counters, .out]
  | .cxlMemAdmissionRetry => [.regs, .mem, .poison, .alloc, .dir, .weir, .tier, .cmd, .route, .fault, .link, .cxl,
    .mbx, .dram, .pair, .fw, .counters, .out]
  | .driveReady _ _ _ => [.regs, .mem, .poison, .alloc, .dir, .weir, .tier, .cmd, .route, .fault, .link, .cxl, .mbx,
    .dram, .pair, .fw, .counters, .out]
  | .driveReadyTimeout _ => [.regs, .weir, .tier, .fault, .cxl, .mbx, .pair, .fw, .counters, .out]
  | .confirmCopyDone _ => [.regs, .fw]
  | .cxlLinkUp => [.regs]
  | .pldmBase _ => [.tier, .out]
  | .vddAonLoss => [.now, .regs, .idx, .mem, .poison, .alloc, .xlt, .dir, .weir, .tier, .cmd, .route, .fault, .link,
    .cxl, .mbx, .sec, .dram, .basin, .pwr, .pair, .fw, .ctr, .side, .counters, .out]
  | .vddAonValid => [.tier, .pwr, .out]
  | .jtagTapAccess _ => [.tier, .out]

/-- The frame of a command: `t` agrees with `s` in every part that the command does not touch. -/
def frame (i : Instr) (s t : State) : Prop := ∀ p : Part, p ∉ touches i → p.same s t

/-- The invariant: pool memory, its poison marks and the counters are in canonical form. -/
def Inv (s : State) : Prop := Memory.wf s.mem = true ∧ twf 0 s.poison = true ∧ twf 0 s.counters = true

/-! ## Terms of the claims about single commands -/

/-- A packet of a code and channel has arrived whole at a port: it is for this controller, which serves and does not
pause, from an EID that is not fenced, and `p` is the state with the packet taken from the port. -/
def arrived (s : State) (port : Nat) (pkt : Packet) (code ch : Nat) (p : State) : Prop :=
  pkt.code = code ∧ pkt.ch = ch ∧ isLocal s pkt.dest = true ∧ s.pair.pause = false ∧ popRx s port pkt = some p ∧
    serving p = true ∧ eidFenced p pkt.src = false

/-- The same for a data packet of a kind, on any of the data channels. -/
def arrivedKind (s : State) (port : Nat) (pkt : Packet) (kind : Nat) (p : State) : Prop :=
  4 ≤ pkt.ch ∧ pkt.kind = kind ∧ isLocal s pkt.dest = true ∧ s.pair.pause = false ∧ popRx s port pkt = some p ∧
    serving p = true ∧ eidFenced p pkt.src = false

/-- A station is passed: the tile is changed, stands one record further and has `n` cycles more. -/
def stationDone (s : State) (h num : Nat) (a : At) (g : Tile → Tile) (n : Nat) : State :=
  modTile (forgetSnoops s (.tile h num)) h num fun t =>
    { g t with stage := t.stage + 1, work := t.work + n, spans := spansAfter a n (g t) }

/-- A sink is passed: the tile has `n` bytes for its sink. -/
def sinkDone (s : State) (h num n : Nat) : State :=
  modTile (forgetSnoops s (.tile h num)) h num fun t => { t with stage := t.stage + 1, sinking := true, sinkBytes := n }

/-- The sub-page that a CXL.mem request acts on at its place. -/
def cxlSub (s : State) (pl : Place) : Nat := viewSub s pl 1 none

/-- A CXL.mem request to a PA passes every test of R308 and Table 5-9 at its place, its sub-page is not in CISTERN, and
`u` is the state with its tokens debited and its backlog charged. -/
def cxlTaken (s : State) (w : CxlWait) (pa : Nat) (pl : Place) (u : State) : Prop :=
  s.cxl.memActive = true ∧ s.pair.pause = false ∧ serving s = true ∧
    (cxlPa s w.hpa).map (fun p => p / 64 * 64) = some pa ∧ permitted s 4096 pa (!w.write) w.write = some pl ∧
    pageFreeing pl = false ∧ (w.write && pl.reg.versioned && !pl.staging) = false ∧
    classAllowed s 4096 (cxlClass s) = true ∧ (w.write && (landingOf s pa 64).isSome) = false ∧ admitEn s = true ∧
    scRate s (cxlClass s) ≠ 0 ∧ sliceHeld s (homeSlice (pa / 64)) = false ∧
    weirAdmit s 4096 (cxlClass s) 64 [(20, cxlRespBytes (if w.write then 0x12 else 0x1D))] = some u ∧
    residencyOk s (cxlClass s) pl.reg (subRec s (cxlSub s pl)).state = true ∧ (subRec s (cxlSub s pl)).state ≠ 3

/-- The request that such a CXL.mem request makes at its home: a coherent read or write of the controller's own. -/
def cxlHome (s : State) (w : CxlWait) (pa : Nat) (pl : Place) : HomeReq :=
  { kind := if w.write then .wrOnce else .rdOnce, who := .cxl, tag := w.hpa, sc := cxlClass s, line := pa / 64,
    start := s.now, data := w.data, mask := w.mask, pcode := if w.poison then 7 else 0,
    bound := boundNs s (cxlClass s) 64, void := bornVoid s none none 20 (cxlSub s pl * 1024 + pa / 64 % 1024),
    dom := pl.reg.dom, sch := 20, charge := cxlRespBytes (if w.write then 0x12 else 0x1D) + overhead s 20 }

/-- An atomic may be performed at its place: its operand is aligned and lies in no armed landing area, and the page is
neither FREEING nor versioned (R45, R217, R348, R349). -/
def atomicAllowed (s : State) (k : AtomicKind) (q : AtomicReq) (pl : Place) : Prop :=
  placeOf s q.pa = some pl ∧ q.pa % atomicWidth k = 0 ∧ landingOf s q.pa (atomicWidth k) = none ∧
    pageFreeing pl = false ∧ pl.reg.versioned = false ∧ (subRec s (q.pa / 65536)).state ≠ 3

/-- The request that an atomic makes at its line's home: a WR_ONCE in SC7 (R349). -/
def atomicHome (s : State) (k : AtomicKind) (q : AtomicReq) : HomeReq :=
  { kind := .wrOnce, who := .atomic k q, tag := 0, sc := 7, line := q.pa / 64, start := s.now }

end Sys2Proof.Machine
end

