-- ==== Sys2Proof/Certificates/Slice0/Obligations.lean ====
section
/-!
DEFINITION. The statements about this machine. Each names the rules it rests on; a clause says for which states and
operands a command completes and what it leaves.
-/
open Sys2Proof Sys2Proof.Machine

/-- A write of 32 bits, aligned, on a page that is assigned and not held acts on its register; one of 64 bits acts
  as two; any other size or alignment is ignored and counted in BLK_ERR_CNT; a plain register takes its fields;
  BLK_CTL takes LOCK from the identities that may set it. (R7, R485, R489, R491, chapter 22) -/
def Obligations.RegisterWritesAct : Prop :=
  -- registerWrite
  (∀ (s : State) (id : Nat) (a : Nat) (v : BitVec 64) (d : RegD),
    assigned (a / 4096) = true →
    pageHeld s (a / 4096) = false →
    a % 4 = 0 →
    a % 4096 ≠ 8 →
    a % 4096 ≠ 0x10 →
    a % 4096 ≠ 0x14 →
    mgmtWrite s id (a / 4096) (a % 4096) (v.toNat % 0x100000000) = none →
    blockWrite s id (a / 4096) (a % 4096) (v.toNat % 0x100000000) = none →
    unitWrite s id (a / 4096) (a % 4096) (v.toNat % 0x100000000) = none →
    regDesc (a / 4096) (a % 4096) = some d →
    mayWrite id (a / 4096) (a % 4096) = true →
    dataWrite s id (a / 4096) (a % 4096) (v.toNat % 0x100000000) = none →
    d.perId = true →
    exec (.registerWrite id a 4 v) s = .next (wi s id (ra (a / 4096) (a % 4096)) (writeFields (locked s (a / 4096))
      (ri s id (ra (a / 4096) (a % 4096))) (v.toNat % 0x100000000) (openFields s (a / 4096) (a % 4096) d.fields)))) ∧
  -- registerWrite
  (∀ (s : State) (id : Nat) (a : Nat) (v : BitVec 64) (d : RegD),
    assigned (a / 4096) = true →
    pageHeld s (a / 4096) = false →
    a % 4 = 0 →
    a % 4096 ≠ 8 →
    a % 4096 ≠ 0x10 →
    a % 4096 ≠ 0x14 →
    mgmtWrite s id (a / 4096) (a % 4096) (v.toNat % 0x100000000) = none →
    blockWrite s id (a / 4096) (a % 4096) (v.toNat % 0x100000000) = none →
    unitWrite s id (a / 4096) (a % 4096) (v.toNat % 0x100000000) = none →
    regDesc (a / 4096) (a % 4096) = some d →
    mayWrite id (a / 4096) (a % 4096) = true →
    dataWrite s id (a / 4096) (a % 4096) (v.toNat % 0x100000000) = none →
    d.perId = false →
    exec (.registerWrite id a 4 v) s = .next (afterWrite (wr s (ra (a / 4096) (a % 4096)) (crossFields s (a / 4096)
      (a % 4096) (rd s (ra (a / 4096) (a % 4096))) (writeFields (locked s (a / 4096)) (rd s (ra (a / 4096) (a %
      4096))) (v.toNat % 0x100000000) (openFields s (a / 4096) (a % 4096) d.fields)))) (a / 4096) (a % 4096) (rd s
      (ra (a / 4096) (a % 4096))))) ∧
  -- registerWrite
  (∀ (s : State) (t : State) (id : Nat) (a : Nat) (v : BitVec 64),
    assigned (a / 4096) = true →
    pageHeld s (a / 4096) = false →
    a % 4 = 0 →
    regWrite s id (a / 4096) (a % 4096) (v.toNat % 0x100000000) = .next t →
    (a + 4) / 4096 = a / 4096 →
    pageHeld t (a / 4096) = false →
    exec (.registerWrite id a 8 v) s = regWrite t id (a / 4096) ((a + 4) % 4096) (v.toNat / 0x100000000 %
      0x100000000)) ∧
  -- registerWrite
  (∀ (s : State) (t : State) (id : Nat) (a : Nat) (v : BitVec 64),
    assigned (a / 4096) = true →
    pageHeld s (a / 4096) = false →
    a % 4 = 0 →
    regWrite s id (a / 4096) (a % 4096) (v.toNat % 0x100000000) = .next t →
    (a + 4) / 4096 ≠ a / 4096 →
    exec (.registerWrite id a 8 v) s = .next t) ∧
  -- registerWrite
  (∀ (s : State) (id : Nat) (a : Nat) (n : Nat) (v : BitVec 64),
    assigned (a / 4096) = true →
    pageHeld s (a / 4096) = false →
    (a % 4 ≠ 0 ∨ (n ≠ 4 ∧ n ≠ 8)) →
    exec (.registerWrite id a n v) s = .next (errInc s (a / 4096) 1)) ∧
  -- registerWrite
  (∀ (s : State) (id : Nat) (p : Nat) (v : BitVec 64),
    assigned p = true →
    pageHeld s p = false →
    mayWrite id p 8 = true →
    v.toNat.testBit 1 = false →
    v.toNat.testBit 2 = true →
    (exec (.registerWrite id (4096 * p + 8) 4 v) s = .next (wb s (ra p 8) 2 true) ∧ locked (wb s (ra p 8) 2 true) p
      = true)) ∧
  -- registerWrite
  (∀ (s : State) (id : Nat) (p : Nat) (v : BitVec 64),
    assigned p = true →
    pageHeld s p = false →
    mayWrite id p 8 = false →
    exec (.registerWrite id (4096 * p + 8) 4 v) s = .next s)

/-- A read of a page that Table 1-4 does not assign answers zero and a write to it changes nothing, for any
  identity, address and size; the private pages 0xF00 to 0xFFF are such pages. (R21) -/
def Obligations.UnassignedPagesReadZero : Prop :=
  (∀ (s : State) (id : Nat) (a : Nat) (n : Nat) (v : BitVec 64),
    assigned (a / 4096) = false →
    (regRead s id a = (0, s) ∧ exec (.registerWrite id a n v) s = .next s)) ∧
  (∀ (p : Nat),
    0xF00 ≤ p →
    p ≤ 0xFFF →
    assigned p = false)

/-- In every state in which the page of TOP is not held in reset, a read of BLK_ID in page 0 shows 0xB0 in bits 31
  to 24, for any identity, and changes nothing. (R2) -/
def Obligations.SteppingIsReported : Prop :=
  (∀ (s : State) (id : Nat),
    pageHeld s pgTOP = false →
    ∃ v, regRead s id 0 = (v, s) ∧ fld v 24 8 = 0xB0)

/-- For a register whose fields do not overlap, a write gives every RW field, and every RWL field while the page is
  not locked, the value written where that lies in the field's range, and leaves the field as it was where it does
  not: nothing is clamped, and the other fields of the same write take effect. The descriptions of the register map
  have such fields. (R9) -/
def Obligations.ReservedEncodingsLeaveTheFieldAlone : Prop :=
  (∀ (lk : Bool) (old : Nat) (new : Nat) (fs : List Field) (f : Field),
    (fs.Pairwise (fun a b => a.lo + a.w ≤ b.lo ∨ b.lo + b.w ≤ a.lo)) →
    f ∈ fs →
    (f.acc = .rw ∨ f.acc = .rwl) →
    (fld (writeFields lk old new fs) f.lo f.w = if (f.acc = .rw ∨ lk = false) ∧ f.minv ≤ fld new f.lo f.w ∧ fld new
      f.lo f.w ≤ f.maxv then fld new f.lo f.w else fld old f.lo f.w)) ∧
  (∀ (p : Nat) (d : RegD),
    d ∈ regsHeader ++ regsOfPage p →
    (d.fields.Pairwise fun a b => a.lo + a.w ≤ b.lo ∨ b.lo + b.w ≤ a.lo))

/-- Reading the elements of a run of bytes in a 4-bit format gives element 2m from bits 3 to 0 and element 2m + 1
  from bits 7 to 4 of byte m; in a 6-bit format element 4m + p is bits 6p + 5 to 6p of the little-endian word of
  bytes 3m to 3m + 2. (R180) -/
def Obligations.ElementsLieInTheirBits : Prop :=
  (∀ (f : Nat) (m : Nat) (bs : Bytes),
    elemBits f = 4 →
    m < bs.length →
    ((nth (unpackElems f bs) (2 * m) 0).toNat = fld (nth bs m 0).toNat 0 4 ∧ (nth (unpackElems f bs) (2 * m + 1)
      0).toNat = fld (nth bs m 0).toNat 4 4)) ∧
  (∀ (f : Nat) (m : Nat) (p : Nat) (bs : Bytes),
    elemBits f = 6 →
    3 * m + 2 < bs.length →
    p < 4 →
    (nth (unpackElems f bs) (4 * m + p) 0).toNat = fld (leNat ((bs.drop (3 * m)).take 3)) (6 * p) 6)

/-- For every format, reading the bytes of a list of codes that fit the format's width gives the codes back, in
  order, as the first elements. (R176, R180, chapter 08) -/
def Obligations.ElementsSurvivePacking : Prop :=
  (∀ (f : Nat) (xs : List (BitVec 64)),
    (∀ x ∈ xs, x.toNat < 2 ^ elemBits f) →
    (unpackElems f (packElems f xs)).take xs.length = xs)

/-- After a run of bytes has been set, a byte of the run reads as set and every other byte of memory, of the pool
  and of the staged copies alike, reads as before. (chapter 02, chapter 06) -/
def Obligations.MemoryReadsWhatWasWritten : Prop :=
  (∀ (s : State) (pa : Nat) (a : Nat) (d : Bytes),
    (byteAt (setBytes s pa d) a = if pa ≤ a ∧ a < pa + d.length then nth d (a - pa) 0 else byteAt s a))

/-- A mirrored write that is applied changes the bytes it carries and no other byte of memory. An atomic that is
  allowed, on a line that no directory entry, transaction or waiting request concerns, changes no byte outside its
  operand. (R348, R349, R389, chapter 15, chapter 17) -/
def Obligations.MirroredAndAtomicWritesKeepOtherBytes : Prop :=
  (∀ (s : State) (u : State) (v : State) (t : Nat) (pa : Nat) (a : Nat) (d : Bytes) (p : Option Nat) (n : Nat),
    receives s = true →
    n = (p.map storedCode).getD 0 →
    takeRunnel s (runMwr t pa none n d) = some u →
    stagedOn u ⟨t, false, pa, d, none, n⟩ = false →
    (subsOf pa d.length).foldl (fun (acc : Option State) q => acc.bind fun s => ownFrame s q) (some u) = some v →
    ∃ w, exec (.mwr t pa d none p) s = .next w ∧ byteAt w a = if pa ≤ a ∧ a < pa + d.length then nth d (a - pa) 0
      else byteAt v a) ∧
  (∀ (s : State) (q : AtomicReq) (pl : Place) (a : Nat),
    atomicAllowed s .addI32 q pl →
    (subRec s (q.pa / 65536)).state ≠ 0 →
    s.dir.trans = [] →
    s.dir.chain = [] →
    s.dir.overflow = [] →
    dirOf s (q.pa / 64) = none →
    (a < q.pa ∨ q.pa + 4 ≤ a) →
    ∃ t, exec (.atomicAddI32 q) s = .next t ∧ byteAt t a = byteAt s a) ∧
  (∀ (s : State) (q : AtomicReq) (pl : Place) (a : Nat),
    atomicAllowed s .addI64 q pl →
    (subRec s (q.pa / 65536)).state ≠ 0 →
    s.dir.trans = [] →
    s.dir.chain = [] →
    s.dir.overflow = [] →
    dirOf s (q.pa / 64) = none →
    (a < q.pa ∨ q.pa + 8 ≤ a) →
    ∃ t, exec (.atomicAddI64 q) s = .next t ∧ byteAt t a = byteAt s a) ∧
  (∀ (s : State) (q : AtomicReq) (pl : Place) (a : Nat),
    atomicAllowed s .addF32 q pl →
    (subRec s (q.pa / 65536)).state ≠ 0 →
    s.dir.trans = [] →
    s.dir.chain = [] →
    s.dir.overflow = [] →
    dirOf s (q.pa / 64) = none →
    (a < q.pa ∨ q.pa + 4 ≤ a) →
    ∃ t, exec (.atomicAddF32 q) s = .next t ∧ byteAt t a = byteAt s a) ∧
  (∀ (s : State) (q : AtomicReq) (pl : Place) (a : Nat),
    atomicAllowed s .addBf16x2 q pl →
    (subRec s (q.pa / 65536)).state ≠ 0 →
    s.dir.trans = [] →
    s.dir.chain = [] →
    s.dir.overflow = [] →
    dirOf s (q.pa / 64) = none →
    (a < q.pa ∨ q.pa + 4 ≤ a) →
    ∃ t, exec (.atomicAddBf16x2 q) s = .next t ∧ byteAt t a = byteAt s a) ∧
  (∀ (s : State) (q : AtomicReq) (pl : Place) (a : Nat),
    atomicAllowed s .swap32 q pl →
    (subRec s (q.pa / 65536)).state ≠ 0 →
    s.dir.trans = [] →
    s.dir.chain = [] →
    s.dir.overflow = [] →
    dirOf s (q.pa / 64) = none →
    (a < q.pa ∨ q.pa + 4 ≤ a) →
    ∃ t, exec (.atomicSwap32 q) s = .next t ∧ byteAt t a = byteAt s a) ∧
  (∀ (s : State) (q : AtomicReq) (pl : Place) (a : Nat),
    atomicAllowed s .swap64 q pl →
    (subRec s (q.pa / 65536)).state ≠ 0 →
    s.dir.trans = [] →
    s.dir.chain = [] →
    s.dir.overflow = [] →
    dirOf s (q.pa / 64) = none →
    (a < q.pa ∨ q.pa + 8 ≤ a) →
    ∃ t, exec (.atomicSwap64 q) s = .next t ∧ byteAt t a = byteAt s a)

/-- When the queue holds a command in front, the step is exactly what the command does to the state with the queue's
  rest. (opcode table, log entry 4) -/
def Obligations.StepRunsTheFrontCommand : Prop :=
  (∀ (s : State) (c : Instr) (cs : List Instr),
    s.pending = c :: cs →
    step s = exec c { s with pending := cs })

/-- With no command waiting the block goes on by 10 ns unless it waits for the release of reset, when nothing
  changes; held in reset only time goes on, and where no operation, mirror write, copy, port reset or warm reset is
  under way the registers, memory, the queues and what has left stand. That the idle step is a cycle of time is the
  model's choice (log entry 4). (R446, R513, log entry 4) -/
def Obligations.IdleStepsPassTime : Prop :=
  (∀ (s : State),
    s.pending = [] →
    s.pwr.held = 1 →
    step s = .next s) ∧
  (∀ (s : State),
    s.pending = [] →
    s.pwr.held = 2 →
    step s = .next { s with now := s.now + 10 }) ∧
  (∀ (s : State),
    s.pending = [] →
    s.pwr.held = 0 →
    s.pwr.warm ≠ 2 →
    s.pair.staged = [] →
    s.pair.sync = none →
    s.tier.perst = [] →
    s.cmd.ops = [] →
    ∃ t, step s = .next t ∧ t.now = s.now + 10 ∧ t.regs = s.regs ∧ t.mem = s.mem ∧ t.cmd = s.cmd ∧ t.pair = s.pair ∧
      t.tier = s.tier ∧ t.out = s.out ∧ t.pending = [])

/-- For every command, state and next state: device time, each register file, pool memory and its marks, every
  block's tables, the counters and what has left stand wherever the command's list of touched parts does not name
  them. (chapter 01, opcode table) -/
def Obligations.CommandsKeepTheirFrame : Prop :=
  ∀ (i : Instr) (s t : State), exec i s = .next t → frame i s t

/-- Whenever a step on a queue with a command in front answers a next state, its queue is the rest of that queue,
  whatever the command was. (opcode table, log entry 4) -/
def Obligations.QueueIsFirstInFirstOut : Prop :=
  ∀ (s t : State) (c : Instr) (cs : List Instr), s.pending = c :: cs → step s = .next t → t.pending = cs

/-- Whenever a step answers a next state, what had left before is still there under what has left since, and the
  number of free values drawn has not fallen. (opcode table, log entry 8) -/
def Obligations.WhatHasLeftStays : Prop :=
  ∀ s t : State, step s = .next t → s.out <:+ t.out ∧ s.fresh ≤ t.fresh

/-- From every state whose pool memory, poison marks and counters are in canonical form (rising keys, no entry equal
  to the value of an unlisted key), every step that answers a next state leaves them so. (chapter 02, chapter 21) -/
def Obligations.StepKeepsCanonicalForm : Prop :=
  ∀ s t : State, Inv s → step s = .next t → Inv t

/-- The invariant holds of the state after reset. (chapter 20) -/
def Obligations.ResetIsCanonical : Prop :=
  Inv State.reset

/-- After reset no region, no operation, no key, no binding and no packet stands, pool memory reads zero, reset is
  held, and registers read the reset values of their tables: ALLOC.PIN_BASIN_LIMIT 640, TOP.INT_CFG with HHD_EN and
  CP_EN, and the contracts of Table 5-3. (R29, R103, R493, R495, chapter 20) -/
def Obligations.ResetValues : Prop :=
  State.reset.pending = [] ∧ State.reset.mem = [] ∧ State.reset.alloc.regions = [] ∧ State.reset.cmd.ops = [] ∧
    State.reset.sec.keys = [] ∧ State.reset.sec.binds = [] ∧ State.reset.link.rx = [] ∧ State.reset.pwr.held = 1 ∧
    rd State.reset (ra pgALLOC 0x100) = 640 ∧ rf State.reset (ra pgTOP 0x108) 0 3 = 6 ∧ (∀ a, byteAt State.reset a =
    0)

/-- A command faults only where a rail order was broken for more than 20 ms, outside the part's ratings, and there
  it does; it is refused only for a register of the Holhild page that the spec does not describe, and for a TAP
  access while debug is unlocked. (R444, R484, R510) -/
def Obligations.OnlyTheseCommandsStop : Prop :=
  (∀ (i : Instr) (s : State) (f : Fault), exec i s = .fault f → ∃ n, i = .railOrder n ∧ 20 < n ∧ f =
    .outsideRatings) ∧ (∀ (n : Nat) (s : State), 20 < n → exec (.railOrder n) s = .fault .outsideRatings) ∧ (∀ (i :
    Instr) (s : State) (r : Refusal), exec i s = .refused r → (r = .hhdRegister ∧ ∃ a n v, i = .registerWrite 2 a n
    v ∧ a / 4096 = pgHHD) ∨ (r = .jtagUnlocked ∧ debugOpen s = true ∧ ∃ k, i = .jtagTapAccess k ∧ 2 ≤ k))

/-- An ALLOC that is ready and in its turn runs on the state in which it is counted. Where the operands are in
  range, the flags are a combination that Table 2-3 allows, the region is not pinned, the domain has a key, the
  quotas and the reservation allow it and a base is free, the command completes: the region table then holds at the
  chosen index a region of the command's domain with the size, maximum, base, attributes and next generation that
  the operands give, not FREEING. (R27, R30, R32, R38, chapter 02) -/
def Obligations.AllocationTakesAFreeRegion : Prop :=
  -- alloc
  (∀ (s : State) (h : Nat) (o : Op),
    ready s h 0x10 = some o →
    allocTurn s h = true →
    exec (.alloc h) s = .next (allocRegion (count s pgALLOC 0 1) h o)) ∧
  -- alloc
  (∀ (s : State) (h : Nat) (o : Op) (base : Nat),
    ready s h 0x10 = some o →
    allocTurn s h = true →
    opnd o 0x10 4 ≠ 0 →
    opnd o 0x10 4 ≤ 0x8000000 →
    (opnd o 0x14 4 = 0 ∨ (opnd o 0x10 4 ≤ opnd o 0x14 4 ∧ opnd o 0x14 4 ≤ 0x8000000)) →
    opnd o 0x18 4 < 0x1000 →
    fld (opnd o 0x18 4) 4 2 = 0 →
    attrsRefused (bitN (opnd o 0x18 4) 0) (bitN (opnd o 0x18 4) 2) (bitN (opnd o 0x18 4) 3) 0 (fld (opnd o 0x18 4) 6
      3) (fld (opnd o 0x18 4) 9 3) = false →
    (bitN (opnd o 0x18 4) 0 = false ∨ (noDirectory s = false ∧ pendProfile s = none)) →
    keyed s o.dom = true →
    quotaOk s o.dom 0 1 = true →
    quotaOk s o.dom 1 (opnd o 0x10 4) = true →
    (bitN (opnd o 0x18 4) 3 = false ∨ reserveOk s o.dom (opnd o 0x10 4) (bitN (opnd o 0x18 4) 0) = true) →
    s.alloc.regions.length < 65536 →
    findBase s (if bitN (opnd o 0x18 4) 2 then 2 * (if opnd o 0x14 4 = 0 then opnd o 0x10 4 else opnd o 0x14 4) else
      (if opnd o 0x14 4 = 0 then opnd o 0x10 4 else opnd o 0x14 4)) = some base →
    o.arrival = none →
    ∃ t r, exec (.alloc h) s = .next t ∧ tget t.alloc.regions (findIndex s) = some r ∧ r.dom = o.dom ∧ r.base = base
      ∧ r.size = opnd o 0x10 4 ∧ r.max = (if opnd o 0x14 4 = 0 then opnd o 0x10 4 else opnd o 0x14 4) ∧ r.gen =
      nextGen s (findIndex s) ∧ r.coherent = bitN (opnd o 0x18 4) 0 ∧ r.mirrored = bitN (opnd o 0x18 4) 1 ∧
      r.versioned = bitN (opnd o 0x18 4) 2 ∧ r.reserve = bitN (opnd o 0x18 4) 3 ∧ r.residency = 0 ∧ r.grain = fld
      (opnd o 0x18 4) 6 3 ∧ r.defaultSc = fld (opnd o 0x18 4) 9 3 ∧ r.freeing = false)

/-- Each command on a region that is ready, in its turn, and names a live region of its own domain that is not
  FREEING completes its step on that region. FREE marks it FREEING, abandons its moves and begins to run. RESIZE to
  a legal size grows or shrinks the region, or ends at once where the size stays; while a shrink runs it waits.
  SET_ATTR whose operands are legal and within quota, and which changes neither COHERENT nor MIRRORED to 1, gives
  the region its attributes and ends. PIN to the region's own tier moves its sub-pages there and runs; UNPIN of a
  pinned region makes it TIERED, and of a TIERED one ends at once. (R41, R42, R43, R132, R515, chapter 02) -/
def Obligations.RegionCommandsAct : Prop :=
  -- free
  (∀ (s : State) (h : Nat) (o : Op) (r : Region),
    ready s h 0x11 = some o →
    allocTurn s h = true →
    regionOf s (opnd o 0x10 4) = some r →
    r.dom = o.dom →
    r.freeing = false →
    exec (.free h) s = .next (modOp (leaveQueue (retryTier (abandonFreed (setRegion
        { count s pgALLOC 0 1 with cmd := { s.cmd with serial := s.cmd.serial + 1 } }
      (opnd o 0x10 4 % 65536)
        { r with freeing := true, freedBy := h, force := bitN (opnd o 0x14 4) 0,
                                               freedAt := s.cmd.serial + 1 })
        r.base r.size)) h) h fun o =>
      { o with phase := .running })) ∧
  -- resize
  (∀ (s : State) (h : Nat) (o : Op) (r : Region),
    ready s h 0x12 = some o →
    allocTurn s h = true →
    regionOf s (opnd o 0x10 4) = some r →
    r.dom = o.dom →
    r.freeing = false →
    r.shrinking = 0 →
    r.size < opnd o 0x14 4 →
    opnd o 0x14 4 ≤ r.max →
    exec (.resize h) s = .next (growRegion (count s pgALLOC 0 1) h (opnd o 0x10 4 % 65536) r (opnd o 0x14 4))) ∧
  -- resize
  (∀ (s : State) (h : Nat) (o : Op) (r : Region),
    ready s h 0x12 = some o →
    allocTurn s h = true →
    regionOf s (opnd o 0x10 4) = some r →
    r.dom = o.dom →
    r.freeing = false →
    r.shrinking = 0 →
    r.size < opnd o 0x14 4 →
    opnd o 0x14 4 ≤ r.max →
    r.residency = 0 →
    r.reserve = false →
    quotaOk s r.dom 1 (opnd o 0x14 4 - r.size) = true →
    o.arrival = none →
    ∃ t, exec (.resize h) s = .next t ∧ tget t.alloc.regions (opnd o 0x10 4 % 65536) = some { r with size := opnd o 0x14 4 }) ∧
  -- resize
  (∀ (s : State) (h : Nat) (o : Op) (r : Region),
    ready s h 0x12 = some o →
    allocTurn s h = true →
    regionOf s (opnd o 0x10 4) = some r →
    r.dom = o.dom →
    r.freeing = false →
    r.shrinking = 0 →
    0 < opnd o 0x14 4 →
    opnd o 0x14 4 < r.size →
    r.size ≤ r.max →
    exec (.resize h) s = .next (shrinkRegion (count s pgALLOC 0 1) h (opnd o 0x10 4 % 65536) r (opnd o 0x14 4) (bitN
      (opnd o 0x18 4) 0))) ∧
  -- resize
  (∀ (s : State) (h : Nat) (o : Op) (r : Region),
    ready s h 0x12 = some o →
    allocTurn s h = true →
    regionOf s (opnd o 0x10 4) = some r →
    r.dom = o.dom →
    r.freeing = false →
    r.shrinking = 0 →
    0 < r.size →
    opnd o 0x14 4 = r.size →
    r.size ≤ r.max →
    exec (.resize h) s = .next (allocEnd (count s pgALLOC 0 1) h stOk [0, 0, 0, 0])) ∧
  -- resize
  (∀ (s : State) (h : Nat) (o : Op) (r : Region),
    ready s h 0x12 = some o →
    allocTurn s h = true →
    regionOf s (opnd o 0x10 4) = some r →
    r.dom = o.dom →
    r.freeing = false →
    r.shrinking ≠ 0 →
    0 < opnd o 0x14 4 →
    opnd o 0x14 4 ≤ r.max →
    exec (.resize h) s = .next (modOp (count s pgALLOC 0 1) h fun o => { o with phase := .running, aux := [1] })) ∧
  -- setAttr
  (∀ (s : State) (h : Nat) (o : Op) (r : Region),
    ready s h 0x13 = some o →
    allocTurn s h = true →
    regionOf s (opnd o 0x10 4) = some r →
    r.dom = o.dom →
    r.freeing = false →
    Nat.land (opnd o 0x14 4) 0xE0B = opnd o 0x14 4 →
    coherentWay (opnd o 0x14 4) (opnd o 0x18 4) r = 0 →
    bitN (opnd o 0x14 4) 1 = false →
    bitN (opnd o 0x14 4) 3 = false →
    attrsRefused (if bitN (opnd o 0x14 4) 0 then bitN (opnd o 0x18 4) 0 else r.coherent) r.versioned r.reserve
      r.residency r.grain ((if bitN (opnd o 0x14 4) 9 then fld (opnd o 0x18 4) 9 1 else fld r.defaultSc 0 1) + 2 *
      (if bitN (opnd o 0x14 4) 10 then fld (opnd o 0x18 4) 10 1 else fld r.defaultSc 1 1) + 4 * (if bitN (opnd o
      0x14 4) 11 then fld (opnd o 0x18 4) 11 1 else fld r.defaultSc 2 1)) = false →
    quotaOk s r.dom 2 0 = true →
    o.arrival = none →
    ∃ t, exec (.setAttr h) s = .next t ∧ tget t.alloc.regions (opnd o 0x10 4 % 65536) = some { r with defaultSc := ((if bitN (opnd o 0x14 4) 9 then fld (opnd o 0x18 4) 9 1 else fld r.defaultSc 0 1) + 2 * (if bitN (opnd o 0x14 4) 10 then fld (opnd o 0x18 4) 10 1 else fld r.defaultSc 1 1) + 4 * (if bitN (opnd o 0x14 4) 11 then fld (opnd o 0x18 4) 11 1 else fld r.defaultSc 2 1)) }
      ∧ (opOf t h).map (fun x => x.phase) = some .ending) ∧
  -- setAttr
  (∀ (s : State) (h : Nat) (o : Op) (r : Region),
    ready s h 0x13 = some o →
    allocTurn s h = true →
    regionOf s (opnd o 0x10 4) = some r →
    r.dom = o.dom →
    r.freeing = false →
    Nat.land (opnd o 0x14 4) 0xE0B = opnd o 0x14 4 →
    coherentWay (opnd o 0x14 4) (opnd o 0x18 4) r = 1 →
    bitN (opnd o 0x14 4) 1 = false →
    bitN (opnd o 0x14 4) 3 = false →
    attrsRefused true r.versioned r.reserve r.residency r.grain ((if bitN (opnd o 0x14 4) 9 then fld (opnd o 0x18 4)
      9 1 else fld r.defaultSc 0 1) + 2 * (if bitN (opnd o 0x14 4) 10 then fld (opnd o 0x18 4) 10 1 else fld
      r.defaultSc 1 1) + 4 * (if bitN (opnd o 0x14 4) 11 then fld (opnd o 0x18 4) 11 1 else fld r.defaultSc 2 1)) =
      false →
    noDirectory s = false →
    quotaOk s r.dom 2 0 = true →
    (r.dramUnits = true ∨ r.size * 32 ≤ dramAvail s + regionFrames s r) →
    ∃ u t, u = setAttr (count s pgALLOC 0 1) h o (opnd o 0x10 4 % 65536) r ∧ exec (.setAttr h) s = .next t ∧ t = (if
      ((opOf u h).map fun o => decide (o.phase = .running)).getD false then setAttrFinish u h else u)) ∧
  -- pin
  (∀ (s : State) (h : Nat) (o : Op) (r : Region),
    ready s h 0x14 = some o →
    allocTurn s h = true →
    regionOf s (opnd o 0x10 4) = some r →
    r.dom = o.dom →
    r.freeing = false →
    exec (.pin h) s = .next (pinRegion (count s pgALLOC 0 1) h o (opnd o 0x10 4 % 65536) r)) ∧
  -- pin
  (∀ (s : State) (h : Nat) (o : Op) (r : Region),
    ready s h 0x14 = some o →
    allocTurn s h = true →
    regionOf s (opnd o 0x10 4) = some r →
    r.dom = o.dom →
    r.freeing = false →
    (opnd o 0x14 4 = 1 ∨ opnd o 0x14 4 = 2) →
    attrsRefused r.coherent r.versioned r.reserve (opnd o 0x14 4) r.grain r.defaultSc = false →
    opnd o 0x14 4 = r.residency →
    r.dramUnits = true →
    ∃ a, a = abandonMoves (count s pgALLOC 0 1) r.base r.size (fun m => decide (m.kind ≠ .promote)) ∧
      exec
      (.pin h) s = .next (pinStep (modOp (leaveQueue (setRegion a (opnd o 0x10 4 % 65536)
        { r with residency := opnd o 0x14 4,
                                                                                                           dramUnits := true })
      h) h
        fun x => { x with phase := .running, aux := [2, handleOf (opnd o 0x10 4 % 65536) r] }) (opnd o
      0x10 4 % 65536))) ∧
  -- unpin
  (∀ (s : State) (h : Nat) (o : Op) (r : Region),
    ready s h 0x15 = some o →
    allocTurn s h = true →
    regionOf s (opnd o 0x10 4) = some r →
    r.dom = o.dom →
    r.freeing = false →
    r.residency = 0 →
    exec (.unpin h) s = .next (allocEnd (count s pgALLOC 0 1) h stOk [0, 0, 0, 0])) ∧
  -- unpin
  (∀ (s : State) (h : Nat) (o : Op) (r : Region),
    ready s h 0x15 = some o →
    allocTurn s h = true →
    regionOf s (opnd o 0x10 4) = some r →
    r.dom = o.dom →
    r.freeing = false →
    r.residency ≠ 0 →
    attrsRefused r.coherent r.versioned r.reserve 0 r.grain r.defaultSc = false →
    exec (.unpin h) s = .next (allocEnd (pinRelease (setRegion (count s pgALLOC 0 1) (opnd o 0x10 4 % 65536)
      { r with residency := 0, dramUnits := r.coherent || decide (r.changing ≠ 0) }) r.dom r.residency r.size) h
      stOk
        [0, 0, 0, 0]))

/-- A PUBLISH that is ready, in its turn, and names a live versioned region of its own domain whose version it names
  publishes what its owner has staged, if anything, advances the region's version and ends with the new one; with
  DISCARD set it drops what is staged and ends with the version as it was. VERSION_UNITS_RELEASE drops a replaced
  version, with its units, once no tile assigned before that PUBLISH remains, and work that waited for frames goes
  on. (R40, R48, R50, chapter 02) -/
def Obligations.PublishMakesTheStagedVersionLive : Prop :=
  -- publish
  (∀ (s : State) (h : Nat) (o : Op) (r : Region) (v : Staging),
    ready s h 0x16 = some o →
    allocTurn s h = true →
    regionOf s (opnd o 0x10 4) = some r →
    r.dom = o.dom →
    r.freeing = false →
    r.versioned = true →
    bitN (opnd o 0x14 4) 0 = false →
    opnd o 0x18 4 = r.version →
    stagingOf s (opnd o 0x10 4 % 65536) o.owner = some v →
    ∃ u, u = Machine.publish (count s pgALLOC 0 1) (opnd o 0x10 4 % 65536) r v ∧ exec (.publish h) s = .next
      (retryPromotes (allocEnd (setRegion u (opnd o 0x10 4 % 65536) { ((tget u.alloc.regions (opnd o 0x10 4 %
                                                                        65536)).getD r) with version := nextVersion r.version })
      h stOk [nextVersion r.version, 0, 0, 0]))) ∧
  -- publish
  (∀ (s : State) (h : Nat) (o : Op) (r : Region),
    ready s h 0x16 = some o →
    allocTurn s h = true →
    regionOf s (opnd o 0x10 4) = some r →
    r.dom = o.dom →
    r.freeing = false →
    r.versioned = true →
    bitN (opnd o 0x14 4) 0 = false →
    opnd o 0x18 4 = r.version →
    stagingOf s (opnd o 0x10 4 % 65536) o.owner = none →
    ∃ u, u = count s pgALLOC 0 1 ∧ exec (.publish h) s = .next (retryPromotes (allocEnd (setRegion u (opnd o 0x10 4
      % 65536) { ((tget u.alloc.regions (opnd o 0x10 4 % 65536)).getD r) with version := nextVersion r.version }) h
      stOk [nextVersion r.version, 0, 0, 0]))) ∧
  -- publish
  (∀ (s : State) (h : Nat) (o : Op) (r : Region) (v : Staging),
    ready s h 0x16 = some o →
    allocTurn s h = true →
    regionOf s (opnd o 0x10 4) = some r →
    r.dom = o.dom →
    r.freeing = false →
    r.versioned = true →
    bitN (opnd o 0x14 4) 0 = true →
    stagingOf s (opnd o 0x10 4 % 65536) o.owner = some v →
    exec (.publish h) s = .next (retryPromotes (allocEnd (dropStaging (count s pgALLOC 0 1) v r.dom) h stOk
      [r.version, 0, 0, 0]))) ∧
  -- publish
  (∀ (s : State) (h : Nat) (o : Op) (r : Region),
    ready s h 0x16 = some o →
    allocTurn s h = true →
    regionOf s (opnd o 0x10 4) = some r →
    r.dom = o.dom →
    r.freeing = false →
    r.versioned = true →
    bitN (opnd o 0x14 4) 0 = true →
    stagingOf s (opnd o 0x10 4 % 65536) o.owner = none →
    exec (.publish h) s = .next (retryPromotes (allocEnd (count s pgALLOC 0 1) h stOk [r.version, 0, 0, 0]))) ∧
  -- versionUnitsRelease
  (∀ (s : State) (region : Nat) (version : Nat) (v : OldVersion),
    (s.alloc.old.find? fun v => v.region = region && v.version = version) = some v →
    (s.cmd.tiles.any fun t => t.eng.isSome && decide (t.serial < v.serial)) = false →
    ∃ u, u = retryPromotes (dropOld s v (((tget s.alloc.regions region).map fun r => r.dom).getD 0)) ∧
      exec
      (.versionUnitsRelease region version) s = .next (gauge u pgALLOC 3 (unitsFree u)))

/-- FREE_COMPLETE, once every earlier user is done and no line of the region is cached, removes the region and ends
  the operation; RESIZE_SHRINK_COMPLETE under the same conditions for the pages above the new size takes them out of
  the region and ends the operation; RESIZE_GROW_RESUME runs a RESIZE that waited for a shrink; SET_ATTR_COMPLETE
  with nothing left to wait for ends its operation; PIN_COMPLETE ends a PIN whose sub-pages have all reached the
  tier. (R41, R44, R515, chapter 02) -/
def Obligations.AllocatorCompletionsAct : Prop :=
  -- freeComplete
  (∀ (s : State) (h : Nat) (o : Op) (r : Region),
    opOf s h = some o →
    regionOf s (opnd o 0x10 4) = some r →
    o.opcode = 0x11 →
    o.phase = .running →
    freeReady s h r.dom r.force r.freedAt r.base (spanOf r) = true →
    noneCached (recallLines s (lineIn r.base r.max) true) (lineIn r.base r.max) = true →
    ∃ v, v = retryPromotes (removeRegion (recallLines s (lineIn r.base r.max) true) (opnd o 0x10 4 % 65536) r) ∧
      exec (.freeComplete h) s = .next (endOp (gauge v pgALLOC 3 (unitsFree v)) h 0)) ∧
  -- resizeShrinkComplete
  (∀ (s : State) (h : Nat) (o : Op) (r : Region),
    opOf s h = some o →
    o.opcode = 0x12 →
    o.phase = .running →
    o.aux ≠ [1] →
    regionOf s (opnd o 0x10 4) = some r →
    r.shrinking = h →
    freeReady s h r.dom r.shrinkForce r.shrinkAt (r.base + r.shrinkTo) (r.size - r.shrinkTo) = true →
    noneCached (recallLines s (lineIn (r.base + r.shrinkTo) (r.size - r.shrinkTo)) true) (lineIn (r.base +
      r.shrinkTo) (r.size - r.shrinkTo)) = true →
    ∃ v, v = retryPromotes (shrinkNow (recallLines s (lineIn (r.base + r.shrinkTo) (r.size - r.shrinkTo)) true)
      (opnd o 0x10 4 % 65536) r) ∧
      exec (.resizeShrinkComplete h) s = .next (endOp (gauge v pgALLOC 3
      (unitsFree v)) h 0)) ∧
  -- resizeGrowResume
  (∀ (s : State) (h : Nat) (o : Op) (r : Region),
    opOf s h = some o →
    o.aux = [1] →
    o.phase = .running →
    (before s h).any (fun x => waitingResize s x && decide (namedRegion s x = namedRegion s h)) = false →
    regionOf s (opnd o 0x10 4) = some r →
    r.freeing = false →
    r.shrinking = 0 →
    r.size < opnd o 0x14 4 →
    opnd o 0x14 4 ≤ r.max →
    exec (.resizeGrowResume h) s =
        .next (growRegion (modOp s h fun o => { o with aux := [] }) h (opnd o
      0x10 4 % 65536) r (opnd o 0x14 4))) ∧
  -- setAttrComplete
  (∀ (s : State) (h : Nat) (o : Op) (r : Region),
    opOf s h = some o →
    o.opcode = 0x13 →
    o.phase = .running →
    regionOf s (opnd o 0x10 4) = some r →
    nth o.aux 1 0 = 0 →
    (mirroring s = false ∨ nth o.aux 2 0 ≤ rd s (ra pgPAIR 0x10C)) →
    exec (.setAttrComplete h) s = .next (endOp (gauge s pgALLOC 3 (unitsFree s)) h 0)) ∧
  -- setAttrComplete
  (∀ (s : State) (h : Nat) (o : Op),
    opOf s h = some o →
    o.opcode = 0x13 →
    o.phase = .running →
    exec (.setAttrComplete h) s = .next (setAttrFinish s h)) ∧
  -- pinComplete
  (∀ (s : State) (h : Nat) (o : Op) (r : Region),
    opOf s h = some o →
    o.phase = .running →
    o.aux.head? = some 2 →
    regionOf s (nth o.aux 1 0) = some r →
    (regionOf (pinStep s (nth o.aux 1 0 % 65536)) (nth o.aux 1 0)).map (pinReady (pinStep s (nth o.aux 1 0 %
      65536))) = some true →
    ∃ u, u = pinStep s (nth o.aux 1 0 % 65536) ∧ exec (.pinComplete h) s = .next (endOp (gauge u pgALLOC 3
      (unitsFree u)) h 0))

/-- XLT_INVAL with a legal scope removes every matching translation and runs; XLT_INVAL_COMPLETE, once no tile that
  held one is left, ends it. CTX_IDX_WRITE by a control processor loads its staging words from the live context;
  CTX_DATA3_WRITE installs the four staging words, reserved bits cleared. TRANSLATION_PREFETCH prefetches what the
  dealt tiles of a core in service need, up to PF_DEPTH tiles of an operation. WALK_ENTRY_READ with a last-level
  entry that is present and allows the use installs the line's leaves and ends the walk, one that is not present
  ends it with the fault, and one that is read from pool memory goes on as one from host memory. (R55, R59, R64,
  R65, R66, R69, R497, chapter 03) -/
def Obligations.TranslationCommandsAct : Prop :=
  -- xltInval
  (∀ (s : State) (h : Nat) (o : Op),
    ready s h 0x22 = some o →
    fld (opnd o 0x10 4) 12 2 ≠ 3 →
    (fld (opnd o 0x10 4) 12 2 = 2 ∨ fld (ctxWord s (opnd o 0x10 4 % 4096)) 64 10 = o.dom) →
    (fld (opnd o 0x10 4) 12 2 ≠ 2 ∨ isCp o.owner = true) →
    (fld (opnd o 0x10 4) 12 2 ≠ 0 ∨ (opnd o 0x18 8 % 4096 = 0 ∧ opnd o 0x20 4 ≠ 0)) →
    ∃ u held, invalidate s (fld (opnd o 0x10 4) 12 2) (opnd o 0x10 4 % 4096) (opnd o 0x18 8 / 4096) (opnd o 0x20 4)
      = (u, held) ∧
      exec (.xltInval h) s = .next (count (modOp { u with xlt := { u.xlt with invals := tput u.xlt.invals h held } }
      h
        fun o => { o with phase := .running }) pgXLT 0 1)) ∧
  -- xltInvalComplete
  (∀ (s : State) (h : Nat) (held : List (Nat × Nat)),
    tget s.xlt.invals h = some held →
    (held.any fun t => (tileOf s t.1 t.2).isSome) = false →
    exec (.xltInvalComplete h) s = .next (endOp { s with xlt := { s.xlt with invals := tdel s.xlt.invals h } } h 0)) ∧
  -- ctxIdxWrite
  (∀ (s : State) (id : Nat) (v : W32),
    isCp id = true →
    ∃ t, exec (.ctxIdxWrite id v) s = .next t ∧ ri t id (ra pgXLT 0x180) = v.toNat % 4096 ∧
      ri t id (ra pgXLT
      0x184) = fld (ctxWord s (v.toNat % 4096)) 0 32 ∧
      ri t id (ra pgXLT 0x188) = fld (ctxWord s (v.toNat %
      4096)) 32 32 ∧
      ri t id (ra pgXLT 0x18C) = fld (ctxWord s (v.toNat % 4096)) 64 32 ∧ t.xlt = s.xlt ∧
      t.regs = s.regs) ∧
  -- ctxData3Write
  (∀ (s : State) (id : Nat) (v : W32),
    isCp id = true →
    ∃ t w, exec (.ctxData3Write id v) s = .next t ∧
      w = ri s id (ra pgXLT 0x184) + ri s id (ra pgXLT 0x188) *
      2 ^ 32 + ri s id (ra pgXLT 0x18C) * 2 ^ 64 ∧
      tgetD t.xlt.ctxs (ri s id (ra pgXLT 0x180) % 4096) 0 = fld
      w 0 58 + fld w 64 10 * 2 ^ 64 ∧ t.regs = s.regs) ∧
  -- translationPrefetch
  (∀ (s : State) (core : Nat),
    core < 20 →
    coreInService s core = true →
    coreDealt s core = [] →
    exec (.translationPrefetch core) s = .next s) ∧
  -- translationPrefetch
  (∀ (s : State) (core : Nat) (o : Op) (d : Tile),
    core < 20 →
    coreInService s core = true →
    coreDealt s core = [d] →
    0 < rf s (ra pgXLT 0x194) 0 5 →
    opOf s d.op = some o →
    exec (.translationPrefetch core) s = .next ((staticSpans o d.num ++ gatherSpans s o d).foldl (fun s x =>
      prefetchRun s o d x) s)) ∧
  -- walkEntryRead
  (∀ (s : State) (w : Walk) (id : Nat) (l : Bytes),
    (s.xlt.walks.find? fun w => w.id = id) = some w →
    viewOk w.view (((opOf s w.op).map Op.dom).getD (viewDom w.view)) = true →
    viewHost w.view = true →
    l.length = 64 →
    w.level = 0 →
    entryPresent w.view (leNat ((l.drop (w.entry % 64)).take 8)) = true →
    (w.write = false ∨ entryWritable w.view (leNat ((l.drop (w.entry % 64)).take 8)) = true) →
    exec (.walkEntryRead id (.host l)) s = .next (dropWalk (installLine (keepUppers s w) w l true) w)) ∧
  -- walkEntryRead
  (∀ (s : State) (w : Walk) (id : Nat) (l : Bytes),
    (s.xlt.walks.find? fun w => w.id = id) = some w →
    viewOk w.view (((opOf s w.op).map Op.dom).getD (viewDom w.view)) = true →
    viewHost w.view = true →
    l.length = 64 →
    0 < w.level →
    entryPresent w.view (leNat ((l.drop (w.entry % 64)).take 8)) = false →
    exec (.walkEntryRead id (.host l)) s = .next (walkFault s w 1)) ∧
  -- walkEntryRead
  (∀ (s : State) (u : State) (w : Walk) (id : Nat) (l : Bytes) (ps : List Nat),
    (s.xlt.walks.find? fun w => w.id = id) = some w →
    viewOk w.view (((opOf s w.op).map Op.dom).getD (viewDom w.view)) = true →
    viewHost w.view = false →
    userRead s { who := .walk w.id, req := none, dom := viewDom w.view, cls := 7 } (w.entry / 64 * 64) 64 = .done
      (l, ps) u →
    ps.any (· ≠ 0) = false →
    exec (.walkEntryRead id .pool) s = .next (walkEntry (forgetSnoops u (.walk w.id)) w l false))

/-- A request packet that has arrived whole at a port of a serving controller, with its own code and channel, from
  an EID that is not fenced, and whose slice is not held, is taken from the port. RD_SHARED, RD_OWN, UPGRADE,
  RD_ONCE and WR_ONCE that chapter 02 permits, that the Weir admits and whose sub-page meets the class's residency
  are given to the home as requests of their kinds, after the access is counted; what is not permitted is answered
  with a NAK of NOT_PERMITTED. (R26, R82, R86, R107, chapter 04) -/
def Obligations.CoherenceRequestsReachTheHome : Prop :=
  -- rdShared
  (∀ (s : State) (p : State) (a : State) (port : Nat) (sch : Nat) (pkt : Packet) (pl : Place),
    arrived s port pkt 0x01 0 p →
    sliceHeld s (homeSlice pkt.line) = false →
    reqRefused p .rdShared pkt = some pl →
    respSched p pkt.src 3 = some sch →
    weirAdmit p pkt.src (fabricClass pkt.sc pl.reg) 64 [(sch, respBytes p .rdShared pkt)] = some a →
    residencyOk p (fabricClass pkt.sc pl.reg) pl.reg (subRec p (viewSub p pl (0x100 + pkt.src) none)).state = true →
    (subRec p (viewSub p pl (0x100 + pkt.src) none)).state ≠ 3 →
    ∃ c q, c = fabricClass pkt.sc pl.reg ∧ q = viewSub p pl (0x100 + pkt.src) none ∧ exec (.rdShared port pkt) s =
      .next (homeBegin (access a [q]) { kind := .rdShared, who := .fabric pkt.src, tag := pkt.tag, sc := c, line :=
                                          pkt.line, start := rxSince s port pkt, void := bornVoid p (some pkt.src)
                                          (some port) sch (q * 1024 + pkt.line % 1024), bound := boundNs p c 64, dom
                                          := pl.reg.dom, sch := sch, via := some port, charge := respBytes p
                                          .rdShared pkt + overhead p sch })) ∧
  (∀ (s : State) (p : State) (port : Nat) (pkt : Packet),
    arrived s port pkt 0x01 0 p →
    sliceHeld s (homeSlice pkt.line) = false →
    exec (.rdShared port pkt) s = .next (reqServe .rdShared port (rxSince s port pkt) pkt p)) ∧
  -- rdOwn
  (∀ (s : State) (p : State) (a : State) (port : Nat) (sch : Nat) (pkt : Packet) (pl : Place),
    arrived s port pkt 0x02 0 p →
    sliceHeld s (homeSlice pkt.line) = false →
    reqRefused p .rdOwn pkt = some pl →
    respSched p pkt.src 3 = some sch →
    weirAdmit p pkt.src (fabricClass pkt.sc pl.reg) 64 [(sch, respBytes p .rdOwn pkt)] = some a →
    residencyOk p (fabricClass pkt.sc pl.reg) pl.reg (subRec p (viewSub p pl (0x100 + pkt.src) none)).state = true →
    (subRec p (viewSub p pl (0x100 + pkt.src) none)).state ≠ 3 →
    ∃ c q, c = fabricClass pkt.sc pl.reg ∧ q = viewSub p pl (0x100 + pkt.src) none ∧ exec (.rdOwn port pkt) s =
      .next (homeBegin (access a [q]) { kind := .rdOwn, who := .fabric pkt.src, tag := pkt.tag, sc := c, line :=
                                          pkt.line, start := rxSince s port pkt, void := bornVoid p (some pkt.src)
                                          (some port) sch (q * 1024 + pkt.line % 1024), bound := boundNs p c 64, dom
                                          := pl.reg.dom, sch := sch, via := some port, charge := respBytes p .rdOwn
                                          pkt + overhead p sch })) ∧
  (∀ (s : State) (p : State) (port : Nat) (pkt : Packet),
    arrived s port pkt 0x02 0 p →
    sliceHeld s (homeSlice pkt.line) = false →
    exec (.rdOwn port pkt) s = .next (reqServe .rdOwn port (rxSince s port pkt) pkt p)) ∧
  -- upgrade
  (∀ (s : State) (p : State) (a : State) (port : Nat) (sch : Nat) (pkt : Packet) (pl : Place),
    arrived s port pkt 0x03 0 p →
    sliceHeld s (homeSlice pkt.line) = false →
    reqRefused p .upgrade pkt = some pl →
    respSched p pkt.src 3 = some sch →
    weirAdmit p pkt.src (fabricClass pkt.sc pl.reg) 64 [(sch, respBytes p .upgrade pkt)] = some a →
    residencyOk p (fabricClass pkt.sc pl.reg) pl.reg (subRec p (viewSub p pl (0x100 + pkt.src) none)).state = true →
    (subRec p (viewSub p pl (0x100 + pkt.src) none)).state ≠ 3 →
    ∃ c q, c = fabricClass pkt.sc pl.reg ∧ q = viewSub p pl (0x100 + pkt.src) none ∧ exec (.upgrade port pkt) s =
      .next (homeBegin (access a [q]) { kind := .upgrade, who := .fabric pkt.src, tag := pkt.tag, sc := c, line :=
                                          pkt.line, start := rxSince s port pkt, void := bornVoid p (some pkt.src)
                                          (some port) sch (q * 1024 + pkt.line % 1024), bound := boundNs p c 64, dom
                                          := pl.reg.dom, sch := sch, via := some port, charge := respBytes p
                                          .upgrade pkt + overhead p sch })) ∧
  (∀ (s : State) (p : State) (port : Nat) (pkt : Packet),
    arrived s port pkt 0x03 0 p →
    sliceHeld s (homeSlice pkt.line) = false →
    exec (.upgrade port pkt) s = .next (reqServe .upgrade port (rxSince s port pkt) pkt p)) ∧
  -- rdOnce
  (∀ (s : State) (p : State) (a : State) (port : Nat) (sch : Nat) (pkt : Packet) (pl : Place),
    arrived s port pkt 0x04 0 p →
    sliceHeld s (homeSlice pkt.line) = false →
    reqRefused p .rdOnce pkt = some pl →
    respSched p pkt.src 3 = some sch →
    weirAdmit p pkt.src (fabricClass pkt.sc pl.reg) 64 [(sch, respBytes p .rdOnce pkt)] = some a →
    residencyOk p (fabricClass pkt.sc pl.reg) pl.reg (subRec p (viewSub p pl (0x100 + pkt.src) none)).state = true →
    (subRec p (viewSub p pl (0x100 + pkt.src) none)).state ≠ 3 →
    ∃ c q, c = fabricClass pkt.sc pl.reg ∧ q = viewSub p pl (0x100 + pkt.src) none ∧ exec (.rdOnce port pkt) s =
      .next (homeBegin (access a [q]) { kind := .rdOnce, who := .fabric pkt.src, tag := pkt.tag, sc := c, line :=
                                          pkt.line, start := rxSince s port pkt, void := bornVoid p (some pkt.src)
                                          (some port) sch (q * 1024 + pkt.line % 1024), bound := boundNs p c 64, dom
                                          := pl.reg.dom, sch := sch, via := some port, charge := respBytes p .rdOnce
                                          pkt + overhead p sch })) ∧
  (∀ (s : State) (p : State) (port : Nat) (pkt : Packet),
    arrived s port pkt 0x04 0 p →
    sliceHeld s (homeSlice pkt.line) = false →
    exec (.rdOnce port pkt) s = .next (reqServe .rdOnce port (rxSince s port pkt) pkt p)) ∧
  -- wrOnce
  (∀ (s : State) (p : State) (a : State) (port : Nat) (sch : Nat) (pkt : Packet) (pl : Place),
    arrived s port pkt 0x05 0 p →
    sliceHeld s (homeSlice pkt.line) = false →
    reqRefused p .wrOnce pkt = some pl →
    respSched p pkt.src 2 = some sch →
    weirAdmit p pkt.src (fabricClass pkt.sc pl.reg) 64 [(sch, respBytes p .wrOnce pkt)] = some a →
    residencyOk p (fabricClass pkt.sc pl.reg) pl.reg (subRec p (viewSub p pl (0x100 + pkt.src) none)).state = true →
    (subRec p (viewSub p pl (0x100 + pkt.src) none)).state ≠ 3 →
    ∃ c q, c = fabricClass pkt.sc pl.reg ∧ q = viewSub p pl (0x100 + pkt.src) none ∧ exec (.wrOnce port pkt) s =
      .next (homeBegin (access a [q]) { kind := .wrOnce, who := .fabric pkt.src, tag := pkt.tag, sc := c, line :=
                                          pkt.line, start := rxSince s port pkt, void := bornVoid p (some pkt.src)
                                          (some port) sch (q * 1024 + pkt.line % 1024), bound := boundNs p c 64, dom
                                          := pl.reg.dom, sch := sch, via := some port, charge := respBytes p .wrOnce
                                          pkt + overhead p sch })) ∧
  (∀ (s : State) (p : State) (port : Nat) (pkt : Packet),
    arrived s port pkt 0x05 0 p →
    sliceHeld s (homeSlice pkt.line) = false →
    exec (.wrOnce port pkt) s = .next (reqServe .wrOnce port (rxSince s port pkt) pkt p)) ∧
  (∀ (p : State) (k : ReqKind) (port : Nat) (since : Nat) (pkt : Packet),
    reqRefused p k pkt = none →
    reqServe k port since pkt p = nakPacket p pkt stNotPermitted)

/-- WR_DATA of the request that pulled it is joined to its transaction. WB_DIRTY from the line's owner writes the
  line at the home, frees the owner and is acknowledged, and one from an agent that does not own the line is
  acknowledged alone. EVICT, ACK_SHR, ACK_INV, ACK_MISS, ACK_CLEAN and HOLD_DATA that have arrived at a serving
  controller from the EID of a valid agent that is not fenced act on the line's directory entry or transaction as
  chapter 04 gives for each; the packet leaves its port. (R81, R86, R87, R88, chapter 04) -/
def Obligations.CoherenceDataAndAnswersAreAbsorbed : Prop :=
  -- wrData
  (∀ (s : State) (p : State) (port : Nat) (pkt : Packet) (t : Tran),
    arrived s port pkt 0x06 3 p →
    tranOf p pkt.line = some t →
    t.pull = true →
    t.req.who = .fabric pkt.src →
    t.req.tag = pkt.tag →
    (permitted p pkt.src (pkt.line * 64) false true).isSome = true →
    exec (.wrData port pkt) s = .next (advance (setTran p pkt.line { t with pull := false, refused := 0,
                                                                              wdata := some (fitBytes 64 pkt.data,
                                                                              pkt.mask, pktPoison pkt) }) pkt.line)) ∧
  -- wbDirty
  (∀ (s : State) (p : State) (port : Nat) (i : Nat) (pkt : Packet) (e : DirEntry),
    arrived s port pkt 0x1E 3 p →
    agentOf p pkt.src = some i →
    dirOf p pkt.line = some e →
    2 ≤ e.state →
    e.owner = i →
    (permitted p pkt.src (pkt.line * 64) false true).isSome = true →
    ∃ u, u = homeStore p pkt.line pkt.sc (fitBytes 64 pkt.data) (2 ^ 64 - 1) (pktPoison pkt) ∧
      exec (.wbDirty
      port pkt) s = .next (wbMeets (settle (emit (dirAfterWb u pkt.line e) { dest := pkt.src, ch := 2, sc := pkt.sc,
                                                                             tag := pkt.tag, code := 0x13, line :=
                                                                               pkt.line }) pkt.line) pkt.line i)) ∧
  -- wbDirty
  (∀ (s : State) (p : State) (port : Nat) (i : Nat) (pkt : Packet),
    arrived s port pkt 0x1E 3 p →
    agentOf p pkt.src = some i →
    dirOf p pkt.line = none →
    exec (.wbDirty port pkt) s = .next (emit p { dest := pkt.src, ch := 2, sc := pkt.sc, tag := pkt.tag, code :=
                                                   0x13, line := pkt.line })) ∧
  -- evict
  (∀ (s : State) (p : State) (port : Nat) (i : Nat) (pkt : Packet) (e : DirEntry),
    arrived s port pkt 0x18 2 p →
    agentOf p pkt.src = some i →
    dirOf p pkt.line = some e →
    (e.state = 1 ∨ (e.state = 4 ∧ e.owner ≠ i)) →
    e.sharers.getLsbD i = true →
    exec (.evict port pkt) s = .next (settle (dropSharer p pkt.line i e) pkt.line)) ∧
  -- evict
  (∀ (s : State) (p : State) (port : Nat) (i : Nat) (pkt : Packet) (e : DirEntry),
    arrived s port pkt 0x18 2 p →
    agentOf p pkt.src = some i →
    dirOf p pkt.line = some e →
    e.state = 2 →
    e.owner = i →
    e.opened = false →
    exec (.evict port pkt) s = .next (settle (dropDir p pkt.line) pkt.line)) ∧
  -- ackShr
  (∀ (s : State) (p : State) (port : Nat) (i : Nat) (pkt : Packet),
    arrived s port pkt 0x14 2 p →
    agentOf p pkt.src = some i →
    exec (.ackShr port pkt) s = .next (answer 1 none false pkt.line i p)) ∧
  -- ackInv
  (∀ (s : State) (p : State) (port : Nat) (i : Nat) (pkt : Packet),
    arrived s port pkt 0x15 2 p →
    agentOf p pkt.src = some i →
    (p.pair.took = false ∨ awaits p pkt.line i = true) →
    exec (.ackInv port pkt) s = .next (answer 6 none false pkt.line i p)) ∧
  -- ackMiss
  (∀ (s : State) (p : State) (port : Nat) (i : Nat) (pkt : Packet),
    arrived s port pkt 0x16 2 p →
    agentOf p pkt.src = some i →
    exec (.ackMiss port pkt) s = .next (answer 3 none pkt.wbPending pkt.line i p)) ∧
  -- ackClean
  (∀ (s : State) (p : State) (port : Nat) (i : Nat) (pkt : Packet),
    arrived s port pkt 0x17 2 p →
    agentOf p pkt.src = some i →
    exec (.ackClean port pkt) s = .next (answer 5 none false pkt.line i p)) ∧
  -- holdData
  (∀ (s : State) (p : State) (port : Nat) (i : Nat) (pkt : Packet),
    arrived s port pkt 0x1F 3 p →
    agentOf p pkt.src = some i →
    (p.pair.took = false ∨ awaits p pkt.line i = true) →
    exec (.holdData port pkt) s = .next (answer 2 (some (fitBytes 64 pkt.data, pktPoison pkt)) false pkt.line i p))

/-- TRANSACTION_CLOSE closes a transaction whose response has left and checks its bound. RECALL_TIMEOUT fences the
  agent that owes an answer. DIRECTORY_SWEEP_DONE ends the sweep of an agent that no line names any more.
  AGENT_DATA_WRITE, AGENT_FENCE and AGENT_UNFENCE by firmware set the agent's entry, fence it, and free it once its
  sweep is done. What AGENT_DATA_WRITE leaves of the fence state is the model's choice (log entry 99). (R79, R85,
  R92, R94, R95, chapter 04) -/
def Obligations.HomeEventsAct : Prop :=
  -- transactionClose
  (∀ (s : State) (line : Nat) (t : Tran),
    tranOf s line = some t →
    t.done = true →
    exec (.transactionClose line) s = .next (boundReport (closeTran s line) t.req.sc t.req.sch (reqIndex t.req.who)
      t.req.dom 0 t.req.start t.req.bound t.req.void)) ∧
  -- recallTimeout
  (∀ (s : State) (line : Nat) (i : Nat) (t : Tran),
    tranOf s line = some t →
    ((t.waits.any fun w => w.agent = i) = true ∨ t.awaitWb = some i) →
    ∃ a u, a = mirrorFence (setAgent s i { agent s i with fenced := true, timedOut := true, sweepDone := false,
                                                          answers := false }) i true ∧
      u = count (fenceEffects
      a (agent s i).eid) pgDIR 5 1 ∧
      exec (.recallTimeout line i) s = .next (timeoutLine { u with dir := { u.dir with sweeps := insNat i u.dir.sweeps } }
      line i)) ∧
  -- directorySweepDone
  (∀ (s : State) (u : State) (i : Nat),
    s.dir.sweeps.contains i = true →
    u = (if (agent s i).answers then recallAgent s i else sweepSilent s i) →
    (u.dir.entries.any fun e => entryNames e.2 i) = false →
    (u.dir.trans.any fun e => tranNames e.2 i) = false →
    ∃ v, v = setAgent u i { agent u i with sweepDone := true, answers := false } ∧ exec (.directorySweepDone i) s =
      .next (event { v with dir := { v.dir with sweeps := v.dir.sweeps.erase i } } { source := pgDIR, sev := sevInfo,
                                                                                     cls := clCoherence, detail := i })) ∧
  -- agentDataWrite
  (∀ (s : State) (id : Nat) (v : W32),
    isFw id = true →
    ((agent s (fld (ri s id (ra pgDIR 0x100)) 0 8)).valid = false ∨ (agent s (fld (ri s id (ra pgDIR 0x100)) 0
      8)).fenced = true ∧ (agent s (fld (ri s id (ra pgDIR 0x100)) 0 8)).sweepDone = true) →
    exec (.agentDataWrite id v) s = .next (setAgent s (fld (ri s id (ra pgDIR 0x100)) 0 8) { agent s (fld (ri s id (ra pgDIR 0x100)) 0 8) with eid := fld v.toNat 0 12,
                                                                                                                                               valid := v.toNat.testBit 12 })) ∧
  -- agentDataWrite
  (∀ (s : State) (id : Nat) (v : W32),
    isFw id = true →
    (agent s (fld (ri s id (ra pgDIR 0x100)) 0 8)).valid = true →
    (agent s (fld (ri s id (ra pgDIR 0x100)) 0 8)).fenced = false →
    (fld v.toNat 0 12 ≠ (agent s (fld (ri s id (ra pgDIR 0x100)) 0 8)).eid ∨ v.toNat.testBit 12 = false) →
    exec (.agentDataWrite id v) s = .next s) ∧
  -- agentFence
  (∀ (s : State) (id : Nat) (i : Nat),
    isFw id = true →
    i < 256 →
    (agent s i).fenced = false →
    ∃ a u, a = mirrorFence (setAgent s i { agent s i with fenced := true, sweepDone := false, timedOut := false,
                                                          answers := true }) i false ∧
      u = fenceEffects a
      (agent s i).eid ∧
      exec (.agentFence id i) s = .next (recallAgent { u with dir := { u.dir with sweeps := insNat i u.dir.sweeps } }
      i)) ∧
  -- agentFence
  (∀ (s : State) (id : Nat) (i : Nat),
    isFw id = true →
    (agent s i).fenced = true →
    exec (.agentFence id i) s = .next s) ∧
  -- agentUnfence
  (∀ (s : State) (id : Nat) (i : Nat),
    isFw id = true →
    (agent s i).sweepDone = true →
    exec (.agentUnfence id i) s = .next (setAgent s i { agent s i with fenced := false, timedOut := false, sweepDone
                                                                         := false })) ∧
  -- agentUnfence
  (∀ (s : State) (id : Nat) (i : Nat),
    isFw id = true →
    (agent s i).sweepDone = false →
    exec (.agentUnfence id i) s = .next s)

/-- SCHEDULER_START_UNIT starts the unit that the arbitration picks. GATE_COMMIT by a master whose shadow list is
  legal leaves the list accepted with PENDING set, and one whose list is not legal leaves COMMIT_ERR.
  GATE_CYCLE_START puts an accepted list in force from its first window and clears PENDING; GATE_WINDOW_BOUNDARY
  goes to the next window. TILE_ADMISSION_RETRY at a serving controller tries the admission of the tile again: one
  that the Weir admits is queued at its cluster's scheduler with its bound fixed, and one that is still not admitted
  is counted as refused and goes on waiting. That COMMIT_ERR outlives a later accepted commit is the model's choice
  (log entry 100). (R100, R107, R108, R110, R111, chapter 05) -/
def Obligations.WeirCommandsAct : Prop :=
  -- schedulerStartUnit
  (∀ (s : State) (k : Nat) (u : WUnit),
    nextUnit s k = some u →
    exec (.schedulerStartUnit k) s = .next (startUnit s k u)) ∧
  -- gateCommit
  (∀ (s : State) (u : State) (id : Nat) (port : Nat) (g : Nat) (v : W32),
    port ≤ 20 →
    id ≠ 0 →
    v.toNat.testBit 17 = true →
    g = writeFields false (rd s (ra pgWEIR (0x280 + 4 * port))) v.toNat [fRW 0 10 10 10 1000, fRW 10 7 0 0 64, fW1C
      19 1] →
    u = wr s (ra pgWEIR (0x280 + 4 * port)) g →
    gateListOk (shadowList u port (fld g 10 7)) (fld g 0 10) = true →
    exec (.gateCommit id port v) s = .next (wb (setGate u port { gate u port with pending := some (shadowList u port
                                                                                    (fld g 10 7)) }) (ra pgWEIR
      (0x280 + 4 * port)) 18 true)) ∧
  (∀ (s : State) (u : State) (id : Nat) (port : Nat) (g : Nat) (v : W32),
    port ≤ 20 →
    id ≠ 0 →
    v.toNat.testBit 17 = true →
    g = writeFields false (rd s (ra pgWEIR (0x280 + 4 * port))) v.toNat [fRW 0 10 10 10 1000, fRW 10 7 0 0 64, fW1C
      19 1] →
    u = wr s (ra pgWEIR (0x280 + 4 * port)) g →
    gateListOk (shadowList u port (fld g 10 7)) (fld g 0 10) = false →
    exec (.gateCommit id port v) s = .next (wb u (ra pgWEIR (0x280 + 4 * port)) 19 true)) ∧
  -- gateCycleStart
  (∀ (s : State) (port : Nat),
    exec (.gateCycleStart port) s = .next (setGate (wb s (ra pgWEIR (0x280 + 4 * port)) 18 false) port { active := (gate s port).pending.getD (gate s port).active,
                                                                                                         pending := none,
                                                                                                         window := 0,
                                                                                                         since := s.now })) ∧
  -- gateWindowBoundary
  (∀ (s : State) (port : Nat),
    (gate s port).window + 1 < (gate s port).active.length →
    exec (.gateWindowBoundary port) s = .next (setGate s port { gate s port with window := (gate s port).window + 1,
                                                                                 since := (gate s port).since + (nth
                                                                                   (gate s port).active (gate s
                                                                                   port).window (0, 0)).1 })) ∧
  -- tileAdmissionRetry
  (∀ (s : State) (a : State) (h : Nat) (num : Nat) (o : Op) (t : Tile),
    serving s = true →
    opOf s h = some o →
    tileOf s h num = some t →
    t.admitted = false →
    t.eng = none →
    admitEn s = true →
    scRate s (opClass o) ≠ 0 →
    weirAdmit s (qReq o.queue) (opClass o) 4096 [(24 + t.core / 5, 4096)] = some a →
    ∃ c sch u e, c = opClass o ∧ sch = 24 + t.core / 5 ∧
      u = modTile a h num (fun t => { t with admitted := true,
                                                                                                      start := a.now,
                                                                                                      bound := boundNs a c 4096,
                                                                                                      void := t.void || tileBornVoid a t })
      ∧
      e = enqueue u sch { tag := 0, cls := c, len := 4096, charge := 4096 + overhead u sch, tile := some (h,
                                    num) } ∧
      exec (.tileAdmissionRetry h num) s = .next (modOp e h fun o => { o with bytesAdmitted := o.bytesAdmitted + 4096,
                                                                                                                           runStart := some (o.runStart.getD e.now),
                                                                                                                           terms := if o.runStart.isNone then boundTerms e c else o.terms })) ∧
  (∀ (s : State) (h : Nat) (num : Nat) (o : Op) (t : Tile),
    serving s = true →
    opOf s h = some o →
    tileOf s h num = some t →
    t.admitted = false →
    t.eng = none →
    admitEn s = true →
    scRate s (opClass o) ≠ 0 →
    weirAdmit s (qReq o.queue) (opClass o) 4096 [(24 + t.core / 5, 4096)] = none →
    exec (.tileAdmissionRetry h num) s = .next (countRefusal s (qReq o.queue) (opClass o) 4096))

/-- CACHE_FILL_DONE completes the background fill of a sub-page; CACHE_RELEASE_DONE returns the frame, and the
  sub-page that waited for it is taken in; EPOCH_END halves every access count and shifts the touched bits;
  CISTERN_PROMOTION_DONE commits a promotion, after one more read of the blocks that failed; LEHR_DEMOTE_START
  starts the demotion of the page that the Lehr picks; LEHR_DEMOTION_COMMIT frees the DRAM frame of a sub-page that
  the partner need not hold. What a block that failed twice holds is a free value, and the pace of the Lehr a bucket
  of one sub-page (log entries 8 and 75). (R123, R124, R126, R128, R129, R136, chapter 06) -/
def Obligations.TierEventsAct : Prop :=
  -- cacheFillDone
  (∀ (s : State) (q : Nat),
    s.tier.fills.contains q = true →
    (subRec s q).state = 2 →
    (subRec s q).evicting = false →
    exec (.cacheFillDone q) s = .next (setSub { s with tier := { s.tier with fills := s.tier.fills.erase q } } q { subRec s q with valid := BitVec.allOnes 1024 })) ∧
  -- cacheReleaseDone
  (∀ (s : State) (q : Nat) (w : Nat),
    tget s.tier.releases q = some w →
    (w = 0 ∨ (subRec (releaseCommit s q) w).state ≠ 1) →
    exec (.cacheReleaseDone q) s = .next (releaseCommit s q)) ∧
  -- cacheReleaseDone
  (∀ (s : State) (q : Nat) (w : Nat),
    tget s.tier.releases q = some w →
    w ≠ 0 →
    (subRec (releaseCommit s q) w).state = 1 →
    exec (.cacheReleaseDone q) s = .next (basinEnter (releaseCommit s q) w)) ∧
  -- epochEnd
  (∀ (s : State),
    exec .epochEnd s = .next { s with tier := { s.tier with pages := tfilter (tmap s.tier.pages fun _ r => { r with count := r.count / 2,
                                                                                                                    prevTouched := r.touched,
                                                                                                                    touched := 0 })
                                                              fun _ r => r ≠ {} } }) ∧
  (∀ (s : State) (t : State) (p : Nat),
    exec .epochEnd s = .next t →
    pageRec t p = { pageRec s p with count := (pageRec s p).count / 2, prevTouched := (pageRec s p).touched, touched
                                       := 0 }) ∧
  -- cisternPromotionDone
  (∀ (s : State) (q : Nat) (m : Move) (bad : BitVec 16),
    moveOf s q = some m →
    m.kind = .promote →
    (bad = 0 ∨ m.reread = true) →
    exec (.cisternPromotionDone q bad) s = .next (promoteCommit (spoilBlocks s q bad) m bad)) ∧
  -- cisternPromotionDone
  (∀ (s : State) (q : Nat) (m : Move) (bad : BitVec 16),
    moveOf s q = some m →
    m.kind = .promote →
    bad ≠ 0 →
    m.reread = false →
    exec (.cisternPromotionDone q bad) s = .next ((bitList bad).foldl (fun s b => issueNvme s m.drive (.read
      (frameLba (frameNum (subRec s q).frame) + b) 1 (m.dest * 65536 + b * 4096))) { s with tier := { s.tier with moves := s.tier.moves.map fun x => if x.sub = q then { x with reread := true } else x } })) ∧
  -- lehrDemoteStart
  (∀ (s : State) (u : State) (v : State) (q : Nat) (on : Bool),
    on = (if s.tier.lehrOn then freeBelow s (rf s (ra pgTIER 0x108) 11 10) else freeBelow s (rf s (ra pgTIER 0x108)
      1 10)) →
    on = true →
    u = { s with tier := { s.tier with lehrOn := on } } →
    rb u (ra pgTIER 0x108) 0 = true →
    (activeDrives u).isEmpty = false →
    u.pair.audit = false →
    serving u = true →
    u.pair.pause = false →
    u.pwr.warm ≠ 2 →
    (rateOk u u.tier.lehrNext = true ∨ dramFree u = 0) →
    lehrPick u = some q →
    startDemote u .lehr q 0 = some v →
    exec .lehrDemoteStart s = .next { v with tier := { v.tier with lehrPos := subBase q + 1, lehrNext := rateNext v
                                                                     (rf v (ra pgTIER 0x10C) 0 24) } }) ∧
  -- lehrDemotionCommit
  (∀ (s : State) (u : State) (q : Nat) (m : Move),
    moveOf s q = some m →
    m.kind = .lehr →
    m.asked = false →
    u = writeMeta s m.sub m.dest →
    (lineMirrored u (m.sub * 1024) = false ∨ mirroring u = false) →
    exec (.lehrDemotionCommit q) s = .next (demoteCommit u m.sub)) ∧
  -- lehrDemotionCommit
  (∀ (s : State) (q : Nat) (m : Move),
    moveOf s q = some m →
    m.kind = .lehr →
    exec (.lehrDemotionCommit q) s = .next (demoteWritten s m))

/-- NVME_CMD_TIMEOUT counts, and aborts and issues the command once more, or fails the drive the second time;
  DRIVE_FAILURE fails a drive; RESERVATION_PREEMPT_DONE sets RES_HELD and lets the drive take commands;
  CISTERN_ENABLE raises or drops CIS_PERST_N with CFG.ENABLE; MIGRATE with legal operands runs; MIGRATE_MOVE_DONE
  commits the move that runs and takes the next sub-page. (R137, R138, R139, R142, R143, R144, R145, R503, chapter
  06) -/
def Obligations.CisternEventsAct : Prop :=
  -- nvmeCmdTimeout
  (∀ (s : State) (d : Nat) (f : Nat) (c : CisCmd),
    d < 16 →
    f < 0x10000000 →
    cisCmd s (d * 0x10000000 + f) = some c →
    c.twice = false →
    exec (.nvmeCmdTimeout d f) s = .next (retryCis (count s (pgCISP + d) 4 1) (d * 0x10000000 + f) c)) ∧
  -- nvmeCmdTimeout
  (∀ (s : State) (d : Nat) (f : Nat) (c : CisCmd),
    d < 16 →
    f < 0x10000000 →
    cisCmd s (d * 0x10000000 + f) = some c →
    c.twice = true →
    exec (.nvmeCmdTimeout d f) s = .next (failDrive (count s (pgCISP + d) 4 1) d)) ∧
  -- driveFailure
  (∀ (s : State) (d : Nat),
    d < 16 →
    drvState s d ≠ 0 →
    drvState s d ≠ 4 →
    exec (.driveFailure d) s = .next (failDrive s d)) ∧
  -- reservationPreemptDone
  (∀ (s : State) (d : Nat),
    s.tier.preempt.contains d = true →
    ∃ u v, u = { s with tier := { s.tier with preempt := s.tier.preempt.erase d, later := s.tier.later.filter fun e
                                                => e.1 ≠ d } } ∧
      v = (s.tier.later.filter fun e => e.1 =
      d).foldl (fun s e => put s (.nvme e.1 e.2)) (setHeld u d true) ∧
      exec (.reservationPreemptDone d) s =
      .next (retryPromotes ((v.tier.moves.filter fun m => decide (m.drive = d) && decide (m.kind = .promote)).foldl
      (fun s m => readCis s (subRec s m.sub).frame m.dest) v))) ∧
  -- cisternEnable
  (∀ (s : State) (u : State) (id : Nat) (v : W32),
    u = wr s (ra pgCIS 0x100) (writeFields false (rd s (ra pgCIS 0x100)) v.toNat [fRW 0 1, fRW 1 7 16 1 64, fRW 8 10
      30 1 1000]) →
    rb s (ra pgCIS 0x100) 0 = false →
    rb u (ra pgCIS 0x100) 0 = true →
    exec (.cisternEnable id v) s = .next (put u (.pin "CIS_PERST_N" true))) ∧
  -- cisternEnable
  (∀ (s : State) (u : State) (id : Nat) (v : W32),
    u = wr s (ra pgCIS 0x100) (writeFields false (rd s (ra pgCIS 0x100)) v.toNat [fRW 0 1, fRW 1 7 16 1 64, fRW 8 10
      30 1 1000]) →
    rb s (ra pgCIS 0x100) 0 = true →
    rb u (ra pgCIS 0x100) 0 = false →
    exec (.cisternEnable id v) s = .next (drvGauges (put ((rangeFrom 0 16).foldl (fun s d => if drvState s d = 4
      then s else setHeld (setDrv s d 0) d false) u) (.pin "CIS_PERST_N" false)))) ∧
  -- cisternEnable
  (∀ (s : State) (u : State) (id : Nat) (v : W32),
    u = wr s (ra pgCIS 0x100) (writeFields false (rd s (ra pgCIS 0x100)) v.toNat [fRW 0 1, fRW 1 7 16 1 64, fRW 8 10
      30 1 1000]) →
    rb u (ra pgCIS 0x100) 0 = rb s (ra pgCIS 0x100) 0 →
    exec (.cisternEnable id v) s = .next u) ∧
  -- migrate
  (∀ (s : State) (h : Nat) (o : Op) (r : Region),
    ready s h 0x17 = some o →
    regionOf s (opnd o 0x10 4) = some r →
    r.freeing = false →
    r.dom = o.dom →
    opnd o 0x18 4 ≠ 0 →
    opnd o 0x14 4 + opnd o 0x18 4 ≤ r.size →
    migTarget o ≠ 3 →
    migGrain o ≠ 5 →
    migGrain o ≠ 6 →
    (migTarget o ≠ 2 ∨ (r.coherent = false ∧ r.residency = 0)) →
    (migGrain o = 7 ∨ (opnd o 0x14 4 = 0 ∧ opnd o 0x18 4 = r.size)) →
    o.askSusp = false →
    exec (.migrate h) s = .next (migGo (modOp s h fun o => { o with phase := if o.askSusp then .suspending else
                                                                      .running, prog := { o.prog with next := migStart o r } })
      h)) ∧
  -- migrate
  (∀ (s : State) (h : Nat) (o : Op) (r : Region),
    ready s h 0x17 = some o →
    regionOf s (opnd o 0x10 4) = some r →
    r.freeing = false →
    r.dom = o.dom →
    opnd o 0x18 4 ≠ 0 →
    opnd o 0x14 4 + opnd o 0x18 4 ≤ r.size →
    migTarget o ≠ 3 →
    migGrain o ≠ 5 →
    migGrain o ≠ 6 →
    (migTarget o ≠ 2 ∨ (r.coherent = false ∧ r.residency = 0)) →
    (migGrain o = 7 ∨ (opnd o 0x14 4 = 0 ∧ opnd o 0x18 4 = r.size)) →
    o.askSusp = true →
    exec (.migrate h) s = .next (modOp s h fun o => { o with phase := if o.askSusp then .suspending else .running,
                                                             prog := { o.prog with next := migStart o r } })) ∧
  -- migrateMoveDone
  (∀ (s : State) (h : Nat) (o : Op) (r : Region),
    opOf s h = some o →
    o.opcode = 0x17 →
    o.phase = .running →
    o.cancelled = false →
    s.tier.moves.find? (fun m => m.op = h) = none →
    regionOf s (opnd o 0x10 4) = some r →
    (migResults s h r).tier.moves.any (fun m => m.op = h) = false →
    exec (.migrateMoveDone h) s = .next (migGo (migResults s h r) h)) ∧
  -- migrateMoveDone
  (∀ (s : State) (u : State) (v : State) (h : Nat) (o : Op) (m : Move) (r : Region),
    opOf s h = some o →
    o.opcode = 0x17 →
    o.phase = .running →
    o.cancelled = false →
    s.tier.moves.find? (fun m => m.op = h) = some m →
    u = (if m.kind = .promote then promoteCommit s m 0 else demoteWritten s m) →
    regionOf u (opnd o 0x10 4) = some r →
    v = migResults u h r →
    v.tier.moves.any (fun m => m.op = h) = false →
    exec (.migrateMoveDone h) s = .next (migGo v h)) ∧
  -- migrateMoveDone
  (∀ (s : State) (u : State) (v : State) (h : Nat) (o : Op) (m : Move) (r : Region),
    opOf s h = some o →
    o.opcode = 0x17 →
    o.phase = .suspending →
    o.cancelled = false →
    s.tier.moves.find? (fun m => m.op = h) = some m →
    u = (if m.kind = .promote then promoteCommit s m 0 else demoteWritten s m) →
    regionOf u (opnd o 0x10 4) = some r →
    v = migResults u h r →
    v.tier.moves.any (fun m => m.op = h) = false →
    exec (.migrateMoveDone h) s = .next (v)) ∧
  -- migrateMoveDone
  (∀ (s : State) (u : State) (v : State) (h : Nat) (o : Op) (m : Move) (r : Region),
    opOf s h = some o →
    o.opcode = 0x17 →
    o.phase = .running →
    o.cancelled = true →
    s.tier.moves.find? (fun m => m.op = h) = some m →
    u = (if m.kind = .promote then promoteCommit s m 0 else demoteWritten s m) →
    regionOf u (opnd o 0x10 4) = some r →
    v = migResults u h r →
    v.tier.moves.any (fun m => m.op = h) = false →
    exec (.migrateMoveDone h) s = .next (endOp v h (migCond v h)))

/-- SQ_DOORBELL and DOORBELL_PACKET ring the queue for the sender's identity; SQ_CFG_WRITE and CQ_CFG_WRITE set the
  configuration fields that may be written, enabling a queue sets its two pointers to 0, and disabling a CQ cancels
  the reservations that it holds; CQ_HEAD_WRITE moves HEAD; TAKE_ENTRY takes the 64 bytes at HEAD, from pool memory
  or from the host, and a host read that fails stops the queue. (R148, R149, R151, R152, R516, chapter 07) -/
def Obligations.QueueCommandsAct : Prop :=
  -- sqDoorbell
  (∀ (s : State) (id : Nat) (q : Nat) (v : W32),
    q < 256 →
    exec (.sqDoorbell id q v) s = .next (doorbell s id q (v.toNat % 65536))) ∧
  -- doorbellPacket
  (∀ (s : State) (p : State) (port : Nat) (pkt : Packet),
    arrivedKind s port pkt 3 p →
    pkt.queue < 256 →
    exec (.doorbellPacket port pkt) s = .next (doorbell p (0x100 + pkt.src) pkt.queue (pkt.tail % 65536))) ∧
  -- takeEntry
  (∀ (s : State) (q : Nat) (e : Bytes),
    q < 256 →
    serving s = true →
    s.pair.pause = false →
    s.pwr.warm ≠ 2 →
    sqEn s q = true →
    sqHead s q ≠ sqTail s q →
    (cpsInService s).isEmpty = false →
    turnOf s q = true →
    sqHost s q = true →
    e.length = 64 →
    takeable s q e = true →
    exec (.takeEntry q (.host e)) s = .next (takeEntry (put s (.hostRead (sqBase s q + 64 * sqHead s q) 64)) q e)) ∧
  -- takeEntry
  (∀ (s : State) (q : Nat),
    q < 256 →
    serving s = true →
    s.pair.pause = false →
    s.pwr.warm ≠ 2 →
    sqEn s q = true →
    sqHead s q ≠ sqTail s q →
    (cpsInService s).isEmpty = false →
    turnOf s q = true →
    sqHost s q = true →
    cqFree s (cqNum s q) = true →
    exec (.takeEntry q .error) s = .next (ringFail s q)) ∧
  -- takeEntry
  (∀ (s : State) (u : State) (q : Nat) (e : Bytes) (ps : List Nat),
    q < 256 →
    serving s = true →
    s.pair.pause = false →
    s.pwr.warm ≠ 2 →
    sqEn s q = true →
    sqHead s q ≠ sqTail s q →
    (cpsInService s).isEmpty = false →
    turnOf s q = true →
    sqHost s q = false →
    cqFree s (cqNum s q) = true →
    userRead s { who := .fetch (2 ^ 41 + q), req := some (qReq q), dom := qDomain s q, ident := qOwner s q } (sqBase
      s q + 64 * sqHead s q) 64 = .done (e, ps) u →
    ps.any (· ≠ 0) = false →
    takeable (forgetSnoops u (.fetch (2 ^ 41 + q))) q e = true →
    exec (.takeEntry q .pool) s = .next (takeEntry (forgetSnoops u (.fetch (2 ^ 41 + q))) q e)) ∧
  -- sqCfgWrite
  (∀ (s : State) (u : State) (id : Nat) (q : Nat) (v : W32),
    q < 256 →
    sqEn s q = false →
    u = wr s (ra (qPage q) 0x108) (writeFields false (rd s (ra (qPage q) 0x108)) v.toNat [fRW 0 5 4 4 16, fRW 5 1,
      fRW 6 1, fRW 8 8]) →
    sqEn u q = true →
    exec (.sqCfgWrite id q v) s = .next ((wr (wr u (ra (qPage q) 0x110) 0) (ra (qPage q) 0x10C) 0))) ∧
  -- sqCfgWrite
  (∀ (s : State) (u : State) (id : Nat) (q : Nat) (v : W32),
    q < 256 →
    sqEn s q = false →
    u = wr s (ra (qPage q) 0x108) (writeFields false (rd s (ra (qPage q) 0x108)) v.toNat [fRW 0 5 4 4 16, fRW 5 1,
      fRW 6 1, fRW 8 8]) →
    sqEn u q = false →
    exec (.sqCfgWrite id q v) s = .next u) ∧
  -- sqCfgWrite
  (∀ (s : State) (u : State) (id : Nat) (q : Nat) (v : W32),
    q < 256 →
    sqEn s q = true →
    u = wr s (ra (qPage q) 0x108) (writeFields false (rd s (ra (qPage q) 0x108)) v.toNat [fRW 5 1, fRW 6 1, fRW 8
      8]) →
    exec (.sqCfgWrite id q v) s = .next u) ∧
  -- cqCfgWrite
  (∀ (s : State) (u : State) (id : Nat) (q : Nat) (v : W32),
    q < 256 →
    cqEn s q = false →
    u = wr s (ra (qPage q) 0x11C) (writeFields false (rd s (ra (qPage q) 0x11C)) v.toNat [fRW 0 5 4 4 16, fRW 5 1,
      fRW 6 1, fW1C 7 1]) →
    cqEn u q = true →
    exec (.cqCfgWrite id q v) s = .next ((fun t : State => { t with cmd := { t.cmd with cqs := tset {} t.cmd.cqs q {} } })
      (wr (wr u (ra (qPage q) 0x124) 0) (ra (qPage q) 0x128) 0))) ∧
  -- cqCfgWrite
  (∀ (s : State) (u : State) (id : Nat) (q : Nat) (v : W32),
    q < 256 →
    cqEn s q = false →
    u = wr s (ra (qPage q) 0x11C) (writeFields false (rd s (ra (qPage q) 0x11C)) v.toNat [fRW 0 5 4 4 16, fRW 5 1,
      fRW 6 1, fW1C 7 1]) →
    cqEn u q = false →
    exec (.cqCfgWrite id q v) s = .next u) ∧
  -- cqCfgWrite
  (∀ (s : State) (u : State) (id : Nat) (q : Nat) (v : W32),
    q < 256 →
    cqEn s q = true →
    u = wr s (ra (qPage q) 0x11C) (writeFields false (rd s (ra (qPage q) 0x11C)) v.toNat [fRW 5 1, fRW 6 1, fW1C 7
      1]) →
    cqEn u q = true →
    exec (.cqCfgWrite id q v) s = .next (u)) ∧
  -- cqCfgWrite
  (∀ (s : State) (u : State) (id : Nat) (q : Nat) (v : W32),
    q < 256 →
    cqEn s q = true →
    u = wr s (ra (qPage q) 0x11C) (writeFields false (rd s (ra (qPage q) 0x11C)) v.toNat [fRW 5 1, fRW 6 1, fW1C 7
      1]) →
    cqEn u q = false →
    exec (.cqCfgWrite id q v) s = .next (cancelReservations u q)) ∧
  -- cqHeadWrite
  (∀ (s : State) (id : Nat) (q : Nat) (v : W32),
    q < 256 →
    exec (.cqHeadWrite id q v) s = .next (wr s (ra (qPage q) 0x124) (v.toNat % 65536)))

/-- A STREAM that is ready, with an aligned descriptor address, begins to fetch its descriptor. The descriptor that
  has been read is checked: one that chapter 07 accepts, in a usable context, of at least one tile, with a class
  that has a rate, begins to run, or begins to read its update blocks where it names any. The update blocks that
  have been read and are legal begin the run. (R155, R157, R205, R237, chapter 07) -/
def Obligations.OperationSetUpActs : Prop :=
  -- stream
  (∀ (s : State) (h : Nat) (o : Op),
    ready s h 0x01 = some o →
    leAt o.entry 8 8 % 256 = 0 →
    exec (.stream h) s = .next (modOp s h fun o => { o with phase := .fetching })) ∧
  -- descriptorFetchDone
  (∀ (s : State) (u : State) (w : State) (v : State) (h : Nat) (o : Op) (x : Op) (d : Bytes),
    opOf s h = some o →
    o.phase = .fetching →
    ctxUsable s o (qDescCtx s o.queue) = true →
    opRead h o (qDescCtx s o.queue) (leAt o.entry 8 8) 256 s = .done d u →
    x = { o with desc := d } →
    w = modOp u h (fun y => { y with desc := d }) →
    chainOk w x = true →
    ctxUsable w x (opCtx x) = true →
    opN x ≠ 0 →
    admitEn w = true →
    scRate w (opClass x) ≠ 0 →
    (updates x).isEmpty = true →
    beginRun h x w = .done () v →
    exec (.descriptorFetchDone h) s = .next v) ∧
  -- descriptorFetchDone
  (∀ (s : State) (u : State) (w : State) (h : Nat) (o : Op) (x : Op) (d : Bytes),
    opOf s h = some o →
    o.phase = .fetching →
    ctxUsable s o (qDescCtx s o.queue) = true →
    opRead h o (qDescCtx s o.queue) (leAt o.entry 8 8) 256 s = .done d u →
    x = { o with desc := d } →
    w = modOp u h (fun y => { y with desc := d }) →
    chainOk w x = true →
    ctxUsable w x (opCtx x) = true →
    opN x ≠ 0 →
    admitEn w = true →
    scRate w (opClass x) ≠ 0 →
    (updates x).isEmpty = false →
    exec (.descriptorFetchDone h) s = .next (modOp (forgetSnoops w (.fetch h)) h fun o => { o with phase := .block })) ∧
  -- updateBlockFetchDone
  (∀ (s : State) (u : State) (v : State) (h : Nat) (o : Op) (bs : List (Nat × Bytes)),
    opOf s h = some o →
    o.phase = .block →
    readBlocks h o s = .done bs u →
    bs.all (fun b => blockOkFor b.1 b.2) = true →
    auxTotal o (middles o) (bs.map fun b => updateBytes b.2) ≤ 65536 →
    beginRun h { o with block := bs.flatMap Prod.snd, coef := bs.flatMap fun b => coefficients b.1 b.2 } (modOp u h
      fun x => { x with block := bs.flatMap Prod.snd, coef := bs.flatMap fun b => coefficients b.1 b.2 }) = .done ()
      v →
    exec (.updateBlockFetchDone h) s = .next v)

/-- SUSPEND drains a running operation, completes at once on one already suspended, and is held for one that has yet
  to begin; OPERATION_SUSPENDED records the frontier; RESUME runs a suspended operation again where a completion
  slot is free; CANCEL cancels its target; FENCE is open until every earlier operation of its scope has completed,
  and FENCE_COMPLETE then ends it; OPERATION_COMPLETE writes the final completion and NOTIFY_COAL_TIMEOUT sends the
  notification that was held. (R161, R164, R166, R167, R168, R172, chapter 07) -/
def Obligations.ControlCommandsAct : Prop :=
  -- suspend
  (∀ (s : State) (h : Nat) (k : Nat) (o : Op) (x : Op),
    ready s h 0x02 = some o →
    target s o = some (k, x) →
    targetable x.opcode = true →
    x.phase = .running →
    x.cancelled = false →
    exec (.suspend h) s = .next (awaitTarget (beginSuspend s k) h k)) ∧
  -- suspend
  (∀ (s : State) (h : Nat) (k : Nat) (o : Op) (x : Op),
    ready s h 0x02 = some o →
    target s o = some (k, x) →
    targetable x.opcode = true →
    x.phase = .suspended →
    exec (.suspend h) s = .next (endWith s h stOk [2, 0, 0, 0])) ∧
  -- suspend
  (∀ (s : State) (h : Nat) (k : Nat) (o : Op) (x : Op),
    ready s h 0x02 = some o →
    target s o = some (k, x) →
    targetable x.opcode = true →
    (x.phase = .suspending ∨ (x.phase = .running ∧ x.cancelled = true)) →
    exec (.suspend h) s = .next (awaitTarget s h k)) ∧
  -- suspend
  (∀ (s : State) (h : Nat) (k : Nat) (o : Op) (x : Op),
    ready s h 0x02 = some o →
    target s o = some (k, x) →
    targetable x.opcode = true →
    x.phase ≠ .suspending →
    x.phase ≠ .running →
    x.phase ≠ .suspended →
    exec (.suspend h) s = .next (awaitTarget (modOp s k fun x => { x with askSusp := true }) h k)) ∧
  -- operationSuspended
  (∀ (s : State) (v : State) (h : Nat) (o : Op),
    opOf s h = some o →
    o.phase = .suspending →
    (opTiles s h).isEmpty = true →
    s.tier.moves.any (fun m => m.op = h) = false →
    (o.opcode ≠ 0x01 ∨ o.arrival.isSome = true ∨ o.committed < opN o) →
    (o.arrival.map reductionClosed).getD false = false →
    recordSettled s h = true →
    completeRun s h { o with cond := addCond o.cond stSuspended } false = .written v →
    exec (.operationSuspended h) s = .next (wakeWaiters (modOp v h fun x => afterSuspend { x with suspendedAt := v.now })
      h 2)) ∧
  -- resume
  (∀ (s : State) (h : Nat) (k : Nat) (o : Op) (x : Op),
    ready s h 0x03 = some o →
    target s o = some (k, x) →
    targetable x.opcode = true →
    x.phase = .suspended →
    cqFree s x.cq = true →
    exec (.resume h) s = .next (endWith (settleOp (modOp s k fun x => { x with phase := .running, reserved := true,
                                                                               slotLost := false, arrival :=
                                                                                 x.arrival.map fun a => { a with foldSince := if a.queue.isEmpty then none else some s.now } })
      k) h stOk [1, 0, 0, 0])) ∧
  -- resume
  (∀ (s : State) (h : Nat) (k : Nat) (o : Op) (x : Op),
    ready s h 0x03 = some o →
    target s o = some (k, x) →
    targetable x.opcode = true →
    x.phase ≠ .suspended →
    x.phase ≠ .suspending →
    exec (.resume h) s = .next (endWith s h stOk [1, 0, 0, 0])) ∧
  -- cancel
  (∀ (s : State) (h : Nat) (k : Nat) (o : Op) (x : Op),
    ready s h 0x04 = some o →
    target s o = some (k, x) →
    targetable x.opcode = true →
    x.askSusp = false →
    x.phase = .running →
    x.opcode = 0x01 →
    exec (.cancel h) s = .next (beginCancel (awaitTarget s h k) k)) ∧
  -- cancel
  (∀ (s : State) (h : Nat) (k : Nat) (o : Op) (x : Op),
    ready s h 0x04 = some o →
    target s o = some (k, x) →
    targetable x.opcode = true →
    x.askSusp = false →
    x.phase = .suspended →
    x.opcode ≠ 0x20 →
    exec (.cancel h) s = .next (endOp (modOp (awaitTarget s h k) k fun x => { x with cancelled := true }) k
      (cancelConds x))) ∧
  -- cancel
  (∀ (s : State) (h : Nat) (k : Nat) (o : Op) (x : Op),
    ready s h 0x04 = some o →
    target s o = some (k, x) →
    targetable x.opcode = true →
    x.askSusp = false →
    (x.phase = .running ∨ x.phase = .suspended) →
    x.opcode = 0x20 →
    exec (.cancel h) s = .next (cancelScrub (awaitTarget s h k) k)) ∧
  -- cancel
  (∀ (s : State) (h : Nat) (k : Nat) (o : Op) (x : Op),
    ready s h 0x04 = some o →
    target s o = some (k, x) →
    targetable x.opcode = true →
    x.askSusp = false →
    x.phase ≠ .running →
    x.phase ≠ .suspended →
    x.phase ≠ .suspending →
    exec (.cancel h) s = .next (endOp (modOp (awaitTarget s h k) k fun x => { x with cancelled := true }) k (condOf
      stPartial))) ∧
  (∀ (s : State) (h : Nat) (o : Op),
    ready s h 0x02 = some o →
    target s o = none →
    exec (.suspend h) s = .next (endWith s h stOk [0, 0, 0, 0])) ∧
  (∀ (s : State) (h : Nat) (o : Op),
    ready s h 0x03 = some o →
    target s o = none →
    exec (.resume h) s = .next (endWith s h stOk [0, 0, 0, 0])) ∧
  (∀ (s : State) (h : Nat) (o : Op),
    ready s h 0x04 = some o →
    target s o = none →
    exec (.cancel h) s = .next (endWith s h stOk [0, 0, 0, 0])) ∧
  -- fence
  (∀ (s : State) (h : Nat) (o : Op),
    ready s h 0x05 = some o →
    exec (.fence h) s = .next (modOp s h fun o => { o with phase := .running })) ∧
  -- fenceComplete
  (∀ (s : State) (h : Nat) (o : Op),
    opOf s h = some o →
    o.opcode = 0x05 →
    o.phase = .running →
    (s.cmd.ops.any fun e => earlier e.1 h && !e.2.wrote && (if (opnd o 0x10 1).testBit 0 then decide (e.2.dom =
      o.dom) else decide (e.2.queue = o.queue))) = false →
    exec (.fenceComplete h) s = .next (endOp s h 0)) ∧
  -- operationComplete
  (∀ (s : State) (v : State) (w : State) (h : Nat) (o : Op),
    opOf s h = some o →
    o.phase = .ending →
    (opTiles s h).isEmpty = true →
    tickAcked s o = true →
    recordSettled s h = true →
    completeRun s h o true = .written v →
    w = (if (runBound v h o).1.cond.testBit 10 then count v (qPage o.queue) 9 1 else v) →
    exec (.operationComplete h) s = .next (releaseOp (wakeWaiters (keepHistory w h o) h 3) h)) ∧
  -- notifyCoalTimeout
  (∀ (s : State) (q : Nat),
    q < 256 →
    0 < (tgetD s.cmd.cqs q {}).accum →
    rf s (ra (qPage q) 0x120) 12 2 ≠ 0 →
    rf s (ra (qPage q) 0x120) 22 10 ≠ 0 →
    exec (.notifyCoalTimeout q) s = .next (notify s q))

/-- BATCH_DEAL deals the next batch of the operation that is picked to a core that asks, and each tile asks for
  admission; tiles that a retired core has left are dealt before anything new, which is the model's choice (log
  entry 84). TILE_ASSIGN gives a free engine the first started tile of its core that can be assigned; TILE_COMMIT
  ends a tile whose writes have taken effect, or issues them; REDUCTION_COMPLETE ends a closed reduction with STATE
  2; RESERVE_POWER_UP and RESERVE_GOLDEN_TILE_DONE bring the reserve core in where its golden tile passes, and
  retire it with the core where it fails. (R23, R224, R230, R232, R239, R240, chapter 10) -/
def Obligations.TilesAreDealtAssignedAndCommitted : Prop :=
  -- batchDeal
  (∀ (s : State) (cl : Nat) (h : Nat) (c : Nat) (o : Op),
    cl < 4 →
    s.pair.pause = false →
    serving s = true →
    askingCore s cl = some c →
    strandedBatch s cl = [] →
    dealPick s cl = some (h, o) →
    exec (.batchDeal cl) s = .next (dealBatch (count s (pgCLU + cl) 11 1) cl c h o)) ∧
  -- batchDeal
  (∀ (s : State) (cl : Nat) (c : Nat),
    cl < 4 →
    s.pair.pause = false →
    serving s = true →
    askingCore s cl = some c →
    strandedBatch s cl ≠ [] →
    exec (.batchDeal cl) s = .next (dealStranded (count s (pgCLU + cl) 11 1) cl c (strandedBatch s cl))) ∧
  -- tileAssign
  (∀ (s : State) (core : Nat) (e : Nat),
    core < 20 →
    coreInService s core = true →
    coreGated s core = false →
    s.pair.pause = false →
    serving s = true →
    freeEngine s core = some e →
    exec (.tileAssign core) s = .next (assignFirst e ((coreDealt s core).filter fun t => t.started) s)) ∧
  -- tileAssign
  (∀ (s : State) (u : State) (core : Nat) (e : Nat) (o : Op) (t : Tile) (w : Tile) (ts : List Tile),
    core < 20 →
    coreInService s core = true →
    coreGated s core = false →
    s.pair.pause = false →
    serving s = true →
    freeEngine s core = some e →
    (coreDealt s core).filter (fun t => t.started) = t :: ts →
    opOf s t.op = some o →
    tileOf s t.op t.num = some w →
    inEngines s t.op < opCap o →
    translateTile t.op t.num o s = .done () u →
    exec (.tileAssign core) s = .next (modTile u t.op t.num fun t => { t with eng := some e, serial := u.cmd.serial,
                                                                              stage := 0 })) ∧
  -- tileCommit
  (∀ (s : State) (h : Nat) (num : Nat) (o : Op) (t : Tile),
    opOf s h = some o →
    tileOf s h num = some t →
    t.eng.isNone = false →
    t.stage = nstat o + 2 →
    (tileMsgs s h num).isEmpty = true →
    t.issued = true →
    tileWriting s h num = false →
    exec (.tileCommit h num) s = .next (tileDone s h o t)) ∧
  -- tileCommit
  (∀ (s : State) (u : State) (v : State) (h : Nat) (num : Nat) (o : Op) (t : Tile),
    opOf s h = some o →
    tileOf s h num = some t →
    t.eng.isNone = false →
    t.stage = nstat o + 2 →
    (tileMsgs s h num).isEmpty = true →
    t.issued = false →
    commitExtra ⟨o, t, recOf o (nstat o + 1)⟩ h num s = .done () u →
    issueWrites o ((tileOf (forgetSnoops u (.tile h num)) h num).getD t) h (forgetSnoops u (.tile h num)) = .done ()
      v →
    tileWriting v h num = false →
    exec (.tileCommit h num) s = .next (tileDone v h o ((tileOf v h num).getD t))) ∧
  (∀ (s : State) (u : State) (v : State) (h : Nat) (num : Nat) (o : Op) (t : Tile),
    opOf s h = some o →
    tileOf s h num = some t →
    t.eng.isNone = false →
    t.stage = nstat o + 2 →
    (tileMsgs s h num).isEmpty = true →
    t.issued = false →
    commitExtra ⟨o, t, recOf o (nstat o + 1)⟩ h num s = .done () u →
    issueWrites o ((tileOf (forgetSnoops u (.tile h num)) h num).getD t) h (forgetSnoops u (.tile h num)) = .done ()
      v →
    tileWriting v h num = true →
    exec (.tileCommit h num) s = .next (v)) ∧
  -- reductionComplete
  (∀ (s : State) (h : Nat) (o : Op) (a : Arrival),
    opOf s h = some o →
    o.arrival = some a →
    (o.phase = .running ∨ o.phase = .suspending) →
    o.cancelled = false →
    a.armed = true →
    (opTiles s h).isEmpty = true →
    reductionClosed a = true →
    exec (.reductionComplete h) s = .next (endOp (modArrival (wakeWaiters (markLost s h) h 0) h fun a => { a with state := 2 })
      h 0)) ∧
  -- reservePowerUp
  (∀ (s : State) (cl : Nat) (c : Nat) (r : Nat),
    cl < 4 →
    substituting s cl = some c →
    reserveCore s cl = some r →
    exec (.reservePowerUp cl) s = .next (setGated s r false)) ∧
  -- reserveGoldenTileDone
  (∀ (s : State) (cl : Nat) (c : Nat) (r : Nat),
    cl < 4 →
    substituting s cl = some c →
    reserveCore s cl = some r →
    coreGated s r = false →
    ∃ u v, u = engineLedger (wf (setRole (setRole s c 2) r 0) (coreReg r) 2 3 (c % 5)) ∧ v = { u with cmd := { u.cmd with tiles := u.cmd.tiles.map fun t => if t.core = c ∧ t.eng.isNone then { t with core := r } else t } }
      ∧ exec (.reserveGoldenTileDone cl true) s = .next (reserveEvent v (pgCORE + r) c (enginesLeft v))) ∧
  -- reserveGoldenTileDone
  (∀ (s : State) (cl : Nat) (c : Nat) (r : Nat),
    cl < 4 →
    substituting s cl = some c →
    reserveCore s cl = some r →
    coreGated s r = false →
    exec (.reserveGoldenTileDone cl false) s = .next (retireCore (event (engineLedger (setRole (setRole s c 2) r 2))
      { source := pgCORE + r, sev := sevError, cls := clEngine, loc := 4 * r }) c))

/-- A tile that a station has passed stands one record further with the change of the station and its cycles added;
  no other tile, no operation, no register and no byte of memory changes. (R175, R176, chapter 08) -/
def Obligations.StationsAdvanceTheTile : Prop :=
  (∀ (s : State) (h : Nat) (num : Nat) (a : At) (p : Op → Tile → Bytes → Bool) (g : Tile → Tile) (n : Nat),
    stationAt s h num p = some a →
    (g a.t).op = a.t.op →
    (g a.t).num = a.t.num →
    (tileOf (stationDone s h num a g n) h num = some { g a.t with stage := a.t.stage + 1, work := a.t.work + n,
                                                                  spans := spansAfter a n (g a.t) } ∧ (stationDone s
      h num a g n).cmd.ops = s.cmd.ops ∧ (stationDone s h num a g n).regs = s.regs ∧ (stationDone s h num a g n).mem
      = s.mem)) ∧
  (∀ (s : State) (h : Nat) (num : Nat) (a : At) (h' : Nat) (num' : Nat) (p : Op → Tile → Bytes → Bool) (g : Tile →
    Tile) (n : Nat),
    stationAt s h num p = some a →
    (∀ t, (g t).op = t.op ∧ (g t).num = t.num) →
    (h' ≠ h ∨ num' ≠ num) →
    tileOf (stationDone s h num a g n) h' num' = tileOf s h' num')

/-- A FETCH of a range, of gathered rows or of sparse blocks, whose bytes have been read, and a FILL with a
  constant, a pattern or a ramp give the tile its elements, its occupancy and the cycles that chapter 10 counts,
  with every NaN canonical. (R182, R184, R191, R192, R193, chapter 08) -/
def Obligations.SourceStationsAct : Prop :=
  -- fetchRange
  (∀ (s : State) (h : Nat) (num : Nat) (a : At) (u : State) (d : Bytes × List (Nat × Nat × Nat)),
    stationAt s h num (fun o t r => isMode 0x01 0 o t r && decide (t.stage = 0)) = some a →
    isMx (srcShape a.o).fmt = false →
    sourceRead a h num (rangeVa a.r 3 (srcShape a.o).bytes num) (srcShape a.o).bytes s = .done d u →
    ∃ xs, xs = unpackElems (srcShape a.o).fmt d.1 ∧ exec (.fetchRange h num) s = .next (stationDone u h num a (fun t
      => { withElems (srcShape a.o).fmt xs (occOf xs) t with scales := [], carried := carryBlocks 0 d.2 ++
                                                               carryBlocks 0x100000 [] }) (0))) ∧
  -- fetchRange
  (∀ (s : State) (h : Nat) (num : Nat) (a : At) (u : State) (v : State) (d : Bytes × List (Nat × Nat × Nat)) (e :
    Bytes × List (Nat × Nat × Nat)),
    stationAt s h num (fun o t r => isMode 0x01 0 o t r && decide (t.stage = 0)) = some a →
    isMx (srcShape a.o).fmt = true →
    sourceRead a h num (rangeVa a.r 3 (srcShape a.o).bytes num) (srcShape a.o).bytes s = .done d u →
    sourceRead a h num (scaleVa a.r (srcShape a.o).e num) ((srcShape a.o).e / 32) u = .done e v →
    ∃ xs, xs = unpackElems (srcShape a.o).fmt d.1 ∧ exec (.fetchRange h num) s = .next (stationDone v h num a (fun t
      => { withElems (srcShape a.o).fmt xs (occOf xs) t with scales := e.1, carried := carryBlocks 0 d.2 ++
                                                               carryBlocks 0x100000 e.2 }) (0))) ∧
  -- fetchGather
  (∀ (s : State) (h : Nat) (num : Nat) (a : At) (u : State) (v : State) (ix : Bytes) (ps : List (Bytes × List (Nat ×
    Nat × Nat))),
    stationAt s h num (fun o t r => isMode 0x01 1 o t r && decide (t.stage = 0)) = some a →
    tileEat h num (par a.r 16 8 + 4 * (num * (4096 / gatherRow a.r))) (4 * (4096 / gatherRow a.r)) s = .done ix u →
    gatherRows a h num (indexList ix) u = .done ps v →
    ∃ xs, xs = unpackElems (srcShape a.o).fmt (joinParts 0 ps).1 ∧ exec (.fetchGather h num) s = .next (stationDone
      v h num a (fun t => { withElems (srcShape a.o).fmt xs (occOf xs) t with carried := carryBlocks 0 (joinParts 0
                                                                                ps).2 }) (0))) ∧
  -- fetchSparse
  (∀ (s : State) (h : Nat) (num : Nat) (a : At) (u : State) (v : State) (hb : Bytes) (body : Bytes),
    stationAt s h num (fun o t r => isMode 0x01 2 o t r && decide (t.stage = 0)) = some a →
    tileEat h num (headerVa a.r (parBits a.r 3 4 1 = 1) num) 16 s = .done hb u →
    headerOk (leNat hb) (par a.r 2 1) = true →
    tileEat h num (par a.r 16 8 + if parBits a.r 3 4 1 = 1 then 64 * fld (leNat hb) 64 32 else 4096 * num) (64 * fld
      (leNat hb) 106 7) u = .done body v →
    (chunks 64 65 body).all (blockOk (par a.r 2 1) (fld (leNat hb) 104 2)) = true →
    exec (.fetchSparse h num) s = .next (stationDone v h num a (fun t => { t with fmt := par a.r 2 1, sparse :=
                                                                                    true, nm := fld (leNat hb) 104
                                                                                    2, blocks := (chunks 64 65
                                                                                    body).map (canonBlock (par a.r 2
                                                                                    1) (fld (leNat hb) 104 2)), occ
                                                                                    := BitVec.ofNat 64 (fld (leNat
                                                                                    hb) 0 64), elems := [], scales
                                                                                    := [] }) (0))) ∧
  -- fillConst
  (∀ (s : State) (h : Nat) (num : Nat) (a : At),
    stationAt s h num (fun o t r => isMode 0x02 0 o t r && decide (t.stage = 0)) = some a →
    ∃ xs, xs = List.replicate (srcShape a.o).e (BitVec.ofNat 64 (par a.r 8 8 % 2 ^ elemBits (srcShape a.o).fmt)) ∧
      exec (.fillConst h num) s = .next (stationDone s h num a (withElems (srcShape a.o).fmt xs (occOf xs)) (max 1
      ((srcShape a.o).bytes / 128)))) ∧
  -- fillPattern
  (∀ (s : State) (h : Nat) (num : Nat) (a : At),
    stationAt s h num (fun o t r => isMode 0x02 1 o t r && decide (t.stage = 0)) = some a →
    ∃ xs, xs = unpackElems (srcShape a.o).fmt ((List.replicate ((srcShape a.o).bytes / 8) ((a.r.drop 8).take
      8)).flatten) ∧ exec (.fillPattern h num) s = .next (stationDone s h num a (withElems (srcShape a.o).fmt xs
      (occOf xs)) (max 1 ((srcShape a.o).bytes / 128)))) ∧
  -- fillRamp
  (∀ (s : State) (h : Nat) (num : Nat) (a : At),
    stationAt s h num (fun o t r => isMode 0x02 2 o t r && decide (t.stage = 0)) = some a →
    ∃ xs, xs = (rangeFrom 0 (srcShape a.o).e).map (fun j => BitVec.ofNat 64 (rampCode a (srcShape a.o).fmt num
      (srcShape a.o).e j)) ∧ exec (.fillRamp h num) s = .next (stationDone s h num a (withElems (srcShape a.o).fmt
      xs (occOf xs)) (max 1 ((srcShape a.o).bytes / 128))))

/-- Each station changes the elements, the occupancy, the routes or the suspect mark of the tile as its section of
  chapter 08 gives and passes it on. (R194, R195, R196, R198, R199, R200, R208, R209, R213, chapter 08) -/
def Obligations.ElementStationsAct : Prop :=
  -- expand
  (∀ (s : State) (h : Nat) (num : Nat) (a : At),
    stationAt s h num (isStation 0x10) = some a →
    exec (.expand h num) s = .next (stationDone s h num a (withElems a.t.fmt (tileElems a.t) a.t.occ) (groupCycles a
      (laneRate a.t.fmt)))) ∧
  -- convert
  (∀ (s : State) (h : Nat) (num : Nat) (a : At) (cs : List Nat) (sc : Bytes),
    stationAt s h num (isStation 0x11) = some a →
    isMx (par a.r 1 1) = true →
    convertMx (par a.r 1 1) (parBits a.r 2 1 1 = 1) ((indexed 0 (tileNums a.t)).map fun v => ((if (par a.r 4
      4).testBit 31 && fpFinite (preScale a.r) && !a.t.occ.getLsbD (groupOf a.t.elems.length v.1) then .fin false 0
      0 else scaled a.r false v.2), tileRnd a.o num v.1)) = (cs, sc) →
    ∃ xs, xs = cs.map (BitVec.ofNat 64) ∧ exec (.convert h num) s = .next (stationDone s h num a (fun t => { withElems (par a.r 1 1) xs (keepOcc t xs) t with scales := sc })
      (groupCycles a (laneRate a.t.fmt)))) ∧
  -- convert
  (∀ (s : State) (h : Nat) (num : Nat) (a : At),
    stationAt s h num (isStation 0x11) = some a →
    isMx (par a.r 1 1) = false →
    ∃ exact xs, exact = (isIntFmt a.t.fmt && isIntFmt (par a.r 1 1) && (decide (par a.r 4 4 = 0) || decide (par a.r
      4 4 = 0x3F800000))) ∧ xs = ((indexed 0 (tileNums a.t)).map fun v => numCode (par a.r 1 1) (parBits a.r 2 0 1 =
      1) (tileRnd a.o num v.1) (if exact then v.2 else .fp (if (par a.r 4 4).testBit 31 && fpFinite (preScale a.r)
      && !a.t.occ.getLsbD (groupOf a.t.elems.length v.1) then .fin false 0 0 else scaled a.r (parBits a.r 2 0 1 = 1)
      v.2))).map (BitVec.ofNat 64) ∧ exec (.convert h num) s = .next (stationDone s h num a (withElems (par a.r 1 1)
      xs (keepOcc a.t xs)) (groupCycles a (laneRate a.t.fmt)))) ∧
  -- selectMask
  (∀ (s : State) (h : Nat) (num : Nat) (a : At),
    stationAt s h num (isMode 0x12 0) = some a →
    ∃ xs, xs = a.t.elems.map (fun c => if maskHolds (par a.r 2 1) (numOf a.t.fmt c.toNat) (threshold a.t.fmt (par
      a.r 8 4)) then c else 0) ∧ exec (.selectMask h num) s = .next (stationDone s h num a (withElems a.t.fmt xs
      (a.t.occ &&& occOf xs)) (groupCycles a (laneRate a.t.fmt)))) ∧
  -- selectTopk
  (∀ (s : State) (h : Nat) (num : Nat) (a : At),
    stationAt s h num (isMode 0x12 1) = some a →
    ∃ ns rows xs, ns = tileNums a.t ∧ rows = ns.length / par a.r 4 2 ∧ xs = (((chunks (par a.r 4 2) (ns.length + 1)
      ns).take rows).flatMap fun row => (topk (parBits a.r 2 0 1 = 1) (parBits a.r 2 1 1 = 1) (par a.r 3 1) row).map
      fun x => BitVec.ofNat 64 (code32 (numFp x.1) + x.2 * 2 ^ 32)) ∧ exec (.selectTopk h num) s = .next
      (stationDone s h num a (withElems fmtPair xs (occOf xs)) (max 1 (ns.length / 16 + 2 * par a.r 3 1 * rows)))) ∧
  -- selectRoute
  (∀ (s : State) (h : Nat) (num : Nat) (a : At) (u : State) (bs : Bytes) (rs : List (Nat × Nat × Nat)),
    stationAt s h num (isMode 0x12 2) = some a →
    tileEat h num (par a.r 16 8 + 8 * (par a.r 3 1 * (num * (a.t.elems.length / par a.r 4 2)))) (8 * par a.r 3 1 *
      (a.t.elems.length / par a.r 4 2)) s = .done bs u →
    rs = (indexed 0 (unpackElems fmtPair bs)).map (fun x => (x.1 / par a.r 3 1, fld x.2.toNat 32 32, fld x.2.toNat 0
      32)) →
    rs.any (fun x => decide (x.2.1 ≠ 0xFFFFFFFF) && decide (par (recOf a.o (nstat a.o + 1)) 3 1 ≤ x.2.1)) = false →
    exec (.selectRoute h num) s = .next (stationDone u h num a (fun t => { t with routes := rs.filter fun x => x.2.1
                                                                                    ≠ 0xFFFFFFFF, rowLen := par a.r
                                                                                    4 2 }) (max 1 (a.t.elems.length
      / par a.r 4 2)))) ∧
  -- compact
  (∀ (s : State) (h : Nat) (num : Nat) (a : At),
    stationAt s h num (isStation 0x16) = some a →
    ∃ kept bs occ, kept = (indexed 0 (chunks (512 / elemBits a.t.fmt) (a.t.elems.length + 1) a.t.elems)).filter (fun
      g => !g.2.all fun c => belowThr (threshold a.t.fmt (par a.r 4 4)) (numOf a.t.fmt c.toNat)) ∧ bs = kept.map
      (fun g => if parBits a.r 1 0 2 = 0 then packElems a.t.fmt g.2 else pruneBlock a.t.fmt (parBits a.r 1 0 2) g.2)
      ∧ occ = kept.foldl (fun v g => setBit v g.1) (0 : BitVec 64) ∧ exec (.compact h num) s = .next (stationDone s
      h num a (fun t => { t with sparse := true, nm := parBits a.r 1 0 2, blocks := bs, occ := occ, elems := [] })
      (groupCycles a (laneRate a.t.fmt) * if parBits a.r 1 0 2 = 0 then 1 else 2))) ∧
  -- check
  (∀ (s : State) (h : Nat) (num : Nat) (a : At) (b : Bool),
    stationAt s h num (isStation 0x17) = some a →
    (par a.r 1 1).testBit 4 = false →
    (par a.r 1 1).testBit 3 = false →
    b = (((par a.r 1 1).testBit 0 && (tileNums a.t).any numNan) || ((par a.r 1 1).testBit 1 && (tileNums a.t).any
      fun v => match v with | .fp x => fpIsInf x | .int _ => false) || ((par a.r 1 1).testBit 2 && (tileNums
      a.t).any (rangeFails (toSigned 8 (par a.r 2 1)) (toSigned 8 (par a.r 3 1))))) →
    exec (.check h num) s = .next (stationDone s h num a (fun t => { t with suspect := t.suspect || (b && decide
                                                                              (a.t.occ ≠ 0)) }) (groupCycles a
      (laneRate a.t.fmt)))) ∧
  -- check
  (∀ (s : State) (h : Nat) (num : Nat) (a : At) (u : State) (b : Bool),
    stationAt s h num (isStation 0x17) = some a →
    (par a.r 1 1).testBit 4 = true →
    b = (((par a.r 1 1).testBit 0 && (tileNums a.t).any numNan) || ((par a.r 1 1).testBit 1 && (tileNums a.t).any
      fun v => match v with | .fp x => fpIsInf x | .int _ => false) || ((par a.r 1 1).testBit 2 && (tileNums
      a.t).any (rangeFails (toSigned 8 (par a.r 2 1)) (toSigned 8 (par a.r 3 1))))) →
    tilePut h num (par a.r 8 8 + 4 * num) (natLe 4 (code32 (residue (tileNums a.t) (isIntFmt a.t.fmt)).1)) s = .done
      () u →
    exec (.check h num) s = .next (stationDone u h num a (fun t => { t with suspect := t.suspect || (b && decide
                                                                              (a.t.occ ≠ 0)) }) (groupCycles a
      (laneRate a.t.fmt)))) ∧
  -- check
  (∀ (s : State) (h : Nat) (num : Nat) (a : At) (u : State) (b : Bool) (bs : Bytes) (sum : Fp) (mags : Fp),
    stationAt s h num (isStation 0x17) = some a →
    (par a.r 1 1).testBit 4 = false →
    (par a.r 1 1).testBit 3 = true →
    b = (((par a.r 1 1).testBit 0 && (tileNums a.t).any numNan) || ((par a.r 1 1).testBit 1 && (tileNums a.t).any
      fun v => match v with | .fp x => fpIsInf x | .int _ => false) || ((par a.r 1 1).testBit 2 && (tileNums
      a.t).any (rangeFails (toSigned 8 (par a.r 2 1)) (toSigned 8 (par a.r 3 1))))) →
    tileEat h num (par a.r 8 8 + 4 * num) 4 s = .done bs u →
    residue (tileNums a.t) (isIntFmt a.t.fmt) = (sum, mags) →
    exec (.check h num) s = .next (stationDone u h num a (fun t => { t with suspect := t.suspect || ((b || fpLt
                                                                              (fpMul fmt32 (fp32 (par a.r 4 4))
                                                                              mags) (fpAbs (fpSub fmt32 sum (fp32
                                                                              (leNat bs))))) && decide (a.t.occ ≠
                                                                              0)) }) (groupCycles a (laneRate
      a.t.fmt))))

/-- Each arithmetic station whose operands have been read computes the tile's elements by the operation that its
  record names and passes the tile on. (R201, R202, R203, R204, R206, R210, chapter 08) -/
def Obligations.ArithmeticStationsAct : Prop :=
  -- combineAdd
  (∀ (s : State) (h : Nat) (num : Nat) (a : At) (u : State) (bs : Bytes),
    stationAt s h num (isMode 0x13 0) = some a →
    tileEat h num (par a.r 16 8 + (combineB a.r num a.t.elems.length).1 * elemBits (par a.r 2 1) / 8) (ceilDiv
      (((combineB a.r num a.t.elems.length).1 * elemBits (par a.r 2 1) % 8 / elemBits (par a.r 2 1) + (combineB a.r
      num a.t.elems.length).2) * elemBits (par a.r 2 1)) 8) s = .done bs u →
    ∃ ys xs, ys = ((unpackElems (par a.r 2 1) bs).drop ((combineB a.r num a.t.elems.length).1 * elemBits (par a.r 2
      1) % 8 / elemBits (par a.r 2 1))).map (fun c => numOf (par a.r 2 1) c.toNat) ∧ xs = ((indexed 0 (tileNums
      a.t)).map fun v => numCode (par a.r 3 1) false (tileRnd a.o num v.1) (combine 0 (par a.r 8 4) v.2 (nth ys
      ((num * a.t.elems.length + v.1) / 2 ^ parBits a.r 4 0 4 - (combineB a.r num a.t.elems.length).1) (.fp
      .nan)))).map (BitVec.ofNat 64) ∧ exec (.combineAdd h num) s = .next (stationDone u h num a (withElems (par a.r
      3 1) xs (keepOcc a.t xs)) (groupCycles a (min (laneRate a.t.fmt) (laneRate (par a.r 2 1)))))) ∧
  -- combineSub
  (∀ (s : State) (h : Nat) (num : Nat) (a : At) (u : State) (bs : Bytes),
    stationAt s h num (isMode 0x13 1) = some a →
    tileEat h num (par a.r 16 8 + (combineB a.r num a.t.elems.length).1 * elemBits (par a.r 2 1) / 8) (ceilDiv
      (((combineB a.r num a.t.elems.length).1 * elemBits (par a.r 2 1) % 8 / elemBits (par a.r 2 1) + (combineB a.r
      num a.t.elems.length).2) * elemBits (par a.r 2 1)) 8) s = .done bs u →
    ∃ ys xs, ys = ((unpackElems (par a.r 2 1) bs).drop ((combineB a.r num a.t.elems.length).1 * elemBits (par a.r 2
      1) % 8 / elemBits (par a.r 2 1))).map (fun c => numOf (par a.r 2 1) c.toNat) ∧ xs = ((indexed 0 (tileNums
      a.t)).map fun v => numCode (par a.r 3 1) false (tileRnd a.o num v.1) (combine 1 (par a.r 8 4) v.2 (nth ys
      ((num * a.t.elems.length + v.1) / 2 ^ parBits a.r 4 0 4 - (combineB a.r num a.t.elems.length).1) (.fp
      .nan)))).map (BitVec.ofNat 64) ∧ exec (.combineSub h num) s = .next (stationDone u h num a (withElems (par a.r
      3 1) xs (keepOcc a.t xs)) (groupCycles a (min (laneRate a.t.fmt) (laneRate (par a.r 2 1)))))) ∧
  -- combineMul
  (∀ (s : State) (h : Nat) (num : Nat) (a : At) (u : State) (bs : Bytes),
    stationAt s h num (isMode 0x13 2) = some a →
    tileEat h num (par a.r 16 8 + (combineB a.r num a.t.elems.length).1 * elemBits (par a.r 2 1) / 8) (ceilDiv
      (((combineB a.r num a.t.elems.length).1 * elemBits (par a.r 2 1) % 8 / elemBits (par a.r 2 1) + (combineB a.r
      num a.t.elems.length).2) * elemBits (par a.r 2 1)) 8) s = .done bs u →
    ∃ ys xs, ys = ((unpackElems (par a.r 2 1) bs).drop ((combineB a.r num a.t.elems.length).1 * elemBits (par a.r 2
      1) % 8 / elemBits (par a.r 2 1))).map (fun c => numOf (par a.r 2 1) c.toNat) ∧ xs = ((indexed 0 (tileNums
      a.t)).map fun v => numCode (par a.r 3 1) false (tileRnd a.o num v.1) (combine 2 (par a.r 8 4) v.2 (nth ys
      ((num * a.t.elems.length + v.1) / 2 ^ parBits a.r 4 0 4 - (combineB a.r num a.t.elems.length).1) (.fp
      .nan)))).map (BitVec.ofNat 64) ∧ exec (.combineMul h num) s = .next (stationDone u h num a (withElems (par a.r
      3 1) xs (keepOcc a.t xs)) (groupCycles a (min (laneRate a.t.fmt) (laneRate (par a.r 2 1)))))) ∧
  -- combineMax
  (∀ (s : State) (h : Nat) (num : Nat) (a : At) (u : State) (bs : Bytes),
    stationAt s h num (isMode 0x13 3) = some a →
    tileEat h num (par a.r 16 8 + (combineB a.r num a.t.elems.length).1 * elemBits (par a.r 2 1) / 8) (ceilDiv
      (((combineB a.r num a.t.elems.length).1 * elemBits (par a.r 2 1) % 8 / elemBits (par a.r 2 1) + (combineB a.r
      num a.t.elems.length).2) * elemBits (par a.r 2 1)) 8) s = .done bs u →
    ∃ ys xs, ys = ((unpackElems (par a.r 2 1) bs).drop ((combineB a.r num a.t.elems.length).1 * elemBits (par a.r 2
      1) % 8 / elemBits (par a.r 2 1))).map (fun c => numOf (par a.r 2 1) c.toNat) ∧ xs = ((indexed 0 (tileNums
      a.t)).map fun v => numCode (par a.r 3 1) false (tileRnd a.o num v.1) (combine 3 (par a.r 8 4) v.2 (nth ys
      ((num * a.t.elems.length + v.1) / 2 ^ parBits a.r 4 0 4 - (combineB a.r num a.t.elems.length).1) (.fp
      .nan)))).map (BitVec.ofNat 64) ∧ exec (.combineMax h num) s = .next (stationDone u h num a (withElems (par a.r
      3 1) xs (keepOcc a.t xs)) (groupCycles a (min (laneRate a.t.fmt) (laneRate (par a.r 2 1)))))) ∧
  -- combineMin
  (∀ (s : State) (h : Nat) (num : Nat) (a : At) (u : State) (bs : Bytes),
    stationAt s h num (isMode 0x13 4) = some a →
    tileEat h num (par a.r 16 8 + (combineB a.r num a.t.elems.length).1 * elemBits (par a.r 2 1) / 8) (ceilDiv
      (((combineB a.r num a.t.elems.length).1 * elemBits (par a.r 2 1) % 8 / elemBits (par a.r 2 1) + (combineB a.r
      num a.t.elems.length).2) * elemBits (par a.r 2 1)) 8) s = .done bs u →
    ∃ ys xs, ys = ((unpackElems (par a.r 2 1) bs).drop ((combineB a.r num a.t.elems.length).1 * elemBits (par a.r 2
      1) % 8 / elemBits (par a.r 2 1))).map (fun c => numOf (par a.r 2 1) c.toNat) ∧ xs = ((indexed 0 (tileNums
      a.t)).map fun v => numCode (par a.r 3 1) false (tileRnd a.o num v.1) (combine 4 (par a.r 8 4) v.2 (nth ys
      ((num * a.t.elems.length + v.1) / 2 ^ parBits a.r 4 0 4 - (combineB a.r num a.t.elems.length).1) (.fp
      .nan)))).map (BitVec.ofNat 64) ∧ exec (.combineMin h num) s = .next (stationDone u h num a (withElems (par a.r
      3 1) xs (keepOcc a.t xs)) (groupCycles a (min (laneRate a.t.fmt) (laneRate (par a.r 2 1)))))) ∧
  -- combineFma
  (∀ (s : State) (h : Nat) (num : Nat) (a : At) (u : State) (bs : Bytes),
    stationAt s h num (isMode 0x13 5) = some a →
    tileEat h num (par a.r 16 8 + (combineB a.r num a.t.elems.length).1 * elemBits (par a.r 2 1) / 8) (ceilDiv
      (((combineB a.r num a.t.elems.length).1 * elemBits (par a.r 2 1) % 8 / elemBits (par a.r 2 1) + (combineB a.r
      num a.t.elems.length).2) * elemBits (par a.r 2 1)) 8) s = .done bs u →
    ∃ ys xs, ys = ((unpackElems (par a.r 2 1) bs).drop ((combineB a.r num a.t.elems.length).1 * elemBits (par a.r 2
      1) % 8 / elemBits (par a.r 2 1))).map (fun c => numOf (par a.r 2 1) c.toNat) ∧ xs = ((indexed 0 (tileNums
      a.t)).map fun v => numCode (par a.r 3 1) false (tileRnd a.o num v.1) (combine 5 (par a.r 8 4) v.2 (nth ys
      ((num * a.t.elems.length + v.1) / 2 ^ parBits a.r 4 0 4 - (combineB a.r num a.t.elems.length).1) (.fp
      .nan)))).map (BitVec.ofNat 64) ∧ exec (.combineFma h num) s = .next (stationDone u h num a (withElems (par a.r
      3 1) xs (keepOcc a.t xs)) (groupCycles a (min (laneRate a.t.fmt) (laneRate (par a.r 2 1)))))) ∧
  -- combineScale
  (∀ (s : State) (h : Nat) (num : Nat) (a : At),
    stationAt s h num (isMode 0x13 6) = some a →
    ∃ xs, xs = ((indexed 0 (tileNums a.t)).map fun v => numCode (par a.r 3 1) false (tileRnd a.o num v.1) (combine 6
      (par a.r 8 4) v.2 (if isIntFmt a.t.fmt then .int 0 else .fp (.fin false 0 0)))).map (BitVec.ofNat 64) ∧ exec
      (.combineScale h num) s = .next (stationDone s h num a (withElems (par a.r 3 1) xs (keepOcc a.t xs))
      (groupCycles a (min (laneRate a.t.fmt) (laneRate (par a.r 2 1)))))) ∧
  -- reduceAccum
  (∀ (s : State) (h : Nat) (num : Nat) (a : At) (u : State) (v : State) (w : State) (runs : List (List (Nat × Nat)))
    (us : List Unit) (bad : Bool),
    stationAt s h num (fun o t r => isStation 0x14 o t r && decide (parBits r 1 0 2 = 0)) = some a →
    goList (fun p s => tileRuns h num ((par a.r 8 8 + num % par a.r 4 4 * (tileNums a.t).length * 4) + 4 * p.1) (4 *
      (p.2 - p.1)) true s) (occSpans (tileNums a.t).length a.t.occ) s = .done runs u →
    foldBusy u h num runs.flatten = false →
    goList (fun p s => tileClaim h num ((par a.r 8 8 + num % par a.r 4 4 * (tileNums a.t).length * 4) + 4 * p.1) (4
      * (p.2 - p.1)) s) (occSpans (tileNums a.t).length a.t.occ) u = .done us v →
    foldSpans h num (par a.r 8 8 + num % par a.r 4 4 * (tileNums a.t).length * 4) (parBits a.r 1 2 2) (accFmt
      a.t.fmt) a.t.fold (tileNums a.t) (occSpans (tileNums a.t).length a.t.occ) v = .done bad w →
    parBits a.r 1 4 1 = 0 →
    exec (.reduceAccum h num) s = .next (stationDone w h num a (fun t => { withElems (accFmt a.t.fmt) [] 0 t with fold := t.fold ++ runs.flatten,
                                                                                                                  suspect := t.suspect || bad })
      (groupCycles a (laneRate a.t.fmt)))) ∧
  -- reduceAccum
  (∀ (s : State) (h : Nat) (num : Nat) (a : At) (u : State) (v : State) (w : State) (x : State) (runs : List (List
    (Nat × Nat))) (us : List Unit) (bad : Bool) (bs : Bytes),
    stationAt s h num (fun o t r => isStation 0x14 o t r && decide (parBits r 1 0 2 = 0)) = some a →
    goList (fun p s => tileRuns h num ((par a.r 8 8 + num % par a.r 4 4 * (tileNums a.t).length * 4) + 4 * p.1) (4 *
      (p.2 - p.1)) true s) (occSpans (tileNums a.t).length a.t.occ) s = .done runs u →
    foldBusy u h num runs.flatten = false →
    goList (fun p s => tileClaim h num ((par a.r 8 8 + num % par a.r 4 4 * (tileNums a.t).length * 4) + 4 * p.1) (4
      * (p.2 - p.1)) s) (occSpans (tileNums a.t).length a.t.occ) u = .done us v →
    foldSpans h num (par a.r 8 8 + num % par a.r 4 4 * (tileNums a.t).length * 4) (parBits a.r 1 2 2) (accFmt
      a.t.fmt) a.t.fold (tileNums a.t) (occSpans (tileNums a.t).length a.t.occ) v = .done bad w →
    parBits a.r 1 4 1 = 1 →
    foldRead h num (a.t.fold ++ runs.flatten) (par a.r 8 8 + num % par a.r 4 4 * (tileNums a.t).length * 4) (4 *
      (tileNums a.t).length) w = .done bs x →
    ∃ xs, xs = unpackElems (accFmt a.t.fmt) bs ∧ exec (.reduceAccum h num) s = .next (stationDone x h num a (fun t
      => { withElems (accFmt a.t.fmt) xs (keepOcc t xs) t with fold := t.fold ++ runs.flatten, suspect := t.suspect
                                                                 || (bad || xs.any fun c => foldBad (numOf (accFmt
                                                                 a.t.fmt) c.toNat)) }) (groupCycles a (laneRate
      a.t.fmt)))) ∧
  -- reduceGroup
  (∀ (s : State) (h : Nat) (num : Nat) (a : At),
    stationAt s h num (fun o t r => isStation 0x14 o t r && decide (parBits r 1 0 2 = 1)) = some a →
    ∃ rows res xs, rows = chunks (2 ^ par a.r 2 1) ((tileNums a.t).length + 1) (tileNums a.t) ∧ res = (chunks (par
      a.r 3 1) (rows.length + 1) rows).flatMap (fun g =>
      match g with | [] => [] | r :: rs => rs.foldl (fun acc x => (List.zip acc x).map fun p => foldStep (parBits a.r 1 2 2) p.1 p.2) r)
      ∧ xs = res.map (fun v => BitVec.ofNat 64 (numCode (accFmt a.t.fmt) false none v)) ∧ exec (.reduceGroup h num)
      s = .next (stationDone s h num a (fun t => { withElems (accFmt a.t.fmt) xs (occOf xs) t with suspect := t.suspect || res.any foldBad })
      (cyclesOf (tileNums a.t).length (laneRate a.t.fmt)))) ∧
  -- updateSgdm
  (∀ (s : State) (h : Nat) (num : Nat) (a : At) (u : State) (i : Nat) (b : Bytes) (ks : List Fp) (gs : List Fp) (rs
    : List ((Nat × Nat) × List Fp)),
    stationAt s h num (isMode 0x15 0) = some a →
    i = ((updates a.o).findIdx? fun k => decide (k = a.t.stage)).getD 0 →
    b = (a.o.block.drop (128 * i)).take 128 →
    ks = ((a.o.coef.drop (11 * i)).take 11).map (fun w => fp32 w.toNat) →
    gs = (indexed 0 ((tileNums a.t).map numFp)).map (fun x => if a.t.occ.getLsbD (groupOf ((tileNums a.t).map
      numFp).length x.1) then fpMul fmt32 x.2 (nth ks 10 .nan) else .fin false 0 0) →
    goList (fun p s => (updateSpan a h num b ks gs p.1 p.2 s).bind fun ws s => .done (p, ws) s) (if parBits a.r 2 0
      1 = 1 then occSpans ((tileNums a.t).map numFp).length a.t.occ else [(0, ((tileNums a.t).map numFp).length)]) s
      = .done rs u →
    ∃ res xs, res = rs.flatMap (fun r => indexed r.1.1 r.2) ∧ xs = (rangeFrom 0 ((tileNums a.t).map
      numFp).length).map (fun j => match tget res j with | some w => BitVec.ofNat 64 (code32 w) | none => 0) ∧ exec
      (.updateSgdm h num) s = .next (stationDone u h num a (fun t => { withElems 0 xs (keepOcc t xs) t with suspect := t.suspect || res.any fun w => fpIsNan w.2 || fpIsInf w.2 })
      (groupCycles a (if 0 = 0 ∨ leAt b 0x10 8 = 0 then 8 else 4)))) ∧
  -- updateAdamw
  (∀ (s : State) (h : Nat) (num : Nat) (a : At) (u : State) (i : Nat) (b : Bytes) (ks : List Fp) (gs : List Fp) (rs
    : List ((Nat × Nat) × List Fp)),
    stationAt s h num (isMode 0x15 1) = some a →
    i = ((updates a.o).findIdx? fun k => decide (k = a.t.stage)).getD 0 →
    b = (a.o.block.drop (128 * i)).take 128 →
    ks = ((a.o.coef.drop (11 * i)).take 11).map (fun w => fp32 w.toNat) →
    gs = (indexed 0 ((tileNums a.t).map numFp)).map (fun x => if a.t.occ.getLsbD (groupOf ((tileNums a.t).map
      numFp).length x.1) then fpMul fmt32 x.2 (nth ks 10 .nan) else .fin false 0 0) →
    goList (fun p s => (updateSpan a h num b ks gs p.1 p.2 s).bind fun ws s => .done (p, ws) s) (if parBits a.r 2 0
      1 = 1 then occSpans ((tileNums a.t).map numFp).length a.t.occ else [(0, ((tileNums a.t).map numFp).length)]) s
      = .done rs u →
    ∃ res xs, res = rs.flatMap (fun r => indexed r.1.1 r.2) ∧ xs = (rangeFrom 0 ((tileNums a.t).map
      numFp).length).map (fun j => match tget res j with | some w => BitVec.ofNat 64 (code32 w) | none => 0) ∧ exec
      (.updateAdamw h num) s = .next (stationDone u h num a (fun t => { withElems 0 xs (keepOcc t xs) t with suspect := t.suspect || res.any fun w => fpIsNan w.2 || fpIsInf w.2 })
      (groupCycles a (if 1 = 0 ∨ leAt b 0x10 8 = 0 then 8 else 4)))) ∧
  -- updateTable
  (∀ (s : State) (h : Nat) (num : Nat) (a : At) (u : State) (i : Nat) (b : Bytes) (ks : List Fp) (gs : List Fp) (rs
    : List ((Nat × Nat) × List Fp)),
    stationAt s h num (isMode 0x15 2) = some a →
    i = ((updates a.o).findIdx? fun k => decide (k = a.t.stage)).getD 0 →
    b = (a.o.block.drop (128 * i)).take 128 →
    ks = ((a.o.coef.drop (11 * i)).take 11).map (fun w => fp32 w.toNat) →
    gs = (indexed 0 ((tileNums a.t).map numFp)).map (fun x => if a.t.occ.getLsbD (groupOf ((tileNums a.t).map
      numFp).length x.1) then fpMul fmt32 x.2 (nth ks 10 .nan) else .fin false 0 0) →
    goList (fun p s => (updateSpan a h num b ks gs p.1 p.2 s).bind fun ws s => .done (p, ws) s) (if parBits a.r 2 0
      1 = 1 then occSpans ((tileNums a.t).map numFp).length a.t.occ else [(0, ((tileNums a.t).map numFp).length)]) s
      = .done rs u →
    ∃ res xs, res = rs.flatMap (fun r => indexed r.1.1 r.2) ∧ xs = (rangeFrom 0 ((tileNums a.t).map
      numFp).length).map (fun j => match tget res j with | some w => BitVec.ofNat 64 (code32 w) | none => 0) ∧ exec
      (.updateTable h num) s = .next (stationDone u h num a (fun t => { withElems 0 xs (keepOcc t xs) t with suspect := t.suspect || res.any fun w => fpIsNan w.2 || fpIsInf w.2 })
      (groupCycles a (if 2 = 0 ∨ leAt b 0x10 8 = 0 then 8 else 4)))) ∧
  -- compareBitwise
  (∀ (s : State) (h : Nat) (num : Nat) (a : At) (u : State) (bs : Bytes) (nb : List Machine.Num) (w : State) (cs :
    List Cmp) (b : BitVec 64) (x : State) (v : State),
    stationAt s h num (fun o t r => isStation 0x18 o t r && decide (parBits r 1 0 1 = 0)) = some a →
    tileEat h num (par a.r 7 8 + num * elemBytes (par a.r 2 1) a.t.elems.length) (elemBytes (par a.r 2 1)
      a.t.elems.length) s = .done bs u →
    compareB (par a.r 2 1) ((unpackElems (par a.r 2 1) bs).take a.t.elems.length) u = (nb, w) →
    cs = (List.zip (List.zip a.t.elems ((unpackElems (par a.r 2 1) bs).take a.t.elems.length)) (List.zip (tileNums
      a.t) nb)).map (fun y => compareAt (0 = 1) (fpDecode fmtFp16 (par a.r 3 2)) (fpDecode fmtFp16 (par a.r 5 2))
      y.1.1 y.1.2 y.2.1 y.2.2) →
    (if (maxDiff (indexed 0 cs)).isSome then ((0 : BitVec 64), w) else drawFree w) = (b, x) →
    tilePut h num (par a.r 15 8 + 32 * num) (summaryBytes cs (b.toNat % 2 ^ 32) (b.toNat / 2 ^ 32)) x = .done () v →
    parBits a.r 1 1 1 = 0 →
    exec (.compareBitwise h num) s = .next (stationDone v h num a (id) (cyclesOf a.t.elems.length (laneRate
      a.t.fmt)))) ∧
  -- compareBitwise
  (∀ (s : State) (h : Nat) (num : Nat) (a : At) (u : State) (bs : Bytes) (nb : List Machine.Num) (w : State) (cs :
    List Cmp) (b : BitVec 64) (x : State) (v : State),
    stationAt s h num (fun o t r => isStation 0x18 o t r && decide (parBits r 1 0 1 = 0)) = some a →
    tileEat h num (par a.r 7 8 + num * elemBytes (par a.r 2 1) a.t.elems.length) (elemBytes (par a.r 2 1)
      a.t.elems.length) s = .done bs u →
    compareB (par a.r 2 1) ((unpackElems (par a.r 2 1) bs).take a.t.elems.length) u = (nb, w) →
    cs = (List.zip (List.zip a.t.elems ((unpackElems (par a.r 2 1) bs).take a.t.elems.length)) (List.zip (tileNums
      a.t) nb)).map (fun y => compareAt (0 = 1) (fpDecode fmtFp16 (par a.r 3 2)) (fpDecode fmtFp16 (par a.r 5 2))
      y.1.1 y.1.2 y.2.1 y.2.2) →
    (if (maxDiff (indexed 0 cs)).isSome then ((0 : BitVec 64), w) else drawFree w) = (b, x) →
    tilePut h num (par a.r 15 8 + 32 * num) (summaryBytes cs (b.toNat % 2 ^ 32) (b.toNat / 2 ^ 32)) x = .done () v →
    parBits a.r 1 1 1 = 1 →
    ∃ f xs, f = (if isIntFmt a.t.fmt && isIntFmt (par a.r 2 1) then 0x10 else 0x00) ∧ xs = ((List.zip (tileNums a.t)
      nb).map fun x => numCode f false none (combine 1 0 x.1 x.2)).map (BitVec.ofNat 64) ∧ exec (.compareBitwise h
      num) s = .next (stationDone v h num a (withElems f xs (keepOcc a.t xs)) (cyclesOf a.t.elems.length (laneRate
      a.t.fmt)))) ∧
  -- compareTol
  (∀ (s : State) (h : Nat) (num : Nat) (a : At) (u : State) (bs : Bytes) (nb : List Machine.Num) (w : State) (cs :
    List Cmp) (b : BitVec 64) (x : State) (v : State),
    stationAt s h num (fun o t r => isStation 0x18 o t r && decide (parBits r 1 0 1 = 1)) = some a →
    tileEat h num (par a.r 7 8 + num * elemBytes (par a.r 2 1) a.t.elems.length) (elemBytes (par a.r 2 1)
      a.t.elems.length) s = .done bs u →
    compareB (par a.r 2 1) ((unpackElems (par a.r 2 1) bs).take a.t.elems.length) u = (nb, w) →
    cs = (List.zip (List.zip a.t.elems ((unpackElems (par a.r 2 1) bs).take a.t.elems.length)) (List.zip (tileNums
      a.t) nb)).map (fun y => compareAt (1 = 1) (fpDecode fmtFp16 (par a.r 3 2)) (fpDecode fmtFp16 (par a.r 5 2))
      y.1.1 y.1.2 y.2.1 y.2.2) →
    (if (maxDiff (indexed 0 cs)).isSome then ((0 : BitVec 64), w) else drawFree w) = (b, x) →
    tilePut h num (par a.r 15 8 + 32 * num) (summaryBytes cs (b.toNat % 2 ^ 32) (b.toNat / 2 ^ 32)) x = .done () v →
    parBits a.r 1 1 1 = 0 →
    exec (.compareTol h num) s = .next (stationDone v h num a (id) (cyclesOf a.t.elems.length (laneRate a.t.fmt)))) ∧
  -- compareTol
  (∀ (s : State) (h : Nat) (num : Nat) (a : At) (u : State) (bs : Bytes) (nb : List Machine.Num) (w : State) (cs :
    List Cmp) (b : BitVec 64) (x : State) (v : State),
    stationAt s h num (fun o t r => isStation 0x18 o t r && decide (parBits r 1 0 1 = 1)) = some a →
    tileEat h num (par a.r 7 8 + num * elemBytes (par a.r 2 1) a.t.elems.length) (elemBytes (par a.r 2 1)
      a.t.elems.length) s = .done bs u →
    compareB (par a.r 2 1) ((unpackElems (par a.r 2 1) bs).take a.t.elems.length) u = (nb, w) →
    cs = (List.zip (List.zip a.t.elems ((unpackElems (par a.r 2 1) bs).take a.t.elems.length)) (List.zip (tileNums
      a.t) nb)).map (fun y => compareAt (1 = 1) (fpDecode fmtFp16 (par a.r 3 2)) (fpDecode fmtFp16 (par a.r 5 2))
      y.1.1 y.1.2 y.2.1 y.2.2) →
    (if (maxDiff (indexed 0 cs)).isSome then ((0 : BitVec 64), w) else drawFree w) = (b, x) →
    tilePut h num (par a.r 15 8 + 32 * num) (summaryBytes cs (b.toNat % 2 ^ 32) (b.toNat / 2 ^ 32)) x = .done () v →
    parBits a.r 1 1 1 = 1 →
    ∃ f xs, f = (if isIntFmt a.t.fmt && isIntFmt (par a.r 2 1) then 0x10 else 0x00) ∧ xs = ((List.zip (tileNums a.t)
      nb).map fun x => numCode f false none (combine 1 0 x.1 x.2)).map (BitVec.ofNat 64) ∧ exec (.compareTol h num)
      s = .next (stationDone v h num a (withElems f xs (keepOcc a.t xs)) (cyclesOf a.t.elems.length (laneRate
      a.t.fmt))))

/-- A STORE station whose writes can be recorded records them for the commit and marks the tile as sinking with the
  bytes it has for the memory; a STORE PUT sends its message to each target; STORE_NULL writes nothing. (R211, R212,
  R287, chapter 08) -/
def Obligations.SinkStationsAct : Prop :=
  -- storeRange
  (∀ (s : State) (h : Nat) (num : Nat) (a : At) (u : State),
    stationAt s h num (fun o t r => isMode 0x20 0 o t r && decide (t.stage = nstat o + 1)) = some a →
    isMx a.t.fmt = false →
    putCarried h num (rangeVa a.r 2 (tileBytes a.t).length num) (carriedIn a.t 0 0x100000) (tileBytes a.t) s = .done
      () u →
    exec (.storeRange h num) s = .next (sinkDone u h num ((tileBytes a.t).length))) ∧
  -- storeRange
  (∀ (s : State) (h : Nat) (num : Nat) (a : At) (u : State) (v : State),
    stationAt s h num (fun o t r => isMode 0x20 0 o t r && decide (t.stage = nstat o + 1)) = some a →
    isMx a.t.fmt = true →
    putCarried h num (rangeVa a.r 2 (tileBytes a.t).length num) (carriedIn a.t 0 0x100000) (tileBytes a.t) s = .done
      () u →
    putCarried h num (scaleVa a.r a.t.elems.length num) (carriedIn a.t 0x100000 0x100000) a.t.scales u = .done () v
      →
    exec (.storeRange h num) s = .next (sinkDone v h num ((tileBytes a.t).length + a.t.scales.length))) ∧
  -- storeScatter
  (∀ (s : State) (h : Nat) (num : Nat) (a : At) (u : State) (v : State) (ix : Bytes),
    stationAt s h num (fun o t r => isMode 0x20 1 o t r && decide (t.stage = nstat o + 1)) = some a →
    tileEat h num (par a.r 16 8 + 4 * (num * ((tileBytes a.t).length / scatterRow a.r))) (4 * ((tileBytes
      a.t).length / scatterRow a.r)) s = .done ix u →
    scatterRows a h num (scatterRow a.r) (tileBytes a.t) (indexed 0 (indexList ix)) u = .done () v →
    exec (.storeScatter h num) s = .next (sinkDone v h num ((tileBytes a.t).length))) ∧
  -- storeSparse
  (∀ (s : State) (h : Nat) (num : Nat) (a : At),
    stationAt s h num (fun o t r => isMode 0x20 2 o t r && decide (t.stage = nstat o + 1)) = some a →
    parBits a.r 2 4 1 = 1 →
    exec (.storeSparse h num) s = .next (sinkDone s h num (16 + 64 * a.t.blocks.length))) ∧
  -- storeSparse
  (∀ (s : State) (h : Nat) (num : Nat) (a : At) (u : State) (v : State),
    stationAt s h num (fun o t r => isMode 0x20 2 o t r && decide (t.stage = nstat o + 1)) = some a →
    parBits a.r 2 4 1 = 0 →
    tilePut h num (headerVa a.r false num) (headerBytes a.t.occ (64 * num) a.t.fmt a.t.nm a.t.blocks.length) s =
      .done () u →
    tilePut h num (par a.r 16 8 + 4096 * num) a.t.blocks.flatten u = .done () v →
    exec (.storeSparse h num) s = .next (sinkDone v h num (16 + 64 * a.t.blocks.length))) ∧
  -- storePut
  (∀ (s : State) (h : Nat) (num : Nat) (a : At) (ds : List Nat),
    stationAt s h num (fun o t r => isMode 0x20 3 o t r && decide (t.stage = nstat o + 1)) = some a →
    putTargets s a.r = some ds →
    ds.any (unroutable s) = false →
    ds.any (fun d => !eidFenced s d && decide (32 ≤ openTo s d)) = false →
    exec (.storePut h num) s = .next (sinkDone (ds.foldl (fun s d => putSend a h num (putMessage a num).1
      (putMessage a num).2 d s) s) h num (((putMessage a num).2.map fun p => p.2.1.length).sum))) ∧
  -- storeRouted
  (∀ (s : State) (h : Nat) (num : Nat) (a : At),
    stationAt s h num (fun o t r => isMode 0x20 4 o t r && decide (t.stage = nstat o + 1)) = some a →
    exec (.storeRouted h num) s = .next (sinkDone s h num (a.t.routes.length * elemBytes a.t.fmt a.t.rowLen))) ∧
  -- storeNull
  (∀ (s : State) (h : Nat) (num : Nat) (a : At),
    stationAt s h num (fun o t r => isMode 0x20 5 o t r && decide (t.stage = nstat o + 1)) = some a →
    exec (.storeNull h num) s = .next (sinkDone s h num (0)))

/-- Each link message that a port has received and not yet acted on leaves the inbox and acts: CREDIT_INIT sets the
  limit of a buffer, LINK_ID the peer's EID, REPLAY_REQ begins a replay from a kept flit, the SWAP, WIDTH, RETRAIN
  and PWR messages take the port through its states, and a request that is repeated is answered again. (R246, R250,
  R253, R258, R267, R268, R269, R271, chapter 11) -/
def Obligations.LinkMessagesAct : Prop :=
  -- replayReq
  (∀ (s : State) (u : State) (p : Nat) (seq : Nat),
    takeMsg s p (fun m => decide (m.code = 1) && decide (m.a = seq)) = some u →
    ((lp u p).kept.any fun k => k.fseq = seq) = true →
    (lp u p).lastReplay = none →
    exec (.replayReq p seq) s = .next (beginReplay u p seq)) ∧
  -- creditInit
  (∀ (s : State) (u : State) (p : Nat) (b : Nat) (n : Nat),
    takeMsg s p (fun m => decide (m.code = 2) && decide (m.a = b) && decide (m.b = n)) = some u →
    n ≤ 32767 →
    (if p < 20 then (if b < 4 then 2 else 65) else nth [65, 2, 1, 65, 5, 65] b 0) ≤ n →
    tget u.link.limitTx (p * 16 + b) = none →
    (buffers u p).contains b = true →
    ∃ v, v = { u with link := { u.link with limitTx := tput u.link.limitTx (p * 16 + b) n } } ∧ exec (.creditInit p
      b n) s = .next (modLp v p fun x => { x with inits := insNat b x.inits })) ∧
  -- linkId
  (∀ (s : State) (u : State) (p : Nat) (e : Nat) (w : Nat) (l : Nat),
    takeMsg s p (fun m => decide (m.code = 3) && decide (m.a = e) && decide (m.b = w) && decide (m.c = l)) = some u
      →
    ∃ v, v = wf u (statReg p) 13 12 e ∧ exec (.linkId p e w l) s = .next (modLp v p fun x => { x with peer := some (e, w, l),
                                                                                                      bad := x.bad || decide (e = ownEid v) })) ∧
  -- swapReq
  (∀ (s : State) (u : State) (p : Nat) (l : Nat),
    takeMsg s p (fun m => decide (m.code = 4) && decide (m.a = l)) = some u →
    linkState u p = 2 →
    (lp u p).swapTx = none →
    reserveFree (lp u p) true = true →
    l < 8 →
    (lp u p).swapRx = none →
    exec (.swapReq p l) s = .next (setLinkState (modLp (voidPort u p) p fun x => { x with swapTx := some (l, 4) }) p
      5)) ∧
  -- swapReq
  (∀ (s : State) (u : State) (p : Nat) (l : Nat) (n : Nat),
    takeMsg s p (fun m => decide (m.code = 4) && decide (m.a = l)) = some u →
    linkState u p = 5 →
    (lp u p).swapTx = some (l, n) →
    exec (.swapReq p l) s = .next (setLp u p { lp u p with swapTx := some (l, 4) })) ∧
  -- swapMark
  (∀ (s : State) (u : State) (p : Nat) (l : Nat),
    takeMsg s p (fun m => decide (m.code = 5) && decide (m.a = l)) = some u →
    (lp u p).swapRx = some (l, none) →
    ∃ v, v = modLp (answered u p 4) p (fun x => { x with swapRx := some (l, some 0) }) ∧ exec (.swapMark p l) s =
      .next (laneEvents (setLanes v p (linkWidth v p) (lp v p).txLanes (setNth (lp v p).rxLanes l 8)) p l)) ∧
  -- swapDone
  (∀ (s : State) (u : State) (p : Nat) (l : Nat),
    takeMsg s p (fun m => decide (m.code = 6) && decide (m.a = l)) = some u →
    (lp u p).swapTx = some (l, 0) →
    exec (.swapDone p l) s = .next (retryLanes (laneEvents (setLinkState (modLp u p fun x => { x with swapTx := none })
      p 2) p l) p)) ∧
  -- widthReq
  (∀ (s : State) (u : State) (p : Nat) (w : Nat),
    takeMsg s p (fun m => decide (m.code = 7) && decide (m.a = w)) = some u →
    (linkState u p = 2 ∨ linkState u p = 4 ∨ (linkState u p = 6 ∧ linkPower u p = 1)) →
    w ≤ 2 →
    (lp u p).widthTo = none →
    exec (.widthReq p w) s = .next (widthDone (say (voidPort u p) p { code := 8, a := w }) p w (askedSet s p w))) ∧
  -- widthAck
  (∀ (s : State) (u : State) (p : Nat) (w : Nat),
    takeMsg s p (fun m => decide (m.code = 8) && decide (m.a = w)) = some u →
    (lp u p).widthTo = some w →
    linkState u p = 4 →
    exec (.widthAck p w) s = .next (widthDone (answered u p 7) p w (BitVec.ofNat 9 ((((lp u p).awaiting.find? fun m
      => m.code = 7).map LinkMsg.b).getD 0)))) ∧
  -- retrainReq
  (∀ (s : State) (u : State) (p : Nat) (n : Nat),
    takeMsg s p (fun m => decide (m.code = 9) && decide (m.a = n)) = some u →
    leads u p = true →
    exec (.retrainReq p n) s = .next (retrain u p false)) ∧
  -- retrainReq
  (∀ (s : State) (u : State) (p : Nat) (n : Nat),
    takeMsg s p (fun m => decide (m.code = 9) && decide (m.a = n)) = some u →
    leads u p = false →
    exec (.retrainReq p n) s = .next (retrain (answered u p 9) p false)) ∧
  -- pwrReq
  (∀ (s : State) (u : State) (p : Nat) (k : Nat),
    takeMsg s p (fun m => decide (m.code = 10) && decide (m.a = k)) = some u →
    (lp u p).granted ≠ some k →
    linkState u p = 2 →
    (lp u p).pwrTo = none →
    linkBusy u p = false →
    p < 20 →
    1 ≤ k →
    k ≤ 3 →
    exec (.pwrReq p k) s = .next (say (modLp u p fun x => { x with granted := some k }) p { code := 11, a := k })) ∧
  -- pwrReq
  (∀ (s : State) (u : State) (p : Nat) (k : Nat),
    takeMsg s p (fun m => decide (m.code = 10) && decide (m.a = k)) = some u →
    ((lp u p).granted = some k ∨ (linkState u p = 6 ∧ linkPower u p = k)) →
    exec (.pwrReq p k) s = .next (say u p { code := 11, a := k })) ∧
  -- pwrReq
  (∀ (s : State) (u : State) (p : Nat) (k : Nat),
    takeMsg s p (fun m => decide (m.code = 10) && decide (m.a = k)) = some u →
    (lp u p).granted ≠ some k →
    linkState u p = 2 →
    (lp u p).pwrTo = none →
    (linkBusy u p = true ∨ 20 ≤ p ∨ k = 0 ∨ 3 < k) →
    exec (.pwrReq p k) s = .next (say u p { code := 11, a := k, b := 1 })) ∧
  -- pwrAck
  (∀ (s : State) (u : State) (p : Nat) (k : Nat),
    takeMsg s p (fun m => decide (m.code = 11) && decide (m.a = k) && decide (m.b = 0)) = some u →
    (lp u p).pwrTo = some k →
    k ≠ 1 →
    exec (.pwrAck p k) s = .next (enterPower (answered u p 10) p k)) ∧
  -- pwrAck
  (∀ (s : State) (u : State) (p : Nat) (k : Nat),
    takeMsg s p (fun m => decide (m.code = 11) && decide (m.a = k) && decide (m.b = 0)) = some u →
    (lp u p).pwrTo = some k →
    k = 1 →
    exec (.pwrAck p k) s = .next (narrowDown (answered u p 10) p)) ∧
  -- pwrNak
  (∀ (s : State) (u : State) (p : Nat) (k : Nat),
    takeMsg s p (fun m => decide (m.code = 11) && decide (m.a = k) && decide (m.b = 1)) = some u →
    (lp u p).pwrTo = some k →
    exec (.pwrNak p k) s = .next (answered (modLp u p fun x => { x with pwrTo := none }) p 10))

/-- FLIT_RECEIVE of a whole flit on a usable port acts on its header and its body, or treats it as a bad flit;
  FLIT_TRANSMIT sends a control, replay, payload or idle flit; the timeouts replay, ask again or retrain;
  RETRAIN_COMPLETE ends an attempt; the four control writes act through LINK_CTL. (R247, R251, R256, R257, R258,
  R264, R265, R268, R270, R274, chapter 11) -/
def Obligations.LinkEventsAct : Prop :=
  -- flitReceive
  (∀ (s : State) (p : Nat) (bs : Bytes) (ps : List Nat),
    p < 22 →
    bs.length = 288 →
    usable s p = true →
    (linkState s p ≠ 6 ∨ linkPower s p ≠ 2) →
    flitDecode bs = (none, ps) →
    exec (.flitReceive p bs) s = .next (flitBad (countLanes s p ps) p)) ∧
  -- flitReceive
  (∀ (s : State) (u : State) (p : Nat) (h : Nat) (bs : Bytes) (body : Bytes) (ps : List Nat),
    p < 22 →
    bs.length = 288 →
    usable s p = true →
    (linkState s p ≠ 6 ∨ linkPower s p ≠ 2) →
    flitDecode bs = (some (h, body), ps) →
    u = linkCredit (linkAck (countLanes s p ps) p (fld h 18 18)) p (fld h 39 4) (fld h 43 16) →
    fld h 36 2 = 0 →
    exec (.flitReceive p bs) s = .next (idleFlit u p)) ∧
  -- flitReceive
  (∀ (s : State) (u : State) (p : Nat) (h : Nat) (bs : Bytes) (body : Bytes) (ps : List Nat),
    p < 22 →
    bs.length = 288 →
    usable s p = true →
    (linkState s p ≠ 6 ∨ linkPower s p ≠ 2) →
    flitDecode bs = (some (h, body), ps) →
    u = linkCredit (linkAck (countLanes s p ps) p (fld h 18 18)) p (fld h 39 4) (fld h 43 16) →
    fld h 36 2 = 1 →
    exec (.flitReceive p bs) s = .next (payloadFlit u p (fld h 0 18) body)) ∧
  -- flitReceive
  (∀ (s : State) (u : State) (p : Nat) (h : Nat) (bs : Bytes) (body : Bytes) (ps : List Nat),
    p < 22 →
    bs.length = 288 →
    usable s p = true →
    (linkState s p ≠ 6 ∨ linkPower s p ≠ 2) →
    flitDecode bs = (some (h, body), ps) →
    u = linkCredit (linkAck (countLanes s p ps) p (fld h 18 18)) p (fld h 39 4) (fld h 43 16) →
    fld h 36 2 = 2 →
    exec (.flitReceive p bs) s = .next (modLp u p fun x => { x with inbox := x.inbox ++ ((rangeFrom 0 16).map fun k
                                                                      => slotMsg ((body.drop (16 * k)).take
                                                                      16)).filter fun m => m.code ≠ 0 && m.code ≤ 11 })) ∧
  -- flitTransmit
  (∀ (s : State) (p : Nat),
    p < 22 →
    usable s p = true →
    (linkState s p ≠ 6 ∨ (linkBusy s p = false ∧ linkPower s p < 2)) →
    (lp s p).ctl ≠ [] →
    exec (.flitTransmit p) s = .next (sendControl s p)) ∧
  -- flitTransmit
  (∀ (s : State) (p : Nat),
    p < 22 →
    usable s p = true →
    linkState s p ≠ 2 →
    linkState s p ≠ 6 →
    ((lp s p).swapTx = none ∨ (lp s p).swapTx.map Prod.snd = some 0) →
    (lp s p).ctl = [] →
    exec (.flitTransmit p) s = .next (sendFlit s p 0 0 false 31 [])) ∧
  -- flitTransmit
  (∀ (s : State) (p : Nat) (q : Nat) (k : Kept),
    p < 22 →
    usable s p = true →
    linkState s p = 2 →
    ((lp s p).swapTx = none ∨ (lp s p).swapTx.map Prod.snd = some 0) →
    (lp s p).ctl = [] →
    (lp s p).replay = some q →
    ((lp s p).kept.find? fun k => k.fseq = q) = some k →
    exec (.flitTransmit p) s = .next (sendReplay s p k)) ∧
  -- flitTransmit
  (∀ (s : State) (p : Nat),
    p < 22 →
    usable s p = true →
    linkState s p = 2 →
    ((lp s p).swapTx = none ∨ (lp s p).swapTx.map Prod.snd = some 0) →
    (lp s p).ctl = [] →
    (lp s p).replay = none →
    tgetD s.link.tx p [] ≠ [] →
    keepRoom s p = true →
    exec (.flitTransmit p) s = .next (sendPayload s p)) ∧
  -- flitTransmit
  (∀ (s : State) (p : Nat),
    p < 22 →
    usable s p = true →
    linkState s p = 2 →
    ((lp s p).swapTx = none ∨ (lp s p).swapTx.map Prod.snd = some 0) →
    (lp s p).ctl = [] →
    (lp s p).replay = none →
    tgetD s.link.tx p [] = [] →
    (sched s (portSched p)).units = [] →
    exec (.flitTransmit p) s = .next (sendFlit s p 0 0 false 31 [])) ∧
  -- ackTimeout
  (∀ (s : State) (p : Nat) (k : Kept) (ks : List Kept),
    (lp s p).kept = k :: ks →
    exec (.ackTimeout p) s = .next (beginReplay (modLp s p fun x => { x with ackAt := s.now }) p k.fseq)) ∧
  -- replayReqTimeout
  (∀ (s : State) (p : Nat),
    (lp s p).reqOut = true →
    exec (.replayReqTimeout p) s = .next (say s p { code := 1, a := (lp s p).expected })) ∧
  -- linkMsgRepeat
  (∀ (s : State) (p : Nat),
    exec (.linkMsgRepeat p) s = .next (modLp s p fun x => { x with ctl := x.ctl ++ x.awaiting.filter fun m =>
                                                                     !x.ctl.contains m })) ∧
  -- laneThresholdCrossed
  (∀ (s : State) (p : Nat) (l : Nat) (tx : Bool),
    p < 22 →
    l < 9 →
    exec (.laneThresholdCrossed p tx l) s = .next (crossLane s p tx l)) ∧
  -- swapTimeout
  (∀ (s : State) (p : Nat),
    (lp s p).swapTx.isSome = true →
    exec (.swapTimeout p) s = .next (retrain s p true)) ∧
  -- frameLockLoss
  (∀ (s : State) (p : Nat),
    p < 22 →
    exec (.frameLockLoss p) s = .next (retrain s p true)) ∧
  -- retrainComplete
  (∀ (s : State) (p : Nat) (tx : BitVec 9) (rx : BitVec 9),
    p < 22 →
    (linkState s p = 1 ∨ linkState s p = 3) →
    2 ≤ popc 9 tx.toNat →
    2 ≤ popc 9 rx.toNat →
    (lp s p).bad = false →
    (lp s p).peer.isSome = true →
    (buffers s p).all (lp s p).inits.contains = true →
    exec (.retrainComplete p tx rx true) s = .next (returnReady (trained s p tx rx))) ∧
  -- retrainComplete
  (∀ (s : State) (p : Nat) (tx : BitVec 9) (rx : BitVec 9) (ok : Bool),
    p < 22 →
    (linkState s p = 1 ∨ linkState s p = 3) →
    (popc 9 tx.toNat < 2 ∨ popc 9 rx.toNat < 2) →
    exec (.retrainComplete p tx rx ok) s = .next (returnReady (portFail s p))) ∧
  -- retrainComplete
  (∀ (s : State) (p : Nat) (tx : BitVec 9) (rx : BitVec 9) (ok : Bool),
    p < 22 →
    (linkState s p = 1 ∨ linkState s p = 3) →
    2 ≤ popc 9 tx.toNat →
    2 ≤ popc 9 rx.toNat →
    (ok = false ∨ (lp s p).bad = true ∨ (lp s p).peer = none) →
    rf s (replayReg p) 24 2 ≤ (lp s p).attempts + 1 →
    exec (.retrainComplete p tx rx ok) s = .next (returnReady (portFail s p))) ∧
  -- retrainComplete
  (∀ (s : State) (p : Nat) (tx : BitVec 9) (rx : BitVec 9) (ok : Bool),
    p < 22 →
    (linkState s p = 1 ∨ linkState s p = 3) →
    2 ≤ popc 9 tx.toNat →
    2 ≤ popc 9 rx.toNat →
    (ok = false ∨ (lp s p).bad = true ∨ (lp s p).peer = none) →
    (lp s p).attempts + 1 < rf s (replayReg p) 24 2 →
    exec (.retrainComplete p tx rx ok) s = .next (returnReady (startTraining (setLp s p { lp s p with attempts := (lp s p).attempts + 1 })
      p (linkState s p)))) ∧
  -- linkEnableWrite
  (∀ (s : State) (id : Nat) (p : Nat) (v : W32),
    p < 22 →
    exec (.linkEnableWrite id p v) s = .next (linkCtlWrite s p v.toNat)) ∧
  -- widthMaxWrite
  (∀ (s : State) (id : Nat) (p : Nat) (v : W32),
    p < 22 →
    exec (.widthMaxWrite id p v) s = .next (linkCtlWrite s p v.toNat)) ∧
  -- linkRetrainWrite
  (∀ (s : State) (id : Nat) (p : Nat) (v : W32),
    p < 22 →
    exec (.linkRetrainWrite id p v) s = .next (linkCtlWrite s p v.toNat)) ∧
  -- pwrTargetWrite
  (∀ (s : State) (id : Nat) (p : Nat) (v : W32),
    p < 22 →
    exec (.pwrTargetWrite id p v) s = .next (linkCtlWrite s p v.toNat))

/-- A pass-through packet with a valid route that does not drain leaves by the port that the route chooses; PUT-kind
  packets that have arrived at a serving controller and need not wait are written and counted into their message's
  entry; CMP ends the message that it answers; NOTIFY and PUB_NOTIFY are consumed. (R277, R286, R288, R290, chapter
  12) -/
def Obligations.RoutedPacketsAct : Prop :=
  -- passThroughPacket
  (∀ (s : State) (u : State) (v : State) (p : Nat) (q : Nat) (b : Bool) (pkt : Packet),
    isLocal s pkt.dest = false →
    p < 20 →
    (route s pkt.dest).valid = true →
    (route s pkt.dest).draining = false →
    popRx s p pkt = some u →
    v = setRoute u pkt.dest (refreshRoute u (route s pkt.dest)) →
    choosePort v (refreshRoute u (route s pkt.dest)) pkt = some (q, b) →
    q ≠ p →
    exec (.passThroughPacket p pkt) s = .next (placeAt (count v (portPage p) 4 1) q b { cls := pkt.sc, len := 0, pkt := pkt })) ∧
  -- putPacket
  (∀ (s : State) (p : State) (u : State) (port : Nat) (pkt : Packet),
    arrivedKind s port pkt 0 p →
    eidFenced s pkt.src = false →
    serving s = true →
    putServe s port (rxSince s port pkt) pkt false = .done () u →
    exec (.putPacket port pkt) s = .next ((popRx u port pkt).getD u)) ∧
  -- putSparsePacket
  (∀ (s : State) (p : State) (u : State) (port : Nat) (pkt : Packet),
    arrivedKind s port pkt 1 p →
    eidFenced s pkt.src = false →
    serving s = true →
    putServe s port (rxSince s port pkt) pkt true = .done () u →
    exec (.putSparsePacket port pkt) s = .next ((popRx u port pkt).getD u)) ∧
  -- cmpPacket
  (∀ (s : State) (p : State) (port : Nat) (pkt : Packet),
    arrivedKind s port pkt 2 p →
    exec (.cmpPacket port pkt) s = .next (cmpServe pkt p)) ∧
  -- notifyPacket
  (∀ (s : State) (p : State) (port : Nat) (pkt : Packet),
    arrivedKind s port pkt 4 p →
    exec (.notifyPacket port pkt) s = .next p) ∧
  -- pubNotifyPacket
  (∀ (s : State) (p : State) (port : Nat) (pkt : Packet),
    arrivedKind s port pkt 5 p →
    exec (.pubNotifyPacket port pkt) s = .next p)

/-- ROUTE_SWAP drains the EID's old route and sets BUSY, and swaps at once where nothing drains; ROUTE_SWAP_COMPLETE
  swaps; ROUTE_SWAP_ABORT clears BUSY and sets ABORTED; ROUTE_RETURN_DRAIN_DONE returns an EID to its primary set;
  EID_FENCE and EID_UNFENCE set and clear the fence; the message timeouts end what they bound. (R280, R289, R290,
  R291, R294, chapter 12) -/
def Obligations.RouteCommandsAct : Prop :=
  -- msgTimeout
  (∀ (s : State) (e : Nat) (m : MsgEntry),
    tgetD s.route.msgs e {} = m →
    m.state ≠ 0 →
    exec (.msgTimeout e) s = .next (event (msgEnd s e m stInternal) { source := pgRTE, sev := sevWarn, cls :=
                                                                        clLink, loc := e / 32, status := stInternal })) ∧
  -- putCmpTimeout
  (∀ (s : State) (h : Nat) (num : Nat),
    (tileMsgs s h num).isEmpty = false →
    exec (.putCmpTimeout h num) s = .next (failTile { s with cmd := { s.cmd with sent := s.cmd.sent.filter fun m =>
                                                                                   !(decide (m.op = h) && decide
                                                                                   (m.tile = num)) } } h num
      stInternal)) ∧
  -- routeSwap
  (∀ (s : State) (u : State) (v : State) (id : Nat) (e : Nat),
    isFw id = true →
    e < 4096 →
    s.route.swapping = none →
    v = voidEid (setRoute s e { route s e with draining := true }) e →
    u = wb { v with route := { v.route with swapping := some e } } (ra pgRTE 0x118) 14 true →
    drained u e = true →
    exec (.routeSwap id e) s = .next (swapDone u e)) ∧
  -- routeSwap
  (∀ (s : State) (u : State) (v : State) (id : Nat) (e : Nat),
    isFw id = true →
    e < 4096 →
    s.route.swapping = none →
    v = voidEid (setRoute s e { route s e with draining := true }) e →
    u = wb { v with route := { v.route with swapping := some e } } (ra pgRTE 0x118) 14 true →
    drained u e = false →
    exec (.routeSwap id e) s = .next (u)) ∧
  -- routeSwapComplete
  (∀ (s : State) (e : Nat),
    s.route.swapping = some e →
    drained s e = true →
    exec .routeSwapComplete s = .next (swapDone s e)) ∧
  -- routeSwapAbort
  (∀ (s : State) (id : Nat) (e : Nat) (k : Nat),
    isFw id = true →
    s.route.swapping = some e →
    ∃ u v, u = setRoute s e { route s e with draining := false } ∧ v = { u with route := { u.route with swapping := none,
                                                                                                        shadow := tdel u.route.shadow e } }
      ∧ exec (.routeSwapAbort id k) s = .next (releaseHeld (wb (wb v (ra pgRTE 0x118) 14 false) (ra pgRTE 0x118) 15
      true) e)) ∧
  -- routeReturnDrainDone
  (∀ (s : State) (e : Nat),
    (route s e).draining = true →
    s.route.swapping ≠ some e →
    drained s e = true →
    exec (.routeReturnDrainDone e) s = .next (releaseHeld (setRoute s e (freshRoute s (route s e))) e)) ∧
  -- eidFence
  (∀ (s : State) (id : Nat) (e : Nat),
    isFw id = true →
    e < 4096 →
    eidFenced s e = false →
    exec (.eidFence id e) s = .next (fenceEffects (setRoute s e { route s e with fenced := true }) e)) ∧
  -- eidFence
  (∀ (s : State) (id : Nat) (e : Nat),
    isFw id = true →
    e < 4096 →
    eidFenced s e = true →
    exec (.eidFence id e) s = .next (setRoute s e { route s e with fenced := true })) ∧
  -- eidUnfence
  (∀ (s : State) (id : Nat) (e : Nat),
    isFw id = true →
    e < 4096 →
    exec (.eidUnfence id e) s = .next (setRoute s e { route s e with fenced := false, unreachable := false }))

/-- A CXL.mem request that no earlier request withholds and that passes the decoder, the binding, the class and the
  admission is counted and begins at its home; a retry serves the oldest request whose credit was withheld in the
  same way. (R308, R107, R106, Table 5-9, chapter 12) -/
def Obligations.CxlMemRequestsAreServed : Prop :=
  -- cxlMemRead
  (∀ (s : State) (u : State) (hpa : Nat) (pa : Nat) (pl : Place),
    linkUp s = true →
    s.weir.cxlHeld = [] →
    cxlTaken s { hpa := hpa / 64 * 64, write := false, start := s.now } pa pl u →
    exec (.cxlMemRead hpa) s = .next (homeBegin (access (count u pgCXLP 7 1) [cxlSub s pl]) (cxlHome s { hpa := hpa / 64 * 64,
                                                                                                         write := false,
                                                                                                         start := s.now }
      pa pl))) ∧
  -- cxlMemWrite
  (∀ (s : State) (u : State) (hpa : Nat) (pa : Nat) (data : Bytes) (mask : BitVec 64) (poison : Bool) (pl : Place),
    linkUp s = true →
    s.weir.cxlHeld = [] →
    cxlTaken s { hpa := hpa / 64 * 64, write := true, data := fitBytes 64 data, mask := mask, poison := poison,
                 start := s.now } pa pl u →
    exec (.cxlMemWrite hpa data mask poison) s = .next (homeBegin (access (count u pgCXLP 8 1) [cxlSub s pl])
      (cxlHome s { hpa := hpa / 64 * 64, write := true, data := fitBytes 64 data, mask := mask, poison := poison,
                   start := s.now } pa pl))) ∧
  -- cxlMemAdmissionRetry
  (∀ (s : State) (r : State) (u : State) (w : CxlWait) (ws : List CxlWait) (pa : Nat) (pl : Place),
    s.weir.cxlHeld = w :: ws →
    r = { s with weir := { s.weir with cxlHeld := ws } } →
    cxlTaken r w pa pl u →
    exec .cxlMemAdmissionRetry s = .next (homeBegin (access (count u pgCXLP (if w.write then 8 else 7) 1) [cxlSub r
      pl]) (cxlHome r w pa pl)))

/-- Hot reset clears the configuration space, MSI-X, the decoders and the policy and nothing of the pool; the
  Command register and the BARs keep what a configuration write stores in them and return it; LTR applies to the
  domains bound to the host; a decoder is committed, uncommitted or answers Error Not Committed; MSI-X writes send
  what they unmask; DOE and CDAT answer their tables. The places of the PCI registers and the lock of a committed
  decoder are taken from PCI and CXL 2.0 (log entry 91). (R301, R302, R303, R305, R306, R311, R316, R454, R457,
  Table 13-1, chapter 12) -/
def Obligations.CxlLinkCommandsAct : Prop :=
  -- cxlHotReset
  (∀ (s : State) (u : State),
    u = wr (cxlDropRequests s) (ra pgCXLP 0x114) 0 →
    exec .cxlHotReset s = .next { u with cxl := { u.cxl with decoders := [], vecOpen := [], pba := [], cfg := [],
                                                             policy := [0, 0, 0, 0] } }) ∧
  -- cxlConfigRequest
  (∀ (s : State) (off : Nat) (b : Nat) (v : W32),
    linkUp s = true →
    s.cxl.memActive = true →
    off % 4 = 0 →
    off ≠ 4 →
    barBit off = some b →
    exec (.cxlConfigRequest true off v) s = .next { s with cxl := { s.cxl with cfg := tput s.cxl.cfg off (barWord b
                                                                                 v) } }) ∧
  -- cxlConfigRequest
  (∀ (s : State) (off : Nat) (b : Nat) (v : W32) (x : W32),
    linkUp s = true →
    s.cxl.memActive = true →
    off % 4 = 0 →
    barBit off = some b →
    tget s.cxl.cfg off = some x →
    exec (.cxlConfigRequest false off v) s = .next (put s (.readData off x))) ∧
  -- cxlConfigRequest
  (∀ (s : State) (v : W32),
    linkUp s = true →
    s.cxl.memActive = true →
    exec (.cxlConfigRequest true 4 v) s = .next (msixFlush (wb { s with cxl := { s.cxl with cfg := tput s.cxl.cfg 4 (commandKept v) } }
      (ra pgCXLP 0x114) 1 (v.getLsbD 2)))) ∧
  -- cxlConfigRequest
  (∀ (s : State) (off : Nat) (wr : Bool) (v : W32),
    linkUp s = true →
    s.cxl.memActive = false →
    exec (.cxlConfigRequest wr off v) s = .next (put s (.reply 0x20001 [off / 4 * 4] []))) ∧
  -- ltrWrite
  (∀ (s : State) (v : W32),
    rb s (ra pgCXLP 0x114) 8 = true →
    exec (.ltrWrite v) s = .next (wr ((hostDomains s).foldl (fun s d => setTol s d (ltrNs v.toNat)) s) (ra pgCXLP
      0x118) (ltrNs v.toNat))) ∧
  -- hdmDecoderCommit
  (∀ (s : State) (d : Nat) (b : Nat) (n : Nat) (p : Nat) (w : Nat),
    linkUp s = true →
    d < 4 →
    rb s (ra pgCXLP 0x114) (4 + d) = false →
    w = 1 →
    p / 0x10000000 * 0x10000000 + n / 0x10000000 * 0x10000000 ≤ rf s (ra pgCXLP 0x110) 0 16 * 0x10000000 →
    ∃ t, t = { s with cxl := { s.cxl with decoders := tput s.cxl.decoders d { base := b / 0x10000000 * 0x10000000,
                                                                              size := n / 0x10000000 * 0x10000000,
                                                                              dpa := p / 0x10000000 * 0x10000000 } } }
      ∧ exec (.hdmDecoderCommit d b n p (some w)) s = .next (put (wb t (ra pgCXLP 0x114) (4 + d) true) (.reply
      0x20002 [d, 0] []))) ∧
  -- hdmDecoderCommit
  (∀ (s : State) (d : Nat) (b : Nat) (n : Nat) (p : Nat) (w : Nat),
    linkUp s = true →
    d < 4 →
    rb s (ra pgCXLP 0x114) (4 + d) = false →
    (w ≠ 1 ∨ p / 0x10000000 * 0x10000000 + n / 0x10000000 * 0x10000000 > rf s (ra pgCXLP 0x110) 0 16 * 0x10000000) →
    exec (.hdmDecoderCommit d b n p (some w)) s = .next (put s (.reply 0x20002 [d, 1] []))) ∧
  -- hdmDecoderCommit
  (∀ (s : State) (d : Nat) (b : Nat) (n : Nat) (p : Nat) (w : Nat),
    linkUp s = true →
    d < 4 →
    exec (.hdmDecoderCommit d b n p none) s = .next (wb { s with cxl := { s.cxl with decoders := tdel s.cxl.decoders d } }
      (ra pgCXLP 0x114) (4 + d) false)) ∧
  -- msixUnmask
  (∀ (s : State) (v : Nat),
    linkUp s = true →
    v < 2048 →
    exec (.msixUnmask (.vector v false)) s = .next (msixFlush { s with cxl := { s.cxl with vecOpen := insNat v s.cxl.vecOpen } })) ∧
  -- msixUnmask
  (∀ (s : State) (v : Nat),
    linkUp s = true →
    v < 2048 →
    exec (.msixUnmask (.vector v true)) s = .next (msixFlush { s with cxl := { s.cxl with vecOpen := s.cxl.vecOpen.erase v } })) ∧
  -- msixUnmask
  (∀ (s : State) (on : Bool),
    linkUp s = true →
    exec (.msixUnmask (.enable on)) s = .next (msixFlush (wb s (ra pgCXLP 0x114) 2 on))) ∧
  -- msixUnmask
  (∀ (s : State) (on : Bool),
    linkUp s = true →
    exec (.msixUnmask (.functionMask on)) s = .next (msixFlush (wb s (ra pgCXLP 0x114) 3 on))) ∧
  -- msixUnmask
  (∀ (s : State) (on : Bool),
    linkUp s = true →
    exec (.msixUnmask (.busMaster on)) s = .next (msixFlush (wb s (ra pgCXLP 0x114) 1 on))) ∧
  -- msixUnmask
  (∀ (s : State) (on : Bool),
    linkUp s = true →
    exec (.msixUnmask (.ltrEnable on)) s = .next (wb s (ra pgCXLP 0x114) 8 on)) ∧
  -- doeDiscovery
  (∀ (s : State) (i : Nat),
    linkUp s = true →
    exec (.doeDiscovery i) s = .next (put s (.reply 0x20003 (if i = 0 then [0x0001, 0, 1] else if i = 1 then
      [0x0001, 1, 2] else if i = 2 then [0x1E98, 2, 0] else [0xFFFF, 0, 0]) []))) ∧
  -- cdatTableAccess
  (∀ (s : State) (i : Nat),
    linkUp s = true →
    i ≤ 4 →
    exec (.cdatTableAccess i) s = .next (put s (.reply 0x20004 (if i = 0 then [0, 0, rf s (ra pgCXLP 0x110) 0 16 *
      0x10000000, 1] else if i = 1 then [1, 1, 400, 2] else if i = 2 then [1, 2, 400, 3] else if i = 3 then [1, 4,
      s.cxl.bandwidth, 4] else [1, 5, s.cxl.bandwidth, 0xFFFF]) []))) ∧
  -- cxlLinkUp
  (∀ (s : State),
    exec .cxlLinkUp s = .next (wb s (ra pgCXLP 0x114) 0 true)) ∧
  -- cxlioReadTimeout
  (∀ (s : State) (i : Nat) (w : Walk),
    s.xlt.walks.find? (fun w => w.id = i) = some w →
    viewHost w.view = true →
    exec (.cxlioReadTimeout (.walk i)) s = .next (walkFault s w 5)) ∧
  -- cxlioReadTimeout
  (∀ (s : State) (q : Nat),
    q < 256 →
    sqEn s q = true →
    sqHost s q = true →
    sqHead s q ≠ sqTail s q →
    cqFree s (cqNum s q) = true →
    exec (.cxlioReadTimeout (.ring q)) s = .next (ringFail s q))

/-- Each mailbox command completes with its return code and output, and vector 1: event records, the interrupt
  policy, firmware, time, logs, identity, partition and health; an opcode outside the list answers Unsupported. The
  two corrected-error counts of GET_HEALTH_INFO are a free value (log entry 8). (R305, R310, R312, chapter 12) -/
def Obligations.CxlMailboxCommandsAnswer : Prop :=
  -- getEventRecords
  (∀ (s : State) (l : Nat),
    linkUp s = true →
    l < 4 →
    exec (.getEventRecords l) s = .next (mbReply s 0x0100 0 ((if (tgetD s.cxl.logs l {}).overflow then 1 else 0) ::
      (tgetD s.cxl.logs l {}).lost :: (tgetD s.cxl.logs l {}).records.length :: (tgetD s.cxl.logs l
      {}).records.flatMap cxlRecordWords))) ∧
  -- getEventRecords
  (∀ (s : State) (l : Nat),
    linkUp s = true →
    4 ≤ l →
    exec (.getEventRecords l) s = .next (mbReply s 0x0100 15 [])) ∧
  -- clearEventRecords
  (∀ (s : State) (l : Nat),
    linkUp s = true →
    l < 4 →
    exec (.clearEventRecords l []) s = .next (mbReply { s with cxl := { s.cxl with logs := tset {} s.cxl.logs l { (tgetD s.cxl.logs l {}) with records := [],
                                                                                                                                               overflow := false,
                                                                                                                                               lost := 0 } } }
      0x0101 0 [])) ∧
  -- clearEventRecords
  (∀ (s : State) (l : Nat) (hs : List Nat),
    linkUp s = true →
    l < 4 →
    hs ≠ [] →
    ((tgetD s.cxl.logs l {}).records.map fun r => r.handle).take hs.length = hs →
    exec (.clearEventRecords l hs) s = .next (mbReply { s with cxl := { s.cxl with logs := tset {} s.cxl.logs l { (tgetD s.cxl.logs l {}) with records := (tgetD s.cxl.logs l {}).records.drop hs.length,
                                                                                                                                               overflow := false,
                                                                                                                                               lost := 0 } } }
      0x0101 0 [])) ∧
  -- getEventInterruptPolicy
  (∀ (s : State),
    linkUp s = true →
    exec .getEventInterruptPolicy s = .next (mbReply s 0x0102 0 s.cxl.policy)) ∧
  -- setEventInterruptPolicy
  (∀ (s : State) (p : List Nat),
    linkUp s = true →
    p.length = 4 →
    p.all (· ≤ 1) = true →
    exec (.setEventInterruptPolicy p) s = .next (mbReply { s with cxl := { s.cxl with policy := p } } 0x0103 0 [])) ∧
  -- setEventInterruptPolicy
  (∀ (s : State) (p : List Nat),
    linkUp s = true →
    (p.length ≠ 4 ∨ p.all (· ≤ 1) = false) →
    exec (.setEventInterruptPolicy p) s = .next (mbReply s 0x0103 2 [])) ∧
  -- getFwInfo
  (∀ (s : State),
    linkUp s = true →
    exec .getFwInfo s = .next (mbReply s 0x0200 0 [if (tgetD s.fw.types 4 {}).runB then 2 else 1, (tgetD s.fw.types
      4 {}).a.version, (tgetD s.fw.types 4 {}).b.version])) ∧
  -- getTimestamp
  (∀ (s : State) (a : Nat),
    linkUp s = true →
    s.cxl.stampAt = some a →
    exec .getTimestamp s = .next (mbReply s 0x0300 0 [s.cxl.stamp + (s.now - a)])) ∧
  -- getTimestamp
  (∀ (s : State),
    linkUp s = true →
    s.cxl.stampAt = none →
    exec .getTimestamp s = .next (mbReply s 0x0300 0 [0])) ∧
  -- setTimestamp
  (∀ (s : State) (v : BitVec 64),
    linkUp s = true →
    exec (.setTimestamp v) s = .next (mbReply { s with cxl := { s.cxl with stamp := v.toNat, stampAt := some s.now } }
      0x0301 0 [])) ∧
  -- getSupportedLogs
  (∀ (s : State),
    linkUp s = true →
    exec .getSupportedLogs s = .next (mbReply s 0x0400 0 [celUuid, celBytes.length])) ∧
  -- getLog
  (∀ (s : State) (u : BitVec 128) (o : Nat) (n : Nat),
    linkUp s = true →
    u.toNat = celUuid →
    o + n ≤ celBytes.length →
    exec (.getLog u o n) s = .next (mbReply s 0x0401 0 [] ((celBytes.drop o).take n))) ∧
  -- getLog
  (∀ (s : State) (u : BitVec 128) (o : Nat) (n : Nat),
    linkUp s = true →
    (u.toNat ≠ celUuid ∨ celBytes.length < o + n) →
    exec (.getLog u o n) s = .next (mbReply s 0x0401 2 [])) ∧
  -- identifyMemoryDevice
  (∀ (s : State),
    linkUp s = true →
    exec .identifyMemoryDevice s = .next (mbReply s 0x4000 0 [dpaUnits s, dpaUnits s, 0, 0, 0])) ∧
  -- getPartitionInfo
  (∀ (s : State),
    linkUp s = true →
    exec .getPartitionInfo s = .next (mbReply s 0x4100 0 [dpaUnits s, 0, dpaUnits s, 0])) ∧
  -- getHealthInfo
  (∀ (s : State) (u : State) (v : BitVec 64),
    linkUp s = true →
    drawFree s = (v, u) →
    exec .getHealthInfo s = .next (mbReply u 0x4200 0 [rf u (ra pgPWR 0x110) 0 8, v.toNat % 2 ^ 32, v.toNat / 2 ^
      32])) ∧
  -- unsupportedMailboxOpcode
  (∀ (s : State) (o : Nat),
    linkUp s = true →
    o ∉ [0x0100, 0x0101, 0x0102, 0x0103, 0x0200, 0x0300, 0x0301, 0x0400, 0x0401, 0x4000, 0x4100, 0x4200] →
    exec (.unsupportedMailboxOpcode o) s = .next (mbReply s o 0x0003 []))

/-- A binding is written by Holhild into an unlocked MBXC for two different identities; SEND posts the sender's
  message in an empty channel, RETRACT and ACK empty a full one for its sender and its receiver; any other identity
  counts an error; the partner's message is copied into the channel of the same number, and its ACK empties a full
  one. (R313, R314, R315, R316, chapter 13) -/
def Obligations.MailboxCommandsMoveMessages : Prop :=
  -- mailboxBindWrite
  (∀ (s : State) (v : W32) (b : MbxBind),
    locked s pgMBXC = false →
    b = { sender := if (ri s 2 (ra pgMBXC 0x100) % 64) = 63 then 2 else fld v.toNat 0 13, receiver := fld v.toNat 13
            13, valid := v.toNat.testBit 26 } →
    (b.valid = false ∨ (b.sender ≠ b.receiver ∧ mbxIdentity b.sender = true ∧ mbxIdentity b.receiver = true)) →
    exec (.mailboxBindWrite 2 v) s = .next { s with mbx := { s.mbx with binds := tset {} s.mbx.binds (ri s 2 (ra
                                                                          pgMBXC 0x100) % 64) b } }) ∧
  -- mailboxSend
  (∀ (s : State) (id : Nat) (ch : Nat) (v : W32),
    ch < 64 →
    v.toNat.testBit 9 = true →
    (mbxBind s ch).valid = true →
    (mbxBind s ch).sender = id →
    mbxFull s ch = false →
    1 ≤ fld v.toNat 0 9 →
    fld v.toNat 0 9 ≤ 256 →
    mbxLocked s ch = true →
    exec (.mailboxSend id ch v) s = .next (mbxPost s ch (fld v.toNat 0 9))) ∧
  -- mailboxRetract
  (∀ (s : State) (id : Nat) (ch : Nat),
    ch < 64 →
    (mbxBind s ch).valid = true →
    (mbxBind s ch).sender = id →
    mbxFull s ch = true →
    exec (.mailboxRetract id ch) s = .next (mbxEmptyInt (wb (mbxClear s ch) (ra (pgMBX + ch) 0x108) 1 true) ch)) ∧
  -- mailboxAck
  (∀ (s : State) (id : Nat) (ch : Nat),
    ch < 64 →
    (mbxBind s ch).valid = true →
    (mbxBind s ch).receiver = id →
    mbxFull s ch = true →
    exec (.mailboxAck id ch) s = .next (fatalTaken (mbxEmptyInt (mbxClear s ch) ch) ch)) ∧
  (∀ (s : State) (id : Nat) (ch : Nat) (v : W32),
    ch < 64 →
    v.toNat.testBit 9 = true →
    ((mbxBind s ch).valid = false ∨ (mbxBind s ch).sender ≠ id) →
    (exec (.mailboxSend id ch v) s = .next (errInc s (pgMBX + ch) 1) ∧ exec (.mailboxRetract id ch) s = .next
      (errInc s (pgMBX + ch) 1))) ∧
  (∀ (s : State) (id : Nat) (ch : Nat),
    ch < 64 →
    ((mbxBind s ch).valid = false ∨ (mbxBind s ch).receiver ≠ id) →
    exec (.mailboxAck id ch) s = .next (errInc s (pgMBX + ch) 1)) ∧
  -- mailboxPacket
  (∀ (s : State) (u : State) (ch : Nat) (d : Bytes),
    takeRunnel s (runMailbox ch 0 d) = some u →
    ch < 64 →
    (mbxBind s ch).valid = true →
    (mbxBind s ch).sender = 4 →
    mbxFull u ch = false →
    mbxLocked u ch = true →
    d ≠ [] →
    d.length ≤ 256 →
    exec (.mailboxPacket ch false d) s = .next (mbxPost (mbxData u ch 64 (fitBytes 256 d) 0) ch d.length)) ∧
  -- mailboxPacket
  (∀ (s : State) (u : State) (ch : Nat) (d : Bytes),
    takeRunnel s (runMailbox ch 1 d) = some u →
    ch < 64 →
    (mbxBind s ch).valid = true →
    (mbxBind s ch).receiver = 4 →
    mbxFull u ch = true →
    exec (.mailboxPacket ch true d) s = .next (fatalTaken (mbxEmptyInt (mbxClear u ch) ch) ch)) ∧
  -- rxStateLive
  (∀ (s : State) (ch : Nat),
    ch < 64 →
    mbxFull s ch = true →
    mbxRx s ch = 0 →
    exec (.rxStateLive ch) s = .next (mbxWakeEvent s ch))

/-- A channel that is ACTIVE issues the request that the scheduler picks and opens its row; a merge entry leaves at
  its window's end; a refresh is postponed behind an urgent entry up to four times or done, with those postponed
  before it; calibration, the temperature bands, the delay sets, remapping, repair and the failure of a channel
  change its registers as chapter 14 gives. When a postponed refresh is repaid is the model's choice (log entry 93).
  (R325, R326, R331, R334, R335, R338, R339, R341, R367, chapter 14) -/
def Obligations.DramCommandsAct : Prop :=
  -- dramCommandIssue
  (∀ (s : State) (u : State) (v : State) (ch : Nat) (ca : Nat) (r : DramReq),
    ch < 24 →
    chanState s ch = 2 →
    u = drainUpdate (serveQueued s ch) ch →
    dramPick u ch = some r →
    ca = servedCa u ch r.row →
    v = count (if rowHit u ch r then count u (drPage ch) 5 1 else u) (drPage ch) (if r.write then 4 else 3) 1 →
    exec (.dramCommandIssue ch) s = .next (drainUpdate (put { v with dram := { v.dram with queue := tset [] v.dram.queue ch ((tgetD v.dram.queue ch []).erase r),
                                                                                           open_ := tput v.dram.open_ (ch * 256 + bankOf (chanDecode u ch ca)) ((chanDecode u ch ca).row + 1) } }
      (.dram ch (if r.write then 2 else 1) ca)) ch)) ∧
  -- dramReadData
  (∀ (s : State) (ch : Nat) (da : Nat) (us : List (Nat × Nat × BitVec 16)),
    ch < 24 →
    exec (.dramReadData ch da us) s = .next (dramRead s ch (da / 64 * 64) (us.map fun u => (u.1, u.2.1,
      u.2.2.toNat)))) ∧
  -- mergeWindowExpiry
  (∀ (s : State) (ch : Nat) (l : Nat) (e : MergeEntry),
    (mergeOf s ch).find? (fun e => e.line = l) = some e →
    exec (.mergeWindowExpiry ch l) s = .next (mergeLeave s ch 7 e)) ∧
  -- refsbDue
  (∀ (s : State) (ch : Nat) (sc : Nat) (bank : Nat) (k : Nat),
    ch < 24 →
    sc < 2 →
    bank < 8 →
    1 ≤ chanState s ch →
    k = (ch * 2 + sc) * 8 + bank →
    refUrgent s ch sc (bank / 4) (bank % 4) = true →
    tgetD s.dram.refDue k 0 < 4 →
    exec (.refsbDue ch sc bank) s = .next (count { s with dram := { s.dram with refDue := tput s.dram.refDue k
                                                                                  (tgetD s.dram.refDue k 0 + 1) } }
      (drPage ch) 8 1)) ∧
  -- refsbDue
  (∀ (s : State) (ch : Nat) (sc : Nat) (bank : Nat) (k : Nat),
    ch < 24 →
    sc < 2 →
    bank < 8 →
    1 ≤ chanState s ch →
    k = (ch * 2 + sc) * 8 + bank →
    refUrgent s ch sc (bank / 4) (bank % 4) = true →
    4 ≤ tgetD s.dram.refDue k 0 →
    exec (.refsbDue ch sc bank) s = .next (dlyInstall (put s (.dram ch 3 (sc + 2 * (bank / 4) + 4 * (bank % 4)))) ch
      sc)) ∧
  -- refsbDue
  (∀ (s : State) (ch : Nat) (sc : Nat) (bank : Nat) (k : Nat),
    ch < 24 →
    sc < 2 →
    bank < 8 →
    1 ≤ chanState s ch →
    k = (ch * 2 + sc) * 8 + bank →
    refUrgent s ch sc (bank / 4) (bank % 4) = false →
    exec (.refsbDue ch sc bank) s = .next (dlyInstall ((rangeFrom 0 (tgetD s.dram.refDue k 0 + 1)).foldl (fun s _ =>
      put s (.dram ch 3 (sc + 2 * (bank / 4) + 4 * (bank % 4)))) { s with dram := { s.dram with refDue := tdel s.dram.refDue k } })
      ch sc)) ∧
  -- zqCalibration
  (∀ (s : State) (ch : Nat),
    ch < 24 →
    1 ≤ chanState s ch →
    exec (.zqCalibration ch) s = .next (put s (.dram ch 4 0))) ∧
  -- spdTempRead
  (∀ (s : State) (u : State) (v : State) (ch : Nat) (t : Nat) (b : Nat),
    ch < 24 →
    1 ≤ chanState s ch →
    b = bandOf (rf s (drStat ch) 4 4) t →
    u = wf (wf s (drStat ch) 8 8 (min 255 t)) (drStat ch) 4 4 b →
    v = (rangeFrom 0 24).foldl (fun x c => wb x (drStat c) 16 (((rangeFrom 0 24).any fun c => 85 ≤ rf u (drStat c) 8
      8) && decide (1 ≤ chanState x c))) u →
    b = rf s (drStat ch) 4 4 →
    exec (.spdTempRead ch t) s = .next v) ∧
  -- spdTempRead
  (∀ (s : State) (u : State) (v : State) (ch : Nat) (t : Nat) (b : Nat),
    ch < 24 →
    1 ≤ chanState s ch →
    b = bandOf (rf s (drStat ch) 4 4) t →
    u = wf (wf s (drStat ch) 8 8 (min 255 t)) (drStat ch) 4 4 b →
    v = (rangeFrom 0 24).foldl (fun x c => wb x (drStat c) 16 (((rangeFrom 0 24).any fun c => 85 ≤ rf u (drStat c) 8
      8) && decide (1 ≤ chanState x c))) u →
    b ≠ rf s (drStat ch) 4 4 →
    exec (.spdTempRead ch t) s = .next (setIsr (wb v (drStat ch) 17 true) (drPage ch) 0)) ∧
  -- dlyApply
  (∀ (s : State) (u : State) (id : Nat) (ch : Nat) (v : W32),
    ch < 24 →
    isFw id = true →
    u = wr s (ra (drPage ch) 0x138) (writeFields false (rd s (ra (drPage ch) 0x138)) v.toNat [fRW 0 4]) →
    v.toNat.testBit 4 = true →
    exec (.dlyApply id ch v) s = .next { u with dram := { u.dram with apply := insNat (2 * ch) (insNat (2 * ch + 1)
                                                                        u.dram.apply) } }) ∧
  -- dlyApply
  (∀ (s : State) (u : State) (id : Nat) (ch : Nat) (v : W32),
    ch < 24 →
    isFw id = true →
    u = wr s (ra (drPage ch) 0x138) (writeFields false (rd s (ra (drPage ch) 0x138)) v.toNat [fRW 0 4]) →
    v.toNat.testBit 4 = false →
    exec (.dlyApply id ch v) s = .next u) ∧
  -- dlyStaleWarn
  (∀ (s : State) (ch : Nat),
    ch < 24 →
    rb s (drStat ch) 17 = true →
    exec (.dlyStaleWarn ch) s = .next (eventAt s (drPage ch) sevWarn clDramChannel (rf s (drStat ch) 4 4))) ∧
  -- remap
  (∀ (s : State) (id : Nat) (ch : Nat) (k : Nat),
    remapOpen s id ch = true →
    remapSlot s ch (remapKey s id ch) = none →
    freeSlot s ch = some k →
    ∃ u, u = wf (wb (wb (wb s (drCmd ch) 4 false) (drCmd ch) 3 false) (drCmd ch) 2 true) (drCmd ch) 5 12 k ∧ exec
      (.remap id ch) s = .next { u with dram := { u.dram with copying := tput u.dram.copying ch (k, (remapKey s id
                                                                ch), false) } }) ∧
  -- remap
  (∀ (s : State) (id : Nat) (ch : Nat) (k : Nat),
    remapOpen s id ch = true →
    remapSlot s ch (remapKey s id ch) = some k →
    exec (.remap id ch) s = .next (wf (wb s (drCmd ch) 4 true) (drCmd ch) 5 12 k)) ∧
  -- remap
  (∀ (s : State) (id : Nat) (ch : Nat),
    remapOpen s id ch = true →
    remapSlot s ch (remapKey s id ch) = none →
    freeSlot s ch = none →
    exec (.remap id ch) s = .next (wb (wb s (drCmd ch) 3 true) (drCmd ch) 4 false)) ∧
  -- remapLookup
  (∀ (s : State) (id : Nat) (ch : Nat) (k : Nat),
    remapOpen s id ch = true →
    remapSlot s ch (remapKey s id ch) = some k →
    exec (.remapLookup id ch) s = .next (wf (wb s (drCmd ch) 4 true) (drCmd ch) 5 12 k)) ∧
  -- remapLookup
  (∀ (s : State) (id : Nat) (ch : Nat),
    remapOpen s id ch = true →
    remapSlot s ch (remapKey s id ch) = none →
    exec (.remapLookup id ch) s = .next (wb s (drCmd ch) 4 false)) ∧
  -- ppr
  (∀ (s : State) (u : State) (id : Nat) (ch : Nat),
    remapOpen s id ch = true →
    chanState s ch ≠ 2 →
    u = { s with dram := { s.dram with ppr := tput s.dram.ppr ch (insNat (remapKey s id ch) (tgetD s.dram.ppr ch
                                         [])) } } →
    exec (.ppr id ch true) s = .next (eventAt (wb u (drCmd ch) 4 false) (drPage ch) sevInfo clReserve ((remapKey s
      id ch) + ch * 0x1000000))) ∧
  -- ppr
  (∀ (s : State) (u : State) (id : Nat) (ch : Nat) (k : Nat),
    remapOpen s id ch = true →
    chanState s ch ≠ 2 →
    remapSlot s ch (remapKey s id ch) = none →
    freeSlot s ch = some k →
    u = wb (remapInstall s ch k (remapKey s id ch)) (drCmd ch) 4 true →
    exec (.ppr id ch false) s = .next (reserveEvent u (drPage ch) ((remapKey s id ch) + ch * 0x1000000) (4096 -
      slotsUsed u ch))) ∧
  -- ppr
  (∀ (s : State) (id : Nat) (ch : Nat) (r : Bool),
    remapOpen s id ch = true →
    chanState s ch = 2 →
    exec (.ppr id ch r) s = .next s) ∧
  -- remapCopyDone
  (∀ (s : State) (ch : Nat) (k : Nat) (key : Nat) (a : Bool),
    tget s.dram.copying ch = some (k, key, a) →
    ∃ u v, u = wb (remapInstall { s with dram := { s.dram with copying := tdel s.dram.copying ch } } ch k key)
      (drCmd ch) 2 false ∧ v = setTrackRows u ch ((trackRows u ch).filter fun t => t.key ≠ key) ∧ exec
      (.remapCopyDone ch) s = .next (reserveEvent (setIsr v (drPage ch) 1) (drPage ch) (key + ch * 0x1000000) (4096
      - slotsUsed v ch))) ∧
  -- autoRemapStart
  (∀ (s : State) (ch : Nat) (key : Nat) (ks : List Nat),
    tgetD s.fault.rowWait ch [] = key :: ks →
    ch < 24 →
    rb s (ra pgFLT 0x100) 0 = true →
    rb s (drCmd ch) 2 = false →
    exec (.autoRemapStart ch) s = .next (remapStart { s with fault := { s.fault with rowWait := tset [] s.fault.rowWait ch ks } }
      ch key true)) ∧
  -- dramChannelFail
  (∀ (s : State) (ch : Nat),
    ch < 24 →
    chanState s ch = 2 →
    exec (.dramChannelFail ch) s = .next (eventAt (wf s (drStat ch) 0 2 3) (drPage ch) sevFatal clDramChannel ch))

/-- A read of a Basin line answers the line as the decode leaves it, a write stores it; an atomic that is aligned,
  on a line that takes it, whose sub-page is not in CISTERN, begins at its line's home as a read and write in one of
  its operand's bytes, of which Table 15-1 gives the result. (R343, R345, R346, R348, R349, chapter 15) -/
def Obligations.BasinAccessesAndAtomics : Prop :=
  -- basinLineAccess
  (∀ (s : State) (a : BasinAccess) (n : Nat),
    a.group < 64 →
    a.offset < 0x4000000 →
    servingBank s a.group (a.offset / 64 * 64) = some n →
    a.write = none →
    exec (.basinLineAccess a) s = .next (basinAnswer (basinDecode (count (bankWake s a.group n) (pgBASN + a.group) 3
      1) a.group (a.offset / 64 * 64) n a.upset0.toNat a.upset1.toNat) a.group (a.offset / 64 * 64) a.parity)) ∧
  -- basinLineAccess
  (∀ (s : State) (a : BasinAccess) (n : Nat) (c : Nat) (d : Bytes) (m : BitVec 64),
    a.group < 64 →
    a.offset < 0x4000000 →
    servingBank s a.group (a.offset / 64 * 64) = some n →
    a.write = some (d, m, c) →
    exec (.basinLineAccess a) s = .next (basinWrite (count (bankWake s a.group n) (pgBASN + a.group) 3 1) a.group
      (a.offset / 64 * 64) n a.upset0.toNat a.upset1.toNat d m c a.parity)) ∧
  -- atomicAddI32
  (∀ (s : State) (q : AtomicReq) (pl : Place),
    atomicAllowed s .addI32 q pl →
    exec (.atomicAddI32 q) s = .next (homeBegin s (atomicHome s .addI32 q))) ∧
  (∀ (s : State) (q : AtomicReq),
    q.pa % 4 ≠ 0 →
    exec (.atomicAddI32 q) s = .next (atomicAnswer s q stNotPermitted 0 0)) ∧
  -- atomicAddI64
  (∀ (s : State) (q : AtomicReq) (pl : Place),
    atomicAllowed s .addI64 q pl →
    exec (.atomicAddI64 q) s = .next (homeBegin s (atomicHome s .addI64 q))) ∧
  (∀ (s : State) (q : AtomicReq),
    q.pa % 8 ≠ 0 →
    exec (.atomicAddI64 q) s = .next (atomicAnswer s q stNotPermitted 0 0)) ∧
  -- atomicAddF32
  (∀ (s : State) (q : AtomicReq) (pl : Place),
    atomicAllowed s .addF32 q pl →
    exec (.atomicAddF32 q) s = .next (homeBegin s (atomicHome s .addF32 q))) ∧
  (∀ (s : State) (q : AtomicReq),
    q.pa % 4 ≠ 0 →
    exec (.atomicAddF32 q) s = .next (atomicAnswer s q stNotPermitted 0 0)) ∧
  -- atomicAddBf16x2
  (∀ (s : State) (q : AtomicReq) (pl : Place),
    atomicAllowed s .addBf16x2 q pl →
    exec (.atomicAddBf16x2 q) s = .next (homeBegin s (atomicHome s .addBf16x2 q))) ∧
  (∀ (s : State) (q : AtomicReq),
    q.pa % 4 ≠ 0 →
    exec (.atomicAddBf16x2 q) s = .next (atomicAnswer s q stNotPermitted 0 0)) ∧
  -- atomicSwap32
  (∀ (s : State) (q : AtomicReq) (pl : Place),
    atomicAllowed s .swap32 q pl →
    exec (.atomicSwap32 q) s = .next (homeBegin s (atomicHome s .swap32 q))) ∧
  (∀ (s : State) (q : AtomicReq),
    q.pa % 4 ≠ 0 →
    exec (.atomicSwap32 q) s = .next (atomicAnswer s q stNotPermitted 0 0)) ∧
  -- atomicSwap64
  (∀ (s : State) (q : AtomicReq) (pl : Place),
    atomicAllowed s .swap64 q pl →
    exec (.atomicSwap64 q) s = .next (homeBegin s (atomicHome s .swap64 q))) ∧
  (∀ (s : State) (q : AtomicReq),
    q.pa % 8 ≠ 0 →
    exec (.atomicSwap64 q) s = .next (atomicAnswer s q stNotPermitted 0 0)) ∧
  (∀ (k : AtomicKind) (q : AtomicReq) (l : Bytes) (j : Nat),
    l.length = 64 →
    q.pa % 64 + atomicWidth k ≤ 64 →
    j < 64 →
    (nth (atomicData k q l) j 0 = if q.pa % 64 ≤ j ∧ j < q.pa % 64 + atomicWidth k then nth (natLe (atomicWidth k)
      (atomicResult k (leAt l (q.pa % 64) (atomicWidth k)) (q.value.toNat % 2 ^ (8 * atomicWidth k)))) (j - q.pa %
      64) 0 else 0))

/-- The actions of BANK_CMD on a group that is not busy, the automatic ones, the ends of a substitution and of a
  test, and a field fuse change the banks' registers and the reserve as chapter 15 gives. (R350, R351, R352, R353,
  R354, R367, R372, chapter 15) -/
def Obligations.BankCommandsAct : Prop :=
  -- bankRetEntry
  (∀ (s : State) (g : Nat) (n : Nat),
    g < 64 →
    n < 17 →
    mayRet s g n = true →
    bankPwr s g n = 0 →
    1 ≤ bankLevel s g →
    exec (.bankRetEntry g n) s = .next (setPwr s g n 1)) ∧
  -- bankSubstitute
  (∀ (s : State) (u : State) (id : Nat) (g : Nat) (n : Nat) (r : Nat),
    g < 64 →
    isFw id = true →
    bankBusy s g = false →
    u = cmdErr s g false →
    n < 17 →
    bankRole u g n = 0 →
    reserveBank u g = some r →
    ∃ v w, v = wb (setPwr (setPwr (setBankRole u g n 3) g n 0) g r 0) (bankCmd g) 8 true ∧ w = { v with basin := { v.basin with subst := tput v.basin.subst g (n, r, v.now) } }
      ∧ exec (.bankSubstitute id g n) s = .next (wf (voidLines w fun line => ((basinPlace w line).map fun x =>
      decide (x.1 = g)).getD false) (ra (pgBASN + g) 0x148) 0 17 0)) ∧
  -- bankSubstitute
  (∀ (s : State) (u : State) (id : Nat) (g : Nat) (n : Nat),
    g < 64 →
    isFw id = true →
    bankBusy s g = false →
    u = cmdErr s g false →
    (17 ≤ n ∨ bankRole u g n ≠ 0 ∨ reserveBank u g = none) →
    exec (.bankSubstitute id g n) s = .next (cmdErr u g true)) ∧
  -- bankSubstitutionDone
  (∀ (s : State) (g : Nat) (n : Nat) (r : Nat) (k : Nat),
    tget s.basin.subst g = some (n, r, k) →
    ∃ u v w x, u = wf (setBankRole s g r 0) (bankReg g r) 0 4 (bankPos s g n) ∧ v = wf (wb (setPwr (setBankRole u g
      n 2) g n 2) (bankCmd g) 8 false) (ra (pgBASN + g) 0x148) 0 17 65536 ∧
      w = { v with basin := { v.basin with subst := tdel v.basin.subst g,
                                                                                                                       entered := insNat (globalBank g r) v.basin.entered },
                                                                                               fault := { v.fault with banks := tdel v.fault.banks (globalBank g r) } }
      ∧
      x = bankLedger w ∧ exec (.bankSubstitutionDone g) s = .next (reserveEvent x (pgBASN + g) (2 ^ 63 +
      globalBank g n) (banksLeft x))) ∧
  -- bankReinstate
  (∀ (s : State) (u : State) (id : Nat) (g : Nat) (n : Nat),
    g < 64 →
    isFw id = true →
    bankBusy s g = false →
    u = cmdErr s g false →
    n < 17 →
    (bankRole u g n = 1 ∨ bankRole u g n = 2) →
    ∃ v, v = wb (setPwr u g n 0) (bankCmd g) 8 true ∧ exec (.bankReinstate id g n) s = .next { v with basin := { v.basin with test := tput v.basin.test g n } }) ∧
  -- reinstateTestDone
  (∀ (s : State) (u : State) (v : State) (g : Nat) (n : Nat),
    tget s.basin.test g = some n →
    u = wb { s with basin := { s.basin with test := tdel s.basin.test g } } (bankCmd g) 8 false →
    v = setPwr (setBankRole u g n 1) g n 2 →
    exec (.reinstateTestDone g true) s = .next (bankLedger { v with basin := { v.basin with entered := v.basin.entered.erase (globalBank g n) },
                                                                    fault := { v.fault with banks := tdel v.fault.banks (globalBank g n) } })) ∧
  -- reinstateTestDone
  (∀ (s : State) (u : State) (v : State) (g : Nat) (n : Nat),
    tget s.basin.test g = some n →
    u = wb { s with basin := { s.basin with test := tdel s.basin.test g } } (bankCmd g) 8 false →
    v = setPwr (setBankRole u g n 2) g n 2 →
    exec (.reinstateTestDone g false) s = .next (bankLedger (cmdErr v g true))) ∧
  -- bankSetOn
  (∀ (s : State) (u : State) (id : Nat) (g : Nat) (n : Nat),
    g < 64 →
    isFw id = true →
    bankBusy s g = false →
    u = cmdErr s g false →
    n < 17 →
    bankRole u g n = 0 →
    exec (.bankSetOn id g n) s = .next (setPwr u g n 0)) ∧
  -- bankSetRet
  (∀ (s : State) (u : State) (id : Nat) (g : Nat) (n : Nat),
    g < 64 →
    isFw id = true →
    bankBusy s g = false →
    u = cmdErr s g false →
    n < 17 →
    mayRet u g n = true →
    exec (.bankSetRet id g n) s = .next (setPwr u g n 1)) ∧
  -- bankSetOff
  (∀ (s : State) (u : State) (id : Nat) (g : Nat) (n : Nat),
    g < 64 →
    isFw id = true →
    bankBusy s g = false →
    u = cmdErr s g false →
    n < 17 →
    mayOff u g n = true →
    exec (.bankSetOff id g n) s = .next (loseBank (setPwr u g n 2) g n)) ∧
  -- autoSubstituteStart
  (∀ (s : State) (u : State) (g : Nat) (n : Nat) (r : Nat) (ns : List Nat),
    tgetD s.fault.bankWait g [] = n :: ns →
    g < 64 →
    rb s (ra pgFLT 0x100) 1 = true →
    bankBusy s g = false →
    u = { s with fault := { s.fault with bankWait := tset [] s.fault.bankWait g ns } } →
    n < 17 →
    bankRole u g n = 0 →
    reserveBank u g = some r →
    ∃ v w, v = wb (setPwr (setPwr (setBankRole u g n 3) g n 0) g r 0) (bankCmd g) 8 true ∧ w = { v with basin := { v.basin with subst := tput v.basin.subst g (n, r, v.now) } }
      ∧ exec (.autoSubstituteStart g) s = .next (wf (voidLines w fun line => ((basinPlace w line).map fun x =>
      decide (x.1 = g)).getD false) (ra (pgBASN + g) 0x148) 0 17 0)) ∧
  -- fieldFuseBlow
  (∀ (s : State) (g : Nat) (n : Nat) (c : Nat),
    g < 64 →
    n < 17 →
    bankPwr s g n = 2 →
    (bankRole s g n = 1 ∨ bankRole s g n = 2) →
    0 < tgetD s.basin.cols (globalBank g n) 32 →
    ∃ k left, k = globalBank g n ∧ left = tgetD s.basin.cols k 32 - 1 ∧ exec (.fieldFuseBlow 2 g n c) s = .next
      (reserveEvent { s with basin := { s.basin with cols := tset 32 s.basin.cols k left } } (pgBASN + g) (2 ^ 63 +
      k) left)) ∧
  (∀ (s : State) (id : Nat) (g : Nat) (n : Nat),
    g < 64 →
    isFw id = true →
    bankBusy s g = true →
    (exec (.bankSetOn id g n) s = .next s ∧ exec (.bankReinstate id g n) s = .next s))

/-- A SCRUB whose command keeps Table 16-2 runs and completes with its summary; ENGINE_TEST starts its rounds, a
  failing round retires the engine; a kick restarts a watchdog, whose expiry retires the processor and brings the
  reserve in; the head pointer frees entries; overflow and summary records are written; an acknowledged alert leaves
  PENDING. Where a cancelled scrub stands and how many Cistern blocks fail are free values (log entry 35). (R362,
  R363, R369, R370, R371, R372, R373, R375, R376, R377, chapter 16) -/
def Obligations.FaultCommandsAct : Prop :=
  -- scrub
  (∀ (s : State) (h : Nat) (o : Op),
    ready s h 0x20 = some o →
    scrubOk s h o = true →
    exec (.scrub h) s = .next (modOp s h fun o => { o with phase := if o.askSusp then .suspending else .running })) ∧
  -- scrub
  (∀ (s : State) (h : Nat) (o : Op),
    ready s h 0x20 = some o →
    scrubOk s h o = false →
    exec (.scrub h) s = .next (endWith s h stNotPermitted [0, 0, 0, 0])) ∧
  -- scrubComplete
  (∀ (s : State) (u : State) (v : State) (w : State) (h : Nat) (o : Op) (cut : BitVec 64) (bad : BitVec 64) (x :
    Scrubbed) (b : Bool),
    opOf s h = some o →
    o.opcode = 0x20 →
    o.phase = .running →
    drawFree s = (cut, u) →
    drawFree u = (bad, v) →
    x = scrubRead v o cut.toNat →
    userWrite v (opUser o (.fetch h) h) (sumPa o) (scrubBytes x o.prog (bad.toNat % (x.blocks + 1))) 0 .atomic =
      .done b w →
    exec (.scrubComplete h) s = .next (endWith (count w pgFLT 4 x.read) h 0 [o.prog.uncorr, o.prog.rowsMarked,
      (o.prog.corr.map Prod.snd).sum + o.prog.corrBasin, x.read])) ∧
  -- ceBucketLeak
  (∀ (s : State) (b : Bool) (i : Nat),
    i < (if b then 64 else 24) →
    ∃ k, k = (if b then 64 + i else i) ∧ exec (.ceBucketLeak b i) s = .next { s with fault := { s.fault with buckets := tset 0 s.fault.buckets k (tgetD s.fault.buckets k 0 - 1) } }) ∧
  -- engineTest
  (∀ (s : State) (h : Nat) (o : Op) (es : List Nat),
    ready s h 0x21 = some o →
    namedEngines s o = some es →
    ∃ ts n, ts = es.filter (fun e => !engineRetired s e) ∧ n = (if fld (opnd o 0x10 4) 8 8 = 0 then 16 else fld
      (opnd o 0x10 4) 8 8) ∧ exec (.engineTest h) s = .next (testEnd (ts.foldl wakeReserve (modOp s h fun o => { o with phase := .running,
                                                                                                                        tests := ts.map fun e => (e, n) }))
      h)) ∧
  -- engineTestRoundDone
  (∀ (s : State) (h : Nat) (g : Nat) (e : Nat) (n : Nat) (o : Op),
    opOf s h = some o →
    o.opcode = 0x21 →
    o.phase = .running →
    testEngine s g = some e →
    o.tests.find? (fun t => t.1 = g) = some (g, n) →
    testedEarlier s h e = false →
    s.cmd.tiles.any (fun t => t.eng = some e) = false →
    1 < n →
    exec (.engineTestRoundDone h g true) s = .next (modOp s h fun o => { o with tests := o.tests.map fun t => if t.1
                                                                                  = g then (g, n - 1) else t })) ∧
  -- engineTestRoundDone
  (∀ (s : State) (h : Nat) (g : Nat) (e : Nat) (n : Nat) (o : Op),
    opOf s h = some o →
    o.opcode = 0x21 →
    o.phase = .running →
    testEngine s g = some e →
    o.tests.find? (fun t => t.1 = g) = some (g, n) →
    testedEarlier s h e = false →
    s.cmd.tiles.any (fun t => t.eng = some e) = false →
    n ≤ 1 →
    exec (.engineTestRoundDone h g true) s = .next (testEnd (gateReserve (modOp s h (fun o => { o with tests := o.tests.filter fun t => t.1 ≠ g,
                                                                                                       tested := o.tested + 1,
                                                                                                       testFails := o.testFails }))
      (e / 4)) h)) ∧
  -- engineTestRoundDone
  (∀ (s : State) (u : State) (v : State) (h : Nat) (g : Nat) (e : Nat) (n : Nat) (o : Op),
    opOf s h = some o →
    o.opcode = 0x21 →
    o.phase = .running →
    testEngine s g = some e →
    o.tests.find? (fun t => t.1 = g) = some (g, n) →
    testedEarlier s h e = false →
    s.cmd.tiles.any (fun t => t.eng = some e) = false →
    u = retireEngine (modOp s h (fun o => { o with tests := o.tests.filter fun t => t.1 ≠ g, tested := o.tested + 1,
                                                   testFails := o.testFails ++ [e] })) e →
    v = (if coreRole u (e / 4) = 3 then modOp u h fun o => { o with substituted := o.substituted + 1 } else u) →
    exec (.engineTestRoundDone h g false) s = .next (testEnd v h)) ∧
  -- cpKick
  (∀ (s : State) (id : Nat),
    isCp id = true →
    exec (.cpKick id) s = .next { s with fault := { s.fault with kicks := setNth s.fault.kicks (id - 0x010) s.now } }) ∧
  -- cpWatchdogExpiry
  (∀ (s : State) (t : State) (u : State) (v : State) (c : Nat) (n : Nat),
    c < 5 →
    cpLate s c = true →
    t = eventAt (setCpRole s c 2) pgFLT sevError clCp c →
    u = (tkeys t.cmd.ops (heldBy t c)).foldl (fun s h => endWith (leaveQueue s h) h stInternal [0, 0, 0, 0]) t →
    (rangeFrom 0 5).find? (fun n => cpRole u n = 1) = some n →
    v = wb (setCpRole u n 0) (ra pgFLT 0x138) 21 false →
    exec (.cpWatchdogExpiry c) s = .next (reserveEvent { v with fault := { v.fault with kicks := setNth v.fault.kicks n v.now } }
      pgFLT n 0)) ∧
  -- cpWatchdogExpiry
  (∀ (s : State) (t : State) (u : State) (c : Nat),
    c < 5 →
    cpLate s c = true →
    t = eventAt (setCpRole s c 2) pgFLT sevError clCp c →
    u = (tkeys t.cmd.ops (heldBy t c)).foldl (fun s h => endWith (leaveQueue s h) h stInternal [0, 0, 0, 0]) t →
    (rangeFrom 0 5).find? (fun n => cpRole u n = 1) = none →
    exec (.cpWatchdogExpiry c) s = .next u) ∧
  -- faultQHeadWrite
  (∀ (s : State) (id : Nat) (n : Nat) (v : W32),
    n = (v.toNat % 4096 + 4096 - rd s (ra pgFLT 0x118)) % 4096 →
    n ≤ s.fault.used →
    exec (.faultQHeadWrite id v) s = .next (faultStat (wr { s with fault := { s.fault with used := s.fault.used - n } }
      (ra pgFLT 0x118) (v.toNat % 4096)))) ∧
  -- faultQHeadWrite
  (∀ (s : State) (id : Nat) (v : W32),
    s.fault.used < (v.toNat % 4096 + 4096 - rd s (ra pgFLT 0x118)) % 4096 →
    exec (.faultQHeadWrite id v) s = .next (errInc s pgFLT 1)) ∧
  -- eventRateRefill
  (∀ (s : State) (k : Nat),
    exec (.eventRateRefill k) s = .next { s with fault := { s.fault with missing := tset 0 s.fault.missing k (tgetD
                                                                           s.fault.missing k 0 - 1) } }) ∧
  -- foldSummary
  (∀ (s : State),
    exec .foldSummary s = .next ([3, 2, 1, 0].foldl (fun x sev => (s.fault.folded.filter fun e => e.2.2 = sev).foldl
      (fun x e => putRecord x { time := x.now, source := e.1 / 64, sev := sev, summary := true, cls := e.1 % 64,
                                count := e.2.1 }) x) { s with fault := { s.fault with folded := [] } })) ∧
  -- overflowRecordWrite
  (∀ (s : State) (k : Nat) (x : OvfSlot),
    s.fault.ovf = [(k, x)] →
    entryFree s x.sev = true →
    exec .overflowRecordWrite s = .next (faultStat (faultPut { s with fault := { s.fault with ovf := tdel s.fault.ovf k } }
      { time := s.now, source := pgFLT, sev := x.sev, cls := 0x3F, count := x.count, detail := k }))) ∧
  -- alertAck
  (∀ (s : State) (u : State) (id : Nat),
    u = wf { s with fault := { s.fault with acked := 0 } } (ra pgFLT 0x128) 2 12 (rf s (ra pgFLT 0x128) 2 12 -
      s.fault.acked) →
    (s.fault.acked < rf s (ra pgFLT 0x128) 2 12 ∨ rb u (ra pgFLT 0x128) 0 = false) →
    exec (.alertAck id) s = .next u) ∧
  -- alertAck
  (∀ (s : State) (u : State) (id : Nat),
    u = wf { s with fault := { s.fault with acked := 0 } } (ra pgFLT 0x128) 2 12 (rf s (ra pgFLT 0x128) 2 12 -
      s.fault.acked) →
    rf s (ra pgFLT 0x128) 2 12 ≤ s.fault.acked →
    rb u (ra pgFLT 0x128) 0 = true →
    exec (.alertAck id) s = .next (put (wb u (ra pgFLT 0x128) 0 false) (.pin "ALERT_N" true)))

/-- The serving controller, and one that has fenced itself, sends the heartbeat frame of Table 17-7 with the next
  number on both paths; a heartbeat is recorded and answered on its path; when both paths are lost a STANDBY takes
  over, a SYNCING controller fences and the serving one recognises it; the waits at start and after fencing end in
  SOLO where the drives' reservations say so, and drives that another holds stay PREEMPTED. (R382, R383, R393, R394,
  R395, R396, R397, Table 17-2, Table 17-7, chapter 17) -/
def Obligations.PairHeartbeatsAct : Prop :=
  -- heartbeatSend
  (∀ (s : State) (u : State),
    s.pwr.held = 0 →
    (serving s = true ∨ (pairState s = 3 ∧ s.pair.beats = true)) →
    u = modPair s (fun p => { p with seq := (s.pair.seq + 1) % 65536 }) →
    ∃ f, f = ownBeat u ((s.pair.seq + 1) % 65536) ∧ exec .heartbeatSend s = .next (put (beatPacket (beatPacket u 20
      f) 21 f) (.heartbeat f))) ∧
  (∀ (s : State) (b : Heartbeat),
    s.pwr.held = 0 →
    b.pathB = true →
    b.crcOk = true →
    (exec (.heartbeat b) s = .next (put (beat s b) (.heartbeat (ownBeat (beat s b) b.seq))) ∧ exec (.heartbeatAnswer
      b) s = .next (beat s b))) ∧
  -- heartbeat
  (∀ (s : State) (u : State) (b : Heartbeat) (p : Nat),
    s.pwr.held = 0 →
    b.pathB = false →
    b.crcOk = true →
    takeBeat s b = some (p, u) →
    exec (.heartbeat b) s = .next (beatPacket (beat u b) p (ownBeat (beat u b) b.seq))) ∧
  -- heartbeatAnswer
  (∀ (s : State) (u : State) (b : Heartbeat) (p : Nat),
    s.pwr.held = 0 →
    b.pathB = false →
    takeBeat s b = some (p, u) →
    exec (.heartbeatAnswer b) s = .next (beat u b)) ∧
  (∀ (s : State) (b : Heartbeat),
    s.pwr.held = 0 →
    b.pathB = true →
    b.crcOk = false →
    (exec (.heartbeat b) s = .next (modPair s fun p => { p with goodB := 0 }) ∧ exec (.heartbeatAnswer b) s = .next
      (modPair s fun p => { p with goodB := 0 }))) ∧
  (∀ (s : State) (u : State) (b : Heartbeat) (p : Nat),
    s.pwr.held = 0 →
    b.pathB = false →
    b.crcOk = false →
    takeBeat s b = some (p, u) →
    exec (.heartbeat b) s = .next (modPair u fun p => { p with goodA := 0 })) ∧
  -- heartbeatPathLoss
  (∀ (s : State) (v : State),
    pathGood s false = true →
    v = setClean (modPair (wb s pairStat (pathBit false) false) fun p => { p with goodA := 0, since := none }) 0 →
    heartbeatGood v = true →
    exec (.heartbeatPathLoss false) s = .next (eventAt v pgPAIR sevWarn clPair 0)) ∧
  -- heartbeatPathLoss
  (∀ (s : State) (v : State),
    pathGood s true = true →
    v = setClean (modPair (wb s pairStat (pathBit true) false) fun p => { p with goodB := 0, since := none }) 0 →
    heartbeatGood v = true →
    exec (.heartbeatPathLoss true) s = .next (eventAt v pgPAIR sevWarn clPair 1)) ∧
  -- heartbeatPathLoss
  (∀ (s : State) (v : State) (u : State),
    pathGood s false = true →
    v = setClean (modPair (wb s pairStat (pathBit false) false) fun p => { p with goodA := 0, since := none }) 0 →
    heartbeatGood v = false →
    u = modPair (wb (wf v pairStat 3 3 7) pairStat 8 false) (fun p => { p with pause := false, finalTick := false })
      →
    ((pairState u = 1 → exec (.heartbeatPathLoss false) s = .next (takeover u)) ∧ (pairState u = 2 → exec
      (.heartbeatPathLoss false) s = .next (portsFollow (setPair u 3))) ∧ (pairState u = 0 ∨ pairState u = 4 → exec
      (.heartbeatPathLoss false) s = .next (modPair u fun p => { p with recognised := true })))) ∧
  -- selfFence
  (∀ (s : State),
    serving s = true →
    s.pair.recognised = true →
    exec .selfFence s = .next (fenceSelf s)) ∧
  -- fencedPortsOut
  (∀ (s : State),
    pairState s = 3 →
    exec .fencedPortsOut s = .next (servicePorts s false)) ∧
  -- soloWaitExpiry
  (∀ (s : State) (u : State) (ds : List Nat),
    pairState s = 3 →
    s.pair.fencedSelf = true →
    heartbeatGood s = false →
    activeDrives s ≠ [] →
    u = askReports s →
    (activeDrives u).all ds.contains = true →
    exec (.soloWaitExpiry ds) s = .next (goSolo u)) ∧
  -- soloWaitExpiry
  (∀ (s : State) (u : State) (ds : List Nat),
    pairState s = 3 →
    s.pair.fencedSelf = true →
    heartbeatGood s = false →
    activeDrives s ≠ [] →
    u = askReports s →
    (activeDrives u).all ds.contains = false →
    exec (.soloWaitExpiry ds) s = .next (drvGauges (((activeDrives u).filter fun d => !ds.contains d).foldl
      driveTaken u))) ∧
  -- runnelLossTimeout
  (∀ (s : State),
    usable s 20 = false →
    usable s 21 = false →
    pathGood s true = true →
    pairState s = 0 →
    exec .runnelLossTimeout s = .next (goSolo s)) ∧
  -- runnelLossTimeout
  (∀ (s : State),
    usable s 20 = false →
    usable s 21 = false →
    pathGood s true = true →
    pairState s = 1 →
    exec .runnelLossTimeout s = .next (portsFollow (setPair s 3))) ∧
  -- bootWaitExpiry
  (∀ (s : State) (a : Bool),
    s.pair.booting = true →
    pairState s = 3 →
    heartbeatGood s = false →
    partnerState s = 7 →
    (if (activeDrives s).isEmpty then !secondary s else a) = true →
    exec (.bootWaitExpiry a) s = .next (finishStart (goSolo s))) ∧
  -- bootWaitExpiry
  (∀ (s : State) (a : Bool),
    s.pair.booting = true →
    pairState s = 3 →
    heartbeatGood s = false →
    partnerState s = 7 →
    (if (activeDrives s).isEmpty then !secondary s else a) = false →
    exec (.bootWaitExpiry a) s = .next (finishStart (eventAt s pgPAIR sevError clPair 3))) ∧
  -- frameAuditDone
  (∀ (s : State) (u : State),
    s.pair.audit = true →
    u = { (modPair s fun p => { p with audit := false }) with tier := { s.tier with cisUsed := s.tier.cisUsed.filter ((s.tier.subs.filter fun e => e.2.state = 3).map fun e => e.2.frame).contains } }
      →
    exec .frameAuditDone s = .next (wr u (ra pgTIER 0x118) (cisFree u)))

/-- A receiving controller that takes the packet of a mirrored write, directory change or delta applies it and
  acknowledges it; an acknowledgement lets its happening go on; a tick closes with its number; health reports count;
  handover passes the part of ACTIVE; the end of a resynchronisation makes STANDBY; a refused action sets CMD_ERR.
  The packets' bits are the model's (log entry 22); issued tiles count as committed when the drain times out (log
  entry 88). (R389, R390, R391, R392, R400, R401, R403, R404, R405, R406, R409, chapter 17) -/
def Obligations.PairMirrorAndHandoverAct : Prop :=
  -- mwr
  (∀ (s : State) (u : State) (v : State) (t : Nat) (pa : Nat) (d : Bytes) (p : Option Nat) (n : Nat),
    receives s = true →
    n = (p.map storedCode).getD 0 →
    takeRunnel s (runMwr t pa none n d) = some u →
    stagedOn u ⟨t, false, pa, d, none, n⟩ = false →
    (subsOf pa d.length).foldl (fun (acc : Option State) q => acc.bind fun s => ownFrame s q) (some u) = some v →
    exec (.mwr t pa d none p) s = .next (sendRunnel (writeRun v pa d n) 0 (runMack t false))) ∧
  -- mwr
  (∀ (s : State) (u : State) (v : State) (t : Nat) (pa : Nat) (d : Bytes) (p : Option Nat) (n : Nat) (m : BitVec
    64),
    receives s = true →
    n = (p.map storedCode).getD 0 →
    takeRunnel s (runMwr t pa (some m) n d) = some u →
    stagedOn u ⟨t, false, pa, d, some m, n⟩ = false →
    (subsOf pa d.length).foldl (fun (acc : Option State) q => acc.bind fun s => ownFrame s q) (some u) = some v →
    exec (.mwr t pa d (some m) p) s = .next (sendRunnel (writeLine v (pa / 64) (fitBytes 64 d) m.toNat n) 0 (runMack
      t false))) ∧
  -- mwr
  (∀ (s : State) (u : State) (t : Nat) (pa : Nat) (d : Bytes) (m : Option (BitVec 64)) (p : Option Nat) (n : Nat),
    receives s = true →
    n = (p.map storedCode).getD 0 →
    takeRunnel s (runMwr t pa m n d) = some u →
    stagedOn u ⟨t, false, pa, d, m, n⟩ = true →
    (u.pair.staged.map fun x => x.data.length).sum + d.length ≤ 67108864 →
    exec (.mwr t pa d m p) s = .next (modPair u fun x => { x with staged := x.staged ++ [⟨t, false, pa, d, m, n⟩] })) ∧
  -- mdir
  (∀ (s : State) (u : State) (t : Nat) (c : DirChange),
    receives s = true →
    takeRunnel s (changeMsg t (.line c)) = some u →
    c.data = none →
    exec (.mdir t (.line c)) s = .next (sendRunnel (dirMirrored u c) 0 (runMack t true))) ∧
  -- mdir
  (∀ (s : State) (u : State) (v : State) (t : Nat) (k : Nat) (c : DirChange) (d : Bytes) (w : MirrorWrite),
    receives s = true →
    takeRunnel s (changeMsg t (.line c)) = some u →
    c.data = some (d, k) →
    w = ⟨t, true, c.line * 64, fitBytes 64 d, none, k⟩ →
    stagedOn (dirMirrored u c) w = false →
    applyMirror (dirMirrored u c) w = some v →
    exec (.mdir t (.line c)) s = .next v) ∧
  -- mdir
  (∀ (s : State) (u : State) (t : Nat) (i : Nat) (x : Bool),
    receives s = true →
    takeRunnel s (changeMsg t (.fence i x)) = some u →
    exec (.mdir t (.fence i x)) s = .next (sendRunnel (setAgent u i { agent u i with fenced := true, timedOut := x,
                                                                                     sweepDone := false, answers := !x })
      0 (runMack t true))) ∧
  -- mdir
  (∀ (s : State) (u : State) (t : Nat) (q : Nat) (h : Nat) (o : Nat) (d : Nat),
    receives s = true →
    takeRunnel s (changeMsg t (.taken q h o d)) = some u →
    exec (.mdir t (.taken q h o d)) s = .next (sendRunnel (takenMirrored u q h o d) 0 (runMack t true))) ∧
  -- mdir
  (∀ (s : State) (u : State) (t : Nat) (q : Nat) (f : Nat),
    receives s = true →
    takeRunnel s (changeMsg t (.cistern q (some f))) = some u →
    exec (.mdir t (.cistern q (some f))) s = .next (sendRunnel (setSub (releaseRec (dropMerges u q) (subRec u q)) q
      { state := 3, frame := f }) 0 (runMack t true))) ∧
  -- mdir
  (∀ (s : State) (u : State) (t : Nat) (q : Nat),
    receives s = true →
    takeRunnel s (changeMsg t (.cistern q none)) = some u →
    exec (.mdir t (.cistern q none)) s = .next (sendRunnel u 0 (runMack t true))) ∧
  -- mack
  (∀ (s : State) (u : State) (t : Nat) (d : Bool) (m : Nat × Bool × MackFor),
    takeRunnel s (runMack t d) = some u →
    u.pair.macks.find? (fun m => decide (m.1 = t) && m.2.1 == d) = some m →
    u.pair.recognised = false →
    exec (.mack t d) s = .next (mackTake (modPair u fun p => { p with macks := p.macks.erase m, unacked :=
                                                                        p.unacked.filter fun w => w.2.tag ≠ t }) d
      m.2.2)) ∧
  -- mack
  (∀ (s : State) (u : State) (t : Nat) (d : Bool) (m : Nat × Bool × MackFor),
    takeRunnel s (runMack t d) = some u →
    u.pair.macks.find? (fun m => decide (m.1 = t) && m.2.1 == d) = some m →
    u.pair.recognised = true →
    exec (.mack t d) s = .next u) ∧
  -- tickClose
  (∀ (s : State),
    mirroring s = true →
    exec .tickClose s = .next (sendRunnel (modPair s fun p => { p with tick := s.pair.tick + 1 }) 0 (runDelta
      (s.pair.tick + 1) 0 []))) ∧
  -- delta
  (∀ (s : State) (t : Nat) (x : Slow),
    receives s = true →
    rd s (ra pgPAIR 0x10C) < t →
    exec (.delta t (.whole x)) s = .next (sendRunnel (wr (installSlow s x) (ra pgPAIR 0x10C) t) 0 (runCtl 2 (natLe 4
      t)))) ∧
  -- delta
  (∀ (s : State) (t : Nat) (x : Slow),
    pairState s = 2 →
    exec (.delta t (.whole x)) s = .next (sendRunnel (wr (installSlow s x) (ra pgPAIR 0x10C) t) 0 (runCtl 2 (natLe 4
      t)))) ∧
  -- delta
  (∀ (s : State) (t : Nat) (es : Tbl DirEntry),
    receives s = true →
    exec (.delta t (.dir es)) s = .next { s with dir := { s.dir with entries := es } }) ∧
  -- delta
  (∀ (s : State) (u : State) (t : Nat) (q : Nat) (d : Bytes) (ps : List (Nat × Nat)),
    receives s = true →
    ownFrame s q = some u →
    exec (.delta t (.copy q d ps)) s = .next (ps.foldl (fun s p => setPoison s p.1 p.2) (setBytes (zeroSub u q) (q *
      65536) (fitBytes 65536 d)))) ∧
  -- tickAck
  (∀ (s : State) (u : State) (t : Nat),
    takeRunnel s (runCtl 2 (natLe 4 t)) = some u →
    serving u = true →
    rd u (ra pgPAIR 0x10C) < t →
    t ≤ u.pair.tick →
    exec (.tickAck t) s = .next (wr u (ra pgPAIR 0x10C) t)) ∧
  -- relay
  (∀ (s : State) (u : State) (p : Nat) (k : Packet),
    serving s = true →
    p < 21 →
    takeRunnel s (runRelay p (packetBytes k)) = some u →
    exec (.relay p (.packet k)) s = .next { u with link := { u.link with rx := tput u.link.rx p (tgetD u.link.rx p
                                                                           [] ++ [{ pkt := parsePacket (packetBytes k),
                                                                                    since := u.now, stale := true }]) } }) ∧
  -- relay
  (∀ (s : State) (u : State) (p : Nat) (a : Nat) (bs : Bytes),
    serving s = true →
    p < 21 →
    bs = cxlRelayed { hpa := a / 64 * 64, write := false, start := s.now } →
    takeRunnel s (runRelay p bs) = some u →
    exec (.relay p (.cxlRead a)) s = .next (cxlArrive u { hpa := a / 64 * 64, write := false, start := u.now })) ∧
  -- relay
  (∀ (s : State) (u : State) (p : Nat) (a : Nat) (bs : Bytes) (d : Bytes) (m : BitVec 64) (x : Bool),
    serving s = true →
    p < 21 →
    bs = cxlRelayed { hpa := a / 64 * 64, write := true, data := fitBytes 64 d, mask := m, poison := x, start :=
                        s.now } →
    takeRunnel s (runRelay p bs) = some u →
    exec (.relay p (.cxlWrite a d m x)) s = .next (cxlArrive u { hpa := a / 64 * 64, write := true, data := fitBytes
                                                                   64 d, mask := m, poison := x, start := u.now })) ∧
  -- health
  (∀ (s : State) (u : State) (v : State) (n : Nat) (w : Nat) (c : Bool) (f : BitVec 4),
    w = (if c then 1 else 0) + f.toNat * 2 + n % 65536 * 65536 →
    takeRunnel s (runCtl 3 (natLe 4 w)) = some u →
    serving u = true →
    v = wr u (ra pgPAIR 0x118) w →
    exec (.health n c f) s = .next (setClean v (if c then cleanReports u + 1 else 0))) ∧
  -- healthReportSend
  (∀ (s : State) (u : State) (v : State) (n : Nat) (w : Nat),
    s.pair.fails ≠ 0 →
    pairState s = 1 →
    rb v (ra pgPAIR 0x100) 1 = false →
    n = (rf s (ra pgPAIR 0x118) 16 16 + 1) % 65536 →
    w = s.pair.fails.toNat * 2 + n * 65536 →
    u = modPair (sendRunnel (wr s (ra pgPAIR 0x118) w) 0 (runCtl 3 (natLe 4 w))) (fun p => { p with fails := 0,
                                                                                                    errSeen := (sendRunnel (wr s (ra pgPAIR 0x118) w) 0 (runCtl 3 (natLe 4 w))).fault.errors })
      →
    v = setClean u 0 →
    exec .healthReportSend s = .next v) ∧
  -- healthReportSend
  (∀ (s : State) (u : State) (v : State) (n : Nat) (w : Nat),
    s.pair.fails = 0 →
    s.fault.errors = s.pair.errSeen →
    pairState s = 1 →
    rb v (ra pgPAIR 0x100) 1 = false →
    n = (rf s (ra pgPAIR 0x118) 16 16 + 1) % 65536 →
    w = 1 + n * 65536 →
    u = modPair (sendRunnel (wr s (ra pgPAIR 0x118) w) 0 (runCtl 3 (natLe 4 w))) (fun p => { p with fails := 0,
                                                                                                    errSeen := (sendRunnel (wr s (ra pgPAIR 0x118) w) 0 (runCtl 3 (natLe 4 w))).fault.errors })
      →
    v = setClean u (cleanReports u + 1) →
    exec .healthReportSend s = .next v) ∧
  -- healthReportMissed
  (∀ (s : State),
    serving s = true →
    exec .healthReportMissed s = .next (wf s pairStat 16 16 0)) ∧
  -- handoverReq
  (∀ (s : State) (u : State),
    takeRunnel s (runCtl 5 []) = some u →
    pairState u = 0 →
    partnerState u = 1 →
    u.pair.pause = false →
    exec .handoverReq s = .next (startPause u)) ∧
  -- handoverReq
  (∀ (s : State) (u : State),
    takeRunnel s (runCtl 5 []) = some u →
    pairState u = 1 →
    u.pair.returning = false →
    exec .handoverReq s = .next (startReturn u)) ∧
  -- handoverDrainTimeout
  (∀ (s : State),
    s.pair.pause = true →
    s.pair.finalTick = false →
    s.cmd.tiles = [] →
    exec .handoverDrainTimeout s = .next (sendRunnel (modPair s fun p => { p with tick := s.pair.tick + 1, finalTick
                                                                                    := true }) 0 (runDelta
      (s.pair.tick + 1) 0 []))) ∧
  -- handoverDrainTimeout
  (∀ (s : State) (u : State) (v : State) (w : State),
    s.pair.pause = true →
    s.pair.finalTick = false →
    u = (s.cmd.tiles.filter Tile.issued).foldl (fun s t =>
      match opOf s t.op with | some o => tileDone s t.op o t | none => s) s →
    v = u.cmd.tiles.foldl (fun s t => wasteTile s t 18) u →
    w = u.cmd.tiles.foldl (fun s t => giveBack s t.op [t.num]) { v with cmd := { v.cmd with tiles := [] } } →
    exec .handoverDrainTimeout s = .next (sendRunnel (modPair w fun p => { p with tick := w.pair.tick + 1, finalTick
                                                                                    := true }) 0 (runDelta
      (w.pair.tick + 1) 0 []))) ∧
  -- handoverGo
  (∀ (s : State) (u : State),
    takeRunnel s (runCtl 6 []) = some u →
    u.pair.pause = true →
    u.pair.finalTick = true →
    (handoverGone u).pwr.warm ≠ 1 →
    exec (.handoverGo true) s = .next (handoverGone u)) ∧
  -- handoverGo
  (∀ (s : State) (u : State),
    takeRunnel s (runCtl 6 []) = some u →
    u.pair.pause = true →
    u.pair.finalTick = true →
    (handoverGone u).pwr.warm = 1 →
    exec (.handoverGo true) s = .next (warmGo (warmBegin (handoverGone u)))) ∧
  -- handoverGo
  (∀ (s : State),
    pairState s = 1 →
    partnerState s = 0 →
    heartbeatGood s = true →
    exec (.handoverGo false) s = .next (handoverTaken s)) ∧
  -- handoverDone
  (∀ (s : State) (u : State),
    takeRunnel s (runCtl 7 []) = some u →
    exec .handoverDone s = .next u) ∧
  -- resyncComplete
  (∀ (s : State),
    pairState s = 2 →
    exec .resyncComplete s = .next (portsFollow (modPair (wf (setPair s 1) pairStat 3 3 0) fun p => { p with errSeen := s.fault.errors,
                                                                                                             took := false }))) ∧
  -- resyncComplete
  (∀ (s : State),
    pairState s = 4 →
    partnerState s = 2 →
    exec .resyncComplete s = .next (setClean (wf (setPair (wr (finishSync s) (ra pgPAIR 0x114) 0) 0) pairStat 3 3 1)
      0)) ∧
  -- fenceSelf
  (∀ (s : State) (u : State),
    serving s = true →
    u = wb s pairCmd 2 false →
    exec (.fenceSelf 2) s = .next (portsFollow (modPair (Sys2Proof.Machine.fenceSelf u) fun p => { p with fencedSelf := false }))) ∧
  -- goSolo
  (∀ (s : State),
    pairState s = 3 →
    heartbeatGood s = false →
    exec (.goSolo 2) s = .next (Sys2Proof.Machine.goSolo (wb s pairCmd 2 false))) ∧
  -- handover
  (∀ (s : State) (u : State),
    pairState s = 0 →
    partnerState s = 1 →
    heartbeatGood s = true →
    s.pair.pause = false →
    u = wb s pairCmd 2 false →
    ((secondary u = true → exec (.handover 2) s = .next (sendRunnel u 0 (runCtl 5 []))) ∧ (secondary u = false →
      exec (.handover 2) s = .next (startPause u)))) ∧
  (∀ (s : State),
    serving s = false →
    (exec (.fenceSelf 2) s = .next (wb s pairCmd 2 true) ∧ exec (.handover 2) s = .next (wb s pairCmd 2 true)))

/-- Each test of a standby goes on to the next engine, bank or line; a failure marks the report and retires what
  failed or has the line fetched again; lanes below the minimum are reported. (R399, R400, chapter 17) -/
def Obligations.StandbyTestsAct : Prop :=
  -- standbyGoldenRound
  (∀ (s : State) (u : State) (i : Nat) (p : Bool),
    pairState s = 1 →
    (rangeFrom s.pair.nextEng 80).find? (fun i => coreRole s (i % 80 / 4) ≤ 1) = some i →
    u = modPair s (fun p => { p with nextEng := (i % 80 + 1) % 80 }) →
    exec (.standbyGoldenRound p) s = .next (if p then u else modPair (retireEngine u (i % 80)) fun p => { p with fails := setBit p.fails 0 })) ∧
  -- standbyMarchTest
  (∀ (s : State) (u : State) (i : Nat) (p : Bool),
    pairState s = 1 →
    (rangeFrom s.pair.nextBank 1088).find? (fun i => bankRole s (i % 1088 / 17) (i % 17) = 1) = some i →
    u = modPair s (fun p => { p with nextBank := (i % 1088 + 1) % 1088 }) →
    exec (.standbyMarchTest p) s = .next (if p then u else modPair (bankLedger (setBankRole u (i % 1088 / 17) (i %
      1088 % 17) 2)) fun p => { p with fails := setBit p.fails 1 })) ∧
  -- dramPatrolRead
  (∀ (s : State) (l : Nat) (da : Nat) (ch : Nat),
    pairState s = 1 →
    lineDa s l = some da →
    lineChannel s l = some ch →
    (exec (.dramPatrolRead l .clean) s = .next s ∧ exec (.dramPatrolRead l .corrected) s = .next (dramCorrected s ch
      (chanDecode s ch (mapDa (grainOf s (da / 1572864)) da).2) (some l)) ∧ exec (.dramPatrolRead l .uncorrectable)
      s = .next (modPair (sendRunnel (setPoison (dramUncorrectable s ch (chanDecode s ch (mapDa (grainOf s (da /
      1572864)) da).2) (some l) da) l 1) 0 (runDelta 0 0 (natLe 8 (l * 64)))) fun p => { p with fails := setBit p.fails 2 }))) ∧
  -- eyeMarginCheck
  (∀ (s : State) (ls : List Nat),
    pairState s = 1 →
    ls ≠ [] →
    exec (.eyeMarginCheck ls) s = .next (modPair (ls.foldl (fun s l => eventAt s pgPAIR sevWarn clLink l) s) fun p
      => { p with fails := setBit p.fails 3 }))

/-- BIND_WRITE by Holhild of an entry that no ground of Table 18-5 refuses stores it with ERR clear, and else sets
  ERR with its code; BIND_READ shows the entry; a key is generated, imported or zeroised in a slot that allows it,
  and is ARMED once the partner has it. (R411, R413, R414, R417, Table 18-5, Table 18-6, chapter 18) -/
def Obligations.BindingsAndKeysAct : Prop :=
  -- bindWrite
  (∀ (s : State) (u : State) (i : Nat) (b : Binding),
    i = fld (ri s 2 (ra pgSEC 0x100)) 0 13 →
    bindRegs s 2 = (b, true) →
    bindRefusal s i b true = 0 →
    u = wf (wb s bindCmd 2 false) bindCmd 3 3 0 →
    exec (.bindWrite 2) s = .next { u with sec := { u.sec with binds := tput u.sec.binds i b, bindsOff := tdel
                                                                 u.sec.bindsOff i } }) ∧
  -- bindWrite
  (∀ (s : State) (u : State) (i : Nat) (b : Binding),
    i = fld (ri s 2 (ra pgSEC 0x100)) 0 13 →
    bindRegs s 2 = (b, false) →
    bindRefusal s i b false = 0 →
    u = wf (wb s bindCmd 2 false) bindCmd 3 3 0 →
    exec (.bindWrite 2) s = .next { u with sec := { u.sec with binds := tdel u.sec.binds i, bindsOff := tset ⟨0, 0,
                                                                 0, 0, false, false⟩ u.sec.bindsOff i b } }) ∧
  -- bindWrite
  (∀ (s : State) (i : Nat) (e : Nat) (b : Binding) (v : Bool),
    i = fld (ri s 2 (ra pgSEC 0x100)) 0 13 →
    bindRegs s 2 = (b, v) →
    bindRefusal s i b v = e →
    e ≠ 0 →
    exec (.bindWrite 2) s = .next (wf (wb s bindCmd 2 true) bindCmd 3 3 e)) ∧
  -- bindRead
  (∀ (s : State) (u : State) (i : Nat) (b : Binding),
    i = fld (ri s 2 (ra pgSEC 0x100)) 0 13 →
    tget s.sec.binds i = some b →
    u = wi (wi s 2 (ra pgSEC 0x104) b.base) 2 (ra pgSEC 0x108) b.pages →
    exec (.bindRead 2) s = .next (wi u 2 (ra pgSEC 0x10C) (b.req + b.dom * 8192 + (if b.rd then 2 ^ 23 else 0) + (if
      b.wr then 2 ^ 24 else 0) + 2 ^ 25))) ∧
  -- keyGenerate
  (∀ (s : State) (u : State) (d : Nat) (k : BitVec 512),
    keyBusy s = false →
    keySlot s 2 = d →
    keyFillable s d = true →
    drawRandom s = (k, u) →
    exec (.keyGenerate 2) s = .next (keyFill (keyErr u false) d k)) ∧
  -- keyGenerate
  (∀ (s : State) (d : Nat),
    keyBusy s = false →
    keySlot s 2 = d →
    keyFillable s d = false →
    exec (.keyGenerate 2) s = .next (keyErr s true)) ∧
  -- keyImport
  (∀ (s : State) (d : Nat) (n : Nat) (w : Bytes) (x : Session),
    keyBusy s = false →
    keySlot s 2 = d →
    authSession s n = some x →
    keyFillable s d = true →
    w.length = 72 →
    ((∀ k, Config.unwrap (x.id * 4294967296 + x.keyGen) w = some k → exec (.keyImport 2 n w) s = .next (keyFill
      (keyErr s false) d k)) ∧ (Config.unwrap (x.id * 4294967296 + x.keyGen) w = none → exec (.keyImport 2 n w) s =
      .next (keyErr s true)))) ∧
  -- keyImport
  (∀ (s : State) (d : Nat) (n : Nat) (w : Bytes),
    keyBusy s = false →
    keySlot s 2 = d →
    authSession s n = none →
    exec (.keyImport 2 n w) s = .next (keyErr s true)) ∧
  -- keyZeroise
  (∀ (s : State) (u : State) (d : Nat),
    keyBusy s = false →
    keySlot s 2 = d →
    d < 1024 →
    charge s d 0 = 0 →
    charge s d 2 = 0 →
    locked s pgSEC = false →
    u = keyErr { s with sec := { s.sec with keys := tdel s.sec.keys d } } false →
    (partnerState u ≠ 1 ∨ pairState u ≠ 0) →
    exec (.keyZeroise 2) s = .next u) ∧
  -- keyZeroise
  (∀ (s : State) (u : State) (d : Nat),
    keyBusy s = false →
    keySlot s 2 = d →
    d < 1024 →
    charge s d 0 = 0 →
    charge s d 2 = 0 →
    locked s pgSEC = false →
    u = keyErr { s with sec := { s.sec with keys := tdel s.sec.keys d } } false →
    partnerState u = 1 →
    pairState u = 0 →
    exec (.keyZeroise 2) s = .next (sendKey u d none)) ∧
  -- keyZeroise
  (∀ (s : State) (d : Nat),
    keyBusy s = false →
    keySlot s 2 = d →
    (1024 ≤ d ∨ charge s d 0 ≠ 0 ∨ charge s d 2 ≠ 0 ∨ locked s pgSEC = true) →
    exec (.keyZeroise 2) s = .next (keyErr s true)) ∧
  -- keyPartnerInstalled
  (∀ (s : State) (d : Nat) (k : KeySlot),
    tget s.sec.keys d = some k →
    k.state = 1 →
    pairState s ≠ 1 →
    exec (.keyPartnerInstalled d) s = .next (wb { s with sec := { s.sec with keys := tput s.sec.keys d { k with state := 2 } } }
      keyCmd 3 false)) ∧
  -- confEnable
  (∀ (s : State) (u : State) (v : W32) (x : Session),
    v.toNat.testBit 0 = true →
    x ∈ s.sec.sessions →
    x.established = true →
    x.mutAuth = true →
    rb s (ra pgSEC 0x120) 0 = false →
    u = s →
    debugOpen s = false →
    exec (.confEnable 2 v) s = .next { (wb u (ra pgSEC 0x120) 0 true) with sec := { u.sec with confNext := true } }) ∧
  -- confEnable
  (∀ (s : State) (u : State) (v : W32) (x : Session),
    v.toNat.testBit 0 = true →
    x ∈ s.sec.sessions →
    x.established = true →
    x.mutAuth = true →
    rb s (ra pgSEC 0x120) 0 = false →
    u = wf s debugReg 0 2 2 →
    debugOpen s = true →
    exec (.confEnable 2 v) s = .next { (wb u (ra pgSEC 0x120) 0 true) with sec := { u.sec with confNext := true } })

/-- A request whose handshake has been made answers with its code, and one that comes too early with ERROR; a
  session is opened, at most four at once, established, kept alive and ended, and a request outside an established
  one answers SessionRequired; DEBUG_UNLOCK counts a refused attempt; an unsupported request answers
  UnsupportedRequest. (R419, R420, R421, Table 18-2, Table 18-3, chapter 18) -/
def Obligations.SpdmRequestsAnswer : Prop :=
  -- getVersion
  (∀ (s : State) (v : Nat),
    exec (.getVersion v) s = .next (spdmReply (setStage s v 1) 0x04 [0x12] [])) ∧
  -- getCapabilities
  (∀ (s : State) (v : Nat),
    1 ≤ spdmStage s v →
    exec (.getCapabilities v) s = .next (spdmReply (setStage s v (max 2 (spdmStage s v))) 0x61 [0x81, 0x82, 0x83,
      0x84, 0xE0, 0xE1, 0xE3, 0xE4, 0xE5, 0xE8, 0xE9, 0xEC, 0xFE] [])) ∧
  -- negotiateAlgorithms
  (∀ (s : State) (v : Nat),
    2 ≤ spdmStage s v →
    exec (.negotiateAlgorithms v ⟨true, true, true, true⟩) s = .next (spdmReply (setStage s v 4) 0x63 [1, 1, 1, 1]
      [])) ∧
  -- negotiateAlgorithms
  (∀ (s : State) (v : Nat) (a : SpdmAlgs),
    2 ≤ spdmStage s v →
    a.ecdsaP256 = false →
    exec (.negotiateAlgorithms v a) s = .next (spdmReply (setStage s v 2) 0x63 [0, if a.sha256 then 1 else 0, if
      a.secp256r1 then 1 else 0, if a.aesGcm then 1 else 0] [])) ∧
  -- getDigests
  (∀ (s : State) (v : Nat),
    3 ≤ spdmStage s v →
    exec (.getDigests v) s = .next (spdmReply s 0x01 [1] (hashBytes (Config.sha256 (certChain s))))) ∧
  -- getCertificate
  (∀ (s : State) (v : Nat) (o : Nat) (n : Nat),
    3 ≤ spdmStage s v →
    exec (.getCertificate v 0 o n) s = .next (if (certChain s).length ≤ o then spdmError s spdmInvalid else
      spdmReply s 0x02 [(((certChain s).drop o).take n).length, (certChain s).length - o - (((certChain s).drop
      o).take n).length] (((certChain s).drop o).take n))) ∧
  -- challenge
  (∀ (s : State) (u : State) (r : BitVec 512) (v : Nat) (n : BitVec 256),
    3 ≤ spdmStage s v →
    drawRandom s = (r, u) →
    exec (.challenge v 0 n) s = .next (spdmReply u 0x03 [] (chainDigest u ++ natLe 32 r.toNat ++ aliasSign u (natLe
      32 n.toNat ++ chainDigest u ++ natLe 32 r.toNat)))) ∧
  -- getMeasurements
  (∀ (s : State) (v : Nat) (i : Nat),
    3 ≤ spdmStage s v →
    1 ≤ i →
    i ≤ 9 →
    exec (.getMeasurements v i none) s = .next (spdmReply s 0x60 [1] (hashBytes (nth (measurements s) (i - 1) 0)))) ∧
  -- getMeasurements
  (∀ (s : State) (u : State) (r : BitVec 512) (v : Nat) (i : Nat) (n : BitVec 256),
    3 ≤ spdmStage s v →
    1 ≤ i →
    i ≤ 9 →
    drawRandom s = (r, u) →
    exec (.getMeasurements v i (some n)) s = .next (spdmReply u 0x60 [1] (hashBytes (nth (measurements s) (i - 1) 0)
      ++ natLe 32 r.toNat ++ aliasSign u (natLe 32 n.toNat ++ hashBytes (nth (measurements s) (i - 1) 0) ++ natLe 32
      r.toNat)))) ∧
  -- keyExchange
  (∀ (s : State) (u : State) (w : State) (v : Nat) (m : Bool) (e : Bytes) (r : BitVec 512) (bs : Bytes),
    4 ≤ spdmStage s v →
    s.sec.sessions.length < 4 →
    drawRandom s = (r, u) →
    w = { u with sec := { u.sec with sessions := u.sec.sessions ++ [{ id := s.sec.nextSession, via := v, mutAuth :=
                                                                        m }], nextSession := s.sec.nextSession + 1 } }
      →
    bs = natLe 32 r.toNat ++ Config.exchangeReply w.fresh e →
    exec (.keyExchange v 0 m e) s = .next (spdmReply w 0x64 [s.sec.nextSession, if m then 1 else 0] (bs ++ aliasSign
      w (e ++ bs)))) ∧
  -- keyExchange
  (∀ (s : State) (v : Nat) (m : Bool) (e : Bytes),
    4 ≤ spdmStage s v →
    4 ≤ s.sec.sessions.length →
    exec (.keyExchange v 0 m e) s = .next (spdmError s spdmSessionLimit)) ∧
  -- finish
  (∀ (s : State) (n : Nat) (x : Session),
    s.sec.sessions.find? (fun x => decide (x.id = n) && !x.established) = some x →
    (exec (.finish n true) s = .next (spdmReply { s with sec := { s.sec with sessions := s.sec.sessions.map fun x =>
                                                                               if x.id = n then { x with established := true }
                                                                               else x } } 0x65 [n] []) ∧ exec
      (.finish n false) s = .next (spdmError (dropSession s n) 0x06))) ∧
  -- endSession
  (∀ (s : State) (n : Nat) (x : Session),
    s.sec.sessions.find? (fun x => decide (x.id = n) && x.established) = some x →
    exec (.endSession n) s = .next (spdmReply (dropSession s n) 0x6C [n] [])) ∧
  -- spdmHeartbeat
  (∀ (s : State) (n : Nat) (x : Session),
    s.sec.sessions.find? (fun x => decide (x.id = n) && x.established) = some x →
    exec (.spdmHeartbeat n) s = .next (spdmReply s 0x68 [n] [])) ∧
  -- keyUpdate
  (∀ (s : State) (n : Nat) (k : Nat) (x : Session),
    s.sec.sessions.find? (fun x => decide (x.id = n) && x.established) = some x →
    (k = 1 ∨ k = 2) →
    exec (.keyUpdate n k) s = .next (spdmReply { s with sec := { s.sec with sessions := s.sec.sessions.map fun y =>
                                                                              if y.id = x.id then { y with keyGen := y.keyGen + 1 }
                                                                              else y } } 0x69 [n, k] [])) ∧
  -- keyUpdate
  (∀ (s : State) (n : Nat) (x : Session),
    s.sec.sessions.find? (fun x => decide (x.id = n) && x.established) = some x →
    exec (.keyUpdate n 3) s = .next (spdmReply s 0x69 [n, 3] [])) ∧
  -- debugUnlock
  (∀ (s : State) (u : State) (n : Nat) (g : Bytes) (x : Session),
    authSession s n = some x →
    u = { s with sec := { s.sec with nonceNo := s.fresh }, fresh := s.fresh + 1 } →
    exec (.debugUnlock n g) s = .next (if unlockOk s g then spdmReply (wf u debugReg 0 2 1) 0x7E [1] [] else
      spdmReply (wf u debugReg 2 2 (min 3 (rf u debugReg 2 2 + 1))) 0x7E [0] [])) ∧
  (∀ (s : State) (n : Nat) (k : Nat) (g : Bytes),
    authSession s n = none →
    s.sec.sessions.find? (fun x => decide (x.id = n) && x.established) = none →
    (exec (.debugUnlock n g) s = .next (spdmError s 0x0B) ∧ exec (.endSession n) s = .next (spdmError s 0x0B) ∧ exec
      (.spdmHeartbeat n) s = .next (spdmError s 0x0B) ∧ exec (.keyUpdate n k) s = .next (spdmError s 0x0B))) ∧
  -- spdmUnsupportedRequest
  (∀ (s : State) (v : Nat) (c : Nat),
    exec (.spdmUnsupportedRequest v c) s = .next (spdmReply s 0x7F [0x07, c] [])) ∧
  (∀ (s : State) (v : Nat),
    spdmStage s v = 0 →
    (exec (.getCapabilities v) s = .next (spdmReply s 0x7F [0x04] []) ∧ exec (.getDigests v) s = .next (spdmReply s
      0x7F [0x04] [])))

/-- The update goes through its phases: requested, component table passed, component accepted when no ground of
  Table 19-5 refuses it, pieces received, activated or cancelled; a component that is refused sets ERR with its
  code; CONFIRM makes the image CONFIRMED and begins its copy, and the end of the last copy returns to IDLE; an
  action on a type that is not UNCONFIRMED, or a second one on it in the same cycle, sets CMD_ERR. (R431, R432,
  R433, R434, R436, R439, Table 19-4, Table 19-5, chapter 19) -/
def Obligations.FirmwareCommandsAct : Prop :=
  -- queryDeviceIdentifiers
  (∀ (s : State),
    exec .queryDeviceIdentifiers s = .next (pldmReply s 0x01 [0, rd s (ra pgTOP 0x100), rd s (ra pgTOP 0x104)])) ∧
  -- getFirmwareParameters
  (∀ (s : State),
    exec .getFirmwareParameters s = .next (pldmReply s 0x02 (0 :: (rangeFrom 1 11).flatMap fun t => [t, (imgType s
      t).a.version, (imgType s t).b.version, (imgType s t).state]))) ∧
  -- requestUpdate
  (∀ (s : State) (u : State),
    s.fw.phase = 0 →
    (u = (if fwuState s = 2 ∨ fwuState s = 4 then setFwu s 0 else s)) →
    exec .requestUpdate s = .next (pldmReply { u with fw := { u.fw with phase := 1 } } 0x10 [0])) ∧
  -- passComponentTable
  (∀ (s : State) (ts : List Nat),
    s.fw.phase = 1 →
    exec (.passComponentTable ts) s = .next (pldmReply { s with fw := { s.fw with phase := 2 } } 0x13 [0])) ∧
  -- updateComponent
  (∀ (s : State) (u : State) (v : State) (i : ImageHead),
    s.fw.phase = 2 →
    fwuState s = 0 →
    offerRefusal s i = 0 →
    u = setFwu (wf (wf (wb s fwuCmd 7 false) fwuCmd 8 3 0) fwuStat 8 8 i.type) 1 →
    v = pldmReply { u with fw := { u.fw with phase := 3, head := some i, body := [], part := [], blocks := 0,
                                             patched := 0 } } 0x14 [0] →
    (i.length ≠ 0 ∨ i.format ≠ 1) →
    exec (.updateComponent i) s = .next (askPiece v)) ∧
  -- updateComponent
  (∀ (s : State) (u : State) (v : State) (i : ImageHead),
    s.fw.phase = 2 →
    fwuState s = 0 →
    offerRefusal s i = 0 →
    u = setFwu (wf (wf (wb s fwuCmd 7 false) fwuCmd 8 3 0) fwuStat 8 8 i.type) 1 →
    v = pldmReply { u with fw := { u.fw with phase := 3, head := some i, body := [], part := [], blocks := 0,
                                             patched := 0 } } 0x14 [0] →
    i.length = 0 →
    i.format = 1 →
    exec (.updateComponent i) s = .next (transferDone v i [])) ∧
  (∀ (s : State) (i : ImageHead),
    s.fw.phase = 2 →
    offerRefusal s i ≠ 0 →
    fwuState s = 0 →
    exec (.updateComponent i) s = .next (updateFails s (offerRefusal s i))) ∧
  -- firmwareDataReceived
  (∀ (s : State) (h : ImageHead) (p : ImagePiece),
    s.fw.head = some h →
    s.fw.phase = 3 →
    p.bytes ≠ [] →
    p.bytes.length ≤ 4096 →
    s.fw.body ≠ [] →
    (imgType s h.type).state = 3 →
    exec (.firmwareDataReceived p) s = .next (if h.format = 2 then patchPiece s h p.bytes else nativePiece s h
      p.bytes)) ∧
  -- firmwareDataReceived
  (∀ (s : State) (h : ImageHead) (p : ImagePiece),
    s.fw.head = some h →
    s.fw.phase = 3 →
    p.bytes ≠ [] →
    p.bytes.length ≤ 4096 →
    s.fw.body = [] →
    s.fw.part = [] →
    exec (.firmwareDataReceived p) s = .next (if h.format = 2 then patchPiece (firstWrite s h) h p.bytes else
      nativePiece (firstWrite s h) h p.bytes)) ∧
  -- activateFirmware
  (∀ (s : State),
    s.fw.phase = 4 →
    ((selfActive (rf s fwuStat 8 8) = true → exec .activateFirmware s = .next (activateNow (pldmReply s 0x1A [0, 0])
      (rf s fwuStat 8 8))) ∧ (selfActive (rf s fwuStat 8 8) = false → exec .activateFirmware s = .next (setFwu { (pldmReply s 0x1A [0, 1]) with fw := { s.fw with phase := 0 } }
      0)))) ∧
  -- getStatus
  (∀ (s : State),
    exec .getStatus s = .next (pldmReply s 0x1B [0, s.fw.phase, fwuState s, rf s fwuStat 8 8, rf s fwuCmd 8 3])) ∧
  -- cancelUpdateComponent
  (∀ (s : State) (u : State),
    s.fw.phase = 3 →
    u = setFwu (wf (wb (dropTransfer s) fwuCmd 7 true) fwuCmd 8 3 0) 0 →
    exec .cancelUpdateComponent s = .next (pldmReply { u with fw := { u.fw with phase := 2 } } 0x1C [0])) ∧
  -- cancelUpdate
  (∀ (s : State) (u : State),
    s.fw.phase ≠ 0 →
    u = cancelComponent s →
    exec .cancelUpdate s = .next (pldmReply { u with fw := { u.fw with phase := 0 } } 0x1D [0])) ∧
  -- fwuConfirm
  (∀ (s : State) (u : State) (t : Nat),
    (imgType s t).state = 1 →
    s.fw.acted ≠ some (t, s.now) →
    u = wb { s with fw := { s.fw with acted := some (t, s.now) } } fwuCmd 6 false →
    (exec (.fwuConfirm 2 t) s = .next (confirm u t) ∧ imgType (confirm u t) t = { imgType s t with state := 0,
                                                                                                   copying := true })) ∧
  -- fwuRevert
  (∀ (s : State) (u : State) (t : Nat),
    (imgType s t).state = 1 →
    s.fw.acted ≠ some (t, s.now) →
    u = wb { s with fw := { s.fw with acted := some (t, s.now) } } fwuCmd 6 false →
    exec (.fwuRevert 2 t) s = .next (setImg u t { imgType u t with boots := 0 })) ∧
  (∀ (s : State) (t : Nat),
    ((imgType s t).state ≠ 1 ∨ s.fw.acted = some (t, s.now)) →
    (exec (.fwuConfirm 2 t) s = .next (wb s fwuCmd 6 true) ∧ exec (.fwuRevert 2 t) s = .next (wb s fwuCmd 6 true))) ∧
  -- autoConfirmExpiry
  (∀ (s : State) (t : Nat),
    confirmDue s t = true →
    (imgType s t).state = 1 →
    exec (.autoConfirmExpiry t) s = .next (confirm s t)) ∧
  -- confirmCopyDone
  (∀ (s : State) (u : State) (t : Nat) (x : ImageType),
    x = imgType s t →
    x.copying = true →
    u = setImg s t { x with b := x.a, copying := false } →
    (exec (.confirmCopyDone t) s = .next (if fwuState u = 3 ∧ ¬ (u.fw.types.any fun e => e.2.copying) then setFwu u
      0 else u)))

/-- A cold reset leaves what chapter 20 gives: flash, fuses, the sticky causes and the repaired rows, and every
  other field at reset; a rail or clock failure holds all but the always-on domain with its cause; loss of VDD_AON
  clears the sticky domain; a warm reset is asked for with its cause; a management restart leaves the data plane.
  (R17, R444, R445, R448, R449, R450, R452, R453, R455, R461, chapter 20) -/
def Obligations.ResetsAndStartUp : Prop :=
  -- coldStart
  (∀ (s : State) (b : BootInput),
    s.pwr.held = 1 →
    s.pwr.aon = true →
    s.pwr.order = false →
    exec (.coldStart b) s = .next (if b.coreOk then bootImages (bootStraps s b) b else bootFails (bootStraps s b) 3
      false)) ∧
  -- coldReset
  (∀ (s : State) (p : Bool),
    ∃ t, exec (.coldReset p) s = .next t ∧ t.cmd = State.reset.cmd ∧ t.alloc = State.reset.alloc ∧ t.dir =
      State.reset.dir ∧ t.mem = State.reset.mem ∧ t.basin.cols = s.basin.cols ∧ t.fw.minSvn = s.fw.minSvn ∧ rb t (ra
      pgRST 0x104) (if p then 1 else 0) = true ∧ t.pwr.held = 1) ∧
  -- warmResetPin
  (∀ (s : State) (b : WarmInput),
    exec (.warmResetPin b) s = .next (warmRequest s 2 b)) ∧
  -- warm
  (∀ (s : State) (b : WarmInput),
    exec (.warm 2 b) s = .next (warmRequest s 3 b)) ∧
  -- warm
  (∀ (s : State) (u : State) (b : WarmInput),
    s.pwr.held = 0 →
    s.pwr.warm ≠ 2 →
    startedUp s = true →
    u = setCause { s with pwr := { s.pwr with warmIn := b } } 3 →
    (pairState u ≠ 0 ∨ partnerState u ≠ 1 ∨ heartbeatGood u = false) →
    exec (.warm 2 b) s = .next (warmGo (warmBegin u))) ∧
  -- warm
  (∀ (s : State) (u : State) (v : State) (b : WarmInput),
    s.pwr.held = 0 →
    s.pwr.warm ≠ 2 →
    startedUp s = true →
    u = setCause { s with pwr := { s.pwr with warmIn := b } } 3 →
    pairState u = 0 →
    partnerState u = 1 →
    heartbeatGood u = true →
    v = { u with pwr := { u.pwr with warm := 1 } } →
    v.pair.pause = false →
    exec (.warm 2 b) s = .next (if secondary v then sendRunnel v 0 (runCtl 5 []) else startPause v)) ∧
  -- mgmtRestart
  (∀ (s : State),
    s.pwr.held = 0 →
    (exec (.mgmtRestart 2) s = .next (Sys2Proof.Machine.mgmtRestart s) ∧ (Sys2Proof.Machine.mgmtRestart s).mem =
      s.mem ∧ (Sys2Proof.Machine.mgmtRestart s).sec.keys = s.sec.keys ∧ (Sys2Proof.Machine.mgmtRestart s).sec.binds
      = s.sec.binds ∧ (Sys2Proof.Machine.mgmtRestart s).cmd = s.cmd ∧ (Sys2Proof.Machine.mgmtRestart s).sec.sessions
      = [])) ∧
  -- railOrder
  (∀ (s : State) (n : Nat),
    n ≤ 20 →
    s.pwr.aon = true →
    s.pwr.held = 1 →
    ∃ t, exec (.railOrder n) s = .next t ∧ t.pwr.held = 2 ∧ rb t (ra pgRST 0x104) 4 = true ∧ t.mem = State.reset.mem
      ∧ t.sec = s.sec ∧ t.pair = s.pair ∧ t.pwr.order = true) ∧
  -- railDrop
  (∀ (s : State) (r : Nat),
    s.pwr.aon = true →
    0 < r →
    r < 9 →
    s.pwr.held ≠ 1 →
    ∃ t, exec (.railDrop r) s = .next t ∧ t.pwr.held = 2 ∧ rb t (ra pgRST 0x104) 5 = true ∧ t.mem = State.reset.mem
      ∧ t.sec = s.sec ∧ t.pair = s.pair) ∧
  -- refLost
  (∀ (s : State) (p : Bool),
    s.pwr.aon = true →
    s.pwr.held ≠ 1 →
    exec (.refLost p) s = .next (wr (holdReset s 6) (ra pgCLK 0x100) (4 + if p then 2 else 0))) ∧
  -- thermtrip
  (∀ (s : State),
    s.pwr.aon = true →
    ∃ t, exec (.thermtrip) s = .next t ∧ t.pwr.held = 2 ∧ rb t (ra pgRST 0x104) 7 = true ∧ t.mem = State.reset.mem ∧
      t.sec = s.sec ∧ t.pair = s.pair ∧ t.pwr.tripped = true ∧ t.out = .pin "THERMTRIP_N" false :: .pin "ALERT_N"
      false :: s.out) ∧
  -- vddAonLoss
  (∀ (s : State),
    ∃ t, exec .vddAonLoss s = .next t ∧ t.regs = [] ∧ t.mem = State.reset.mem ∧ t.pwr.aon = false ∧ t.pwr.held = 1 ∧
      t.out = .pin "ALERT_N" true :: .pin "THERMTRIP_N" true :: .pin "CIS_PERST_N" true :: s.out) ∧
  -- vddAonValid
  (∀ (s : State),
    s.pwr.aon = false →
    ∃ t, exec .vddAonValid s = .next t ∧ t.pwr = { s.pwr with aon := true } ∧ t.out = .pin "ALERT_N" true :: .pin
      "THERMTRIP_N" true :: .pin "CIS_PERST_N" false :: s.out ∧ t.regs = s.regs)

/-- SET_LATENCY_TOL and LTR record the tolerance; a temperature sample sets the die temperature and the two limits
  with their hysteresis and events; idle ports, cores and drives go to the state of their level. (R139, R302, R457,
  R458, R461, R477, Table 20-6, Table 20-9, chapter 20) -/
def Obligations.PowerManagementActs : Prop :=
  -- setLatencyTol
  (∀ (s : State) (u : State) (h : Nat) (o : Op) (ds : List Nat),
    ready s h 0x31 = some o →
    ds = (if bitN (opnd o 0x10 4) 10 then rangeFrom 0 1024 else [fld (opnd o 0x10 4) 0 10]) →
    u = ds.foldl (fun s d => setTol s d (opnd o 0x14 4)) s →
    (hostDomains u).any ds.contains = false →
    exec (.setLatencyTol h) s = .next (endWith u h 0 [0, 0, 0, 0])) ∧
  -- setLatencyTol
  (∀ (s : State) (u : State) (h : Nat) (o : Op) (ds : List Nat),
    ready s h 0x31 = some o →
    ds = (if bitN (opnd o 0x10 4) 10 then rangeFrom 0 1024 else [fld (opnd o 0x10 4) 0 10]) →
    u = ds.foldl (fun s d => setTol s d (opnd o 0x14 4)) s →
    (hostDomains u).any ds.contains = true →
    exec (.setLatencyTol h) s = .next (endWith (wr u (ra pgCXLP 0x118) (opnd o 0x14 4)) h 0 [0, 0, 0, 0])) ∧
  -- dieTempSample
  (∀ (s : State) (u : State) (c : Nat) (w : Bool) (t : Bool),
    s.pwr.held = 0 →
    w = limitHolds (rb s (ra pgPWR 0x110) 8) c (rf s (ra pgPWR 0x100) 10 8) →
    t = limitHolds (rb s (ra pgPWR 0x110) 9) c (rf s (ra pgPWR 0x100) 2 8) →
    u = wb (wb (wf s (ra pgPWR 0x110) 0 8 (min 255 c)) (ra pgPWR 0x110) 8 w) (ra pgPWR 0x110) 9 t →
    rb s (ra pgPWR 0x110) 8 = w →
    rb s (ra pgPWR 0x110) 9 = t →
    exec (.dieTempSample c) s = .next u) ∧
  -- dieTempSample
  (∀ (s : State) (u : State) (c : Nat) (w : Bool) (t : Bool),
    s.pwr.held = 0 →
    w = limitHolds (rb s (ra pgPWR 0x110) 8) c (rf s (ra pgPWR 0x100) 10 8) →
    t = limitHolds (rb s (ra pgPWR 0x110) 9) c (rf s (ra pgPWR 0x100) 2 8) →
    u = wb (wb (wf s (ra pgPWR 0x110) 0 8 (min 255 c)) (ra pgPWR 0x110) 8 w) (ra pgPWR 0x110) 9 t →
    rb s (ra pgPWR 0x110) 8 = false →
    w = true →
    rb s (ra pgPWR 0x110) 9 = t →
    exec (.dieTempSample c) s = .next (platformEvent (eventAt u pgPWR sevWarn clConfig c) [1, c, 1])) ∧
  -- dieTempSample
  (∀ (s : State) (u : State) (c : Nat) (w : Bool) (t : Bool),
    s.pwr.held = 0 →
    w = limitHolds (rb s (ra pgPWR 0x110) 8) c (rf s (ra pgPWR 0x100) 10 8) →
    t = limitHolds (rb s (ra pgPWR 0x110) 9) c (rf s (ra pgPWR 0x100) 2 8) →
    u = wb (wb (wf s (ra pgPWR 0x110) 0 8 (min 255 c)) (ra pgPWR 0x110) 8 w) (ra pgPWR 0x110) 9 t →
    rb s (ra pgPWR 0x110) 8 = w →
    rb s (ra pgPWR 0x110) 9 = false →
    t = true →
    exec (.dieTempSample c) s = .next (platformEvent (eventAt u pgPWR sevError clConfig c) [1, c, 3])) ∧
  -- ltrWrite
  (∀ (s : State) (u : State) (v : W32),
    rb s (ra pgCXLP 0x114) 8 = true →
    u = (hostDomains s).foldl (fun s d => setTol s d (ltrNs v.toNat)) s →
    exec (.ltrWrite v) s = .next (wr u (ra pgCXLP 0x118) (ltrNs v.toNat))) ∧
  -- portIdleTimeout
  (∀ (s : State) (p : Nat) (u : Nat),
    p < 20 →
    linkBusy s p = false →
    1 ≤ portLevel s p →
    10 ≤ u →
    (portLevel s p < 3 ∨ u < 100) →
    exec (.portIdleTimeout p u) s = .next (requestPower (wf s (ctlReg p) 4 2 2) p 2)) ∧
  -- portIdleTimeout
  (∀ (s : State) (v : State) (p : Nat) (u : Nat),
    p < 20 →
    linkBusy s p = false →
    3 ≤ portLevel s p →
    100 ≤ u →
    (v = (if linkState s p = 6 ∧ linkPower s p = 2 then exitPower s p else s)) →
    exec (.portIdleTimeout p u) s = .next (requestPower (wf v (ctlReg p) 4 2 3) p 3)) ∧
  -- coreIdleGate
  (∀ (s : State) (c : Nat),
    c < 20 →
    coreInService s c = true →
    s.cmd.tiles.any (fun t => t.core = c) = false →
    1 ≤ coreLevel s →
    ((clusterCores s (c / 5)).any fun d => decide (d ≠ c) && !coreGated s d) = true →
    exec (.coreIdleGate c) s = .next (setGated s c true)) ∧
  -- coreIdleGate
  (∀ (s : State) (c : Nat),
    c < 20 →
    coreInService s c = true →
    s.cmd.tiles.any (fun t => t.core = c) = false →
    2 ≤ coreLevel s →
    (rangeFrom (5 * (c / 5)) 5).all (fun d => !(s.cmd.tiles.any fun t => t.core = d)) = true →
    exec (.coreIdleGate c) s = .next (setGated s c true)) ∧
  -- driveIdleTimeout
  (∀ (s : State) (u : State) (d : Nat),
    d < 16 →
    drvState s d = 2 →
    3 ≤ driveLevel s →
    s.tier.drvIdle.contains d = false →
    s.tier.moves.any (fun m => m.drive = d) = false →
    u = put s (.nvme d .sleep) →
    exec (.driveIdleTimeout d) s = .next { u with tier := { u.tier with drvIdle := insNat d u.tier.drvIdle } }) ∧
  -- driveReady
  (∀ (s : State) (b : State) (u : State) (v : State) (d : Nat) (n : Nat) (q : Bool),
    d < 16 →
    rb s (ra pgCIS 0x100) 0 = true →
    (drvState s d ≤ 1 ∨ s.tier.waking.contains d = true) →
    b = bringUp s d →
    u = wb (setDrv b d (if spareMask b d then 3 else 2)) (ra pgCIS (0x140 + 4 * d)) 4 q →
    v = { u with tier := { u.tier with drvFrames := tset 0 u.tier.drvFrames d (min n 233918112), waking :=
                                         u.tier.waking.erase d } } →
    paired v = false →
    exec (.driveReady d q n) s = .next (drvGauges (retryPromotes v))) ∧
  -- driveReady
  (∀ (s : State) (b : State) (u : State) (v : State) (w : State) (d : Nat) (n : Nat) (q : Bool),
    d < 16 →
    rb s (ra pgCIS 0x100) 0 = true →
    (drvState s d ≤ 1 ∨ s.tier.waking.contains d = true) →
    b = bringUp s d →
    u = wb (setDrv b d (if spareMask b d then 3 else 2)) (ra pgCIS (0x140 + 4 * d)) 4 q →
    v = { u with tier := { u.tier with drvFrames := tset 0 u.tier.drvFrames d (min n 233918112), waking :=
                                         u.tier.waking.erase d } } →
    paired v = true →
    w = issueNvme v d (.resRegister (resKey v)) →
    paired w = true →
    serving w = true →
    exec (.driveReady d q n) s = .next (drvGauges (retryPromotes (acquireDrives w [d])))) ∧
  -- driveReady
  (∀ (s : State) (b : State) (u : State) (v : State) (w : State) (d : Nat) (n : Nat) (q : Bool),
    d < 16 →
    rb s (ra pgCIS 0x100) 0 = true →
    (drvState s d ≤ 1 ∨ s.tier.waking.contains d = true) →
    b = bringUp s d →
    u = wb (setDrv b d (if spareMask b d then 3 else 2)) (ra pgCIS (0x140 + 4 * d)) 4 q →
    v = { u with tier := { u.tier with drvFrames := tset 0 u.tier.drvFrames d (min n 233918112), waking :=
                                         u.tier.waking.erase d } } →
    paired v = true →
    w = issueNvme v d (.resRegister (resKey v)) →
    serving w = false →
    exec (.driveReady d q n) s = .next (drvGauges (retryPromotes w))) ∧
  -- driveReadyTimeout
  (∀ (s : State) (d : Nat),
    d < 16 →
    drvState s d = 1 →
    exec (.driveReadyTimeout d) s = .next (event (setDrv s d 4) { source := pgCISP + d, sev := sevError, cls :=
                                                                    clCistern, loc := d }))

/-- A capture takes every counter into the next slot with its generation; CNT_LO latches the upper part for its
  identity; COUNTER_SNAPSHOT writes the records that the domain is granted, or an operation's report; SET_PROFILE
  checks the stored profile and records it as pending, and its cancel clears that. (R467, R470, R473, R474, R475,
  R480, chapter 21) -/
def Obligations.CountersAndProfilesAct : Prop :=
  -- counterCapture
  (∀ (s : State),
    rb s (ra pgCTR 0x100) 0 = true →
    s.pwr.held = 0 →
    confidential s = false →
    (exec .counterCapture s = .next (capture s false) ∧ (capture s false).ctr.gen = s.ctr.gen + 1 ∧ (capture s
      false).counters = s.counters ∧ (tget (capture s false).ctr.slots ((s.ctr.gen + 1) % 64)).map (fun x => (x.gen,
      x.time)) = some (s.ctr.gen + 1, s.now / 10 * 10))) ∧
  -- counterCapture
  (∀ (s : State) (u : State),
    rb s (ra pgCTR 0x100) 0 = true →
    s.pwr.held = 0 →
    confidential s = true →
    u = capture s true →
    exec .counterCapture s = .next { u with sec := { s.sec with confNext := false } }) ∧
  -- cntLoRead
  (∀ (s : State) (u : State) (id : Nat) (p : Nat) (v : Nat),
    assigned p = true →
    s.pwr.held = 0 →
    cntLo s id p = (v, u) →
    exec (.cntLoRead id p) s = .next (put u (.readData (ra p 0x024) (BitVec.ofNat 32 v)))) ∧
  -- counterSnapshotPages
  (∀ (s : State) (h : Nat) (o : Op) (x : Snapshot) (rs : List CapRecord),
    ready s h 0x32 = some o →
    snapMode o = 0 →
    1 ≤ snapPages o →
    snapPages o ≤ 4096 →
    newest s = some x →
    rs = x.recs.filter (fun r => decide (snapFirst o ≤ r.page) && decide (r.page < snapFirst o + snapPages o) &&
      snapGranted s o.dom r) →
    exec (.counterSnapshotPages h) s = .next (snapWrite s h o (slotHeader x ++ rs.flatMap capRecordBytes) [x.gen %
      0x100000000, rs.length, snapPages o - rs.length, (slotHeader x ++ rs.flatMap capRecordBytes).length])) ∧
  -- counterSnapshotOperation
  (∀ (s : State) (h : Nat) (o : Op) (t : Op),
    ready s h 0x32 = some o →
    snapMode o = 1 →
    opOf s (opnd o 0x18 4) = some t →
    t.dom = o.dom →
    (t.slot = true ∨ t.released ≠ 0) →
    confidential s = false →
    exec (.counterSnapshotOperation h) s = .next (snapWrite s h o (reportBytes (opnd o 0x18 4) t) [((newest s).map
      fun x => x.gen % 0x100000000).getD 0, 0, 0, 64])) ∧
  -- setProfile
  (∀ (s : State) (h : Nat) (n : Nat) (o : Op) (x : Profile),
    ready s h 0x30 = some o →
    bitN (setProfileByte o) 2 = false →
    n = fld (setProfileByte o) 0 2 →
    storedProfile s n = some x →
    profileFail (moduleGb s) x = 0 →
    x.dirG ≠ 0 →
    pinnedBasin s ≤ x.pinLimit →
    exec (.setProfile h) s = .next (endWith (wb (wf s profStat 2 2 n) profStat 4 true) h 0 [x.version, 0, 0, 0])) ∧
  -- setProfileCancel
  (∀ (s : State) (h : Nat) (o : Op),
    ready s h 0x30 = some o →
    bitN (setProfileByte o) 2 = true →
    exec (.setProfileCancel h) s = .next (endWith (wf s profStat 2 3 0) h 0 [0, 0, 0, 0]))

/-- READ32 and WRITE32 act as identity 0x003 on the register map; MCTP control, the sensors and the event receiver
  answer while Holhild runs; a locked TAP answers IDCODE and BYPASS alone. (R423, R476, R477, R485, R510, chapter
  21) -/
def Obligations.SidebandAndJtagAct : Prop :=
  -- read32
  (∀ (s : State) (t : State) (a : Nat) (v : Nat),
    s.pwr.held ≠ 1 →
    regRead s 3 a = (v, t) →
    exec (.read32 a) s = .next (put t (.readData a (BitVec.ofNat 32 v)))) ∧
  -- write32
  (∀ (s : State) (a : Nat) (v : W32),
    s.pwr.held ≠ 1 →
    exec (.write32 a v) s = busWrite s 3 a 4 v.toNat) ∧
  -- write32
  (∀ (s : State) (t : State) (a : Nat) (v : W32),
    s.pwr.held ≠ 1 →
    assigned (a / 4096) = true →
    pageHeld s (a / 4096) = false →
    a % 4 = 0 →
    regWrite s 3 (a / 4096) (a % 4096) (v.toNat % 2 ^ 32) = .next t →
    exec (.write32 a v) s = .next t) ∧
  -- mctpControl
  (∀ (s : State) (e : Nat),
    s.pwr.held ≠ 1 →
    1 ≤ e →
    e ≤ 254 →
    exec (.mctpControl (.setEid e)) s = .next (put { s with side := { s.side with eid := e } } (.reply 0x60001 [0,
      0, e] []))) ∧
  -- mctpControl
  (∀ (s : State) (e : Nat),
    s.pwr.held ≠ 1 →
    (e = 0 ∨ 254 < e) →
    exec (.mctpControl (.setEid e)) s = .next (put s (.reply 0x60001 [2, 0, s.side.eid] []))) ∧
  -- mctpControl
  (∀ (s : State) (c : Nat),
    s.pwr.held ≠ 1 →
    (exec (.mctpControl .getEid) s = .next (put s (.reply 0x60002 [0, s.side.eid] [])) ∧ exec (.mctpControl
      .getTypes) s = .next (put s (.reply 0x60005 [0, 4, 0x00, 0x01, 0x05, 0x7E] [])) ∧ exec (.mctpControl (.other
      c)) s = .next (put s (.reply (0x60000 + c) [5] [])))) ∧
  -- getPdr
  (∀ (s : State) (r : Nat),
    s.pwr.held ≠ 1 →
    1 ≤ r →
    r ≤ 29 →
    exec (.getPdr r) s = .next (put s (.reply 0x50251 [0, if r = 29 then 0 else r + 1, r, if r = 28 then 4 else 2,
      r] []))) ∧
  -- getSensorReading
  (∀ (s : State) (n : Nat) (v : Nat),
    s.pwr.held ≠ 1 →
    sensorValue s n = some v →
    exec (.getSensorReading n) s = .next (put s (.reply 0x50211 [0, v] []))) ∧
  -- getStateSensorReadings
  (∀ (s : State),
    s.pwr.held ≠ 1 →
    exec (.getStateSensorReadings 28) s = .next (put s (.reply 0x50221 [0, pairState s] []))) ∧
  -- setEventReceiver
  (∀ (s : State) (e : Option Nat),
    s.pwr.held ≠ 1 →
    exec (.setEventReceiver e) s = .next (put { s with side := { s.side with receiver := e } } (.reply 0x50204 [0]
      []))) ∧
  -- pldmBase
  (∀ (s : State),
    s.pwr.held ≠ 1 →
    (exec (.pldmBase 0x04) s = .next (put s (.reply 0x50004 [0, 37] [])) ∧ exec (.pldmBase 0x05) s = .next (put s
      (.reply 0x50005 [0, Config.endpointWord 0x50005] [])))) ∧
  -- jtagTapAccess
  (∀ (s : State),
    confidential s = false →
    s.pwr.aon = true →
    (exec (.jtagTapAccess 0) s = .next (put s (.reply 0x70000 [0xB0024A7D] [])) ∧ exec (.jtagTapAccess 1) s = .next
      (put s (.reply 0x70001 [] [])))) ∧
  (∀ (s : State) (i : Nat),
    confidential s = false →
    s.pwr.aon = true →
    debugOpen s = false →
    2 ≤ i →
    exec (.jtagTapAccess i) s = .next s)

/-- Soft reset, lock, and the interrupt registers of a page that is assigned and not held act as chapter 22 gives; a
  lock bit stays set. (R489, R490, R491, chapter 22) -/
def Obligations.CommonHeaderActs : Prop :=
  -- softReset
  (∀ (s : State) (id : Nat) (p : Nat),
    headerOpen s p = true →
    mayWrite id p 0x008 = true →
    exec (.softReset id p) s = .next (srst s p)) ∧
  -- blkLock
  (∀ (s : State) (id : Nat) (p : Nat),
    headerOpen s p = true →
    mayWrite id p 0x008 = true →
    (exec (.blkLock id p) s = .next (wb s (ra p 0x008) 2 true) ∧ locked (wb s (ra p 0x008) 2 true) p = true)) ∧
  -- blkIsrClear
  (∀ (s : State) (id : Nat) (p : Nat) (v : W32),
    headerOpen s p = true →
    exec (.blkIsrClear id p v) s = .next (isrWrite s p v.toNat)) ∧
  -- blkIerWrite
  (∀ (s : State) (id : Nat) (p : Nat) (v : W32),
    headerOpen s p = true →
    exec (.blkIerWrite id p v) s = .next (ierWrite s p v.toNat))
end

