-- ==== Sys2Proof/Laws/Tables.lean ====
section
/-!
SUPPORT. Laws of the sparse tables and of bit fields: what a read gives after a write, and the canonical form.
-/
namespace Sys2Proof.Machine

variable {V : Type}

/-! ## Reads after writes -/

@[simp] theorem tget_nil (a : Nat) : tget ([] : Tbl V) a = none := rfl

theorem tget_tput (t : Tbl V) (a b : Nat) (x : V) : tget (tput t a x) b = if b = a then some x else tget t b := by
  induction t with
  | nil => simp [tput, tget]
  | cons e t ih =>
    obtain ⟨k, v⟩ := e
    simp only [tput]
    split
    · simp only [tget]
    · split
      · subst_vars; simp only [tget]; split <;> rfl
      · simp only [tget, ih]
        by_cases h : b = k
        · simp only [h, if_true]; rw [if_neg]; intro h'; exact absurd h'.symm (by assumption)
        · simp [h]

@[simp] theorem tget_tput_same (t : Tbl V) (a : Nat) (x : V) : tget (tput t a x) a = some x := by simp [tget_tput]

theorem tget_tmod (t : Tbl V) (a b : Nat) (f : V → V) : tget (tmod t a f) b = if b = a then (tget t a).map f else tget t b := by
  unfold tmod
  split
  · next v hv => rw [tget_tput, hv]; rfl
  · next hv =>
    split
    · next e => rw [e, hv]; rfl
    · rfl

@[simp] theorem tget_tmod_same (t : Tbl V) (a : Nat) (f : V → V) : tget (tmod t a f) a = (tget t a).map f := by
  simp [tget_tmod]

theorem tget_tdel (t : Tbl V) (a b : Nat) : tget (tdel t a) b = if b = a then none else tget t b := by
  induction t with
  | nil => simp [tdel, tget]
  | cons e t ih =>
    obtain ⟨k, v⟩ := e
    simp only [tdel]
    split
    · subst_vars; rw [ih]; simp only [tget]
      by_cases h : b = k <;> simp [h]
    · simp only [tget, ih]
      by_cases h : b = k
      · simp only [h, if_true]; rw [if_neg]; intro h'; exact absurd h'.symm (by assumption)
      · simp [h]

@[simp] theorem tget_tdel_same (t : Tbl V) (a : Nat) : tget (tdel t a) a = none := by simp [tget_tdel]

theorem tgetD_tput (t : Tbl V) (a b : Nat) (x d : V) :
    tgetD (tput t a x) b d = if b = a then x else tgetD t b d := by
  simp only [tgetD, tget_tput]; split <;> simp

@[simp] theorem tgetD_tput_same (t : Tbl V) (a : Nat) (x d : V) : tgetD (tput t a x) a d = x := by simp [tgetD_tput]

theorem tgetD_tdel (t : Tbl V) (a b : Nat) (d : V) : tgetD (tdel t a) b d = if b = a then d else tgetD t b d := by
  simp only [tgetD, tget_tdel]; split <;> simp

theorem tgetD_tset [DecidableEq V] (t : Tbl V) (a b : Nat) (x d : V) :
    tgetD (tset d t a x) b d = if b = a then x else tgetD t b d := by
  simp only [tset]; split
  · rw [tgetD_tdel]; split <;> simp_all
  · rw [tgetD_tput]

@[simp] theorem tgetD_tset_same [DecidableEq V] (t : Tbl V) (a : Nat) (x d : V) : tgetD (tset d t a x) a d = x := by
  simp [tgetD_tset]

/-! ## The canonical form -/

/-- The first key of a table lies above a bound. -/
theorem twf_cons [DecidableEq V] (d : V) (k : Nat) (v : V) (t : Tbl V) :
    twf d ((k, v) :: t) = true ↔ v ≠ d ∧ (∀ e ∈ t.head?, k < e.1) ∧ twf d t = true := by
  cases t with
  | nil => simp [twf]
  | cons e t => obtain ⟨k', v'⟩ := e; simp [twf, and_assoc]

theorem twf_keys [DecidableEq V] (d : V) (k : Nat) (v : V) (t : Tbl V) (h : twf d ((k, v) :: t) = true) :
    ∀ e ∈ t, k < e.1 := by
  induction t generalizing k v with
  | nil => simp
  | cons e t ih =>
    obtain ⟨k', v'⟩ := e
    rw [twf_cons] at h
    obtain ⟨_, h1, h2⟩ := h
    have h3 : k < k' := h1 (k', v') (by simp)
    intro x hx
    rcases List.mem_cons.1 hx with hx | hx
    · subst hx; exact h3
    · exact lt_trans h3 (ih k' v' h2 x hx)

theorem twf_of [DecidableEq V] (d : V) (k : Nat) (v : V) (t : Tbl V) (hv : v ≠ d) (hk : ∀ e ∈ t, k < e.1)
    (ht : twf d t = true) : twf d ((k, v) :: t) = true := by
  rw [twf_cons]
  refine ⟨hv, ?_, ht⟩
  intro e he
  exact hk e (List.mem_of_mem_head? he)

theorem tput_keys (t : Tbl V) (a k : Nat) (x : V) (h : ∀ e ∈ t, k < e.1) (ha : k < a) :
    ∀ e ∈ tput t a x, k < e.1 := by
  induction t with
  | nil => simp [tput, ha]
  | cons e t ih =>
    obtain ⟨k', v'⟩ := e
    have h1 : k < k' := h (k', v') (by simp)
    have h2 : ∀ e ∈ t, k < e.1 := fun e he => h e (List.mem_cons_of_mem _ he)
    simp only [tput]
    split
    · intro e he
      rcases List.mem_cons.1 he with he | he
      · subst he; exact ha
      · exact h e he
    · split
      · intro e he
        rcases List.mem_cons.1 he with he | he
        · subst he; exact h1
        · exact h2 e he
      · intro e he
        rcases List.mem_cons.1 he with he | he
        · subst he; exact h1
        · exact ih h2 e he

theorem twf_tput [DecidableEq V] (d : V) (t : Tbl V) (a : Nat) (x : V) (hx : x ≠ d) (h : twf d t = true) :
    twf d (tput t a x) = true := by
  induction t with
  | nil => simp [tput, twf, hx]
  | cons e t ih =>
    obtain ⟨k, v⟩ := e
    have hk := twf_keys d k v t h
    obtain ⟨hv, _, ht⟩ := (twf_cons d k v t).1 h
    simp only [tput]
    split
    · rename_i hlt
      refine twf_of d a x _ hx ?_ h
      intro e he
      rcases List.mem_cons.1 he with he | he
      · subst he; exact hlt
      · exact lt_trans hlt (hk e he)
    · split
      · exact twf_of d k x t hx hk ht
      · rename_i h1 h2
        exact twf_of d k v _ hv (tput_keys t a k x hk (by omega)) (ih ht)

theorem mem_tdel (t : Tbl V) (a : Nat) (e : Nat × V) (h : e ∈ tdel t a) : e ∈ t := by
  induction t with
  | nil => simp [tdel] at h
  | cons x t ih =>
    obtain ⟨k, v⟩ := x
    simp only [tdel] at h
    split at h
    · exact List.mem_cons_of_mem _ (ih h)
    · rcases List.mem_cons.1 h with h | h
      · subst h; simp
      · exact List.mem_cons_of_mem _ (ih h)

theorem twf_tdel [DecidableEq V] (d : V) (t : Tbl V) (a : Nat) (h : twf d t = true) : twf d (tdel t a) = true := by
  induction t with
  | nil => simp [tdel, twf]
  | cons e t ih =>
    obtain ⟨k, v⟩ := e
    have hk := twf_keys d k v t h
    obtain ⟨hv, _, ht⟩ := (twf_cons d k v t).1 h
    simp only [tdel]
    split
    · exact ih ht
    · exact twf_of d k v _ hv (fun e he => hk e (mem_tdel t a e he)) (ih ht)

theorem twf_tset [DecidableEq V] (d : V) (t : Tbl V) (a : Nat) (x : V) (h : twf d t = true) :
    twf d (tset d t a x) = true := by
  simp only [tset]
  split
  · exact twf_tdel d t a h
  · exact twf_tput d t a x (by assumption) h

theorem twf_filter [DecidableEq V] (d : V) (t : Tbl V) (p : Nat × V → Bool) (h : twf d t = true) :
    twf d (t.filter p) = true := by
  induction t with
  | nil => simp [twf]
  | cons e t ih =>
    obtain ⟨k, v⟩ := e
    have hk := twf_keys d k v t h
    obtain ⟨hv, _, ht⟩ := (twf_cons d k v t).1 h
    simp only [List.filter]
    split
    · exact twf_of d k v _ hv (fun e he => hk e (List.mem_of_mem_filter he)) (ih ht)
    · exact ih ht

theorem twf_mergeSet [DecidableEq V] (d : V) (t u : Tbl V) (h : twf d t = true) : twf d (mergeSet d t u) = true := by
  unfold mergeSet
  induction u generalizing t with
  | nil => exact h
  | cons e u ih => exact ih _ (twf_tset d t _ _ h)

/-! ## Bit fields -/

theorem fld_eq (v lo w : Nat) : fld v lo w = v / 2 ^ lo % 2 ^ w := by simp [fld, Nat.shiftRight_eq_div_pow]

theorem fld_lt (v lo w : Nat) : fld v lo w < 2 ^ w := by rw [fld_eq]; exact Nat.mod_lt _ (Nat.two_pow_pos w)

/-- A number in three parts around a field. -/
theorem split3 (v lo w : Nat) : v = v / 2 ^ (lo + w) * 2 ^ (lo + w) + fld v lo w * 2 ^ lo + v % 2 ^ lo := by
  have h1 := Nat.div_add_mod v (2 ^ lo)
  have h2 := Nat.div_add_mod (v / 2 ^ lo) (2 ^ w)
  rw [fld_eq, pow_add, ← Nat.div_div_eq_div_mul]
  calc v = 2 ^ lo * (2 ^ w * (v / 2 ^ lo / 2 ^ w) + v / 2 ^ lo % 2 ^ w) + v % 2 ^ lo := by rw [h2, h1]
    _ = _ := by ring

theorem setFld_eq (v lo w x : Nat) :
    setFld v lo w x = v / 2 ^ (lo + w) * 2 ^ (lo + w) + x % 2 ^ w * 2 ^ lo + v % 2 ^ lo := by
  have h := split3 v lo w
  unfold setFld
  omega

theorem parts_div (h m l lo w : Nat) (hl : l < 2 ^ lo) :
    (h * 2 ^ (lo + w) + m * 2 ^ lo + l) / 2 ^ lo = h * 2 ^ w + m := by
  rw [pow_add, show h * (2 ^ lo * 2 ^ w) + m * 2 ^ lo + l = l + 2 ^ lo * (h * 2 ^ w + m) by ring,
    Nat.add_mul_div_left _ _ (Nat.two_pow_pos lo), Nat.div_eq_of_lt hl, Nat.zero_add]

@[simp] theorem fld_setFld_same (v lo w x : Nat) : fld (setFld v lo w x) lo w = x % 2 ^ w := by
  rw [setFld_eq, fld_eq, parts_div _ _ _ _ _ (Nat.mod_lt _ (Nat.two_pow_pos lo))]
  simp

/-- A field below the one that is set. -/
theorem fld_setFld_below (v lo w x l k : Nat) (h : l + k ≤ lo) : fld (setFld v lo w x) l k = fld v l k := by
  have e (u : Nat) : fld u l k = fld (u % 2 ^ lo) l k := by
    rw [fld_eq, fld_eq]
    obtain ⟨d, rfl⟩ := Nat.exists_eq_add_of_le h
    rw [show l + k + d = l + (k + d) by ring, pow_add, Nat.mod_mul_right_div_self, Nat.mod_mod_of_dvd]
    exact ⟨2 ^ d, by rw [pow_add]⟩
  rw [e, e v, setFld_eq]
  congr 1
  rw [pow_add, show v / (2 ^ lo * 2 ^ w) * (2 ^ lo * 2 ^ w) + x % 2 ^ w * 2 ^ lo + v % 2 ^ lo =
    v % 2 ^ lo + 2 ^ lo * (v / (2 ^ lo * 2 ^ w) * 2 ^ w + x % 2 ^ w) by ring, Nat.add_mul_mod_self_left, Nat.mod_mod]

/-- A field above the one that is set. -/
theorem fld_setFld_above (v lo w x l k : Nat) (h : lo + w ≤ l) : fld (setFld v lo w x) l k = fld v l k := by
  have d : setFld v lo w x / 2 ^ (lo + w) = v / 2 ^ (lo + w) := by
    rw [setFld_eq]
    have h1 : x % 2 ^ w * 2 ^ lo + v % 2 ^ lo < 2 ^ (lo + w) := by
      have a := Nat.mod_lt x (Nat.two_pow_pos w)
      have b := Nat.mod_lt v (Nat.two_pow_pos lo)
      rw [pow_add]
      nlinarith [Nat.two_pow_pos lo]
    rw [show v / 2 ^ (lo + w) * 2 ^ (lo + w) + x % 2 ^ w * 2 ^ lo + v % 2 ^ lo =
      (x % 2 ^ w * 2 ^ lo + v % 2 ^ lo) + 2 ^ (lo + w) * (v / 2 ^ (lo + w)) by ring,
      Nat.add_mul_div_left _ _ (Nat.two_pow_pos _), Nat.div_eq_of_lt h1, Nat.zero_add]
  obtain ⟨e, rfl⟩ := Nat.exists_eq_add_of_le h
  rw [fld_eq, fld_eq, pow_add 2 (lo + w) e, ← Nat.div_div_eq_div_mul, ← Nat.div_div_eq_div_mul, d]

theorem setFld_lt (v lo w x n : Nat) (hv : v < 2 ^ n) (h : lo + w ≤ n) : setFld v lo w x < 2 ^ n := by
  rw [setFld_eq]
  obtain ⟨e, rfl⟩ := Nat.exists_eq_add_of_le h
  have h1 : x % 2 ^ w * 2 ^ lo + v % 2 ^ lo < 2 ^ (lo + w) := by
    have a := Nat.mod_lt x (Nat.two_pow_pos w)
    have b := Nat.mod_lt v (Nat.two_pow_pos lo)
    rw [pow_add 2 lo w]
    nlinarith [Nat.two_pow_pos lo]
  have h2 : v / 2 ^ (lo + w) < 2 ^ e := by
    rw [Nat.div_lt_iff_lt_mul (Nat.two_pow_pos _)]
    rwa [← pow_add, Nat.add_comm e]
  rw [pow_add 2 (lo + w) e]
  nlinarith [Nat.two_pow_pos (lo + w)]

end Sys2Proof.Machine
end

