-- ==== Sys2Proof/Laws/Keeps.lean ====
section
/-!
SUPPORT. What every command keeps: the waiting commands, what has left the block, the numbers of the free values already
drawn, the canonical form of pool memory, of its poison marks and of the counters, and every field of State outside a set
`W` of fields that it may change. Here the relation and its rules; the files Keeps1 and on hold one lemma for each
operation.
-/
namespace Sys2Proof.Machine

/-- The set `m` of fields lies in `W`; bit i stands for the i-th field of State. -/
abbrev Sub (m W : Nat) : Prop := m &&& W = m

theorem Sub.up {m n W : Nat} (h : Sub m n) (k : Sub n W) : Sub m W := by
  unfold Sub at *
  rw [← h, Nat.land_assoc, k]

theorem Sub.bit {m W i : Nat} (k : Sub m W) (h : m.testBit i = true) : W.testBit i = true := by
  unfold Sub at k
  have e := congrArg (fun n => n.testBit i) k
  simp only [Nat.testBit_land, h, Bool.true_and] at e
  exact e

theorem Sub.chg {α : Type} {m W i : Nat} {a b : α} (k : Sub m W) (h : m.testBit i = true) : a = b ∨ W.testBit i = true :=
  .inr (k.bit h)

theorem kept {α : Type} {a : α} {p : Prop} : a = a ∨ p := Or.inl rfl

/-- `t` can follow `s`, with changes in the fields of `W` alone. -/
structure Keeps (W : Nat) (s t : State) : Prop where
  pending : t.pending = s.pending
  freshLe : s.fresh ≤ t.fresh
  outSuffix : s.out <:+ t.out
  canonical : Inv s → Inv t
  now : t.now = s.now ∨ W.testBit 0 = true
  fresh : t.fresh = s.fresh ∨ W.testBit 1 = true
  regs : t.regs = s.regs ∨ W.testBit 2 = true
  idx : t.idx = s.idx ∨ W.testBit 3 = true
  mem : t.mem = s.mem ∨ W.testBit 4 = true
  poison : t.poison = s.poison ∨ W.testBit 5 = true
  alloc : t.alloc = s.alloc ∨ W.testBit 6 = true
  xlt : t.xlt = s.xlt ∨ W.testBit 7 = true
  dir : t.dir = s.dir ∨ W.testBit 8 = true
  weir : t.weir = s.weir ∨ W.testBit 9 = true
  tier : t.tier = s.tier ∨ W.testBit 10 = true
  cmd : t.cmd = s.cmd ∨ W.testBit 11 = true
  route : t.route = s.route ∨ W.testBit 12 = true
  fault : t.fault = s.fault ∨ W.testBit 13 = true
  link : t.link = s.link ∨ W.testBit 14 = true
  cxl : t.cxl = s.cxl ∨ W.testBit 15 = true
  mbx : t.mbx = s.mbx ∨ W.testBit 16 = true
  sec : t.sec = s.sec ∨ W.testBit 17 = true
  dram : t.dram = s.dram ∨ W.testBit 18 = true
  basin : t.basin = s.basin ∨ W.testBit 19 = true
  pwr : t.pwr = s.pwr ∨ W.testBit 20 = true
  pair : t.pair = s.pair ∨ W.testBit 21 = true
  fw : t.fw = s.fw ∨ W.testBit 22 = true
  ctr : t.ctr = s.ctr ∨ W.testBit 23 = true
  side : t.side = s.side ∨ W.testBit 24 = true
  counters : t.counters = s.counters ∨ W.testBit 25 = true
  out : t.out = s.out ∨ W.testBit 26 = true

/-- Outside `W` the two states agree. -/
theorem Keeps.same {W : Nat} {s t : State} (h : Keeps W s t) (p : Part) (hp : W.testBit p.index = false) : p.same s t := by
  cases p
  · exact h.now.resolve_right (by simp [Part.index] at hp; simp [hp])
  · exact h.fresh.resolve_right (by simp [Part.index] at hp; simp [hp])
  · exact h.regs.resolve_right (by simp [Part.index] at hp; simp [hp])
  · exact h.idx.resolve_right (by simp [Part.index] at hp; simp [hp])
  · exact h.mem.resolve_right (by simp [Part.index] at hp; simp [hp])
  · exact h.poison.resolve_right (by simp [Part.index] at hp; simp [hp])
  · exact h.alloc.resolve_right (by simp [Part.index] at hp; simp [hp])
  · exact h.xlt.resolve_right (by simp [Part.index] at hp; simp [hp])
  · exact h.dir.resolve_right (by simp [Part.index] at hp; simp [hp])
  · exact h.weir.resolve_right (by simp [Part.index] at hp; simp [hp])
  · exact h.tier.resolve_right (by simp [Part.index] at hp; simp [hp])
  · exact h.cmd.resolve_right (by simp [Part.index] at hp; simp [hp])
  · exact h.route.resolve_right (by simp [Part.index] at hp; simp [hp])
  · exact h.fault.resolve_right (by simp [Part.index] at hp; simp [hp])
  · exact h.link.resolve_right (by simp [Part.index] at hp; simp [hp])
  · exact h.cxl.resolve_right (by simp [Part.index] at hp; simp [hp])
  · exact h.mbx.resolve_right (by simp [Part.index] at hp; simp [hp])
  · exact h.sec.resolve_right (by simp [Part.index] at hp; simp [hp])
  · exact h.dram.resolve_right (by simp [Part.index] at hp; simp [hp])
  · exact h.basin.resolve_right (by simp [Part.index] at hp; simp [hp])
  · exact h.pwr.resolve_right (by simp [Part.index] at hp; simp [hp])
  · exact h.pair.resolve_right (by simp [Part.index] at hp; simp [hp])
  · exact h.fw.resolve_right (by simp [Part.index] at hp; simp [hp])
  · exact h.ctr.resolve_right (by simp [Part.index] at hp; simp [hp])
  · exact h.side.resolve_right (by simp [Part.index] at hp; simp [hp])
  · exact h.counters.resolve_right (by simp [Part.index] at hp; simp [hp])
  · exact h.out.resolve_right (by simp [Part.index] at hp; simp [hp])

theorem Keeps.refl (W : Nat) (s : State) : Keeps W s s := by
  constructor
  · rfl
  · exact le_rfl
  · exact List.suffix_rfl
  · exact id
  all_goals exact kept

theorem same_or_trans {α : Type} {a b c : α} {p : Prop} (h : b = a ∨ p) (k : c = b ∨ p) : c = a ∨ p := by
  rcases k with k | k
  · rcases h with h | h
    · exact .inl (k.trans h)
    · exact .inr h
  · exact .inr k

theorem Keeps.trans {W : Nat} {a b c : State} (h : Keeps W a b) (k : Keeps W b c) : Keeps W a c where
  pending := k.pending.trans h.pending
  freshLe := h.freshLe.trans k.freshLe
  outSuffix := h.outSuffix.trans k.outSuffix
  canonical := fun x => k.canonical (h.canonical x)
  now := same_or_trans h.now k.now
  fresh := same_or_trans h.fresh k.fresh
  regs := same_or_trans h.regs k.regs
  idx := same_or_trans h.idx k.idx
  mem := same_or_trans h.mem k.mem
  poison := same_or_trans h.poison k.poison
  alloc := same_or_trans h.alloc k.alloc
  xlt := same_or_trans h.xlt k.xlt
  dir := same_or_trans h.dir k.dir
  weir := same_or_trans h.weir k.weir
  tier := same_or_trans h.tier k.tier
  cmd := same_or_trans h.cmd k.cmd
  route := same_or_trans h.route k.route
  fault := same_or_trans h.fault k.fault
  link := same_or_trans h.link k.link
  cxl := same_or_trans h.cxl k.cxl
  mbx := same_or_trans h.mbx k.mbx
  sec := same_or_trans h.sec k.sec
  dram := same_or_trans h.dram k.dram
  basin := same_or_trans h.basin k.basin
  pwr := same_or_trans h.pwr k.pwr
  pair := same_or_trans h.pair k.pair
  fw := same_or_trans h.fw k.fw
  ctr := same_or_trans h.ctr k.ctr
  side := same_or_trans h.side k.side
  counters := same_or_trans h.counters k.counters
  out := same_or_trans h.out k.out

/-- A change of fields other than the waiting commands, the free values, memory, marks, counters and what has left. -/
theorem Keeps.congr {W : Nat} {z s t : State} (h : Keeps W z s) (hp : t.pending = s.pending) (hf : t.fresh = s.fresh)
    (ho : t.out = s.out) (hm : t.mem = s.mem) (hq : t.poison = s.poison) (hc : t.counters = s.counters)
    (now : t.now = s.now ∨ W.testBit 0 = true)
    (regs : t.regs = s.regs ∨ W.testBit 2 = true)
    (idx : t.idx = s.idx ∨ W.testBit 3 = true)
    (alloc : t.alloc = s.alloc ∨ W.testBit 6 = true)
    (xlt : t.xlt = s.xlt ∨ W.testBit 7 = true)
    (dir : t.dir = s.dir ∨ W.testBit 8 = true)
    (weir : t.weir = s.weir ∨ W.testBit 9 = true)
    (tier : t.tier = s.tier ∨ W.testBit 10 = true)
    (cmd : t.cmd = s.cmd ∨ W.testBit 11 = true)
    (route : t.route = s.route ∨ W.testBit 12 = true)
    (fault : t.fault = s.fault ∨ W.testBit 13 = true)
    (link : t.link = s.link ∨ W.testBit 14 = true)
    (cxl : t.cxl = s.cxl ∨ W.testBit 15 = true)
    (mbx : t.mbx = s.mbx ∨ W.testBit 16 = true)
    (sec : t.sec = s.sec ∨ W.testBit 17 = true)
    (dram : t.dram = s.dram ∨ W.testBit 18 = true)
    (basin : t.basin = s.basin ∨ W.testBit 19 = true)
    (pwr : t.pwr = s.pwr ∨ W.testBit 20 = true)
    (pair : t.pair = s.pair ∨ W.testBit 21 = true)
    (fw : t.fw = s.fw ∨ W.testBit 22 = true)
    (ctr : t.ctr = s.ctr ∨ W.testBit 23 = true)
    (side : t.side = s.side ∨ W.testBit 24 = true) : Keeps W z t := by
  refine h.trans ?_
  exact {
    pending := hp
    freshLe := hf.ge
    outSuffix := ho ▸ List.suffix_rfl
    canonical := by
      unfold Inv
      rw [hm, hq, hc]
      exact id
    fresh := .inl hf
    mem := .inl hm
    poison := .inl hq
    counters := .inl hc
    out := .inl ho
    now := now
    regs := regs
    idx := idx
    alloc := alloc
    xlt := xlt
    dir := dir
    weir := weir
    tier := tier
    cmd := cmd
    route := route
    fault := fault
    link := link
    cxl := cxl
    mbx := mbx
    sec := sec
    dram := dram
    basin := basin
    pwr := pwr
    pair := pair
    fw := fw
    ctr := ctr
    side := side
  }

/-- A change of the free values, memory, marks, counters and what has left, in canonical form. -/
theorem Keeps.core {W : Nat} {z s t : State} (h : Keeps W z s) (hp : t.pending = s.pending) (hf : s.fresh ≤ t.fresh)
    (ho : s.out <:+ t.out) (hc : Inv s → Inv t)
    (now : t.now = s.now ∨ W.testBit 0 = true)
    (fresh : t.fresh = s.fresh ∨ W.testBit 1 = true)
    (regs : t.regs = s.regs ∨ W.testBit 2 = true)
    (idx : t.idx = s.idx ∨ W.testBit 3 = true)
    (mem : t.mem = s.mem ∨ W.testBit 4 = true)
    (poison : t.poison = s.poison ∨ W.testBit 5 = true)
    (alloc : t.alloc = s.alloc ∨ W.testBit 6 = true)
    (xlt : t.xlt = s.xlt ∨ W.testBit 7 = true)
    (dir : t.dir = s.dir ∨ W.testBit 8 = true)
    (weir : t.weir = s.weir ∨ W.testBit 9 = true)
    (tier : t.tier = s.tier ∨ W.testBit 10 = true)
    (cmd : t.cmd = s.cmd ∨ W.testBit 11 = true)
    (route : t.route = s.route ∨ W.testBit 12 = true)
    (fault : t.fault = s.fault ∨ W.testBit 13 = true)
    (link : t.link = s.link ∨ W.testBit 14 = true)
    (cxl : t.cxl = s.cxl ∨ W.testBit 15 = true)
    (mbx : t.mbx = s.mbx ∨ W.testBit 16 = true)
    (sec : t.sec = s.sec ∨ W.testBit 17 = true)
    (dram : t.dram = s.dram ∨ W.testBit 18 = true)
    (basin : t.basin = s.basin ∨ W.testBit 19 = true)
    (pwr : t.pwr = s.pwr ∨ W.testBit 20 = true)
    (pair : t.pair = s.pair ∨ W.testBit 21 = true)
    (fw : t.fw = s.fw ∨ W.testBit 22 = true)
    (ctr : t.ctr = s.ctr ∨ W.testBit 23 = true)
    (side : t.side = s.side ∨ W.testBit 24 = true)
    (counters : t.counters = s.counters ∨ W.testBit 25 = true)
    (out : t.out = s.out ∨ W.testBit 26 = true) : Keeps W z t :=
  h.trans {
    pending := hp
    freshLe := hf
    outSuffix := ho
    canonical := hc
    now := now
    fresh := fresh
    regs := regs
    idx := idx
    mem := mem
    poison := poison
    alloc := alloc
    xlt := xlt
    dir := dir
    weir := weir
    tier := tier
    cmd := cmd
    route := route
    fault := fault
    link := link
    cxl := cxl
    mbx := mbx
    sec := sec
    dram := dram
    basin := basin
    pwr := pwr
    pair := pair
    fw := fw
    ctr := ctr
    side := side
    counters := counters
    out := out
  }

/-- A change of any field but the waiting commands, the free values and what has left, where all may change. -/
theorem Keeps.any {W : Nat} {z s t : State} (h : Keeps W z s) (hp : t.pending = s.pending) (hf : t.fresh = s.fresh)
    (ho : t.out = s.out) (hc : Inv s → Inv t) (hW : Sub 0x3FFFFFD W) : Keeps W z t := by
  refine h.trans ?_
  constructor
  case pending => exact hp
  case freshLe => exact hf.ge
  case outSuffix => exact ho ▸ List.suffix_rfl
  case canonical => exact hc
  case fresh => exact .inl hf
  case out => exact .inl ho
  all_goals exact .inr (hW.bit rfl)

/-! ## What an operation answers -/

variable {α β : Type}

@[reducible] def KeepsRes (W : Nat) (z : State) : Result → Prop
  | .next t => Keeps W z t
  | _ => True

@[reducible] def KeepsOpt (W : Nat) (z : State) : Option State → Prop
  | some t => Keeps W z t
  | none => True

@[reducible] def KeepsOptRes (W : Nat) (z : State) : Option Result → Prop
  | some r => KeepsRes W z r
  | none => True

@[reducible] def KeepsFst (W : Nat) (z : State) (p : State × α) : Prop := Keeps W z p.1
@[reducible] def KeepsSnd (W : Nat) (z : State) (p : α × State) : Prop := Keeps W z p.2
@[reducible] def KeepsTrd (W : Nat) (z : State) (p : α × β × State) : Prop := Keeps W z p.2.2
@[reducible] def KeepsBoth (W : Nat) (z : State) (p : Option State × State) : Prop := KeepsOpt W z p.1 ∧ Keeps W z p.2

@[reducible] def KeepsOptFst (W : Nat) (z : State) : Option (State × α) → Prop
  | some p => Keeps W z p.1
  | none => True

@[reducible] def KeepsOptSnd (W : Nat) (z : State) : Option (α × State) → Prop
  | some p => Keeps W z p.2
  | none => True

@[reducible] def KeepsExc (W : Nat) (z : State) : Except Nat (α × State) → Prop
  | .ok p => Keeps W z p.2
  | .error _ => True

@[reducible] def KeepsWrite (W : Nat) (z : State) : WriteGo → Prop
  | .go s => Keeps W z s
  | .wait s => Keeps W z s
  | .refuse _ => True

@[reducible] def KeepsCpl (W : Nat) (z : State) : CplGo → Prop
  | .written s => Keeps W z s
  | .wait s => Keeps W z s

@[reducible] def KeepsGo (W : Nat) (z : State) : Go α → Prop
  | .done _ s => Keeps W z s
  | .wait s => Keeps W z s
  | .refuse _ s => Keeps W z s

@[reducible] def KeepsMig (W : Nat) (z : State) : MigGo → Prop
  | .moved s => Keeps W z s
  | .skipped s => Keeps W z s
  | .left s => Keeps W z s
  | .wait s => Keeps W z s

@[reducible] def KeepsXl (W : Nat) (z : State) : Xl → Prop
  | .hit _ _ s => Keeps W z s
  | .fault _ _ s => Keeps W z s
  | .wait s => Keeps W z s

@[reducible] def KeepsAd (W : Nat) (z : State) : AdGo → Prop
  | .kept _ s => Keeps W z s
  | .wait s => Keeps W z s
  | .changed s => Keeps W z s

@[reducible] def KeepsFrame (W : Nat) (z : State) : FrameGo → Prop
  | .got _ s => Keeps W z s
  | .wait => True
  | .refuse _ => True

/-- An operation folded over a list keeps what each of its steps keeps. -/
theorem foldl_keeps {P : α → Prop} {f : α → β → α} {a : α} {l : List β} (h : P a) (hf : ∀ x y, P x → P (f x y)) :
    P (l.foldl f a) := by
  induction l generalizing a with
  | nil => exact h
  | cons b l ih => exact ih (hf a b h)

theorem KeepsOpt.getD {W : Nat} {z d : State} {o : Option State} (h : KeepsOpt W z o) (k : Keeps W z d) : Keeps W z (o.getD d) := by
  cases o with
  | none => exact k
  | some t => exact h

theorem keeps_eq {P : α → Prop} {a b : α} (e : a = b) (h : P a) : P b := e ▸ h

theorem Go.bind_keeps {W : Nat} {z : State} {x : Go α} {f : α → State → Go β} (h : KeepsGo W z x)
    (hf : ∀ a s, Keeps W z s → KeepsGo W z (f a s)) : KeepsGo W z (x.bind f) := by
  cases x with
  | done a s => exact hf a s h
  | wait s => exact h
  | refuse e s => exact h

theorem ok_keeps {W : Nat} {z s : State} (h : Keeps W z s) : KeepsRes W z (ok s) := h

theorem guarded_keeps {W : Nat} {z s : State} {c : Bool} {f : State → State} (h : Keeps W z s) (hf : ∀ s, Keeps W z s → Keeps W z (f s)) :
    KeepsRes W z (guarded c s f) := by
  unfold guarded
  cases c
  · exact h
  · exact hf s h

end Sys2Proof.Machine
end

