-- ==== Sys2Proof/Laws/Keeps1.lean ====
section
/-!
SUPPORT. Each operation keeps what Keeps.lean names, part 1: one lemma an operation, in the order of use.
-/
namespace Sys2Proof.Machine

theorem dropMove_keeps {W : Nat} {z : State} (s : State) (q : ℕ) (hW : Sub 1024 W) (h_s : Keeps W z s) :
    Keeps W z (dropMove s q) := by
  unfold dropMove
  refine Keeps.congr (s := s) ?_ rfl rfl rfl rfl rfl rfl kept kept kept kept kept kept kept (hW.chg rfl) kept kept
      kept kept kept kept kept kept kept kept kept kept kept kept
  with_reducible assumption

theorem wr_keeps {W : Nat} {z : State} (s : State) (a v : Nat) (hW : Sub 4 W) (h : Keeps W z s) : Keeps W z (wr s a
    v) :=
  Keeps.congr (s := s) h rfl rfl rfl rfl rfl rfl
    kept (hW.chg rfl) kept kept kept kept kept kept kept kept kept kept kept kept kept kept kept kept kept kept kept
        kept

theorem freeFrame_keeps {W : Nat} {z : State} (s : State) (f : ℕ) (hW : Sub 1028 W) (h_s : Keeps W z s) :
    Keeps W z (freeFrame s f) := by
  unfold freeFrame
  extract_lets v0 v1 v2 v3
  clear_value v0
  have h4 : Keeps W z v1 := by
    unfold v1
    refine Keeps.congr (s := s) ?_ rfl rfl rfl rfl rfl rfl kept kept kept kept kept kept kept (hW.chg rfl) kept kept
        kept kept kept kept kept kept kept kept kept kept kept kept
    with_reducible assumption
  clear_value v1
  clear_value v2
  have h5 : Keeps W z v3 := by
    unfold v3
    split
    · with_reducible assumption
    · refine Keeps.congr (s := v1) ?_ rfl rfl rfl rfl rfl rfl kept kept kept kept kept kept kept (hW.chg rfl) kept
          kept kept kept kept kept kept kept kept kept kept kept kept kept
      with_reducible assumption
  clear_value v3
  apply wr_keeps
  · exact Sub.up (by decide) hW
  · with_reducible assumption

theorem wf_keeps {W : Nat} {z : State} (s : State) (a : ℕ) (lo : ℕ) (w : ℕ) (x : ℕ) (hW : Sub 4 W) (h_s : Keeps W z
    s) :
    Keeps W z (wf s a lo w x) := by
  unfold wf
  apply wr_keeps
  · with_reducible assumption
  · with_reducible assumption

theorem setDrv_keeps {W : Nat} {z : State} (s : State) (d : ℕ) (st : ℕ) (hW : Sub 4 W) (h_s : Keeps W z s) :
    Keeps W z (setDrv s d st) := by
  unfold setDrv
  apply wf_keeps
  · with_reducible assumption
  · with_reducible assumption

theorem spareStep_keeps {W : Nat} {z : State} (s : State) (d : ℕ) (hW : Sub 4 W) (h_s : Keeps W z s) :
    Keeps W z (spareStep s d) := by
  unfold spareStep
  split
  · apply setDrv_keeps
    · with_reducible assumption
    · with_reducible assumption
  · split
    · apply setDrv_keeps
      · with_reducible assumption
      · with_reducible assumption
    · with_reducible assumption

theorem count_keeps {W : Nat} {z : State} (s : State) (page i n : Nat) (hW : Sub 33554432 W) (h : Keeps W z s) :
    Keeps W z (count s page i n) :=
  Keeps.core (s := s) h rfl le_rfl List.suffix_rfl (fun c => ⟨c.1, c.2.1, twf_tset _ _ _ _ c.2.2⟩)
    kept kept kept kept kept kept kept kept kept kept kept kept kept kept kept kept kept kept kept kept kept kept
        kept kept kept (hW.chg rfl) kept

theorem setIo_keeps {W : Nat} {z : State} (s : State) (f : ℕ) (io : Option Bool) (hW : Sub 1024 W) (h_s : Keeps W z
    s) :
    Keeps W z (setIo s f io) := by
  unfold setIo
  refine Keeps.congr (s := s) ?_ rfl rfl rfl rfl rfl rfl kept kept kept kept kept kept kept (hW.chg rfl) kept kept
      kept kept kept kept kept kept kept kept kept kept kept kept
  with_reducible assumption

theorem put_keeps {W : Nat} {z : State} (s : State) (o : Out) (hW : Sub 67109888 W) (h : Keeps W z s) : Keeps W z
    (put s o) := by
  unfold put
  split
  · exact Keeps.core (s := s) h rfl le_rfl (List.suffix_cons _ _) id
      kept kept kept kept kept kept kept kept kept kept (hW.chg rfl) kept kept kept kept kept kept kept kept kept
          kept kept kept kept kept kept (hW.chg rfl)
  · exact Keeps.core (s := s) h rfl le_rfl (List.suffix_cons _ _) id
      kept kept kept kept kept kept kept kept kept kept kept kept kept kept kept kept kept kept kept kept kept kept
          kept kept kept kept (hW.chg rfl)

theorem issueNvme_keeps {W : Nat} {z : State} (s : State) (d : ℕ) (c : NvmeCmd) (hW : Sub 67109888 W) (h_s : Keeps W
    z s) :
    Keeps W z (issueNvme s d c) := by
  unfold issueNvme
  split
  · refine Keeps.congr (s := s) ?_ rfl rfl rfl rfl rfl rfl kept kept kept kept kept kept kept (hW.chg rfl) kept kept
        kept kept kept kept kept kept kept kept kept kept kept kept
    with_reducible assumption
  · apply put_keeps
    · with_reducible assumption
    · with_reducible assumption

theorem deallocCis_keeps {W : Nat} {z : State} (s : State) (f : ℕ) (hW : Sub 67109888 W) (h_s : Keeps W z s) :
    Keeps W z (deallocCis s f) := by
  unfold deallocCis
  apply issueNvme_keeps
  · with_reducible assumption
  · with_reducible assumption

theorem freeCis_keeps {W : Nat} {z : State} (s : State) (f : ℕ) (hW : Sub 100664324 W) (h_s : Keeps W z s) :
    Keeps W z (freeCis s f) := by
  unfold freeCis
  extract_lets v0 v1 v2
  clear_value v0
  have h3 : Keeps W z v1 := by
    unfold v1
    refine Keeps.congr (s := s) ?_ rfl rfl rfl rfl rfl rfl kept kept kept kept kept kept kept (hW.chg rfl) kept kept
        kept kept kept kept kept kept kept kept kept kept kept kept
    with_reducible assumption
  clear_value v1
  have h4 : Keeps W z v2 := by
    unfold v2
    apply spareStep_keeps
    · exact Sub.up (by decide) hW
    · apply count_keeps
      · exact Sub.up (by decide) hW
      · apply setIo_keeps
        · exact Sub.up (by decide) hW
        · apply deallocCis_keeps
          · exact Sub.up (by decide) hW
          · with_reducible assumption
  clear_value v2
  apply wr_keeps
  · exact Sub.up (by decide) hW
  · with_reducible assumption

theorem abandonMove_keeps {W : Nat} {z : State} (s : State) (m : Move) (hW : Sub 100664324 W) (h_s : Keeps W z s) :
    Keeps W z (abandonMove s m) := by
  unfold abandonMove
  extract_lets v0 v1
  have h2 : Keeps W z v0 := by
    unfold v0
    apply dropMove_keeps
    · exact Sub.up (by decide) hW
    · with_reducible assumption
  clear_value v0
  have h3 : Keeps W z v1 := by
    unfold v1
    split
    · apply freeFrame_keeps
      · exact Sub.up (by decide) hW
      · with_reducible assumption
    · apply freeCis_keeps
      · with_reducible assumption
      · with_reducible assumption
  clear_value v1
  split
  · with_reducible assumption
  · apply count_keeps
    · exact Sub.up (by decide) hW
    · with_reducible assumption

theorem abandonMoves_keeps {W : Nat} {z : State} (s : State) (base : ℕ) (pages : ℕ) (p : Move → Bool) (hW : Sub
    100664324 W) (h_s : Keeps W z s) :
    Keeps W z (abandonMoves s base pages p) := by
  unfold abandonMoves
  refine foldl_keeps (P := Keeps W z) ?_ ?_
  · with_reducible assumption
  · intro y0 y1 y2
    apply abandonMove_keeps
    · with_reducible assumption
    · with_reducible assumption

theorem abandonFreed_keeps {W : Nat} {z : State} (s : State) (base : ℕ) (pages : ℕ) (hW : Sub 100664324 W) (h_s :
    Keeps W z s) :
    Keeps W z (abandonFreed s base pages) := by
  unfold abandonFreed
  apply abandonMoves_keeps
  · with_reducible assumption
  · with_reducible assumption

theorem popRx_keeps {W : Nat} {z : State} (s : State) (port : ℕ) (pkt : Packet) (hW : Sub 16384 W) (h_s : Keeps W z
    s) :
    KeepsOpt W z (popRx s port pkt) := by
  unfold popRx
  extract_lets v0 v1 v2 v3
  clear_value v0
  clear_value v1
  clear_value v2
  clear_value v3
  split
  · exact trivial
  · split
    · change Keeps W z _
      refine Keeps.congr (s := s) ?_ rfl rfl rfl rfl rfl rfl kept kept kept kept kept kept kept kept kept kept kept
          (hW.chg rfl) kept kept kept kept kept kept kept kept kept kept
      with_reducible assumption
    · exact trivial

theorem gauge_keeps {W : Nat} {z : State} (s : State) (page i v : Nat) (hW : Sub 33554432 W) (h : Keeps W z s) :
    Keeps W z (gauge s page i v) :=
  Keeps.core (s := s) h rfl le_rfl List.suffix_rfl (fun c => ⟨c.1, c.2.1, twf_tset _ _ _ _ c.2.2⟩)
    kept kept kept kept kept kept kept kept kept kept kept kept kept kept kept kept kept kept kept kept kept kept
        kept kept kept (hW.chg rfl) kept

theorem depthGauge_keeps {W : Nat} {z : State} (s : State) (sch : ℕ) (hW : Sub 33554432 W) (h_s : Keeps W z s) :
    Keeps W z (depthGauge s sch) := by
  unfold depthGauge
  split
  · with_reducible assumption
  · refine foldl_keeps (P := Keeps W z) ?_ ?_
    · with_reducible assumption
    · intro y2 y3 y4
      apply gauge_keeps
      · with_reducible assumption
      · with_reducible assumption

theorem setSched_keeps {W : Nat} {z : State} (s : State) (sch : ℕ) (x : Sched) (hW : Sub 512 W) (h_s : Keeps W z s) :
    Keeps W z (setSched s sch x) := by
  unfold setSched
  refine Keeps.congr (s := s) ?_ rfl rfl rfl rfl rfl rfl kept kept kept kept kept kept (hW.chg rfl) kept kept kept
      kept kept kept kept kept kept kept kept kept kept kept kept
  with_reducible assumption

theorem enqueue_keeps {W : Nat} {z : State} (s : State) (sch : ℕ) (u : WUnit) (hW : Sub 33554944 W) (h_s : Keeps W z
    s) :
    Keeps W z (enqueue s sch u) := by
  unfold enqueue
  extract_lets v0 v1
  clear_value v0
  clear_value v1
  apply depthGauge_keeps
  · exact Sub.up (by decide) hW
  · apply setSched_keeps
    · exact Sub.up (by decide) hW
    · with_reducible assumption

theorem runAt_keeps {W : Nat} {z : State} (s : State) (p : ℕ) (m : RunMsg) (hW : Sub 33554944 W) (h_s : Keeps W z s) :
    Keeps W z (runAt s p m) := by
  unfold runAt
  extract_lets v0
  clear_value v0
  apply enqueue_keeps
  · with_reducible assumption
  · with_reducible assumption

theorem sendRunnel_keeps {W : Nat} {z : State} (s : State) (k : ℕ) (m : RunMsg) (hW : Sub 35652096 W) (h_s : Keeps W
    z s) :
    Keeps W z (sendRunnel s k m) := by
  unfold sendRunnel
  extract_lets v0 v1 v2
  clear_value v0
  clear_value v1
  have h3 : Keeps W z v2 := by
    unfold v2
    split
    · refine Keeps.congr (s := s) ?_ rfl rfl rfl rfl rfl rfl kept kept kept kept kept kept kept kept kept kept kept
          kept kept kept kept kept kept kept (hW.chg rfl) kept kept kept
      with_reducible assumption
    · with_reducible assumption
  clear_value v2
  apply runAt_keeps
  · exact Sub.up (by decide) hW
  · with_reducible assumption

theorem wb_keeps {W : Nat} {z : State} (s : State) (a : ℕ) (lo : ℕ) (b : Bool) (hW : Sub 4 W) (h_s : Keeps W z s) :
    Keeps W z (wb s a lo b) := by
  unfold wb
  apply wf_keeps
  · with_reducible assumption
  · with_reducible assumption

theorem relayPacket_keeps {W : Nat} {z : State} (s : State) (port : ℕ) (pkt : Packet) (hW : Sub 35652100 W) (h_s :
    Keeps W z s) :
    Keeps W z (relayPacket s port pkt) := by
  unfold relayPacket
  apply sendRunnel_keeps
  · exact Sub.up (by decide) hW
  · apply wb_keeps
    · exact Sub.up (by decide) hW
    · with_reducible assumption

theorem arrive_keeps {W : Nat} {z : State} (s : State) (port : ℕ) (pkt : Packet) (fits : Bool) (idle : State → State)
    (fenced : State → State) (serve : State → State) (hW : Sub 35668484 W) (h_s : Keeps W z s) (h_idle : ∀ q1, Keeps
        W z q1 → Keeps W z (idle q1)) (h_fenced : ∀ q1, Keeps W z q1 → Keeps W z (fenced q1)) (h_serve : ∀ q1, Keeps
            W z q1 → Keeps W z (serve q1)) :
    KeepsRes W z (arrive s port pkt fits idle fenced serve) := by
  unfold arrive
  split
  · with_reducible assumption
  · split
    · rename_i x2 x3
      have k4 := keeps_eq x3 (P := KeepsOpt W z) (by
        apply popRx_keeps
        · exact Sub.up (by decide) hW
        · with_reducible assumption
        )
      with_reducible assumption
    · rename_i x5 x6 x7
      have k8 := keeps_eq x7 (P := KeepsOpt W z) (by
        apply popRx_keeps
        · exact Sub.up (by decide) hW
        · with_reducible assumption
        )
      split
      · split
        · change Keeps W z _
          apply relayPacket_keeps
          · exact Sub.up (by decide) hW
          · with_reducible assumption
        · split
          · change Keeps W z _
            apply h_fenced
            with_reducible assumption
          · change Keeps W z _
            apply h_idle
            with_reducible assumption
      · split
        · change Keeps W z _
          apply h_fenced
          with_reducible assumption
        · change Keeps W z _
          apply h_serve
          with_reducible assumption

theorem discardPacket_keeps {W : Nat} {z : State} (s : State) (port : ℕ) (hW : Sub 33554432 W) (h_s : Keeps W z s) :
    Keeps W z (discardPacket s port) := by
  unfold discardPacket
  apply count_keeps
  · with_reducible assumption
  · with_reducible assumption

theorem absorb_keeps {W : Nat} {z : State} (s : State) (port : ℕ) (pkt : Packet) (code : ℕ) (ch : ℕ) (f : ℕ → State →
    State) (hW : Sub 35668484 W) (h_s : Keeps W z s) (h_f : ∀ q1 q2, Keeps W z q2 → Keeps W z (f q1 q2)) :
    KeepsRes W z (absorb s port pkt code ch f) := by
  unfold absorb
  extract_lets v0 v1
  have h2 : ∀ q1, Keeps W z q1 → Keeps W z (v0 q1) := by
    unfold v0
    intro y3 y4
    split
    · apply h_f
      with_reducible assumption
    · with_reducible assumption
  clear_value v0
  clear_value v1
  apply arrive_keeps
  · with_reducible assumption
  · with_reducible assumption
  · intro y10 y11
    unfold id
    with_reducible assumption
  · intro y12 y13
    split
    · apply h2
      with_reducible assumption
    · apply discardPacket_keeps
      · exact Sub.up (by decide) hW
      · with_reducible assumption
  · intro y16 y17
    apply h2
    with_reducible assumption

theorem platformEvent_keeps {W : Nat} {z : State} (s : State) (words : List ℕ) (hW : Sub 67109888 W) (h_s : Keeps W z
    s) :
    Keeps W z (platformEvent s words) := by
  unfold platformEvent
  split
  · apply put_keeps
    · with_reducible assumption
    · with_reducible assumption
  · with_reducible assumption

theorem mbxData_keeps {W : Nat} {z : State} (s : State) (m n : Nat) (bs : Bytes) (i : Nat) (hW : Sub 4 W) (h : Keeps
    W z s) :
    Keeps W z (mbxData s m n bs i) := by
  induction n generalizing s bs i with
  | zero => exact h
  | succ n ih => exact ih _ _ _ (wr_keeps _ _ _ (Sub.up (by decide) hW) h)

theorem msix_keeps {W : Nat} {z : State} (s : State) (v : ℕ) (hW : Sub 67142656 W) (h_s : Keeps W z s) :
    Keeps W z (msix s v) := by
  unfold msix
  split
  · apply put_keeps
    · exact Sub.up (by decide) hW
    · with_reducible assumption
  · refine Keeps.congr (s := s) ?_ rfl rfl rfl rfl rfl rfl kept kept kept kept kept kept kept kept kept kept kept
        kept (hW.chg rfl) kept kept kept kept kept kept kept kept kept
    with_reducible assumption

theorem mbxWake_keeps {W : Nat} {z : State} (s : State) (id : ℕ) (vec : ℕ) (hW : Sub 67142656 W) (h_s : Keeps W z s) :
    Keeps W z (mbxWake s id vec) := by
  unfold mbxWake
  split
  · apply msix_keeps
    · with_reducible assumption
    · with_reducible assumption
  · split
    · split
      · with_reducible assumption
      · apply put_keeps
        · exact Sub.up (by decide) hW
        · with_reducible assumption
    · apply put_keeps
      · exact Sub.up (by decide) hW
      · with_reducible assumption

theorem mbxWakeEvent_keeps {W : Nat} {z : State} (s : State) (m : ℕ) (hW : Sub 102794752 W) (h_s : Keeps W z s) :
    Keeps W z (mbxWakeEvent s m) := by
  unfold mbxWakeEvent
  extract_lets v0 v1
  clear_value v0
  clear_value v1
  split
  · apply sendRunnel_keeps
    · exact Sub.up (by decide) hW
    · with_reducible assumption
  · split
    · apply mbxWake_keeps
      · exact Sub.up (by decide) hW
      · with_reducible assumption
    · with_reducible assumption

theorem mbxPost_keeps {W : Nat} {z : State} (s : State) (m : ℕ) (len : ℕ) (hW : Sub 102860292 W) (h_s : Keeps W z s) :
    Keeps W z (mbxPost s m len) := by
  unfold mbxPost
  extract_lets v0 v1 v2 v3
  clear_value v0
  have h4 : Keeps W z v1 := by
    unfold v1
    apply wf_keeps
    · exact Sub.up (by decide) hW
    · apply wf_keeps
      · exact Sub.up (by decide) hW
      · apply wf_keeps
        · exact Sub.up (by decide) hW
        · apply wf_keeps
          · exact Sub.up (by decide) hW
          · with_reducible assumption
  clear_value v1
  have h5 : Keeps W z v2 := by
    unfold v2
    apply wb_keeps
    · exact Sub.up (by decide) hW
    · with_reducible assumption
  clear_value v2
  clear_value v3
  apply mbxWakeEvent_keeps
  · exact Sub.up (by decide) hW
  · refine Keeps.congr (s := v2) ?_ rfl rfl rfl rfl rfl rfl kept kept kept kept kept kept kept kept kept kept kept
        kept kept (hW.chg rfl) kept kept kept kept kept kept kept kept
    with_reducible assumption

theorem sendFatal_keeps {W : Nat} {z : State} (s : State) (hW : Sub 102868484 W) (h_s : Keeps W z s) :
    Keeps W z (sendFatal s) := by
  unfold sendFatal
  split
  · with_reducible assumption
  · split
    · with_reducible assumption
    · extract_lets v8 v9
      have h10 : Keeps W z v8 := by
        unfold v8
        apply mbxData_keeps
        · exact Sub.up (by decide) hW
        · with_reducible assumption
      clear_value v8
      clear_value v9
      apply mbxPost_keeps
      · exact Sub.up (by decide) hW
      · refine Keeps.congr (s := v8) ?_ rfl rfl rfl rfl rfl rfl kept kept kept kept kept kept kept kept kept kept
            (hW.chg rfl) kept kept kept kept kept kept kept kept kept kept kept
        with_reducible assumption

theorem fatalAlert_keeps {W : Nat} {z : State} (s : State) (e : FaultEntry) (hW : Sub 107062788 W) (h_s : Keeps W z
    s) :
    Keeps W z (fatalAlert s e) := by
  unfold fatalAlert
  extract_lets v0 v1 v2 v3 v4 v5
  clear_value v0
  have h6 : Keeps W z v1 := by
    unfold v1
    apply platformEvent_keeps
    · exact Sub.up (by decide) hW
    · refine Keeps.congr (s := s) ?_ rfl rfl rfl rfl rfl rfl kept kept kept kept kept kept kept kept kept kept kept
          kept kept kept kept kept kept kept kept (hW.chg rfl) kept kept
      with_reducible assumption
  clear_value v1
  clear_value v2
  have h7 : Keeps W z v3 := by
    unfold v3
    apply wf_keeps
    · exact Sub.up (by decide) hW
    · apply wb_keeps
      · exact Sub.up (by decide) hW
      · with_reducible assumption
  clear_value v3
  have h8 : Keeps W z v4 := by
    unfold v4
    apply put_keeps
    · exact Sub.up (by decide) hW
    · with_reducible assumption
  clear_value v4
  clear_value v5
  apply sendFatal_keeps
  · exact Sub.up (by decide) hW
  · refine Keeps.congr (s := v4) ?_ rfl rfl rfl rfl rfl rfl kept kept kept kept kept kept kept kept kept kept (hW.chg
        rfl) kept kept kept kept kept kept kept kept kept kept kept
    with_reducible assumption

theorem cxlRecord_keeps {W : Nat} {z : State} (s : State) (log : ℕ) (kind : ℕ) (arg : ℕ) (hW : Sub 67142656 W) (h_s :
    Keeps W z s) :
    Keeps W z (cxlRecord s log kind arg) := by
  unfold cxlRecord
  extract_lets v0 v1 v2 v3
  clear_value v1
  have h4 : Keeps W z v3 := by
    unfold v3
    refine Keeps.congr (s := s) ?_ rfl rfl rfl rfl rfl rfl kept kept kept kept kept kept kept kept kept kept kept
        kept (hW.chg rfl) kept kept kept kept kept kept kept kept kept
    with_reducible assumption
  split
  · apply msix_keeps
    · with_reducible assumption
    · with_reducible assumption
  · with_reducible assumption

theorem summarize_keeps {W : Nat} {z : State} (s : State) (p : ℕ) (hW : Sub 67142660 W) (h_s : Keeps W z s) :
    Keeps W z (summarize s p) := by
  unfold summarize
  extract_lets v0 v1 v2 v3 v4 v5
  clear_value v0
  clear_value v1
  clear_value v2
  have h6 : Keeps W z v3 := by
    unfold v3
    apply wb_keeps
    · exact Sub.up (by decide) hW
    · with_reducible assumption
  clear_value v3
  clear_value v4
  have h7 : Keeps W z v5 := by
    unfold v5
    split
    · apply msix_keeps
      · exact Sub.up (by decide) hW
      · with_reducible assumption
    · with_reducible assumption
  clear_value v5
  split
  · split
    · split
      · apply put_keeps
        · exact Sub.up (by decide) hW
        · with_reducible assumption
      · with_reducible assumption
    · with_reducible assumption
  · with_reducible assumption

theorem setIsr_keeps {W : Nat} {z : State} (s : State) (p : ℕ) (b : ℕ) (hW : Sub 67142660 W) (h_s : Keeps W z s) :
    Keeps W z (setIsr s p b) := by
  unfold setIsr
  apply summarize_keeps
  · with_reducible assumption
  · apply wb_keeps
    · exact Sub.up (by decide) hW
    · with_reducible assumption

theorem faultPut_keeps {W : Nat} {z : State} (s : State) (e : FaultEntry) (hW : Sub 67150852 W) (h_s : Keeps W z s) :
    Keeps W z (faultPut s e) := by
  unfold faultPut
  extract_lets v0 v1 v2 v3 v4 v5 v6
  clear_value v0
  clear_value v1
  have h7 : Keeps W z v2 := by
    unfold v2
    refine Keeps.congr (s := s) ?_ rfl rfl rfl rfl rfl rfl kept kept kept kept kept kept kept kept kept kept (hW.chg
        rfl) kept kept kept kept kept kept kept kept kept kept kept
    with_reducible assumption
  clear_value v2
  have h8 : Keeps W z v3 := by
    unfold v3
    apply wr_keeps
    · exact Sub.up (by decide) hW
    · with_reducible assumption
  clear_value v3
  clear_value v4
  have h9 : Keeps W z v5 := by
    unfold v5
    split
    · apply wr_keeps
      · exact Sub.up (by decide) hW
      · with_reducible assumption
    · with_reducible assumption
  clear_value v5
  have h12 : Keeps W z v6 := by
    unfold v6
    split
    · apply cxlRecord_keeps
      · exact Sub.up (by decide) hW
      · with_reducible assumption
    · with_reducible assumption
  clear_value v6
  split
  · apply setIsr_keeps
    · exact Sub.up (by decide) hW
    · with_reducible assumption
  · with_reducible assumption

theorem faultFold_keeps {W : Nat} {z : State} (s : State) (e : FaultEntry) (hW : Sub 33562624 W) (h_s : Keeps W z s) :
    Keeps W z (faultFold s e) := by
  unfold faultFold
  extract_lets v0 v1 v2
  clear_value v0
  clear_value v1
  clear_value v2
  apply count_keeps
  · exact Sub.up (by decide) hW
  · refine Keeps.congr (s := s) ?_ rfl rfl rfl rfl rfl rfl kept kept kept kept kept kept kept kept kept kept (hW.chg
        rfl) kept kept kept kept kept kept kept kept kept kept kept
    with_reducible assumption

theorem event_keeps {W : Nat} {z : State} (s : State) (e : FaultEntry) (hW : Sub 107062788 W) (h_s : Keeps W z s) :
    Keeps W z (event s e) := by
  unfold event
  extract_lets v0 v1 v2 v3 v4 v5 v6
  have h7 : Keeps W z v2 := by
    unfold v2
    split
    · refine Keeps.congr (s := s) ?_ rfl rfl rfl rfl rfl rfl kept kept kept kept kept kept kept kept kept kept
          (hW.chg rfl) kept kept kept kept kept kept kept kept kept kept kept
      with_reducible assumption
    · with_reducible assumption
  have h10 : Keeps W z v3 := by
    unfold v3
    apply fatalAlert_keeps
    · with_reducible assumption
    · with_reducible assumption
  clear_value v3
  clear_value v4
  have h11 : Keeps W z v6 := by
    unfold v6
    refine Keeps.congr (s := v2) ?_ rfl rfl rfl rfl rfl rfl kept kept kept kept kept kept kept kept kept kept (hW.chg
        rfl) kept kept kept kept kept kept kept kept kept kept kept
    with_reducible assumption
  split
  · split
    · apply faultPut_keeps
      · exact Sub.up (by decide) hW
      · with_reducible assumption
    · apply faultFold_keeps
      · exact Sub.up (by decide) hW
      · with_reducible assumption
  · split
    · apply faultFold_keeps
      · exact Sub.up (by decide) hW
      · with_reducible assumption
    · split
      · apply faultFold_keeps
        · exact Sub.up (by decide) hW
        · with_reducible assumption
      · split
        · apply faultFold_keeps
          · exact Sub.up (by decide) hW
          · with_reducible assumption
        · split
          · apply faultFold_keeps
            · exact Sub.up (by decide) hW
            · with_reducible assumption
          · apply faultPut_keeps
            · exact Sub.up (by decide) hW
            · with_reducible assumption

theorem refusePacket_keeps {W : Nat} {z : State} (s : State) (port : ℕ) (pkt : Packet) (hW : Sub 107062788 W) (h_s :
    Keeps W z s) :
    Keeps W z (refusePacket s port pkt) := by
  unfold refusePacket
  extract_lets v0
  have h1 : Keeps W z v0 := by
    unfold v0
    apply count_keeps
    · exact Sub.up (by decide) hW
    · with_reducible assumption
  clear_value v0
  apply event_keeps
  · with_reducible assumption
  · with_reducible assumption

theorem freeRx_keeps {W : Nat} {z : State} (s : State) (p : ℕ) (pkt : Packet) (hW : Sub 16384 W) (h_s : Keeps W z s) :
    Keeps W z (freeRx s p pkt) := by
  unfold freeRx
  extract_lets v0 v1 v2
  clear_value v0
  clear_value v1
  clear_value v2
  refine Keeps.congr (s := s) ?_ rfl rfl rfl rfl rfl rfl kept kept kept kept kept kept kept kept kept kept kept
      (hW.chg rfl) kept kept kept kept kept kept kept kept kept kept
  with_reducible assumption

theorem awaitMack_keeps {W : Nat} {z : State} (s : State) (dir : Bool) (who : MackFor) (hW : Sub 2097152 W) (h_s :
    Keeps W z s) :
    KeepsSnd W z (awaitMack s dir who) := by
  unfold awaitMack
  extract_lets v0 v1
  clear_value v0
  clear_value v1
  change Keeps W z _
  dsimp only
  refine Keeps.congr (s := s) ?_ rfl rfl rfl rfl rfl rfl kept kept kept kept kept kept kept kept kept kept kept kept
      kept kept kept kept kept kept (hW.chg rfl) kept kept kept
  with_reducible assumption

theorem mirrorLine_keeps {W : Nat} {z : State} (s : State) (line : ℕ) (who : MackFor) (hW : Sub 35652096 W) (h_s :
    Keeps W z s) :
    Keeps W z (mirrorLine s line who) := by
  unfold mirrorLine
  split
  rename_i x0 x1 x2 x3
  have k4 := keeps_eq x3 (P := KeepsSnd W z) (by
    apply awaitMack_keeps
    · exact Sub.up (by decide) hW
    · with_reducible assumption
    )
  apply sendRunnel_keeps
  · with_reducible assumption
  · with_reducible assumption

theorem runnelSoak_keeps {W : Nat} {z : State} (s : State) (p : ℕ) (pkt : Packet) (hW : Sub 35668480 W) (h_s : Keeps
    W z s) :
    KeepsOpt W z (runnelSoak s p pkt) := by
  unfold runnelSoak
  extract_lets v0 v1
  clear_value v0
  have h2 : Keeps W z v1 := by
    unfold v1
    apply freeRx_keeps
    · exact Sub.up (by decide) hW
    · with_reducible assumption
  clear_value v1
  split
  · change Keeps W z _
    split
    · apply mirrorLine_keeps
      · exact Sub.up (by decide) hW
      · with_reducible assumption
    · with_reducible assumption
  · split
    · change Keeps W z _
      apply freeRx_keeps
      · exact Sub.up (by decide) hW
      · with_reducible assumption
    · exact trivial

theorem receive_keeps {W : Nat} {z : State} (s : State) (port : ℕ) (pkt : Packet) (hW : Sub 16384 W) (h_s : Keeps W z
    s) :
    Keeps W z (receive s port pkt) := by
  unfold receive
  refine Keeps.congr (s := s) ?_ rfl rfl rfl rfl rfl rfl kept kept kept kept kept kept kept kept kept kept kept
      (hW.chg rfl) kept kept kept kept kept kept kept kept kept kept
  with_reducible assumption

theorem acceptPacket_keeps {W : Nat} {z : State} (s : State) (p : ℕ) (bs : Bytes) (hW : Sub 107079172 W) (h_s : Keeps
    W z s) :
    Keeps W z (acceptPacket s p bs) := by
  unfold acceptPacket
  extract_lets v0 v1
  clear_value v0
  have h2 : Keeps W z v1 := by
    unfold v1
    apply count_keeps
    · exact Sub.up (by decide) hW
    · apply count_keeps
      · exact Sub.up (by decide) hW
      · with_reducible assumption
  clear_value v1
  split
  · apply refusePacket_keeps
    · exact Sub.up (by decide) hW
    · split
      · apply freeRx_keeps
        · exact Sub.up (by decide) hW
        · with_reducible assumption
      · with_reducible assumption
  · split
    · rename_i x7 x8 x9
      have k10 := keeps_eq x9 (P := KeepsOpt W z) (by
        split
        · exact trivial
        · apply runnelSoak_keeps
          · exact Sub.up (by decide) hW
          · with_reducible assumption
        )
      with_reducible assumption
    · rename_i x13 x14
      have k15 := keeps_eq x14 (P := KeepsOpt W z) (by
        split
        · exact trivial
        · apply runnelSoak_keeps
          · exact Sub.up (by decide) hW
          · with_reducible assumption
        )
      apply receive_keeps
      · exact Sub.up (by decide) hW
      · with_reducible assumption

theorem absorbSlots_keeps {W : Nat} {z : State} (p n : Nat) (body part : Bytes) (s : State) (hW : Sub 107079172 W) (h
    : Keeps W z s) :
    KeepsFst W z (absorbSlots p n body part s) := by
  induction n generalizing body part s with
  | zero => exact h
  | succ n ih =>
    unfold absorbSlots
    dsimp only
    split
    · exact ih _ _ _ h
    · split
      · exact ih _ _ _ (acceptPacket_keeps _ _ _ (Sub.up (by decide) hW) h)
      · exact ih _ _ _ h

theorem takeCache_keeps {W : Nat} {z : State} (s : State) (hW : Sub 1028 W) (h_s : Keeps W z s) :
    KeepsOptSnd W z (takeCache s) := by
  unfold takeCache
  extract_lets v0 v1 v2
  clear_value v0
  clear_value v1
  have h3 : Keeps W z v2 := by
    unfold v2
    refine Keeps.congr (s := s) ?_ rfl rfl rfl rfl rfl rfl kept kept kept kept kept kept kept (hW.chg rfl) kept kept
        kept kept kept kept kept kept kept kept kept kept kept kept
    with_reducible assumption
  clear_value v2
  split
  · change Keeps W z _
    dsimp only
    apply wr_keeps
    · exact Sub.up (by decide) hW
    · with_reducible assumption
  · exact trivial

theorem setSub_keeps {W : Nat} {z : State} (s : State) (q : ℕ) (r : SubRec) (hW : Sub 1024 W) (h_s : Keeps W z s) :
    Keeps W z (setSub s q r) := by
  unfold setSub
  refine Keeps.congr (s := s) ?_ rfl rfl rfl rfl rfl rfl kept kept kept kept kept kept kept (hW.chg rfl) kept kept
      kept kept kept kept kept kept kept kept kept kept kept kept
  with_reducible assumption

theorem basinEnter_keeps {W : Nat} {z : State} (s : State) (q : ℕ) (hW : Sub 33555460 W) (h_s : Keeps W z s) :
    Keeps W z (basinEnter s q) := by
  unfold basinEnter
  split
  · rename_i x0 x1
    have k2 := keeps_eq x1 (P := KeepsOptSnd W z) (by
      apply takeCache_keeps
      · exact Sub.up (by decide) hW
      · with_reducible assumption
      )
    with_reducible assumption
  · rename_i x3 x4 x5 x6
    have k7 := keeps_eq x6 (P := KeepsOptSnd W z) (by
      apply takeCache_keeps
      · exact Sub.up (by decide) hW
      · with_reducible assumption
      )
    extract_lets v8 v9 v10
    clear_value v8
    have h11 : Keeps W z v9 := by
      unfold v9
      apply setSub_keeps
      · exact Sub.up (by decide) hW
      · with_reducible assumption
    clear_value v9
    clear_value v10
    apply count_keeps
    · exact Sub.up (by decide) hW
    · refine Keeps.congr (s := v9) ?_ rfl rfl rfl rfl rfl rfl kept kept kept kept kept kept kept (hW.chg rfl) kept
          kept kept kept kept kept kept kept kept kept kept kept kept kept
      with_reducible assumption

theorem freeCache_keeps {W : Nat} {z : State} (s : State) (f : ℕ) (hW : Sub 1028 W) (h_s : Keeps W z s) :
    Keeps W z (freeCache s f) := by
  unfold freeCache
  extract_lets v0 v1
  clear_value v0
  have h2 : Keeps W z v1 := by
    unfold v1
    refine Keeps.congr (s := s) ?_ rfl rfl rfl rfl rfl rfl kept kept kept kept kept kept kept (hW.chg rfl) kept kept
        kept kept kept kept kept kept kept kept kept kept kept kept
    with_reducible assumption
  clear_value v1
  apply wr_keeps
  · exact Sub.up (by decide) hW
  · with_reducible assumption

theorem releaseCommit_keeps {W : Nat} {z : State} (s : State) (q : ℕ) (hW : Sub 33555460 W) (h_s : Keeps W z s) :
    Keeps W z (releaseCommit s q) := by
  unfold releaseCommit
  extract_lets v0 v1 v2 v3
  clear_value v0
  have h4 : Keeps W z v1 := by
    unfold v1
    apply freeCache_keeps
    · exact Sub.up (by decide) hW
    · with_reducible assumption
  clear_value v1
  have h5 : Keeps W z v2 := by
    unfold v2
    apply setSub_keeps
    · exact Sub.up (by decide) hW
    · with_reducible assumption
  clear_value v2
  clear_value v3
  apply count_keeps
  · exact Sub.up (by decide) hW
  · refine Keeps.congr (s := v2) ?_ rfl rfl rfl rfl rfl rfl kept kept kept kept kept kept kept (hW.chg rfl) kept kept
        kept kept kept kept kept kept kept kept kept kept kept kept
    with_reducible assumption

theorem releaseStart_keeps {W : Nat} {z : State} (s : State) (q : ℕ) (next : ℕ) (hW : Sub 33555460 W) (h_s : Keeps W
    z s) :
    Keeps W z (releaseStart s q next) := by
  unfold releaseStart
  extract_lets v0 v1 v2 v3
  clear_value v0
  have h4 : Keeps W z v1 := by
    unfold v1
    apply releaseCommit_keeps
    · with_reducible assumption
    · with_reducible assumption
  clear_value v1
  have h5 : Keeps W z v2 := by
    unfold v2
    apply setSub_keeps
    · exact Sub.up (by decide) hW
    · with_reducible assumption
  clear_value v2
  clear_value v3
  split
  · split
    · with_reducible assumption
    · apply basinEnter_keeps
      · with_reducible assumption
      · with_reducible assumption
  · refine Keeps.congr (s := v2) ?_ rfl rfl rfl rfl rfl rfl kept kept kept kept kept kept kept (hW.chg rfl) kept kept
        kept kept kept kept kept kept kept kept kept kept kept kept
    with_reducible assumption

theorem hotPromote_keeps {W : Nat} {z : State} (s : State) (q : ℕ) (hW : Sub 33555460 W) (h_s : Keeps W z s) :
    Keeps W z (hotPromote s q) := by
  unfold hotPromote
  extract_lets v0 v1
  clear_value v0
  clear_value v1
  split
  · with_reducible assumption
  · split
    · apply basinEnter_keeps
      · with_reducible assumption
      · with_reducible assumption
    · split
      · with_reducible assumption
      · split
        · apply releaseStart_keeps
          · with_reducible assumption
          · with_reducible assumption
        · with_reducible assumption

theorem setPage_keeps {W : Nat} {z : State} (s : State) (p : ℕ) (r : PageRec) (hW : Sub 1024 W) (h_s : Keeps W z s) :
    Keeps W z (setPage s p r) := by
  unfold setPage
  refine Keeps.congr (s := s) ?_ rfl rfl rfl rfl rfl rfl kept kept kept kept kept kept kept (hW.chg rfl) kept kept
      kept kept kept kept kept kept kept kept kept kept kept kept
  with_reducible assumption

theorem touchPages_keeps {W : Nat} {z : State} (s : State) (subs : List ℕ) (hW : Sub 1024 W) (h_s : Keeps W z s) :
    Keeps W z (touchPages s subs) := by
  unfold touchPages
  extract_lets v0
  clear_value v0
  refine foldl_keeps (P := Keeps W z) ?_ ?_
  · with_reducible assumption
  · intro y1 y2 y3
    extract_lets v4
    clear_value v4
    apply setPage_keeps
    · with_reducible assumption
    · with_reducible assumption

theorem access_keeps {W : Nat} {z : State} (s : State) (subs : List ℕ) (hW : Sub 33555460 W) (h_s : Keeps W z s) :
    Keeps W z (access s subs) := by
  unfold access
  refine foldl_keeps (P := Keeps W z) ?_ ?_
  · apply touchPages_keeps
    · exact Sub.up (by decide) hW
    · with_reducible assumption
  · intro y0 y1 y2
    apply hotPromote_keeps
    · with_reducible assumption
    · with_reducible assumption

theorem setHeld_keeps {W : Nat} {z : State} (s : State) (d : ℕ) (b : Bool) (hW : Sub 4 W) (h_s : Keeps W z s) :
    Keeps W z (setHeld s d b) := by
  unfold setHeld
  apply wb_keeps
  · with_reducible assumption
  · with_reducible assumption

theorem acquireDrives_keeps {W : Nat} {z : State} (s : State) (ds : List ℕ) (hW : Sub 67109892 W) (h_s : Keeps W z s)
    :
    Keeps W z (acquireDrives s ds) := by
  unfold acquireDrives
  refine foldl_keeps (P := Keeps W z) ?_ ?_
  · with_reducible assumption
  · intro y0 y1 y2
    apply setHeld_keeps
    · exact Sub.up (by decide) hW
    · apply issueNvme_keeps
      · exact Sub.up (by decide) hW
      · with_reducible assumption

theorem setImg_keeps {W : Nat} {z : State} (s : State) (t : ℕ) (x : ImageType) (hW : Sub 4194304 W) (h_s : Keeps W z
    s) :
    Keeps W z (setImg s t x) := by
  unfold setImg
  refine Keeps.congr (s := s) ?_ rfl rfl rfl rfl rfl rfl kept kept kept kept kept kept kept kept kept kept kept kept
      kept kept kept kept kept kept kept (hW.chg rfl) kept kept
  with_reducible assumption

theorem imageRuns_keeps {W : Nat} {z : State} (s : State) (t : ℕ) (c : ImageCopy) (fromB : Bool) (hW : Sub 4194304 W)
    (h_s : Keeps W z s) :
    Keeps W z (imageRuns s t c fromB) := by
  unfold imageRuns
  extract_lets v0 v1 v2 v3 v4
  clear_value v0
  have h5 : Keeps W z v1 := by
    unfold v1
    apply setImg_keeps
    · with_reducible assumption
    · with_reducible assumption
  clear_value v1
  clear_value v2
  clear_value v3
  clear_value v4
  refine Keeps.congr (s := v1) ?_ rfl rfl rfl rfl rfl rfl kept kept kept kept kept kept kept kept kept kept kept kept
      kept kept kept kept kept kept kept (hW.chg rfl) kept kept
  with_reducible assumption

theorem setFwu_keeps {W : Nat} {z : State} (s : State) (st : ℕ) (hW : Sub 4 W) (h_s : Keeps W z s) :
    Keeps W z (setFwu s st) := by
  unfold setFwu
  apply wf_keeps
  · with_reducible assumption
  · with_reducible assumption

theorem remeasure_keeps {W : Nat} {z : State} (s : State) (i : ℕ) (body : Bytes) (hW : Sub 131072 W) (h_s : Keeps W z
    s) :
    Keeps W z (remeasure s i body) := by
  unfold remeasure
  extract_lets v0 v1
  clear_value v0
  clear_value v1
  refine Keeps.congr (s := s) ?_ rfl rfl rfl rfl rfl rfl kept kept kept kept kept kept kept kept kept kept kept kept
      kept kept (hW.chg rfl) kept kept kept kept kept kept kept
  with_reducible assumption

theorem dropTransfer_keeps {W : Nat} {z : State} (s : State) (hW : Sub 4194304 W) (h_s : Keeps W z s) :
    Keeps W z (dropTransfer s) := by
  unfold dropTransfer
  split
  · extract_lets v3 v4 v5
    clear_value v3
    have h6 : Keeps W z v4 := by
      unfold v4
      split
      · apply setImg_keeps
        · with_reducible assumption
        · with_reducible assumption
      · with_reducible assumption
    clear_value v4
    clear_value v5
    refine Keeps.congr (s := v4) ?_ rfl rfl rfl rfl rfl rfl kept kept kept kept kept kept kept kept kept kept kept
        kept kept kept kept kept kept kept kept (hW.chg rfl) kept kept
    with_reducible assumption
  · with_reducible assumption

theorem endUpdate_keeps {W : Nat} {z : State} (s : State) (hW : Sub 4194308 W) (h_s : Keeps W z s) :
    Keeps W z (endUpdate s) := by
  unfold endUpdate
  extract_lets v0 v1 v2
  have h3 : Keeps W z v0 := by
    unfold v0
    apply dropTransfer_keeps
    · exact Sub.up (by decide) hW
    · with_reducible assumption
  clear_value v0
  clear_value v1
  have h4 : Keeps W z v2 := by
    unfold v2
    refine Keeps.congr (s := v0) ?_ rfl rfl rfl rfl rfl rfl kept kept kept kept kept kept kept kept kept kept kept
        kept kept kept kept kept kept kept kept (hW.chg rfl) kept kept
    with_reducible assumption
  clear_value v2
  apply setFwu_keeps
  · exact Sub.up (by decide) hW
  · with_reducible assumption

theorem resetPages_keeps {W : Nat} {z : State} (s : State) (p : Nat → Bool) (keep : Nat → Bool) (hW : Sub 41943052 W)
    (h : Keeps W z s) :
    Keeps W z (resetPages s p keep) :=
  Keeps.core (s := s) h rfl le_rfl List.suffix_rfl (fun c => ⟨c.1, c.2.1, twf_filter _ _ _ c.2.2⟩)
    kept kept (hW.chg rfl) (hW.chg rfl) kept kept kept kept kept kept kept kept kept kept kept kept kept kept kept
        kept kept kept kept (hW.chg rfl) kept (hW.chg rfl) kept

theorem resummarize_keeps {W : Nat} {z : State} (s : State) (hW : Sub 67142660 W) (h_s : Keeps W z s) :
    Keeps W z (resummarize s) := by
  unfold resummarize
  refine foldl_keeps (P := Keeps W z) ?_ ?_
  · with_reducible assumption
  · intro y0 y1 y2
    apply summarize_keeps
    · with_reducible assumption
    · with_reducible assumption

theorem mgmtRestart_keeps {W : Nat} {z : State} (s : State) (hW : Sub 113419276 W) (h_s : Keeps W z s) :
    Keeps W z (mgmtRestart s) := by
  unfold mgmtRestart
  extract_lets v0 v1 v2 v3 v4 v5 v6 v7
  clear_value v0
  have h8 : Keeps W z v1 := by
    unfold v1
    apply endUpdate_keeps
    · exact Sub.up (by decide) hW
    · with_reducible assumption
  clear_value v1
  have h9 : Keeps W z v2 := by
    unfold v2
    apply resetPages_keeps
    · exact Sub.up (by decide) hW
    · with_reducible assumption
  clear_value v2
  have h10 : Keeps W z v3 := by
    unfold v3
    apply wf_keeps
    · exact Sub.up (by decide) hW
    · apply setFwu_keeps
      · exact Sub.up (by decide) hW
      · with_reducible assumption
  clear_value v3
  have h11 : Keeps W z v4 := by
    unfold v4
    apply wf_keeps
    · exact Sub.up (by decide) hW
    · with_reducible assumption
  clear_value v4
  clear_value v5
  clear_value v6
  clear_value v7
  apply resummarize_keeps
  · exact Sub.up (by decide) hW
  · refine Keeps.congr (s := v4) ?_ rfl rfl rfl rfl rfl rfl kept kept kept kept kept kept kept kept kept kept (hW.chg
        rfl) kept kept kept (hW.chg rfl) kept kept kept kept kept (hW.chg rfl) kept
    with_reducible assumption

theorem activateNow_keeps {W : Nat} {z : State} (s : State) (t : ℕ) (hW : Sub 113419276 W) (h_s : Keeps W z s) :
    Keeps W z (activateNow s t) := by
  unfold activateNow
  extract_lets v0 v1 v2 v3 v4 v5 v6 v7
  clear_value v0
  have h8 : Keeps W z v1 := by
    unfold v1
    apply imageRuns_keeps
    · exact Sub.up (by decide) hW
    · apply setImg_keeps
      · exact Sub.up (by decide) hW
      · with_reducible assumption
  clear_value v1
  clear_value v2
  have h9 : Keeps W z v3 := by
    unfold v3
    apply setFwu_keeps
    · exact Sub.up (by decide) hW
    · refine Keeps.congr (s := v1) ?_ rfl rfl rfl rfl rfl rfl kept kept kept kept kept kept kept kept kept kept kept
          kept kept kept kept kept kept kept kept (hW.chg rfl) kept kept
      with_reducible assumption
  clear_value v3
  have h10 : Keeps W z v4 := by
    unfold v4
    apply remeasure_keeps
    · exact Sub.up (by decide) hW
    · with_reducible assumption
  clear_value v4
  clear_value v5
  clear_value v6
  clear_value v7
  split
  · apply remeasure_keeps
    · exact Sub.up (by decide) hW
    · with_reducible assumption
  · apply mgmtRestart_keeps
    · with_reducible assumption
    · refine Keeps.congr (s := v4) ?_ rfl rfl rfl rfl rfl rfl kept kept kept kept kept kept kept kept kept kept kept
          kept kept kept (hW.chg rfl) kept kept kept kept kept kept kept
      with_reducible assumption
  · refine Keeps.congr (s := v3) ?_ rfl rfl rfl rfl rfl rfl kept kept kept kept kept kept kept kept kept kept kept
        kept kept kept kept kept kept kept kept (hW.chg rfl) kept kept
    with_reducible assumption

theorem tileVoid_keeps {W : Nat} {z : State} (s : State) (o : Op) (t : Tile) (hW : Sub 33554432 W) (h_s : Keeps W z
    s) :
    Keeps W z (tileVoid s o t) := by
  unfold tileVoid
  split
  · apply count_keeps
    · with_reducible assumption
    · with_reducible assumption
  · with_reducible assumption

theorem setOp_keeps {W : Nat} {z : State} (s : State) (h : ℕ) (o : Op) (hW : Sub 2048 W) (h_s : Keeps W z s) :
    Keeps W z (setOp s h o) := by
  unfold setOp
  refine Keeps.congr (s := s) ?_ rfl rfl rfl rfl rfl rfl kept kept kept kept kept kept kept kept (hW.chg rfl) kept
      kept kept kept kept kept kept kept kept kept kept kept kept
  with_reducible assumption

theorem wasteTile_keeps {W : Nat} {z : State} (s : State) (t : Tile) (k : ℕ) (hW : Sub 33556480 W) (h_s : Keeps W z
    s) :
    Keeps W z (wasteTile s t k) := by
  unfold wasteTile
  split
  · with_reducible assumption
  · extract_lets v5
    have h6 : Keeps W z v5 := by
      unfold v5
      apply count_keeps
      · exact Sub.up (by decide) hW
      · apply count_keeps
        · exact Sub.up (by decide) hW
        · with_reducible assumption
    clear_value v5
    split
    · with_reducible assumption
    · apply count_keeps
      · exact Sub.up (by decide) hW
      · apply setOp_keeps
        · exact Sub.up (by decide) hW
        · with_reducible assumption

theorem unchargeBacklog_keeps {W : Nat} {z : State} (s : State) (sch : ℕ) (cls : ℕ) (n : ℕ) (hW : Sub 512 W) (h_s :
    Keeps W z s) :
    Keeps W z (unchargeBacklog s sch cls n) := by
  unfold unchargeBacklog
  extract_lets v0 v1
  clear_value v0
  clear_value v1
  refine Keeps.congr (s := s) ?_ rfl rfl rfl rfl rfl rfl kept kept kept kept kept kept (hW.chg rfl) kept kept kept
      kept kept kept kept kept kept kept kept kept kept kept kept
  with_reducible assumption

theorem dropUnits_keeps {W : Nat} {z : State} (s : State) (h : ℕ) (num : ℕ) (hW : Sub 512 W) (h_s : Keeps W z s) :
    Keeps W z (dropUnits s h num) := by
  unfold dropUnits
  refine foldl_keeps (P := Keeps W z) ?_ ?_
  · with_reducible assumption
  · intro y0 y1 y2
    extract_lets v3 v4
    clear_value v3
    clear_value v4
    split
    · with_reducible assumption
    · refine foldl_keeps (P := Keeps W z) ?_ ?_
      · apply setSched_keeps
        · with_reducible assumption
        · with_reducible assumption
      · intro y7 y8 y9
        apply unchargeBacklog_keeps
        · with_reducible assumption
        · with_reducible assumption

theorem modOp_keeps {W : Nat} {z : State} (s : State) (h : ℕ) (f : Op → Op) (hW : Sub 2048 W) (h_s : Keeps W z s) :
    Keeps W z (modOp s h f) := by
  unfold modOp
  refine Keeps.congr (s := s) ?_ rfl rfl rfl rfl rfl rfl kept kept kept kept kept kept kept kept (hW.chg rfl) kept
      kept kept kept kept kept kept kept kept kept kept kept kept
  with_reducible assumption

theorem modArrival_keeps {W : Nat} {z : State} (s : State) (h : ℕ) (f : Arrival → Arrival) (hW : Sub 2048 W) (h_s :
    Keeps W z s) :
    Keeps W z (modArrival s h f) := by
  unfold modArrival
  apply modOp_keeps
  · with_reducible assumption
  · with_reducible assumption

theorem openStaging_keeps {W : Nat} {z : State} (s : State) (idx : ℕ) (ident : ℕ) (hW : Sub 64 W) (h_s : Keeps W z s)
    :
    KeepsOptSnd W z (openStaging s idx ident) := by
  unfold openStaging
  split
  · with_reducible assumption
  · split
    · extract_lets v6 v7
      clear_value v6
      clear_value v7
      change Keeps W z _
      dsimp only
      refine Keeps.congr (s := s) ?_ rfl rfl rfl rfl rfl rfl kept kept kept (hW.chg rfl) kept kept kept kept kept
          kept kept kept kept kept kept kept kept kept kept kept kept kept
      with_reducible assumption
    · exact trivial

theorem takeFrame_keeps {W : Nat} {z : State} (s : State) (grain : ℕ) (q : ℕ) (hW : Sub 33555460 W) (h_s : Keeps W z
    s) :
    KeepsOptSnd W z (takeFrame s grain q) := by
  unfold takeFrame
  split
  · exact trivial
  · extract_lets v6 v7 v8 v9 v10
    clear_value v6
    clear_value v7
    clear_value v8
    have h11 : Keeps W z v9 := by
      unfold v9
      refine Keeps.congr (s := s) ?_ rfl rfl rfl rfl rfl rfl kept kept kept kept kept kept kept (hW.chg rfl) kept
          kept kept kept kept kept kept kept kept kept kept kept kept kept
      with_reducible assumption
    clear_value v9
    have h12 : Keeps W z v10 := by
      unfold v10
      split
      · apply count_keeps
        · exact Sub.up (by decide) hW
        · with_reducible assumption
      · with_reducible assumption
    clear_value v10
    change Keeps W z _
    dsimp only
    apply wr_keeps
    · exact Sub.up (by decide) hW
    · with_reducible assumption

theorem readCis_keeps {W : Nat} {z : State} (s : State) (f : ℕ) (dram : ℕ) (hW : Sub 67109888 W) (h_s : Keeps W z s) :
    Keeps W z (readCis s f dram) := by
  unfold readCis
  apply issueNvme_keeps
  · with_reducible assumption
  · with_reducible assumption

theorem startPromote_keeps {W : Nat} {z : State} (s : State) (grain : ℕ) (q : ℕ) (op : ℕ) (hW : Sub 100664324 W) (h_s
    : Keeps W z s) :
    Keeps W z (startPromote s grain q op) := by
  unfold startPromote
  split
  · with_reducible assumption
  · extract_lets v5 v6
    clear_value v5
    clear_value v6
    split
    · with_reducible assumption
    · split
      · rename_i x9 x10
        have k11 := keeps_eq x10 (P := KeepsOptSnd W z) (by
          apply takeFrame_keeps
          · exact Sub.up (by decide) hW
          · with_reducible assumption
          )
        with_reducible assumption
      · rename_i x12 x13 x14 x15
        have k16 := keeps_eq x15 (P := KeepsOptSnd W z) (by
          apply takeFrame_keeps
          · exact Sub.up (by decide) hW
          · with_reducible assumption
          )
        extract_lets v17 v18
        clear_value v17
        have h19 : Keeps W z v18 := by
          unfold v18
          refine Keeps.congr (s := x14) ?_ rfl rfl rfl rfl rfl rfl kept kept kept kept kept kept kept (hW.chg rfl)
              kept kept kept kept kept kept kept kept kept kept kept kept kept kept
          with_reducible assumption
        clear_value v18
        apply readCis_keeps
        · exact Sub.up (by decide) hW
        · apply setIo_keeps
          · exact Sub.up (by decide) hW
          · apply count_keeps
            · exact Sub.up (by decide) hW
            · apply count_keeps
              · exact Sub.up (by decide) hW
              · with_reducible assumption

theorem needDram_keeps {W : Nat} {z : State} (s : State) (grain : ℕ) (q : ℕ) (cls : ℕ) (hW : Sub 100664324 W) (h_s :
    Keeps W z s) :
    KeepsWrite W z (needDram s grain q cls) := by
  unfold needDram
  split
  · split
    · change Keeps W z _
      apply startPromote_keeps
      · with_reducible assumption
      · with_reducible assumption
    · exact trivial
  · with_reducible assumption

theorem gateSub_keeps {W : Nat} {z : State} (s : State) (grain : ℕ) (q : ℕ) (cls : ℕ) (hW : Sub 100664324 W) (h_s :
    Keeps W z s) :
    KeepsWrite W z (gateSub s grain q cls) := by
  unfold gateSub
  split
  · split
    · change Keeps W z _
      apply abandonMove_keeps
      · with_reducible assumption
      · with_reducible assumption
    · with_reducible assumption
    · apply needDram_keeps
      · with_reducible assumption
      · with_reducible assumption
  · apply needDram_keeps
    · with_reducible assumption
    · with_reducible assumption

theorem chargeAdd_keeps {W : Nat} {z : State} (s : State) (dom : ℕ) (k : ℕ) (n : ℕ) (hW : Sub 64 W) (h_s : Keeps W z
    s) :
    Keeps W z (chargeAdd s dom k n) := by
  unfold chargeAdd
  refine Keeps.congr (s := s) ?_ rfl rfl rfl rfl rfl rfl kept kept kept (hW.chg rfl) kept kept kept kept kept kept
      kept kept kept kept kept kept kept kept kept kept kept kept
  with_reducible assumption

theorem stagePage_keeps {W : Nat} {z : State} (s : State) (v : Staging) (dom : ℕ) (p : ℕ) (hW : Sub 64 W) (h_s :
    Keeps W z s) :
    KeepsOptSnd W z (stagePage s v dom p) := by
  unfold stagePage
  split
  · with_reducible assumption
  · split
    · change Keeps W z _
      dsimp only
      apply chargeAdd_keeps
      · with_reducible assumption
      · with_reducible assumption
    · exact trivial

theorem takeCis_keeps {W : Nat} {z : State} (s : State) (hW : Sub 1028 W) (h_s : Keeps W z s) :
    KeepsOptSnd W z (takeCis s) := by
  unfold takeCis
  split
  · exact trivial
  · extract_lets v5 v6 v7
    clear_value v5
    clear_value v6
    have h8 : Keeps W z v7 := by
      unfold v7
      apply setIo_keeps
      · exact Sub.up (by decide) hW
      · refine Keeps.congr (s := s) ?_ rfl rfl rfl rfl rfl rfl kept kept kept kept kept kept kept (hW.chg rfl) kept
            kept kept kept kept kept kept kept kept kept kept kept kept kept
        with_reducible assumption
    clear_value v7
    change Keeps W z _
    dsimp only
    apply wr_keeps
    · exact Sub.up (by decide) hW
    · with_reducible assumption

theorem writeCis_keeps {W : Nat} {z : State} (s : State) (f : ℕ) (dram : Option ℕ) (hW : Sub 67109888 W) (h_s : Keeps
    W z s) :
    Keeps W z (writeCis s f dram) := by
  unfold writeCis
  apply issueNvme_keeps
  · with_reducible assumption
  · with_reducible assumption

theorem frameFor_keeps {W : Nat} {z : State} (s : State) (r : Region) (q : ℕ) (cls : ℕ) (hW : Sub 100664324 W) (h_s :
    Keeps W z s) :
    KeepsFrame W z (frameFor s r q cls) := by
  unfold frameFor
  split
  · rename_i x0 x1 x2 x3
    have k4 := keeps_eq x3 (P := KeepsOptSnd W z) (by
      split
      · apply takeFrame_keeps
        · exact Sub.up (by decide) hW
        · with_reducible assumption
      · exact trivial
      )
    with_reducible assumption
  · rename_i x7 x8
    have k9 := keeps_eq x8 (P := KeepsOptSnd W z) (by
      split
      · apply takeFrame_keeps
        · exact Sub.up (by decide) hW
        · with_reducible assumption
      · exact trivial
      )
    split
    · split
      · with_reducible assumption
      · split
        · rename_i x15 x16 x17 x18
          have k19 := keeps_eq x18 (P := KeepsOptSnd W z) (by
            apply takeCis_keeps
            · exact Sub.up (by decide) hW
            · with_reducible assumption
            )
          change Keeps W z _
          apply setIo_keeps
          · exact Sub.up (by decide) hW
          · apply writeCis_keeps
            · exact Sub.up (by decide) hW
            · apply count_keeps
              · exact Sub.up (by decide) hW
              · with_reducible assumption
        · rename_i x20 x21
          have k22 := keeps_eq x21 (P := KeepsOptSnd W z) (by
            apply takeCis_keeps
            · exact Sub.up (by decide) hW
            · with_reducible assumption
            )
          with_reducible assumption
    · split
      · with_reducible assumption
      · with_reducible assumption

theorem setStaging_keeps {W : Nat} {z : State} (s : State) (v : Staging) (hW : Sub 64 W) (h_s : Keeps W z s) :
    Keeps W z (setStaging s v) := by
  unfold setStaging
  refine Keeps.congr (s := s) ?_ rfl rfl rfl rfl rfl rfl kept kept kept (hW.chg rfl) kept kept kept kept kept kept
      kept kept kept kept kept kept kept kept kept kept kept kept
  with_reducible assumption

theorem zeroSub_keeps {W : Nat} {z : State} (s : State) (q : Nat) (hW : Sub 112 W) (h : Keeps W z s) : Keeps W z
    (zeroSub s q) := by
  unfold zeroSub
  split
  · exact Keeps.core (s := s) h rfl le_rfl List.suffix_rfl (fun c => ⟨twf_filter _ _ _ c.1, twf_filter _ _ _ c.2.1,
        c.2.2⟩)
      kept kept kept kept (hW.chg rfl) (hW.chg rfl) kept kept kept kept kept kept kept kept kept kept kept kept kept
          kept kept kept kept kept kept kept kept
  · exact Keeps.core (s := s) h rfl le_rfl List.suffix_rfl id
      kept kept kept kept kept kept (hW.chg rfl) kept kept kept kept kept kept kept kept kept kept kept kept kept
          kept kept kept kept kept kept kept

theorem copySub_keeps {W : Nat} {z : State} (s : State) (a b : Nat) (hW : Sub 112 W) (h : Keeps W z s) : Keeps W z
    (copySub s a b) := by
  unfold copySub
  have k := zeroSub_keeps s b (Sub.up (by decide) hW) h
  dsimp only
  split
  · exact Keeps.core (s := zeroSub s b) k rfl le_rfl List.suffix_rfl
      (fun c => ⟨twf_mergeSet _ _ _ c.1, twf_mergeSet _ _ _ c.2.1, c.2.2⟩)
      kept kept kept kept (hW.chg rfl) (hW.chg rfl) kept kept kept kept kept kept kept kept kept kept kept kept kept
          kept kept kept kept kept kept kept kept
  · exact Keeps.core (s := zeroSub s b) k rfl le_rfl List.suffix_rfl id
      kept kept kept kept kept kept (hW.chg rfl) kept kept kept kept kept kept kept kept kept kept kept kept kept
          kept kept kept kept kept kept kept

theorem stageSub_keeps {W : Nat} {z : State} (s : State) (pl : Place) (ident : ℕ) (cls : ℕ) (hW : Sub 100664436 W)
    (h_s : Keeps W z s) :
    KeepsWrite W z (stageSub s pl ident cls) := by
  unfold stageSub
  extract_lets v0 v1
  clear_value v0
  clear_value v1
  split
  · with_reducible assumption
  · split
    · rename_i x4 x5
      have k6 := keeps_eq x5 (P := KeepsOptSnd W z) (by
        apply openStaging_keeps
        · exact Sub.up (by decide) hW
        · with_reducible assumption
        )
      with_reducible assumption
    · rename_i x7 x8 x9 x10
      have k11 := keeps_eq x10 (P := KeepsOptSnd W z) (by
        apply openStaging_keeps
        · exact Sub.up (by decide) hW
        · with_reducible assumption
        )
      split
      · apply gateSub_keeps
        · exact Sub.up (by decide) hW
        · with_reducible assumption
      · split
        · rename_i x14 x15 x16
          have k17 := keeps_eq x16 (P := KeepsWrite W z) (by
            apply needDram_keeps
            · exact Sub.up (by decide) hW
            · with_reducible assumption
            )
          with_reducible assumption
        · rename_i x18 x19 x20
          have k21 := keeps_eq x20 (P := KeepsWrite W z) (by
            apply needDram_keeps
            · exact Sub.up (by decide) hW
            · with_reducible assumption
            )
          with_reducible assumption
        · rename_i x22 x23 x24
          have k25 := keeps_eq x24 (P := KeepsWrite W z) (by
            apply needDram_keeps
            · exact Sub.up (by decide) hW
            · with_reducible assumption
            )
          split
          · rename_i x26 x27
            have k28 := keeps_eq x27 (P := KeepsOptSnd W z) (by
              apply stagePage_keeps
              · exact Sub.up (by decide) hW
              · with_reducible assumption
              )
            with_reducible assumption
          · rename_i x29 x30 x31 x32
            have k33 := keeps_eq x32 (P := KeepsOptSnd W z) (by
              apply stagePage_keeps
              · exact Sub.up (by decide) hW
              · with_reducible assumption
              )
            split
            · rename_i x34 x35 x36
              have k37 := keeps_eq x36 (P := KeepsFrame W z) (by
                apply frameFor_keeps
                · exact Sub.up (by decide) hW
                · apply setStaging_keeps
                  · exact Sub.up (by decide) hW
                  · with_reducible assumption
                )
              with_reducible assumption
            · with_reducible assumption
            · rename_i x40 x41 x42 x43
              have k44 := keeps_eq x43 (P := KeepsFrame W z) (by
                apply frameFor_keeps
                · exact Sub.up (by decide) hW
                · apply setStaging_keeps
                  · exact Sub.up (by decide) hW
                  · with_reducible assumption
                )
              extract_lets v45
              have h46 : Keeps W z v45 := by
                unfold v45
                apply setSub_keeps
                · exact Sub.up (by decide) hW
                · apply setStaging_keeps
                  · exact Sub.up (by decide) hW
                  · with_reducible assumption
              clear_value v45
              change Keeps W z _
              apply copySub_keeps
              · exact Sub.up (by decide) hW
              · with_reducible assumption

theorem setRegion_keeps {W : Nat} {z : State} (s : State) (idx : ℕ) (r : Region) (hW : Sub 64 W) (h_s : Keeps W z s) :
    Keeps W z (setRegion s idx r) := by
  unfold setRegion
  refine Keeps.congr (s := s) ?_ rfl rfl rfl rfl rfl rfl kept kept kept (hW.chg rfl) kept kept kept kept kept kept
      kept kept kept kept kept kept kept kept kept kept kept kept
  with_reducible assumption

theorem backPage_keeps {W : Nat} {z : State} (s : State) (idx : ℕ) (r : Region) (p : ℕ) (hW : Sub 33555520 W) (h_s :
    Keeps W z s) :
    KeepsOpt W z (backPage s idx r p) := by
  unfold backPage
  split
  · with_reducible assumption
  · split
    · extract_lets v3 v4
      have h5 : Keeps W z v3 := by
        unfold v3
        apply setRegion_keeps
        · exact Sub.up (by decide) hW
        · with_reducible assumption
      clear_value v3
      clear_value v4
      change Keeps W z _
      apply count_keeps
      · exact Sub.up (by decide) hW
      · apply setPage_keeps
        · exact Sub.up (by decide) hW
        · with_reducible assumption
    · split
      · extract_lets v8 v9
        have h10 : Keeps W z v8 := by
          unfold v8
          apply chargeAdd_keeps
          · exact Sub.up (by decide) hW
          · with_reducible assumption
        clear_value v8
        clear_value v9
        change Keeps W z _
        apply count_keeps
        · exact Sub.up (by decide) hW
        · apply setPage_keeps
          · exact Sub.up (by decide) hW
          · with_reducible assumption
      · exact trivial

theorem prepareWrite_keeps {W : Nat} {z : State} (s : State) (pl : Place) (cls : ℕ) (hW : Sub 100664436 W) (h_s :
    Keeps W z s) :
    KeepsWrite W z (prepareWrite s pl cls) := by
  unfold prepareWrite
  extract_lets v0
  clear_value v0
  split
  · rename_i x1 x2
    have k3 := keeps_eq x2 (P := KeepsOpt W z) (by
      apply backPage_keeps
      · exact Sub.up (by decide) hW
      · with_reducible assumption
      )
    with_reducible assumption
  · rename_i x4 x5 x6
    have k7 := keeps_eq x6 (P := KeepsOpt W z) (by
      apply backPage_keeps
      · exact Sub.up (by decide) hW
      · with_reducible assumption
      )
    extract_lets v8
    clear_value v8
    split
    · split
      · rename_i x10 x11 x12
        have k13 := keeps_eq x12 (P := KeepsFrame W z) (by
          apply frameFor_keeps
          · exact Sub.up (by decide) hW
          · with_reducible assumption
          )
        with_reducible assumption
      · with_reducible assumption
      · rename_i x16 x17 x18 x19
        have k20 := keeps_eq x19 (P := KeepsFrame W z) (by
          apply frameFor_keeps
          · exact Sub.up (by decide) hW
          · with_reducible assumption
          )
        change Keeps W z _
        apply setSub_keeps
        · exact Sub.up (by decide) hW
        · split
          · with_reducible assumption
          · apply zeroSub_keeps
            · exact Sub.up (by decide) hW
            · with_reducible assumption
    · apply gateSub_keeps
      · exact Sub.up (by decide) hW
      · with_reducible assumption

theorem preparePlace_keeps {W : Nat} {z : State} (s : State) (pl : Place) (ident : ℕ) (cls : ℕ) (hW : Sub 100664436
    W) (h_s : Keeps W z s) :
    KeepsWrite W z (preparePlace s pl ident cls) := by
  unfold preparePlace
  split
  · apply stageSub_keeps
    · with_reducible assumption
    · with_reducible assumption
  · split
    · exact trivial
    · apply prepareWrite_keeps
      · with_reducible assumption
      · with_reducible assumption

theorem writeGate_keeps {W : Nat} {z : State} (s : State) (u : User) (l : List Nat) (hW : Sub 100664436 W) (h : Keeps
    W z s) : KeepsGo W z (writeGate s u l) := by
  induction l generalizing s with
  | nil => exact h
  | cons pa l ih =>
    unfold writeGate
    split
    · exact h
    · rename_i pl _
      have k := preparePlace_keeps s pl u.ident u.cls (Sub.up (by decide) hW) h
      split
      · rename_i e; rw [e] at k; exact ih _ k
      · rename_i e; rw [e] at k; exact k
      · exact h

theorem runGate_keeps {W : Nat} {z : State} (s : State) (u : User) (pa : ℕ) (n : ℕ) (hW : Sub 100664436 W) (h_s :
    Keeps W z s) :
    KeepsGo W z (runGate s u pa n) := by
  unfold runGate
  extract_lets v0
  clear_value v0
  split
  · with_reducible assumption
  · apply writeGate_keeps
    · with_reducible assumption
    · with_reducible assumption

theorem forgetLines_keeps {W : Nat} {z : State} (s : State) (who : Requester) (ls : List ℕ) (hW : Sub 256 W) (h_s :
    Keeps W z s) :
    Keeps W z (forgetLines s who ls) := by
  unfold forgetLines
  refine Keeps.congr (s := s) ?_ rfl rfl rfl rfl rfl rfl kept kept kept kept kept (hW.chg rfl) kept kept kept kept
      kept kept kept kept kept kept kept kept kept kept kept kept
  with_reducible assumption

theorem dropTran_keeps {W : Nat} {z : State} (s : State) (line : ℕ) (hW : Sub 256 W) (h_s : Keeps W z s) :
    Keeps W z (dropTran s line) := by
  unfold dropTran
  refine Keeps.congr (s := s) ?_ rfl rfl rfl rfl rfl rfl kept kept kept kept kept (hW.chg rfl) kept kept kept kept
      kept kept kept kept kept kept kept kept kept kept kept kept
  with_reducible assumption

theorem dropDir_keeps {W : Nat} {z : State} (s : State) (line : ℕ) (hW : Sub 256 W) (h_s : Keeps W z s) :
    Keeps W z (dropDir s line) := by
  unfold dropDir
  refine Keeps.congr (s := s) ?_ rfl rfl rfl rfl rfl rfl kept kept kept kept kept (hW.chg rfl) kept kept kept kept
      kept kept kept kept kept kept kept kept kept kept kept kept
  with_reducible assumption

theorem setDir_keeps {W : Nat} {z : State} (s : State) (line : ℕ) (e : DirEntry) (hW : Sub 256 W) (h_s : Keeps W z s)
    :
    Keeps W z (setDir s line e) := by
  unfold setDir
  refine Keeps.congr (s := s) ?_ rfl rfl rfl rfl rfl rfl kept kept kept kept kept (hW.chg rfl) kept kept kept kept
      kept kept kept kept kept kept kept kept kept kept kept kept
  with_reducible assumption

theorem voidLine_keeps {W : Nat} {z : State} (s : State) (line : ℕ) (hW : Sub 256 W) (h_s : Keeps W z s) :
    Keeps W z (voidLine s line) := by
  unfold voidLine
  refine Keeps.congr (s := s) ?_ rfl rfl rfl rfl rfl rfl kept kept kept kept kept (hW.chg rfl) kept kept kept kept
      kept kept kept kept kept kept kept kept kept kept kept kept
  with_reducible assumption

theorem loseSharer_keeps {W : Nat} {z : State} (s : State) (line : ℕ) (i : ℕ) (hW : Sub 107063044 W) (h_s : Keeps W z
    s) :
    Keeps W z (loseSharer s line i) := by
  unfold loseSharer
  apply event_keeps
  · exact Sub.up (by decide) hW
  · apply voidLine_keeps
    · exact Sub.up (by decide) hW
    · with_reducible assumption

theorem setPoison_keeps {W : Nat} {z : State} (s : State) (line code : Nat) (hW : Sub 96 W) (h : Keeps W z s) :
    Keeps W z (setPoison s line code) := by
  unfold setPoison
  split
  · exact Keeps.core (s := s) h rfl le_rfl List.suffix_rfl (fun c => ⟨c.1, twf_tset _ _ _ _ c.2.1, c.2.2⟩)
      kept kept kept kept kept (hW.chg rfl) kept kept kept kept kept kept kept kept kept kept kept kept kept kept
          kept kept kept kept kept kept kept
  · exact Keeps.core (s := s) h rfl le_rfl List.suffix_rfl id
      kept kept kept kept kept kept (hW.chg rfl) kept kept kept kept kept kept kept kept kept kept kept kept kept
          kept kept kept kept kept kept kept

theorem loseOwner_keeps {W : Nat} {z : State} (s : State) (line : ℕ) (i : ℕ) (hW : Sub 107063140 W) (h_s : Keeps W z
    s) :
    Keeps W z (loseOwner s line i) := by
  unfold loseOwner
  extract_lets v0
  have h1 : Keeps W z v0 := by
    unfold v0
    apply count_keeps
    · exact Sub.up (by decide) hW
    · apply setPoison_keeps
      · exact Sub.up (by decide) hW
      · apply voidLine_keeps
        · exact Sub.up (by decide) hW
        · with_reducible assumption
  clear_value v0
  apply event_keeps
  · exact Sub.up (by decide) hW
  · with_reducible assumption

theorem dropUnrouted_keeps {W : Nat} {z : State} (s : State) (u : WUnit) (hW : Sub 107062788 W) (h_s : Keeps W z s) :
    Keeps W z (dropUnrouted s u) := by
  unfold dropUnrouted
  apply event_keeps
  · with_reducible assumption
  · apply unchargeBacklog_keeps
    · exact Sub.up (by decide) hW
    · with_reducible assumption

theorem setRoute_keeps {W : Nat} {z : State} (s : State) (eid : ℕ) (r : Route) (hW : Sub 4096 W) (h_s : Keeps W z s) :
    Keeps W z (setRoute s eid r) := by
  unfold setRoute
  refine Keeps.congr (s := s) ?_ rfl rfl rfl rfl rfl rfl kept kept kept kept kept kept kept kept kept (hW.chg rfl)
      kept kept kept kept kept kept kept kept kept kept kept kept
  with_reducible assumption

theorem chargeBacklog_keeps {W : Nat} {z : State} (s : State) (sch : ℕ) (cls : ℕ) (n : ℕ) (hW : Sub 512 W) (h_s :
    Keeps W z s) :
    Keeps W z (chargeBacklog s sch cls n) := by
  unfold chargeBacklog
  extract_lets v0 v1
  clear_value v0
  clear_value v1
  refine Keeps.congr (s := s) ?_ rfl rfl rfl rfl rfl rfl kept kept kept kept kept kept (hW.chg rfl) kept kept kept
      kept kept kept kept kept kept kept kept kept kept kept kept
  with_reducible assumption

theorem placeAt_keeps {W : Nat} {z : State} (s : State) (p : ℕ) (spread : Bool) (u : WUnit) (hW : Sub 33554944 W)
    (h_s : Keeps W z s) :
    Keeps W z (placeAt s p spread u) := by
  unfold placeAt
  extract_lets v0 v1
  have h2 : Keeps W z v0 := by
    unfold v0
    split
    · apply count_keeps
      · exact Sub.up (by decide) hW
      · with_reducible assumption
    · with_reducible assumption
  clear_value v0
  have h5 : Keeps W z v1 := by
    unfold v1
    split
    · with_reducible assumption
    · apply chargeBacklog_keeps
      · exact Sub.up (by decide) hW
      · apply unchargeBacklog_keeps
        · exact Sub.up (by decide) hW
        · with_reducible assumption
  clear_value v1
  apply enqueue_keeps
  · with_reducible assumption
  · with_reducible assumption

theorem arrivalClose_keeps {W : Nat} {z : State} (s : State) (h : ℕ) (tile : ℕ) (fold : Bool) (hW : Sub 2048 W) (h_s
    : Keeps W z s) :
    Keeps W z (arrivalClose s h tile fold) := by
  unfold arrivalClose
  apply modArrival_keeps
  · with_reducible assumption
  · with_reducible assumption

theorem skipIn_keeps {W : Nat} {z : State} (s : State) (h : ℕ) (eid : ℕ) (hW : Sub 2048 W) (h_s : Keeps W z s) :
    Keeps W z (skipIn s h eid) := by
  unfold skipIn
  split
  · with_reducible assumption
  · extract_lets v5 v6 v7 v8
    clear_value v5
    have h9 : Keeps W z v6 := by
      unfold v6
      apply modOp_keeps
      · with_reducible assumption
      · with_reducible assumption
    clear_value v6
    have h10 : Keeps W z v7 := by
      unfold v7
      apply modArrival_keeps
      · with_reducible assumption
      · with_reducible assumption
    clear_value v7
    have h11 : Keeps W z v8 := by
      unfold v8
      refine foldl_keeps (P := Keeps W z) ?_ ?_
      · with_reducible assumption
      · intro y12 y13 y14
        apply arrivalClose_keeps
        · with_reducible assumption
        · with_reducible assumption
    clear_value v8
    split
    · with_reducible assumption
    · apply modArrival_keeps
      · with_reducible assumption
      · with_reducible assumption

theorem contributorSkip_keeps {W : Nat} {z : State} (s : State) (eid : ℕ) (hW : Sub 2048 W) (h_s : Keeps W z s) :
    Keeps W z (contributorSkip s eid) := by
  unfold contributorSkip
  refine foldl_keeps (P := Keeps W z) ?_ ?_
  · with_reducible assumption
  · intro y0 y1 y2
    apply skipIn_keeps
    · with_reducible assumption
    · with_reducible assumption

theorem fenceEffects_keeps {W : Nat} {z : State} (s : State) (eid : ℕ) (hW : Sub 33561088 W) (h_s : Keeps W z s) :
    Keeps W z (fenceEffects s eid) := by
  unfold fenceEffects
  extract_lets v0 v1 v2 v3 v4 v5 v6 v7 v8
  have h9 : Keeps W z v0 := by
    unfold v0
    refine foldl_keeps (P := Keeps W z) ?_ ?_
    · with_reducible assumption
    · intro y10 y11 y12
      apply unchargeBacklog_keeps
      · exact Sub.up (by decide) hW
      · with_reducible assumption
  clear_value v0
  clear_value v1
  have h13 : Keeps W z v2 := by
    unfold v2
    refine Keeps.congr (s := v0) ?_ rfl rfl rfl rfl rfl rfl kept kept kept kept kept kept kept kept (hW.chg rfl) kept
        kept kept kept kept kept kept kept kept kept kept kept kept
    with_reducible assumption
  clear_value v2
  clear_value v3
  have h14 : Keeps W z v4 := by
    unfold v4
    refine Keeps.congr (s := v2) ?_ rfl rfl rfl rfl rfl rfl kept kept kept kept kept kept kept kept kept (hW.chg rfl)
        kept kept kept kept kept kept kept kept kept kept kept kept
    with_reducible assumption
  clear_value v4
  clear_value v5
  clear_value v6
  have h15 : Keeps W z v7 := by
    unfold v7
    refine Keeps.congr (s := v4) ?_ rfl rfl rfl rfl rfl rfl kept kept kept kept kept kept kept kept (hW.chg rfl) kept
        kept kept kept kept kept kept kept kept kept kept kept kept
    with_reducible assumption
  clear_value v7
  have h16 : Keeps W z v8 := by
    unfold v8
    refine foldl_keeps (P := Keeps W z) ?_ ?_
    · with_reducible assumption
    · intro y17 y18 y19
      apply count_keeps
      · exact Sub.up (by decide) hW
      · apply modOp_keeps
        · exact Sub.up (by decide) hW
        · with_reducible assumption
  clear_value v8
  apply contributorSkip_keeps
  · exact Sub.up (by decide) hW
  · with_reducible assumption

theorem fenceUnreachable_keeps {W : Nat} {z : State} (s : State) (eid : ℕ) (hW : Sub 33561088 W) (h_s : Keeps W z s) :
    Keeps W z (fenceUnreachable s eid) := by
  unfold fenceUnreachable
  extract_lets v0
  clear_value v0
  split
  · apply setRoute_keeps
    · exact Sub.up (by decide) hW
    · with_reducible assumption
  · apply fenceEffects_keeps
    · with_reducible assumption
    · apply setRoute_keeps
      · exact Sub.up (by decide) hW
      · with_reducible assumption

theorem routeNow_keeps {W : Nat} {z : State} (s : State) (u : WUnit) (hW : Sub 107068932 W) (h_s : Keeps W z s) :
    Keeps W z (routeNow s u) := by
  unfold routeNow
  extract_lets v0 v1 v2
  clear_value v0
  clear_value v1
  have h3 : Keeps W z v2 := by
    unfold v2
    apply setRoute_keeps
    · exact Sub.up (by decide) hW
    · with_reducible assumption
  clear_value v2
  split
  · apply dropUnrouted_keeps
    · exact Sub.up (by decide) hW
    · with_reducible assumption
  · split
    · apply placeAt_keeps
      · exact Sub.up (by decide) hW
      · with_reducible assumption
    · apply fenceUnreachable_keeps
      · exact Sub.up (by decide) hW
      · apply unchargeBacklog_keeps
        · exact Sub.up (by decide) hW
        · with_reducible assumption

theorem routePacket_keeps {W : Nat} {z : State} (s : State) (u : WUnit) (hW : Sub 107068932 W) (h_s : Keeps W z s) :
    Keeps W z (routePacket s u) := by
  unfold routePacket
  split
  · refine Keeps.congr (s := s) ?_ rfl rfl rfl rfl rfl rfl kept kept kept kept kept kept kept kept kept (hW.chg rfl)
        kept kept kept kept kept kept kept kept kept kept kept kept
    with_reducible assumption
  · apply routeNow_keeps
    · with_reducible assumption
    · with_reducible assumption

theorem emit_keeps {W : Nat} {z : State} (s : State) (pkt : Packet) (charge : optParam ℕ 0) (chargeAt : optParam ℕ 0)
    (due : optParam (Option Due) none) (hW : Sub 107085316 W) (h_s : Keeps W z s) :
    Keeps W z (emit s pkt charge chargeAt due) := by
  unfold emit
  extract_lets v0
  clear_value v0
  split
  · apply receive_keeps
    · exact Sub.up (by decide) hW
    · apply unchargeBacklog_keeps
      · exact Sub.up (by decide) hW
      · with_reducible assumption
  · apply routePacket_keeps
    · exact Sub.up (by decide) hW
    · with_reducible assumption

theorem sendFwd_keeps {W : Nat} {z : State} (s : State) (line : ℕ) (code : ℕ) (i : ℕ) (sc : ℕ) (req : HomeReq) (hW :
    Sub 107085316 W) (h_s : Keeps W z s) :
    Keeps W z (sendFwd s line code i sc req) := by
  unfold sendFwd
  apply count_keeps
  · exact Sub.up (by decide) hW
  · apply emit_keeps
    · with_reducible assumption
    · with_reducible assumption

theorem sendFwds_keeps {W : Nat} {z : State} (s : State) (line : ℕ) (code : ℕ) (is : List ℕ) (sc : ℕ) (t : Tran) (hW
    : Sub 107085316 W) (h_s : Keeps W z s) :
    KeepsFst W z (sendFwds s line code is sc t) := by
  unfold sendFwds
  change Keeps W z _
  dsimp only
  refine foldl_keeps (P := Keeps W z) ?_ ?_
  · with_reducible assumption
  · intro y0 y1 y2
    apply sendFwd_keeps
    · with_reducible assumption
    · with_reducible assumption

theorem atomicAnswer_keeps {W : Nat} {z : State} (s : State) (req : AtomicReq) (st : ℕ) (c : ℕ) (old : ℕ) (hW : Sub
    67109888 W) (h_s : Keeps W z s) :
    Keeps W z (atomicAnswer s req st c old) := by
  unfold atomicAnswer
  apply put_keeps
  · with_reducible assumption
  · with_reducible assumption

theorem respond_keeps {W : Nat} {z : State} (s : State) (r : HomeReq) (code : ℕ) (data : Bytes) (pcode : ℕ) (hW : Sub
    107085572 W) (h_s : Keeps W z s) :
    Keeps W z (respond s r code data pcode) := by
  unfold respond
  split
  · apply emit_keeps
    · exact Sub.up (by decide) hW
    · with_reducible assumption
  · extract_lets v5 v6 v7
    clear_value v5
    clear_value v6
    have h8 : Keeps W z v7 := by
      unfold v7
      split
      · apply count_keeps
        · exact Sub.up (by decide) hW
        · apply cxlRecord_keeps
          · exact Sub.up (by decide) hW
          · with_reducible assumption
      · with_reducible assumption
    clear_value v7
    apply enqueue_keeps
    · exact Sub.up (by decide) hW
    · with_reducible assumption
  · apply atomicAnswer_keeps
    · exact Sub.up (by decide) hW
    · with_reducible assumption
  · with_reducible assumption
  · split
    · with_reducible assumption
    · refine Keeps.congr (s := s) ?_ rfl rfl rfl rfl rfl rfl kept kept kept kept kept (hW.chg rfl) kept kept kept
          kept kept kept kept kept kept kept kept kept kept kept kept kept
      with_reducible assumption

theorem setTran_keeps {W : Nat} {z : State} (s : State) (line : ℕ) (t : Tran) (hW : Sub 256 W) (h_s : Keeps W z s) :
    Keeps W z (setTran s line t) := by
  unfold setTran
  refine Keeps.congr (s := s) ?_ rfl rfl rfl rfl rfl rfl kept kept kept kept kept (hW.chg rfl) kept kept kept kept
      kept kept kept kept kept kept kept kept kept kept kept kept
  with_reducible assumption

theorem markLines_keeps {W : Nat} {z : State} (s : State) (pa : ℕ) (n : ℕ) (hW : Sub 1024 W) (h_s : Keeps W z s) :
    Keeps W z (markLines s pa n) := by
  unfold markLines
  refine foldl_keeps (P := Keeps W z) ?_ ?_
  · with_reducible assumption
  · intro y0 y1 y2
    extract_lets v3 v4
    clear_value v3
    clear_value v4
    split
    · split
      · apply setSub_keeps
        · with_reducible assumption
        · with_reducible assumption
      · apply setSub_keeps
        · with_reducible assumption
        · with_reducible assumption
    · with_reducible assumption

theorem setByte_keeps {W : Nat} {z : State} (s : State) (a : Nat) (b : Byte) (hW : Sub 80 W) (h : Keeps W z s) :
    Keeps W z (setByte s a b) := by
  unfold setByte
  split
  · exact Keeps.core (s := s) h rfl le_rfl List.suffix_rfl (fun c => ⟨twf_tset _ _ _ _ c.1, c.2⟩)
      kept kept kept kept (hW.chg rfl) kept kept kept kept kept kept kept kept kept kept kept kept kept kept kept
          kept kept kept kept kept kept kept
  · exact Keeps.core (s := s) h rfl le_rfl List.suffix_rfl id
      kept kept kept kept kept kept (hW.chg rfl) kept kept kept kept kept kept kept kept kept kept kept kept kept
          kept kept kept kept kept kept kept

theorem setBytes_keeps {W : Nat} {z : State} (s : State) (a : Nat) (bs : Bytes) (hW : Sub 80 W) (h : Keeps W z s) :
    Keeps W z (setBytes s a bs) := by
  induction bs generalizing s a with
  | nil => exact h
  | cons b bs ih => exact ih _ _ (setByte_keeps _ _ _ (Sub.up (by decide) hW) h)

theorem writeLine_keeps {W : Nat} {z : State} (s : State) (line : ℕ) (data : Bytes) (mask : ℕ) (pcode : ℕ) (hW : Sub
    112 W) (h_s : Keeps W z s) :
    Keeps W z (writeLine s line data mask pcode) := by
  unfold writeLine
  extract_lets v0 v1
  clear_value v0
  have h2 : Keeps W z v1 := by
    unfold v1
    apply setBytes_keeps
    · exact Sub.up (by decide) hW
    · with_reducible assumption
  clear_value v1
  split
  · apply setPoison_keeps
    · exact Sub.up (by decide) hW
    · with_reducible assumption
  · split
    · apply setPoison_keeps
      · exact Sub.up (by decide) hW
      · with_reducible assumption
    · with_reducible assumption

theorem dramQueue_keeps {W : Nat} {z : State} (s : State) (line : ℕ) (cls : ℕ) (write : Bool) (hW : Sub 262144 W)
    (h_s : Keeps W z s) :
    Keeps W z (dramQueue s line cls write) := by
  unfold dramQueue
  split
  · with_reducible assumption
  · split
    extract_lets v9 v10 v11 v12
    clear_value v9
    clear_value v10
    clear_value v11
    clear_value v12
    refine Keeps.congr (s := s) ?_ rfl rfl rfl rfl rfl rfl kept kept kept kept kept kept kept kept kept kept kept
        kept kept kept kept (hW.chg rfl) kept kept kept kept kept kept
    with_reducible assumption

theorem setMerge_keeps {W : Nat} {z : State} (s : State) (ch : ℕ) (m : List MergeEntry) (hW : Sub 262148 W) (h_s :
    Keeps W z s) :
    Keeps W z (setMerge s ch m) := by
  unfold setMerge
  extract_lets v0 v1
  clear_value v0
  have h2 : Keeps W z v1 := by
    unfold v1
    refine Keeps.congr (s := s) ?_ rfl rfl rfl rfl rfl rfl kept kept kept kept kept kept kept kept kept kept kept
        kept kept kept kept (hW.chg rfl) kept kept kept kept kept kept
    with_reducible assumption
  clear_value v1
  apply wf_keeps
  · exact Sub.up (by decide) hW
  · with_reducible assumption

theorem mergeLeave_keeps {W : Nat} {z : State} (s : State) (ch : ℕ) (cls : ℕ) (e : MergeEntry) (hW : Sub 33816580 W)
    (h_s : Keeps W z s) :
    Keeps W z (mergeLeave s ch cls e) := by
  unfold mergeLeave
  extract_lets v0
  have h1 : Keeps W z v0 := by
    unfold v0
    apply setMerge_keeps
    · exact Sub.up (by decide) hW
    · with_reducible assumption
  clear_value v0
  split
  · apply dramQueue_keeps
    · exact Sub.up (by decide) hW
    · with_reducible assumption
  · apply count_keeps
    · exact Sub.up (by decide) hW
    · apply dramQueue_keeps
      · exact Sub.up (by decide) hW
      · apply dramQueue_keeps
        · exact Sub.up (by decide) hW
        · with_reducible assumption

theorem mergeEnter_keeps {W : Nat} {z : State} (s : State) (ch : ℕ) (line : ℕ) (cls : ℕ) (mask : BitVec 64) (hW : Sub
    33816580 W) (h_s : Keeps W z s) :
    Keeps W z (mergeEnter s ch line cls mask) := by
  unfold mergeEnter
  split
  · apply count_keeps
    · exact Sub.up (by decide) hW
    · apply dramQueue_keeps
      · exact Sub.up (by decide) hW
      · apply dramQueue_keeps
        · exact Sub.up (by decide) hW
        · with_reducible assumption
  · split
    · extract_lets v5
      clear_value v5
      split
      · apply mergeLeave_keeps
        · with_reducible assumption
        · with_reducible assumption
      · apply setMerge_keeps
        · exact Sub.up (by decide) hW
        · with_reducible assumption
    · extract_lets v10
      have h11 : Keeps W z v10 := by
        unfold v10
        split
        · split
          · apply count_keeps
            · exact Sub.up (by decide) hW
            · apply mergeLeave_keeps
              · with_reducible assumption
              · with_reducible assumption
          · with_reducible assumption
        · with_reducible assumption
      clear_value v10
      apply setMerge_keeps
      · exact Sub.up (by decide) hW
      · with_reducible assumption

theorem storeLine_keeps {W : Nat} {z : State} (s : State) (mirrored : Bool) (line : ℕ) (cls : ℕ) (data : Bytes) (mask
    : ℕ) (pcode : ℕ) (who : MackFor) (hW : Sub 35915380 W) (h_s : Keeps W z s) :
    Keeps W z (storeLine s mirrored line cls data mask pcode who) := by
  unfold storeLine
  split
  · split
    · apply count_keeps
      · exact Sub.up (by decide) hW
      · with_reducible assumption
    · with_reducible assumption
  · extract_lets v7 v8 v9
    clear_value v7
    have h10 : Keeps W z v8 := by
      unfold v8
      apply markLines_keeps
      · exact Sub.up (by decide) hW
      · apply writeLine_keeps
        · exact Sub.up (by decide) hW
        · with_reducible assumption
    clear_value v8
    have h11 : Keeps W z v9 := by
      unfold v9
      split
      · with_reducible assumption
      · split
        · split
          · apply dramQueue_keeps
            · exact Sub.up (by decide) hW
            · apply setMerge_keeps
              · exact Sub.up (by decide) hW
              · with_reducible assumption
          · apply mergeEnter_keeps
            · exact Sub.up (by decide) hW
            · with_reducible assumption
        · with_reducible assumption
    clear_value v9
    split
    · apply mirrorLine_keeps
      · exact Sub.up (by decide) hW
      · with_reducible assumption
    · split
      · apply mirrorLine_keeps
        · exact Sub.up (by decide) hW
        · with_reducible assumption
      · with_reducible assumption

theorem homeStore_keeps {W : Nat} {z : State} (s : State) (line : ℕ) (cls : ℕ) (data : Bytes) (mask : ℕ) (pcode : ℕ)
    (hW : Sub 103024244 W) (h_s : Keeps W z s) :
    Keeps W z (homeStore s line cls data mask pcode) := by
  unfold homeStore
  split
  · with_reducible assumption
  · split
    · rename_i x5 x6 x7
      have k8 := keeps_eq x7 (P := KeepsWrite W z) (by
        apply prepareWrite_keeps
        · exact Sub.up (by decide) hW
        · with_reducible assumption
        )
      apply storeLine_keeps
      · exact Sub.up (by decide) hW
      · with_reducible assumption
    · rename_i x9 x10 x11
      have k12 := keeps_eq x11 (P := KeepsWrite W z) (by
        apply prepareWrite_keeps
        · exact Sub.up (by decide) hW
        · with_reducible assumption
        )
      apply storeLine_keeps
      · exact Sub.up (by decide) hW
      · with_reducible assumption
    · rename_i x13 x14 x15
      have k16 := keeps_eq x15 (P := KeepsWrite W z) (by
        apply prepareWrite_keeps
        · exact Sub.up (by decide) hW
        · with_reducible assumption
        )
      with_reducible assumption

theorem finishRecall_keeps {W : Nat} {z : State} (s : State) (line : ℕ) (t : Tran) (e : DirEntry) (hW : Sub 103024500
    W) (h_s : Keeps W z s) :
    Keeps W z (finishRecall s line t e) := by
  unfold finishRecall
  extract_lets v0
  have h1 : Keeps W z v0 := by
    unfold v0
    split
    · split
      · with_reducible assumption
      · apply homeStore_keeps
        · exact Sub.up (by decide) hW
        · with_reducible assumption
    · with_reducible assumption
  clear_value v0
  split
  · apply dropDir_keeps
    · exact Sub.up (by decide) hW
    · with_reducible assumption
  · extract_lets v15
    clear_value v15
    split
    · split
      · apply dropDir_keeps
        · exact Sub.up (by decide) hW
        · with_reducible assumption
      · apply setDir_keeps
        · exact Sub.up (by decide) hW
        · with_reducible assumption
    · split
      · apply dropDir_keeps
        · exact Sub.up (by decide) hW
        · with_reducible assumption
      · apply setDir_keeps
        · exact Sub.up (by decide) hW
        · with_reducible assumption

theorem lostFrame_keeps {W : Nat} {z : State} (s : State) (q : ℕ) (hW : Sub 33555460 W) (h_s : Keeps W z s) :
    Keeps W z (lostFrame s q) := by
  unfold lostFrame
  split
  · split
    · rename_i x1 x2 x3 x4
      have k5 := keeps_eq x4 (P := KeepsOptSnd W z) (by
        apply takeFrame_keeps
        · with_reducible assumption
        · with_reducible assumption
        )
      apply setSub_keeps
      · exact Sub.up (by decide) hW
      · with_reducible assumption
    · rename_i x6 x7
      have k8 := keeps_eq x7 (P := KeepsOptSnd W z) (by
        apply takeFrame_keeps
        · with_reducible assumption
        · with_reducible assumption
        )
      with_reducible assumption
  · with_reducible assumption

theorem readLine_keeps {W : Nat} {z : State} (s : State) (line : ℕ) (cls : ℕ) (hW : Sub 33817604 W) (h_s : Keeps W z
    s) :
    KeepsTrd W z (readLine s line cls) := by
  unfold readLine
  split
  · with_reducible assumption
  · extract_lets v2 v3 v4 v5 v6
    have h7 : Keeps W z v2 := by
      unfold v2
      apply lostFrame_keeps
      · exact Sub.up (by decide) hW
      · with_reducible assumption
    clear_value v2
    have h8 : Keeps W z v3 := by
      unfold v3
      split
      · split
        · apply mergeLeave_keeps
          · exact Sub.up (by decide) hW
          · with_reducible assumption
        · with_reducible assumption
      · with_reducible assumption
    clear_value v3
    have h19 : Keeps W z v4 := by
      unfold v4
      apply dramQueue_keeps
      · exact Sub.up (by decide) hW
      · with_reducible assumption
    clear_value v4
    clear_value v5
    have h20 : Keeps W z v6 := by
      unfold v6
      split
      · with_reducible assumption
      · split
        · apply setSub_keeps
          · exact Sub.up (by decide) hW
          · with_reducible assumption
        · with_reducible assumption
    clear_value v6
    with_reducible assumption

theorem tranData_keeps {W : Nat} {z : State} (s : State) (t : Tran) (hW : Sub 33817604 W) (h_s : Keeps W z s) :
    KeepsTrd W z (tranData s t) := by
  unfold tranData
  split
  · with_reducible assumption
  · apply readLine_keeps
    · with_reducible assumption
    · with_reducible assumption

theorem cxlDiscard_keeps {W : Nat} {z : State} (s : State) (hpa : ℕ) (pa : ℕ) (st : ℕ) (hW : Sub 107062788 W) (h_s :
    Keeps W z s) :
    Keeps W z (cxlDiscard s hpa pa st) := by
  unfold cxlDiscard
  extract_lets v0
  have h1 : Keeps W z v0 := by
    unfold v0
    apply cxlRecord_keeps
    · exact Sub.up (by decide) hW
    · apply count_keeps
      · exact Sub.up (by decide) hW
      · with_reducible assumption
  clear_value v0
  apply event_keeps
  · with_reducible assumption
  · with_reducible assumption

theorem refuseReq_keeps {W : Nat} {z : State} (s : State) (r : HomeReq) (st : ℕ) (hW : Sub 107085572 W) (h_s : Keeps
    W z s) :
    Keeps W z (refuseReq s r st) := by
  unfold refuseReq
  split
  · apply emit_keeps
    · exact Sub.up (by decide) hW
    · with_reducible assumption
  · apply respond_keeps
    · with_reducible assumption
    · apply cxlDiscard_keeps
      · exact Sub.up (by decide) hW
      · with_reducible assumption
  · apply atomicAnswer_keeps
    · exact Sub.up (by decide) hW
    · with_reducible assumption
  · with_reducible assumption

theorem homePut_keeps {W : Nat} {z : State} (s : State) (r : HomeReq) (data : Bytes) (mask : ℕ) (pcode : ℕ) (hW : Sub
    103024244 W) (h_s : Keeps W z s) :
    KeepsWrite W z (homePut s r data mask pcode) := by
  unfold homePut
  split
  · exact trivial
  · split
    · rename_i x5 x6 x7
      have k8 := keeps_eq x7 (P := KeepsWrite W z) (by
        apply preparePlace_keeps
        · exact Sub.up (by decide) hW
        · with_reducible assumption
        )
      change Keeps W z _
      apply storeLine_keeps
      · exact Sub.up (by decide) hW
      · with_reducible assumption
    · apply preparePlace_keeps
      · exact Sub.up (by decide) hW
      · with_reducible assumption

theorem mirrorDir_keeps {W : Nat} {z : State} (s : State) (line : ℕ) (t : Tran) (hW : Sub 35652096 W) (h_s : Keeps W
    z s) :
    KeepsFst W z (mirrorDir s line t) := by
  unfold mirrorDir
  split
  · extract_lets v1 v2 v3 v4 v5
    clear_value v1
    clear_value v2
    clear_value v3
    have h6 : Keeps W z v4 := by
      unfold v4
      refine Keeps.congr (s := s) ?_ rfl rfl rfl rfl rfl rfl kept kept kept kept kept kept kept kept kept kept kept
          kept kept kept kept kept kept kept (hW.chg rfl) kept kept kept
      with_reducible assumption
    clear_value v4
    clear_value v5
    change Keeps W z _
    dsimp only
    apply sendRunnel_keeps
    · with_reducible assumption
    · with_reducible assumption
  · with_reducible assumption

theorem setPwr_keeps {W : Nat} {z : State} (s : State) (g : ℕ) (n : ℕ) (x : ℕ) (hW : Sub 4 W) (h_s : Keeps W z s) :
    Keeps W z (setPwr s g n x) := by
  unfold setPwr
  apply wf_keeps
  · with_reducible assumption
  · with_reducible assumption

theorem bankWake_keeps {W : Nat} {z : State} (s : State) (g : ℕ) (n : ℕ) (hW : Sub 4 W) (h_s : Keeps W z s) :
    Keeps W z (bankWake s g n) := by
  unfold bankWake
  split
  · with_reducible assumption
  · apply setPwr_keeps
    · with_reducible assumption
    · with_reducible assumption

end Sys2Proof.Machine
end

