-- ==== Sys2Proof/Laws/Keeps2.lean ====
section
/-!
SUPPORT. Each operation keeps what Keeps.lean names, part 2: one lemma an operation, in the order of use.
-/
namespace Sys2Proof.Machine

theorem atomicBank_keeps {W : Nat} {z : State} (s : State) (line : ℕ) (hW : Sub 33554436 W) (h_s : Keeps W z s) :
    Keeps W z (atomicBank s line) := by
  unfold atomicBank
  split
  · with_reducible assumption
  · extract_lets v6
    have h7 : Keeps W z v6 := by
      unfold v6
      apply count_keeps
      · exact Sub.up (by decide) hW
      · apply count_keeps
        · exact Sub.up (by decide) hW
        · with_reducible assumption
    clear_value v6
    split
    · apply bankWake_keeps
      · exact Sub.up (by decide) hW
      · with_reducible assumption
    · with_reducible assumption

theorem finishWrite_keeps {W : Nat} {z : State} (s : State) (line : ℕ) (t : Tran) (hW : Sub 107347828 W) (h_s : Keeps
    W z s) :
    Keeps W z (finishWrite s line t) := by
  unfold finishWrite
  extract_lets v0 v1 v2 v3 v4 v5
  clear_value v0
  have h6 : Keeps W z v1 := by
    unfold v1
    split
    · apply homeStore_keeps
      · exact Sub.up (by decide) hW
      · with_reducible assumption
    · with_reducible assumption
  clear_value v1
  clear_value v2
  have h13 : ∀ q1, Keeps W z q1 → Keeps W z (v3 q1) := by
    unfold v3
    intro y14 y15
    apply setTran_keeps
    · exact Sub.up (by decide) hW
    · with_reducible assumption
  clear_value v3
  have h16 : ∀ q1, Keeps W z (v4 q1) := by
    unfold v4
    intro y17
    apply h13
    apply refuseReq_keeps
    · exact Sub.up (by decide) hW
    · apply dropDir_keeps
      · exact Sub.up (by decide) hW
      · with_reducible assumption
  clear_value v4
  have h18 : ∀ q1 q2 q3 q4 q5, Keeps W z q1 → Keeps W z (v5 q1 q2 q3 q4 q5) := by
    unfold v5
    intro y19 y20 y21 y22 y23 y24
    split
    · rename_i x25 x26 x27
      have k28 := keeps_eq x27 (P := KeepsWrite W z) (by
        apply homePut_keeps
        · exact Sub.up (by decide) hW
        · with_reducible assumption
        )
      apply setTran_keeps
      · exact Sub.up (by decide) hW
      · with_reducible assumption
    · rename_i x29 x30 x31
      have k32 := keeps_eq x31 (P := KeepsWrite W z) (by
        apply homePut_keeps
        · exact Sub.up (by decide) hW
        · with_reducible assumption
        )
      apply h16
    · rename_i x33 x34 x35
      have k36 := keeps_eq x35 (P := KeepsWrite W z) (by
        apply homePut_keeps
        · exact Sub.up (by decide) hW
        · with_reducible assumption
        )
      extract_lets v37 v38
      clear_value v37
      have h39 : Keeps W z v38 := by
        unfold v38
        apply dropDir_keeps
        · exact Sub.up (by decide) hW
        · with_reducible assumption
      clear_value v38
      split
      rename_i x40 x41 x42 x43
      have k44 := keeps_eq x43 (P := KeepsFst W z) (by
        split
        · apply mirrorDir_keeps
          · exact Sub.up (by decide) hW
          · with_reducible assumption
        · with_reducible assumption
        )
      split
      · apply setTran_keeps
        · exact Sub.up (by decide) hW
        · apply respond_keeps
          · exact Sub.up (by decide) hW
          · with_reducible assumption
      · apply setTran_keeps
        · exact Sub.up (by decide) hW
        · with_reducible assumption
  clear_value v5
  split
  · apply h16
  · split
    · split
      rename_i x55 x56 x57 x58 x59
      have k60 := keeps_eq x59 (P := KeepsTrd W z) (by
        apply readLine_keeps
        · exact Sub.up (by decide) hW
        · with_reducible assumption
        )
      split
      · apply h13
        apply respond_keeps
        · exact Sub.up (by decide) hW
        · apply dropDir_keeps
          · exact Sub.up (by decide) hW
          · with_reducible assumption
      · apply h18
        apply atomicBank_keeps
        · exact Sub.up (by decide) hW
        · with_reducible assumption
    · split
      apply h18
      with_reducible assumption

theorem finishTran_keeps {W : Nat} {z : State} (s : State) (line : ℕ) (t : Tran) (hW : Sub 107347828 W) (h_s : Keeps
    W z s) :
    Keeps W z (finishTran s line t) := by
  unfold finishTran
  extract_lets v0 v1 v2 v3 v4 v5 v6 v7
  clear_value v0
  clear_value v1
  have h8 : Keeps W z v2 := by
    unfold v2
    split
    · apply loseOwner_keeps
      · exact Sub.up (by decide) hW
      · with_reducible assumption
    · with_reducible assumption
  clear_value v2
  clear_value v3
  clear_value v4
  clear_value v5
  clear_value v6
  have h11 : Keeps W z v7 := by
    unfold v7
    split
    · split
      · apply dropDir_keeps
        · exact Sub.up (by decide) hW
        · with_reducible assumption
      · apply setDir_keeps
        · exact Sub.up (by decide) hW
        · with_reducible assumption
    · with_reducible assumption
  clear_value v7
  split
  · apply finishRecall_keeps
    · exact Sub.up (by decide) hW
    · with_reducible assumption
  · split
    rename_i x20 x21 x22 x23 x24
    have k25 := keeps_eq x24 (P := KeepsTrd W z) (by
      apply tranData_keeps
      · exact Sub.up (by decide) hW
      · with_reducible assumption
      )
    apply setTran_keeps
    · exact Sub.up (by decide) hW
    · apply respond_keeps
      · exact Sub.up (by decide) hW
      · with_reducible assumption
  · apply finishWrite_keeps
    · with_reducible assumption
    · with_reducible assumption
  · split
    · apply setTran_keeps
      · exact Sub.up (by decide) hW
      · with_reducible assumption
    · extract_lets v37 v38
      clear_value v37
      clear_value v38
      split
      rename_i x39 x40 x41 x42 x43
      have k44 := keeps_eq x43 (P := KeepsTrd W z) (by
        split
        · with_reducible assumption
        · apply tranData_keeps
          · exact Sub.up (by decide) hW
          · with_reducible assumption
        )
      split
      extract_lets v51 v52
      have h53 : Keeps W z v51 := by
        unfold v51
        apply setDir_keeps
        · exact Sub.up (by decide) hW
        · with_reducible assumption
      clear_value v51
      clear_value v52
      split
      rename_i x54 x55 x56 x57
      have k58 := keeps_eq x57 (P := KeepsFst W z) (by
        apply mirrorDir_keeps
        · exact Sub.up (by decide) hW
        · with_reducible assumption
        )
      split
      · apply setTran_keeps
        · exact Sub.up (by decide) hW
        · apply respond_keeps
          · exact Sub.up (by decide) hW
          · with_reducible assumption
      · apply setTran_keeps
        · exact Sub.up (by decide) hW
        · with_reducible assumption

theorem openTran_keeps {W : Nat} {z : State} (s : State) (r : HomeReq) (forReq : Option HomeReq) (only : Option ℕ)
    (discard : Bool) (hW : Sub 107347828 W) (h_s : Keeps W z s) :
    Keeps W z (openTran s r forReq only discard) := by
  unfold openTran
  extract_lets v0 v1 v2 v3 v4 v5
  clear_value v0
  clear_value v1
  clear_value v2
  have h6 : Keeps W z v3 := by
    unfold v3
    split
    · apply setDir_keeps
      · exact Sub.up (by decide) hW
      · with_reducible assumption
    · with_reducible assumption
  clear_value v3
  clear_value v4
  clear_value v5
  split
  split
  rename_i x16 x17 x18 x19
  have k20 := keeps_eq x19 (P := KeepsFst W z) (by
    apply sendFwds_keeps
    · exact Sub.up (by decide) hW
    · with_reducible assumption
    )
  extract_lets v21 v22 v23 v24
  have h25 : Keeps W z v21 := by
    unfold v21
    split
    · apply respond_keeps
      · exact Sub.up (by decide) hW
      · with_reducible assumption
    · with_reducible assumption
  clear_value v21
  clear_value v22
  clear_value v23
  have h28 : Keeps W z v24 := by
    unfold v24
    apply setTran_keeps
    · exact Sub.up (by decide) hW
    · with_reducible assumption
  clear_value v24
  split
  · apply finishTran_keeps
    · with_reducible assumption
    · with_reducible assumption
  · with_reducible assumption

theorem dropDead_keeps {W : Nat} {z : State} (s : State) (line : ℕ) (hW : Sub 107347828 W) (h_s : Keeps W z s) :
    Keeps W z (dropDead s line) := by
  unfold dropDead
  split
  · with_reducible assumption
  · extract_lets v5 v6 v7 v8
    clear_value v5
    clear_value v6
    have h9 : Keeps W z v7 := by
      unfold v7
      refine foldl_keeps (P := Keeps W z) ?_ ?_
      · with_reducible assumption
      · intro y10 y11 y12
        apply loseSharer_keeps
        · exact Sub.up (by decide) hW
        · with_reducible assumption
    clear_value v7
    have h13 : Keeps W z v8 := by
      unfold v8
      apply loseOwner_keeps
      · exact Sub.up (by decide) hW
      · with_reducible assumption
    clear_value v8
    split
    · with_reducible assumption
    · split
      · split
        · apply dropDir_keeps
          · exact Sub.up (by decide) hW
          · with_reducible assumption
        · apply openTran_keeps
          · with_reducible assumption
          · apply setDir_keeps
            · exact Sub.up (by decide) hW
            · with_reducible assumption
      · split
        · apply dropDir_keeps
          · exact Sub.up (by decide) hW
          · with_reducible assumption
        · apply setDir_keeps
          · exact Sub.up (by decide) hW
          · with_reducible assumption

theorem ageSet_keeps {W : Nat} {z : State} (s : State) (line : ℕ) (age : ℕ) (hW : Sub 256 W) (h_s : Keeps W z s) :
    Keeps W z (ageSet s line age) := by
  unfold ageSet
  extract_lets v0 v1
  clear_value v0
  clear_value v1
  refine Keeps.congr (s := s) ?_ rfl rfl rfl rfl rfl rfl kept kept kept kept kept (hW.chg rfl) kept kept kept kept
      kept kept kept kept kept kept kept kept kept kept kept kept
  with_reducible assumption

theorem allocate_keeps {W : Nat} {z : State} (s : State) (r : HomeReq) (hW : Sub 107347828 W) (h_s : Keeps W z s) :
    Keeps W z (allocate s r) := by
  unfold allocate
  extract_lets v0 v1
  have h2 : ∀ q1 q2, Keeps W z q1 → Keeps W z (v0 q1 q2) := by
    unfold v0
    intro y3 y4 y5
    apply openTran_keeps
    · with_reducible assumption
    · apply ageSet_keeps
      · exact Sub.up (by decide) hW
      · apply setDir_keeps
        · exact Sub.up (by decide) hW
        · with_reducible assumption
  clear_value v0
  have h6 : ∀ q1, Keeps W z q1 → Keeps W z (v1 q1) := by
    unfold v1
    intro y7 y8
    apply count_keeps
    · exact Sub.up (by decide) hW
    · refine Keeps.congr (s := y7) ?_ rfl rfl rfl rfl rfl rfl kept kept kept kept kept (hW.chg rfl) kept kept kept
          kept kept kept kept kept kept kept kept kept kept kept kept kept
      with_reducible assumption
  clear_value v1
  split
  · apply h2
    with_reducible assumption
  · split
    · apply h6
      with_reducible assumption
    · extract_lets v19
      have h20 : Keeps W z v19 := by
        unfold v19
        apply dropDead_keeps
        · with_reducible assumption
        · apply count_keeps
          · exact Sub.up (by decide) hW
          · apply count_keeps
            · exact Sub.up (by decide) hW
            · with_reducible assumption
      clear_value v19
      split
      · apply h2
        with_reducible assumption
      · apply setTran_keeps
        · exact Sub.up (by decide) hW
        · with_reducible assumption
      · apply openTran_keeps
        · with_reducible assumption
        · with_reducible assumption

theorem serve_keeps {W : Nat} {z : State} (s : State) (r : HomeReq) (oldest : optParam Bool false) (hW : Sub
    107347828 W) (h_s : Keeps W z s) :
    Keeps W z (serve s r oldest) := by
  unfold serve
  extract_lets v0 v1 v2 v3 v4 v5
  clear_value v0
  have h6 : Keeps W z v1 := by
    unfold v1
    apply dropDead_keeps
    · with_reducible assumption
    · with_reducible assumption
  clear_value v1
  clear_value v2
  have h7 : Keeps W z v3 := by
    unfold v3
    apply count_keeps
    · exact Sub.up (by decide) hW
    · with_reducible assumption
  clear_value v3
  clear_value v4
  have h8 : Keeps W z v5 := by
    unfold v5
    split
    · apply ageSet_keeps
      · exact Sub.up (by decide) hW
      · with_reducible assumption
    · with_reducible assumption
  clear_value v5
  split
  · refine Keeps.congr (s := v1) ?_ rfl rfl rfl rfl rfl rfl kept kept kept kept kept (hW.chg rfl) kept kept kept kept
        kept kept kept kept kept kept kept kept kept kept kept kept
    with_reducible assumption
  · split
    · split
      rename_i x19 x20 x21 x22 x23
      have k24 := keeps_eq x23 (P := KeepsTrd W z) (by
        apply readLine_keeps
        · exact Sub.up (by decide) hW
        · with_reducible assumption
        )
      apply respond_keeps
      · exact Sub.up (by decide) hW
      · with_reducible assumption
    · split
      · split
        · apply count_keeps
          · exact Sub.up (by decide) hW
          · refine Keeps.congr (s := v3) ?_ rfl rfl rfl rfl rfl rfl kept kept kept kept kept (hW.chg rfl) kept kept
                kept kept kept kept kept kept kept kept kept kept kept kept kept kept
            with_reducible assumption
        · apply allocate_keeps
          · with_reducible assumption
          · with_reducible assumption
      · apply openTran_keeps
        · with_reducible assumption
        · with_reducible assumption

theorem boundReport_keeps {W : Nat} {z : State} (s : State) (c : ℕ) (sch : ℕ) (req : ℕ) (dom : ℕ) (handle : ℕ) (start
    : ℕ) (bound : ℕ) (isVoid : Bool) (hW : Sub 107062788 W) (h_s : Keeps W z s) :
    Keeps W z (boundReport s c sch req dom handle start bound isVoid) := by
  unfold boundReport
  split
  · split
    · apply count_keeps
      · exact Sub.up (by decide) hW
      · with_reducible assumption
    · with_reducible assumption
  · split
    · with_reducible assumption
    · extract_lets v6 v7 v8 v9 v10 v11
      have h12 : Keeps W z v6 := by
        unfold v6
        split
        · apply count_keeps
          · exact Sub.up (by decide) hW
          · with_reducible assumption
        · split
          · apply count_keeps
            · exact Sub.up (by decide) hW
            · with_reducible assumption
          · split
            · apply count_keeps
              · exact Sub.up (by decide) hW
              · with_reducible assumption
            · split
              · apply count_keeps
                · exact Sub.up (by decide) hW
                · with_reducible assumption
              · with_reducible assumption
      clear_value v6
      clear_value v7
      clear_value v8
      clear_value v9
      have h21 : Keeps W z v10 := by
        unfold v10
        refine Keeps.congr (s := v6) ?_ rfl rfl rfl rfl rfl rfl kept kept kept kept kept kept (hW.chg rfl) kept kept
            kept kept kept kept kept kept kept kept kept kept kept kept kept
        with_reducible assumption
      clear_value v10
      clear_value v11
      split
      · with_reducible assumption
      · apply event_keeps
        · with_reducible assumption
        · with_reducible assumption

theorem endDue_keeps {W : Nat} {z : State} (s : State) (u : WUnit) (hW : Sub 107062788 W) (h_s : Keeps W z s) :
    KeepsFst W z (endDue s u) := by
  unfold endDue
  split
  · with_reducible assumption
  · extract_lets v5 v6
    clear_value v5
    clear_value v6
    change Keeps W z _
    dsimp only
    apply boundReport_keeps
    · with_reducible assumption
    · with_reducible assumption

theorem msgEnd_keeps {W : Nat} {z : State} (s : State) (e : ℕ) (m : MsgEntry) (st : ℕ) (hW : Sub 107085316 W) (h_s :
    Keeps W z s) :
    Keeps W z (msgEnd s e m st) := by
  unfold msgEnd
  extract_lets v0 v1
  clear_value v0
  have h2 : Keeps W z v1 := by
    unfold v1
    refine Keeps.congr (s := s) ?_ rfl rfl rfl rfl rfl rfl kept kept kept kept kept kept kept kept kept (hW.chg rfl)
        kept kept kept kept kept kept kept kept kept kept kept kept
    with_reducible assumption
  clear_value v1
  split
  rename_i x3 x4 x5 x6
  have k7 := keeps_eq x6 (P := KeepsFst W z) (by
    split
    · apply endDue_keeps
      · exact Sub.up (by decide) hW
      · with_reducible assumption
    · with_reducible assumption
    )
  apply emit_keeps
  · with_reducible assumption
  · with_reducible assumption

theorem msgTry_keeps {W : Nat} {z : State} (s : State) (e : ℕ) (hW : Sub 107085316 W) (h_s : Keeps W z s) :
    Keeps W z (msgTry s e) := by
  unfold msgTry
  extract_lets v0
  clear_value v0
  split
  · with_reducible assumption
  · apply msgEnd_keeps
    · with_reducible assumption
    · with_reducible assumption

theorem endTran_keeps {W : Nat} {z : State} (s : State) (line : ℕ) (t : Tran) (hW : Sub 107347828 W) (h_s : Keeps W z
    s) :
    Keeps W z (endTran s line t) := by
  unfold endTran
  extract_lets v0 v1 v2 v3
  have h4 : Keeps W z v0 := by
    unfold v0
    apply dropTran_keeps
    · exact Sub.up (by decide) hW
    · with_reducible assumption
  clear_value v0
  have h5 : Keeps W z v1 := by
    unfold v1
    split
    · split
      · apply dropDir_keeps
        · exact Sub.up (by decide) hW
        · with_reducible assumption
      · apply setDir_keeps
        · exact Sub.up (by decide) hW
        · with_reducible assumption
    · with_reducible assumption
  clear_value v1
  clear_value v2
  have h13 : Keeps W z v3 := by
    unfold v3
    split
    · split
      · refine Keeps.congr (s := v1) ?_ rfl rfl rfl rfl rfl rfl kept kept kept kept kept (hW.chg rfl) kept kept kept
            kept kept kept kept kept kept kept kept kept kept kept kept kept
        with_reducible assumption
      · apply serve_keeps
        · with_reducible assumption
        · with_reducible assumption
    · with_reducible assumption
  clear_value v3
  split
  · apply msgTry_keeps
    · exact Sub.up (by decide) hW
    · with_reducible assumption
  · with_reducible assumption

theorem wakeLine_keeps {W : Nat} {z : State} (n : Nat) (s : State) (line : Nat) (hW : Sub 107347828 W) (h : Keeps W z
    s) : Keeps W z (wakeLine n s line) := by
  induction n generalizing s with
  | zero => exact h
  | succ n ih =>
    unfold wakeLine
    split
    · split
      · exact ih _ (endTran_keeps _ _ _ (Sub.up (by decide) hW) h)
      · exact h
    · split
      · refine ih _ (serve_keeps _ _ _ (Sub.up (by decide) hW) ?_)
        exact Keeps.congr (s := s) h rfl rfl rfl rfl rfl rfl kept kept kept kept kept (hW.chg rfl) kept kept kept
            kept kept
          kept kept kept kept kept kept kept kept kept kept kept
      · exact h

theorem wakeSet_keeps {W : Nat} {z : State} (n : Nat) (s : State) (line : Nat) (hW : Sub 107347828 W) (h : Keeps W z
    s) :
    Keeps W z (wakeSet n s line) := by
  induction n generalizing s with
  | zero => exact h
  | succ n ih =>
    unfold wakeSet
    split
    · exact h
    · rename_i r _
      split
      · refine ih _ (serve_keeps _ _ _ (Sub.up (by decide) hW) ?_)
        exact Keeps.congr (s := s) h rfl rfl rfl rfl rfl rfl kept kept kept kept kept (hW.chg rfl) kept kept kept
            kept kept
          kept kept kept kept kept kept kept kept kept kept kept
      · exact h

theorem wake_keeps {W : Nat} {z : State} (s : State) (line : ℕ) (hW : Sub 107347828 W) (h_s : Keeps W z s) :
    Keeps W z (wake s line) := by
  unfold wake
  extract_lets v0
  have h1 : Keeps W z v0 := by
    unfold v0
    apply wakeLine_keeps
    · with_reducible assumption
    · with_reducible assumption
  clear_value v0
  apply wakeSet_keeps
  · with_reducible assumption
  · with_reducible assumption

theorem closeTran_keeps {W : Nat} {z : State} (s : State) (line : ℕ) (hW : Sub 107347828 W) (h_s : Keeps W z s) :
    Keeps W z (closeTran s line) := by
  unfold closeTran
  split
  · with_reducible assumption
  · apply wake_keeps
    · with_reducible assumption
    · apply endTran_keeps
      · with_reducible assumption
      · with_reducible assumption

theorem settle_keeps {W : Nat} {z : State} (s : State) (line : ℕ) (hW : Sub 107347828 W) (h_s : Keeps W z s) :
    Keeps W z (settle s line) := by
  unfold settle
  split
  · apply wake_keeps
    · with_reducible assumption
    · with_reducible assumption
  · split
    · apply closeTran_keeps
      · with_reducible assumption
      · with_reducible assumption
    · apply wakeSet_keeps
      · with_reducible assumption
      · with_reducible assumption

theorem homeRequest_keeps {W : Nat} {z : State} (s : State) (r : HomeReq) (hW : Sub 107347828 W) (h_s : Keeps W z s) :
    Keeps W z (homeRequest s r) := by
  unfold homeRequest
  split
  · refine Keeps.congr (s := s) ?_ rfl rfl rfl rfl rfl rfl kept kept kept kept kept (hW.chg rfl) kept kept kept kept
        kept kept kept kept kept kept kept kept kept kept kept kept
    with_reducible assumption
  · apply serve_keeps
    · with_reducible assumption
    · with_reducible assumption

theorem homeBegin_keeps {W : Nat} {z : State} (s : State) (r : HomeReq) (hW : Sub 107347828 W) (h_s : Keeps W z s) :
    Keeps W z (homeBegin s r) := by
  unfold homeBegin
  apply settle_keeps
  · with_reducible assumption
  · apply homeRequest_keeps
    · with_reducible assumption
    · with_reducible assumption

theorem ownWrite_keeps {W : Nat} {z : State} (s : State) (who : Requester) (mirrored : Bool) (line : ℕ) (cls : ℕ)
    (data : Bytes) (mask : ℕ) (pcode : ℕ) (mk : MackFor) (hW : Sub 107347828 W) (h_s : Keeps W z s) :
    KeepsSnd W z (ownWrite s who mirrored line cls data mask pcode mk) := by
  unfold ownWrite
  split
  · extract_lets v1
    have h2 : Keeps W z v1 := by
      unfold v1
      apply homeBegin_keeps
      · with_reducible assumption
      · with_reducible assumption
    clear_value v1
    with_reducible assumption
  · change Keeps W z _
    dsimp only
    apply storeLine_keeps
    · exact Sub.up (by decide) hW
    · with_reducible assumption

theorem claimRun_keeps {W : Nat} {z : State} (s : State) (u : User) (pa : ℕ) (n : ℕ) (hW : Sub 107347828 W) (h_s :
    Keeps W z s) :
    KeepsSnd W z (claimRun s u pa n) := by
  unfold claimRun
  extract_lets v0 v1 v2
  clear_value v0
  clear_value v1
  have h3 : Keeps W z v2 := by
    unfold v2
    refine foldl_keeps (P := Keeps W z) ?_ ?_
    · with_reducible assumption
    · intro y4 y5 y6
      change KeepsSnd W z _
      apply ownWrite_keeps
      · with_reducible assumption
      · with_reducible assumption
  clear_value v2
  split
  · change Keeps W z _
    dsimp only
    apply forgetLines_keeps
    · exact Sub.up (by decide) hW
    · with_reducible assumption
  · split
    · with_reducible assumption
    · change Keeps W z _
      dsimp only
      apply forgetLines_keeps
      · exact Sub.up (by decide) hW
      · with_reducible assumption

theorem ownRead_keeps {W : Nat} {z : State} (s : State) (who : Requester) (line : ℕ) (cls : ℕ) (hW : Sub 107347828 W)
    (h_s : Keeps W z s) :
    KeepsSnd W z (ownRead s who line cls) := by
  unfold ownRead
  split
  · with_reducible assumption
  · split
    · split
      · with_reducible assumption
      · extract_lets v8
        have h9 : Keeps W z v8 := by
          unfold v8
          apply homeBegin_keeps
          · with_reducible assumption
          · with_reducible assumption
        clear_value v8
        with_reducible assumption
    · split
      rename_i x11 x12 x13 x14 x15
      have k16 := keeps_eq x15 (P := KeepsTrd W z) (by
        apply readLine_keeps
        · exact Sub.up (by decide) hW
        · with_reducible assumption
        )
      with_reducible assumption

theorem readLines_keeps {W : Nat} {z : State} (u : User) (l : List Nat) (s : State) (hW : Sub 107347828 W) (h : Keeps
    W z s) : KeepsSnd W z (readLines u l s) := by
  induction l generalizing s with
  | nil => exact h
  | cons l ls ih =>
    unfold readLines
    refine ih _ ?_
    split
    · exact ownRead_keeps _ _ _ _ (Sub.up (by decide) hW) h
    · exact h

theorem writeLines_keeps {W : Nat} {z : State} (u : User) (pcode : Nat) (mk : MackFor) (l : List (Nat × Bytes × Nat))
    (s : State) (hW : Sub 107347828 W)
    (h : Keeps W z s) : KeepsSnd W z (writeLines u pcode mk l s) := by
  induction l generalizing s with
  | nil => exact h
  | cons e l ih =>
    unfold writeLines
    refine ih _ ?_
    split
    · exact ownWrite_keeps _ _ _ _ _ _ _ _ _ (Sub.up (by decide) hW) h
    · exact h

theorem flushRecord_keeps {W : Nat} {z : State} (s : State) (h : ℕ) (hW : Sub 107347828 W) (h_s : Keeps W z s) :
    Keeps W z (flushRecord s h) := by
  unfold flushRecord
  split
  · with_reducible assumption
  · extract_lets v6 v7
    have h8 : ∀ q1, Keeps W z q1 → Keeps W z (v6 q1) := by
      unfold v6
      intro y9 y10
      apply modArrival_keeps
      · exact Sub.up (by decide) hW
      · with_reducible assumption
    clear_value v6
    clear_value v7
    split
    · with_reducible assumption
    · split
      · rename_i x13 x14 x15
        have k16 := keeps_eq x15 (P := KeepsGo W z) (by
          apply runGate_keeps
          · exact Sub.up (by decide) hW
          · with_reducible assumption
          )
        with_reducible assumption
      · rename_i x17 x18 x19 x20
        have k21 := keeps_eq x20 (P := KeepsGo W z) (by
          apply runGate_keeps
          · exact Sub.up (by decide) hW
          · with_reducible assumption
          )
        apply h8
        with_reducible assumption
      · rename_i x22 x23 x24 x25
        have k26 := keeps_eq x25 (P := KeepsGo W z) (by
          apply runGate_keeps
          · exact Sub.up (by decide) hW
          · with_reducible assumption
          )
        split
        rename_i x27 x28 x29 x30
        have k31 := keeps_eq x30 (P := KeepsSnd W z) (by
          apply claimRun_keeps
          · with_reducible assumption
          · with_reducible assumption
          )
        split
        · with_reducible assumption
        · split
          · rename_i x34 x35 x36 x37 x38
            have k39 := keeps_eq x38 (P := KeepsSnd W z) (by
              apply readLines_keeps
              · with_reducible assumption
              · with_reducible assumption
              )
            apply h8
            change KeepsSnd W z _
            apply writeLines_keeps
            · with_reducible assumption
            · with_reducible assumption
          · rename_i x40 x41 x42 x43 x44
            have k45 := keeps_eq x44 (P := KeepsSnd W z) (by
              apply readLines_keeps
              · with_reducible assumption
              · with_reducible assumption
              )
            with_reducible assumption

theorem arrivalEnd_keeps {W : Nat} {z : State} (s : State) (h : ℕ) (hW : Sub 2048 W) (h_s : Keeps W z s) :
    Keeps W z (arrivalEnd s h) := by
  unfold arrivalEnd
  apply modArrival_keeps
  · with_reducible assumption
  · with_reducible assumption

theorem endOp_keeps {W : Nat} {z : State} (s : State) (h : ℕ) (cond : ℕ) (hW : Sub 107347828 W) (h_s : Keeps W z s) :
    Keeps W z (endOp s h cond) := by
  unfold endOp
  extract_lets v0 v1
  clear_value v0
  have h2 : Keeps W z v1 := by
    unfold v1
    apply flushRecord_keeps
    · with_reducible assumption
    · apply arrivalEnd_keeps
      · exact Sub.up (by decide) hW
      · with_reducible assumption
  clear_value v1
  apply modOp_keeps
  · exact Sub.up (by decide) hW
  · with_reducible assumption

theorem settleOp_keeps {W : Nat} {z : State} (s : State) (h : ℕ) (hW : Sub 107347828 W) (h_s : Keeps W z s) :
    Keeps W z (settleOp s h) := by
  unfold settleOp
  split
  · with_reducible assumption
  · split
    · apply endOp_keeps
      · with_reducible assumption
      · with_reducible assumption
    · with_reducible assumption

theorem giveBack_keeps {W : Nat} {z : State} (s : State) (h : ℕ) (nums : List ℕ) (hW : Sub 2560 W) (h_s : Keeps W z
    s) :
    Keeps W z (giveBack s h nums) := by
  unfold giveBack
  apply modOp_keeps
  · exact Sub.up (by decide) hW
  · refine foldl_keeps (P := Keeps W z) ?_ ?_
    · with_reducible assumption
    · intro y0 y1 y2
      apply dropUnits_keeps
      · exact Sub.up (by decide) hW
      · with_reducible assumption

theorem undeal_keeps {W : Nat} {z : State} (s : State) (h : ℕ) (hW : Sub 2560 W) (h_s : Keeps W z s) :
    Keeps W z (undeal s h) := by
  unfold undeal
  extract_lets v0 v1 v2
  clear_value v0
  clear_value v1
  clear_value v2
  apply giveBack_keeps
  · with_reducible assumption
  · refine Keeps.congr (s := s) ?_ rfl rfl rfl rfl rfl rfl kept kept kept kept kept kept kept kept (hW.chg rfl) kept
        kept kept kept kept kept kept kept kept kept kept kept kept
    with_reducible assumption

theorem beginSuspend_keeps {W : Nat} {z : State} (s : State) (h : ℕ) (hW : Sub 2560 W) (h_s : Keeps W z s) :
    Keeps W z (beginSuspend s h) := by
  unfold beginSuspend
  apply undeal_keeps
  · with_reducible assumption
  · apply modOp_keeps
    · exact Sub.up (by decide) hW
    · with_reducible assumption

theorem failPolicy_keeps {W : Nat} {z : State} (s : State) (h : ℕ) (o : Op) (t : Tile) (st : ℕ) (hW : Sub 107347828
    W) (h_s : Keeps W z s) :
    Keeps W z (failPolicy s h o t st) := by
  unfold failPolicy
  split
  · apply undeal_keeps
    · exact Sub.up (by decide) hW
    · apply modOp_keeps
      · exact Sub.up (by decide) hW
      · with_reducible assumption
  · extract_lets v4 v5
    have h6 : Keeps W z v4 := by
      unfold v4
      apply modOp_keeps
      · exact Sub.up (by decide) hW
      · with_reducible assumption
    clear_value v4
    have h7 : Keeps W z v5 := by
      unfold v5
      split
      · apply modOp_keeps
        · exact Sub.up (by decide) hW
        · with_reducible assumption
      · with_reducible assumption
    clear_value v5
    split
    · with_reducible assumption
    · split
      · apply beginSuspend_keeps
        · exact Sub.up (by decide) hW
        · with_reducible assumption
      · with_reducible assumption
  · split
    · with_reducible assumption
    · extract_lets v22 v23
      clear_value v22
      have h24 : Keeps W z v23 := by
        unfold v23
        apply arrivalClose_keeps
        · exact Sub.up (by decide) hW
        · with_reducible assumption
      clear_value v23
      apply flushRecord_keeps
      · with_reducible assumption
      · apply modArrival_keeps
        · exact Sub.up (by decide) hW
        · with_reducible assumption

theorem failTile_keeps {W : Nat} {z : State} (s : State) (h : ℕ) (num : ℕ) (st : ℕ) (hW : Sub 107347828 W) (h_s :
    Keeps W z s) :
    Keeps W z (failTile s h num st) := by
  unfold failTile
  split
  · extract_lets v6 v7 v8 v9 v10 v11 v12
    have h13 : Keeps W z v6 := by
      unfold v6
      apply tileVoid_keeps
      · exact Sub.up (by decide) hW
      · apply wasteTile_keeps
        · exact Sub.up (by decide) hW
        · with_reducible assumption
    clear_value v6
    have h14 : Keeps W z v7 := by
      unfold v7
      apply dropUnits_keeps
      · exact Sub.up (by decide) hW
      · with_reducible assumption
    clear_value v7
    clear_value v8
    clear_value v9
    have h15 : Keeps W z v10 := by
      unfold v10
      refine Keeps.congr (s := v7) ?_ rfl rfl rfl rfl rfl rfl kept kept kept kept kept kept kept kept (hW.chg rfl)
          kept kept kept kept kept kept kept kept kept kept kept kept kept
      with_reducible assumption
    clear_value v10
    have h16 : Keeps W z v11 := by
      unfold v11
      split
      · apply count_keeps
        · exact Sub.up (by decide) hW
        · with_reducible assumption
      · with_reducible assumption
    clear_value v11
    have h19 : Keeps W z v12 := by
      unfold v12
      apply modOp_keeps
      · exact Sub.up (by decide) hW
      · with_reducible assumption
    clear_value v12
    apply settleOp_keeps
    · with_reducible assumption
    · apply failPolicy_keeps
      · with_reducible assumption
      · with_reducible assumption
  · with_reducible assumption

theorem setLacking_keeps {W : Nat} {z : State} (s : State) (req : ℕ) (c : ℕ) (n : ℕ) (hW : Sub 512 W) (h_s : Keeps W
    z s) :
    Keeps W z (setLacking s req c n) := by
  unfold setLacking
  refine Keeps.congr (s := s) ?_ rfl rfl rfl rfl rfl rfl kept kept kept kept kept kept (hW.chg rfl) kept kept kept
      kept kept kept kept kept kept kept kept kept kept kept kept
  with_reducible assumption

theorem debit_keeps {W : Nat} {z : State} (s : State) (req : ℕ) (c : ℕ) (n : ℕ) (hW : Sub 512 W) (h_s : Keeps W z s) :
    Keeps W z (debit s req c n) := by
  unfold debit
  apply setLacking_keeps
  · with_reducible assumption
  · with_reducible assumption

theorem weirAdmit_keeps {W : Nat} {z : State} (s : State) (req : ℕ) (c : ℕ) (len : ℕ) (schs : List (ℕ × ℕ)) (hW : Sub
    33554944 W) (h_s : Keeps W z s) :
    KeepsOpt W z (weirAdmit s req c len schs) := by
  unfold weirAdmit
  split
  · exact trivial
  · split
    · exact trivial
    · split
      · change Keeps W z _
        refine foldl_keeps (P := Keeps W z) ?_ ?_
        · apply count_keeps
          · exact Sub.up (by decide) hW
          · apply debit_keeps
            · exact Sub.up (by decide) hW
            · with_reducible assumption
        · intro y5 y6 y7
          apply chargeBacklog_keeps
          · exact Sub.up (by decide) hW
          · with_reducible assumption
      · exact trivial

theorem countRefusal_keeps {W : Nat} {z : State} (s : State) (req : ℕ) (c : ℕ) (len : ℕ) (hW : Sub 33554432 W) (h_s :
    Keeps W z s) :
    Keeps W z (countRefusal s req c len) := by
  unfold countRefusal
  split
  · apply count_keeps
    · with_reducible assumption
    · with_reducible assumption
  · apply count_keeps
    · with_reducible assumption
    · with_reducible assumption

theorem modTile_keeps {W : Nat} {z : State} (s : State) (h : ℕ) (n : ℕ) (f : Tile → Tile) (hW : Sub 2048 W) (h_s :
    Keeps W z s) :
    Keeps W z (modTile s h n f) := by
  unfold modTile
  extract_lets v0 v1
  clear_value v0
  clear_value v1
  refine Keeps.congr (s := s) ?_ rfl rfl rfl rfl rfl rfl kept kept kept kept kept kept kept kept (hW.chg rfl) kept
      kept kept kept kept kept kept kept kept kept kept kept kept
  with_reducible assumption

theorem admitTile_keeps {W : Nat} {z : State} (s : State) (h : ℕ) (num : ℕ) (hW : Sub 107347828 W) (h_s : Keeps W z
    s) :
    Keeps W z (admitTile s h num) := by
  unfold admitTile
  split
  · extract_lets v6 v7
    clear_value v6
    clear_value v7
    split
    · with_reducible assumption
    · split
      · apply failTile_keeps
        · with_reducible assumption
        · with_reducible assumption
      · split
        · rename_i x12 x13
          have k14 := keeps_eq x13 (P := KeepsOpt W z) (by
            apply weirAdmit_keeps
            · exact Sub.up (by decide) hW
            · with_reducible assumption
            )
          apply countRefusal_keeps
          · exact Sub.up (by decide) hW
          · with_reducible assumption
        · rename_i x15 x16 x17
          have k18 := keeps_eq x17 (P := KeepsOpt W z) (by
            apply weirAdmit_keeps
            · exact Sub.up (by decide) hW
            · with_reducible assumption
            )
          extract_lets v19 v20
          have h21 : Keeps W z v19 := by
            unfold v19
            apply modTile_keeps
            · exact Sub.up (by decide) hW
            · with_reducible assumption
          clear_value v19
          have h22 : Keeps W z v20 := by
            unfold v20
            apply enqueue_keeps
            · exact Sub.up (by decide) hW
            · with_reducible assumption
          clear_value v20
          apply modOp_keeps
          · exact Sub.up (by decide) hW
          · with_reducible assumption
  · with_reducible assumption

theorem advance_keeps {W : Nat} {z : State} (s : State) (line : ℕ) (hW : Sub 107347828 W) (h_s : Keeps W z s) :
    Keeps W z (advance s line) := by
  unfold advance
  split
  · with_reducible assumption
  · apply settle_keeps
    · with_reducible assumption
    · split
      · apply finishTran_keeps
        · with_reducible assumption
        · with_reducible assumption
      · with_reducible assumption

theorem drvGauges_keeps {W : Nat} {z : State} (s : State) (hW : Sub 33554436 W) (h_s : Keeps W z s) :
    Keeps W z (drvGauges s) := by
  unfold drvGauges
  apply gauge_keeps
  · exact Sub.up (by decide) hW
  · apply wr_keeps
    · exact Sub.up (by decide) hW
    · with_reducible assumption

theorem spareAll_keeps {W : Nat} {z : State} (s : State) (hW : Sub 33554436 W) (h_s : Keeps W z s) :
    Keeps W z (spareAll s) := by
  unfold spareAll
  apply drvGauges_keeps
  · with_reducible assumption
  · refine foldl_keeps (P := Keeps W z) ?_ ?_
    · with_reducible assumption
    · intro y0 y1 y2
      apply spareStep_keeps
      · exact Sub.up (by decide) hW
      · with_reducible assumption

theorem spareLedger_keeps {W : Nat} {z : State} (s : State) (hW : Sub 4 W) (h_s : Keeps W z s) :
    Keeps W z (spareLedger s) := by
  unfold spareLedger
  apply wf_keeps
  · with_reducible assumption
  · with_reducible assumption

theorem reburst_keeps {W : Nat} {z : State} (s : State) (c : ℕ) (old : ℕ) (new : ℕ) (hW : Sub 512 W) (h_s : Keeps W z
    s) :
    Keeps W z (reburst s c old new) := by
  unfold reburst
  extract_lets v0 v1 v2
  clear_value v0
  clear_value v1
  clear_value v2
  refine Keeps.congr (s := s) ?_ rfl rfl rfl rfl rfl rfl kept kept kept kept kept kept (hW.chg rfl) kept kept kept
      kept kept kept kept kept kept kept kept kept kept kept kept
  with_reducible assumption

theorem afterWrite_keeps {W : Nat} {z : State} (s : State) (p : ℕ) (off : ℕ) (old : ℕ) (hW : Sub 33554948 W) (h_s :
    Keeps W z s) :
    Keeps W z (afterWrite s p off old) := by
  unfold afterWrite
  split
  · apply spareAll_keeps
    · exact Sub.up (by decide) hW
    · apply spareLedger_keeps
      · exact Sub.up (by decide) hW
      · with_reducible assumption
  · split
    · apply reburst_keeps
      · exact Sub.up (by decide) hW
      · with_reducible assumption
    · with_reducible assumption

theorem allocCmd_keeps {W : Nat} {z : State} (s : State) (h : ℕ) (op : ℕ) (f : State → Op → State) (hW : Sub 33554432
    W) (h_s : Keeps W z s) (h_f : ∀ q1 q2, Keeps W z q1 → Keeps W z (f q1 q2)) :
    KeepsRes W z (allocCmd s h op f) := by
  unfold allocCmd
  split
  · with_reducible assumption
  · apply guarded_keeps
    · with_reducible assumption
    · intro y5 y6
      apply h_f
      apply count_keeps
      · with_reducible assumption
      · with_reducible assumption

theorem endWith_keeps {W : Nat} {z : State} (s : State) (h : ℕ) (st : ℕ) (res : List ℕ) (hW : Sub 107347828 W) (h_s :
    Keeps W z s) :
    Keeps W z (endWith s h st res) := by
  unfold endWith
  apply endOp_keeps
  · with_reducible assumption
  · apply modOp_keeps
    · exact Sub.up (by decide) hW
    · with_reducible assumption

theorem leaveQueue_keeps {W : Nat} {z : State} (s : State) (h : ℕ) (hW : Sub 64 W) (h_s : Keeps W z s) :
    Keeps W z (leaveQueue s h) := by
  unfold leaveQueue
  refine Keeps.congr (s := s) ?_ rfl rfl rfl rfl rfl rfl kept kept kept (hW.chg rfl) kept kept kept kept kept kept
      kept kept kept kept kept kept kept kept kept kept kept kept
  with_reducible assumption

theorem allocEnd_keeps {W : Nat} {z : State} (s : State) (h : ℕ) (st : ℕ) (res : List ℕ) (hW : Sub 107347828 W) (h_s
    : Keeps W z s) :
    Keeps W z (allocEnd s h st res) := by
  unfold allocEnd
  extract_lets v0 v1
  have h2 : Keeps W z v0 := by
    unfold v0
    split
    · apply count_keeps
      · exact Sub.up (by decide) hW
      · with_reducible assumption
    · split
      · apply count_keeps
        · exact Sub.up (by decide) hW
        · with_reducible assumption
      · with_reducible assumption
  clear_value v0
  have h7 : Keeps W z v1 := by
    unfold v1
    apply gauge_keeps
    · exact Sub.up (by decide) hW
    · with_reducible assumption
  clear_value v1
  apply endWith_keeps
  · with_reducible assumption
  · apply leaveQueue_keeps
    · exact Sub.up (by decide) hW
    · with_reducible assumption

theorem pinCharge_keeps {W : Nat} {z : State} (s : State) (dom : ℕ) (residency : ℕ) (n : ℕ) (hW : Sub 64 W) (h_s :
    Keeps W z s) :
    Keeps W z (pinCharge s dom residency n) := by
  unfold pinCharge
  split
  · apply chargeAdd_keeps
    · with_reducible assumption
    · with_reducible assumption
  · apply chargeAdd_keeps
    · with_reducible assumption
    · with_reducible assumption
  · with_reducible assumption

theorem makeRoom_keeps {W : Nat} {z : State} (s : State) (q : ℕ) (hW : Sub 33555460 W) (h_s : Keeps W z s) :
    Keeps W z (makeRoom s q) := by
  unfold makeRoom
  split
  · apply releaseStart_keeps
    · with_reducible assumption
    · with_reducible assumption
  · with_reducible assumption

theorem pinSub_keeps {W : Nat} {z : State} (idx : ℕ) (s : State) (q : ℕ) (hW : Sub 100664436 W) (h_s : Keeps W z s) :
    Keeps W z (pinSub idx s q) := by
  unfold pinSub
  split
  · with_reducible assumption
  · extract_lets v5
    clear_value v5
    split
    · split
      · rename_i x8 x9
        have k10 := keeps_eq x9 (P := KeepsOpt W z) (by
          apply backPage_keeps
          · exact Sub.up (by decide) hW
          · with_reducible assumption
          )
        with_reducible assumption
      · rename_i x11 x12 x13
        have k14 := keeps_eq x13 (P := KeepsOpt W z) (by
          apply backPage_keeps
          · exact Sub.up (by decide) hW
          · with_reducible assumption
          )
        split
        · rename_i x15 x16
          have k17 := keeps_eq x16 (P := KeepsOptSnd W z) (by
            apply takeFrame_keeps
            · exact Sub.up (by decide) hW
            · with_reducible assumption
            )
          with_reducible assumption
        · rename_i x18 x19 x20 x21
          have k22 := keeps_eq x21 (P := KeepsOptSnd W z) (by
            apply takeFrame_keeps
            · exact Sub.up (by decide) hW
            · with_reducible assumption
            )
          extract_lets v23
          have h24 : Keeps W z v23 := by
            unfold v23
            apply setSub_keeps
            · exact Sub.up (by decide) hW
            · apply zeroSub_keeps
              · exact Sub.up (by decide) hW
              · with_reducible assumption
          clear_value v23
          split
          · apply basinEnter_keeps
            · exact Sub.up (by decide) hW
            · with_reducible assumption
          · with_reducible assumption
    · split
      · split
        · apply basinEnter_keeps
          · exact Sub.up (by decide) hW
          · with_reducible assumption
        · apply makeRoom_keeps
          · exact Sub.up (by decide) hW
          · with_reducible assumption
      · with_reducible assumption
    · apply startPromote_keeps
      · exact Sub.up (by decide) hW
      · with_reducible assumption
    · with_reducible assumption

theorem pinStep_keeps {W : Nat} {z : State} (s : State) (idx : ℕ) (hW : Sub 100664436 W) (h_s : Keeps W z s) :
    Keeps W z (pinStep s idx) := by
  unfold pinStep
  split
  · with_reducible assumption
  · split
    · with_reducible assumption
    · refine foldl_keeps (P := Keeps W z) ?_ ?_
      · with_reducible assumption
      · intro y7 y8 y9
        apply pinSub_keeps
        · with_reducible assumption
        · with_reducible assumption

theorem allocRegion_keeps {W : Nat} {z : State} (s : State) (h : ℕ) (o : Op) (hW : Sub 107347830 W) (h_s : Keeps W z
    s) :
    Keeps W z (allocRegion s h o) := by
  unfold allocRegion
  extract_lets v0 v1 v2 v3 v4 v5 v6 v7 v8 v9 v10 v11 v12 v13
  clear_value v0
  clear_value v1
  clear_value v2
  clear_value v3
  clear_value v4
  clear_value v5
  clear_value v6
  clear_value v7
  clear_value v8
  clear_value v9
  clear_value v10
  clear_value v11
  clear_value v12
  have h14 : Keeps W z v13 := by
    unfold v13
    refine Keeps.core (s := s) ?_ rfl (Nat.le_add_right _ _) List.suffix_rfl id kept (hW.chg rfl) kept kept kept kept
        kept kept kept kept kept kept kept kept kept kept kept kept kept kept kept kept kept kept kept kept kept
    with_reducible assumption
  clear_value v13
  split
  · apply allocEnd_keeps
    · exact Sub.up (by decide) hW
    · with_reducible assumption
  · split
    · apply allocEnd_keeps
      · exact Sub.up (by decide) hW
      · with_reducible assumption
    · split
      · apply allocEnd_keeps
        · exact Sub.up (by decide) hW
        · with_reducible assumption
      · extract_lets v24 v25 v26 v27 v28 v29 v30 v31
        clear_value v24
        have h32 : Keeps W z v25 := by
          unfold v25
          apply setRegion_keeps
          · exact Sub.up (by decide) hW
          · with_reducible assumption
        clear_value v25
        clear_value v26
        have h33 : Keeps W z v27 := by
          unfold v27
          refine Keeps.congr (s := v25) ?_ rfl rfl rfl rfl rfl rfl kept kept kept (hW.chg rfl) kept kept kept kept
              kept kept kept kept kept kept kept kept kept kept kept kept kept kept
          with_reducible assumption
        clear_value v27
        have h34 : Keeps W z v28 := by
          unfold v28
          apply chargeAdd_keeps
          · exact Sub.up (by decide) hW
          · apply chargeAdd_keeps
            · exact Sub.up (by decide) hW
            · with_reducible assumption
        clear_value v28
        have h35 : Keeps W z v29 := by
          unfold v29
          apply pinCharge_keeps
          · exact Sub.up (by decide) hW
          · split
            · apply chargeAdd_keeps
              · exact Sub.up (by decide) hW
              · with_reducible assumption
            · with_reducible assumption
        clear_value v29
        clear_value v30
        have h38 : Keeps W z v31 := by
          unfold v31
          apply pinStep_keeps
          · exact Sub.up (by decide) hW
          · with_reducible assumption
        clear_value v31
        split
        · apply allocEnd_keeps
          · exact Sub.up (by decide) hW
          · with_reducible assumption
        · split
          · apply allocEnd_keeps
            · exact Sub.up (by decide) hW
            · with_reducible assumption
          · apply modOp_keeps
            · exact Sub.up (by decide) hW
            · apply leaveQueue_keeps
              · exact Sub.up (by decide) hW
              · with_reducible assumption

theorem answer_keeps {W : Nat} {z : State} (code : ℕ) (data : Option (Bytes × ℕ)) (wbp : Bool) (line : ℕ) (i : ℕ) (s
    : State) (hW : Sub 107347828 W) (h_s : Keeps W z s) :
    Keeps W z (answer code data wbp line i s) := by
  unfold answer
  split
  · with_reducible assumption
  · split
    · with_reducible assumption
    · extract_lets v10 v11 v12
      clear_value v10
      clear_value v12
      apply advance_keeps
      · with_reducible assumption
      · apply setTran_keeps
        · exact Sub.up (by decide) hW
        · with_reducible assumption

theorem setLp_keeps {W : Nat} {z : State} (s : State) (p : ℕ) (x : LinkPort) (hW : Sub 16388 W) (h_s : Keeps W z s) :
    Keeps W z (setLp s p x) := by
  unfold setLp
  extract_lets v0 v1
  clear_value v0
  have h2 : Keeps W z v1 := by
    unfold v1
    refine Keeps.congr (s := s) ?_ rfl rfl rfl rfl rfl rfl kept kept kept kept kept kept kept kept kept kept kept
        (hW.chg rfl) kept kept kept kept kept kept kept kept kept kept
    with_reducible assumption
  clear_value v1
  apply wr_keeps
  · exact Sub.up (by decide) hW
  · apply wr_keeps
    · exact Sub.up (by decide) hW
    · with_reducible assumption

theorem modLp_keeps {W : Nat} {z : State} (s : State) (p : ℕ) (f : LinkPort → LinkPort) (hW : Sub 16388 W) (h_s :
    Keeps W z s) :
    Keeps W z (modLp s p f) := by
  unfold modLp
  apply setLp_keeps
  · with_reducible assumption
  · with_reducible assumption

theorem answered_keeps {W : Nat} {z : State} (s : State) (p : ℕ) (code : ℕ) (hW : Sub 16388 W) (h_s : Keeps W z s) :
    Keeps W z (answered s p code) := by
  unfold answered
  extract_lets v0
  clear_value v0
  apply modLp_keeps
  · with_reducible assumption
  · with_reducible assumption

theorem setGate_keeps {W : Nat} {z : State} (s : State) (p : ℕ) (g : Gate) (hW : Sub 512 W) (h_s : Keeps W z s) :
    Keeps W z (setGate s p g) := by
  unfold setGate
  refine Keeps.congr (s := s) ?_ rfl rfl rfl rfl rfl rfl kept kept kept kept kept kept (hW.chg rfl) kept kept kept
      kept kept kept kept kept kept kept kept kept kept kept kept
  with_reducible assumption

theorem applyGates_keeps {W : Nat} {z : State} (s : State) (x : Profile) (hW : Sub 516 W) (h_s : Keeps W z s) :
    Keeps W z (applyGates s x) := by
  unfold applyGates
  refine foldl_keeps (P := Keeps W z) ?_ ?_
  · with_reducible assumption
  · intro y0 y1 y2
    extract_lets v3
    have h4 : Keeps W z v3 := by
      unfold v3
      apply wf_keeps
      · exact Sub.up (by decide) hW
      · apply wf_keeps
        · exact Sub.up (by decide) hW
        · with_reducible assumption
    clear_value v3
    apply setGate_keeps
    · exact Sub.up (by decide) hW
    · with_reducible assumption

theorem writeRun_keeps {W : Nat} {z : State} (s : State) (pa : ℕ) (bs : Bytes) (pcode : ℕ) (hW : Sub 112 W) (h_s :
    Keeps W z s) :
    Keeps W z (writeRun s pa bs pcode) := by
  unfold writeRun
  refine foldl_keeps (P := Keeps W z) ?_ ?_
  · with_reducible assumption
  · intro y0 y1 y2
    apply writeLine_keeps
    · with_reducible assumption
    · with_reducible assumption

theorem ownFrame_keeps {W : Nat} {z : State} (s : State) (q : ℕ) (hW : Sub 33555572 W) (h_s : Keeps W z s) :
    KeepsOpt W z (ownFrame s q) := by
  unfold ownFrame
  extract_lets v0 v1
  clear_value v0
  clear_value v1
  split
  · with_reducible assumption
  · unfold Option.map
    split
    · rename_i x4 x5 x6
      have k7 := keeps_eq x6 (P := KeepsOptSnd W z) (by
        apply takeFrame_keeps
        · exact Sub.up (by decide) hW
        · with_reducible assumption
        )
      change Keeps W z _
      extract_lets v8
      have h9 : Keeps W z v8 := by
        unfold v8
        split
        · with_reducible assumption
        · split
          · apply zeroSub_keeps
            · exact Sub.up (by decide) hW
            · with_reducible assumption
          · apply copySub_keeps
            · exact Sub.up (by decide) hW
            · with_reducible assumption
      clear_value v8
      apply setSub_keeps
      · exact Sub.up (by decide) hW
      · with_reducible assumption
    · rename_i x14 x15
      have k16 := keeps_eq x15 (P := KeepsOptSnd W z) (by
        apply takeFrame_keeps
        · exact Sub.up (by decide) hW
        · with_reducible assumption
        )
      with_reducible assumption

theorem applyMirror_keeps {W : Nat} {z : State} (s : State) (w : MirrorWrite) (hW : Sub 35653236 W) (h_s : Keeps W z
    s) :
    KeepsOpt W z (applyMirror s w) := by
  unfold applyMirror
  unfold Option.map
  split
  · rename_i x0 x1 x2
    have k3 := keeps_eq x2 (P := KeepsOpt W z) (by
      refine foldl_keeps (P := KeepsOpt W z) ?_ ?_
      · with_reducible assumption
      · intro y4 y5 y6
        unfold Option.bind
        split
        · with_reducible assumption
        · beta_reduce
          apply ownFrame_keeps
          · exact Sub.up (by decide) hW
          · with_reducible assumption
      )
    change Keeps W z _
    extract_lets v12
    have h13 : Keeps W z v12 := by
      unfold v12
      split
      · apply writeLine_keeps
        · exact Sub.up (by decide) hW
        · with_reducible assumption
      · apply writeRun_keeps
        · exact Sub.up (by decide) hW
        · with_reducible assumption
    clear_value v12
    apply sendRunnel_keeps
    · exact Sub.up (by decide) hW
    · with_reducible assumption
  · rename_i x19 x20
    have k21 := keeps_eq x20 (P := KeepsOpt W z) (by
      refine foldl_keeps (P := KeepsOpt W z) ?_ ?_
      · with_reducible assumption
      · intro y22 y23 y24
        unfold Option.bind
        split
        · with_reducible assumption
        · beta_reduce
          apply ownFrame_keeps
          · exact Sub.up (by decide) hW
          · with_reducible assumption
      )
    with_reducible assumption

theorem applyPartition_keeps {W : Nat} {z : State} (s : State) (x : Profile) (hW : Sub 4 W) (h_s : Keeps W z s) :
    Keeps W z (applyPartition s x) := by
  unfold applyPartition
  extract_lets v0 v1
  have h2 : Keeps W z v0 := by
    unfold v0
    apply wr_keeps
    · with_reducible assumption
    · with_reducible assumption
  clear_value v0
  have h3 : Keeps W z v1 := by
    unfold v1
    apply wf_keeps
    · with_reducible assumption
    · with_reducible assumption
  clear_value v1
  apply wr_keeps
  · with_reducible assumption
  · apply wr_keeps
    · with_reducible assumption
    · with_reducible assumption

theorem dramDiffs_keeps {W : Nat} {z : State} (s : State) (x : Profile) (hW : Sub 4 W) (h_s : Keeps W z s) :
    Keeps W z (dramDiffs s x) := by
  unfold dramDiffs
  extract_lets v0 v1
  clear_value v0
  clear_value v1
  apply wb_keeps
  · with_reducible assumption
  · apply wb_keeps
    · with_reducible assumption
    · apply wb_keeps
      · with_reducible assumption
      · with_reducible assumption

theorem dataWrite_keeps {W : Nat} {z : State} (s : State) (id : ℕ) (p : ℕ) (off : ℕ) (v : ℕ) (hW : Sub 266816 W) (h_s
    : Keeps W z s) :
    KeepsOpt W z (dataWrite s id p off v) := by
  unfold dataWrite
  split
  · change Keeps W z _
    refine Keeps.congr (s := s) ?_ rfl rfl rfl rfl rfl rfl kept kept kept kept kept kept (hW.chg rfl) kept kept kept
        kept kept kept kept kept kept kept kept kept kept kept kept
    with_reducible assumption
  · split
    · extract_lets v3 v4
      clear_value v3
      clear_value v4
      change Keeps W z _
      refine Keeps.congr (s := s) ?_ rfl rfl rfl rfl rfl rfl kept kept kept kept kept kept (hW.chg rfl) kept kept
          kept kept kept kept kept kept kept kept kept kept kept kept kept
      with_reducible assumption
    · split
      · extract_lets v7 v8
        clear_value v7
        clear_value v8
        change Keeps W z _
        refine Keeps.congr (s := s) ?_ rfl rfl rfl rfl rfl rfl kept kept kept (hW.chg rfl) kept kept kept kept kept
            kept kept kept kept kept kept kept kept kept kept kept kept kept
        with_reducible assumption
      · split
        · extract_lets v11 v12 v13 v14
          clear_value v11
          clear_value v12
          clear_value v13
          clear_value v14
          change Keeps W z _
          refine Keeps.congr (s := s) ?_ rfl rfl rfl rfl rfl rfl kept kept kept kept kept kept kept kept kept (hW.chg
              rfl) kept kept kept kept kept kept kept kept kept kept kept kept
          with_reducible assumption
        · split
          · extract_lets v17 v18
            clear_value v17
            clear_value v18
            split
            · with_reducible assumption
            · change Keeps W z _
              refine Keeps.congr (s := s) ?_ rfl rfl rfl rfl rfl rfl kept kept kept kept kept kept kept kept kept
                  (hW.chg rfl) kept kept kept kept kept kept kept kept kept kept kept kept
              with_reducible assumption
          · split
            · change Keeps W z _
              refine Keeps.congr (s := s) ?_ rfl rfl rfl rfl rfl rfl kept kept kept kept kept kept kept kept kept
                  (hW.chg rfl) kept kept kept kept kept kept kept kept kept kept kept kept
              with_reducible assumption
            · split
              · extract_lets v25 v26 v27
                clear_value v25
                clear_value v26
                clear_value v27
                change Keeps W z _
                refine Keeps.congr (s := s) ?_ rfl rfl rfl rfl rfl rfl kept kept kept kept kept kept kept kept kept
                    kept kept kept kept kept kept (hW.chg rfl) kept kept kept kept kept kept
                with_reducible assumption
              · exact trivial

theorem wi_keeps {W : Nat} {z : State} (s : State) (id : ℕ) (a : ℕ) (v : ℕ) (hW : Sub 8 W) (h_s : Keeps W z s) :
    Keeps W z (wi s id a v) := by
  unfold wi
  refine Keeps.congr (s := s) ?_ rfl rfl rfl rfl rfl rfl kept kept (hW.chg rfl) kept kept kept kept kept kept kept
      kept kept kept kept kept kept kept kept kept kept kept kept
  with_reducible assumption

theorem plainWrite_keeps {W : Nat} {z : State} (s : State) (id : ℕ) (p : ℕ) (off : ℕ) (v : ℕ) (hW : Sub 33821260 W)
    (h_s : Keeps W z s) :
    Keeps W z (plainWrite s id p off v) := by
  unfold plainWrite
  split
  · with_reducible assumption
  · split
    · with_reducible assumption
    · split
      · rename_i x7 x8 x9
        have k10 := keeps_eq x9 (P := KeepsOpt W z) (by
          apply dataWrite_keeps
          · exact Sub.up (by decide) hW
          · with_reducible assumption
          )
        with_reducible assumption
      · rename_i x11 x12
        have k13 := keeps_eq x12 (P := KeepsOpt W z) (by
          apply dataWrite_keeps
          · exact Sub.up (by decide) hW
          · with_reducible assumption
          )
        extract_lets v14 v15 v16
        clear_value v14
        clear_value v15
        clear_value v16
        split
        · apply wi_keeps
          · exact Sub.up (by decide) hW
          · with_reducible assumption
        · apply afterWrite_keeps
          · exact Sub.up (by decide) hW
          · apply wr_keeps
            · exact Sub.up (by decide) hW
            · with_reducible assumption

theorem applyRecord_keeps {W : Nat} {z : State} (s : State) (r : RegRecord) (hW : Sub 33821260 W) (h_s : Keeps W z s)
    :
    Keeps W z (applyRecord s r) := by
  unfold applyRecord
  extract_lets v0 v1 v2
  clear_value v0
  clear_value v1
  clear_value v2
  apply plainWrite_keeps
  · with_reducible assumption
  · with_reducible assumption

theorem applyRoutes_keeps {W : Nat} {z : State} (s : State) (x : Profile) (hW : Sub 4352 W) (h_s : Keeps W z s) :
    Keeps W z (applyRoutes s x) := by
  unfold applyRoutes
  extract_lets v0 v1 v2 v3
  have h4 : Keeps W z v0 := by
    unfold v0
    refine foldl_keeps (P := Keeps W z) ?_ ?_
    · with_reducible assumption
    · intro y5 y6 y7
      apply setRoute_keeps
      · exact Sub.up (by decide) hW
      · with_reducible assumption
  clear_value v0
  clear_value v1
  have h8 : Keeps W z v2 := by
    unfold v2
    refine Keeps.congr (s := v0) ?_ rfl rfl rfl rfl rfl rfl kept kept kept kept kept kept kept kept kept (hW.chg rfl)
        kept kept kept kept kept kept kept kept kept kept kept kept
    with_reducible assumption
  clear_value v2
  clear_value v3
  refine Keeps.congr (s := v2) ?_ rfl rfl rfl rfl rfl rfl kept kept kept kept kept (hW.chg rfl) kept kept kept kept
      kept kept kept kept kept kept kept kept kept kept kept kept
  with_reducible assumption

theorem applyProfile_keeps {W : Nat} {z : State} (s : State) (x : Profile) (cold : Bool) (hW : Sub 33821516 W) (h_s :
    Keeps W z s) :
    Keeps W z (applyProfile s x cold) := by
  unfold applyProfile
  extract_lets v0 v1 v2 v3 v4 v5 v6 v7 v8
  have h9 : Keeps W z v0 := by
    unfold v0
    apply applyPartition_keeps
    · exact Sub.up (by decide) hW
    · with_reducible assumption
  clear_value v0
  clear_value v1
  have h10 : Keeps W z v2 := by
    unfold v2
    split
    · refine Keeps.congr (s := v0) ?_ rfl rfl rfl rfl rfl rfl kept kept kept kept kept kept kept kept kept kept kept
          kept kept kept kept (hW.chg rfl) kept kept kept kept kept kept
      with_reducible assumption
    · apply dramDiffs_keeps
      · exact Sub.up (by decide) hW
      · with_reducible assumption
  clear_value v2
  clear_value v3
  have h13 : Keeps W z v4 := by
    unfold v4
    refine Keeps.congr (s := v2) ?_ rfl rfl rfl rfl rfl rfl kept kept kept (hW.chg rfl) kept kept kept kept kept kept
        kept kept kept kept kept kept kept kept kept kept kept kept
    with_reducible assumption
  clear_value v4
  have h14 : Keeps W z v5 := by
    unfold v5
    refine foldl_keeps (P := Keeps W z) ?_ ?_
    · with_reducible assumption
    · intro y15 y16 y17
      apply applyRecord_keeps
      · exact Sub.up (by decide) hW
      · with_reducible assumption
  clear_value v5
  clear_value v6
  have h18 : Keeps W z v7 := by
    unfold v7
    refine Keeps.congr (s := v5) ?_ rfl rfl rfl rfl rfl rfl kept kept kept kept kept kept (hW.chg rfl) kept kept kept
        kept kept kept kept kept kept kept kept kept kept kept kept
    with_reducible assumption
  clear_value v7
  have h19 : Keeps W z v8 := by
    unfold v8
    split
    · apply applyRoutes_keeps
      · exact Sub.up (by decide) hW
      · with_reducible assumption
    · with_reducible assumption
  clear_value v8
  apply applyGates_keeps
  · exact Sub.up (by decide) hW
  · apply wr_keeps
    · exact Sub.up (by decide) hW
    · with_reducible assumption

theorem armKeys_keeps {W : Nat} {z : State} (s : State) (hW : Sub 131076 W) (h_s : Keeps W z s) :
    Keeps W z (armKeys s) := by
  unfold armKeys
  apply wb_keeps
  · exact Sub.up (by decide) hW
  · refine Keeps.congr (s := s) ?_ rfl rfl rfl rfl rfl rfl kept kept kept kept kept kept kept kept kept kept kept
        kept kept kept (hW.chg rfl) kept kept kept kept kept kept kept
    with_reducible assumption

theorem goList_keeps {W : Nat} {z : State} {α β : Type} (f : α → State → Go β) (as : List α) (s : State)
    (hW : Sub 0 W) (hf : ∀ a s, Keeps W z s → KeepsGo W z (f a s)) (h : Keeps W z s) : KeepsGo W z (goList f as s) :=
        by
  induction as generalizing s with
  | nil => exact h
  | cons a as ih => exact Go.bind_keeps (hf a s h) fun _ s h => Go.bind_keeps (ih s h) fun _ _ h => h

theorem updateAD_keeps {W : Nat} {z : State} (s : State) (f : Leaf) (write : Bool) (hW : Sub 107347828 W) (h_s :
    Keeps W z s) :
    KeepsAd W z (updateAD s f write) := by
  unfold updateAD
  extract_lets v0 v1 v2 v3
  clear_value v0
  clear_value v1
  clear_value v2
  clear_value v3
  split
  · with_reducible assumption
  · split
    · with_reducible assumption
    · extract_lets v11
      clear_value v11
      split
      · with_reducible assumption
      · split
        · split
          · change Keeps W z _
            change KeepsSnd W z _
            apply ownWrite_keeps
            · with_reducible assumption
            · with_reducible assumption
          · with_reducible assumption
        · split
          · rename_i x18 x19 x20
            have k21 := keeps_eq x20 (P := KeepsGo W z) (by
              apply writeGate_keeps
              · exact Sub.up (by decide) hW
              · with_reducible assumption
              )
            with_reducible assumption
          · rename_i x22 x23 x24 x25
            have k26 := keeps_eq x25 (P := KeepsGo W z) (by
              apply writeGate_keeps
              · exact Sub.up (by decide) hW
              · with_reducible assumption
              )
            with_reducible assumption
          · rename_i x27 x28 x29 x30
            have k31 := keeps_eq x30 (P := KeepsGo W z) (by
              apply writeGate_keeps
              · exact Sub.up (by decide) hW
              · with_reducible assumption
              )
            extract_lets v32
            clear_value v32
            split
            rename_i x33 x34 x35 x36 x37
            have k38 := keeps_eq x37 (P := KeepsTrd W z) (by
              apply readLine_keeps
              · exact Sub.up (by decide) hW
              · with_reducible assumption
              )
            extract_lets v39 v40 v41 v42
            clear_value v39
            clear_value v40
            clear_value v41
            have h43 : Keeps W z v42 := by
              unfold v42
              apply storeLine_keeps
              · exact Sub.up (by decide) hW
              · with_reducible assumption
            clear_value v42
            split
            · with_reducible assumption
            · with_reducible assumption

theorem setLeaves_keeps {W : Nat} {z : State} (s : State) (ls : List Leaf) (hW : Sub 128 W) (h_s : Keeps W z s) :
    Keeps W z (setLeaves s ls) := by
  unfold setLeaves
  refine Keeps.congr (s := s) ?_ rfl rfl rfl rfl rfl rfl kept kept kept kept (hW.chg rfl) kept kept kept kept kept
      kept kept kept kept kept kept kept kept kept kept kept kept
  with_reducible assumption

theorem walkRead_keeps {W : Nat} {z : State} (s : State) (w : Walk) (hW : Sub 100664320 W) (h_s : Keeps W z s) :
    Keeps W z (walkRead s w) := by
  unfold walkRead
  split
  · apply count_keeps
    · exact Sub.up (by decide) hW
    · apply put_keeps
      · exact Sub.up (by decide) hW
      · with_reducible assumption
  · with_reducible assumption

theorem beginWalk_keeps {W : Nat} {z : State} (s : State) (w : Walk) (hW : Sub 100664448 W) (h_s : Keeps W z s) :
    Keeps W z (beginWalk s w) := by
  unfold beginWalk
  split
  · with_reducible assumption
  · extract_lets v2 v3 v4
    clear_value v2
    clear_value v3
    have h5 : Keeps W z v4 := by
      unfold v4
      refine Keeps.congr (s := s) ?_ rfl rfl rfl rfl rfl rfl kept kept kept kept (hW.chg rfl) kept kept kept kept
          kept kept kept kept kept kept kept kept kept kept kept kept kept
      with_reducible assumption
    clear_value v4
    apply walkRead_keeps
    · exact Sub.up (by decide) hW
    · apply count_keeps
      · exact Sub.up (by decide) hW
      · with_reducible assumption

theorem useLeaf_keeps {W : Nat} {z : State} (s : State) (f : Leaf) (va : ℕ) (op : ℕ) (tile : ℕ) (write : Bool) (hW :
    Sub 107347956 W) (h_s : Keeps W z s) :
    KeepsXl W z (useLeaf s f va op tile write) := by
  unfold useLeaf
  extract_lets v0
  clear_value v0
  split
  · with_reducible assumption
  · split
    · rename_i x3 x4 x5
      have k6 := keeps_eq x5 (P := KeepsAd W z) (by
        apply updateAD_keeps
        · exact Sub.up (by decide) hW
        · with_reducible assumption
        )
      with_reducible assumption
    · rename_i x7 x8 x9 x10
      have k11 := keeps_eq x10 (P := KeepsAd W z) (by
        apply updateAD_keeps
        · exact Sub.up (by decide) hW
        · with_reducible assumption
        )
      extract_lets v12
      have h13 : Keeps W z v12 := by
        unfold v12
        apply setLeaves_keeps
        · exact Sub.up (by decide) hW
        · with_reducible assumption
      clear_value v12
      change Keeps W z _
      apply count_keeps
      · exact Sub.up (by decide) hW
      · with_reducible assumption
    · rename_i x14 x15 x16
      have k17 := keeps_eq x16 (P := KeepsAd W z) (by
        apply updateAD_keeps
        · exact Sub.up (by decide) hW
        · with_reducible assumption
        )
      extract_lets v18 v19 v20
      have h21 : Keeps W z v18 := by
        unfold v18
        apply setLeaves_keeps
        · exact Sub.up (by decide) hW
        · with_reducible assumption
      clear_value v18
      clear_value v19
      have h22 : Keeps W z v20 := by
        unfold v20
        apply modTile_keeps
        · exact Sub.up (by decide) hW
        · apply count_keeps
          · exact Sub.up (by decide) hW
          · with_reducible assumption
      clear_value v20
      split
      · change Keeps W z _
        apply count_keeps
        · exact Sub.up (by decide) hW
        · with_reducible assumption
      · change Keeps W z _
        apply beginWalk_keeps
        · exact Sub.up (by decide) hW
        · with_reducible assumption

theorem countMiss_keeps {W : Nat} {z : State} (s : State) (cl : ℕ) (va : ℕ) (op : ℕ) (tile : ℕ) (hW : Sub 33556480 W)
    (h_s : Keeps W z s) :
    Keeps W z (countMiss s cl va op tile) := by
  unfold countMiss
  split
  · split
    · with_reducible assumption
    · apply modTile_keeps
      · exact Sub.up (by decide) hW
      · apply count_keeps
        · exact Sub.up (by decide) hW
        · with_reducible assumption
  · split
    · with_reducible assumption
    · apply count_keeps
      · exact Sub.up (by decide) hW
      · with_reducible assumption

theorem startWalk_keeps {W : Nat} {z : State} (s : State) (cl : ℕ) (c : ℕ) (va : ℕ) (op : ℕ) (tile : ℕ) (write :
    Bool) (prefetch : Bool) (hW : Sub 100664448 W) (h_s : Keeps W z s) :
    Keeps W z (startWalk s cl c va op tile write prefetch) := by
  unfold startWalk
  extract_lets v0
  clear_value v0
  split
  apply beginWalk_keeps
  · with_reducible assumption
  · with_reducible assumption

theorem xlate_keeps {W : Nat} {z : State} (s : State) (cl : ℕ) (c : ℕ) (dom : ℕ) (va : ℕ) (op : ℕ) (tile : ℕ) (write
    : Bool) (hW : Sub 107347956 W) (h_s : Keeps W z s) :
    KeepsXl W z (xlate s cl c dom va op tile write) := by
  unfold xlate
  split
  · with_reducible assumption
  · split
    · apply useLeaf_keeps
      · with_reducible assumption
      · with_reducible assumption
    · extract_lets v7
      have h8 : Keeps W z v7 := by
        unfold v7
        apply countMiss_keeps
        · exact Sub.up (by decide) hW
        · with_reducible assumption
      clear_value v7
      split
      · change Keeps W z _
        apply count_keeps
        · exact Sub.up (by decide) hW
        · with_reducible assumption
      · split
        · with_reducible assumption
        · change Keeps W z _
          apply startWalk_keeps
          · exact Sub.up (by decide) hW
          · with_reducible assumption

theorem recordFault_keeps {W : Nat} {z : State} (s : State) (h : ℕ) (tile : ℕ) (va : ℕ) (code : ℕ) (level : ℕ) (hW :
    Sub 2048 W) (h_s : Keeps W z s) :
    Keeps W z (recordFault s h tile va code level) := by
  unfold recordFault
  split
  apply modOp_keeps
  · with_reducible assumption
  · with_reducible assumption

theorem opXlate_keeps {W : Nat} {z : State} (h : ℕ) (o : Op) (c : ℕ) (va : ℕ) (write : Bool) (s : State) (tile :
    optParam ℕ descTile) (hW : Sub 107347956 W) (h_s : Keeps W z s) :
    KeepsGo W z (opXlate h o c va write s tile) := by
  unfold opXlate
  split
  · rename_i x0 x1 x2 x3 x4
    have k5 := keeps_eq x4 (P := KeepsXl W z) (by
      apply xlate_keeps
      · with_reducible assumption
      · with_reducible assumption
      )
    with_reducible assumption
  · rename_i x6 x7 x8 x9 x10
    have k11 := keeps_eq x10 (P := KeepsXl W z) (by
      apply xlate_keeps
      · with_reducible assumption
      · with_reducible assumption
      )
    change Keeps W z _
    split
    · apply recordFault_keeps
      · exact Sub.up (by decide) hW
      · with_reducible assumption
    · with_reducible assumption
  · rename_i x14 x15 x16
    have k17 := keeps_eq x16 (P := KeepsXl W z) (by
      apply xlate_keeps
      · with_reducible assumption
      · with_reducible assumption
      )
    with_reducible assumption

theorem opRuns_keeps {W : Nat} {z : State} (h : ℕ) (o : Op) (c : ℕ) (va : ℕ) (n : ℕ) (write : Bool) (s : State) (tile
    : optParam ℕ descTile) (hW : Sub 107347956 W) (h_s : Keeps W z s) :
    KeepsGo W z (opRuns h o c va n write s tile) := by
  unfold opRuns
  apply goList_keeps
  · exact Sub.up (by decide) hW
  · intro y0 y1 y2
    apply Go.bind_keeps
    · apply opXlate_keeps
      · with_reducible assumption
      · with_reducible assumption
    · intro y3 y4 y5
      with_reducible assumption
  · with_reducible assumption

theorem readGate_keeps {W : Nat} {z : State} (s : State) (u : User) (l : List Nat) (hW : Sub 100664324 W) (h : Keeps
    W z s) : KeepsGo W z (readGate s u l) := by
  induction l with
  | nil => exact h
  | cons pa l ih =>
    unfold readGate
    split
    · exact h
    · split
      · split
        · exact startPromote_keeps _ _ _ _ (Sub.up (by decide) hW) h
        · exact h
      · exact ih

theorem userRead_keeps {W : Nat} {z : State} (s : State) (u : User) (pa : ℕ) (n : ℕ) (hW : Sub 107347828 W) (h_s :
    Keeps W z s) :
    KeepsGo W z (userRead s u pa n) := by
  unfold userRead
  split
  · with_reducible assumption
  · split
    · rename_i x2 x3 x4
      have k5 := keeps_eq x4 (P := KeepsGo W z) (by
        apply readGate_keeps
        · exact Sub.up (by decide) hW
        · with_reducible assumption
        )
      with_reducible assumption
    · rename_i x6 x7 x8 x9
      have k10 := keeps_eq x9 (P := KeepsGo W z) (by
        apply readGate_keeps
        · exact Sub.up (by decide) hW
        · with_reducible assumption
        )
      with_reducible assumption
    · rename_i x11 x12 x13 x14
      have k15 := keeps_eq x14 (P := KeepsGo W z) (by
        apply readGate_keeps
        · exact Sub.up (by decide) hW
        · with_reducible assumption
        )
      split
      · with_reducible assumption
      · split
        rename_i x18 x19 x20 x21
        have k22 := keeps_eq x21 (P := KeepsSnd W z) (by
          apply readLines_keeps
          · with_reducible assumption
          · with_reducible assumption
          )
        split
        · with_reducible assumption
        · with_reducible assumption

theorem opPaRead_keeps {W : Nat} {z : State} (h : ℕ) (o : Op) (pa : ℕ) (n : ℕ) (s : State) (hW : Sub 107347828 W)
    (h_s : Keeps W z s) :
    KeepsGo W z (opPaRead h o pa n s) := by
  unfold opPaRead
  apply Go.bind_keeps
  · apply userRead_keeps
    · with_reducible assumption
    · with_reducible assumption
  · intro y0 y1 y2
    split
    · with_reducible assumption
    · change Keeps W z _
      apply event_keeps
      · exact Sub.up (by decide) hW
      · with_reducible assumption

theorem opRead_keeps {W : Nat} {z : State} (h : ℕ) (o : Op) (c : ℕ) (va : ℕ) (n : ℕ) (s : State) (hW : Sub 107347956
    W) (h_s : Keeps W z s) :
    KeepsGo W z (opRead h o c va n s) := by
  unfold opRead
  apply Go.bind_keeps
  · apply opRuns_keeps
    · with_reducible assumption
    · with_reducible assumption
  · intro y0 y1 y2
    apply Go.bind_keeps
    · apply goList_keeps
      · exact Sub.up (by decide) hW
      · intro y3 y4 y5
        apply opPaRead_keeps
        · exact Sub.up (by decide) hW
        · with_reducible assumption
      · with_reducible assumption
    · intro y6 y7 y8
      with_reducible assumption

theorem landingRuns_keeps {W : Nat} {z : State} (h : ℕ) (o : Op) (i : ℕ) (s : State) (hW : Sub 107347956 W) (h_s :
    Keeps W z s) :
    KeepsGo W z (landingRuns h o i s) := by
  unfold landingRuns
  extract_lets v0
  clear_value v0
  split
  · apply Go.bind_keeps
    · apply opRuns_keeps
      · with_reducible assumption
      · with_reducible assumption
    · intro y2 y3 y4
      apply Go.bind_keeps
      · apply opRuns_keeps
        · with_reducible assumption
        · with_reducible assumption
      · intro y5 y6 y7
        with_reducible assumption
  · apply Go.bind_keeps
    · apply opRuns_keeps
      · with_reducible assumption
      · with_reducible assumption
    · intro y9 y10 y11
      with_reducible assumption

theorem armReduction_keeps {W : Nat} {z : State} (h : ℕ) (o : Op) (s : State) (hW : Sub 107347956 W) (h_s : Keeps W z
    s) :
    KeepsGo W z (armReduction h o s) := by
  unfold armReduction
  split
  · with_reducible assumption
  · with_reducible assumption
  · extract_lets v10 v11
    clear_value v10
    clear_value v11
    split
    · with_reducible assumption
    · apply Go.bind_keeps
      · apply opRead_keeps
        · with_reducible assumption
        · with_reducible assumption
      · intro y14 y15 y16
        extract_lets v17 v18
        clear_value v17
        clear_value v18
        split
        · with_reducible assumption
        · split
          · with_reducible assumption
          · apply Go.bind_keeps
            · split
              · with_reducible assumption
              · apply opRead_keeps
                · with_reducible assumption
                · with_reducible assumption
            · intro y25 y26 y27
              apply Go.bind_keeps
              · apply opXlate_keeps
                · with_reducible assumption
                · with_reducible assumption
              · intro y28 y29 y30
                apply Go.bind_keeps
                · apply goList_keeps
                  · exact Sub.up (by decide) hW
                  · intro y31 y32 y33
                    apply opXlate_keeps
                    · with_reducible assumption
                    · with_reducible assumption
                  · with_reducible assumption
                · intro y34 y35 y36
                  apply Go.bind_keeps
                  · apply goList_keeps
                    · exact Sub.up (by decide) hW
                    · intro y37 y38 y39
                      apply landingRuns_keeps
                      · with_reducible assumption
                      · with_reducible assumption
                    · with_reducible assumption
                  · intro y40 y41 y42
                    apply Go.bind_keeps
                    · apply writeGate_keeps
                      · exact Sub.up (by decide) hW
                      · with_reducible assumption
                    · intro y43 y44 y45
                      extract_lets v46 v47 v48
                      clear_value v46
                      have h49 : Keeps W z v47 := by
                        unfold v47
                        apply modOp_keeps
                        · exact Sub.up (by decide) hW
                        · with_reducible assumption
                      clear_value v47
                      clear_value v48
                      change Keeps W z _
                      apply flushRecord_keeps
                      · exact Sub.up (by decide) hW
                      · refine foldl_keeps (P := Keeps W z) ?_ ?_
                        · with_reducible assumption
                        · intro y50 y51 y52
                          apply skipIn_keeps
                          · exact Sub.up (by decide) hW
                          · with_reducible assumption

theorem ask_keeps {W : Nat} {z : State} (s : State) (p : ℕ) (m : LinkMsg) (hW : Sub 16388 W) (h_s : Keeps W z s) :
    Keeps W z (ask s p m) := by
  unfold ask
  apply modLp_keeps
  · with_reducible assumption
  · with_reducible assumption

theorem pldmReply_keeps {W : Nat} {z : State} (s : State) (code : ℕ) (words : List ℕ) (hW : Sub 67109888 W) (h_s :
    Keeps W z s) :
    Keeps W z (pldmReply s code words) := by
  unfold pldmReply
  apply put_keeps
  · with_reducible assumption
  · with_reducible assumption

theorem askPiece_keeps {W : Nat} {z : State} (s : State) (hW : Sub 67109888 W) (h_s : Keeps W z s) :
    Keeps W z (askPiece s) := by
  unfold askPiece
  split
  · extract_lets v3
    clear_value v3
    apply pldmReply_keeps
    · with_reducible assumption
    · with_reducible assumption
  · with_reducible assumption

theorem say_keeps {W : Nat} {z : State} (s : State) (p : ℕ) (m : LinkMsg) (hW : Sub 16388 W) (h_s : Keeps W z s) :
    Keeps W z (say s p m) := by
  unfold say
  apply modLp_keeps
  · with_reducible assumption
  · with_reducible assumption

theorem askReplay_keeps {W : Nat} {z : State} (s : State) (p : ℕ) (hW : Sub 16388 W) (h_s : Keeps W z s) :
    Keeps W z (askReplay s p) := by
  unfold askReplay
  split
  · with_reducible assumption
  · extract_lets v2
    have h3 : Keeps W z v2 := by
      unfold v2
      apply modLp_keeps
      · with_reducible assumption
      · with_reducible assumption
    clear_value v2
    apply say_keeps
    · with_reducible assumption
    · with_reducible assumption

theorem askReports_keeps {W : Nat} {z : State} (s : State) (hW : Sub 67109888 W) (h_s : Keeps W z s) :
    Keeps W z (askReports s) := by
  unfold askReports
  refine foldl_keeps (P := Keeps W z) ?_ ?_
  · with_reducible assumption
  · intro y0 y1 y2
    apply issueNvme_keeps
    · with_reducible assumption
    · with_reducible assumption

theorem tileXlate_keeps {W : Nat} {z : State} (h : ℕ) (num : ℕ) (va : ℕ) (write : Bool) (s : State) (hW : Sub
    107347956 W) (h_s : Keeps W z s) :
    KeepsGo W z (tileXlate h num va write s) := by
  unfold tileXlate
  split
  · extract_lets v6
    clear_value v6
    split
    · with_reducible assumption
    · split
      · rename_i x12 x13 x14 x15
        have k16 := keeps_eq x15 (P := KeepsXl W z) (by
          apply xlate_keeps
          · with_reducible assumption
          · with_reducible assumption
          )
        with_reducible assumption
      · rename_i x17 x18 x19 x20 x21
        have k22 := keeps_eq x21 (P := KeepsXl W z) (by
          apply xlate_keeps
          · with_reducible assumption
          · with_reducible assumption
          )
        extract_lets v23
        clear_value v23
        change Keeps W z _
        apply modTile_keeps
        · exact Sub.up (by decide) hW
        · with_reducible assumption
      · rename_i x24 x25 x26 x27 x28
        have k29 := keeps_eq x28 (P := KeepsXl W z) (by
          apply xlate_keeps
          · with_reducible assumption
          · with_reducible assumption
          )
        change Keeps W z _
        apply recordFault_keeps
        · exact Sub.up (by decide) hW
        · with_reducible assumption
      · rename_i x30 x31 x32
        have k33 := keeps_eq x32 (P := KeepsXl W z) (by
          apply xlate_keeps
          · with_reducible assumption
          · with_reducible assumption
          )
        with_reducible assumption
  · with_reducible assumption

theorem tileRuns_keeps {W : Nat} {z : State} (h : ℕ) (num : ℕ) (va : ℕ) (n : ℕ) (write : Bool) (s : State) (hW : Sub
    107347956 W) (h_s : Keeps W z s) :
    KeepsGo W z (tileRuns h num va n write s) := by
  unfold tileRuns
  apply goList_keeps
  · exact Sub.up (by decide) hW
  · intro y0 y1 y2
    apply Go.bind_keeps
    · apply tileXlate_keeps
      · with_reducible assumption
      · with_reducible assumption
    · intro y3 y4 y5
      with_reducible assumption
  · with_reducible assumption

theorem translateTile_keeps {W : Nat} {z : State} (h : ℕ) (num : ℕ) (o : Op) (s : State) (hW : Sub 107347956 W) (h_s
    : Keeps W z s) :
    KeepsGo W z (translateTile h num o s) := by
  unfold translateTile
  apply Go.bind_keeps
  · apply goList_keeps
    · exact Sub.up (by decide) hW
    · intro y0 y1 y2
      apply tileRuns_keeps
      · with_reducible assumption
      · with_reducible assumption
    · with_reducible assumption
  · intro y3 y4 y5
    with_reducible assumption

theorem assignFirst_keeps {W : Nat} {z : State} (eng : Nat) (l : List Tile) (s : State) (hW : Sub 107347956 W) (h :
    Keeps W z s) :
    Keeps W z (assignFirst eng l s) := by
  induction l generalizing s with
  | nil => exact h
  | cons t ts ih =>
    unfold assignFirst
    split
    · rename_i o _ _ _
      split
      · exact ih _ h
      · have k := translateTile_keeps (W := W) (z := z) t.op t.num o s (Sub.up (by decide) hW) h
        split <;> rename_i e <;> rw [e] at k
        · exact ih _ k
        · exact failTile_keeps _ _ _ _ (Sub.up (by decide) hW) k
        · exact modTile_keeps _ _ _ _ (Sub.up (by decide) hW) k
    · exact ih _ h

theorem atomic_keeps {W : Nat} {z : State} (k : AtomicKind) (req : AtomicReq) (s : State) (hW : Sub 107347828 W) (h_s
    : Keeps W z s) :
    KeepsRes W z (atomic k req s) := by
  unfold atomic
  extract_lets v0 v1 v2 v3
  clear_value v0
  clear_value v1
  clear_value v2
  have h4 : Keeps W z v3 := by
    unfold v3
    split
    · apply startPromote_keeps
      · exact Sub.up (by decide) hW
      · with_reducible assumption
    · with_reducible assumption
  clear_value v3
  split
  · change Keeps W z _
    apply atomicAnswer_keeps
    · exact Sub.up (by decide) hW
    · with_reducible assumption
  · change Keeps W z _
    apply homeBegin_keeps
    · with_reducible assumption
    · with_reducible assumption

theorem awaitTarget_keeps {W : Nat} {z : State} (s : State) (h : ℕ) (t : ℕ) (hW : Sub 2048 W) (h_s : Keeps W z s) :
    Keeps W z (awaitTarget s h t) := by
  unfold awaitTarget
  apply modOp_keeps
  · with_reducible assumption
  · apply modOp_keeps
    · with_reducible assumption
    · with_reducible assumption

theorem eventAt_keeps {W : Nat} {z : State} (s : State) (page : ℕ) (sev : ℕ) (cls : ℕ) (loc : ℕ) (hW : Sub 107062788
    W) (h_s : Keeps W z s) :
    Keeps W z (eventAt s page sev cls loc) := by
  unfold eventAt
  apply event_keeps
  · with_reducible assumption
  · with_reducible assumption

theorem scrubNote_keeps {W : Nat} {z : State} (s : State) (space : ℕ) (unit : ℕ) (line : Option ℕ) (f : Progress →
    Progress) (hW : Sub 2048 W) (h_s : Keeps W z s) :
    Keeps W z (scrubNote s space unit line f) := by
  unfold scrubNote
  extract_lets v0 v1
  clear_value v0
  clear_value v1
  refine Keeps.congr (s := s) ?_ rfl rfl rfl rfl rfl rfl kept kept kept kept kept kept kept kept (hW.chg rfl) kept
      kept kept kept kept kept kept kept kept kept kept kept kept
  with_reducible assumption

theorem bankLasting_keeps {W : Nat} {z : State} (s : State) (g : ℕ) (n : ℕ) (line : Option ℕ) (hW : Sub 107064836 W)
    (h_s : Keeps W z s) :
    Keeps W z (bankLasting s g n line) := by
  unfold bankLasting
  extract_lets v0 v1 v2 v3 v4
  clear_value v0
  have h5 : Keeps W z v1 := by
    unfold v1
    apply eventAt_keeps
    · exact Sub.up (by decide) hW
    · with_reducible assumption
  clear_value v1
  have h6 : Keeps W z v2 := by
    unfold v2
    apply scrubNote_keeps
    · exact Sub.up (by decide) hW
    · with_reducible assumption
  clear_value v2
  clear_value v3
  clear_value v4
  split
  · apply eventAt_keeps
    · exact Sub.up (by decide) hW
    · with_reducible assumption
  · split
    · split
      · with_reducible assumption
      · refine Keeps.congr (s := v2) ?_ rfl rfl rfl rfl rfl rfl kept kept kept kept kept kept kept kept kept kept
            (hW.chg rfl) kept kept kept kept kept kept kept kept kept kept kept
        with_reducible assumption
    · with_reducible assumption

theorem bankCount_keeps {W : Nat} {z : State} (s : State) (g : ℕ) (n : ℕ) (bit : Option ℕ) (line : Option ℕ) (hW :
    Sub 107064836 W) (h_s : Keeps W z s) :
    Keeps W z (bankCount s g n bit line) := by
  unfold bankCount
  extract_lets v0 v1 v2 v3 v4 v5 v6 v7 v8 v9
  clear_value v0
  clear_value v1
  clear_value v2
  clear_value v3
  clear_value v4
  clear_value v5
  clear_value v6
  clear_value v7
  clear_value v8
  have h10 : Keeps W z v9 := by
    unfold v9
    refine Keeps.congr (s := s) ?_ rfl rfl rfl rfl rfl rfl kept kept kept kept kept kept kept kept kept kept (hW.chg
        rfl) kept kept kept kept kept kept kept kept kept kept kept
    with_reducible assumption
  clear_value v9
  split
  · apply bankLasting_keeps
    · with_reducible assumption
    · with_reducible assumption
  · with_reducible assumption

theorem bankLedger_keeps {W : Nat} {z : State} (s : State) (hW : Sub 4 W) (h_s : Keeps W z s) :
    Keeps W z (bankLedger s) := by
  unfold bankLedger
  apply wf_keeps
  · with_reducible assumption
  · with_reducible assumption

theorem cmdErr_keeps {W : Nat} {z : State} (s : State) (g : ℕ) (b : Bool) (hW : Sub 4 W) (h_s : Keeps W z s) :
    Keeps W z (cmdErr s g b) := by
  unfold cmdErr
  apply wb_keeps
  · with_reducible assumption
  · with_reducible assumption

theorem bankWriteCmd_keeps {W : Nat} {z : State} (id : ℕ) (g : ℕ) (s : State) (errBusy : Bool) (f : State → State)
    (hW : Sub 4 W) (h_s : Keeps W z s) (h_f : ∀ q1, Keeps W z q1 → Keeps W z (f q1)) :
    KeepsRes W z (bankWriteCmd id g s errBusy f) := by
  unfold bankWriteCmd
  apply guarded_keeps
  · with_reducible assumption
  · intro y0 y1
    split
    · split
      · apply cmdErr_keeps
        · with_reducible assumption
        · with_reducible assumption
      · with_reducible assumption
    · apply h_f
      apply cmdErr_keeps
      · with_reducible assumption
      · with_reducible assumption

theorem parityError_keeps {W : Nat} {z : State} (s : State) (g : ℕ) (o : ℕ) (hW : Sub 107062788 W) (h_s : Keeps W z
    s) :
    Keeps W z (parityError s g o) := by
  unfold parityError
  apply event_keeps
  · with_reducible assumption
  · with_reducible assumption

theorem basinAnswer_keeps {W : Nat} {z : State} (s : State) (g : ℕ) (o : ℕ) (parity : Bool) (hW : Sub 107062788 W)
    (h_s : Keeps W z s) :
    Keeps W z (basinAnswer s g o parity) := by
  unfold basinAnswer
  split
  extract_lets v4 v5
  clear_value v4
  have h6 : Keeps W z v5 := by
    unfold v5
    split
    · apply parityError_keeps
      · with_reducible assumption
      · with_reducible assumption
    · with_reducible assumption
  clear_value v5
  apply put_keeps
  · exact Sub.up (by decide) hW
  · with_reducible assumption

theorem bucketAdd_keeps {W : Nat} {z : State} (s : State) (k : ℕ) (page : ℕ) (cls : ℕ) (reg : ℕ) (hW : Sub 107062788
    W) (h_s : Keeps W z s) :
    Keeps W z (bucketAdd s k page cls reg) := by
  unfold bucketAdd
  extract_lets v0 v1 v2
  clear_value v0
  clear_value v1
  have h3 : Keeps W z v2 := by
    unfold v2
    refine Keeps.congr (s := s) ?_ rfl rfl rfl rfl rfl rfl kept kept kept kept kept kept kept kept kept kept (hW.chg
        rfl) kept kept kept kept kept kept kept kept kept kept kept
    with_reducible assumption
  clear_value v2
  split
  · apply setIsr_keeps
    · exact Sub.up (by decide) hW
    · apply eventAt_keeps
      · with_reducible assumption
      · with_reducible assumption
  · refine Keeps.congr (s := s) ?_ rfl rfl rfl rfl rfl rfl kept kept kept kept kept kept kept kept kept kept (hW.chg
        rfl) kept kept kept kept kept kept kept kept kept kept kept
    with_reducible assumption

theorem basinCorrected_keeps {W : Nat} {z : State} (s : State) (g : ℕ) (o : ℕ) (n : ℕ) (bit : ℕ) (hW : Sub 107064836
    W) (h_s : Keeps W z s) :
    Keeps W z (basinCorrected s g o n bit) := by
  unfold basinCorrected
  extract_lets v0 v1
  have h2 : Keeps W z v0 := by
    unfold v0
    apply bucketAdd_keeps
    · exact Sub.up (by decide) hW
    · apply count_keeps
      · exact Sub.up (by decide) hW
      · with_reducible assumption
  clear_value v0
  clear_value v1
  apply bankCount_keeps
  · with_reducible assumption
  · apply scrubNote_keeps
    · exact Sub.up (by decide) hW
    · with_reducible assumption

theorem basinPut_keeps {W : Nat} {z : State} (s : State) (g : ℕ) (o : ℕ) (bs : Bytes) (c : ℕ) (hW : Sub 524400 W)
    (h_s : Keeps W z s) :
    Keeps W z (basinPut s g o bs c) := by
  unfold basinPut
  split
  · apply setPoison_keeps
    · exact Sub.up (by decide) hW
    · apply setBytes_keeps
      · exact Sub.up (by decide) hW
      · with_reducible assumption
  · refine Keeps.congr (s := s) ?_ rfl rfl rfl rfl rfl rfl kept kept kept kept kept kept kept kept kept kept kept
        kept kept kept kept kept (hW.chg rfl) kept kept kept kept kept
    with_reducible assumption

theorem basinUncorrectable_keeps {W : Nat} {z : State} (s : State) (g : ℕ) (o : ℕ) (n : ℕ) (hW : Sub 107589236 W)
    (h_s : Keeps W z s) :
    Keeps W z (basinUncorrectable s g o n) := by
  unfold basinUncorrectable
  extract_lets v0 v1 v2 v3
  clear_value v0
  have h4 : Keeps W z v1 := by
    unfold v1
    apply event_keeps
    · exact Sub.up (by decide) hW
    · apply count_keeps
      · exact Sub.up (by decide) hW
      · with_reducible assumption
  clear_value v1
  clear_value v2
  have h5 : Keeps W z v3 := by
    unfold v3
    apply scrubNote_keeps
    · exact Sub.up (by decide) hW
    · with_reducible assumption
  clear_value v3
  apply bankCount_keeps
  · exact Sub.up (by decide) hW
  · apply basinPut_keeps
    · exact Sub.up (by decide) hW
    · with_reducible assumption

end Sys2Proof.Machine
end

