-- ==== Sys2Proof/Laws/Keeps3.lean ====
section
/-!
SUPPORT. Each operation keeps what Keeps.lean names, part 3: one lemma an operation, in the order of use.
-/
namespace Sys2Proof.Machine

theorem basinDecode_keeps {W : Nat} {z : State} (s : State) (g : ℕ) (o : ℕ) (n : ℕ) (u0 : ℕ) (u1 : ℕ) (hW : Sub
    107589236 W) (h_s : Keeps W z s) :
    Keeps W z (basinDecode s g o n u0 u1) := by
  unfold basinDecode
  split
  extract_lets v4 v5 v6 v7 v8
  clear_value v4
  clear_value v5
  have h9 : ∀ q1, Keeps W z q1 → Keeps W z (v6 q1) := by
    unfold v6
    intro y10 y11
    refine foldl_keeps (P := Keeps W z) ?_ ?_
    · with_reducible assumption
    · intro y12 y13 y14
      apply basinCorrected_keeps
      · exact Sub.up (by decide) hW
      · with_reducible assumption
  clear_value v6
  clear_value v7
  clear_value v8
  split
  · split
    · with_reducible assumption
    · apply h9
      apply basinPut_keeps
      · exact Sub.up (by decide) hW
      · with_reducible assumption
  · extract_lets v29 v30
    clear_value v29
    clear_value v30
    split
    · split
      · with_reducible assumption
      · apply h9
        apply basinPut_keeps
        · exact Sub.up (by decide) hW
        · with_reducible assumption
    · apply basinUncorrectable_keeps
      · with_reducible assumption
      · apply h9
        with_reducible assumption
  · apply basinUncorrectable_keeps
    · with_reducible assumption
    · apply h9
      with_reducible assumption

theorem basinWrite_keeps {W : Nat} {z : State} (s : State) (g : ℕ) (o : ℕ) (n : ℕ) (u0 : ℕ) (u1 : ℕ) (data : Bytes)
    (mask : BitVec 64) (pcode : ℕ) (parity : Bool) (hW : Sub 107589236 W) (h_s : Keeps W z s) :
    Keeps W z (basinWrite s g o n u0 u1 data mask pcode parity) := by
  unfold basinWrite
  extract_lets v0 v1
  clear_value v0
  have h2 : Keeps W z v1 := by
    unfold v1
    split
    · with_reducible assumption
    · apply basinDecode_keeps
      · with_reducible assumption
      · with_reducible assumption
  clear_value v1
  split
  extract_lets v9
  have h10 : Keeps W z v9 := by
    unfold v9
    split
    · apply basinPut_keeps
      · exact Sub.up (by decide) hW
      · apply parityError_keeps
        · exact Sub.up (by decide) hW
        · with_reducible assumption
    · split
      · apply basinPut_keeps
        · exact Sub.up (by decide) hW
        · with_reducible assumption
      · split
        · apply basinPut_keeps
          · exact Sub.up (by decide) hW
          · with_reducible assumption
        · split
          · with_reducible assumption
          · apply basinPut_keeps
            · exact Sub.up (by decide) hW
            · with_reducible assumption
  clear_value v9
  split
  · apply markLines_keeps
    · exact Sub.up (by decide) hW
    · with_reducible assumption
  · with_reducible assumption

theorem modPair_keeps {W : Nat} {z : State} (s : State) (f : PairSt → PairSt) (hW : Sub 2097152 W) (h_s : Keeps W z
    s) :
    Keeps W z (modPair s f) := by
  unfold modPair
  refine Keeps.congr (s := s) ?_ rfl rfl rfl rfl rfl rfl kept kept kept kept kept kept kept kept kept kept kept kept
      kept kept kept kept kept kept (hW.chg rfl) kept kept kept
  with_reducible assumption

theorem driveTaken_keeps {W : Nat} {z : State} (s : State) (d : ℕ) (hW : Sub 4 W) (h_s : Keeps W z s) :
    Keeps W z (driveTaken s d) := by
  unfold driveTaken
  apply setHeld_keeps
  · with_reducible assumption
  · apply setDrv_keeps
    · with_reducible assumption
    · with_reducible assumption

theorem drivesTaken_keeps {W : Nat} {z : State} (s : State) (hW : Sub 33554436 W) (h_s : Keeps W z s) :
    Keeps W z (drivesTaken s) := by
  unfold drivesTaken
  apply drvGauges_keeps
  · with_reducible assumption
  · refine foldl_keeps (P := Keeps W z) ?_ ?_
    · with_reducible assumption
    · intro y0 y1 y2
      apply driveTaken_keeps
      · exact Sub.up (by decide) hW
      · with_reducible assumption

theorem dropRunnel_keeps {W : Nat} {z : State} (s : State) (hW : Sub 2097664 W) (h_s : Keeps W z s) :
    Keeps W z (dropRunnel s) := by
  unfold dropRunnel
  extract_lets v0 v1 v2
  clear_value v0
  have h3 : ∀ q1 q2, Keeps W z q1 → Keeps W z (v1 q1 q2) := by
    unfold v1
    intro y4 y5 y6
    extract_lets v7
    clear_value v7
    apply setSched_keeps
    · exact Sub.up (by decide) hW
    · with_reducible assumption
  clear_value v1
  clear_value v2
  apply h3
  apply h3
  refine Keeps.congr (s := s) ?_ rfl rfl rfl rfl rfl rfl kept kept kept kept kept kept kept kept kept kept kept kept
      kept kept kept kept kept kept (hW.chg rfl) kept kept kept
  with_reducible assumption

theorem setPair_keeps {W : Nat} {z : State} (s : State) (st : ℕ) (hW : Sub 107062788 W) (h_s : Keeps W z s) :
    Keeps W z (setPair s st) := by
  unfold setPair
  split
  · with_reducible assumption
  · extract_lets v2 v3 v4
    have h5 : Keeps W z v2 := by
      unfold v2
      apply wf_keeps
      · exact Sub.up (by decide) hW
      · with_reducible assumption
    clear_value v2
    have h6 : Keeps W z v3 := by
      unfold v3
      apply eventAt_keeps
      · with_reducible assumption
      · with_reducible assumption
    clear_value v3
    have h7 : Keeps W z v4 := by
      unfold v4
      apply modPair_keeps
      · exact Sub.up (by decide) hW
      · with_reducible assumption
    clear_value v4
    split
    · apply dropRunnel_keeps
      · exact Sub.up (by decide) hW
      · with_reducible assumption
    · with_reducible assumption

theorem pairAlone_keeps {W : Nat} {z : State} (s : State) (hW : Sub 2097152 W) (h_s : Keeps W z s) :
    Keeps W z (pairAlone s) := by
  unfold pairAlone
  apply modPair_keeps
  · with_reducible assumption
  · with_reducible assumption

theorem voidTiles_keeps {W : Nat} {z : State} (s : State) (p : Tile → Bool) (hW : Sub 2048 W) (h_s : Keeps W z s) :
    Keeps W z (voidTiles s p) := by
  unfold voidTiles
  refine Keeps.congr (s := s) ?_ rfl rfl rfl rfl rfl rfl kept kept kept kept kept kept kept kept (hW.chg rfl) kept
      kept kept kept kept kept kept kept kept kept kept kept kept
  with_reducible assumption

theorem voidMsgs_keeps {W : Nat} {z : State} (s : State) (p : ℕ → MsgEntry → Bool) (hW : Sub 4096 W) (h_s : Keeps W z
    s) :
    Keeps W z (voidMsgs s p) := by
  unfold voidMsgs
  extract_lets v0 v1
  clear_value v0
  clear_value v1
  refine Keeps.congr (s := s) ?_ rfl rfl rfl rfl rfl rfl kept kept kept kept kept kept kept kept kept (hW.chg rfl)
      kept kept kept kept kept kept kept kept kept kept kept kept
  with_reducible assumption

theorem voidReqs_keeps {W : Nat} {z : State} (s : State) (p : HomeReq → Bool) (hW : Sub 256 W) (h_s : Keeps W z s) :
    Keeps W z (voidReqs s p) := by
  unfold voidReqs
  extract_lets v0 v1
  clear_value v0
  clear_value v1
  refine Keeps.congr (s := s) ?_ rfl rfl rfl rfl rfl rfl kept kept kept kept kept (hW.chg rfl) kept kept kept kept
      kept kept kept kept kept kept kept kept kept kept kept kept
  with_reducible assumption

theorem voidAll_keeps {W : Nat} {z : State} (s : State) (hW : Sub 6400 W) (h_s : Keeps W z s) :
    Keeps W z (voidAll s) := by
  unfold voidAll
  extract_lets v0 v1
  have h2 : Keeps W z v0 := by
    unfold v0
    apply voidTiles_keeps
    · exact Sub.up (by decide) hW
    · apply voidMsgs_keeps
      · exact Sub.up (by decide) hW
      · apply voidReqs_keeps
        · exact Sub.up (by decide) hW
        · with_reducible assumption
  clear_value v0
  clear_value v1
  refine Keeps.congr (s := v0) ?_ rfl rfl rfl rfl rfl rfl kept kept kept kept kept kept kept kept (hW.chg rfl) kept
      kept kept kept kept kept kept kept kept kept kept kept kept
  with_reducible assumption

theorem poisonSub_keeps {W : Nat} {z : State} (s : State) (q : ℕ) (code : ℕ) (hW : Sub 96 W) (h_s : Keeps W z s) :
    Keeps W z (poisonSub s q code) := by
  unfold poisonSub
  refine foldl_keeps (P := Keeps W z) ?_ ?_
  · with_reducible assumption
  · intro y0 y1 y2
    apply setPoison_keeps
    · with_reducible assumption
    · with_reducible assumption

theorem releaseRec_keeps {W : Nat} {z : State} (s : State) (r : SubRec) (hW : Sub 100664324 W) (h_s : Keeps W z s) :
    Keeps W z (releaseRec s r) := by
  unfold releaseRec
  split
  · apply freeFrame_keeps
    · exact Sub.up (by decide) hW
    · with_reducible assumption
  · apply freeCache_keeps
    · exact Sub.up (by decide) hW
    · apply freeFrame_keeps
      · exact Sub.up (by decide) hW
      · with_reducible assumption
  · apply freeCis_keeps
    · with_reducible assumption
    · with_reducible assumption
  · with_reducible assumption

theorem dropMerges_keeps {W : Nat} {z : State} (s : State) (q : ℕ) (hW : Sub 262148 W) (h_s : Keeps W z s) :
    Keeps W z (dropMerges s q) := by
  unfold dropMerges
  refine foldl_keeps (P := Keeps W z) ?_ ?_
  · with_reducible assumption
  · intro y0 y1 y2
    apply setMerge_keeps
    · with_reducible assumption
    · with_reducible assumption

theorem pairLose_keeps {W : Nat} {z : State} (s : State) (q : ℕ) (hW : Sub 100926580 W) (h_s : Keeps W z s) :
    Keeps W z (pairLose s q) := by
  unfold pairLose
  apply poisonSub_keeps
  · exact Sub.up (by decide) hW
  · apply setSub_keeps
    · exact Sub.up (by decide) hW
    · apply zeroSub_keeps
      · exact Sub.up (by decide) hW
      · apply releaseRec_keeps
        · exact Sub.up (by decide) hW
        · apply dropMerges_keeps
          · exact Sub.up (by decide) hW
          · with_reducible assumption

theorem recallLines_keeps {W : Nat} {z : State} (s : State) (p : ℕ → Bool) (discard : Bool) (hW : Sub 107347828 W)
    (h_s : Keeps W z s) :
    Keeps W z (recallLines s p discard) := by
  unfold recallLines
  refine foldl_keeps (P := Keeps W z) ?_ ?_
  · with_reducible assumption
  · intro y0 y1 y2
    extract_lets v3
    have h4 : Keeps W z v3 := by
      unfold v3
      apply settle_keeps
      · with_reducible assumption
      · apply dropDead_keeps
        · with_reducible assumption
        · with_reducible assumption
    clear_value v3
    split
    · with_reducible assumption
    · apply settle_keeps
      · with_reducible assumption
      · apply openTran_keeps
        · with_reducible assumption
        · apply count_keeps
          · exact Sub.up (by decide) hW
          · with_reducible assumption

theorem loseUnmirrored_keeps {W : Nat} {z : State} (s : State) (hW : Sub 107347828 W) (h_s : Keeps W z s) :
    Keeps W z (loseUnmirrored s) := by
  unfold loseUnmirrored
  extract_lets v0 v1 v2 v3
  have h4 : Keeps W z v0 := by
    unfold v0
    refine foldl_keeps (P := Keeps W z) ?_ ?_
    · with_reducible assumption
    · intro y5 y6 y7
      apply pairLose_keeps
      · exact Sub.up (by decide) hW
      · with_reducible assumption
  clear_value v0
  clear_value v1
  clear_value v2
  have h8 : Keeps W z v3 := by
    unfold v3
    apply recallLines_keeps
    · with_reducible assumption
    · with_reducible assumption
  clear_value v3
  apply modPair_keeps
  · exact Sub.up (by decide) hW
  · refine foldl_keeps (P := Keeps W z) ?_ ?_
    · with_reducible assumption
    · intro y9 y10 y11
      apply setPoison_keeps
      · exact Sub.up (by decide) hW
      · with_reducible assumption

theorem endAllOps_keeps {W : Nat} {z : State} (s : State) (hW : Sub 107347956 W) (h_s : Keeps W z s) :
    Keeps W z (endAllOps s) := by
  unfold endAllOps
  extract_lets v0 v1 v2 v3 v4 v5
  clear_value v0
  have h6 : Keeps W z v1 := by
    unfold v1
    refine foldl_keeps (P := Keeps W z) ?_ ?_
    · with_reducible assumption
    · intro y7 y8 y9
      extract_lets v10
      clear_value v10
      apply endWith_keeps
      · exact Sub.up (by decide) hW
      · apply modOp_keeps
        · exact Sub.up (by decide) hW
        · apply leaveQueue_keeps
          · exact Sub.up (by decide) hW
          · with_reducible assumption
  clear_value v1
  clear_value v2
  clear_value v3
  clear_value v4
  clear_value v5
  refine Keeps.congr (s := v1) ?_ rfl rfl rfl rfl rfl rfl kept kept kept (hW.chg rfl) (hW.chg rfl) kept kept kept
      (hW.chg rfl) kept kept kept kept kept kept kept kept kept kept kept kept kept
  with_reducible assumption

theorem preemptDrives_keeps {W : Nat} {z : State} (s : State) (hW : Sub 100664324 W) (h_s : Keeps W z s) :
    Keeps W z (preemptDrives s) := by
  unfold preemptDrives
  extract_lets v0
  clear_value v0
  apply drvGauges_keeps
  · exact Sub.up (by decide) hW
  · refine foldl_keeps (P := Keeps W z) ?_ ?_
    · with_reducible assumption
    · intro y1 y2 y3
      extract_lets v4 v5 v6
      have h7 : Keeps W z v4 := by
        unfold v4
        split
        · apply setDrv_keeps
          · exact Sub.up (by decide) hW
          · with_reducible assumption
        · with_reducible assumption
      clear_value v4
      have h10 : Keeps W z v5 := by
        unfold v5
        apply count_keeps
        · exact Sub.up (by decide) hW
        · apply put_keeps
          · exact Sub.up (by decide) hW
          · with_reducible assumption
      clear_value v5
      clear_value v6
      refine Keeps.congr (s := v5) ?_ rfl rfl rfl rfl rfl rfl kept kept kept kept kept kept kept (hW.chg rfl) kept
          kept kept kept kept kept kept kept kept kept kept kept kept kept
      with_reducible assumption

theorem voidPort_keeps {W : Nat} {z : State} (s : State) (p : ℕ) (hW : Sub 4352 W) (h_s : Keeps W z s) :
    Keeps W z (voidPort s p) := by
  unfold voidPort
  extract_lets v0
  clear_value v0
  apply voidMsgs_keeps
  · exact Sub.up (by decide) hW
  · apply voidReqs_keeps
    · exact Sub.up (by decide) hW
    · with_reducible assumption

theorem setLinkState_keeps {W : Nat} {z : State} (s : State) (p : ℕ) (st : ℕ) (hW : Sub 4 W) (h_s : Keeps W z s) :
    Keeps W z (setLinkState s p st) := by
  unfold setLinkState
  apply wf_keeps
  · with_reducible assumption
  · with_reducible assumption

theorem startTraining_keeps {W : Nat} {z : State} (s : State) (p : ℕ) (st : ℕ) (hW : Sub 20740 W) (h_s : Keeps W z s)
    :
    Keeps W z (startTraining s p st) := by
  unfold startTraining
  extract_lets v0 v1 v2
  have h3 : Keeps W z v0 := by
    unfold v0
    split
    · apply voidPort_keeps
      · exact Sub.up (by decide) hW
      · with_reducible assumption
    · with_reducible assumption
  clear_value v0
  have h6 : Keeps W z v1 := by
    unfold v1
    apply setLinkState_keeps
    · exact Sub.up (by decide) hW
    · with_reducible assumption
  clear_value v1
  have h7 : Keeps W z v2 := by
    unfold v2
    apply modLp_keeps
    · exact Sub.up (by decide) hW
    · with_reducible assumption
  clear_value v2
  apply modLp_keeps
  · exact Sub.up (by decide) hW
  · with_reducible assumption

theorem failUnsent_keeps {W : Nat} {z : State} (s : State) (dest : ℕ) (msgId : ℕ) (hW : Sub 107347828 W) (h_s : Keeps
    W z s) :
    Keeps W z (failUnsent s dest msgId) := by
  unfold failUnsent
  split
  · with_reducible assumption
  · apply failTile_keeps
    · with_reducible assumption
    · refine Keeps.congr (s := s) ?_ rfl rfl rfl rfl rfl rfl kept kept kept kept kept kept kept kept (hW.chg rfl)
          kept kept kept kept kept kept kept kept kept kept kept kept kept
      with_reducible assumption

theorem releaseHeld_keeps {W : Nat} {z : State} (s : State) (eid : ℕ) (hW : Sub 107347828 W) (h_s : Keeps W z s) :
    Keeps W z (releaseHeld s eid) := by
  unfold releaseHeld
  extract_lets v0 v1 v2 v3
  clear_value v0
  clear_value v1
  have h4 : Keeps W z v2 := by
    unfold v2
    refine Keeps.congr (s := s) ?_ rfl rfl rfl rfl rfl rfl kept kept kept kept kept kept kept kept kept (hW.chg rfl)
        kept kept kept kept kept kept kept kept kept kept kept kept
    with_reducible assumption
  clear_value v2
  have h5 : Keeps W z v3 := by
    unfold v3
    refine foldl_keeps (P := Keeps W z) ?_ ?_
    · with_reducible assumption
    · intro y6 y7 y8
      apply routePacket_keeps
      · exact Sub.up (by decide) hW
      · with_reducible assumption
  clear_value v3
  split
  · with_reducible assumption
  · refine foldl_keeps (P := Keeps W z) ?_ ?_
    · with_reducible assumption
    · intro y11 y12 y13
      apply failUnsent_keeps
      · with_reducible assumption
      · with_reducible assumption

theorem beginReturn_keeps {W : Nat} {z : State} (s : State) (p : ℕ) (hW : Sub 107347828 W) (h_s : Keeps W z s) :
    Keeps W z (beginReturn s p) := by
  unfold beginReturn
  extract_lets v0
  clear_value v0
  refine foldl_keeps (P := Keeps W z) ?_ ?_
  · with_reducible assumption
  · intro y1 y2 y3
    split
    · apply releaseHeld_keeps
      · with_reducible assumption
      · apply setRoute_keeps
        · exact Sub.up (by decide) hW
        · with_reducible assumption
    · apply setRoute_keeps
      · exact Sub.up (by decide) hW
      · with_reducible assumption

theorem moveRunnel_keeps {W : Nat} {z : State} (s : State) (p : ℕ) (hW : Sub 33554944 W) (h_s : Keeps W z s) :
    Keeps W z (moveRunnel s p) := by
  unfold moveRunnel
  extract_lets v0 v1
  clear_value v0
  clear_value v1
  refine foldl_keeps (P := Keeps W z) ?_ ?_
  · apply setSched_keeps
    · exact Sub.up (by decide) hW
    · with_reducible assumption
  · intro y2 y3 y4
    apply enqueue_keeps
    · with_reducible assumption
    · with_reducible assumption

theorem portUp_keeps {W : Nat} {z : State} (s : State) (p : ℕ) (hW : Sub 107347828 W) (h_s : Keeps W z s) :
    Keeps W z (portUp s p) := by
  unfold portUp
  extract_lets v0 v1 v2 v3
  clear_value v0
  clear_value v1
  have h4 : Keeps W z v2 := by
    unfold v2
    refine Keeps.congr (s := s) ?_ rfl rfl rfl rfl rfl rfl kept kept kept kept kept kept kept kept kept kept kept
        (hW.chg rfl) kept kept kept kept kept kept kept kept kept kept
    with_reducible assumption
  clear_value v2
  have h5 : Keeps W z v3 := by
    unfold v3
    apply startTraining_keeps
    · exact Sub.up (by decide) hW
    · apply wb_keeps
      · exact Sub.up (by decide) hW
      · apply setLp_keeps
        · exact Sub.up (by decide) hW
        · with_reducible assumption
  clear_value v3
  split
  · apply beginReturn_keeps
    · with_reducible assumption
    · with_reducible assumption
  · split
    · with_reducible assumption
    · apply moveRunnel_keeps
      · exact Sub.up (by decide) hW
      · with_reducible assumption

theorem setLanes_keeps {W : Nat} {z : State} (s : State) (p : ℕ) (w : ℕ) (tx : List ℕ) (rx : List ℕ) (hW : Sub 16388
    W) (h_s : Keeps W z s) :
    Keeps W z (setLanes s p w tx rx) := by
  unfold setLanes
  extract_lets v0 v1 v2 v3
  clear_value v0
  have h4 : Keeps W z v1 := by
    unfold v1
    apply wb_keeps
    · exact Sub.up (by decide) hW
    · apply wb_keeps
      · exact Sub.up (by decide) hW
      · apply wf_keeps
        · exact Sub.up (by decide) hW
        · with_reducible assumption
  clear_value v1
  have h5 : Keeps W z v2 := by
    unfold v2
    apply wf_keeps
    · exact Sub.up (by decide) hW
    · with_reducible assumption
  clear_value v2
  have h6 : Keeps W z v3 := by
    unfold v3
    apply modLp_keeps
    · with_reducible assumption
    · with_reducible assumption
  clear_value v3
  split
  · apply wf_keeps
    · exact Sub.up (by decide) hW
    · with_reducible assumption
  · apply wf_keeps
    · exact Sub.up (by decide) hW
    · with_reducible assumption

theorem loseMember_keeps {W : Nat} {z : State} (s : State) (p : ℕ) (hW : Sub 4096 W) (h_s : Keeps W z s) :
    Keeps W z (loseMember s p) := by
  unfold loseMember
  extract_lets v0 v1
  clear_value v0
  clear_value v1
  refine Keeps.congr (s := s) ?_ rfl rfl rfl rfl rfl rfl kept kept kept kept kept kept kept kept kept (hW.chg rfl)
      kept kept kept kept kept kept kept kept kept kept kept kept
  with_reducible assumption

theorem resendRunnel_keeps {W : Nat} {z : State} (s : State) (p : ℕ) (hW : Sub 35652096 W) (h_s : Keeps W z s) :
    Keeps W z (resendRunnel s p) := by
  unfold resendRunnel
  extract_lets v0 v1 v2 v3
  clear_value v0
  clear_value v1
  clear_value v2
  clear_value v3
  refine foldl_keeps (P := Keeps W z) ?_ ?_
  · apply moveRunnel_keeps
    · exact Sub.up (by decide) hW
    · refine Keeps.congr (s := s) ?_ rfl rfl rfl rfl rfl rfl kept kept kept kept kept kept kept kept kept kept kept
          kept kept kept kept kept kept kept (hW.chg rfl) kept kept kept
      with_reducible assumption
  · intro y4 y5 y6
    apply runAt_keeps
    · exact Sub.up (by decide) hW
    · with_reducible assumption

theorem mirrorFence_keeps {W : Nat} {z : State} (s : State) (i : ℕ) (timedOut : Bool) (hW : Sub 35652096 W) (h_s :
    Keeps W z s) :
    Keeps W z (mirrorFence s i timedOut) := by
  unfold mirrorFence
  split
  · split
    rename_i x1 x2 x3 x4
    have k5 := keeps_eq x4 (P := KeepsSnd W z) (by
      apply awaitMack_keeps
      · exact Sub.up (by decide) hW
      · with_reducible assumption
      )
    apply sendRunnel_keeps
    · with_reducible assumption
    · with_reducible assumption
  · with_reducible assumption

theorem setAgent_keeps {W : Nat} {z : State} (s : State) (i : ℕ) (a : Agent) (hW : Sub 256 W) (h_s : Keeps W z s) :
    Keeps W z (setAgent s i a) := by
  unfold setAgent
  refine Keeps.congr (s := s) ?_ rfl rfl rfl rfl rfl rfl kept kept kept kept kept (hW.chg rfl) kept kept kept kept
      kept kept kept kept kept kept kept kept kept kept kept kept
  with_reducible assumption

theorem recallAgent_keeps {W : Nat} {z : State} (s : State) (i : ℕ) (hW : Sub 107347828 W) (h_s : Keeps W z s) :
    Keeps W z (recallAgent s i) := by
  unfold recallAgent
  refine foldl_keeps (P := Keeps W z) ?_ ?_
  · with_reducible assumption
  · intro y0 y1 y2
    split
    · with_reducible assumption
    · apply settle_keeps
      · with_reducible assumption
      · apply openTran_keeps
        · with_reducible assumption
        · apply count_keeps
          · exact Sub.up (by decide) hW
          · with_reducible assumption

theorem fenceAgent_keeps {W : Nat} {z : State} (s : State) (i : ℕ) (hW : Sub 107347828 W) (h_s : Keeps W z s) :
    Keeps W z (fenceAgent s i) := by
  unfold fenceAgent
  extract_lets v0 v1 v2 v3
  clear_value v0
  have h4 : Keeps W z v1 := by
    unfold v1
    apply mirrorFence_keeps
    · exact Sub.up (by decide) hW
    · apply setAgent_keeps
      · exact Sub.up (by decide) hW
      · with_reducible assumption
  clear_value v1
  have h5 : Keeps W z v2 := by
    unfold v2
    apply fenceEffects_keeps
    · exact Sub.up (by decide) hW
    · with_reducible assumption
  clear_value v2
  clear_value v3
  split
  · with_reducible assumption
  · apply recallAgent_keeps
    · with_reducible assumption
    · refine Keeps.congr (s := v2) ?_ rfl rfl rfl rfl rfl rfl kept kept kept kept kept (hW.chg rfl) kept kept kept
          kept kept kept kept kept kept kept kept kept kept kept kept kept
      with_reducible assumption

theorem loseKept_keeps {W : Nat} {z : State} (s : State) (pkt : Packet) (hW : Sub 107347828 W) (h_s : Keeps W z s) :
    Keeps W z (loseKept s pkt) := by
  unfold loseKept
  split
  · split
    · apply fenceAgent_keeps
      · with_reducible assumption
      · with_reducible assumption
    · with_reducible assumption
  · split
    · split
      · apply failTile_keeps
        · with_reducible assumption
        · refine Keeps.congr (s := s) ?_ rfl rfl rfl rfl rfl rfl kept kept kept kept kept kept kept kept (hW.chg rfl)
              kept kept kept kept kept kept kept kept kept kept kept kept kept
          with_reducible assumption
      · with_reducible assumption
    · with_reducible assumption

theorem portDown_keeps {W : Nat} {z : State} (s : State) (p : ℕ) (st : ℕ) (hW : Sub 107347828 W) (h_s : Keeps W z s) :
    Keeps W z (portDown s p st) := by
  unfold portDown
  extract_lets v0 v1 v2 v3 v4 v5 v6 v7 v8 v9 v10 v11 v12 v13 v14 v15 v16
  clear_value v0
  clear_value v1
  clear_value v2
  clear_value v3
  clear_value v4
  clear_value v5
  have h17 : Keeps W z v6 := by
    unfold v6
    apply setLinkState_keeps
    · exact Sub.up (by decide) hW
    · apply voidPort_keeps
      · exact Sub.up (by decide) hW
      · with_reducible assumption
  clear_value v6
  have h18 : Keeps W z v7 := by
    unfold v7
    apply setLp_keeps
    · exact Sub.up (by decide) hW
    · with_reducible assumption
  clear_value v7
  have h19 : Keeps W z v8 := by
    unfold v8
    apply setLanes_keeps
    · exact Sub.up (by decide) hW
    · with_reducible assumption
  clear_value v8
  clear_value v9
  have h20 : Keeps W z v10 := by
    unfold v10
    refine Keeps.congr (s := v8) ?_ rfl rfl rfl rfl rfl rfl kept kept kept kept kept kept kept kept kept kept kept
        (hW.chg rfl) kept kept kept kept kept kept kept kept kept kept
    with_reducible assumption
  clear_value v10
  clear_value v11
  have h21 : Keeps W z v12 := by
    unfold v12
    apply setSched_keeps
    · exact Sub.up (by decide) hW
    · with_reducible assumption
  clear_value v12
  have h22 : Keeps W z v13 := by
    unfold v13
    refine foldl_keeps (P := Keeps W z) ?_ ?_
    · with_reducible assumption
    · intro y23 y24 y25
      apply unchargeBacklog_keeps
      · exact Sub.up (by decide) hW
      · with_reducible assumption
  clear_value v13
  have h26 : Keeps W z v14 := by
    unfold v14
    split
    · with_reducible assumption
    · apply event_keeps
      · exact Sub.up (by decide) hW
      · with_reducible assumption
  clear_value v14
  have h29 : Keeps W z v15 := by
    unfold v15
    split
    · refine foldl_keeps (P := Keeps W z) ?_ ?_
      · apply loseMember_keeps
        · exact Sub.up (by decide) hW
        · with_reducible assumption
      · intro y31 y32 y33
        apply routeNow_keeps
        · exact Sub.up (by decide) hW
        · with_reducible assumption
    · apply resendRunnel_keeps
      · exact Sub.up (by decide) hW
      · with_reducible assumption
  clear_value v15
  have h35 : Keeps W z v16 := by
    unfold v16
    refine foldl_keeps (P := Keeps W z) ?_ ?_
    · with_reducible assumption
    · intro y36 y37 y38
      apply loseKept_keeps
      · with_reducible assumption
      · with_reducible assumption
  clear_value v16
  refine foldl_keeps (P := Keeps W z) ?_ ?_
  · with_reducible assumption
  · intro y39 y40 y41
    extract_lets v42
    clear_value v42
    split
    · apply fenceUnreachable_keeps
      · exact Sub.up (by decide) hW
      · with_reducible assumption
    · apply setRoute_keeps
      · exact Sub.up (by decide) hW
      · with_reducible assumption

theorem servicePorts_keeps {W : Nat} {z : State} (s : State) (on : Bool) (hW : Sub 107347828 W) (h_s : Keeps W z s) :
    Keeps W z (servicePorts s on) := by
  unfold servicePorts
  refine foldl_keeps (P := Keeps W z) ?_ ?_
  · with_reducible assumption
  · intro y0 y1 y2
    split
    · split
      · apply portUp_keeps
        · with_reducible assumption
        · with_reducible assumption
      · with_reducible assumption
    · split
      · apply portDown_keeps
        · with_reducible assumption
        · apply wb_keeps
          · exact Sub.up (by decide) hW
          · with_reducible assumption
      · with_reducible assumption

theorem portsFollow_keeps {W : Nat} {z : State} (s : State) (hW : Sub 107347828 W) (h_s : Keeps W z s) :
    Keeps W z (portsFollow s) := by
  unfold portsFollow
  apply servicePorts_keeps
  · with_reducible assumption
  · with_reducible assumption

theorem takeover_keeps {W : Nat} {z : State} (s : State) (hW : Sub 107479028 W) (h_s : Keeps W z s) :
    Keeps W z (takeover s) := by
  unfold takeover
  extract_lets v0 v1 v2 v3 v4
  clear_value v0
  have h5 : Keeps W z v1 := by
    unfold v1
    apply setPair_keeps
    · exact Sub.up (by decide) hW
    · refine Keeps.congr (s := s) ?_ rfl rfl rfl rfl rfl rfl kept kept kept kept kept kept kept kept kept kept kept
          kept kept kept (hW.chg rfl) kept kept kept kept kept kept kept
      with_reducible assumption
  clear_value v1
  have h6 : Keeps W z v2 := by
    unfold v2
    apply modPair_keeps
    · exact Sub.up (by decide) hW
    · apply pairAlone_keeps
      · exact Sub.up (by decide) hW
      · apply voidAll_keeps
        · exact Sub.up (by decide) hW
        · with_reducible assumption
  clear_value v2
  have h7 : Keeps W z v3 := by
    unfold v3
    apply loseUnmirrored_keeps
    · exact Sub.up (by decide) hW
    · apply endAllOps_keeps
      · exact Sub.up (by decide) hW
      · apply preemptDrives_keeps
        · exact Sub.up (by decide) hW
        · with_reducible assumption
  clear_value v3
  have h8 : Keeps W z v4 := by
    unfold v4
    apply event_keeps
    · exact Sub.up (by decide) hW
    · with_reducible assumption
  clear_value v4
  apply portsFollow_keeps
  · exact Sub.up (by decide) hW
  · with_reducible assumption

theorem tierReady_keeps {W : Nat} {z : State} (s : State) (q : ℕ) (hW : Sub 107347828 W) (h_s : Keeps W z s) :
    Keeps W z (tierReady s q) := by
  unfold tierReady
  refine foldl_keeps (P := Keeps W z) ?_ ?_
  · with_reducible assumption
  · intro y0 y1 y2
    split
    · apply advance_keeps
      · with_reducible assumption
      · apply setTran_keeps
        · exact Sub.up (by decide) hW
        · with_reducible assumption
    · with_reducible assumption

theorem retryTier_keeps {W : Nat} {z : State} (s : State) (hW : Sub 107347828 W) (h_s : Keeps W z s) :
    Keeps W z (retryTier s) := by
  unfold retryTier
  refine foldl_keeps (P := Keeps W z) ?_ ?_
  · with_reducible assumption
  · intro y0 y1 y2
    split
    · with_reducible assumption
    · split
      · apply startPromote_keeps
        · exact Sub.up (by decide) hW
        · with_reducible assumption
      · apply tierReady_keeps
        · with_reducible assumption
        · with_reducible assumption

theorem loseSub_keeps {W : Nat} {z : State} (s : State) (q : ℕ) (hW : Sub 33555572 W) (h_s : Keeps W z s) :
    Keeps W z (loseSub s q) := by
  unfold loseSub
  extract_lets v0 v1
  clear_value v0
  have h2 : Keeps W z v1 := by
    unfold v1
    apply poisonSub_keeps
    · exact Sub.up (by decide) hW
    · apply zeroSub_keeps
      · exact Sub.up (by decide) hW
      · with_reducible assumption
  clear_value v1
  split
  · rename_i x3 x4 x5 x6
    have k7 := keeps_eq x6 (P := KeepsOptSnd W z) (by
      split
      · apply takeFrame_keeps
        · exact Sub.up (by decide) hW
        · with_reducible assumption
      · exact trivial
      )
    apply setSub_keeps
    · exact Sub.up (by decide) hW
    · with_reducible assumption
  · rename_i x10 x11
    have k12 := keeps_eq x11 (P := KeepsOptSnd W z) (by
      split
      · apply takeFrame_keeps
        · exact Sub.up (by decide) hW
        · with_reducible assumption
      · exact trivial
      )
    with_reducible assumption

theorem retryPromotes_keeps {W : Nat} {z : State} (s : State) (hW : Sub 107347828 W) (h_s : Keeps W z s) :
    Keeps W z (retryPromotes s) := by
  unfold retryPromotes
  extract_lets v0
  clear_value v0
  apply retryTier_keeps
  · with_reducible assumption
  · refine foldl_keeps (P := Keeps W z) ?_ ?_
    · with_reducible assumption
    · intro y1 y2 y3
      apply loseSub_keeps
      · exact Sub.up (by decide) hW
      · with_reducible assumption

theorem regrain_keeps {W : Nat} {z : State} (s : State) (g : ℕ) (q : ℕ) (hW : Sub 33555460 W) (h_s : Keeps W z s) :
    KeepsOptSnd W z (regrain s g q) := by
  unfold regrain
  extract_lets v0
  clear_value v0
  split
  · with_reducible assumption
  · split
    · exact trivial
    · unfold Option.map
      split
      · rename_i x5 x6 x7
        have k8 := keeps_eq x7 (P := KeepsOptSnd W z) (by
          apply takeFrame_keeps
          · with_reducible assumption
          · with_reducible assumption
          )
        change Keeps W z _
        dsimp only
        apply freeFrame_keeps
        · exact Sub.up (by decide) hW
        · apply setSub_keeps
          · exact Sub.up (by decide) hW
          · with_reducible assumption
      · rename_i x9 x10
        have k11 := keeps_eq x10 (P := KeepsOptSnd W z) (by
          apply takeFrame_keeps
          · with_reducible assumption
          · with_reducible assumption
          )
        with_reducible assumption

theorem migMoved_keeps {W : Nat} {z : State} (s : State) (h : ℕ) (q : ℕ) (hW : Sub 33557508 W) (h_s : Keeps W z s) :
    Keeps W z (migMoved s h q) := by
  unfold migMoved
  split
  · with_reducible assumption
  · split
    rename_i x5 x6 x7 x8
    have k9 := keeps_eq x8 (P := KeepsSnd W z) (by
      split
      · rename_i x10 x11 x12 x13
        have k14 := keeps_eq x13 (P := KeepsOptSnd W z) (by
          apply regrain_keeps
          · exact Sub.up (by decide) hW
          · with_reducible assumption
          )
        with_reducible assumption
      · rename_i x15 x16
        have k17 := keeps_eq x16 (P := KeepsOptSnd W z) (by
          apply regrain_keeps
          · exact Sub.up (by decide) hW
          · with_reducible assumption
          )
        with_reducible assumption
      )
    apply modOp_keeps
    · exact Sub.up (by decide) hW
    · with_reducible assumption

theorem demoteCommit_keeps {W : Nat} {z : State} (s : State) (q : ℕ) (hW : Sub 107347828 W) (h_s : Keeps W z s) :
    Keeps W z (demoteCommit s q) := by
  unfold demoteCommit
  split
  · with_reducible assumption
  · extract_lets v5 v6
    clear_value v5
    have h7 : Keeps W z v6 := by
      unfold v6
      apply freeFrame_keeps
      · exact Sub.up (by decide) hW
      · apply setSub_keeps
        · exact Sub.up (by decide) hW
        · apply dropMove_keeps
          · exact Sub.up (by decide) hW
          · apply dropMerges_keeps
            · exact Sub.up (by decide) hW
            · with_reducible assumption
    clear_value v6
    apply retryPromotes_keeps
    · with_reducible assumption
    · split
      · apply count_keeps
        · exact Sub.up (by decide) hW
        · with_reducible assumption
      · apply migMoved_keeps
        · exact Sub.up (by decide) hW
        · with_reducible assumption

theorem mackTake_keeps {W : Nat} {z : State} (s : State) (dir : Bool) (who : MackFor) (hW : Sub 107347828 W) (h_s :
    Keeps W z s) :
    Keeps W z (mackTake s dir who) := by
  unfold mackTake
  split
  · split
    · with_reducible assumption
    · extract_lets v7
      clear_value v7
      split
      · split
        · apply settle_keeps
          · with_reducible assumption
          · apply setTran_keeps
            · exact Sub.up (by decide) hW
            · apply respond_keeps
              · exact Sub.up (by decide) hW
              · with_reducible assumption
        · apply setTran_keeps
          · exact Sub.up (by decide) hW
          · with_reducible assumption
      · apply setTran_keeps
        · exact Sub.up (by decide) hW
        · with_reducible assumption
  · apply msgTry_keeps
    · exact Sub.up (by decide) hW
    · with_reducible assumption
  · apply demoteCommit_keeps
    · with_reducible assumption
    · with_reducible assumption
  · split
    · with_reducible assumption
    · apply freeCis_keeps
      · exact Sub.up (by decide) hW
      · with_reducible assumption
  · with_reducible assumption
  · with_reducible assumption
  · with_reducible assumption

theorem releaseMacks_keeps {W : Nat} {z : State} (s : State) (hW : Sub 107347828 W) (h_s : Keeps W z s) :
    Keeps W z (releaseMacks s) := by
  unfold releaseMacks
  extract_lets v0 v1
  clear_value v0
  have h2 : Keeps W z v1 := by
    unfold v1
    apply modPair_keeps
    · exact Sub.up (by decide) hW
    · with_reducible assumption
  clear_value v1
  refine foldl_keeps (P := Keeps W z) ?_ ?_
  · with_reducible assumption
  · intro y3 y4 y5
    apply mackTake_keeps
    · with_reducible assumption
    · with_reducible assumption

theorem goSolo_keeps {W : Nat} {z : State} (s : State) (hW : Sub 107478900 W) (h_s : Keeps W z s) :
    Keeps W z (goSolo s) := by
  unfold goSolo
  extract_lets v0 v1
  have h2 : Keeps W z v0 := by
    unfold v0
    apply armKeys_keeps
    · exact Sub.up (by decide) hW
    · with_reducible assumption
  clear_value v0
  have h3 : Keeps W z v1 := by
    unfold v1
    apply acquireDrives_keeps
    · exact Sub.up (by decide) hW
    · with_reducible assumption
  clear_value v1
  apply portsFollow_keeps
  · exact Sub.up (by decide) hW
  · apply modPair_keeps
    · exact Sub.up (by decide) hW
    · apply releaseMacks_keeps
      · exact Sub.up (by decide) hW
      · apply setPair_keeps
        · exact Sub.up (by decide) hW
        · with_reducible assumption

theorem finishStart_keeps {W : Nat} {z : State} (s : State) (hW : Sub 2129924 W) (h_s : Keeps W z s) :
    Keeps W z (finishStart s) := by
  unfold finishStart
  extract_lets v0 v1 v2
  have h3 : Keeps W z v0 := by
    unfold v0
    apply modPair_keeps
    · exact Sub.up (by decide) hW
    · with_reducible assumption
  clear_value v0
  have h4 : Keeps W z v1 := by
    unfold v1
    apply wb_keeps
    · exact Sub.up (by decide) hW
    · apply wf_keeps
      · exact Sub.up (by decide) hW
      · with_reducible assumption
  clear_value v1
  clear_value v2
  refine Keeps.congr (s := v1) ?_ rfl rfl rfl rfl rfl rfl kept kept kept kept kept kept kept kept kept kept kept kept
      (hW.chg rfl) kept kept kept kept kept kept kept kept kept
  with_reducible assumption

theorem sendKey_keeps {W : Nat} {z : State} (s : State) (d : ℕ) (k : Option (BitVec 512)) (hW : Sub 35652096 W) (h_s
    : Keeps W z s) :
    Keeps W z (sendKey s d k) := by
  unfold sendKey
  apply sendRunnel_keeps
  · with_reducible assumption
  · with_reducible assumption

theorem beginSync_keeps {W : Nat} {z : State} (s : State) (hW : Sub 35652100 W) (h_s : Keeps W z s) :
    Keeps W z (beginSync s) := by
  unfold beginSync
  extract_lets v0 v1
  clear_value v0
  have h2 : Keeps W z v1 := by
    unfold v1
    apply wr_keeps
    · exact Sub.up (by decide) hW
    · apply modPair_keeps
      · exact Sub.up (by decide) hW
      · with_reducible assumption
  clear_value v1
  refine foldl_keeps (P := Keeps W z) ?_ ?_
  · with_reducible assumption
  · intro y3 y4 y5
    split
    · apply sendKey_keeps
      · exact Sub.up (by decide) hW
      · with_reducible assumption
    · with_reducible assumption

theorem partnerSeen_keeps {W : Nat} {z : State} (s : State) (st : ℕ) (hW : Sub 107479028 W) (h_s : Keeps W z s) :
    Keeps W z (partnerSeen s st) := by
  unfold partnerSeen
  extract_lets v0 v1 v2
  have h3 : Keeps W z v0 := by
    unfold v0
    apply wf_keeps
    · exact Sub.up (by decide) hW
    · with_reducible assumption
  clear_value v0
  have h4 : Keeps W z v1 := by
    unfold v1
    split
    · apply drivesTaken_keeps
      · exact Sub.up (by decide) hW
      · with_reducible assumption
    · with_reducible assumption
  clear_value v1
  have h7 : Keeps W z v2 := by
    unfold v2
    apply modPair_keeps
    · exact Sub.up (by decide) hW
    · apply setPair_keeps
      · exact Sub.up (by decide) hW
      · with_reducible assumption
  clear_value v2
  split
  · apply takeover_keeps
    · with_reducible assumption
    · with_reducible assumption
  · apply goSolo_keeps
    · exact Sub.up (by decide) hW
    · with_reducible assumption
  · with_reducible assumption
  · apply portsFollow_keeps
    · exact Sub.up (by decide) hW
    · apply setPair_keeps
      · exact Sub.up (by decide) hW
      · with_reducible assumption
  · split
    · split
      · split
        · apply finishStart_keeps
          · exact Sub.up (by decide) hW
          · with_reducible assumption
        · with_reducible assumption
      · with_reducible assumption
    · with_reducible assumption
  · split
    · apply beginSync_keeps
      · exact Sub.up (by decide) hW
      · with_reducible assumption
    · with_reducible assumption
  · split
    · apply wr_keeps
      · exact Sub.up (by decide) hW
      · apply modPair_keeps
        · exact Sub.up (by decide) hW
        · with_reducible assumption
    · with_reducible assumption
  · with_reducible assumption

theorem beat_keeps {W : Nat} {z : State} (s : State) (hb : Heartbeat) (hW : Sub 107479028 W) (h_s : Keeps W z s) :
    Keeps W z (beat s hb) := by
  unfold beat
  split
  · apply modPair_keeps
    · exact Sub.up (by decide) hW
    · with_reducible assumption
  · extract_lets v2 v3 v4 v5
    clear_value v2
    have h6 : Keeps W z v3 := by
      unfold v3
      apply modPair_keeps
      · exact Sub.up (by decide) hW
      · with_reducible assumption
    clear_value v3
    have h7 : Keeps W z v4 := by
      unfold v4
      split
      · apply wb_keeps
        · exact Sub.up (by decide) hW
        · with_reducible assumption
      · with_reducible assumption
    clear_value v4
    have h10 : Keeps W z v5 := by
      unfold v5
      apply modPair_keeps
      · exact Sub.up (by decide) hW
      · with_reducible assumption
    clear_value v5
    apply partnerSeen_keeps
    · with_reducible assumption
    · with_reducible assumption

theorem beatPacket_keeps {W : Nat} {z : State} (s : State) (p : ℕ) (frame : ℕ) (hW : Sub 33554944 W) (h_s : Keeps W z
    s) :
    Keeps W z (beatPacket s p frame) := by
  unfold beatPacket
  split
  · apply runAt_keeps
    · with_reducible assumption
    · with_reducible assumption
  · with_reducible assumption

theorem beginCancel_keeps {W : Nat} {z : State} (s : State) (h : ℕ) (hW : Sub 107347828 W) (h_s : Keeps W z s) :
    Keeps W z (beginCancel s h) := by
  unfold beginCancel
  extract_lets v0 v1 v2 v3 v4 v5
  clear_value v0
  have h6 : Keeps W z v1 := by
    unfold v1
    refine foldl_keeps (P := Keeps W z) ?_ ?_
    · with_reducible assumption
    · intro y7 y8 y9
      apply dropUnits_keeps
      · exact Sub.up (by decide) hW
      · apply wasteTile_keeps
        · exact Sub.up (by decide) hW
        · with_reducible assumption
  clear_value v1
  clear_value v2
  clear_value v3
  have h10 : Keeps W z v4 := by
    unfold v4
    refine Keeps.congr (s := v1) ?_ rfl rfl rfl rfl rfl rfl kept kept kept kept kept kept kept kept (hW.chg rfl) kept
        kept kept kept kept kept kept kept kept kept kept kept kept
    with_reducible assumption
  clear_value v4
  have h11 : Keeps W z v5 := by
    unfold v5
    apply flushRecord_keeps
    · with_reducible assumption
    · apply arrivalEnd_keeps
      · exact Sub.up (by decide) hW
      · apply modOp_keeps
        · exact Sub.up (by decide) hW
        · with_reducible assumption
  clear_value v5
  apply settleOp_keeps
  · with_reducible assumption
  · with_reducible assumption

theorem retrain_keeps {W : Nat} {z : State} (s : State) (p : ℕ) (own : Bool) (hW : Sub 20740 W) (h_s : Keeps W z s) :
    Keeps W z (retrain s p own) := by
  unfold retrain
  extract_lets v0 v1
  clear_value v0
  have h2 : Keeps W z v1 := by
    unfold v1
    apply startTraining_keeps
    · with_reducible assumption
    · with_reducible assumption
  clear_value v1
  split
  · with_reducible assumption
  · split
    · apply ask_keeps
      · exact Sub.up (by decide) hW
      · with_reducible assumption
    · with_reducible assumption

theorem beginReplay_keeps {W : Nat} {z : State} (s : State) (p : ℕ) (seq : ℕ) (hW : Sub 20740 W) (h_s : Keeps W z s) :
    Keeps W z (beginReplay s p seq) := by
  unfold beginReplay
  extract_lets v0 v1 v2 v3 v4 v5 v6
  clear_value v0
  clear_value v1
  clear_value v2
  have h7 : Keeps W z v3 := by
    unfold v3
    apply setLp_keeps
    · exact Sub.up (by decide) hW
    · with_reducible assumption
  clear_value v3
  have h8 : Keeps W z v4 := by
    unfold v4
    apply voidPort_keeps
    · exact Sub.up (by decide) hW
    · with_reducible assumption
  clear_value v4
  clear_value v5
  have h9 : Keeps W z v6 := by
    unfold v6
    split
    · refine Keeps.congr (s := v4) ?_ rfl rfl rfl rfl rfl rfl kept kept kept kept kept kept kept kept kept kept kept
          (hW.chg rfl) kept kept kept kept kept kept kept kept kept kept
      with_reducible assumption
    · with_reducible assumption
  clear_value v6
  split
  · apply retrain_keeps
    · with_reducible assumption
    · with_reducible assumption
  · apply modLp_keeps
    · exact Sub.up (by decide) hW
    · with_reducible assumption

theorem forgetSnoops_keeps {W : Nat} {z : State} (s : State) (who : Requester) (hW : Sub 256 W) (h_s : Keeps W z s) :
    Keeps W z (forgetSnoops s who) := by
  unfold forgetSnoops
  refine Keeps.congr (s := s) ?_ rfl rfl rfl rfl rfl rfl kept kept kept kept kept (hW.chg rfl) kept kept kept kept
      kept kept kept kept kept kept kept kept kept kept kept kept
  with_reducible assumption

theorem beginRun_keeps {W : Nat} {z : State} (h : ℕ) (o : Op) (s : State) (hW : Sub 107347956 W) (h_s : Keeps W z s) :
    KeepsGo W z (beginRun h o s) := by
  unfold beginRun
  apply Go.bind_keeps
  · apply armReduction_keeps
    · with_reducible assumption
    · with_reducible assumption
  · intro y0 y1 y2
    extract_lets v3
    have h4 : Keeps W z v3 := by
      unfold v3
      apply modOp_keeps
      · exact Sub.up (by decide) hW
      · apply forgetSnoops_keeps
        · exact Sub.up (by decide) hW
        · with_reducible assumption
    clear_value v3
    change Keeps W z _
    split
    · apply beginSuspend_keeps
      · exact Sub.up (by decide) hW
      · with_reducible assumption
    · with_reducible assumption

theorem execGateCommit_keeps {W : Nat} {z : State} (id : ℕ) (port : ℕ) (value : W32) (s : State) (hW : Sub 516 W)
    (h_s : Keeps W z s) :
    KeepsRes W z (execGateCommit id port value s) := by
  unfold execGateCommit
  extract_lets v0 v1 v2 v3 v4
  clear_value v0
  clear_value v1
  have h5 : Keeps W z v2 := by
    unfold v2
    apply wr_keeps
    · exact Sub.up (by decide) hW
    · with_reducible assumption
  clear_value v2
  clear_value v3
  clear_value v4
  split
  · with_reducible assumption
  · split
    · split
      · change Keeps W z _
        apply wb_keeps
        · exact Sub.up (by decide) hW
        · apply setGate_keeps
          · exact Sub.up (by decide) hW
          · with_reducible assumption
      · change Keeps W z _
        apply wb_keeps
        · exact Sub.up (by decide) hW
        · with_reducible assumption
    · with_reducible assumption

theorem execCtxIdxWrite_keeps {W : Nat} {z : State} (id : ℕ) (value : W32) (s : State) (hW : Sub 8 W) (h_s : Keeps W
    z s) :
    KeepsRes W z (execCtxIdxWrite id value s) := by
  unfold execCtxIdxWrite
  apply guarded_keeps
  · with_reducible assumption
  · intro y0 y1
    extract_lets v2 v3
    clear_value v2
    clear_value v3
    refine foldl_keeps (P := Keeps W z) ?_ ?_
    · apply wi_keeps
      · with_reducible assumption
      · with_reducible assumption
    · intro y4 y5 y6
      apply wi_keeps
      · with_reducible assumption
      · with_reducible assumption

theorem execCtxData3Write_keeps {W : Nat} {z : State} (id : ℕ) (value : W32) (s : State) (hW : Sub 136 W) (h_s :
    Keeps W z s) :
    KeepsRes W z (execCtxData3Write id value s) := by
  unfold execCtxData3Write
  apply guarded_keeps
  · with_reducible assumption
  · intro y0 y1
    extract_lets v2 v3 v4 v5
    have h6 : Keeps W z v2 := by
      unfold v2
      apply wi_keeps
      · exact Sub.up (by decide) hW
      · with_reducible assumption
    clear_value v2
    clear_value v3
    clear_value v4
    clear_value v5
    refine Keeps.congr (s := v2) ?_ rfl rfl rfl rfl rfl rfl kept kept kept kept (hW.chg rfl) kept kept kept kept kept
        kept kept kept kept kept kept kept kept kept kept kept kept
    with_reducible assumption

theorem execAgentDataWrite_keeps {W : Nat} {z : State} (id : ℕ) (value : W32) (s : State) (hW : Sub 256 W) (h_s :
    Keeps W z s) :
    KeepsRes W z (execAgentDataWrite id value s) := by
  unfold execAgentDataWrite
  extract_lets v0 v1 v2 v3 v4 v5
  clear_value v0
  clear_value v1
  clear_value v2
  clear_value v3
  clear_value v4
  clear_value v5
  apply guarded_keeps
  · with_reducible assumption
  · intro y6 y7
    apply setAgent_keeps
    · with_reducible assumption
    · with_reducible assumption

theorem execAgentFence_keeps {W : Nat} {z : State} (id : ℕ) (agent : ℕ) (s : State) (hW : Sub 107347828 W) (h_s :
    Keeps W z s) :
    KeepsRes W z (execAgentFence id agent s) := by
  unfold execAgentFence
  apply guarded_keeps
  · with_reducible assumption
  · intro y0 y1
    apply fenceAgent_keeps
    · with_reducible assumption
    · with_reducible assumption

theorem execAgentUnfence_keeps {W : Nat} {z : State} (id : ℕ) (agent : ℕ) (s : State) (hW : Sub 256 W) (h_s : Keeps W
    z s) :
    KeepsRes W z (execAgentUnfence id agent s) := by
  unfold execAgentUnfence
  extract_lets v0
  clear_value v0
  apply guarded_keeps
  · with_reducible assumption
  · intro y1 y2
    apply setAgent_keeps
    · with_reducible assumption
    · with_reducible assumption

theorem execCisternEnable_keeps {W : Nat} {z : State} (_id : ℕ) (value : W32) (s : State) (hW : Sub 100664324 W) (h_s
    : Keeps W z s) :
    KeepsRes W z (execCisternEnable _id value s) := by
  unfold execCisternEnable
  extract_lets v0 v1 v2 v3 v4
  clear_value v0
  clear_value v1
  have h5 : Keeps W z v2 := by
    unfold v2
    apply wr_keeps
    · exact Sub.up (by decide) hW
    · with_reducible assumption
  clear_value v2
  clear_value v3
  have h6 : Keeps W z v4 := by
    unfold v4
    refine foldl_keeps (P := Keeps W z) ?_ ?_
    · with_reducible assumption
    · intro y7 y8 y9
      split
      · with_reducible assumption
      · apply setHeld_keeps
        · exact Sub.up (by decide) hW
        · apply setDrv_keeps
          · exact Sub.up (by decide) hW
          · with_reducible assumption
  clear_value v4
  split
  · with_reducible assumption
  · split
    · change Keeps W z _
      apply put_keeps
      · exact Sub.up (by decide) hW
      · with_reducible assumption
    · change Keeps W z _
      apply drvGauges_keeps
      · exact Sub.up (by decide) hW
      · apply put_keeps
        · exact Sub.up (by decide) hW
        · with_reducible assumption

theorem clear1_keeps {W : Nat} {z : State} (s : State) (a : ℕ) (v : ℕ) (mask : ℕ) (hW : Sub 4 W) (h_s : Keeps W z s) :
    Keeps W z (clear1 s a v mask) := by
  unfold clear1
  apply wr_keeps
  · with_reducible assumption
  · with_reducible assumption

theorem voidEid_keeps {W : Nat} {z : State} (s : State) (eid : ℕ) (hW : Sub 6400 W) (h_s : Keeps W z s) :
    Keeps W z (voidEid s eid) := by
  unfold voidEid
  extract_lets v0 v1
  have h2 : Keeps W z v0 := by
    unfold v0
    apply voidReqs_keeps
    · exact Sub.up (by decide) hW
    · with_reducible assumption
  clear_value v0
  have h3 : Keeps W z v1 := by
    unfold v1
    apply voidMsgs_keeps
    · exact Sub.up (by decide) hW
    · with_reducible assumption
  clear_value v1
  apply voidTiles_keeps
  · exact Sub.up (by decide) hW
  · with_reducible assumption

theorem swapDone_keeps {W : Nat} {z : State} (s : State) (eid : ℕ) (hW : Sub 107347828 W) (h_s : Keeps W z s) :
    Keeps W z (swapDone s eid) := by
  unfold swapDone
  split
  extract_lets v5 v6 v7 v8
  clear_value v5
  have h9 : Keeps W z v6 := by
    unfold v6
    apply setRoute_keeps
    · exact Sub.up (by decide) hW
    · with_reducible assumption
  clear_value v6
  clear_value v7
  have h10 : Keeps W z v8 := by
    unfold v8
    refine Keeps.congr (s := v6) ?_ rfl rfl rfl rfl rfl rfl kept kept kept kept kept kept kept kept kept (hW.chg rfl)
        kept kept kept kept kept kept kept kept kept kept kept kept
    with_reducible assumption
  clear_value v8
  apply releaseHeld_keeps
  · with_reducible assumption
  · apply wb_keeps
    · exact Sub.up (by decide) hW
    · with_reducible assumption

theorem execRouteSwap_keeps {W : Nat} {z : State} (id : ℕ) (eid : ℕ) (s : State) (hW : Sub 107347828 W) (h_s : Keeps
    W z s) :
    KeepsRes W z (execRouteSwap id eid s) := by
  unfold execRouteSwap
  apply guarded_keeps
  · with_reducible assumption
  · intro y0 y1
    extract_lets v2 v3 v4 v5
    clear_value v2
    have h6 : Keeps W z v3 := by
      unfold v3
      apply voidEid_keeps
      · exact Sub.up (by decide) hW
      · apply setRoute_keeps
        · exact Sub.up (by decide) hW
        · with_reducible assumption
    clear_value v3
    clear_value v4
    have h7 : Keeps W z v5 := by
      unfold v5
      apply wb_keeps
      · exact Sub.up (by decide) hW
      · refine Keeps.congr (s := v3) ?_ rfl rfl rfl rfl rfl rfl kept kept kept kept kept kept kept kept kept (hW.chg
            rfl) kept kept kept kept kept kept kept kept kept kept kept kept
        with_reducible assumption
    clear_value v5
    split
    · apply swapDone_keeps
      · with_reducible assumption
      · with_reducible assumption
    · with_reducible assumption

theorem execRouteSwapAbort_keeps {W : Nat} {z : State} (id : ℕ) (_eid : ℕ) (s : State) (hW : Sub 107347828 W) (h_s :
    Keeps W z s) :
    KeepsRes W z (execRouteSwapAbort id _eid s) := by
  unfold execRouteSwapAbort
  split
  · with_reducible assumption
  · apply guarded_keeps
    · with_reducible assumption
    · intro y5 y6
      extract_lets v7 v8 v9 v10
      clear_value v7
      have h11 : Keeps W z v8 := by
        unfold v8
        apply setRoute_keeps
        · exact Sub.up (by decide) hW
        · with_reducible assumption
      clear_value v8
      clear_value v9
      have h12 : Keeps W z v10 := by
        unfold v10
        refine Keeps.congr (s := v8) ?_ rfl rfl rfl rfl rfl rfl kept kept kept kept kept kept kept kept kept (hW.chg
            rfl) kept kept kept kept kept kept kept kept kept kept kept kept
        with_reducible assumption
      clear_value v10
      apply releaseHeld_keeps
      · with_reducible assumption
      · apply wb_keeps
        · exact Sub.up (by decide) hW
        · apply wb_keeps
          · exact Sub.up (by decide) hW
          · with_reducible assumption

theorem execEidFence_keeps {W : Nat} {z : State} (id : ℕ) (eid : ℕ) (s : State) (hW : Sub 33561088 W) (h_s : Keeps W
    z s) :
    KeepsRes W z (execEidFence id eid s) := by
  unfold execEidFence
  apply guarded_keeps
  · with_reducible assumption
  · intro y0 y1
    extract_lets v2 v3 v4
    clear_value v2
    clear_value v3
    have h5 : Keeps W z v4 := by
      unfold v4
      apply setRoute_keeps
      · exact Sub.up (by decide) hW
      · with_reducible assumption
    clear_value v4
    split
    · with_reducible assumption
    · apply fenceEffects_keeps
      · with_reducible assumption
      · with_reducible assumption

theorem execEidUnfence_keeps {W : Nat} {z : State} (id : ℕ) (eid : ℕ) (s : State) (hW : Sub 4096 W) (h_s : Keeps W z
    s) :
    KeepsRes W z (execEidUnfence id eid s) := by
  unfold execEidUnfence
  apply guarded_keeps
  · with_reducible assumption
  · intro y0 y1
    apply setRoute_keeps
    · with_reducible assumption
    · with_reducible assumption

theorem execMailboxBindWrite_keeps {W : Nat} {z : State} (id : ℕ) (value : W32) (s : State) (hW : Sub 65536 W) (h_s :
    Keeps W z s) :
    KeepsRes W z (execMailboxBindWrite id value s) := by
  unfold execMailboxBindWrite
  extract_lets v0 v1 v2 v3
  clear_value v0
  clear_value v1
  clear_value v2
  clear_value v3
  apply guarded_keeps
  · with_reducible assumption
  · intro y4 y5
    refine Keeps.congr (s := y4) ?_ rfl rfl rfl rfl rfl rfl kept kept kept kept kept kept kept kept kept kept kept
        kept kept (hW.chg rfl) kept kept kept kept kept kept kept kept
    with_reducible assumption

theorem blockWrite_keeps {W : Nat} {z : State} (s : State) (id : ℕ) (p : ℕ) (off : ℕ) (v : ℕ) (hW : Sub 107347964 W)
    (h_s : Keeps W z s) :
    KeepsOptRes W z (blockWrite s id p off v) := by
  unfold blockWrite
  extract_lets v0 v1
  clear_value v0
  have h2 : Keeps W z v1 := by
    unfold v1
    split
    · apply clear1_keeps
      · exact Sub.up (by decide) hW
      · with_reducible assumption
    · with_reducible assumption
  clear_value v1
  split
  · change KeepsRes W z _
    apply execGateCommit_keeps
    · exact Sub.up (by decide) hW
    · with_reducible assumption
  · split
    · change Keeps W z _
      split
      · beta_reduce
        extract_lets v9 v10
        clear_value v9
        clear_value v10
        refine foldl_keeps (P := Keeps W z) ?_ ?_
        · apply wi_keeps
          · exact Sub.up (by decide) hW
          · with_reducible assumption
        · intro y11 y12 y13
          apply wi_keeps
          · exact Sub.up (by decide) hW
          · with_reducible assumption
      · with_reducible assumption
    · split
      · change Keeps W z _
        split
        · beta_reduce
          extract_lets v18 v19 v20 v21
          have h22 : Keeps W z v18 := by
            unfold v18
            apply wi_keeps
            · exact Sub.up (by decide) hW
            · with_reducible assumption
          clear_value v18
          clear_value v19
          clear_value v20
          clear_value v21
          refine Keeps.congr (s := v18) ?_ rfl rfl rfl rfl rfl rfl kept kept kept kept (hW.chg rfl) kept kept kept
              kept kept kept kept kept kept kept kept kept kept kept kept kept kept
          with_reducible assumption
        · with_reducible assumption
      · split
        · change Keeps W z _
          split
          · beta_reduce
            apply setAgent_keeps
            · exact Sub.up (by decide) hW
            · with_reducible assumption
          · with_reducible assumption
        · split
          · change KeepsRes W z _
            split
            · apply execAgentFence_keeps
              · exact Sub.up (by decide) hW
              · with_reducible assumption
            · apply execAgentUnfence_keeps
              · exact Sub.up (by decide) hW
              · with_reducible assumption
            · with_reducible assumption
          · split
            · change KeepsRes W z _
              apply execCisternEnable_keeps
              · exact Sub.up (by decide) hW
              · with_reducible assumption
            · split
              · change KeepsRes W z _
                split
                · apply execRouteSwap_keeps
                  · exact Sub.up (by decide) hW
                  · with_reducible assumption
                · apply execRouteSwapAbort_keeps
                  · exact Sub.up (by decide) hW
                  · with_reducible assumption
                · with_reducible assumption
              · split
                · change KeepsRes W z _
                  split
                  · apply execEidFence_keeps
                    · exact Sub.up (by decide) hW
                    · with_reducible assumption
                  · apply execEidUnfence_keeps
                    · exact Sub.up (by decide) hW
                    · with_reducible assumption
                  · with_reducible assumption
                · split
                  · change Keeps W z _
                    split
                    · split
                      · beta_reduce
                        refine Keeps.congr (s := s) ?_ rfl rfl rfl rfl rfl rfl kept kept kept kept kept kept kept
                            kept kept kept kept kept kept (hW.chg rfl) kept kept kept kept kept kept kept kept
                        with_reducible assumption
                      · with_reducible assumption
                    · split
                      · beta_reduce
                        refine Keeps.congr (s := s) ?_ rfl rfl rfl rfl rfl rfl kept kept kept kept kept kept kept
                            kept kept kept kept kept kept (hW.chg rfl) kept kept kept kept kept kept kept kept
                        with_reducible assumption
                      · with_reducible assumption
                  · exact trivial

theorem setPhase_keeps {W : Nat} {z : State} (s : State) (n : ℕ) (hW : Sub 4 W) (h_s : Keeps W z s) :
    Keeps W z (setPhase s n) := by
  unfold setPhase
  apply wf_keeps
  · with_reducible assumption
  · with_reducible assumption

theorem bootArea_keeps {W : Nat} {z : State} (s : State) (b : BootInput) (hW : Sub 33555460 W) (h_s : Keeps W z s) :
    Keeps W z (bootArea s b) := by
  unfold bootArea
  extract_lets v0 v1 v2 v3 v4 v5
  clear_value v0
  clear_value v1
  clear_value v2
  clear_value v3
  clear_value v4
  have h6 : Keeps W z v5 := by
    unfold v5
    refine Keeps.congr (s := s) ?_ rfl rfl rfl rfl rfl rfl kept kept kept kept kept kept kept (hW.chg rfl) kept kept
        kept kept kept kept kept kept kept kept kept kept kept kept
    with_reducible assumption
  clear_value v5
  apply setPhase_keeps
  · exact Sub.up (by decide) hW
  · apply drvGauges_keeps
    · exact Sub.up (by decide) hW
    · apply wr_keeps
      · exact Sub.up (by decide) hW
      · with_reducible assumption

theorem drawFree_keeps {W : Nat} {z : State} (s : State) (hW : Sub 2 W) (h : Keeps W z s) : KeepsSnd W z (drawFree s)
    :=
  Keeps.core (s := s) h rfl (Nat.le_succ _) List.suffix_rfl id
    kept (hW.chg rfl) kept kept kept kept kept kept kept kept kept kept kept kept kept kept kept kept kept kept kept
        kept kept kept kept kept kept

theorem rowLedger_keeps {W : Nat} {z : State} (s : State) (hW : Sub 4 W) (h_s : Keeps W z s) :
    Keeps W z (rowLedger s) := by
  unfold rowLedger
  extract_lets v0
  clear_value v0
  apply wf_keeps
  · with_reducible assumption
  · apply wf_keeps
    · with_reducible assumption
    · with_reducible assumption

theorem remapInstall_keeps {W : Nat} {z : State} (s : State) (ch : ℕ) (slot : ℕ) (key : ℕ) (hW : Sub 262148 W) (h_s :
    Keeps W z s) :
    Keeps W z (remapInstall s ch slot key) := by
  unfold remapInstall
  extract_lets v0 v1
  clear_value v0
  have h2 : Keeps W z v1 := by
    unfold v1
    refine Keeps.congr (s := s) ?_ rfl rfl rfl rfl rfl rfl kept kept kept kept kept kept kept kept kept kept kept
        kept kept kept kept (hW.chg rfl) kept kept kept kept kept kept
    with_reducible assumption
  clear_value v1
  apply rowLedger_keeps
  · exact Sub.up (by decide) hW
  · apply wf_keeps
    · exact Sub.up (by decide) hW
    · apply wf_keeps
      · exact Sub.up (by decide) hW
      · with_reducible assumption

theorem bootRows_keeps {W : Nat} {z : State} (s : State) (ch : ℕ) (hW : Sub 262150 W) (h_s : Keeps W z s) :
    Keeps W z (bootRows s ch) := by
  unfold bootRows
  refine foldl_keeps (P := Keeps W z) ?_ ?_
  · with_reducible assumption
  · intro y0 y1 y2
    split
    rename_i x3 x4 x5 x6
    have k7 := keeps_eq x6 (P := KeepsSnd W z) (by
      apply drawFree_keeps
      · exact Sub.up (by decide) hW
      · with_reducible assumption
      )
    split
    · refine Keeps.congr (s := x5) ?_ rfl rfl rfl rfl rfl rfl kept kept kept kept kept kept kept kept kept kept kept
          kept kept kept kept (hW.chg rfl) kept kept kept kept kept kept
      with_reducible assumption
    · split
      · apply remapInstall_keeps
        · exact Sub.up (by decide) hW
        · with_reducible assumption
      · apply wb_keeps
        · exact Sub.up (by decide) hW
        · with_reducible assumption

theorem bootDram_keeps {W : Nat} {z : State} (s : State) (b : BootInput) (hW : Sub 262150 W) (h_s : Keeps W z s) :
    Keeps W z (bootDram s b) := by
  unfold bootDram
  extract_lets v0 v1 v2
  clear_value v0
  have h3 : Keeps W z v1 := by
    unfold v1
    refine foldl_keeps (P := Keeps W z) ?_ ?_
    · with_reducible assumption
    · intro y4 y5 y6
      extract_lets v7 v8
      clear_value v7
      have h9 : Keeps W z v8 := by
        unfold v8
        apply bootRows_keeps
        · with_reducible assumption
        · with_reducible assumption
      clear_value v8
      apply wf_keeps
      · exact Sub.up (by decide) hW
      · with_reducible assumption
  clear_value v1
  clear_value v2
  apply setPhase_keeps
  · exact Sub.up (by decide) hW
  · refine Keeps.congr (s := v1) ?_ rfl rfl rfl rfl rfl rfl kept kept kept kept kept kept kept kept kept kept kept
        kept kept kept kept (hW.chg rfl) kept kept kept kept kept kept
    with_reducible assumption

theorem bootDrives_keeps {W : Nat} {z : State} (s : State) (b : BootInput) (hW : Sub 67109892 W) (h_s : Keeps W z s) :
    Keeps W z (bootDrives s b) := by
  unfold bootDrives
  split
  · apply put_keeps
    · exact Sub.up (by decide) hW
    · refine foldl_keeps (P := Keeps W z) ?_ ?_
      · with_reducible assumption
      · intro y1 y2 y3
        apply setDrv_keeps
        · exact Sub.up (by decide) hW
        · with_reducible assumption
  · with_reducible assumption

theorem bootFails_keeps {W : Nat} {z : State} (s : State) (phase : ℕ) (raised : Bool) (hW : Sub 108111364 W) (h_s :
    Keeps W z s) :
    Keeps W z (bootFails s phase raised) := by
  unfold bootFails
  extract_lets v0 v1 v2
  have h3 : Keeps W z v0 := by
    unfold v0
    split
    · with_reducible assumption
    · apply eventAt_keeps
      · exact Sub.up (by decide) hW
      · with_reducible assumption
  clear_value v0
  have h6 : Keeps W z v1 := by
    unfold v1
    apply setPhase_keeps
    · exact Sub.up (by decide) hW
    · with_reducible assumption
  clear_value v1
  clear_value v2
  refine Keeps.congr (s := v1) ?_ rfl rfl rfl rfl rfl rfl kept kept kept kept kept kept kept kept kept kept kept kept
      kept kept kept kept kept (hW.chg rfl) kept kept kept kept
  with_reducible assumption

theorem drawRandom_keeps {W : Nat} {z : State} (s : State) (hW : Sub 2 W) (h : Keeps W z s) : KeepsSnd W z
    (drawRandom s) :=
  Keeps.core (s := s) h rfl (Nat.le_succ _) List.suffix_rfl id
    kept (hW.chg rfl) kept kept kept kept kept kept kept kept kept kept kept kept kept kept kept kept kept kept kept
        kept kept kept kept kept kept

theorem bootHolhild_keeps {W : Nat} {z : State} (s : State) (hW : Sub 4325382 W) (h_s : Keeps W z s) :
    Keeps W z (bootHolhild s) := by
  unfold bootHolhild
  split
  rename_i x0 x1 x2 x3
  have k4 := keeps_eq x3 (P := KeepsSnd W z) (by
    apply drawRandom_keeps
    · exact Sub.up (by decide) hW
    · with_reducible assumption
    )
  extract_lets v5 v6 v7
  clear_value v5
  clear_value v6
  clear_value v7
  apply setPhase_keeps
  · exact Sub.up (by decide) hW
  · refine Keeps.congr (s := x2) ?_ rfl rfl rfl rfl rfl rfl kept kept kept kept kept kept kept kept kept kept kept
        kept kept kept (hW.chg rfl) kept kept kept kept (hW.chg rfl) kept kept
    with_reducible assumption

theorem selectImage_keeps {W : Nat} {z : State} (s : State) (t : ℕ) (hW : Sub 107062788 W) (h_s : Keeps W z s) :
    KeepsSnd W z (selectImage s t) := by
  unfold selectImage
  extract_lets v0 v1 v2
  clear_value v0
  have h3 : ∀ q1, Keeps W z q1 → KeepsSnd W z (v1 q1) := by
    unfold v1
    intro y4 y5
    split
    · change Keeps W z _
      dsimp only
      apply imageRuns_keeps
      · exact Sub.up (by decide) hW
      · with_reducible assumption
    · change Keeps W z _
      dsimp only
      apply eventAt_keeps
      · with_reducible assumption
      · with_reducible assumption
  clear_value v1
  have h8 : Keeps W z v2 := by
    unfold v2
    split
    · apply setImg_keeps
      · exact Sub.up (by decide) hW
      · with_reducible assumption
    · with_reducible assumption
  clear_value v2
  split
  · apply h3
    with_reducible assumption
  · split
    · apply h3
      apply setImg_keeps
      · exact Sub.up (by decide) hW
      · with_reducible assumption
    · split
      · apply h3
        with_reducible assumption
      · split
        · change Keeps W z _
          dsimp only
          apply imageRuns_keeps
          · exact Sub.up (by decide) hW
          · with_reducible assumption
        · apply h3
          apply eventAt_keeps
          · with_reducible assumption
          · apply setImg_keeps
            · exact Sub.up (by decide) hW
            · with_reducible assumption

theorem selectAll_keeps {W : Nat} {z : State} (s : State) (l : List Nat) (hW : Sub 107062788 W) (h : Keeps W z s) :
    KeepsBoth W z (selectAll s l) := by
  induction l generalizing s with
  | nil => exact ⟨h, h⟩
  | cons t ts ih =>
    unfold selectAll
    have k := selectImage_keeps (W := W) (z := z) s t (Sub.up (by decide) hW) h
    split <;> rename_i e <;> rw [e] at k
    · exact ih _ k
    · exact ⟨trivial, k⟩

theorem loadProfile_keeps {W : Nat} {z : State} (s : State) (n : ℕ) (gb : ℕ) (cold : Bool) (hW : Sub 107329356 W)
    (h_s : Keeps W z s) :
    KeepsBoth W z (loadProfile s n gb cold) := by
  unfold loadProfile
  split
  · rename_i x0 x1 x2
    have k3 := keeps_eq x2 (P := KeepsSnd W z) (by
      apply selectImage_keeps
      · exact Sub.up (by decide) hW
      · with_reducible assumption
      )
    refine ⟨?_, ?_⟩
    · dsimp only
      exact trivial
    · dsimp only
      apply wf_keeps
      · exact Sub.up (by decide) hW
      · with_reducible assumption
  · rename_i x4 x5 x6 x7
    have k8 := keeps_eq x7 (P := KeepsSnd W z) (by
      apply selectImage_keeps
      · exact Sub.up (by decide) hW
      · with_reducible assumption
      )
    split
    · refine ⟨?_, ?_⟩
      · dsimp only
        exact trivial
      · dsimp only
        apply wf_keeps
        · exact Sub.up (by decide) hW
        · with_reducible assumption
    · extract_lets v14 v15 v16
      clear_value v14
      have h17 : Keeps W z v15 := by
        unfold v15
        apply wb_keeps
        · exact Sub.up (by decide) hW
        · apply wf_keeps
          · exact Sub.up (by decide) hW
          · apply wf_keeps
            · exact Sub.up (by decide) hW
            · with_reducible assumption
      clear_value v15
      have h18 : Keeps W z v16 := by
        unfold v16
        apply applyProfile_keeps
        · exact Sub.up (by decide) hW
        · with_reducible assumption
      clear_value v16
      split
      · refine ⟨?_, ?_⟩
        · dsimp only
          exact trivial
        · dsimp only
          apply wf_keeps
          · exact Sub.up (by decide) hW
          · with_reducible assumption
      · refine ⟨?_, ?_⟩
        · with_reducible assumption
        · with_reducible assumption

theorem lockMailboxes_keeps {W : Nat} {z : State} (s : State) (ms : List (ℕ × ℕ × ℕ)) (hW : Sub 65540 W) (h_s : Keeps
    W z s) :
    Keeps W z (lockMailboxes s ms) := by
  unfold lockMailboxes
  extract_lets v0 v1 v2
  clear_value v0
  clear_value v1
  have h3 : Keeps W z v2 := by
    unfold v2
    refine Keeps.congr (s := s) ?_ rfl rfl rfl rfl rfl rfl kept kept kept kept kept kept kept kept kept kept kept
        kept kept (hW.chg rfl) kept kept kept kept kept kept kept kept
    with_reducible assumption
  clear_value v2
  apply wb_keeps
  · exact Sub.up (by decide) hW
  · with_reducible assumption

theorem cdatBandwidth_keeps {W : Nat} {z : State} (s : State) (hW : Sub 32768 W) (h_s : Keeps W z s) :
    Keeps W z (cdatBandwidth s) := by
  unfold cdatBandwidth
  refine Keeps.congr (s := s) ?_ rfl rfl rfl rfl rfl rfl kept kept kept kept kept kept kept kept kept kept kept kept
      (hW.chg rfl) kept kept kept kept kept kept kept kept kept
  with_reducible assumption

theorem bootServe_keeps {W : Nat} {z : State} (s : State) (ms : List (ℕ × ℕ × ℕ)) (hW : Sub 107347828 W) (h_s : Keeps
    W z s) :
    Keeps W z (bootServe s ms) := by
  unfold bootServe
  extract_lets v0 v1 v2 v3
  have h4 : Keeps W z v0 := by
    unfold v0
    apply lockMailboxes_keeps
    · exact Sub.up (by decide) hW
    · apply cdatBandwidth_keeps
      · exact Sub.up (by decide) hW
      · with_reducible assumption
  clear_value v0
  clear_value v1
  have h5 : Keeps W z v2 := by
    unfold v2
    refine Keeps.congr (s := v0) ?_ rfl rfl rfl rfl rfl rfl kept kept kept kept kept kept kept kept kept kept (hW.chg
        rfl) kept kept kept kept kept kept kept kept kept kept kept
    with_reducible assumption
  clear_value v2
  have h6 : Keeps W z v3 := by
    unfold v3
    apply portUp_keeps
    · with_reducible assumption
    · apply portUp_keeps
      · with_reducible assumption
      · with_reducible assumption
  clear_value v3
  apply setPhase_keeps
  · exact Sub.up (by decide) hW
  · apply modPair_keeps
    · exact Sub.up (by decide) hW
    · with_reducible assumption

theorem bootMeasure_keeps {W : Nat} {z : State} (s : State) (hW : Sub 131072 W) (h_s : Keeps W z s) :
    Keeps W z (bootMeasure s) := by
  unfold bootMeasure
  extract_lets v0 v1
  clear_value v0
  clear_value v1
  refine Keeps.congr (s := s) ?_ rfl rfl rfl rfl rfl rfl kept kept kept kept kept kept kept kept kept kept kept kept
      kept kept (hW.chg rfl) kept kept kept kept kept kept kept
  with_reducible assumption

theorem bootImages_keeps {W : Nat} {z : State} (s : State) (b : BootInput) (hW : Sub 108527486 W) (h_s : Keeps W z s)
    :
    Keeps W z (bootImages s b) := by
  unfold bootImages
  split
  · rename_i x0 x1 x2
    have k3 := keeps_eq x2 (P := KeepsBoth W z) (by
      apply selectAll_keeps
      · exact Sub.up (by decide) hW
      · with_reducible assumption
      )
    obtain ⟨k3a, k3b⟩ := k3
    apply bootFails_keeps
    · exact Sub.up (by decide) hW
    · with_reducible assumption
  · rename_i x4 x5 x6 x7
    have k8 := keeps_eq x7 (P := KeepsBoth W z) (by
      apply selectAll_keeps
      · exact Sub.up (by decide) hW
      · with_reducible assumption
      )
    obtain ⟨k8a, k8b⟩ := k8
    extract_lets v9
    have h10 : Keeps W z v9 := by
      unfold v9
      apply bootHolhild_keeps
      · exact Sub.up (by decide) hW
      · with_reducible assumption
    clear_value v9
    split
    · apply bootFails_keeps
      · exact Sub.up (by decide) hW
      · with_reducible assumption
    · split
      · rename_i x13 x14 x15
        have k16 := keeps_eq x15 (P := KeepsBoth W z) (by
          apply loadProfile_keeps
          · exact Sub.up (by decide) hW
          · with_reducible assumption
          )
        obtain ⟨k16a, k16b⟩ := k16
        apply bootFails_keeps
        · exact Sub.up (by decide) hW
        · with_reducible assumption
      · rename_i x17 x18 x19 x20
        have k21 := keeps_eq x20 (P := KeepsBoth W z) (by
          apply loadProfile_keeps
          · exact Sub.up (by decide) hW
          · with_reducible assumption
          )
        obtain ⟨k21a, k21b⟩ := k21
        split
        · rename_i x22 x23 x24
          have k25 := keeps_eq x24 (P := KeepsBoth W z) (by
            apply selectAll_keeps
            · exact Sub.up (by decide) hW
            · with_reducible assumption
            )
          obtain ⟨k25a, k25b⟩ := k25
          apply bootFails_keeps
          · exact Sub.up (by decide) hW
          · with_reducible assumption
        · rename_i x26 x27 x28 x29
          have k30 := keeps_eq x29 (P := KeepsBoth W z) (by
            apply selectAll_keeps
            · exact Sub.up (by decide) hW
            · with_reducible assumption
            )
          obtain ⟨k30a, k30b⟩ := k30
          extract_lets v31 v32
          have h33 : Keeps W z v31 := by
            unfold v31
            apply bootArea_keeps
            · exact Sub.up (by decide) hW
            · apply bootDrives_keeps
              · exact Sub.up (by decide) hW
              · apply bootDram_keeps
                · exact Sub.up (by decide) hW
                · apply setPhase_keeps
                  · exact Sub.up (by decide) hW
                  · with_reducible assumption
          clear_value v31
          have h34 : Keeps W z v32 := by
            unfold v32
            apply wb_keeps
            · exact Sub.up (by decide) hW
            · with_reducible assumption
          clear_value v32
          split
          · rename_i x35 x36 x37
            have k38 := keeps_eq x37 (P := KeepsBoth W z) (by
              apply selectAll_keeps
              · exact Sub.up (by decide) hW
              · with_reducible assumption
              )
            obtain ⟨k38a, k38b⟩ := k38
            apply bootFails_keeps
            · exact Sub.up (by decide) hW
            · with_reducible assumption
          · rename_i x39 x40 x41 x42
            have k43 := keeps_eq x42 (P := KeepsBoth W z) (by
              apply selectAll_keeps
              · exact Sub.up (by decide) hW
              · with_reducible assumption
              )
            obtain ⟨k43a, k43b⟩ := k43
            apply bootServe_keeps
            · exact Sub.up (by decide) hW
            · apply bootMeasure_keeps
              · exact Sub.up (by decide) hW
              · with_reducible assumption

theorem bootStraps_keeps {W : Nat} {z : State} (s : State) (b : BootInput) (hW : Sub 5373957 W) (h_s : Keeps W z s) :
    Keeps W z (bootStraps s b) := by
  unfold bootStraps
  extract_lets v0 v1 v2 v3 v4 v5 v6 v7 v8 v9
  clear_value v0
  clear_value v1
  have h10 : Keeps W z v2 := by
    unfold v2
    refine Keeps.congr (s := s) ?_ rfl rfl rfl rfl rfl rfl (hW.chg rfl) kept kept kept kept kept kept kept kept kept
        kept kept kept kept kept kept kept (hW.chg rfl) kept kept kept kept
    with_reducible assumption
  clear_value v2
  clear_value v3
  clear_value v4
  have h11 : Keeps W z v5 := by
    unfold v5
    refine Keeps.congr (s := v2) ?_ rfl rfl rfl rfl rfl rfl kept kept kept kept kept kept kept kept kept kept kept
        kept kept kept (hW.chg rfl) kept kept kept kept (hW.chg rfl) kept kept
    with_reducible assumption
  clear_value v5
  have h12 : Keeps W z v6 := by
    unfold v6
    apply wf_keeps
    · exact Sub.up (by decide) hW
    · apply setPhase_keeps
      · exact Sub.up (by decide) hW
      · with_reducible assumption
  clear_value v6
  have h13 : Keeps W z v7 := by
    unfold v7
    apply wf_keeps
    · exact Sub.up (by decide) hW
    · apply wf_keeps
      · exact Sub.up (by decide) hW
      · with_reducible assumption
  clear_value v7
  have h14 : Keeps W z v8 := by
    unfold v8
    apply wr_keeps
    · exact Sub.up (by decide) hW
    · with_reducible assumption
  clear_value v8
  have h15 : Keeps W z v9 := by
    unfold v9
    apply wb_keeps
    · exact Sub.up (by decide) hW
    · with_reducible assumption
  clear_value v9
  split
  · apply wf_keeps
    · exact Sub.up (by decide) hW
    · with_reducible assumption
  · with_reducible assumption

theorem bringUp_keeps {W : Nat} {z : State} (s : State) (d : ℕ) (hW : Sub 67109888 W) (h_s : Keeps W z s) :
    Keeps W z (bringUp s d) := by
  unfold bringUp
  extract_lets v0
  clear_value v0
  refine foldl_keeps (P := Keeps W z) ?_ ?_
  · with_reducible assumption
  · intro y1 y2 y3
    apply issueNvme_keeps
    · with_reducible assumption
    · with_reducible assumption

theorem srstCis_keeps {W : Nat} {z : State} (s : State) (d : ℕ) (hW : Sub 67109888 W) (h_s : Keeps W z s) :
    Keeps W z (srstCis s d) := by
  unfold srstCis
  split
  · extract_lets v1 v2
    clear_value v1
    have h3 : Keeps W z v2 := by
      unfold v2
      refine Keeps.congr (s := s) ?_ rfl rfl rfl rfl rfl rfl kept kept kept kept kept kept kept (hW.chg rfl) kept
          kept kept kept kept kept kept kept kept kept kept kept kept kept
      with_reducible assumption
    clear_value v2
    apply put_keeps
    · with_reducible assumption
    · with_reducible assumption
  · with_reducible assumption

theorem srstDo_keeps {W : Nat} {z : State} (s : State) (p : ℕ) (hW : Sub 67159044 W) (h_s : Keeps W z s) :
    Keeps W z (srstDo s p) := by
  unfold srstDo
  extract_lets v0 v1 v2 v3 v4
  clear_value v0
  have h5 : Keeps W z v1 := by
    unfold v1
    refine foldl_keeps (P := Keeps W z) ?_ ?_
    · with_reducible assumption
    · intro y6 y7 y8
      apply wr_keeps
      · exact Sub.up (by decide) hW
      · with_reducible assumption
  clear_value v1
  have h9 : Keeps W z v2 := by
    unfold v2
    apply wr_keeps
    · exact Sub.up (by decide) hW
    · apply wr_keeps
      · exact Sub.up (by decide) hW
      · apply wr_keeps
        · exact Sub.up (by decide) hW
        · with_reducible assumption
  clear_value v2
  have h10 : Keeps W z v3 := by
    unfold v3
    split
    · apply srstCis_keeps
      · exact Sub.up (by decide) hW
      · with_reducible assumption
    · with_reducible assumption
  clear_value v3
  have h13 : Keeps W z v4 := by
    unfold v4
    split
    · apply modLp_keeps
      · exact Sub.up (by decide) hW
      · with_reducible assumption
    · with_reducible assumption
  clear_value v4
  apply summarize_keeps
  · exact Sub.up (by decide) hW
  · with_reducible assumption

theorem errInc_keeps {W : Nat} {z : State} (s : State) (p : ℕ) (n : ℕ) (hW : Sub 67142660 W) (h_s : Keeps W z s) :
    Keeps W z (errInc s p n) := by
  unfold errInc
  extract_lets v0
  clear_value v0
  apply setIsr_keeps
  · with_reducible assumption
  · apply wr_keeps
    · exact Sub.up (by decide) hW
    · with_reducible assumption

theorem srst_keeps {W : Nat} {z : State} (s : State) (p : ℕ) (hW : Sub 67159044 W) (h_s : Keeps W z s) :
    Keeps W z (srst s p) := by
  unfold srst
  split
  · with_reducible assumption
  · split
    · apply srstDo_keeps
      · with_reducible assumption
      · with_reducible assumption
    · apply errInc_keeps
      · exact Sub.up (by decide) hW
      · with_reducible assumption

theorem isrWrite_keeps {W : Nat} {z : State} (s : State) (p : ℕ) (v : ℕ) (hW : Sub 67142660 W) (h_s : Keeps W z s) :
    Keeps W z (isrWrite s p v) := by
  unfold isrWrite
  extract_lets v0
  clear_value v0
  apply summarize_keeps
  · with_reducible assumption
  · apply wr_keeps
    · exact Sub.up (by decide) hW
    · with_reducible assumption

theorem ierWrite_keeps {W : Nat} {z : State} (s : State) (p : ℕ) (v : ℕ) (hW : Sub 67142660 W) (h_s : Keeps W z s) :
    Keeps W z (ierWrite s p v) := by
  unfold ierWrite
  apply summarize_keeps
  · with_reducible assumption
  · apply wr_keeps
    · exact Sub.up (by decide) hW
    · with_reducible assumption

theorem faultStat_keeps {W : Nat} {z : State} (s : State) (hW : Sub 4 W) (h_s : Keeps W z s) :
    Keeps W z (faultStat s) := by
  unfold faultStat
  apply wr_keeps
  · with_reducible assumption
  · with_reducible assumption

theorem setRole_keeps {W : Nat} {z : State} (s : State) (c : ℕ) (role : ℕ) (hW : Sub 4 W) (h_s : Keeps W z s) :
    Keeps W z (setRole s c role) := by
  unfold setRole
  apply wf_keeps
  · with_reducible assumption
  · with_reducible assumption

theorem setGated_keeps {W : Nat} {z : State} (s : State) (c : ℕ) (b : Bool) (hW : Sub 4 W) (h_s : Keeps W z s) :
    Keeps W z (setGated s c b) := by
  unfold setGated
  apply wb_keeps
  · with_reducible assumption
  · with_reducible assumption

theorem warmCore_keeps {W : Nat} {z : State} (s : State) (c : ℕ) (hW : Sub 4 W) (h_s : Keeps W z s) :
    Keeps W z (warmCore s c) := by
  unfold warmCore
  extract_lets v0
  clear_value v0
  split
  · split
    · apply setRole_keeps
      · with_reducible assumption
      · with_reducible assumption
    · split
      · apply setGated_keeps
        · with_reducible assumption
        · apply wf_keeps
          · with_reducible assumption
          · apply setRole_keeps
            · with_reducible assumption
            · with_reducible assumption
      · with_reducible assumption
  · apply setGated_keeps
    · with_reducible assumption
    · with_reducible assumption

theorem warmCores_keeps {W : Nat} {z : State} (s : State) (cl : ℕ) (hW : Sub 4 W) (h_s : Keeps W z s) :
    Keeps W z (warmCores s cl) := by
  unfold warmCores
  extract_lets v0
  clear_value v0
  refine foldl_keeps (P := Keeps W z) ?_ ?_
  · with_reducible assumption
  · intro y1 y2 y3
    apply warmCore_keeps
    · with_reducible assumption
    · with_reducible assumption

theorem setBankRole_keeps {W : Nat} {z : State} (s : State) (g : ℕ) (n : ℕ) (x : ℕ) (hW : Sub 4 W) (h_s : Keeps W z
    s) :
    Keeps W z (setBankRole s g n x) := by
  unfold setBankRole
  apply wf_keeps
  · with_reducible assumption
  · with_reducible assumption

theorem warmBank_keeps {W : Nat} {z : State} (s : State) (g : ℕ) (n : ℕ) (hW : Sub 4 W) (h_s : Keeps W z s) :
    Keeps W z (warmBank s g n) := by
  unfold warmBank
  extract_lets v0
  clear_value v0
  apply setPwr_keeps
  · with_reducible assumption
  · apply setBankRole_keeps
    · with_reducible assumption
    · with_reducible assumption

theorem engineLedger_keeps {W : Nat} {z : State} (s : State) (hW : Sub 4 W) (h_s : Keeps W z s) :
    Keeps W z (engineLedger s) := by
  unfold engineLedger
  apply wf_keeps
  · with_reducible assumption
  · with_reducible assumption

theorem warmRoles_keeps {W : Nat} {z : State} (s : State) (hW : Sub 4 W) (h_s : Keeps W z s) :
    Keeps W z (warmRoles s) := by
  unfold warmRoles
  extract_lets v0 v1
  have h2 : Keeps W z v0 := by
    unfold v0
    refine foldl_keeps (P := Keeps W z) ?_ ?_
    · with_reducible assumption
    · intro y3 y4 y5
      apply warmCores_keeps
      · with_reducible assumption
      · with_reducible assumption
  clear_value v0
  have h6 : Keeps W z v1 := by
    unfold v1
    refine foldl_keeps (P := Keeps W z) ?_ ?_
    · with_reducible assumption
    · intro y7 y8 y9
      refine foldl_keeps (P := Keeps W z) ?_ ?_
      · with_reducible assumption
      · intro y10 y11 y12
        apply warmBank_keeps
        · with_reducible assumption
        · with_reducible assumption
  clear_value v1
  apply rowLedger_keeps
  · with_reducible assumption
  · apply bankLedger_keeps
    · with_reducible assumption
    · apply engineLedger_keeps
      · with_reducible assumption
      · with_reducible assumption

theorem warmDomains_keeps {W : Nat} {z : State} (s : State) (hW : Sub 115965900 W) (h_s : Keeps W z s) :
    Keeps W z (warmDomains s) := by
  unfold warmDomains
  extract_lets v0 v1 v2 v3 v4 v5 v6 v7 v8 v9 v10 v11
  clear_value v0
  clear_value v1
  clear_value v2
  have h12 : Keeps W z v3 := by
    unfold v3
    apply resetPages_keeps
    · exact Sub.up (by decide) hW
    · apply endUpdate_keeps
      · exact Sub.up (by decide) hW
      · with_reducible assumption
  clear_value v3
  clear_value v4
  clear_value v5
  clear_value v6
  clear_value v7
  clear_value v8
  have h13 : Keeps W z v9 := by
    unfold v9
    refine Keeps.congr (s := v3) ?_ rfl rfl rfl rfl rfl rfl kept (hW.chg rfl) kept (hW.chg rfl) (hW.chg rfl) (hW.chg
        rfl) (hW.chg rfl) (hW.chg rfl) (hW.chg rfl) (hW.chg rfl) (hW.chg rfl) (hW.chg rfl) kept (hW.chg rfl) kept
            kept (hW.chg rfl) kept (hW.chg rfl) kept (hW.chg rfl) kept
    with_reducible assumption
  clear_value v9
  have h14 : Keeps W z v10 := by
    unfold v10
    refine foldl_keeps (P := Keeps W z) ?_ ?_
    · with_reducible assumption
    · intro y15 y16 y17
      apply wr_keeps
      · exact Sub.up (by decide) hW
      · with_reducible assumption
  clear_value v10
  have h18 : Keeps W z v11 := by
    unfold v11
    apply faultStat_keeps
    · exact Sub.up (by decide) hW
    · apply warmRoles_keeps
      · exact Sub.up (by decide) hW
      · with_reducible assumption
  clear_value v11
  split
  · apply put_keeps
    · exact Sub.up (by decide) hW
    · with_reducible assumption
  · with_reducible assumption

theorem warmRelease_keeps {W : Nat} {z : State} (s : State) (hW : Sub 33817604 W) (h_s : Keeps W z s) :
    Keeps W z (warmRelease s) := by
  unfold warmRelease
  extract_lets v0 v1 v2
  have h3 : Keeps W z v0 := by
    unfold v0
    refine foldl_keeps (P := Keeps W z) ?_ ?_
    · with_reducible assumption
    · intro y4 y5 y6
      apply releaseCommit_keeps
      · exact Sub.up (by decide) hW
      · with_reducible assumption
  clear_value v0
  clear_value v1
  clear_value v2
  refine Keeps.congr (s := v0) ?_ rfl rfl rfl rfl rfl rfl kept kept kept kept kept kept kept (hW.chg rfl) kept kept
      kept kept kept kept kept (hW.chg rfl) kept kept kept kept kept kept
  with_reducible assumption

theorem warmImages_keeps {W : Nat} {z : State} (s : State) (hW : Sub 107329356 W) (h_s : Keeps W z s) :
    KeepsBoth W z (warmImages s) := by
  unfold warmImages
  split
  · rename_i x0 x1 x2
    have k3 := keeps_eq x2 (P := KeepsBoth W z) (by
      apply selectAll_keeps
      · exact Sub.up (by decide) hW
      · with_reducible assumption
      )
    obtain ⟨k3a, k3b⟩ := k3
    refine ⟨?_, ?_⟩
    · with_reducible assumption
    · with_reducible assumption
  · rename_i x4 x5 x6 x7
    have k8 := keeps_eq x7 (P := KeepsBoth W z) (by
      apply selectAll_keeps
      · exact Sub.up (by decide) hW
      · with_reducible assumption
      )
    obtain ⟨k8a, k8b⟩ := k8
    extract_lets v9 v10 v11 v12 v13
    clear_value v9
    clear_value v10
    clear_value v11
    have h14 : Keeps W z v12 := by
      unfold v12
      apply wf_keeps
      · exact Sub.up (by decide) hW
      · with_reducible assumption
    clear_value v12
    clear_value v13
    split
    · split
      · rename_i x16 x17 x18 x19
        have k20 := keeps_eq x19 (P := KeepsBoth W z) (by
          apply loadProfile_keeps
          · with_reducible assumption
          · with_reducible assumption
          )
        obtain ⟨k20a, k20b⟩ := k20
        extract_lets v21
        have h22 : Keeps W z v21 := by
          unfold v21
          apply wb_keeps
          · exact Sub.up (by decide) hW
          · with_reducible assumption
        clear_value v21
        refine ⟨?_, ?_⟩
        · with_reducible assumption
        · with_reducible assumption
      · rename_i x23 x24 x25
        have k26 := keeps_eq x25 (P := KeepsBoth W z) (by
          apply loadProfile_keeps
          · with_reducible assumption
          · with_reducible assumption
          )
        obtain ⟨k26a, k26b⟩ := k26
        extract_lets v27 v28
        clear_value v27
        have h29 : Keeps W z v28 := by
          unfold v28
          apply eventAt_keeps
          · exact Sub.up (by decide) hW
          · with_reducible assumption
        clear_value v28
        split
        · rename_i x30 x31 x32 x33
          have k34 := keeps_eq x33 (P := KeepsBoth W z) (by
            apply loadProfile_keeps
            · with_reducible assumption
            · with_reducible assumption
            )
          obtain ⟨k34a, k34b⟩ := k34
          extract_lets v35
          have h36 : Keeps W z v35 := by
            unfold v35
            apply wf_keeps
            · exact Sub.up (by decide) hW
            · with_reducible assumption
          clear_value v35
          refine ⟨?_, ?_⟩
          · with_reducible assumption
          · with_reducible assumption
        · rename_i x37 x38 x39
          have k40 := keeps_eq x39 (P := KeepsBoth W z) (by
            apply loadProfile_keeps
            · with_reducible assumption
            · with_reducible assumption
            )
          obtain ⟨k40a, k40b⟩ := k40
          refine ⟨?_, ?_⟩
          · with_reducible assumption
          · with_reducible assumption
    · apply loadProfile_keeps
      · with_reducible assumption
      · with_reducible assumption

theorem warmPinned_keeps {W : Nat} {z : State} (s : State) (hW : Sub 33555460 W) (h_s : Keeps W z s) :
    Keeps W z (warmPinned s) := by
  unfold warmPinned
  extract_lets v0
  clear_value v0
  refine foldl_keeps (P := Keeps W z) ?_ ?_
  · with_reducible assumption
  · intro y1 y2 y3
    apply basinEnter_keeps
    · with_reducible assumption
    · with_reducible assumption

theorem warmFinish_keeps {W : Nat} {z : State} (s : State) (hW : Sub 117440508 W) (h_s : Keeps W z s) :
    Keeps W z (warmFinish s) := by
  unfold warmFinish
  extract_lets v0 v1 v2 v3
  clear_value v0
  have h4 : Keeps W z v1 := by
    unfold v1
    apply warmDomains_keeps
    · exact Sub.up (by decide) hW
    · apply warmRelease_keeps
      · exact Sub.up (by decide) hW
      · with_reducible assumption
  clear_value v1
  clear_value v2
  have h5 : Keeps W z v3 := by
    unfold v3
    refine Keeps.congr (s := v1) ?_ rfl rfl rfl rfl rfl rfl kept kept kept kept kept kept kept kept kept kept kept
        kept kept kept kept kept kept (hW.chg rfl) kept kept kept kept
    with_reducible assumption
  clear_value v3
  split
  · rename_i x6 x7 x8
    have k9 := keeps_eq x8 (P := KeepsBoth W z) (by
      apply warmImages_keeps
      · exact Sub.up (by decide) hW
      · with_reducible assumption
      )
    obtain ⟨k9a, k9b⟩ := k9
    apply bootFails_keeps
    · exact Sub.up (by decide) hW
    · with_reducible assumption
  · rename_i x10 x11 x12 x13
    have k14 := keeps_eq x13 (P := KeepsBoth W z) (by
      apply warmImages_keeps
      · exact Sub.up (by decide) hW
      · with_reducible assumption
      )
    obtain ⟨k14a, k14b⟩ := k14
    extract_lets v15
    have h16 : Keeps W z v15 := by
      unfold v15
      apply bootMeasure_keeps
      · exact Sub.up (by decide) hW
      · apply warmPinned_keeps
        · exact Sub.up (by decide) hW
        · with_reducible assumption
    clear_value v15
    apply bootServe_keeps
    · exact Sub.up (by decide) hW
    · apply wf_keeps
      · exact Sub.up (by decide) hW
      · with_reducible assumption

end Sys2Proof.Machine
end

