-- ==== Sys2Proof/Laws/Keeps4.lean ====
section
/-!
SUPPORT. Each operation keeps what Keeps.lean names, part 4: one lemma an operation, in the order of use.
-/
namespace Sys2Proof.Machine

theorem warmGo_keeps {W : Nat} {z : State} (s : State) (hW : Sub 117440508 W) (h_s : Keeps W z s) :
    Keeps W z (warmGo s) := by
  unfold warmGo
  split
  · apply warmFinish_keeps
    · with_reducible assumption
    · with_reducible assumption
  · with_reducible assumption

theorem setCause_keeps {W : Nat} {z : State} (s : State) (b : ℕ) (hW : Sub 4 W) (h_s : Keeps W z s) :
    Keeps W z (setCause s b) := by
  unfold setCause
  apply wb_keeps
  · with_reducible assumption
  · with_reducible assumption

theorem startPause_keeps {W : Nat} {z : State} (s : State) (hW : Sub 2097152 W) (h_s : Keeps W z s) :
    Keeps W z (startPause s) := by
  unfold startPause
  apply modPair_keeps
  · with_reducible assumption
  · with_reducible assumption

theorem warmSettle_keeps {W : Nat} {z : State} (s : State) (h : ℕ) (hW : Sub 107347828 W) (h_s : Keeps W z s) :
    Keeps W z (warmSettle s h) := by
  unfold warmSettle
  split
  · with_reducible assumption
  · split
    · extract_lets v6
      have h7 : Keeps W z v6 := by
        unfold v6
        apply beginCancel_keeps
        · with_reducible assumption
        · apply modOp_keeps
          · exact Sub.up (by decide) hW
          · with_reducible assumption
      clear_value v6
      apply modOp_keeps
      · exact Sub.up (by decide) hW
      · with_reducible assumption
    · apply endWith_keeps
      · with_reducible assumption
      · apply leaveQueue_keeps
        · exact Sub.up (by decide) hW
        · with_reducible assumption

theorem warmBegin_keeps {W : Nat} {z : State} (s : State) (hW : Sub 108396404 W) (h_s : Keeps W z s) :
    Keeps W z (warmBegin s) := by
  unfold warmBegin
  extract_lets v0 v1 v2 v3 v4 v5 v6
  have h7 : Keeps W z v0 := by
    unfold v0
    apply wb_keeps
    · exact Sub.up (by decide) hW
    · with_reducible assumption
  clear_value v0
  clear_value v1
  clear_value v2
  have h8 : Keeps W z v3 := by
    unfold v3
    refine Keeps.congr (s := v0) ?_ rfl rfl rfl rfl rfl rfl kept kept kept kept kept kept kept (hW.chg rfl) kept kept
        kept kept kept kept kept kept kept (hW.chg rfl) kept kept kept kept
    with_reducible assumption
  clear_value v3
  clear_value v4
  have h9 : Keeps W z v5 := by
    unfold v5
    refine foldl_keeps (P := Keeps W z) ?_ ?_
    · with_reducible assumption
    · intro y10 y11 y12
      apply warmSettle_keeps
      · exact Sub.up (by decide) hW
      · with_reducible assumption
  clear_value v5
  have h13 : Keeps W z v6 := by
    unfold v6
    refine foldl_keeps (P := Keeps W z) ?_ ?_
    · with_reducible assumption
    · intro y14 y15 y16
      apply abandonMove_keeps
      · exact Sub.up (by decide) hW
      · with_reducible assumption
  clear_value v6
  apply recallLines_keeps
  · exact Sub.up (by decide) hW
  · with_reducible assumption

theorem warmRequest_keeps {W : Nat} {z : State} (s : State) (cause : ℕ) (b : WarmInput) (hW : Sub 117440508 W) (h_s :
    Keeps W z s) :
    Keeps W z (warmRequest s cause b) := by
  unfold warmRequest
  split
  · with_reducible assumption
  · split
    · apply warmGo_keeps
      · with_reducible assumption
      · apply setCause_keeps
        · exact Sub.up (by decide) hW
        · with_reducible assumption
    · split
      · with_reducible assumption
      · extract_lets v6 v7 v8 v9
        clear_value v6
        have h10 : Keeps W z v7 := by
          unfold v7
          apply setCause_keeps
          · exact Sub.up (by decide) hW
          · refine Keeps.congr (s := s) ?_ rfl rfl rfl rfl rfl rfl kept kept kept kept kept kept kept kept kept kept
                kept kept kept kept kept kept kept (hW.chg rfl) kept kept kept kept
            with_reducible assumption
        clear_value v7
        clear_value v8
        have h11 : Keeps W z v9 := by
          unfold v9
          refine Keeps.congr (s := v7) ?_ rfl rfl rfl rfl rfl rfl kept kept kept kept kept kept kept kept kept kept
              kept kept kept kept kept kept kept (hW.chg rfl) kept kept kept kept
          with_reducible assumption
        clear_value v9
        split
        · split
          · with_reducible assumption
          · split
            · apply sendRunnel_keeps
              · exact Sub.up (by decide) hW
              · with_reducible assumption
            · apply startPause_keeps
              · exact Sub.up (by decide) hW
              · with_reducible assumption
        · apply warmGo_keeps
          · with_reducible assumption
          · apply warmBegin_keeps
            · exact Sub.up (by decide) hW
            · with_reducible assumption

theorem execWarm_keeps {W : Nat} {z : State} (id : ℕ) (boot : WarmInput) (s : State) (hW : Sub 117440508 W) (h_s :
    Keeps W z s) :
    KeepsRes W z (execWarm id boot s) := by
  unfold execWarm
  apply guarded_keeps
  · with_reducible assumption
  · intro y0 y1
    apply warmRequest_keeps
    · with_reducible assumption
    · with_reducible assumption

theorem execMgmtRestart_keeps {W : Nat} {z : State} (id : ℕ) (s : State) (hW : Sub 113419276 W) (h_s : Keeps W z s) :
    KeepsRes W z (execMgmtRestart id s) := by
  unfold execMgmtRestart
  apply guarded_keeps
  · with_reducible assumption
  · intro y0 y1
    apply mgmtRestart_keeps
    · with_reducible assumption
    · with_reducible assumption

theorem pairAction_keeps {W : Nat} {z : State} (id : ℕ) (s : State) (ok : Bool) (f : State → State) (hW : Sub 4 W)
    (h_s : Keeps W z s) (h_f : ∀ q1, Keeps W z q1 → Keeps W z (f q1)) :
    KeepsRes W z (pairAction id s ok f) := by
  unfold pairAction
  apply guarded_keeps
  · with_reducible assumption
  · intro y0 y1
    split
    · apply h_f
      apply wb_keeps
      · with_reducible assumption
      · with_reducible assumption
    · apply wb_keeps
      · with_reducible assumption
      · with_reducible assumption

theorem discardMacks_keeps {W : Nat} {z : State} (s : State) (hW : Sub 2097408 W) (h_s : Keeps W z s) :
    Keeps W z (discardMacks s) := by
  unfold discardMacks
  extract_lets v0 v1 v2
  clear_value v0
  clear_value v1
  have h3 : Keeps W z v2 := by
    unfold v2
    refine Keeps.congr (s := s) ?_ rfl rfl rfl rfl rfl rfl kept kept kept kept kept (hW.chg rfl) kept kept kept kept
        kept kept kept kept kept kept kept kept kept kept kept kept
    with_reducible assumption
  clear_value v2
  apply modPair_keeps
  · exact Sub.up (by decide) hW
  · with_reducible assumption

theorem fenceSelf_keeps {W : Nat} {z : State} (s : State) (hW : Sub 107069188 W) (h_s : Keeps W z s) :
    Keeps W z (fenceSelf s) := by
  unfold fenceSelf
  apply modPair_keeps
  · exact Sub.up (by decide) hW
  · apply pairAlone_keeps
    · exact Sub.up (by decide) hW
    · apply discardMacks_keeps
      · exact Sub.up (by decide) hW
      · apply setPair_keeps
        · exact Sub.up (by decide) hW
        · apply voidAll_keeps
          · exact Sub.up (by decide) hW
          · with_reducible assumption

theorem execFenceSelf_keeps {W : Nat} {z : State} (id : ℕ) (s : State) (hW : Sub 107347828 W) (h_s : Keeps W z s) :
    KeepsRes W z (execFenceSelf id s) := by
  unfold execFenceSelf
  apply pairAction_keeps
  · exact Sub.up (by decide) hW
  · with_reducible assumption
  · intro y0 y1
    apply portsFollow_keeps
    · with_reducible assumption
    · apply modPair_keeps
      · exact Sub.up (by decide) hW
      · apply fenceSelf_keeps
        · exact Sub.up (by decide) hW
        · with_reducible assumption

theorem execGoSolo_keeps {W : Nat} {z : State} (id : ℕ) (s : State) (hW : Sub 107478900 W) (h_s : Keeps W z s) :
    KeepsRes W z (execGoSolo id s) := by
  unfold execGoSolo
  apply pairAction_keeps
  · exact Sub.up (by decide) hW
  · with_reducible assumption
  · intro y0 y1
    apply goSolo_keeps
    · with_reducible assumption
    · with_reducible assumption

theorem execHandover_keeps {W : Nat} {z : State} (id : ℕ) (s : State) (hW : Sub 35652100 W) (h_s : Keeps W z s) :
    KeepsRes W z (execHandover id s) := by
  unfold execHandover
  apply pairAction_keeps
  · exact Sub.up (by decide) hW
  · with_reducible assumption
  · intro y0 y1
    split
    · apply sendRunnel_keeps
      · exact Sub.up (by decide) hW
      · with_reducible assumption
    · apply startPause_keeps
      · exact Sub.up (by decide) hW
      · with_reducible assumption

theorem fwuAction_keeps {W : Nat} {z : State} (id : ℕ) (type : ℕ) (s : State) (f : State → State) (hW : Sub 4194308
    W) (h_s : Keeps W z s) (h_f : ∀ q1, Keeps W z q1 → Keeps W z (f q1)) :
    KeepsRes W z (fwuAction id type s f) := by
  unfold fwuAction
  apply guarded_keeps
  · with_reducible assumption
  · intro y0 y1
    split
    · apply h_f
      apply wb_keeps
      · exact Sub.up (by decide) hW
      · refine Keeps.congr (s := y0) ?_ rfl rfl rfl rfl rfl rfl kept kept kept kept kept kept kept kept kept kept
            kept kept kept kept kept kept kept kept kept (hW.chg rfl) kept kept
        with_reducible assumption
    · apply wb_keeps
      · exact Sub.up (by decide) hW
      · with_reducible assumption

theorem confirm_keeps {W : Nat} {z : State} (s : State) (t : ℕ) (hW : Sub 4194308 W) (h_s : Keeps W z s) :
    Keeps W z (confirm s t) := by
  unfold confirm
  extract_lets v0 v1 v2 v3
  clear_value v0
  have h4 : Keeps W z v1 := by
    unfold v1
    apply setImg_keeps
    · exact Sub.up (by decide) hW
    · with_reducible assumption
  clear_value v1
  clear_value v2
  have h5 : Keeps W z v3 := by
    unfold v3
    refine Keeps.congr (s := v1) ?_ rfl rfl rfl rfl rfl rfl kept kept kept kept kept kept kept kept kept kept kept
        kept kept kept kept kept kept kept kept (hW.chg rfl) kept kept
    with_reducible assumption
  clear_value v3
  split
  · with_reducible assumption
  · apply wf_keeps
    · exact Sub.up (by decide) hW
    · apply setFwu_keeps
      · exact Sub.up (by decide) hW
      · with_reducible assumption

theorem execFwuConfirm_keeps {W : Nat} {z : State} (id : ℕ) (type : ℕ) (s : State) (hW : Sub 4194308 W) (h_s : Keeps
    W z s) :
    KeepsRes W z (execFwuConfirm id type s) := by
  unfold execFwuConfirm
  apply fwuAction_keeps
  · with_reducible assumption
  · with_reducible assumption
  · intro y0 y1
    apply confirm_keeps
    · with_reducible assumption
    · with_reducible assumption

theorem execFwuRevert_keeps {W : Nat} {z : State} (id : ℕ) (type : ℕ) (s : State) (hW : Sub 4194308 W) (h_s : Keeps W
    z s) :
    KeepsRes W z (execFwuRevert id type s) := by
  unfold execFwuRevert
  apply fwuAction_keeps
  · with_reducible assumption
  · with_reducible assumption
  · intro y0 y1
    apply setImg_keeps
    · exact Sub.up (by decide) hW
    · with_reducible assumption

theorem execBindWrite_keeps {W : Nat} {z : State} (id : ℕ) (s : State) (hW : Sub 131076 W) (h_s : Keeps W z s) :
    KeepsRes W z (execBindWrite id s) := by
  unfold execBindWrite
  apply guarded_keeps
  · with_reducible assumption
  · intro y0 y1
    extract_lets v2
    clear_value v2
    split
    extract_lets v7 v8 v9
    clear_value v7
    have h10 : Keeps W z v8 := by
      unfold v8
      apply wf_keeps
      · exact Sub.up (by decide) hW
      · apply wb_keeps
        · exact Sub.up (by decide) hW
        · with_reducible assumption
    clear_value v8
    clear_value v9
    split
    · with_reducible assumption
    · split
      · refine Keeps.congr (s := v8) ?_ rfl rfl rfl rfl rfl rfl kept kept kept kept kept kept kept kept kept kept
            kept kept kept kept (hW.chg rfl) kept kept kept kept kept kept kept
        with_reducible assumption
      · refine Keeps.congr (s := v8) ?_ rfl rfl rfl rfl rfl rfl kept kept kept kept kept kept kept kept kept kept
            kept kept kept kept (hW.chg rfl) kept kept kept kept kept kept kept
        with_reducible assumption

theorem execBindRead_keeps {W : Nat} {z : State} (id : ℕ) (s : State) (hW : Sub 8 W) (h_s : Keeps W z s) :
    KeepsRes W z (execBindRead id s) := by
  unfold execBindRead
  apply guarded_keeps
  · with_reducible assumption
  · intro y0 y1
    extract_lets v2 v3 v4 v5 v6
    clear_value v2
    clear_value v3
    clear_value v4
    clear_value v5
    have h7 : Keeps W z v6 := by
      unfold v6
      apply wi_keeps
      · with_reducible assumption
      · apply wi_keeps
        · with_reducible assumption
        · with_reducible assumption
    clear_value v6
    apply wi_keeps
    · with_reducible assumption
    · with_reducible assumption

theorem keyFill_keeps {W : Nat} {z : State} (s : State) (d : ℕ) (k : BitVec 512) (hW : Sub 35783172 W) (h_s : Keeps W
    z s) :
    Keeps W z (keyFill s d k) := by
  unfold keyFill
  extract_lets v0 v1 v2
  clear_value v0
  clear_value v1
  have h3 : Keeps W z v2 := by
    unfold v2
    refine Keeps.congr (s := s) ?_ rfl rfl rfl rfl rfl rfl kept kept kept kept kept kept kept kept kept kept kept
        kept kept kept (hW.chg rfl) kept kept kept kept kept kept kept
    with_reducible assumption
  clear_value v2
  split
  · apply sendKey_keeps
    · exact Sub.up (by decide) hW
    · apply wb_keeps
      · exact Sub.up (by decide) hW
      · with_reducible assumption
  · with_reducible assumption

theorem keyErr_keeps {W : Nat} {z : State} (s : State) (e : Bool) (hW : Sub 4 W) (h_s : Keeps W z s) :
    Keeps W z (keyErr s e) := by
  unfold keyErr
  apply wb_keeps
  · with_reducible assumption
  · with_reducible assumption

theorem execKeyGenerate_keeps {W : Nat} {z : State} (id : ℕ) (s : State) (hW : Sub 35783174 W) (h_s : Keeps W z s) :
    KeepsRes W z (execKeyGenerate id s) := by
  unfold execKeyGenerate
  apply guarded_keeps
  · with_reducible assumption
  · intro y0 y1
    extract_lets v2
    clear_value v2
    split
    · split
      rename_i x4 x5 x6 x7
      have k8 := keeps_eq x7 (P := KeepsSnd W z) (by
        apply drawRandom_keeps
        · exact Sub.up (by decide) hW
        · with_reducible assumption
        )
      apply keyFill_keeps
      · exact Sub.up (by decide) hW
      · apply keyErr_keeps
        · exact Sub.up (by decide) hW
        · with_reducible assumption
    · apply keyErr_keeps
      · exact Sub.up (by decide) hW
      · with_reducible assumption

theorem execKeyImport_keeps {W : Nat} {z : State} (id : ℕ) (session : ℕ) (wrapped : Bytes) (s : State) (hW : Sub
    35783172 W) (h_s : Keeps W z s) :
    KeepsRes W z (execKeyImport id session wrapped s) := by
  unfold execKeyImport
  apply guarded_keeps
  · with_reducible assumption
  · intro y0 y1
    extract_lets v2 v3
    clear_value v2
    clear_value v3
    split
    · split
      · apply keyFill_keeps
        · with_reducible assumption
        · apply keyErr_keeps
          · exact Sub.up (by decide) hW
          · with_reducible assumption
      · apply keyErr_keeps
        · exact Sub.up (by decide) hW
        · with_reducible assumption
    · apply keyErr_keeps
      · exact Sub.up (by decide) hW
      · with_reducible assumption

theorem execKeyZeroise_keeps {W : Nat} {z : State} (id : ℕ) (s : State) (hW : Sub 35783172 W) (h_s : Keeps W z s) :
    KeepsRes W z (execKeyZeroise id s) := by
  unfold execKeyZeroise
  apply guarded_keeps
  · with_reducible assumption
  · intro y0 y1
    extract_lets v2 v3 v4
    clear_value v2
    clear_value v3
    have h5 : Keeps W z v4 := by
      unfold v4
      apply keyErr_keeps
      · exact Sub.up (by decide) hW
      · refine Keeps.congr (s := y0) ?_ rfl rfl rfl rfl rfl rfl kept kept kept kept kept kept kept kept kept kept
            kept kept kept kept (hW.chg rfl) kept kept kept kept kept kept kept
        with_reducible assumption
    clear_value v4
    split
    · apply keyErr_keeps
      · exact Sub.up (by decide) hW
      · with_reducible assumption
    · split
      · apply sendKey_keeps
        · exact Sub.up (by decide) hW
        · with_reducible assumption
      · with_reducible assumption

theorem execConfEnable_keeps {W : Nat} {z : State} (id : ℕ) (value : W32) (s : State) (hW : Sub 131076 W) (h_s :
    Keeps W z s) :
    KeepsRes W z (execConfEnable id value s) := by
  unfold execConfEnable
  extract_lets v0
  clear_value v0
  apply guarded_keeps
  · with_reducible assumption
  · intro y1 y2
    extract_lets v3 v4 v5
    have h6 : Keeps W z v3 := by
      unfold v3
      split
      · apply wf_keeps
        · exact Sub.up (by decide) hW
        · with_reducible assumption
      · with_reducible assumption
    clear_value v3
    have h9 : Keeps W z v4 := by
      unfold v4
      apply wb_keeps
      · exact Sub.up (by decide) hW
      · with_reducible assumption
    clear_value v4
    clear_value v5
    refine Keeps.congr (s := v4) ?_ rfl rfl rfl rfl rfl rfl kept kept kept kept kept kept kept kept kept kept kept
        kept kept kept (hW.chg rfl) kept kept kept kept kept kept kept
    with_reducible assumption

theorem execFaultQHeadWrite_keeps {W : Nat} {z : State} (_id : ℕ) (value : W32) (s : State) (hW : Sub 67150852 W)
    (h_s : Keeps W z s) :
    KeepsRes W z (execFaultQHeadWrite _id value s) := by
  unfold execFaultQHeadWrite
  extract_lets v0 v1 v2
  clear_value v0
  clear_value v1
  clear_value v2
  split
  · change Keeps W z _
    apply errInc_keeps
    · exact Sub.up (by decide) hW
    · with_reducible assumption
  · change Keeps W z _
    apply faultStat_keeps
    · exact Sub.up (by decide) hW
    · apply wr_keeps
      · exact Sub.up (by decide) hW
      · refine Keeps.congr (s := s) ?_ rfl rfl rfl rfl rfl rfl kept kept kept kept kept kept kept kept kept kept
            (hW.chg rfl) kept kept kept kept kept kept kept kept kept kept kept
        with_reducible assumption

theorem execAlertAck_keeps {W : Nat} {z : State} (_id : ℕ) (s : State) (hW : Sub 67118084 W) (h_s : Keeps W z s) :
    KeepsRes W z (execAlertAck _id s) := by
  unfold execAlertAck
  extract_lets v0 v1 v2 v3
  clear_value v0
  clear_value v1
  clear_value v2
  have h4 : Keeps W z v3 := by
    unfold v3
    apply wf_keeps
    · exact Sub.up (by decide) hW
    · refine Keeps.congr (s := s) ?_ rfl rfl rfl rfl rfl rfl kept kept kept kept kept kept kept kept kept kept
          (hW.chg rfl) kept kept kept kept kept kept kept kept kept kept kept
      with_reducible assumption
  clear_value v3
  change Keeps W z _
  split
  · apply put_keeps
    · exact Sub.up (by decide) hW
    · apply wb_keeps
      · exact Sub.up (by decide) hW
      · with_reducible assumption
  · with_reducible assumption

theorem execCpKick_keeps {W : Nat} {z : State} (id : ℕ) (s : State) (hW : Sub 8192 W) (h_s : Keeps W z s) :
    KeepsRes W z (execCpKick id s) := by
  unfold execCpKick
  apply guarded_keeps
  · with_reducible assumption
  · intro y0 y1
    refine Keeps.congr (s := y0) ?_ rfl rfl rfl rfl rfl rfl kept kept kept kept kept kept kept kept kept kept (hW.chg
        rfl) kept kept kept kept kept kept kept kept kept kept kept
    with_reducible assumption

theorem mgmtWrite_keeps {W : Nat} {z : State} (s : State) (id : ℕ) (p : ℕ) (off : ℕ) (v : ℕ) (hW : Sub 117440510 W)
    (h_s : Keeps W z s) :
    KeepsOptRes W z (mgmtWrite s id p off v) := by
  unfold mgmtWrite
  extract_lets v0 v1 v2 v3 v4
  clear_value v0
  have h5 : Keeps W z v1 := by
    unfold v1
    split
    · apply clear1_keeps
      · exact Sub.up (by decide) hW
      · with_reducible assumption
    · with_reducible assumption
  clear_value v1
  have h8 : Keeps W z v2 := by
    unfold v2
    split
    · apply clear1_keeps
      · exact Sub.up (by decide) hW
      · with_reducible assumption
    · with_reducible assumption
  clear_value v2
  have h11 : Keeps W z v3 := by
    unfold v3
    split
    · apply clear1_keeps
      · exact Sub.up (by decide) hW
      · with_reducible assumption
    · with_reducible assumption
  clear_value v3
  have h14 : Keeps W z v4 := by
    unfold v4
    split
    · apply clear1_keeps
      · exact Sub.up (by decide) hW
      · with_reducible assumption
    · with_reducible assumption
  clear_value v4
  split
  · change KeepsRes W z _
    split
    · apply execWarm_keeps
      · exact Sub.up (by decide) hW
      · with_reducible assumption
    · split
      · apply execMgmtRestart_keeps
        · exact Sub.up (by decide) hW
        · with_reducible assumption
      · with_reducible assumption
  · split
    · change KeepsRes W z _
      split
      · apply execFenceSelf_keeps
        · exact Sub.up (by decide) hW
        · with_reducible assumption
      · apply execGoSolo_keeps
        · exact Sub.up (by decide) hW
        · with_reducible assumption
      · apply execHandover_keeps
        · exact Sub.up (by decide) hW
        · with_reducible assumption
      · with_reducible assumption
    · split
      · change KeepsRes W z _
        split
        · apply execFwuConfirm_keeps
          · exact Sub.up (by decide) hW
          · with_reducible assumption
        · apply execFwuRevert_keeps
          · exact Sub.up (by decide) hW
          · with_reducible assumption
        · with_reducible assumption
      · split
        · change KeepsRes W z _
          split
          · apply execBindWrite_keeps
            · exact Sub.up (by decide) hW
            · with_reducible assumption
          · apply execBindRead_keeps
            · exact Sub.up (by decide) hW
            · with_reducible assumption
          · with_reducible assumption
        · split
          · change KeepsRes W z _
            split
            · apply execKeyGenerate_keeps
              · exact Sub.up (by decide) hW
              · with_reducible assumption
            · apply execKeyImport_keeps
              · exact Sub.up (by decide) hW
              · with_reducible assumption
            · apply execKeyZeroise_keeps
              · exact Sub.up (by decide) hW
              · with_reducible assumption
            · with_reducible assumption
          · split
            · change Keeps W z _
              split
              · beta_reduce
                extract_lets v67 v68 v69
                have h70 : Keeps W z v67 := by
                  unfold v67
                  split
                  · apply wf_keeps
                    · exact Sub.up (by decide) hW
                    · with_reducible assumption
                  · with_reducible assumption
                clear_value v67
                have h73 : Keeps W z v68 := by
                  unfold v68
                  apply wb_keeps
                  · exact Sub.up (by decide) hW
                  · with_reducible assumption
                clear_value v68
                clear_value v69
                refine Keeps.congr (s := v68) ?_ rfl rfl rfl rfl rfl rfl kept kept kept kept kept kept kept kept kept
                    kept kept kept kept kept (hW.chg rfl) kept kept kept kept kept kept kept
                with_reducible assumption
              · with_reducible assumption
            · split
              · change KeepsRes W z _
                split
                · exact trivial
                · with_reducible assumption
              · split
                · change KeepsRes W z _
                  apply execFaultQHeadWrite_keeps
                  · exact Sub.up (by decide) hW
                  · with_reducible assumption
                · split
                  · change KeepsRes W z _
                    split
                    · apply execAlertAck_keeps
                      · exact Sub.up (by decide) hW
                      · with_reducible assumption
                    · with_reducible assumption
                  · split
                    · change Keeps W z _
                      split
                      · beta_reduce
                        refine Keeps.congr (s := s) ?_ rfl rfl rfl rfl rfl rfl kept kept kept kept kept kept kept
                            kept kept kept (hW.chg rfl) kept kept kept kept kept kept kept kept kept kept kept
                        with_reducible assumption
                      · with_reducible assumption
                    · exact trivial

theorem execDlyApply_keeps {W : Nat} {z : State} (id : ℕ) (ch : ℕ) (value : W32) (s : State) (hW : Sub 262148 W) (h_s
    : Keeps W z s) :
    KeepsRes W z (execDlyApply id ch value s) := by
  unfold execDlyApply
  extract_lets v0
  clear_value v0
  apply guarded_keeps
  · with_reducible assumption
  · intro y1 y2
    extract_lets v3 v4
    have h5 : Keeps W z v3 := by
      unfold v3
      apply wr_keeps
      · exact Sub.up (by decide) hW
      · with_reducible assumption
    clear_value v3
    clear_value v4
    split
    · refine Keeps.congr (s := v3) ?_ rfl rfl rfl rfl rfl rfl kept kept kept kept kept kept kept kept kept kept kept
          kept kept kept kept (hW.chg rfl) kept kept kept kept kept kept
      with_reducible assumption
    · with_reducible assumption

theorem remapStart_keeps {W : Nat} {z : State} (s : State) (ch : ℕ) (key : ℕ) (auto : Bool) (hW : Sub 107324932 W)
    (h_s : Keeps W z s) :
    Keeps W z (remapStart s ch key auto) := by
  unfold remapStart
  split
  · apply wf_keeps
    · exact Sub.up (by decide) hW
    · apply wb_keeps
      · exact Sub.up (by decide) hW
      · with_reducible assumption
  · split
    · extract_lets v7
      have h8 : Keeps W z v7 := by
        unfold v7
        apply wb_keeps
        · exact Sub.up (by decide) hW
        · apply wb_keeps
          · exact Sub.up (by decide) hW
          · with_reducible assumption
      clear_value v7
      split
      · apply eventAt_keeps
        · exact Sub.up (by decide) hW
        · with_reducible assumption
      · with_reducible assumption
    · extract_lets v14 v15
      have h16 : Keeps W z v14 := by
        unfold v14
        apply wf_keeps
        · exact Sub.up (by decide) hW
        · apply wb_keeps
          · exact Sub.up (by decide) hW
          · apply wb_keeps
            · exact Sub.up (by decide) hW
            · apply wb_keeps
              · exact Sub.up (by decide) hW
              · with_reducible assumption
      clear_value v14
      clear_value v15
      refine Keeps.congr (s := v14) ?_ rfl rfl rfl rfl rfl rfl kept kept kept kept kept kept kept kept kept kept kept
          kept kept kept kept (hW.chg rfl) kept kept kept kept kept kept
      with_reducible assumption

theorem execRemap_keeps {W : Nat} {z : State} (id : ℕ) (ch : ℕ) (s : State) (hW : Sub 107324932 W) (h_s : Keeps W z
    s) :
    KeepsRes W z (execRemap id ch s) := by
  unfold execRemap
  apply guarded_keeps
  · with_reducible assumption
  · intro y0 y1
    apply remapStart_keeps
    · with_reducible assumption
    · with_reducible assumption

theorem execRemapLookup_keeps {W : Nat} {z : State} (id : ℕ) (ch : ℕ) (s : State) (hW : Sub 4 W) (h_s : Keeps W z s) :
    KeepsRes W z (execRemapLookup id ch s) := by
  unfold execRemapLookup
  apply guarded_keeps
  · with_reducible assumption
  · intro y0 y1
    split
    · apply wf_keeps
      · with_reducible assumption
      · apply wb_keeps
        · with_reducible assumption
        · with_reducible assumption
    · apply wb_keeps
      · with_reducible assumption
      · with_reducible assumption

theorem reserveEvent_keeps {W : Nat} {z : State} (s : State) (page : ℕ) (loc : ℕ) (left : ℕ) (hW : Sub 107062788 W)
    (h_s : Keeps W z s) :
    Keeps W z (reserveEvent s page loc left) := by
  unfold reserveEvent
  extract_lets v0
  have h1 : Keeps W z v0 := by
    unfold v0
    split
    · apply eventAt_keeps
      · with_reducible assumption
      · with_reducible assumption
    · with_reducible assumption
  clear_value v0
  apply eventAt_keeps
  · with_reducible assumption
  · with_reducible assumption

theorem execPpr_keeps {W : Nat} {z : State} (id : ℕ) (ch : ℕ) (repaired : Bool) (s : State) (hW : Sub 107324932 W)
    (h_s : Keeps W z s) :
    KeepsRes W z (execPpr id ch repaired s) := by
  unfold execPpr
  apply guarded_keeps
  · with_reducible assumption
  · intro y0 y1
    extract_lets v2 v3 v4
    clear_value v2
    clear_value v3
    have h5 : Keeps W z v4 := by
      unfold v4
      refine Keeps.congr (s := y0) ?_ rfl rfl rfl rfl rfl rfl kept kept kept kept kept kept kept kept kept kept kept
          kept kept kept kept (hW.chg rfl) kept kept kept kept kept kept
      with_reducible assumption
    clear_value v4
    split
    · apply eventAt_keeps
      · exact Sub.up (by decide) hW
      · apply wb_keeps
        · exact Sub.up (by decide) hW
        · with_reducible assumption
    · split
      · apply wf_keeps
        · exact Sub.up (by decide) hW
        · apply wb_keeps
          · exact Sub.up (by decide) hW
          · with_reducible assumption
      · extract_lets v17
        have h18 : Keeps W z v17 := by
          unfold v17
          apply wb_keeps
          · exact Sub.up (by decide) hW
          · apply remapInstall_keeps
            · exact Sub.up (by decide) hW
            · with_reducible assumption
        clear_value v17
        apply reserveEvent_keeps
        · exact Sub.up (by decide) hW
        · with_reducible assumption
      · apply wb_keeps
        · exact Sub.up (by decide) hW
        · with_reducible assumption

theorem startWidth_keeps {W : Nat} {z : State} (s : State) (p : ℕ) (w : ℕ) (hW : Sub 20740 W) (h_s : Keeps W z s) :
    Keeps W z (startWidth s p w) := by
  unfold startWidth
  split
  · with_reducible assumption
  · extract_lets v2
    have h3 : Keeps W z v2 := by
      unfold v2
      apply setLinkState_keeps
      · exact Sub.up (by decide) hW
      · apply modLp_keeps
        · exact Sub.up (by decide) hW
        · apply voidPort_keeps
          · exact Sub.up (by decide) hW
          · with_reducible assumption
    clear_value v2
    apply ask_keeps
    · exact Sub.up (by decide) hW
    · with_reducible assumption

theorem exitPower_keeps {W : Nat} {z : State} (s : State) (p : ℕ) (hW : Sub 20740 W) (h_s : Keeps W z s) :
    Keeps W z (exitPower s p) := by
  unfold exitPower
  extract_lets v0 v1
  clear_value v0
  have h2 : Keeps W z v1 := by
    unfold v1
    apply wf_keeps
    · exact Sub.up (by decide) hW
    · with_reducible assumption
  clear_value v1
  split
  · apply startWidth_keeps
    · with_reducible assumption
    · apply setLinkState_keeps
      · exact Sub.up (by decide) hW
      · apply voidPort_keeps
        · exact Sub.up (by decide) hW
        · with_reducible assumption
  · apply ask_keeps
    · exact Sub.up (by decide) hW
    · apply startTraining_keeps
      · with_reducible assumption
      · with_reducible assumption
  · apply setLinkState_keeps
    · exact Sub.up (by decide) hW
    · with_reducible assumption

theorem requestPower_keeps {W : Nat} {z : State} (s : State) (p : ℕ) (t : ℕ) (hW : Sub 20740 W) (h_s : Keeps W z s) :
    Keeps W z (requestPower s p t) := by
  unfold requestPower
  split
  · split
    · apply exitPower_keeps
      · with_reducible assumption
      · with_reducible assumption
    · apply answered_keeps
      · exact Sub.up (by decide) hW
      · apply modLp_keeps
        · exact Sub.up (by decide) hW
        · with_reducible assumption
  · split
    · apply ask_keeps
      · exact Sub.up (by decide) hW
      · apply modLp_keeps
        · exact Sub.up (by decide) hW
        · with_reducible assumption
    · with_reducible assumption

theorem linkCtlWrite_keeps {W : Nat} {z : State} (s : State) (p : ℕ) (v : ℕ) (hW : Sub 107347828 W) (h_s : Keeps W z
    s) :
    Keeps W z (linkCtlWrite s p v) := by
  unfold linkCtlWrite
  extract_lets v0 v1 v2 v3 v4 v5 v6 v7 v8
  clear_value v0
  clear_value v1
  clear_value v2
  have h9 : Keeps W z v3 := by
    unfold v3
    apply wr_keeps
    · exact Sub.up (by decide) hW
    · with_reducible assumption
  clear_value v3
  clear_value v4
  clear_value v5
  have h10 : Keeps W z v6 := by
    unfold v6
    split
    · with_reducible assumption
    · split
      · apply portUp_keeps
        · with_reducible assumption
        · with_reducible assumption
      · apply modLp_keeps
        · exact Sub.up (by decide) hW
        · apply portDown_keeps
          · with_reducible assumption
          · apply wb_keeps
            · exact Sub.up (by decide) hW
            · with_reducible assumption
  clear_value v6
  have h15 : Keeps W z v7 := by
    unfold v7
    split
    · apply startWidth_keeps
      · exact Sub.up (by decide) hW
      · with_reducible assumption
    · with_reducible assumption
  clear_value v7
  have h18 : Keeps W z v8 := by
    unfold v8
    split
    · apply requestPower_keeps
      · exact Sub.up (by decide) hW
      · with_reducible assumption
    · with_reducible assumption
  clear_value v8
  split
  · apply retrain_keeps
    · exact Sub.up (by decide) hW
    · with_reducible assumption
  · with_reducible assumption

theorem execLinkEnableWrite_keeps {W : Nat} {z : State} (_id : ℕ) (port : ℕ) (value : W32) (s : State) (hW : Sub
    107347828 W) (h_s : Keeps W z s) :
    KeepsRes W z (execLinkEnableWrite _id port value s) := by
  unfold execLinkEnableWrite
  apply guarded_keeps
  · with_reducible assumption
  · intro y0 y1
    apply linkCtlWrite_keeps
    · with_reducible assumption
    · with_reducible assumption

theorem voidLines_keeps {W : Nat} {z : State} (s : State) (p : ℕ → Bool) (hW : Sub 256 W) (h_s : Keeps W z s) :
    Keeps W z (voidLines s p) := by
  unfold voidLines
  apply voidReqs_keeps
  · with_reducible assumption
  · with_reducible assumption

theorem substStart_keeps {W : Nat} {z : State} (s : State) (g : ℕ) (n : ℕ) (hW : Sub 524548 W) (h_s : Keeps W z s) :
    Keeps W z (substStart s g n) := by
  unfold substStart
  split
  · apply cmdErr_keeps
    · exact Sub.up (by decide) hW
    · with_reducible assumption
  · extract_lets v5 v6 v7
    have h8 : Keeps W z v5 := by
      unfold v5
      apply wb_keeps
      · exact Sub.up (by decide) hW
      · apply setPwr_keeps
        · exact Sub.up (by decide) hW
        · apply setPwr_keeps
          · exact Sub.up (by decide) hW
          · apply setBankRole_keeps
            · exact Sub.up (by decide) hW
            · with_reducible assumption
    clear_value v5
    clear_value v6
    have h9 : Keeps W z v7 := by
      unfold v7
      refine Keeps.congr (s := v5) ?_ rfl rfl rfl rfl rfl rfl kept kept kept kept kept kept kept kept kept kept kept
          kept kept kept kept kept (hW.chg rfl) kept kept kept kept kept
      with_reducible assumption
    clear_value v7
    apply wf_keeps
    · exact Sub.up (by decide) hW
    · apply voidLines_keeps
      · exact Sub.up (by decide) hW
      · with_reducible assumption

theorem execBankSubstitute_keeps {W : Nat} {z : State} (id : ℕ) (group : ℕ) (bank : ℕ) (s : State) (hW : Sub 524548
    W) (h_s : Keeps W z s) :
    KeepsRes W z (execBankSubstitute id group bank s) := by
  unfold execBankSubstitute
  apply bankWriteCmd_keeps
  · exact Sub.up (by decide) hW
  · with_reducible assumption
  · intro y0 y1
    apply substStart_keeps
    · with_reducible assumption
    · with_reducible assumption

theorem execBankReinstate_keeps {W : Nat} {z : State} (id : ℕ) (group : ℕ) (bank : ℕ) (s : State) (hW : Sub 524292 W)
    (h_s : Keeps W z s) :
    KeepsRes W z (execBankReinstate id group bank s) := by
  unfold execBankReinstate
  apply bankWriteCmd_keeps
  · exact Sub.up (by decide) hW
  · with_reducible assumption
  · intro y0 y1
    split
    · extract_lets v3 v4
      have h5 : Keeps W z v3 := by
        unfold v3
        apply wb_keeps
        · exact Sub.up (by decide) hW
        · apply setPwr_keeps
          · exact Sub.up (by decide) hW
          · with_reducible assumption
      clear_value v3
      clear_value v4
      refine Keeps.congr (s := v3) ?_ rfl rfl rfl rfl rfl rfl kept kept kept kept kept kept kept kept kept kept kept
          kept kept kept kept kept (hW.chg rfl) kept kept kept kept kept
      with_reducible assumption
    · apply cmdErr_keeps
      · exact Sub.up (by decide) hW
      · with_reducible assumption

theorem execBankSetOn_keeps {W : Nat} {z : State} (id : ℕ) (group : ℕ) (bank : ℕ) (s : State) (hW : Sub 4 W) (h_s :
    Keeps W z s) :
    KeepsRes W z (execBankSetOn id group bank s) := by
  unfold execBankSetOn
  apply bankWriteCmd_keeps
  · with_reducible assumption
  · with_reducible assumption
  · intro y0 y1
    split
    · apply setPwr_keeps
      · with_reducible assumption
      · with_reducible assumption
    · apply cmdErr_keeps
      · with_reducible assumption
      · with_reducible assumption

theorem execBankSetRet_keeps {W : Nat} {z : State} (id : ℕ) (group : ℕ) (bank : ℕ) (s : State) (hW : Sub 4 W) (h_s :
    Keeps W z s) :
    KeepsRes W z (execBankSetRet id group bank s) := by
  unfold execBankSetRet
  apply bankWriteCmd_keeps
  · with_reducible assumption
  · with_reducible assumption
  · intro y0 y1
    split
    · apply setPwr_keeps
      · with_reducible assumption
      · with_reducible assumption
    · apply cmdErr_keeps
      · with_reducible assumption
      · with_reducible assumption

theorem loseBank_keeps {W : Nat} {z : State} (s : State) (g : ℕ) (n : ℕ) (hW : Sub 524288 W) (h_s : Keeps W z s) :
    Keeps W z (loseBank s g n) := by
  unfold loseBank
  extract_lets v0 v1
  clear_value v0
  clear_value v1
  refine Keeps.congr (s := s) ?_ rfl rfl rfl rfl rfl rfl kept kept kept kept kept kept kept kept kept kept kept kept
      kept kept kept kept (hW.chg rfl) kept kept kept kept kept
  with_reducible assumption

theorem execBankSetOff_keeps {W : Nat} {z : State} (id : ℕ) (group : ℕ) (bank : ℕ) (s : State) (hW : Sub 524292 W)
    (h_s : Keeps W z s) :
    KeepsRes W z (execBankSetOff id group bank s) := by
  unfold execBankSetOff
  apply bankWriteCmd_keeps
  · exact Sub.up (by decide) hW
  · with_reducible assumption
  · intro y0 y1
    split
    · apply loseBank_keeps
      · exact Sub.up (by decide) hW
      · apply setPwr_keeps
        · exact Sub.up (by decide) hW
        · with_reducible assumption
    · split
      · with_reducible assumption
      · apply cmdErr_keeps
        · exact Sub.up (by decide) hW
        · with_reducible assumption

theorem execSqCfgWrite_keeps {W : Nat} {z : State} (_id : ℕ) (q : ℕ) (value : W32) (s : State) (hW : Sub 4 W) (h_s :
    Keeps W z s) :
    KeepsRes W z (execSqCfgWrite _id q value s) := by
  unfold execSqCfgWrite
  extract_lets v0 v1 v2
  clear_value v0
  clear_value v1
  clear_value v2
  apply guarded_keeps
  · with_reducible assumption
  · intro y3 y4
    extract_lets v5
    have h6 : Keeps W z v5 := by
      unfold v5
      apply wr_keeps
      · with_reducible assumption
      · with_reducible assumption
    clear_value v5
    split
    · apply wr_keeps
      · with_reducible assumption
      · apply wr_keeps
        · with_reducible assumption
        · with_reducible assumption
    · with_reducible assumption

theorem doorbell_keeps {W : Nat} {z : State} (s : State) (id : ℕ) (q : ℕ) (tail : ℕ) (hW : Sub 67142660 W) (h_s :
    Keeps W z s) :
    Keeps W z (doorbell s id q tail) := by
  unfold doorbell
  split
  · apply wf_keeps
    · exact Sub.up (by decide) hW
    · with_reducible assumption
  · apply errInc_keeps
    · with_reducible assumption
    · apply wb_keeps
      · exact Sub.up (by decide) hW
      · with_reducible assumption

theorem execSqDoorbell_keeps {W : Nat} {z : State} (id : ℕ) (q : ℕ) (value : W32) (s : State) (hW : Sub 67142660 W)
    (h_s : Keeps W z s) :
    KeepsRes W z (execSqDoorbell id q value s) := by
  unfold execSqDoorbell
  apply guarded_keeps
  · with_reducible assumption
  · intro y0 y1
    apply doorbell_keeps
    · with_reducible assumption
    · with_reducible assumption

theorem cancelReservations_keeps {W : Nat} {z : State} (s : State) (c : ℕ) (hW : Sub 2048 W) (h_s : Keeps W z s) :
    Keeps W z (cancelReservations s c) := by
  unfold cancelReservations
  refine Keeps.congr (s := s) ?_ rfl rfl rfl rfl rfl rfl kept kept kept kept kept kept kept kept (hW.chg rfl) kept
      kept kept kept kept kept kept kept kept kept kept kept kept
  with_reducible assumption

theorem execCqCfgWrite_keeps {W : Nat} {z : State} (_id : ℕ) (q : ℕ) (value : W32) (s : State) (hW : Sub 2052 W) (h_s
    : Keeps W z s) :
    KeepsRes W z (execCqCfgWrite _id q value s) := by
  unfold execCqCfgWrite
  extract_lets v0 v1 v2
  clear_value v0
  clear_value v1
  clear_value v2
  apply guarded_keeps
  · with_reducible assumption
  · intro y3 y4
    extract_lets v5 v6 v7
    have h8 : Keeps W z v5 := by
      unfold v5
      apply wr_keeps
      · exact Sub.up (by decide) hW
      · with_reducible assumption
    clear_value v5
    have h9 : Keeps W z v6 := by
      unfold v6
      apply wr_keeps
      · exact Sub.up (by decide) hW
      · apply wr_keeps
        · exact Sub.up (by decide) hW
        · with_reducible assumption
    clear_value v6
    clear_value v7
    split
    · refine Keeps.congr (s := v6) ?_ rfl rfl rfl rfl rfl rfl kept kept kept kept kept kept kept kept (hW.chg rfl)
          kept kept kept kept kept kept kept kept kept kept kept kept kept
      with_reducible assumption
    · split
      · apply cancelReservations_keeps
        · exact Sub.up (by decide) hW
        · with_reducible assumption
      · with_reducible assumption

theorem execCqHeadWrite_keeps {W : Nat} {z : State} (_id : ℕ) (q : ℕ) (value : W32) (s : State) (hW : Sub 4 W) (h_s :
    Keeps W z s) :
    KeepsRes W z (execCqHeadWrite _id q value s) := by
  unfold execCqHeadWrite
  apply guarded_keeps
  · with_reducible assumption
  · intro y0 y1
    apply wr_keeps
    · with_reducible assumption
    · with_reducible assumption

theorem execMailboxSend_keeps {W : Nat} {z : State} (id : ℕ) (ch : ℕ) (value : W32) (s : State) (hW : Sub 102860292
    W) (h_s : Keeps W z s) :
    KeepsRes W z (execMailboxSend id ch value s) := by
  unfold execMailboxSend
  extract_lets v0 v1
  clear_value v0
  clear_value v1
  apply guarded_keeps
  · with_reducible assumption
  · intro y2 y3
    split
    · apply errInc_keeps
      · exact Sub.up (by decide) hW
      · with_reducible assumption
    · apply mbxPost_keeps
      · with_reducible assumption
      · with_reducible assumption

theorem mbxEmptyInt_keeps {W : Nat} {z : State} (s : State) (m : ℕ) (hW : Sub 102794752 W) (h_s : Keeps W z s) :
    Keeps W z (mbxEmptyInt s m) := by
  unfold mbxEmptyInt
  extract_lets v0 v1
  clear_value v0
  clear_value v1
  split
  · apply sendRunnel_keeps
    · exact Sub.up (by decide) hW
    · with_reducible assumption
  · split
    · apply mbxWake_keeps
      · exact Sub.up (by decide) hW
      · with_reducible assumption
    · with_reducible assumption

theorem mbxClear_keeps {W : Nat} {z : State} (s : State) (m : ℕ) (hW : Sub 65540 W) (h_s : Keeps W z s) :
    Keeps W z (mbxClear s m) := by
  unfold mbxClear
  extract_lets v0 v1 v2
  have h3 : Keeps W z v0 := by
    unfold v0
    apply wb_keeps
    · exact Sub.up (by decide) hW
    · with_reducible assumption
  clear_value v0
  have h4 : Keeps W z v1 := by
    unfold v1
    apply wb_keeps
    · exact Sub.up (by decide) hW
    · with_reducible assumption
  clear_value v1
  clear_value v2
  refine Keeps.congr (s := v1) ?_ rfl rfl rfl rfl rfl rfl kept kept kept kept kept kept kept kept kept kept kept kept
      kept (hW.chg rfl) kept kept kept kept kept kept kept kept
  with_reducible assumption

theorem execMailboxRetract_keeps {W : Nat} {z : State} (id : ℕ) (ch : ℕ) (s : State) (hW : Sub 102860292 W) (h_s :
    Keeps W z s) :
    KeepsRes W z (execMailboxRetract id ch s) := by
  unfold execMailboxRetract
  extract_lets v0
  clear_value v0
  apply guarded_keeps
  · with_reducible assumption
  · intro y1 y2
    split
    · apply errInc_keeps
      · exact Sub.up (by decide) hW
      · with_reducible assumption
    · split
      · apply mbxEmptyInt_keeps
        · exact Sub.up (by decide) hW
        · apply wb_keeps
          · exact Sub.up (by decide) hW
          · apply mbxClear_keeps
            · exact Sub.up (by decide) hW
            · with_reducible assumption
      · with_reducible assumption

theorem fatalTaken_keeps {W : Nat} {z : State} (s : State) (ch : ℕ) (hW : Sub 102868484 W) (h_s : Keeps W z s) :
    Keeps W z (fatalTaken s ch) := by
  unfold fatalTaken
  split
  · apply sendFatal_keeps
    · with_reducible assumption
    · refine Keeps.congr (s := s) ?_ rfl rfl rfl rfl rfl rfl kept kept kept kept kept kept kept kept kept kept
          (hW.chg rfl) kept kept kept kept kept kept kept kept kept kept kept
      with_reducible assumption
  · with_reducible assumption

theorem execMailboxAck_keeps {W : Nat} {z : State} (id : ℕ) (ch : ℕ) (s : State) (hW : Sub 102868484 W) (h_s : Keeps
    W z s) :
    KeepsRes W z (execMailboxAck id ch s) := by
  unfold execMailboxAck
  extract_lets v0
  clear_value v0
  apply guarded_keeps
  · with_reducible assumption
  · intro y1 y2
    split
    · apply errInc_keeps
      · exact Sub.up (by decide) hW
      · with_reducible assumption
    · split
      · apply fatalTaken_keeps
        · with_reducible assumption
        · apply mbxEmptyInt_keeps
          · exact Sub.up (by decide) hW
          · apply mbxClear_keeps
            · exact Sub.up (by decide) hW
            · with_reducible assumption
      · with_reducible assumption

theorem mbxWrite_keeps {W : Nat} {z : State} (s : State) (id : ℕ) (m : ℕ) (off : ℕ) (v : ℕ) (hW : Sub 102868484 W)
    (h_s : Keeps W z s) :
    KeepsRes W z (mbxWrite s id m off v) := by
  unfold mbxWrite
  extract_lets v0 v1 v2 v3 v4
  clear_value v0
  clear_value v1
  clear_value v2
  clear_value v3
  have h5 : KeepsRes W z v4 := by
    unfold v4
    split
    · apply execMailboxSend_keeps
      · exact Sub.up (by decide) hW
      · with_reducible assumption
    · with_reducible assumption
  clear_value v4
  split
  · split
    · change Keeps W z _
      apply errInc_keeps
      · exact Sub.up (by decide) hW
      · with_reducible assumption
    · split
      · split
        · apply execMailboxRetract_keeps
          · exact Sub.up (by decide) hW
          · with_reducible assumption
        · with_reducible assumption
      · with_reducible assumption
  · split
    · split
      · change Keeps W z _
        apply errInc_keeps
        · exact Sub.up (by decide) hW
        · with_reducible assumption
      · split
        · apply execMailboxAck_keeps
          · with_reducible assumption
          · with_reducible assumption
        · with_reducible assumption
    · split
      · split
        · change Keeps W z _
          apply wr_keeps
          · exact Sub.up (by decide) hW
          · with_reducible assumption
        · split
          · change Keeps W z _
            apply wr_keeps
            · exact Sub.up (by decide) hW
            · with_reducible assumption
          · change Keeps W z _
            apply errInc_keeps
            · exact Sub.up (by decide) hW
            · with_reducible assumption
      · split
        · split
          · change Keeps W z _
            apply errInc_keeps
            · exact Sub.up (by decide) hW
            · with_reducible assumption
          · split
            · with_reducible assumption
            · change Keeps W z _
              apply wr_keeps
              · exact Sub.up (by decide) hW
              · with_reducible assumption
        · change Keeps W z _
          apply errInc_keeps
          · exact Sub.up (by decide) hW
          · with_reducible assumption

theorem unitWrite_keeps {W : Nat} {z : State} (s : State) (id : ℕ) (p : ℕ) (off : ℕ) (v : ℕ) (hW : Sub 107872118 W)
    (h_s : Keeps W z s) :
    KeepsOptRes W z (unitWrite s id p off v) := by
  unfold unitWrite
  extract_lets v0 v1 v2 v3 v4 v5
  clear_value v0
  have h6 : Keeps W z v1 := by
    unfold v1
    split
    · apply clear1_keeps
      · exact Sub.up (by decide) hW
      · with_reducible assumption
    · with_reducible assumption
  clear_value v1
  clear_value v2
  clear_value v3
  have h9 : Keeps W z v4 := by
    unfold v4
    split
    · apply clear1_keeps
      · exact Sub.up (by decide) hW
      · with_reducible assumption
    · with_reducible assumption
  clear_value v4
  clear_value v5
  split
  · change Keeps W z _
    split
    · beta_reduce
      extract_lets v14 v15
      have h16 : Keeps W z v14 := by
        unfold v14
        apply wr_keeps
        · exact Sub.up (by decide) hW
        · with_reducible assumption
      clear_value v14
      clear_value v15
      split
      · refine Keeps.congr (s := v14) ?_ rfl rfl rfl rfl rfl rfl kept kept kept kept kept kept kept kept kept kept
            kept kept kept kept kept (hW.chg rfl) kept kept kept kept kept kept
        with_reducible assumption
      · with_reducible assumption
    · with_reducible assumption
  · split
    · change KeepsRes W z _
      split
      · apply execRemap_keeps
        · exact Sub.up (by decide) hW
        · with_reducible assumption
      · apply execRemapLookup_keeps
        · exact Sub.up (by decide) hW
        · with_reducible assumption
      · split
        rename_i x28 x29 x30 x31
        have k32 := keeps_eq x31 (P := KeepsSnd W z) (by
          apply drawFree_keeps
          · exact Sub.up (by decide) hW
          · with_reducible assumption
          )
        apply execPpr_keeps
        · exact Sub.up (by decide) hW
        · with_reducible assumption
      · with_reducible assumption
    · split
      · change Keeps W z _
        split
        · beta_reduce
          apply linkCtlWrite_keeps
          · exact Sub.up (by decide) hW
          · with_reducible assumption
        · with_reducible assumption
      · split
        · change KeepsRes W z _
          split
          · apply execBankSubstitute_keeps
            · exact Sub.up (by decide) hW
            · with_reducible assumption
          · apply execBankReinstate_keeps
            · exact Sub.up (by decide) hW
            · with_reducible assumption
          · apply execBankSetOn_keeps
            · exact Sub.up (by decide) hW
            · with_reducible assumption
          · apply execBankSetRet_keeps
            · exact Sub.up (by decide) hW
            · with_reducible assumption
          · apply execBankSetOff_keeps
            · exact Sub.up (by decide) hW
            · with_reducible assumption
          · with_reducible assumption
        · split
          · split
            · change Keeps W z _
              split
              · beta_reduce
                extract_lets v63
                have h64 : Keeps W z v63 := by
                  unfold v63
                  apply wr_keeps
                  · exact Sub.up (by decide) hW
                  · with_reducible assumption
                clear_value v63
                split
                · apply wr_keeps
                  · exact Sub.up (by decide) hW
                  · apply wr_keeps
                    · exact Sub.up (by decide) hW
                    · with_reducible assumption
                · with_reducible assumption
              · with_reducible assumption
            · change Keeps W z _
              split
              · beta_reduce
                apply doorbell_keeps
                · exact Sub.up (by decide) hW
                · with_reducible assumption
              · with_reducible assumption
            · change Keeps W z _
              split
              · beta_reduce
                extract_lets v73 v74 v75
                have h76 : Keeps W z v73 := by
                  unfold v73
                  apply wr_keeps
                  · exact Sub.up (by decide) hW
                  · with_reducible assumption
                clear_value v73
                have h77 : Keeps W z v74 := by
                  unfold v74
                  apply wr_keeps
                  · exact Sub.up (by decide) hW
                  · apply wr_keeps
                    · exact Sub.up (by decide) hW
                    · with_reducible assumption
                clear_value v74
                clear_value v75
                split
                · refine Keeps.congr (s := v74) ?_ rfl rfl rfl rfl rfl rfl kept kept kept kept kept kept kept kept
                      (hW.chg rfl) kept kept kept kept kept kept kept kept kept kept kept kept kept
                  with_reducible assumption
                · split
                  · apply cancelReservations_keeps
                    · exact Sub.up (by decide) hW
                    · with_reducible assumption
                  · with_reducible assumption
              · with_reducible assumption
            · change Keeps W z _
              split
              · beta_reduce
                apply wr_keeps
                · exact Sub.up (by decide) hW
                · with_reducible assumption
              · with_reducible assumption
            · exact trivial
          · split
            · change KeepsRes W z _
              apply mbxWrite_keeps
              · exact Sub.up (by decide) hW
              · with_reducible assumption
            · exact trivial

theorem regWrite_keeps {W : Nat} {z : State} (s : State) (id : ℕ) (p : ℕ) (off : ℕ) (v : ℕ) (hW : Sub 117440510 W)
    (h_s : Keeps W z s) :
    KeepsRes W z (regWrite s id p off v) := by
  unfold regWrite
  split
  · split
    · extract_lets v2
      have h3 : Keeps W z v2 := by
        unfold v2
        split
        · apply srst_keeps
          · exact Sub.up (by decide) hW
          · with_reducible assumption
        · with_reducible assumption
      clear_value v2
      change Keeps W z _
      split
      · apply wb_keeps
        · exact Sub.up (by decide) hW
        · with_reducible assumption
      · with_reducible assumption
    · with_reducible assumption
  · split
    · change Keeps W z _
      apply isrWrite_keeps
      · exact Sub.up (by decide) hW
      · with_reducible assumption
    · split
      · change Keeps W z _
        apply ierWrite_keeps
        · exact Sub.up (by decide) hW
        · with_reducible assumption
      · split
        · rename_i x14 x15 x16 x17 x18
          have k19 := keeps_eq x18 (P := KeepsOptRes W z) (by
            apply mgmtWrite_keeps
            · with_reducible assumption
            · with_reducible assumption
            )
          with_reducible assumption
        · rename_i x20 x21 x22 x23 x24 x25
          have k26 := keeps_eq x24 (P := KeepsOptRes W z) (by
            apply mgmtWrite_keeps
            · with_reducible assumption
            · with_reducible assumption
            )
          have k27 := keeps_eq x25 (P := KeepsOptRes W z) (by
            apply blockWrite_keeps
            · exact Sub.up (by decide) hW
            · with_reducible assumption
            )
          with_reducible assumption
        · rename_i x28 x29 x30 x31 x32 x33 x34
          have k35 := keeps_eq x32 (P := KeepsOptRes W z) (by
            apply mgmtWrite_keeps
            · with_reducible assumption
            · with_reducible assumption
            )
          have k36 := keeps_eq x33 (P := KeepsOptRes W z) (by
            apply blockWrite_keeps
            · exact Sub.up (by decide) hW
            · with_reducible assumption
            )
          have k37 := keeps_eq x34 (P := KeepsOptRes W z) (by
            apply unitWrite_keeps
            · exact Sub.up (by decide) hW
            · with_reducible assumption
            )
          with_reducible assumption
        · rename_i x38 x39 x40 x41 x42 x43
          have k44 := keeps_eq x41 (P := KeepsOptRes W z) (by
            apply mgmtWrite_keeps
            · with_reducible assumption
            · with_reducible assumption
            )
          have k45 := keeps_eq x42 (P := KeepsOptRes W z) (by
            apply blockWrite_keeps
            · exact Sub.up (by decide) hW
            · with_reducible assumption
            )
          have k46 := keeps_eq x43 (P := KeepsOptRes W z) (by
            apply unitWrite_keeps
            · exact Sub.up (by decide) hW
            · with_reducible assumption
            )
          change Keeps W z _
          apply plainWrite_keeps
          · exact Sub.up (by decide) hW
          · with_reducible assumption

theorem busWrite_keeps {W : Nat} {z : State} (s : State) (id : ℕ) (addr : ℕ) (size : ℕ) (v : ℕ) (hW : Sub 117440510
    W) (h_s : Keeps W z s) :
    KeepsRes W z (busWrite s id addr size v) := by
  unfold busWrite
  extract_lets v0
  clear_value v0
  split
  · with_reducible assumption
  · split
    · apply regWrite_keeps
      · with_reducible assumption
      · with_reducible assumption
    · split
      · split
        · rename_i x6 x7 x8
          have k9 := keeps_eq x8 (P := KeepsRes W z) (by
            apply regWrite_keeps
            · with_reducible assumption
            · with_reducible assumption
            )
          split
          · apply regWrite_keeps
            · with_reducible assumption
            · with_reducible assumption
          · with_reducible assumption
        · apply regWrite_keeps
          · with_reducible assumption
          · with_reducible assumption
      · change Keeps W z _
        apply errInc_keeps
        · exact Sub.up (by decide) hW
        · with_reducible assumption

theorem cancelComponent_keeps {W : Nat} {z : State} (s : State) (hW : Sub 4194308 W) (h_s : Keeps W z s) :
    Keeps W z (cancelComponent s) := by
  unfold cancelComponent
  split
  · apply setFwu_keeps
    · exact Sub.up (by decide) hW
    · apply wf_keeps
      · exact Sub.up (by decide) hW
      · apply wb_keeps
        · exact Sub.up (by decide) hW
        · apply dropTransfer_keeps
          · exact Sub.up (by decide) hW
          · with_reducible assumption
  · split
    · apply setFwu_keeps
      · exact Sub.up (by decide) hW
      · with_reducible assumption
    · with_reducible assumption

theorem cancelScrub_keeps {W : Nat} {z : State} (s : State) (t : ℕ) (hW : Sub 2048 W) (h_s : Keeps W z s) :
    Keeps W z (cancelScrub s t) := by
  unfold cancelScrub
  apply modOp_keeps
  · with_reducible assumption
  · with_reducible assumption

theorem capture_keeps {W : Nat} {z : State} (s : State) (coarse : Bool) (hW : Sub 8388612 W) (h_s : Keeps W z s) :
    Keeps W z (capture s coarse) := by
  unfold capture
  extract_lets v0 v1 v2 v3
  clear_value v0
  clear_value v1
  clear_value v2
  clear_value v3
  apply wr_keeps
  · exact Sub.up (by decide) hW
  · refine Keeps.congr (s := s) ?_ rfl rfl rfl rfl rfl rfl kept kept kept kept kept kept kept kept kept kept kept
        kept kept kept kept kept kept kept kept kept (hW.chg rfl) kept
    with_reducible assumption

theorem chargeSub_keeps {W : Nat} {z : State} (s : State) (dom : ℕ) (k : ℕ) (n : ℕ) (hW : Sub 64 W) (h_s : Keeps W z
    s) :
    Keeps W z (chargeSub s dom k n) := by
  unfold chargeSub
  refine Keeps.congr (s := s) ?_ rfl rfl rfl rfl rfl rfl kept kept kept (hW.chg rfl) kept kept kept kept kept kept
      kept kept kept kept kept kept kept kept kept kept kept kept
  with_reducible assumption

theorem wakeWaiters_keeps {W : Nat} {z : State} (s : State) (h : ℕ) (result : ℕ) (hW : Sub 107347828 W) (h_s : Keeps
    W z s) :
    Keeps W z (wakeWaiters s h result) := by
  unfold wakeWaiters
  split
  · with_reducible assumption
  · refine foldl_keeps (P := Keeps W z) ?_ ?_
    · apply modOp_keeps
      · exact Sub.up (by decide) hW
      · with_reducible assumption
    · intro y5 y6 y7
      apply endWith_keeps
      · with_reducible assumption
      · with_reducible assumption

theorem closeReduction_keeps {W : Nat} {z : State} (s : State) (h : ℕ) (hW : Sub 107347828 W) (h_s : Keeps W z s) :
    Keeps W z (closeReduction s h) := by
  unfold closeReduction
  apply endOp_keeps
  · with_reducible assumption
  · apply modArrival_keeps
    · exact Sub.up (by decide) hW
    · apply wakeWaiters_keeps
      · with_reducible assumption
      · with_reducible assumption

theorem cmpServe_keeps {W : Nat} {z : State} (pkt : Packet) (s : State) (hW : Sub 107347828 W) (h_s : Keeps W z s) :
    Keeps W z (cmpServe pkt s) := by
  unfold cmpServe
  extract_lets v0 v1 v2
  clear_value v0
  have h3 : Keeps W z v1 := by
    unfold v1
    refine Keeps.congr (s := s) ?_ rfl rfl rfl rfl rfl rfl kept kept kept kept kept kept kept kept (hW.chg rfl) kept
        kept kept kept kept kept kept kept kept kept kept kept kept
    with_reducible assumption
  clear_value v1
  clear_value v2
  split
  · with_reducible assumption
  · extract_lets v9
    have h10 : Keeps W z v9 := by
      unfold v9
      refine Keeps.congr (s := v1) ?_ rfl rfl rfl rfl rfl rfl kept kept kept kept kept kept kept kept (hW.chg rfl)
          kept kept kept kept kept kept kept kept kept kept kept kept kept
      with_reducible assumption
    clear_value v9
    split
    · with_reducible assumption
    · apply failTile_keeps
      · with_reducible assumption
      · with_reducible assumption

theorem windowRead_keeps {W : Nat} {z : State} (s : State) (id : ℕ) (p : ℕ) (f : State → ℕ × State) (hW : Sub
    67142660 W) (h_s : Keeps W z s) (h_f : ∀ q1, Keeps W z q1 → KeepsSnd W z (f q1)) :
    KeepsSnd W z (windowRead s id p f) := by
  unfold windowRead
  split
  · with_reducible assumption
  · split
    · apply h_f
      with_reducible assumption
    · change Keeps W z _
      dsimp only
      apply errInc_keeps
      · with_reducible assumption
      · with_reducible assumption

theorem cntLo_keeps {W : Nat} {z : State} (s : State) (id : ℕ) (p : ℕ) (hW : Sub 75531268 W) (h_s : Keeps W z s) :
    KeepsSnd W z (cntLo s id p) := by
  unfold cntLo
  apply windowRead_keeps
  · exact Sub.up (by decide) hW
  · with_reducible assumption
  · intro y0 y1
    extract_lets v2 v3
    clear_value v2
    clear_value v3
    change Keeps W z _
    dsimp only
    refine Keeps.congr (s := y0) ?_ rfl rfl rfl rfl rfl rfl kept kept kept kept kept kept kept kept kept kept kept
        kept kept kept kept kept kept kept kept kept (hW.chg rfl) kept
    with_reducible assumption

theorem coldBase_keeps {W : Nat} {z : State} (s : State) (hW : Sub 67108861 W) (h : Keeps W z s) : Keeps W z
    (coldBase s) :=
  Keeps.any (s := s) h rfl rfl rfl (fun _ => ⟨rfl, rfl, rfl⟩) (Sub.up (by decide) hW)

theorem runStation_keeps {W : Nat} {z : State} (s : State) (h : ℕ) (num : ℕ) (p : Op → Tile → Bytes → Bool) (f : At →
    State → Go ((Tile → Tile) × ℕ)) (hW : Sub 107347828 W) (h_s : Keeps W z s) (h_f : ∀ q1 q2, Keeps W z q2 → KeepsGo
        W z (f q1 q2)) :
    KeepsRes W z (runStation s h num p f) := by
  unfold runStation
  split
  · with_reducible assumption
  · split
    · rename_i x5 x6 x7
      have k8 := keeps_eq x7 (P := KeepsGo W z) (by
        apply h_f
        with_reducible assumption
        )
      with_reducible assumption
    · rename_i x9 x10 x11 x12
      have k13 := keeps_eq x12 (P := KeepsGo W z) (by
        apply h_f
        with_reducible assumption
        )
      change Keeps W z _
      apply failTile_keeps
      · with_reducible assumption
      · apply forgetSnoops_keeps
        · exact Sub.up (by decide) hW
        · with_reducible assumption
    · rename_i x14 x15 x16 x17 x18
      have k19 := keeps_eq x18 (P := KeepsGo W z) (by
        apply h_f
        with_reducible assumption
        )
      extract_lets v20
      have h21 : Keeps W z v20 := by
        unfold v20
        apply forgetSnoops_keeps
        · exact Sub.up (by decide) hW
        · with_reducible assumption
      clear_value v20
      change Keeps W z _
      apply modTile_keeps
      · exact Sub.up (by decide) hW
      · with_reducible assumption

theorem goOn_keeps {W : Nat} {z : State} (a : At) (fmt : ℕ) (cs : List ℕ) (cyc : ℕ) (s : State) (hW : Sub 0 W) (h_s :
    Keeps W z s) :
    KeepsGo W z (goOn a fmt cs cyc s) := by
  unfold goOn
  with_reducible assumption

theorem credit_keeps {W : Nat} {z : State} (s : State) (req : ℕ) (c : ℕ) (n : ℕ) (hW : Sub 512 W) (h_s : Keeps W z s)
    :
    Keeps W z (credit s req c n) := by
  unfold credit
  apply setLacking_keeps
  · with_reducible assumption
  · with_reducible assumption

theorem unadmit_keeps {W : Nat} {z : State} (s : State) (req : ℕ) (c : ℕ) (len : ℕ) (schs : List (ℕ × ℕ)) (hW : Sub
    33554944 W) (h_s : Keeps W z s) :
    Keeps W z (unadmit s req c len schs) := by
  unfold unadmit
  refine foldl_keeps (P := Keeps W z) ?_ ?_
  · apply count_keeps
    · exact Sub.up (by decide) hW
    · apply credit_keeps
      · exact Sub.up (by decide) hW
      · with_reducible assumption
  · intro y0 y1 y2
    apply unchargeBacklog_keeps
    · exact Sub.up (by decide) hW
    · with_reducible assumption

theorem tileNotResident_keeps {W : Nat} {z : State} (o : Op) (t : Tile) (runs : List (ℕ × ℕ)) (s : State) (hW : Sub
    33555968 W) (h_s : Keeps W z s) :
    Keeps W z (tileNotResident o t runs s) := by
  unfold tileNotResident
  extract_lets v0
  have h1 : Keeps W z v0 := by
    unfold v0
    apply count_keeps
    · exact Sub.up (by decide) hW
    · apply touchPages_keeps
      · exact Sub.up (by decide) hW
      · with_reducible assumption
  clear_value v0
  apply unadmit_keeps
  · exact Sub.up (by decide) hW
  · with_reducible assumption

theorem tilePaRead_keeps {W : Nat} {z : State} (h : ℕ) (num : ℕ) (pa : ℕ) (n : ℕ) (s : State) (hW : Sub 107347828 W)
    (h_s : Keeps W z s) :
    KeepsGo W z (tilePaRead h num pa n s) := by
  unfold tilePaRead
  split
  · extract_lets v6
    clear_value v6
    split
    · change Keeps W z _
      apply tileNotResident_keeps
      · exact Sub.up (by decide) hW
      · with_reducible assumption
    · apply Go.bind_keeps
      · apply userRead_keeps
        · with_reducible assumption
        · with_reducible assumption
      · intro y9 y10 y11
        with_reducible assumption
  · with_reducible assumption

theorem tileSpanVoid_keeps {W : Nat} {z : State} (h : ℕ) (num : ℕ) (runs : List (ℕ × ℕ)) (s : State) (hW : Sub 2048
    W) (h_s : Keeps W z s) :
    Keeps W z (tileSpanVoid h num runs s) := by
  unfold tileSpanVoid
  split
  · apply modOp_keeps
    · with_reducible assumption
    · apply modTile_keeps
      · with_reducible assumption
      · with_reducible assumption
  · with_reducible assumption

theorem tileTouch_keeps {W : Nat} {z : State} (h : ℕ) (num : ℕ) (runs : List (ℕ × ℕ)) (s : State) (hW : Sub 33557508
    W) (h_s : Keeps W z s) :
    Keeps W z (tileTouch h num runs s) := by
  unfold tileTouch
  split
  · with_reducible assumption
  · extract_lets v5 v6 v7 v8 v9 v10 v11
    have h12 : Keeps W z v5 := by
      unfold v5
      apply tileSpanVoid_keeps
      · exact Sub.up (by decide) hW
      · with_reducible assumption
    clear_value v5
    clear_value v6
    clear_value v7
    clear_value v8
    have h13 : Keeps W z v9 := by
      unfold v9
      apply modTile_keeps
      · exact Sub.up (by decide) hW
      · with_reducible assumption
    clear_value v9
    have h14 : Keeps W z v10 := by
      unfold v10
      apply touchPages_keeps
      · exact Sub.up (by decide) hW
      · with_reducible assumption
    clear_value v10
    have h15 : Keeps W z v11 := by
      unfold v11
      refine foldl_keeps (P := Keeps W z) ?_ ?_
      · with_reducible assumption
      · intro y16 y17 y18
        extract_lets v19
        clear_value v19
        apply setPage_keeps
        · exact Sub.up (by decide) hW
        · with_reducible assumption
    clear_value v11
    refine foldl_keeps (P := Keeps W z) ?_ ?_
    · with_reducible assumption
    · intro y20 y21 y22
      apply hotPromote_keeps
      · exact Sub.up (by decide) hW
      · with_reducible assumption

theorem tileGet_keeps {W : Nat} {z : State} (h : ℕ) (num : ℕ) (va : ℕ) (n : ℕ) (s : State) (hW : Sub 107347956 W)
    (h_s : Keeps W z s) :
    KeepsGo W z (tileGet h num va n s) := by
  unfold tileGet
  apply Go.bind_keeps
  · apply tileRuns_keeps
    · with_reducible assumption
    · with_reducible assumption
  · intro y0 y1 y2
    apply Go.bind_keeps
    · apply goList_keeps
      · exact Sub.up (by decide) hW
      · intro y3 y4 y5
        apply tilePaRead_keeps
        · exact Sub.up (by decide) hW
        · with_reducible assumption
      · with_reducible assumption
    · intro y6 y7 y8
      change Keeps W z _
      apply tileTouch_keeps
      · exact Sub.up (by decide) hW
      · with_reducible assumption

theorem poisonEaten_keeps {W : Nat} {z : State} (h : ℕ) (num : ℕ) (pa : ℕ) (code : ℕ) (s : State) (hW : Sub 107064836
    W) (h_s : Keeps W z s) :
    Keeps W z (poisonEaten h num pa code s) := by
  unfold poisonEaten
  extract_lets v0
  have h1 : Keeps W z v0 := by
    unfold v0
    apply event_keeps
    · exact Sub.up (by decide) hW
    · with_reducible assumption
  clear_value v0
  apply modTile_keeps
  · exact Sub.up (by decide) hW
  · with_reducible assumption

theorem tileEat_keeps {W : Nat} {z : State} (h : ℕ) (num : ℕ) (va : ℕ) (n : ℕ) (s : State) (hW : Sub 107347956 W)
    (h_s : Keeps W z s) :
    KeepsGo W z (tileEat h num va n s) := by
  unfold tileEat
  apply Go.bind_keeps
  · apply tileGet_keeps
    · with_reducible assumption
    · with_reducible assumption
  · intro y0 y1 y2
    split
    · with_reducible assumption
    · split
      · rename_i x9 x10 x11 x12
        have k13 := keeps_eq x12 (P := KeepsGo W z) (by
          apply tileXlate_keeps
          · with_reducible assumption
          · with_reducible assumption
          )
        change Keeps W z _
        apply poisonEaten_keeps
        · exact Sub.up (by decide) hW
        · with_reducible assumption
      · rename_i x14 x15 x16
        have k17 := keeps_eq x16 (P := KeepsGo W z) (by
          apply tileXlate_keeps
          · with_reducible assumption
          · with_reducible assumption
          )
        change Keeps W z _
        apply poisonEaten_keeps
        · exact Sub.up (by decide) hW
        · with_reducible assumption
      · rename_i x18 x19 x20 x21
        have k22 := keeps_eq x21 (P := KeepsGo W z) (by
          apply tileXlate_keeps
          · with_reducible assumption
          · with_reducible assumption
          )
        change Keeps W z _
        apply poisonEaten_keeps
        · exact Sub.up (by decide) hW
        · with_reducible assumption

theorem combineTile_keeps {W : Nat} {z : State} (opc : ℕ) (op : ℕ) (tile : ℕ) (s : State) (hW : Sub 107347956 W) (h_s
    : Keeps W z s) :
    KeepsRes W z (combineTile opc op tile s) := by
  unfold combineTile
  apply runStation_keeps
  · exact Sub.up (by decide) hW
  · with_reducible assumption
  · intro y0 y1 y2
    extract_lets v3 v4 v5 v6
    clear_value v3
    clear_value v4
    clear_value v5
    clear_value v6
    split
    extract_lets v11 v12 v13
    clear_value v11
    clear_value v12
    have h14 : ∀ q1 q2, Keeps W z q2 → KeepsGo W z (v13 q1 q2) := by
      unfold v13
      intro y15 y16 y17
      apply goOn_keeps
      · exact Sub.up (by decide) hW
      · with_reducible assumption
    clear_value v13
    split
    · apply h14
      with_reducible assumption
    · apply Go.bind_keeps
      · apply tileEat_keeps
        · with_reducible assumption
        · with_reducible assumption
      · intro y20 y21 y22
        apply h14
        with_reducible assumption

theorem tileClaim_keeps {W : Nat} {z : State} (h : ℕ) (num : ℕ) (va : ℕ) (n : ℕ) (s : State) (hW : Sub 107347956 W)
    (h_s : Keeps W z s) :
    KeepsGo W z (tileClaim h num va n s) := by
  unfold tileClaim
  apply Go.bind_keeps
  · apply tileRuns_keeps
    · with_reducible assumption
    · with_reducible assumption
  · intro y0 y1 y2
    split
    · split
      rename_i x9 x10 x11 x12
      have k13 := keeps_eq x12 (P := KeepsSnd W z) (by
        refine foldl_keeps (P := KeepsSnd W z) ?_ ?_
        · with_reducible assumption
        · intro y14 y15 y16
          split
          rename_i x17 x18 x19 x20
          have k21 := keeps_eq x20 (P := KeepsSnd W z) (by
            apply claimRun_keeps
            · exact Sub.up (by decide) hW
            · with_reducible assumption
            )
          with_reducible assumption
        )
      split
      · with_reducible assumption
      · with_reducible assumption
    · with_reducible assumption

theorem tilePut_keeps {W : Nat} {z : State} (h : ℕ) (num : ℕ) (va : ℕ) (bs : Bytes) (s : State) (pcode : optParam ℕ
    0) (hW : Sub 107347956 W) (h_s : Keeps W z s) :
    KeepsGo W z (tilePut h num va bs s pcode) := by
  unfold tilePut
  apply Go.bind_keeps
  · apply tileRuns_keeps
    · with_reducible assumption
    · with_reducible assumption
  · intro y0 y1 y2
    extract_lets v3
    clear_value v3
    change Keeps W z _
    apply modTile_keeps
    · exact Sub.up (by decide) hW
    · with_reducible assumption

theorem packedWrites_keeps {W : Nat} {z : State} (a : At) (h : ℕ) (num : ℕ) (s : State) (hW : Sub 107347956 W) (h_s :
    Keeps W z s) :
    KeepsGo W z (packedWrites a h num s) := by
  unfold packedWrites
  apply Go.bind_keeps
  · apply tileClaim_keeps
    · with_reducible assumption
    · with_reducible assumption
  · intro y0 y1 y2
    apply Go.bind_keeps
    · apply tileEat_keeps
      · with_reducible assumption
      · with_reducible assumption
    · intro y3 y4 y5
      extract_lets v6 v7
      clear_value v6
      clear_value v7
      split
      · with_reducible assumption
      · apply Go.bind_keeps
        · apply tilePut_keeps
          · with_reducible assumption
          · with_reducible assumption
        · intro y10 y11 y12
          apply Go.bind_keeps
          · apply tilePut_keeps
            · with_reducible assumption
            · with_reducible assumption
          · intro y13 y14 y15
            apply tilePut_keeps
            · with_reducible assumption
            · with_reducible assumption

theorem cursorOf_keeps {W : Nat} {z : State} (h : ℕ) (num : ℕ) (va : ℕ) (cs : Tbl ℕ) (s : State) (hW : Sub 107347956
    W) (h_s : Keeps W z s) :
    KeepsGo W z (cursorOf h num va cs s) := by
  unfold cursorOf
  split
  · with_reducible assumption
  · apply Go.bind_keeps
    · apply tileClaim_keeps
      · with_reducible assumption
      · with_reducible assumption
    · intro y5 y6 y7
      apply Go.bind_keeps
      · apply tileEat_keeps
        · with_reducible assumption
        · with_reducible assumption
      · intro y8 y9 y10
        with_reducible assumption

theorem routedRows_keeps {W : Nat} {z : State} (a : At) (h num : Nat) (tbl : Bytes) (l : List (Nat × Nat × Nat)) (cs
    : Tbl Nat)
    (s : State) (hW : Sub 107347956 W) (k : Keeps W z s) : KeepsGo W z (routedRows a h num tbl l cs s) := by
  induction l generalizing cs s with
  | nil => exact k
  | cons e l ih =>
    obtain ⟨m, out, wt⟩ := e
    unfold routedRows
    refine Go.bind_keeps (cursorOf_keeps _ _ _ _ _ (Sub.up (by decide) hW) k) fun c s k => ?_
    dsimp only
    split
    · exact Go.bind_keeps (tilePut_keeps _ _ _ _ _ _ (Sub.up (by decide) hW) k) fun _ s k =>
        Go.bind_keeps (tilePut_keeps _ _ _ _ _ _ (Sub.up (by decide) hW) k) fun _ s k => ih _ s k
    · exact ih _ s k

theorem routedWrites_keeps {W : Nat} {z : State} (a : At) (h : ℕ) (num : ℕ) (s : State) (hW : Sub 107347956 W) (h_s :
    Keeps W z s) :
    KeepsGo W z (routedWrites a h num s) := by
  unfold routedWrites
  apply Go.bind_keeps
  · apply tileEat_keeps
    · with_reducible assumption
    · with_reducible assumption
  · intro y0 y1 y2
    apply Go.bind_keeps
    · apply routedRows_keeps
      · with_reducible assumption
      · with_reducible assumption
    · intro y3 y4 y5
      apply Go.bind_keeps
      · apply goList_keeps
        · exact Sub.up (by decide) hW
        · intro y6 y7 y8
          apply tilePut_keeps
          · with_reducible assumption
          · with_reducible assumption
        · with_reducible assumption
      · intro y9 y10 y11
        with_reducible assumption

theorem commitExtra_keeps {W : Nat} {z : State} (a : At) (h : ℕ) (num : ℕ) (s : State) (hW : Sub 107347956 W) (h_s :
    Keeps W z s) :
    KeepsGo W z (commitExtra a h num s) := by
  unfold commitExtra
  split
  · split
    · apply packedWrites_keeps
      · with_reducible assumption
      · with_reducible assumption
    · with_reducible assumption
  · apply routedWrites_keeps
    · with_reducible assumption
    · with_reducible assumption
  · with_reducible assumption

theorem compareB_keeps {W : Nat} {z : State} (bf : ℕ) (cs : List (BitVec 64)) (s : State) (hW : Sub 2 W) (h_s : Keeps
    W z s) :
    KeepsSnd W z (compareB bf cs s) := by
  unfold compareB
  split
  · extract_lets v1 v2
    clear_value v1
    clear_value v2
    change Keeps W z _
    dsimp only
    refine Keeps.core (s := s) ?_ rfl (Nat.le_add_right _ _) List.suffix_rfl id kept (hW.chg rfl) kept kept kept kept
        kept kept kept kept kept kept kept kept kept kept kept kept kept kept kept kept kept kept kept kept kept
    with_reducible assumption
  · with_reducible assumption

theorem compareTile_keeps {W : Nat} {z : State} (mode : ℕ) (op : ℕ) (tile : ℕ) (s : State) (hW : Sub 107347958 W)
    (h_s : Keeps W z s) :
    KeepsRes W z (compareTile mode op tile s) := by
  unfold compareTile
  apply runStation_keeps
  · exact Sub.up (by decide) hW
  · with_reducible assumption
  · intro y0 y1 y2
    extract_lets v3 v4 v5 v6 v7 v8 v9
    clear_value v3
    clear_value v4
    clear_value v5
    clear_value v6
    clear_value v7
    clear_value v8
    clear_value v9
    apply Go.bind_keeps
    · apply tileEat_keeps
      · exact Sub.up (by decide) hW
      · with_reducible assumption
    · intro y10 y11 y12
      extract_lets v13
      clear_value v13
      split
      rename_i x14 x15 x16 x17
      have k18 := keeps_eq x17 (P := KeepsSnd W z) (by
        apply compareB_keeps
        · exact Sub.up (by decide) hW
        · with_reducible assumption
        )
      extract_lets v19
      clear_value v19
      split
      rename_i x20 x21 x22 x23
      have k24 := keeps_eq x23 (P := KeepsSnd W z) (by
        split
        · with_reducible assumption
        · apply drawFree_keeps
          · exact Sub.up (by decide) hW
          · with_reducible assumption
        )
      apply Go.bind_keeps
      · apply tilePut_keeps
        · exact Sub.up (by decide) hW
        · with_reducible assumption
      · intro y27 y28 y29
        split
        · with_reducible assumption
        · apply goOn_keeps
          · exact Sub.up (by decide) hW
          · with_reducible assumption

theorem notify_keeps {W : Nat} {z : State} (s : State) (c : ℕ) (hW : Sub 107085316 W) (h_s : Keeps W z s) :
    Keeps W z (notify s c) := by
  unfold notify
  extract_lets v0 v1 v2 v3 v4
  clear_value v0
  clear_value v1
  clear_value v2
  have h5 : Keeps W z v3 := by
    unfold v3
    refine Keeps.congr (s := s) ?_ rfl rfl rfl rfl rfl rfl kept kept kept kept kept kept kept kept (hW.chg rfl) kept
        kept kept kept kept kept kept kept kept kept kept kept kept
    with_reducible assumption
  clear_value v3
  have h6 : Keeps W z v4 := by
    unfold v4
    apply count_keeps
    · exact Sub.up (by decide) hW
    · with_reducible assumption
  clear_value v4
  split
  · apply msix_keeps
    · exact Sub.up (by decide) hW
    · with_reducible assumption
  · split
    · with_reducible assumption
    · apply emit_keeps
      · with_reducible assumption
      · with_reducible assumption
  · with_reducible assumption

theorem cplAdvance_keeps {W : Nat} {z : State} (s : State) (c : ℕ) (asked : Bool) (hW : Sub 107085316 W) (h_s : Keeps
    W z s) :
    Keeps W z (cplAdvance s c asked) := by
  unfold cplAdvance
  extract_lets v0 v1 v2 v3 v4 v5
  clear_value v0
  clear_value v1
  clear_value v2
  clear_value v3
  have h6 : Keeps W z v4 := by
    unfold v4
    apply wf_keeps
    · exact Sub.up (by decide) hW
    · refine Keeps.congr (s := s) ?_ rfl rfl rfl rfl rfl rfl kept kept kept kept kept kept kept kept (hW.chg rfl)
          kept kept kept kept kept kept kept kept kept kept kept kept kept
      with_reducible assumption
  clear_value v4
  clear_value v5
  split
  · apply notify_keeps
    · with_reducible assumption
    · with_reducible assumption
  · with_reducible assumption

theorem cplWritten_keeps {W : Nat} {z : State} (s : State) (h : ℕ) (o : Op) (hW : Sub 107085316 W) (h_s : Keeps W z
    s) :
    Keeps W z (cplWritten s h o) := by
  unfold cplWritten
  apply count_keeps
  · exact Sub.up (by decide) hW
  · apply cplAdvance_keeps
    · with_reducible assumption
    · apply modOp_keeps
      · exact Sub.up (by decide) hW
      · with_reducible assumption

theorem userStore_keeps {W : Nat} {z : State} (s : State) (u : User) (pa : ℕ) (data : Bytes) (pcode : ℕ) (mk :
    MackFor) (hW : Sub 107347828 W) (h_s : Keeps W z s) :
    KeepsGo W z (userStore s u pa data pcode mk) := by
  unfold userStore
  split
  · rename_i x0 x1 x2
    have k3 := keeps_eq x2 (P := KeepsGo W z) (by
      apply runGate_keeps
      · exact Sub.up (by decide) hW
      · with_reducible assumption
      )
    with_reducible assumption
  · rename_i x4 x5 x6 x7
    have k8 := keeps_eq x7 (P := KeepsGo W z) (by
      apply runGate_keeps
      · exact Sub.up (by decide) hW
      · with_reducible assumption
      )
    with_reducible assumption
  · rename_i x9 x10 x11 x12
    have k13 := keeps_eq x12 (P := KeepsGo W z) (by
      apply runGate_keeps
      · exact Sub.up (by decide) hW
      · with_reducible assumption
      )
    split
    rename_i x14 x15 x16 x17
    have k18 := keeps_eq x17 (P := KeepsSnd W z) (by
      apply claimRun_keeps
      · with_reducible assumption
      · with_reducible assumption
      )
    split
    · change Keeps W z _
      change KeepsSnd W z _
      apply writeLines_keeps
      · with_reducible assumption
      · with_reducible assumption
    · with_reducible assumption

theorem cplStore_keeps {W : Nat} {z : State} (s : State) (h : ℕ) (o : Op) (final : Bool) (hW : Sub 107347828 W) (h_s
    : Keeps W z s) :
    KeepsGo W z (cplStore s h o final) := by
  unfold cplStore
  apply userStore_keeps
  · with_reducible assumption
  · with_reducible assumption

theorem cplFail_keeps {W : Nat} {z : State} (s : State) (c : ℕ) (hW : Sub 107064836 W) (h_s : Keeps W z s) :
    Keeps W z (cplFail s c) := by
  unfold cplFail
  extract_lets v0
  have h1 : Keeps W z v0 := by
    unfold v0
    apply wb_keeps
    · exact Sub.up (by decide) hW
    · apply wb_keeps
      · exact Sub.up (by decide) hW
      · with_reducible assumption
  clear_value v0
  apply event_keeps
  · exact Sub.up (by decide) hW
  · apply cancelReservations_keeps
    · exact Sub.up (by decide) hW
    · with_reducible assumption

theorem writeCpl_keeps {W : Nat} {z : State} (s : State) (h : ℕ) (o : Op) (final : Bool) (hW : Sub 107347828 W) (h_s
    : Keeps W z s) :
    KeepsCpl W z (writeCpl s h o final) := by
  unfold writeCpl
  split
  · with_reducible assumption
  · split
    · with_reducible assumption
    · split
      · change Keeps W z _
        apply cplWritten_keeps
        · exact Sub.up (by decide) hW
        · apply put_keeps
          · exact Sub.up (by decide) hW
          · with_reducible assumption
      · split
        · rename_i x6 x7 x8 x9
          have k10 := keeps_eq x9 (P := KeepsGo W z) (by
            apply cplStore_keeps
            · with_reducible assumption
            · with_reducible assumption
            )
          change Keeps W z _
          apply cplWritten_keeps
          · exact Sub.up (by decide) hW
          · with_reducible assumption
        · rename_i x11 x12 x13
          have k14 := keeps_eq x13 (P := KeepsGo W z) (by
            apply cplStore_keeps
            · with_reducible assumption
            · with_reducible assumption
            )
          with_reducible assumption
        · rename_i x15 x16 x17 x18
          have k19 := keeps_eq x18 (P := KeepsGo W z) (by
            apply cplStore_keeps
            · with_reducible assumption
            · with_reducible assumption
            )
          change Keeps W z _
          apply cplFail_keeps
          · exact Sub.up (by decide) hW
          · with_reducible assumption

theorem completeRun_keeps {W : Nat} {z : State} (s : State) (h : Nat) (o : Op) (final : Bool) (hW : Sub 107347828 W)
    (h_s : Keeps W z s) : KeepsCpl W z (completeRun s h o final) := by
  have report (t : State) (k : Keeps W z t) : Keeps W z ((runBound s h o).2 t) := by
    unfold runBound
    dsimp only
    split
    · exact k
    · split
      · exact setOp_keeps _ _ _ (Sub.up (by decide) hW) k
      · exact boundReport_keeps _ _ _ _ _ _ _ _ _ (Sub.up (by decide) hW) (setOp_keeps _ _ _ (Sub.up (by decide) hW)
            k)
  unfold completeRun
  have k := writeCpl_keeps s h (runBound s h o).1 final (Sub.up (by decide) hW) h_s
  dsimp only
  split
  · rename_i e; rw [e] at k; exact k
  · rename_i e; rw [e] at k; exact modOp_keeps _ _ _ (Sub.up (by decide) hW) (report _ k)

theorem configRead_keeps {W : Nat} {z : State} (s : State) (offset : ℕ) (hW : Sub 2 W) (h_s : Keeps W z s) :
    KeepsSnd W z (configRead s offset) := by
  unfold configRead
  split
  · with_reducible assumption
  · split
    rename_i x5 x6 x7 x8
    have k9 := keeps_eq x8 (P := KeepsSnd W z) (by
      apply drawFree_keeps
      · with_reducible assumption
      · with_reducible assumption
      )
    extract_lets v10 v11
    clear_value v10
    clear_value v11
    split
    · with_reducible assumption
    · with_reducible assumption

theorem msixFlush_keeps {W : Nat} {z : State} (s : State) (hW : Sub 67142656 W) (h_s : Keeps W z s) :
    Keeps W z (msixFlush s) := by
  unfold msixFlush
  split
  · extract_lets v1 v2
    clear_value v1
    clear_value v2
    refine foldl_keeps (P := Keeps W z) ?_ ?_
    · refine Keeps.congr (s := s) ?_ rfl rfl rfl rfl rfl rfl kept kept kept kept kept kept kept kept kept kept kept
          kept (hW.chg rfl) kept kept kept kept kept kept kept kept kept
      with_reducible assumption
    · intro y3 y4 y5
      apply put_keeps
      · exact Sub.up (by decide) hW
      · with_reducible assumption
  · with_reducible assumption

theorem configWrite_keeps {W : Nat} {z : State} (s : State) (offset : ℕ) (v : W32) (hW : Sub 67142660 W) (h_s : Keeps
    W z s) :
    Keeps W z (configWrite s offset v) := by
  unfold configWrite
  split
  · apply msixFlush_keeps
    · exact Sub.up (by decide) hW
    · apply wb_keeps
      · exact Sub.up (by decide) hW
      · refine Keeps.congr (s := s) ?_ rfl rfl rfl rfl rfl rfl kept kept kept kept kept kept kept kept kept kept kept
            kept (hW.chg rfl) kept kept kept kept kept kept kept kept kept
        with_reducible assumption
  · split
    · refine Keeps.congr (s := s) ?_ rfl rfl rfl rfl rfl rfl kept kept kept kept kept kept kept kept kept kept kept
          kept (hW.chg rfl) kept kept kept kept kept kept kept kept kept
      with_reducible assumption
    · with_reducible assumption

theorem control_keeps {W : Nat} {z : State} (s : State) (h : ℕ) (op : ℕ) (f : State → ℕ → Op → State) (hW : Sub
    107347828 W) (h_s : Keeps W z s) (h_f : ∀ q1 q2 q3, Keeps W z q1 → Keeps W z (f q1 q2 q3)) :
    KeepsRes W z (control s h op f) := by
  unfold control
  split
  · with_reducible assumption
  · split
    · change Keeps W z _
      apply endWith_keeps
      · with_reducible assumption
      · with_reducible assumption
    · split
      · change Keeps W z _
        apply endWith_keeps
        · with_reducible assumption
        · with_reducible assumption
      · change Keeps W z _
        apply h_f
        with_reducible assumption

theorem deltaSub_keeps {W : Nat} {z : State} (s : State) (q : ℕ) (hW : Sub 35652096 W) (h_s : Keeps W z s) :
    Keeps W z (deltaSub s q) := by
  unfold deltaSub
  refine foldl_keeps (P := Keeps W z) ?_ ?_
  · with_reducible assumption
  · intro y0 y1 y2
    apply sendRunnel_keeps
    · with_reducible assumption
    · with_reducible assumption

theorem copyMirror_keeps {W : Nat} {z : State} (s : State) (r : Region) (hW : Sub 35652096 W) (h_s : Keeps W z s) :
    Keeps W z (copyMirror s r) := by
  unfold copyMirror
  refine foldl_keeps (P := Keeps W z) ?_ ?_
  · with_reducible assumption
  · intro y0 y1 y2
    apply deltaSub_keeps
    · with_reducible assumption
    · with_reducible assumption

theorem syncStep_keeps {W : Nat} {z : State} (s : State) (hW : Sub 35652100 W) (h_s : Keeps W z s) :
    Keeps W z (syncStep s) := by
  unfold syncStep
  split
  · apply wr_keeps
    · exact Sub.up (by decide) hW
    · apply modPair_keeps
      · exact Sub.up (by decide) hW
      · apply deltaSub_keeps
        · exact Sub.up (by decide) hW
        · with_reducible assumption
  · with_reducible assumption

theorem copyOn_keeps {W : Nat} {z : State} (s : State) (hW : Sub 35652100 W) (h_s : Keeps W z s) :
    Keeps W z (copyOn s) := by
  unfold copyOn
  split
  · apply syncStep_keeps
    · with_reducible assumption
    · with_reducible assumption
  · with_reducible assumption

theorem laneEvents_keeps {W : Nat} {z : State} (s : State) (p : ℕ) (lane : ℕ) (hW : Sub 107062788 W) (h_s : Keeps W z
    s) :
    Keeps W z (laneEvents s p lane) := by
  unfold laneEvents
  extract_lets v0
  have h1 : Keeps W z v0 := by
    unfold v0
    apply event_keeps
    · with_reducible assumption
    · with_reducible assumption
  clear_value v0
  apply reserveEvent_keeps
  · with_reducible assumption
  · with_reducible assumption

theorem narrower_keeps {W : Nat} {z : State} (s : State) (p : ℕ) (lane : ℕ) (hW : Sub 107083524 W) (h_s : Keeps W z
    s) :
    Keeps W z (narrower s p lane) := by
  unfold narrower
  split
  · with_reducible assumption
  · apply startWidth_keeps
    · exact Sub.up (by decide) hW
    · apply laneEvents_keeps
      · exact Sub.up (by decide) hW
      · with_reducible assumption

theorem crossLane_keeps {W : Nat} {z : State} (s : State) (p : ℕ) (tx : Bool) (lane : ℕ) (hW : Sub 107083524 W) (h_s
    : Keeps W z s) :
    Keeps W z (crossLane s p tx lane) := by
  unfold crossLane
  extract_lets v0 v1 v2
  clear_value v0
  clear_value v1
  have h3 : Keeps W z v2 := by
    unfold v2
    apply setLp_keeps
    · exact Sub.up (by decide) hW
    · with_reducible assumption
  clear_value v2
  split
  · with_reducible assumption
  · split
    · apply setLp_keeps
      · exact Sub.up (by decide) hW
      · with_reducible assumption
    · split
      · apply setLp_keeps
        · exact Sub.up (by decide) hW
        · with_reducible assumption
      · split
        · with_reducible assumption
        · split
          · split
            · with_reducible assumption
            · apply narrower_keeps
              · with_reducible assumption
              · with_reducible assumption
          · split
            · apply narrower_keeps
              · with_reducible assumption
              · with_reducible assumption
            · apply ask_keeps
              · exact Sub.up (by decide) hW
              · apply modLp_keeps
                · exact Sub.up (by decide) hW
                · apply voidPort_keeps
                  · exact Sub.up (by decide) hW
                  · with_reducible assumption

end Sys2Proof.Machine
end

