-- ==== Sys2Proof/Laws/Keeps5.lean ====
section
/-!
SUPPORT. Each operation keeps what Keeps.lean names, part 5: one lemma an operation, in the order of use.
-/
namespace Sys2Proof.Machine

theorem countLanes_keeps {W : Nat} {z : State} (s : State) (p : ℕ) (places : List ℕ) (hW : Sub 107083524 W) (h_s :
    Keeps W z s) :
    Keeps W z (countLanes s p places) := by
  unfold countLanes
  extract_lets v0 v1 v2
  clear_value v0
  clear_value v1
  clear_value v2
  refine foldl_keeps (P := Keeps W z) ?_ ?_
  · with_reducible assumption
  · intro y3 y4 y5
    extract_lets v6 v7 v8 v9 v10
    clear_value v6
    clear_value v7
    clear_value v8
    clear_value v9
    have h11 : Keeps W z v10 := by
      unfold v10
      apply modLp_keeps
      · exact Sub.up (by decide) hW
      · with_reducible assumption
    clear_value v10
    split
    · apply crossLane_keeps
      · with_reducible assumption
      · with_reducible assumption
    · with_reducible assumption

theorem cxlRefuse_keeps {W : Nat} {z : State} (s : State) (w : CxlWait) (pa : ℕ) (st : ℕ) (hW : Sub 107062788 W) (h_s
    : Keeps W z s) :
    Keeps W z (cxlRefuse s w pa st) := by
  unfold cxlRefuse
  split
  · apply put_keeps
    · exact Sub.up (by decide) hW
    · apply cxlDiscard_keeps
      · with_reducible assumption
      · with_reducible assumption
  · extract_lets v2 v3
    have h4 : Keeps W z v2 := by
      unfold v2
      apply count_keeps
      · exact Sub.up (by decide) hW
      · apply cxlRecord_keeps
        · exact Sub.up (by decide) hW
        · with_reducible assumption
    clear_value v2
    have h5 : Keeps W z v3 := by
      unfold v3
      split
      · apply event_keeps
        · with_reducible assumption
        · with_reducible assumption
      · with_reducible assumption
    clear_value v3
    apply put_keeps
    · exact Sub.up (by decide) hW
    · with_reducible assumption

theorem cxlServe_keeps {W : Nat} {z : State} (s : State) (w : CxlWait) (hW : Sub 107347828 W) (h_s : Keeps W z s) :
    KeepsOpt W z (cxlServe s w) := by
  unfold cxlServe
  extract_lets v0 v1 v2 v3 v4
  clear_value v0
  clear_value v1
  clear_value v2
  clear_value v3
  clear_value v4
  split
  · exact trivial
  · split
    · split
      · change Keeps W z _
        apply cxlRefuse_keeps
        · exact Sub.up (by decide) hW
        · with_reducible assumption
      · split
        · change Keeps W z _
          apply sendRunnel_keeps
          · exact Sub.up (by decide) hW
          · apply wb_keeps
            · exact Sub.up (by decide) hW
            · with_reducible assumption
        · change Keeps W z _
          apply cxlRefuse_keeps
          · exact Sub.up (by decide) hW
          · with_reducible assumption
    · split
      · change Keeps W z _
        apply cxlRefuse_keeps
        · exact Sub.up (by decide) hW
        · with_reducible assumption
      · split
        · change Keeps W z _
          apply cxlRefuse_keeps
          · exact Sub.up (by decide) hW
          · with_reducible assumption
        · split
          · change Keeps W z _
            apply cxlRefuse_keeps
            · exact Sub.up (by decide) hW
            · with_reducible assumption
          · split
            · exact trivial
            · split
              · rename_i x25 x26
                have k27 := keeps_eq x26 (P := KeepsOpt W z) (by
                  apply weirAdmit_keeps
                  · exact Sub.up (by decide) hW
                  · with_reducible assumption
                  )
                with_reducible assumption
              · rename_i x28 x29 x30
                have k31 := keeps_eq x30 (P := KeepsOpt W z) (by
                  apply weirAdmit_keeps
                  · exact Sub.up (by decide) hW
                  · with_reducible assumption
                  )
                extract_lets v32 v33 v34 v35
                clear_value v32
                clear_value v33
                have h36 : Keeps W z v34 := by
                  unfold v34
                  apply count_keeps
                  · exact Sub.up (by decide) hW
                  · with_reducible assumption
                clear_value v34
                have h37 : Keeps W z v35 := by
                  unfold v35
                  split
                  · apply startPromote_keeps
                    · exact Sub.up (by decide) hW
                    · with_reducible assumption
                  · with_reducible assumption
                clear_value v35
                split
                · change Keeps W z _
                  apply cxlRefuse_keeps
                  · exact Sub.up (by decide) hW
                  · apply count_keeps
                    · exact Sub.up (by decide) hW
                    · apply touchPages_keeps
                      · exact Sub.up (by decide) hW
                      · apply unadmit_keeps
                        · exact Sub.up (by decide) hW
                        · with_reducible assumption
                · change Keeps W z _
                  apply homeBegin_keeps
                  · with_reducible assumption
                  · apply access_keeps
                    · exact Sub.up (by decide) hW
                    · with_reducible assumption

theorem refusedCount_keeps {W : Nat} {z : State} (s : State) (req : ℕ) (c : ℕ) (len : ℕ) (hW : Sub 33554432 W) (h_s :
    Keeps W z s) :
    Keeps W z (refusedCount s req c len) := by
  unfold refusedCount
  split
  · with_reducible assumption
  · apply countRefusal_keeps
    · with_reducible assumption
    · with_reducible assumption

theorem cxlArrive_keeps {W : Nat} {z : State} (s : State) (w : CxlWait) (hW : Sub 107347828 W) (h_s : Keeps W z s) :
    Keeps W z (cxlArrive s w) := by
  unfold cxlArrive
  extract_lets v0 v1
  clear_value v0
  have h2 : Keeps W z v1 := by
    unfold v1
    refine Keeps.congr (s := s) ?_ rfl rfl rfl rfl rfl rfl kept kept kept kept kept kept (hW.chg rfl) kept kept kept
        kept kept kept kept kept kept kept kept kept kept kept kept
    with_reducible assumption
  clear_value v1
  split
  · split
    · rename_i x4 x5 x6
      have k7 := keeps_eq x6 (P := KeepsOpt W z) (by
        apply cxlServe_keeps
        · with_reducible assumption
        · with_reducible assumption
        )
      with_reducible assumption
    · rename_i x8 x9
      have k10 := keeps_eq x9 (P := KeepsOpt W z) (by
        apply cxlServe_keeps
        · with_reducible assumption
        · with_reducible assumption
        )
      split
      · apply refusedCount_keeps
        · exact Sub.up (by decide) hW
        · with_reducible assumption
      · with_reducible assumption
  · with_reducible assumption

theorem cxlDropRequests_keeps {W : Nat} {z : State} (s : State) (hW : Sub 107347828 W) (h_s : Keeps W z s) :
    Keeps W z (cxlDropRequests s) := by
  unfold cxlDropRequests
  extract_lets v0 v1 v2 v3 v4 v5 v6 v7 v8 v9 v10 v11 v12
  clear_value v0
  clear_value v1
  clear_value v2
  clear_value v3
  clear_value v4
  have h13 : Keeps W z v5 := by
    unfold v5
    refine Keeps.congr (s := s) ?_ rfl rfl rfl rfl rfl rfl kept kept kept kept kept (hW.chg rfl) kept kept kept kept
        kept kept kept kept kept kept kept kept kept kept kept kept
    with_reducible assumption
  clear_value v5
  have h14 : Keeps W z v6 := by
    unfold v6
    refine foldl_keeps (P := Keeps W z) ?_ ?_
    · with_reducible assumption
    · intro y15 y16 y17
      extract_lets v18 v19 v20
      clear_value v18
      clear_value v19
      clear_value v20
      split
      · apply closeTran_keeps
        · with_reducible assumption
        · with_reducible assumption
      · apply advance_keeps
        · with_reducible assumption
        · apply setTran_keeps
          · exact Sub.up (by decide) hW
          · with_reducible assumption
  clear_value v6
  have h23 : Keeps W z v7 := by
    unfold v7
    refine foldl_keeps (P := Keeps W z) ?_ ?_
    · with_reducible assumption
    · intro y24 y25 y26
      apply unchargeBacklog_keeps
      · exact Sub.up (by decide) hW
      · with_reducible assumption
  clear_value v7
  clear_value v8
  have h27 : Keeps W z v9 := by
    unfold v9
    apply setSched_keeps
    · exact Sub.up (by decide) hW
    · with_reducible assumption
  clear_value v9
  clear_value v10
  have h28 : Keeps W z v11 := by
    unfold v11
    refine Keeps.congr (s := v9) ?_ rfl rfl rfl rfl rfl rfl kept kept kept kept kept kept (hW.chg rfl) kept kept kept
        kept kept kept kept kept kept kept kept kept kept kept kept
    with_reducible assumption
  clear_value v11
  have h29 : Keeps W z v12 := by
    unfold v12
    refine foldl_keeps (P := Keeps W z) ?_ ?_
    · with_reducible assumption
    · intro y30 y31 y32
      apply count_keeps
      · exact Sub.up (by decide) hW
      · with_reducible assumption
  clear_value v12
  split
  · with_reducible assumption
  · apply errInc_keeps
    · exact Sub.up (by decide) hW
    · with_reducible assumption

theorem passCore_keeps {W : Nat} {z : State} (s : State) (cl : ℕ) (c : ℕ) (hW : Sub 2048 W) (h_s : Keeps W z s) :
    Keeps W z (passCore s cl c) := by
  unfold passCore
  refine Keeps.congr (s := s) ?_ rfl rfl rfl rfl rfl rfl kept kept kept kept kept kept kept kept (hW.chg rfl) kept
      kept kept kept kept kept kept kept kept kept kept kept kept
  with_reducible assumption

theorem wakeCore_keeps {W : Nat} {z : State} (s : State) (c : ℕ) (hW : Sub 4 W) (h_s : Keeps W z s) :
    Keeps W z (wakeCore s c) := by
  unfold wakeCore
  split
  · apply setGated_keeps
    · with_reducible assumption
    · with_reducible assumption
  · with_reducible assumption

theorem dealBatch_keeps {W : Nat} {z : State} (s : State) (cl : ℕ) (c : ℕ) (h : ℕ) (o : Op) (hW : Sub 107347828 W)
    (h_s : Keeps W z s) :
    Keeps W z (dealBatch s cl c h o) := by
  unfold dealBatch
  extract_lets v0 v1 v2 v3
  clear_value v0
  have h4 : Keeps W z v1 := by
    unfold v1
    apply setOp_keeps
    · exact Sub.up (by decide) hW
    · apply passCore_keeps
      · exact Sub.up (by decide) hW
      · apply wakeCore_keeps
        · exact Sub.up (by decide) hW
        · with_reducible assumption
  clear_value v1
  clear_value v2
  have h5 : Keeps W z v3 := by
    unfold v3
    refine Keeps.congr (s := v1) ?_ rfl rfl rfl rfl rfl rfl kept kept kept kept kept kept kept kept (hW.chg rfl) kept
        kept kept kept kept kept kept kept kept kept kept kept kept
    with_reducible assumption
  clear_value v3
  refine foldl_keeps (P := Keeps W z) ?_ ?_
  · with_reducible assumption
  · intro y6 y7 y8
    apply admitTile_keeps
    · with_reducible assumption
    · with_reducible assumption

theorem dealStranded_keeps {W : Nat} {z : State} (s : State) (cl : ℕ) (c : ℕ) (b : List Tile) (hW : Sub 2052 W) (h_s
    : Keeps W z s) :
    Keeps W z (dealStranded s cl c b) := by
  unfold dealStranded
  extract_lets v0 v1
  have h2 : Keeps W z v0 := by
    unfold v0
    apply passCore_keeps
    · exact Sub.up (by decide) hW
    · apply wakeCore_keeps
      · exact Sub.up (by decide) hW
      · with_reducible assumption
  clear_value v0
  clear_value v1
  refine Keeps.congr (s := v0) ?_ rfl rfl rfl rfl rfl rfl kept kept kept kept kept kept kept kept (hW.chg rfl) kept
      kept kept kept kept kept kept kept kept kept kept kept kept
  with_reducible assumption

theorem writeMeta_keeps {W : Nat} {z : State} (s : State) (q : ℕ) (f : ℕ) (hW : Sub 67109888 W) (h_s : Keeps W z s) :
    Keeps W z (writeMeta s q f) := by
  unfold writeMeta
  apply issueNvme_keeps
  · with_reducible assumption
  · with_reducible assumption

theorem demoteWritten_keeps {W : Nat} {z : State} (s : State) (m : Move) (hW : Sub 107347828 W) (h_s : Keeps W z s) :
    Keeps W z (demoteWritten s m) := by
  unfold demoteWritten
  split
  · with_reducible assumption
  · extract_lets v2
    have h3 : Keeps W z v2 := by
      unfold v2
      apply writeMeta_keeps
      · exact Sub.up (by decide) hW
      · with_reducible assumption
    clear_value v2
    split
    · split
      rename_i x5 x6 x7 x8
      have k9 := keeps_eq x8 (P := KeepsSnd W z) (by
        apply awaitMack_keeps
        · exact Sub.up (by decide) hW
        · with_reducible assumption
        )
      extract_lets v10 v11
      clear_value v10
      clear_value v11
      apply sendRunnel_keeps
      · exact Sub.up (by decide) hW
      · refine Keeps.congr (s := x7) ?_ rfl rfl rfl rfl rfl rfl kept kept kept kept kept kept kept (hW.chg rfl) kept
            kept kept kept kept kept kept kept kept kept kept kept kept kept
        with_reducible assumption
    · apply demoteCommit_keeps
      · with_reducible assumption
      · with_reducible assumption

theorem descChecked_keeps {W : Nat} {z : State} (h : ℕ) (o : Op) (s : State) (hW : Sub 107347956 W) (h_s : Keeps W z
    s) :
    KeepsGo W z (descChecked h o s) := by
  unfold descChecked
  split
  · with_reducible assumption
  · split
    · change Keeps W z _
      apply recordFault_keeps
      · exact Sub.up (by decide) hW
      · with_reducible assumption
    · split
      · with_reducible assumption
      · split
        · with_reducible assumption
        · split
          · apply beginRun_keeps
            · with_reducible assumption
            · with_reducible assumption
          · change Keeps W z _
            apply modOp_keeps
            · exact Sub.up (by decide) hW
            · apply forgetSnoops_keeps
              · exact Sub.up (by decide) hW
              · with_reducible assumption

theorem dirAfterWb_keeps {W : Nat} {z : State} (s : State) (line : ℕ) (e : DirEntry) (hW : Sub 256 W) (h_s : Keeps W
    z s) :
    Keeps W z (dirAfterWb s line e) := by
  unfold dirAfterWb
  split
  · split
    · apply setDir_keeps
      · with_reducible assumption
      · with_reducible assumption
    · apply dropDir_keeps
      · with_reducible assumption
      · with_reducible assumption
  · apply setDir_keeps
    · with_reducible assumption
    · with_reducible assumption

theorem dirMirrored_keeps {W : Nat} {z : State} (s : State) (c : DirChange) (hW : Sub 256 W) (h_s : Keeps W z s) :
    Keeps W z (dirMirrored s c) := by
  unfold dirMirrored
  extract_lets v0
  clear_value v0
  split
  · apply dropDir_keeps
    · with_reducible assumption
    · with_reducible assumption
  · apply setDir_keeps
    · with_reducible assumption
    · with_reducible assumption

theorem dlySettled_keeps {W : Nat} {z : State} (s : State) (ch : ℕ) (hW : Sub 4 W) (h_s : Keeps W z s) :
    Keeps W z (dlySettled s ch) := by
  unfold dlySettled
  split
  · with_reducible assumption
  · apply wb_keeps
    · with_reducible assumption
    · with_reducible assumption

theorem dlyInstall_keeps {W : Nat} {z : State} (s : State) (ch : ℕ) (sc : ℕ) (hW : Sub 262148 W) (h_s : Keeps W z s) :
    Keeps W z (dlyInstall s ch sc) := by
  unfold dlyInstall
  split
  · with_reducible assumption
  · extract_lets v2 v3 v4
    clear_value v2
    clear_value v3
    have h5 : Keeps W z v4 := by
      unfold v4
      refine Keeps.congr (s := s) ?_ rfl rfl rfl rfl rfl rfl kept kept kept kept kept kept kept kept kept kept kept
          kept kept kept kept (hW.chg rfl) kept kept kept kept kept kept
      with_reducible assumption
    clear_value v4
    apply dlySettled_keeps
    · exact Sub.up (by decide) hW
    · with_reducible assumption

theorem drainCore_keeps {W : Nat} {z : State} (s : State) (c : ℕ) (hW : Sub 33556864 W) (h_s : Keeps W z s) :
    Keeps W z (drainCore s c) := by
  unfold drainCore
  extract_lets v0 v1 v2 v3 v4 v5 v6 v7 v8 v9
  clear_value v0
  clear_value v1
  have h10 : Keeps W z v2 := by
    unfold v2
    refine foldl_keeps (P := Keeps W z) ?_ ?_
    · with_reducible assumption
    · intro y11 y12 y13
      apply forgetSnoops_keeps
      · exact Sub.up (by decide) hW
      · apply wasteTile_keeps
        · exact Sub.up (by decide) hW
        · with_reducible assumption
  clear_value v2
  clear_value v3
  clear_value v4
  clear_value v5
  clear_value v6
  clear_value v7
  clear_value v8
  clear_value v9
  refine Keeps.congr (s := v2) ?_ rfl rfl rfl rfl rfl rfl kept kept kept kept (hW.chg rfl) kept kept kept (hW.chg
      rfl) kept kept kept kept kept kept kept kept kept kept kept kept kept
  with_reducible assumption

theorem drainStaged_keeps {W : Nat} {z : State} (l : List MirrorWrite) (s : State) (hW : Sub 35653236 W) (h : Keeps W
    z s) :
    Keeps W z (drainStaged l s) := by
  induction l generalizing s with
  | nil => exact h
  | cons w ws ih =>
    unfold drainStaged
    have k := applyMirror_keeps s w (Sub.up (by decide) hW) h
    split
    · rename_i e; rw [e] at k; exact ih _ (modPair_keeps _ _ (Sub.up (by decide) hW) k)
    · exact h

theorem drainUpdate_keeps {W : Nat} {z : State} (s : State) (ch : ℕ) (hW : Sub 262144 W) (h_s : Keeps W z s) :
    Keeps W z (drainUpdate s ch) := by
  unfold drainUpdate
  extract_lets v0
  clear_value v0
  refine foldl_keeps (P := Keeps W z) ?_ ?_
  · with_reducible assumption
  · intro y1 y2 y3
    extract_lets v4 v5 v6 v7 v8
    clear_value v4
    clear_value v5
    clear_value v6
    clear_value v7
    clear_value v8
    refine Keeps.congr (s := y1) ?_ rfl rfl rfl rfl rfl rfl kept kept kept kept kept kept kept kept kept kept kept
        kept kept kept kept (hW.chg rfl) kept kept kept kept kept kept
    with_reducible assumption

theorem setTrackRows_keeps {W : Nat} {z : State} (s : State) (ch : ℕ) (ts : List Track) (hW : Sub 8192 W) (h_s :
    Keeps W z s) :
    Keeps W z (setTrackRows s ch ts) := by
  unfold setTrackRows
  refine Keeps.congr (s := s) ?_ rfl rfl rfl rfl rfl rfl kept kept kept kept kept kept kept kept kept kept (hW.chg
      rfl) kept kept kept kept kept kept kept kept kept kept kept
  with_reducible assumption

theorem rowLasting_keeps {W : Nat} {z : State} (s : State) (ch : ℕ) (key : ℕ) (hW : Sub 107062788 W) (h_s : Keeps W z
    s) :
    Keeps W z (rowLasting s ch key) := by
  unfold rowLasting
  extract_lets v0 v1 v2 v3
  clear_value v0
  have h4 : Keeps W z v1 := by
    unfold v1
    apply eventAt_keeps
    · with_reducible assumption
    · with_reducible assumption
  clear_value v1
  clear_value v2
  clear_value v3
  split
  · apply eventAt_keeps
    · with_reducible assumption
    · with_reducible assumption
  · split
    · split
      · with_reducible assumption
      · refine Keeps.congr (s := v1) ?_ rfl rfl rfl rfl rfl rfl kept kept kept kept kept kept kept kept kept kept
            (hW.chg rfl) kept kept kept kept kept kept kept kept kept kept kept
        with_reducible assumption
    · with_reducible assumption

theorem rowCount_keeps {W : Nat} {z : State} (s : State) (ch : ℕ) (key : ℕ) (fatal : Bool) (hW : Sub 107062788 W)
    (h_s : Keeps W z s) :
    KeepsSnd W z (rowCount s ch key fatal) := by
  unfold rowCount
  split
  extract_lets v4 v5 v6 v7 v8
  clear_value v4
  clear_value v5
  clear_value v6
  clear_value v7
  have h9 : Keeps W z v8 := by
    unfold v8
    apply setTrackRows_keeps
    · exact Sub.up (by decide) hW
    · with_reducible assumption
  clear_value v8
  change Keeps W z _
  dsimp only
  split
  · apply rowLasting_keeps
    · with_reducible assumption
    · with_reducible assumption
  · with_reducible assumption

theorem dramCorrected_keeps {W : Nat} {z : State} (s : State) (ch : ℕ) (x : CaFields) (line : Option ℕ) (hW : Sub
    107064836 W) (h_s : Keeps W z s) :
    Keeps W z (dramCorrected s ch x line) := by
  unfold dramCorrected
  extract_lets v0 v1 v2
  have h3 : Keeps W z v0 := by
    unfold v0
    apply count_keeps
    · exact Sub.up (by decide) hW
    · with_reducible assumption
  clear_value v0
  have h4 : Keeps W z v1 := by
    unfold v1
    apply bucketAdd_keeps
    · exact Sub.up (by decide) hW
    · with_reducible assumption
  clear_value v1
  have h5 : Keeps W z v2 := by
    unfold v2
    apply scrubNote_keeps
    · exact Sub.up (by decide) hW
    · with_reducible assumption
  clear_value v2
  split
  rename_i x6 x7 x8 x9
  have k10 := keeps_eq x9 (P := KeepsSnd W z) (by
    apply rowCount_keeps
    · exact Sub.up (by decide) hW
    · with_reducible assumption
    )
  split
  · apply scrubNote_keeps
    · exact Sub.up (by decide) hW
    · with_reducible assumption
  · with_reducible assumption

theorem dramUncorrectable_keeps {W : Nat} {z : State} (s : State) (ch : ℕ) (x : CaFields) (line : Option ℕ) (da : ℕ)
    (hW : Sub 107064836 W) (h_s : Keeps W z s) :
    Keeps W z (dramUncorrectable s ch x line da) := by
  unfold dramUncorrectable
  extract_lets v0 v1 v2 v3
  clear_value v0
  have h4 : Keeps W z v1 := by
    unfold v1
    apply count_keeps
    · exact Sub.up (by decide) hW
    · with_reducible assumption
  clear_value v1
  have h5 : Keeps W z v2 := by
    unfold v2
    apply event_keeps
    · exact Sub.up (by decide) hW
    · with_reducible assumption
  clear_value v2
  have h6 : Keeps W z v3 := by
    unfold v3
    apply scrubNote_keeps
    · exact Sub.up (by decide) hW
    · with_reducible assumption
  clear_value v3
  split
  rename_i x7 x8 x9 x10
  have k11 := keeps_eq x10 (P := KeepsSnd W z) (by
    apply rowCount_keeps
    · exact Sub.up (by decide) hW
    · with_reducible assumption
    )
  split
  · apply scrubNote_keeps
    · exact Sub.up (by decide) hW
    · with_reducible assumption
  · with_reducible assumption

theorem dramRead_keeps {W : Nat} {z : State} (s : State) (ch : ℕ) (da : ℕ) (e : Flips) (hW : Sub 107064948 W) (h_s :
    Keeps W z s) :
    Keeps W z (dramRead s ch da e) := by
  unfold dramRead
  split
  split
  · with_reducible assumption
  · extract_lets v6 v7 v8 v9 v10 v11
    clear_value v6
    clear_value v7
    clear_value v8
    clear_value v9
    have h12 : ∀ q1 q2 q3, Keeps W z q1 → Keeps W z (v10 q1 q2 q3) := by
      unfold v10
      intro y13 y14 y15 y16
      split
      · with_reducible assumption
      · apply setPoison_keeps
        · exact Sub.up (by decide) hW
        · apply setBytes_keeps
          · exact Sub.up (by decide) hW
          · with_reducible assumption
    clear_value v10
    clear_value v11
    split
    · split
      · with_reducible assumption
      · apply h12
        with_reducible assumption
    · extract_lets v29 v30
      clear_value v29
      clear_value v30
      apply h12
      apply dramCorrected_keeps
      · exact Sub.up (by decide) hW
      · with_reducible assumption
    · apply h12
      apply dramUncorrectable_keeps
      · exact Sub.up (by decide) hW
      · with_reducible assumption

theorem dropDriveMoves_keeps {W : Nat} {z : State} (s : State) (d : ℕ) (hW : Sub 100666372 W) (h_s : Keeps W z s) :
    Keeps W z (dropDriveMoves s d) := by
  unfold dropDriveMoves
  refine foldl_keeps (P := Keeps W z) ?_ ?_
  · with_reducible assumption
  · intro y0 y1 y2
    extract_lets v3
    have h4 : Keeps W z v3 := by
      unfold v3
      apply abandonMove_keeps
      · exact Sub.up (by decide) hW
      · with_reducible assumption
    clear_value v3
    split
    · with_reducible assumption
    · apply modOp_keeps
      · exact Sub.up (by decide) hW
      · with_reducible assumption

theorem dropSub_keeps {W : Nat} {z : State} (s : State) (q : ℕ) (hW : Sub 100926580 W) (h_s : Keeps W z s) :
    Keeps W z (dropSub s q) := by
  unfold dropSub
  extract_lets v0 v1 v2
  have h3 : Keeps W z v0 := by
    unfold v0
    split
    · apply abandonMove_keeps
      · exact Sub.up (by decide) hW
      · with_reducible assumption
    · with_reducible assumption
  clear_value v0
  have h9 : Keeps W z v1 := by
    unfold v1
    apply setSub_keeps
    · exact Sub.up (by decide) hW
    · apply zeroSub_keeps
      · exact Sub.up (by decide) hW
      · apply releaseRec_keeps
        · exact Sub.up (by decide) hW
        · apply dropMerges_keeps
          · exact Sub.up (by decide) hW
          · with_reducible assumption
  clear_value v1
  clear_value v2
  refine Keeps.congr (s := v1) ?_ rfl rfl rfl rfl rfl rfl kept kept kept kept kept kept kept (hW.chg rfl) kept kept
      kept kept kept kept kept kept kept kept kept kept kept kept
  with_reducible assumption

theorem dropVersion_keeps {W : Nat} {z : State} (s : State) (key : ℕ) (subs : List ℕ) (pages : List ℕ) (dom : ℕ) (hW
    : Sub 100926580 W) (h_s : Keeps W z s) :
    Keeps W z (dropVersion s key subs pages dom) := by
  unfold dropVersion
  apply chargeSub_keeps
  · exact Sub.up (by decide) hW
  · refine foldl_keeps (P := Keeps W z) ?_ ?_
    · with_reducible assumption
    · intro y0 y1 y2
      apply dropSub_keeps
      · with_reducible assumption
      · with_reducible assumption

theorem dropOld_keeps {W : Nat} {z : State} (s : State) (v : OldVersion) (dom : ℕ) (hW : Sub 100926580 W) (h_s :
    Keeps W z s) :
    Keeps W z (dropOld s v dom) := by
  unfold dropOld
  extract_lets v0 v1
  have h2 : Keeps W z v0 := by
    unfold v0
    apply dropVersion_keeps
    · with_reducible assumption
    · with_reducible assumption
  clear_value v0
  clear_value v1
  refine Keeps.congr (s := v0) ?_ rfl rfl rfl rfl rfl rfl kept kept kept (hW.chg rfl) kept kept kept kept kept kept
      kept kept kept kept kept kept kept kept kept kept kept kept
  with_reducible assumption

theorem dropSession_keeps {W : Nat} {z : State} (s : State) (n : ℕ) (hW : Sub 131072 W) (h_s : Keeps W z s) :
    Keeps W z (dropSession s n) := by
  unfold dropSession
  refine Keeps.congr (s := s) ?_ rfl rfl rfl rfl rfl rfl kept kept kept kept kept kept kept kept kept kept kept kept
      kept kept (hW.chg rfl) kept kept kept kept kept kept kept
  with_reducible assumption

theorem dropSharer_keeps {W : Nat} {z : State} (s : State) (line : ℕ) (i : ℕ) (e : DirEntry) (hW : Sub 256 W) (h_s :
    Keeps W z s) :
    Keeps W z (dropSharer s line i e) := by
  unfold dropSharer
  extract_lets v0 v1 v2
  clear_value v0
  clear_value v1
  have h3 : Keeps W z v2 := by
    unfold v2
    refine Keeps.congr (s := s) ?_ rfl rfl rfl rfl rfl rfl kept kept kept kept kept (hW.chg rfl) kept kept kept kept
        kept kept kept kept kept kept kept kept kept kept kept kept
    with_reducible assumption
  clear_value v2
  split
  · split
    · apply setDir_keeps
      · with_reducible assumption
      · with_reducible assumption
    · apply dropDir_keeps
      · with_reducible assumption
      · with_reducible assumption
  · apply setDir_keeps
    · with_reducible assumption
    · with_reducible assumption

theorem dropStaging_keeps {W : Nat} {z : State} (s : State) (v : Staging) (dom : ℕ) (hW : Sub 100926580 W) (h_s :
    Keeps W z s) :
    Keeps W z (dropStaging s v dom) := by
  unfold dropStaging
  extract_lets v0 v1
  have h2 : Keeps W z v0 := by
    unfold v0
    apply dropVersion_keeps
    · with_reducible assumption
    · with_reducible assumption
  clear_value v0
  clear_value v1
  refine Keeps.congr (s := v0) ?_ rfl rfl rfl rfl rfl rfl kept kept kept (hW.chg rfl) kept kept kept kept kept kept
      kept kept kept kept kept kept kept kept kept kept kept kept
  with_reducible assumption

theorem setWalks_keeps {W : Nat} {z : State} (s : State) (ws : List Walk) (hW : Sub 128 W) (h_s : Keeps W z s) :
    Keeps W z (setWalks s ws) := by
  unfold setWalks
  refine Keeps.congr (s := s) ?_ rfl rfl rfl rfl rfl rfl kept kept kept kept (hW.chg rfl) kept kept kept kept kept
      kept kept kept kept kept kept kept kept kept kept kept kept
  with_reducible assumption

theorem dropWalk_keeps {W : Nat} {z : State} (s : State) (w : Walk) (hW : Sub 128 W) (h_s : Keeps W z s) :
    Keeps W z (dropWalk s w) := by
  unfold dropWalk
  apply setWalks_keeps
  · with_reducible assumption
  · with_reducible assumption

theorem endEarly_keeps {W : Nat} {z : State} (s : State) (h : ℕ) (st : ℕ) (hW : Sub 107347828 W) (h_s : Keeps W z s) :
    Keeps W z (endEarly s h st) := by
  unfold endEarly
  apply endOp_keeps
  · with_reducible assumption
  · apply modOp_keeps
    · exact Sub.up (by decide) hW
    · apply forgetSnoops_keeps
      · exact Sub.up (by decide) hW
      · with_reducible assumption

theorem enterPower_keeps {W : Nat} {z : State} (s : State) (p : ℕ) (t : ℕ) (hW : Sub 16388 W) (h_s : Keeps W z s) :
    Keeps W z (enterPower s p t) := by
  unfold enterPower
  apply modLp_keeps
  · with_reducible assumption
  · apply setLinkState_keeps
    · exact Sub.up (by decide) hW
    · apply wf_keeps
      · exact Sub.up (by decide) hW
      · with_reducible assumption

theorem evictServe_keeps {W : Nat} {z : State} (pkt : Packet) (i : ℕ) (s : State) (hW : Sub 107347828 W) (h_s : Keeps
    W z s) :
    Keeps W z (evictServe pkt i s) := by
  unfold evictServe
  split
  · with_reducible assumption
  · split
    · split
      · split
        · apply setDir_keeps
          · exact Sub.up (by decide) hW
          · with_reducible assumption
        · apply settle_keeps
          · with_reducible assumption
          · apply dropDir_keeps
            · exact Sub.up (by decide) hW
            · with_reducible assumption
      · with_reducible assumption
    · split
      · apply settle_keeps
        · with_reducible assumption
        · apply dropSharer_keeps
          · exact Sub.up (by decide) hW
          · with_reducible assumption
      · with_reducible assumption

theorem execAckClean_keeps {W : Nat} {z : State} (port : ℕ) (pkt : Packet) (s : State) (hW : Sub 107347828 W) (h_s :
    Keeps W z s) :
    KeepsRes W z (execAckClean port pkt s) := by
  unfold execAckClean
  apply absorb_keeps
  · exact Sub.up (by decide) hW
  · with_reducible assumption
  · intro y0 y1 y2
    apply answer_keeps
    · with_reducible assumption
    · with_reducible assumption

theorem wbMeets_keeps {W : Nat} {z : State} (s : State) (line : ℕ) (i : ℕ) (hW : Sub 107347828 W) (h_s : Keeps W z s)
    :
    Keeps W z (wbMeets s line i) := by
  unfold wbMeets
  split
  · with_reducible assumption
  · split
    · apply advance_keeps
      · with_reducible assumption
      · apply setTran_keeps
        · exact Sub.up (by decide) hW
        · with_reducible assumption
    · with_reducible assumption

theorem wbServe_keeps {W : Nat} {z : State} (pkt : Packet) (i : ℕ) (s : State) (hW : Sub 107347828 W) (h_s : Keeps W
    z s) :
    Keeps W z (wbServe pkt i s) := by
  unfold wbServe
  extract_lets v0 v1
  have h2 : ∀ q1, Keeps W z q1 → Keeps W z (v0 q1) := by
    unfold v0
    intro y3 y4
    apply emit_keeps
    · exact Sub.up (by decide) hW
    · with_reducible assumption
  clear_value v0
  have h5 : Keeps W z v1 := by
    unfold v1
    apply homeStore_keeps
    · exact Sub.up (by decide) hW
    · with_reducible assumption
  clear_value v1
  split
  · apply h2
    with_reducible assumption
  · split
    · apply wbMeets_keeps
      · with_reducible assumption
      · apply settle_keeps
        · with_reducible assumption
        · apply h2
          apply dirAfterWb_keeps
          · exact Sub.up (by decide) hW
          · with_reducible assumption
    · apply h2
      with_reducible assumption

theorem strayAnswer_keeps {W : Nat} {z : State} (pkt : Packet) (code : ℕ) (i : ℕ) (s : State) (hW : Sub 107347828 W)
    (h_s : Keeps W z s) :
    Keeps W z (strayAnswer pkt code i s) := by
  unfold strayAnswer
  split
  · apply wbServe_keeps
    · with_reducible assumption
    · with_reducible assumption
  · apply evictServe_keeps
    · with_reducible assumption
    · with_reducible assumption

theorem execAckInv_keeps {W : Nat} {z : State} (port : ℕ) (pkt : Packet) (s : State) (hW : Sub 107347828 W) (h_s :
    Keeps W z s) :
    KeepsRes W z (execAckInv port pkt s) := by
  unfold execAckInv
  apply absorb_keeps
  · exact Sub.up (by decide) hW
  · with_reducible assumption
  · intro y0 y1 y2
    split
    · apply strayAnswer_keeps
      · with_reducible assumption
      · with_reducible assumption
    · apply answer_keeps
      · with_reducible assumption
      · with_reducible assumption

theorem execAckMiss_keeps {W : Nat} {z : State} (port : ℕ) (pkt : Packet) (s : State) (hW : Sub 107347828 W) (h_s :
    Keeps W z s) :
    KeepsRes W z (execAckMiss port pkt s) := by
  unfold execAckMiss
  apply absorb_keeps
  · exact Sub.up (by decide) hW
  · with_reducible assumption
  · intro y0 y1 y2
    apply answer_keeps
    · with_reducible assumption
    · with_reducible assumption

theorem execAckShr_keeps {W : Nat} {z : State} (port : ℕ) (pkt : Packet) (s : State) (hW : Sub 107347828 W) (h_s :
    Keeps W z s) :
    KeepsRes W z (execAckShr port pkt s) := by
  unfold execAckShr
  apply absorb_keeps
  · exact Sub.up (by decide) hW
  · with_reducible assumption
  · intro y0 y1 y2
    apply answer_keeps
    · with_reducible assumption
    · with_reducible assumption

theorem execAckTimeout_keeps {W : Nat} {z : State} (port : ℕ) (s : State) (hW : Sub 20740 W) (h_s : Keeps W z s) :
    KeepsRes W z (execAckTimeout port s) := by
  unfold execAckTimeout
  split
  · with_reducible assumption
  · change Keeps W z _
    apply beginReplay_keeps
    · with_reducible assumption
    · apply modLp_keeps
      · exact Sub.up (by decide) hW
      · with_reducible assumption

theorem execActivateFirmware_keeps {W : Nat} {z : State} (s : State) (hW : Sub 113419276 W) (h_s : Keeps W z s) :
    KeepsRes W z (execActivateFirmware s) := by
  unfold execActivateFirmware
  split
  · change Keeps W z _
    apply pldmReply_keeps
    · exact Sub.up (by decide) hW
    · with_reducible assumption
  · split
    · change Keeps W z _
      apply pldmReply_keeps
      · exact Sub.up (by decide) hW
      · with_reducible assumption
    · extract_lets v4 v5 v6
      clear_value v4
      have h7 : Keeps W z v5 := by
        unfold v5
        apply pldmReply_keeps
        · exact Sub.up (by decide) hW
        · with_reducible assumption
      clear_value v5
      clear_value v6
      split
      · change Keeps W z _
        apply activateNow_keeps
        · with_reducible assumption
        · apply pldmReply_keeps
          · exact Sub.up (by decide) hW
          · with_reducible assumption
      · change Keeps W z _
        apply setFwu_keeps
        · exact Sub.up (by decide) hW
        · refine Keeps.congr (s := v5) ?_ rfl rfl rfl rfl rfl rfl kept kept kept kept kept kept kept kept kept kept
              kept kept kept kept kept kept kept kept kept (hW.chg rfl) kept kept
          with_reducible assumption

theorem execAlloc_keeps {W : Nat} {z : State} (h : ℕ) (s : State) (hW : Sub 107347830 W) (h_s : Keeps W z s) :
    KeepsRes W z (execAlloc h s) := by
  unfold execAlloc
  apply allocCmd_keeps
  · exact Sub.up (by decide) hW
  · with_reducible assumption
  · intro y0 y1 y2
    apply allocRegion_keeps
    · with_reducible assumption
    · with_reducible assumption

theorem execAtomicAddBf16x2_keeps {W : Nat} {z : State} (req : AtomicReq) (s : State) (hW : Sub 107347828 W) (h_s :
    Keeps W z s) :
    KeepsRes W z (execAtomicAddBf16x2 req s) := by
  unfold execAtomicAddBf16x2
  apply atomic_keeps
  · with_reducible assumption
  · with_reducible assumption

theorem execAtomicAddF32_keeps {W : Nat} {z : State} (req : AtomicReq) (s : State) (hW : Sub 107347828 W) (h_s :
    Keeps W z s) :
    KeepsRes W z (execAtomicAddF32 req s) := by
  unfold execAtomicAddF32
  apply atomic_keeps
  · with_reducible assumption
  · with_reducible assumption

theorem execAtomicAddI32_keeps {W : Nat} {z : State} (req : AtomicReq) (s : State) (hW : Sub 107347828 W) (h_s :
    Keeps W z s) :
    KeepsRes W z (execAtomicAddI32 req s) := by
  unfold execAtomicAddI32
  apply atomic_keeps
  · with_reducible assumption
  · with_reducible assumption

theorem execAtomicAddI64_keeps {W : Nat} {z : State} (req : AtomicReq) (s : State) (hW : Sub 107347828 W) (h_s :
    Keeps W z s) :
    KeepsRes W z (execAtomicAddI64 req s) := by
  unfold execAtomicAddI64
  apply atomic_keeps
  · with_reducible assumption
  · with_reducible assumption

theorem execAtomicSwap32_keeps {W : Nat} {z : State} (req : AtomicReq) (s : State) (hW : Sub 107347828 W) (h_s :
    Keeps W z s) :
    KeepsRes W z (execAtomicSwap32 req s) := by
  unfold execAtomicSwap32
  apply atomic_keeps
  · with_reducible assumption
  · with_reducible assumption

theorem execAtomicSwap64_keeps {W : Nat} {z : State} (req : AtomicReq) (s : State) (hW : Sub 107347828 W) (h_s :
    Keeps W z s) :
    KeepsRes W z (execAtomicSwap64 req s) := by
  unfold execAtomicSwap64
  apply atomic_keeps
  · with_reducible assumption
  · with_reducible assumption

theorem execAutoConfirmExpiry_keeps {W : Nat} {z : State} (type : ℕ) (s : State) (hW : Sub 4194308 W) (h_s : Keeps W
    z s) :
    KeepsRes W z (execAutoConfirmExpiry type s) := by
  unfold execAutoConfirmExpiry
  apply guarded_keeps
  · with_reducible assumption
  · intro y0 y1
    apply confirm_keeps
    · with_reducible assumption
    · with_reducible assumption

theorem execAutoRemapStart_keeps {W : Nat} {z : State} (ch : ℕ) (s : State) (hW : Sub 107324932 W) (h_s : Keeps W z
    s) :
    KeepsRes W z (execAutoRemapStart ch s) := by
  unfold execAutoRemapStart
  split
  · with_reducible assumption
  · apply guarded_keeps
    · with_reducible assumption
    · intro y6 y7
      apply remapStart_keeps
      · with_reducible assumption
      · refine Keeps.congr (s := y6) ?_ rfl rfl rfl rfl rfl rfl kept kept kept kept kept kept kept kept kept kept
            (hW.chg rfl) kept kept kept kept kept kept kept kept kept kept kept
        with_reducible assumption

theorem execAutoSubstituteStart_keeps {W : Nat} {z : State} (group : ℕ) (s : State) (hW : Sub 532740 W) (h_s : Keeps
    W z s) :
    KeepsRes W z (execAutoSubstituteStart group s) := by
  unfold execAutoSubstituteStart
  split
  · with_reducible assumption
  · apply guarded_keeps
    · with_reducible assumption
    · intro y6 y7
      apply substStart_keeps
      · exact Sub.up (by decide) hW
      · refine Keeps.congr (s := y6) ?_ rfl rfl rfl rfl rfl rfl kept kept kept kept kept kept kept kept kept kept
            (hW.chg rfl) kept kept kept kept kept kept kept kept kept kept kept
        with_reducible assumption

theorem execBankRetEntry_keeps {W : Nat} {z : State} (group : ℕ) (bank : ℕ) (s : State) (hW : Sub 4 W) (h_s : Keeps W
    z s) :
    KeepsRes W z (execBankRetEntry group bank s) := by
  unfold execBankRetEntry
  apply guarded_keeps
  · with_reducible assumption
  · intro y0 y1
    apply setPwr_keeps
    · with_reducible assumption
    · with_reducible assumption

theorem execBankSubstitutionDone_keeps {W : Nat} {z : State} (group : ℕ) (s : State) (hW : Sub 107587076 W) (h_s :
    Keeps W z s) :
    KeepsRes W z (execBankSubstitutionDone group s) := by
  unfold execBankSubstitutionDone
  split
  · with_reducible assumption
  · extract_lets v7 v8 v9 v10 v11 v12 v13
    have h14 : Keeps W z v7 := by
      unfold v7
      apply wf_keeps
      · exact Sub.up (by decide) hW
      · apply setBankRole_keeps
        · exact Sub.up (by decide) hW
        · with_reducible assumption
    clear_value v7
    have h15 : Keeps W z v8 := by
      unfold v8
      apply wb_keeps
      · exact Sub.up (by decide) hW
      · apply setPwr_keeps
        · exact Sub.up (by decide) hW
        · apply setBankRole_keeps
          · exact Sub.up (by decide) hW
          · with_reducible assumption
    clear_value v8
    have h16 : Keeps W z v9 := by
      unfold v9
      apply wf_keeps
      · exact Sub.up (by decide) hW
      · with_reducible assumption
    clear_value v9
    clear_value v10
    clear_value v11
    have h17 : Keeps W z v12 := by
      unfold v12
      refine Keeps.congr (s := v9) ?_ rfl rfl rfl rfl rfl rfl kept kept kept kept kept kept kept kept kept kept
          (hW.chg rfl) kept kept kept kept kept (hW.chg rfl) kept kept kept kept kept
      with_reducible assumption
    clear_value v12
    have h18 : Keeps W z v13 := by
      unfold v13
      apply bankLedger_keeps
      · exact Sub.up (by decide) hW
      · with_reducible assumption
    clear_value v13
    change Keeps W z _
    apply reserveEvent_keeps
    · exact Sub.up (by decide) hW
    · with_reducible assumption

theorem execBasinLineAccess_keeps {W : Nat} {z : State} (acc : BasinAccess) (s : State) (hW : Sub 107589236 W) (h_s :
    Keeps W z s) :
    KeepsRes W z (execBasinLineAccess acc s) := by
  unfold execBasinLineAccess
  extract_lets v0 v1
  clear_value v0
  clear_value v1
  split
  · with_reducible assumption
  · extract_lets v7
    have h8 : Keeps W z v7 := by
      unfold v7
      apply count_keeps
      · exact Sub.up (by decide) hW
      · apply bankWake_keeps
        · exact Sub.up (by decide) hW
        · with_reducible assumption
    clear_value v7
    change Keeps W z _
    split
    · apply basinAnswer_keeps
      · exact Sub.up (by decide) hW
      · apply basinDecode_keeps
        · with_reducible assumption
        · with_reducible assumption
    · apply basinWrite_keeps
      · with_reducible assumption
      · with_reducible assumption

theorem execBatchDeal_keeps {W : Nat} {z : State} (cluster : ℕ) (s : State) (hW : Sub 107347828 W) (h_s : Keeps W z
    s) :
    KeepsRes W z (execBatchDeal cluster s) := by
  unfold execBatchDeal
  split
  · with_reducible assumption
  · split
    · with_reducible assumption
    · split
      · with_reducible assumption
      · change Keeps W z _
        apply dealBatch_keeps
        · with_reducible assumption
        · apply count_keeps
          · exact Sub.up (by decide) hW
          · with_reducible assumption
      · change Keeps W z _
        apply dealStranded_keeps
        · exact Sub.up (by decide) hW
        · apply count_keeps
          · exact Sub.up (by decide) hW
          · with_reducible assumption

theorem execBlkIerWrite_keeps {W : Nat} {z : State} (_id : ℕ) (page : ℕ) (value : W32) (s : State) (hW : Sub 67142660
    W) (h_s : Keeps W z s) :
    KeepsRes W z (execBlkIerWrite _id page value s) := by
  unfold execBlkIerWrite
  apply guarded_keeps
  · with_reducible assumption
  · intro y0 y1
    apply ierWrite_keeps
    · with_reducible assumption
    · with_reducible assumption

theorem execBlkIsrClear_keeps {W : Nat} {z : State} (_id : ℕ) (page : ℕ) (value : W32) (s : State) (hW : Sub 67142660
    W) (h_s : Keeps W z s) :
    KeepsRes W z (execBlkIsrClear _id page value s) := by
  unfold execBlkIsrClear
  apply guarded_keeps
  · with_reducible assumption
  · intro y0 y1
    apply isrWrite_keeps
    · with_reducible assumption
    · with_reducible assumption

theorem execBlkLock_keeps {W : Nat} {z : State} (id : ℕ) (page : ℕ) (s : State) (hW : Sub 4 W) (h_s : Keeps W z s) :
    KeepsRes W z (execBlkLock id page s) := by
  unfold execBlkLock
  apply guarded_keeps
  · with_reducible assumption
  · intro y0 y1
    apply wb_keeps
    · with_reducible assumption
    · with_reducible assumption

theorem execBootWaitExpiry_keeps {W : Nat} {z : State} (acquired : Bool) (s : State) (hW : Sub 107478900 W) (h_s :
    Keeps W z s) :
    KeepsRes W z (execBootWaitExpiry acquired s) := by
  unfold execBootWaitExpiry
  apply guarded_keeps
  · with_reducible assumption
  · intro y0 y1
    extract_lets v2
    clear_value v2
    split
    · apply finishStart_keeps
      · exact Sub.up (by decide) hW
      · apply goSolo_keeps
        · with_reducible assumption
        · with_reducible assumption
    · apply finishStart_keeps
      · exact Sub.up (by decide) hW
      · apply eventAt_keeps
        · exact Sub.up (by decide) hW
        · with_reducible assumption

theorem execCacheFillDone_keeps {W : Nat} {z : State} (sub : ℕ) (s : State) (hW : Sub 1024 W) (h_s : Keeps W z s) :
    KeepsRes W z (execCacheFillDone sub s) := by
  unfold execCacheFillDone
  apply guarded_keeps
  · with_reducible assumption
  · intro y0 y1
    extract_lets v2 v3 v4
    clear_value v2
    clear_value v3
    have h5 : Keeps W z v4 := by
      unfold v4
      refine Keeps.congr (s := y0) ?_ rfl rfl rfl rfl rfl rfl kept kept kept kept kept kept kept (hW.chg rfl) kept
          kept kept kept kept kept kept kept kept kept kept kept kept kept
      with_reducible assumption
    clear_value v4
    split
    · apply setSub_keeps
      · with_reducible assumption
      · with_reducible assumption
    · with_reducible assumption

theorem execCacheReleaseDone_keeps {W : Nat} {z : State} (sub : ℕ) (s : State) (hW : Sub 33555460 W) (h_s : Keeps W z
    s) :
    KeepsRes W z (execCacheReleaseDone sub s) := by
  unfold execCacheReleaseDone
  split
  · with_reducible assumption
  · extract_lets v5
    have h6 : Keeps W z v5 := by
      unfold v5
      apply releaseCommit_keeps
      · with_reducible assumption
      · with_reducible assumption
    clear_value v5
    change Keeps W z _
    split
    · apply basinEnter_keeps
      · with_reducible assumption
      · with_reducible assumption
    · with_reducible assumption

theorem execCancel_keeps {W : Nat} {z : State} (h : ℕ) (s : State) (hW : Sub 107347828 W) (h_s : Keeps W z s) :
    KeepsRes W z (execCancel h s) := by
  unfold execCancel
  apply control_keeps
  · with_reducible assumption
  · with_reducible assumption
  · intro y0 y1 y2 y3
    split
    · with_reducible assumption
    · extract_lets v6
      have h7 : Keeps W z v6 := by
        unfold v6
        apply awaitTarget_keeps
        · exact Sub.up (by decide) hW
        · with_reducible assumption
      clear_value v6
      split
      · split
        · apply beginCancel_keeps
          · with_reducible assumption
          · with_reducible assumption
        · split
          · apply cancelScrub_keeps
            · exact Sub.up (by decide) hW
            · with_reducible assumption
          · split
            · apply modOp_keeps
              · exact Sub.up (by decide) hW
              · with_reducible assumption
            · apply endOp_keeps
              · with_reducible assumption
              · apply modOp_keeps
                · exact Sub.up (by decide) hW
                · with_reducible assumption
      · split
        · apply cancelScrub_keeps
          · exact Sub.up (by decide) hW
          · with_reducible assumption
        · apply endOp_keeps
          · with_reducible assumption
          · apply modOp_keeps
            · exact Sub.up (by decide) hW
            · with_reducible assumption
      · apply endOp_keeps
        · with_reducible assumption
        · apply modOp_keeps
          · exact Sub.up (by decide) hW
          · with_reducible assumption

theorem execCancelUpdate_keeps {W : Nat} {z : State} (s : State) (hW : Sub 71304196 W) (h_s : Keeps W z s) :
    KeepsRes W z (execCancelUpdate s) := by
  unfold execCancelUpdate
  split
  · change Keeps W z _
    apply pldmReply_keeps
    · exact Sub.up (by decide) hW
    · with_reducible assumption
  · extract_lets v2 v3
    have h4 : Keeps W z v2 := by
      unfold v2
      apply cancelComponent_keeps
      · exact Sub.up (by decide) hW
      · with_reducible assumption
    clear_value v2
    clear_value v3
    change Keeps W z _
    apply pldmReply_keeps
    · exact Sub.up (by decide) hW
    · refine Keeps.congr (s := v2) ?_ rfl rfl rfl rfl rfl rfl kept kept kept kept kept kept kept kept kept kept kept
          kept kept kept kept kept kept kept kept (hW.chg rfl) kept kept
      with_reducible assumption

theorem execCancelUpdateComponent_keeps {W : Nat} {z : State} (s : State) (hW : Sub 71304196 W) (h_s : Keeps W z s) :
    KeepsRes W z (execCancelUpdateComponent s) := by
  unfold execCancelUpdateComponent
  split
  · change Keeps W z _
    apply pldmReply_keeps
    · exact Sub.up (by decide) hW
    · with_reducible assumption
  · split
    · extract_lets v3 v4
      have h5 : Keeps W z v3 := by
        unfold v3
        apply cancelComponent_keeps
        · exact Sub.up (by decide) hW
        · with_reducible assumption
      clear_value v3
      clear_value v4
      change Keeps W z _
      apply pldmReply_keeps
      · exact Sub.up (by decide) hW
      · refine Keeps.congr (s := v3) ?_ rfl rfl rfl rfl rfl rfl kept kept kept kept kept kept kept kept kept kept
            kept kept kept kept kept kept kept kept kept (hW.chg rfl) kept kept
        with_reducible assumption
    · change Keeps W z _
      apply pldmReply_keeps
      · exact Sub.up (by decide) hW
      · with_reducible assumption

theorem execCdatTableAccess_keeps {W : Nat} {z : State} (entry : ℕ) (s : State) (hW : Sub 67109888 W) (h_s : Keeps W
    z s) :
    KeepsRes W z (execCdatTableAccess entry s) := by
  unfold execCdatTableAccess
  apply guarded_keeps
  · with_reducible assumption
  · intro y0 y1
    split
    · apply put_keeps
      · with_reducible assumption
      · with_reducible assumption
    · apply put_keeps
      · with_reducible assumption
      · with_reducible assumption
    · apply put_keeps
      · with_reducible assumption
      · with_reducible assumption
    · apply put_keeps
      · with_reducible assumption
      · with_reducible assumption
    · apply put_keeps
      · with_reducible assumption
      · with_reducible assumption
    · with_reducible assumption

theorem execCeBucketLeak_keeps {W : Nat} {z : State} (basin : Bool) (index : ℕ) (s : State) (hW : Sub 8192 W) (h_s :
    Keeps W z s) :
    KeepsRes W z (execCeBucketLeak basin index s) := by
  unfold execCeBucketLeak
  extract_lets v0
  clear_value v0
  apply guarded_keeps
  · with_reducible assumption
  · intro y1 y2
    refine Keeps.congr (s := y1) ?_ rfl rfl rfl rfl rfl rfl kept kept kept kept kept kept kept kept kept kept (hW.chg
        rfl) kept kept kept kept kept kept kept kept kept kept kept
    with_reducible assumption

theorem spdmReply_keeps {W : Nat} {z : State} (s : State) (code : ℕ) (words : List ℕ) (bytes : Bytes) (hW : Sub
    67109888 W) (h_s : Keeps W z s) :
    Keeps W z (spdmReply s code words bytes) := by
  unfold spdmReply
  apply put_keeps
  · with_reducible assumption
  · with_reducible assumption

theorem spdmError_keeps {W : Nat} {z : State} (s : State) (code : ℕ) (hW : Sub 67109888 W) (h_s : Keeps W z s) :
    Keeps W z (spdmError s code) := by
  unfold spdmError
  apply spdmReply_keeps
  · with_reducible assumption
  · with_reducible assumption

theorem spdmAfter_keeps {W : Nat} {z : State} (s : State) (via : ℕ) (n : ℕ) (f : State → State) (hW : Sub 67109888 W)
    (h_s : Keeps W z s) (h_f : ∀ q1, Keeps W z q1 → Keeps W z (f q1)) :
    KeepsRes W z (spdmAfter s via n f) := by
  unfold spdmAfter
  change Keeps W z _
  split
  · apply h_f
    with_reducible assumption
  · apply spdmError_keeps
    · with_reducible assumption
    · with_reducible assumption

theorem execChallenge_keeps {W : Nat} {z : State} (via : ℕ) (slot : ℕ) (nonce : BitVec 256) (s : State) (hW : Sub
    67109890 W) (h_s : Keeps W z s) :
    KeepsRes W z (execChallenge via slot nonce s) := by
  unfold execChallenge
  apply spdmAfter_keeps
  · exact Sub.up (by decide) hW
  · with_reducible assumption
  · intro y0 y1
    split
    · apply spdmError_keeps
      · exact Sub.up (by decide) hW
      · with_reducible assumption
    · split
      rename_i x4 x5 x6 x7
      have k8 := keeps_eq x7 (P := KeepsSnd W z) (by
        apply drawRandom_keeps
        · exact Sub.up (by decide) hW
        · with_reducible assumption
        )
      extract_lets v9
      clear_value v9
      apply spdmReply_keeps
      · exact Sub.up (by decide) hW
      · with_reducible assumption

theorem execCheck_keeps {W : Nat} {z : State} (op : ℕ) (tile : ℕ) (s : State) (hW : Sub 107347956 W) (h_s : Keeps W z
    s) :
    KeepsRes W z (execCheck op tile s) := by
  unfold execCheck
  apply runStation_keeps
  · exact Sub.up (by decide) hW
  · with_reducible assumption
  · intro y0 y1 y2
    extract_lets v3 v4 v5 v6 v7 v8 v9
    clear_value v3
    clear_value v4
    clear_value v5
    clear_value v6
    clear_value v7
    clear_value v8
    clear_value v9
    split
    · apply Go.bind_keeps
      · apply tilePut_keeps
        · with_reducible assumption
        · with_reducible assumption
      · intro y11 y12 y13
        with_reducible assumption
    · split
      · apply Go.bind_keeps
        · apply tileEat_keeps
          · with_reducible assumption
          · with_reducible assumption
        · intro y16 y17 y18
          with_reducible assumption
      · with_reducible assumption

theorem mirrorSub_keeps {W : Nat} {z : State} (s : State) (q : ℕ) (who : MackFor) (hW : Sub 35652096 W) (h_s : Keeps
    W z s) :
    Keeps W z (mirrorSub s q who) := by
  unfold mirrorSub
  extract_lets v0 v1
  have h2 : ∀ q1 q2 q3 q4, Keeps W z q1 → Keeps W z (v0 q1 q2 q3 q4) := by
    unfold v0
    intro y3 y4 y5 y6 y7
    split
    rename_i x8 x9 x10 x11
    have k12 := keeps_eq x11 (P := KeepsSnd W z) (by
      apply awaitMack_keeps
      · exact Sub.up (by decide) hW
      · with_reducible assumption
      )
    apply sendRunnel_keeps
    · with_reducible assumption
    · with_reducible assumption
  clear_value v0
  have h13 : Keeps W z v1 := by
    unfold v1
    refine foldl_keeps (P := Keeps W z) ?_ ?_
    · with_reducible assumption
    · intro y14 y15 y16
      apply h2
      with_reducible assumption
  clear_value v1
  refine foldl_keeps (P := Keeps W z) ?_ ?_
  · with_reducible assumption
  · intro y17 y18 y19
    split
    · with_reducible assumption
    · apply h2
      with_reducible assumption

theorem promoteCommit_keeps {W : Nat} {z : State} (s : State) (m : Move) (failed : BitVec 16) (hW : Sub 107347828 W)
    (h_s : Keeps W z s) :
    Keeps W z (promoteCommit s m failed) := by
  unfold promoteCommit
  extract_lets v0 v1 v2 v3 v4 v5 v6
  clear_value v0
  clear_value v1
  have h7 : Keeps W z v2 := by
    unfold v2
    apply setSub_keeps
    · exact Sub.up (by decide) hW
    · apply dropMove_keeps
      · exact Sub.up (by decide) hW
      · with_reducible assumption
  clear_value v2
  have h8 : Keeps W z v3 := by
    unfold v3
    refine foldl_keeps (P := Keeps W z) ?_ ?_
    · with_reducible assumption
    · intro y9 y10 y11
      refine foldl_keeps (P := Keeps W z) ?_ ?_
      · with_reducible assumption
      · intro y12 y13 y14
        apply setPoison_keeps
        · exact Sub.up (by decide) hW
        · with_reducible assumption
  clear_value v3
  have h15 : Keeps W z v4 := by
    unfold v4
    split
    · with_reducible assumption
    · apply event_keeps
      · exact Sub.up (by decide) hW
      · with_reducible assumption
  clear_value v4
  have h18 : Keeps W z v5 := by
    unfold v5
    apply count_keeps
    · exact Sub.up (by decide) hW
    · with_reducible assumption
  clear_value v5
  have h19 : Keeps W z v6 := by
    unfold v6
    split
    · split
      rename_i x21 x22 x23 x24
      have k25 := keeps_eq x24 (P := KeepsSnd W z) (by
        apply awaitMack_keeps
        · exact Sub.up (by decide) hW
        · with_reducible assumption
        )
      apply mirrorSub_keeps
      · exact Sub.up (by decide) hW
      · apply sendRunnel_keeps
        · exact Sub.up (by decide) hW
        · with_reducible assumption
    · apply freeCis_keeps
      · exact Sub.up (by decide) hW
      · with_reducible assumption
  clear_value v6
  apply tierReady_keeps
  · with_reducible assumption
  · split
    · with_reducible assumption
    · apply migMoved_keeps
      · exact Sub.up (by decide) hW
      · with_reducible assumption

theorem spoilBlocks_keeps {W : Nat} {z : State} (s : State) (q : Nat) (failed : BitVec 16) (hW : Sub 82 W)
    (h_s : Keeps W z s) : Keeps W z (spoilBlocks s q failed) := by
  have same (bs : Bytes) : ∀ (s : State) (a : Nat), (setBytes s a bs).fresh = s.fresh := by
    induction bs with
    | nil => exact fun _ _ => rfl
    | cons b bs ih =>
      intro s a
      rw [setBytes, ih]
      unfold setByte
      split <;> rfl
  have ends (u : State) (n : Nat) (hn : u.fresh ≤ n) (k : Keeps W z u) :
      Keeps W z { u with fresh := n } :=
    Keeps.core (s := u) k rfl hn List.suffix_rfl id
      kept (hW.chg rfl) kept kept kept kept kept kept kept kept kept kept kept kept kept kept kept kept kept kept
          kept kept kept kept kept kept kept
  unfold spoilBlocks
  refine foldl_keeps (P := Keeps W z) h_s ?_
  intro t b ht
  exact ends _ _ (by rw [same]; exact Nat.le_add_right _ _) (setBytes_keeps _ _ _ (Sub.up (by decide) hW) ht)

theorem execCisternPromotionDone_keeps {W : Nat} {z : State} (sub : ℕ) (failed : BitVec 16) (s : State) (hW : Sub
    107347830 W) (h_s : Keeps W z s) :
    KeepsRes W z (execCisternPromotionDone sub failed s) := by
  unfold execCisternPromotionDone
  split
  · with_reducible assumption
  · split
    · with_reducible assumption
    · split
      · extract_lets v8 v9
        clear_value v8
        clear_value v9
        change Keeps W z _
        refine foldl_keeps (P := Keeps W z) ?_ ?_
        · refine Keeps.congr (s := s) ?_ rfl rfl rfl rfl rfl rfl kept kept kept kept kept kept kept (hW.chg rfl) kept
              kept kept kept kept kept kept kept kept kept kept kept kept kept
          with_reducible assumption
        · intro y10 y11 y12
          apply issueNvme_keeps
          · exact Sub.up (by decide) hW
          · with_reducible assumption
      · change Keeps W z _
        apply promoteCommit_keeps
        · exact Sub.up (by decide) hW
        · apply spoilBlocks_keeps
          · exact Sub.up (by decide) hW
          · with_reducible assumption

theorem mailbox_keeps {W : Nat} {z : State} (s : State) (f : State → State) (hW : Sub 0 W) (h_s : Keeps W z s) (h_f :
    ∀ q1, Keeps W z q1 → Keeps W z (f q1)) :
    KeepsRes W z (mailbox s f) := by
  unfold mailbox
  apply guarded_keeps
  · with_reducible assumption
  · intro y0 y1
    apply h_f
    with_reducible assumption

theorem mbReply_keeps {W : Nat} {z : State} (s : State) (op : ℕ) (rc : ℕ) (words : List ℕ) (bytes : optParam Bytes
    []) (hW : Sub 67142656 W) (h_s : Keeps W z s) :
    Keeps W z (mbReply s op rc words bytes) := by
  unfold mbReply
  apply msix_keeps
  · with_reducible assumption
  · apply put_keeps
    · exact Sub.up (by decide) hW
    · with_reducible assumption

theorem execClearEventRecords_keeps {W : Nat} {z : State} (log : ℕ) (handles : List ℕ) (s : State) (hW : Sub 67142656
    W) (h_s : Keeps W z s) :
    KeepsRes W z (execClearEventRecords log handles s) := by
  unfold execClearEventRecords
  apply mailbox_keeps
  · exact Sub.up (by decide) hW
  · with_reducible assumption
  · intro y0 y1
    extract_lets v2 v3 v4 v5
    clear_value v2
    clear_value v3
    clear_value v4
    clear_value v5
    split
    · apply mbReply_keeps
      · with_reducible assumption
      · with_reducible assumption
    · split
      · apply mbReply_keeps
        · with_reducible assumption
        · with_reducible assumption
      · apply mbReply_keeps
        · with_reducible assumption
        · refine Keeps.congr (s := y0) ?_ rfl rfl rfl rfl rfl rfl kept kept kept kept kept kept kept kept kept kept
              kept kept (hW.chg rfl) kept kept kept kept kept kept kept kept kept
          with_reducible assumption

theorem execCmpPacket_keeps {W : Nat} {z : State} (port : ℕ) (pkt : Packet) (s : State) (hW : Sub 107347828 W) (h_s :
    Keeps W z s) :
    KeepsRes W z (execCmpPacket port pkt s) := by
  unfold execCmpPacket
  apply arrive_keeps
  · exact Sub.up (by decide) hW
  · with_reducible assumption
  · intro y0 y1
    unfold id
    with_reducible assumption
  · intro y2 y3
    apply discardPacket_keeps
    · exact Sub.up (by decide) hW
    · with_reducible assumption
  · intro y4 y5
    apply cmpServe_keeps
    · with_reducible assumption
    · with_reducible assumption

theorem execCntLoRead_keeps {W : Nat} {z : State} (id : ℕ) (page : ℕ) (s : State) (hW : Sub 75531268 W) (h_s : Keeps
    W z s) :
    KeepsRes W z (execCntLoRead id page s) := by
  unfold execCntLoRead
  apply guarded_keeps
  · with_reducible assumption
  · intro y0 y1
    split
    rename_i x2 x3 x4 x5
    have k6 := keeps_eq x5 (P := KeepsSnd W z) (by
      apply cntLo_keeps
      · with_reducible assumption
      · with_reducible assumption
      )
    apply put_keeps
    · exact Sub.up (by decide) hW
    · with_reducible assumption

theorem execColdReset_keeps {W : Nat} {z : State} (perst : Bool) (s : State) (hW : Sub 134217725 W) (h_s : Keeps W z
    s) :
    KeepsRes W z (execColdReset perst s) := by
  unfold execColdReset
  extract_lets v0 v1 v2 v3 v4 v5 v6
  clear_value v0
  clear_value v1
  have h7 : Keeps W z v2 := by
    unfold v2
    apply setCause_keeps
    · exact Sub.up (by decide) hW
    · apply coldBase_keeps
      · exact Sub.up (by decide) hW
      · apply dropTransfer_keeps
        · exact Sub.up (by decide) hW
        · with_reducible assumption
  clear_value v2
  clear_value v3
  have h8 : Keeps W z v4 := by
    unfold v4
    refine Keeps.congr (s := v2) ?_ rfl rfl rfl rfl rfl rfl kept kept kept kept kept kept kept kept kept kept kept
        kept kept kept kept kept kept (hW.chg rfl) kept kept kept kept
    with_reducible assumption
  clear_value v4
  have h9 : Keeps W z v5 := by
    unfold v5
    split
    · apply wf_keeps
      · exact Sub.up (by decide) hW
      · with_reducible assumption
    · with_reducible assumption
  clear_value v5
  have h12 : Keeps W z v6 := by
    unfold v6
    apply put_keeps
    · exact Sub.up (by decide) hW
    · apply put_keeps
      · exact Sub.up (by decide) hW
      · with_reducible assumption
  clear_value v6
  change Keeps W z _
  apply put_keeps
  · exact Sub.up (by decide) hW
  · with_reducible assumption

theorem execColdStart_keeps {W : Nat} {z : State} (boot : BootInput) (s : State) (hW : Sub 108527487 W) (h_s : Keeps
    W z s) :
    KeepsRes W z (execColdStart boot s) := by
  unfold execColdStart
  apply guarded_keeps
  · with_reducible assumption
  · intro y0 y1
    extract_lets v2
    have h3 : Keeps W z v2 := by
      unfold v2
      apply bootStraps_keeps
      · exact Sub.up (by decide) hW
      · with_reducible assumption
    clear_value v2
    split
    · apply bootFails_keeps
      · exact Sub.up (by decide) hW
      · with_reducible assumption
    · apply bootImages_keeps
      · exact Sub.up (by decide) hW
      · with_reducible assumption

theorem execCombineAdd_keeps {W : Nat} {z : State} (op : ℕ) (tile : ℕ) (s : State) (hW : Sub 107347956 W) (h_s :
    Keeps W z s) :
    KeepsRes W z (execCombineAdd op tile s) := by
  unfold execCombineAdd
  apply combineTile_keeps
  · with_reducible assumption
  · with_reducible assumption

theorem execCombineFma_keeps {W : Nat} {z : State} (op : ℕ) (tile : ℕ) (s : State) (hW : Sub 107347956 W) (h_s :
    Keeps W z s) :
    KeepsRes W z (execCombineFma op tile s) := by
  unfold execCombineFma
  apply combineTile_keeps
  · with_reducible assumption
  · with_reducible assumption

theorem execCombineMax_keeps {W : Nat} {z : State} (op : ℕ) (tile : ℕ) (s : State) (hW : Sub 107347956 W) (h_s :
    Keeps W z s) :
    KeepsRes W z (execCombineMax op tile s) := by
  unfold execCombineMax
  apply combineTile_keeps
  · with_reducible assumption
  · with_reducible assumption

theorem execCombineMin_keeps {W : Nat} {z : State} (op : ℕ) (tile : ℕ) (s : State) (hW : Sub 107347956 W) (h_s :
    Keeps W z s) :
    KeepsRes W z (execCombineMin op tile s) := by
  unfold execCombineMin
  apply combineTile_keeps
  · with_reducible assumption
  · with_reducible assumption

theorem execCombineMul_keeps {W : Nat} {z : State} (op : ℕ) (tile : ℕ) (s : State) (hW : Sub 107347956 W) (h_s :
    Keeps W z s) :
    KeepsRes W z (execCombineMul op tile s) := by
  unfold execCombineMul
  apply combineTile_keeps
  · with_reducible assumption
  · with_reducible assumption

theorem execCombineScale_keeps {W : Nat} {z : State} (op : ℕ) (tile : ℕ) (s : State) (hW : Sub 107347956 W) (h_s :
    Keeps W z s) :
    KeepsRes W z (execCombineScale op tile s) := by
  unfold execCombineScale
  apply combineTile_keeps
  · with_reducible assumption
  · with_reducible assumption

theorem execCombineSub_keeps {W : Nat} {z : State} (op : ℕ) (tile : ℕ) (s : State) (hW : Sub 107347956 W) (h_s :
    Keeps W z s) :
    KeepsRes W z (execCombineSub op tile s) := by
  unfold execCombineSub
  apply combineTile_keeps
  · with_reducible assumption
  · with_reducible assumption

theorem execCompact_keeps {W : Nat} {z : State} (op : ℕ) (tile : ℕ) (s : State) (hW : Sub 107347828 W) (h_s : Keeps W
    z s) :
    KeepsRes W z (execCompact op tile s) := by
  unfold execCompact
  apply runStation_keeps
  · with_reducible assumption
  · with_reducible assumption
  · intro y0 y1 y2
    with_reducible assumption

theorem execCompareBitwise_keeps {W : Nat} {z : State} (op : ℕ) (tile : ℕ) (s : State) (hW : Sub 107347958 W) (h_s :
    Keeps W z s) :
    KeepsRes W z (execCompareBitwise op tile s) := by
  unfold execCompareBitwise
  apply compareTile_keeps
  · with_reducible assumption
  · with_reducible assumption

theorem execCompareTol_keeps {W : Nat} {z : State} (op : ℕ) (tile : ℕ) (s : State) (hW : Sub 107347958 W) (h_s :
    Keeps W z s) :
    KeepsRes W z (execCompareTol op tile s) := by
  unfold execCompareTol
  apply compareTile_keeps
  · with_reducible assumption
  · with_reducible assumption

theorem execConfirmCopyDone_keeps {W : Nat} {z : State} (type : ℕ) (s : State) (hW : Sub 4194308 W) (h_s : Keeps W z
    s) :
    KeepsRes W z (execConfirmCopyDone type s) := by
  unfold execConfirmCopyDone
  extract_lets v0
  clear_value v0
  apply guarded_keeps
  · with_reducible assumption
  · intro y1 y2
    extract_lets v3
    have h4 : Keeps W z v3 := by
      unfold v3
      apply setImg_keeps
      · exact Sub.up (by decide) hW
      · with_reducible assumption
    clear_value v3
    split
    · apply setFwu_keeps
      · exact Sub.up (by decide) hW
      · with_reducible assumption
    · with_reducible assumption

theorem execConvert_keeps {W : Nat} {z : State} (op : ℕ) (tile : ℕ) (s : State) (hW : Sub 107347828 W) (h_s : Keeps W
    z s) :
    KeepsRes W z (execConvert op tile s) := by
  unfold execConvert
  apply runStation_keeps
  · with_reducible assumption
  · with_reducible assumption
  · intro y0 y1 y2
    extract_lets v3 v4 v5 v6 v7 v8 v9 v10
    clear_value v3
    clear_value v5
    clear_value v6
    clear_value v7
    clear_value v8
    clear_value v9
    clear_value v10
    split
    · with_reducible assumption
    · apply goOn_keeps
      · exact Sub.up (by decide) hW
      · with_reducible assumption

theorem execCoreIdleGate_keeps {W : Nat} {z : State} (core : ℕ) (s : State) (hW : Sub 4 W) (h_s : Keeps W z s) :
    KeepsRes W z (execCoreIdleGate core s) := by
  unfold execCoreIdleGate
  extract_lets v0 v1 v2 v3
  clear_value v0
  clear_value v1
  clear_value v2
  clear_value v3
  apply guarded_keeps
  · with_reducible assumption
  · intro y4 y5
    apply setGated_keeps
    · with_reducible assumption
    · with_reducible assumption

theorem execCounterCapture_keeps {W : Nat} {z : State} (s : State) (hW : Sub 8519684 W) (h_s : Keeps W z s) :
    KeepsRes W z (execCounterCapture s) := by
  unfold execCounterCapture
  apply guarded_keeps
  · with_reducible assumption
  · intro y0 y1
    split
    · extract_lets v3 v4
      have h5 : Keeps W z v3 := by
        unfold v3
        apply capture_keeps
        · exact Sub.up (by decide) hW
        · with_reducible assumption
      clear_value v3
      clear_value v4
      refine Keeps.congr (s := v3) ?_ rfl rfl rfl rfl rfl rfl kept kept kept kept kept kept kept kept kept kept kept
          kept kept kept (hW.chg rfl) kept kept kept kept kept kept kept
      with_reducible assumption
    · apply capture_keeps
      · exact Sub.up (by decide) hW
      · with_reducible assumption

theorem userWrite_keeps {W : Nat} {z : State} (s : State) (u : User) (pa : ℕ) (data : Bytes) (pcode : ℕ) (mk :
    MackFor) (hW : Sub 107347828 W) (h_s : Keeps W z s) :
    KeepsGo W z (userWrite s u pa data pcode mk) := by
  unfold userWrite
  split
  · with_reducible assumption
  · split
    · rename_i x2 x3 x4
      have k5 := keeps_eq x4 (P := KeepsGo W z) (by
        apply runGate_keeps
        · exact Sub.up (by decide) hW
        · with_reducible assumption
        )
      with_reducible assumption
    · rename_i x6 x7 x8 x9
      have k10 := keeps_eq x9 (P := KeepsGo W z) (by
        apply runGate_keeps
        · exact Sub.up (by decide) hW
        · with_reducible assumption
        )
      with_reducible assumption
    · rename_i x11 x12 x13 x14
      have k15 := keeps_eq x14 (P := KeepsGo W z) (by
        apply runGate_keeps
        · exact Sub.up (by decide) hW
        · with_reducible assumption
        )
      split
      · with_reducible assumption
      · split
        rename_i x18 x19 x20 x21
        have k22 := keeps_eq x21 (P := KeepsSnd W z) (by
          apply writeLines_keeps
          · with_reducible assumption
          · with_reducible assumption
          )
        with_reducible assumption

theorem snapWrite_keeps {W : Nat} {z : State} (s : State) (h : ℕ) (o : Op) (bs : Bytes) (res : List ℕ) (hW : Sub
    107347828 W) (h_s : Keeps W z s) :
    Keeps W z (snapWrite s h o bs res) := by
  unfold snapWrite
  extract_lets v0 v1
  clear_value v0
  clear_value v1
  split
  · apply endWith_keeps
    · with_reducible assumption
    · with_reducible assumption
  · split
    · apply endWith_keeps
      · with_reducible assumption
      · with_reducible assumption
    · split
      · rename_i x6 x7 x8 x9
        have k10 := keeps_eq x9 (P := KeepsGo W z) (by
          apply userWrite_keeps
          · with_reducible assumption
          · with_reducible assumption
          )
        apply endWith_keeps
        · with_reducible assumption
        · with_reducible assumption
      · rename_i x11 x12 x13
        have k14 := keeps_eq x13 (P := KeepsGo W z) (by
          apply userWrite_keeps
          · with_reducible assumption
          · with_reducible assumption
          )
        with_reducible assumption
      · rename_i x15 x16 x17 x18
        have k19 := keeps_eq x18 (P := KeepsGo W z) (by
          apply userWrite_keeps
          · with_reducible assumption
          · with_reducible assumption
          )
        apply endWith_keeps
        · with_reducible assumption
        · with_reducible assumption

theorem execCounterSnapshotOperation_keeps {W : Nat} {z : State} (h : ℕ) (s : State) (hW : Sub 107347828 W) (h_s :
    Keeps W z s) :
    KeepsRes W z (execCounterSnapshotOperation h s) := by
  unfold execCounterSnapshotOperation
  split
  · with_reducible assumption
  · split
    · with_reducible assumption
    · extract_lets v7 v8
      clear_value v7
      clear_value v8
      split
      · change Keeps W z _
        apply endWith_keeps
        · with_reducible assumption
        · with_reducible assumption
      · split
        · change Keeps W z _
          apply endWith_keeps
          · with_reducible assumption
          · with_reducible assumption
        · change Keeps W z _
          apply snapWrite_keeps
          · with_reducible assumption
          · with_reducible assumption

theorem execCounterSnapshotPages_keeps {W : Nat} {z : State} (h : ℕ) (s : State) (hW : Sub 107347828 W) (h_s : Keeps
    W z s) :
    KeepsRes W z (execCounterSnapshotPages h s) := by
  unfold execCounterSnapshotPages
  split
  · with_reducible assumption
  · split
    · with_reducible assumption
    · split
      · change Keeps W z _
        apply endWith_keeps
        · with_reducible assumption
        · with_reducible assumption
      · split
        · with_reducible assumption
        · extract_lets v14 v15
          clear_value v14
          clear_value v15
          change Keeps W z _
          apply snapWrite_keeps
          · with_reducible assumption
          · with_reducible assumption

theorem setCpRole_keeps {W : Nat} {z : State} (s : State) (n : ℕ) (r : ℕ) (hW : Sub 4194308 W) (h_s : Keeps W z s) :
    Keeps W z (setCpRole s n r) := by
  unfold setCpRole
  extract_lets v0 v1
  have h2 : Keeps W z v0 := by
    unfold v0
    apply wf_keeps
    · exact Sub.up (by decide) hW
    · with_reducible assumption
  clear_value v0
  clear_value v1
  split
  · refine Keeps.congr (s := v0) ?_ rfl rfl rfl rfl rfl rfl kept kept kept kept kept kept kept kept kept kept kept
        kept kept kept kept kept kept kept kept (hW.chg rfl) kept kept
    with_reducible assumption
  · with_reducible assumption

theorem execCpWatchdogExpiry_keeps {W : Nat} {z : State} (cp : ℕ) (s : State) (hW : Sub 107347828 W) (h_s : Keeps W z
    s) :
    KeepsRes W z (execCpWatchdogExpiry cp s) := by
  unfold execCpWatchdogExpiry
  apply guarded_keeps
  · with_reducible assumption
  · intro y0 y1
    extract_lets v2 v3 v4
    have h5 : Keeps W z v2 := by
      unfold v2
      apply eventAt_keeps
      · exact Sub.up (by decide) hW
      · apply setCpRole_keeps
        · exact Sub.up (by decide) hW
        · with_reducible assumption
    clear_value v2
    clear_value v3
    have h6 : Keeps W z v4 := by
      unfold v4
      refine foldl_keeps (P := Keeps W z) ?_ ?_
      · with_reducible assumption
      · intro y7 y8 y9
        apply endWith_keeps
        · with_reducible assumption
        · apply leaveQueue_keeps
          · exact Sub.up (by decide) hW
          · with_reducible assumption
    clear_value v4
    split
    · with_reducible assumption
    · extract_lets v15 v16 v17
      have h18 : Keeps W z v15 := by
        unfold v15
        apply wb_keeps
        · exact Sub.up (by decide) hW
        · apply setCpRole_keeps
          · exact Sub.up (by decide) hW
          · with_reducible assumption
      clear_value v15
      clear_value v16
      have h19 : Keeps W z v17 := by
        unfold v17
        refine Keeps.congr (s := v15) ?_ rfl rfl rfl rfl rfl rfl kept kept kept kept kept kept kept kept kept kept
            (hW.chg rfl) kept kept kept kept kept kept kept kept kept kept kept
        with_reducible assumption
      clear_value v17
      apply reserveEvent_keeps
      · exact Sub.up (by decide) hW
      · with_reducible assumption

theorem takeMsg_keeps {W : Nat} {z : State} (s : State) (p : ℕ) (f : LinkMsg → Bool) (hW : Sub 16388 W) (h_s : Keeps
    W z s) :
    KeepsOpt W z (takeMsg s p f) := by
  unfold takeMsg
  unfold Option.map
  split
  · change Keeps W z _
    apply modLp_keeps
    · with_reducible assumption
    · with_reducible assumption
  · exact trivial

theorem onMsg_keeps {W : Nat} {z : State} (s : State) (p : ℕ) (f : LinkMsg → Bool) (g : State → State) (hW : Sub
    16388 W) (h_s : Keeps W z s) (h_g : ∀ q1, Keeps W z q1 → Keeps W z (g q1)) :
    KeepsRes W z (onMsg s p f g) := by
  unfold onMsg
  split
  · rename_i x0 x1
    have k2 := keeps_eq x1 (P := KeepsOpt W z) (by
      apply takeMsg_keeps
      · with_reducible assumption
      · with_reducible assumption
      )
    with_reducible assumption
  · rename_i x3 x4 x5
    have k6 := keeps_eq x5 (P := KeepsOpt W z) (by
      apply takeMsg_keeps
      · with_reducible assumption
      · with_reducible assumption
      )
    change Keeps W z _
    apply h_g
    with_reducible assumption

theorem execCreditInit_keeps {W : Nat} {z : State} (port : ℕ) (buf : ℕ) (size : ℕ) (s : State) (hW : Sub 16388 W)
    (h_s : Keeps W z s) :
    KeepsRes W z (execCreditInit port buf size s) := by
  unfold execCreditInit
  apply onMsg_keeps
  · with_reducible assumption
  · with_reducible assumption
  · intro y0 y1
    extract_lets v2 v3 v4 v5 v6
    clear_value v2
    clear_value v3
    clear_value v4
    clear_value v5
    have h7 : Keeps W z v6 := by
      unfold v6
      refine Keeps.congr (s := y0) ?_ rfl rfl rfl rfl rfl rfl kept kept kept kept kept kept kept kept kept kept kept
          (hW.chg rfl) kept kept kept kept kept kept kept kept kept kept
      with_reducible assumption
    clear_value v6
    split
    · apply modLp_keeps
      · with_reducible assumption
      · with_reducible assumption
    · apply modLp_keeps
      · with_reducible assumption
      · with_reducible assumption

theorem execCxlConfigRequest_keeps {W : Nat} {z : State} (write : Bool) (offset : ℕ) (value : W32) (s : State) (hW :
    Sub 67142662 W) (h_s : Keeps W z s) :
    KeepsRes W z (execCxlConfigRequest write offset value s) := by
  unfold execCxlConfigRequest
  extract_lets v0
  clear_value v0
  apply guarded_keeps
  · with_reducible assumption
  · intro y1 y2
    split
    · apply put_keeps
      · exact Sub.up (by decide) hW
      · with_reducible assumption
    · split
      · apply configWrite_keeps
        · exact Sub.up (by decide) hW
        · with_reducible assumption
      · extract_lets v7
        have h8 : KeepsSnd W z v7 := by
          unfold v7
          apply configRead_keeps
          · exact Sub.up (by decide) hW
          · with_reducible assumption
        clear_value v7
        apply put_keeps
        · exact Sub.up (by decide) hW
        · with_reducible assumption

theorem execCxlHotReset_keeps {W : Nat} {z : State} (s : State) (hW : Sub 107347828 W) (h_s : Keeps W z s) :
    KeepsRes W z (execCxlHotReset s) := by
  unfold execCxlHotReset
  extract_lets v0 v1 v2
  have h3 : Keeps W z v0 := by
    unfold v0
    apply cxlDropRequests_keeps
    · with_reducible assumption
    · with_reducible assumption
  clear_value v0
  have h4 : Keeps W z v1 := by
    unfold v1
    apply wr_keeps
    · exact Sub.up (by decide) hW
    · with_reducible assumption
  clear_value v1
  clear_value v2
  change Keeps W z _
  refine Keeps.congr (s := v1) ?_ rfl rfl rfl rfl rfl rfl kept kept kept kept kept kept kept kept kept kept kept kept
      (hW.chg rfl) kept kept kept kept kept kept kept kept kept
  with_reducible assumption

theorem execCxlLinkUp_keeps {W : Nat} {z : State} (s : State) (hW : Sub 4 W) (h_s : Keeps W z s) :
    KeepsRes W z (execCxlLinkUp s) := by
  unfold execCxlLinkUp
  change Keeps W z _
  apply wb_keeps
  · with_reducible assumption
  · with_reducible assumption

theorem execCxlMemAdmissionRetry_keeps {W : Nat} {z : State} (s : State) (hW : Sub 107347828 W) (h_s : Keeps W z s) :
    KeepsRes W z (execCxlMemAdmissionRetry s) := by
  unfold execCxlMemAdmissionRetry
  split
  · with_reducible assumption
  · split
    · rename_i x6 x7 x8
      have k9 := keeps_eq x8 (P := KeepsOpt W z) (by
        apply cxlServe_keeps
        · with_reducible assumption
        · refine Keeps.congr (s := s) ?_ rfl rfl rfl rfl rfl rfl kept kept kept kept kept kept (hW.chg rfl) kept kept
              kept kept kept kept kept kept kept kept kept kept kept kept kept
          with_reducible assumption
        )
      with_reducible assumption
    · rename_i x10 x11
      have k12 := keeps_eq x11 (P := KeepsOpt W z) (by
        apply cxlServe_keeps
        · with_reducible assumption
        · refine Keeps.congr (s := s) ?_ rfl rfl rfl rfl rfl rfl kept kept kept kept kept kept (hW.chg rfl) kept kept
              kept kept kept kept kept kept kept kept kept kept kept kept kept
          with_reducible assumption
        )
      change Keeps W z _
      split
      · apply refusedCount_keeps
        · exact Sub.up (by decide) hW
        · with_reducible assumption
      · with_reducible assumption

theorem execCxlMemRead_keeps {W : Nat} {z : State} (hpa : ℕ) (s : State) (hW : Sub 107347828 W) (h_s : Keeps W z s) :
    KeepsRes W z (execCxlMemRead hpa s) := by
  unfold execCxlMemRead
  apply guarded_keeps
  · with_reducible assumption
  · intro y0 y1
    apply cxlArrive_keeps
    · with_reducible assumption
    · with_reducible assumption

theorem execCxlMemWrite_keeps {W : Nat} {z : State} (hpa : ℕ) (data : Bytes) (mask : BitVec 64) (poison : Bool) (s :
    State) (hW : Sub 107347828 W) (h_s : Keeps W z s) :
    KeepsRes W z (execCxlMemWrite hpa data mask poison s) := by
  unfold execCxlMemWrite
  apply guarded_keeps
  · with_reducible assumption
  · intro y0 y1
    apply cxlArrive_keeps
    · with_reducible assumption
    · with_reducible assumption

theorem faultTile_keeps {W : Nat} {z : State} (s : State) (h : ℕ) (tile : ℕ) (va : ℕ) (code : ℕ) (level : ℕ) (write :
    Bool) (hW : Sub 107347828 W) (h_s : Keeps W z s) :
    Keeps W z (faultTile s h tile va code level write) := by
  unfold faultTile
  split
  · apply endOp_keeps
    · with_reducible assumption
    · apply modOp_keeps
      · exact Sub.up (by decide) hW
      · apply recordFault_keeps
        · exact Sub.up (by decide) hW
        · with_reducible assumption
  · split
    · apply modArrival_keeps
      · exact Sub.up (by decide) hW
      · with_reducible assumption
    · split
      · split
        · with_reducible assumption
        · apply failTile_keeps
          · with_reducible assumption
          · apply recordFault_keeps
            · exact Sub.up (by decide) hW
            · with_reducible assumption
      · with_reducible assumption

theorem keepUppers_keeps {W : Nat} {z : State} (s : State) (w : Walk) (hW : Sub 128 W) (h_s : Keeps W z s) :
    Keeps W z (keepUppers s w) := by
  unfold keepUppers
  refine foldl_keeps (P := Keeps W z) ?_ ?_
  · with_reducible assumption
  · intro y0 y1 y2
    unfold Sys2Proof.Machine.installUpper
    extract_lets v3 v4 v5
    clear_value v3
    clear_value v4
    clear_value v5
    refine Keeps.congr (s := y0) ?_ rfl rfl rfl rfl rfl rfl kept kept kept kept (hW.chg rfl) kept kept kept kept kept
        kept kept kept kept kept kept kept kept kept kept kept kept
    with_reducible assumption

theorem walkFault_keeps {W : Nat} {z : State} (s : State) (w : Walk) (code : ℕ) (hW : Sub 107347956 W) (h_s : Keeps W
    z s) :
    Keeps W z (walkFault s w code) := by
  unfold walkFault
  extract_lets v0
  have h1 : Keeps W z v0 := by
    unfold v0
    apply count_keeps
    · exact Sub.up (by decide) hW
    · apply dropWalk_keeps
      · exact Sub.up (by decide) hW
      · with_reducible assumption
  clear_value v0
  split
  · with_reducible assumption
  · apply faultTile_keeps
    · exact Sub.up (by decide) hW
    · apply keepUppers_keeps
      · exact Sub.up (by decide) hW
      · with_reducible assumption

theorem ringFail_keeps {W : Nat} {z : State} (s : State) (q : ℕ) (hW : Sub 107064836 W) (h_s : Keeps W z s) :
    Keeps W z (ringFail s q) := by
  unfold ringFail
  extract_lets v0 v1
  have h2 : Keeps W z v0 := by
    unfold v0
    apply wb_keeps
    · exact Sub.up (by decide) hW
    · apply wb_keeps
      · exact Sub.up (by decide) hW
      · with_reducible assumption
  clear_value v0
  clear_value v1
  apply event_keeps
  · exact Sub.up (by decide) hW
  · refine Keeps.congr (s := v0) ?_ rfl rfl rfl rfl rfl rfl kept kept kept kept kept kept kept kept (hW.chg rfl) kept
        kept kept kept kept kept kept kept kept kept kept kept kept
    with_reducible assumption

theorem execCxlioReadTimeout_keeps {W : Nat} {z : State} (what : CxlioRead) (s : State) (hW : Sub 107347956 W) (h_s :
    Keeps W z s) :
    KeepsRes W z (execCxlioReadTimeout what s) := by
  unfold execCxlioReadTimeout
  split
  · split
    · with_reducible assumption
    · apply guarded_keeps
      · with_reducible assumption
      · intro y7 y8
        apply walkFault_keeps
        · with_reducible assumption
        · with_reducible assumption
  · apply guarded_keeps
    · with_reducible assumption
    · intro y11 y12
      apply ringFail_keeps
      · exact Sub.up (by decide) hW
      · with_reducible assumption

theorem execDebugUnlock_keeps {W : Nat} {z : State} (session : ℕ) (sig : Bytes) (s : State) (hW : Sub 67240966 W)
    (h_s : Keeps W z s) :
    KeepsRes W z (execDebugUnlock session sig s) := by
  unfold execDebugUnlock
  split
  · change Keeps W z _
    apply spdmError_keeps
    · exact Sub.up (by decide) hW
    · with_reducible assumption
  · extract_lets v5 v6 v7
    clear_value v5
    clear_value v6
    have h8 : Keeps W z v7 := by
      unfold v7
      refine Keeps.core (s := s) ?_ rfl (Nat.le_add_right _ _) List.suffix_rfl id kept (hW.chg rfl) kept kept kept
          kept kept kept kept kept kept kept kept kept kept kept kept (hW.chg rfl) kept kept kept kept kept kept kept
              kept kept
      with_reducible assumption
    clear_value v7
    split
    · change Keeps W z _
      apply spdmReply_keeps
      · exact Sub.up (by decide) hW
      · apply wf_keeps
        · exact Sub.up (by decide) hW
        · with_reducible assumption
    · change Keeps W z _
      apply spdmReply_keeps
      · exact Sub.up (by decide) hW
      · apply wf_keeps
        · exact Sub.up (by decide) hW
        · with_reducible assumption

theorem faultOvf_keeps {W : Nat} {z : State} (s : State) (e : FaultEntry) (hW : Sub 8196 W) (h_s : Keeps W z s) :
    Keeps W z (faultOvf s e) := by
  unfold faultOvf
  extract_lets v0 v1 v2
  clear_value v0
  clear_value v1
  have h3 : Keeps W z v2 := by
    unfold v2
    refine Keeps.congr (s := s) ?_ rfl rfl rfl rfl rfl rfl kept kept kept kept kept kept kept kept kept kept (hW.chg
        rfl) kept kept kept kept kept kept kept kept kept kept kept
    with_reducible assumption
  clear_value v2
  apply wb_keeps
  · exact Sub.up (by decide) hW
  · with_reducible assumption

theorem putRecord_keeps {W : Nat} {z : State} (s : State) (e : FaultEntry) (hW : Sub 67150852 W) (h_s : Keeps W z s) :
    Keeps W z (putRecord s e) := by
  unfold putRecord
  split
  · apply faultPut_keeps
    · with_reducible assumption
    · with_reducible assumption
  · apply faultOvf_keeps
    · exact Sub.up (by decide) hW
    · with_reducible assumption

theorem execDelta_keeps {W : Nat} {z : State} (tick : ℕ) (change : TickDelta) (s : State) (hW : Sub 102940660 W) (h_s
    : Keeps W z s) :
    KeepsRes W z (execDelta tick change s) := by
  unfold execDelta
  apply guarded_keeps
  · with_reducible assumption
  · intro y0 y1
    split
    · with_reducible assumption
    · split
      · rename_i x7 x8
        have k9 := keeps_eq x8 (P := KeepsOpt W z) (by
          apply ownFrame_keeps
          · exact Sub.up (by decide) hW
          · with_reducible assumption
          )
        with_reducible assumption
      · rename_i x10 x11 x12
        have k13 := keeps_eq x12 (P := KeepsOpt W z) (by
          apply ownFrame_keeps
          · exact Sub.up (by decide) hW
          · with_reducible assumption
          )
        extract_lets v14
        have h15 : Keeps W z v14 := by
          unfold v14
          apply setBytes_keeps
          · exact Sub.up (by decide) hW
          · apply zeroSub_keeps
            · exact Sub.up (by decide) hW
            · with_reducible assumption
        clear_value v14
        refine foldl_keeps (P := Keeps W z) ?_ ?_
        · with_reducible assumption
        · intro y16 y17 y18
          apply setPoison_keeps
          · exact Sub.up (by decide) hW
          · with_reducible assumption
    · refine Keeps.congr (s := y0) ?_ rfl rfl rfl rfl rfl rfl kept kept kept kept kept (hW.chg rfl) kept kept kept
          kept kept kept kept kept kept kept kept kept kept kept kept kept
      with_reducible assumption
    · split
      · with_reducible assumption
      · apply sendRunnel_keeps
        · exact Sub.up (by decide) hW
        · apply wr_keeps
          · exact Sub.up (by decide) hW
          · unfold Sys2Proof.Machine.installSlow
            extract_lets v25 v26 v27 v28 v29 v30 v31 v32 v33 v34 v35 v36 v37 v38 v39 v40 v41 v42
            clear_value v25
            clear_value v26
            clear_value v27
            clear_value v28
            clear_value v29
            clear_value v30
            clear_value v31
            clear_value v32
            clear_value v33
            clear_value v34
            clear_value v35
            clear_value v36
            clear_value v37
            clear_value v38
            clear_value v39
            clear_value v40
            have h43 : Keeps W z v41 := by
              unfold v41
              refine Keeps.congr (s := y0) ?_ rfl rfl rfl rfl rfl rfl kept (hW.chg rfl) kept (hW.chg rfl) (hW.chg
                  rfl) (hW.chg rfl) (hW.chg rfl) (hW.chg rfl) (hW.chg rfl) (hW.chg rfl) kept kept kept kept (hW.chg
                      rfl) kept kept kept (hW.chg rfl) kept kept kept
              with_reducible assumption
            clear_value v41
            have h44 : Keeps W z v42 := by
              unfold v42
              refine foldl_keeps (P := Keeps W z) ?_ ?_
              · with_reducible assumption
              · intro y45 y46 y47
                apply giveBack_keeps
                · exact Sub.up (by decide) hW
                · with_reducible assumption
            clear_value v42
            refine foldl_keeps (P := Keeps W z) ?_ ?_
            · with_reducible assumption
            · intro y48 y49 y50
              apply putRecord_keeps
              · exact Sub.up (by decide) hW
              · with_reducible assumption

theorem setupEnd_keeps {W : Nat} {z : State} (h : ℕ) (g : Go Unit) (hW : Sub 107347828 W) (h_g : KeepsGo W z g) :
    KeepsRes W z (setupEnd h g) := by
  unfold setupEnd
  split
  · with_reducible assumption
  · with_reducible assumption
  · change Keeps W z _
    apply endEarly_keeps
    · with_reducible assumption
    · with_reducible assumption

theorem execDescriptorFetchDone_keeps {W : Nat} {z : State} (h : ℕ) (s : State) (hW : Sub 107347956 W) (h_s : Keeps W
    z s) :
    KeepsRes W z (execDescriptorFetchDone h s) := by
  unfold execDescriptorFetchDone
  split
  · with_reducible assumption
  · split
    · with_reducible assumption
    · extract_lets v7
      clear_value v7
      apply setupEnd_keeps
      · exact Sub.up (by decide) hW
      · split
        · change Keeps W z _
          apply recordFault_keeps
          · exact Sub.up (by decide) hW
          · with_reducible assumption
        · apply Go.bind_keeps
          · apply opRead_keeps
            · with_reducible assumption
            · with_reducible assumption
          · intro y10 y11 y12
            extract_lets v13
            clear_value v13
            apply descChecked_keeps
            · with_reducible assumption
            · apply modOp_keeps
              · exact Sub.up (by decide) hW
              · with_reducible assumption

theorem execDieTempSample_keeps {W : Nat} {z : State} (tempC : ℕ) (s : State) (hW : Sub 107062788 W) (h_s : Keeps W z
    s) :
    KeepsRes W z (execDieTempSample tempC s) := by
  unfold execDieTempSample
  apply guarded_keeps
  · with_reducible assumption
  · intro y0 y1
    extract_lets v2 v3 v4 v5 v6 v7 v8 v9 v10
    clear_value v2
    clear_value v3
    clear_value v4
    clear_value v5
    have h11 : Keeps W z v6 := by
      unfold v6
      with_reducible assumption
    clear_value v6
    have h12 : Keeps W z v7 := by
      unfold v7
      apply wb_keeps
      · exact Sub.up (by decide) hW
      · apply wb_keeps
        · exact Sub.up (by decide) hW
        · apply wf_keeps
          · exact Sub.up (by decide) hW
          · with_reducible assumption
    clear_value v7
    have h13 : Keeps W z v8 := by
      unfold v8
      split
      · apply eventAt_keeps
        · with_reducible assumption
        · with_reducible assumption
      · with_reducible assumption
    clear_value v8
    have h16 : Keeps W z v9 := by
      unfold v9
      split
      · apply eventAt_keeps
        · with_reducible assumption
        · with_reducible assumption
      · with_reducible assumption
    clear_value v9
    have h19 : Keeps W z v10 := by
      unfold v10
      split
      · with_reducible assumption
      · apply platformEvent_keeps
        · exact Sub.up (by decide) hW
        · with_reducible assumption
    clear_value v10
    split
    · with_reducible assumption
    · apply platformEvent_keeps
      · exact Sub.up (by decide) hW
      · with_reducible assumption

end Sys2Proof.Machine
end

