-- ==== Sys2Proof/Laws/Keeps6.lean ====
section
/-!
SUPPORT. Each operation keeps what Keeps.lean names, part 6: one lemma an operation, in the order of use.
-/
namespace Sys2Proof.Machine

theorem timeoutLine_keeps {W : Nat} {z : State} (s : State) (line : ℕ) (i : ℕ) (hW : Sub 107347828 W) (h_s : Keeps W
    z s) :
    Keeps W z (timeoutLine s line i) := by
  unfold timeoutLine
  split
  · with_reducible assumption
  · extract_lets v5 v6 v7 v8 v9 v10 v11
    have h12 : Keeps W z v6 := by
      unfold v6
      split
      · apply loseOwner_keeps
        · exact Sub.up (by decide) hW
        · with_reducible assumption
      · apply loseSharer_keeps
        · exact Sub.up (by decide) hW
        · with_reducible assumption
    clear_value v9
    clear_value v10
    have h15 : Keeps W z v11 := by
      unfold v11
      split
      · apply setDir_keeps
        · exact Sub.up (by decide) hW
        · with_reducible assumption
      · with_reducible assumption
    clear_value v11
    split
    · split
      rename_i x22 x23 x24 x25
      have k26 := keeps_eq x25 (P := KeepsFst W z) (by
        apply sendFwds_keeps
        · exact Sub.up (by decide) hW
        · with_reducible assumption
        )
      apply advance_keeps
      · with_reducible assumption
      · apply setTran_keeps
        · exact Sub.up (by decide) hW
        · with_reducible assumption
    · apply advance_keeps
      · with_reducible assumption
      · apply setTran_keeps
        · exact Sub.up (by decide) hW
        · with_reducible assumption

theorem sweepSilent_keeps {W : Nat} {z : State} (s : State) (i : ℕ) (hW : Sub 107347828 W) (h_s : Keeps W z s) :
    Keeps W z (sweepSilent s i) := by
  unfold sweepSilent
  extract_lets v0
  have h1 : Keeps W z v0 := by
    unfold v0
    refine foldl_keeps (P := Keeps W z) ?_ ?_
    · with_reducible assumption
    · intro y2 y3 y4
      apply timeoutLine_keeps
      · with_reducible assumption
      · with_reducible assumption
  clear_value v0
  refine foldl_keeps (P := Keeps W z) ?_ ?_
  · with_reducible assumption
  · intro y5 y6 y7
    apply settle_keeps
    · with_reducible assumption
    · apply dropDead_keeps
      · with_reducible assumption
      · with_reducible assumption

theorem execDirectorySweepDone_keeps {W : Nat} {z : State} (agent : ℕ) (s : State) (hW : Sub 107347828 W) (h_s :
    Keeps W z s) :
    KeepsRes W z (execDirectorySweepDone agent s) := by
  unfold execDirectorySweepDone
  split
  · with_reducible assumption
  · extract_lets v2 v3 v4 v5 v6 v7
    clear_value v2
    have h8 : Keeps W z v3 := by
      unfold v3
      split
      · apply recallAgent_keeps
        · with_reducible assumption
        · with_reducible assumption
      · apply sweepSilent_keeps
        · with_reducible assumption
        · with_reducible assumption
    clear_value v3
    clear_value v4
    have h11 : Keeps W z v5 := by
      unfold v5
      apply setAgent_keeps
      · exact Sub.up (by decide) hW
      · with_reducible assumption
    clear_value v5
    clear_value v6
    have h12 : Keeps W z v7 := by
      unfold v7
      refine Keeps.congr (s := v5) ?_ rfl rfl rfl rfl rfl rfl kept kept kept kept kept (hW.chg rfl) kept kept kept
          kept kept kept kept kept kept kept kept kept kept kept kept kept
      with_reducible assumption
    clear_value v7
    split
    · with_reducible assumption
    · change Keeps W z _
      apply event_keeps
      · exact Sub.up (by decide) hW
      · with_reducible assumption

theorem execDlyStaleWarn_keeps {W : Nat} {z : State} (ch : ℕ) (s : State) (hW : Sub 107062788 W) (h_s : Keeps W z s) :
    KeepsRes W z (execDlyStaleWarn ch s) := by
  unfold execDlyStaleWarn
  apply guarded_keeps
  · with_reducible assumption
  · intro y0 y1
    apply eventAt_keeps
    · with_reducible assumption
    · with_reducible assumption

theorem execDoeDiscovery_keeps {W : Nat} {z : State} (index : ℕ) (s : State) (hW : Sub 67109888 W) (h_s : Keeps W z
    s) :
    KeepsRes W z (execDoeDiscovery index s) := by
  unfold execDoeDiscovery
  apply guarded_keeps
  · with_reducible assumption
  · intro y0 y1
    split
    · apply put_keeps
      · with_reducible assumption
      · with_reducible assumption
    · apply put_keeps
      · with_reducible assumption
      · with_reducible assumption
    · apply put_keeps
      · with_reducible assumption
      · with_reducible assumption
    · apply put_keeps
      · with_reducible assumption
      · with_reducible assumption

theorem execDoorbellPacket_keeps {W : Nat} {z : State} (port : ℕ) (pkt : Packet) (s : State) (hW : Sub 107079172 W)
    (h_s : Keeps W z s) :
    KeepsRes W z (execDoorbellPacket port pkt s) := by
  unfold execDoorbellPacket
  apply arrive_keeps
  · exact Sub.up (by decide) hW
  · with_reducible assumption
  · intro y0 y1
    apply event_keeps
    · exact Sub.up (by decide) hW
    · with_reducible assumption
  · intro y2 y3
    apply discardPacket_keeps
    · exact Sub.up (by decide) hW
    · with_reducible assumption
  · intro y4 y5
    apply doorbell_keeps
    · exact Sub.up (by decide) hW
    · with_reducible assumption

theorem execDramChannelFail_keeps {W : Nat} {z : State} (ch : ℕ) (s : State) (hW : Sub 107062788 W) (h_s : Keeps W z
    s) :
    KeepsRes W z (execDramChannelFail ch s) := by
  unfold execDramChannelFail
  apply guarded_keeps
  · with_reducible assumption
  · intro y0 y1
    apply eventAt_keeps
    · with_reducible assumption
    · apply wf_keeps
      · exact Sub.up (by decide) hW
      · with_reducible assumption

theorem serveQueued_keeps {W : Nat} {z : State} (s : State) (ch : ℕ) (hW : Sub 262144 W) (h_s : Keeps W z s) :
    Keeps W z (serveQueued s ch) := by
  unfold serveQueued
  extract_lets v0 v1 v2
  clear_value v0
  clear_value v1
  clear_value v2
  refine Keeps.congr (s := s) ?_ rfl rfl rfl rfl rfl rfl kept kept kept kept kept kept kept kept kept kept kept kept
      kept kept kept (hW.chg rfl) kept kept kept kept kept kept
  with_reducible assumption

theorem execDramCommandIssue_keeps {W : Nat} {z : State} (ch : ℕ) (s : State) (hW : Sub 100926464 W) (h_s : Keeps W z
    s) :
    KeepsRes W z (execDramCommandIssue ch s) := by
  unfold execDramCommandIssue
  split
  · with_reducible assumption
  · extract_lets v2
    have h3 : Keeps W z v2 := by
      unfold v2
      apply drainUpdate_keeps
      · exact Sub.up (by decide) hW
      · apply serveQueued_keeps
        · exact Sub.up (by decide) hW
        · with_reducible assumption
    clear_value v2
    split
    · with_reducible assumption
    · extract_lets v9 v10 v11 v12 v13 v14 v15
      clear_value v9
      clear_value v10
      have h16 : Keeps W z v11 := by
        unfold v11
        split
        · apply count_keeps
          · exact Sub.up (by decide) hW
          · with_reducible assumption
        · with_reducible assumption
      clear_value v11
      have h19 : Keeps W z v12 := by
        unfold v12
        apply count_keeps
        · exact Sub.up (by decide) hW
        · with_reducible assumption
      clear_value v12
      clear_value v13
      clear_value v14
      have h20 : Keeps W z v15 := by
        unfold v15
        refine Keeps.congr (s := v12) ?_ rfl rfl rfl rfl rfl rfl kept kept kept kept kept kept kept kept kept kept
            kept kept kept kept kept (hW.chg rfl) kept kept kept kept kept kept
        with_reducible assumption
      clear_value v15
      change Keeps W z _
      apply drainUpdate_keeps
      · exact Sub.up (by decide) hW
      · apply put_keeps
        · exact Sub.up (by decide) hW
        · with_reducible assumption

theorem testFailed_keeps {W : Nat} {z : State} (s : State) (b : ℕ) (hW : Sub 2097152 W) (h_s : Keeps W z s) :
    Keeps W z (testFailed s b) := by
  unfold testFailed
  apply modPair_keeps
  · with_reducible assumption
  · with_reducible assumption

theorem execDramPatrolRead_keeps {W : Nat} {z : State} (line : ℕ) (outcome : PatrolOutcome) (s : State) (hW : Sub
    107064932 W) (h_s : Keeps W z s) :
    KeepsRes W z (execDramPatrolRead line outcome s) := by
  unfold execDramPatrolRead
  split
  · apply guarded_keeps
    · with_reducible assumption
    · intro y6 y7
      extract_lets v8 v9
      clear_value v8
      have h10 : Keeps W z v9 := by
        unfold v9
        apply setPoison_keeps
        · exact Sub.up (by decide) hW
        · apply dramUncorrectable_keeps
          · exact Sub.up (by decide) hW
          · with_reducible assumption
      clear_value v9
      split
      · with_reducible assumption
      · apply dramCorrected_keeps
        · exact Sub.up (by decide) hW
        · with_reducible assumption
      · apply testFailed_keeps
        · exact Sub.up (by decide) hW
        · apply sendRunnel_keeps
          · exact Sub.up (by decide) hW
          · with_reducible assumption
  · with_reducible assumption

theorem execDramReadData_keeps {W : Nat} {z : State} (ch : ℕ) (da : ℕ) (upset : List (ℕ × ℕ × BitVec 16)) (s : State)
    (hW : Sub 107064948 W) (h_s : Keeps W z s) :
    KeepsRes W z (execDramReadData ch da upset s) := by
  unfold execDramReadData
  apply guarded_keeps
  · with_reducible assumption
  · intro y0 y1
    apply dramRead_keeps
    · with_reducible assumption
    · with_reducible assumption

theorem failDrive_keeps {W : Nat} {z : State} (s : State) (d : ℕ) (hW : Sub 107347828 W) (h_s : Keeps W z s) :
    Keeps W z (failDrive s d) := by
  unfold failDrive
  extract_lets v0 v1 v2 v3 v4 v5 v6 v7
  clear_value v0
  have h8 : Keeps W z v1 := by
    unfold v1
    apply dropDriveMoves_keeps
    · exact Sub.up (by decide) hW
    · apply setHeld_keeps
      · exact Sub.up (by decide) hW
      · apply setDrv_keeps
        · exact Sub.up (by decide) hW
        · with_reducible assumption
  clear_value v1
  clear_value v2
  have h9 : Keeps W z v3 := by
    unfold v3
    refine foldl_keeps (P := Keeps W z) ?_ ?_
    · with_reducible assumption
    · intro y10 y11 y12
      apply loseSub_keeps
      · exact Sub.up (by decide) hW
      · with_reducible assumption
  clear_value v3
  clear_value v4
  have h13 : Keeps W z v5 := by
    unfold v5
    refine Keeps.congr (s := v3) ?_ rfl rfl rfl rfl rfl rfl kept kept kept kept kept kept kept (hW.chg rfl) kept kept
        kept kept kept kept kept kept kept kept kept kept kept kept
    with_reducible assumption
  clear_value v5
  have h14 : Keeps W z v6 := by
    unfold v6
    apply event_keeps
    · exact Sub.up (by decide) hW
    · apply count_keeps
      · exact Sub.up (by decide) hW
      · with_reducible assumption
  clear_value v6
  have h15 : Keeps W z v7 := by
    unfold v7
    split
    · split
      · apply reserveEvent_keeps
        · exact Sub.up (by decide) hW
        · apply setDrv_keeps
          · exact Sub.up (by decide) hW
          · with_reducible assumption
      · with_reducible assumption
    · with_reducible assumption
  clear_value v7
  apply retryTier_keeps
  · with_reducible assumption
  · apply drvGauges_keeps
    · exact Sub.up (by decide) hW
    · with_reducible assumption

theorem execDriveFailure_keeps {W : Nat} {z : State} (drive : ℕ) (s : State) (hW : Sub 107347828 W) (h_s : Keeps W z
    s) :
    KeepsRes W z (execDriveFailure drive s) := by
  unfold execDriveFailure
  apply guarded_keeps
  · with_reducible assumption
  · intro y0 y1
    apply failDrive_keeps
    · with_reducible assumption
    · with_reducible assumption

theorem execDriveIdleTimeout_keeps {W : Nat} {z : State} (drive : ℕ) (s : State) (hW : Sub 67109888 W) (h_s : Keeps W
    z s) :
    KeepsRes W z (execDriveIdleTimeout drive s) := by
  unfold execDriveIdleTimeout
  apply guarded_keeps
  · with_reducible assumption
  · intro y0 y1
    extract_lets v2 v3
    have h4 : Keeps W z v2 := by
      unfold v2
      apply put_keeps
      · with_reducible assumption
      · with_reducible assumption
    clear_value v2
    clear_value v3
    refine Keeps.congr (s := v2) ?_ rfl rfl rfl rfl rfl rfl kept kept kept kept kept kept kept (hW.chg rfl) kept kept
        kept kept kept kept kept kept kept kept kept kept kept kept
    with_reducible assumption

theorem execDriveReady_keeps {W : Nat} {z : State} (drive : ℕ) (dualPort : Bool) (frames : ℕ) (s : State) (hW : Sub
    107347828 W) (h_s : Keeps W z s) :
    KeepsRes W z (execDriveReady drive dualPort frames s) := by
  unfold execDriveReady
  apply guarded_keeps
  · with_reducible assumption
  · intro y0 y1
    extract_lets v2 v3 v4 v5 v6 v7
    have h8 : Keeps W z v2 := by
      unfold v2
      apply bringUp_keeps
      · exact Sub.up (by decide) hW
      · with_reducible assumption
    clear_value v2
    have h9 : Keeps W z v3 := by
      unfold v3
      apply wb_keeps
      · exact Sub.up (by decide) hW
      · apply setDrv_keeps
        · exact Sub.up (by decide) hW
        · with_reducible assumption
    clear_value v3
    clear_value v4
    have h10 : Keeps W z v5 := by
      unfold v5
      refine Keeps.congr (s := v3) ?_ rfl rfl rfl rfl rfl rfl kept kept kept kept kept kept kept (hW.chg rfl) kept
          kept kept kept kept kept kept kept kept kept kept kept kept kept
      with_reducible assumption
    clear_value v5
    have h11 : Keeps W z v6 := by
      unfold v6
      split
      · apply issueNvme_keeps
        · exact Sub.up (by decide) hW
        · with_reducible assumption
      · with_reducible assumption
    clear_value v6
    have h14 : Keeps W z v7 := by
      unfold v7
      split
      · apply acquireDrives_keeps
        · exact Sub.up (by decide) hW
        · with_reducible assumption
      · with_reducible assumption
    clear_value v7
    apply drvGauges_keeps
    · exact Sub.up (by decide) hW
    · apply retryPromotes_keeps
      · with_reducible assumption
      · with_reducible assumption

theorem execDriveReadyTimeout_keeps {W : Nat} {z : State} (drive : ℕ) (s : State) (hW : Sub 107062788 W) (h_s : Keeps
    W z s) :
    KeepsRes W z (execDriveReadyTimeout drive s) := by
  unfold execDriveReadyTimeout
  apply guarded_keeps
  · with_reducible assumption
  · intro y0 y1
    apply event_keeps
    · with_reducible assumption
    · apply setDrv_keeps
      · exact Sub.up (by decide) hW
      · with_reducible assumption

theorem inSession_keeps {W : Nat} {z : State} (s : State) (n : ℕ) (f : Session → State) (hW : Sub 67109888 W) (h_s :
    Keeps W z s) (h_f : ∀ q1, Keeps W z (f q1)) :
    KeepsRes W z (inSession s n f) := by
  unfold inSession
  split
  · change Keeps W z _
    apply h_f
  · change Keeps W z _
    apply spdmError_keeps
    · with_reducible assumption
    · with_reducible assumption

theorem execEndSession_keeps {W : Nat} {z : State} (session : ℕ) (s : State) (hW : Sub 67240960 W) (h_s : Keeps W z
    s) :
    KeepsRes W z (execEndSession session s) := by
  unfold execEndSession
  apply inSession_keeps
  · exact Sub.up (by decide) hW
  · with_reducible assumption
  · intro y0
    apply spdmReply_keeps
    · exact Sub.up (by decide) hW
    · apply dropSession_keeps
      · exact Sub.up (by decide) hW
      · with_reducible assumption

theorem testEnd_keeps {W : Nat} {z : State} (s : State) (h : ℕ) (hW : Sub 107347828 W) (h_s : Keeps W z s) :
    Keeps W z (testEnd s h) := by
  unfold testEnd
  split
  · with_reducible assumption
  · extract_lets v5 v6 v7
    clear_value v5
    have h8 : Keeps W z v6 := by
      unfold v6
      apply modOp_keeps
      · exact Sub.up (by decide) hW
      · with_reducible assumption
    clear_value v6
    clear_value v7
    split
    · apply endWith_keeps
      · with_reducible assumption
      · with_reducible assumption
    · with_reducible assumption

theorem wakeReserve_keeps {W : Nat} {z : State} (s : State) (e : ℕ) (hW : Sub 4 W) (h_s : Keeps W z s) :
    Keeps W z (wakeReserve s e) := by
  unfold wakeReserve
  split
  · apply setGated_keeps
    · with_reducible assumption
    · with_reducible assumption
  · with_reducible assumption

theorem execEngineTest_keeps {W : Nat} {z : State} (h : ℕ) (s : State) (hW : Sub 107347828 W) (h_s : Keeps W z s) :
    KeepsRes W z (execEngineTest h s) := by
  unfold execEngineTest
  split
  · with_reducible assumption
  · split
    · change Keeps W z _
      apply endWith_keeps
      · with_reducible assumption
      · with_reducible assumption
    · extract_lets v10 v11 v12
      clear_value v10
      clear_value v11
      have h13 : Keeps W z v12 := by
        unfold v12
        apply modOp_keeps
        · exact Sub.up (by decide) hW
        · with_reducible assumption
      clear_value v12
      change Keeps W z _
      apply testEnd_keeps
      · with_reducible assumption
      · refine foldl_keeps (P := Keeps W z) ?_ ?_
        · with_reducible assumption
        · intro y14 y15 y16
          apply wakeReserve_keeps
          · exact Sub.up (by decide) hW
          · with_reducible assumption

theorem gateReserve_keeps {W : Nat} {z : State} (s : State) (c : ℕ) (hW : Sub 4 W) (h_s : Keeps W z s) :
    Keeps W z (gateReserve s c) := by
  unfold gateReserve
  split
  · apply setGated_keeps
    · with_reducible assumption
    · with_reducible assumption
  · with_reducible assumption

theorem returnQueue_keeps {W : Nat} {z : State} (s : State) (c : ℕ) (hW : Sub 2560 W) (h_s : Keeps W z s) :
    Keeps W z (returnQueue s c) := by
  unfold returnQueue
  split
  · with_reducible assumption
  · extract_lets v2 v3 v4
    clear_value v2
    clear_value v3
    have h5 : Keeps W z v4 := by
      unfold v4
      refine Keeps.congr (s := s) ?_ rfl rfl rfl rfl rfl rfl kept kept kept kept kept kept kept kept (hW.chg rfl)
          kept kept kept kept kept kept kept kept kept kept kept kept kept
      with_reducible assumption
    clear_value v4
    refine foldl_keeps (P := Keeps W z) ?_ ?_
    · with_reducible assumption
    · intro y6 y7 y8
      apply giveBack_keeps
      · with_reducible assumption
      · with_reducible assumption

theorem retireCore_keeps {W : Nat} {z : State} (s : State) (c : ℕ) (hW : Sub 2564 W) (h_s : Keeps W z s) :
    Keeps W z (retireCore s c) := by
  unfold retireCore
  apply returnQueue_keeps
  · exact Sub.up (by decide) hW
  · apply setRole_keeps
    · exact Sub.up (by decide) hW
    · with_reducible assumption

theorem retireEngine_keeps {W : Nat} {z : State} (s : State) (e : ℕ) (hW : Sub 107065220 W) (h_s : Keeps W z s) :
    Keeps W z (retireEngine s e) := by
  unfold retireEngine
  extract_lets v0 v1 v2 v3 v4
  clear_value v0
  have h5 : Keeps W z v1 := by
    unfold v1
    apply wf_keeps
    · exact Sub.up (by decide) hW
    · with_reducible assumption
  clear_value v1
  have h6 : Keeps W z v2 := by
    unfold v2
    apply event_keeps
    · exact Sub.up (by decide) hW
    · with_reducible assumption
  clear_value v2
  have h7 : Keeps W z v3 := by
    unfold v3
    apply drainCore_keeps
    · exact Sub.up (by decide) hW
    · with_reducible assumption
  clear_value v3
  have h8 : Keeps W z v4 := by
    unfold v4
    apply engineLedger_keeps
    · exact Sub.up (by decide) hW
    · apply setRole_keeps
      · exact Sub.up (by decide) hW
      · with_reducible assumption
  clear_value v4
  split
  · split
    · apply setRole_keeps
      · exact Sub.up (by decide) hW
      · with_reducible assumption
    · apply retireCore_keeps
      · exact Sub.up (by decide) hW
      · with_reducible assumption
  · split
    · apply retireCore_keeps
      · exact Sub.up (by decide) hW
      · with_reducible assumption
    · with_reducible assumption
  · with_reducible assumption

theorem execEngineTestRoundDone_keeps {W : Nat} {z : State} (h : ℕ) (eng : ℕ) (pass : Bool) (s : State) (hW : Sub
    107347956 W) (h_s : Keeps W z s) :
    KeepsRes W z (execEngineTestRoundDone h eng pass s) := by
  unfold execEngineTestRoundDone
  split
  · with_reducible assumption
  · split
    · with_reducible assumption
    · split
      · split
        · with_reducible assumption
        · split
          · change Keeps W z _
            apply modOp_keeps
            · exact Sub.up (by decide) hW
            · with_reducible assumption
          · extract_lets v18 v19 v20
            have h21 : Keeps W z v18 := by
              unfold v18
              apply modOp_keeps
              · exact Sub.up (by decide) hW
              · with_reducible assumption
            clear_value v18
            have h22 : Keeps W z v19 := by
              unfold v19
              apply retireEngine_keeps
              · exact Sub.up (by decide) hW
              · with_reducible assumption
            clear_value v19
            have h23 : Keeps W z v20 := by
              unfold v20
              split
              · apply gateReserve_keeps
                · exact Sub.up (by decide) hW
                · with_reducible assumption
              · split
                · apply modOp_keeps
                  · exact Sub.up (by decide) hW
                  · with_reducible assumption
                · with_reducible assumption
            clear_value v20
            change Keeps W z _
            apply testEnd_keeps
            · exact Sub.up (by decide) hW
            · with_reducible assumption
      · change Keeps W z _
        apply testEnd_keeps
        · exact Sub.up (by decide) hW
        · with_reducible assumption

theorem execEpochEnd_keeps {W : Nat} {z : State} (s : State) (hW : Sub 1024 W) (h_s : Keeps W z s) :
    KeepsRes W z (execEpochEnd s) := by
  unfold execEpochEnd
  extract_lets v0 v1
  clear_value v0
  clear_value v1
  change Keeps W z _
  refine Keeps.congr (s := s) ?_ rfl rfl rfl rfl rfl rfl kept kept kept kept kept kept kept (hW.chg rfl) kept kept
      kept kept kept kept kept kept kept kept kept kept kept kept
  with_reducible assumption

theorem execEventRateRefill_keeps {W : Nat} {z : State} (source : ℕ) (s : State) (hW : Sub 8192 W) (h_s : Keeps W z
    s) :
    KeepsRes W z (execEventRateRefill source s) := by
  unfold execEventRateRefill
  change Keeps W z _
  refine Keeps.congr (s := s) ?_ rfl rfl rfl rfl rfl rfl kept kept kept kept kept kept kept kept kept kept (hW.chg
      rfl) kept kept kept kept kept kept kept kept kept kept kept
  with_reducible assumption

theorem execEvict_keeps {W : Nat} {z : State} (port : ℕ) (pkt : Packet) (s : State) (hW : Sub 107347828 W) (h_s :
    Keeps W z s) :
    KeepsRes W z (execEvict port pkt s) := by
  unfold execEvict
  apply absorb_keeps
  · exact Sub.up (by decide) hW
  · with_reducible assumption
  · intro y0 y1 y2
    apply evictServe_keeps
    · with_reducible assumption
    · with_reducible assumption

theorem execExpand_keeps {W : Nat} {z : State} (op : ℕ) (tile : ℕ) (s : State) (hW : Sub 107347828 W) (h_s : Keeps W
    z s) :
    KeepsRes W z (execExpand op tile s) := by
  unfold execExpand
  apply runStation_keeps
  · with_reducible assumption
  · with_reducible assumption
  · intro y0 y1 y2
    with_reducible assumption

theorem execEyeMarginCheck_keeps {W : Nat} {z : State} (failed : List ℕ) (s : State) (hW : Sub 107062788 W) (h_s :
    Keeps W z s) :
    KeepsRes W z (execEyeMarginCheck failed s) := by
  unfold execEyeMarginCheck
  apply guarded_keeps
  · with_reducible assumption
  · intro y0 y1
    apply testFailed_keeps
    · exact Sub.up (by decide) hW
    · refine foldl_keeps (P := Keeps W z) ?_ ?_
      · with_reducible assumption
      · intro y2 y3 y4
        apply eventAt_keeps
        · with_reducible assumption
        · with_reducible assumption

theorem execFence_keeps {W : Nat} {z : State} (h : ℕ) (s : State) (hW : Sub 2048 W) (h_s : Keeps W z s) :
    KeepsRes W z (execFence h s) := by
  unfold execFence
  split
  · with_reducible assumption
  · change Keeps W z _
    apply modOp_keeps
    · with_reducible assumption
    · with_reducible assumption

theorem execFenceComplete_keeps {W : Nat} {z : State} (h : ℕ) (s : State) (hW : Sub 107347828 W) (h_s : Keeps W z s) :
    KeepsRes W z (execFenceComplete h s) := by
  unfold execFenceComplete
  split
  · with_reducible assumption
  · extract_lets v5 v6
    clear_value v5
    clear_value v6
    split
    · change Keeps W z _
      apply endOp_keeps
      · with_reducible assumption
      · with_reducible assumption
    · with_reducible assumption

theorem execFencedPortsOut_keeps {W : Nat} {z : State} (s : State) (hW : Sub 107347828 W) (h_s : Keeps W z s) :
    KeepsRes W z (execFencedPortsOut s) := by
  unfold execFencedPortsOut
  apply guarded_keeps
  · with_reducible assumption
  · intro y0 y1
    apply servicePorts_keeps
    · with_reducible assumption
    · with_reducible assumption

theorem sourceRead_keeps {W : Nat} {z : State} (a : At) (h : ℕ) (num : ℕ) (va : ℕ) (n : ℕ) (s : State) (hW : Sub
    107347956 W) (h_s : Keeps W z s) :
    KeepsGo W z (sourceRead a h num va n s) := by
  unfold sourceRead
  split
  · apply tileGet_keeps
    · with_reducible assumption
    · with_reducible assumption
  · apply Go.bind_keeps
    · apply tileEat_keeps
      · with_reducible assumption
      · with_reducible assumption
    · intro y2 y3 y4
      with_reducible assumption

theorem gatherRows_keeps {W : Nat} {z : State} (a : At) (h num : Nat) (l : List Nat) (s : State) (hW : Sub 107347956
    W) (k : Keeps W z s) :
    KeepsGo W z (gatherRows a h num l s) := by
  induction l generalizing s with
  | nil => exact k
  | cons ix is ih =>
    unfold gatherRows
    refine Go.bind_keeps ?_ fun _ s k => Go.bind_keeps (ih s k) fun _ _ k => k
    split
    · exact k
    · split
      · split <;> exact k
      · exact sourceRead_keeps _ _ _ _ _ _ (Sub.up (by decide) hW) k

theorem execFetchGather_keeps {W : Nat} {z : State} (op : ℕ) (tile : ℕ) (s : State) (hW : Sub 107347956 W) (h_s :
    Keeps W z s) :
    KeepsRes W z (execFetchGather op tile s) := by
  unfold execFetchGather
  apply runStation_keeps
  · exact Sub.up (by decide) hW
  · with_reducible assumption
  · intro y0 y1 y2
    extract_lets v3 v4
    clear_value v3
    clear_value v4
    apply Go.bind_keeps
    · apply tileEat_keeps
      · with_reducible assumption
      · with_reducible assumption
    · intro y5 y6 y7
      apply Go.bind_keeps
      · apply gatherRows_keeps
        · with_reducible assumption
        · with_reducible assumption
      · intro y8 y9 y10
        with_reducible assumption

theorem execFetchRange_keeps {W : Nat} {z : State} (op : ℕ) (tile : ℕ) (s : State) (hW : Sub 107347956 W) (h_s :
    Keeps W z s) :
    KeepsRes W z (execFetchRange op tile s) := by
  unfold execFetchRange
  apply runStation_keeps
  · exact Sub.up (by decide) hW
  · with_reducible assumption
  · intro y0 y1 y2
    extract_lets v3
    clear_value v3
    apply Go.bind_keeps
    · apply sourceRead_keeps
      · with_reducible assumption
      · with_reducible assumption
    · intro y4 y5 y6
      extract_lets v7 v8
      clear_value v7
      have h9 : ∀ q1 q2, Keeps W z q2 → KeepsGo W z (v8 q1 q2) := by
        unfold v8
        intro y10 y11 y12
        with_reducible assumption
      clear_value v8
      split
      · apply Go.bind_keeps
        · apply sourceRead_keeps
          · with_reducible assumption
          · with_reducible assumption
        · intro y14 y15 y16
          apply h9
          with_reducible assumption
      · apply h9
        with_reducible assumption

theorem execFetchSparse_keeps {W : Nat} {z : State} (op : ℕ) (tile : ℕ) (s : State) (hW : Sub 107347956 W) (h_s :
    Keeps W z s) :
    KeepsRes W z (execFetchSparse op tile s) := by
  unfold execFetchSparse
  apply runStation_keeps
  · exact Sub.up (by decide) hW
  · with_reducible assumption
  · intro y0 y1 y2
    extract_lets v3 v4
    clear_value v4
    apply Go.bind_keeps
    · apply tileEat_keeps
      · with_reducible assumption
      · with_reducible assumption
    · intro y5 y6 y7
      extract_lets v8 v9 v10
      clear_value v8
      clear_value v9
      clear_value v10
      split
      · with_reducible assumption
      · apply Go.bind_keeps
        · apply tileEat_keeps
          · with_reducible assumption
          · with_reducible assumption
        · intro y13 y14 y15
          extract_lets v16
          clear_value v16
          split
          · with_reducible assumption
          · with_reducible assumption

theorem execFieldFuseBlow_keeps {W : Nat} {z : State} (id : ℕ) (group : ℕ) (bank : ℕ) (_column : ℕ) (s : State) (hW :
    Sub 107587076 W) (h_s : Keeps W z s) :
    KeepsRes W z (execFieldFuseBlow id group bank _column s) := by
  unfold execFieldFuseBlow
  extract_lets v0 v1
  clear_value v0
  clear_value v1
  apply guarded_keeps
  · with_reducible assumption
  · intro y2 y3
    extract_lets v4 v5
    clear_value v4
    have h6 : Keeps W z v5 := by
      unfold v5
      refine Keeps.congr (s := y2) ?_ rfl rfl rfl rfl rfl rfl kept kept kept kept kept kept kept kept kept kept kept
          kept kept kept kept kept (hW.chg rfl) kept kept kept kept kept
      with_reducible assumption
    clear_value v5
    apply reserveEvent_keeps
    · exact Sub.up (by decide) hW
    · with_reducible assumption

theorem fillTile_keeps {W : Nat} {z : State} (s : State) (op : ℕ) (tile : ℕ) (mode : ℕ) (f : At → Shape → List
    (BitVec 64)) (hW : Sub 107347828 W) (h_s : Keeps W z s) :
    KeepsRes W z (fillTile s op tile mode f) := by
  unfold fillTile
  apply runStation_keeps
  · with_reducible assumption
  · with_reducible assumption
  · intro y0 y1 y2
    with_reducible assumption

theorem execFillConst_keeps {W : Nat} {z : State} (op : ℕ) (tile : ℕ) (s : State) (hW : Sub 107347828 W) (h_s : Keeps
    W z s) :
    KeepsRes W z (execFillConst op tile s) := by
  unfold execFillConst
  apply fillTile_keeps
  · with_reducible assumption
  · with_reducible assumption

theorem execFillPattern_keeps {W : Nat} {z : State} (op : ℕ) (tile : ℕ) (s : State) (hW : Sub 107347828 W) (h_s :
    Keeps W z s) :
    KeepsRes W z (execFillPattern op tile s) := by
  unfold execFillPattern
  apply fillTile_keeps
  · with_reducible assumption
  · with_reducible assumption

theorem execFillRamp_keeps {W : Nat} {z : State} (op : ℕ) (tile : ℕ) (s : State) (hW : Sub 107347828 W) (h_s : Keeps
    W z s) :
    KeepsRes W z (execFillRamp op tile s) := by
  unfold execFillRamp
  apply fillTile_keeps
  · with_reducible assumption
  · with_reducible assumption

theorem execFinish_keeps {W : Nat} {z : State} (session : ℕ) (verified : Bool) (s : State) (hW : Sub 67240960 W) (h_s
    : Keeps W z s) :
    KeepsRes W z (execFinish session verified s) := by
  unfold execFinish
  split
  · change Keeps W z _
    apply spdmError_keeps
    · exact Sub.up (by decide) hW
    · with_reducible assumption
  · split
    · change Keeps W z _
      apply spdmReply_keeps
      · exact Sub.up (by decide) hW
      · refine Keeps.congr (s := s) ?_ rfl rfl rfl rfl rfl rfl kept kept kept kept kept kept kept kept kept kept kept
            kept kept kept (hW.chg rfl) kept kept kept kept kept kept kept
        with_reducible assumption
    · change Keeps W z _
      apply spdmError_keeps
      · exact Sub.up (by decide) hW
      · apply dropSession_keeps
        · exact Sub.up (by decide) hW
        · with_reducible assumption

theorem firstWrite_keeps {W : Nat} {z : State} (s : State) (h : ImageHead) (hW : Sub 4194304 W) (h_s : Keeps W z s) :
    Keeps W z (firstWrite s h) := by
  unfold firstWrite
  extract_lets v0
  clear_value v0
  apply setImg_keeps
  · with_reducible assumption
  · with_reducible assumption

theorem updateFails_keeps {W : Nat} {z : State} (s : State) (code : ℕ) (hW : Sub 71304196 W) (h_s : Keeps W z s) :
    Keeps W z (updateFails s code) := by
  unfold updateFails
  extract_lets v0 v1 v2 v3
  have h4 : Keeps W z v0 := by
    unfold v0
    apply dropTransfer_keeps
    · exact Sub.up (by decide) hW
    · with_reducible assumption
  clear_value v0
  have h5 : Keeps W z v1 := by
    unfold v1
    apply wf_keeps
    · exact Sub.up (by decide) hW
    · apply wb_keeps
      · exact Sub.up (by decide) hW
      · with_reducible assumption
  clear_value v1
  have h6 : Keeps W z v2 := by
    unfold v2
    apply pldmReply_keeps
    · exact Sub.up (by decide) hW
    · with_reducible assumption
  clear_value v2
  clear_value v3
  apply setFwu_keeps
  · exact Sub.up (by decide) hW
  · refine Keeps.congr (s := v2) ?_ rfl rfl rfl rfl rfl rfl kept kept kept kept kept kept kept kept kept kept kept
        kept kept kept kept kept kept kept kept (hW.chg rfl) kept kept
    with_reducible assumption

theorem transferDone_keeps {W : Nat} {z : State} (s : State) (h : ImageHead) (body : Bytes) (hW : Sub 71304196 W)
    (h_s : Keeps W z s) :
    Keeps W z (transferDone s h body) := by
  unfold transferDone
  extract_lets v0 v1 v2 v3 v4
  clear_value v0
  clear_value v1
  have h5 : Keeps W z v2 := by
    unfold v2
    apply setImg_keeps
    · exact Sub.up (by decide) hW
    · with_reducible assumption
  clear_value v2
  have h6 : Keeps W z v3 := by
    unfold v3
    apply pldmReply_keeps
    · exact Sub.up (by decide) hW
    · apply pldmReply_keeps
      · exact Sub.up (by decide) hW
      · apply pldmReply_keeps
        · exact Sub.up (by decide) hW
        · with_reducible assumption
  clear_value v3
  clear_value v4
  apply setFwu_keeps
  · exact Sub.up (by decide) hW
  · refine Keeps.congr (s := v3) ?_ rfl rfl rfl rfl rfl rfl kept kept kept kept kept kept kept kept kept kept kept
        kept kept kept kept kept kept kept kept (hW.chg rfl) kept kept
    with_reducible assumption

theorem patchPiece_keeps {W : Nat} {z : State} (s : State) (h : ImageHead) (bytes : Bytes) (hW : Sub 71304196 W) (h_s
    : Keeps W z s) :
    Keeps W z (patchPiece s h bytes) := by
  unfold patchPiece
  extract_lets v0 v1 v2 v3
  clear_value v0
  clear_value v1
  clear_value v2
  clear_value v3
  split
  · apply updateFails_keeps
    · with_reducible assumption
    · with_reducible assumption
  · split
    · apply transferDone_keeps
      · with_reducible assumption
      · with_reducible assumption
    · apply updateFails_keeps
      · with_reducible assumption
      · with_reducible assumption
  · split
    · apply updateFails_keeps
      · with_reducible assumption
      · with_reducible assumption
    · apply askPiece_keeps
      · exact Sub.up (by decide) hW
      · refine Keeps.congr (s := s) ?_ rfl rfl rfl rfl rfl rfl kept kept kept kept kept kept kept kept kept kept kept
            kept kept kept kept kept kept kept kept (hW.chg rfl) kept kept
        with_reducible assumption

theorem nativePiece_keeps {W : Nat} {z : State} (s : State) (h : ImageHead) (bytes : Bytes) (hW : Sub 71304196 W)
    (h_s : Keeps W z s) :
    Keeps W z (nativePiece s h bytes) := by
  unfold nativePiece
  extract_lets v0 v1 v2 v3 v4 v5 v6
  clear_value v0
  clear_value v1
  clear_value v2
  clear_value v3
  clear_value v4
  clear_value v5
  clear_value v6
  split
  · split
    · apply transferDone_keeps
      · with_reducible assumption
      · with_reducible assumption
    · apply askPiece_keeps
      · exact Sub.up (by decide) hW
      · refine Keeps.congr (s := s) ?_ rfl rfl rfl rfl rfl rfl kept kept kept kept kept kept kept kept kept kept kept
            kept kept kept kept kept kept kept kept (hW.chg rfl) kept kept
        with_reducible assumption
  · split
    · split
      · apply updateFails_keeps
        · with_reducible assumption
        · with_reducible assumption
      · split
        · apply transferDone_keeps
          · with_reducible assumption
          · with_reducible assumption
        · apply askPiece_keeps
          · exact Sub.up (by decide) hW
          · refine Keeps.congr (s := s) ?_ rfl rfl rfl rfl rfl rfl kept kept kept kept kept kept kept kept kept kept
                kept kept kept kept kept kept kept kept kept (hW.chg rfl) kept kept
            with_reducible assumption
    · apply askPiece_keeps
      · exact Sub.up (by decide) hW
      · refine Keeps.congr (s := s) ?_ rfl rfl rfl rfl rfl rfl kept kept kept kept kept kept kept kept kept kept kept
            kept kept kept kept kept kept kept kept (hW.chg rfl) kept kept
        with_reducible assumption

theorem execFirmwareDataReceived_keeps {W : Nat} {z : State} (piece : ImagePiece) (s : State) (hW : Sub 71304196 W)
    (h_s : Keeps W z s) :
    KeepsRes W z (execFirmwareDataReceived piece s) := by
  unfold execFirmwareDataReceived
  split
  · with_reducible assumption
  · apply guarded_keeps
    · with_reducible assumption
    · intro y5 y6
      extract_lets v7
      have h8 : Keeps W z v7 := by
        unfold v7
        split
        · with_reducible assumption
        · apply firstWrite_keeps
          · exact Sub.up (by decide) hW
          · with_reducible assumption
      clear_value v7
      split
      · apply patchPiece_keeps
        · with_reducible assumption
        · with_reducible assumption
      · apply nativePiece_keeps
        · with_reducible assumption
        · with_reducible assumption

theorem flitBad_keeps {W : Nat} {z : State} (s : State) (p : ℕ) (hW : Sub 16388 W) (h_s : Keeps W z s) :
    Keeps W z (flitBad s p) := by
  unfold flitBad
  apply askReplay_keeps
  · with_reducible assumption
  · apply modLp_keeps
    · with_reducible assumption
    · with_reducible assumption

theorem linkCredit_keeps {W : Nat} {z : State} (s : State) (p : ℕ) (b : ℕ) (c : ℕ) (hW : Sub 67159044 W) (h_s : Keeps
    W z s) :
    Keeps W z (linkCredit s p b c) := by
  unfold linkCredit
  split
  · with_reducible assumption
  · extract_lets v2 v3 v4
    clear_value v2
    clear_value v3
    clear_value v4
    split
    · refine Keeps.congr (s := s) ?_ rfl rfl rfl rfl rfl rfl kept kept kept kept kept kept kept kept kept kept kept
          (hW.chg rfl) kept kept kept kept kept kept kept kept kept kept
      with_reducible assumption
    · apply errInc_keeps
      · exact Sub.up (by decide) hW
      · with_reducible assumption

theorem linkAck_keeps {W : Nat} {z : State} (s : State) (p : ℕ) (a : ℕ) (hW : Sub 16388 W) (h_s : Keeps W z s) :
    Keeps W z (linkAck s p a) := by
  unfold linkAck
  extract_lets v0 v1 v2 v3 v4 v5 v6
  clear_value v0
  clear_value v1
  clear_value v2
  clear_value v3
  clear_value v4
  have h7 : Keeps W z v5 := by
    unfold v5
    apply setLp_keeps
    · with_reducible assumption
    · with_reducible assumption
  clear_value v5
  clear_value v6
  split
  · split
    · refine Keeps.congr (s := v5) ?_ rfl rfl rfl rfl rfl rfl kept kept kept kept kept kept kept kept kept kept kept
          (hW.chg rfl) kept kept kept kept kept kept kept kept kept kept
      with_reducible assumption
    · with_reducible assumption
  · with_reducible assumption

theorem retryLanes_keeps {W : Nat} {z : State} (s : State) (p : ℕ) (hW : Sub 107083524 W) (h_s : Keeps W z s) :
    Keeps W z (retryLanes s p) := by
  unfold retryLanes
  refine foldl_keeps (P := Keeps W z) ?_ ?_
  · apply modLp_keeps
    · exact Sub.up (by decide) hW
    · with_reducible assumption
  · intro y0 y1 y2
    apply crossLane_keeps
    · with_reducible assumption
    · with_reducible assumption

theorem idleFlit_keeps {W : Nat} {z : State} (s : State) (p : ℕ) (hW : Sub 107083524 W) (h_s : Keeps W z s) :
    Keeps W z (idleFlit s p) := by
  unfold idleFlit
  split
  · split
    · apply retryLanes_keeps
      · with_reducible assumption
      · apply say_keeps
        · exact Sub.up (by decide) hW
        · apply modLp_keeps
          · exact Sub.up (by decide) hW
          · with_reducible assumption
    · apply modLp_keeps
      · exact Sub.up (by decide) hW
      · with_reducible assumption
  · with_reducible assumption

theorem payloadFlit_keeps {W : Nat} {z : State} (s : State) (p : ℕ) (fseq : ℕ) (body : Bytes) (hW : Sub 107079172 W)
    (h_s : Keeps W z s) :
    Keeps W z (payloadFlit s p fseq body) := by
  unfold payloadFlit
  extract_lets v0 v1 v2
  clear_value v0
  clear_value v1
  have h3 : Keeps W z v2 := by
    unfold v2
    apply setLp_keeps
    · exact Sub.up (by decide) hW
    · with_reducible assumption
  clear_value v2
  split
  · split
    rename_i x5 x6 x7 x8
    have k9 := keeps_eq x8 (P := KeepsFst W z) (by
      apply absorbSlots_keeps
      · with_reducible assumption
      · with_reducible assumption
      )
    apply modLp_keeps
    · exact Sub.up (by decide) hW
    · with_reducible assumption
  · split
    · with_reducible assumption
    · apply askReplay_keeps
      · exact Sub.up (by decide) hW
      · with_reducible assumption

theorem execFlitReceive_keeps {W : Nat} {z : State} (port : ℕ) (bytes : List Byte) (s : State) (hW : Sub 107083524 W)
    (h_s : Keeps W z s) :
    KeepsRes W z (execFlitReceive port bytes s) := by
  unfold execFlitReceive
  split
  · with_reducible assumption
  · split
    extract_lets v6
    have h7 : Keeps W z v6 := by
      unfold v6
      apply countLanes_keeps
      · with_reducible assumption
      · split
        · apply exitPower_keeps
          · exact Sub.up (by decide) hW
          · with_reducible assumption
        · with_reducible assumption
    clear_value v6
    split
    · change Keeps W z _
      apply flitBad_keeps
      · exact Sub.up (by decide) hW
      · with_reducible assumption
    · extract_lets v14 v15 v16
      clear_value v14
      have h17 : Keeps W z v15 := by
        unfold v15
        apply linkCredit_keeps
        · exact Sub.up (by decide) hW
        · apply linkAck_keeps
          · exact Sub.up (by decide) hW
          · with_reducible assumption
      clear_value v15
      clear_value v16
      split
      · change Keeps W z _
        apply flitBad_keeps
        · exact Sub.up (by decide) hW
        · with_reducible assumption
      · split
        · change Keeps W z _
          apply idleFlit_keeps
          · with_reducible assumption
          · with_reducible assumption
        · change Keeps W z _
          apply payloadFlit_keeps
          · exact Sub.up (by decide) hW
          · with_reducible assumption
        · change Keeps W z _
          apply modLp_keeps
          · exact Sub.up (by decide) hW
          · with_reducible assumption

theorem sendFlit_keeps {W : Nat} {z : State} (s : State) (p : ℕ) (ty : ℕ) (fseq : ℕ) (replay : Bool) (first : ℕ)
    (body : Bytes) (hW : Sub 67126276 W) (h_s : Keeps W z s) :
    Keeps W z (sendFlit s p ty fseq replay first body) := by
  unfold sendFlit
  extract_lets v0 v1 v2 v3
  clear_value v0
  clear_value v1
  clear_value v2
  clear_value v3
  apply put_keeps
  · exact Sub.up (by decide) hW
  · apply setLp_keeps
    · exact Sub.up (by decide) hW
    · with_reducible assumption

theorem swapOver_keeps {W : Nat} {z : State} (s : State) (p : ℕ) (lane : ℕ) (hW : Sub 16388 W) (h_s : Keeps W z s) :
    Keeps W z (swapOver s p lane) := by
  unfold swapOver
  extract_lets v0
  clear_value v0
  apply setLanes_keeps
  · with_reducible assumption
  · with_reducible assumption

theorem grantSent_keeps {W : Nat} {z : State} (s : State) (p : ℕ) (ms : List LinkMsg) (hW : Sub 16388 W) (h_s : Keeps
    W z s) :
    Keeps W z (grantSent s p ms) := by
  unfold grantSent
  split
  · split
    · apply enterPower_keeps
      · with_reducible assumption
      · with_reducible assumption
    · with_reducible assumption
  · with_reducible assumption

theorem sendControl_keeps {W : Nat} {z : State} (s : State) (p : ℕ) (hW : Sub 67126276 W) (h_s : Keeps W z s) :
    Keeps W z (sendControl s p) := by
  unfold sendControl
  extract_lets v0 v1 v2 v3 v4 v5
  clear_value v0
  clear_value v1
  clear_value v2
  have h6 : Keeps W z v3 := by
    unfold v3
    apply setLp_keeps
    · exact Sub.up (by decide) hW
    · with_reducible assumption
  clear_value v3
  have h7 : Keeps W z v4 := by
    unfold v4
    apply sendFlit_keeps
    · with_reducible assumption
    · with_reducible assumption
  clear_value v4
  have h8 : Keeps W z v5 := by
    unfold v5
    split
    · apply swapOver_keeps
      · exact Sub.up (by decide) hW
      · with_reducible assumption
    · with_reducible assumption
  clear_value v5
  apply grantSent_keeps
  · exact Sub.up (by decide) hW
  · with_reducible assumption

theorem sendReplay_keeps {W : Nat} {z : State} (s : State) (p : ℕ) (k : Kept) (hW : Sub 100680708 W) (h_s : Keeps W z
    s) :
    Keeps W z (sendReplay s p k) := by
  unfold sendReplay
  extract_lets v0 v1
  clear_value v0
  have h2 : Keeps W z v1 := by
    unfold v1
    apply modLp_keeps
    · exact Sub.up (by decide) hW
    · with_reducible assumption
  clear_value v1
  apply sendFlit_keeps
  · exact Sub.up (by decide) hW
  · apply count_keeps
    · exact Sub.up (by decide) hW
    · with_reducible assumption

theorem sendPayload_keeps {W : Nat} {z : State} (s : State) (p : ℕ) (hW : Sub 67126788 W) (h_s : Keeps W z s) :
    Keeps W z (sendPayload s p) := by
  unfold sendPayload
  extract_lets v0 v1 v2 v3 v4 v5 v6
  clear_value v0
  clear_value v1
  clear_value v2
  have h7 : Keeps W z v3 := by
    unfold v3
    apply setLp_keeps
    · exact Sub.up (by decide) hW
    · with_reducible assumption
  clear_value v3
  clear_value v4
  have h8 : Keeps W z v5 := by
    unfold v5
    refine Keeps.congr (s := v3) ?_ rfl rfl rfl rfl rfl rfl kept kept kept kept kept kept kept kept kept kept kept
        (hW.chg rfl) kept kept kept kept kept kept kept kept kept kept
    with_reducible assumption
  clear_value v5
  have h9 : Keeps W z v6 := by
    unfold v6
    refine foldl_keeps (P := Keeps W z) ?_ ?_
    · with_reducible assumption
    · intro y10 y11 y12
      apply unchargeBacklog_keeps
      · exact Sub.up (by decide) hW
      · with_reducible assumption
  clear_value v6
  apply sendFlit_keeps
  · exact Sub.up (by decide) hW
  · with_reducible assumption

theorem execFlitTransmit_keeps {W : Nat} {z : State} (port : ℕ) (s : State) (hW : Sub 100685572 W) (h_s : Keeps W z
    s) :
    KeepsRes W z (execFlitTransmit port s) := by
  unfold execFlitTransmit
  extract_lets v0 v1 v2 v3 v4 v5
  clear_value v0
  clear_value v1
  clear_value v2
  clear_value v3
  clear_value v4
  have h6 : Keeps W z v5 := by
    unfold v5
    split
    · apply count_keeps
      · exact Sub.up (by decide) hW
      · with_reducible assumption
    · with_reducible assumption
  clear_value v5
  split
  · with_reducible assumption
  · split
    · change Keeps W z _
      apply exitPower_keeps
      · exact Sub.up (by decide) hW
      · with_reducible assumption
    · split
      · with_reducible assumption
      · split
        · change Keeps W z _
          apply sendControl_keeps
          · exact Sub.up (by decide) hW
          · with_reducible assumption
        · split
          · change Keeps W z _
            apply sendReplay_keeps
            · exact Sub.up (by decide) hW
            · with_reducible assumption
          · split
            · split
              · change Keeps W z _
                apply sendPayload_keeps
                · exact Sub.up (by decide) hW
                · with_reducible assumption
              · change Keeps W z _
                apply sendFlit_keeps
                · exact Sub.up (by decide) hW
                · apply count_keeps
                  · exact Sub.up (by decide) hW
                  · with_reducible assumption
            · change Keeps W z _
              apply sendFlit_keeps
              · exact Sub.up (by decide) hW
              · with_reducible assumption

theorem execFoldSummary_keeps {W : Nat} {z : State} (s : State) (hW : Sub 67150852 W) (h_s : Keeps W z s) :
    KeepsRes W z (execFoldSummary s) := by
  unfold execFoldSummary
  extract_lets v0 v1 v2
  clear_value v0
  clear_value v1
  have h3 : Keeps W z v2 := by
    unfold v2
    refine Keeps.congr (s := s) ?_ rfl rfl rfl rfl rfl rfl kept kept kept kept kept kept kept kept kept kept (hW.chg
        rfl) kept kept kept kept kept kept kept kept kept kept kept
    with_reducible assumption
  clear_value v2
  change Keeps W z _
  refine foldl_keeps (P := Keeps W z) ?_ ?_
  · with_reducible assumption
  · intro y4 y5 y6
    refine foldl_keeps (P := Keeps W z) ?_ ?_
    · with_reducible assumption
    · intro y7 y8 y9
      apply putRecord_keeps
      · with_reducible assumption
      · with_reducible assumption

theorem execFrameAuditDone_keeps {W : Nat} {z : State} (s : State) (hW : Sub 2098180 W) (h_s : Keeps W z s) :
    KeepsRes W z (execFrameAuditDone s) := by
  unfold execFrameAuditDone
  apply guarded_keeps
  · with_reducible assumption
  · intro y0 y1
    extract_lets v2 v3 v4 v5
    clear_value v2
    have h6 : Keeps W z v3 := by
      unfold v3
      apply modPair_keeps
      · exact Sub.up (by decide) hW
      · with_reducible assumption
    clear_value v3
    clear_value v4
    have h7 : Keeps W z v5 := by
      unfold v5
      refine Keeps.congr (s := v3) ?_ rfl rfl rfl rfl rfl rfl kept kept kept kept kept kept kept (hW.chg rfl) kept
          kept kept kept kept kept kept kept kept kept kept kept kept kept
      with_reducible assumption
    clear_value v5
    apply wr_keeps
    · exact Sub.up (by decide) hW
    · with_reducible assumption

theorem execFrameLockLoss_keeps {W : Nat} {z : State} (port : ℕ) (s : State) (hW : Sub 20740 W) (h_s : Keeps W z s) :
    KeepsRes W z (execFrameLockLoss port s) := by
  unfold execFrameLockLoss
  apply guarded_keeps
  · with_reducible assumption
  · intro y0 y1
    apply retrain_keeps
    · with_reducible assumption
    · with_reducible assumption

theorem regionCmd_keeps {W : Nat} {z : State} (s : State) (h : ℕ) (op : ℕ) (f : State → Op → ℕ → Region → State) (hW
    : Sub 107347828 W) (h_s : Keeps W z s) (h_f : ∀ q1 q2 q3 q4, Keeps W z q1 → Keeps W z (f q1 q2 q3 q4)) :
    KeepsRes W z (regionCmd s h op f) := by
  unfold regionCmd
  apply allocCmd_keeps
  · exact Sub.up (by decide) hW
  · with_reducible assumption
  · intro y0 y1 y2
    extract_lets v3
    clear_value v3
    split
    · split
      · apply allocEnd_keeps
        · with_reducible assumption
        · with_reducible assumption
      · apply h_f
        with_reducible assumption
    · apply allocEnd_keeps
      · with_reducible assumption
      · with_reducible assumption

theorem execFree_keeps {W : Nat} {z : State} (h : ℕ) (s : State) (hW : Sub 107347828 W) (h_s : Keeps W z s) :
    KeepsRes W z (execFree h s) := by
  unfold execFree
  apply regionCmd_keeps
  · with_reducible assumption
  · with_reducible assumption
  · intro y0 y1 y2 y3 y4
    extract_lets v5 v6 v7 v8
    clear_value v5
    have h9 : Keeps W z v6 := by
      unfold v6
      refine Keeps.congr (s := y0) ?_ rfl rfl rfl rfl rfl rfl kept kept kept kept kept kept kept kept (hW.chg rfl)
          kept kept kept kept kept kept kept kept kept kept kept kept kept
      with_reducible assumption
    clear_value v6
    have h10 : Keeps W z v7 := by
      unfold v7
      apply setRegion_keeps
      · exact Sub.up (by decide) hW
      · with_reducible assumption
    clear_value v7
    have h11 : Keeps W z v8 := by
      unfold v8
      apply retryTier_keeps
      · with_reducible assumption
      · apply abandonFreed_keeps
        · exact Sub.up (by decide) hW
        · with_reducible assumption
    clear_value v8
    apply modOp_keeps
    · exact Sub.up (by decide) hW
    · apply leaveQueue_keeps
      · exact Sub.up (by decide) hW
      · with_reducible assumption

theorem invalidatePas_keeps {W : Nat} {z : State} (s : State) (base : ℕ) (pages : ℕ) (hW : Sub 2176 W) (h_s : Keeps W
    z s) :
    Keeps W z (invalidatePas s base pages) := by
  unfold invalidatePas
  extract_lets v0 v1 v2
  clear_value v0
  clear_value v1
  clear_value v2
  refine Keeps.congr (s := s) ?_ rfl rfl rfl rfl rfl rfl kept kept kept kept (hW.chg rfl) kept kept kept (hW.chg rfl)
      kept kept kept kept kept kept kept kept kept kept kept kept kept
  with_reducible assumption

theorem releasePages_keeps {W : Nat} {z : State} (s : State) (base : ℕ) (pages : ℕ) (hW : Sub 100926580 W) (h_s :
    Keeps W z s) :
    KeepsFst W z (releasePages s base pages) := by
  unfold releasePages
  extract_lets v0 v1 v2
  have h3 : Keeps W z v0 := by
    unfold v0
    refine foldl_keeps (P := Keeps W z) ?_ ?_
    · with_reducible assumption
    · intro y4 y5 y6
      apply dropSub_keeps
      · with_reducible assumption
      · with_reducible assumption
  clear_value v0
  clear_value v1
  clear_value v2
  change Keeps W z _
  dsimp only
  refine foldl_keeps (P := Keeps W z) ?_ ?_
  · with_reducible assumption
  · intro y7 y8 y9
    apply setPage_keeps
    · exact Sub.up (by decide) hW
    · with_reducible assumption

theorem pinRelease_keeps {W : Nat} {z : State} (s : State) (dom : ℕ) (residency : ℕ) (n : ℕ) (hW : Sub 64 W) (h_s :
    Keeps W z s) :
    Keeps W z (pinRelease s dom residency n) := by
  unfold pinRelease
  split
  · apply chargeSub_keeps
    · with_reducible assumption
    · with_reducible assumption
  · apply chargeSub_keeps
    · with_reducible assumption
    · with_reducible assumption
  · with_reducible assumption

theorem removeRegion_keeps {W : Nat} {z : State} (s : State) (idx : ℕ) (r : Region) (hW : Sub 100928756 W) (h_s :
    Keeps W z s) :
    Keeps W z (removeRegion s idx r) := by
  unfold removeRegion
  extract_lets v0 v1 v2
  have h3 : Keeps W z v0 := by
    unfold v0
    refine foldl_keeps (P := Keeps W z) ?_ ?_
    · with_reducible assumption
    · intro y4 y5 y6
      apply dropStaging_keeps
      · exact Sub.up (by decide) hW
      · with_reducible assumption
  clear_value v0
  have h7 : Keeps W z v1 := by
    unfold v1
    refine foldl_keeps (P := Keeps W z) ?_ ?_
    · with_reducible assumption
    · intro y8 y9 y10
      apply dropOld_keeps
      · exact Sub.up (by decide) hW
      · with_reducible assumption
  clear_value v1
  have h11 : Keeps W z v2 := by
    unfold v2
    apply invalidatePas_keeps
    · exact Sub.up (by decide) hW
    · with_reducible assumption
  clear_value v2
  split
  rename_i x12 x13 x14 x15
  have k16 := keeps_eq x15 (P := KeepsFst W z) (by
    apply releasePages_keeps
    · exact Sub.up (by decide) hW
    · with_reducible assumption
    )
  extract_lets v17 v18 v19 v20
  clear_value v17
  clear_value v18
  have h21 : Keeps W z v19 := by
    unfold v19
    refine Keeps.congr (s := x13) ?_ rfl rfl rfl rfl rfl rfl kept kept kept (hW.chg rfl) kept kept kept kept kept
        kept kept kept kept kept kept kept kept kept kept kept kept kept
    with_reducible assumption
  clear_value v19
  have h22 : Keeps W z v20 := by
    unfold v20
    apply chargeSub_keeps
    · exact Sub.up (by decide) hW
    · apply chargeSub_keeps
      · exact Sub.up (by decide) hW
      · apply chargeSub_keeps
        · exact Sub.up (by decide) hW
        · with_reducible assumption
  clear_value v20
  apply pinRelease_keeps
  · exact Sub.up (by decide) hW
  · with_reducible assumption

theorem execFreeComplete_keeps {W : Nat} {z : State} (h : ℕ) (s : State) (hW : Sub 107347956 W) (h_s : Keeps W z s) :
    KeepsRes W z (execFreeComplete h s) := by
  unfold execFreeComplete
  split
  · with_reducible assumption
  · extract_lets v5
    clear_value v5
    split
    · with_reducible assumption
    · split
      · with_reducible assumption
      · extract_lets v13 v14
        have h15 : Keeps W z v13 := by
          unfold v13
          apply recallLines_keeps
          · exact Sub.up (by decide) hW
          · with_reducible assumption
        clear_value v13
        have h16 : Keeps W z v14 := by
          unfold v14
          apply retryPromotes_keeps
          · exact Sub.up (by decide) hW
          · apply removeRegion_keeps
            · exact Sub.up (by decide) hW
            · with_reducible assumption
        clear_value v14
        split
        · with_reducible assumption
        · change Keeps W z _
          apply endOp_keeps
          · exact Sub.up (by decide) hW
          · apply gauge_keeps
            · exact Sub.up (by decide) hW
            · with_reducible assumption

theorem execGateCycleStart_keeps {W : Nat} {z : State} (port : ℕ) (s : State) (hW : Sub 516 W) (h_s : Keeps W z s) :
    KeepsRes W z (execGateCycleStart port s) := by
  unfold execGateCycleStart
  extract_lets v0 v1
  clear_value v0
  have h2 : Keeps W z v1 := by
    unfold v1
    apply wb_keeps
    · exact Sub.up (by decide) hW
    · with_reducible assumption
  clear_value v1
  change Keeps W z _
  apply setGate_keeps
  · exact Sub.up (by decide) hW
  · with_reducible assumption

theorem execGateWindowBoundary_keeps {W : Nat} {z : State} (port : ℕ) (s : State) (hW : Sub 512 W) (h_s : Keeps W z
    s) :
    KeepsRes W z (execGateWindowBoundary port s) := by
  unfold execGateWindowBoundary
  extract_lets v0
  clear_value v0
  apply guarded_keeps
  · with_reducible assumption
  · intro y1 y2
    apply setGate_keeps
    · with_reducible assumption
    · with_reducible assumption

theorem setStage_keeps {W : Nat} {z : State} (s : State) (via : ℕ) (n : ℕ) (hW : Sub 131072 W) (h_s : Keeps W z s) :
    Keeps W z (setStage s via n) := by
  unfold setStage
  refine Keeps.congr (s := s) ?_ rfl rfl rfl rfl rfl rfl kept kept kept kept kept kept kept kept kept kept kept kept
      kept kept (hW.chg rfl) kept kept kept kept kept kept kept
  with_reducible assumption

theorem execGetCapabilities_keeps {W : Nat} {z : State} (via : ℕ) (s : State) (hW : Sub 67240960 W) (h_s : Keeps W z
    s) :
    KeepsRes W z (execGetCapabilities via s) := by
  unfold execGetCapabilities
  apply spdmAfter_keeps
  · exact Sub.up (by decide) hW
  · with_reducible assumption
  · intro y0 y1
    apply spdmReply_keeps
    · exact Sub.up (by decide) hW
    · apply setStage_keeps
      · exact Sub.up (by decide) hW
      · with_reducible assumption

theorem execGetCertificate_keeps {W : Nat} {z : State} (via : ℕ) (slot : ℕ) (offset : ℕ) (len : ℕ) (s : State) (hW :
    Sub 67109888 W) (h_s : Keeps W z s) :
    KeepsRes W z (execGetCertificate via slot offset len s) := by
  unfold execGetCertificate
  apply spdmAfter_keeps
  · with_reducible assumption
  · with_reducible assumption
  · intro y0 y1
    extract_lets v2 v3
    clear_value v2
    clear_value v3
    split
    · apply spdmError_keeps
      · with_reducible assumption
      · with_reducible assumption
    · apply spdmReply_keeps
      · with_reducible assumption
      · with_reducible assumption

theorem execGetDigests_keeps {W : Nat} {z : State} (via : ℕ) (s : State) (hW : Sub 67109888 W) (h_s : Keeps W z s) :
    KeepsRes W z (execGetDigests via s) := by
  unfold execGetDigests
  apply spdmAfter_keeps
  · with_reducible assumption
  · with_reducible assumption
  · intro y0 y1
    apply spdmReply_keeps
    · with_reducible assumption
    · with_reducible assumption

theorem execGetEventInterruptPolicy_keeps {W : Nat} {z : State} (s : State) (hW : Sub 67142656 W) (h_s : Keeps W z s)
    :
    KeepsRes W z (execGetEventInterruptPolicy s) := by
  unfold execGetEventInterruptPolicy
  apply mailbox_keeps
  · exact Sub.up (by decide) hW
  · with_reducible assumption
  · intro y0 y1
    apply mbReply_keeps
    · with_reducible assumption
    · with_reducible assumption

theorem execGetEventRecords_keeps {W : Nat} {z : State} (log : ℕ) (s : State) (hW : Sub 67142656 W) (h_s : Keeps W z
    s) :
    KeepsRes W z (execGetEventRecords log s) := by
  unfold execGetEventRecords
  apply mailbox_keeps
  · exact Sub.up (by decide) hW
  · with_reducible assumption
  · intro y0 y1
    split
    · apply mbReply_keeps
      · with_reducible assumption
      · with_reducible assumption
    · extract_lets v4
      clear_value v4
      apply mbReply_keeps
      · with_reducible assumption
      · with_reducible assumption

theorem execGetFirmwareParameters_keeps {W : Nat} {z : State} (s : State) (hW : Sub 67109888 W) (h_s : Keeps W z s) :
    KeepsRes W z (execGetFirmwareParameters s) := by
  unfold execGetFirmwareParameters
  change Keeps W z _
  apply pldmReply_keeps
  · with_reducible assumption
  · with_reducible assumption

theorem execGetFwInfo_keeps {W : Nat} {z : State} (s : State) (hW : Sub 67142656 W) (h_s : Keeps W z s) :
    KeepsRes W z (execGetFwInfo s) := by
  unfold execGetFwInfo
  apply mailbox_keeps
  · exact Sub.up (by decide) hW
  · with_reducible assumption
  · intro y0 y1
    extract_lets v2
    clear_value v2
    apply mbReply_keeps
    · with_reducible assumption
    · with_reducible assumption

theorem execGetHealthInfo_keeps {W : Nat} {z : State} (s : State) (hW : Sub 67142658 W) (h_s : Keeps W z s) :
    KeepsRes W z (execGetHealthInfo s) := by
  unfold execGetHealthInfo
  apply mailbox_keeps
  · exact Sub.up (by decide) hW
  · with_reducible assumption
  · intro y0 y1
    split
    rename_i x2 x3 x4 x5
    have k6 := keeps_eq x5 (P := KeepsSnd W z) (by
      apply drawFree_keeps
      · exact Sub.up (by decide) hW
      · with_reducible assumption
      )
    apply mbReply_keeps
    · exact Sub.up (by decide) hW
    · with_reducible assumption

theorem execGetLog_keeps {W : Nat} {z : State} (uuid : BitVec 128) (offset : ℕ) (len : ℕ) (s : State) (hW : Sub
    67142656 W) (h_s : Keeps W z s) :
    KeepsRes W z (execGetLog uuid offset len s) := by
  unfold execGetLog
  apply mailbox_keeps
  · exact Sub.up (by decide) hW
  · with_reducible assumption
  · intro y0 y1
    split
    · apply mbReply_keeps
      · with_reducible assumption
      · with_reducible assumption
    · apply mbReply_keeps
      · with_reducible assumption
      · with_reducible assumption

theorem execGetMeasurements_keeps {W : Nat} {z : State} (via : ℕ) (index : ℕ) (nonce : Option (BitVec 256)) (s :
    State) (hW : Sub 67109890 W) (h_s : Keeps W z s) :
    KeepsRes W z (execGetMeasurements via index nonce s) := by
  unfold execGetMeasurements
  apply spdmAfter_keeps
  · exact Sub.up (by decide) hW
  · with_reducible assumption
  · intro y0 y1
    extract_lets v2 v3 v4
    clear_value v2
    clear_value v3
    clear_value v4
    split
    · apply spdmError_keeps
      · exact Sub.up (by decide) hW
      · with_reducible assumption
    · split
      · apply spdmReply_keeps
        · exact Sub.up (by decide) hW
        · with_reducible assumption
      · split
        rename_i x10 x11 x12 x13
        have k14 := keeps_eq x13 (P := KeepsSnd W z) (by
          apply drawRandom_keeps
          · exact Sub.up (by decide) hW
          · with_reducible assumption
          )
        extract_lets v15
        clear_value v15
        apply spdmReply_keeps
        · exact Sub.up (by decide) hW
        · with_reducible assumption

theorem execGetPartitionInfo_keeps {W : Nat} {z : State} (s : State) (hW : Sub 67142656 W) (h_s : Keeps W z s) :
    KeepsRes W z (execGetPartitionInfo s) := by
  unfold execGetPartitionInfo
  apply mailbox_keeps
  · exact Sub.up (by decide) hW
  · with_reducible assumption
  · intro y0 y1
    apply mbReply_keeps
    · with_reducible assumption
    · with_reducible assumption

theorem sideband_keeps {W : Nat} {z : State} (s : State) (f : State → State) (hW : Sub 0 W) (h_s : Keeps W z s) (h_f
    : ∀ q1, Keeps W z q1 → Keeps W z (f q1)) :
    KeepsRes W z (sideband s f) := by
  unfold sideband
  apply guarded_keeps
  · with_reducible assumption
  · intro y0 y1
    apply h_f
    with_reducible assumption

theorem pldmAnswer_keeps {W : Nat} {z : State} (s : State) (code : ℕ) (words : List ℕ) (hW : Sub 67109888 W) (h_s :
    Keeps W z s) :
    Keeps W z (pldmAnswer s code words) := by
  unfold pldmAnswer
  apply put_keeps
  · with_reducible assumption
  · with_reducible assumption

theorem execGetPdr_keeps {W : Nat} {z : State} (record : ℕ) (s : State) (hW : Sub 67109888 W) (h_s : Keeps W z s) :
    KeepsRes W z (execGetPdr record s) := by
  unfold execGetPdr
  apply sideband_keeps
  · exact Sub.up (by decide) hW
  · with_reducible assumption
  · intro y0 y1
    extract_lets v2
    clear_value v2
    split
    · apply pldmAnswer_keeps
      · with_reducible assumption
      · with_reducible assumption
    · apply pldmAnswer_keeps
      · with_reducible assumption
      · with_reducible assumption

theorem execGetSensorReading_keeps {W : Nat} {z : State} (sensor : ℕ) (s : State) (hW : Sub 67109888 W) (h_s : Keeps
    W z s) :
    KeepsRes W z (execGetSensorReading sensor s) := by
  unfold execGetSensorReading
  apply sideband_keeps
  · exact Sub.up (by decide) hW
  · with_reducible assumption
  · intro y0 y1
    split
    · apply pldmAnswer_keeps
      · with_reducible assumption
      · with_reducible assumption
    · apply pldmAnswer_keeps
      · with_reducible assumption
      · with_reducible assumption

theorem execGetStateSensorReadings_keeps {W : Nat} {z : State} (sensor : ℕ) (s : State) (hW : Sub 67109888 W) (h_s :
    Keeps W z s) :
    KeepsRes W z (execGetStateSensorReadings sensor s) := by
  unfold execGetStateSensorReadings
  apply sideband_keeps
  · exact Sub.up (by decide) hW
  · with_reducible assumption
  · intro y0 y1
    split
    · apply pldmAnswer_keeps
      · with_reducible assumption
      · with_reducible assumption
    · apply pldmAnswer_keeps
      · with_reducible assumption
      · with_reducible assumption

theorem execGetStatus_keeps {W : Nat} {z : State} (s : State) (hW : Sub 67109888 W) (h_s : Keeps W z s) :
    KeepsRes W z (execGetStatus s) := by
  unfold execGetStatus
  change Keeps W z _
  apply pldmReply_keeps
  · with_reducible assumption
  · with_reducible assumption

theorem execGetSupportedLogs_keeps {W : Nat} {z : State} (s : State) (hW : Sub 67142656 W) (h_s : Keeps W z s) :
    KeepsRes W z (execGetSupportedLogs s) := by
  unfold execGetSupportedLogs
  apply mailbox_keeps
  · exact Sub.up (by decide) hW
  · with_reducible assumption
  · intro y0 y1
    apply mbReply_keeps
    · with_reducible assumption
    · with_reducible assumption

theorem execGetTimestamp_keeps {W : Nat} {z : State} (s : State) (hW : Sub 67142656 W) (h_s : Keeps W z s) :
    KeepsRes W z (execGetTimestamp s) := by
  unfold execGetTimestamp
  apply mailbox_keeps
  · exact Sub.up (by decide) hW
  · with_reducible assumption
  · intro y0 y1
    apply mbReply_keeps
    · with_reducible assumption
    · with_reducible assumption

theorem execGetVersion_keeps {W : Nat} {z : State} (via : ℕ) (s : State) (hW : Sub 67240960 W) (h_s : Keeps W z s) :
    KeepsRes W z (execGetVersion via s) := by
  unfold execGetVersion
  change Keeps W z _
  apply spdmReply_keeps
  · exact Sub.up (by decide) hW
  · apply setStage_keeps
    · exact Sub.up (by decide) hW
    · with_reducible assumption

theorem takeRunnel_keeps {W : Nat} {z : State} (s : State) (m : RunMsg) (hW : Sub 16384 W) (h_s : Keeps W z s) :
    KeepsOpt W z (takeRunnel s m) := by
  unfold takeRunnel
  unfold List.findSome?
  split
  · rename_i x0 x1 x2
    have k3 := keeps_eq x2 (P := KeepsOpt W z) (by
      unfold Option.bind
      split
      · exact trivial
      · beta_reduce
        apply popRx_keeps
        · with_reducible assumption
        · with_reducible assumption
      )
    with_reducible assumption
  · rename_i x11 x12
    have k13 := keeps_eq x12 (P := KeepsOpt W z) (by
      unfold Option.bind
      split
      · exact trivial
      · beta_reduce
        apply popRx_keeps
        · with_reducible assumption
        · with_reducible assumption
      )
    unfold List.findSome?
    split
    · rename_i x21 x22 x23
      have k24 := keeps_eq x23 (P := KeepsOpt W z) (by
        unfold Option.bind
        split
        · with_reducible assumption
        · beta_reduce
          apply popRx_keeps
          · with_reducible assumption
          · with_reducible assumption
        )
      with_reducible assumption
    · rename_i x32 x33
      have k34 := keeps_eq x33 (P := KeepsOpt W z) (by
        unfold Option.bind
        split
        · with_reducible assumption
        · beta_reduce
          apply popRx_keeps
          · with_reducible assumption
          · with_reducible assumption
        )
      unfold List.findSome?
      with_reducible assumption

theorem onRunnel_keeps {W : Nat} {z : State} (s : State) (m : RunMsg) (f : State → State) (hW : Sub 16384 W) (h_s :
    Keeps W z s) (h_f : ∀ q1, Keeps W z q1 → Keeps W z (f q1)) :
    KeepsRes W z (onRunnel s m f) := by
  unfold onRunnel
  split
  · rename_i x0 x1
    have k2 := keeps_eq x1 (P := KeepsOpt W z) (by
      apply takeRunnel_keeps
      · with_reducible assumption
      · with_reducible assumption
      )
    with_reducible assumption
  · rename_i x3 x4 x5
    have k6 := keeps_eq x5 (P := KeepsOpt W z) (by
      apply takeRunnel_keeps
      · with_reducible assumption
      · with_reducible assumption
      )
    change Keeps W z _
    apply h_f
    with_reducible assumption

theorem execHandoverDone_keeps {W : Nat} {z : State} (s : State) (hW : Sub 16384 W) (h_s : Keeps W z s) :
    KeepsRes W z (execHandoverDone s) := by
  unfold execHandoverDone
  apply onRunnel_keeps
  · with_reducible assumption
  · with_reducible assumption
  · intro y0 y1
    unfold id
    with_reducible assumption

theorem tileBound_keeps {W : Nat} {z : State} (s : State) (h : ℕ) (o : Op) (t : Tile) (hW : Sub 107064836 W) (h_s :
    Keeps W z s) :
    Keeps W z (tileBound s h o t) := by
  unfold tileBound
  split
  · with_reducible assumption
  · extract_lets v2
    have h3 : Keeps W z v2 := by
      unfold v2
      split
      · apply modOp_keeps
        · exact Sub.up (by decide) hW
        · with_reducible assumption
      · with_reducible assumption
    clear_value v2
    apply boundReport_keeps
    · exact Sub.up (by decide) hW
    · with_reducible assumption

theorem suspectTile_keeps {W : Nat} {z : State} (s : State) (h : ℕ) (eng : ℕ) (hW : Sub 107064836 W) (h_s : Keeps W z
    s) :
    Keeps W z (suspectTile s h eng) := by
  unfold suspectTile
  extract_lets v0 v1
  have h2 : Keeps W z v0 := by
    unfold v0
    apply modOp_keeps
    · exact Sub.up (by decide) hW
    · apply count_keeps
      · exact Sub.up (by decide) hW
      · with_reducible assumption
  clear_value v0
  have h3 : Keeps W z v1 := by
    unfold v1
    apply event_keeps
    · exact Sub.up (by decide) hW
    · with_reducible assumption
  clear_value v1
  split
  · with_reducible assumption
  · split
    · apply undeal_keeps
      · exact Sub.up (by decide) hW
      · apply modOp_keeps
        · exact Sub.up (by decide) hW
        · with_reducible assumption
    · split
      · apply beginSuspend_keeps
        · exact Sub.up (by decide) hW
        · with_reducible assumption
      · with_reducible assumption
    · with_reducible assumption

theorem publishDone_keeps {W : Nat} {z : State} (s : State) (o : Op) (hW : Sub 107085316 W) (h_s : Keeps W z s) :
    Keeps W z (publishDone s o) := by
  unfold publishDone
  extract_lets v0
  clear_value v0
  split
  · refine foldl_keeps (P := Keeps W z) ?_ ?_
    · with_reducible assumption
    · intro y2 y3 y4
      apply emit_keeps
      · with_reducible assumption
      · with_reducible assumption
  · with_reducible assumption

theorem tileDone_keeps {W : Nat} {z : State} (s : State) (h : ℕ) (o : Op) (t : Tile) (hW : Sub 107347828 W) (h_s :
    Keeps W z s) :
    Keeps W z (tileDone s h o t) := by
  unfold tileDone
  extract_lets v0 v1 v2 v3 v4 v5 v6 v7 v8 v9 v10 v11 v12 v13
  clear_value v0
  have h14 : Keeps W z v1 := by
    unfold v1
    apply arrivalClose_keeps
    · exact Sub.up (by decide) hW
    · with_reducible assumption
  clear_value v1
  clear_value v2
  have h15 : Keeps W z v3 := by
    unfold v3
    refine Keeps.congr (s := v1) ?_ rfl rfl rfl rfl rfl rfl kept kept kept kept kept kept kept kept (hW.chg rfl) kept
        kept kept kept kept kept kept kept kept kept kept kept kept
    with_reducible assumption
  clear_value v3
  clear_value v4
  clear_value v5
  have h16 : Keeps W z v6 := by
    unfold v6
    apply count_keeps
    · exact Sub.up (by decide) hW
    · apply count_keeps
      · exact Sub.up (by decide) hW
      · apply count_keeps
        · exact Sub.up (by decide) hW
        · with_reducible assumption
  clear_value v6
  have h17 : Keeps W z v7 := by
    unfold v7
    apply count_keeps
    · exact Sub.up (by decide) hW
    · apply count_keeps
      · exact Sub.up (by decide) hW
      · with_reducible assumption
  clear_value v7
  have h18 : Keeps W z v8 := by
    unfold v8
    apply count_keeps
    · exact Sub.up (by decide) hW
    · apply count_keeps
      · exact Sub.up (by decide) hW
      · with_reducible assumption
  clear_value v8
  have h19 : Keeps W z v9 := by
    unfold v9
    split
    · with_reducible assumption
    · apply count_keeps
      · exact Sub.up (by decide) hW
      · with_reducible assumption
  clear_value v9
  have h22 : Keeps W z v10 := by
    unfold v10
    apply modOp_keeps
    · exact Sub.up (by decide) hW
    · with_reducible assumption
  clear_value v10
  have h23 : Keeps W z v11 := by
    unfold v11
    apply tileBound_keeps
    · exact Sub.up (by decide) hW
    · with_reducible assumption
  clear_value v11
  have h24 : Keeps W z v12 := by
    unfold v12
    split
    · apply suspectTile_keeps
      · exact Sub.up (by decide) hW
      · with_reducible assumption
    · with_reducible assumption
  clear_value v12
  have h27 : Keeps W z v13 := by
    unfold v13
    split
    · apply publishDone_keeps
      · exact Sub.up (by decide) hW
      · with_reducible assumption
    · with_reducible assumption
  clear_value v13
  apply settleOp_keeps
  · with_reducible assumption
  · with_reducible assumption

theorem execHandoverDrainTimeout_keeps {W : Nat} {z : State} (s : State) (hW : Sub 107347828 W) (h_s : Keeps W z s) :
    KeepsRes W z (execHandoverDrainTimeout s) := by
  unfold execHandoverDrainTimeout
  apply guarded_keeps
  · with_reducible assumption
  · intro y0 y1
    extract_lets v2 v3 v4 v5 v6 v7 v8
    have h9 : Keeps W z v2 := by
      unfold v2
      refine foldl_keeps (P := Keeps W z) ?_ ?_
      · with_reducible assumption
      · intro y10 y11 y12
        split
        · apply tileDone_keeps
          · with_reducible assumption
          · with_reducible assumption
        · with_reducible assumption
    clear_value v2
    clear_value v3
    have h18 : Keeps W z v4 := by
      unfold v4
      refine foldl_keeps (P := Keeps W z) ?_ ?_
      · with_reducible assumption
      · intro y19 y20 y21
        apply wasteTile_keeps
        · exact Sub.up (by decide) hW
        · with_reducible assumption
    clear_value v4
    clear_value v5
    have h22 : Keeps W z v6 := by
      unfold v6
      refine Keeps.congr (s := v4) ?_ rfl rfl rfl rfl rfl rfl kept kept kept kept kept kept kept kept (hW.chg rfl)
          kept kept kept kept kept kept kept kept kept kept kept kept kept
      with_reducible assumption
    clear_value v6
    have h23 : Keeps W z v7 := by
      unfold v7
      refine foldl_keeps (P := Keeps W z) ?_ ?_
      · with_reducible assumption
      · intro y24 y25 y26
        apply giveBack_keeps
        · exact Sub.up (by decide) hW
        · with_reducible assumption
    clear_value v7
    clear_value v8
    apply sendRunnel_keeps
    · exact Sub.up (by decide) hW
    · apply modPair_keeps
      · exact Sub.up (by decide) hW
      · with_reducible assumption

theorem setClean_keeps {W : Nat} {z : State} (s : State) (n : ℕ) (hW : Sub 4 W) (h_s : Keeps W z s) :
    Keeps W z (setClean s n) := by
  unfold setClean
  apply wf_keeps
  · with_reducible assumption
  · with_reducible assumption

theorem handoverGone_keeps {W : Nat} {z : State} (s : State) (hW : Sub 107347828 W) (h_s : Keeps W z s) :
    Keeps W z (handoverGone s) := by
  unfold handoverGone
  extract_lets v0 v1 v2 v3
  have h4 : Keeps W z v0 := by
    unfold v0
    apply drivesTaken_keeps
    · exact Sub.up (by decide) hW
    · apply modPair_keeps
      · exact Sub.up (by decide) hW
      · apply pairAlone_keeps
        · exact Sub.up (by decide) hW
        · apply setPair_keeps
          · exact Sub.up (by decide) hW
          · apply voidAll_keeps
            · exact Sub.up (by decide) hW
            · with_reducible assumption
  clear_value v0
  have h5 : Keeps W z v1 := by
    unfold v1
    apply setClean_keeps
    · exact Sub.up (by decide) hW
    · apply wf_keeps
      · exact Sub.up (by decide) hW
      · with_reducible assumption
  clear_value v1
  clear_value v2
  have h6 : Keeps W z v3 := by
    unfold v3
    refine Keeps.congr (s := v1) ?_ rfl rfl rfl rfl rfl rfl kept kept kept kept kept (hW.chg rfl) kept kept kept kept
        kept kept kept kept kept kept kept kept kept kept kept kept
    with_reducible assumption
  clear_value v3
  apply portsFollow_keeps
  · with_reducible assumption
  · apply sendRunnel_keeps
    · exact Sub.up (by decide) hW
    · apply dropRunnel_keeps
      · exact Sub.up (by decide) hW
      · with_reducible assumption

theorem handoverTaken_keeps {W : Nat} {z : State} (s : State) (hW : Sub 107347828 W) (h_s : Keeps W z s) :
    Keeps W z (handoverTaken s) := by
  unfold handoverTaken
  extract_lets v0 v1 v2
  have h3 : Keeps W z v0 := by
    unfold v0
    apply sendRunnel_keeps
    · exact Sub.up (by decide) hW
    · with_reducible assumption
  clear_value v0
  have h4 : Keeps W z v1 := by
    unfold v1
    apply modPair_keeps
    · exact Sub.up (by decide) hW
    · apply setPair_keeps
      · exact Sub.up (by decide) hW
      · with_reducible assumption
  clear_value v1
  have h5 : Keeps W z v2 := by
    unfold v2
    apply setClean_keeps
    · exact Sub.up (by decide) hW
    · apply wf_keeps
      · exact Sub.up (by decide) hW
      · apply wb_keeps
        · exact Sub.up (by decide) hW
        · with_reducible assumption
  clear_value v2
  apply portsFollow_keeps
  · with_reducible assumption
  · apply loseUnmirrored_keeps
    · with_reducible assumption
    · apply preemptDrives_keeps
      · exact Sub.up (by decide) hW
      · with_reducible assumption

theorem execHandoverGo_keeps {W : Nat} {z : State} (received : Bool) (s : State) (hW : Sub 117440508 W) (h_s : Keeps
    W z s) :
    KeepsRes W z (execHandoverGo received s) := by
  unfold execHandoverGo
  split
  · apply onRunnel_keeps
    · exact Sub.up (by decide) hW
    · with_reducible assumption
    · intro y1 y2
      split
      · extract_lets v4
        have h5 : Keeps W z v4 := by
          unfold v4
          apply handoverGone_keeps
          · exact Sub.up (by decide) hW
          · with_reducible assumption
        clear_value v4
        split
        · apply warmGo_keeps
          · with_reducible assumption
          · apply warmBegin_keeps
            · exact Sub.up (by decide) hW
            · with_reducible assumption
        · with_reducible assumption
      · with_reducible assumption
  · apply guarded_keeps
    · with_reducible assumption
    · intro y10 y11
      apply handoverTaken_keeps
      · exact Sub.up (by decide) hW
      · with_reducible assumption

theorem returnReady_keeps {W : Nat} {z : State} (s : State) (hW : Sub 35652096 W) (h_s : Keeps W z s) :
    Keeps W z (returnReady s) := by
  unfold returnReady
  split
  · apply sendRunnel_keeps
    · with_reducible assumption
    · with_reducible assumption
  · with_reducible assumption

theorem startReturn_keeps {W : Nat} {z : State} (s : State) (hW : Sub 107347828 W) (h_s : Keeps W z s) :
    Keeps W z (startReturn s) := by
  unfold startReturn
  apply returnReady_keeps
  · exact Sub.up (by decide) hW
  · apply servicePorts_keeps
    · with_reducible assumption
    · apply modPair_keeps
      · exact Sub.up (by decide) hW
      · with_reducible assumption

theorem execHandoverReq_keeps {W : Nat} {z : State} (s : State) (hW : Sub 107347828 W) (h_s : Keeps W z s) :
    KeepsRes W z (execHandoverReq s) := by
  unfold execHandoverReq
  apply onRunnel_keeps
  · exact Sub.up (by decide) hW
  · with_reducible assumption
  · intro y0 y1
    split
    · split
      · with_reducible assumption
      · apply startPause_keeps
        · exact Sub.up (by decide) hW
        · with_reducible assumption
    · split
      · apply startReturn_keeps
        · with_reducible assumption
        · with_reducible assumption
      · with_reducible assumption

theorem execHdmDecoderCommit_keeps {W : Nat} {z : State} (dec : ℕ) (base : ℕ) (size : ℕ) (dpa : ℕ) (ways : Option ℕ)
    (s : State) (hW : Sub 67142660 W) (h_s : Keeps W z s) :
    KeepsRes W z (execHdmDecoderCommit dec base size dpa ways s) := by
  unfold execHdmDecoderCommit
  extract_lets v0 v1
  clear_value v0
  clear_value v1
  apply guarded_keeps
  · with_reducible assumption
  · intro y2 y3
    split
    split
    · apply wb_keeps
      · exact Sub.up (by decide) hW
      · refine Keeps.congr (s := y2) ?_ rfl rfl rfl rfl rfl rfl kept kept kept kept kept kept kept kept kept kept
            kept kept (hW.chg rfl) kept kept kept kept kept kept kept kept kept
        with_reducible assumption
    · split
      · with_reducible assumption
      · split
        · apply put_keeps
          · exact Sub.up (by decide) hW
          · with_reducible assumption
        · extract_lets v15 v16
          clear_value v15
          have h17 : Keeps W z v16 := by
            unfold v16
            refine Keeps.congr (s := y2) ?_ rfl rfl rfl rfl rfl rfl kept kept kept kept kept kept kept kept kept kept
                kept kept (hW.chg rfl) kept kept kept kept kept kept kept kept kept
            with_reducible assumption
          clear_value v16
          apply put_keeps
          · exact Sub.up (by decide) hW
          · apply wb_keeps
            · exact Sub.up (by decide) hW
            · with_reducible assumption

theorem execHealth_keeps {W : Nat} {z : State} (seq : ℕ) (clean : Bool) (fails : BitVec 4) (s : State) (hW : Sub
    16388 W) (h_s : Keeps W z s) :
    KeepsRes W z (execHealth seq clean fails s) := by
  unfold execHealth
  extract_lets v0
  clear_value v0
  apply onRunnel_keeps
  · exact Sub.up (by decide) hW
  · with_reducible assumption
  · intro y1 y2
    split
    · apply setClean_keeps
      · exact Sub.up (by decide) hW
      · apply wr_keeps
        · exact Sub.up (by decide) hW
        · with_reducible assumption
    · with_reducible assumption

theorem execHealthReportMissed_keeps {W : Nat} {z : State} (s : State) (hW : Sub 4 W) (h_s : Keeps W z s) :
    KeepsRes W z (execHealthReportMissed s) := by
  unfold execHealthReportMissed
  apply guarded_keeps
  · with_reducible assumption
  · intro y0 y1
    apply setClean_keeps
    · with_reducible assumption
    · with_reducible assumption

theorem execHealthReportSend_keeps {W : Nat} {z : State} (s : State) (hW : Sub 107347828 W) (h_s : Keeps W z s) :
    KeepsRes W z (execHealthReportSend s) := by
  unfold execHealthReportSend
  apply guarded_keeps
  · with_reducible assumption
  · intro y0 y1
    extract_lets v2 v3 v4 v5 v6 v7 v8
    clear_value v2
    clear_value v3
    clear_value v4
    clear_value v5
    have h9 : Keeps W z v6 := by
      unfold v6
      apply sendRunnel_keeps
      · exact Sub.up (by decide) hW
      · apply wr_keeps
        · exact Sub.up (by decide) hW
        · with_reducible assumption
    clear_value v6
    have h10 : Keeps W z v7 := by
      unfold v7
      apply modPair_keeps
      · exact Sub.up (by decide) hW
      · with_reducible assumption
    clear_value v7
    have h11 : Keeps W z v8 := by
      unfold v8
      apply setClean_keeps
      · exact Sub.up (by decide) hW
      · with_reducible assumption
    clear_value v8
    split
    · apply startReturn_keeps
      · with_reducible assumption
      · with_reducible assumption
    · with_reducible assumption

theorem takeBeat_keeps {W : Nat} {z : State} (s : State) (hb : Heartbeat) (hW : Sub 16384 W) (h : Keeps W z s) :
    KeepsOptSnd W z (takeBeat s hb) := by
  have one (l : List Nat) (g : Nat → Option (Nat × State)) (hg : ∀ p, KeepsOptSnd W z (g p)) :
      KeepsOptSnd W z (l.findSome? g) := by
    induction l with
    | nil => trivial
    | cons p l ih =>
      rw [List.findSome?_cons]
      have k := hg p
      split
      · rename_i e; rw [e] at k; exact k
      · exact ih
  unfold takeBeat
  refine one _ _ fun p => ?_
  generalize List.find? _ _ = o
  cases o with
  | none => trivial
  | some x =>
    have k := popRx_keeps s p x.pkt (Sub.up (by decide) hW) h
    simp only [Option.bind_some]
    cases e : popRx s p x.pkt with
    | none => trivial
    | some t => rw [e] at k; exact k

theorem onBeat_keeps {W : Nat} {z : State} (hb : Heartbeat) (answer : Bool) (s : State) (hW : Sub 107479028 W) (h :
    Keeps W z s) :
    KeepsRes W z (onBeat hb answer s) := by
  have rep (t : State) (f : State → State) (k : Keeps W z t) (hf : ∀ t, Keeps W z t → Keeps W z (f t)) :
      Keeps W z (if (answer && hb.crcOk) = true then f t else t) := by
    split
    · exact hf t k
    · exact k
  unfold onBeat
  refine guarded_keeps h fun t k => ?_
  dsimp only
  split
  · exact rep _ _ (beat_keeps _ _ (Sub.up (by decide) hW) k) fun t k => put_keeps _ _ (Sub.up (by decide) hW) k
  · have k2 := takeBeat_keeps t hb (Sub.up (by decide) hW) k
    split
    · exact k
    · rename_i e
      rw [e] at k2
      exact rep _ (fun s => beatPacket s _ (ownBeat s hb.seq)) (beat_keeps _ _ (Sub.up (by decide) hW) k2)
        fun t k => beatPacket_keeps t _ _ (Sub.up (by decide) hW) k

theorem execHeartbeat_keeps {W : Nat} {z : State} (hb : Heartbeat) (s : State) (hW : Sub 107479028 W) (h_s : Keeps W
    z s) :
    KeepsRes W z (execHeartbeat hb s) := by
  unfold execHeartbeat
  apply onBeat_keeps
  · with_reducible assumption
  · with_reducible assumption

theorem execHeartbeatAnswer_keeps {W : Nat} {z : State} (hb : Heartbeat) (s : State) (hW : Sub 107479028 W) (h_s :
    Keeps W z s) :
    KeepsRes W z (execHeartbeatAnswer hb s) := by
  unfold execHeartbeatAnswer
  apply onBeat_keeps
  · with_reducible assumption
  · with_reducible assumption

theorem execHeartbeatPathLoss_keeps {W : Nat} {z : State} (pathB : Bool) (s : State) (hW : Sub 107479028 W) (h_s :
    Keeps W z s) :
    KeepsRes W z (execHeartbeatPathLoss pathB s) := by
  unfold execHeartbeatPathLoss
  apply guarded_keeps
  · with_reducible assumption
  · intro y0 y1
    extract_lets v2 v3 v4 v5 v6
    have h7 : Keeps W z v2 := by
      unfold v2
      apply wb_keeps
      · exact Sub.up (by decide) hW
      · with_reducible assumption
    clear_value v2
    have h8 : Keeps W z v3 := by
      unfold v3
      apply modPair_keeps
      · exact Sub.up (by decide) hW
      · with_reducible assumption
    clear_value v3
    have h9 : Keeps W z v4 := by
      unfold v4
      apply setClean_keeps
      · exact Sub.up (by decide) hW
      · with_reducible assumption
    clear_value v4
    have h10 : Keeps W z v5 := by
      unfold v5
      apply wb_keeps
      · exact Sub.up (by decide) hW
      · apply wf_keeps
        · exact Sub.up (by decide) hW
        · with_reducible assumption
    clear_value v5
    have h11 : Keeps W z v6 := by
      unfold v6
      apply modPair_keeps
      · exact Sub.up (by decide) hW
      · with_reducible assumption
    clear_value v6
    split
    · apply eventAt_keeps
      · exact Sub.up (by decide) hW
      · with_reducible assumption
    · split
      · apply takeover_keeps
        · with_reducible assumption
        · with_reducible assumption
      · apply portsFollow_keeps
        · exact Sub.up (by decide) hW
        · apply setPair_keeps
          · exact Sub.up (by decide) hW
          · with_reducible assumption
      · apply modPair_keeps
        · exact Sub.up (by decide) hW
        · with_reducible assumption
      · apply modPair_keeps
        · exact Sub.up (by decide) hW
        · with_reducible assumption
      · with_reducible assumption

theorem execHeartbeatSend_keeps {W : Nat} {z : State} (s : State) (hW : Sub 102761984 W) (h_s : Keeps W z s) :
    KeepsRes W z (execHeartbeatSend s) := by
  unfold execHeartbeatSend
  apply guarded_keeps
  · with_reducible assumption
  · intro y0 y1
    extract_lets v2 v3
    clear_value v2
    have h4 : Keeps W z v3 := by
      unfold v3
      apply modPair_keeps
      · exact Sub.up (by decide) hW
      · with_reducible assumption
    clear_value v3
    apply put_keeps
    · exact Sub.up (by decide) hW
    · apply beatPacket_keeps
      · exact Sub.up (by decide) hW
      · apply beatPacket_keeps
        · exact Sub.up (by decide) hW
        · with_reducible assumption

theorem execHoldData_keeps {W : Nat} {z : State} (port : ℕ) (pkt : Packet) (s : State) (hW : Sub 107347828 W) (h_s :
    Keeps W z s) :
    KeepsRes W z (execHoldData port pkt s) := by
  unfold execHoldData
  apply absorb_keeps
  · exact Sub.up (by decide) hW
  · with_reducible assumption
  · intro y0 y1 y2
    split
    · apply strayAnswer_keeps
      · with_reducible assumption
      · with_reducible assumption
    · apply answer_keeps
      · with_reducible assumption
      · with_reducible assumption

theorem execIdentifyMemoryDevice_keeps {W : Nat} {z : State} (s : State) (hW : Sub 67142656 W) (h_s : Keeps W z s) :
    KeepsRes W z (execIdentifyMemoryDevice s) := by
  unfold execIdentifyMemoryDevice
  apply mailbox_keeps
  · exact Sub.up (by decide) hW
  · with_reducible assumption
  · intro y0 y1
    apply mbReply_keeps
    · with_reducible assumption
    · with_reducible assumption

theorem execJtagTapAccess_keeps {W : Nat} {z : State} (instr : ℕ) (s : State) (hW : Sub 67109888 W) (h_s : Keeps W z
    s) :
    KeepsRes W z (execJtagTapAccess instr s) := by
  unfold execJtagTapAccess
  split
  · with_reducible assumption
  · split
    · change Keeps W z _
      apply put_keeps
      · with_reducible assumption
      · with_reducible assumption
    · split
      · change Keeps W z _
        apply put_keeps
        · with_reducible assumption
        · with_reducible assumption
      · split
        · exact trivial
        · with_reducible assumption

theorem execKeyExchange_keeps {W : Nat} {z : State} (via : ℕ) (slot : ℕ) (mutAuth : Bool) (exchange : Bytes) (s :
    State) (hW : Sub 67240962 W) (h_s : Keeps W z s) :
    KeepsRes W z (execKeyExchange via slot mutAuth exchange s) := by
  unfold execKeyExchange
  apply spdmAfter_keeps
  · exact Sub.up (by decide) hW
  · with_reducible assumption
  · intro y0 y1
    split
    · apply spdmError_keeps
      · exact Sub.up (by decide) hW
      · with_reducible assumption
    · split
      · apply spdmError_keeps
        · exact Sub.up (by decide) hW
        · with_reducible assumption
      · extract_lets v6
        clear_value v6
        split
        rename_i x7 x8 x9 x10
        have k11 := keeps_eq x10 (P := KeepsSnd W z) (by
          apply drawRandom_keeps
          · exact Sub.up (by decide) hW
          · with_reducible assumption
          )
        extract_lets v12 v13 v14
        clear_value v12
        have h15 : Keeps W z v13 := by
          unfold v13
          refine Keeps.congr (s := x9) ?_ rfl rfl rfl rfl rfl rfl kept kept kept kept kept kept kept kept kept kept
              kept kept kept kept (hW.chg rfl) kept kept kept kept kept kept kept
          with_reducible assumption
        clear_value v13
        clear_value v14
        apply spdmReply_keeps
        · exact Sub.up (by decide) hW
        · with_reducible assumption

end Sys2Proof.Machine
end

