-- ==== Sys2Proof/Laws/Keeps7.lean ====
section
/-!
SUPPORT. Each operation keeps what Keeps.lean names, part 7: one lemma an operation, in the order of use.
-/
namespace Sys2Proof.Machine

theorem execKeyPartnerInstalled_keeps {W : Nat} {z : State} (slot : ℕ) (s : State) (hW : Sub 131076 W) (h_s : Keeps W
    z s) :
    KeepsRes W z (execKeyPartnerInstalled slot s) := by
  unfold execKeyPartnerInstalled
  split
  · apply guarded_keeps
    · with_reducible assumption
    · intro y3 y4
      apply wb_keeps
      · exact Sub.up (by decide) hW
      · refine Keeps.congr (s := y3) ?_ rfl rfl rfl rfl rfl rfl kept kept kept kept kept kept kept kept kept kept
            kept kept kept kept (hW.chg rfl) kept kept kept kept kept kept kept
        with_reducible assumption
  · with_reducible assumption

theorem execKeyUpdate_keeps {W : Nat} {z : State} (session : ℕ) (keyOp : ℕ) (s : State) (hW : Sub 67240960 W) (h_s :
    Keeps W z s) :
    KeepsRes W z (execKeyUpdate session keyOp s) := by
  unfold execKeyUpdate
  apply inSession_keeps
  · exact Sub.up (by decide) hW
  · with_reducible assumption
  · intro y0
    split
    · apply spdmReply_keeps
      · exact Sub.up (by decide) hW
      · refine Keeps.congr (s := s) ?_ rfl rfl rfl rfl rfl rfl kept kept kept kept kept kept kept kept kept kept kept
            kept kept kept (hW.chg rfl) kept kept kept kept kept kept kept
        with_reducible assumption
    · split
      · apply spdmReply_keeps
        · exact Sub.up (by decide) hW
        · with_reducible assumption
      · apply spdmError_keeps
        · exact Sub.up (by decide) hW
        · with_reducible assumption

theorem execLaneThresholdCrossed_keeps {W : Nat} {z : State} (port : ℕ) (tx : Bool) (lane : ℕ) (s : State) (hW : Sub
    107083524 W) (h_s : Keeps W z s) :
    KeepsRes W z (execLaneThresholdCrossed port tx lane s) := by
  unfold execLaneThresholdCrossed
  apply guarded_keeps
  · with_reducible assumption
  · intro y0 y1
    apply crossLane_keeps
    · with_reducible assumption
    · with_reducible assumption

theorem startDemote_keeps {W : Nat} {z : State} (s : State) (kind : MoveKind) (q : ℕ) (op : ℕ) (hW : Sub 100664324 W)
    (h_s : Keeps W z s) :
    KeepsOpt W z (startDemote s kind q op) := by
  unfold startDemote
  split
  · rename_i x0 x1
    have k2 := keeps_eq x1 (P := KeepsOptSnd W z) (by
      apply takeCis_keeps
      · exact Sub.up (by decide) hW
      · with_reducible assumption
      )
    with_reducible assumption
  · rename_i x3 x4 x5 x6
    have k7 := keeps_eq x6 (P := KeepsOptSnd W z) (by
      apply takeCis_keeps
      · exact Sub.up (by decide) hW
      · with_reducible assumption
      )
    extract_lets v8 v9 v10 v11
    clear_value v8
    clear_value v9
    clear_value v10
    have h12 : Keeps W z v11 := by
      unfold v11
      refine Keeps.congr (s := x5) ?_ rfl rfl rfl rfl rfl rfl kept kept kept kept kept kept kept (hW.chg rfl) kept
          kept kept kept kept kept kept kept kept kept kept kept kept kept
      with_reducible assumption
    clear_value v11
    change Keeps W z _
    apply writeCis_keeps
    · exact Sub.up (by decide) hW
    · apply count_keeps
      · exact Sub.up (by decide) hW
      · apply count_keeps
        · exact Sub.up (by decide) hW
        · with_reducible assumption

theorem execLehrDemoteStart_keeps {W : Nat} {z : State} (s : State) (hW : Sub 100664324 W) (h_s : Keeps W z s) :
    KeepsRes W z (execLehrDemoteStart s) := by
  unfold execLehrDemoteStart
  extract_lets v0 v1 v2 v3
  clear_value v0
  clear_value v1
  clear_value v2
  have h4 : Keeps W z v3 := by
    unfold v3
    refine Keeps.congr (s := s) ?_ rfl rfl rfl rfl rfl rfl kept kept kept kept kept kept kept (hW.chg rfl) kept kept
        kept kept kept kept kept kept kept kept kept kept kept kept
    with_reducible assumption
  clear_value v3
  split
  · with_reducible assumption
  · split
    · with_reducible assumption
    · split
      · rename_i x12 x13
        have k14 := keeps_eq x13 (P := KeepsOpt W z) (by
          apply startDemote_keeps
          · with_reducible assumption
          · with_reducible assumption
          )
        with_reducible assumption
      · rename_i x15 x16 x17
        have k18 := keeps_eq x17 (P := KeepsOpt W z) (by
          apply startDemote_keeps
          · with_reducible assumption
          · with_reducible assumption
          )
        change Keeps W z _
        refine Keeps.congr (s := x16) ?_ rfl rfl rfl rfl rfl rfl kept kept kept kept kept kept kept (hW.chg rfl) kept
            kept kept kept kept kept kept kept kept kept kept kept kept kept
        with_reducible assumption

theorem execLehrDemotionCommit_keeps {W : Nat} {z : State} (sub : ℕ) (s : State) (hW : Sub 107347828 W) (h_s : Keeps
    W z s) :
    KeepsRes W z (execLehrDemotionCommit sub s) := by
  unfold execLehrDemotionCommit
  split
  · with_reducible assumption
  · apply guarded_keeps
    · with_reducible assumption
    · intro y5 y6
      apply demoteWritten_keeps
      · with_reducible assumption
      · with_reducible assumption

theorem execLinkId_keeps {W : Nat} {z : State} (port : ℕ) (eid : ℕ) (width : ℕ) (lanes : ℕ) (s : State) (hW : Sub
    16388 W) (h_s : Keeps W z s) :
    KeepsRes W z (execLinkId port eid width lanes s) := by
  unfold execLinkId
  apply onMsg_keeps
  · with_reducible assumption
  · with_reducible assumption
  · intro y0 y1
    extract_lets v2
    have h3 : Keeps W z v2 := by
      unfold v2
      apply wf_keeps
      · exact Sub.up (by decide) hW
      · with_reducible assumption
    clear_value v2
    apply modLp_keeps
    · with_reducible assumption
    · with_reducible assumption

theorem execLinkMsgRepeat_keeps {W : Nat} {z : State} (port : ℕ) (s : State) (hW : Sub 16388 W) (h_s : Keeps W z s) :
    KeepsRes W z (execLinkMsgRepeat port s) := by
  unfold execLinkMsgRepeat
  change Keeps W z _
  apply modLp_keeps
  · with_reducible assumption
  · with_reducible assumption

theorem execLinkRetrainWrite_keeps {W : Nat} {z : State} (_id : ℕ) (port : ℕ) (value : W32) (s : State) (hW : Sub
    107347828 W) (h_s : Keeps W z s) :
    KeepsRes W z (execLinkRetrainWrite _id port value s) := by
  unfold execLinkRetrainWrite
  apply guarded_keeps
  · with_reducible assumption
  · intro y0 y1
    apply linkCtlWrite_keeps
    · with_reducible assumption
    · with_reducible assumption

theorem setTol_keeps {W : Nat} {z : State} (s : State) (dom : ℕ) (t : ℕ) (hW : Sub 1048576 W) (h_s : Keeps W z s) :
    Keeps W z (setTol s dom t) := by
  unfold setTol
  refine Keeps.congr (s := s) ?_ rfl rfl rfl rfl rfl rfl kept kept kept kept kept kept kept kept kept kept kept kept
      kept kept kept kept kept (hW.chg rfl) kept kept kept kept
  with_reducible assumption

theorem execLtrWrite_keeps {W : Nat} {z : State} (value : W32) (s : State) (hW : Sub 1048580 W) (h_s : Keeps W z s) :
    KeepsRes W z (execLtrWrite value s) := by
  unfold execLtrWrite
  apply guarded_keeps
  · with_reducible assumption
  · intro y0 y1
    extract_lets v2
    clear_value v2
    apply wr_keeps
    · exact Sub.up (by decide) hW
    · refine foldl_keeps (P := Keeps W z) ?_ ?_
      · with_reducible assumption
      · intro y3 y4 y5
        apply setTol_keeps
        · exact Sub.up (by decide) hW
        · with_reducible assumption

theorem execMack_keeps {W : Nat} {z : State} (tag : ℕ) (dir : Bool) (s : State) (hW : Sub 107347828 W) (h_s : Keeps W
    z s) :
    KeepsRes W z (execMack tag dir s) := by
  unfold execMack
  apply onRunnel_keeps
  · exact Sub.up (by decide) hW
  · with_reducible assumption
  · intro y0 y1
    split
    · with_reducible assumption
    · split
      · with_reducible assumption
      · extract_lets v9
        have h10 : Keeps W z v9 := by
          unfold v9
          apply modPair_keeps
          · exact Sub.up (by decide) hW
          · with_reducible assumption
        clear_value v9
        apply mackTake_keeps
        · with_reducible assumption
        · with_reducible assumption

theorem execMailboxPacket_keeps {W : Nat} {z : State} (ch : ℕ) (ack : Bool) (data : Bytes) (s : State) (hW : Sub
    102884868 W) (h_s : Keeps W z s) :
    KeepsRes W z (execMailboxPacket ch ack data s) := by
  unfold execMailboxPacket
  extract_lets v0
  clear_value v0
  apply onRunnel_keeps
  · exact Sub.up (by decide) hW
  · with_reducible assumption
  · intro y1 y2
    split
    · with_reducible assumption
    · split
      · split
        · apply fatalTaken_keeps
          · exact Sub.up (by decide) hW
          · apply mbxEmptyInt_keeps
            · exact Sub.up (by decide) hW
            · apply mbxClear_keeps
              · exact Sub.up (by decide) hW
              · with_reducible assumption
        · with_reducible assumption
      · split
        · apply mbxPost_keeps
          · exact Sub.up (by decide) hW
          · apply mbxData_keeps
            · exact Sub.up (by decide) hW
            · with_reducible assumption
        · with_reducible assumption

theorem mctpReply_keeps {W : Nat} {z : State} (s : State) (code : ℕ) (words : List ℕ) (hW : Sub 67109888 W) (h_s :
    Keeps W z s) :
    Keeps W z (mctpReply s code words) := by
  unfold mctpReply
  apply put_keeps
  · with_reducible assumption
  · with_reducible assumption

theorem execMctpControl_keeps {W : Nat} {z : State} (req : MctpControl) (s : State) (hW : Sub 83887104 W) (h_s :
    Keeps W z s) :
    KeepsRes W z (execMctpControl req s) := by
  unfold execMctpControl
  apply sideband_keeps
  · exact Sub.up (by decide) hW
  · with_reducible assumption
  · intro y0 y1
    split
    · split
      · apply mctpReply_keeps
        · exact Sub.up (by decide) hW
        · refine Keeps.congr (s := y0) ?_ rfl rfl rfl rfl rfl rfl kept kept kept kept kept kept kept kept kept kept
              kept kept kept kept kept kept kept kept kept kept kept (hW.chg rfl)
          with_reducible assumption
      · apply mctpReply_keeps
        · exact Sub.up (by decide) hW
        · with_reducible assumption
    · apply mctpReply_keeps
      · exact Sub.up (by decide) hW
      · with_reducible assumption
    · apply mctpReply_keeps
      · exact Sub.up (by decide) hW
      · with_reducible assumption
    · apply mctpReply_keeps
      · exact Sub.up (by decide) hW
      · with_reducible assumption
    · apply mctpReply_keeps
      · exact Sub.up (by decide) hW
      · with_reducible assumption

theorem takeMirror_keeps {W : Nat} {z : State} (s : State) (w : MirrorWrite) (hW : Sub 35653236 W) (h_s : Keeps W z
    s) :
    KeepsOpt W z (takeMirror s w) := by
  unfold takeMirror
  split
  · rename_i x0 x1 x2
    have k3 := keeps_eq x2 (P := KeepsOpt W z) (by
      split
      · exact trivial
      · apply applyMirror_keeps
        · with_reducible assumption
        · with_reducible assumption
      )
    with_reducible assumption
  · rename_i x6 x7
    have k8 := keeps_eq x7 (P := KeepsOpt W z) (by
      split
      · exact trivial
      · apply applyMirror_keeps
        · with_reducible assumption
        · with_reducible assumption
      )
    split
    · change Keeps W z _
      apply modPair_keeps
      · exact Sub.up (by decide) hW
      · with_reducible assumption
    · with_reducible assumption

theorem fenceMirrored_keeps {W : Nat} {z : State} (s : State) (i : ℕ) (timedOut : Bool) (hW : Sub 256 W) (h_s : Keeps
    W z s) :
    Keeps W z (fenceMirrored s i timedOut) := by
  unfold fenceMirrored
  apply setAgent_keeps
  · with_reducible assumption
  · with_reducible assumption

theorem takenMirrored_keeps {W : Nat} {z : State} (s : State) (q : ℕ) (head : ℕ) (op : ℕ) (h : ℕ) (hW : Sub 2052 W)
    (h_s : Keeps W z s) :
    Keeps W z (takenMirrored s q head op h) := by
  unfold takenMirrored
  extract_lets v0 v1 v2 v3
  clear_value v0
  clear_value v1
  clear_value v2
  clear_value v3
  apply wf_keeps
  · exact Sub.up (by decide) hW
  · refine Keeps.congr (s := s) ?_ rfl rfl rfl rfl rfl rfl kept kept kept kept kept kept kept kept (hW.chg rfl) kept
        kept kept kept kept kept kept kept kept kept kept kept kept
    with_reducible assumption

theorem execMdir_keeps {W : Nat} {z : State} (tag : ℕ) (change : MirrorChange) (s : State) (hW : Sub 103042932 W)
    (h_s : Keeps W z s) :
    KeepsRes W z (execMdir tag change s) := by
  unfold execMdir
  apply guarded_keeps
  · with_reducible assumption
  · intro y0 y1
    split
    · rename_i x2 x3
      have k4 := keeps_eq x3 (P := KeepsOpt W z) (by
        apply takeRunnel_keeps
        · exact Sub.up (by decide) hW
        · with_reducible assumption
        )
      with_reducible assumption
    · rename_i x5 x6 x7
      have k8 := keeps_eq x7 (P := KeepsOpt W z) (by
        apply takeRunnel_keeps
        · exact Sub.up (by decide) hW
        · with_reducible assumption
        )
      extract_lets v9
      have h10 : ∀ q1, Keeps W z q1 → Keeps W z (v9 q1) := by
        unfold v9
        intro y11 y12
        apply sendRunnel_keeps
        · exact Sub.up (by decide) hW
        · with_reducible assumption
      clear_value v9
      split
      · split
        · apply h10
          apply dirMirrored_keeps
          · exact Sub.up (by decide) hW
          · with_reducible assumption
        · refine KeepsOpt.getD ?_ ?_
          · apply takeMirror_keeps
            · exact Sub.up (by decide) hW
            · apply dirMirrored_keeps
              · exact Sub.up (by decide) hW
              · with_reducible assumption
          · with_reducible assumption
      · apply h10
        apply fenceMirrored_keeps
        · exact Sub.up (by decide) hW
        · with_reducible assumption
      · apply h10
        apply takenMirrored_keeps
        · exact Sub.up (by decide) hW
        · with_reducible assumption
      · apply h10
        apply setSub_keeps
        · exact Sub.up (by decide) hW
        · apply releaseRec_keeps
          · exact Sub.up (by decide) hW
          · apply dropMerges_keeps
            · exact Sub.up (by decide) hW
            · with_reducible assumption
      · apply h10
        with_reducible assumption

theorem execMergeWindowExpiry_keeps {W : Nat} {z : State} (ch : ℕ) (line : ℕ) (s : State) (hW : Sub 33816580 W) (h_s
    : Keeps W z s) :
    KeepsRes W z (execMergeWindowExpiry ch line s) := by
  unfold execMergeWindowExpiry
  split
  · with_reducible assumption
  · change Keeps W z _
    apply mergeLeave_keeps
    · with_reducible assumption
    · with_reducible assumption

theorem migResults_keeps {W : Nat} {z : State} (s : State) (h : ℕ) (r : Region) (hW : Sub 2048 W) (h_s : Keeps W z s)
    :
    Keeps W z (migResults s h r) := by
  unfold migResults
  apply modOp_keeps
  · with_reducible assumption
  · with_reducible assumption

theorem migRate_keeps {W : Nat} {z : State} (s : State) (q : ℕ) (hW : Sub 1280 W) (h_s : Keeps W z s) :
    Keeps W z (migRate s q) := by
  unfold migRate
  extract_lets v0 v1
  have h2 : Keeps W z v0 := by
    unfold v0
    apply voidLines_keeps
    · exact Sub.up (by decide) hW
    · with_reducible assumption
  clear_value v0
  clear_value v1
  refine Keeps.congr (s := v0) ?_ rfl rfl rfl rfl rfl rfl kept kept kept kept kept kept kept (hW.chg rfl) kept kept
      kept kept kept kept kept kept kept kept kept kept kept kept
  with_reducible assumption

theorem migGrainSub_keeps {W : Nat} {z : State} (s : State) (o : Op) (q : ℕ) (hW : Sub 33555460 W) (h_s : Keeps W z
    s) :
    KeepsMig W z (migGrainSub s o q) := by
  unfold migGrainSub
  split
  · rename_i x0 x1
    have k2 := keeps_eq x1 (P := KeepsOptSnd W z) (by
      apply regrain_keeps
      · with_reducible assumption
      · with_reducible assumption
      )
    with_reducible assumption
  · rename_i x3 x4 x5
    have k6 := keeps_eq x5 (P := KeepsOptSnd W z) (by
      apply regrain_keeps
      · with_reducible assumption
      · with_reducible assumption
      )
    with_reducible assumption
  · rename_i x7 x8 x9
    have k10 := keeps_eq x9 (P := KeepsOptSnd W z) (by
      apply regrain_keeps
      · with_reducible assumption
      · with_reducible assumption
      )
    with_reducible assumption

theorem migLeave_keeps {W : Nat} {z : State} (s : State) (o : Op) (q : ℕ) (hW : Sub 33555460 W) (h_s : Keeps W z s) :
    KeepsMig W z (migLeave s o q) := by
  unfold migLeave
  change Keeps W z _
  refine KeepsOpt.getD ?_ ?_
  · unfold Option.map
    split
    · rename_i x0 x1 x2
      have k3 := keeps_eq x2 (P := KeepsOptSnd W z) (by
        apply regrain_keeps
        · with_reducible assumption
        · with_reducible assumption
        )
      with_reducible assumption
    · rename_i x4 x5
      have k6 := keeps_eq x5 (P := KeepsOptSnd W z) (by
        apply regrain_keeps
        · with_reducible assumption
        · with_reducible assumption
        )
      with_reducible assumption
  · with_reducible assumption

theorem migSub_keeps {W : Nat} {z : State} (s : State) (h : ℕ) (o : Op) (r : Region) (q : ℕ) (hW : Sub 100664580 W)
    (h_s : Keeps W z s) :
    KeepsMig W z (migSub s h o r q) := by
  unfold migSub
  extract_lets v0 v1 v2 v3
  clear_value v0
  clear_value v1
  clear_value v2
  have h4 : Keeps W z v3 := by
    unfold v3
    apply startPromote_keeps
    · exact Sub.up (by decide) hW
    · with_reducible assumption
  clear_value v3
  split
  · with_reducible assumption
  · split
    · with_reducible assumption
    · split
      · split
        · split
          · with_reducible assumption
          · split
            · change Keeps W z _
              apply migRate_keeps
              · exact Sub.up (by decide) hW
              · with_reducible assumption
            · with_reducible assumption
        · apply migGrainSub_keeps
          · exact Sub.up (by decide) hW
          · with_reducible assumption
      · split
        · split
          · apply migLeave_keeps
            · exact Sub.up (by decide) hW
            · with_reducible assumption
          · change Keeps W z _
            apply releaseStart_keeps
            · exact Sub.up (by decide) hW
            · with_reducible assumption
        · split
          · apply migGrainSub_keeps
            · exact Sub.up (by decide) hW
            · with_reducible assumption
          · split
            · apply migLeave_keeps
              · exact Sub.up (by decide) hW
              · with_reducible assumption
            · split
              · with_reducible assumption
              · split
                · rename_i x29 x30 x31
                  have k32 := keeps_eq x31 (P := KeepsOpt W z) (by
                    apply startDemote_keeps
                    · exact Sub.up (by decide) hW
                    · with_reducible assumption
                    )
                  change Keeps W z _
                  apply migRate_keeps
                  · exact Sub.up (by decide) hW
                  · with_reducible assumption
                · rename_i x33 x34
                  have k35 := keeps_eq x34 (P := KeepsOpt W z) (by
                    apply startDemote_keeps
                    · exact Sub.up (by decide) hW
                    · with_reducible assumption
                    )
                  apply migLeave_keeps
                  · exact Sub.up (by decide) hW
                  · with_reducible assumption
        · with_reducible assumption
      · apply migGrainSub_keeps
        · exact Sub.up (by decide) hW
        · with_reducible assumption

theorem migNext_keeps {W : Nat} {z : State} (n : Nat) (s : State) (h : Nat) (hW : Sub 107347828 W) (k : Keeps W z s)
    : Keeps W z (migNext n s h) := by
  induction n generalizing s with
  | zero => exact k
  | succ n ih =>
    unfold migNext
    split
    · exact k
    · split
      · exact endWith_keeps _ _ _ _ (Sub.up (by decide) hW) k
      · rename_i o _ _ r _
        dsimp only
        have k1 := migResults_keeps (W := W) (z := z) s h r (Sub.up (by decide) hW) k
        generalize migResults s h r = s1 at k1
        split
        · refine endOp_keeps _ _ _ (Sub.up (by decide) hW) ?_
          split
          · exact k1
          · exact setRegion_keeps _ _ _ (Sub.up (by decide) hW) k1
        · have k2 := migSub_keeps (W := W) (z := z) s1 h o r o.prog.next (Sub.up (by decide) hW) k1
          split <;> rename_i e <;> rw [e] at k2
          · exact k2
          all_goals exact ih _ (modOp_keeps _ _ _ (Sub.up (by decide) hW) k2)

theorem migGo_keeps {W : Nat} {z : State} (s : State) (h : ℕ) (hW : Sub 107347828 W) (h_s : Keeps W z s) :
    Keeps W z (migGo s h) := by
  unfold migGo
  split
  · with_reducible assumption
  · split
    · apply endWith_keeps
      · with_reducible assumption
      · with_reducible assumption
    · apply migNext_keeps
      · with_reducible assumption
      · with_reducible assumption

theorem execMigrate_keeps {W : Nat} {z : State} (h : ℕ) (s : State) (hW : Sub 107347828 W) (h_s : Keeps W z s) :
    KeepsRes W z (execMigrate h s) := by
  unfold execMigrate
  split
  · with_reducible assumption
  · extract_lets v5 v6 v7 v8
    clear_value v5
    clear_value v6
    clear_value v7
    clear_value v8
    split
    · change Keeps W z _
      apply endWith_keeps
      · with_reducible assumption
      · with_reducible assumption
    · extract_lets v14 v15
      clear_value v14
      have h16 : Keeps W z v15 := by
        unfold v15
        apply modOp_keeps
        · exact Sub.up (by decide) hW
        · with_reducible assumption
      clear_value v15
      split
      · change Keeps W z _
        apply endWith_keeps
        · with_reducible assumption
        · with_reducible assumption
      · change Keeps W z _
        split
        · with_reducible assumption
        · apply migGo_keeps
          · with_reducible assumption
          · with_reducible assumption

theorem execMigrateMoveDone_keeps {W : Nat} {z : State} (h : ℕ) (s : State) (hW : Sub 107347828 W) (h_s : Keeps W z
    s) :
    KeepsRes W z (execMigrateMoveDone h s) := by
  unfold execMigrateMoveDone
  split
  · with_reducible assumption
  · split
    · with_reducible assumption
    · extract_lets v7 v8
      have h9 : Keeps W z v7 := by
        unfold v7
        split
        · split
          · apply promoteCommit_keeps
            · with_reducible assumption
            · with_reducible assumption
          · apply demoteWritten_keeps
            · with_reducible assumption
            · with_reducible assumption
        · with_reducible assumption
      clear_value v7
      have h17 : Keeps W z v8 := by
        unfold v8
        split
        · apply migResults_keeps
          · exact Sub.up (by decide) hW
          · with_reducible assumption
        · with_reducible assumption
      clear_value v8
      split
      · with_reducible assumption
      · split
        · change Keeps W z _
          apply endOp_keeps
          · with_reducible assumption
          · with_reducible assumption
        · split
          · with_reducible assumption
          · change Keeps W z _
            apply migGo_keeps
            · with_reducible assumption
            · with_reducible assumption

theorem execMsgTimeout_keeps {W : Nat} {z : State} (entry : ℕ) (s : State) (hW : Sub 107085316 W) (h_s : Keeps W z s)
    :
    KeepsRes W z (execMsgTimeout entry s) := by
  unfold execMsgTimeout
  extract_lets v0
  clear_value v0
  apply guarded_keeps
  · with_reducible assumption
  · intro y1 y2
    apply event_keeps
    · exact Sub.up (by decide) hW
    · apply msgEnd_keeps
      · with_reducible assumption
      · with_reducible assumption

theorem execMsixUnmask_keeps {W : Nat} {z : State} (req : MsixWrite) (s : State) (hW : Sub 67142660 W) (h_s : Keeps W
    z s) :
    KeepsRes W z (execMsixUnmask req s) := by
  unfold execMsixUnmask
  extract_lets v0
  clear_value v0
  apply guarded_keeps
  · with_reducible assumption
  · intro y1 y2
    split
    · split
      · with_reducible assumption
      · apply msixFlush_keeps
        · exact Sub.up (by decide) hW
        · refine Keeps.congr (s := y1) ?_ rfl rfl rfl rfl rfl rfl kept kept kept kept kept kept kept kept kept kept
              kept kept (hW.chg rfl) kept kept kept kept kept kept kept kept kept
          with_reducible assumption
    · apply msixFlush_keeps
      · exact Sub.up (by decide) hW
      · apply wb_keeps
        · exact Sub.up (by decide) hW
        · with_reducible assumption
    · apply msixFlush_keeps
      · exact Sub.up (by decide) hW
      · apply wb_keeps
        · exact Sub.up (by decide) hW
        · with_reducible assumption
    · apply msixFlush_keeps
      · exact Sub.up (by decide) hW
      · apply wb_keeps
        · exact Sub.up (by decide) hW
        · with_reducible assumption
    · apply wb_keeps
      · exact Sub.up (by decide) hW
      · with_reducible assumption

theorem execMwr_keeps {W : Nat} {z : State} (tag : ℕ) (pa : ℕ) (data : Bytes) (mask : Option (BitVec 64)) (poison :
    Option ℕ) (s : State) (hW : Sub 35669620 W) (h_s : Keeps W z s) :
    KeepsRes W z (execMwr tag pa data mask poison s) := by
  unfold execMwr
  extract_lets v0
  clear_value v0
  apply guarded_keeps
  · with_reducible assumption
  · intro y1 y2
    split
    · rename_i x3 x4 x5
      have k6 := keeps_eq x5 (P := KeepsOpt W z) (by
        unfold Option.bind
        split
        · rename_i x7 x8 x9
          have k10 := keeps_eq x9 (P := KeepsOpt W z) (by
            apply takeRunnel_keeps
            · exact Sub.up (by decide) hW
            · with_reducible assumption
            )
          with_reducible assumption
        · rename_i x11 x12 x13 x14
          have k15 := keeps_eq x14 (P := KeepsOpt W z) (by
            apply takeRunnel_keeps
            · exact Sub.up (by decide) hW
            · with_reducible assumption
            )
          beta_reduce
          apply takeMirror_keeps
          · exact Sub.up (by decide) hW
          · with_reducible assumption
        )
      with_reducible assumption
    · rename_i x16 x17
      have k18 := keeps_eq x17 (P := KeepsOpt W z) (by
        unfold Option.bind
        split
        · rename_i x19 x20 x21
          have k22 := keeps_eq x21 (P := KeepsOpt W z) (by
            apply takeRunnel_keeps
            · exact Sub.up (by decide) hW
            · with_reducible assumption
            )
          with_reducible assumption
        · rename_i x23 x24 x25 x26
          have k27 := keeps_eq x26 (P := KeepsOpt W z) (by
            apply takeRunnel_keeps
            · exact Sub.up (by decide) hW
            · with_reducible assumption
            )
          beta_reduce
          apply takeMirror_keeps
          · exact Sub.up (by decide) hW
          · with_reducible assumption
        )
      with_reducible assumption

theorem execNegotiateAlgorithms_keeps {W : Nat} {z : State} (via : ℕ) (offer : SpdmAlgs) (s : State) (hW : Sub
    67240960 W) (h_s : Keeps W z s) :
    KeepsRes W z (execNegotiateAlgorithms via offer s) := by
  unfold execNegotiateAlgorithms
  apply spdmAfter_keeps
  · exact Sub.up (by decide) hW
  · with_reducible assumption
  · intro y0 y1
    extract_lets v2 v3 v4
    clear_value v2
    clear_value v3
    clear_value v4
    apply spdmReply_keeps
    · exact Sub.up (by decide) hW
    · apply setStage_keeps
      · exact Sub.up (by decide) hW
      · with_reducible assumption

theorem execNotifyCoalTimeout_keeps {W : Nat} {z : State} (cq : ℕ) (s : State) (hW : Sub 107085316 W) (h_s : Keeps W
    z s) :
    KeepsRes W z (execNotifyCoalTimeout cq s) := by
  unfold execNotifyCoalTimeout
  extract_lets v0
  clear_value v0
  apply guarded_keeps
  · with_reducible assumption
  · intro y1 y2
    apply notify_keeps
    · with_reducible assumption
    · with_reducible assumption

theorem execNotifyPacket_keeps {W : Nat} {z : State} (port : ℕ) (pkt : Packet) (s : State) (hW : Sub 35668484 W) (h_s
    : Keeps W z s) :
    KeepsRes W z (execNotifyPacket port pkt s) := by
  unfold execNotifyPacket
  apply arrive_keeps
  · with_reducible assumption
  · with_reducible assumption
  · intro y0 y1
    unfold id
    with_reducible assumption
  · intro y2 y3
    apply discardPacket_keeps
    · exact Sub.up (by decide) hW
    · with_reducible assumption
  · intro y4 y5
    unfold id
    with_reducible assumption

theorem retryCis_keeps {W : Nat} {z : State} (s : State) (f : ℕ) (c : CisCmd) (hW : Sub 100664320 W) (h_s : Keeps W z
    s) :
    Keeps W z (retryCis s f c) := by
  unfold retryCis
  extract_lets v0 v1
  have h2 : Keeps W z v0 := by
    unfold v0
    apply issueNvme_keeps
    · exact Sub.up (by decide) hW
    · apply count_keeps
      · exact Sub.up (by decide) hW
      · with_reducible assumption
  clear_value v0
  clear_value v1
  split
  · extract_lets v5 v6
    clear_value v5
    have h7 : Keeps W z v6 := by
      unfold v6
      refine Keeps.congr (s := v0) ?_ rfl rfl rfl rfl rfl rfl kept kept kept kept kept kept kept (hW.chg rfl) kept
          kept kept kept kept kept kept kept kept kept kept kept kept kept
      with_reducible assumption
    clear_value v6
    split
    · apply readCis_keeps
      · exact Sub.up (by decide) hW
      · with_reducible assumption
    · apply writeCis_keeps
      · exact Sub.up (by decide) hW
      · with_reducible assumption
  · apply writeCis_keeps
    · exact Sub.up (by decide) hW
    · apply setIo_keeps
      · exact Sub.up (by decide) hW
      · with_reducible assumption
  · apply deallocCis_keeps
    · exact Sub.up (by decide) hW
    · apply setIo_keeps
      · exact Sub.up (by decide) hW
      · with_reducible assumption

theorem execNvmeCmdTimeout_keeps {W : Nat} {z : State} (drive : ℕ) (frame : ℕ) (s : State) (hW : Sub 107347828 W)
    (h_s : Keeps W z s) :
    KeepsRes W z (execNvmeCmdTimeout drive frame s) := by
  unfold execNvmeCmdTimeout
  extract_lets v0
  clear_value v0
  split
  · with_reducible assumption
  · apply guarded_keeps
    · with_reducible assumption
    · intro y6 y7
      extract_lets v8
      have h9 : Keeps W z v8 := by
        unfold v8
        apply count_keeps
        · exact Sub.up (by decide) hW
        · with_reducible assumption
      clear_value v8
      split
      · apply failDrive_keeps
        · with_reducible assumption
        · with_reducible assumption
      · apply retryCis_keeps
        · exact Sub.up (by decide) hW
        · with_reducible assumption

theorem keepHistory_keeps {W : Nat} {z : State} (s : State) (h : ℕ) (o : Op) (hW : Sub 2048 W) (h_s : Keeps W z s) :
    Keeps W z (keepHistory s h o) := by
  unfold keepHistory
  split
  · with_reducible assumption
  · extract_lets v2 v3
    clear_value v2
    clear_value v3
    refine Keeps.congr (s := s) ?_ rfl rfl rfl rfl rfl rfl kept kept kept kept kept kept kept kept (hW.chg rfl) kept
        kept kept kept kept kept kept kept kept kept kept kept kept
    with_reducible assumption

theorem releaseOp_keeps {W : Nat} {z : State} (s : State) (h : ℕ) (hW : Sub 2048 W) (h_s : Keeps W z s) :
    Keeps W z (releaseOp s h) := by
  unfold releaseOp
  extract_lets v0 v1 v2 v3
  clear_value v0
  clear_value v1
  have h4 : Keeps W z v2 := by
    unfold v2
    refine Keeps.congr (s := s) ?_ rfl rfl rfl rfl rfl rfl kept kept kept kept kept kept kept kept (hW.chg rfl) kept
        kept kept kept kept kept kept kept kept kept kept kept kept
    with_reducible assumption
  clear_value v2
  clear_value v3
  split
  · with_reducible assumption
  · split
    · apply setOp_keeps
      · with_reducible assumption
      · with_reducible assumption
    · refine Keeps.congr (s := v2) ?_ rfl rfl rfl rfl rfl rfl kept kept kept kept kept kept kept kept (hW.chg rfl)
          kept kept kept kept kept kept kept kept kept kept kept kept kept
      with_reducible assumption

theorem execOperationComplete_keeps {W : Nat} {z : State} (h : ℕ) (s : State) (hW : Sub 107347828 W) (h_s : Keeps W z
    s) :
    KeepsRes W z (execOperationComplete h s) := by
  unfold execOperationComplete
  split
  · with_reducible assumption
  · split
    · with_reducible assumption
    · split
      · change Keeps W z _
        apply flushRecord_keeps
        · with_reducible assumption
        · with_reducible assumption
      · split
        · rename_i x9 x10 x11
          have k12 := keeps_eq x11 (P := KeepsCpl W z) (by
            apply completeRun_keeps
            · with_reducible assumption
            · with_reducible assumption
            )
          with_reducible assumption
        · rename_i x13 x14 x15
          have k16 := keeps_eq x15 (P := KeepsCpl W z) (by
            apply completeRun_keeps
            · with_reducible assumption
            · with_reducible assumption
            )
          extract_lets v17 v18
          have h19 : Keeps W z v17 := by
            unfold v17
            split
            · apply count_keeps
              · exact Sub.up (by decide) hW
              · with_reducible assumption
            · with_reducible assumption
          clear_value v17
          have h22 : Keeps W z v18 := by
            unfold v18
            apply keepHistory_keeps
            · exact Sub.up (by decide) hW
            · with_reducible assumption
          clear_value v18
          change Keeps W z _
          apply releaseOp_keeps
          · exact Sub.up (by decide) hW
          · apply wakeWaiters_keeps
            · with_reducible assumption
            · with_reducible assumption

theorem execOperationSuspended_keeps {W : Nat} {z : State} (h : ℕ) (s : State) (hW : Sub 107347828 W) (h_s : Keeps W
    z s) :
    KeepsRes W z (execOperationSuspended h s) := by
  unfold execOperationSuspended
  split
  · with_reducible assumption
  · split
    · with_reducible assumption
    · split
      · change Keeps W z _
        apply endOp_keeps
        · with_reducible assumption
        · apply wakeWaiters_keeps
          · with_reducible assumption
          · with_reducible assumption
      · split
        · change Keeps W z _
          apply closeReduction_keeps
          · with_reducible assumption
          · with_reducible assumption
        · split
          · change Keeps W z _
            apply flushRecord_keeps
            · with_reducible assumption
            · with_reducible assumption
          · split
            · rename_i x13 x14 x15
              have k16 := keeps_eq x15 (P := KeepsCpl W z) (by
                apply completeRun_keeps
                · with_reducible assumption
                · with_reducible assumption
                )
              with_reducible assumption
            · rename_i x17 x18 x19
              have k20 := keeps_eq x19 (P := KeepsCpl W z) (by
                apply completeRun_keeps
                · with_reducible assumption
                · with_reducible assumption
                )
              change Keeps W z _
              apply wakeWaiters_keeps
              · with_reducible assumption
              · apply modOp_keeps
                · exact Sub.up (by decide) hW
                · with_reducible assumption

theorem execOverflowRecordWrite_keeps {W : Nat} {z : State} (s : State) (hW : Sub 67150852 W) (h_s : Keeps W z s) :
    KeepsRes W z (execOverflowRecordWrite s) := by
  unfold execOverflowRecordWrite
  extract_lets v0
  clear_value v0
  change Keeps W z _
  apply faultStat_keeps
  · exact Sub.up (by decide) hW
  · refine foldl_keeps (P := Keeps W z) ?_ ?_
    · with_reducible assumption
    · intro y1 y2 y3
      split
      · extract_lets v5 v6
        clear_value v5
        have h7 : Keeps W z v6 := by
          unfold v6
          refine Keeps.congr (s := y1) ?_ rfl rfl rfl rfl rfl rfl kept kept kept kept kept kept kept kept kept kept
              (hW.chg rfl) kept kept kept kept kept kept kept kept kept kept kept
          with_reducible assumption
        clear_value v6
        apply faultPut_keeps
        · with_reducible assumption
        · with_reducible assumption
      · with_reducible assumption

theorem execPassComponentTable_keeps {W : Nat} {z : State} (_types : List ℕ) (s : State) (hW : Sub 71304192 W) (h_s :
    Keeps W z s) :
    KeepsRes W z (execPassComponentTable _types s) := by
  unfold execPassComponentTable
  split
  · change Keeps W z _
    apply pldmReply_keeps
    · exact Sub.up (by decide) hW
    · refine Keeps.congr (s := s) ?_ rfl rfl rfl rfl rfl rfl kept kept kept kept kept kept kept kept kept kept kept
          kept kept kept kept kept kept kept kept (hW.chg rfl) kept kept
      with_reducible assumption
  · change Keeps W z _
    apply pldmReply_keeps
    · exact Sub.up (by decide) hW
    · with_reducible assumption

theorem execPassThroughPacket_keeps {W : Nat} {z : State} (port : ℕ) (pkt : Packet) (s : State) (hW : Sub 107085316
    W) (h_s : Keeps W z s) :
    KeepsRes W z (execPassThroughPacket port pkt s) := by
  unfold execPassThroughPacket
  split
  · with_reducible assumption
  · extract_lets v2
    clear_value v2
    split
    · with_reducible assumption
    · split
      · rename_i x5 x6
        have k7 := keeps_eq x6 (P := KeepsOpt W z) (by
          apply popRx_keeps
          · exact Sub.up (by decide) hW
          · with_reducible assumption
          )
        with_reducible assumption
      · rename_i x8 x9 x10
        have k11 := keeps_eq x10 (P := KeepsOpt W z) (by
          apply popRx_keeps
          · exact Sub.up (by decide) hW
          · with_reducible assumption
          )
        split
        · change Keeps W z _
          apply refusePacket_keeps
          · exact Sub.up (by decide) hW
          · with_reducible assumption
        · extract_lets v14 v15
          clear_value v14
          have h16 : Keeps W z v15 := by
            unfold v15
            apply setRoute_keeps
            · exact Sub.up (by decide) hW
            · with_reducible assumption
          clear_value v15
          split
          · change Keeps W z _
            apply fenceUnreachable_keeps
            · exact Sub.up (by decide) hW
            · with_reducible assumption
          · split
            · change Keeps W z _
              apply refusePacket_keeps
              · exact Sub.up (by decide) hW
              · with_reducible assumption
            · change Keeps W z _
              apply placeAt_keeps
              · exact Sub.up (by decide) hW
              · apply count_keeps
                · exact Sub.up (by decide) hW
                · with_reducible assumption

theorem pinRegion_keeps {W : Nat} {z : State} (s : State) (h : ℕ) (o : Op) (idx : ℕ) (r : Region) (hW : Sub 107347828
    W) (h_s : Keeps W z s) :
    Keeps W z (pinRegion s h o idx r) := by
  unfold pinRegion
  extract_lets v0 v1 v2 v3
  clear_value v0
  have h4 : Keeps W z v1 := by
    unfold v1
    apply abandonMoves_keeps
    · exact Sub.up (by decide) hW
    · with_reducible assumption
  clear_value v1
  have h5 : Keeps W z v2 := by
    unfold v2
    apply setRegion_keeps
    · exact Sub.up (by decide) hW
    · with_reducible assumption
  clear_value v2
  have h6 : Keeps W z v3 := by
    unfold v3
    split
    · with_reducible assumption
    · apply pinCharge_keeps
      · exact Sub.up (by decide) hW
      · apply pinRelease_keeps
        · exact Sub.up (by decide) hW
        · with_reducible assumption
  clear_value v3
  split
  · apply allocEnd_keeps
    · with_reducible assumption
    · with_reducible assumption
  · split
    · apply allocEnd_keeps
      · with_reducible assumption
      · with_reducible assumption
    · apply pinStep_keeps
      · exact Sub.up (by decide) hW
      · apply modOp_keeps
        · exact Sub.up (by decide) hW
        · apply leaveQueue_keeps
          · exact Sub.up (by decide) hW
          · with_reducible assumption

theorem execPin_keeps {W : Nat} {z : State} (h : ℕ) (s : State) (hW : Sub 107347828 W) (h_s : Keeps W z s) :
    KeepsRes W z (execPin h s) := by
  unfold execPin
  apply regionCmd_keeps
  · with_reducible assumption
  · with_reducible assumption
  · intro y0 y1 y2 y3 y4
    apply pinRegion_keeps
    · with_reducible assumption
    · with_reducible assumption

theorem pinFinish_keeps {W : Nat} {z : State} (s : State) (h : ℕ) (hW : Sub 107347828 W) (h_s : Keeps W z s) :
    Keeps W z (pinFinish s h) := by
  unfold pinFinish
  split
  · with_reducible assumption
  · extract_lets v5 v6
    clear_value v5
    have h7 : Keeps W z v6 := by
      unfold v6
      apply pinStep_keeps
      · exact Sub.up (by decide) hW
      · with_reducible assumption
    clear_value v6
    split
    · apply endOp_keeps
      · with_reducible assumption
      · with_reducible assumption
    · split
      · apply endOp_keeps
        · with_reducible assumption
        · apply gauge_keeps
          · exact Sub.up (by decide) hW
          · with_reducible assumption
      · with_reducible assumption

theorem execPinComplete_keeps {W : Nat} {z : State} (h : ℕ) (s : State) (hW : Sub 107347828 W) (h_s : Keeps W z s) :
    KeepsRes W z (execPinComplete h s) := by
  unfold execPinComplete
  apply guarded_keeps
  · with_reducible assumption
  · intro y0 y1
    apply pinFinish_keeps
    · with_reducible assumption
    · with_reducible assumption

theorem execPldmBase_keeps {W : Nat} {z : State} (code : ℕ) (s : State) (hW : Sub 67109888 W) (h_s : Keeps W z s) :
    KeepsRes W z (execPldmBase code s) := by
  unfold execPldmBase
  apply sideband_keeps
  · exact Sub.up (by decide) hW
  · with_reducible assumption
  · intro y0 y1
    split
    · apply pldmAnswer_keeps
      · with_reducible assumption
      · with_reducible assumption
    · split
      · apply pldmAnswer_keeps
        · with_reducible assumption
        · with_reducible assumption
      · apply pldmAnswer_keeps
        · with_reducible assumption
        · with_reducible assumption

theorem execPortIdleTimeout_keeps {W : Nat} {z : State} (port : ℕ) (idleUs : ℕ) (s : State) (hW : Sub 20740 W) (h_s :
    Keeps W z s) :
    KeepsRes W z (execPortIdleTimeout port idleUs s) := by
  unfold execPortIdleTimeout
  apply guarded_keeps
  · with_reducible assumption
  · intro y0 y1
    extract_lets v2 v3
    clear_value v2
    have h4 : ∀ q1 q2, Keeps W z q1 → Keeps W z (v3 q1 q2) := by
      unfold v3
      intro y5 y6 y7
      apply requestPower_keeps
      · with_reducible assumption
      · apply wf_keeps
        · exact Sub.up (by decide) hW
        · with_reducible assumption
    clear_value v3
    split
    · apply h4
      split
      · apply exitPower_keeps
        · with_reducible assumption
        · with_reducible assumption
      · with_reducible assumption
    · split
      · apply h4
        with_reducible assumption
      · with_reducible assumption

theorem execPubNotifyPacket_keeps {W : Nat} {z : State} (port : ℕ) (pkt : Packet) (s : State) (hW : Sub 35668484 W)
    (h_s : Keeps W z s) :
    KeepsRes W z (execPubNotifyPacket port pkt s) := by
  unfold execPubNotifyPacket
  apply arrive_keeps
  · with_reducible assumption
  · with_reducible assumption
  · intro y0 y1
    unfold id
    with_reducible assumption
  · intro y2 y3
    apply discardPacket_keeps
    · exact Sub.up (by decide) hW
    · with_reducible assumption
  · intro y4 y5
    unfold id
    with_reducible assumption

theorem moveSub_keeps {W : Nat} {z : State} (a : ℕ) (b : ℕ) (s : State) (hW : Sub 263536 W) (h_s : Keeps W z s) :
    Keeps W z (moveSub a b s) := by
  unfold moveSub
  extract_lets v0 v1 v2 v3 v4
  clear_value v0
  have h5 : Keeps W z v1 := by
    unfold v1
    apply zeroSub_keeps
    · exact Sub.up (by decide) hW
    · apply setSub_keeps
      · exact Sub.up (by decide) hW
      · apply setSub_keeps
        · exact Sub.up (by decide) hW
        · apply copySub_keeps
          · exact Sub.up (by decide) hW
          · with_reducible assumption
  clear_value v1
  clear_value v2
  clear_value v3
  clear_value v4
  refine Keeps.congr (s := v1) ?_ rfl rfl rfl rfl rfl rfl kept kept kept kept kept (hW.chg rfl) kept (hW.chg rfl)
      kept kept kept kept kept kept kept (hW.chg rfl) kept kept kept kept kept kept
  with_reducible assumption

theorem publish_keeps {W : Nat} {z : State} (s : State) (idx : ℕ) (r : Region) (v : Staging) (hW : Sub 265584 W) (h_s
    : Keeps W z s) :
    Keeps W z (publish s idx r v) := by
  unfold publish
  extract_lets v0 v1 v2 v3 v4 v5 v6 v7 v8 v9 v10
  clear_value v0
  clear_value v1
  clear_value v2
  clear_value v3
  clear_value v4
  have h11 : Keeps W z v5 := by
    unfold v5
    refine foldl_keeps (P := Keeps W z) ?_ ?_
    · refine Keeps.congr (s := s) ?_ rfl rfl rfl rfl rfl rfl kept kept kept kept kept kept kept kept (hW.chg rfl)
          kept kept kept kept kept kept kept kept kept kept kept kept kept
      with_reducible assumption
    · intro y12 y13 y14
      apply moveSub_keeps
      · exact Sub.up (by decide) hW
      · apply moveSub_keeps
        · exact Sub.up (by decide) hW
        · with_reducible assumption
  clear_value v5
  have h15 : Keeps W z v6 := by
    unfold v6
    refine foldl_keeps (P := Keeps W z) ?_ ?_
    · with_reducible assumption
    · intro y16 y17 y18
      apply setPage_keeps
      · exact Sub.up (by decide) hW
      · with_reducible assumption
  clear_value v6
  have h19 : Keeps W z v7 := by
    unfold v7
    apply setRegion_keeps
    · exact Sub.up (by decide) hW
    · with_reducible assumption
  clear_value v7
  clear_value v8
  clear_value v9
  clear_value v10
  refine Keeps.congr (s := v7) ?_ rfl rfl rfl rfl rfl rfl kept kept kept (hW.chg rfl) kept kept kept kept kept kept
      kept kept kept kept kept kept kept kept kept kept kept kept
  with_reducible assumption

theorem execPublish_keeps {W : Nat} {z : State} (h : ℕ) (s : State) (hW : Sub 107347828 W) (h_s : Keeps W z s) :
    KeepsRes W z (execPublish h s) := by
  unfold execPublish
  apply allocCmd_keeps
  · exact Sub.up (by decide) hW
  · with_reducible assumption
  · intro y0 y1 y2
    extract_lets v3 v4 v5
    clear_value v3
    clear_value v4
    clear_value v5
    split
    · apply allocEnd_keeps
      · with_reducible assumption
      · with_reducible assumption
    · split
      · apply allocEnd_keeps
        · with_reducible assumption
        · with_reducible assumption
      · split
        · apply allocEnd_keeps
          · with_reducible assumption
          · with_reducible assumption
        · extract_lets v15 v16 v17
          have h18 : ∀ q1, Keeps W z q1 → Keeps W z (v15 q1) := by
            unfold v15
            intro y19 y20
            split
            · apply dropStaging_keeps
              · exact Sub.up (by decide) hW
              · with_reducible assumption
            · with_reducible assumption
          clear_value v15
          have h24 : Keeps W z v16 := by
            unfold v16
            split
            · apply publish_keeps
              · exact Sub.up (by decide) hW
              · with_reducible assumption
            · with_reducible assumption
          clear_value v16
          clear_value v17
          split
          · apply retryPromotes_keeps
            · with_reducible assumption
            · apply allocEnd_keeps
              · with_reducible assumption
              · apply h18
                with_reducible assumption
          · split
            · apply retryPromotes_keeps
              · with_reducible assumption
              · apply allocEnd_keeps
                · with_reducible assumption
                · apply h18
                  with_reducible assumption
            · apply retryPromotes_keeps
              · with_reducible assumption
              · apply allocEnd_keeps
                · with_reducible assumption
                · apply setRegion_keeps
                  · exact Sub.up (by decide) hW
                  · with_reducible assumption

theorem execPutCmpTimeout_keeps {W : Nat} {z : State} (op : ℕ) (tile : ℕ) (s : State) (hW : Sub 107347828 W) (h_s :
    Keeps W z s) :
    KeepsRes W z (execPutCmpTimeout op tile s) := by
  unfold execPutCmpTimeout
  apply guarded_keeps
  · with_reducible assumption
  · intro y0 y1
    extract_lets v2 v3
    clear_value v2
    clear_value v3
    apply failTile_keeps
    · with_reducible assumption
    · refine Keeps.congr (s := y0) ?_ rfl rfl rfl rfl rfl rfl kept kept kept kept kept kept kept kept (hW.chg rfl)
          kept kept kept kept kept kept kept kept kept kept kept kept kept
      with_reducible assumption

theorem setMsg_keeps {W : Nat} {z : State} (s : State) (e : ℕ) (m : MsgEntry) (hW : Sub 4096 W) (h_s : Keeps W z s) :
    Keeps W z (setMsg s e m) := by
  unfold setMsg
  refine Keeps.congr (s := s) ?_ rfl rfl rfl rfl rfl rfl kept kept kept kept kept kept kept kept kept (hW.chg rfl)
      kept kept kept kept kept kept kept kept kept kept kept kept
  with_reducible assumption

theorem putClash_keeps {W : Nat} {z : State} (s : State) (port : ℕ) (m : MsgEntry) (pkt : Packet) (hW : Sub 107062788
    W) (h_s : Keeps W z s) :
    Keeps W z (putClash s port m pkt) := by
  unfold putClash
  apply event_keeps
  · with_reducible assumption
  · apply discardPacket_keeps
    · exact Sub.up (by decide) hW
    · with_reducible assumption

theorem putIdle_keeps {W : Nat} {z : State} (s : State) (port : ℕ) (pkt : Packet) (hW : Sub 107085316 W) (h_s : Keeps
    W z s) :
    Keeps W z (putIdle s port pkt) := by
  unfold putIdle
  extract_lets v0 v1 v2
  clear_value v0
  clear_value v1
  have h3 : ∀ q1 q2, Keeps W z q1 → Keeps W z (v2 q1 q2) := by
    unfold v2
    intro y4 y5 y6
    apply msgTry_keeps
    · with_reducible assumption
    · apply setMsg_keeps
      · exact Sub.up (by decide) hW
      · with_reducible assumption
  clear_value v2
  split
  · split
    · apply discardPacket_keeps
      · exact Sub.up (by decide) hW
      · with_reducible assumption
    · apply h3
      with_reducible assumption
  · split
    · apply h3
      with_reducible assumption
    · apply putClash_keeps
      · exact Sub.up (by decide) hW
      · with_reducible assumption

theorem pieceGate_keeps {W : Nat} {z : State} (e : ℕ) (cls : ℕ) (p : Piece) (s : State) (hW : Sub 107347828 W) (h_s :
    Keeps W z s) :
    KeepsGo W z (pieceGate e cls p s) := by
  unfold pieceGate
  split
  extract_lets v4
  clear_value v4
  split
  · with_reducible assumption
  · split
    · with_reducible assumption
    · split
      · with_reducible assumption
      · split
        · rename_i x14 x15 x16
          have k17 := keeps_eq x16 (P := KeepsGo W z) (by
            apply writeGate_keeps
            · exact Sub.up (by decide) hW
            · with_reducible assumption
            )
          with_reducible assumption
        · rename_i x18 x19 x20 x21
          have k22 := keeps_eq x21 (P := KeepsGo W z) (by
            apply writeGate_keeps
            · exact Sub.up (by decide) hW
            · with_reducible assumption
            )
          with_reducible assumption
        · rename_i x23 x24 x25 x26
          have k27 := keeps_eq x26 (P := KeepsGo W z) (by
            apply writeGate_keeps
            · exact Sub.up (by decide) hW
            · with_reducible assumption
            )
          split
          · with_reducible assumption
          · split
            rename_i x30 x31 x32 x33
            have k34 := keeps_eq x33 (P := KeepsSnd W z) (by
              apply claimRun_keeps
              · with_reducible assumption
              · with_reducible assumption
              )
            split
            · with_reducible assumption
            · with_reducible assumption

theorem putGate_keeps {W : Nat} {z : State} (e : ℕ) (cls : ℕ) (ps : List Piece) (s : State) (hW : Sub 107347828 W)
    (h_s : Keeps W z s) :
    KeepsGo W z (putGate e cls ps s) := by
  unfold putGate
  apply goList_keeps
  · exact Sub.up (by decide) hW
  · intro y0 y1 y2
    apply Go.bind_keeps
    · apply pieceGate_keeps
      · with_reducible assumption
      · with_reducible assumption
    · intro y3 y4 y5
      with_reducible assumption
  · with_reducible assumption

theorem landingBit_keeps {W : Nat} {z : State} (s : State) (a : Arrival) (i : ℕ) (hW : Sub 80 W) (h_s : Keeps W z s) :
    Keeps W z (landingBit s a i) := by
  unfold landingBit
  extract_lets v0 v1
  clear_value v0
  clear_value v1
  apply setByte_keeps
  · with_reducible assumption
  · with_reducible assumption

theorem landingCount_keeps {W : Nat} {z : State} (s : State) (h : ℕ) (i : ℕ) (n : ℕ) (header : Bool) (hW : Sub 2128
    W) (h_s : Keeps W z s) :
    Keeps W z (landingCount s h i n header) := by
  unfold landingCount
  split
  · with_reducible assumption
  · extract_lets v6 v7 v8
    clear_value v6
    clear_value v7
    clear_value v8
    split
    · apply landingBit_keeps
      · exact Sub.up (by decide) hW
      · apply setOp_keeps
        · exact Sub.up (by decide) hW
        · with_reducible assumption
    · apply setOp_keeps
      · exact Sub.up (by decide) hW
      · with_reducible assumption

theorem pieceWrite_keeps {W : Nat} {z : State} (e : ℕ) (cls : ℕ) (pcode : ℕ) (p : Piece) (s : State) (hW : Sub
    107347828 W) (h_s : Keeps W z s) :
    KeepsSnd W z (pieceWrite e cls pcode p s) := by
  unfold pieceWrite
  split
  extract_lets v4 v5
  clear_value v4
  have h6 : ∀ q1 q2, Keeps W z q2 → Keeps W z (v5 q1 q2) := by
    unfold v5
    intro y7 y8 y9
    change KeepsSnd W z _
    apply writeLines_keeps
    · with_reducible assumption
    · with_reducible assumption
  clear_value v5
  split
  · change Keeps W z _
    dsimp only
    apply h6
    with_reducible assumption
  · extract_lets v17
    clear_value v17
    split
    · with_reducible assumption
    · change Keeps W z _
      dsimp only
      apply landingCount_keeps
      · exact Sub.up (by decide) hW
      · split
        · with_reducible assumption
        · apply h6
          with_reducible assumption

theorem putWrite_keeps {W : Nat} {z : State} (e cls pcode : Nat) (l : List (Piece × Nat)) (s : State) (hW : Sub
    107347828 W)
    (h : Keeps W z s) : KeepsSnd W z (putWrite e cls pcode l s) := by
  induction l generalizing s with
  | nil => exact h
  | cons p l ih =>
    unfold putWrite
    refine ih _ ?_
    split
    · exact h
    · exact pieceWrite_keeps _ _ _ _ _ (Sub.up (by decide) hW) h

theorem putReturn_keeps {W : Nat} {z : State} (s : State) (e : ℕ) (hW : Sub 33559040 W) (h_s : Keeps W z s) :
    Keeps W z (putReturn s e) := by
  unfold putReturn
  extract_lets v0 v1
  clear_value v0
  have h2 : Keeps W z v1 := by
    unfold v1
    apply count_keeps
    · exact Sub.up (by decide) hW
    · apply unchargeBacklog_keeps
      · exact Sub.up (by decide) hW
      · apply credit_keeps
        · exact Sub.up (by decide) hW
        · with_reducible assumption
  clear_value v1
  split
  · with_reducible assumption
  · apply setMsg_keeps
    · exact Sub.up (by decide) hW
    · with_reducible assumption

theorem putAccess_keeps {W : Nat} {z : State} (s : State) (e : ℕ) (cls : ℕ) (xs : List (Piece × ℕ)) (hW : Sub
    33560068 W) (h_s : Keeps W z s) :
    Keeps W z (putAccess s e cls xs) := by
  unfold putAccess
  extract_lets v0 v1 v2 v3
  clear_value v0
  clear_value v1
  clear_value v2
  have h4 : Keeps W z v3 := by
    unfold v3
    apply access_keeps
    · exact Sub.up (by decide) hW
    · with_reducible assumption
  clear_value v3
  split
  · with_reducible assumption
  · apply putReturn_keeps
    · exact Sub.up (by decide) hW
    · apply count_keeps
      · exact Sub.up (by decide) hW
      · apply touchPages_keeps
        · exact Sub.up (by decide) hW
        · with_reducible assumption

theorem putCount_keeps {W : Nat} {z : State} (s : State) (e : ℕ) (pkt : Packet) (sparse : Bool) (hW : Sub 107347828
    W) (h_s : Keeps W z s) :
    KeepsGo W z (putCount s e pkt sparse) := by
  unfold putCount
  extract_lets v0 v1
  have h2 : ∀ q1 q2, Keeps W z q1 → KeepsGo W z (v0 q1 q2) := by
    unfold v0
    intro y3 y4 y5
    extract_lets v6
    clear_value v6
    change Keeps W z _
    apply msgTry_keeps
    · exact Sub.up (by decide) hW
    · apply setMsg_keeps
      · exact Sub.up (by decide) hW
      · with_reducible assumption
  clear_value v0
  clear_value v1
  split
  · apply h2
    with_reducible assumption
  · split
    · apply h2
      with_reducible assumption
    · split
      · rename_i x14 x15 x16
        have k17 := keeps_eq x16 (P := KeepsGo W z) (by
          apply putGate_keeps
          · with_reducible assumption
          · with_reducible assumption
          )
        with_reducible assumption
      · rename_i x18 x19 x20 x21
        have k22 := keeps_eq x21 (P := KeepsGo W z) (by
          apply putGate_keeps
          · with_reducible assumption
          · with_reducible assumption
          )
        with_reducible assumption
      · rename_i x23 x24 x25 x26
        have k27 := keeps_eq x26 (P := KeepsGo W z) (by
          apply putGate_keeps
          · with_reducible assumption
          · with_reducible assumption
          )
        split
        rename_i x28 x29 x30 x31
        have k32 := keeps_eq x31 (P := KeepsSnd W z) (by
          apply putWrite_keeps
          · with_reducible assumption
          · apply putAccess_keeps
            · exact Sub.up (by decide) hW
            · with_reducible assumption
          )
        apply h2
        with_reducible assumption

theorem putOpen_keeps {W : Nat} {z : State} (s : State) (port : ℕ) (since : ℕ) (e : ℕ) (pkt : Packet) (hW : Sub
    33559040 W) (h_s : Keeps W z s) :
    Keeps W z (putOpen s port since e pkt) := by
  unfold putOpen
  extract_lets v0 v1 v2
  clear_value v0
  clear_value v1
  clear_value v2
  split
  · apply setMsg_keeps
    · exact Sub.up (by decide) hW
    · with_reducible assumption
  · extract_lets v8 v9
    clear_value v8
    clear_value v9
    split
    · apply setMsg_keeps
      · exact Sub.up (by decide) hW
      · with_reducible assumption
    · split
      · rename_i x12 x13
        have k14 := keeps_eq x13 (P := KeepsOpt W z) (by
          apply weirAdmit_keeps
          · exact Sub.up (by decide) hW
          · with_reducible assumption
          )
        apply setMsg_keeps
        · exact Sub.up (by decide) hW
        · apply refusedCount_keeps
          · exact Sub.up (by decide) hW
          · with_reducible assumption
      · rename_i x15 x16 x17
        have k18 := keeps_eq x17 (P := KeepsOpt W z) (by
          apply weirAdmit_keeps
          · exact Sub.up (by decide) hW
          · with_reducible assumption
          )
        apply setMsg_keeps
        · exact Sub.up (by decide) hW
        · with_reducible assumption

theorem putServe_keeps {W : Nat} {z : State} (s : State) (port : ℕ) (since : ℕ) (pkt : Packet) (sparse : Bool) (hW :
    Sub 107347828 W) (h_s : Keeps W z s) :
    KeepsGo W z (putServe s port since pkt sparse) := by
  unfold putServe
  extract_lets v0 v1
  clear_value v0
  clear_value v1
  split
  · split
    · change Keeps W z _
      apply discardPacket_keeps
      · exact Sub.up (by decide) hW
      · with_reducible assumption
    · apply putCount_keeps
      · with_reducible assumption
      · apply putOpen_keeps
        · exact Sub.up (by decide) hW
        · with_reducible assumption
  · split
    · apply putCount_keeps
      · with_reducible assumption
      · with_reducible assumption
    · change Keeps W z _
      apply putClash_keeps
      · exact Sub.up (by decide) hW
      · with_reducible assumption

theorem putPacket_keeps {W : Nat} {z : State} (kind : ℕ) (port : ℕ) (pkt : Packet) (s : State) (hW : Sub 107347828 W)
    (h_s : Keeps W z s) :
    KeepsRes W z (putPacket kind port pkt s) := by
  unfold putPacket
  split
  · with_reducible assumption
  · split
    · rename_i x2 x3
      have k4 := keeps_eq x3 (P := KeepsOpt W z) (by
        apply popRx_keeps
        · exact Sub.up (by decide) hW
        · with_reducible assumption
        )
      with_reducible assumption
    · rename_i x5 x6 x7
      have k8 := keeps_eq x7 (P := KeepsOpt W z) (by
        apply popRx_keeps
        · exact Sub.up (by decide) hW
        · with_reducible assumption
        )
      split
      · split
        · change Keeps W z _
          apply relayPacket_keeps
          · exact Sub.up (by decide) hW
          · with_reducible assumption
        · change Keeps W z _
          split
          · apply discardPacket_keeps
            · exact Sub.up (by decide) hW
            · with_reducible assumption
          · apply putIdle_keeps
            · exact Sub.up (by decide) hW
            · with_reducible assumption
      · split
        · change Keeps W z _
          apply discardPacket_keeps
          · exact Sub.up (by decide) hW
          · with_reducible assumption
        · split
          · rename_i x17 x18 x19
            have k20 := keeps_eq x19 (P := KeepsGo W z) (by
              apply putServe_keeps
              · with_reducible assumption
              · with_reducible assumption
              )
            with_reducible assumption
          · rename_i x21 x22 x23 x24
            have k25 := keeps_eq x24 (P := KeepsGo W z) (by
              apply putServe_keeps
              · with_reducible assumption
              · with_reducible assumption
              )
            change Keeps W z _
            refine KeepsOpt.getD ?_ ?_
            · apply popRx_keeps
              · exact Sub.up (by decide) hW
              · with_reducible assumption
            · with_reducible assumption
          · rename_i x26 x27 x28 x29
            have k30 := keeps_eq x29 (P := KeepsGo W z) (by
              apply putServe_keeps
              · with_reducible assumption
              · with_reducible assumption
              )
            change Keeps W z _
            refine KeepsOpt.getD ?_ ?_
            · apply popRx_keeps
              · exact Sub.up (by decide) hW
              · with_reducible assumption
            · with_reducible assumption

theorem execPutPacket_keeps {W : Nat} {z : State} (port : ℕ) (pkt : Packet) (s : State) (hW : Sub 107347828 W) (h_s :
    Keeps W z s) :
    KeepsRes W z (execPutPacket port pkt s) := by
  unfold execPutPacket
  apply putPacket_keeps
  · with_reducible assumption
  · with_reducible assumption

theorem execPutSparsePacket_keeps {W : Nat} {z : State} (port : ℕ) (pkt : Packet) (s : State) (hW : Sub 107347828 W)
    (h_s : Keeps W z s) :
    KeepsRes W z (execPutSparsePacket port pkt s) := by
  unfold execPutSparsePacket
  apply putPacket_keeps
  · with_reducible assumption
  · with_reducible assumption

theorem narrowDown_keeps {W : Nat} {z : State} (s : State) (p : ℕ) (hW : Sub 20740 W) (h_s : Keeps W z s) :
    Keeps W z (narrowDown s p) := by
  unfold narrowDown
  split
  · apply enterPower_keeps
    · exact Sub.up (by decide) hW
    · with_reducible assumption
  · apply startWidth_keeps
    · with_reducible assumption
    · with_reducible assumption

theorem execPwrAck_keeps {W : Nat} {z : State} (port : ℕ) (target : ℕ) (s : State) (hW : Sub 20740 W) (h_s : Keeps W
    z s) :
    KeepsRes W z (execPwrAck port target s) := by
  unfold execPwrAck
  apply onMsg_keeps
  · exact Sub.up (by decide) hW
  · with_reducible assumption
  · intro y0 y1
    split
    · extract_lets v3
      have h4 : Keeps W z v3 := by
        unfold v3
        apply answered_keeps
        · exact Sub.up (by decide) hW
        · with_reducible assumption
      clear_value v3
      split
      · apply narrowDown_keeps
        · with_reducible assumption
        · with_reducible assumption
      · apply enterPower_keeps
        · exact Sub.up (by decide) hW
        · with_reducible assumption
    · with_reducible assumption

theorem execPwrNak_keeps {W : Nat} {z : State} (port : ℕ) (target : ℕ) (s : State) (hW : Sub 16388 W) (h_s : Keeps W
    z s) :
    KeepsRes W z (execPwrNak port target s) := by
  unfold execPwrNak
  apply onMsg_keeps
  · with_reducible assumption
  · with_reducible assumption
  · intro y0 y1
    split
    · apply answered_keeps
      · with_reducible assumption
      · apply modLp_keeps
        · with_reducible assumption
        · with_reducible assumption
    · with_reducible assumption

theorem execPwrReq_keeps {W : Nat} {z : State} (port : ℕ) (target : ℕ) (s : State) (hW : Sub 16388 W) (h_s : Keeps W
    z s) :
    KeepsRes W z (execPwrReq port target s) := by
  unfold execPwrReq
  apply onMsg_keeps
  · with_reducible assumption
  · with_reducible assumption
  · intro y0 y1
    extract_lets v2 v3 v4
    clear_value v2
    have h5 : ∀ q1, Keeps W z q1 → Keeps W z (v3 q1) := by
      unfold v3
      intro y6 y7
      apply say_keeps
      · with_reducible assumption
      · with_reducible assumption
    clear_value v3
    have h8 : Keeps W z v4 := by
      unfold v4
      split
      · apply answered_keeps
        · with_reducible assumption
        · apply modLp_keeps
          · with_reducible assumption
          · with_reducible assumption
      · with_reducible assumption
    clear_value v4
    split
    · apply h5
      with_reducible assumption
    · split
      · with_reducible assumption
      · split
        · apply say_keeps
          · with_reducible assumption
          · with_reducible assumption
        · apply h5
          apply modLp_keeps
          · with_reducible assumption
          · with_reducible assumption

theorem execPwrTargetWrite_keeps {W : Nat} {z : State} (_id : ℕ) (port : ℕ) (value : W32) (s : State) (hW : Sub
    107347828 W) (h_s : Keeps W z s) :
    KeepsRes W z (execPwrTargetWrite _id port value s) := by
  unfold execPwrTargetWrite
  apply guarded_keeps
  · with_reducible assumption
  · intro y0 y1
    apply linkCtlWrite_keeps
    · with_reducible assumption
    · with_reducible assumption

theorem execQueryDeviceIdentifiers_keeps {W : Nat} {z : State} (s : State) (hW : Sub 67109888 W) (h_s : Keeps W z s) :
    KeepsRes W z (execQueryDeviceIdentifiers s) := by
  unfold execQueryDeviceIdentifiers
  change Keeps W z _
  apply pldmReply_keeps
  · with_reducible assumption
  · with_reducible assumption

theorem holdReset_keeps {W : Nat} {z : State} (s : State) (cause : ℕ) (hW : Sub 134217725 W) (h_s : Keeps W z s) :
    Keeps W z (holdReset s cause) := by
  unfold holdReset
  extract_lets v0 v1 v2 v3
  have h4 : Keeps W z v0 := by
    unfold v0
    apply coldBase_keeps
    · exact Sub.up (by decide) hW
    · apply dropTransfer_keeps
      · exact Sub.up (by decide) hW
      · with_reducible assumption
  clear_value v0
  clear_value v1
  clear_value v2
  have h5 : Keeps W z v3 := by
    unfold v3
    refine Keeps.congr (s := v0) ?_ rfl rfl rfl rfl rfl rfl (hW.chg rfl) (hW.chg rfl) (hW.chg rfl) kept kept kept
        kept kept kept kept kept kept kept kept (hW.chg rfl) kept kept (hW.chg rfl) (hW.chg rfl) kept kept (hW.chg
            rfl)
    with_reducible assumption
  clear_value v3
  apply put_keeps
  · exact Sub.up (by decide) hW
  · apply setCause_keeps
    · exact Sub.up (by decide) hW
    · with_reducible assumption

theorem execRailDrop_keeps {W : Nat} {z : State} (rail : ℕ) (s : State) (hW : Sub 134217725 W) (h_s : Keeps W z s) :
    KeepsRes W z (execRailDrop rail s) := by
  unfold execRailDrop
  apply guarded_keeps
  · with_reducible assumption
  · intro y0 y1
    apply holdReset_keeps
    · with_reducible assumption
    · with_reducible assumption

theorem execRailOrder_keeps {W : Nat} {z : State} (breachMs : ℕ) (s : State) (hW : Sub 134217725 W) (h_s : Keeps W z
    s) :
    KeepsRes W z (execRailOrder breachMs s) := by
  unfold execRailOrder
  split
  · exact trivial
  · apply guarded_keeps
    · with_reducible assumption
    · intro y2 y3
      extract_lets v4 v5
      have h6 : Keeps W z v4 := by
        unfold v4
        apply holdReset_keeps
        · with_reducible assumption
        · with_reducible assumption
      clear_value v4
      clear_value v5
      refine Keeps.congr (s := v4) ?_ rfl rfl rfl rfl rfl rfl kept kept kept kept kept kept kept kept kept kept kept
          kept kept kept kept kept kept (hW.chg rfl) kept kept kept kept
      with_reducible assumption

theorem nak_keeps {W : Nat} {z : State} (s : State) (eid : ℕ) (tag : ℕ) (sc : ℕ) (line : ℕ) (status : ℕ) (hW : Sub
    107085316 W) (h_s : Keeps W z s) :
    Keeps W z (nak s eid tag sc line status) := by
  unfold nak
  apply emit_keeps
  · with_reducible assumption
  · with_reducible assumption

theorem nakPacket_keeps {W : Nat} {z : State} (s : State) (pkt : Packet) (status : ℕ) (hW : Sub 107085316 W) (h_s :
    Keeps W z s) :
    Keeps W z (nakPacket s pkt status) := by
  unfold nakPacket
  apply nak_keeps
  · with_reducible assumption
  · with_reducible assumption

theorem reqServe_keeps {W : Nat} {z : State} (kind : ReqKind) (port : ℕ) (since : ℕ) (pkt : Packet) (s : State) (hW :
    Sub 107347828 W) (h_s : Keeps W z s) :
    Keeps W z (reqServe kind port since pkt s) := by
  unfold reqServe
  split
  · apply nakPacket_keeps
    · exact Sub.up (by decide) hW
    · with_reducible assumption
  · extract_lets v5 v6 v7 v8 v9 v10
    clear_value v5
    clear_value v6
    clear_value v7
    clear_value v8
    clear_value v9
    clear_value v10
    split
    · rename_i x11 x12
      have k13 := keeps_eq x12 (P := KeepsOpt W z) (by
        apply weirAdmit_keeps
        · exact Sub.up (by decide) hW
        · with_reducible assumption
        )
      apply nakPacket_keeps
      · exact Sub.up (by decide) hW
      · apply refusedCount_keeps
        · exact Sub.up (by decide) hW
        · with_reducible assumption
    · rename_i x14 x15 x16
      have k17 := keeps_eq x16 (P := KeepsOpt W z) (by
        apply weirAdmit_keeps
        · exact Sub.up (by decide) hW
        · with_reducible assumption
        )
      split
      · apply nakPacket_keeps
        · exact Sub.up (by decide) hW
        · apply count_keeps
          · exact Sub.up (by decide) hW
          · apply touchPages_keeps
            · exact Sub.up (by decide) hW
            · apply unadmit_keeps
              · exact Sub.up (by decide) hW
              · with_reducible assumption
      · extract_lets v20
        have h21 : Keeps W z v20 := by
          unfold v20
          split
          · apply startPromote_keeps
            · exact Sub.up (by decide) hW
            · with_reducible assumption
          · with_reducible assumption
        clear_value v20
        apply homeBegin_keeps
        · with_reducible assumption
        · apply access_keeps
          · exact Sub.up (by decide) hW
          · with_reducible assumption

theorem reqPacket_keeps {W : Nat} {z : State} (kind : ReqKind) (code : ℕ) (port : ℕ) (pkt : Packet) (s : State) (hW :
    Sub 107347828 W) (h_s : Keeps W z s) :
    KeepsRes W z (reqPacket kind code port pkt s) := by
  unfold reqPacket
  split
  · change Keeps W z _
    apply errInc_keeps
    · exact Sub.up (by decide) hW
    · with_reducible assumption
  · apply arrive_keeps
    · exact Sub.up (by decide) hW
    · with_reducible assumption
    · intro y2 y3
      apply nakPacket_keeps
      · exact Sub.up (by decide) hW
      · with_reducible assumption
    · intro y4 y5
      apply discardPacket_keeps
      · exact Sub.up (by decide) hW
      · with_reducible assumption
    · intro y6 y7
      apply reqServe_keeps
      · with_reducible assumption
      · with_reducible assumption

theorem execRdOnce_keeps {W : Nat} {z : State} (port : ℕ) (pkt : Packet) (s : State) (hW : Sub 107347828 W) (h_s :
    Keeps W z s) :
    KeepsRes W z (execRdOnce port pkt s) := by
  unfold execRdOnce
  apply reqPacket_keeps
  · with_reducible assumption
  · with_reducible assumption

theorem execRdOwn_keeps {W : Nat} {z : State} (port : ℕ) (pkt : Packet) (s : State) (hW : Sub 107347828 W) (h_s :
    Keeps W z s) :
    KeepsRes W z (execRdOwn port pkt s) := by
  unfold execRdOwn
  apply reqPacket_keeps
  · with_reducible assumption
  · with_reducible assumption

theorem execRdShared_keeps {W : Nat} {z : State} (port : ℕ) (pkt : Packet) (s : State) (hW : Sub 107347828 W) (h_s :
    Keeps W z s) :
    KeepsRes W z (execRdShared port pkt s) := by
  unfold execRdShared
  apply reqPacket_keeps
  · with_reducible assumption
  · with_reducible assumption

theorem regRead_keeps {W : Nat} {z : State} (s : State) (id : ℕ) (addr : ℕ) (hW : Sub 75531268 W) (h_s : Keeps W z s)
    :
    KeepsSnd W z (regRead s id addr) := by
  unfold regRead
  extract_lets v0 v1
  clear_value v0
  clear_value v1
  split
  · with_reducible assumption
  · split
    · change Keeps W z _
      dsimp only
      apply errInc_keeps
      · exact Sub.up (by decide) hW
      · with_reducible assumption
    · split
      · apply cntLo_keeps
        · with_reducible assumption
        · with_reducible assumption
      · split
        · apply windowRead_keeps
          · exact Sub.up (by decide) hW
          · with_reducible assumption
          · intro y9 y10
            with_reducible assumption
        · with_reducible assumption

theorem execRead32_keeps {W : Nat} {z : State} (addr : ℕ) (s : State) (hW : Sub 75531268 W) (h_s : Keeps W z s) :
    KeepsRes W z (execRead32 addr s) := by
  unfold execRead32
  apply sideband_keeps
  · exact Sub.up (by decide) hW
  · with_reducible assumption
  · intro y0 y1
    split
    rename_i x2 x3 x4 x5
    have k6 := keeps_eq x5 (P := KeepsSnd W z) (by
      apply regRead_keeps
      · with_reducible assumption
      · with_reducible assumption
      )
    apply put_keeps
    · exact Sub.up (by decide) hW
    · with_reducible assumption

theorem execRecallTimeout_keeps {W : Nat} {z : State} (line : ℕ) (agent : ℕ) (s : State) (hW : Sub 107347828 W) (h_s
    : Keeps W z s) :
    KeepsRes W z (execRecallTimeout line agent s) := by
  unfold execRecallTimeout
  split
  · with_reducible assumption
  · split
    · extract_lets v6 v7 v8 v9 v10
      clear_value v6
      have h11 : Keeps W z v7 := by
        unfold v7
        apply mirrorFence_keeps
        · exact Sub.up (by decide) hW
        · apply setAgent_keeps
          · exact Sub.up (by decide) hW
          · with_reducible assumption
      clear_value v7
      have h12 : Keeps W z v8 := by
        unfold v8
        apply count_keeps
        · exact Sub.up (by decide) hW
        · apply fenceEffects_keeps
          · exact Sub.up (by decide) hW
          · with_reducible assumption
      clear_value v8
      clear_value v9
      have h13 : Keeps W z v10 := by
        unfold v10
        refine Keeps.congr (s := v8) ?_ rfl rfl rfl rfl rfl rfl kept kept kept kept kept (hW.chg rfl) kept kept kept
            kept kept kept kept kept kept kept kept kept kept kept kept kept
        with_reducible assumption
      clear_value v10
      change Keeps W z _
      apply timeoutLine_keeps
      · with_reducible assumption
      · with_reducible assumption
    · with_reducible assumption

theorem foldRead_keeps {W : Nat} {z : State} (h : ℕ) (num : ℕ) (folds : List (ℕ × ℕ)) (va : ℕ) (n : ℕ) (s : State)
    (hW : Sub 107347956 W) (h_s : Keeps W z s) :
    KeepsGo W z (foldRead h num folds va n s) := by
  unfold foldRead
  apply Go.bind_keeps
  · apply tileEat_keeps
    · with_reducible assumption
    · with_reducible assumption
  · intro y0 y1 y2
    apply Go.bind_keeps
    · apply tileRuns_keeps
      · with_reducible assumption
      · with_reducible assumption
    · intro y3 y4 y5
      with_reducible assumption

theorem foldSpans_keeps {W : Nat} {z : State} (h num va opc fmt : Nat) (folds : List (Nat × Nat)) (ns : List Num)
    (l : List (Nat × Nat)) (s : State) (hW : Sub 107347956 W) (k : Keeps W z s) :
    KeepsGo W z (foldSpans h num va opc fmt folds ns l s) := by
  induction l generalizing s with
  | nil => exact k
  | cons e l ih =>
    obtain ⟨a, b⟩ := e
    unfold foldSpans
    refine Go.bind_keeps (foldRead_keeps _ _ _ _ _ _ (Sub.up (by decide) hW) k) fun _ s k => ?_
    dsimp only
    exact Go.bind_keeps (tilePut_keeps _ _ _ _ _ _ (Sub.up (by decide) hW) k) fun _ s k => Go.bind_keeps (ih s k) fun
        _ _ k => k

theorem execReduceAccum_keeps {W : Nat} {z : State} (op : ℕ) (tile : ℕ) (s : State) (hW : Sub 107347956 W) (h_s :
    Keeps W z s) :
    KeepsRes W z (execReduceAccum op tile s) := by
  unfold execReduceAccum
  apply runStation_keeps
  · exact Sub.up (by decide) hW
  · with_reducible assumption
  · intro y0 y1 y2
    extract_lets v3 v4 v5 v6 v7 v8
    clear_value v3
    clear_value v4
    clear_value v5
    clear_value v6
    clear_value v7
    clear_value v8
    apply Go.bind_keeps
    · apply goList_keeps
      · exact Sub.up (by decide) hW
      · intro y9 y10 y11
        apply tileRuns_keeps
        · with_reducible assumption
        · with_reducible assumption
      · with_reducible assumption
    · intro y12 y13 y14
      extract_lets v15 v16
      clear_value v15
      have h17 : KeepsGo W z v16 := by
        unfold v16
        apply Go.bind_keeps
        · apply goList_keeps
          · exact Sub.up (by decide) hW
          · intro y18 y19 y20
            apply tileClaim_keeps
            · with_reducible assumption
            · with_reducible assumption
          · with_reducible assumption
        · intro y21 y22 y23
          apply Go.bind_keeps
          · apply foldSpans_keeps
            · with_reducible assumption
            · with_reducible assumption
          · intro y24 y25 y26
            split
            · apply Go.bind_keeps
              · apply foldRead_keeps
                · with_reducible assumption
                · with_reducible assumption
              · intro y28 y29 y30
                with_reducible assumption
            · with_reducible assumption
      clear_value v16
      split
      · with_reducible assumption
      · split
        · change Keeps W z _
          apply modTile_keeps
          · exact Sub.up (by decide) hW
          · with_reducible assumption
        · with_reducible assumption

theorem execReduceGroup_keeps {W : Nat} {z : State} (op : ℕ) (tile : ℕ) (s : State) (hW : Sub 107347828 W) (h_s :
    Keeps W z s) :
    KeepsRes W z (execReduceGroup op tile s) := by
  unfold execReduceGroup
  apply runStation_keeps
  · with_reducible assumption
  · with_reducible assumption
  · intro y0 y1 y2
    with_reducible assumption

theorem markLost_keeps {W : Nat} {z : State} (s : State) (h : ℕ) (hW : Sub 107347956 W) (h_s : Keeps W z s) :
    Keeps W z (markLost s h) := by
  unfold markLost
  split
  · with_reducible assumption
  · split
    · with_reducible assumption
    · extract_lets v13 v14
      have h15 : ∀ q1, Keeps W z q1 → Keeps W z (v13 q1) := by
        unfold v13
        intro y16 y17
        apply modArrival_keeps
        · exact Sub.up (by decide) hW
        · with_reducible assumption
      clear_value v13
      have h18 : KeepsGo W z v14 := by
        unfold v14
        split
        · with_reducible assumption
        · apply Go.bind_keeps
          · apply opRuns_keeps
            · with_reducible assumption
            · with_reducible assumption
          · intro y25 y26 y27
            apply Go.bind_keeps
            · apply goList_keeps
              · exact Sub.up (by decide) hW
              · intro y28 y29 y30
                apply userStore_keeps
                · exact Sub.up (by decide) hW
                · with_reducible assumption
              · with_reducible assumption
            · intro y31 y32 y33
              with_reducible assumption
      clear_value v14
      split
      · apply h15
        with_reducible assumption
      · with_reducible assumption
      · apply h15
        with_reducible assumption

theorem execReductionComplete_keeps {W : Nat} {z : State} (h : ℕ) (s : State) (hW : Sub 107347956 W) (h_s : Keeps W z
    s) :
    KeepsRes W z (execReductionComplete h s) := by
  unfold execReductionComplete
  split
  · with_reducible assumption
  · split
    · with_reducible assumption
    · apply guarded_keeps
      · with_reducible assumption
      · intro y10 y11
        apply closeReduction_keeps
        · exact Sub.up (by decide) hW
        · apply markLost_keeps
          · with_reducible assumption
          · with_reducible assumption

theorem execRefLost_keeps {W : Nat} {z : State} (pll : Bool) (s : State) (hW : Sub 134217725 W) (h_s : Keeps W z s) :
    KeepsRes W z (execRefLost pll s) := by
  unfold execRefLost
  apply guarded_keeps
  · with_reducible assumption
  · intro y0 y1
    apply wr_keeps
    · exact Sub.up (by decide) hW
    · apply holdReset_keeps
      · with_reducible assumption
      · with_reducible assumption

theorem execRefsbDue_keeps {W : Nat} {z : State} (ch : ℕ) (sc : ℕ) (bank : ℕ) (s : State) (hW : Sub 100926468
    W) (h_s : Keeps W z s) :
    KeepsRes W z (execRefsbDue ch sc bank s) := by
  unfold execRefsbDue
  extract_lets v0 v1
  clear_value v0
  clear_value v1
  apply guarded_keeps
  · with_reducible assumption
  · intro y2 y3
    extract_lets v4 v5 v6 v7
    clear_value v4
    clear_value v5
    clear_value v6
    have h8 : Keeps W z v7 := by
      unfold v7
      refine Keeps.congr (s := y2) ?_ rfl rfl rfl rfl rfl rfl kept kept kept kept kept kept kept kept kept kept kept
          kept kept kept kept (hW.chg rfl) kept kept kept kept kept kept
      with_reducible assumption
    clear_value v7
    split
    · apply count_keeps
      · exact Sub.up (by decide) hW
      · refine Keeps.congr (s := y2) ?_ rfl rfl rfl rfl rfl rfl kept kept kept kept kept kept kept kept kept kept
            kept kept kept kept kept (hW.chg rfl) kept kept kept kept kept kept
        with_reducible assumption
    · apply dlyInstall_keeps
      · exact Sub.up (by decide) hW
      · refine foldl_keeps (P := Keeps W z) ?_ ?_
        · with_reducible assumption
        · intro y11 y12 y13
          apply put_keeps
          · exact Sub.up (by decide) hW
          · with_reducible assumption

theorem execRegisterWrite_keeps {W : Nat} {z : State} (id : ℕ) (addr : ℕ) (size : ℕ) (value : BitVec 64) (s : State)
    (hW : Sub 117440510 W) (h_s : Keeps W z s) :
    KeepsRes W z (execRegisterWrite id addr size value s) := by
  unfold execRegisterWrite
  apply busWrite_keeps
  · with_reducible assumption
  · with_reducible assumption

theorem execReinstateTestDone_keeps {W : Nat} {z : State} (group : ℕ) (pass : Bool) (s : State) (hW : Sub 532484 W)
    (h_s : Keeps W z s) :
    KeepsRes W z (execReinstateTestDone group pass s) := by
  unfold execReinstateTestDone
  split
  · with_reducible assumption
  · extract_lets v5 v6 v7 v8 v9 v10
    clear_value v5
    have h11 : Keeps W z v6 := by
      unfold v6
      apply wb_keeps
      · exact Sub.up (by decide) hW
      · refine Keeps.congr (s := s) ?_ rfl rfl rfl rfl rfl rfl kept kept kept kept kept kept kept kept kept kept kept
            kept kept kept kept kept (hW.chg rfl) kept kept kept kept kept
        with_reducible assumption
    clear_value v6
    have h12 : Keeps W z v7 := by
      unfold v7
      apply setPwr_keeps
      · exact Sub.up (by decide) hW
      · apply setBankRole_keeps
        · exact Sub.up (by decide) hW
        · with_reducible assumption
    clear_value v7
    clear_value v8
    clear_value v9
    have h13 : Keeps W z v10 := by
      unfold v10
      split
      · refine Keeps.congr (s := v7) ?_ rfl rfl rfl rfl rfl rfl kept kept kept kept kept kept kept kept kept kept
            (hW.chg rfl) kept kept kept kept kept (hW.chg rfl) kept kept kept kept kept
        with_reducible assumption
      · apply cmdErr_keeps
        · exact Sub.up (by decide) hW
        · with_reducible assumption
    clear_value v10
    change Keeps W z _
    apply bankLedger_keeps
    · exact Sub.up (by decide) hW
    · with_reducible assumption

theorem execRelay_keeps {W : Nat} {z : State} (port : ℕ) (what : Relayed) (s : State) (hW : Sub 107347828 W) (h_s :
    Keeps W z s) :
    KeepsRes W z (execRelay port what s) := by
  unfold execRelay
  extract_lets v0
  clear_value v0
  apply guarded_keeps
  · with_reducible assumption
  · intro y1 y2
    split
    · rename_i x3 x4
      have k5 := keeps_eq x4 (P := KeepsOpt W z) (by
        apply takeRunnel_keeps
        · exact Sub.up (by decide) hW
        · with_reducible assumption
        )
      with_reducible assumption
    · rename_i x6 x7 x8
      have k9 := keeps_eq x8 (P := KeepsOpt W z) (by
        apply takeRunnel_keeps
        · exact Sub.up (by decide) hW
        · with_reducible assumption
        )
      split
      · refine Keeps.congr (s := x7) ?_ rfl rfl rfl rfl rfl rfl kept kept kept kept kept kept kept kept kept kept
            kept (hW.chg rfl) kept kept kept kept kept kept kept kept kept kept
        with_reducible assumption
      · apply cxlArrive_keeps
        · with_reducible assumption
        · with_reducible assumption
      · apply cxlArrive_keeps
        · with_reducible assumption
        · with_reducible assumption

theorem execRemapCopyDone_keeps {W : Nat} {z : State} (ch : ℕ) (s : State) (hW : Sub 107324932 W) (h_s : Keeps W z s)
    :
    KeepsRes W z (execRemapCopyDone ch s) := by
  unfold execRemapCopyDone
  split
  · with_reducible assumption
  · extract_lets v7 v8 v9 v10
    clear_value v7
    have h11 : Keeps W z v8 := by
      unfold v8
      refine Keeps.congr (s := s) ?_ rfl rfl rfl rfl rfl rfl kept kept kept kept kept kept kept kept kept kept kept
          kept kept kept kept (hW.chg rfl) kept kept kept kept kept kept
      with_reducible assumption
    clear_value v8
    have h12 : Keeps W z v9 := by
      unfold v9
      apply wb_keeps
      · exact Sub.up (by decide) hW
      · apply remapInstall_keeps
        · exact Sub.up (by decide) hW
        · with_reducible assumption
    clear_value v9
    have h13 : Keeps W z v10 := by
      unfold v10
      apply setTrackRows_keeps
      · exact Sub.up (by decide) hW
      · with_reducible assumption
    clear_value v10
    change Keeps W z _
    apply reserveEvent_keeps
    · exact Sub.up (by decide) hW
    · apply setIsr_keeps
      · exact Sub.up (by decide) hW
      · with_reducible assumption

theorem execReplayReq_keeps {W : Nat} {z : State} (port : ℕ) (seq : ℕ) (s : State) (hW : Sub 20740 W) (h_s : Keeps W
    z s) :
    KeepsRes W z (execReplayReq port seq s) := by
  unfold execReplayReq
  apply onMsg_keeps
  · exact Sub.up (by decide) hW
  · with_reducible assumption
  · intro y0 y1
    extract_lets v2 v3
    clear_value v2
    clear_value v3
    split
    · apply beginReplay_keeps
      · with_reducible assumption
      · with_reducible assumption
    · with_reducible assumption

theorem execReplayReqTimeout_keeps {W : Nat} {z : State} (port : ℕ) (s : State) (hW : Sub 16388 W) (h_s : Keeps W z
    s) :
    KeepsRes W z (execReplayReqTimeout port s) := by
  unfold execReplayReqTimeout
  apply guarded_keeps
  · with_reducible assumption
  · intro y0 y1
    apply say_keeps
    · with_reducible assumption
    · with_reducible assumption

theorem execRequestUpdate_keeps {W : Nat} {z : State} (s : State) (hW : Sub 71304196 W) (h_s : Keeps W z s) :
    KeepsRes W z (execRequestUpdate s) := by
  unfold execRequestUpdate
  split
  · change Keeps W z _
    apply pldmReply_keeps
    · exact Sub.up (by decide) hW
    · with_reducible assumption
  · extract_lets v2 v3
    have h4 : Keeps W z v2 := by
      unfold v2
      split
      · apply setFwu_keeps
        · exact Sub.up (by decide) hW
        · with_reducible assumption
      · with_reducible assumption
    clear_value v2
    clear_value v3
    change Keeps W z _
    apply pldmReply_keeps
    · exact Sub.up (by decide) hW
    · refine Keeps.congr (s := v2) ?_ rfl rfl rfl rfl rfl rfl kept kept kept kept kept kept kept kept kept kept kept
          kept kept kept kept kept kept kept kept (hW.chg rfl) kept kept
      with_reducible assumption

theorem execReservationPreemptDone_keeps {W : Nat} {z : State} (drive : ℕ) (s : State) (hW : Sub 107347828 W) (h_s :
    Keeps W z s) :
    KeepsRes W z (execReservationPreemptDone drive s) := by
  unfold execReservationPreemptDone
  apply guarded_keeps
  · with_reducible assumption
  · intro y0 y1
    extract_lets v2 v3 v4 v5 v6
    clear_value v2
    clear_value v3
    have h7 : Keeps W z v4 := by
      unfold v4
      refine Keeps.congr (s := y0) ?_ rfl rfl rfl rfl rfl rfl kept kept kept kept kept kept kept (hW.chg rfl) kept
          kept kept kept kept kept kept kept kept kept kept kept kept kept
      with_reducible assumption
    clear_value v4
    have h8 : Keeps W z v5 := by
      unfold v5
      refine foldl_keeps (P := Keeps W z) ?_ ?_
      · apply setHeld_keeps
        · exact Sub.up (by decide) hW
        · with_reducible assumption
      · intro y9 y10 y11
        apply put_keeps
        · exact Sub.up (by decide) hW
        · with_reducible assumption
    clear_value v5
    have h12 : Keeps W z v6 := by
      unfold v6
      refine foldl_keeps (P := Keeps W z) ?_ ?_
      · with_reducible assumption
      · intro y13 y14 y15
        apply readCis_keeps
        · exact Sub.up (by decide) hW
        · with_reducible assumption
    clear_value v6
    apply retryPromotes_keeps
    · with_reducible assumption
    · with_reducible assumption

theorem execReserveGoldenTileDone_keeps {W : Nat} {z : State} (cluster : ℕ) (pass : Bool) (s : State) (hW : Sub
    107064836 W) (h_s : Keeps W z s) :
    KeepsRes W z (execReserveGoldenTileDone cluster pass s) := by
  unfold execReserveGoldenTileDone
  split
  · split
    · with_reducible assumption
    · extract_lets v8 v9 v10 v11 v12
      have h13 : Keeps W z v8 := by
        unfold v8
        apply setRole_keeps
        · exact Sub.up (by decide) hW
        · with_reducible assumption
      clear_value v8
      have h14 : Keeps W z v9 := by
        unfold v9
        apply engineLedger_keeps
        · exact Sub.up (by decide) hW
        · apply wf_keeps
          · exact Sub.up (by decide) hW
          · apply setRole_keeps
            · exact Sub.up (by decide) hW
            · with_reducible assumption
      clear_value v9
      clear_value v10
      have h15 : Keeps W z v11 := by
        unfold v11
        refine Keeps.congr (s := v9) ?_ rfl rfl rfl rfl rfl rfl kept kept kept kept kept kept kept kept (hW.chg rfl)
            kept kept kept kept kept kept kept kept kept kept kept kept kept
        with_reducible assumption
      clear_value v11
      have h16 : Keeps W z v12 := by
        unfold v12
        apply engineLedger_keeps
        · exact Sub.up (by decide) hW
        · apply setRole_keeps
          · exact Sub.up (by decide) hW
          · with_reducible assumption
      clear_value v12
      split
      · change Keeps W z _
        apply reserveEvent_keeps
        · exact Sub.up (by decide) hW
        · with_reducible assumption
      · change Keeps W z _
        apply retireCore_keeps
        · exact Sub.up (by decide) hW
        · apply event_keeps
          · exact Sub.up (by decide) hW
          · with_reducible assumption
  · with_reducible assumption

theorem execReservePowerUp_keeps {W : Nat} {z : State} (cluster : ℕ) (s : State) (hW : Sub 4 W) (h_s : Keeps W z s) :
    KeepsRes W z (execReservePowerUp cluster s) := by
  unfold execReservePowerUp
  split
  · change Keeps W z _
    apply setGated_keeps
    · with_reducible assumption
    · with_reducible assumption
  · with_reducible assumption

end Sys2Proof.Machine
end

