-- ==== Sys2Proof/Laws/Keeps8.lean ====
section
/-!
SUPPORT. Each operation keeps what Keeps.lean names, part 8: one lemma an operation, in the order of use.
-/
namespace Sys2Proof.Machine

theorem growRegion_keeps {W : Nat} {z : State} (s : State) (h : ℕ) (idx : ℕ) (r : Region) (new : ℕ) (hW : Sub
    107347828 W) (h_s : Keeps W z s) :
    Keeps W z (growRegion s h idx r new) := by
  unfold growRegion
  extract_lets v0 v1 v2 v3
  clear_value v0
  have h4 : Keeps W z v1 := by
    unfold v1
    apply setRegion_keeps
    · exact Sub.up (by decide) hW
    · with_reducible assumption
  clear_value v1
  have h5 : Keeps W z v2 := by
    unfold v2
    apply chargeAdd_keeps
    · exact Sub.up (by decide) hW
    · with_reducible assumption
  clear_value v2
  have h6 : Keeps W z v3 := by
    unfold v3
    apply pinCharge_keeps
    · exact Sub.up (by decide) hW
    · split
      · apply chargeAdd_keeps
        · exact Sub.up (by decide) hW
        · with_reducible assumption
      · with_reducible assumption
  clear_value v3
  split
  · apply allocEnd_keeps
    · with_reducible assumption
    · with_reducible assumption
  · apply allocEnd_keeps
    · with_reducible assumption
    · apply pinStep_keeps
      · exact Sub.up (by decide) hW
      · with_reducible assumption

theorem shrinkRegion_keeps {W : Nat} {z : State} (s : State) (h : ℕ) (idx : ℕ) (r : Region) (new : ℕ) (force : Bool)
    (hW : Sub 107347828 W) (h_s : Keeps W z s) :
    Keeps W z (shrinkRegion s h idx r new force) := by
  unfold shrinkRegion
  extract_lets v0 v1 v2 v3
  clear_value v0
  have h4 : Keeps W z v1 := by
    unfold v1
    refine Keeps.congr (s := s) ?_ rfl rfl rfl rfl rfl rfl kept kept kept kept kept kept kept kept (hW.chg rfl) kept
        kept kept kept kept kept kept kept kept kept kept kept kept
    with_reducible assumption
  clear_value v1
  have h5 : Keeps W z v2 := by
    unfold v2
    apply setRegion_keeps
    · exact Sub.up (by decide) hW
    · with_reducible assumption
  clear_value v2
  have h6 : Keeps W z v3 := by
    unfold v3
    apply retryTier_keeps
    · with_reducible assumption
    · apply abandonFreed_keeps
      · exact Sub.up (by decide) hW
      · with_reducible assumption
  clear_value v3
  apply modOp_keeps
  · exact Sub.up (by decide) hW
  · apply leaveQueue_keeps
    · exact Sub.up (by decide) hW
    · with_reducible assumption

theorem resizeRegion_keeps {W : Nat} {z : State} (s : State) (h : ℕ) (o : Op) (idx : ℕ) (r : Region) (hW : Sub
    107347828 W) (h_s : Keeps W z s) :
    Keeps W z (resizeRegion s h o idx r) := by
  unfold resizeRegion
  extract_lets v0
  clear_value v0
  split
  · apply allocEnd_keeps
    · with_reducible assumption
    · with_reducible assumption
  · split
    · apply growRegion_keeps
      · with_reducible assumption
      · with_reducible assumption
    · split
      · apply shrinkRegion_keeps
        · with_reducible assumption
        · with_reducible assumption
      · apply allocEnd_keeps
        · with_reducible assumption
        · with_reducible assumption

theorem execResize_keeps {W : Nat} {z : State} (h : ℕ) (s : State) (hW : Sub 107347828 W) (h_s : Keeps W z s) :
    KeepsRes W z (execResize h s) := by
  unfold execResize
  apply regionCmd_keeps
  · with_reducible assumption
  · with_reducible assumption
  · intro y0 y1 y2 y3 y4
    split
    · apply modOp_keeps
      · exact Sub.up (by decide) hW
      · with_reducible assumption
    · apply resizeRegion_keeps
      · with_reducible assumption
      · with_reducible assumption

theorem execResizeGrowResume_keeps {W : Nat} {z : State} (h : ℕ) (s : State) (hW : Sub 107347828 W) (h_s : Keeps W z
    s) :
    KeepsRes W z (execResizeGrowResume h s) := by
  unfold execResizeGrowResume
  split
  · with_reducible assumption
  · split
    · with_reducible assumption
    · split
      · split
        · change Keeps W z _
          apply allocEnd_keeps
          · with_reducible assumption
          · with_reducible assumption
        · apply guarded_keeps
          · with_reducible assumption
          · intro y12 y13
            apply resizeRegion_keeps
            · with_reducible assumption
            · apply modOp_keeps
              · exact Sub.up (by decide) hW
              · with_reducible assumption
      · change Keeps W z _
        apply allocEnd_keeps
        · with_reducible assumption
        · with_reducible assumption

theorem trimVersions_keeps {W : Nat} {z : State} (s : State) (idx : ℕ) (dom : ℕ) (base : ℕ) (pages : ℕ) (hW : Sub
    100926580 W) (h_s : Keeps W z s) :
    Keeps W z (trimVersions s idx dom base pages) := by
  unfold trimVersions
  extract_lets v0 v1 v2 v3 v4
  clear_value v0
  clear_value v1
  have h5 : Keeps W z v2 := by
    unfold v2
    refine foldl_keeps (P := Keeps W z) ?_ ?_
    · with_reducible assumption
    · intro y6 y7 y8
      apply dropVersion_keeps
      · with_reducible assumption
      · with_reducible assumption
  clear_value v2
  have h9 : Keeps W z v3 := by
    unfold v3
    refine foldl_keeps (P := Keeps W z) ?_ ?_
    · with_reducible assumption
    · intro y10 y11 y12
      apply dropVersion_keeps
      · with_reducible assumption
      · with_reducible assumption
  clear_value v3
  clear_value v4
  refine Keeps.congr (s := v3) ?_ rfl rfl rfl rfl rfl rfl kept kept kept (hW.chg rfl) kept kept kept kept kept kept
      kept kept kept kept kept kept kept kept kept kept kept kept
  with_reducible assumption

theorem shrinkNow_keeps {W : Nat} {z : State} (s : State) (idx : ℕ) (r : Region) (hW : Sub 100928756 W) (h_s : Keeps
    W z s) :
    Keeps W z (shrinkNow s idx r) := by
  unfold shrinkNow
  extract_lets v0 v1 v2 v3
  clear_value v0
  clear_value v1
  have h4 : Keeps W z v2 := by
    unfold v2
    apply invalidatePas_keeps
    · exact Sub.up (by decide) hW
    · apply invalidatePas_keeps
      · exact Sub.up (by decide) hW
      · with_reducible assumption
  clear_value v2
  have h5 : Keeps W z v3 := by
    unfold v3
    apply trimVersions_keeps
    · exact Sub.up (by decide) hW
    · with_reducible assumption
  clear_value v3
  split
  rename_i x6 x7 x8 x9
  have k10 := keeps_eq x9 (P := KeepsFst W z) (by
    apply releasePages_keeps
    · exact Sub.up (by decide) hW
    · with_reducible assumption
    )
  extract_lets v11 v12 v13
  clear_value v11
  clear_value v12
  have h14 : Keeps W z v13 := by
    unfold v13
    apply setRegion_keeps
    · exact Sub.up (by decide) hW
    · with_reducible assumption
  clear_value v13
  apply pinRelease_keeps
  · exact Sub.up (by decide) hW
  · apply chargeSub_keeps
    · exact Sub.up (by decide) hW
    · apply chargeSub_keeps
      · exact Sub.up (by decide) hW
      · with_reducible assumption

theorem execResizeShrinkComplete_keeps {W : Nat} {z : State} (h : ℕ) (s : State) (hW : Sub 107347956 W) (h_s : Keeps
    W z s) :
    KeepsRes W z (execResizeShrinkComplete h s) := by
  unfold execResizeShrinkComplete
  split
  · with_reducible assumption
  · extract_lets v5
    clear_value v5
    split
    · with_reducible assumption
    · split
      · change Keeps W z _
        apply endOp_keeps
        · exact Sub.up (by decide) hW
        · with_reducible assumption
      · extract_lets v13 v14 v15 v16
        clear_value v13
        clear_value v14
        have h17 : Keeps W z v15 := by
          unfold v15
          apply recallLines_keeps
          · exact Sub.up (by decide) hW
          · with_reducible assumption
        clear_value v15
        have h18 : Keeps W z v16 := by
          unfold v16
          apply retryPromotes_keeps
          · exact Sub.up (by decide) hW
          · apply shrinkNow_keeps
            · exact Sub.up (by decide) hW
            · with_reducible assumption
        clear_value v16
        split
        · with_reducible assumption
        · split
          · with_reducible assumption
          · change Keeps W z _
            apply endOp_keeps
            · exact Sub.up (by decide) hW
            · apply gauge_keeps
              · exact Sub.up (by decide) hW
              · with_reducible assumption

theorem execResume_keeps {W : Nat} {z : State} (h : ℕ) (s : State) (hW : Sub 107347828 W) (h_s : Keeps W z s) :
    KeepsRes W z (execResume h s) := by
  unfold execResume
  apply control_keeps
  · with_reducible assumption
  · with_reducible assumption
  · intro y0 y1 y2 y3
    split
    · split
      · apply endWith_keeps
        · with_reducible assumption
        · with_reducible assumption
      · extract_lets v8
        have h9 : Keeps W z v8 := by
          unfold v8
          apply modOp_keeps
          · exact Sub.up (by decide) hW
          · with_reducible assumption
        clear_value v8
        apply endWith_keeps
        · with_reducible assumption
        · apply settleOp_keeps
          · with_reducible assumption
          · with_reducible assumption
    · with_reducible assumption
    · apply endWith_keeps
      · with_reducible assumption
      · with_reducible assumption

theorem finishSync_keeps {W : Nat} {z : State} (s : State) (hW : Sub 35652096 W) (h_s : Keeps W z s) :
    Keeps W z (finishSync s) := by
  unfold finishSync
  extract_lets v0
  have h1 : Keeps W z v0 := by
    unfold v0
    refine foldl_keeps (P := Keeps W z) ?_ ?_
    · with_reducible assumption
    · intro y2 y3 y4
      apply deltaSub_keeps
      · with_reducible assumption
      · with_reducible assumption
  clear_value v0
  apply sendRunnel_keeps
  · with_reducible assumption
  · apply modPair_keeps
    · exact Sub.up (by decide) hW
    · with_reducible assumption

theorem execResyncComplete_keeps {W : Nat} {z : State} (s : State) (hW : Sub 107347828 W) (h_s : Keeps W z s) :
    KeepsRes W z (execResyncComplete s) := by
  unfold execResyncComplete
  split
  · change Keeps W z _
    apply portsFollow_keeps
    · with_reducible assumption
    · apply modPair_keeps
      · exact Sub.up (by decide) hW
      · apply wf_keeps
        · exact Sub.up (by decide) hW
        · apply setPair_keeps
          · exact Sub.up (by decide) hW
          · with_reducible assumption
  · apply guarded_keeps
    · with_reducible assumption
    · intro y4 y5
      extract_lets v6
      have h7 : Keeps W z v6 := by
        unfold v6
        apply wr_keeps
        · exact Sub.up (by decide) hW
        · apply finishSync_keeps
          · exact Sub.up (by decide) hW
          · with_reducible assumption
      clear_value v6
      apply setClean_keeps
      · exact Sub.up (by decide) hW
      · apply wf_keeps
        · exact Sub.up (by decide) hW
        · apply setPair_keeps
          · exact Sub.up (by decide) hW
          · with_reducible assumption
  · with_reducible assumption

theorem portFail_keeps {W : Nat} {z : State} (s : State) (p : ℕ) (hW : Sub 107347828 W) (h_s : Keeps W z s) :
    Keeps W z (portFail s p) := by
  unfold portFail
  apply portDown_keeps
  · with_reducible assumption
  · apply event_keeps
    · exact Sub.up (by decide) hW
    · with_reducible assumption

theorem trained_keeps {W : Nat} {z : State} (s : State) (p : ℕ) (tx : BitVec 9) (rx : BitVec 9) (hW : Sub 107079172
    W) (h_s : Keeps W z s) :
    Keeps W z (trained s p tx rx) := by
  unfold trained
  extract_lets v0
  clear_value v0
  split
  extract_lets v6 v7 v8 v9 v10 v11 v12
  clear_value v6
  clear_value v7
  clear_value v8
  clear_value v9
  have h13 : Keeps W z v10 := by
    unfold v10
    apply setLinkState_keeps
    · exact Sub.up (by decide) hW
    · apply setLanes_keeps
      · exact Sub.up (by decide) hW
      · apply wf_keeps
        · exact Sub.up (by decide) hW
        · with_reducible assumption
  clear_value v10
  have h14 : Keeps W z v11 := by
    unfold v11
    split
    · apply laneEvents_keeps
      · exact Sub.up (by decide) hW
      · with_reducible assumption
    · with_reducible assumption
  clear_value v11
  have h17 : Keeps W z v12 := by
    unfold v12
    apply modLp_keeps
    · exact Sub.up (by decide) hW
    · with_reducible assumption
  clear_value v12
  split
  · apply say_keeps
    · exact Sub.up (by decide) hW
    · apply modLp_keeps
      · exact Sub.up (by decide) hW
      · with_reducible assumption
  · with_reducible assumption

theorem execRetrainComplete_keeps {W : Nat} {z : State} (port : ℕ) (txOk : BitVec 9) (rxOk : BitVec 9) (exchangeOk :
    Bool) (s : State) (hW : Sub 107347828 W) (h_s : Keeps W z s) :
    KeepsRes W z (execRetrainComplete port txOk rxOk exchangeOk s) := by
  unfold execRetrainComplete
  extract_lets v0 v1 v2
  clear_value v0
  clear_value v1
  have h3 : Keeps W z v2 := by
    unfold v2
    split
    · apply portFail_keeps
      · with_reducible assumption
      · with_reducible assumption
    · split
      · apply trained_keeps
        · exact Sub.up (by decide) hW
        · with_reducible assumption
      · split
        · apply portFail_keeps
          · with_reducible assumption
          · with_reducible assumption
        · apply startTraining_keeps
          · exact Sub.up (by decide) hW
          · apply setLp_keeps
            · exact Sub.up (by decide) hW
            · with_reducible assumption
  clear_value v2
  split
  · with_reducible assumption
  · change Keeps W z _
    apply returnReady_keeps
    · exact Sub.up (by decide) hW
    · with_reducible assumption

theorem execRetrainReq_keeps {W : Nat} {z : State} (port : ℕ) (attempt : ℕ) (s : State) (hW : Sub 20740 W) (h_s :
    Keeps W z s) :
    KeepsRes W z (execRetrainReq port attempt s) := by
  unfold execRetrainReq
  apply onMsg_keeps
  · exact Sub.up (by decide) hW
  · with_reducible assumption
  · intro y0 y1
    apply retrain_keeps
    · with_reducible assumption
    · split
      · with_reducible assumption
      · apply answered_keeps
        · exact Sub.up (by decide) hW
        · with_reducible assumption

theorem execRouteReturnDrainDone_keeps {W : Nat} {z : State} (eid : ℕ) (s : State) (hW : Sub 107347828 W) (h_s :
    Keeps W z s) :
    KeepsRes W z (execRouteReturnDrainDone eid s) := by
  unfold execRouteReturnDrainDone
  extract_lets v0
  clear_value v0
  apply guarded_keeps
  · with_reducible assumption
  · intro y1 y2
    apply releaseHeld_keeps
    · with_reducible assumption
    · apply setRoute_keeps
      · exact Sub.up (by decide) hW
      · with_reducible assumption

theorem execRouteSwapComplete_keeps {W : Nat} {z : State} (s : State) (hW : Sub 107347828 W) (h_s : Keeps W z s) :
    KeepsRes W z (execRouteSwapComplete s) := by
  unfold execRouteSwapComplete
  split
  · with_reducible assumption
  · apply guarded_keeps
    · with_reducible assumption
    · intro y5 y6
      apply swapDone_keeps
      · with_reducible assumption
      · with_reducible assumption

theorem execRunnelLossTimeout_keeps {W : Nat} {z : State} (s : State) (hW : Sub 107478900 W) (h_s : Keeps W z s) :
    KeepsRes W z (execRunnelLossTimeout s) := by
  unfold execRunnelLossTimeout
  apply guarded_keeps
  · with_reducible assumption
  · intro y0 y1
    split
    · apply goSolo_keeps
      · with_reducible assumption
      · with_reducible assumption
    · apply portsFollow_keeps
      · exact Sub.up (by decide) hW
      · apply setPair_keeps
        · exact Sub.up (by decide) hW
        · with_reducible assumption
    · with_reducible assumption

theorem execRxStateLive_keeps {W : Nat} {z : State} (ch : ℕ) (s : State) (hW : Sub 102794752 W) (h_s : Keeps W z s) :
    KeepsRes W z (execRxStateLive ch s) := by
  unfold execRxStateLive
  apply guarded_keeps
  · with_reducible assumption
  · intro y0 y1
    apply mbxWakeEvent_keeps
    · with_reducible assumption
    · with_reducible assumption

theorem startTile_keeps {W : Nat} {z : State} (s : State) (sch : ℕ) (h : ℕ) (n : ℕ) (hW : Sub 2048 W) (h_s : Keeps W
    z s) :
    Keeps W z (startTile s sch h n) := by
  unfold startTile
  extract_lets v0
  clear_value v0
  apply modOp_keeps
  · with_reducible assumption
  · apply modTile_keeps
    · with_reducible assumption
    · with_reducible assumption

theorem startUnit_keeps {W : Nat} {z : State} (s : State) (sch : ℕ) (u : WUnit) (hW : Sub 107081220 W) (h_s : Keeps W
    z s) :
    Keeps W z (startUnit s sch u) := by
  unfold startUnit
  extract_lets v0 v1 v2
  clear_value v0
  have h3 : Keeps W z v1 := by
    unfold v1
    apply depthGauge_keeps
    · exact Sub.up (by decide) hW
    · apply setSched_keeps
      · exact Sub.up (by decide) hW
      · with_reducible assumption
  clear_value v1
  have h4 : Keeps W z v2 := by
    unfold v2
    apply unchargeBacklog_keeps
    · exact Sub.up (by decide) hW
    · with_reducible assumption
  clear_value v2
  split
  · split
    rename_i x8 x9 x10 x11
    have k12 := keeps_eq x11 (P := KeepsFst W z) (by
      apply endDue_keeps
      · exact Sub.up (by decide) hW
      · with_reducible assumption
      )
    extract_lets v13 v14 v15 v16
    clear_value v13
    clear_value v14
    clear_value v15
    have h17 : Keeps W z v16 := by
      unfold v16
      refine Keeps.congr (s := x9) ?_ rfl rfl rfl rfl rfl rfl kept kept kept kept kept kept kept kept kept kept kept
          (hW.chg rfl) kept kept kept kept kept kept kept kept kept kept
      with_reducible assumption
    clear_value v16
    apply count_keeps
    · exact Sub.up (by decide) hW
    · apply count_keeps
      · exact Sub.up (by decide) hW
      · with_reducible assumption
  · split
    · apply put_keeps
      · exact Sub.up (by decide) hW
      · with_reducible assumption
    · split
      · apply startTile_keeps
        · exact Sub.up (by decide) hW
        · with_reducible assumption
      · with_reducible assumption

theorem execSchedulerStartUnit_keeps {W : Nat} {z : State} (sched : ℕ) (s : State) (hW : Sub 107081220 W) (h_s :
    Keeps W z s) :
    KeepsRes W z (execSchedulerStartUnit sched s) := by
  unfold execSchedulerStartUnit
  split
  · change Keeps W z _
    apply startUnit_keeps
    · with_reducible assumption
    · with_reducible assumption
  · with_reducible assumption

theorem execScrub_keeps {W : Nat} {z : State} (h : ℕ) (s : State) (hW : Sub 107347828 W) (h_s : Keeps W z s) :
    KeepsRes W z (execScrub h s) := by
  unfold execScrub
  split
  · with_reducible assumption
  · change Keeps W z _
    split
    · apply modOp_keeps
      · exact Sub.up (by decide) hW
      · with_reducible assumption
    · apply endWith_keeps
      · with_reducible assumption
      · with_reducible assumption

theorem execScrubComplete_keeps {W : Nat} {z : State} (h : ℕ) (s : State) (hW : Sub 107347830 W) (h_s : Keeps W z s) :
    KeepsRes W z (execScrubComplete h s) := by
  unfold execScrubComplete
  split
  · with_reducible assumption
  · split
    · with_reducible assumption
    · split
      rename_i x7 x8 x9 x10
      have k11 := keeps_eq x10 (P := KeepsSnd W z) (by
        apply drawFree_keeps
        · exact Sub.up (by decide) hW
        · with_reducible assumption
        )
      split
      rename_i x12 x13 x14 x15
      have k16 := keeps_eq x15 (P := KeepsSnd W z) (by
        apply drawFree_keeps
        · exact Sub.up (by decide) hW
        · with_reducible assumption
        )
      extract_lets v17 v18 v19 v20 v21
      clear_value v17
      clear_value v18
      clear_value v19
      clear_value v20
      clear_value v21
      change Keeps W z _
      split
      · rename_i x22 x23 x24 x25
        have k26 := keeps_eq x25 (P := KeepsGo W z) (by
          apply userWrite_keeps
          · exact Sub.up (by decide) hW
          · with_reducible assumption
          )
        apply endWith_keeps
        · exact Sub.up (by decide) hW
        · apply count_keeps
          · exact Sub.up (by decide) hW
          · with_reducible assumption
      · rename_i x27 x28 x29
        have k30 := keeps_eq x29 (P := KeepsGo W z) (by
          apply userWrite_keeps
          · exact Sub.up (by decide) hW
          · with_reducible assumption
          )
        with_reducible assumption
      · rename_i x31 x32 x33 x34
        have k35 := keeps_eq x34 (P := KeepsGo W z) (by
          apply userWrite_keeps
          · exact Sub.up (by decide) hW
          · with_reducible assumption
          )
        apply endWith_keeps
        · exact Sub.up (by decide) hW
        · with_reducible assumption

theorem execSelectMask_keeps {W : Nat} {z : State} (op : ℕ) (tile : ℕ) (s : State) (hW : Sub 107347828 W) (h_s :
    Keeps W z s) :
    KeepsRes W z (execSelectMask op tile s) := by
  unfold execSelectMask
  apply runStation_keeps
  · with_reducible assumption
  · with_reducible assumption
  · intro y0 y1 y2
    with_reducible assumption

theorem execSelectRoute_keeps {W : Nat} {z : State} (op : ℕ) (tile : ℕ) (s : State) (hW : Sub 107347956 W) (h_s :
    Keeps W z s) :
    KeepsRes W z (execSelectRoute op tile s) := by
  unfold execSelectRoute
  apply runStation_keeps
  · exact Sub.up (by decide) hW
  · with_reducible assumption
  · intro y0 y1 y2
    extract_lets v3 v4 v5 v6
    clear_value v3
    clear_value v4
    clear_value v5
    clear_value v6
    apply Go.bind_keeps
    · apply tileEat_keeps
      · with_reducible assumption
      · with_reducible assumption
    · intro y7 y8 y9
      extract_lets v10
      clear_value v10
      split
      · with_reducible assumption
      · with_reducible assumption

theorem execSelectTopk_keeps {W : Nat} {z : State} (op : ℕ) (tile : ℕ) (s : State) (hW : Sub 107347828 W) (h_s :
    Keeps W z s) :
    KeepsRes W z (execSelectTopk op tile s) := by
  unfold execSelectTopk
  apply runStation_keeps
  · with_reducible assumption
  · with_reducible assumption
  · intro y0 y1 y2
    with_reducible assumption

theorem execSelfFence_keeps {W : Nat} {z : State} (s : State) (hW : Sub 107069188 W) (h_s : Keeps W z s) :
    KeepsRes W z (execSelfFence s) := by
  unfold execSelfFence
  apply guarded_keeps
  · with_reducible assumption
  · intro y0 y1
    apply fenceSelf_keeps
    · with_reducible assumption
    · with_reducible assumption

theorem promoteAll_keeps {W : Nat} {z : State} (s : State) (r : Region) (hW : Sub 100664324 W) (h_s : Keeps W z s) :
    Keeps W z (promoteAll s r) := by
  unfold promoteAll
  refine foldl_keeps (P := Keeps W z) ?_ ?_
  · with_reducible assumption
  · intro y0 y1 y2
    apply startPromote_keeps
    · with_reducible assumption
    · with_reducible assumption

theorem setAttr_keeps {W : Nat} {z : State} (s : State) (h : ℕ) (o : Op) (idx : ℕ) (r : Region) (hW : Sub 107347828
    W) (h_s : Keeps W z s) :
    Keeps W z (setAttr s h o idx r) := by
  unfold setAttr
  extract_lets v0 v1 v2 v3 v4 v5 v6 v7 v8 v9 v10 v11 v12 v13
  clear_value v0
  clear_value v1
  clear_value v2
  clear_value v3
  clear_value v4
  clear_value v5
  clear_value v6
  clear_value v7
  clear_value v8
  have h14 : Keeps W z v9 := by
    unfold v9
    apply chargeAdd_keeps
    · exact Sub.up (by decide) hW
    · with_reducible assumption
  clear_value v9
  have h15 : Keeps W z v10 := by
    unfold v10
    apply setRegion_keeps
    · exact Sub.up (by decide) hW
    · with_reducible assumption
  clear_value v10
  have h16 : Keeps W z v11 := by
    unfold v11
    split
    · apply promoteAll_keeps
      · exact Sub.up (by decide) hW
      · apply abandonMoves_keeps
        · exact Sub.up (by decide) hW
        · with_reducible assumption
    · with_reducible assumption
  clear_value v11
  clear_value v12
  have h19 : Keeps W z v13 := by
    unfold v13
    split
    · apply copyMirror_keeps
      · exact Sub.up (by decide) hW
      · with_reducible assumption
    · with_reducible assumption
  clear_value v13
  split
  · apply allocEnd_keeps
    · with_reducible assumption
    · with_reducible assumption
  · split
    · apply allocEnd_keeps
      · with_reducible assumption
      · with_reducible assumption
    · apply modOp_keeps
      · exact Sub.up (by decide) hW
      · apply leaveQueue_keeps
        · exact Sub.up (by decide) hW
        · with_reducible assumption

theorem setAttrFinish_keeps {W : Nat} {z : State} (s : State) (h : ℕ) (hW : Sub 107347828 W) (h_s : Keeps W z s) :
    Keeps W z (setAttrFinish s h) := by
  unfold setAttrFinish
  split
  · with_reducible assumption
  · split
    · apply endOp_keeps
      · with_reducible assumption
      · with_reducible assumption
    · extract_lets v10 v11 v12 v13 v14 v15
      clear_value v10
      clear_value v11
      have h16 : Keeps W z v12 := by
        unfold v12
        split
        · apply promoteAll_keeps
          · exact Sub.up (by decide) hW
          · with_reducible assumption
        · split
          · apply recallLines_keeps
            · with_reducible assumption
            · with_reducible assumption
          · with_reducible assumption
      clear_value v12
      clear_value v13
      clear_value v14
      have h21 : Keeps W z v15 := by
        unfold v15
        split
        · with_reducible assumption
        · apply setRegion_keeps
          · exact Sub.up (by decide) hW
          · with_reducible assumption
      clear_value v15
      split
      · with_reducible assumption
      · apply endOp_keeps
        · with_reducible assumption
        · apply gauge_keeps
          · exact Sub.up (by decide) hW
          · with_reducible assumption

theorem execSetAttr_keeps {W : Nat} {z : State} (h : ℕ) (s : State) (hW : Sub 107347828 W) (h_s : Keeps W z s) :
    KeepsRes W z (execSetAttr h s) := by
  unfold execSetAttr
  apply regionCmd_keeps
  · with_reducible assumption
  · with_reducible assumption
  · intro y0 y1 y2 y3 y4
    extract_lets v5
    have h6 : Keeps W z v5 := by
      unfold v5
      apply setAttr_keeps
      · with_reducible assumption
      · with_reducible assumption
    split
    · apply setAttrFinish_keeps
      · with_reducible assumption
      · with_reducible assumption
    · with_reducible assumption

theorem execSetAttrComplete_keeps {W : Nat} {z : State} (h : ℕ) (s : State) (hW : Sub 107347828 W) (h_s : Keeps W z
    s) :
    KeepsRes W z (execSetAttrComplete h s) := by
  unfold execSetAttrComplete
  apply guarded_keeps
  · with_reducible assumption
  · intro y0 y1
    apply setAttrFinish_keeps
    · with_reducible assumption
    · with_reducible assumption

theorem execSetEventInterruptPolicy_keeps {W : Nat} {z : State} (policy : List ℕ) (s : State) (hW : Sub 67142656 W)
    (h_s : Keeps W z s) :
    KeepsRes W z (execSetEventInterruptPolicy policy s) := by
  unfold execSetEventInterruptPolicy
  apply mailbox_keeps
  · exact Sub.up (by decide) hW
  · with_reducible assumption
  · intro y0 y1
    split
    · apply mbReply_keeps
      · with_reducible assumption
      · refine Keeps.congr (s := y0) ?_ rfl rfl rfl rfl rfl rfl kept kept kept kept kept kept kept kept kept kept
            kept kept (hW.chg rfl) kept kept kept kept kept kept kept kept kept
        with_reducible assumption
    · apply mbReply_keeps
      · with_reducible assumption
      · with_reducible assumption

theorem execSetEventReceiver_keeps {W : Nat} {z : State} (eid : Option ℕ) (s : State) (hW : Sub 83887104 W) (h_s :
    Keeps W z s) :
    KeepsRes W z (execSetEventReceiver eid s) := by
  unfold execSetEventReceiver
  apply sideband_keeps
  · exact Sub.up (by decide) hW
  · with_reducible assumption
  · intro y0 y1
    apply pldmAnswer_keeps
    · exact Sub.up (by decide) hW
    · refine Keeps.congr (s := y0) ?_ rfl rfl rfl rfl rfl rfl kept kept kept kept kept kept kept kept kept kept kept
          kept kept kept kept kept kept kept kept kept kept (hW.chg rfl)
      with_reducible assumption

theorem execSetLatencyTol_keeps {W : Nat} {z : State} (h : ℕ) (s : State) (hW : Sub 108396404 W) (h_s : Keeps W z s) :
    KeepsRes W z (execSetLatencyTol h s) := by
  unfold execSetLatencyTol
  split
  · with_reducible assumption
  · extract_lets v5 v6 v7 v8 v9
    clear_value v5
    clear_value v6
    clear_value v7
    have h10 : Keeps W z v8 := by
      unfold v8
      refine foldl_keeps (P := Keeps W z) ?_ ?_
      · with_reducible assumption
      · intro y11 y12 y13
        apply setTol_keeps
        · exact Sub.up (by decide) hW
        · with_reducible assumption
    clear_value v8
    have h14 : Keeps W z v9 := by
      unfold v9
      split
      · apply wr_keeps
        · exact Sub.up (by decide) hW
        · with_reducible assumption
      · with_reducible assumption
    clear_value v9
    change Keeps W z _
    apply endWith_keeps
    · exact Sub.up (by decide) hW
    · with_reducible assumption

theorem execSetProfile_keeps {W : Nat} {z : State} (h : ℕ) (s : State) (hW : Sub 107347828 W) (h_s : Keeps W z s) :
    KeepsRes W z (execSetProfile h s) := by
  unfold execSetProfile
  split
  · with_reducible assumption
  · split
    · with_reducible assumption
    · extract_lets v7
      clear_value v7
      split
      · change Keeps W z _
        apply endWith_keeps
        · with_reducible assumption
        · with_reducible assumption
      · split
        · change Keeps W z _
          apply endWith_keeps
          · with_reducible assumption
          · with_reducible assumption
        · split
          · change Keeps W z _
            apply endWith_keeps
            · with_reducible assumption
            · with_reducible assumption
          · change Keeps W z _
            apply endWith_keeps
            · with_reducible assumption
            · apply wb_keeps
              · exact Sub.up (by decide) hW
              · apply wf_keeps
                · exact Sub.up (by decide) hW
                · with_reducible assumption

theorem execSetProfileCancel_keeps {W : Nat} {z : State} (h : ℕ) (s : State) (hW : Sub 107347828 W) (h_s : Keeps W z
    s) :
    KeepsRes W z (execSetProfileCancel h s) := by
  unfold execSetProfileCancel
  split
  · with_reducible assumption
  · split
    · change Keeps W z _
      apply endWith_keeps
      · with_reducible assumption
      · apply wf_keeps
        · exact Sub.up (by decide) hW
        · with_reducible assumption
    · with_reducible assumption

theorem execSetTimestamp_keeps {W : Nat} {z : State} (value : BitVec 64) (s : State) (hW : Sub 67142656 W) (h_s :
    Keeps W z s) :
    KeepsRes W z (execSetTimestamp value s) := by
  unfold execSetTimestamp
  apply mailbox_keeps
  · exact Sub.up (by decide) hW
  · with_reducible assumption
  · intro y0 y1
    apply mbReply_keeps
    · with_reducible assumption
    · refine Keeps.congr (s := y0) ?_ rfl rfl rfl rfl rfl rfl kept kept kept kept kept kept kept kept kept kept kept
          kept (hW.chg rfl) kept kept kept kept kept kept kept kept kept
      with_reducible assumption

theorem execSoftReset_keeps {W : Nat} {z : State} (id : ℕ) (page : ℕ) (s : State) (hW : Sub 67159044 W) (h_s : Keeps
    W z s) :
    KeepsRes W z (execSoftReset id page s) := by
  unfold execSoftReset
  apply guarded_keeps
  · with_reducible assumption
  · intro y0 y1
    apply srst_keeps
    · with_reducible assumption
    · with_reducible assumption

theorem execSoloWaitExpiry_keeps {W : Nat} {z : State} (held : List ℕ) (s : State) (hW : Sub 107478900 W) (h_s :
    Keeps W z s) :
    KeepsRes W z (execSoloWaitExpiry held s) := by
  unfold execSoloWaitExpiry
  apply guarded_keeps
  · with_reducible assumption
  · intro y0 y1
    extract_lets v2
    have h3 : Keeps W z v2 := by
      unfold v2
      apply askReports_keeps
      · exact Sub.up (by decide) hW
      · with_reducible assumption
    clear_value v2
    split
    · apply goSolo_keeps
      · with_reducible assumption
      · with_reducible assumption
    · apply drvGauges_keeps
      · exact Sub.up (by decide) hW
      · refine foldl_keeps (P := Keeps W z) ?_ ?_
        · with_reducible assumption
        · intro y6 y7 y8
          apply driveTaken_keeps
          · exact Sub.up (by decide) hW
          · with_reducible assumption

theorem execSpdTempRead_keeps {W : Nat} {z : State} (ch : ℕ) (tempC : ℕ) (s : State) (hW : Sub 67142660 W) (h_s :
    Keeps W z s) :
    KeepsRes W z (execSpdTempRead ch tempC s) := by
  unfold execSpdTempRead
  apply guarded_keeps
  · with_reducible assumption
  · intro y0 y1
    extract_lets v2 v3 v4 v5 v6
    clear_value v2
    clear_value v3
    have h7 : Keeps W z v4 := by
      unfold v4
      apply wf_keeps
      · exact Sub.up (by decide) hW
      · apply wf_keeps
        · exact Sub.up (by decide) hW
        · with_reducible assumption
    clear_value v4
    clear_value v5
    have h8 : Keeps W z v6 := by
      unfold v6
      refine foldl_keeps (P := Keeps W z) ?_ ?_
      · with_reducible assumption
      · intro y9 y10 y11
        apply wb_keeps
        · exact Sub.up (by decide) hW
        · with_reducible assumption
    clear_value v6
    split
    · with_reducible assumption
    · apply setIsr_keeps
      · with_reducible assumption
      · apply wb_keeps
        · exact Sub.up (by decide) hW
        · with_reducible assumption

theorem execSpdmHeartbeat_keeps {W : Nat} {z : State} (session : ℕ) (s : State) (hW : Sub 67109888 W) (h_s : Keeps W
    z s) :
    KeepsRes W z (execSpdmHeartbeat session s) := by
  unfold execSpdmHeartbeat
  apply inSession_keeps
  · with_reducible assumption
  · with_reducible assumption
  · intro y0
    apply spdmReply_keeps
    · with_reducible assumption
    · with_reducible assumption

theorem execSpdmUnsupportedRequest_keeps {W : Nat} {z : State} (_via : ℕ) (code : ℕ) (s : State) (hW : Sub 67109888
    W) (h_s : Keeps W z s) :
    KeepsRes W z (execSpdmUnsupportedRequest _via code s) := by
  unfold execSpdmUnsupportedRequest
  change Keeps W z _
  apply spdmReply_keeps
  · with_reducible assumption
  · with_reducible assumption

theorem execStandbyGoldenRound_keeps {W : Nat} {z : State} (pass : Bool) (s : State) (hW : Sub 107065220 W) (h_s :
    Keeps W z s) :
    KeepsRes W z (execStandbyGoldenRound pass s) := by
  unfold execStandbyGoldenRound
  apply guarded_keeps
  · with_reducible assumption
  · intro y0 y1
    split
    · with_reducible assumption
    · extract_lets v7 v8
      clear_value v7
      have h9 : Keeps W z v8 := by
        unfold v8
        apply modPair_keeps
        · exact Sub.up (by decide) hW
        · with_reducible assumption
      clear_value v8
      split
      · with_reducible assumption
      · apply testFailed_keeps
        · exact Sub.up (by decide) hW
        · apply retireEngine_keeps
          · with_reducible assumption
          · with_reducible assumption

theorem execStandbyMarchTest_keeps {W : Nat} {z : State} (pass : Bool) (s : State) (hW : Sub 2097156 W) (h_s : Keeps
    W z s) :
    KeepsRes W z (execStandbyMarchTest pass s) := by
  unfold execStandbyMarchTest
  apply guarded_keeps
  · with_reducible assumption
  · intro y0 y1
    split
    · with_reducible assumption
    · extract_lets v7 v8
      clear_value v7
      have h9 : Keeps W z v8 := by
        unfold v8
        apply modPair_keeps
        · exact Sub.up (by decide) hW
        · with_reducible assumption
      clear_value v8
      split
      · with_reducible assumption
      · apply testFailed_keeps
        · exact Sub.up (by decide) hW
        · apply bankLedger_keeps
          · exact Sub.up (by decide) hW
          · apply setBankRole_keeps
            · exact Sub.up (by decide) hW
            · with_reducible assumption

theorem runSink_keeps {W : Nat} {z : State} (s : State) (h : ℕ) (num : ℕ) (mode : ℕ) (f : At → State → Go ℕ) (hW :
    Sub 107347828 W) (h_s : Keeps W z s) (h_f : ∀ q1 q2, Keeps W z q2 → KeepsGo W z (f q1 q2)) :
    KeepsRes W z (runSink s h num mode f) := by
  unfold runSink
  split
  · with_reducible assumption
  · split
    · rename_i x5 x6 x7
      have k8 := keeps_eq x7 (P := KeepsGo W z) (by
        apply h_f
        with_reducible assumption
        )
      change Keeps W z _
      apply modTile_keeps
      · exact Sub.up (by decide) hW
      · with_reducible assumption
    · rename_i x9 x10 x11 x12
      have k13 := keeps_eq x12 (P := KeepsGo W z) (by
        apply h_f
        with_reducible assumption
        )
      change Keeps W z _
      apply failTile_keeps
      · with_reducible assumption
      · apply forgetSnoops_keeps
        · exact Sub.up (by decide) hW
        · with_reducible assumption
    · rename_i x14 x15 x16 x17
      have k18 := keeps_eq x17 (P := KeepsGo W z) (by
        apply h_f
        with_reducible assumption
        )
      change Keeps W z _
      apply modTile_keeps
      · exact Sub.up (by decide) hW
      · apply forgetSnoops_keeps
        · exact Sub.up (by decide) hW
        · with_reducible assumption

theorem execStoreNull_keeps {W : Nat} {z : State} (op : ℕ) (tile : ℕ) (s : State) (hW : Sub 107347828 W) (h_s : Keeps
    W z s) :
    KeepsRes W z (execStoreNull op tile s) := by
  unfold execStoreNull
  apply runSink_keeps
  · with_reducible assumption
  · with_reducible assumption
  · intro y0 y1 y2
    with_reducible assumption

theorem putSend_keeps {W : Nat} {z : State} (a : At) (h : ℕ) (num : ℕ) (kind : ℕ) (parts : List (ℕ × Bytes × ℕ))
    (dest : ℕ) (s : State) (hW : Sub 107085316 W) (h_s : Keeps W z s) :
    Keeps W z (putSend a h num kind parts dest s) := by
  unfold putSend
  extract_lets v0 v1 v2 v3 v4 v5 v6 v7 v8
  clear_value v0
  clear_value v1
  clear_value v2
  clear_value v3
  clear_value v4
  have h9 : Keeps W z v5 := by
    unfold v5
    refine Keeps.congr (s := s) ?_ rfl rfl rfl rfl rfl rfl kept kept kept kept kept kept kept kept (hW.chg rfl) kept
        kept kept kept kept kept kept kept kept kept kept kept kept
    with_reducible assumption
  clear_value v5
  clear_value v6
  clear_value v7
  clear_value v8
  split
  · split
    · apply count_keeps
      · exact Sub.up (by decide) hW
      · apply modOp_keeps
        · exact Sub.up (by decide) hW
        · with_reducible assumption
    · refine Keeps.congr (s := s) ?_ rfl rfl rfl rfl rfl rfl kept kept kept kept kept kept kept kept (hW.chg rfl)
          kept kept kept kept kept kept kept kept kept kept kept kept kept
      with_reducible assumption
  · refine foldl_keeps (P := Keeps W z) ?_ ?_
    · with_reducible assumption
    · intro y14 y15 y16
      extract_lets v17
      clear_value v17
      apply emit_keeps
      · with_reducible assumption
      · with_reducible assumption

theorem execStorePut_keeps {W : Nat} {z : State} (op : ℕ) (tile : ℕ) (s : State) (hW : Sub 107347828 W) (h_s : Keeps
    W z s) :
    KeepsRes W z (execStorePut op tile s) := by
  unfold execStorePut
  apply runSink_keeps
  · with_reducible assumption
  · with_reducible assumption
  · intro y0 y1 y2
    split
    · with_reducible assumption
    · split
      · change Keeps W z _
        refine foldl_keeps (P := Keeps W z) ?_ ?_
        · with_reducible assumption
        · intro y9 y10 y11
          apply event_keeps
          · exact Sub.up (by decide) hW
          · with_reducible assumption
      · split
        · with_reducible assumption
        · split
          change Keeps W z _
          refine foldl_keeps (P := Keeps W z) ?_ ?_
          · with_reducible assumption
          · intro y19 y20 y21
            apply putSend_keeps
            · exact Sub.up (by decide) hW
            · with_reducible assumption

theorem putCarried_keeps {W : Nat} {z : State} (h : ℕ) (num : ℕ) (va : ℕ) (bad : List (ℕ × ℕ)) (bs : Bytes) (s :
    State) (hW : Sub 107347956 W) (h_s : Keeps W z s) :
    KeepsGo W z (putCarried h num va bad bs s) := by
  unfold putCarried
  apply Go.bind_keeps
  · apply goList_keeps
    · exact Sub.up (by decide) hW
    · intro y0 y1 y2
      apply tilePut_keeps
      · with_reducible assumption
      · with_reducible assumption
    · with_reducible assumption
  · intro y3 y4 y5
    with_reducible assumption

theorem execStoreRange_keeps {W : Nat} {z : State} (op : ℕ) (tile : ℕ) (s : State) (hW : Sub 107347956 W) (h_s :
    Keeps W z s) :
    KeepsRes W z (execStoreRange op tile s) := by
  unfold execStoreRange
  apply runSink_keeps
  · exact Sub.up (by decide) hW
  · with_reducible assumption
  · intro y0 y1 y2
    extract_lets v3
    clear_value v3
    apply Go.bind_keeps
    · apply putCarried_keeps
      · with_reducible assumption
      · with_reducible assumption
    · intro y4 y5 y6
      split
      · apply Go.bind_keeps
        · apply putCarried_keeps
          · with_reducible assumption
          · with_reducible assumption
        · intro y8 y9 y10
          with_reducible assumption
      · with_reducible assumption

theorem execStoreRouted_keeps {W : Nat} {z : State} (op : ℕ) (tile : ℕ) (s : State) (hW : Sub 107347828 W) (h_s :
    Keeps W z s) :
    KeepsRes W z (execStoreRouted op tile s) := by
  unfold execStoreRouted
  apply runSink_keeps
  · with_reducible assumption
  · with_reducible assumption
  · intro y0 y1 y2
    with_reducible assumption

theorem scatterRows_keeps {W : Nat} {z : State} (a : At) (h num n : Nat) (bs : Bytes) (l : List (Nat × Nat)) (s :
    State)
    (hW : Sub 107347956 W) (k : Keeps W z s) : KeepsGo W z (scatterRows a h num n bs l s) := by
  induction l generalizing s with
  | nil => exact k
  | cons e l ih =>
    obtain ⟨m, ix⟩ := e
    unfold scatterRows
    split
    · exact ih s k
    · split
      · split
        · exact ih s k
        · exact k
      · exact Go.bind_keeps (putCarried_keeps _ _ _ _ _ _ (Sub.up (by decide) hW) k) fun _ s k => ih s k

theorem execStoreScatter_keeps {W : Nat} {z : State} (op : ℕ) (tile : ℕ) (s : State) (hW : Sub 107347956 W) (h_s :
    Keeps W z s) :
    KeepsRes W z (execStoreScatter op tile s) := by
  unfold execStoreScatter
  apply runSink_keeps
  · exact Sub.up (by decide) hW
  · with_reducible assumption
  · intro y0 y1 y2
    extract_lets v3 v4 v5
    clear_value v3
    clear_value v4
    clear_value v5
    apply Go.bind_keeps
    · apply tileEat_keeps
      · with_reducible assumption
      · with_reducible assumption
    · intro y6 y7 y8
      apply Go.bind_keeps
      · apply scatterRows_keeps
        · with_reducible assumption
        · with_reducible assumption
      · intro y9 y10 y11
        with_reducible assumption

theorem execStoreSparse_keeps {W : Nat} {z : State} (op : ℕ) (tile : ℕ) (s : State) (hW : Sub 107347956 W) (h_s :
    Keeps W z s) :
    KeepsRes W z (execStoreSparse op tile s) := by
  unfold execStoreSparse
  apply runSink_keeps
  · exact Sub.up (by decide) hW
  · with_reducible assumption
  · intro y0 y1 y2
    extract_lets v3
    clear_value v3
    split
    · with_reducible assumption
    · apply Go.bind_keeps
      · apply tilePut_keeps
        · with_reducible assumption
        · with_reducible assumption
      · intro y6 y7 y8
        apply Go.bind_keeps
        · apply tilePut_keeps
          · with_reducible assumption
          · with_reducible assumption
        · intro y9 y10 y11
          with_reducible assumption

theorem execStream_keeps {W : Nat} {z : State} (h : ℕ) (s : State) (hW : Sub 107347828 W) (h_s : Keeps W z s) :
    KeepsRes W z (execStream h s) := by
  unfold execStream
  split
  · with_reducible assumption
  · split
    · change Keeps W z _
      apply endOp_keeps
      · with_reducible assumption
      · with_reducible assumption
    · change Keeps W z _
      apply modOp_keeps
      · exact Sub.up (by decide) hW
      · with_reducible assumption

theorem execSuspend_keeps {W : Nat} {z : State} (h : ℕ) (s : State) (hW : Sub 107347828 W) (h_s : Keeps W z s) :
    KeepsRes W z (execSuspend h s) := by
  unfold execSuspend
  apply control_keeps
  · with_reducible assumption
  · with_reducible assumption
  · intro y0 y1 y2 y3
    split
    · apply endWith_keeps
      · with_reducible assumption
      · with_reducible assumption
    · apply awaitTarget_keeps
      · exact Sub.up (by decide) hW
      · split
        · with_reducible assumption
        · apply beginSuspend_keeps
          · exact Sub.up (by decide) hW
          · with_reducible assumption
    · apply awaitTarget_keeps
      · exact Sub.up (by decide) hW
      · with_reducible assumption
    · apply awaitTarget_keeps
      · exact Sub.up (by decide) hW
      · apply modOp_keeps
        · exact Sub.up (by decide) hW
        · with_reducible assumption

theorem execSwapDone_keeps {W : Nat} {z : State} (port : ℕ) (lane : ℕ) (s : State) (hW : Sub 107083524 W) (h_s :
    Keeps W z s) :
    KeepsRes W z (execSwapDone port lane s) := by
  unfold execSwapDone
  apply onMsg_keeps
  · exact Sub.up (by decide) hW
  · with_reducible assumption
  · intro y0 y1
    split
    · split
      · with_reducible assumption
      · extract_lets v8
        have h9 : Keeps W z v8 := by
          unfold v8
          apply setLinkState_keeps
          · exact Sub.up (by decide) hW
          · apply modLp_keeps
            · exact Sub.up (by decide) hW
            · with_reducible assumption
        clear_value v8
        apply retryLanes_keeps
        · with_reducible assumption
        · apply laneEvents_keeps
          · exact Sub.up (by decide) hW
          · with_reducible assumption
    · with_reducible assumption

theorem execSwapMark_keeps {W : Nat} {z : State} (port : ℕ) (lane : ℕ) (s : State) (hW : Sub 107079172 W) (h_s :
    Keeps W z s) :
    KeepsRes W z (execSwapMark port lane s) := by
  unfold execSwapMark
  apply onMsg_keeps
  · exact Sub.up (by decide) hW
  · with_reducible assumption
  · intro y0 y1
    split
    · split
      · with_reducible assumption
      · extract_lets v7
        have h8 : Keeps W z v7 := by
          unfold v7
          apply modLp_keeps
          · exact Sub.up (by decide) hW
          · apply answered_keeps
            · exact Sub.up (by decide) hW
            · with_reducible assumption
        clear_value v7
        apply laneEvents_keeps
        · exact Sub.up (by decide) hW
        · apply setLanes_keeps
          · exact Sub.up (by decide) hW
          · with_reducible assumption
    · with_reducible assumption

theorem execSwapReq_keeps {W : Nat} {z : State} (port : ℕ) (lane : ℕ) (s : State) (hW : Sub 20740 W) (h_s : Keeps W z
    s) :
    KeepsRes W z (execSwapReq port lane s) := by
  unfold execSwapReq
  apply onMsg_keeps
  · exact Sub.up (by decide) hW
  · with_reducible assumption
  · intro y0 y1
    extract_lets v2 v3 v4
    clear_value v2
    clear_value v3
    have h5 : Keeps W z v4 := by
      unfold v4
      split
      · apply answered_keeps
        · exact Sub.up (by decide) hW
        · apply modLp_keeps
          · exact Sub.up (by decide) hW
          · with_reducible assumption
      · with_reducible assumption
    clear_value v4
    split
    · apply setLp_keeps
      · exact Sub.up (by decide) hW
      · with_reducible assumption
    · split
      · with_reducible assumption
      · apply setLinkState_keeps
        · exact Sub.up (by decide) hW
        · apply modLp_keeps
          · exact Sub.up (by decide) hW
          · apply voidPort_keeps
            · exact Sub.up (by decide) hW
            · with_reducible assumption

theorem execSwapTimeout_keeps {W : Nat} {z : State} (port : ℕ) (s : State) (hW : Sub 20740 W) (h_s : Keeps W z s) :
    KeepsRes W z (execSwapTimeout port s) := by
  unfold execSwapTimeout
  apply guarded_keeps
  · with_reducible assumption
  · intro y0 y1
    apply retrain_keeps
    · with_reducible assumption
    · with_reducible assumption

theorem recycle_keeps {W : Nat} {z : State} (s : State) (hW : Sub 2048 W) (h_s : Keeps W z s) :
    Keeps W z (recycle s) := by
  unfold recycle
  split
  · with_reducible assumption
  · split
    · refine Keeps.congr (s := s) ?_ rfl rfl rfl rfl rfl rfl kept kept kept kept kept kept kept kept (hW.chg rfl)
          kept kept kept kept kept kept kept kept kept kept kept kept kept
      with_reducible assumption
    · with_reducible assumption

theorem takeEntry_keeps {W : Nat} {z : State} (s : State) (q : ℕ) (entry : Bytes) (hW : Sub 107347830 W) (h_s : Keeps
    W z s) :
    Keeps W z (takeEntry s q entry) := by
  unfold takeEntry
  extract_lets v0 v1 v2 v3
  clear_value v0
  clear_value v1
  have h4 : Keeps W z v2 := by
    unfold v2
    split
    · with_reducible assumption
    · apply recycle_keeps
      · exact Sub.up (by decide) hW
      · with_reducible assumption
  clear_value v2
  clear_value v3
  split
  rename_i x7 x8 x9 x10
  have k11 := keeps_eq x10 (P := KeepsSnd W z) (by
    apply drawFree_keeps
    · exact Sub.up (by decide) hW
    · with_reducible assumption
    )
  extract_lets v12 v13 v14 v15 v16 v17 v18 v19 v20 v21 v22
  clear_value v12
  clear_value v13
  clear_value v14
  have h23 : Keeps W z v15 := by
    unfold v15
    refine Keeps.congr (s := x9) ?_ rfl rfl rfl rfl rfl rfl kept kept kept kept kept kept kept kept (hW.chg rfl) kept
        kept kept kept kept kept kept kept kept kept kept kept kept
    with_reducible assumption
  clear_value v15
  have h24 : Keeps W z v16 := by
    unfold v16
    apply wf_keeps
    · exact Sub.up (by decide) hW
    · with_reducible assumption
  clear_value v16
  have h25 : Keeps W z v17 := by
    unfold v17
    apply count_keeps
    · exact Sub.up (by decide) hW
    · with_reducible assumption
  clear_value v17
  clear_value v18
  clear_value v19
  have h26 : Keeps W z v20 := by
    unfold v20
    refine Keeps.congr (s := v17) ?_ rfl rfl rfl rfl rfl rfl kept kept kept kept kept kept kept kept kept kept kept
        kept kept kept kept kept kept kept (hW.chg rfl) kept kept kept
    with_reducible assumption
  clear_value v20
  have h27 : Keeps W z v21 := by
    unfold v21
    split
    · apply sendRunnel_keeps
      · exact Sub.up (by decide) hW
      · with_reducible assumption
    · with_reducible assumption
  clear_value v21
  clear_value v22
  split
  · apply endWith_keeps
    · exact Sub.up (by decide) hW
    · with_reducible assumption
  · split
    · refine Keeps.congr (s := v21) ?_ rfl rfl rfl rfl rfl rfl kept kept kept (hW.chg rfl) kept kept kept kept kept
          kept kept kept kept kept kept kept kept kept kept kept kept kept
      with_reducible assumption
    · with_reducible assumption

theorem execTakeEntry_keeps {W : Nat} {z : State} (q : ℕ) (read : RingRead) (s : State) (hW : Sub 107347830 W) (h_s :
    Keeps W z s) :
    KeepsRes W z (execTakeEntry q read s) := by
  unfold execTakeEntry
  split
  · with_reducible assumption
  · extract_lets v2 v3
    clear_value v2
    clear_value v3
    split
    · split
      · with_reducible assumption
      · apply guarded_keeps
        · with_reducible assumption
        · intro y8 y9
          apply takeEntry_keeps
          · with_reducible assumption
          · apply put_keeps
            · exact Sub.up (by decide) hW
            · with_reducible assumption
    · apply guarded_keeps
      · with_reducible assumption
      · intro y11 y12
        apply ringFail_keeps
        · exact Sub.up (by decide) hW
        · with_reducible assumption
    · split
      · with_reducible assumption
      · split
        · rename_i x16 x17 x18
          have k19 := keeps_eq x18 (P := KeepsGo W z) (by
            apply userRead_keeps
            · exact Sub.up (by decide) hW
            · with_reducible assumption
            )
          with_reducible assumption
        · rename_i x20 x21 x22 x23
          have k24 := keeps_eq x23 (P := KeepsGo W z) (by
            apply userRead_keeps
            · exact Sub.up (by decide) hW
            · with_reducible assumption
            )
          change Keeps W z _
          apply ringFail_keeps
          · exact Sub.up (by decide) hW
          · with_reducible assumption
        · rename_i x25 x26 x27 x28 x29
          have k30 := keeps_eq x29 (P := KeepsGo W z) (by
            apply userRead_keeps
            · exact Sub.up (by decide) hW
            · with_reducible assumption
            )
          extract_lets v31
          have h32 : Keeps W z v31 := by
            unfold v31
            apply forgetSnoops_keeps
            · exact Sub.up (by decide) hW
            · with_reducible assumption
          clear_value v31
          split
          · change Keeps W z _
            apply ringFail_keeps
            · exact Sub.up (by decide) hW
            · with_reducible assumption
          · apply guarded_keeps
            · with_reducible assumption
            · intro y35 y36
              apply takeEntry_keeps
              · with_reducible assumption
              · with_reducible assumption

theorem execThermtrip_keeps {W : Nat} {z : State} (s : State) (hW : Sub 134217725 W) (h_s : Keeps W z s) :
    KeepsRes W z (execThermtrip s) := by
  unfold execThermtrip
  apply guarded_keeps
  · with_reducible assumption
  · intro y0 y1
    extract_lets v2 v3
    have h4 : Keeps W z v2 := by
      unfold v2
      apply holdReset_keeps
      · with_reducible assumption
      · with_reducible assumption
    clear_value v2
    clear_value v3
    apply put_keeps
    · exact Sub.up (by decide) hW
    · refine Keeps.congr (s := v2) ?_ rfl rfl rfl rfl rfl rfl kept kept kept kept kept kept kept kept kept kept kept
          kept kept kept kept kept kept (hW.chg rfl) kept kept kept kept
      with_reducible assumption

theorem execTickAck_keeps {W : Nat} {z : State} (tick : ℕ) (s : State) (hW : Sub 16388 W) (h_s : Keeps W z s) :
    KeepsRes W z (execTickAck tick s) := by
  unfold execTickAck
  apply onRunnel_keeps
  · exact Sub.up (by decide) hW
  · with_reducible assumption
  · intro y0 y1
    split
    · apply wr_keeps
      · exact Sub.up (by decide) hW
      · with_reducible assumption
    · with_reducible assumption

theorem execTickClose_keeps {W : Nat} {z : State} (s : State) (hW : Sub 35652096 W) (h_s : Keeps W z s) :
    KeepsRes W z (execTickClose s) := by
  unfold execTickClose
  apply guarded_keeps
  · with_reducible assumption
  · intro y0 y1
    extract_lets v2
    clear_value v2
    apply sendRunnel_keeps
    · with_reducible assumption
    · apply modPair_keeps
      · exact Sub.up (by decide) hW
      · with_reducible assumption

theorem execTileAdmissionRetry_keeps {W : Nat} {z : State} (op : ℕ) (tile : ℕ) (s : State) (hW : Sub 107347828 W)
    (h_s : Keeps W z s) :
    KeepsRes W z (execTileAdmissionRetry op tile s) := by
  unfold execTileAdmissionRetry
  apply guarded_keeps
  · with_reducible assumption
  · intro y0 y1
    apply admitTile_keeps
    · with_reducible assumption
    · with_reducible assumption

theorem execTileAssign_keeps {W : Nat} {z : State} (core : ℕ) (s : State) (hW : Sub 107347956 W) (h_s : Keeps W z s) :
    KeepsRes W z (execTileAssign core s) := by
  unfold execTileAssign
  split
  · with_reducible assumption
  · split
    · with_reducible assumption
    · change Keeps W z _
      apply assignFirst_keeps
      · with_reducible assumption
      · with_reducible assumption

theorem issueWrites_keeps {W : Nat} {z : State} (o : Op) (t : Tile) (h : ℕ) (s : State) (hW : Sub 107347828 W) (h_s :
    Keeps W z s) :
    KeepsGo W z (issueWrites o t h s) := by
  unfold issueWrites
  extract_lets v0 v1
  clear_value v0
  clear_value v1
  split
  · with_reducible assumption
  · split
    · change Keeps W z _
      apply tileNotResident_keeps
      · exact Sub.up (by decide) hW
      · with_reducible assumption
    · apply Go.bind_keeps
      · apply writeGate_keeps
        · exact Sub.up (by decide) hW
        · with_reducible assumption
      · intro y6 y7 y8
        extract_lets v9
        have h10 : Keeps W z v9 := by
          unfold v9
          refine foldl_keeps (P := Keeps W z) ?_ ?_
          · with_reducible assumption
          · intro y11 y12 y13
            change KeepsSnd W z _
            apply writeLines_keeps
            · with_reducible assumption
            · with_reducible assumption
        clear_value v9
        change Keeps W z _
        apply modTile_keeps
        · exact Sub.up (by decide) hW
        · apply tileTouch_keeps
          · exact Sub.up (by decide) hW
          · with_reducible assumption

theorem execTileCommit_keeps {W : Nat} {z : State} (op : ℕ) (tile : ℕ) (s : State) (hW : Sub 107347956 W) (h_s :
    Keeps W z s) :
    KeepsRes W z (execTileCommit op tile s) := by
  unfold execTileCommit
  split
  · split
    · with_reducible assumption
    · split
      · split
        · with_reducible assumption
        · change Keeps W z _
          apply tileDone_keeps
          · exact Sub.up (by decide) hW
          · with_reducible assumption
      · split
        · rename_i x12 x13 x14
          have k15 := keeps_eq x14 (P := KeepsGo W z) (by
            apply commitExtra_keeps
            · with_reducible assumption
            · with_reducible assumption
            )
          change Keeps W z _
          apply modTile_keeps
          · exact Sub.up (by decide) hW
          · with_reducible assumption
        · rename_i x16 x17 x18 x19
          have k20 := keeps_eq x19 (P := KeepsGo W z) (by
            apply commitExtra_keeps
            · with_reducible assumption
            · with_reducible assumption
            )
          change Keeps W z _
          apply failTile_keeps
          · exact Sub.up (by decide) hW
          · apply forgetSnoops_keeps
            · exact Sub.up (by decide) hW
            · with_reducible assumption
        · rename_i x21 x22 x23 x24
          have k25 := keeps_eq x24 (P := KeepsGo W z) (by
            apply commitExtra_keeps
            · with_reducible assumption
            · with_reducible assumption
            )
          extract_lets v26
          have h27 : Keeps W z v26 := by
            unfold v26
            apply forgetSnoops_keeps
            · exact Sub.up (by decide) hW
            · with_reducible assumption
          clear_value v26
          split
          · rename_i x28 x29 x30
            have k31 := keeps_eq x30 (P := KeepsGo W z) (by
              apply issueWrites_keeps
              · exact Sub.up (by decide) hW
              · with_reducible assumption
              )
            change Keeps W z _
            apply modTile_keeps
            · exact Sub.up (by decide) hW
            · with_reducible assumption
          · rename_i x32 x33 x34 x35
            have k36 := keeps_eq x35 (P := KeepsGo W z) (by
              apply issueWrites_keeps
              · exact Sub.up (by decide) hW
              · with_reducible assumption
              )
            change Keeps W z _
            apply failTile_keeps
            · exact Sub.up (by decide) hW
            · with_reducible assumption
          · rename_i x37 x38 x39 x40
            have k41 := keeps_eq x40 (P := KeepsGo W z) (by
              apply issueWrites_keeps
              · exact Sub.up (by decide) hW
              · with_reducible assumption
              )
            split
            · with_reducible assumption
            · change Keeps W z _
              apply tileDone_keeps
              · exact Sub.up (by decide) hW
              · with_reducible assumption
  · with_reducible assumption

theorem execTransactionClose_keeps {W : Nat} {z : State} (line : ℕ) (s : State) (hW : Sub 107347828 W) (h_s : Keeps W
    z s) :
    KeepsRes W z (execTransactionClose line s) := by
  unfold execTransactionClose
  split
  · with_reducible assumption
  · split
    · with_reducible assumption
    · extract_lets v7 v8
      have h9 : Keeps W z v7 := by
        unfold v7
        apply closeTran_keeps
        · with_reducible assumption
        · with_reducible assumption
      clear_value v7
      clear_value v8
      change Keeps W z _
      apply boundReport_keeps
      · exact Sub.up (by decide) hW
      · with_reducible assumption

theorem prefetchAt_keeps {W : Nat} {z : State} (s : State) (o : Op) (t : Tile) (va : ℕ) (write : Bool) (hW : Sub
    100664448 W) (h_s : Keeps W z s) :
    Keeps W z (prefetchAt s o t va write) := by
  unfold prefetchAt
  extract_lets v0 v1
  clear_value v0
  clear_value v1
  split
  · with_reducible assumption
  · apply startWalk_keeps
    · with_reducible assumption
    · with_reducible assumption

theorem prefetchRun_keeps {W : Nat} {z : State} (s : State) (o : Op) (t : Tile) (x : ℕ × ℕ × Bool) (hW : Sub
    100664448 W) (h_s : Keeps W z s) :
    Keeps W z (prefetchRun s o t x) := by
  unfold prefetchRun
  refine foldl_keeps (P := Keeps W z) ?_ ?_
  · with_reducible assumption
  · intro y0 y1 y2
    apply prefetchAt_keeps
    · with_reducible assumption
    · with_reducible assumption

theorem execTranslationPrefetch_keeps {W : Nat} {z : State} (core : ℕ) (s : State) (hW : Sub 100664448 W) (h_s :
    Keeps W z s) :
    KeepsRes W z (execTranslationPrefetch core s) := by
  unfold execTranslationPrefetch
  extract_lets v0 v1
  clear_value v0
  clear_value v1
  apply guarded_keeps
  · with_reducible assumption
  · intro y2 y3
    refine foldl_keeps (P := Keeps W z) ?_ ?_
    · with_reducible assumption
    · intro y4 y5 y6
      split
      · with_reducible assumption
      · refine foldl_keeps (P := Keeps W z) ?_ ?_
        · with_reducible assumption
        · intro y12 y13 y14
          apply prefetchRun_keeps
          · with_reducible assumption
          · with_reducible assumption

theorem execUnpin_keeps {W : Nat} {z : State} (h : ℕ) (s : State) (hW : Sub 107347828 W) (h_s : Keeps W z s) :
    KeepsRes W z (execUnpin h s) := by
  unfold execUnpin
  apply regionCmd_keeps
  · with_reducible assumption
  · with_reducible assumption
  · intro y0 y1 y2 y3 y4
    split
    · apply allocEnd_keeps
      · with_reducible assumption
      · with_reducible assumption
    · split
      · apply allocEnd_keeps
        · with_reducible assumption
        · with_reducible assumption
      · extract_lets v9
        have h10 : Keeps W z v9 := by
          unfold v9
          apply setRegion_keeps
          · exact Sub.up (by decide) hW
          · with_reducible assumption
        clear_value v9
        apply allocEnd_keeps
        · with_reducible assumption
        · apply pinRelease_keeps
          · exact Sub.up (by decide) hW
          · with_reducible assumption

theorem execUnsupportedMailboxOpcode_keeps {W : Nat} {z : State} (opcode : ℕ) (s : State) (hW : Sub 67142656 W) (h_s
    : Keeps W z s) :
    KeepsRes W z (execUnsupportedMailboxOpcode opcode s) := by
  unfold execUnsupportedMailboxOpcode
  apply mailbox_keeps
  · exact Sub.up (by decide) hW
  · with_reducible assumption
  · intro y0 y1
    split
    · with_reducible assumption
    · apply mbReply_keeps
      · with_reducible assumption
      · with_reducible assumption

theorem getFp_keeps {W : Nat} {z : State} (h : ℕ) (num : ℕ) (va : ℕ) (fmt : ℕ) (n : ℕ) (s : State) (hW : Sub
    107347956 W) (h_s : Keeps W z s) :
    KeepsGo W z (getFp h num va fmt n s) := by
  unfold getFp
  apply Go.bind_keeps
  · apply tileEat_keeps
    · with_reducible assumption
    · with_reducible assumption
  · intro y0 y1 y2
    with_reducible assumption

theorem updateSpan_keeps {W : Nat} {z : State} (a : At) (h : ℕ) (num : ℕ) (b : Bytes) (k : List Fp) (gs : List Fp) (x
    : ℕ) (y : ℕ) (s : State) (hW : Sub 107347956 W) (h_s : Keeps W z s) :
    KeepsGo W z (updateSpan a h num b k gs x y s) := by
  unfold updateSpan
  extract_lets v0 v1 v2 v3 v4 v5
  clear_value v0
  clear_value v1
  clear_value v2
  clear_value v3
  clear_value v4
  clear_value v5
  apply Go.bind_keeps
  · apply getFp_keeps
    · with_reducible assumption
    · with_reducible assumption
  · intro y6 y7 y8
    apply Go.bind_keeps
    · apply getFp_keeps
      · with_reducible assumption
      · with_reducible assumption
    · intro y9 y10 y11
      apply Go.bind_keeps
      · split
        · apply getFp_keeps
          · with_reducible assumption
          · with_reducible assumption
        · with_reducible assumption
      · intro y14 y15 y16
        extract_lets v17 v18
        clear_value v17
        clear_value v18
        apply Go.bind_keeps
        · apply tilePut_keeps
          · with_reducible assumption
          · with_reducible assumption
        · intro y19 y20 y21
          apply Go.bind_keeps
          · apply tilePut_keeps
            · with_reducible assumption
            · with_reducible assumption
          · intro y22 y23 y24
            apply Go.bind_keeps
            · split
              · apply tilePut_keeps
                · with_reducible assumption
                · with_reducible assumption
              · with_reducible assumption
            · intro y27 y28 y29
              with_reducible assumption

theorem updateTile_keeps {W : Nat} {z : State} (rule : ℕ) (op : ℕ) (tile : ℕ) (s : State) (hW : Sub 107347956 W) (h_s
    : Keeps W z s) :
    KeepsRes W z (updateTile rule op tile s) := by
  unfold updateTile
  apply runStation_keeps
  · exact Sub.up (by decide) hW
  · with_reducible assumption
  · intro y0 y1 y2
    extract_lets v3 v4 v5 v6 v7 v8 v9 v10 v11 v12
    clear_value v3
    clear_value v4
    clear_value v5
    clear_value v6
    clear_value v7
    clear_value v8
    clear_value v9
    clear_value v10
    clear_value v11
    clear_value v12
    split
    · rename_i x13 x14 x15
      have k16 := keeps_eq x15 (P := KeepsGo W z) (by
        apply goList_keeps
        · exact Sub.up (by decide) hW
        · intro y17 y18 y19
          apply Go.bind_keeps
          · apply updateSpan_keeps
            · with_reducible assumption
            · with_reducible assumption
          · intro y20 y21 y22
            with_reducible assumption
        · with_reducible assumption
        )
      change Keeps W z _
      apply modTile_keeps
      · exact Sub.up (by decide) hW
      · with_reducible assumption
    · rename_i x23 x24 x25 x26
      have k27 := keeps_eq x26 (P := KeepsGo W z) (by
        apply goList_keeps
        · exact Sub.up (by decide) hW
        · intro y28 y29 y30
          apply Go.bind_keeps
          · apply updateSpan_keeps
            · with_reducible assumption
            · with_reducible assumption
          · intro y31 y32 y33
            with_reducible assumption
        · with_reducible assumption
        )
      with_reducible assumption
    · rename_i x34 x35 x36 x37
      have k38 := keeps_eq x37 (P := KeepsGo W z) (by
        apply goList_keeps
        · exact Sub.up (by decide) hW
        · intro y39 y40 y41
          apply Go.bind_keeps
          · apply updateSpan_keeps
            · with_reducible assumption
            · with_reducible assumption
          · intro y42 y43 y44
            with_reducible assumption
        · with_reducible assumption
        )
      with_reducible assumption

theorem execUpdateAdamw_keeps {W : Nat} {z : State} (op : ℕ) (tile : ℕ) (s : State) (hW : Sub 107347956 W) (h_s :
    Keeps W z s) :
    KeepsRes W z (execUpdateAdamw op tile s) := by
  unfold execUpdateAdamw
  apply updateTile_keeps
  · with_reducible assumption
  · with_reducible assumption

theorem readBlocks_keeps {W : Nat} {z : State} (h : ℕ) (o : Op) (s : State) (hW : Sub 107347956 W) (h_s : Keeps W z
    s) :
    KeepsGo W z (readBlocks h o s) := by
  unfold readBlocks
  apply goList_keeps
  · exact Sub.up (by decide) hW
  · intro y0 y1 y2
    apply Go.bind_keeps
    · apply opRead_keeps
      · with_reducible assumption
      · with_reducible assumption
    · intro y3 y4 y5
      with_reducible assumption
  · with_reducible assumption

theorem execUpdateBlockFetchDone_keeps {W : Nat} {z : State} (h : ℕ) (s : State) (hW : Sub 107347956 W) (h_s : Keeps
    W z s) :
    KeepsRes W z (execUpdateBlockFetchDone h s) := by
  unfold execUpdateBlockFetchDone
  split
  · with_reducible assumption
  · split
    · with_reducible assumption
    · apply setupEnd_keeps
      · exact Sub.up (by decide) hW
      · apply Go.bind_keeps
        · apply readBlocks_keeps
          · with_reducible assumption
          · with_reducible assumption
        · intro y7 y8 y9
          split
          · with_reducible assumption
          · extract_lets v12 v13
            clear_value v12
            clear_value v13
            apply beginRun_keeps
            · with_reducible assumption
            · apply modOp_keeps
              · exact Sub.up (by decide) hW
              · with_reducible assumption

theorem execUpdateComponent_keeps {W : Nat} {z : State} (image : ImageHead) (s : State) (hW : Sub 71304196 W) (h_s :
    Keeps W z s) :
    KeepsRes W z (execUpdateComponent image s) := by
  unfold execUpdateComponent
  split
  · change Keeps W z _
    apply pldmReply_keeps
    · exact Sub.up (by decide) hW
    · with_reducible assumption
  · extract_lets v2 v3 v4 v5 v6
    clear_value v2
    have h7 : Keeps W z v3 := by
      unfold v3
      apply wf_keeps
      · exact Sub.up (by decide) hW
      · apply wb_keeps
        · exact Sub.up (by decide) hW
        · with_reducible assumption
    clear_value v3
    have h8 : Keeps W z v4 := by
      unfold v4
      apply setFwu_keeps
      · exact Sub.up (by decide) hW
      · apply wf_keeps
        · exact Sub.up (by decide) hW
        · with_reducible assumption
    clear_value v4
    clear_value v5
    have h9 : Keeps W z v6 := by
      unfold v6
      apply pldmReply_keeps
      · exact Sub.up (by decide) hW
      · refine Keeps.congr (s := v4) ?_ rfl rfl rfl rfl rfl rfl kept kept kept kept kept kept kept kept kept kept
            kept kept kept kept kept kept kept kept kept (hW.chg rfl) kept kept
        with_reducible assumption
    clear_value v6
    split
    · change Keeps W z _
      split
      · apply updateFails_keeps
        · with_reducible assumption
        · with_reducible assumption
      · apply pldmReply_keeps
        · exact Sub.up (by decide) hW
        · apply wf_keeps
          · exact Sub.up (by decide) hW
          · apply wb_keeps
            · exact Sub.up (by decide) hW
            · with_reducible assumption
    · split
      · change Keeps W z _
        apply transferDone_keeps
        · with_reducible assumption
        · with_reducible assumption
      · change Keeps W z _
        apply askPiece_keeps
        · exact Sub.up (by decide) hW
        · with_reducible assumption

theorem execUpdateSgdm_keeps {W : Nat} {z : State} (op : ℕ) (tile : ℕ) (s : State) (hW : Sub 107347956 W) (h_s :
    Keeps W z s) :
    KeepsRes W z (execUpdateSgdm op tile s) := by
  unfold execUpdateSgdm
  apply updateTile_keeps
  · with_reducible assumption
  · with_reducible assumption

theorem execUpdateTable_keeps {W : Nat} {z : State} (op : ℕ) (tile : ℕ) (s : State) (hW : Sub 107347956 W) (h_s :
    Keeps W z s) :
    KeepsRes W z (execUpdateTable op tile s) := by
  unfold execUpdateTable
  apply updateTile_keeps
  · with_reducible assumption
  · with_reducible assumption

theorem execUpgrade_keeps {W : Nat} {z : State} (port : ℕ) (pkt : Packet) (s : State) (hW : Sub 107347828 W) (h_s :
    Keeps W z s) :
    KeepsRes W z (execUpgrade port pkt s) := by
  unfold execUpgrade
  apply reqPacket_keeps
  · with_reducible assumption
  · with_reducible assumption

theorem execVddAonLoss_keeps {W : Nat} {z : State} (s : State) (hW : Sub 134217725 W) (h_s : Keeps W z s) :
    KeepsRes W z (execVddAonLoss s) := by
  unfold execVddAonLoss
  extract_lets v0 v1
  have h2 : Keeps W z v0 := by
    unfold v0
    apply coldBase_keeps
    · exact Sub.up (by decide) hW
    · apply dropTransfer_keeps
      · exact Sub.up (by decide) hW
      · with_reducible assumption
  clear_value v0
  have h3 : Keeps W z v1 := by
    unfold v1
    refine Keeps.congr (s := v0) ?_ rfl rfl rfl rfl rfl rfl kept (hW.chg rfl) kept kept kept kept kept kept kept kept
        kept kept kept kept kept kept kept (hW.chg rfl) kept kept kept kept
    with_reducible assumption
  clear_value v1
  change Keeps W z _
  apply put_keeps
  · exact Sub.up (by decide) hW
  · apply put_keeps
    · exact Sub.up (by decide) hW
    · apply put_keeps
      · exact Sub.up (by decide) hW
      · with_reducible assumption

theorem execVddAonValid_keeps {W : Nat} {z : State} (s : State) (hW : Sub 68158464 W) (h_s : Keeps W z s) :
    KeepsRes W z (execVddAonValid s) := by
  unfold execVddAonValid
  apply guarded_keeps
  · with_reducible assumption
  · intro y0 y1
    extract_lets v2 v3
    clear_value v2
    have h4 : Keeps W z v3 := by
      unfold v3
      refine Keeps.congr (s := y0) ?_ rfl rfl rfl rfl rfl rfl kept kept kept kept kept kept kept kept kept kept kept
          kept kept kept kept kept kept (hW.chg rfl) kept kept kept kept
      with_reducible assumption
    clear_value v3
    apply put_keeps
    · exact Sub.up (by decide) hW
    · apply put_keeps
      · exact Sub.up (by decide) hW
      · apply put_keeps
        · exact Sub.up (by decide) hW
        · with_reducible assumption

theorem execVersionUnitsRelease_keeps {W : Nat} {z : State} (region : ℕ) (version : ℕ) (s : State) (hW : Sub
    107347828 W) (h_s : Keeps W z s) :
    KeepsRes W z (execVersionUnitsRelease region version s) := by
  unfold execVersionUnitsRelease
  split
  · with_reducible assumption
  · extract_lets v5
    clear_value v5
    apply guarded_keeps
    · with_reducible assumption
    · intro y6 y7
      extract_lets v8
      have h9 : Keeps W z v8 := by
        unfold v8
        apply retryPromotes_keeps
        · with_reducible assumption
        · apply dropOld_keeps
          · exact Sub.up (by decide) hW
          · with_reducible assumption
      clear_value v8
      apply gauge_keeps
      · exact Sub.up (by decide) hW
      · with_reducible assumption

theorem walkLeaf_keeps {W : Nat} {z : State} (s : State) (w : Walk) (code : ℕ) (install : State → State) (hW : Sub
    107347956 W) (h_s : Keeps W z s) (h_install : ∀ q1, Keeps W z q1 → Keeps W z (install q1)) :
    Keeps W z (walkLeaf s w code install) := by
  unfold walkLeaf
  split
  · apply dropWalk_keeps
    · exact Sub.up (by decide) hW
    · apply h_install
      apply keepUppers_keeps
      · exact Sub.up (by decide) hW
      · with_reducible assumption
  · apply walkFault_keeps
    · with_reducible assumption
    · split
      · with_reducible assumption
      · apply h_install
        with_reducible assumption

theorem walkEntry_keeps {W : Nat} {z : State} (s : State) (w : Walk) (line : Bytes) (host : Bool) (hW : Sub 107347956
    W) (h_s : Keeps W z s) :
    Keeps W z (walkEntry s w line host) := by
  unfold walkEntry
  extract_lets v0 v1 v2 v3 v4 v5 v6 v7
  clear_value v0
  clear_value v1
  clear_value v2
  clear_value v3
  clear_value v4
  clear_value v5
  clear_value v6
  have h8 : Keeps W z v7 := by
    unfold v7
    apply dropWalk_keeps
    · exact Sub.up (by decide) hW
    · with_reducible assumption
  clear_value v7
  split
  · apply walkLeaf_keeps
    · with_reducible assumption
    · with_reducible assumption
    · intro y10 y11
      unfold Sys2Proof.Machine.installLine
      refine foldl_keeps (P := Keeps W z) ?_ ?_
      · with_reducible assumption
      · intro y12 y13 y14
        extract_lets v15
        clear_value v15
        split
        · unfold Sys2Proof.Machine.installLeaf
          extract_lets v17 v18
          clear_value v17
          clear_value v18
          apply setLeaves_keeps
          · exact Sub.up (by decide) hW
          · with_reducible assumption
        · with_reducible assumption
  · split
    · apply walkFault_keeps
      · with_reducible assumption
      · with_reducible assumption
    · split
      · split
        · apply walkFault_keeps
          · with_reducible assumption
          · with_reducible assumption
        · split
          · apply walkFault_keeps
            · with_reducible assumption
            · with_reducible assumption
          · apply walkLeaf_keeps
            · with_reducible assumption
            · with_reducible assumption
            · intro y28 y29
              unfold Sys2Proof.Machine.installLeaf
              extract_lets v30 v31
              clear_value v30
              clear_value v31
              apply setLeaves_keeps
              · exact Sub.up (by decide) hW
              · with_reducible assumption
      · split
        · split
          · with_reducible assumption
          · apply keepUppers_keeps
            · exact Sub.up (by decide) hW
            · with_reducible assumption
        · apply walkRead_keeps
          · exact Sub.up (by decide) hW
          · apply setWalks_keeps
            · exact Sub.up (by decide) hW
            · with_reducible assumption

theorem execWalkEntryRead_keeps {W : Nat} {z : State} (walk : ℕ) (read : TableRead) (s : State) (hW : Sub 107347956
    W) (h_s : Keeps W z s) :
    KeepsRes W z (execWalkEntryRead walk read s) := by
  unfold execWalkEntryRead
  split
  · with_reducible assumption
  · extract_lets v5 v6
    clear_value v5
    clear_value v6
    split
    · change Keeps W z _
      apply walkFault_keeps
      · with_reducible assumption
      · with_reducible assumption
    · split
      · apply guarded_keeps
        · with_reducible assumption
        · intro y11 y12
          apply walkEntry_keeps
          · with_reducible assumption
          · with_reducible assumption
      · apply guarded_keeps
        · with_reducible assumption
        · intro y14 y15
          apply walkFault_keeps
          · with_reducible assumption
          · with_reducible assumption
      · split
        · with_reducible assumption
        · split
          · rename_i x19 x20 x21
            have k22 := keeps_eq x21 (P := KeepsGo W z) (by
              apply userRead_keeps
              · exact Sub.up (by decide) hW
              · with_reducible assumption
              )
            with_reducible assumption
          · rename_i x23 x24 x25 x26
            have k27 := keeps_eq x26 (P := KeepsGo W z) (by
              apply userRead_keeps
              · exact Sub.up (by decide) hW
              · with_reducible assumption
              )
            change Keeps W z _
            apply walkFault_keeps
            · with_reducible assumption
            · apply forgetSnoops_keeps
              · exact Sub.up (by decide) hW
              · with_reducible assumption
          · rename_i x28 x29 x30 x31 x32
            have k33 := keeps_eq x32 (P := KeepsGo W z) (by
              apply userRead_keeps
              · exact Sub.up (by decide) hW
              · with_reducible assumption
              )
            extract_lets v34
            have h35 : Keeps W z v34 := by
              unfold v34
              apply forgetSnoops_keeps
              · exact Sub.up (by decide) hW
              · with_reducible assumption
            clear_value v34
            split
            · change Keeps W z _
              apply walkFault_keeps
              · with_reducible assumption
              · with_reducible assumption
            · change Keeps W z _
              apply walkEntry_keeps
              · with_reducible assumption
              · with_reducible assumption

theorem execWarmResetPin_keeps {W : Nat} {z : State} (boot : WarmInput) (s : State) (hW : Sub 117440508 W) (h_s :
    Keeps W z s) :
    KeepsRes W z (execWarmResetPin boot s) := by
  unfold execWarmResetPin
  change Keeps W z _
  apply warmRequest_keeps
  · with_reducible assumption
  · with_reducible assumption

theorem execWbDirty_keeps {W : Nat} {z : State} (port : ℕ) (pkt : Packet) (s : State) (hW : Sub 107347828 W) (h_s :
    Keeps W z s) :
    KeepsRes W z (execWbDirty port pkt s) := by
  unfold execWbDirty
  apply absorb_keeps
  · exact Sub.up (by decide) hW
  · with_reducible assumption
  · intro y0 y1 y2
    apply wbServe_keeps
    · with_reducible assumption
    · with_reducible assumption

theorem setWidth_keeps {W : Nat} {z : State} (s : State) (p : ℕ) (w : ℕ) (set : BitVec 9) (hW : Sub 16388 W) (h_s :
    Keeps W z s) :
    Keeps W z (setWidth s p w set) := by
  unfold setWidth
  extract_lets v0
  clear_value v0
  apply setLanes_keeps
  · with_reducible assumption
  · with_reducible assumption

theorem widthDone_keeps {W : Nat} {z : State} (s : State) (p : ℕ) (w : ℕ) (set : BitVec 9) (hW : Sub 107083524 W)
    (h_s : Keeps W z s) :
    Keeps W z (widthDone s p w set) := by
  unfold widthDone
  extract_lets v0 v1
  have h2 : Keeps W z v0 := by
    unfold v0
    apply setLinkState_keeps
    · exact Sub.up (by decide) hW
    · apply wf_keeps
      · exact Sub.up (by decide) hW
      · apply setWidth_keeps
        · exact Sub.up (by decide) hW
        · with_reducible assumption
  clear_value v0
  clear_value v1
  split
  · apply enterPower_keeps
    · exact Sub.up (by decide) hW
    · with_reducible assumption
  · apply retryLanes_keeps
    · with_reducible assumption
    · apply setLp_keeps
      · exact Sub.up (by decide) hW
      · with_reducible assumption

theorem execWidthAck_keeps {W : Nat} {z : State} (port : ℕ) (width : ℕ) (s : State) (hW : Sub 107083524 W) (h_s :
    Keeps W z s) :
    KeepsRes W z (execWidthAck port width s) := by
  unfold execWidthAck
  apply onMsg_keeps
  · exact Sub.up (by decide) hW
  · with_reducible assumption
  · intro y0 y1
    split
    · extract_lets v3
      clear_value v3
      apply widthDone_keeps
      · with_reducible assumption
      · apply answered_keeps
        · exact Sub.up (by decide) hW
        · with_reducible assumption
    · with_reducible assumption

theorem execWidthMaxWrite_keeps {W : Nat} {z : State} (_id : ℕ) (port : ℕ) (value : W32) (s : State) (hW : Sub
    107347828 W) (h_s : Keeps W z s) :
    KeepsRes W z (execWidthMaxWrite _id port value s) := by
  unfold execWidthMaxWrite
  apply guarded_keeps
  · with_reducible assumption
  · intro y0 y1
    apply linkCtlWrite_keeps
    · with_reducible assumption
    · with_reducible assumption

theorem execWidthReq_keeps {W : Nat} {z : State} (port : ℕ) (width : ℕ) (s : State) (hW : Sub 107083524 W) (h_s :
    Keeps W z s) :
    KeepsRes W z (execWidthReq port width s) := by
  unfold execWidthReq
  extract_lets v0
  clear_value v0
  apply onMsg_keeps
  · exact Sub.up (by decide) hW
  · with_reducible assumption
  · intro y1 y2
    extract_lets v3 v4 v5 v6
    clear_value v3
    clear_value v4
    clear_value v5
    have h7 : Keeps W z v6 := by
      unfold v6
      split
      · apply answered_keeps
        · exact Sub.up (by decide) hW
        · with_reducible assumption
      · with_reducible assumption
    clear_value v6
    split
    · with_reducible assumption
    · apply widthDone_keeps
      · with_reducible assumption
      · apply say_keeps
        · exact Sub.up (by decide) hW
        · apply voidPort_keeps
          · exact Sub.up (by decide) hW
          · with_reducible assumption

theorem wrDataServe_keeps {W : Nat} {z : State} (pkt : Packet) (s : State) (hW : Sub 107347828 W) (h_s : Keeps W z s)
    :
    Keeps W z (wrDataServe pkt s) := by
  unfold wrDataServe
  split
  · with_reducible assumption
  · split
    · extract_lets v6
      clear_value v6
      apply advance_keeps
      · with_reducible assumption
      · apply setTran_keeps
        · exact Sub.up (by decide) hW
        · with_reducible assumption
    · with_reducible assumption

theorem execWrData_keeps {W : Nat} {z : State} (port : ℕ) (pkt : Packet) (s : State) (hW : Sub 107347828 W) (h_s :
    Keeps W z s) :
    KeepsRes W z (execWrData port pkt s) := by
  unfold execWrData
  apply arrive_keeps
  · exact Sub.up (by decide) hW
  · with_reducible assumption
  · intro y0 y1
    unfold id
    with_reducible assumption
  · intro y2 y3
    apply discardPacket_keeps
    · exact Sub.up (by decide) hW
    · with_reducible assumption
  · intro y4 y5
    apply wrDataServe_keeps
    · with_reducible assumption
    · with_reducible assumption

theorem execWrOnce_keeps {W : Nat} {z : State} (port : ℕ) (pkt : Packet) (s : State) (hW : Sub 107347828 W) (h_s :
    Keeps W z s) :
    KeepsRes W z (execWrOnce port pkt s) := by
  unfold execWrOnce
  apply reqPacket_keeps
  · with_reducible assumption
  · with_reducible assumption

theorem execWrite32_keeps {W : Nat} {z : State} (addr : ℕ) (value : W32) (s : State) (hW : Sub 117440510 W) (h_s :
    Keeps W z s) :
    KeepsRes W z (execWrite32 addr value s) := by
  unfold execWrite32
  split
  · with_reducible assumption
  · apply busWrite_keeps
    · with_reducible assumption
    · with_reducible assumption

theorem invalidate_keeps {W : Nat} {z : State} (s : State) (scope : ℕ) (c : ℕ) (lo : ℕ) (n : ℕ) (hW : Sub 100666496
    W) (h_s : Keeps W z s) :
    KeepsFst W z (invalidate s scope c lo n) := by
  unfold invalidate
  extract_lets v0 v1 v2 v3 v4 v5
  clear_value v0
  clear_value v1
  clear_value v2
  clear_value v3
  clear_value v4
  have h6 : Keeps W z v5 := by
    unfold v5
    refine Keeps.congr (s := s) ?_ rfl rfl rfl rfl rfl rfl kept kept kept kept (hW.chg rfl) kept kept kept (hW.chg
        rfl) kept kept kept kept kept kept kept kept kept kept kept kept kept
    with_reducible assumption
  clear_value v5
  change Keeps W z _
  dsimp only
  refine foldl_keeps (P := Keeps W z) ?_ ?_
  · with_reducible assumption
  · intro y7 y8 y9
    apply startWalk_keeps
    · exact Sub.up (by decide) hW
    · with_reducible assumption

theorem execXltInval_keeps {W : Nat} {z : State} (h : ℕ) (s : State) (hW : Sub 107347956 W) (h_s : Keeps W z s) :
    KeepsRes W z (execXltInval h s) := by
  unfold execXltInval
  split
  · with_reducible assumption
  · extract_lets v5 v6 v7 v8 v9 v10
    clear_value v5
    clear_value v6
    clear_value v7
    clear_value v8
    clear_value v9
    clear_value v10
    split
    · change Keeps W z _
      apply endWith_keeps
      · exact Sub.up (by decide) hW
      · with_reducible assumption
    · split
      rename_i x13 x14 x15 x16
      have k17 := keeps_eq x16 (P := KeepsFst W z) (by
        apply invalidate_keeps
        · exact Sub.up (by decide) hW
        · with_reducible assumption
        )
      extract_lets v18 v19
      clear_value v18
      have h20 : Keeps W z v19 := by
        unfold v19
        refine Keeps.congr (s := x14) ?_ rfl rfl rfl rfl rfl rfl kept kept kept kept (hW.chg rfl) kept kept kept kept
            kept kept kept kept kept kept kept kept kept kept kept kept kept
        with_reducible assumption
      clear_value v19
      change Keeps W z _
      apply count_keeps
      · exact Sub.up (by decide) hW
      · apply modOp_keeps
        · exact Sub.up (by decide) hW
        · with_reducible assumption

theorem execXltInvalComplete_keeps {W : Nat} {z : State} (h : ℕ) (s : State) (hW : Sub 107347956 W) (h_s : Keeps W z
    s) :
    KeepsRes W z (execXltInvalComplete h s) := by
  unfold execXltInvalComplete
  split
  · with_reducible assumption
  · split
    · with_reducible assumption
    · change Keeps W z _
      apply endOp_keeps
      · exact Sub.up (by decide) hW
      · refine Keeps.congr (s := s) ?_ rfl rfl rfl rfl rfl rfl kept kept kept kept (hW.chg rfl) kept kept kept kept
            kept kept kept kept kept kept kept kept kept kept kept kept kept
        with_reducible assumption

theorem execZqCalibration_keeps {W : Nat} {z : State} (ch : ℕ) (s : State) (hW : Sub 67109888 W) (h_s : Keeps W z s) :
    KeepsRes W z (execZqCalibration ch s) := by
  unfold execZqCalibration
  apply guarded_keeps
  · with_reducible assumption
  · intro y0 y1
    apply put_keeps
    · with_reducible assumption
    · with_reducible assumption

theorem flushRecords_keeps {W : Nat} {z : State} (s : State) (hW : Sub 107347828 W) (h_s : Keeps W z s) :
    Keeps W z (flushRecords s) := by
  unfold flushRecords
  refine foldl_keeps (P := Keeps W z) ?_ ?_
  · with_reducible assumption
  · intro y0 y1 y2
    apply flushRecord_keeps
    · with_reducible assumption
    · with_reducible assumption

theorem perstEnd_keeps {W : Nat} {z : State} (s : State) (hW : Sub 67109888 W) (h_s : Keeps W z s) :
    Keeps W z (perstEnd s) := by
  unfold perstEnd
  extract_lets v0
  clear_value v0
  refine foldl_keeps (P := Keeps W z) ?_ ?_
  · with_reducible assumption
  · intro y1 y2 y3
    extract_lets v4 v5
    clear_value v4
    have h6 : Keeps W z v5 := by
      unfold v5
      refine Keeps.congr (s := y1) ?_ rfl rfl rfl rfl rfl rfl kept kept kept kept kept kept kept (hW.chg rfl) kept
          kept kept kept kept kept kept kept kept kept kept kept kept kept
      with_reducible assumption
    clear_value v5
    split
    · apply put_keeps
      · with_reducible assumption
      · apply put_keeps
        · with_reducible assumption
        · with_reducible assumption
    · with_reducible assumption

theorem refill_keeps {W : Nat} {z : State} (s : State) (hW : Sub 512 W) (h_s : Keeps W z s) :
    Keeps W z (refill s) := by
  unfold refill
  extract_lets v0 v1 v2
  clear_value v0
  clear_value v1
  clear_value v2
  refine Keeps.congr (s := s) ?_ rfl rfl rfl rfl rfl rfl kept kept kept kept kept kept (hW.chg rfl) kept kept kept
      kept kept kept kept kept kept kept kept kept kept kept kept
  with_reducible assumption

theorem settleReductions_keeps {W : Nat} {z : State} (s : State) (hW : Sub 107347956 W) (h_s : Keeps W z s) :
    Keeps W z (settleReductions s) := by
  unfold settleReductions
  apply flushRecords_keeps
  · exact Sub.up (by decide) hW
  · refine foldl_keeps (P := Keeps W z) ?_ ?_
    · with_reducible assumption
    · intro y0 y1 y2
      apply markLost_keeps
      · with_reducible assumption
      · with_reducible assumption

theorem sinkDone_keeps {W : Nat} {z : State} (s : State) (h : ℕ) (num : ℕ) (n : ℕ) (hW : Sub 2304 W) (h_s : Keeps W z
    s) :
    Keeps W z (sinkDone s h num n) := by
  unfold sinkDone
  apply modTile_keeps
  · exact Sub.up (by decide) hW
  · apply forgetSnoops_keeps
    · exact Sub.up (by decide) hW
    · with_reducible assumption

theorem stationDone_keeps {W : Nat} {z : State} (s : State) (h : ℕ) (num : ℕ) (a : At) (g : Tile → Tile) (n : ℕ) (hW
    : Sub 2304 W) (h_s : Keeps W z s) :
    Keeps W z (stationDone s h num a g n) := by
  unfold stationDone
  apply modTile_keeps
  · exact Sub.up (by decide) hW
  · apply forgetSnoops_keeps
    · exact Sub.up (by decide) hW
    · with_reducible assumption

theorem tick_keeps {W : Nat} {z : State} (s : State) (hW : Sub 117440509 W) (h_s : Keeps W z s) :
    Keeps W z (tick s) := by
  unfold tick
  split
  · with_reducible assumption
  · extract_lets v2
    have h3 : Keeps W z v2 := by
      unfold v2
      refine Keeps.congr (s := s) ?_ rfl rfl rfl rfl rfl rfl (hW.chg rfl) kept kept kept kept kept kept kept kept
          kept kept kept kept kept kept kept kept kept kept kept kept kept
      with_reducible assumption
    split
    · apply warmGo_keeps
      · exact Sub.up (by decide) hW
      · apply copyOn_keeps
        · exact Sub.up (by decide) hW
        · apply drainStaged_keeps
          · exact Sub.up (by decide) hW
          · apply settleReductions_keeps
            · exact Sub.up (by decide) hW
            · apply perstEnd_keeps
              · exact Sub.up (by decide) hW
              · apply refill_keeps
                · exact Sub.up (by decide) hW
                · with_reducible assumption
    · with_reducible assumption

end Sys2Proof.Machine
end

