-- ==== Sys2Proof/Laws/PerInstr.lean ====
section
/-!
SUPPORT. For each command: the parts it may change are listed once each.
-/
namespace Sys2Proof.Laws.Touches

open Sys2Proof.Machine

/-- The parts that a command may change are listed once each, and they are not all of the state. -/
def Statement (i : Instr) : Prop := (touches i).Nodup ∧ (touches i).length < 27

theorem registerWrite : ∀ a1 a2 a3 a4, Statement (.registerWrite a1 a2 a3 a4) :=
  fun _ _ _ _ => of_decide_eq_true (p := List.Nodup _ ∧ _) rfl
theorem alloc : ∀ a1, Statement (.alloc a1) :=
  fun _ => of_decide_eq_true (p := List.Nodup _ ∧ _) rfl
theorem free : ∀ a1, Statement (.free a1) :=
  fun _ => of_decide_eq_true (p := List.Nodup _ ∧ _) rfl
theorem freeComplete : ∀ a1, Statement (.freeComplete a1) :=
  fun _ => of_decide_eq_true (p := List.Nodup _ ∧ _) rfl
theorem resize : ∀ a1, Statement (.resize a1) :=
  fun _ => of_decide_eq_true (p := List.Nodup _ ∧ _) rfl
theorem resizeShrinkComplete : ∀ a1, Statement (.resizeShrinkComplete a1) :=
  fun _ => of_decide_eq_true (p := List.Nodup _ ∧ _) rfl
theorem resizeGrowResume : ∀ a1, Statement (.resizeGrowResume a1) :=
  fun _ => of_decide_eq_true (p := List.Nodup _ ∧ _) rfl
theorem setAttr : ∀ a1, Statement (.setAttr a1) :=
  fun _ => of_decide_eq_true (p := List.Nodup _ ∧ _) rfl
theorem setAttrComplete : ∀ a1, Statement (.setAttrComplete a1) :=
  fun _ => of_decide_eq_true (p := List.Nodup _ ∧ _) rfl
theorem pin : ∀ a1, Statement (.pin a1) :=
  fun _ => of_decide_eq_true (p := List.Nodup _ ∧ _) rfl
theorem pinComplete : ∀ a1, Statement (.pinComplete a1) :=
  fun _ => of_decide_eq_true (p := List.Nodup _ ∧ _) rfl
theorem unpin : ∀ a1, Statement (.unpin a1) :=
  fun _ => of_decide_eq_true (p := List.Nodup _ ∧ _) rfl
theorem publish : ∀ a1, Statement (.publish a1) :=
  fun _ => of_decide_eq_true (p := List.Nodup _ ∧ _) rfl
theorem versionUnitsRelease : ∀ a1 a2, Statement (.versionUnitsRelease a1 a2) :=
  fun _ _ => of_decide_eq_true (p := List.Nodup _ ∧ _) rfl
theorem xltInval : ∀ a1, Statement (.xltInval a1) :=
  fun _ => of_decide_eq_true (p := List.Nodup _ ∧ _) rfl
theorem xltInvalComplete : ∀ a1, Statement (.xltInvalComplete a1) :=
  fun _ => of_decide_eq_true (p := List.Nodup _ ∧ _) rfl
theorem ctxIdxWrite : ∀ a1 a2, Statement (.ctxIdxWrite a1 a2) :=
  fun _ _ => of_decide_eq_true (p := List.Nodup _ ∧ _) rfl
theorem ctxData3Write : ∀ a1 a2, Statement (.ctxData3Write a1 a2) :=
  fun _ _ => of_decide_eq_true (p := List.Nodup _ ∧ _) rfl
theorem translationPrefetch : ∀ a1, Statement (.translationPrefetch a1) :=
  fun _ => of_decide_eq_true (p := List.Nodup _ ∧ _) rfl
theorem walkEntryRead : ∀ a1 a2, Statement (.walkEntryRead a1 a2) :=
  fun _ _ => of_decide_eq_true (p := List.Nodup _ ∧ _) rfl
theorem rdShared : ∀ a1 a2, Statement (.rdShared a1 a2) :=
  fun _ _ => of_decide_eq_true (p := List.Nodup _ ∧ _) rfl
theorem rdOwn : ∀ a1 a2, Statement (.rdOwn a1 a2) :=
  fun _ _ => of_decide_eq_true (p := List.Nodup _ ∧ _) rfl
theorem upgrade : ∀ a1 a2, Statement (.upgrade a1 a2) :=
  fun _ _ => of_decide_eq_true (p := List.Nodup _ ∧ _) rfl
theorem rdOnce : ∀ a1 a2, Statement (.rdOnce a1 a2) :=
  fun _ _ => of_decide_eq_true (p := List.Nodup _ ∧ _) rfl
theorem wrOnce : ∀ a1 a2, Statement (.wrOnce a1 a2) :=
  fun _ _ => of_decide_eq_true (p := List.Nodup _ ∧ _) rfl
theorem wrData : ∀ a1 a2, Statement (.wrData a1 a2) :=
  fun _ _ => of_decide_eq_true (p := List.Nodup _ ∧ _) rfl
theorem wbDirty : ∀ a1 a2, Statement (.wbDirty a1 a2) :=
  fun _ _ => of_decide_eq_true (p := List.Nodup _ ∧ _) rfl
theorem evict : ∀ a1 a2, Statement (.evict a1 a2) :=
  fun _ _ => of_decide_eq_true (p := List.Nodup _ ∧ _) rfl
theorem ackShr : ∀ a1 a2, Statement (.ackShr a1 a2) :=
  fun _ _ => of_decide_eq_true (p := List.Nodup _ ∧ _) rfl
theorem ackInv : ∀ a1 a2, Statement (.ackInv a1 a2) :=
  fun _ _ => of_decide_eq_true (p := List.Nodup _ ∧ _) rfl
theorem ackMiss : ∀ a1 a2, Statement (.ackMiss a1 a2) :=
  fun _ _ => of_decide_eq_true (p := List.Nodup _ ∧ _) rfl
theorem ackClean : ∀ a1 a2, Statement (.ackClean a1 a2) :=
  fun _ _ => of_decide_eq_true (p := List.Nodup _ ∧ _) rfl
theorem holdData : ∀ a1 a2, Statement (.holdData a1 a2) :=
  fun _ _ => of_decide_eq_true (p := List.Nodup _ ∧ _) rfl
theorem transactionClose : ∀ a1, Statement (.transactionClose a1) :=
  fun _ => of_decide_eq_true (p := List.Nodup _ ∧ _) rfl
theorem recallTimeout : ∀ a1 a2, Statement (.recallTimeout a1 a2) :=
  fun _ _ => of_decide_eq_true (p := List.Nodup _ ∧ _) rfl
theorem directorySweepDone : ∀ a1, Statement (.directorySweepDone a1) :=
  fun _ => of_decide_eq_true (p := List.Nodup _ ∧ _) rfl
theorem agentDataWrite : ∀ a1 a2, Statement (.agentDataWrite a1 a2) :=
  fun _ _ => of_decide_eq_true (p := List.Nodup _ ∧ _) rfl
theorem agentFence : ∀ a1 a2, Statement (.agentFence a1 a2) :=
  fun _ _ => of_decide_eq_true (p := List.Nodup _ ∧ _) rfl
theorem agentUnfence : ∀ a1 a2, Statement (.agentUnfence a1 a2) :=
  fun _ _ => of_decide_eq_true (p := List.Nodup _ ∧ _) rfl
theorem schedulerStartUnit : ∀ a1, Statement (.schedulerStartUnit a1) :=
  fun _ => of_decide_eq_true (p := List.Nodup _ ∧ _) rfl
theorem gateCommit : ∀ a1 a2 a3, Statement (.gateCommit a1 a2 a3) :=
  fun _ _ _ => of_decide_eq_true (p := List.Nodup _ ∧ _) rfl
theorem gateCycleStart : ∀ a1, Statement (.gateCycleStart a1) :=
  fun _ => of_decide_eq_true (p := List.Nodup _ ∧ _) rfl
theorem gateWindowBoundary : ∀ a1, Statement (.gateWindowBoundary a1) :=
  fun _ => of_decide_eq_true (p := List.Nodup _ ∧ _) rfl
theorem tileAdmissionRetry : ∀ a1 a2, Statement (.tileAdmissionRetry a1 a2) :=
  fun _ _ => of_decide_eq_true (p := List.Nodup _ ∧ _) rfl
theorem cacheFillDone : ∀ a1, Statement (.cacheFillDone a1) :=
  fun _ => of_decide_eq_true (p := List.Nodup _ ∧ _) rfl
theorem cacheReleaseDone : ∀ a1, Statement (.cacheReleaseDone a1) :=
  fun _ => of_decide_eq_true (p := List.Nodup _ ∧ _) rfl
theorem epochEnd : Statement (.epochEnd) :=
  of_decide_eq_true (p := List.Nodup _ ∧ _) rfl
theorem cisternPromotionDone : ∀ a1 a2, Statement (.cisternPromotionDone a1 a2) :=
  fun _ _ => of_decide_eq_true (p := List.Nodup _ ∧ _) rfl
theorem lehrDemoteStart : Statement (.lehrDemoteStart) :=
  of_decide_eq_true (p := List.Nodup _ ∧ _) rfl
theorem lehrDemotionCommit : ∀ a1, Statement (.lehrDemotionCommit a1) :=
  fun _ => of_decide_eq_true (p := List.Nodup _ ∧ _) rfl
theorem nvmeCmdTimeout : ∀ a1 a2, Statement (.nvmeCmdTimeout a1 a2) :=
  fun _ _ => of_decide_eq_true (p := List.Nodup _ ∧ _) rfl
theorem driveFailure : ∀ a1, Statement (.driveFailure a1) :=
  fun _ => of_decide_eq_true (p := List.Nodup _ ∧ _) rfl
theorem reservationPreemptDone : ∀ a1, Statement (.reservationPreemptDone a1) :=
  fun _ => of_decide_eq_true (p := List.Nodup _ ∧ _) rfl
theorem cisternEnable : ∀ a1 a2, Statement (.cisternEnable a1 a2) :=
  fun _ _ => of_decide_eq_true (p := List.Nodup _ ∧ _) rfl
theorem migrate : ∀ a1, Statement (.migrate a1) :=
  fun _ => of_decide_eq_true (p := List.Nodup _ ∧ _) rfl
theorem migrateMoveDone : ∀ a1, Statement (.migrateMoveDone a1) :=
  fun _ => of_decide_eq_true (p := List.Nodup _ ∧ _) rfl
theorem sqDoorbell : ∀ a1 a2 a3, Statement (.sqDoorbell a1 a2 a3) :=
  fun _ _ _ => of_decide_eq_true (p := List.Nodup _ ∧ _) rfl
theorem doorbellPacket : ∀ a1 a2, Statement (.doorbellPacket a1 a2) :=
  fun _ _ => of_decide_eq_true (p := List.Nodup _ ∧ _) rfl
theorem takeEntry : ∀ a1 a2, Statement (.takeEntry a1 a2) :=
  fun _ _ => of_decide_eq_true (p := List.Nodup _ ∧ _) rfl
theorem sqCfgWrite : ∀ a1 a2 a3, Statement (.sqCfgWrite a1 a2 a3) :=
  fun _ _ _ => of_decide_eq_true (p := List.Nodup _ ∧ _) rfl
theorem cqCfgWrite : ∀ a1 a2 a3, Statement (.cqCfgWrite a1 a2 a3) :=
  fun _ _ _ => of_decide_eq_true (p := List.Nodup _ ∧ _) rfl
theorem cqHeadWrite : ∀ a1 a2 a3, Statement (.cqHeadWrite a1 a2 a3) :=
  fun _ _ _ => of_decide_eq_true (p := List.Nodup _ ∧ _) rfl
theorem stream : ∀ a1, Statement (.stream a1) :=
  fun _ => of_decide_eq_true (p := List.Nodup _ ∧ _) rfl
theorem descriptorFetchDone : ∀ a1, Statement (.descriptorFetchDone a1) :=
  fun _ => of_decide_eq_true (p := List.Nodup _ ∧ _) rfl
theorem updateBlockFetchDone : ∀ a1, Statement (.updateBlockFetchDone a1) :=
  fun _ => of_decide_eq_true (p := List.Nodup _ ∧ _) rfl
theorem suspend : ∀ a1, Statement (.suspend a1) :=
  fun _ => of_decide_eq_true (p := List.Nodup _ ∧ _) rfl
theorem operationSuspended : ∀ a1, Statement (.operationSuspended a1) :=
  fun _ => of_decide_eq_true (p := List.Nodup _ ∧ _) rfl
theorem resume : ∀ a1, Statement (.resume a1) :=
  fun _ => of_decide_eq_true (p := List.Nodup _ ∧ _) rfl
theorem cancel : ∀ a1, Statement (.cancel a1) :=
  fun _ => of_decide_eq_true (p := List.Nodup _ ∧ _) rfl
theorem fence : ∀ a1, Statement (.fence a1) :=
  fun _ => of_decide_eq_true (p := List.Nodup _ ∧ _) rfl
theorem fenceComplete : ∀ a1, Statement (.fenceComplete a1) :=
  fun _ => of_decide_eq_true (p := List.Nodup _ ∧ _) rfl
theorem operationComplete : ∀ a1, Statement (.operationComplete a1) :=
  fun _ => of_decide_eq_true (p := List.Nodup _ ∧ _) rfl
theorem notifyCoalTimeout : ∀ a1, Statement (.notifyCoalTimeout a1) :=
  fun _ => of_decide_eq_true (p := List.Nodup _ ∧ _) rfl
theorem batchDeal : ∀ a1, Statement (.batchDeal a1) :=
  fun _ => of_decide_eq_true (p := List.Nodup _ ∧ _) rfl
theorem tileAssign : ∀ a1, Statement (.tileAssign a1) :=
  fun _ => of_decide_eq_true (p := List.Nodup _ ∧ _) rfl
theorem tileCommit : ∀ a1 a2, Statement (.tileCommit a1 a2) :=
  fun _ _ => of_decide_eq_true (p := List.Nodup _ ∧ _) rfl
theorem fetchRange : ∀ a1 a2, Statement (.fetchRange a1 a2) :=
  fun _ _ => of_decide_eq_true (p := List.Nodup _ ∧ _) rfl
theorem fetchGather : ∀ a1 a2, Statement (.fetchGather a1 a2) :=
  fun _ _ => of_decide_eq_true (p := List.Nodup _ ∧ _) rfl
theorem fetchSparse : ∀ a1 a2, Statement (.fetchSparse a1 a2) :=
  fun _ _ => of_decide_eq_true (p := List.Nodup _ ∧ _) rfl
theorem fillConst : ∀ a1 a2, Statement (.fillConst a1 a2) :=
  fun _ _ => of_decide_eq_true (p := List.Nodup _ ∧ _) rfl
theorem fillPattern : ∀ a1 a2, Statement (.fillPattern a1 a2) :=
  fun _ _ => of_decide_eq_true (p := List.Nodup _ ∧ _) rfl
theorem fillRamp : ∀ a1 a2, Statement (.fillRamp a1 a2) :=
  fun _ _ => of_decide_eq_true (p := List.Nodup _ ∧ _) rfl
theorem expand : ∀ a1 a2, Statement (.expand a1 a2) :=
  fun _ _ => of_decide_eq_true (p := List.Nodup _ ∧ _) rfl
theorem convert : ∀ a1 a2, Statement (.convert a1 a2) :=
  fun _ _ => of_decide_eq_true (p := List.Nodup _ ∧ _) rfl
theorem selectMask : ∀ a1 a2, Statement (.selectMask a1 a2) :=
  fun _ _ => of_decide_eq_true (p := List.Nodup _ ∧ _) rfl
theorem selectTopk : ∀ a1 a2, Statement (.selectTopk a1 a2) :=
  fun _ _ => of_decide_eq_true (p := List.Nodup _ ∧ _) rfl
theorem selectRoute : ∀ a1 a2, Statement (.selectRoute a1 a2) :=
  fun _ _ => of_decide_eq_true (p := List.Nodup _ ∧ _) rfl
theorem combineAdd : ∀ a1 a2, Statement (.combineAdd a1 a2) :=
  fun _ _ => of_decide_eq_true (p := List.Nodup _ ∧ _) rfl
theorem combineSub : ∀ a1 a2, Statement (.combineSub a1 a2) :=
  fun _ _ => of_decide_eq_true (p := List.Nodup _ ∧ _) rfl
theorem combineMul : ∀ a1 a2, Statement (.combineMul a1 a2) :=
  fun _ _ => of_decide_eq_true (p := List.Nodup _ ∧ _) rfl
theorem combineMax : ∀ a1 a2, Statement (.combineMax a1 a2) :=
  fun _ _ => of_decide_eq_true (p := List.Nodup _ ∧ _) rfl
theorem combineMin : ∀ a1 a2, Statement (.combineMin a1 a2) :=
  fun _ _ => of_decide_eq_true (p := List.Nodup _ ∧ _) rfl
theorem combineFma : ∀ a1 a2, Statement (.combineFma a1 a2) :=
  fun _ _ => of_decide_eq_true (p := List.Nodup _ ∧ _) rfl
theorem combineScale : ∀ a1 a2, Statement (.combineScale a1 a2) :=
  fun _ _ => of_decide_eq_true (p := List.Nodup _ ∧ _) rfl
theorem reduceAccum : ∀ a1 a2, Statement (.reduceAccum a1 a2) :=
  fun _ _ => of_decide_eq_true (p := List.Nodup _ ∧ _) rfl
theorem reduceGroup : ∀ a1 a2, Statement (.reduceGroup a1 a2) :=
  fun _ _ => of_decide_eq_true (p := List.Nodup _ ∧ _) rfl
theorem updateSgdm : ∀ a1 a2, Statement (.updateSgdm a1 a2) :=
  fun _ _ => of_decide_eq_true (p := List.Nodup _ ∧ _) rfl
theorem updateAdamw : ∀ a1 a2, Statement (.updateAdamw a1 a2) :=
  fun _ _ => of_decide_eq_true (p := List.Nodup _ ∧ _) rfl
theorem updateTable : ∀ a1 a2, Statement (.updateTable a1 a2) :=
  fun _ _ => of_decide_eq_true (p := List.Nodup _ ∧ _) rfl
theorem compact : ∀ a1 a2, Statement (.compact a1 a2) :=
  fun _ _ => of_decide_eq_true (p := List.Nodup _ ∧ _) rfl
theorem check : ∀ a1 a2, Statement (.check a1 a2) :=
  fun _ _ => of_decide_eq_true (p := List.Nodup _ ∧ _) rfl
theorem compareBitwise : ∀ a1 a2, Statement (.compareBitwise a1 a2) :=
  fun _ _ => of_decide_eq_true (p := List.Nodup _ ∧ _) rfl
theorem compareTol : ∀ a1 a2, Statement (.compareTol a1 a2) :=
  fun _ _ => of_decide_eq_true (p := List.Nodup _ ∧ _) rfl
theorem storeRange : ∀ a1 a2, Statement (.storeRange a1 a2) :=
  fun _ _ => of_decide_eq_true (p := List.Nodup _ ∧ _) rfl
theorem storeScatter : ∀ a1 a2, Statement (.storeScatter a1 a2) :=
  fun _ _ => of_decide_eq_true (p := List.Nodup _ ∧ _) rfl
theorem storeSparse : ∀ a1 a2, Statement (.storeSparse a1 a2) :=
  fun _ _ => of_decide_eq_true (p := List.Nodup _ ∧ _) rfl
theorem storePut : ∀ a1 a2, Statement (.storePut a1 a2) :=
  fun _ _ => of_decide_eq_true (p := List.Nodup _ ∧ _) rfl
theorem storeRouted : ∀ a1 a2, Statement (.storeRouted a1 a2) :=
  fun _ _ => of_decide_eq_true (p := List.Nodup _ ∧ _) rfl
theorem storeNull : ∀ a1 a2, Statement (.storeNull a1 a2) :=
  fun _ _ => of_decide_eq_true (p := List.Nodup _ ∧ _) rfl
theorem reductionComplete : ∀ a1, Statement (.reductionComplete a1) :=
  fun _ => of_decide_eq_true (p := List.Nodup _ ∧ _) rfl
theorem reservePowerUp : ∀ a1, Statement (.reservePowerUp a1) :=
  fun _ => of_decide_eq_true (p := List.Nodup _ ∧ _) rfl
theorem reserveGoldenTileDone : ∀ a1 a2, Statement (.reserveGoldenTileDone a1 a2) :=
  fun _ _ => of_decide_eq_true (p := List.Nodup _ ∧ _) rfl
theorem flitReceive : ∀ a1 a2, Statement (.flitReceive a1 a2) :=
  fun _ _ => of_decide_eq_true (p := List.Nodup _ ∧ _) rfl
theorem flitTransmit : ∀ a1, Statement (.flitTransmit a1) :=
  fun _ => of_decide_eq_true (p := List.Nodup _ ∧ _) rfl
theorem replayReq : ∀ a1 a2, Statement (.replayReq a1 a2) :=
  fun _ _ => of_decide_eq_true (p := List.Nodup _ ∧ _) rfl
theorem ackTimeout : ∀ a1, Statement (.ackTimeout a1) :=
  fun _ => of_decide_eq_true (p := List.Nodup _ ∧ _) rfl
theorem replayReqTimeout : ∀ a1, Statement (.replayReqTimeout a1) :=
  fun _ => of_decide_eq_true (p := List.Nodup _ ∧ _) rfl
theorem linkMsgRepeat : ∀ a1, Statement (.linkMsgRepeat a1) :=
  fun _ => of_decide_eq_true (p := List.Nodup _ ∧ _) rfl
theorem creditInit : ∀ a1 a2 a3, Statement (.creditInit a1 a2 a3) :=
  fun _ _ _ => of_decide_eq_true (p := List.Nodup _ ∧ _) rfl
theorem linkId : ∀ a1 a2 a3 a4, Statement (.linkId a1 a2 a3 a4) :=
  fun _ _ _ _ => of_decide_eq_true (p := List.Nodup _ ∧ _) rfl
theorem laneThresholdCrossed : ∀ a1 a2 a3, Statement (.laneThresholdCrossed a1 a2 a3) :=
  fun _ _ _ => of_decide_eq_true (p := List.Nodup _ ∧ _) rfl
theorem swapReq : ∀ a1 a2, Statement (.swapReq a1 a2) :=
  fun _ _ => of_decide_eq_true (p := List.Nodup _ ∧ _) rfl
theorem swapMark : ∀ a1 a2, Statement (.swapMark a1 a2) :=
  fun _ _ => of_decide_eq_true (p := List.Nodup _ ∧ _) rfl
theorem swapDone : ∀ a1 a2, Statement (.swapDone a1 a2) :=
  fun _ _ => of_decide_eq_true (p := List.Nodup _ ∧ _) rfl
theorem swapTimeout : ∀ a1, Statement (.swapTimeout a1) :=
  fun _ => of_decide_eq_true (p := List.Nodup _ ∧ _) rfl
theorem widthReq : ∀ a1 a2, Statement (.widthReq a1 a2) :=
  fun _ _ => of_decide_eq_true (p := List.Nodup _ ∧ _) rfl
theorem widthAck : ∀ a1 a2, Statement (.widthAck a1 a2) :=
  fun _ _ => of_decide_eq_true (p := List.Nodup _ ∧ _) rfl
theorem retrainReq : ∀ a1 a2, Statement (.retrainReq a1 a2) :=
  fun _ _ => of_decide_eq_true (p := List.Nodup _ ∧ _) rfl
theorem frameLockLoss : ∀ a1, Statement (.frameLockLoss a1) :=
  fun _ => of_decide_eq_true (p := List.Nodup _ ∧ _) rfl
theorem retrainComplete : ∀ a1 a2 a3 a4, Statement (.retrainComplete a1 a2 a3 a4) :=
  fun _ _ _ _ => of_decide_eq_true (p := List.Nodup _ ∧ _) rfl
theorem pwrReq : ∀ a1 a2, Statement (.pwrReq a1 a2) :=
  fun _ _ => of_decide_eq_true (p := List.Nodup _ ∧ _) rfl
theorem pwrAck : ∀ a1 a2, Statement (.pwrAck a1 a2) :=
  fun _ _ => of_decide_eq_true (p := List.Nodup _ ∧ _) rfl
theorem pwrNak : ∀ a1 a2, Statement (.pwrNak a1 a2) :=
  fun _ _ => of_decide_eq_true (p := List.Nodup _ ∧ _) rfl
theorem linkEnableWrite : ∀ a1 a2 a3, Statement (.linkEnableWrite a1 a2 a3) :=
  fun _ _ _ => of_decide_eq_true (p := List.Nodup _ ∧ _) rfl
theorem widthMaxWrite : ∀ a1 a2 a3, Statement (.widthMaxWrite a1 a2 a3) :=
  fun _ _ _ => of_decide_eq_true (p := List.Nodup _ ∧ _) rfl
theorem linkRetrainWrite : ∀ a1 a2 a3, Statement (.linkRetrainWrite a1 a2 a3) :=
  fun _ _ _ => of_decide_eq_true (p := List.Nodup _ ∧ _) rfl
theorem pwrTargetWrite : ∀ a1 a2 a3, Statement (.pwrTargetWrite a1 a2 a3) :=
  fun _ _ _ => of_decide_eq_true (p := List.Nodup _ ∧ _) rfl
theorem passThroughPacket : ∀ a1 a2, Statement (.passThroughPacket a1 a2) :=
  fun _ _ => of_decide_eq_true (p := List.Nodup _ ∧ _) rfl
theorem putPacket : ∀ a1 a2, Statement (.putPacket a1 a2) :=
  fun _ _ => of_decide_eq_true (p := List.Nodup _ ∧ _) rfl
theorem putSparsePacket : ∀ a1 a2, Statement (.putSparsePacket a1 a2) :=
  fun _ _ => of_decide_eq_true (p := List.Nodup _ ∧ _) rfl
theorem cmpPacket : ∀ a1 a2, Statement (.cmpPacket a1 a2) :=
  fun _ _ => of_decide_eq_true (p := List.Nodup _ ∧ _) rfl
theorem notifyPacket : ∀ a1 a2, Statement (.notifyPacket a1 a2) :=
  fun _ _ => of_decide_eq_true (p := List.Nodup _ ∧ _) rfl
theorem pubNotifyPacket : ∀ a1 a2, Statement (.pubNotifyPacket a1 a2) :=
  fun _ _ => of_decide_eq_true (p := List.Nodup _ ∧ _) rfl
theorem msgTimeout : ∀ a1, Statement (.msgTimeout a1) :=
  fun _ => of_decide_eq_true (p := List.Nodup _ ∧ _) rfl
theorem putCmpTimeout : ∀ a1 a2, Statement (.putCmpTimeout a1 a2) :=
  fun _ _ => of_decide_eq_true (p := List.Nodup _ ∧ _) rfl
theorem routeSwap : ∀ a1 a2, Statement (.routeSwap a1 a2) :=
  fun _ _ => of_decide_eq_true (p := List.Nodup _ ∧ _) rfl
theorem routeSwapComplete : Statement (.routeSwapComplete) :=
  of_decide_eq_true (p := List.Nodup _ ∧ _) rfl
theorem routeSwapAbort : ∀ a1 a2, Statement (.routeSwapAbort a1 a2) :=
  fun _ _ => of_decide_eq_true (p := List.Nodup _ ∧ _) rfl
theorem routeReturnDrainDone : ∀ a1, Statement (.routeReturnDrainDone a1) :=
  fun _ => of_decide_eq_true (p := List.Nodup _ ∧ _) rfl
theorem eidFence : ∀ a1 a2, Statement (.eidFence a1 a2) :=
  fun _ _ => of_decide_eq_true (p := List.Nodup _ ∧ _) rfl
theorem eidUnfence : ∀ a1 a2, Statement (.eidUnfence a1 a2) :=
  fun _ _ => of_decide_eq_true (p := List.Nodup _ ∧ _) rfl
theorem cxlMemRead : ∀ a1, Statement (.cxlMemRead a1) :=
  fun _ => of_decide_eq_true (p := List.Nodup _ ∧ _) rfl
theorem cxlMemWrite : ∀ a1 a2 a3 a4, Statement (.cxlMemWrite a1 a2 a3 a4) :=
  fun _ _ _ _ => of_decide_eq_true (p := List.Nodup _ ∧ _) rfl
theorem cxlHotReset : Statement (.cxlHotReset) :=
  of_decide_eq_true (p := List.Nodup _ ∧ _) rfl
theorem cxlConfigRequest : ∀ a1 a2 a3, Statement (.cxlConfigRequest a1 a2 a3) :=
  fun _ _ _ => of_decide_eq_true (p := List.Nodup _ ∧ _) rfl
theorem ltrWrite : ∀ a1, Statement (.ltrWrite a1) :=
  fun _ => of_decide_eq_true (p := List.Nodup _ ∧ _) rfl
theorem hdmDecoderCommit : ∀ a1 a2 a3 a4 a5, Statement (.hdmDecoderCommit a1 a2 a3 a4 a5) :=
  fun _ _ _ _ _ => of_decide_eq_true (p := List.Nodup _ ∧ _) rfl
theorem msixUnmask : ∀ a1, Statement (.msixUnmask a1) :=
  fun _ => of_decide_eq_true (p := List.Nodup _ ∧ _) rfl
theorem getEventRecords : ∀ a1, Statement (.getEventRecords a1) :=
  fun _ => of_decide_eq_true (p := List.Nodup _ ∧ _) rfl
theorem clearEventRecords : ∀ a1 a2, Statement (.clearEventRecords a1 a2) :=
  fun _ _ => of_decide_eq_true (p := List.Nodup _ ∧ _) rfl
theorem getEventInterruptPolicy : Statement (.getEventInterruptPolicy) :=
  of_decide_eq_true (p := List.Nodup _ ∧ _) rfl
theorem setEventInterruptPolicy : ∀ a1, Statement (.setEventInterruptPolicy a1) :=
  fun _ => of_decide_eq_true (p := List.Nodup _ ∧ _) rfl
theorem getFwInfo : Statement (.getFwInfo) :=
  of_decide_eq_true (p := List.Nodup _ ∧ _) rfl
theorem getTimestamp : Statement (.getTimestamp) :=
  of_decide_eq_true (p := List.Nodup _ ∧ _) rfl
theorem setTimestamp : ∀ a1, Statement (.setTimestamp a1) :=
  fun _ => of_decide_eq_true (p := List.Nodup _ ∧ _) rfl
theorem getSupportedLogs : Statement (.getSupportedLogs) :=
  of_decide_eq_true (p := List.Nodup _ ∧ _) rfl
theorem getLog : ∀ a1 a2 a3, Statement (.getLog a1 a2 a3) :=
  fun _ _ _ => of_decide_eq_true (p := List.Nodup _ ∧ _) rfl
theorem identifyMemoryDevice : Statement (.identifyMemoryDevice) :=
  of_decide_eq_true (p := List.Nodup _ ∧ _) rfl
theorem getPartitionInfo : Statement (.getPartitionInfo) :=
  of_decide_eq_true (p := List.Nodup _ ∧ _) rfl
theorem getHealthInfo : Statement (.getHealthInfo) :=
  of_decide_eq_true (p := List.Nodup _ ∧ _) rfl
theorem unsupportedMailboxOpcode : ∀ a1, Statement (.unsupportedMailboxOpcode a1) :=
  fun _ => of_decide_eq_true (p := List.Nodup _ ∧ _) rfl
theorem doeDiscovery : ∀ a1, Statement (.doeDiscovery a1) :=
  fun _ => of_decide_eq_true (p := List.Nodup _ ∧ _) rfl
theorem cdatTableAccess : ∀ a1, Statement (.cdatTableAccess a1) :=
  fun _ => of_decide_eq_true (p := List.Nodup _ ∧ _) rfl
theorem mailboxBindWrite : ∀ a1 a2, Statement (.mailboxBindWrite a1 a2) :=
  fun _ _ => of_decide_eq_true (p := List.Nodup _ ∧ _) rfl
theorem mailboxSend : ∀ a1 a2 a3, Statement (.mailboxSend a1 a2 a3) :=
  fun _ _ _ => of_decide_eq_true (p := List.Nodup _ ∧ _) rfl
theorem mailboxRetract : ∀ a1 a2, Statement (.mailboxRetract a1 a2) :=
  fun _ _ => of_decide_eq_true (p := List.Nodup _ ∧ _) rfl
theorem mailboxAck : ∀ a1 a2, Statement (.mailboxAck a1 a2) :=
  fun _ _ => of_decide_eq_true (p := List.Nodup _ ∧ _) rfl
theorem mailboxPacket : ∀ a1 a2 a3, Statement (.mailboxPacket a1 a2 a3) :=
  fun _ _ _ => of_decide_eq_true (p := List.Nodup _ ∧ _) rfl
theorem rxStateLive : ∀ a1, Statement (.rxStateLive a1) :=
  fun _ => of_decide_eq_true (p := List.Nodup _ ∧ _) rfl
theorem dramCommandIssue : ∀ a1, Statement (.dramCommandIssue a1) :=
  fun _ => of_decide_eq_true (p := List.Nodup _ ∧ _) rfl
theorem dramReadData : ∀ a1 a2 a3, Statement (.dramReadData a1 a2 a3) :=
  fun _ _ _ => of_decide_eq_true (p := List.Nodup _ ∧ _) rfl
theorem mergeWindowExpiry : ∀ a1 a2, Statement (.mergeWindowExpiry a1 a2) :=
  fun _ _ => of_decide_eq_true (p := List.Nodup _ ∧ _) rfl
theorem refsbDue : ∀ a1 a2 a3, Statement (.refsbDue a1 a2 a3) :=
  fun _ _ _ => of_decide_eq_true (p := List.Nodup _ ∧ _) rfl
theorem zqCalibration : ∀ a1, Statement (.zqCalibration a1) :=
  fun _ => of_decide_eq_true (p := List.Nodup _ ∧ _) rfl
theorem spdTempRead : ∀ a1 a2, Statement (.spdTempRead a1 a2) :=
  fun _ _ => of_decide_eq_true (p := List.Nodup _ ∧ _) rfl
theorem dlyApply : ∀ a1 a2 a3, Statement (.dlyApply a1 a2 a3) :=
  fun _ _ _ => of_decide_eq_true (p := List.Nodup _ ∧ _) rfl
theorem dlyStaleWarn : ∀ a1, Statement (.dlyStaleWarn a1) :=
  fun _ => of_decide_eq_true (p := List.Nodup _ ∧ _) rfl
theorem remap : ∀ a1 a2, Statement (.remap a1 a2) :=
  fun _ _ => of_decide_eq_true (p := List.Nodup _ ∧ _) rfl
theorem remapLookup : ∀ a1 a2, Statement (.remapLookup a1 a2) :=
  fun _ _ => of_decide_eq_true (p := List.Nodup _ ∧ _) rfl
theorem ppr : ∀ a1 a2 a3, Statement (.ppr a1 a2 a3) :=
  fun _ _ _ => of_decide_eq_true (p := List.Nodup _ ∧ _) rfl
theorem remapCopyDone : ∀ a1, Statement (.remapCopyDone a1) :=
  fun _ => of_decide_eq_true (p := List.Nodup _ ∧ _) rfl
theorem autoRemapStart : ∀ a1, Statement (.autoRemapStart a1) :=
  fun _ => of_decide_eq_true (p := List.Nodup _ ∧ _) rfl
theorem dramChannelFail : ∀ a1, Statement (.dramChannelFail a1) :=
  fun _ => of_decide_eq_true (p := List.Nodup _ ∧ _) rfl
theorem basinLineAccess : ∀ a1, Statement (.basinLineAccess a1) :=
  fun _ => of_decide_eq_true (p := List.Nodup _ ∧ _) rfl
theorem atomicAddI32 : ∀ a1, Statement (.atomicAddI32 a1) :=
  fun _ => of_decide_eq_true (p := List.Nodup _ ∧ _) rfl
theorem atomicAddI64 : ∀ a1, Statement (.atomicAddI64 a1) :=
  fun _ => of_decide_eq_true (p := List.Nodup _ ∧ _) rfl
theorem atomicAddF32 : ∀ a1, Statement (.atomicAddF32 a1) :=
  fun _ => of_decide_eq_true (p := List.Nodup _ ∧ _) rfl
theorem atomicAddBf16x2 : ∀ a1, Statement (.atomicAddBf16x2 a1) :=
  fun _ => of_decide_eq_true (p := List.Nodup _ ∧ _) rfl
theorem atomicSwap32 : ∀ a1, Statement (.atomicSwap32 a1) :=
  fun _ => of_decide_eq_true (p := List.Nodup _ ∧ _) rfl
theorem atomicSwap64 : ∀ a1, Statement (.atomicSwap64 a1) :=
  fun _ => of_decide_eq_true (p := List.Nodup _ ∧ _) rfl
theorem bankRetEntry : ∀ a1 a2, Statement (.bankRetEntry a1 a2) :=
  fun _ _ => of_decide_eq_true (p := List.Nodup _ ∧ _) rfl
theorem bankSubstitute : ∀ a1 a2 a3, Statement (.bankSubstitute a1 a2 a3) :=
  fun _ _ _ => of_decide_eq_true (p := List.Nodup _ ∧ _) rfl
theorem bankSubstitutionDone : ∀ a1, Statement (.bankSubstitutionDone a1) :=
  fun _ => of_decide_eq_true (p := List.Nodup _ ∧ _) rfl
theorem bankReinstate : ∀ a1 a2 a3, Statement (.bankReinstate a1 a2 a3) :=
  fun _ _ _ => of_decide_eq_true (p := List.Nodup _ ∧ _) rfl
theorem reinstateTestDone : ∀ a1 a2, Statement (.reinstateTestDone a1 a2) :=
  fun _ _ => of_decide_eq_true (p := List.Nodup _ ∧ _) rfl
theorem bankSetOn : ∀ a1 a2 a3, Statement (.bankSetOn a1 a2 a3) :=
  fun _ _ _ => of_decide_eq_true (p := List.Nodup _ ∧ _) rfl
theorem bankSetRet : ∀ a1 a2 a3, Statement (.bankSetRet a1 a2 a3) :=
  fun _ _ _ => of_decide_eq_true (p := List.Nodup _ ∧ _) rfl
theorem bankSetOff : ∀ a1 a2 a3, Statement (.bankSetOff a1 a2 a3) :=
  fun _ _ _ => of_decide_eq_true (p := List.Nodup _ ∧ _) rfl
theorem autoSubstituteStart : ∀ a1, Statement (.autoSubstituteStart a1) :=
  fun _ => of_decide_eq_true (p := List.Nodup _ ∧ _) rfl
theorem fieldFuseBlow : ∀ a1 a2 a3 a4, Statement (.fieldFuseBlow a1 a2 a3 a4) :=
  fun _ _ _ _ => of_decide_eq_true (p := List.Nodup _ ∧ _) rfl
theorem scrub : ∀ a1, Statement (.scrub a1) :=
  fun _ => of_decide_eq_true (p := List.Nodup _ ∧ _) rfl
theorem scrubComplete : ∀ a1, Statement (.scrubComplete a1) :=
  fun _ => of_decide_eq_true (p := List.Nodup _ ∧ _) rfl
theorem ceBucketLeak : ∀ a1 a2, Statement (.ceBucketLeak a1 a2) :=
  fun _ _ => of_decide_eq_true (p := List.Nodup _ ∧ _) rfl
theorem engineTest : ∀ a1, Statement (.engineTest a1) :=
  fun _ => of_decide_eq_true (p := List.Nodup _ ∧ _) rfl
theorem engineTestRoundDone : ∀ a1 a2 a3, Statement (.engineTestRoundDone a1 a2 a3) :=
  fun _ _ _ => of_decide_eq_true (p := List.Nodup _ ∧ _) rfl
theorem cpKick : ∀ a1, Statement (.cpKick a1) :=
  fun _ => of_decide_eq_true (p := List.Nodup _ ∧ _) rfl
theorem cpWatchdogExpiry : ∀ a1, Statement (.cpWatchdogExpiry a1) :=
  fun _ => of_decide_eq_true (p := List.Nodup _ ∧ _) rfl
theorem faultQHeadWrite : ∀ a1 a2, Statement (.faultQHeadWrite a1 a2) :=
  fun _ _ => of_decide_eq_true (p := List.Nodup _ ∧ _) rfl
theorem eventRateRefill : ∀ a1, Statement (.eventRateRefill a1) :=
  fun _ => of_decide_eq_true (p := List.Nodup _ ∧ _) rfl
theorem foldSummary : Statement (.foldSummary) :=
  of_decide_eq_true (p := List.Nodup _ ∧ _) rfl
theorem overflowRecordWrite : Statement (.overflowRecordWrite) :=
  of_decide_eq_true (p := List.Nodup _ ∧ _) rfl
theorem alertAck : ∀ a1, Statement (.alertAck a1) :=
  fun _ => of_decide_eq_true (p := List.Nodup _ ∧ _) rfl
theorem heartbeatSend : Statement (.heartbeatSend) :=
  of_decide_eq_true (p := List.Nodup _ ∧ _) rfl
theorem heartbeat : ∀ a1, Statement (.heartbeat a1) :=
  fun _ => of_decide_eq_true (p := List.Nodup _ ∧ _) rfl
theorem heartbeatAnswer : ∀ a1, Statement (.heartbeatAnswer a1) :=
  fun _ => of_decide_eq_true (p := List.Nodup _ ∧ _) rfl
theorem heartbeatPathLoss : ∀ a1, Statement (.heartbeatPathLoss a1) :=
  fun _ => of_decide_eq_true (p := List.Nodup _ ∧ _) rfl
theorem selfFence : Statement (.selfFence) :=
  of_decide_eq_true (p := List.Nodup _ ∧ _) rfl
theorem fencedPortsOut : Statement (.fencedPortsOut) :=
  of_decide_eq_true (p := List.Nodup _ ∧ _) rfl
theorem soloWaitExpiry : ∀ a1, Statement (.soloWaitExpiry a1) :=
  fun _ => of_decide_eq_true (p := List.Nodup _ ∧ _) rfl
theorem runnelLossTimeout : Statement (.runnelLossTimeout) :=
  of_decide_eq_true (p := List.Nodup _ ∧ _) rfl
theorem bootWaitExpiry : ∀ a1, Statement (.bootWaitExpiry a1) :=
  fun _ => of_decide_eq_true (p := List.Nodup _ ∧ _) rfl
theorem frameAuditDone : Statement (.frameAuditDone) :=
  of_decide_eq_true (p := List.Nodup _ ∧ _) rfl
theorem mwr : ∀ a1 a2 a3 a4 a5, Statement (.mwr a1 a2 a3 a4 a5) :=
  fun _ _ _ _ _ => of_decide_eq_true (p := List.Nodup _ ∧ _) rfl
theorem mdir : ∀ a1 a2, Statement (.mdir a1 a2) :=
  fun _ _ => of_decide_eq_true (p := List.Nodup _ ∧ _) rfl
theorem mack : ∀ a1 a2, Statement (.mack a1 a2) :=
  fun _ _ => of_decide_eq_true (p := List.Nodup _ ∧ _) rfl
theorem tickClose : Statement (.tickClose) :=
  of_decide_eq_true (p := List.Nodup _ ∧ _) rfl
theorem delta : ∀ a1 a2, Statement (.delta a1 a2) :=
  fun _ _ => of_decide_eq_true (p := List.Nodup _ ∧ _) rfl
theorem tickAck : ∀ a1, Statement (.tickAck a1) :=
  fun _ => of_decide_eq_true (p := List.Nodup _ ∧ _) rfl
theorem relay : ∀ a1 a2, Statement (.relay a1 a2) :=
  fun _ _ => of_decide_eq_true (p := List.Nodup _ ∧ _) rfl
theorem health : ∀ a1 a2 a3, Statement (.health a1 a2 a3) :=
  fun _ _ _ => of_decide_eq_true (p := List.Nodup _ ∧ _) rfl
theorem healthReportSend : Statement (.healthReportSend) :=
  of_decide_eq_true (p := List.Nodup _ ∧ _) rfl
theorem healthReportMissed : Statement (.healthReportMissed) :=
  of_decide_eq_true (p := List.Nodup _ ∧ _) rfl
theorem handoverReq : Statement (.handoverReq) :=
  of_decide_eq_true (p := List.Nodup _ ∧ _) rfl
theorem handoverDrainTimeout : Statement (.handoverDrainTimeout) :=
  of_decide_eq_true (p := List.Nodup _ ∧ _) rfl
theorem handoverGo : ∀ a1, Statement (.handoverGo a1) :=
  fun _ => of_decide_eq_true (p := List.Nodup _ ∧ _) rfl
theorem handoverDone : Statement (.handoverDone) :=
  of_decide_eq_true (p := List.Nodup _ ∧ _) rfl
theorem resyncComplete : Statement (.resyncComplete) :=
  of_decide_eq_true (p := List.Nodup _ ∧ _) rfl
theorem fenceSelf : ∀ a1, Statement (.fenceSelf a1) :=
  fun _ => of_decide_eq_true (p := List.Nodup _ ∧ _) rfl
theorem goSolo : ∀ a1, Statement (.goSolo a1) :=
  fun _ => of_decide_eq_true (p := List.Nodup _ ∧ _) rfl
theorem handover : ∀ a1, Statement (.handover a1) :=
  fun _ => of_decide_eq_true (p := List.Nodup _ ∧ _) rfl
theorem standbyGoldenRound : ∀ a1, Statement (.standbyGoldenRound a1) :=
  fun _ => of_decide_eq_true (p := List.Nodup _ ∧ _) rfl
theorem standbyMarchTest : ∀ a1, Statement (.standbyMarchTest a1) :=
  fun _ => of_decide_eq_true (p := List.Nodup _ ∧ _) rfl
theorem dramPatrolRead : ∀ a1 a2, Statement (.dramPatrolRead a1 a2) :=
  fun _ _ => of_decide_eq_true (p := List.Nodup _ ∧ _) rfl
theorem eyeMarginCheck : ∀ a1, Statement (.eyeMarginCheck a1) :=
  fun _ => of_decide_eq_true (p := List.Nodup _ ∧ _) rfl
theorem bindWrite : ∀ a1, Statement (.bindWrite a1) :=
  fun _ => of_decide_eq_true (p := List.Nodup _ ∧ _) rfl
theorem bindRead : ∀ a1, Statement (.bindRead a1) :=
  fun _ => of_decide_eq_true (p := List.Nodup _ ∧ _) rfl
theorem keyGenerate : ∀ a1, Statement (.keyGenerate a1) :=
  fun _ => of_decide_eq_true (p := List.Nodup _ ∧ _) rfl
theorem keyImport : ∀ a1 a2 a3, Statement (.keyImport a1 a2 a3) :=
  fun _ _ _ => of_decide_eq_true (p := List.Nodup _ ∧ _) rfl
theorem keyZeroise : ∀ a1, Statement (.keyZeroise a1) :=
  fun _ => of_decide_eq_true (p := List.Nodup _ ∧ _) rfl
theorem keyPartnerInstalled : ∀ a1, Statement (.keyPartnerInstalled a1) :=
  fun _ => of_decide_eq_true (p := List.Nodup _ ∧ _) rfl
theorem getVersion : ∀ a1, Statement (.getVersion a1) :=
  fun _ => of_decide_eq_true (p := List.Nodup _ ∧ _) rfl
theorem getCapabilities : ∀ a1, Statement (.getCapabilities a1) :=
  fun _ => of_decide_eq_true (p := List.Nodup _ ∧ _) rfl
theorem negotiateAlgorithms : ∀ a1 a2, Statement (.negotiateAlgorithms a1 a2) :=
  fun _ _ => of_decide_eq_true (p := List.Nodup _ ∧ _) rfl
theorem getDigests : ∀ a1, Statement (.getDigests a1) :=
  fun _ => of_decide_eq_true (p := List.Nodup _ ∧ _) rfl
theorem getCertificate : ∀ a1 a2 a3 a4, Statement (.getCertificate a1 a2 a3 a4) :=
  fun _ _ _ _ => of_decide_eq_true (p := List.Nodup _ ∧ _) rfl
theorem challenge : ∀ a1 a2 a3, Statement (.challenge a1 a2 a3) :=
  fun _ _ _ => of_decide_eq_true (p := List.Nodup _ ∧ _) rfl
theorem getMeasurements : ∀ a1 a2 a3, Statement (.getMeasurements a1 a2 a3) :=
  fun _ _ _ => of_decide_eq_true (p := List.Nodup _ ∧ _) rfl
theorem keyExchange : ∀ a1 a2 a3 a4, Statement (.keyExchange a1 a2 a3 a4) :=
  fun _ _ _ _ => of_decide_eq_true (p := List.Nodup _ ∧ _) rfl
theorem finish : ∀ a1 a2, Statement (.finish a1 a2) :=
  fun _ _ => of_decide_eq_true (p := List.Nodup _ ∧ _) rfl
theorem endSession : ∀ a1, Statement (.endSession a1) :=
  fun _ => of_decide_eq_true (p := List.Nodup _ ∧ _) rfl
theorem spdmHeartbeat : ∀ a1, Statement (.spdmHeartbeat a1) :=
  fun _ => of_decide_eq_true (p := List.Nodup _ ∧ _) rfl
theorem keyUpdate : ∀ a1 a2, Statement (.keyUpdate a1 a2) :=
  fun _ _ => of_decide_eq_true (p := List.Nodup _ ∧ _) rfl
theorem debugUnlock : ∀ a1 a2, Statement (.debugUnlock a1 a2) :=
  fun _ _ => of_decide_eq_true (p := List.Nodup _ ∧ _) rfl
theorem spdmUnsupportedRequest : ∀ a1 a2, Statement (.spdmUnsupportedRequest a1 a2) :=
  fun _ _ => of_decide_eq_true (p := List.Nodup _ ∧ _) rfl
theorem confEnable : ∀ a1 a2, Statement (.confEnable a1 a2) :=
  fun _ _ => of_decide_eq_true (p := List.Nodup _ ∧ _) rfl
theorem queryDeviceIdentifiers : Statement (.queryDeviceIdentifiers) :=
  of_decide_eq_true (p := List.Nodup _ ∧ _) rfl
theorem getFirmwareParameters : Statement (.getFirmwareParameters) :=
  of_decide_eq_true (p := List.Nodup _ ∧ _) rfl
theorem requestUpdate : Statement (.requestUpdate) :=
  of_decide_eq_true (p := List.Nodup _ ∧ _) rfl
theorem passComponentTable : ∀ a1, Statement (.passComponentTable a1) :=
  fun _ => of_decide_eq_true (p := List.Nodup _ ∧ _) rfl
theorem updateComponent : ∀ a1, Statement (.updateComponent a1) :=
  fun _ => of_decide_eq_true (p := List.Nodup _ ∧ _) rfl
theorem firmwareDataReceived : ∀ a1, Statement (.firmwareDataReceived a1) :=
  fun _ => of_decide_eq_true (p := List.Nodup _ ∧ _) rfl
theorem activateFirmware : Statement (.activateFirmware) :=
  of_decide_eq_true (p := List.Nodup _ ∧ _) rfl
theorem getStatus : Statement (.getStatus) :=
  of_decide_eq_true (p := List.Nodup _ ∧ _) rfl
theorem cancelUpdateComponent : Statement (.cancelUpdateComponent) :=
  of_decide_eq_true (p := List.Nodup _ ∧ _) rfl
theorem cancelUpdate : Statement (.cancelUpdate) :=
  of_decide_eq_true (p := List.Nodup _ ∧ _) rfl
theorem fwuConfirm : ∀ a1 a2, Statement (.fwuConfirm a1 a2) :=
  fun _ _ => of_decide_eq_true (p := List.Nodup _ ∧ _) rfl
theorem fwuRevert : ∀ a1 a2, Statement (.fwuRevert a1 a2) :=
  fun _ _ => of_decide_eq_true (p := List.Nodup _ ∧ _) rfl
theorem autoConfirmExpiry : ∀ a1, Statement (.autoConfirmExpiry a1) :=
  fun _ => of_decide_eq_true (p := List.Nodup _ ∧ _) rfl
theorem coldStart : ∀ a1, Statement (.coldStart a1) :=
  fun _ => of_decide_eq_true (p := List.Nodup _ ∧ _) rfl
theorem coldReset : ∀ a1, Statement (.coldReset a1) :=
  fun _ => of_decide_eq_true (p := List.Nodup _ ∧ _) rfl
theorem warmResetPin : ∀ a1, Statement (.warmResetPin a1) :=
  fun _ => of_decide_eq_true (p := List.Nodup _ ∧ _) rfl
theorem warm : ∀ a1 a2, Statement (.warm a1 a2) :=
  fun _ _ => of_decide_eq_true (p := List.Nodup _ ∧ _) rfl
theorem mgmtRestart : ∀ a1, Statement (.mgmtRestart a1) :=
  fun _ => of_decide_eq_true (p := List.Nodup _ ∧ _) rfl
theorem railOrder : ∀ a1, Statement (.railOrder a1) :=
  fun _ => of_decide_eq_true (p := List.Nodup _ ∧ _) rfl
theorem railDrop : ∀ a1, Statement (.railDrop a1) :=
  fun _ => of_decide_eq_true (p := List.Nodup _ ∧ _) rfl
theorem refLost : ∀ a1, Statement (.refLost a1) :=
  fun _ => of_decide_eq_true (p := List.Nodup _ ∧ _) rfl
theorem setLatencyTol : ∀ a1, Statement (.setLatencyTol a1) :=
  fun _ => of_decide_eq_true (p := List.Nodup _ ∧ _) rfl
theorem dieTempSample : ∀ a1, Statement (.dieTempSample a1) :=
  fun _ => of_decide_eq_true (p := List.Nodup _ ∧ _) rfl
theorem thermtrip : Statement (.thermtrip) :=
  of_decide_eq_true (p := List.Nodup _ ∧ _) rfl
theorem portIdleTimeout : ∀ a1 a2, Statement (.portIdleTimeout a1 a2) :=
  fun _ _ => of_decide_eq_true (p := List.Nodup _ ∧ _) rfl
theorem coreIdleGate : ∀ a1, Statement (.coreIdleGate a1) :=
  fun _ => of_decide_eq_true (p := List.Nodup _ ∧ _) rfl
theorem driveIdleTimeout : ∀ a1, Statement (.driveIdleTimeout a1) :=
  fun _ => of_decide_eq_true (p := List.Nodup _ ∧ _) rfl
theorem counterCapture : Statement (.counterCapture) :=
  of_decide_eq_true (p := List.Nodup _ ∧ _) rfl
theorem cntLoRead : ∀ a1 a2, Statement (.cntLoRead a1 a2) :=
  fun _ _ => of_decide_eq_true (p := List.Nodup _ ∧ _) rfl
theorem counterSnapshotPages : ∀ a1, Statement (.counterSnapshotPages a1) :=
  fun _ => of_decide_eq_true (p := List.Nodup _ ∧ _) rfl
theorem counterSnapshotOperation : ∀ a1, Statement (.counterSnapshotOperation a1) :=
  fun _ => of_decide_eq_true (p := List.Nodup _ ∧ _) rfl
theorem setProfile : ∀ a1, Statement (.setProfile a1) :=
  fun _ => of_decide_eq_true (p := List.Nodup _ ∧ _) rfl
theorem setProfileCancel : ∀ a1, Statement (.setProfileCancel a1) :=
  fun _ => of_decide_eq_true (p := List.Nodup _ ∧ _) rfl
theorem read32 : ∀ a1, Statement (.read32 a1) :=
  fun _ => of_decide_eq_true (p := List.Nodup _ ∧ _) rfl
theorem write32 : ∀ a1 a2, Statement (.write32 a1 a2) :=
  fun _ _ => of_decide_eq_true (p := List.Nodup _ ∧ _) rfl
theorem mctpControl : ∀ a1, Statement (.mctpControl a1) :=
  fun _ => of_decide_eq_true (p := List.Nodup _ ∧ _) rfl
theorem getPdr : ∀ a1, Statement (.getPdr a1) :=
  fun _ => of_decide_eq_true (p := List.Nodup _ ∧ _) rfl
theorem getSensorReading : ∀ a1, Statement (.getSensorReading a1) :=
  fun _ => of_decide_eq_true (p := List.Nodup _ ∧ _) rfl
theorem getStateSensorReadings : ∀ a1, Statement (.getStateSensorReadings a1) :=
  fun _ => of_decide_eq_true (p := List.Nodup _ ∧ _) rfl
theorem setEventReceiver : ∀ a1, Statement (.setEventReceiver a1) :=
  fun _ => of_decide_eq_true (p := List.Nodup _ ∧ _) rfl
theorem softReset : ∀ a1 a2, Statement (.softReset a1 a2) :=
  fun _ _ => of_decide_eq_true (p := List.Nodup _ ∧ _) rfl
theorem blkLock : ∀ a1 a2, Statement (.blkLock a1 a2) :=
  fun _ _ => of_decide_eq_true (p := List.Nodup _ ∧ _) rfl
theorem blkIsrClear : ∀ a1 a2 a3, Statement (.blkIsrClear a1 a2 a3) :=
  fun _ _ _ => of_decide_eq_true (p := List.Nodup _ ∧ _) rfl
theorem blkIerWrite : ∀ a1 a2 a3, Statement (.blkIerWrite a1 a2 a3) :=
  fun _ _ _ => of_decide_eq_true (p := List.Nodup _ ∧ _) rfl
theorem cxlioReadTimeout : ∀ a1, Statement (.cxlioReadTimeout a1) :=
  fun _ => of_decide_eq_true (p := List.Nodup _ ∧ _) rfl
theorem cxlMemAdmissionRetry : Statement (.cxlMemAdmissionRetry) :=
  of_decide_eq_true (p := List.Nodup _ ∧ _) rfl
theorem driveReady : ∀ a1 a2 a3, Statement (.driveReady a1 a2 a3) :=
  fun _ _ _ => of_decide_eq_true (p := List.Nodup _ ∧ _) rfl
theorem driveReadyTimeout : ∀ a1, Statement (.driveReadyTimeout a1) :=
  fun _ => of_decide_eq_true (p := List.Nodup _ ∧ _) rfl
theorem confirmCopyDone : ∀ a1, Statement (.confirmCopyDone a1) :=
  fun _ => of_decide_eq_true (p := List.Nodup _ ∧ _) rfl
theorem cxlLinkUp : Statement (.cxlLinkUp) :=
  of_decide_eq_true (p := List.Nodup _ ∧ _) rfl
theorem pldmBase : ∀ a1, Statement (.pldmBase a1) :=
  fun _ => of_decide_eq_true (p := List.Nodup _ ∧ _) rfl
theorem vddAonLoss : Statement (.vddAonLoss) :=
  of_decide_eq_true (p := List.Nodup _ ∧ _) rfl
theorem vddAonValid : Statement (.vddAonValid) :=
  of_decide_eq_true (p := List.Nodup _ ∧ _) rfl
theorem jtagTapAccess : ∀ a1, Statement (.jtagTapAccess a1) :=
  fun _ => of_decide_eq_true (p := List.Nodup _ ∧ _) rfl

end Sys2Proof.Laws.Touches
end

