-- ==== Sys2Proof/Laws/State.lean ====
section
/-!
SUPPORT. Laws of State: what each named update leaves of each field, and what a register reads after a write.
-/
namespace Sys2Proof.Machine

/-! ## What the updates of registers and counters leave -/

@[simp] theorem wr_now (s : State) (a v : Nat) : (wr s a v).now = s.now := rfl
@[simp] theorem wr_fresh (s : State) (a v : Nat) : (wr s a v).fresh = s.fresh := rfl
@[simp] theorem wr_idx (s : State) (a v : Nat) : (wr s a v).idx = s.idx := rfl
@[simp] theorem wr_mem (s : State) (a v : Nat) : (wr s a v).mem = s.mem := rfl
@[simp] theorem wr_poison (s : State) (a v : Nat) : (wr s a v).poison = s.poison := rfl
@[simp] theorem wr_alloc (s : State) (a v : Nat) : (wr s a v).alloc = s.alloc := rfl
@[simp] theorem wr_xlt (s : State) (a v : Nat) : (wr s a v).xlt = s.xlt := rfl
@[simp] theorem wr_dir (s : State) (a v : Nat) : (wr s a v).dir = s.dir := rfl
@[simp] theorem wr_weir (s : State) (a v : Nat) : (wr s a v).weir = s.weir := rfl
@[simp] theorem wr_tier (s : State) (a v : Nat) : (wr s a v).tier = s.tier := rfl
@[simp] theorem wr_cmd (s : State) (a v : Nat) : (wr s a v).cmd = s.cmd := rfl
@[simp] theorem wr_route (s : State) (a v : Nat) : (wr s a v).route = s.route := rfl
@[simp] theorem wr_fault (s : State) (a v : Nat) : (wr s a v).fault = s.fault := rfl
@[simp] theorem wr_link (s : State) (a v : Nat) : (wr s a v).link = s.link := rfl
@[simp] theorem wr_cxl (s : State) (a v : Nat) : (wr s a v).cxl = s.cxl := rfl
@[simp] theorem wr_mbx (s : State) (a v : Nat) : (wr s a v).mbx = s.mbx := rfl
@[simp] theorem wr_sec (s : State) (a v : Nat) : (wr s a v).sec = s.sec := rfl
@[simp] theorem wr_dram (s : State) (a v : Nat) : (wr s a v).dram = s.dram := rfl
@[simp] theorem wr_basin (s : State) (a v : Nat) : (wr s a v).basin = s.basin := rfl
@[simp] theorem wr_pwr (s : State) (a v : Nat) : (wr s a v).pwr = s.pwr := rfl
@[simp] theorem wr_pair (s : State) (a v : Nat) : (wr s a v).pair = s.pair := rfl
@[simp] theorem wr_fw (s : State) (a v : Nat) : (wr s a v).fw = s.fw := rfl
@[simp] theorem wr_ctr (s : State) (a v : Nat) : (wr s a v).ctr = s.ctr := rfl
@[simp] theorem wr_side (s : State) (a v : Nat) : (wr s a v).side = s.side := rfl
@[simp] theorem wr_counters (s : State) (a v : Nat) : (wr s a v).counters = s.counters := rfl
@[simp] theorem wr_out (s : State) (a v : Nat) : (wr s a v).out = s.out := rfl
@[simp] theorem wr_pending (s : State) (a v : Nat) : (wr s a v).pending = s.pending := rfl

@[simp] theorem wf_now (s : State) (a lo w x : Nat) : (wf s a lo w x).now = s.now := rfl
@[simp] theorem wf_fresh (s : State) (a lo w x : Nat) : (wf s a lo w x).fresh = s.fresh := rfl
@[simp] theorem wf_idx (s : State) (a lo w x : Nat) : (wf s a lo w x).idx = s.idx := rfl
@[simp] theorem wf_mem (s : State) (a lo w x : Nat) : (wf s a lo w x).mem = s.mem := rfl
@[simp] theorem wf_poison (s : State) (a lo w x : Nat) : (wf s a lo w x).poison = s.poison := rfl
@[simp] theorem wf_alloc (s : State) (a lo w x : Nat) : (wf s a lo w x).alloc = s.alloc := rfl
@[simp] theorem wf_xlt (s : State) (a lo w x : Nat) : (wf s a lo w x).xlt = s.xlt := rfl
@[simp] theorem wf_dir (s : State) (a lo w x : Nat) : (wf s a lo w x).dir = s.dir := rfl
@[simp] theorem wf_weir (s : State) (a lo w x : Nat) : (wf s a lo w x).weir = s.weir := rfl
@[simp] theorem wf_tier (s : State) (a lo w x : Nat) : (wf s a lo w x).tier = s.tier := rfl
@[simp] theorem wf_cmd (s : State) (a lo w x : Nat) : (wf s a lo w x).cmd = s.cmd := rfl
@[simp] theorem wf_route (s : State) (a lo w x : Nat) : (wf s a lo w x).route = s.route := rfl
@[simp] theorem wf_fault (s : State) (a lo w x : Nat) : (wf s a lo w x).fault = s.fault := rfl
@[simp] theorem wf_link (s : State) (a lo w x : Nat) : (wf s a lo w x).link = s.link := rfl
@[simp] theorem wf_cxl (s : State) (a lo w x : Nat) : (wf s a lo w x).cxl = s.cxl := rfl
@[simp] theorem wf_mbx (s : State) (a lo w x : Nat) : (wf s a lo w x).mbx = s.mbx := rfl
@[simp] theorem wf_sec (s : State) (a lo w x : Nat) : (wf s a lo w x).sec = s.sec := rfl
@[simp] theorem wf_dram (s : State) (a lo w x : Nat) : (wf s a lo w x).dram = s.dram := rfl
@[simp] theorem wf_basin (s : State) (a lo w x : Nat) : (wf s a lo w x).basin = s.basin := rfl
@[simp] theorem wf_pwr (s : State) (a lo w x : Nat) : (wf s a lo w x).pwr = s.pwr := rfl
@[simp] theorem wf_pair (s : State) (a lo w x : Nat) : (wf s a lo w x).pair = s.pair := rfl
@[simp] theorem wf_fw (s : State) (a lo w x : Nat) : (wf s a lo w x).fw = s.fw := rfl
@[simp] theorem wf_ctr (s : State) (a lo w x : Nat) : (wf s a lo w x).ctr = s.ctr := rfl
@[simp] theorem wf_side (s : State) (a lo w x : Nat) : (wf s a lo w x).side = s.side := rfl
@[simp] theorem wf_counters (s : State) (a lo w x : Nat) : (wf s a lo w x).counters = s.counters := rfl
@[simp] theorem wf_out (s : State) (a lo w x : Nat) : (wf s a lo w x).out = s.out := rfl
@[simp] theorem wf_pending (s : State) (a lo w x : Nat) : (wf s a lo w x).pending = s.pending := rfl

@[simp] theorem wb_now (s : State) (a lo : Nat) (b : Bool) : (wb s a lo b).now = s.now := rfl
@[simp] theorem wb_fresh (s : State) (a lo : Nat) (b : Bool) : (wb s a lo b).fresh = s.fresh := rfl
@[simp] theorem wb_idx (s : State) (a lo : Nat) (b : Bool) : (wb s a lo b).idx = s.idx := rfl
@[simp] theorem wb_mem (s : State) (a lo : Nat) (b : Bool) : (wb s a lo b).mem = s.mem := rfl
@[simp] theorem wb_poison (s : State) (a lo : Nat) (b : Bool) : (wb s a lo b).poison = s.poison := rfl
@[simp] theorem wb_alloc (s : State) (a lo : Nat) (b : Bool) : (wb s a lo b).alloc = s.alloc := rfl
@[simp] theorem wb_xlt (s : State) (a lo : Nat) (b : Bool) : (wb s a lo b).xlt = s.xlt := rfl
@[simp] theorem wb_dir (s : State) (a lo : Nat) (b : Bool) : (wb s a lo b).dir = s.dir := rfl
@[simp] theorem wb_weir (s : State) (a lo : Nat) (b : Bool) : (wb s a lo b).weir = s.weir := rfl
@[simp] theorem wb_tier (s : State) (a lo : Nat) (b : Bool) : (wb s a lo b).tier = s.tier := rfl
@[simp] theorem wb_cmd (s : State) (a lo : Nat) (b : Bool) : (wb s a lo b).cmd = s.cmd := rfl
@[simp] theorem wb_route (s : State) (a lo : Nat) (b : Bool) : (wb s a lo b).route = s.route := rfl
@[simp] theorem wb_fault (s : State) (a lo : Nat) (b : Bool) : (wb s a lo b).fault = s.fault := rfl
@[simp] theorem wb_link (s : State) (a lo : Nat) (b : Bool) : (wb s a lo b).link = s.link := rfl
@[simp] theorem wb_cxl (s : State) (a lo : Nat) (b : Bool) : (wb s a lo b).cxl = s.cxl := rfl
@[simp] theorem wb_mbx (s : State) (a lo : Nat) (b : Bool) : (wb s a lo b).mbx = s.mbx := rfl
@[simp] theorem wb_sec (s : State) (a lo : Nat) (b : Bool) : (wb s a lo b).sec = s.sec := rfl
@[simp] theorem wb_dram (s : State) (a lo : Nat) (b : Bool) : (wb s a lo b).dram = s.dram := rfl
@[simp] theorem wb_basin (s : State) (a lo : Nat) (b : Bool) : (wb s a lo b).basin = s.basin := rfl
@[simp] theorem wb_pwr (s : State) (a lo : Nat) (b : Bool) : (wb s a lo b).pwr = s.pwr := rfl
@[simp] theorem wb_pair (s : State) (a lo : Nat) (b : Bool) : (wb s a lo b).pair = s.pair := rfl
@[simp] theorem wb_fw (s : State) (a lo : Nat) (b : Bool) : (wb s a lo b).fw = s.fw := rfl
@[simp] theorem wb_ctr (s : State) (a lo : Nat) (b : Bool) : (wb s a lo b).ctr = s.ctr := rfl
@[simp] theorem wb_side (s : State) (a lo : Nat) (b : Bool) : (wb s a lo b).side = s.side := rfl
@[simp] theorem wb_counters (s : State) (a lo : Nat) (b : Bool) : (wb s a lo b).counters = s.counters := rfl
@[simp] theorem wb_out (s : State) (a lo : Nat) (b : Bool) : (wb s a lo b).out = s.out := rfl
@[simp] theorem wb_pending (s : State) (a lo : Nat) (b : Bool) : (wb s a lo b).pending = s.pending := rfl

@[simp] theorem wi_now (s : State) (id a v : Nat) : (wi s id a v).now = s.now := rfl
@[simp] theorem wi_fresh (s : State) (id a v : Nat) : (wi s id a v).fresh = s.fresh := rfl
@[simp] theorem wi_regs (s : State) (id a v : Nat) : (wi s id a v).regs = s.regs := rfl
@[simp] theorem wi_mem (s : State) (id a v : Nat) : (wi s id a v).mem = s.mem := rfl
@[simp] theorem wi_poison (s : State) (id a v : Nat) : (wi s id a v).poison = s.poison := rfl
@[simp] theorem wi_alloc (s : State) (id a v : Nat) : (wi s id a v).alloc = s.alloc := rfl
@[simp] theorem wi_xlt (s : State) (id a v : Nat) : (wi s id a v).xlt = s.xlt := rfl
@[simp] theorem wi_dir (s : State) (id a v : Nat) : (wi s id a v).dir = s.dir := rfl
@[simp] theorem wi_weir (s : State) (id a v : Nat) : (wi s id a v).weir = s.weir := rfl
@[simp] theorem wi_tier (s : State) (id a v : Nat) : (wi s id a v).tier = s.tier := rfl
@[simp] theorem wi_cmd (s : State) (id a v : Nat) : (wi s id a v).cmd = s.cmd := rfl
@[simp] theorem wi_route (s : State) (id a v : Nat) : (wi s id a v).route = s.route := rfl
@[simp] theorem wi_fault (s : State) (id a v : Nat) : (wi s id a v).fault = s.fault := rfl
@[simp] theorem wi_link (s : State) (id a v : Nat) : (wi s id a v).link = s.link := rfl
@[simp] theorem wi_cxl (s : State) (id a v : Nat) : (wi s id a v).cxl = s.cxl := rfl
@[simp] theorem wi_mbx (s : State) (id a v : Nat) : (wi s id a v).mbx = s.mbx := rfl
@[simp] theorem wi_sec (s : State) (id a v : Nat) : (wi s id a v).sec = s.sec := rfl
@[simp] theorem wi_dram (s : State) (id a v : Nat) : (wi s id a v).dram = s.dram := rfl
@[simp] theorem wi_basin (s : State) (id a v : Nat) : (wi s id a v).basin = s.basin := rfl
@[simp] theorem wi_pwr (s : State) (id a v : Nat) : (wi s id a v).pwr = s.pwr := rfl
@[simp] theorem wi_pair (s : State) (id a v : Nat) : (wi s id a v).pair = s.pair := rfl
@[simp] theorem wi_fw (s : State) (id a v : Nat) : (wi s id a v).fw = s.fw := rfl
@[simp] theorem wi_ctr (s : State) (id a v : Nat) : (wi s id a v).ctr = s.ctr := rfl
@[simp] theorem wi_side (s : State) (id a v : Nat) : (wi s id a v).side = s.side := rfl
@[simp] theorem wi_counters (s : State) (id a v : Nat) : (wi s id a v).counters = s.counters := rfl
@[simp] theorem wi_out (s : State) (id a v : Nat) : (wi s id a v).out = s.out := rfl
@[simp] theorem wi_pending (s : State) (id a v : Nat) : (wi s id a v).pending = s.pending := rfl

@[simp] theorem count_now (s : State) (p i n : Nat) : (count s p i n).now = s.now := rfl
@[simp] theorem count_fresh (s : State) (p i n : Nat) : (count s p i n).fresh = s.fresh := rfl
@[simp] theorem count_regs (s : State) (p i n : Nat) : (count s p i n).regs = s.regs := rfl
@[simp] theorem count_idx (s : State) (p i n : Nat) : (count s p i n).idx = s.idx := rfl
@[simp] theorem count_mem (s : State) (p i n : Nat) : (count s p i n).mem = s.mem := rfl
@[simp] theorem count_poison (s : State) (p i n : Nat) : (count s p i n).poison = s.poison := rfl
@[simp] theorem count_alloc (s : State) (p i n : Nat) : (count s p i n).alloc = s.alloc := rfl
@[simp] theorem count_xlt (s : State) (p i n : Nat) : (count s p i n).xlt = s.xlt := rfl
@[simp] theorem count_dir (s : State) (p i n : Nat) : (count s p i n).dir = s.dir := rfl
@[simp] theorem count_weir (s : State) (p i n : Nat) : (count s p i n).weir = s.weir := rfl
@[simp] theorem count_tier (s : State) (p i n : Nat) : (count s p i n).tier = s.tier := rfl
@[simp] theorem count_cmd (s : State) (p i n : Nat) : (count s p i n).cmd = s.cmd := rfl
@[simp] theorem count_route (s : State) (p i n : Nat) : (count s p i n).route = s.route := rfl
@[simp] theorem count_fault (s : State) (p i n : Nat) : (count s p i n).fault = s.fault := rfl
@[simp] theorem count_link (s : State) (p i n : Nat) : (count s p i n).link = s.link := rfl
@[simp] theorem count_cxl (s : State) (p i n : Nat) : (count s p i n).cxl = s.cxl := rfl
@[simp] theorem count_mbx (s : State) (p i n : Nat) : (count s p i n).mbx = s.mbx := rfl
@[simp] theorem count_sec (s : State) (p i n : Nat) : (count s p i n).sec = s.sec := rfl
@[simp] theorem count_dram (s : State) (p i n : Nat) : (count s p i n).dram = s.dram := rfl
@[simp] theorem count_basin (s : State) (p i n : Nat) : (count s p i n).basin = s.basin := rfl
@[simp] theorem count_pwr (s : State) (p i n : Nat) : (count s p i n).pwr = s.pwr := rfl
@[simp] theorem count_pair (s : State) (p i n : Nat) : (count s p i n).pair = s.pair := rfl
@[simp] theorem count_fw (s : State) (p i n : Nat) : (count s p i n).fw = s.fw := rfl
@[simp] theorem count_ctr (s : State) (p i n : Nat) : (count s p i n).ctr = s.ctr := rfl
@[simp] theorem count_side (s : State) (p i n : Nat) : (count s p i n).side = s.side := rfl
@[simp] theorem count_out (s : State) (p i n : Nat) : (count s p i n).out = s.out := rfl
@[simp] theorem count_pending (s : State) (p i n : Nat) : (count s p i n).pending = s.pending := rfl

@[simp] theorem gauge_now (s : State) (p i v : Nat) : (gauge s p i v).now = s.now := rfl
@[simp] theorem gauge_fresh (s : State) (p i v : Nat) : (gauge s p i v).fresh = s.fresh := rfl
@[simp] theorem gauge_regs (s : State) (p i v : Nat) : (gauge s p i v).regs = s.regs := rfl
@[simp] theorem gauge_idx (s : State) (p i v : Nat) : (gauge s p i v).idx = s.idx := rfl
@[simp] theorem gauge_mem (s : State) (p i v : Nat) : (gauge s p i v).mem = s.mem := rfl
@[simp] theorem gauge_poison (s : State) (p i v : Nat) : (gauge s p i v).poison = s.poison := rfl
@[simp] theorem gauge_alloc (s : State) (p i v : Nat) : (gauge s p i v).alloc = s.alloc := rfl
@[simp] theorem gauge_xlt (s : State) (p i v : Nat) : (gauge s p i v).xlt = s.xlt := rfl
@[simp] theorem gauge_dir (s : State) (p i v : Nat) : (gauge s p i v).dir = s.dir := rfl
@[simp] theorem gauge_weir (s : State) (p i v : Nat) : (gauge s p i v).weir = s.weir := rfl
@[simp] theorem gauge_tier (s : State) (p i v : Nat) : (gauge s p i v).tier = s.tier := rfl
@[simp] theorem gauge_cmd (s : State) (p i v : Nat) : (gauge s p i v).cmd = s.cmd := rfl
@[simp] theorem gauge_route (s : State) (p i v : Nat) : (gauge s p i v).route = s.route := rfl
@[simp] theorem gauge_fault (s : State) (p i v : Nat) : (gauge s p i v).fault = s.fault := rfl
@[simp] theorem gauge_link (s : State) (p i v : Nat) : (gauge s p i v).link = s.link := rfl
@[simp] theorem gauge_cxl (s : State) (p i v : Nat) : (gauge s p i v).cxl = s.cxl := rfl
@[simp] theorem gauge_mbx (s : State) (p i v : Nat) : (gauge s p i v).mbx = s.mbx := rfl
@[simp] theorem gauge_sec (s : State) (p i v : Nat) : (gauge s p i v).sec = s.sec := rfl
@[simp] theorem gauge_dram (s : State) (p i v : Nat) : (gauge s p i v).dram = s.dram := rfl
@[simp] theorem gauge_basin (s : State) (p i v : Nat) : (gauge s p i v).basin = s.basin := rfl
@[simp] theorem gauge_pwr (s : State) (p i v : Nat) : (gauge s p i v).pwr = s.pwr := rfl
@[simp] theorem gauge_pair (s : State) (p i v : Nat) : (gauge s p i v).pair = s.pair := rfl
@[simp] theorem gauge_fw (s : State) (p i v : Nat) : (gauge s p i v).fw = s.fw := rfl
@[simp] theorem gauge_ctr (s : State) (p i v : Nat) : (gauge s p i v).ctr = s.ctr := rfl
@[simp] theorem gauge_side (s : State) (p i v : Nat) : (gauge s p i v).side = s.side := rfl
@[simp] theorem gauge_out (s : State) (p i v : Nat) : (gauge s p i v).out = s.out := rfl
@[simp] theorem gauge_pending (s : State) (p i v : Nat) : (gauge s p i v).pending = s.pending := rfl

/-! ## What leaves the block -/

@[simp] theorem put_now (s : State) (o : Out) : (put s o).now = s.now := by unfold put; split <;> rfl
@[simp] theorem put_fresh (s : State) (o : Out) : (put s o).fresh = s.fresh := by unfold put; split <;> rfl
@[simp] theorem put_regs (s : State) (o : Out) : (put s o).regs = s.regs := by unfold put; split <;> rfl
@[simp] theorem put_idx (s : State) (o : Out) : (put s o).idx = s.idx := by unfold put; split <;> rfl
@[simp] theorem put_mem (s : State) (o : Out) : (put s o).mem = s.mem := by unfold put; split <;> rfl
@[simp] theorem put_poison (s : State) (o : Out) : (put s o).poison = s.poison := by unfold put; split <;> rfl
@[simp] theorem put_alloc (s : State) (o : Out) : (put s o).alloc = s.alloc := by unfold put; split <;> rfl
@[simp] theorem put_xlt (s : State) (o : Out) : (put s o).xlt = s.xlt := by unfold put; split <;> rfl
@[simp] theorem put_dir (s : State) (o : Out) : (put s o).dir = s.dir := by unfold put; split <;> rfl
@[simp] theorem put_weir (s : State) (o : Out) : (put s o).weir = s.weir := by unfold put; split <;> rfl
@[simp] theorem put_cmd (s : State) (o : Out) : (put s o).cmd = s.cmd := by unfold put; split <;> rfl
@[simp] theorem put_route (s : State) (o : Out) : (put s o).route = s.route := by unfold put; split <;> rfl
@[simp] theorem put_fault (s : State) (o : Out) : (put s o).fault = s.fault := by unfold put; split <;> rfl
@[simp] theorem put_link (s : State) (o : Out) : (put s o).link = s.link := by unfold put; split <;> rfl
@[simp] theorem put_cxl (s : State) (o : Out) : (put s o).cxl = s.cxl := by unfold put; split <;> rfl
@[simp] theorem put_mbx (s : State) (o : Out) : (put s o).mbx = s.mbx := by unfold put; split <;> rfl
@[simp] theorem put_sec (s : State) (o : Out) : (put s o).sec = s.sec := by unfold put; split <;> rfl
@[simp] theorem put_dram (s : State) (o : Out) : (put s o).dram = s.dram := by unfold put; split <;> rfl
@[simp] theorem put_basin (s : State) (o : Out) : (put s o).basin = s.basin := by unfold put; split <;> rfl
@[simp] theorem put_pwr (s : State) (o : Out) : (put s o).pwr = s.pwr := by unfold put; split <;> rfl
@[simp] theorem put_pair (s : State) (o : Out) : (put s o).pair = s.pair := by unfold put; split <;> rfl
@[simp] theorem put_fw (s : State) (o : Out) : (put s o).fw = s.fw := by unfold put; split <;> rfl
@[simp] theorem put_ctr (s : State) (o : Out) : (put s o).ctr = s.ctr := by unfold put; split <;> rfl
@[simp] theorem put_side (s : State) (o : Out) : (put s o).side = s.side := by unfold put; split <;> rfl
@[simp] theorem put_counters (s : State) (o : Out) : (put s o).counters = s.counters := by unfold put; split <;> rfl
@[simp] theorem put_pending (s : State) (o : Out) : (put s o).pending = s.pending := by unfold put; split <;> rfl
@[simp] theorem put_out (s : State) (o : Out) : (put s o).out = o :: s.out := by unfold put; split <;> rfl

/-! ## Reads of registers -/

theorem rd_congr {s t : State} (h : s.regs = t.regs) (a : Nat) : rd s a = rd t a := by unfold rd; rw [h]

theorem rf_congr {s t : State} (h : s.regs = t.regs) (a lo w : Nat) : rf s a lo w = rf t a lo w := by
  unfold rf; rw [rd_congr h]

theorem rb_congr {s t : State} (h : s.regs = t.regs) (a lo : Nat) : rb s a lo = rb t a lo := by
  unfold rb; rw [rf_congr h]

theorem regReset_lt (a : Nat) : regReset a < 2 ^ 32 := by
  unfold regReset
  split
  · exact Nat.mod_lt _ (by decide)
  · decide

/-- A register holds 32 bits. -/
theorem rd_lt (s : State) (a : Nat) : rd s a < 2 ^ 32 := by
  unfold rd
  cases tget s.regs a with
  | none => exact regReset_lt a
  | some v => exact v.isLt

/-- A register after a write. -/
theorem rd_wr (s : State) (a v b : Nat) : rd (wr s a v) b = if b = a then v % 2 ^ 32 else rd s b := by
  unfold rd wr
  by_cases h : b = a
  · subst h
    rw [if_pos rfl]
    simp only [tset]
    split
    · rename_i e
      simp only [tget_tdel_same, Option.map_none, Option.getD_none]
      have e := congrArg BitVec.toNat e
      simp only [BitVec.toNat_ofNat] at e
      rw [e, Nat.mod_eq_of_lt (regReset_lt b)]
    · simp
  · rw [if_neg h]
    simp only [tset]
    split
    · rw [tget_tdel, if_neg h]
    · rw [tget_tput, if_neg h]

@[simp] theorem rd_wr_same (s : State) (a v : Nat) : rd (wr s a v) a = v % 2 ^ 32 := by simp [rd_wr]

theorem rd_wr_ne (s : State) (a v b : Nat) (h : b ≠ a) : rd (wr s a v) b = rd s b := by simp [rd_wr, h]

theorem rd_wf_ne (s : State) (a lo w x b : Nat) (h : b ≠ a) : rd (wf s a lo w x) b = rd s b := rd_wr_ne s a _ b h

theorem rd_wb_ne (s : State) (a lo : Nat) (v : Bool) (b : Nat) (h : b ≠ a) : rd (wb s a lo v) b = rd s b :=
  rd_wf_ne s a lo 1 _ b h

theorem rf_wf_ne (s : State) (a lo w x b l k : Nat) (h : b ≠ a) : rf (wf s a lo w x) b l k = rf s b l k := by
  unfold rf; rw [rd_wf_ne s a lo w x b h]

theorem rf_wb_ne (s : State) (a lo : Nat) (v : Bool) (b l k : Nat) (h : b ≠ a) : rf (wb s a lo v) b l k = rf s b l k :=
  rf_wf_ne s a lo 1 _ b l k h

theorem rb_wf_ne (s : State) (a lo w x b l : Nat) (h : b ≠ a) : rb (wf s a lo w x) b l = rb s b l := by
  unfold rb; rw [rf_wf_ne s a lo w x b l 1 h]

theorem rb_wb_ne (s : State) (a lo : Nat) (v : Bool) (b l : Nat) (h : b ≠ a) : rb (wb s a lo v) b l = rb s b l :=
  rb_wf_ne s a lo 1 _ b l h

/-- The field that was written. -/
theorem rf_wf_same (s : State) (a lo w x : Nat) (h : lo + w ≤ 32) : rf (wf s a lo w x) a lo w = x % 2 ^ w := by
  unfold rf wf
  rw [rd_wr_same, Nat.mod_eq_of_lt (setFld_lt _ _ _ _ 32 (rd_lt s a) h), fld_setFld_same]

/-- Another field of the register that was written. -/
theorem rf_wf_other (s : State) (a lo w x l k : Nat) (h : lo + w ≤ 32) (d : l + k ≤ lo ∨ lo + w ≤ l) :
    rf (wf s a lo w x) a l k = rf s a l k := by
  unfold rf wf
  rw [rd_wr_same, Nat.mod_eq_of_lt (setFld_lt _ _ _ _ 32 (rd_lt s a) h)]
  rcases d with d | d
  · exact fld_setFld_below _ _ _ _ _ _ d
  · exact fld_setFld_above _ _ _ _ _ _ d

theorem rb_wb_same (s : State) (a lo : Nat) (v : Bool) (h : lo < 32) : rb (wb s a lo v) a lo = v := by
  unfold rb wb
  rw [rf_wf_same _ _ _ _ _ (by omega)]
  cases v <;> decide

theorem rf_wb_same (s : State) (a lo : Nat) (v : Bool) (h : lo < 32) : rf (wb s a lo v) a lo 1 = if v then 1 else 0 := by
  unfold wb
  rw [rf_wf_same _ _ _ _ _ (by omega)]
  cases v <;> rfl

theorem rb_wb_other (s : State) (a lo l : Nat) (v : Bool) (h : lo < 32) (d : l ≠ lo) : rb (wb s a lo v) a l = rb s a l := by
  unfold rb wb
  rw [rf_wf_other _ _ _ _ _ _ _ (by omega) (by omega)]

theorem rf_wb_other (s : State) (a lo l k : Nat) (v : Bool) (h : lo < 32) (d : l + k ≤ lo ∨ lo < l) :
    rf (wb s a lo v) a l k = rf s a l k := rf_wf_other s a lo 1 _ l k (by omega) (by omega)

theorem rb_wf_other (s : State) (a lo w x l : Nat) (h : lo + w ≤ 32) (d : l < lo ∨ lo + w ≤ l) :
    rb (wf s a lo w x) a l = rb s a l := by
  unfold rb
  rw [rf_wf_other _ _ _ _ _ _ _ h (by omega)]

/-- An index or staging register of an identity after a write to it. -/
@[simp] theorem ri_wi_same (s : State) (id a v : Nat) : ri (wi s id a v) id a = v % 2 ^ 32 := by
  unfold ri wi
  simp only [tset]
  split
  · rename_i e
    simp only [tget_tdel_same, Option.map_none, Option.getD_none]
    have e := congrArg BitVec.toNat e
    simp only [BitVec.toNat_ofNat] at e
    rw [e, Nat.mod_eq_of_lt (regReset_lt a)]
  · simp

@[simp] theorem rd_count (s : State) (p i n a : Nat) : rd (count s p i n) a = rd s a := rfl
@[simp] theorem rf_count (s : State) (p i n a lo w : Nat) : rf (count s p i n) a lo w = rf s a lo w := rfl
@[simp] theorem rb_count (s : State) (p i n a lo : Nat) : rb (count s p i n) a lo = rb s a lo := rfl
@[simp] theorem rd_gauge (s : State) (p i v a : Nat) : rd (gauge s p i v) a = rd s a := rfl
@[simp] theorem rf_gauge (s : State) (p i v a lo w : Nat) : rf (gauge s p i v) a lo w = rf s a lo w := rfl
@[simp] theorem rb_gauge (s : State) (p i v a lo : Nat) : rb (gauge s p i v) a lo = rb s a lo := rfl
@[simp] theorem rd_put (s : State) (o : Out) (a : Nat) : rd (put s o) a = rd s a := rd_congr (put_regs s o) a
@[simp] theorem rf_put (s : State) (o : Out) (a lo w : Nat) : rf (put s o) a lo w = rf s a lo w := rf_congr (put_regs s o) a lo w
@[simp] theorem rb_put (s : State) (o : Out) (a lo : Nat) : rb (put s o) a lo = rb s a lo := rb_congr (put_regs s o) a lo
@[simp] theorem rd_wi (s : State) (id b v a : Nat) : rd (wi s id b v) a = rd s a := rfl

/-! ## A change of one field leaves the registers -/

@[simp] theorem rd_set_now (s : State) (x : Nat) (a : Nat) : rd { s with now := x } a = rd s a := rfl
@[simp] theorem rf_set_now (s : State) (x : Nat) (a lo w : Nat) : rf { s with now := x } a lo w = rf s a lo w := rfl
@[simp] theorem rb_set_now (s : State) (x : Nat) (a lo : Nat) : rb { s with now := x } a lo = rb s a lo := rfl
@[simp] theorem rd_set_fresh (s : State) (x : Nat) (a : Nat) : rd { s with fresh := x } a = rd s a := rfl
@[simp] theorem rf_set_fresh (s : State) (x : Nat) (a lo w : Nat) : rf { s with fresh := x } a lo w = rf s a lo w := rfl
@[simp] theorem rb_set_fresh (s : State) (x : Nat) (a lo : Nat) : rb { s with fresh := x } a lo = rb s a lo := rfl
@[simp] theorem rd_set_idx (s : State) (x : Tbl W32) (a : Nat) : rd { s with idx := x } a = rd s a := rfl
@[simp] theorem rf_set_idx (s : State) (x : Tbl W32) (a lo w : Nat) : rf { s with idx := x } a lo w = rf s a lo w := rfl
@[simp] theorem rb_set_idx (s : State) (x : Tbl W32) (a lo : Nat) : rb { s with idx := x } a lo = rb s a lo := rfl
@[simp] theorem rd_set_mem (s : State) (x : Tbl Byte) (a : Nat) : rd { s with mem := x } a = rd s a := rfl
@[simp] theorem rf_set_mem (s : State) (x : Tbl Byte) (a lo w : Nat) : rf { s with mem := x } a lo w = rf s a lo w := rfl
@[simp] theorem rb_set_mem (s : State) (x : Tbl Byte) (a lo : Nat) : rb { s with mem := x } a lo = rb s a lo := rfl
@[simp] theorem rd_set_poison (s : State) (x : Tbl Nat) (a : Nat) : rd { s with poison := x } a = rd s a := rfl
@[simp] theorem rf_set_poison (s : State) (x : Tbl Nat) (a lo w : Nat) : rf { s with poison := x } a lo w = rf s a lo w := rfl
@[simp] theorem rb_set_poison (s : State) (x : Tbl Nat) (a lo : Nat) : rb { s with poison := x } a lo = rb s a lo := rfl
@[simp] theorem rd_set_alloc (s : State) (x : AllocSt) (a : Nat) : rd { s with alloc := x } a = rd s a := rfl
@[simp] theorem rf_set_alloc (s : State) (x : AllocSt) (a lo w : Nat) : rf { s with alloc := x } a lo w = rf s a lo w := rfl
@[simp] theorem rb_set_alloc (s : State) (x : AllocSt) (a lo : Nat) : rb { s with alloc := x } a lo = rb s a lo := rfl
@[simp] theorem rd_set_xlt (s : State) (x : XltSt) (a : Nat) : rd { s with xlt := x } a = rd s a := rfl
@[simp] theorem rf_set_xlt (s : State) (x : XltSt) (a lo w : Nat) : rf { s with xlt := x } a lo w = rf s a lo w := rfl
@[simp] theorem rb_set_xlt (s : State) (x : XltSt) (a lo : Nat) : rb { s with xlt := x } a lo = rb s a lo := rfl
@[simp] theorem rd_set_dir (s : State) (x : DirSt) (a : Nat) : rd { s with dir := x } a = rd s a := rfl
@[simp] theorem rf_set_dir (s : State) (x : DirSt) (a lo w : Nat) : rf { s with dir := x } a lo w = rf s a lo w := rfl
@[simp] theorem rb_set_dir (s : State) (x : DirSt) (a lo : Nat) : rb { s with dir := x } a lo = rb s a lo := rfl
@[simp] theorem rd_set_weir (s : State) (x : WeirSt) (a : Nat) : rd { s with weir := x } a = rd s a := rfl
@[simp] theorem rf_set_weir (s : State) (x : WeirSt) (a lo w : Nat) : rf { s with weir := x } a lo w = rf s a lo w := rfl
@[simp] theorem rb_set_weir (s : State) (x : WeirSt) (a lo : Nat) : rb { s with weir := x } a lo = rb s a lo := rfl
@[simp] theorem rd_set_tier (s : State) (x : TierSt) (a : Nat) : rd { s with tier := x } a = rd s a := rfl
@[simp] theorem rf_set_tier (s : State) (x : TierSt) (a lo w : Nat) : rf { s with tier := x } a lo w = rf s a lo w := rfl
@[simp] theorem rb_set_tier (s : State) (x : TierSt) (a lo : Nat) : rb { s with tier := x } a lo = rb s a lo := rfl
@[simp] theorem rd_set_cmd (s : State) (x : CmdSt) (a : Nat) : rd { s with cmd := x } a = rd s a := rfl
@[simp] theorem rf_set_cmd (s : State) (x : CmdSt) (a lo w : Nat) : rf { s with cmd := x } a lo w = rf s a lo w := rfl
@[simp] theorem rb_set_cmd (s : State) (x : CmdSt) (a lo : Nat) : rb { s with cmd := x } a lo = rb s a lo := rfl
@[simp] theorem rd_set_route (s : State) (x : RouteSt) (a : Nat) : rd { s with route := x } a = rd s a := rfl
@[simp] theorem rf_set_route (s : State) (x : RouteSt) (a lo w : Nat) : rf { s with route := x } a lo w = rf s a lo w := rfl
@[simp] theorem rb_set_route (s : State) (x : RouteSt) (a lo : Nat) : rb { s with route := x } a lo = rb s a lo := rfl
@[simp] theorem rd_set_fault (s : State) (x : FaultSt) (a : Nat) : rd { s with fault := x } a = rd s a := rfl
@[simp] theorem rf_set_fault (s : State) (x : FaultSt) (a lo w : Nat) : rf { s with fault := x } a lo w = rf s a lo w := rfl
@[simp] theorem rb_set_fault (s : State) (x : FaultSt) (a lo : Nat) : rb { s with fault := x } a lo = rb s a lo := rfl
@[simp] theorem rd_set_link (s : State) (x : LinkSt) (a : Nat) : rd { s with link := x } a = rd s a := rfl
@[simp] theorem rf_set_link (s : State) (x : LinkSt) (a lo w : Nat) : rf { s with link := x } a lo w = rf s a lo w := rfl
@[simp] theorem rb_set_link (s : State) (x : LinkSt) (a lo : Nat) : rb { s with link := x } a lo = rb s a lo := rfl
@[simp] theorem rd_set_cxl (s : State) (x : CxlSt) (a : Nat) : rd { s with cxl := x } a = rd s a := rfl
@[simp] theorem rf_set_cxl (s : State) (x : CxlSt) (a lo w : Nat) : rf { s with cxl := x } a lo w = rf s a lo w := rfl
@[simp] theorem rb_set_cxl (s : State) (x : CxlSt) (a lo : Nat) : rb { s with cxl := x } a lo = rb s a lo := rfl
@[simp] theorem rd_set_mbx (s : State) (x : MbxSt) (a : Nat) : rd { s with mbx := x } a = rd s a := rfl
@[simp] theorem rf_set_mbx (s : State) (x : MbxSt) (a lo w : Nat) : rf { s with mbx := x } a lo w = rf s a lo w := rfl
@[simp] theorem rb_set_mbx (s : State) (x : MbxSt) (a lo : Nat) : rb { s with mbx := x } a lo = rb s a lo := rfl
@[simp] theorem rd_set_sec (s : State) (x : SecSt) (a : Nat) : rd { s with sec := x } a = rd s a := rfl
@[simp] theorem rf_set_sec (s : State) (x : SecSt) (a lo w : Nat) : rf { s with sec := x } a lo w = rf s a lo w := rfl
@[simp] theorem rb_set_sec (s : State) (x : SecSt) (a lo : Nat) : rb { s with sec := x } a lo = rb s a lo := rfl
@[simp] theorem rd_set_dram (s : State) (x : DramSt) (a : Nat) : rd { s with dram := x } a = rd s a := rfl
@[simp] theorem rf_set_dram (s : State) (x : DramSt) (a lo w : Nat) : rf { s with dram := x } a lo w = rf s a lo w := rfl
@[simp] theorem rb_set_dram (s : State) (x : DramSt) (a lo : Nat) : rb { s with dram := x } a lo = rb s a lo := rfl
@[simp] theorem rd_set_basin (s : State) (x : BasinSt) (a : Nat) : rd { s with basin := x } a = rd s a := rfl
@[simp] theorem rf_set_basin (s : State) (x : BasinSt) (a lo w : Nat) : rf { s with basin := x } a lo w = rf s a lo w := rfl
@[simp] theorem rb_set_basin (s : State) (x : BasinSt) (a lo : Nat) : rb { s with basin := x } a lo = rb s a lo := rfl
@[simp] theorem rd_set_pwr (s : State) (x : PwrSt) (a : Nat) : rd { s with pwr := x } a = rd s a := rfl
@[simp] theorem rf_set_pwr (s : State) (x : PwrSt) (a lo w : Nat) : rf { s with pwr := x } a lo w = rf s a lo w := rfl
@[simp] theorem rb_set_pwr (s : State) (x : PwrSt) (a lo : Nat) : rb { s with pwr := x } a lo = rb s a lo := rfl
@[simp] theorem rd_set_pair (s : State) (x : PairSt) (a : Nat) : rd { s with pair := x } a = rd s a := rfl
@[simp] theorem rf_set_pair (s : State) (x : PairSt) (a lo w : Nat) : rf { s with pair := x } a lo w = rf s a lo w := rfl
@[simp] theorem rb_set_pair (s : State) (x : PairSt) (a lo : Nat) : rb { s with pair := x } a lo = rb s a lo := rfl
@[simp] theorem rd_set_fw (s : State) (x : FwSt) (a : Nat) : rd { s with fw := x } a = rd s a := rfl
@[simp] theorem rf_set_fw (s : State) (x : FwSt) (a lo w : Nat) : rf { s with fw := x } a lo w = rf s a lo w := rfl
@[simp] theorem rb_set_fw (s : State) (x : FwSt) (a lo : Nat) : rb { s with fw := x } a lo = rb s a lo := rfl
@[simp] theorem rd_set_ctr (s : State) (x : CtrSt) (a : Nat) : rd { s with ctr := x } a = rd s a := rfl
@[simp] theorem rf_set_ctr (s : State) (x : CtrSt) (a lo w : Nat) : rf { s with ctr := x } a lo w = rf s a lo w := rfl
@[simp] theorem rb_set_ctr (s : State) (x : CtrSt) (a lo : Nat) : rb { s with ctr := x } a lo = rb s a lo := rfl
@[simp] theorem rd_set_side (s : State) (x : SideSt) (a : Nat) : rd { s with side := x } a = rd s a := rfl
@[simp] theorem rf_set_side (s : State) (x : SideSt) (a lo w : Nat) : rf { s with side := x } a lo w = rf s a lo w := rfl
@[simp] theorem rb_set_side (s : State) (x : SideSt) (a lo : Nat) : rb { s with side := x } a lo = rb s a lo := rfl
@[simp] theorem rd_set_counters (s : State) (x : Tbl Nat) (a : Nat) : rd { s with counters := x } a = rd s a := rfl
@[simp] theorem rf_set_counters (s : State) (x : Tbl Nat) (a lo w : Nat) : rf { s with counters := x } a lo w = rf s a lo w := rfl
@[simp] theorem rb_set_counters (s : State) (x : Tbl Nat) (a lo : Nat) : rb { s with counters := x } a lo = rb s a lo := rfl
@[simp] theorem rd_set_out (s : State) (x : List Out) (a : Nat) : rd { s with out := x } a = rd s a := rfl
@[simp] theorem rf_set_out (s : State) (x : List Out) (a lo w : Nat) : rf { s with out := x } a lo w = rf s a lo w := rfl
@[simp] theorem rb_set_out (s : State) (x : List Out) (a lo : Nat) : rb { s with out := x } a lo = rb s a lo := rfl
@[simp] theorem rd_set_pending (s : State) (x : List Instr) (a : Nat) : rd { s with pending := x } a = rd s a := rfl
@[simp] theorem rf_set_pending (s : State) (x : List Instr) (a lo w : Nat) : rf { s with pending := x } a lo w = rf s a lo w := rfl
@[simp] theorem rb_set_pending (s : State) (x : List Instr) (a lo : Nat) : rb { s with pending := x } a lo = rb s a lo := rfl

/-! ## Counters -/

/-- A counter after an addition to it: 48 bits (R467). -/
theorem counter_count_same (s : State) (p i n : Nat) : counter (count s p i n) p i = (counter s p i + n) % 2 ^ 48 := by
  unfold counter count
  simp [tgetD_tset]

/-- Another counter. -/
theorem counter_count_ne (s : State) (p i n q j : Nat) (h : q * 64 + j ≠ p * 64 + i) :
    counter (count s p i n) q j = counter s q j := by
  unfold counter count
  simp [tgetD_tset, h]

end Sys2Proof.Machine
end

