-- ==== Sys2Proof/Laws/Reads.lean ====
section
/-!
SUPPORT. Laws of the shared operations: what a read gives after an update of another part, and what a shared frame of
commands answers where the command runs.
-/
namespace Sys2Proof.Machine

theorem guarded_true (s : State) (f : State → State) : guarded true s f = .next (f s) := rfl

/-- A command that is ready is an operation of the table, just taken, of that opcode. -/
theorem ready_op {s : State} {h op : Nat} {o : Op} (hr : ready s h op = some o) : opOf s h = some o := by
  unfold ready at hr
  cases ho : opOf s h with
  | none => simp [ho] at hr
  | some x =>
    simp only [ho, Option.bind_some] at hr
    split at hr
    · exact hr
    · cases hr

/-! ## Allocator commands -/

@[simp] theorem regionOf_count (s : State) (p i n h : Nat) : regionOf (count s p i n) h = regionOf s h := rfl
@[simp] theorem stagingOf_count (s : State) (p i n a b : Nat) : stagingOf (count s p i n) a b = stagingOf s a b := rfl

/-- An allocator command that is ready and in its turn runs on the state in which it is counted. -/
theorem allocCmd_eq (s : State) (h op : Nat) (o : Op) (f : State → Op → State) (hr : ready s h op = some o)
    (ht : allocTurn s h = true) : allocCmd s h op f = .next (f (count s pgALLOC 0 1) o) := by
  simp [allocCmd, hr, ht, guarded]

/-- A command on a region of its own domain that is not FREEING runs on that region. -/
theorem regionCmd_eq (s : State) (h op : Nat) (o : Op) (r : Region) (f : State → Op → Nat → Region → State)
    (hr : ready s h op = some o) (ht : allocTurn s h = true) (hg : regionOf s (opnd o 0x10 4) = some r)
    (hd : r.dom = o.dom) (hf : r.freeing = false) :
    regionCmd s h op f = .next (f (count s pgALLOC 0 1) o (opnd o 0x10 4 % 65536) r) := by
  simp [regionCmd, allocCmd_eq s h op o _ hr ht, hg, hd, hf]

/-- The end of an operation that is no arrival-driven reduction changes the operations alone. -/
theorem endOp_plain (s : State) (h c : Nat) (ha : ((opOf s h).bind fun o => o.arrival) = none) :
    endOp s h c = { s with cmd := (endOp s h c).cmd } := by
  have e : ((opOf (arrivalEnd s h) h).bind fun o => o.arrival.map fun a => (o, a)) = none := by
    simp only [arrivalEnd, modArrival, modOp, opOf, tget_tmod_same] at ha ⊢
    cases hx : tget s.cmd.ops h with
    | none => rfl
    | some o =>
      rw [hx] at ha
      simp only [Option.bind_some] at ha
      simp [ha]
  have f : flushRecord (arrivalEnd s h) h = arrivalEnd s h := by
    unfold flushRecord
    rw [e]
  unfold endOp
  rw [f]
  rfl

/-- The end of an allocator command leaves the regions. -/
theorem allocEnd_regions (s : State) (h st : Nat) (res : List Nat) (ha : ((opOf s h).bind fun o => o.arrival) = none) :
    (allocEnd s h st res).alloc.regions = s.alloc.regions := by
  have key (u : State) (hu : u.cmd = s.cmd) : (endWith u h st res).alloc = u.alloc := by
    have e : ((opOf (modOp u h fun o => { o with res }) h).bind fun o => o.arrival) = none := by
      simp only [opOf, modOp, tget_tmod_same, hu] at ha ⊢
      cases hx : tget s.cmd.ops h with
      | none => rfl
      | some o => rw [hx] at ha; exact ha
    rw [endWith, endOp_plain _ _ _ e]
    rfl
  unfold allocEnd
  dsimp only
  rw [key _ (by split_ifs <;> rfl)]
  split_ifs <;> rfl

/-! ## Stations and sinks -/

/-- A station whose work is done passes the tile on. -/
theorem runStation_done {s u : State} {h num n : Nat} {p : Op → Tile → Bytes → Bool} {a : At} {g : Tile → Tile}
    (f : At → State → Go ((Tile → Tile) × Nat)) (ha : stationAt s h num p = some a) (hf : f a s = .done (g, n) u) :
    runStation s h num p f = .next (stationDone u h num a g n) := by
  simp only [runStation, ha, hf, stationDone]

/-- A sink whose work is done has its bytes to write. -/
theorem runSink_done {s u : State} {h num mode n : Nat} {a : At} (f : At → State → Go Nat)
    (ha : stationAt s h num (fun o t r => isMode 0x20 mode o t r && decide (t.stage = nstat o + 1)) = some a)
    (hf : f a s = .done n u) : runSink s h num mode f = .next (sinkDone u h num n) := by
  simp only [runSink, ha, hf, sinkDone]

/-! ## Atomics -/

/-- An atomic that is allowed at its place begins at its line's home. -/
theorem atomic_home {s : State} {k : AtomicKind} {q : AtomicReq} {pl : Place} (h : atomicAllowed s k q pl) :
    atomic k q s = .next (homeBegin s (atomicHome s k q)) := by
  obtain ⟨a0, a1, a2, a3, a4, a5⟩ := h
  simp only [atomic, a0, a1, a2, a3, a4, a5, ne_eq, not_true_eq_false, decide_false, Bool.false_eq_true, if_false,
    Option.isSome_none, Option.map_some, Option.getD_some, Bool.or_self, atomicHome]

/-! ## CXL.mem -/

/-- A CXL.mem request that passes every test begins at the home of its line. -/
theorem cxlServe_taken {s u : State} {w : CxlWait} {pa : Nat} {pl : Place} (h : cxlTaken s w pa pl u) :
    cxlServe s w = some (homeBegin (access (count u pgCXLP (if w.write then 8 else 7) 1) [cxlSub s pl])
      (cxlHome s w pa pl)) := by
  obtain ⟨c0, c1, c2, c3, c4, c5, c6, c7, c8, c9, c10, c11, c12, c13, c14⟩ := h
  simp only [cxlSub] at c13 c14
  unfold cxlServe
  rw [c3]
  simp only [c0, c1, c2, Option.bind_some, c4, c5, c6, c7, c8, c9, c10, c11, c12, c13, c14, Option.getD_some, Bool.not_true,
    Bool.or_self, Bool.false_eq_true, if_false, decide_false, cxlHome, cxlSub]

/-- A CXL.mem request with none waiting before it is served at once where it passes every test. -/
theorem cxlArrive_taken {s u : State} {w : CxlWait} {pa : Nat} {pl : Place} (h : cxlTaken s w pa pl u)
    (he : s.weir.cxlHeld = []) :
    some (cxlArrive s w) = cxlServe s w := by
  rw [cxlServe_taken h]
  simp only [cxlArrive, he, List.isEmpty_nil, if_true, cxlServe_taken h]

end Sys2Proof.Machine
end

