-- ==== Sys2Proof/WellFormed.lean ====
section
/-!
DEFINITION. Well-formed commands: every operand in the range that its field of spec/ gives it. The meanings do not
assume it: a command that is not well formed has an effect too, mostly none.
-/
namespace Sys2Proof

/-- A master identity (R46, R149): the host, Holhild, the sideband, the partner, a control processor, an accelerator. -/
def masterId (id : Nat) : Bool :=
  (decide (1 ≤ id) && decide (id ≤ 4)) || (decide (0x010 ≤ id) && decide (id ≤ 0x014)) ||
  (decide (0x100 ≤ id) && decide (id < 0x1100))

/-- A packet's header fields fit their bits (Tables 11-4 and 12-1). -/
def packetWf (pkt : Packet) : Bool :=
  decide (pkt.dest < 4096) && decide (pkt.src < 4096) && decide (pkt.ch < 12) && decide (pkt.sc < 8) &&
  decide (pkt.pcode < 16) && decide (pkt.tag < 65536) && decide (pkt.code < 32) && decide (pkt.line < 2 ^ 46) &&
  decide (pkt.data.length ≤ 4096)

/-- The latched straps and the lists of COLD_START have their sizes (Table 20-4). -/
def bootWf (boot : BootInput) : Bool :=
  decide (boot.profileSel < 4) && decide (boot.pairRole < 2) && decide (boot.sbMode < 2) &&
  decide (boot.modules.length = 24) && decide (boot.temps.length = 24)

/-- The command is well formed. -/
def Instr.wf (i : Instr) : Bool :=
  match i with
  | .registerWrite id addr size _ => masterId id && decide (addr < 16777216) && [1, 2, 4, 8].contains size
  | .alloc h => decide (h < 2 ^ 32)
  | .free h => decide (h < 2 ^ 32)
  | .freeComplete h => decide (h < 2 ^ 32)
  | .resize h => decide (h < 2 ^ 32)
  | .resizeShrinkComplete h => decide (h < 2 ^ 32)
  | .resizeGrowResume h => decide (h < 2 ^ 32)
  | .setAttr h => decide (h < 2 ^ 32)
  | .setAttrComplete h => decide (h < 2 ^ 32)
  | .pin h => decide (h < 2 ^ 32)
  | .pinComplete h => decide (h < 2 ^ 32)
  | .unpin h => decide (h < 2 ^ 32)
  | .publish h => decide (h < 2 ^ 32)
  | .versionUnitsRelease region version => decide (region < 2 ^ 32) && decide (version < 2 ^ 32)
  | .xltInval h => decide (h < 2 ^ 32)
  | .xltInvalComplete h => decide (h < 2 ^ 32)
  | .ctxIdxWrite id _ => masterId id
  | .ctxData3Write id _ => masterId id
  | .translationPrefetch core => decide (core < 20)
  | .walkEntryRead _ _ => true
  | .rdShared port pkt => decide (port < 20) && packetWf pkt
  | .rdOwn port pkt => decide (port < 20) && packetWf pkt
  | .upgrade port pkt => decide (port < 20) && packetWf pkt
  | .rdOnce port pkt => decide (port < 20) && packetWf pkt
  | .wrOnce port pkt => decide (port < 20) && packetWf pkt
  | .wrData port pkt => decide (port < 20) && packetWf pkt
  | .wbDirty port pkt => decide (port < 20) && packetWf pkt
  | .evict port pkt => decide (port < 20) && packetWf pkt
  | .ackShr port pkt => decide (port < 20) && packetWf pkt
  | .ackInv port pkt => decide (port < 20) && packetWf pkt
  | .ackMiss port pkt => decide (port < 20) && packetWf pkt
  | .ackClean port pkt => decide (port < 20) && packetWf pkt
  | .holdData port pkt => decide (port < 20) && packetWf pkt
  | .transactionClose line => decide (line < 2 ^ 46)
  | .recallTimeout line agent => decide (line < 2 ^ 46) && decide (agent < 256)
  | .directorySweepDone agent => decide (agent < 256)
  | .agentDataWrite id _ => masterId id
  | .agentFence id agent => masterId id && decide (agent < 256)
  | .agentUnfence id agent => masterId id && decide (agent < 256)
  | .schedulerStartUnit sched => decide (sched < 28)
  | .gateCommit id port _ => masterId id && decide (port < 21)
  | .gateCycleStart port => decide (port < 21)
  | .gateWindowBoundary port => decide (port < 21)
  | .tileAdmissionRetry op _ => decide (op < 2 ^ 32)
  | .cacheFillDone sub => decide (sub < 2 ^ 36)
  | .cacheReleaseDone sub => decide (sub < 2 ^ 36)
  | .epochEnd => true
  | .cisternPromotionDone sub _ => decide (sub < 2 ^ 36)
  | .lehrDemoteStart => true
  | .lehrDemotionCommit sub => decide (sub < 2 ^ 36)
  | .nvmeCmdTimeout drive sub => decide (drive < 16) && decide (sub < 2 ^ 36)
  | .driveFailure drive => decide (drive < 16)
  | .reservationPreemptDone drive => decide (drive < 16)
  | .cisternEnable id _ => masterId id
  | .migrate h => decide (h < 2 ^ 32)
  | .migrateMoveDone h => decide (h < 2 ^ 32)
  | .sqDoorbell id q _ => masterId id && decide (q < 256)
  | .doorbellPacket port pkt => decide (port < 20) && packetWf pkt
  | .takeEntry q _ => decide (q < 256)
  | .sqCfgWrite id q _ => masterId id && decide (q < 256)
  | .cqCfgWrite id q _ => masterId id && decide (q < 256)
  | .cqHeadWrite id q _ => masterId id && decide (q < 256)
  | .stream h => decide (h < 2 ^ 32)
  | .descriptorFetchDone h => decide (h < 2 ^ 32)
  | .updateBlockFetchDone h => decide (h < 2 ^ 32)
  | .suspend h => decide (h < 2 ^ 32)
  | .operationSuspended h => decide (h < 2 ^ 32)
  | .resume h => decide (h < 2 ^ 32)
  | .cancel h => decide (h < 2 ^ 32)
  | .fence h => decide (h < 2 ^ 32)
  | .fenceComplete h => decide (h < 2 ^ 32)
  | .operationComplete h => decide (h < 2 ^ 32)
  | .notifyCoalTimeout cq => decide (cq < 256)
  | .batchDeal cluster => decide (cluster < 4)
  | .tileAssign core => decide (core < 20)
  | .tileCommit op _ => decide (op < 2 ^ 32)
  | .fetchRange op _ => decide (op < 2 ^ 32)
  | .fetchGather op _ => decide (op < 2 ^ 32)
  | .fetchSparse op _ => decide (op < 2 ^ 32)
  | .fillConst op _ => decide (op < 2 ^ 32)
  | .fillPattern op _ => decide (op < 2 ^ 32)
  | .fillRamp op _ => decide (op < 2 ^ 32)
  | .expand op _ => decide (op < 2 ^ 32)
  | .convert op _ => decide (op < 2 ^ 32)
  | .selectMask op _ => decide (op < 2 ^ 32)
  | .selectTopk op _ => decide (op < 2 ^ 32)
  | .selectRoute op _ => decide (op < 2 ^ 32)
  | .combineAdd op _ => decide (op < 2 ^ 32)
  | .combineSub op _ => decide (op < 2 ^ 32)
  | .combineMul op _ => decide (op < 2 ^ 32)
  | .combineMax op _ => decide (op < 2 ^ 32)
  | .combineMin op _ => decide (op < 2 ^ 32)
  | .combineFma op _ => decide (op < 2 ^ 32)
  | .combineScale op _ => decide (op < 2 ^ 32)
  | .reduceAccum op _ => decide (op < 2 ^ 32)
  | .reduceGroup op _ => decide (op < 2 ^ 32)
  | .updateSgdm op _ => decide (op < 2 ^ 32)
  | .updateAdamw op _ => decide (op < 2 ^ 32)
  | .updateTable op _ => decide (op < 2 ^ 32)
  | .compact op _ => decide (op < 2 ^ 32)
  | .check op _ => decide (op < 2 ^ 32)
  | .compareBitwise op _ => decide (op < 2 ^ 32)
  | .compareTol op _ => decide (op < 2 ^ 32)
  | .storeRange op _ => decide (op < 2 ^ 32)
  | .storeScatter op _ => decide (op < 2 ^ 32)
  | .storeSparse op _ => decide (op < 2 ^ 32)
  | .storePut op _ => decide (op < 2 ^ 32)
  | .storeRouted op _ => decide (op < 2 ^ 32)
  | .storeNull op _ => decide (op < 2 ^ 32)
  | .reductionComplete h => decide (h < 2 ^ 32)
  | .reservePowerUp cluster => decide (cluster < 4)
  | .reserveGoldenTileDone cluster _ => decide (cluster < 4)
  | .flitReceive port bytes => decide (port < 22) && decide (bytes.length = 288)
  | .flitTransmit port => decide (port < 22)
  | .replayReq port _ => decide (port < 22)
  | .ackTimeout port => decide (port < 22)
  | .replayReqTimeout port => decide (port < 22)
  | .linkMsgRepeat port => decide (port < 22)
  | .creditInit port buf size => decide (port < 22) && decide (buf < 16) && decide (size < 2 ^ 32)
  | .linkId port eid width _ => decide (port < 22) && decide (eid < 4096) && decide (width < 3)
  | .laneThresholdCrossed port _ lane => decide (port < 22) && decide (lane < 9)
  | .swapReq port lane => decide (port < 22) && decide (lane < 9)
  | .swapMark port lane => decide (port < 22) && decide (lane < 9)
  | .swapDone port lane => decide (port < 22) && decide (lane < 9)
  | .swapTimeout port => decide (port < 22)
  | .widthReq port width => decide (port < 22) && decide (width < 3)
  | .widthAck port width => decide (port < 22) && decide (width < 3)
  | .retrainReq port attempt => decide (port < 22) && decide (attempt < 65536)
  | .frameLockLoss port => decide (port < 22)
  | .retrainComplete port _ _ _ => decide (port < 22)
  | .pwrReq port target => decide (port < 22) && decide (target < 4)
  | .pwrAck port target => decide (port < 22) && decide (target < 4)
  | .pwrNak port target => decide (port < 22) && decide (target < 4)
  | .linkEnableWrite id port _ => masterId id && decide (port < 22)
  | .widthMaxWrite id port _ => masterId id && decide (port < 22)
  | .linkRetrainWrite id port _ => masterId id && decide (port < 22)
  | .pwrTargetWrite id port _ => masterId id && decide (port < 22)
  | .passThroughPacket port pkt => decide (port < 20) && packetWf pkt
  | .putPacket port pkt => decide (port < 20) && packetWf pkt
  | .putSparsePacket port pkt => decide (port < 20) && packetWf pkt
  | .cmpPacket port pkt => decide (port < 20) && packetWf pkt
  | .notifyPacket port pkt => decide (port < 20) && packetWf pkt
  | .pubNotifyPacket port pkt => decide (port < 20) && packetWf pkt
  | .msgTimeout _ => true
  | .putCmpTimeout op _ => decide (op < 2 ^ 32)
  | .routeSwap id eid => masterId id && decide (eid < 4096)
  | .routeSwapComplete => true
  | .routeSwapAbort id eid => masterId id && decide (eid < 4096)
  | .routeReturnDrainDone eid => decide (eid < 4096)
  | .eidFence id eid => masterId id && decide (eid < 4096)
  | .eidUnfence id eid => masterId id && decide (eid < 4096)
  | .cxlMemRead hpa => decide (hpa < 2 ^ 52)
  | .cxlMemWrite hpa data _ _ => decide (hpa < 2 ^ 52) && decide (data.length = 64)
  | .cxlHotReset => true
  | .cxlConfigRequest _ _ _ => true
  | .ltrWrite _ => true
  | .hdmDecoderCommit dec _ size _ _ => decide (dec < 4) && decide (size < 2 ^ 64)
  | .msixUnmask _ => true
  | .getEventRecords log => decide (log < 4)
  | .clearEventRecords log _ => decide (log < 4)
  | .getEventInterruptPolicy => true
  | .setEventInterruptPolicy policy => decide (policy.length = 4)
  | .getFwInfo => true
  | .getTimestamp => true
  | .setTimestamp _ => true
  | .getSupportedLogs => true
  | .getLog _ _ _ => true
  | .identifyMemoryDevice => true
  | .getPartitionInfo => true
  | .getHealthInfo => true
  | .unsupportedMailboxOpcode opcode => decide (opcode < 65536)
  | .doeDiscovery _ => true
  | .cdatTableAccess _ => true
  | .mailboxBindWrite id _ => masterId id
  | .mailboxSend id ch _ => masterId id && decide (ch < 64)
  | .mailboxRetract id ch => masterId id && decide (ch < 64)
  | .mailboxAck id ch => masterId id && decide (ch < 64)
  | .mailboxPacket ch _ data => decide (ch < 64) && decide (data.length ≤ 256)
  | .rxStateLive ch => decide (ch < 64)
  | .dramCommandIssue ch => decide (ch < 24)
  | .dramReadData ch _ _ => decide (ch < 24)
  | .mergeWindowExpiry ch line => decide (ch < 24) && decide (line < 2 ^ 46)
  | .refsbDue ch sc bank => decide (ch < 24) && decide (sc < 2) && decide (bank < 8)
  | .zqCalibration ch => decide (ch < 24)
  | .spdTempRead ch tempC => decide (ch < 24) && decide (tempC < 256)
  | .dlyApply id ch _ => masterId id && decide (ch < 24)
  | .dlyStaleWarn ch => decide (ch < 24)
  | .remap id ch => masterId id && decide (ch < 24)
  | .remapLookup id ch => masterId id && decide (ch < 24)
  | .ppr id ch _ => masterId id && decide (ch < 24)
  | .remapCopyDone ch => decide (ch < 24)
  | .autoRemapStart ch => decide (ch < 24)
  | .dramChannelFail ch => decide (ch < 24)
  | .basinLineAccess acc => decide (acc.group < 64)
  | .atomicAddI32 req => decide (req.pa < 2 ^ 52)
  | .atomicAddI64 req => decide (req.pa < 2 ^ 52)
  | .atomicAddF32 req => decide (req.pa < 2 ^ 52)
  | .atomicAddBf16x2 req => decide (req.pa < 2 ^ 52)
  | .atomicSwap32 req => decide (req.pa < 2 ^ 52)
  | .atomicSwap64 req => decide (req.pa < 2 ^ 52)
  | .bankRetEntry group bank => decide (group < 64) && decide (bank < 17)
  | .bankSubstitute id group bank => masterId id && decide (group < 64) && decide (bank < 17)
  | .bankSubstitutionDone group => decide (group < 64)
  | .bankReinstate id group bank => masterId id && decide (group < 64) && decide (bank < 17)
  | .reinstateTestDone group _ => decide (group < 64)
  | .bankSetOn id group bank => masterId id && decide (group < 64) && decide (bank < 17)
  | .bankSetRet id group bank => masterId id && decide (group < 64) && decide (bank < 17)
  | .bankSetOff id group bank => masterId id && decide (group < 64) && decide (bank < 17)
  | .autoSubstituteStart group => decide (group < 64)
  | .fieldFuseBlow id group bank column => masterId id && decide (group < 64) && decide (bank < 17) && decide (column < 32)
  | .scrub h => decide (h < 2 ^ 32)
  | .scrubComplete h => decide (h < 2 ^ 32)
  | .ceBucketLeak basin index => decide (index < if basin then 64 else 24)
  | .engineTest h => decide (h < 2 ^ 32)
  | .engineTestRoundDone h eng _ => decide (h < 2 ^ 32) && decide (eng < 80)
  | .cpKick id => masterId id
  | .cpWatchdogExpiry cp => decide (cp < 5)
  | .faultQHeadWrite id _ => masterId id
  | .eventRateRefill source => decide (source < 4096)
  | .foldSummary => true
  | .overflowRecordWrite => true
  | .alertAck id => masterId id
  | .heartbeatSend => true
  | .heartbeat hb => decide (hb.state < 8)
  | .heartbeatAnswer hb => decide (hb.state < 8)
  | .heartbeatPathLoss _ => true
  | .selfFence => true
  | .fencedPortsOut => true
  | .soloWaitExpiry _ => true
  | .runnelLossTimeout => true
  | .bootWaitExpiry _ => true
  | .frameAuditDone => true
  | .mwr tag pa data mask _ => decide (tag < 65536) && decide (pa % 64 = 0) && decide (pa < 2 ^ 52) &&
      decide (data.length % 64 = 0) && decide (64 ≤ data.length) && decide (data.length ≤ 4096) &&
      (mask.isNone || decide (data.length = 64))
  | .mdir tag change => decide (tag < 65536) && (match change with
      | .line c => decide (c.line < 2 ^ 46)
      | .fence i _ => decide (i < 256)
      | .taken q h op hd => decide (q < 256) && decide (h < 65536) && decide (op < 256) && decide (hd < 2 ^ 32)
      | .cistern q home => decide (q < 2 ^ 36) && (home.all fun e => decide (e < 2 ^ 40)))
  | .mack tag _ => decide (tag < 65536)
  | .tickClose => true
  | .delta tick _ => decide (tick < 2 ^ 32)
  | .tickAck tick => decide (tick < 2 ^ 32)
  | .relay port _ => decide (port < 21)
  | .health _ _ _ => true
  | .healthReportSend => true
  | .healthReportMissed => true
  | .handoverReq => true
  | .handoverDrainTimeout => true
  | .handoverGo _ => true
  | .handoverDone => true
  | .resyncComplete => true
  | .fenceSelf id => masterId id
  | .goSolo id => masterId id
  | .handover id => masterId id
  | .standbyGoldenRound _ => true
  | .standbyMarchTest _ => true
  | .dramPatrolRead line _ => decide (line < 2 ^ 46)
  | .eyeMarginCheck _ => true
  | .bindWrite id => masterId id
  | .bindRead id => masterId id
  | .keyGenerate id => masterId id
  | .keyImport id _ wrapped => masterId id && decide (wrapped.length = 72)
  | .keyZeroise id => masterId id
  | .keyPartnerInstalled slot => decide (slot < 1025)
  | .getVersion via => decide (via < 5)
  | .getCapabilities via => decide (via < 5)
  | .negotiateAlgorithms via _ => decide (via < 5)
  | .getDigests via => decide (via < 5)
  | .getCertificate via slot _ _ => decide (via < 5) && decide (slot < 8)
  | .challenge via slot _ => decide (via < 5) && decide (slot < 8)
  | .getMeasurements via _ _ => decide (via < 5)
  | .keyExchange via slot _ _ => decide (via < 5) && decide (slot < 8)
  | .finish _ _ => true
  | .endSession _ => true
  | .spdmHeartbeat _ => true
  | .keyUpdate _ _ => true
  | .debugUnlock _ _ => true
  | .spdmUnsupportedRequest via code => decide (via < 5) && decide (code < 256)
  | .confEnable id _ => masterId id
  | .queryDeviceIdentifiers => true
  | .getFirmwareParameters => true
  | .requestUpdate => true
  | .passComponentTable _ => true
  | .updateComponent _ => true
  | .firmwareDataReceived _ => true
  | .activateFirmware => true
  | .getStatus => true
  | .cancelUpdateComponent => true
  | .cancelUpdate => true
  | .fwuConfirm id type => masterId id && decide (type < 12)
  | .fwuRevert id type => masterId id && decide (type < 12)
  | .autoConfirmExpiry type => decide (type < 12)
  | .coldStart boot => bootWf boot
  | .coldReset _ => true
  | .warmResetPin _ => true
  | .warm id _ => masterId id
  | .mgmtRestart id => masterId id
  | .railOrder _ => true
  | .railDrop rail => decide (rail < 9)
  | .refLost _ => true
  | .setLatencyTol h => decide (h < 2 ^ 32)
  | .dieTempSample tempC => decide (tempC < 256)
  | .thermtrip => true
  | .portIdleTimeout port _ => decide (port < 20)
  | .coreIdleGate core => decide (core < 20)
  | .driveIdleTimeout drive => decide (drive < 16)
  | .counterCapture => true
  | .cntLoRead id page => masterId id && decide (page < 4096)
  | .counterSnapshotPages h => decide (h < 2 ^ 32)
  | .counterSnapshotOperation h => decide (h < 2 ^ 32)
  | .setProfile h => decide (h < 2 ^ 32)
  | .setProfileCancel h => decide (h < 2 ^ 32)
  | .read32 addr => decide (addr < 16777216)
  | .write32 addr _ => decide (addr < 16777216)
  | .mctpControl _ => true
  | .getPdr _ => true
  | .getSensorReading sensor => decide (sensor < 256)
  | .getStateSensorReadings sensor => decide (sensor < 256)
  | .setEventReceiver _ => true
  | .softReset id page => masterId id && decide (page < 4096)
  | .blkLock id page => masterId id && decide (page < 4096)
  | .blkIsrClear id page _ => masterId id && decide (page < 4096)
  | .blkIerWrite id page _ => masterId id && decide (page < 4096)
  | .cxlioReadTimeout _ => true
  | .cxlMemAdmissionRetry => true
  | .driveReady drive _ _ => decide (drive < 16)
  | .driveReadyTimeout drive => decide (drive < 16)
  | .confirmCopyDone type => decide (type < 12)
  | .cxlLinkUp => true
  | .pldmBase code => decide (code < 256)
  | .vddAonLoss => true
  | .vddAonValid => true
  | .jtagTapAccess instr => decide (instr < 65536)

end Sys2Proof
end

