-- ==== Sys2Proof/Tests/Slice0.lean ====
section
/-!
SUPPORT. The model's own tests: worked examples of spec/ and single steps, the smoke test of the well-formedness check,
and for each statement a witness: concrete states and operands that meet the hypotheses of each of its clauses. A command's
meaning is called by its own name where a definition would have to be compiled.
-/
open Sys2Proof Sys2Proof.Machine

namespace Sys2Proof.Tests

-- one theorem after another: the evaluations below need few threads
set_option Elab.async false
-- a witness may leave a quantified variable of its clause free
set_option linter.unusedVariables false

/-! ## Results taken apart -/

def goVal {α : Type} [Inhabited α] : Go α → α
  | .done x _ => x
  | _ => default
def goState {α : Type} : Go α → State
  | .done _ s => s
  | .wait s => s
  | .refuse _ s => s
def goDone {α : Type} : Go α → Bool
  | .done _ _ => true
  | _ => false
theorem go_eq {α : Type} [Inhabited α] (g : Go α) (h : goDone g = true) : g = .done (goVal g) (goState g) := by
  cases g <;> simp_all [goDone, goVal, goState]
theorem some_eq {α : Type} [Inhabited α] (x : Option α) (h : x.isSome = true) : x = some (x.getD default) := by
  cases x <;> simp_all
theorem some_or {α : Type} (x : Option α) (d : α) (h : x.isSome = true) : x = some (x.getD d) := by
  cases x <;> simp_all
theorem go_eq2 {α : Type} [Inhabited α] (g : Go α) (x : α) (u : State) (h : goDone g = true) (hx : goVal g = x)
    (hu : goState g = u) : g = .done x u := by
  cases g <;> simp_all [goDone, goVal, goState]
def outNext : Result → Bool
  | .next _ => true
  | _ => false
def outState : Result → State
  | .next s => s
  | _ => State.reset
theorem out_eq (r : Result) (h : outNext r = true) : r = .next (outState r) := by
  cases r <;> simp_all [outNext, outState]
def cplDone : CplGo → Bool
  | .written _ => true
  | _ => false
def cplState : CplGo → State
  | .written s => s
  | .wait s => s
theorem cpl_eq (c : CplGo) (h : cplDone c = true) : c = .written (cplState c) := by
  cases c <;> simp_all [cplDone, cplState]
def wgoDone : WriteGo → Bool
  | .go _ => true
  | _ => false
def wgoState : WriteGo → State
  | .go s => s
  | .wait s => s
  | .refuse _ => State.reset
theorem wgo_eq (g : WriteGo) (u : State) (h : wgoDone g = true) (hu : wgoState g = u) : g = .go u := by
  cases g <;> simp_all [wgoDone, wgoState]
theorem go_unit (g : Go Unit) (h : goDone g = true) : g = .done () (goState g) := by
  cases g <;> simp_all [goDone, goState]
def outFault : Result → Option Fault
  | .fault f => some f
  | _ => none
def outRefusal : Result → Option Refusal
  | .refused r => some r
  | _ => none
theorem pair_of {α β : Type} (x : α × β) : x = (x.1, x.2) := rfl
theorem triple_of {α β γ : Type} (x : α × β × γ) : x = (x.1, x.2.1, x.2.2) := rfl
theorem some_pair {α β : Type} [Inhabited α] [Inhabited β] (x : Option (α × β)) (h : x.isSome = true) :
    x = some ((x.getD default).1, (x.getD default).2) := by
  cases x <;> simp_all
theorem some_state (x : Option State) (h : x.isSome = true) : x = some (x.getD State.reset) := some_or x _ h
theorem go_pair {α β : Type} [Inhabited α] [Inhabited β] (g : Go (α × β)) (h : goDone g = true) :
    g = .done ((goVal g).1, (goVal g).2) (goState g) := by
  cases g <;> simp_all [goDone, goVal, goState]
theorem some_beat (x : Option (Nat × State)) (h : x.isSome = true) :
    x = some ((x.getD (0, State.reset)).1, (x.getD (0, State.reset)).2) := by
  cases x <;> simp_all

/-! ## Small states -/

/-- Nothing is held in reset. -/
def wOn : State := { State.reset with pwr := { State.reset.pwr with held := 0, aon := true } }
/-- VDD_AON alone is valid. -/
def wAon : State := { State.reset with pwr := { State.reset.pwr with held := 1, aon := true, order := false } }
/-- The CXL link is up and its memory active. -/
def wCxl : State := { wb wOn (ra pgCXLP 0x114) 0 true with cxl := { wOn.cxl with memActive := true } }
/-- The controller serves alone. -/
def wServ : State := wf wOn pairStat 0 3 4
/-- An operation of an opcode with the given words at byte 16 of its entry. -/
def wOp (code : Nat) (ws : List Nat) : Op :=
  { queue := 0, dom := 0, owner := 1, tag := 0, opcode := code, notify := false, slot := true, reserved := true,
    entry := ((natLe 1 code ++ zeros 15) ++ (ws.flatMap (natLe 4) ++ zeros 48)).take 64 }
/-- A state with operation 1. -/
def wSt (o : Op) : State := { wServ with cmd := { wServ.cmd with ops := [(1, o)] } }
/-- The same, its command in the allocator's queue, with a region. -/
def wAllocR (o : Op) (r : Region) : State :=
  { wSt o with alloc := { (wSt o).alloc with queue := [1], regions := [(0, r)] } }
def wRegion : Region := { gen := 0, dom := 0, base := 512, size := 4, max := 8 }
/-- A packet of a code and channel for this controller. -/
def wPkt (code ch : Nat) : Packet := { dest := ownEid wServ, src := 5, ch, code }
/-- A data packet of a kind. -/
def wPut (kind : Nat) : Packet := { dest := ownEid wServ, src := 5, ch := 8, kind }
/-- A packet waits at port 0. -/
def wRx (p : Packet) : State := { wServ with link := { wServ.link with rx := [(0, [{ pkt := p }])] } }
/-- Agent 0 is bound to EID 5. -/
def wAgents (a : Agent) : State := { wServ with dir := { wServ.dir with agents := [(0, a)] } }
def wRxA (p : Packet) : State :=
  { wAgents { eid := 5, valid := true } with link := { wServ.link with rx := [(0, [{ pkt := p }])] } }
/-- The link layer of port p. -/
def wPort (p : Nat) (x : LinkPort) : State := { wServ with link := { wServ.link with ports := [(p, x)] } }
/-- Channel 63 bound from identity 2 to identity 3. -/
def wMbx (full : Bool) (r : Nat := 3) : State :=
  wb { wOn with mbx := { wOn.mbx with binds := [(63, { sender := 2, receiver := r, valid := true })] } } (mbxStat 63) 0
    full
/-- DRAM channel 23 is in a state. -/
def wChan (k : Nat) : State := wf wServ (ra (pgDRAM + 23) 0x104) 0 2 k
/-- Region 0 lies at page 512; its first sub-page has a DRAM frame, and queue 0 and the CXL host have bindings. -/
def wPool : State :=
  { wServ with
    alloc := { wServ.alloc with regions := [(0, wRegion)] }
    weir := { wServ.weir with mask := [(4096, 255), (4097, 255)] }
    tier := { wServ.tier with
      dramFrames := 1000, dramUsed := [3], pages := [(512, { backed := true })],
      subs := [(16384, { state := 1, frame := 3 })] }
    sec := { wServ.sec with binds := [(0, ⟨512, 8, 4096, 0, true, true⟩), (1, ⟨512, 8, 4097, 0, true, true⟩)] } }
/-- A station record: code, mode, bytes 2 and 3, the word at 4 and the two addresses. -/
def wRec (code mode b c w va va2 : Nat) : Bytes :=
  natLe 1 code ++ natLe 1 mode ++ natLe 1 b ++ natLe 1 c ++ natLe 4 w ++ natLe 8 va ++ natLe 8 va2
/-- The first PA of the pool, and records that read and write there. -/
def wVa : Nat := 0x40000000
def wSrc : Bytes := wRec 1 0 0 1 0 wVa 0
def wSink : Bytes := wRec 0x20 0 0 0 0 wVa 0
/-- A stream operation that runs, with its records; context 0xFFF. -/
def wStream (src : Bytes) (mids : List Bytes) (sink : Bytes) : Op :=
  { wOp 1 [] with
    entry := natLe 1 1 ++ zeros 15 ++ src ++ sink
    desc := ([1] ++ natLe 1 mids.length ++ natLe 2 0xFFF ++ [6] ++ zeros 59 ++ mids.flatten ++ zeros 256).take 256
    phase := .running, next := 1 }
/-- Tile 0 of operation 1 in engine 0, before a record. -/
def wTile (stage fmt n : Nat) : Tile :=
  { op := 1, num := 0, core := 0, admitted := true, started := true, eng := some 0, stage, fmt
    elems := List.replicate n 0 }
def wTileSt (o : Op) (t : Tile) : State := { wPool with cmd := { wPool.cmd with ops := [(1, o)], tiles := [t] } }
def wAt (o : Op) (t : Tile) : At := ⟨o, t, recOf o t.stage⟩
/-- Tile 0 before a middle record, with 16 elements of FP32. -/
def wMid (r : Bytes) : Op := wStream wSrc [r] wSink
def wMidT : Tile := wTile 1 0 16
theorem station_eq (s : State) (h num : Nat) (p : Op → Tile → Bytes → Bool) (o : Op) (t : Tile)
    (h1 : opOf s h = some o) (h2 : tileOf s h num = some t)
    (h3 : (t.eng.isSome && decide (t.stage ≤ nstat o + 1) && !t.issued && p o t (recOf o t.stage)) = true) :
    stationAt s h num p = some (wAt o t) := by
  simp [stationAt, h1, h2, h3, wAt]
def wAllocO : Op := wOp 0x10 [4, 8, 0x2C0]
def wAllocS : State :=
  { wAllocR wAllocO wRegion with
    sec := { wServ.sec with keys := [(0, ⟨2, 0⟩)] }
    alloc := { (wAllocR wAllocO wRegion).alloc with limits := [(0, 1), (1, 4)] } }
theorem ite_some {α : Type} {c : Prop} [Decidable c] (a : α) (b : Option α) (h : b.isSome = true) :
    (if c then some a else b).isSome = true := by
  split <;> simp_all
theorem wAllocBase : (findBase wAllocS 8).isSome = true := ite_some _ _ (by decide +kernel)
/-- Walk descriptor 0 is valid, and context 1 names it; its tables lie in pool or host memory. -/
def wCtx (s : State) (host : Bool) : State :=
  { wr (wb s (ra pgXLT 0x100) 31 true) (ra pgXLT 0x104) 0x28300 with
    xlt := { s.xlt with ctxs := [(1, 2 ^ 57 + wVa + if host then 2 ^ 52 else 0)] } }
def wWalk (host : Bool) (level : Nat := 0) : Walk :=
  { id := 1, cluster := 0, ctx := 1, view := ctxView (wCtx wPool host) 1, va := 0, write := false, level, entry := wVa
    op := 0, tile := 0, prefetch := false }
def wWalkSt (host : Bool) (level : Nat := 0) : State :=
  { wCtx wPool host with xlt := { (wCtx wPool host).xlt with walks := [wWalk host level] } }
/-- Line 0 has a transaction. -/
def wTranSt (t : Tran) : State := { wServ with dir := { wServ.dir with trans := [(0, t)] } }
def wTran : Tran := { req := { kind := .rdShared, who := .fabric 5, tag := 0, sc := 3, line := 0, start := 0 } }
/-- A sub-page move runs. -/
def wMoveSt (m : Move) : State := { wPool with tier := { wPool.tier with moves := [m] } }
def wMove (k : MoveKind) : Move := { sub := 16384, kind := k, dest := 4, drive := 2 }
/-- Drive 0 is ACTIVE with frames. -/
def wDrive (s : State) : State := wf { s with tier := { s.tier with drvFrames := [(0, 100)] } } (ra pgCIS 0x140) 0 3 2
/-- Queue 255 is enabled over completion queue 0, with one entry. -/
def wQueue (host : Bool) : State :=
  let s := wb (wb (wf wPool (ra (qPage 0) 0x11C) 0 5 8) (ra (qPage 0) 0x11C) 6 true) (ra (qPage 255) 0x108) 6 true
  let s := wf (wb s (ra (qPage 255) 0x108) 5 host) (ra (qPage 255) 0x10C) 0 16 1
  { wr s (ra (qPage 255) 0x100) wVa with
    sec := { s.sec with binds := [(0, ⟨512, 8, qReq 255, 0, true, true⟩)] } }
def wDescO : Op :=
  { wStream wSrc [] wSink with phase := .fetching, entry := natLe 8 1 ++ natLe 8 0x40000000 ++ wSrc ++ wSink }
/-- Tile 0 at a sink of one mode, with 16 elements of FP32. -/
def wSinkO (r : Bytes) : Op := wStream wSrc [] r
def wSinkT : Tile := wTile 1 0 16
/-- The same with a SPARSE tile of no block. -/
def wSparseT : Tile := { wTile 1 1 0 with sparse := true }
/-- The CXL host's window lies on region 0, and its class is admitted. -/
def wCxlMem : State :=
  let s := wf (wb (wb wPool (ra pgCXLP 0x114) 0 true) (ra pgWEIR 0x180) 0 true) (ra pgWEIR 0x180) 1 3 3
  { wf (wf s (ra pgCXLP 0x100) 0 24 4) (ra pgWEIR 0x10C) 0 24 1000 with
    cxl := { s.cxl with memActive := true, decoders := [(0, { base := 0, size := 0x10000000, dpa := 0 })] } }
def wPlace : Place := ⟨0, wRegion, false, wVa⟩
/-- A Runnel packet that says a message waits at mirror port 20. -/
def wRun (s : State) (m : RunMsg) : State :=
  { s with link := { s.link with rx := [(20, [{ pkt := { dest := 0, src := 5, ch := m.ch, raw := runRaw 0 5 m } }])] } }
/-- A standby over the pool. -/
def wStand : State := wf wPool pairStat 0 3 1
/-- EID 5 is agent 0 with a route over port 0, a binding of region 0, coherent, and class 3; its packet waits at port 0. -/
def wHost (p : Packet) : State :=
  let s := wf (wf (wf wPool (ra pgFAB 0x104) 0 3 2) (ra pgWEIR 0x10C) 0 24 100000) (ra pgWEIR 0x180) 0 1 1
  { s with
    sec := { s.sec with binds := [(0, ⟨512, 8, 5, 0, true, true⟩)] }
    weir := { s.weir with mask := [(5, 255)] }
    dir := { s.dir with agents := [(0, { eid := 5, valid := true })] }
    route := { s.route with entries := [(5, { valid := true, ports := 1, alt := 0, ordered := [0], path := 0 })] }
    alloc := { s.alloc with regions := [(0, { wRegion with coherent := true, reserve := true })] }
    link := { s.link with rx := [(0, [{ pkt := p }])] } }
/-- The first line of the pool, and a request for it in class 3. -/
def wLine : Nat := 0x1000000
def wReq (code ch : Nat) : Packet := { wPkt code ch with sc := 3, line := wLine }

/-- The Weir's registers as the worked examples of chapter 05 and 07 take them: the default contracts. -/
def wWeir : State := wf (wf wServ (ra pgWEIR 0x10C) 0 24 100000) (ra pgWEIR 0x180) 0 1 1
def wTenants : State :=
  { wOn with sec := { wOn.sec with
    binds := [(40, ⟨0x80810, 0x80000, 0x1C4, 17, true, true⟩), (41, ⟨0x200000, 0x200, 0x1C4, 23, true, false⟩)] } }
def wOnes : State := { wPool with mem := (rangeFrom wVa 8).map fun a => (a, 0xFF) }
/-- Memory whose first two words are 1.0 and 2.0 in FP32. -/
def wFloats : Tbl Byte := [(wVa + 2, 0x80), (wVa + 3, 0x3F), (wVa + 7, 0x40)]
def wFetch : State := { wTileSt (wStream wSrc [] wSink) (wTile 0 0 0) with mem := wFloats }
def wAdd : State :=
  { wTileSt (wMid (wRec 0x13 0 0 0 0 0 wVa)) { wMidT with elems := [0x3F800000, 0x40000000] ++ List.replicate 14 0 } with
    mem := wFloats }

/-! The decoding of two flits, in parts that the kernel evaluates with little depth. -/
theorem crc_steps (P r0 r1 r2 r3 r4 r5 r6 r7 r8 : Nat) (b z : Bytes)
    (h : b = z ++ (z ++ (z ++ (z ++ (z ++ (z ++ (z ++ z)))))) ∧
      [r0, r1, r2, r3, r4, r5, r6, r7].map (fun r => crcBytes 64 P r z) = [r1, r2, r3, r4, r5, r6, r7, r8]) :
    crcBytes 64 P r0 b = r8 := by
  obtain ⟨hb, h⟩ := h
  subst hb
  simp only [List.map_cons, List.map_nil, List.cons.injEq, and_true, crcBytes, List.foldl_append] at *
  simp_all
theorem crc_of (b : Bytes) (r c : Nat) (h : crcBytes 64 0x42F0E1EBA9EA3693 (2 ^ 64 - 1) b = r)
    (hc : Nat.xor r (2 ^ 64 - 1) = c) : crc64 b = c := by
  unfold crc64
  rw [h, hc]
theorem crc_zeros : crc64 (zeros 264) = 1160358265510622368 :=
  crc_of _ _ _ (crc_steps _ _ 283637027260487478 14970838226082224937 1806645375800069955 8311707203515449179
    1371382602005910558 16437934037497886998 15251743151269958546 17286385808198929247 (zeros 264) (zeros 33)
    (by decide +kernel)) (by decide +kernel)
theorem gfMul_zero : ∀ n x, gfMulN n 0 x 0 = 0
  | 0, _ => rfl
  | n + 1, x => by simpa [gfMulN] using gfMul_zero n x
theorem gfEval_zeros (x : Nat) (l : List Nat) : ∀ n, gfEval (List.replicate n 0 ++ l) x = gfEval l x
  | 0 => rfl
  | n + 1 => by
    have h := gfEval_zeros x l n
    simpa [gfEval, List.replicate_succ, gfMul, gfMul_zero] using h
theorem rs_zeros (l : List Nat) (n : Nat) (h : (rsSyndromes l).all (· = 0) = true) :
    rsDecode (List.replicate n 0 ++ l) = some (List.replicate n 0 ++ l) := by
  have e : rsSyndromes (List.replicate n 0 ++ l) = rsSyndromes l := by simp [rsSyndromes, gfEval_zeros]
  simp only [rsDecode, e, h, if_true]
theorem flit_read (bs : Bytes) (e o : List Nat) (c : Nat) (h1 : unzip2 (bs.map BitVec.toNat) = (e, o))
    (h2 : rsDecode e = some e) (h3 : rsDecode o = some o) (h4 : (zip2 e o).map (BitVec.ofNat 8) = bs)
    (h5 : crc64 (bs.take 264) = c) :
    (flitDecode bs).1 = if leAt bs 264 8 = c then some (leAt bs 0 8, (bs.drop 8).take 256) else none := by
  simp only [flitDecode, h1, h2, h3, Option.getD_some, Option.isSome_some, h4, h5, true_and]
  split <;> rfl
/-- 288 zero bytes: both codewords are good, and the CRC is not. -/
def wBadFlit : Bytes := zeros 288
theorem wBadDecode : (flitDecode wBadFlit).1 = none := by
  rw [flit_read wBadFlit (List.replicate 144 0 ++ []) (List.replicate 144 0 ++ []) _ (by decide +kernel)
    (rs_zeros [] 144 (by decide +kernel)) (rs_zeros [] 144 (by decide +kernel)) (by decide +kernel) (congrArg crc64 (by decide +kernel : wBadFlit.take 264 = zeros 264) |>.trans crc_zeros)]
  decide +kernel
/-- A flit whose header and slots are zero, with its CRC and parity. -/
def wGoodFlit : Bytes :=
  zeros 264 ++ [160, 244, 242, 211, 177, 107, 26, 16, 98, 146, 220, 95, 54, 80, 73, 37, 224, 254, 63, 16, 87, 132,
        176,
    142]
theorem wGoodDecode : (flitDecode wGoodFlit).1 = some (0, zeros 256) := by
  rw [flit_read wGoodFlit (List.replicate 132 0 ++ [160, 242, 177, 26, 98, 220, 54, 73, 224, 63, 87, 176])
    (List.replicate 132 0 ++ [244, 211, 107, 16, 146, 95, 80, 37, 254, 16, 132, 142]) _ (by decide +kernel)
    (rs_zeros _ 132 (by decide +kernel)) (rs_zeros _ 132 (by decide +kernel)) (by decide +kernel)
    (congrArg crc64 (by decide +kernel : wGoodFlit.take 264 = zeros 264) |>.trans crc_zeros)]
  decide +kernel
/-- A pair whose first part is known. -/
theorem pair_eq {α β : Type} (x : α × β) (a : α) (h : x.1 = a) : x = (a, x.2) := by
  cases x; simp_all
theorem crc_more (P r0 r : Nat) (b c : Bytes) (h : crcBytes 64 P r0 b = r) : crcBytes 64 P r0 (b ++ c) = crcBytes
        64 P r c := by
  simp only [crcBytes, List.foldl_append] at *
  rw [h]
theorem rs_good (l : List Nat) (h : (rsSyndromes l).all (· = 0) = true) : rsDecode l = some l := by
  simp only [rsDecode, h, if_true]
theorem rs_app (b : List Nat) (r : List Nat) : ∀ a, rsSyndromes a = r →
    rsSyndromes (a ++ b) =
      (rangeFrom 0 8).map fun i => b.foldl (fun acc c => Nat.xor (gfMul acc (gfExp i)) c) (nth r i 0) := by
  intro a h
  subst h
  refine List.map_congr_left fun i hi => ?_
  have hn : nth (rsSyndromes a) i 0 = gfEval a (gfExp i) := by
    have : i ∈ [0, 1, 2, 3, 4, 5, 6, 7] := hi
    simp only [List.mem_cons, List.not_mem_nil, or_false] at this
    rcases this with rfl | rfl | rfl | rfl | rfl | rfl | rfl | rfl <;> rfl
  rw [hn]
  simp [gfEval, List.foldl_append]
/-- The syndromes go on over a stretch of a codeword. -/
def rsOn (z r : List Nat) : List Nat :=
  (rangeFrom 0 8).map fun i => z.foldl (fun acc c => Nat.xor (gfMul acc (gfExp i)) c) (nth r i 0)
theorem rs_parts (l p z q r0 r1 r2 r3 : List Nat)
    (h : l = ((p ++ z) ++ z) ++ z ++ q ∧ rsSyndromes p = r0 ∧ [r0, r1, r2].map (rsOn z) = [r1, r2, r3] ∧
      (rsOn q r3).all (· = 0) = true) : rsDecode l = some l := by
  obtain ⟨hl, h0, h, h4⟩ := h
  subst hl
  simp only [List.map_cons, List.map_nil, List.cons.injEq, and_true] at h
  refine rs_good _ ?_
  rw [rs_app q r3 _ ((rs_app z r2 _ ((rs_app z r1 _ ((rs_app z r0 _ h0).trans h.1)).trans h.2.1)).trans h.2.2)]
  exact h4
/-- A flit of TYPE 1 whose other header bits and slots are zero, with its CRC and parity. -/
def wControlFlit : Bytes := natLe 8 (2 ^ 36) ++ zeros 256 ++ [241, 143, 35, 55, 216, 168, 243, 18, 31, 54, 43, 63,
        166, 131, 163, 7, 147, 240, 145, 124, 62, 247, 228, 244]
theorem wControlFlit_crc : crc64 (natLe 8 (2 ^ 36) ++ zeros 256) = 1365620758614872049 :=
  crc_of _ _ _ ((crc_more _ _ _ _ _ (by decide +kernel : crcBytes 64 _ _ (natLe 8 (2 ^ 36)) =
        18148407217907009381)).trans
    (crc_steps _ _ 7597594744689649809 3653321804597201003 3268311977432346968 10010956661128213310
        486320120785387126 17466356898113490654 7354965470595215190 17081123315094679566 (zeros 256) (zeros 32) (by
        decide +kernel))) (by decide +kernel)
theorem wControlFlit_decodes : (flitDecode wControlFlit).1 = some (2 ^ 36, zeros 256) := by
  rw [flit_read wControlFlit (0 :: 0 :: 16 :: List.replicate 129 0 ++ [241, 35, 216, 243, 31, 43, 166, 163, 147,
        145, 62, 228])
    (List.replicate 132 0 ++ [143, 55, 168, 18, 54, 63, 131, 7, 240, 124, 247, 244]) 1365620758614872049 (by
        decide +kernel)
    (rs_parts _ [0, 0, 16] (List.replicate 43 0) [241, 35, 216, 243, 31, 43, 166, 163, 147, 145, 62, 228] [16, 16,
        16, 16, 16, 16, 16, 16] [16, 35, 223, 109, 227, 86, 128, 5] [16, 223, 227, 128, 182, 75, 116, 217] [16,
        109, 128, 79, 116, 66, 135, 42]
      (by decide +kernel)) (rs_zeros _ 132 (by decide +kernel)) (by decide +kernel)
    ((congrArg crc64 (by decide +kernel : wControlFlit.take 264 = natLe 8 (2 ^ 36) ++ zeros 256)).trans
        wControlFlit_crc)]
  decide +kernel
/-- A flit of TYPE 2 whose other header bits and slots are zero, with its CRC and parity. -/
def wPayloadFlit : Bytes := natLe 8 (2 ^ 37) ++ zeros 256 ++ [2, 2, 80, 26, 98, 237, 201, 21, 64, 2, 141, 102, 171,
        125, 79, 96, 93, 212, 158, 160, 240, 22, 195, 251]
theorem wPayloadFlit_crc : crc64 (natLe 8 (2 ^ 37) ++ zeros 256) = 1570046950719357442 :=
  crc_of _ _ _ ((crc_more _ _ _ _ _ (by decide +kernel : crcBytes 64 _ _ (natLe 8 (2 ^ 37)) =
        17459879251647263868)).trans
    (crc_steps _ _ 14042020710934870530 12821341667459171994 15010728510409762713 860689525491771673
        3865480695433331990 155156689747870496 11629508352938669156 16876697122990194173 (zeros 256) (zeros 32) (by
        decide +kernel))) (by decide +kernel)
theorem wPayloadFlit_decodes : (flitDecode wPayloadFlit).1 = some (2 ^ 37, zeros 256) := by
  rw [flit_read wPayloadFlit (0 :: 0 :: 32 :: List.replicate 129 0 ++ [2, 80, 98, 201, 64, 141, 171, 79, 93, 158,
        240, 195])
    (List.replicate 132 0 ++ [2, 26, 237, 21, 2, 102, 125, 96, 212, 160, 22, 251]) 1570046950719357442 (by
        decide +kernel)
    (rs_parts _ [0, 0, 32] (List.replicate 43 0) [2, 80, 98, 201, 64, 141, 171, 79, 93, 158, 240, 195] [32, 32, 32,
        32, 32, 32, 32, 32] [32, 70, 163, 218, 219, 172, 29, 10] [32, 163, 219, 29, 113, 150, 232, 175] [32, 218,
        29, 158, 232, 132, 19, 84]
      (by decide +kernel)) (rs_zeros _ 132 (by decide +kernel)) (by decide +kernel)
    ((congrArg crc64 (by decide +kernel : wPayloadFlit.take 264 = natLe 8 (2 ^ 37) ++ zeros 256)).trans
        wPayloadFlit_crc)]
  decide +kernel

/-! ## Worked examples of spec/ -/

/-- Chapter 00, locating an address: page, sub-page and line of 0x0000_0123_4567_89C0. -/
theorem test_address_parts :
    pageOf 0x0123456789C0 = 0x91A2B ∧ subOf 0x0123456789C0 % 32 = 7 ∧ 0x0123456789C0 % 64 = 0 := by decide +kernel

/-- Table 7-11, steps 1 and 4: the fault words of tile 3,105. -/
theorem test_fault_words :
    faultWords (0x7F1200000000 + 3105 * 4096) 1 3 = (0x00C21000, 0x16007F12) := by decide +kernel

/-- Chapter 07: the SC3 bound of 5,797,888 B is 10 µs + 57.98 µs; Table 5-3's rate form, rounded up to a nanosecond. -/
theorem test_sc3_bound :
    boundNs wWeir 3 5797888 = 67979 := by decide +kernel

/-- Chapter 05: the backlog test at F3 admits an SC0 read while 590 responses wait, and not while 591 do. -/
theorem test_sc0_depth :
    backlogOk { wWeir with weir := { wWeir.weir with backlog := [(24, 590 * 104)] } } 3 0 104 = true ∧
    backlogOk { wWeir with weir := { wWeir.weir with backlog := [(24, 591 * 104)] } } 3 0 104 = false := by
  decide +kernel

/-- Chapter 08: an MXFP8 E4M3 block with amax 100 takes scale 0x7D, and 100 becomes 384. -/
theorem test_mx_block :
    (mxBlock 0x08 false ((.fin false 100 0, none) :: List.replicate 31 (.fin false 0 0, none))).2 = 0x7D ∧
    (mxBlock 0x08 false ((.fin false 100 0, none) :: List.replicate 31 (.fin false 0 0, none))).1.headD 0 = 0x7C := by
  decide +kernel

/-- Chapter 08: COMPACT to 2:4 of group 5: 0.5, −3.0, 0.25, 2.0 and 0, 0, 1.0, 0. -/
theorem test_compact_block :
    (pruneBlock 0x02 1 ([0x3800, 0xC200, 0x3400, 0x4000, 0, 0, 0x3C00, 0] ++ List.replicate 24 0)).take 8 =
      [0x00, 0xC2, 0x00, 0x40, 0x00, 0x00, 0x00, 0x3C] ∧
    ((pruneBlock 0x02 1 ([0x3800, 0xC200, 0x3400, 0x4000, 0, 0, 0x3C00, 0] ++ List.replicate 24 0)).drop 32).headD 0 =
      0x8D := by
  decide +kernel

/-- Chapter 08: the header of that tile. -/
theorem test_sparse_header :
    leAt (headerBytes 0x8000000000000021 448 0x02 1 3) 0 8 = 0x8000000000000021 ∧
    fld (leNat (headerBytes 0x8000000000000021 448 0x02 1 3)) 64 32 = 448 := by decide +kernel

/-- Chapter 13: HPA 0x40_0123_4580 under decoder 1 and WIN1.PA_BASE = 0x1020. -/
theorem test_hdm_address :
    cxlPa { wf wOn (ra pgCXLP 0x104) 0 24 0x1020 with
      cxl := { wOn.cxl with decoders := [(1, { base := 0x4000000000, size := 0x1000000000, dpa := 0 })] } }
      0x4001234580 = some 0x010201234580 := by decide +kernel

/-- Chapter 14: offset 0x9A40 of frame 100,000 at grain 4 KiB is on D22 at 0x1046_BA40. -/
theorem test_dram_channel :
    mapDa 2 (100000 * 65536 + 0x9A40) = (22, 0x1046BA40) := by decide +kernel

/-- Chapter 14: that channel address under MAP_A with four banks a group. -/
theorem test_dram_decode :
    caDecode 0 2 0x1046BA40 = { sc := 1, rk := 0, bg := 0, ba := 3, col := 46, row := 260 } := by decide +kernel

/-- Chapter 15: bank 5 of group 30 is global bank 515. -/
theorem test_global_bank : globalBank 30 5 = 515 := by decide +kernel

/-- Chapter 18, two tenants on one accelerator: the read is served under domain 17, the write is refused. -/
theorem test_two_tenants :
    (bindingOf wTenants 0x1C4 0x010201234580 true false).map Binding.dom = some 17 ∧
    (bindingOf wTenants 0x1C4 0x040000000000 true false).map Binding.dom = some 23 ∧
    bindingOf wTenants 0x1C4 0x040000000000 false true = none := by decide +kernel

/-- Chapter 18: a tile counter of 1,000,000 shows 999,424 in confidential mode. -/
theorem test_coarse_counter : coarsen 1000000 = 999424 := by decide +kernel

/-- Chapter 22: BLK_ID of bank group 30 and of port F14. -/
theorem test_block_ids :
    (regRead wOn 1 0x0009E000).1 = 0xB01E0025 ∧ (regRead wOn 1 0x0004E000).1 = 0xB00E0021 := by decide +kernel

/-! ## Single steps -/

/-- R487: the counter index is the writing identity's own. -/
theorem test_index_per_identity :
    (regRead (outState (execRegisterWrite 1 0x0009E020 4 3 wOn)) 1 0x0009E020).1 = 3 ∧
    (regRead (outState (execRegisterWrite 1 0x0009E020 4 3 wOn)) 2 0x0009E020).1 = 0 := by decide +kernel

/-- R485: a write of two bytes is ignored and counted, and shows in BLK_ERR_CNT. -/
theorem test_small_write_counts :
    (regRead (outState (execRegisterWrite 1 0x00000108 2 7 wOn)) 1 0x00000018).1 = 1 ∧
    (regRead (outState (execRegisterWrite 1 0x00000108 2 7 wOn)) 1 0x00000108).1 = (regRead wOn 1 0x108).1 := by
  decide +kernel

/-- R315: SEND sets FULL, LEN and SEQ of channel 63. -/
theorem test_mailbox_send :
    rf (outState (execMailboxSend 2 63 0x240 (wMbx false))) (mbxStat 63) 0 1 = 1 ∧
    rf (outState (execMailboxSend 2 63 0x240 (wMbx false))) (mbxStat 63) 8 9 = 64 := by decide +kernel

/-- R46: PUBLISH of a version that is not the base is refused: the operation completes with its status. -/
theorem test_publish_stale :
    ((opOf (outState (execPublish 1 (wAllocR (wOp 0x16 [0, 0, 9]) { wRegion with versioned := true }))) 1).map
      fun o => o.phase) = some .ending := by decide +kernel

/-- R348: an atomic add of 1 at 0xFFFFFFFF wraps, stores in its four bytes alone and answers the old value. -/
theorem test_atomic_wraps :
    bytesAt (outState (execAtomicAddI32 ⟨wVa + 4, 1⟩ wOnes)) wVa 12 =
      [0xFF, 0xFF, 0xFF, 0xFF, 0, 0, 0, 0, 0, 0, 0, 0] ∧
    (outState (execAtomicAddI32 ⟨wVa + 4, 1⟩ wOnes)).out.headD (.pin "" true) =
      .reply 0x30002 [wVa + 4, 0, 0, 0xFFFFFFFF] [] := by decide +kernel

/-- R444: a breach of the rail order of more than 20 ms leaves the ratings; one of 20 ms does not. -/
theorem test_rail_order :
    outFault (execRailOrder 21 wOn) = some .outsideRatings ∧ outNext (execRailOrder 20 wOn) = true := by decide +kernel

/-- R510: an instruction of the JTAG port that the spec does not describe is refused when debug is open. -/
theorem test_jtag : outRefusal (execJtagTapAccess 2 (wf wOn debugReg 0 2 1)) = some .jtagUnlocked := by decide +kernel

/-- A FETCH of one tile of FP32 and a STORE elsewhere record the write of what was read. -/
theorem test_fetch_reads :
    ((tileOf (outState (execFetchRange 1 0 wFetch)) 1 0).map fun t => (t.stage, t.elems.take 2, t.elems.length)) =
      some (1, [0x3F800000, 0x40000000], 1024) := by decide +kernel

/-- R200: COMBINE ADD of FP32 values. -/
theorem test_combine_add :
    ((tileOf (outState (execCombineAdd 1 0 wAdd)) 1 0).map fun t => t.elems.take 2) =
      some [0x40000000, 0x40800000] := by decide +kernel

/-- R247 (Table 11-2): a flit of zeros whose CRC is wrong is a bad flit: nothing is accepted. -/
theorem test_bad_flit : (flitDecode wBadFlit).1 = none := wBadDecode

/-! ## The well-formedness check -/

/-- Each check refuses an ill-formed command. -/
theorem test_wellFormed_refuses_0 :
    Instr.wf (.registerWrite 0 0 4 0) = false ∧
    Instr.wf (.registerWrite 0xF 0 4 0) = false ∧
    Instr.wf (.registerWrite 0x1100 0 4 0) = false ∧
    Instr.wf (.registerWrite 1 (16777216) 4 0) = false ∧
    Instr.wf (.registerWrite 1 0 3 0) = false ∧
    Instr.wf (.alloc (2 ^ 32)) = false ∧
    Instr.wf (.versionUnitsRelease (2 ^ 32) 0) = false ∧
    Instr.wf (.versionUnitsRelease 0 (2 ^ 32)) = false ∧
    Instr.wf (.translationPrefetch (20)) = false ∧
    Instr.wf (.rdShared (20) {}) = false ∧
    Instr.wf (.rdShared 0 { dest := 4096 }) = false ∧
    Instr.wf (.rdShared 0 { src := 4096 }) = false := by decide +kernel

/-- Each check refuses an ill-formed command. -/
theorem test_wellFormed_refuses_1 :
    Instr.wf (.rdShared 0 { ch := 12 }) = false ∧
    Instr.wf (.rdShared 0 { sc := 8 }) = false ∧
    Instr.wf (.rdShared 0 { pcode := 16 }) = false ∧
    Instr.wf (.rdShared 0 { tag := 65536 }) = false ∧
    Instr.wf (.rdShared 0 { code := 32 }) = false ∧
    Instr.wf (.rdShared 0 { line := 2 ^ 46 }) = false ∧
    Instr.wf (.rdShared 0 { data := zeros 4097 }) = false ∧
    Instr.wf (.transactionClose (2 ^ 46)) = false ∧
    Instr.wf (.recallTimeout 0 (256)) = false ∧
    Instr.wf (.schedulerStartUnit (28)) = false ∧
    Instr.wf (.gateCommit 1 (21) 0) = false ∧
    Instr.wf (.tileAdmissionRetry (2 ^ 32) 0) = false := by decide +kernel

/-- Each check refuses an ill-formed command. -/
theorem test_wellFormed_refuses_2 :
    Instr.wf (.cacheFillDone (2 ^ 36)) = false ∧
    Instr.wf (.nvmeCmdTimeout (16) 0) = false ∧
    Instr.wf (.sqDoorbell 1 (256) 0) = false ∧
    Instr.wf (.notifyCoalTimeout (256)) = false ∧
    Instr.wf (.batchDeal (4)) = false ∧
    Instr.wf (.flitReceive (22) (zeros 288)) = false ∧
    Instr.wf (.flitReceive 0 (zeros 287)) = false ∧
    Instr.wf (.creditInit 0 (16) 0) = false ∧
    Instr.wf (.creditInit 0 0 (2 ^ 32)) = false ∧
    Instr.wf (.linkId 0 (4096) 0 0) = false ∧
    Instr.wf (.linkId 0 0 (3) 0) = false ∧
    Instr.wf (.laneThresholdCrossed 0 true (9)) = false := by decide +kernel

/-- Each check refuses an ill-formed command. -/
theorem test_wellFormed_refuses_3 :
    Instr.wf (.retrainReq 0 (65536)) = false ∧
    Instr.wf (.pwrReq 0 (4)) = false ∧
    Instr.wf (.cxlMemRead (2 ^ 52)) = false ∧
    Instr.wf (.cxlMemWrite 0 (zeros 63) 0 true) = false ∧
    Instr.wf (.hdmDecoderCommit (4) 0 0 0 (some 0)) = false ∧
    Instr.wf (.hdmDecoderCommit 0 0 (2 ^ 64) 0 (some 0)) = false ∧
    Instr.wf (.getEventRecords (4)) = false ∧
    Instr.wf (.setEventInterruptPolicy []) = false ∧
    Instr.wf (.unsupportedMailboxOpcode (65536)) = false ∧
    Instr.wf (.mailboxSend 1 (64) 0) = false ∧
    Instr.wf (.mailboxPacket 0 true (zeros 257)) = false ∧
    Instr.wf (.dramCommandIssue (24)) = false := by decide +kernel

/-- Each check refuses an ill-formed command. -/
theorem test_wellFormed_refuses_4 :
    Instr.wf (.refsbDue 0 2 0) = false ∧
    Instr.wf (.spdTempRead 0 (256)) = false ∧
    Instr.wf (.basinLineAccess { group := 64, offset := 0 }) = false ∧
    Instr.wf (.atomicAddI32 ⟨2 ^ 52, 0⟩) = false ∧
    Instr.wf (.bankRetEntry (64) 0) = false ∧
    Instr.wf (.bankRetEntry 0 (17)) = false ∧
    Instr.wf (.fieldFuseBlow 1 0 0 (32)) = false ∧
    Instr.wf (.ceBucketLeak true 64) = false ∧
    Instr.wf (.engineTestRoundDone 0 (80) true) = false ∧
    Instr.wf (.cpWatchdogExpiry (5)) = false ∧
    Instr.wf (.eventRateRefill (4096)) = false ∧
    Instr.wf (.heartbeat { pathB := true, seq := 0, state := 8, role := 0, clean := true, tick := 0 }) = false := by decide +kernel

/-- Each check refuses an ill-formed command. -/
theorem test_wellFormed_refuses_5 :
    Instr.wf (.mwr (65536) 0 (zeros 64) none none) = false ∧
    Instr.wf (.mwr 0 32 (zeros 64) none none) = false ∧
    Instr.wf (.mwr 0 (2 ^ 52) (zeros 64) none none) = false ∧
    Instr.wf (.mdir 0 (.line { line := 2 ^ 46, state := 0, owner := 0 })) = false ∧
    Instr.wf (.delta (2 ^ 32) .part) = false ∧
    Instr.wf (.keyImport 1 0 (zeros 71)) = false ∧
    Instr.wf (.keyPartnerInstalled (1025)) = false ∧
    Instr.wf (.getVersion (5)) = false ∧
    Instr.wf (.getCertificate 0 (8) 0 0) = false ∧
    Instr.wf (.spdmUnsupportedRequest 0 (256)) = false ∧
    Instr.wf (.fwuConfirm 1 (12)) = false ∧
    Instr.wf (.coldStart { profileSel := 4 }) = false := by decide +kernel

/-- Each check refuses an ill-formed command. -/
theorem test_wellFormed_refuses_6 :
    Instr.wf (.coldStart { pairRole := 2 }) = false ∧
    Instr.wf (.coldStart { sbMode := 2 }) = false ∧
    Instr.wf (.coldStart { modules := [] }) = false ∧
    Instr.wf (.coldStart { temps := [] }) = false ∧
    Instr.wf (.railDrop (9)) = false ∧
    Instr.wf (.cntLoRead 1 (4096)) = false ∧
    Instr.wf (.getSensorReading (256)) = false ∧
    Instr.wf (.jtagTapAccess (65536)) = false := by decide +kernel

/-- The same commands with operands in range are accepted. -/
theorem test_wellFormed_accepts_0 :
    Instr.wf (.registerWrite 1 0 4 0) = true ∧
    Instr.wf (.alloc 0) = true ∧
    Instr.wf (.versionUnitsRelease 0 0) = true ∧
    Instr.wf (.translationPrefetch 0) = true ∧
    Instr.wf (.rdShared 0 {}) = true ∧
    Instr.wf (.transactionClose 0) = true ∧
    Instr.wf (.recallTimeout 0 0) = true ∧
    Instr.wf (.schedulerStartUnit 0) = true ∧
    Instr.wf (.gateCommit 1 0 0) = true ∧
    Instr.wf (.tileAdmissionRetry 0 0) = true ∧
    Instr.wf (.cacheFillDone 0) = true ∧
    Instr.wf (.nvmeCmdTimeout 0 0) = true := by decide +kernel

/-- The same commands with operands in range are accepted. -/
theorem test_wellFormed_accepts_1 :
    Instr.wf (.sqDoorbell 1 0 0) = true ∧
    Instr.wf (.notifyCoalTimeout 0) = true ∧
    Instr.wf (.batchDeal 0) = true ∧
    Instr.wf (.flitReceive 0 (zeros 288)) = true ∧
    Instr.wf (.creditInit 0 0 0) = true ∧
    Instr.wf (.linkId 0 0 0 0) = true ∧
    Instr.wf (.laneThresholdCrossed 0 true 0) = true ∧
    Instr.wf (.retrainReq 0 0) = true ∧
    Instr.wf (.pwrReq 0 0) = true ∧
    Instr.wf (.cxlMemRead 0) = true ∧
    Instr.wf (.cxlMemWrite 0 (zeros 64) 0 true) = true ∧
    Instr.wf (.hdmDecoderCommit 0 0 0 0 (some 0)) = true := by decide +kernel

/-- The same commands with operands in range are accepted. -/
theorem test_wellFormed_accepts_2 :
    Instr.wf (.getEventRecords 0) = true ∧
    Instr.wf (.setEventInterruptPolicy [0, 0, 0, 0]) = true ∧
    Instr.wf (.unsupportedMailboxOpcode 0) = true ∧
    Instr.wf (.mailboxSend 1 0 0) = true ∧
    Instr.wf (.mailboxPacket 0 true (zeros 64)) = true ∧
    Instr.wf (.dramCommandIssue 0) = true ∧
    Instr.wf (.refsbDue 0 0 0) = true ∧
    Instr.wf (.spdTempRead 0 0) = true ∧
    Instr.wf (.basinLineAccess { group := 0, offset := 0 }) = true ∧
    Instr.wf (.atomicAddI32 ⟨0, 0⟩) = true ∧
    Instr.wf (.bankRetEntry 0 0) = true ∧
    Instr.wf (.fieldFuseBlow 1 0 0 0) = true := by decide +kernel

/-- The same commands with operands in range are accepted. -/
theorem test_wellFormed_accepts_3 :
    Instr.wf (.ceBucketLeak true 0) = true ∧
    Instr.wf (.engineTestRoundDone 0 0 true) = true ∧
    Instr.wf (.cpWatchdogExpiry 0) = true ∧
    Instr.wf (.eventRateRefill 0) = true ∧
    Instr.wf (.heartbeat { pathB := true, seq := 0, state := 0, role := 0, clean := true, tick := 0 }) = true ∧
    Instr.wf (.mwr 0 0 (zeros 64) none none) = true ∧
    Instr.wf (.mdir 0 (.line { line := 0, state := 0, owner := 0 })) = true ∧
    Instr.wf (.delta 0 .part) = true ∧
    Instr.wf (.keyImport 1 0 (zeros 72)) = true ∧
    Instr.wf (.keyPartnerInstalled 0) = true ∧
    Instr.wf (.getVersion 0) = true ∧
    Instr.wf (.getCertificate 0 0 0 0) = true := by decide +kernel

/-- The same commands with operands in range are accepted. -/
theorem test_wellFormed_accepts_4 :
    Instr.wf (.spdmUnsupportedRequest 0 0) = true ∧
    Instr.wf (.fwuConfirm 1 0) = true ∧
    Instr.wf (.coldStart {}) = true ∧
    Instr.wf (.railDrop 0) = true ∧
    Instr.wf (.cntLoRead 1 0) = true ∧
    Instr.wf (.getSensorReading 0) = true ∧
    Instr.wf (.jtagTapAccess 0) = true := by decide +kernel

/-- The operands of refresh and of the mirror messages. -/
theorem test_wellFormed_refuses_mirror :
    Instr.wf (.refsbDue 0 0 8) = false ∧
    Instr.wf (.mwr 0 0 [] none none) = false ∧
    Instr.wf (.mwr 0 0 (zeros 4160) none none) = false ∧
    Instr.wf (.mwr 0 0 (zeros 65) none none) = false ∧
    Instr.wf (.mwr 0 0 (zeros 128) (some 1) none) = false ∧
    Instr.wf (.mdir 65536 (.fence 0 true)) = false ∧
    Instr.wf (.mdir 0 (.fence 256 true)) = false ∧
    Instr.wf (.mdir 0 (.taken 256 0 0 0)) = false ∧
    Instr.wf (.mdir 0 (.taken 0 65536 0 0)) = false ∧
    Instr.wf (.mdir 0 (.taken 0 0 256 0)) = false ∧
    Instr.wf (.mdir 0 (.taken 0 0 0 (2 ^ 32))) = false ∧
    Instr.wf (.mdir 0 (.cistern (2 ^ 36) none)) = false ∧
    Instr.wf (.mdir 0 (.cistern 0 (some (2 ^ 40)))) = false := by decide +kernel

/-! ## Witnesses -/

/-- The hypotheses of RegisterWritesAct can be met, clause by clause. -/
theorem meets_RegisterWritesAct :
    (∃ (s : State) (id : Nat) (a : Nat) (v : BitVec 64) (d : RegD), assigned (a / 4096) = true ∧ pageHeld s (a /
      4096) = false ∧ a % 4 = 0 ∧ a % 4096 ≠ 8 ∧ a % 4096 ≠ 0x10 ∧ a % 4096 ≠ 0x14 ∧ mgmtWrite s id (a / 4096) (a %
      4096) (v.toNat % 0x100000000) = none ∧ blockWrite s id (a / 4096) (a % 4096) (v.toNat % 0x100000000) = none ∧
      unitWrite s id (a / 4096) (a % 4096) (v.toNat % 0x100000000) = none ∧ regDesc (a / 4096) (a % 4096) = some d ∧
      mayWrite id (a / 4096) (a % 4096) = true ∧ dataWrite s id (a / 4096) (a % 4096) (v.toNat % 0x100000000) = none
      ∧ d.perId = true) ∧
    (∃ (s : State) (id : Nat) (a : Nat) (v : BitVec 64) (d : RegD), assigned (a / 4096) = true ∧ pageHeld s (a /
      4096) = false ∧ a % 4 = 0 ∧ a % 4096 ≠ 8 ∧ a % 4096 ≠ 0x10 ∧ a % 4096 ≠ 0x14 ∧ mgmtWrite s id (a / 4096) (a %
      4096) (v.toNat % 0x100000000) = none ∧ blockWrite s id (a / 4096) (a % 4096) (v.toNat % 0x100000000) = none ∧
      unitWrite s id (a / 4096) (a % 4096) (v.toNat % 0x100000000) = none ∧ regDesc (a / 4096) (a % 4096) = some d ∧
      mayWrite id (a / 4096) (a % 4096) = true ∧ dataWrite s id (a / 4096) (a % 4096) (v.toNat % 0x100000000) = none
      ∧ d.perId = false) ∧
    (∃ (s : State) (t : State) (id : Nat) (a : Nat) (v : BitVec 64), assigned (a / 4096) = true ∧ pageHeld s (a /
      4096) = false ∧ a % 4 = 0 ∧ regWrite s id (a / 4096) (a % 4096) (v.toNat % 0x100000000) = .next t ∧ (a + 4) /
      4096 = a / 4096 ∧ pageHeld t (a / 4096) = false) ∧
    (∃ (s : State) (t : State) (id : Nat) (a : Nat) (v : BitVec 64), assigned (a / 4096) = true ∧ pageHeld s (a /
      4096) = false ∧ a % 4 = 0 ∧ regWrite s id (a / 4096) (a % 4096) (v.toNat % 0x100000000) = .next t ∧ (a + 4) /
      4096 ≠ a / 4096) ∧
    (∃ (s : State) (id : Nat) (a : Nat) (n : Nat) (v : BitVec 64), assigned (a / 4096) = true ∧ pageHeld s (a /
      4096) = false ∧ (a % 4 ≠ 0 ∨ (n ≠ 4 ∧ n ≠ 8))) ∧
    (∃ (s : State) (id : Nat) (p : Nat) (v : BitVec 64), assigned p = true ∧ pageHeld s p = false ∧ mayWrite id p 8
      = true ∧ v.toNat.testBit 1 = false ∧ v.toNat.testBit 2 = true) ∧
    (∃ (s : State) (id : Nat) (p : Nat) (v : BitVec 64), assigned p = true ∧ pageHeld s p = false ∧ mayWrite id p 8
      = false) := by
  and_intros
  · refine ⟨wOn, 2, 0x020, 7, _, ?_, ?_, ?_, ?_, ?_, ?_, ?_, ?_, ?_, some_or _ ⟨0, 0, 0, 0, false, []⟩ ?_, ?_, ?_,
      ?_⟩ <;> decide +kernel
  · refine ⟨wOn, 2, 0x108, 1, _, ?_, ?_, ?_, ?_, ?_, ?_, ?_, ?_, ?_, some_or _ ⟨0, 0, 0, 0, false, []⟩ ?_, ?_, ?_,
      ?_⟩ <;> decide +kernel
  · refine ⟨wOn, _, 2, 0x108, 1, ?_, ?_, ?_, out_eq _ ?_, ?_, ?_⟩ <;> decide +kernel
  · refine ⟨wOn, _, 2, 0xFFC, 1, ?_, ?_, ?_, out_eq _ ?_, ?_⟩ <;> decide +kernel
  · refine ⟨wOn, 2, 0x020, 0, 7, ?_, ?_, ?_⟩ <;> decide +kernel
  · refine ⟨wOn, 2, pgXLT, 4, ?_, ?_, ?_, ?_, ?_⟩ <;> decide +kernel
  · refine ⟨wOn, 1, 0, 1, ?_, ?_, ?_⟩ <;> decide +kernel

/-- The hypotheses of UnassignedPagesReadZero can be met, clause by clause. -/
theorem meets_UnassignedPagesReadZero :
    (∃ (s : State) (id : Nat) (a : Nat) (n : Nat) (v : BitVec 64), assigned (a / 4096) = false) ∧
    (∃ (p : Nat), 0xF00 ≤ p ∧ p ≤ 0xFFF) := by
  and_intros
  · refine ⟨wOn, 1, 0xFFF000, 4, 1, ?_⟩; decide +kernel
  · refine ⟨0xF00, ?_, ?_⟩ <;> decide +kernel

/-- The hypotheses of SteppingIsReported can be met. -/
theorem meets_SteppingIsReported :
    ∃ (s : State) (id : Nat), pageHeld s pgTOP = false := by
  refine ⟨wOn, 1, ?_⟩; decide +kernel

/-- The hypotheses of ReservedEncodingsLeaveTheFieldAlone can be met, clause by clause. -/
theorem meets_ReservedEncodingsLeaveTheFieldAlone :
    (∃ (lk : Bool) (old : Nat) (new : Nat) (fs : List Field) (f : Field), (fs.Pairwise (fun a b => a.lo + a.w ≤ b.lo
      ∨ b.lo + b.w ≤ a.lo)) ∧ f ∈ fs ∧ (f.acc = .rw ∨ f.acc = .rwl)) ∧
    (∃ (p : Nat) (d : RegD), d ∈ regsHeader ++ regsOfPage p) := by
  and_intros
  · refine ⟨false, 0, 3, [fRW 0 2, fRWL 2 1], (fRWL 2 1), ?_, ?_, ?_⟩ <;> decide +kernel
  · refine ⟨0, (regsHeader).headD ⟨0, 0, 0, 0, false, []⟩, ?_⟩; decide +kernel

/-- The hypotheses of ElementsLieInTheirBits can be met, clause by clause. -/
theorem meets_ElementsLieInTheirBits :
    (∃ (f : Nat) (m : Nat) (bs : Bytes), elemBits f = 4 ∧ m < bs.length) ∧
    (∃ (f : Nat) (m : Nat) (p : Nat) (bs : Bytes), elemBits f = 6 ∧ 3 * m + 2 < bs.length ∧ p < 4) := by
  and_intros
  · refine ⟨0x0C, 24, (List.replicate 25 0x5A), ?_, ?_⟩ <;> decide +kernel
  · refine ⟨0x0A, 8, 3, (List.replicate 27 0x5A), ?_, ?_, ?_⟩ <;> decide +kernel

/-- The hypotheses of ElementsSurvivePacking can be met. -/
theorem meets_ElementsSurvivePacking :
    ∃ (f : Nat) (xs : List (BitVec 64)), ∀ x ∈ xs, x.toNat < 2 ^ elemBits f := by
  exact ⟨0x0C, [1, 15, 7], (by simp [elemBits])⟩

/-- The hypotheses of MirroredAndAtomicWritesKeepOtherBytes can be met, clause by clause. -/
theorem meets_MirroredAndAtomicWritesKeepOtherBytes :
    (∃ (s : State) (u : State) (v : State) (t : Nat) (pa : Nat) (a : Nat) (d : Bytes) (p : Option Nat) (n : Nat),
      receives s = true ∧ n = (p.map storedCode).getD 0 ∧ takeRunnel s (runMwr t pa none n d) = some u ∧ stagedOn u
      ⟨t, false, pa, d, none, n⟩ = false ∧ (subsOf pa d.length).foldl (fun (acc : Option State) q => acc.bind fun s
      => ownFrame s q) (some u) = some v) ∧
    (∃ (s : State) (q : AtomicReq) (pl : Place) (a : Nat), atomicAllowed s .addI32 q pl ∧ (subRec s (q.pa /
      65536)).state ≠ 0 ∧ s.dir.trans = [] ∧ s.dir.chain = [] ∧ s.dir.overflow = [] ∧ dirOf s (q.pa / 64) = none ∧
      (a < q.pa ∨ q.pa + 4 ≤ a)) ∧
    (∃ (s : State) (q : AtomicReq) (pl : Place) (a : Nat), atomicAllowed s .addI64 q pl ∧ (subRec s (q.pa /
      65536)).state ≠ 0 ∧ s.dir.trans = [] ∧ s.dir.chain = [] ∧ s.dir.overflow = [] ∧ dirOf s (q.pa / 64) = none ∧
      (a < q.pa ∨ q.pa + 8 ≤ a)) ∧
    (∃ (s : State) (q : AtomicReq) (pl : Place) (a : Nat), atomicAllowed s .addF32 q pl ∧ (subRec s (q.pa /
      65536)).state ≠ 0 ∧ s.dir.trans = [] ∧ s.dir.chain = [] ∧ s.dir.overflow = [] ∧ dirOf s (q.pa / 64) = none ∧
      (a < q.pa ∨ q.pa + 4 ≤ a)) ∧
    (∃ (s : State) (q : AtomicReq) (pl : Place) (a : Nat), atomicAllowed s .addBf16x2 q pl ∧ (subRec s (q.pa /
      65536)).state ≠ 0 ∧ s.dir.trans = [] ∧ s.dir.chain = [] ∧ s.dir.overflow = [] ∧ dirOf s (q.pa / 64) = none ∧
      (a < q.pa ∨ q.pa + 4 ≤ a)) ∧
    (∃ (s : State) (q : AtomicReq) (pl : Place) (a : Nat), atomicAllowed s .swap32 q pl ∧ (subRec s (q.pa /
      65536)).state ≠ 0 ∧ s.dir.trans = [] ∧ s.dir.chain = [] ∧ s.dir.overflow = [] ∧ dirOf s (q.pa / 64) = none ∧
      (a < q.pa ∨ q.pa + 4 ≤ a)) ∧
    (∃ (s : State) (q : AtomicReq) (pl : Place) (a : Nat), atomicAllowed s .swap64 q pl ∧ (subRec s (q.pa /
      65536)).state ≠ 0 ∧ s.dir.trans = [] ∧ s.dir.chain = [] ∧ s.dir.overflow = [] ∧ dirOf s (q.pa / 64) = none ∧
      (a < q.pa ∨ q.pa + 8 ≤ a)) := by
  and_intros
  · refine ⟨(wRun wStand (runMwr 1 wVa none 0 [1])), _, _, 1, wVa, 0, [1], none, _, ?_, rfl, some_state _ ?_, ?_,
      some_state _ ?_⟩ <;> decide +kernel
  · refine ⟨wPool, ⟨wVa + 56, 1⟩, ⟨0, wRegion, false, wVa + 56⟩, 0, (by unfold atomicAllowed; decide +kernel), ?_,
      ?_, ?_, ?_, ?_, ?_⟩ <;> decide +kernel
  · refine ⟨wPool, ⟨wVa + 56, 1⟩, ⟨0, wRegion, false, wVa + 56⟩, 0, (by unfold atomicAllowed; decide +kernel), ?_,
      ?_, ?_, ?_, ?_, ?_⟩ <;> decide +kernel
  · refine ⟨wPool, ⟨wVa + 56, 1⟩, ⟨0, wRegion, false, wVa + 56⟩, 0, (by unfold atomicAllowed; decide +kernel), ?_,
      ?_, ?_, ?_, ?_, ?_⟩ <;> decide +kernel
  · refine ⟨wPool, ⟨wVa + 56, 1⟩, ⟨0, wRegion, false, wVa + 56⟩, 0, (by unfold atomicAllowed; decide +kernel), ?_,
      ?_, ?_, ?_, ?_, ?_⟩ <;> decide +kernel
  · refine ⟨wPool, ⟨wVa + 56, 1⟩, ⟨0, wRegion, false, wVa + 56⟩, 0, (by unfold atomicAllowed; decide +kernel), ?_,
      ?_, ?_, ?_, ?_, ?_⟩ <;> decide +kernel
  · refine ⟨wPool, ⟨wVa + 56, 1⟩, ⟨0, wRegion, false, wVa + 56⟩, 0, (by unfold atomicAllowed; decide +kernel), ?_,
      ?_, ?_, ?_, ?_, ?_⟩ <;> decide +kernel

/-- The hypotheses of StepRunsTheFrontCommand can be met. -/
theorem meets_StepRunsTheFrontCommand :
    ∃ (s : State) (c : Instr) (cs : List Instr), s.pending = c :: cs := by
  refine ⟨{ State.reset with pending := [.cxlHotReset] }, .cxlHotReset, [], ?_⟩; decide +kernel

/-- The hypotheses of IdleStepsPassTime can be met, clause by clause. -/
theorem meets_IdleStepsPassTime :
    (∃ (s : State), s.pending = [] ∧ s.pwr.held = 1) ∧
    (∃ (s : State), s.pending = [] ∧ s.pwr.held = 2) ∧
    (∃ (s : State), s.pending = [] ∧ s.pwr.held = 0 ∧ s.pwr.warm ≠ 2 ∧ s.pair.staged = [] ∧ s.pair.sync = none ∧
      s.tier.perst = [] ∧ s.cmd.ops = []) := by
  and_intros
  · refine ⟨State.reset, ?_, ?_⟩ <;> decide +kernel
  · refine ⟨{ wServ with pwr := { wServ.pwr with held := 2 } }, ?_, ?_⟩ <;> decide +kernel
  · refine ⟨wOn, ?_, ?_, ?_, ?_, ?_, ?_, ?_⟩ <;> decide +kernel

/-- The hypotheses of AllocationTakesAFreeRegion can be met, clause by clause. -/
theorem meets_AllocationTakesAFreeRegion :
    (∃ (s : State) (h : Nat) (o : Op), ready s h 0x10 = some o ∧ allocTurn s h = true) ∧
    (∃ (s : State) (h : Nat) (o : Op) (base : Nat), ready s h 0x10 = some o ∧ allocTurn s h = true ∧ opnd o 0x10 4 ≠
      0 ∧ opnd o 0x10 4 ≤ 0x8000000 ∧ (opnd o 0x14 4 = 0 ∨ (opnd o 0x10 4 ≤ opnd o 0x14 4 ∧ opnd o 0x14 4 ≤
      0x8000000)) ∧ opnd o 0x18 4 < 0x1000 ∧ fld (opnd o 0x18 4) 4 2 = 0 ∧ attrsRefused (bitN (opnd o 0x18 4) 0)
      (bitN (opnd o 0x18 4) 2) (bitN (opnd o 0x18 4) 3) 0 (fld (opnd o 0x18 4) 6 3) (fld (opnd o 0x18 4) 9 3) =
      false ∧ (bitN (opnd o 0x18 4) 0 = false ∨ (noDirectory s = false ∧ pendProfile s = none)) ∧ keyed s o.dom =
      true ∧ quotaOk s o.dom 0 1 = true ∧ quotaOk s o.dom 1 (opnd o 0x10 4) = true ∧ (bitN (opnd o 0x18 4) 3 = false
      ∨ reserveOk s o.dom (opnd o 0x10 4) (bitN (opnd o 0x18 4) 0) = true) ∧ s.alloc.regions.length < 65536 ∧
      findBase s (if bitN (opnd o 0x18 4) 2 then 2 * (if opnd o 0x14 4 = 0 then opnd o 0x10 4 else opnd o 0x14 4)
      else (if opnd o 0x14 4 = 0 then opnd o 0x10 4 else opnd o 0x14 4)) = some base ∧ o.arrival = none) := by
  and_intros
  · refine ⟨(wAllocR (wOp 0x10 [8, 0x8000000, 0x40]) wRegion), 1, _, some_eq _ ?_, ?_⟩ <;> decide +kernel
  · refine ⟨wAllocS, 1, wAllocO, ((findBase wAllocS 8).getD 0), ?_, ?_, ?_, ?_, ?_, ?_, ?_, ?_, ?_, ?_, ?_, ?_, ?_,
      ?_, (some_or _ _ wAllocBase), ?_⟩ <;> decide +kernel

/-- The hypotheses of RegionCommandsAct can be met, clause by clause. -/
theorem meets_RegionCommandsAct :
    (∃ (s : State) (h : Nat) (o : Op) (r : Region), ready s h 0x11 = some o ∧ allocTurn s h = true ∧ regionOf s
      (opnd o 0x10 4) = some r ∧ r.dom = o.dom ∧ r.freeing = false) ∧
    (∃ (s : State) (h : Nat) (o : Op) (r : Region), ready s h 0x12 = some o ∧ allocTurn s h = true ∧ regionOf s
      (opnd o 0x10 4) = some r ∧ r.dom = o.dom ∧ r.freeing = false ∧ r.shrinking = 0 ∧ r.size < opnd o 0x14 4 ∧ opnd
      o 0x14 4 ≤ r.max) ∧
    (∃ (s : State) (h : Nat) (o : Op) (r : Region), ready s h 0x12 = some o ∧ allocTurn s h = true ∧ regionOf s
      (opnd o 0x10 4) = some r ∧ r.dom = o.dom ∧ r.freeing = false ∧ r.shrinking = 0 ∧ r.size < opnd o 0x14 4 ∧ opnd
      o 0x14 4 ≤ r.max ∧ r.residency = 0 ∧ r.reserve = false ∧ quotaOk s r.dom 1 (opnd o 0x14 4 - r.size) = true ∧
      o.arrival = none) ∧
    (∃ (s : State) (h : Nat) (o : Op) (r : Region), ready s h 0x12 = some o ∧ allocTurn s h = true ∧ regionOf s
      (opnd o 0x10 4) = some r ∧ r.dom = o.dom ∧ r.freeing = false ∧ r.shrinking = 0 ∧ 0 < opnd o 0x14 4 ∧ opnd o
      0x14 4 < r.size ∧ r.size ≤ r.max) ∧
    (∃ (s : State) (h : Nat) (o : Op) (r : Region), ready s h 0x12 = some o ∧ allocTurn s h = true ∧ regionOf s
      (opnd o 0x10 4) = some r ∧ r.dom = o.dom ∧ r.freeing = false ∧ r.shrinking = 0 ∧ 0 < r.size ∧ opnd o 0x14 4 =
      r.size ∧ r.size ≤ r.max) ∧
    (∃ (s : State) (h : Nat) (o : Op) (r : Region), ready s h 0x12 = some o ∧ allocTurn s h = true ∧ regionOf s
      (opnd o 0x10 4) = some r ∧ r.dom = o.dom ∧ r.freeing = false ∧ r.shrinking ≠ 0 ∧ 0 < opnd o 0x14 4 ∧ opnd o
      0x14 4 ≤ r.max) ∧
    (∃ (s : State) (h : Nat) (o : Op) (r : Region), ready s h 0x13 = some o ∧ allocTurn s h = true ∧ regionOf s
      (opnd o 0x10 4) = some r ∧ r.dom = o.dom ∧ r.freeing = false ∧ Nat.land (opnd o 0x14 4) 0xE0B = opnd o 0x14 4
      ∧ coherentWay (opnd o 0x14 4) (opnd o 0x18 4) r = 0 ∧ bitN (opnd o 0x14 4) 1 = false ∧ bitN (opnd o 0x14 4) 3
      = false ∧ attrsRefused (if bitN (opnd o 0x14 4) 0 then bitN (opnd o 0x18 4) 0 else r.coherent) r.versioned
      r.reserve r.residency r.grain ((if bitN (opnd o 0x14 4) 9 then fld (opnd o 0x18 4) 9 1 else fld r.defaultSc 0
      1) + 2 * (if bitN (opnd o 0x14 4) 10 then fld (opnd o 0x18 4) 10 1 else fld r.defaultSc 1 1) + 4 * (if bitN
      (opnd o 0x14 4) 11 then fld (opnd o 0x18 4) 11 1 else fld r.defaultSc 2 1)) = false ∧ quotaOk s r.dom 2 0 =
      true ∧ o.arrival = none) ∧
    (∃ (s : State) (h : Nat) (o : Op) (r : Region), ready s h 0x13 = some o ∧ allocTurn s h = true ∧ regionOf s
      (opnd o 0x10 4) = some r ∧ r.dom = o.dom ∧ r.freeing = false ∧ Nat.land (opnd o 0x14 4) 0xE0B = opnd o 0x14 4
      ∧ coherentWay (opnd o 0x14 4) (opnd o 0x18 4) r = 1 ∧ bitN (opnd o 0x14 4) 1 = false ∧ bitN (opnd o 0x14 4) 3
      = false ∧ attrsRefused true r.versioned r.reserve r.residency r.grain ((if bitN (opnd o 0x14 4) 9 then fld
      (opnd o 0x18 4) 9 1 else fld r.defaultSc 0 1) + 2 * (if bitN (opnd o 0x14 4) 10 then fld (opnd o 0x18 4) 10 1
      else fld r.defaultSc 1 1) + 4 * (if bitN (opnd o 0x14 4) 11 then fld (opnd o 0x18 4) 11 1 else fld r.defaultSc
      2 1)) = false ∧ noDirectory s = false ∧ quotaOk s r.dom 2 0 = true ∧ (r.dramUnits = true ∨ r.size * 32 ≤
      dramAvail s + regionFrames s r)) ∧
    (∃ (s : State) (h : Nat) (o : Op) (r : Region), ready s h 0x14 = some o ∧ allocTurn s h = true ∧ regionOf s
      (opnd o 0x10 4) = some r ∧ r.dom = o.dom ∧ r.freeing = false) ∧
    (∃ (s : State) (h : Nat) (o : Op) (r : Region), ready s h 0x14 = some o ∧ allocTurn s h = true ∧ regionOf s
      (opnd o 0x10 4) = some r ∧ r.dom = o.dom ∧ r.freeing = false ∧ (opnd o 0x14 4 = 1 ∨ opnd o 0x14 4 = 2) ∧
      attrsRefused r.coherent r.versioned r.reserve (opnd o 0x14 4) r.grain r.defaultSc = false ∧ opnd o 0x14 4 =
      r.residency ∧ r.dramUnits = true) ∧
    (∃ (s : State) (h : Nat) (o : Op) (r : Region), ready s h 0x15 = some o ∧ allocTurn s h = true ∧ regionOf s
      (opnd o 0x10 4) = some r ∧ r.dom = o.dom ∧ r.freeing = false ∧ r.residency = 0) ∧
    (∃ (s : State) (h : Nat) (o : Op) (r : Region), ready s h 0x15 = some o ∧ allocTurn s h = true ∧ regionOf s
      (opnd o 0x10 4) = some r ∧ r.dom = o.dom ∧ r.freeing = false ∧ r.residency ≠ 0 ∧ attrsRefused r.coherent
      r.versioned r.reserve 0 r.grain r.defaultSc = false) := by
  and_intros
  · refine ⟨(wAllocR (wOp 0x11 [0]) (wRegion)), 1, _, _, some_eq _ ?_, ?_, some_eq _ ?_, ?_, ?_⟩ <;> decide +kernel
  · refine ⟨(wAllocR (wOp 0x12 [0, 8]) (wRegion)), 1, _, _, some_eq _ ?_, ?_, some_eq _ ?_, ?_, ?_, ?_, ?_, ?_⟩ <;>
      decide +kernel
  · refine ⟨{ wAllocR (wOp 0x12 [0, 8]) (wRegion) with alloc := { (wAllocR (wOp 0x12 [0, 8]) wRegion).alloc with limits := [(0, 100), (1, 100)] } },
      1, _, _, some_eq _ ?_, ?_, some_eq _ ?_, ?_, ?_, ?_, ?_, ?_, ?_, ?_, ?_, ?_⟩ <;> decide +kernel
  · refine ⟨(wAllocR (wOp 0x12 [0, 1]) (wRegion)), 1, _, _, some_eq _ ?_, ?_, some_eq _ ?_, ?_, ?_, ?_, ?_, ?_, ?_⟩
      <;> decide +kernel
  · refine ⟨(wAllocR (wOp 0x12 [0, 4]) (wRegion)), 1, _, _, some_eq _ ?_, ?_, some_eq _ ?_, ?_, ?_, ?_, ?_, ?_, ?_⟩
      <;> decide +kernel
  · refine ⟨(wAllocR (wOp 0x12 [0, 1]) ({ wRegion with shrinking := 7 })), 1, _, _, some_eq _ ?_, ?_, some_eq _ ?_,
      ?_, ?_, ?_, ?_, ?_⟩ <;> decide +kernel
  · refine ⟨(wAllocR (wOp 0x13 [0, 0x200, 0x200]) (wRegion)), 1, _, _, some_eq _ ?_, ?_, some_eq _ ?_, ?_, ?_, ?_,
      ?_, ?_, ?_, ?_, ?_, ?_⟩ <;> decide +kernel
  · refine ⟨(wf (wAllocR (wOp 0x13 [0, 1, 1]) ({ wRegion with reserve := true, dramUnits := true, defaultSc := 3 }))
      (ra pgDIR 0x110) 0 2 1), 1, _, _, some_eq _ ?_, ?_, some_eq _ ?_, ?_, ?_, ?_, ?_, ?_, ?_, ?_, ?_, ?_, ?_⟩ <;>
      decide +kernel
  · refine ⟨(wAllocR (wOp 0x14 [0, 1]) (wRegion)), 1, _, _, some_eq _ ?_, ?_, some_eq _ ?_, ?_, ?_⟩ <;>
      decide +kernel
  · refine ⟨(wAllocR (wOp 0x14 [0, 1]) ({ wRegion with residency := 1, reserve := true, dramUnits := true, defaultSc
                                                         := 3 })), 1, _, _, some_eq _ ?_, ?_, some_eq _ ?_, ?_, ?_,
      ?_, ?_, ?_, ?_⟩ <;> decide +kernel
  · refine ⟨(wAllocR (wOp 0x15 [0]) (wRegion)), 1, _, _, some_eq _ ?_, ?_, some_eq _ ?_, ?_, ?_, ?_⟩ <;>
      decide +kernel
  · refine ⟨(wAllocR (wOp 0x15 [0]) ({ wRegion with residency := 1, reserve := true, dramUnits := true, defaultSc :=
                                                      3 })), 1, _, _, some_eq _ ?_, ?_, some_eq _ ?_, ?_, ?_, ?_,
      ?_⟩ <;> decide +kernel

/-- The hypotheses of PublishMakesTheStagedVersionLive can be met, clause by clause. -/
theorem meets_PublishMakesTheStagedVersionLive :
    (∃ (s : State) (h : Nat) (o : Op) (r : Region) (v : Staging), ready s h 0x16 = some o ∧ allocTurn s h = true ∧
      regionOf s (opnd o 0x10 4) = some r ∧ r.dom = o.dom ∧ r.freeing = false ∧ r.versioned = true ∧ bitN (opnd o
      0x14 4) 0 = false ∧ opnd o 0x18 4 = r.version ∧ stagingOf s (opnd o 0x10 4 % 65536) o.owner = some v) ∧
    (∃ (s : State) (h : Nat) (o : Op) (r : Region), ready s h 0x16 = some o ∧ allocTurn s h = true ∧ regionOf s
      (opnd o 0x10 4) = some r ∧ r.dom = o.dom ∧ r.freeing = false ∧ r.versioned = true ∧ bitN (opnd o 0x14 4) 0 =
      false ∧ opnd o 0x18 4 = r.version ∧ stagingOf s (opnd o 0x10 4 % 65536) o.owner = none) ∧
    (∃ (s : State) (h : Nat) (o : Op) (r : Region) (v : Staging), ready s h 0x16 = some o ∧ allocTurn s h = true ∧
      regionOf s (opnd o 0x10 4) = some r ∧ r.dom = o.dom ∧ r.freeing = false ∧ r.versioned = true ∧ bitN (opnd o
      0x14 4) 0 = true ∧ stagingOf s (opnd o 0x10 4 % 65536) o.owner = some v) ∧
    (∃ (s : State) (h : Nat) (o : Op) (r : Region), ready s h 0x16 = some o ∧ allocTurn s h = true ∧ regionOf s
      (opnd o 0x10 4) = some r ∧ r.dom = o.dom ∧ r.freeing = false ∧ r.versioned = true ∧ bitN (opnd o 0x14 4) 0 =
      true ∧ stagingOf s (opnd o 0x10 4 % 65536) o.owner = none) ∧
    (∃ (s : State) (region : Nat) (version : Nat) (v : OldVersion), (s.alloc.old.find? fun v => v.region = region &&
      v.version = version) = some v ∧ (s.cmd.tiles.any fun t => t.eng.isSome && decide (t.serial < v.serial)) =
      false) := by
  and_intros
  · refine ⟨{ wAllocR (wOp 0x16 [0, 0, 1]) { wRegion with versioned := true } with alloc := { (wAllocR (wOp 0x16 [0, 0, 1]) { wRegion with versioned := true }).alloc with staging := [{ region := 0,
                                                                                                                                                                                         ident := 1,
                                                                                                                                                                                         key := 1,
                                                                                                                                                                                         subs := [],
                                                                                                                                                                                         pages := [] }] } },
      1, _, _, _, some_eq _ ?_, ?_, some_eq _ ?_, ?_, ?_, ?_, ?_, ?_, some_eq _ ?_⟩ <;> decide +kernel
  · refine ⟨(wAllocR (wOp 0x16 [0, 0, 1]) ({ wRegion with versioned := true })), 1, _, _, some_eq _ ?_, ?_, some_eq
      _ ?_, ?_, ?_, ?_, ?_, ?_, ?_⟩ <;> decide +kernel
  · refine ⟨{ wAllocR (wOp 0x16 [0, 1, 0]) { wRegion with versioned := true } with alloc := { (wAllocR (wOp 0x16 [0, 1, 0]) { wRegion with versioned := true }).alloc with staging := [{ region := 0,
                                                                                                                                                                                         ident := 1,
                                                                                                                                                                                         key := 1,
                                                                                                                                                                                         subs := [],
                                                                                                                                                                                         pages := [] }] } },
      1, _, _, _, some_eq _ ?_, ?_, some_eq _ ?_, ?_, ?_, ?_, ?_, some_eq _ ?_⟩ <;> decide +kernel
  · refine ⟨(wAllocR (wOp 0x16 [0, 1, 0]) ({ wRegion with versioned := true })), 1, _, _, some_eq _ ?_, ?_, some_eq
      _ ?_, ?_, ?_, ?_, ?_, ?_⟩ <;> decide +kernel
  · refine ⟨{ wServ with alloc := { wServ.alloc with old := [{ region := 3, version := 2, key := 1, serial := 5,
                                                               subs := [], pages := [] }] } }, 3, 2, { region := 3,
                                                                                                       version := 2,
                                                                                                       key := 1,
                                                                                                       serial := 5,
                                                                                                       subs := [],
                                                                                                       pages := [] },
      ?_, ?_⟩ <;> decide +kernel

/-- The hypotheses of AllocatorCompletionsAct can be met, clause by clause. -/
theorem meets_AllocatorCompletionsAct :
    (∃ (s : State) (h : Nat) (o : Op) (r : Region), opOf s h = some o ∧ regionOf s (opnd o 0x10 4) = some r ∧
      o.opcode = 0x11 ∧ o.phase = .running ∧ freeReady s h r.dom r.force r.freedAt r.base (spanOf r) = true ∧
      noneCached (recallLines s (lineIn r.base r.max) true) (lineIn r.base r.max) = true) ∧
    (∃ (s : State) (h : Nat) (o : Op) (r : Region), opOf s h = some o ∧ o.opcode = 0x12 ∧ o.phase = .running ∧ o.aux
      ≠ [1] ∧ regionOf s (opnd o 0x10 4) = some r ∧ r.shrinking = h ∧ freeReady s h r.dom r.shrinkForce r.shrinkAt
      (r.base + r.shrinkTo) (r.size - r.shrinkTo) = true ∧ noneCached (recallLines s (lineIn (r.base + r.shrinkTo)
      (r.size - r.shrinkTo)) true) (lineIn (r.base + r.shrinkTo) (r.size - r.shrinkTo)) = true) ∧
    (∃ (s : State) (h : Nat) (o : Op) (r : Region), opOf s h = some o ∧ o.aux = [1] ∧ o.phase = .running ∧ (before s
      h).any (fun x => waitingResize s x && decide (namedRegion s x = namedRegion s h)) = false ∧ regionOf s (opnd o
      0x10 4) = some r ∧ r.freeing = false ∧ r.shrinking = 0 ∧ r.size < opnd o 0x14 4 ∧ opnd o 0x14 4 ≤ r.max) ∧
    (∃ (s : State) (h : Nat) (o : Op) (r : Region), opOf s h = some o ∧ o.opcode = 0x13 ∧ o.phase = .running ∧
      regionOf s (opnd o 0x10 4) = some r ∧ nth o.aux 1 0 = 0 ∧ (mirroring s = false ∨ nth o.aux 2 0 ≤ rd s (ra
      pgPAIR 0x10C))) ∧
    (∃ (s : State) (h : Nat) (o : Op), opOf s h = some o ∧ o.opcode = 0x13 ∧ o.phase = .running) ∧
    (∃ (s : State) (h : Nat) (o : Op) (r : Region), opOf s h = some o ∧ o.phase = .running ∧ o.aux.head? = some 2 ∧
      regionOf s (nth o.aux 1 0) = some r ∧ (regionOf (pinStep s (nth o.aux 1 0 % 65536)) (nth o.aux 1 0)).map
      (pinReady (pinStep s (nth o.aux 1 0 % 65536))) = some true) := by
  and_intros
  · refine ⟨(wAllocR ({ wOp 0x11 [0] with phase := .running }) ({ wRegion with freeing := true, freedBy := 1, force
                                                                                 := true })), 1, _, _, some_eq _ ?_,
      some_eq _ ?_, ?_, ?_, ?_, ?_⟩ <;> decide +kernel
  · refine ⟨(wAllocR ({ wOp 0x12 [0, 1] with phase := .running }) ({ wRegion with shrinking := 1, shrinkTo := 1,
                                                                                  force := true })), 1, _, _,
      some_eq _ ?_, ?_, ?_, ?_, some_eq _ ?_, ?_, ?_, ?_⟩ <;> decide +kernel
  · refine ⟨(wAllocR ({ wOp 0x12 [0, 8] with phase := .running, aux := [1] }) (wRegion)), 1, _, _, some_eq _ ?_, ?_,
      ?_, ?_, some_eq _ ?_, ?_, ?_, ?_, ?_⟩ <;> decide +kernel
  · refine ⟨(wAllocR ({ wOp 0x13 [0] with phase := .running }) (wRegion)), 1, _, _, some_eq _ ?_, ?_, ?_, some_eq _
      ?_, ?_, ?_⟩ <;> decide +kernel
  · refine ⟨(wSt { wOp 0x13 [0] with phase := .running }), 1, _, some_eq _ ?_, ?_, ?_⟩ <;> decide +kernel
  · refine ⟨(wAllocR ({ wOp 0x14 [0] with phase := .running, aux := [2, 0] }) ({ wRegion with residency := 1, size := 0 })),
      1, _, _, some_eq _ ?_, ?_, ?_, some_eq _ ?_, ?_⟩ <;> decide +kernel

/-- The hypotheses of TranslationCommandsAct can be met, clause by clause. -/
theorem meets_TranslationCommandsAct :
    (∃ (s : State) (h : Nat) (o : Op), ready s h 0x22 = some o ∧ fld (opnd o 0x10 4) 12 2 ≠ 3 ∧ (fld (opnd o 0x10 4)
      12 2 = 2 ∨ fld (ctxWord s (opnd o 0x10 4 % 4096)) 64 10 = o.dom) ∧ (fld (opnd o 0x10 4) 12 2 ≠ 2 ∨ isCp
      o.owner = true) ∧ (fld (opnd o 0x10 4) 12 2 ≠ 0 ∨ (opnd o 0x18 8 % 4096 = 0 ∧ opnd o 0x20 4 ≠ 0))) ∧
    (∃ (s : State) (h : Nat) (held : List (Nat × Nat)), tget s.xlt.invals h = some held ∧ (held.any fun t => (tileOf
      s t.1 t.2).isSome) = false) ∧
    (∃ (s : State) (id : Nat) (v : W32), isCp id = true) ∧
    (∃ (s : State) (id : Nat) (v : W32), isCp id = true) ∧
    (∃ (s : State) (core : Nat), core < 20 ∧ coreInService s core = true ∧ coreDealt s core = []) ∧
    (∃ (s : State) (core : Nat) (o : Op) (d : Tile), core < 20 ∧ coreInService s core = true ∧ coreDealt s core =
      [d] ∧ 0 < rf s (ra pgXLT 0x194) 0 5 ∧ opOf s d.op = some o) ∧
    (∃ (s : State) (w : Walk) (id : Nat) (l : Bytes), (s.xlt.walks.find? fun w => w.id = id) = some w ∧ viewOk
      w.view (((opOf s w.op).map Op.dom).getD (viewDom w.view)) = true ∧ viewHost w.view = true ∧ l.length = 64 ∧
      w.level = 0 ∧ entryPresent w.view (leNat ((l.drop (w.entry % 64)).take 8)) = true ∧ (w.write = false ∨
      entryWritable w.view (leNat ((l.drop (w.entry % 64)).take 8)) = true)) ∧
    (∃ (s : State) (w : Walk) (id : Nat) (l : Bytes), (s.xlt.walks.find? fun w => w.id = id) = some w ∧ viewOk
      w.view (((opOf s w.op).map Op.dom).getD (viewDom w.view)) = true ∧ viewHost w.view = true ∧ l.length = 64 ∧ 0
      < w.level ∧ entryPresent w.view (leNat ((l.drop (w.entry % 64)).take 8)) = false) ∧
    (∃ (s : State) (u : State) (w : Walk) (id : Nat) (l : Bytes) (ps : List Nat), (s.xlt.walks.find? fun w => w.id =
      id) = some w ∧ viewOk w.view (((opOf s w.op).map Op.dom).getD (viewDom w.view)) = true ∧ viewHost w.view =
      false ∧ userRead s { who := .walk w.id, req := none, dom := viewDom w.view, cls := 7 } (w.entry / 64 * 64) 64
      = .done (l, ps) u ∧ ps.any (· ≠ 0) = false) := by
  and_intros
  · refine ⟨(wSt (wOp 0x22 [0x1000])), 1, _, some_eq _ ?_, ?_, ?_, ?_, ?_⟩ <;> decide +kernel
  · refine ⟨{ State.reset with xlt := { invals := [(1, [])] } }, 1, _, some_eq _ ?_, ?_⟩ <;> decide +kernel
  · refine ⟨State.reset, 0x10, 5, ?_⟩; decide +kernel
  · refine ⟨State.reset, 0x14, 0, ?_⟩; decide +kernel
  · refine ⟨State.reset, 0, ?_, ?_, ?_⟩ <;> decide +kernel
  · refine ⟨(wf { wTileSt (wStream wSrc [] (wRec 0x20 5 0 0 0 0 0)) { wTile 0 0 0 with eng := none } with pending := [] }
      (ra pgXLT 0x194) 0 5 1), 0, _, { wTile 0 0 0 with eng := none }, ?_, ?_, ?_, ?_, some_eq _ ?_⟩ <;>
      decide +kernel
  · refine ⟨(wWalkSt true), _, 1, (natLe 8 1 ++ zeros 56), some_eq _ ?_, ?_, ?_, ?_, ?_, ?_, ?_⟩ <;> decide +kernel
  · refine ⟨(wWalkSt true 1), _, 1, (zeros 64), some_eq _ ?_, ?_, ?_, ?_, ?_, ?_⟩ <;> decide +kernel
  · refine ⟨(wWalkSt false), _, _, 1, _, _, some_eq _ ?_, ?_, ?_, go_pair _ ?_, ?_⟩ <;> decide +kernel

/-- The hypotheses of CoherenceRequestsReachTheHome can be met, clause by clause. -/
theorem meets_CoherenceRequestsReachTheHome :
    (∃ (s : State) (p : State) (a : State) (port : Nat) (sch : Nat) (pkt : Packet) (pl : Place), arrived s port pkt
      0x01 0 p ∧ sliceHeld s (homeSlice pkt.line) = false ∧ reqRefused p .rdShared pkt = some pl ∧ respSched p
      pkt.src 3 = some sch ∧ weirAdmit p pkt.src (fabricClass pkt.sc pl.reg) 64 [(sch, respBytes p .rdShared pkt)] =
      some a ∧ residencyOk p (fabricClass pkt.sc pl.reg) pl.reg (subRec p (viewSub p pl (0x100 + pkt.src)
      none)).state = true ∧ (subRec p (viewSub p pl (0x100 + pkt.src) none)).state ≠ 3) ∧
    (∃ (s : State) (p : State) (port : Nat) (pkt : Packet), arrived s port pkt 0x01 0 p ∧ sliceHeld s (homeSlice
      pkt.line) = false) ∧
    (∃ (s : State) (p : State) (a : State) (port : Nat) (sch : Nat) (pkt : Packet) (pl : Place), arrived s port pkt
      0x02 0 p ∧ sliceHeld s (homeSlice pkt.line) = false ∧ reqRefused p .rdOwn pkt = some pl ∧ respSched p pkt.src
      3 = some sch ∧ weirAdmit p pkt.src (fabricClass pkt.sc pl.reg) 64 [(sch, respBytes p .rdOwn pkt)] = some a ∧
      residencyOk p (fabricClass pkt.sc pl.reg) pl.reg (subRec p (viewSub p pl (0x100 + pkt.src) none)).state = true
      ∧ (subRec p (viewSub p pl (0x100 + pkt.src) none)).state ≠ 3) ∧
    (∃ (s : State) (p : State) (port : Nat) (pkt : Packet), arrived s port pkt 0x02 0 p ∧ sliceHeld s (homeSlice
      pkt.line) = false) ∧
    (∃ (s : State) (p : State) (a : State) (port : Nat) (sch : Nat) (pkt : Packet) (pl : Place), arrived s port pkt
      0x03 0 p ∧ sliceHeld s (homeSlice pkt.line) = false ∧ reqRefused p .upgrade pkt = some pl ∧ respSched p
      pkt.src 3 = some sch ∧ weirAdmit p pkt.src (fabricClass pkt.sc pl.reg) 64 [(sch, respBytes p .upgrade pkt)] =
      some a ∧ residencyOk p (fabricClass pkt.sc pl.reg) pl.reg (subRec p (viewSub p pl (0x100 + pkt.src)
      none)).state = true ∧ (subRec p (viewSub p pl (0x100 + pkt.src) none)).state ≠ 3) ∧
    (∃ (s : State) (p : State) (port : Nat) (pkt : Packet), arrived s port pkt 0x03 0 p ∧ sliceHeld s (homeSlice
      pkt.line) = false) ∧
    (∃ (s : State) (p : State) (a : State) (port : Nat) (sch : Nat) (pkt : Packet) (pl : Place), arrived s port pkt
      0x04 0 p ∧ sliceHeld s (homeSlice pkt.line) = false ∧ reqRefused p .rdOnce pkt = some pl ∧ respSched p pkt.src
      3 = some sch ∧ weirAdmit p pkt.src (fabricClass pkt.sc pl.reg) 64 [(sch, respBytes p .rdOnce pkt)] = some a ∧
      residencyOk p (fabricClass pkt.sc pl.reg) pl.reg (subRec p (viewSub p pl (0x100 + pkt.src) none)).state = true
      ∧ (subRec p (viewSub p pl (0x100 + pkt.src) none)).state ≠ 3) ∧
    (∃ (s : State) (p : State) (port : Nat) (pkt : Packet), arrived s port pkt 0x04 0 p ∧ sliceHeld s (homeSlice
      pkt.line) = false) ∧
    (∃ (s : State) (p : State) (a : State) (port : Nat) (sch : Nat) (pkt : Packet) (pl : Place), arrived s port pkt
      0x05 0 p ∧ sliceHeld s (homeSlice pkt.line) = false ∧ reqRefused p .wrOnce pkt = some pl ∧ respSched p pkt.src
      2 = some sch ∧ weirAdmit p pkt.src (fabricClass pkt.sc pl.reg) 64 [(sch, respBytes p .wrOnce pkt)] = some a ∧
      residencyOk p (fabricClass pkt.sc pl.reg) pl.reg (subRec p (viewSub p pl (0x100 + pkt.src) none)).state = true
      ∧ (subRec p (viewSub p pl (0x100 + pkt.src) none)).state ≠ 3) ∧
    (∃ (s : State) (p : State) (port : Nat) (pkt : Packet), arrived s port pkt 0x05 0 p ∧ sliceHeld s (homeSlice
      pkt.line) = false) ∧
    (∃ (p : State) (k : ReqKind) (port : Nat) (since : Nat) (pkt : Packet), reqRefused p k pkt = none) := by
  and_intros
  · refine ⟨(wHost (wReq 1 0)), ((popRx (wHost (wReq 1 0)) (0) (wReq 1 0)).getD State.reset), _, 0, _, (wReq 1 0),
      _, (by unfold arrived; decide +kernel), ?_, some_or _ wPlace ?_, some_eq _ ?_, some_state _ ?_, ?_, ?_⟩ <;>
      decide +kernel
  · refine ⟨(wRx (wPkt 1 0)), ((popRx (wRx (wPkt 1 0)) (0) (wPkt 1 0)).getD State.reset), 0, (wPkt 1 0), (by
      unfold arrived; decide +kernel), ?_⟩; decide +kernel
  · refine ⟨(wHost (wReq 2 0)), ((popRx (wHost (wReq 2 0)) (0) (wReq 2 0)).getD State.reset), _, 0, _, (wReq 2 0),
      _, (by unfold arrived; decide +kernel), ?_, some_or _ wPlace ?_, some_eq _ ?_, some_state _ ?_, ?_, ?_⟩ <;>
      decide +kernel
  · refine ⟨(wRx (wPkt 2 0)), ((popRx (wRx (wPkt 2 0)) (0) (wPkt 2 0)).getD State.reset), 0, (wPkt 2 0), (by
      unfold arrived; decide +kernel), ?_⟩; decide +kernel
  · refine ⟨(wHost (wReq 3 0)), ((popRx (wHost (wReq 3 0)) (0) (wReq 3 0)).getD State.reset), _, 0, _, (wReq 3 0),
      _, (by unfold arrived; decide +kernel), ?_, some_or _ wPlace ?_, some_eq _ ?_, some_state _ ?_, ?_, ?_⟩ <;>
      decide +kernel
  · refine ⟨(wHost (wReq 3 0)), ((popRx (wHost (wReq 3 0)) (0) (wReq 3 0)).getD State.reset), 0, (wReq 3 0), (by
      unfold arrived; decide +kernel), ?_⟩; decide +kernel
  · refine ⟨(wHost (wReq 4 0)), ((popRx (wHost (wReq 4 0)) (0) (wReq 4 0)).getD State.reset), _, 0, _, (wReq 4 0),
      _, (by unfold arrived; decide +kernel), ?_, some_or _ wPlace ?_, some_eq _ ?_, some_state _ ?_, ?_, ?_⟩ <;>
      decide +kernel
  · refine ⟨(wRx (wPkt 4 0)), ((popRx (wRx (wPkt 4 0)) (0) (wPkt 4 0)).getD State.reset), 0, (wPkt 4 0), (by
      unfold arrived; decide +kernel), ?_⟩; decide +kernel
  · refine ⟨(wHost (wReq 5 0)), ((popRx (wHost (wReq 5 0)) (0) (wReq 5 0)).getD State.reset), _, 0, _, (wReq 5 0),
      _, (by unfold arrived; decide +kernel), ?_, some_or _ wPlace ?_, some_eq _ ?_, some_state _ ?_, ?_, ?_⟩ <;>
      decide +kernel
  · refine ⟨(wRx (wPkt 5 0)), ((popRx (wRx (wPkt 5 0)) (0) (wPkt 5 0)).getD State.reset), 0, (wPkt 5 0), (by
      unfold arrived; decide +kernel), ?_⟩; decide +kernel
  · refine ⟨wServ, .rdOwn, 0, 0, (wReq 2 0), ?_⟩; decide +kernel

/-- The hypotheses of CoherenceDataAndAnswersAreAbsorbed can be met, clause by clause. -/
theorem meets_CoherenceDataAndAnswersAreAbsorbed :
    (∃ (s : State) (p : State) (port : Nat) (pkt : Packet) (t : Tran), arrived s port pkt 0x06 3 p ∧ tranOf p
      pkt.line = some t ∧ t.pull = true ∧ t.req.who = .fabric pkt.src ∧ t.req.tag = pkt.tag ∧ (permitted p pkt.src
      (pkt.line * 64) false true).isSome = true) ∧
    (∃ (s : State) (p : State) (port : Nat) (i : Nat) (pkt : Packet) (e : DirEntry), arrived s port pkt 0x1E 3 p ∧
      agentOf p pkt.src = some i ∧ dirOf p pkt.line = some e ∧ 2 ≤ e.state ∧ e.owner = i ∧ (permitted p pkt.src
      (pkt.line * 64) false true).isSome = true) ∧
    (∃ (s : State) (p : State) (port : Nat) (i : Nat) (pkt : Packet), arrived s port pkt 0x1E 3 p ∧ agentOf p
      pkt.src = some i ∧ dirOf p pkt.line = none) ∧
    (∃ (s : State) (p : State) (port : Nat) (i : Nat) (pkt : Packet) (e : DirEntry), arrived s port pkt 0x18 2 p ∧
      agentOf p pkt.src = some i ∧ dirOf p pkt.line = some e ∧ (e.state = 1 ∨ (e.state = 4 ∧ e.owner ≠ i)) ∧
      e.sharers.getLsbD i = true) ∧
    (∃ (s : State) (p : State) (port : Nat) (i : Nat) (pkt : Packet) (e : DirEntry), arrived s port pkt 0x18 2 p ∧
      agentOf p pkt.src = some i ∧ dirOf p pkt.line = some e ∧ e.state = 2 ∧ e.owner = i ∧ e.opened = false) ∧
    (∃ (s : State) (p : State) (port : Nat) (i : Nat) (pkt : Packet), arrived s port pkt 0x14 2 p ∧ agentOf p
      pkt.src = some i) ∧
    (∃ (s : State) (p : State) (port : Nat) (i : Nat) (pkt : Packet), arrived s port pkt 0x15 2 p ∧ agentOf p
      pkt.src = some i ∧ (p.pair.took = false ∨ awaits p pkt.line i = true)) ∧
    (∃ (s : State) (p : State) (port : Nat) (i : Nat) (pkt : Packet), arrived s port pkt 0x16 2 p ∧ agentOf p
      pkt.src = some i) ∧
    (∃ (s : State) (p : State) (port : Nat) (i : Nat) (pkt : Packet), arrived s port pkt 0x17 2 p ∧ agentOf p
      pkt.src = some i) ∧
    (∃ (s : State) (p : State) (port : Nat) (i : Nat) (pkt : Packet), arrived s port pkt 0x1F 3 p ∧ agentOf p
      pkt.src = some i ∧ (p.pair.took = false ∨ awaits p pkt.line i = true)) := by
  and_intros
  · refine ⟨(let s := wHost (wReq 6 3); { s with dir := { s.dir with trans := [(wLine, { req := { kind := .wrOnce, who := .fabric 5, tag := 0, sc := 3, line := wLine, start := 0 }, pull := true })] } }), ((popRx ((let s := wHost (wReq 6 3); { s with dir := { s.dir with trans := [(wLine, { req := { kind := .wrOnce, who := .fabric 5, tag := 0, sc := 3, line := wLine, start := 0 }, pull := true })] } })) (0) (wReq 6 3)).getD State.reset), 0, (wReq 6 3), _, (by unfold arrived; decide +kernel), some_eq _ ?_, ?_, ?_, ?_, ?_⟩ <;> decide +kernel
  · refine ⟨(let s := wHost (wReq 30 3); { s with dir := { s.dir with entries := [(wLine, { state := 3, owner := 0 })] } }), ((popRx ((let s := wHost (wReq 30 3); { s with dir := { s.dir with entries := [(wLine, { state := 3, owner := 0 })] } })) (0) (wReq 0x1E 3)).getD State.reset), 0, _, (wReq 0x1E 3), _, (by unfold arrived; decide +kernel), some_eq _ ?_, some_eq _ ?_, ?_, ?_, ?_⟩ <;> decide +kernel
  · refine ⟨(wRxA (wPkt 30 3)), ((popRx (wRxA (wPkt 30 3)) (0) (wPkt 30 3)).getD State.reset), 0, _, (wPkt 30 3),
      (by unfold arrived; decide +kernel), some_eq _ ?_, ?_⟩ <;> decide +kernel
  · refine ⟨(let s := wHost (wReq 24 2); { s with dir := { s.dir with entries := [(wLine, { state := 1, sharers := 1 })] } }), ((popRx ((let s := wHost (wReq 24 2); { s with dir := { s.dir with entries := [(wLine, { state := 1, sharers := 1 })] } })) (0) (wReq 0x18 2)).getD State.reset), 0, _, (wReq 0x18 2), _, (by unfold arrived; decide +kernel), some_eq _ ?_, some_eq _ ?_, ?_, ?_⟩ <;> decide +kernel
  · refine ⟨(let s := wHost (wReq 24 2); { s with dir := { s.dir with entries := [(wLine, { state := 2, owner := 0 })] } }), ((popRx ((let s := wHost (wReq 24 2); { s with dir := { s.dir with entries := [(wLine, { state := 2, owner := 0 })] } })) (0) (wReq 0x18 2)).getD State.reset), 0, _, (wReq 0x18 2), _, (by unfold arrived; decide +kernel), some_eq _ ?_, some_eq _ ?_, ?_, ?_, ?_⟩ <;> decide +kernel
  · refine ⟨(wRxA (wPkt 20 2)), ((popRx (wRxA (wPkt 20 2)) (0) (wPkt 20 2)).getD State.reset), 0, _, (wPkt 20 2),
      (by unfold arrived; decide +kernel), some_eq _ ?_⟩; decide +kernel
  · refine ⟨(wRxA (wPkt 21 2)), ((popRx (wRxA (wPkt 21 2)) (0) (wPkt 21 2)).getD State.reset), 0, _, (wPkt 21 2),
      (by unfold arrived; decide +kernel), some_eq _ ?_, ?_⟩ <;> decide +kernel
  · refine ⟨(wRxA (wPkt 22 2)), ((popRx (wRxA (wPkt 22 2)) (0) (wPkt 22 2)).getD State.reset), 0, _, (wPkt 22 2),
      (by unfold arrived; decide +kernel), some_eq _ ?_⟩; decide +kernel
  · refine ⟨(wRxA (wPkt 23 2)), ((popRx (wRxA (wPkt 23 2)) (0) (wPkt 23 2)).getD State.reset), 0, _, (wPkt 23 2),
      (by unfold arrived; decide +kernel), some_eq _ ?_⟩; decide +kernel
  · refine ⟨(wRxA (wPkt 31 3)), ((popRx (wRxA (wPkt 31 3)) (0) (wPkt 31 3)).getD State.reset), 0, _, (wPkt 31 3),
      (by unfold arrived; decide +kernel), some_eq _ ?_, ?_⟩ <;> decide +kernel

/-- The hypotheses of HomeEventsAct can be met, clause by clause. -/
theorem meets_HomeEventsAct :
    (∃ (s : State) (line : Nat) (t : Tran), tranOf s line = some t ∧ t.done = true) ∧
    (∃ (s : State) (line : Nat) (i : Nat) (t : Tran), tranOf s line = some t ∧ ((t.waits.any fun w => w.agent = i) =
      true ∨ t.awaitWb = some i)) ∧
    (∃ (s : State) (u : State) (i : Nat), s.dir.sweeps.contains i = true ∧ u = (if (agent s i).answers then
      recallAgent s i else sweepSilent s i) ∧ (u.dir.entries.any fun e => entryNames e.2 i) = false ∧
      (u.dir.trans.any fun e => tranNames e.2 i) = false) ∧
    (∃ (s : State) (id : Nat) (v : W32), isFw id = true ∧ ((agent s (fld (ri s id (ra pgDIR 0x100)) 0 8)).valid =
      false ∨ (agent s (fld (ri s id (ra pgDIR 0x100)) 0 8)).fenced = true ∧ (agent s (fld (ri s id (ra pgDIR
      0x100)) 0 8)).sweepDone = true)) ∧
    (∃ (s : State) (id : Nat) (v : W32), isFw id = true ∧ (agent s (fld (ri s id (ra pgDIR 0x100)) 0 8)).valid =
      true ∧ (agent s (fld (ri s id (ra pgDIR 0x100)) 0 8)).fenced = false ∧ (fld v.toNat 0 12 ≠ (agent s (fld (ri s
      id (ra pgDIR 0x100)) 0 8)).eid ∨ v.toNat.testBit 12 = false)) ∧
    (∃ (s : State) (id : Nat) (i : Nat), isFw id = true ∧ i < 256 ∧ (agent s i).fenced = false) ∧
    (∃ (s : State) (id : Nat) (i : Nat), isFw id = true ∧ (agent s i).fenced = true) ∧
    (∃ (s : State) (id : Nat) (i : Nat), isFw id = true ∧ (agent s i).sweepDone = true) ∧
    (∃ (s : State) (id : Nat) (i : Nat), isFw id = true ∧ (agent s i).sweepDone = false) := by
  and_intros
  · refine ⟨(wTranSt { wTran with done := true }), 0, _, some_eq _ ?_, ?_⟩ <;> decide +kernel
  · refine ⟨(wTranSt { wTran with waits := [⟨3, 0x10⟩] }), 0, 3, _, some_eq _ ?_, ?_⟩ <;> decide +kernel
  · refine ⟨{ wAgents { eid := 5, valid := true, fenced := true } with dir := { (wAgents { eid := 5, valid := true,
                                                                                           fenced := true }).dir
                                                                                  with sweeps := [0] } }, _, 0, ?_,
      rfl, ?_, ?_⟩ <;> decide +kernel
  · refine ⟨State.reset, 2, 0x1005, ?_, ?_⟩ <;> decide +kernel
  · refine ⟨(wAgents { eid := 5, valid := true }), 2, 1, ?_, ?_, ?_, ?_⟩ <;> decide +kernel
  · refine ⟨State.reset, 2, 255, ?_, ?_, ?_⟩ <;> decide +kernel
  · refine ⟨(wAgents { eid := 5, valid := true, fenced := true, sweepDone := true }), 2, 0, ?_, ?_⟩ <;>
      decide +kernel
  · refine ⟨(wAgents { eid := 5, valid := true, fenced := true, sweepDone := true }), 2, 0, ?_, ?_⟩ <;>
      decide +kernel
  · refine ⟨State.reset, 2, 0, ?_, ?_⟩ <;> decide +kernel

/-- The hypotheses of WeirCommandsAct can be met, clause by clause. -/
theorem meets_WeirCommandsAct :
    (∃ (s : State) (k : Nat) (u : WUnit), nextUnit s k = some u) ∧
    (∃ (s : State) (u : State) (id : Nat) (port : Nat) (g : Nat) (v : W32), port ≤ 20 ∧ id ≠ 0 ∧ v.toNat.testBit 17
      = true ∧ g = writeFields false (rd s (ra pgWEIR (0x280 + 4 * port))) v.toNat [fRW 0 10 10 10 1000, fRW 10 7 0
      0 64, fW1C 19 1] ∧ u = wr s (ra pgWEIR (0x280 + 4 * port)) g ∧ gateListOk (shadowList u port (fld g 10 7))
      (fld g 0 10) = true) ∧
    (∃ (s : State) (u : State) (id : Nat) (port : Nat) (g : Nat) (v : W32), port ≤ 20 ∧ id ≠ 0 ∧ v.toNat.testBit 17
      = true ∧ g = writeFields false (rd s (ra pgWEIR (0x280 + 4 * port))) v.toNat [fRW 0 10 10 10 1000, fRW 10 7 0
      0 64, fW1C 19 1] ∧ u = wr s (ra pgWEIR (0x280 + 4 * port)) g ∧ gateListOk (shadowList u port (fld g 10 7))
      (fld g 0 10) = false) ∧
    (∃ (s : State) (port : Nat), (gate s port).window + 1 < (gate s port).active.length) ∧
    (∃ (s : State) (a : State) (h : Nat) (num : Nat) (o : Op) (t : Tile), serving s = true ∧ opOf s h = some o ∧
      tileOf s h num = some t ∧ t.admitted = false ∧ t.eng = none ∧ admitEn s = true ∧ scRate s (opClass o) ≠ 0 ∧
      weirAdmit s (qReq o.queue) (opClass o) 4096 [(24 + t.core / 5, 4096)] = some a) ∧
    (∃ (s : State) (h : Nat) (num : Nat) (o : Op) (t : Tile), serving s = true ∧ opOf s h = some o ∧ tileOf s h num
      = some t ∧ t.admitted = false ∧ t.eng = none ∧ admitEn s = true ∧ scRate s (opClass o) ≠ 0 ∧ weirAdmit s (qReq
      o.queue) (opClass o) 4096 [(24 + t.core / 5, 4096)] = none) := by
  and_intros
  · refine ⟨(wb { wServ with weir := { wServ.weir with scheds := [(20, { units := [{ cls := 3, len := 64 }] })] } }
      (ra pgCXLP 0x114) 0 true), 20, _, some_eq _ ?_⟩; decide +kernel
  · refine ⟨wServ, _, 2, 20, _, 0x20000, ?_, ?_, ?_, rfl, rfl, ?_⟩ <;> decide +kernel
  · refine ⟨{ wServ with weir := { wServ.weir with shadow := [(0, (5, 255))] } }, _, 2, 0, _, 0x20404, ?_, ?_, ?_,
      rfl, rfl, ?_⟩ <;> decide +kernel
  · refine ⟨{ wServ with weir := { wServ.weir with gates := [(3, { active := [(500, 255), (500, 255)] })] } }, 3,
      ?_⟩; decide +kernel
  · refine ⟨(wf (wf (wTileSt (wStream wSrc [] wSink) { wTile 0 0 0 with admitted := false, eng := none }) (ra pgWEIR
      0x118) 0 24 100000) (ra pgWEIR 0x180) 0 1 1), _, 1, 0, _, _, ?_, some_eq _ ?_, some_eq _ ?_, ?_, ?_, ?_, ?_,
      some_state _ ?_⟩ <;> decide +kernel
  · refine ⟨(wf (wf (wf (wTileSt (wStream wSrc [] wSink) { wTile 0 0 0 with admitted := false, eng := none }) (ra
      pgWEIR 0x118) 0 24 100000) (ra pgWEIR 0x180) 0 1 1) (ra pgWEIR 0x138) 0 20 0), 1, 0, _, _, ?_, some_eq _ ?_,
      some_eq _ ?_, ?_, ?_, ?_, ?_, ?_⟩ <;> decide +kernel

/-- The hypotheses of TierEventsAct can be met, clause by clause. -/
theorem meets_TierEventsAct :
    (∃ (s : State) (q : Nat), s.tier.fills.contains q = true ∧ (subRec s q).state = 2 ∧ (subRec s q).evicting =
      false) ∧
    (∃ (s : State) (q : Nat) (w : Nat), tget s.tier.releases q = some w ∧ (w = 0 ∨ (subRec (releaseCommit s q)
      w).state ≠ 1)) ∧
    (∃ (s : State) (q : Nat) (w : Nat), tget s.tier.releases q = some w ∧ w ≠ 0 ∧ (subRec (releaseCommit s q)
      w).state = 1) ∧
    (∃ (s : State) (t : State) (p : Nat), exec .epochEnd s = .next t) ∧
    (∃ (s : State) (q : Nat) (m : Move) (bad : BitVec 16), moveOf s q = some m ∧ m.kind = .promote ∧ (bad = 0 ∨
      m.reread = true)) ∧
    (∃ (s : State) (q : Nat) (m : Move) (bad : BitVec 16), moveOf s q = some m ∧ m.kind = .promote ∧ bad ≠ 0 ∧
      m.reread = false) ∧
    (∃ (s : State) (u : State) (v : State) (q : Nat) (on : Bool), on = (if s.tier.lehrOn then freeBelow s (rf s (ra
      pgTIER 0x108) 11 10) else freeBelow s (rf s (ra pgTIER 0x108) 1 10)) ∧ on = true ∧ u = { s with tier := { s.tier with lehrOn := on } }
      ∧ rb u (ra pgTIER 0x108) 0 = true ∧ (activeDrives u).isEmpty = false ∧ u.pair.audit = false ∧ serving u = true
      ∧ u.pair.pause = false ∧ u.pwr.warm ≠ 2 ∧ (rateOk u u.tier.lehrNext = true ∨ dramFree u = 0) ∧ lehrPick u =
      some q ∧ startDemote u .lehr q 0 = some v) ∧
    (∃ (s : State) (u : State) (q : Nat) (m : Move), moveOf s q = some m ∧ m.kind = .lehr ∧ m.asked = false ∧ u =
      writeMeta s m.sub m.dest ∧ (lineMirrored u (m.sub * 1024) = false ∨ mirroring u = false)) ∧
    (∃ (s : State) (q : Nat) (m : Move), moveOf s q = some m ∧ m.kind = .lehr) := by
  and_intros
  · refine ⟨{ wPool with tier := { wPool.tier with fills := [16384], subs := [(16384, { state := 2, frame := 3,
                                                                                        cache := 0 })] } }, 16384,
      ?_, ?_, ?_⟩ <;> decide +kernel
  · refine ⟨{ wPool with tier := { wPool.tier with releases := [(16384, 0)], subs := [(16384, { state := 2, frame := 3,
                                                                                                cache := 0 })] } },
      16384, _, some_eq _ ?_, ?_⟩ <;> decide +kernel
  · refine ⟨{ wPool with tier := { wPool.tier with releases := [(16384, 16385)], subs := [(16384, { state := 2,
                                                                                                    frame := 3,
                                                                                                    cache := 0 }),
                                                     (16385, { state := 1, frame := 4 })] } }, 16384, _, some_eq _
      ?_, ?_, ?_⟩ <;> decide +kernel
  · refine ⟨{ wPool with tier := { wPool.tier with fills := [16384], subs := [(16384, { state := 2, frame := 3,
                                                                                        cache := 0 })] } }, _, 0,
      out_eq _ ?_⟩; decide +kernel
  · refine ⟨(wMoveSt (wMove .promote)), 16384, _, 0, some_eq _ ?_, ?_, ?_⟩ <;> decide +kernel
  · refine ⟨(wMoveSt (wMove .promote)), 16384, _, 0x8000, some_eq _ ?_, ?_, ?_, ?_⟩ <;> decide +kernel
  · refine ⟨(wb (wDrive { wPool with tier := { wPool.tier with dramFrames := 1, dramUsed := [0] } }) (ra pgTIER
      0x108) 0 true), _, _, _, _, rfl, ?_, rfl, ?_, ?_, ?_, ?_, ?_, ?_, ?_, some_eq _ ?_, some_state _ ?_⟩ <;>
      decide +kernel
  · refine ⟨(wMoveSt (wMove .lehr)), _, 16384, _, some_eq _ ?_, ?_, ?_, rfl, ?_⟩ <;> decide +kernel
  · refine ⟨(wMoveSt (wMove .lehr)), 16384, _, some_eq _ ?_, ?_⟩ <;> decide +kernel

/-- The hypotheses of CisternEventsAct can be met, clause by clause. -/
theorem meets_CisternEventsAct :
    (∃ (s : State) (d : Nat) (f : Nat) (c : CisCmd), d < 16 ∧ f < 0x10000000 ∧ cisCmd s (d * 0x10000000 + f) = some
      c ∧ c.twice = false) ∧
    (∃ (s : State) (d : Nat) (f : Nat) (c : CisCmd), d < 16 ∧ f < 0x10000000 ∧ cisCmd s (d * 0x10000000 + f) = some
      c ∧ c.twice = true) ∧
    (∃ (s : State) (d : Nat), d < 16 ∧ drvState s d ≠ 0 ∧ drvState s d ≠ 4) ∧
    (∃ (s : State) (d : Nat), s.tier.preempt.contains d = true) ∧
    (∃ (s : State) (u : State) (id : Nat) (v : W32), u = wr s (ra pgCIS 0x100) (writeFields false (rd s (ra pgCIS
      0x100)) v.toNat [fRW 0 1, fRW 1 7 16 1 64, fRW 8 10 30 1 1000]) ∧ rb s (ra pgCIS 0x100) 0 = false ∧ rb u (ra
      pgCIS 0x100) 0 = true) ∧
    (∃ (s : State) (u : State) (id : Nat) (v : W32), u = wr s (ra pgCIS 0x100) (writeFields false (rd s (ra pgCIS
      0x100)) v.toNat [fRW 0 1, fRW 1 7 16 1 64, fRW 8 10 30 1 1000]) ∧ rb s (ra pgCIS 0x100) 0 = true ∧ rb u (ra
      pgCIS 0x100) 0 = false) ∧
    (∃ (s : State) (u : State) (id : Nat) (v : W32), u = wr s (ra pgCIS 0x100) (writeFields false (rd s (ra pgCIS
      0x100)) v.toNat [fRW 0 1, fRW 1 7 16 1 64, fRW 8 10 30 1 1000]) ∧ rb u (ra pgCIS 0x100) 0 = rb s (ra pgCIS
      0x100) 0) ∧
    (∃ (s : State) (h : Nat) (o : Op) (r : Region), ready s h 0x17 = some o ∧ regionOf s (opnd o 0x10 4) = some r ∧
      r.freeing = false ∧ r.dom = o.dom ∧ opnd o 0x18 4 ≠ 0 ∧ opnd o 0x14 4 + opnd o 0x18 4 ≤ r.size ∧ migTarget o ≠
      3 ∧ migGrain o ≠ 5 ∧ migGrain o ≠ 6 ∧ (migTarget o ≠ 2 ∨ (r.coherent = false ∧ r.residency = 0)) ∧ (migGrain o
      = 7 ∨ (opnd o 0x14 4 = 0 ∧ opnd o 0x18 4 = r.size)) ∧ o.askSusp = false) ∧
    (∃ (s : State) (h : Nat) (o : Op) (r : Region), ready s h 0x17 = some o ∧ regionOf s (opnd o 0x10 4) = some r ∧
      r.freeing = false ∧ r.dom = o.dom ∧ opnd o 0x18 4 ≠ 0 ∧ opnd o 0x14 4 + opnd o 0x18 4 ≤ r.size ∧ migTarget o ≠
      3 ∧ migGrain o ≠ 5 ∧ migGrain o ≠ 6 ∧ (migTarget o ≠ 2 ∨ (r.coherent = false ∧ r.residency = 0)) ∧ (migGrain o
      = 7 ∨ (opnd o 0x14 4 = 0 ∧ opnd o 0x18 4 = r.size)) ∧ o.askSusp = true) ∧
    (∃ (s : State) (h : Nat) (o : Op) (r : Region), opOf s h = some o ∧ o.opcode = 0x17 ∧ o.phase = .running ∧
      o.cancelled = false ∧ s.tier.moves.find? (fun m => m.op = h) = none ∧ regionOf s (opnd o 0x10 4) = some r ∧
      (migResults s h r).tier.moves.any (fun m => m.op = h) = false) ∧
    (∃ (s : State) (u : State) (v : State) (h : Nat) (o : Op) (m : Move) (r : Region), opOf s h = some o ∧ o.opcode
      = 0x17 ∧ o.phase = .running ∧ o.cancelled = false ∧ s.tier.moves.find? (fun m => m.op = h) = some m ∧ u = (if
      m.kind = .promote then promoteCommit s m 0 else demoteWritten s m) ∧ regionOf u (opnd o 0x10 4) = some r ∧ v =
      migResults u h r ∧ v.tier.moves.any (fun m => m.op = h) = false) ∧
    (∃ (s : State) (u : State) (v : State) (h : Nat) (o : Op) (m : Move) (r : Region), opOf s h = some o ∧ o.opcode
      = 0x17 ∧ o.phase = .suspending ∧ o.cancelled = false ∧ s.tier.moves.find? (fun m => m.op = h) = some m ∧ u =
      (if m.kind = .promote then promoteCommit s m 0 else demoteWritten s m) ∧ regionOf u (opnd o 0x10 4) = some r ∧
      v = migResults u h r ∧ v.tier.moves.any (fun m => m.op = h) = false) ∧
    (∃ (s : State) (u : State) (v : State) (h : Nat) (o : Op) (m : Move) (r : Region), opOf s h = some o ∧ o.opcode
      = 0x17 ∧ o.phase = .running ∧ o.cancelled = true ∧ s.tier.moves.find? (fun m => m.op = h) = some m ∧ u = (if
      m.kind = .promote then promoteCommit s m 0 else demoteWritten s m) ∧ regionOf u (opnd o 0x10 4) = some r ∧ v =
      migResults u h r ∧ v.tier.moves.any (fun m => m.op = h) = false) := by
  and_intros
  · refine ⟨(wMoveSt { wMove .lehr with dest := 0x20000004 }), 2, 4, _, ?_, ?_, some_or _ (.direct false) ?_, ?_⟩
      <;> decide +kernel
  · refine ⟨(wMoveSt { wMove .lehr with dest := 0x20000004, retried := true }), 2, 4, _, ?_, ?_, some_or _ (.direct
      false) ?_, ?_⟩ <;> decide +kernel
  · refine ⟨(wf State.reset (ra pgCIS (0x140 + 4 * 15)) 0 3 2), 15, ?_, ?_, ?_⟩ <;> decide +kernel
  · refine ⟨{ wPool with tier := { wPool.tier with preempt := [15] } }, 15, ?_⟩; decide +kernel
  · refine ⟨(wMoveSt (wMove .lehr)), _, 1, 1, rfl, ?_, ?_⟩ <;> decide +kernel
  · refine ⟨(wb wServ (ra pgCIS 0x100) 0 true), _, 2, 0x1E20, rfl, ?_, ?_⟩ <;> decide +kernel
  · refine ⟨(wMoveSt (wMove .lehr)), _, 0, 0, rfl, ?_⟩; decide +kernel
  · refine ⟨(wAllocR (wOp 0x17 [0, 0, 4, 0x1D]) wRegion), 1, _, _, some_eq _ ?_, some_eq _ ?_, ?_, ?_, ?_, ?_, ?_,
      ?_, ?_, ?_, ?_, ?_⟩ <;> decide +kernel
  · refine ⟨(wAllocR { wOp 0x17 [0, 0, 4, 0x1D] with askSusp := true } wRegion), 1, _, _, some_eq _ ?_, some_eq _
      ?_, ?_, ?_, ?_, ?_, ?_, ?_, ?_, ?_, ?_, ?_⟩ <;> decide +kernel
  · refine ⟨(wAllocR ({ wOp 0x17 [0, 0, 4, 0x1D] with phase := .running }) wRegion), 1, _, _, some_eq _ ?_, ?_, ?_,
      ?_, ?_, some_eq _ ?_, ?_⟩ <;> decide +kernel
  · refine ⟨{ wMoveSt { wMove .migrate with op := 1 } with cmd := { wPool.cmd with ops := [(1, { wOp 0x17 [0, 0, 4, 0x1D] with phase := .running })] } },
      _, _, 1, _, _, _, some_eq _ ?_, ?_, ?_, ?_, some_eq _ ?_, rfl, some_eq _ ?_, rfl, ?_⟩ <;> decide +kernel
  · refine ⟨{ wMoveSt { wMove .migrate with op := 1 } with cmd := { wPool.cmd with ops := [(1, { wOp 0x17 [0, 0, 4, 0x1D] with phase := .suspending })] } },
      _, _, 1, _, _, _, some_eq _ ?_, ?_, ?_, ?_, some_eq _ ?_, rfl, some_eq _ ?_, rfl, ?_⟩ <;> decide +kernel
  · refine ⟨{ wMoveSt { wMove .migrate with op := 1 } with cmd := { wPool.cmd with ops := [(1, { wOp 0x17 [0, 0, 4, 0x1D] with phase := .running,
                                                                                                                               cancelled := true })] } },
      _, _, 1, _, _, _, some_eq _ ?_, ?_, ?_, ?_, some_eq _ ?_, rfl, some_eq _ ?_, rfl, ?_⟩ <;> decide +kernel

/-- The hypotheses of QueueCommandsAct can be met, clause by clause. -/
theorem meets_QueueCommandsAct :
    (∃ (s : State) (id : Nat) (q : Nat) (v : W32), q < 256) ∧
    (∃ (s : State) (p : State) (port : Nat) (pkt : Packet), arrivedKind s port pkt 3 p ∧ pkt.queue < 256) ∧
    (∃ (s : State) (q : Nat) (e : Bytes), q < 256 ∧ serving s = true ∧ s.pair.pause = false ∧ s.pwr.warm ≠ 2 ∧ sqEn
      s q = true ∧ sqHead s q ≠ sqTail s q ∧ (cpsInService s).isEmpty = false ∧ turnOf s q = true ∧ sqHost s q =
      true ∧ e.length = 64 ∧ takeable s q e = true) ∧
    (∃ (s : State) (q : Nat), q < 256 ∧ serving s = true ∧ s.pair.pause = false ∧ s.pwr.warm ≠ 2 ∧ sqEn s q = true ∧
      sqHead s q ≠ sqTail s q ∧ (cpsInService s).isEmpty = false ∧ turnOf s q = true ∧ sqHost s q = true ∧ cqFree s
      (cqNum s q) = true) ∧
    (∃ (s : State) (u : State) (q : Nat) (e : Bytes) (ps : List Nat), q < 256 ∧ serving s = true ∧ s.pair.pause =
      false ∧ s.pwr.warm ≠ 2 ∧ sqEn s q = true ∧ sqHead s q ≠ sqTail s q ∧ (cpsInService s).isEmpty = false ∧ turnOf
      s q = true ∧ sqHost s q = false ∧ cqFree s (cqNum s q) = true ∧ userRead s { who := .fetch (2 ^ 41 + q), req
                                                                                     := some (qReq q), dom :=
                                                                                     qDomain s q, ident := qOwner s
                                                                                     q } (sqBase s q + 64 * sqHead s
      q) 64 = .done (e, ps) u ∧ ps.any (· ≠ 0) = false ∧ takeable (forgetSnoops u (.fetch (2 ^ 41 + q))) q e = true) ∧
    (∃ (s : State) (u : State) (id : Nat) (q : Nat) (v : W32), q < 256 ∧ sqEn s q = false ∧ u = wr s (ra (qPage q)
      0x108) (writeFields false (rd s (ra (qPage q) 0x108)) v.toNat [fRW 0 5 4 4 16, fRW 5 1, fRW 6 1, fRW 8 8]) ∧
      sqEn u q = true) ∧
    (∃ (s : State) (u : State) (id : Nat) (q : Nat) (v : W32), q < 256 ∧ sqEn s q = false ∧ u = wr s (ra (qPage q)
      0x108) (writeFields false (rd s (ra (qPage q) 0x108)) v.toNat [fRW 0 5 4 4 16, fRW 5 1, fRW 6 1, fRW 8 8]) ∧
      sqEn u q = false) ∧
    (∃ (s : State) (u : State) (id : Nat) (q : Nat) (v : W32), q < 256 ∧ sqEn s q = true ∧ u = wr s (ra (qPage q)
      0x108) (writeFields false (rd s (ra (qPage q) 0x108)) v.toNat [fRW 5 1, fRW 6 1, fRW 8 8])) ∧
    (∃ (s : State) (u : State) (id : Nat) (q : Nat) (v : W32), q < 256 ∧ cqEn s q = false ∧ u = wr s (ra (qPage q)
      0x11C) (writeFields false (rd s (ra (qPage q) 0x11C)) v.toNat [fRW 0 5 4 4 16, fRW 5 1, fRW 6 1, fW1C 7 1]) ∧
      cqEn u q = true) ∧
    (∃ (s : State) (u : State) (id : Nat) (q : Nat) (v : W32), q < 256 ∧ cqEn s q = false ∧ u = wr s (ra (qPage q)
      0x11C) (writeFields false (rd s (ra (qPage q) 0x11C)) v.toNat [fRW 0 5 4 4 16, fRW 5 1, fRW 6 1, fW1C 7 1]) ∧
      cqEn u q = false) ∧
    (∃ (s : State) (u : State) (id : Nat) (q : Nat) (v : W32), q < 256 ∧ cqEn s q = true ∧ u = wr s (ra (qPage q)
      0x11C) (writeFields false (rd s (ra (qPage q) 0x11C)) v.toNat [fRW 5 1, fRW 6 1, fW1C 7 1]) ∧ cqEn u q = true) ∧
    (∃ (s : State) (u : State) (id : Nat) (q : Nat) (v : W32), q < 256 ∧ cqEn s q = true ∧ u = wr s (ra (qPage q)
      0x11C) (writeFields false (rd s (ra (qPage q) 0x11C)) v.toNat [fRW 5 1, fRW 6 1, fW1C 7 1]) ∧ cqEn u q =
      false) ∧
    (∃ (s : State) (id : Nat) (q : Nat) (v : W32), q < 256) := by
  and_intros
  · refine ⟨(wRx (wPut 3)), 0, 0, 0, ?_⟩; decide +kernel
  · refine ⟨(wRx (wPut 3)), ((popRx (wRx (wPut 3)) (0) (wPut 3)).getD State.reset), 0, (wPut 3), (by
      unfold arrivedKind; decide +kernel), ?_⟩; decide +kernel
  · refine ⟨(wQueue true), 255, (natLe 1 0x05 ++ zeros 63), ?_, ?_, ?_, ?_, ?_, ?_, ?_, ?_, ?_, ?_, ?_⟩ <;>
      decide +kernel
  · refine ⟨(wf (wb (wQueue true) (ra (qPage 0) 0x11C) 6 true) (ra (qPage 0) 0x11C) 0 5 8), 255, ?_, ?_, ?_, ?_, ?_,
      ?_, ?_, ?_, ?_, ?_⟩ <;> decide +kernel
  · refine ⟨{ wf (wb (wQueue false) (ra (qPage 0) 0x11C) 6 true) (ra (qPage 0) 0x11C) 0 5 8 with mem := [(0x40000000, 5)] },
      _, 255, _, _, ?_, ?_, ?_, ?_, ?_, ?_, ?_, ?_, ?_, ?_, go_pair _ ?_, ?_, ?_⟩ <;> decide +kernel
  · refine ⟨State.reset, _, 1, 0, 0x44, ?_, ?_, rfl, ?_⟩ <;> decide +kernel
  · refine ⟨State.reset, _, 1, 255, 1, ?_, ?_, rfl, ?_⟩ <;> decide +kernel
  · refine ⟨(wQueue true), _, 0, 255, 0, ?_, ?_, rfl⟩ <;> decide +kernel
  · refine ⟨State.reset, _, 1, 255, 0x50, ?_, ?_, rfl, ?_⟩ <;> decide +kernel
  · refine ⟨State.reset, _, 1, 255, 1, ?_, ?_, rfl, ?_⟩ <;> decide +kernel
  · refine ⟨(wb wServ (ra (qPage 255) 0x11C) 6 true), _, 2, 255, 0x40, ?_, ?_, rfl, ?_⟩ <;> decide +kernel
  · refine ⟨(wb wServ (ra (qPage 255) 0x11C) 6 true), _, 2, 255, 0, ?_, ?_, rfl, ?_⟩ <;> decide +kernel
  · refine ⟨State.reset, 1, 0, 7, ?_⟩; decide +kernel

/-- The hypotheses of OperationSetUpActs can be met, clause by clause. -/
theorem meets_OperationSetUpActs :
    (∃ (s : State) (h : Nat) (o : Op), ready s h 0x01 = some o ∧ leAt o.entry 8 8 % 256 = 0) ∧
    (∃ (s : State) (u : State) (w : State) (v : State) (h : Nat) (o : Op) (x : Op) (d : Bytes), opOf s h = some o ∧
      o.phase = .fetching ∧ ctxUsable s o (qDescCtx s o.queue) = true ∧ opRead h o (qDescCtx s o.queue) (leAt
      o.entry 8 8) 256 s = .done d u ∧ x = { o with desc := d } ∧ w = modOp u h (fun y => { y with desc := d }) ∧
      chainOk w x = true ∧ ctxUsable w x (opCtx x) = true ∧ opN x ≠ 0 ∧ admitEn w = true ∧ scRate w (opClass x) ≠ 0
      ∧ (updates x).isEmpty = true ∧ beginRun h x w = .done () v) ∧
    (∃ (s : State) (u : State) (w : State) (h : Nat) (o : Op) (x : Op) (d : Bytes), opOf s h = some o ∧ o.phase =
      .fetching ∧ ctxUsable s o (qDescCtx s o.queue) = true ∧ opRead h o (qDescCtx s o.queue) (leAt o.entry 8 8) 256
      s = .done d u ∧ x = { o with desc := d } ∧ w = modOp u h (fun y => { y with desc := d }) ∧ chainOk w x = true
      ∧ ctxUsable w x (opCtx x) = true ∧ opN x ≠ 0 ∧ admitEn w = true ∧ scRate w (opClass x) ≠ 0 ∧ (updates
      x).isEmpty = false) ∧
    (∃ (s : State) (u : State) (v : State) (h : Nat) (o : Op) (bs : List (Nat × Bytes)), opOf s h = some o ∧ o.phase
      = .block ∧ readBlocks h o s = .done bs u ∧ bs.all (fun b => blockOkFor b.1 b.2) = true ∧ auxTotal o (middles
      o) (bs.map fun b => updateBytes b.2) ≤ 65536 ∧ beginRun h { o with block := bs.flatMap Prod.snd, coef :=
                                                                           bs.flatMap fun b => coefficients b.1 b.2 }
      (modOp u h fun x => { x with block := bs.flatMap Prod.snd, coef := bs.flatMap fun b => coefficients b.1 b.2 })
      = .done () v) := by
  and_intros
  · refine ⟨(wSt (wOp 1 [])), 1, _, some_eq _ ?_, ?_⟩ <;> decide +kernel
  · refine ⟨(wf (wb (wf (wb { wTileSt (wDescO) wMidT with mem := [(0x40000000, 1), (0x40000002, 0xFF), (0x40000003,
                                                            0x0F), (0x40000004, 3), (0x40000008, 1)] } (ra (qPage 0)
      0x12C) 23 true) (ra pgWEIR 0x10C) 0 24 1) (ra pgWEIR 0x180) 0 true) (ra (qPage 0) 0x130) 0 12 0xFFF), _, _, _,
      1, _, _, _, some_eq _ ?_, ?_, ?_, go_eq _ ?_, rfl, rfl, ?_, ?_, ?_, ?_, ?_, ?_, go_unit _ ?_⟩ <;>
      decide +kernel
  · refine ⟨(wf (wb (wf (wb { wTileSt (wDescO) wMidT with mem := [(0x40000000, 1), (0x40000001, 1), (0x40000002,
                                                            0xFF), (0x40000003, 0x0F), (0x40000004, 3), (0x40000008,
                                                            1), (0x40000040, 0x15), (0x40000042, 1), (0x4000004B,
                                                            0x40)] } (ra (qPage 0) 0x12C) 23 true) (ra pgWEIR 0x10C)
      0 24 1) (ra pgWEIR 0x180) 0 true) (ra (qPage 0) 0x130) 0 12 0xFFF), _, _, 1, _, _, _, some_eq _ ?_, ?_, ?_,
      go_eq _ ?_, rfl, rfl, ?_, ?_, ?_, ?_, ?_, ?_⟩ <;> decide +kernel
  · refine ⟨(wb { wTileSt ({ wStream wSrc [wRec 0x15 0 1 0 0 wVa 0] wSink with phase := .block }) wMidT with mem := [(0x4000001C, 1)] }
      (ra (qPage 0) 0x12C) 23 true), _, _, 1, _, _, some_eq _ ?_, ?_, go_eq _ ?_, ?_, ?_, go_unit _ ?_⟩ <;>
      decide +kernel

/-- The hypotheses of ControlCommandsAct can be met, clause by clause. -/
theorem meets_ControlCommandsAct :
    (∃ (s : State) (h : Nat) (k : Nat) (o : Op) (x : Op), ready s h 0x02 = some o ∧ target s o = some (k, x) ∧
      targetable x.opcode = true ∧ x.phase = .running ∧ x.cancelled = false) ∧
    (∃ (s : State) (h : Nat) (k : Nat) (o : Op) (x : Op), ready s h 0x02 = some o ∧ target s o = some (k, x) ∧
      targetable x.opcode = true ∧ x.phase = .suspended) ∧
    (∃ (s : State) (h : Nat) (k : Nat) (o : Op) (x : Op), ready s h 0x02 = some o ∧ target s o = some (k, x) ∧
      targetable x.opcode = true ∧ (x.phase = .suspending ∨ (x.phase = .running ∧ x.cancelled = true))) ∧
    (∃ (s : State) (h : Nat) (k : Nat) (o : Op) (x : Op), ready s h 0x02 = some o ∧ target s o = some (k, x) ∧
      targetable x.opcode = true ∧ x.phase ≠ .suspending ∧ x.phase ≠ .running ∧ x.phase ≠ .suspended) ∧
    (∃ (s : State) (v : State) (h : Nat) (o : Op), opOf s h = some o ∧ o.phase = .suspending ∧ (opTiles s h).isEmpty
      = true ∧ s.tier.moves.any (fun m => m.op = h) = false ∧ (o.opcode ≠ 0x01 ∨ o.arrival.isSome = true ∨
      o.committed < opN o) ∧ (o.arrival.map reductionClosed).getD false = false ∧ recordSettled s h = true ∧
      completeRun s h { o with cond := addCond o.cond stSuspended } false = .written v) ∧
    (∃ (s : State) (h : Nat) (k : Nat) (o : Op) (x : Op), ready s h 0x03 = some o ∧ target s o = some (k, x) ∧
      targetable x.opcode = true ∧ x.phase = .suspended ∧ cqFree s x.cq = true) ∧
    (∃ (s : State) (h : Nat) (k : Nat) (o : Op) (x : Op), ready s h 0x03 = some o ∧ target s o = some (k, x) ∧
      targetable x.opcode = true ∧ x.phase ≠ .suspended ∧ x.phase ≠ .suspending) ∧
    (∃ (s : State) (h : Nat) (k : Nat) (o : Op) (x : Op), ready s h 0x04 = some o ∧ target s o = some (k, x) ∧
      targetable x.opcode = true ∧ x.askSusp = false ∧ x.phase = .running ∧ x.opcode = 0x01) ∧
    (∃ (s : State) (h : Nat) (k : Nat) (o : Op) (x : Op), ready s h 0x04 = some o ∧ target s o = some (k, x) ∧
      targetable x.opcode = true ∧ x.askSusp = false ∧ x.phase = .suspended ∧ x.opcode ≠ 0x20) ∧
    (∃ (s : State) (h : Nat) (k : Nat) (o : Op) (x : Op), ready s h 0x04 = some o ∧ target s o = some (k, x) ∧
      targetable x.opcode = true ∧ x.askSusp = false ∧ (x.phase = .running ∨ x.phase = .suspended) ∧ x.opcode =
      0x20) ∧
    (∃ (s : State) (h : Nat) (k : Nat) (o : Op) (x : Op), ready s h 0x04 = some o ∧ target s o = some (k, x) ∧
      targetable x.opcode = true ∧ x.askSusp = false ∧ x.phase ≠ .running ∧ x.phase ≠ .suspended ∧ x.phase ≠
      .suspending) ∧
    (∃ (s : State) (h : Nat) (o : Op), ready s h 0x02 = some o ∧ target s o = none) ∧
    (∃ (s : State) (h : Nat) (o : Op), ready s h 0x03 = some o ∧ target s o = none) ∧
    (∃ (s : State) (h : Nat) (o : Op), ready s h 0x04 = some o ∧ target s o = none) ∧
    (∃ (s : State) (h : Nat) (o : Op), ready s h 0x05 = some o) ∧
    (∃ (s : State) (h : Nat) (o : Op), opOf s h = some o ∧ o.opcode = 0x05 ∧ o.phase = .running ∧ (s.cmd.ops.any fun
      e => earlier e.1 h && !e.2.wrote && (if (opnd o 0x10 1).testBit 0 then decide (e.2.dom = o.dom) else decide
      (e.2.queue = o.queue))) = false) ∧
    (∃ (s : State) (v : State) (w : State) (h : Nat) (o : Op), opOf s h = some o ∧ o.phase = .ending ∧ (opTiles s
      h).isEmpty = true ∧ tickAcked s o = true ∧ recordSettled s h = true ∧ completeRun s h o true = .written v ∧ w
      = (if (runBound v h o).1.cond.testBit 10 then count v (qPage o.queue) 9 1 else v)) ∧
    (∃ (s : State) (q : Nat), q < 256 ∧ 0 < (tgetD s.cmd.cqs q {}).accum ∧ rf s (ra (qPage q) 0x120) 12 2 ≠ 0 ∧ rf s
      (ra (qPage q) 0x120) 22 10 ≠ 0) := by
  and_intros
  · refine ⟨{ wPool with cmd := { wPool.cmd with ops := [(1, wOp 2 [2]), (2, { wStream wSrc [] wSink with phase := .running })] } },
      1, _, _, _, some_eq _ ?_, some_pair _ ?_, ?_, ?_, ?_⟩ <;> decide +kernel
  · refine ⟨{ wPool with cmd := { wPool.cmd with ops := [(1, wOp 2 [2]), (2, { wStream wSrc [] wSink with phase := .suspended })] } },
      1, _, _, _, some_eq _ ?_, some_pair _ ?_, ?_, ?_⟩ <;> decide +kernel
  · refine ⟨{ wPool with cmd := { wPool.cmd with ops := [(1, wOp 2 [2]), (2, { wStream wSrc [] wSink with phase := .suspending })] } },
      1, _, _, _, some_eq _ ?_, some_pair _ ?_, ?_, ?_⟩ <;> decide +kernel
  · refine ⟨{ wPool with cmd := { wPool.cmd with ops := [(1, wOp 2 [2]), (2, { wStream wSrc [] wSink with phase := .fetching })] } },
      1, _, _, _, some_eq _ ?_, some_pair _ ?_, ?_, ?_, ?_, ?_⟩ <;> decide +kernel
  · refine ⟨(wb (wf (wb (wSt { wOp 0x17 [0, 0, 4, 0x1D] with phase := .suspending }) (ra (qPage 0) 0x11C) 6 true)
      (ra (qPage 0) 0x11C) 0 5 8) (ra (qPage 0) 0x11C) 5 true), _, 1, _, some_eq _ ?_, ?_, ?_, ?_, ?_, ?_, ?_,
      cpl_eq _ ?_⟩ <;> decide +kernel
  · refine ⟨(wf (wb ({ wPool with cmd := { wPool.cmd with ops := [(1, wOp 3 [2]), (2, { wStream wSrc [] wSink with phase := .suspended })] } })
      (ra (qPage 0) 0x11C) 6 true) (ra (qPage 0) 0x11C) 0 5 8), 1, _, _, _, some_eq _ ?_, some_pair _ ?_, ?_, ?_,
      ?_⟩ <;> decide +kernel
  · refine ⟨{ wPool with cmd := { wPool.cmd with ops := [(1, wOp 3 [2]), (2, { wStream wSrc [] wSink with phase := .running })] } },
      1, _, _, _, some_eq _ ?_, some_pair _ ?_, ?_, ?_, ?_⟩ <;> decide +kernel
  · refine ⟨{ wPool with cmd := { wPool.cmd with ops := [(1, wOp 4 [2]), (2, { wStream wSrc [] wSink with phase := .running })] } },
      1, _, _, _, some_eq _ ?_, some_pair _ ?_, ?_, ?_, ?_, ?_⟩ <;> decide +kernel
  · refine ⟨{ wPool with cmd := { wPool.cmd with ops := [(1, wOp 4 [2]), (2, { wStream wSrc [] wSink with phase := .suspended })] } },
      1, _, _, _, some_eq _ ?_, some_pair _ ?_, ?_, ?_, ?_, ?_⟩ <;> decide +kernel
  · refine ⟨{ wPool with cmd := { wPool.cmd with ops := [(1, wOp 4 [2]), (2, { wOp 0x20 [] with phase := .running })] } },
      1, _, _, _, some_eq _ ?_, some_pair _ ?_, ?_, ?_, ?_, ?_⟩ <;> decide +kernel
  · refine ⟨{ wPool with cmd := { wPool.cmd with ops := [(1, wOp 4 [2]), (2, { wStream wSrc [] wSink with phase := .fetching })] } },
      1, _, _, _, some_eq _ ?_, some_pair _ ?_, ?_, ?_, ?_, ?_, ?_⟩ <;> decide +kernel
  · refine ⟨(wSt (wOp 2 [99])), 1, _, some_eq _ ?_, ?_⟩ <;> decide +kernel
  · refine ⟨(wSt (wOp 3 [99])), 1, _, some_eq _ ?_, ?_⟩ <;> decide +kernel
  · refine ⟨(wSt (wOp 4 [99])), 1, _, some_eq _ ?_, ?_⟩ <;> decide +kernel
  · refine ⟨(wSt (wOp 5 [])), 1, _, some_eq _ ?_⟩; decide +kernel
  · refine ⟨(wSt ({ wOp 5 [] with phase := .running })), 1, _, some_eq _ ?_, ?_, ?_, ?_⟩ <;> decide +kernel
  · refine ⟨(wb (wf (wb (wSt { wOp 0x17 [0, 0, 4, 0x1D] with phase := .ending }) (ra (qPage 0) 0x11C) 6 true) (ra
      (qPage 0) 0x11C) 0 5 8) (ra (qPage 0) 0x11C) 5 true), _, _, 1, _, some_eq _ ?_, ?_, ?_, ?_, ?_, cpl_eq _ ?_,
      rfl⟩ <;> decide +kernel
  · refine ⟨(wf (wf { wServ with cmd := { wServ.cmd with cqs := [(255, { accum := 1 })] } } (ra (qPage 255) 0x120)
      12 2 1) (ra (qPage 255) 0x120) 22 10 1), 255, ?_, ?_, ?_, ?_⟩ <;> decide +kernel

/-- The hypotheses of TilesAreDealtAssignedAndCommitted can be met, clause by clause. -/
theorem meets_TilesAreDealtAssignedAndCommitted :
    (∃ (s : State) (cl : Nat) (h : Nat) (c : Nat) (o : Op), cl < 4 ∧ s.pair.pause = false ∧ serving s = true ∧
      askingCore s cl = some c ∧ strandedBatch s cl = [] ∧ dealPick s cl = some (h, o)) ∧
    (∃ (s : State) (cl : Nat) (c : Nat), cl < 4 ∧ s.pair.pause = false ∧ serving s = true ∧ askingCore s cl = some c
      ∧ strandedBatch s cl ≠ []) ∧
    (∃ (s : State) (core : Nat) (e : Nat), core < 20 ∧ coreInService s core = true ∧ coreGated s core = false ∧
      s.pair.pause = false ∧ serving s = true ∧ freeEngine s core = some e) ∧
    (∃ (s : State) (u : State) (core : Nat) (e : Nat) (o : Op) (t : Tile) (w : Tile) (ts : List Tile), core < 20 ∧
      coreInService s core = true ∧ coreGated s core = false ∧ s.pair.pause = false ∧ serving s = true ∧ freeEngine
      s core = some e ∧ (coreDealt s core).filter (fun t => t.started) = t :: ts ∧ opOf s t.op = some o ∧ tileOf s
      t.op t.num = some w ∧ inEngines s t.op < opCap o ∧ translateTile t.op t.num o s = .done () u) ∧
    (∃ (s : State) (h : Nat) (num : Nat) (o : Op) (t : Tile), opOf s h = some o ∧ tileOf s h num = some t ∧
      t.eng.isNone = false ∧ t.stage = nstat o + 2 ∧ (tileMsgs s h num).isEmpty = true ∧ t.issued = true ∧
      tileWriting s h num = false) ∧
    (∃ (s : State) (u : State) (v : State) (h : Nat) (num : Nat) (o : Op) (t : Tile), opOf s h = some o ∧ tileOf s h
      num = some t ∧ t.eng.isNone = false ∧ t.stage = nstat o + 2 ∧ (tileMsgs s h num).isEmpty = true ∧ t.issued =
      false ∧ commitExtra ⟨o, t, recOf o (nstat o + 1)⟩ h num s = .done () u ∧ issueWrites o ((tileOf (forgetSnoops
      u (.tile h num)) h num).getD t) h (forgetSnoops u (.tile h num)) = .done () v ∧ tileWriting v h num = false) ∧
    (∃ (s : State) (u : State) (v : State) (h : Nat) (num : Nat) (o : Op) (t : Tile), opOf s h = some o ∧ tileOf s h
      num = some t ∧ t.eng.isNone = false ∧ t.stage = nstat o + 2 ∧ (tileMsgs s h num).isEmpty = true ∧ t.issued =
      false ∧ commitExtra ⟨o, t, recOf o (nstat o + 1)⟩ h num s = .done () u ∧ issueWrites o ((tileOf (forgetSnoops
      u (.tile h num)) h num).getD t) h (forgetSnoops u (.tile h num)) = .done () v ∧ tileWriting v h num = true) ∧
    (∃ (s : State) (h : Nat) (o : Op) (a : Arrival), opOf s h = some o ∧ o.arrival = some a ∧ (o.phase = .running ∨
      o.phase = .suspending) ∧ o.cancelled = false ∧ a.armed = true ∧ (opTiles s h).isEmpty = true ∧ reductionClosed
      a = true) ∧
    (∃ (s : State) (cl : Nat) (c : Nat) (r : Nat), cl < 4 ∧ substituting s cl = some c ∧ reserveCore s cl = some r) ∧
    (∃ (s : State) (cl : Nat) (c : Nat) (r : Nat), cl < 4 ∧ substituting s cl = some c ∧ reserveCore s cl = some r ∧
      coreGated s r = false) ∧
    (∃ (s : State) (cl : Nat) (c : Nat) (r : Nat), cl < 4 ∧ substituting s cl = some c ∧ reserveCore s cl = some r ∧
      coreGated s r = false) := by
  and_intros
  · refine ⟨(wSt ({ wStream wSrc [] wSink with desc := (natLe 2 1 ++ natLe 2 0xFFF ++ [3] ++ zeros 3 ++ natLe 4 20
                                                 ++ zeros 256).take 256 })), 0, _, _, _, ?_, ?_, ?_, some_eq _ ?_,
      ?_, some_pair _ ?_⟩ <;> decide +kernel
  · refine ⟨(wf (wTileSt ({ wStream wSrc [] wSink with desc := (natLe 2 1 ++ natLe 2 0xFFF ++ [3] ++ zeros 3 ++
                                                         natLe 4 20 ++ zeros 256).take 256 }) { wTile 0 0 0 with eng := none,
                                                                                                                 started := false })
      (coreReg 0) 0 2 2), 0, _, ?_, ?_, ?_, some_eq _ ?_, ?_⟩ <;> decide +kernel
  · refine ⟨(wSt ({ wStream wSrc [] wSink with desc := (natLe 2 1 ++ natLe 2 0xFFF ++ [3] ++ zeros 3 ++ natLe 4 20
                                                 ++ zeros 256).take 256 })), 0, _, ?_, ?_, ?_, ?_, ?_, some_eq _ ?_⟩
      <;> decide +kernel
  · refine ⟨(wTileSt (wStream wSrc [] (wRec 0x20 5 0 0 0 0 0)) { wTile 0 0 0 with eng := none }), _, 0, _, _, { wTile 0 0 0 with eng := none },
      _, [], ?_, ?_, ?_, ?_, ?_, some_eq _ ?_, ?_, some_eq _ ?_, some_eq _ ?_, ?_, go_unit _ ?_⟩ <;> decide +kernel
  · refine ⟨(wTileSt (wStream wSrc [] wSink) { wTile 2 0 0 with issued := true }), 1, 0, _, _, some_eq _ ?_, some_eq
      _ ?_, ?_, ?_, ?_, ?_, ?_⟩ <;> decide +kernel
  · refine ⟨(wTileSt (wStream wSrc [] (wRec 0x20 0 0 0 0 wVa 0)) ({ wTile 2 0 0 with writes := [⟨wVa, [1, 2], 0⟩] })),
      _, _, 1, 0, _, _, some_eq _ ?_, some_eq _ ?_, ?_, ?_, ?_, ?_, go_unit _ ?_, go_unit _ ?_, ?_⟩ <;>
      decide +kernel
  · refine ⟨{ wTileSt (wStream wSrc [] wSink) { wTile 2 0 0 with writes := [⟨wVa, [1, 2], 0⟩] } with dir := { wPool.dir with entries := [(wLine, { state := 3,
                                                                                                                                                   owner := 0 })],
                                                                                                                             agents := [(0, { eid := 5,
                                                                                                                                              valid := true })] } },
      _, _, 1, 0, _, _, some_eq _ ?_, some_eq _ ?_, ?_, ?_, ?_, ?_, go_unit _ ?_, go_unit _ ?_, ?_⟩ <;>
      decide +kernel
  · refine ⟨{ wPool with cmd := { wPool.cmd with ops := [(1, { wStream wSrc [] wSink with arrival := some { record := wVa,
                                                                                                            contribs := 1,
                                                                                                            tilesPer := 1,
                                                                                                            tileBytes := 64,
                                                                                                            expect := 1,
                                                                                                            mapPas := [wVa],
                                                                                                            mapOff := 0,
                                                                                                            eids := [],
                                                                                                            sparse := false,
                                                                                                            lands := [],
                                                                                                            hdrs := [],
                                                                                                            done := 1,
                                                                                                            folded := 1 } })] } },
      1, _, _, some_eq _ ?_, some_eq _ ?_, ?_, ?_, ?_, ?_, ?_⟩ <;> decide +kernel
  · refine ⟨(wf (wf wServ (coreReg 15) 0 2 3) (coreReg 19) 0 2 1), 3, _, _, ?_, some_eq _ ?_, some_eq _ ?_⟩ <;>
      decide +kernel
  · refine ⟨(wb (wf (wf wServ (coreReg 15) 0 2 3) (coreReg 19) 0 2 1) (coreReg 19) 9 false), 3, _, _, ?_, some_eq _
      ?_, some_eq _ ?_, ?_⟩ <;> decide +kernel
  · refine ⟨(wb (wf (wf wServ (coreReg 15) 0 2 3) (coreReg 19) 0 2 1) (coreReg 19) 9 false), 3, _, _, ?_, some_eq _
      ?_, some_eq _ ?_, ?_⟩ <;> decide +kernel

/-- The hypotheses of StationsAdvanceTheTile can be met, clause by clause. -/
theorem meets_StationsAdvanceTheTile :
    (∃ (s : State) (h : Nat) (num : Nat) (a : At) (p : Op → Tile → Bytes → Bool) (g : Tile → Tile) (n : Nat),
      stationAt s h num p = some a ∧ (g a.t).op = a.t.op ∧ (g a.t).num = a.t.num) ∧
    (∃ (s : State) (h : Nat) (num : Nat) (a : At) (h' : Nat) (num' : Nat) (p : Op → Tile → Bytes → Bool) (g : Tile →
      Tile) (n : Nat), stationAt s h num p = some a ∧ (∀ t, (g t).op = t.op ∧ (g t).num = t.num) ∧ (h' ≠ h ∨ num' ≠
      num)) := by
  and_intros
  · refine ⟨(wTileSt (wStream wSrc [wRec 0x10 0 0 0 0 0 0] wSink) (wMidT)), 1, 0, _, (isStation 0x10), id, 1,
      station_eq _ _ _ _ _ _ rfl rfl ?_, ?_, ?_⟩ <;> decide +kernel
  · refine ⟨(wTileSt (wStream wSrc [wRec 0x10 0 0 0 0 0 0] wSink) wMidT), 1, 0, _, 1, 1, (isStation 0x10), id, 1,
      station_eq _ _ _ _ _ _ rfl rfl ?_, (fun _ => ⟨rfl, rfl⟩), ?_⟩ <;> decide +kernel

/-- The hypotheses of SourceStationsAct can be met, clause by clause. -/
theorem meets_SourceStationsAct :
    (∃ (s : State) (h : Nat) (num : Nat) (a : At) (u : State) (d : Bytes × List (Nat × Nat × Nat)), stationAt s h
      num (fun o t r => isMode 0x01 0 o t r && decide (t.stage = 0)) = some a ∧ isMx (srcShape a.o).fmt = false ∧
      sourceRead a h num (rangeVa a.r 3 (srcShape a.o).bytes num) (srcShape a.o).bytes s = .done d u) ∧
    (∃ (s : State) (h : Nat) (num : Nat) (a : At) (u : State) (v : State) (d : Bytes × List (Nat × Nat × Nat)) (e :
      Bytes × List (Nat × Nat × Nat)), stationAt s h num (fun o t r => isMode 0x01 0 o t r && decide (t.stage = 0))
      = some a ∧ isMx (srcShape a.o).fmt = true ∧ sourceRead a h num (rangeVa a.r 3 (srcShape a.o).bytes num)
      (srcShape a.o).bytes s = .done d u ∧ sourceRead a h num (scaleVa a.r (srcShape a.o).e num) ((srcShape a.o).e /
      32) u = .done e v) ∧
    (∃ (s : State) (h : Nat) (num : Nat) (a : At) (u : State) (v : State) (ix : Bytes) (ps : List (Bytes × List (Nat
      × Nat × Nat))), stationAt s h num (fun o t r => isMode 0x01 1 o t r && decide (t.stage = 0)) = some a ∧
      tileEat h num (par a.r 16 8 + 4 * (num * (4096 / gatherRow a.r))) (4 * (4096 / gatherRow a.r)) s = .done ix u
      ∧ gatherRows a h num (indexList ix) u = .done ps v) ∧
    (∃ (s : State) (h : Nat) (num : Nat) (a : At) (u : State) (v : State) (hb : Bytes) (body : Bytes), stationAt s h
      num (fun o t r => isMode 0x01 2 o t r && decide (t.stage = 0)) = some a ∧ tileEat h num (headerVa a.r (parBits
      a.r 3 4 1 = 1) num) 16 s = .done hb u ∧ headerOk (leNat hb) (par a.r 2 1) = true ∧ tileEat h num (par a.r 16 8
      + if parBits a.r 3 4 1 = 1 then 64 * fld (leNat hb) 64 32 else 4096 * num) (64 * fld (leNat hb) 106 7) u =
      .done body v ∧ (chunks 64 65 body).all (blockOk (par a.r 2 1) (fld (leNat hb) 104 2)) = true) ∧
    (∃ (s : State) (h : Nat) (num : Nat) (a : At), stationAt s h num (fun o t r => isMode 0x02 0 o t r && decide
      (t.stage = 0)) = some a) ∧
    (∃ (s : State) (h : Nat) (num : Nat) (a : At), stationAt s h num (fun o t r => isMode 0x02 1 o t r && decide
      (t.stage = 0)) = some a) ∧
    (∃ (s : State) (h : Nat) (num : Nat) (a : At), stationAt s h num (fun o t r => isMode 0x02 2 o t r && decide
      (t.stage = 0)) = some a) := by
  and_intros
  · refine ⟨{ wTileSt (wStream (wRec 1 0 0 0 0 wVa 0) [] wSink) (wTile 0 0 0) with mem := [] }, 1, 0, _, _, _,
      station_eq _ _ _ _ _ _ rfl rfl ?_, ?_, go_eq _ ?_⟩ <;> decide +kernel
  · refine ⟨(wTileSt (wStream (wRec 1 0 9 1 0 wVa wVa) [] wSink) (wTile 0 0 0)), 1, 0, _, _, _, _, _, station_eq _ _
      _ _ _ _ rfl rfl ?_, ?_, go_eq _ ?_, go_eq _ ?_⟩ <;> decide +kernel
  · refine ⟨{ wTileSt (wStream (wRec 1 1 0 6 1 wVa wVa) [] wSink) (wTile 0 0 0) with mem := [] }, 1, 0, _, _, _, _,
      _, station_eq _ _ _ _ _ _ rfl rfl ?_, go_eq _ ?_, go_eq _ ?_⟩ <;> decide +kernel
  · refine ⟨{ wTileSt (wStream (wRec 1 2 0 0 0 wVa (wVa + 4096)) [] wSink) (wTile 0 0 0) with mem := [] }, 1, 0, _,
      _, _, _, _, station_eq _ _ _ _ _ _ rfl rfl ?_, go_eq _ ?_, ?_, go_eq _ ?_, ?_⟩ <;> decide +kernel
  · refine ⟨{ wTileSt (wStream (wRec 2 0 0 0 0 0 0) [] wSink) (wTile 0 0 0) with mem := [] }, 1, 0, _, station_eq _
      _ _ _ _ _ rfl rfl ?_⟩; decide +kernel
  · refine ⟨{ wTileSt (wStream (wRec 2 1 0 0 0 0 0) [] wSink) (wTile 0 0 0) with mem := [] }, 1, 0, _, station_eq _
      _ _ _ _ _ rfl rfl ?_⟩; decide +kernel
  · refine ⟨{ wTileSt (wStream (wRec 2 2 0 0 0 0 0) [] wSink) (wTile 0 0 0) with mem := [] }, 1, 0, _, station_eq _
      _ _ _ _ _ rfl rfl ?_⟩; decide +kernel

/-- The hypotheses of ElementStationsAct can be met, clause by clause. -/
theorem meets_ElementStationsAct :
    (∃ (s : State) (h : Nat) (num : Nat) (a : At), stationAt s h num (isStation 0x10) = some a) ∧
    (∃ (s : State) (h : Nat) (num : Nat) (a : At) (cs : List Nat) (sc : Bytes), stationAt s h num (isStation 0x11) =
      some a ∧ isMx (par a.r 1 1) = true ∧ convertMx (par a.r 1 1) (parBits a.r 2 1 1 = 1) ((indexed 0 (tileNums
      a.t)).map fun v => ((if (par a.r 4 4).testBit 31 && fpFinite (preScale a.r) && !a.t.occ.getLsbD (groupOf
      a.t.elems.length v.1) then .fin false 0 0 else scaled a.r false v.2), tileRnd a.o num v.1)) = (cs, sc)) ∧
    (∃ (s : State) (h : Nat) (num : Nat) (a : At), stationAt s h num (isStation 0x11) = some a ∧ isMx (par a.r 1 1)
      = false) ∧
    (∃ (s : State) (h : Nat) (num : Nat) (a : At), stationAt s h num (isMode 0x12 0) = some a) ∧
    (∃ (s : State) (h : Nat) (num : Nat) (a : At), stationAt s h num (isMode 0x12 1) = some a) ∧
    (∃ (s : State) (h : Nat) (num : Nat) (a : At) (u : State) (bs : Bytes) (rs : List (Nat × Nat × Nat)), stationAt
      s h num (isMode 0x12 2) = some a ∧ tileEat h num (par a.r 16 8 + 8 * (par a.r 3 1 * (num * (a.t.elems.length /
      par a.r 4 2)))) (8 * par a.r 3 1 * (a.t.elems.length / par a.r 4 2)) s = .done bs u ∧ rs = (indexed 0
      (unpackElems fmtPair bs)).map (fun x => (x.1 / par a.r 3 1, fld x.2.toNat 32 32, fld x.2.toNat 0 32)) ∧ rs.any
      (fun x => decide (x.2.1 ≠ 0xFFFFFFFF) && decide (par (recOf a.o (nstat a.o + 1)) 3 1 ≤ x.2.1)) = false) ∧
    (∃ (s : State) (h : Nat) (num : Nat) (a : At), stationAt s h num (isStation 0x16) = some a) ∧
    (∃ (s : State) (h : Nat) (num : Nat) (a : At) (b : Bool), stationAt s h num (isStation 0x17) = some a ∧ (par a.r
      1 1).testBit 4 = false ∧ (par a.r 1 1).testBit 3 = false ∧ b = (((par a.r 1 1).testBit 0 && (tileNums a.t).any
      numNan) || ((par a.r 1 1).testBit 1 && (tileNums a.t).any fun v =>
      match v with | .fp x => fpIsInf x | .int _ => false) || ((par a.r 1 1).testBit 2 && (tileNums a.t).any
      (rangeFails (toSigned 8 (par a.r 2 1)) (toSigned 8 (par a.r 3 1)))))) ∧
    (∃ (s : State) (h : Nat) (num : Nat) (a : At) (u : State) (b : Bool), stationAt s h num (isStation 0x17) = some
      a ∧ (par a.r 1 1).testBit 4 = true ∧ b = (((par a.r 1 1).testBit 0 && (tileNums a.t).any numNan) || ((par a.r
      1 1).testBit 1 && (tileNums a.t).any fun v => match v with | .fp x => fpIsInf x | .int _ => false) || ((par
      a.r 1 1).testBit 2 && (tileNums a.t).any (rangeFails (toSigned 8 (par a.r 2 1)) (toSigned 8 (par a.r 3 1)))))
      ∧ tilePut h num (par a.r 8 8 + 4 * num) (natLe 4 (code32 (residue (tileNums a.t) (isIntFmt a.t.fmt)).1)) s =
      .done () u) ∧
    (∃ (s : State) (h : Nat) (num : Nat) (a : At) (u : State) (b : Bool) (bs : Bytes) (sum : Fp) (mags : Fp),
      stationAt s h num (isStation 0x17) = some a ∧ (par a.r 1 1).testBit 4 = false ∧ (par a.r 1 1).testBit 3 = true
      ∧ b = (((par a.r 1 1).testBit 0 && (tileNums a.t).any numNan) || ((par a.r 1 1).testBit 1 && (tileNums
      a.t).any fun v => match v with | .fp x => fpIsInf x | .int _ => false) || ((par a.r 1 1).testBit 2 &&
      (tileNums a.t).any (rangeFails (toSigned 8 (par a.r 2 1)) (toSigned 8 (par a.r 3 1))))) ∧ tileEat h num (par
      a.r 8 8 + 4 * num) 4 s = .done bs u ∧ residue (tileNums a.t) (isIntFmt a.t.fmt) = (sum, mags)) := by
  and_intros
  · refine ⟨(wTileSt (wStream wSrc [wRec 0x10 0 0 0 0 0 0] wSink) (wMidT)), 1, 0, _, station_eq _ _ _ _ _ _ rfl rfl
      ?_⟩; decide +kernel
  · refine ⟨(wTileSt (wStream wSrc [wRec 0x11 0x09 0 0 0 0 0] wSink) (wMidT)), 1, 0, _, _, _, station_eq _ _ _ _ _ _
      rfl rfl ?_, ?_, pair_of _⟩ <;> decide +kernel
  · refine ⟨(wTileSt (wStream wSrc [wRec 0x11 1 0 0 0 0 0] wSink) (wMidT)), 1, 0, _, station_eq _ _ _ _ _ _ rfl rfl
      ?_, ?_⟩ <;> decide +kernel
  · refine ⟨(wTileSt (wStream wSrc [wRec 0x12 0 0 0 0 0 0] wSink) (wMidT)), 1, 0, _, station_eq _ _ _ _ _ _ rfl rfl
      ?_⟩; decide +kernel
  · refine ⟨(wTileSt (wStream wSrc [wRec 0x12 1 0 1 16 0 0] wSink) (wMidT)), 1, 0, _, station_eq _ _ _ _ _ _ rfl rfl
      ?_⟩; decide +kernel
  · refine ⟨(wTileSt (wStream (wSrc) [wRec 0x12 2 0 1 16 0 wVa] (wRec 0x20 4 0 1 0 wVa 0)) (wMidT)), 1, 0, _, _, _,
      _, station_eq _ _ _ _ _ _ rfl rfl ?_, go_eq _ ?_, rfl, ?_⟩ <;> decide +kernel
  · refine ⟨(wTileSt (wStream wSrc [wRec 0x16 0 0 0 0 0 0] wSink) (wMidT)), 1, 0, _, station_eq _ _ _ _ _ _ rfl rfl
      ?_⟩; decide +kernel
  · refine ⟨(wTileSt (wStream wSrc [wRec 0x17 0 0 0 0 0 0] wSink) (wMidT)), 1, 0, _, _, station_eq _ _ _ _ _ _ rfl
      rfl ?_, ?_, ?_, rfl⟩ <;> decide +kernel
  · refine ⟨(wTileSt (wStream (wSrc) [wRec 0x17 16 0 0 0 wVa 0] (wSink)) (wMidT)), 1, 0, _, _, _, station_eq _ _ _ _
      _ _ rfl rfl ?_, ?_, rfl, go_unit _ ?_⟩ <;> decide +kernel
  · refine ⟨(wTileSt (wStream (wSrc) [wRec 0x17 8 0 0 0 wVa 0] (wSink)) (wMidT)), 1, 0, _, _, _, _, _, _, station_eq
      _ _ _ _ _ _ rfl rfl ?_, ?_, ?_, rfl, go_eq _ ?_, pair_of _⟩ <;> decide +kernel

/-- The hypotheses of ArithmeticStationsAct can be met, clause by clause. -/
theorem meets_ArithmeticStationsAct :
    (∃ (s : State) (h : Nat) (num : Nat) (a : At) (u : State) (bs : Bytes), stationAt s h num (isMode 0x13 0) = some
      a ∧ tileEat h num (par a.r 16 8 + (combineB a.r num a.t.elems.length).1 * elemBits (par a.r 2 1) / 8) (ceilDiv
      (((combineB a.r num a.t.elems.length).1 * elemBits (par a.r 2 1) % 8 / elemBits (par a.r 2 1) + (combineB a.r
      num a.t.elems.length).2) * elemBits (par a.r 2 1)) 8) s = .done bs u) ∧
    (∃ (s : State) (h : Nat) (num : Nat) (a : At) (u : State) (bs : Bytes), stationAt s h num (isMode 0x13 1) = some
      a ∧ tileEat h num (par a.r 16 8 + (combineB a.r num a.t.elems.length).1 * elemBits (par a.r 2 1) / 8) (ceilDiv
      (((combineB a.r num a.t.elems.length).1 * elemBits (par a.r 2 1) % 8 / elemBits (par a.r 2 1) + (combineB a.r
      num a.t.elems.length).2) * elemBits (par a.r 2 1)) 8) s = .done bs u) ∧
    (∃ (s : State) (h : Nat) (num : Nat) (a : At) (u : State) (bs : Bytes), stationAt s h num (isMode 0x13 2) = some
      a ∧ tileEat h num (par a.r 16 8 + (combineB a.r num a.t.elems.length).1 * elemBits (par a.r 2 1) / 8) (ceilDiv
      (((combineB a.r num a.t.elems.length).1 * elemBits (par a.r 2 1) % 8 / elemBits (par a.r 2 1) + (combineB a.r
      num a.t.elems.length).2) * elemBits (par a.r 2 1)) 8) s = .done bs u) ∧
    (∃ (s : State) (h : Nat) (num : Nat) (a : At) (u : State) (bs : Bytes), stationAt s h num (isMode 0x13 3) = some
      a ∧ tileEat h num (par a.r 16 8 + (combineB a.r num a.t.elems.length).1 * elemBits (par a.r 2 1) / 8) (ceilDiv
      (((combineB a.r num a.t.elems.length).1 * elemBits (par a.r 2 1) % 8 / elemBits (par a.r 2 1) + (combineB a.r
      num a.t.elems.length).2) * elemBits (par a.r 2 1)) 8) s = .done bs u) ∧
    (∃ (s : State) (h : Nat) (num : Nat) (a : At) (u : State) (bs : Bytes), stationAt s h num (isMode 0x13 4) = some
      a ∧ tileEat h num (par a.r 16 8 + (combineB a.r num a.t.elems.length).1 * elemBits (par a.r 2 1) / 8) (ceilDiv
      (((combineB a.r num a.t.elems.length).1 * elemBits (par a.r 2 1) % 8 / elemBits (par a.r 2 1) + (combineB a.r
      num a.t.elems.length).2) * elemBits (par a.r 2 1)) 8) s = .done bs u) ∧
    (∃ (s : State) (h : Nat) (num : Nat) (a : At) (u : State) (bs : Bytes), stationAt s h num (isMode 0x13 5) = some
      a ∧ tileEat h num (par a.r 16 8 + (combineB a.r num a.t.elems.length).1 * elemBits (par a.r 2 1) / 8) (ceilDiv
      (((combineB a.r num a.t.elems.length).1 * elemBits (par a.r 2 1) % 8 / elemBits (par a.r 2 1) + (combineB a.r
      num a.t.elems.length).2) * elemBits (par a.r 2 1)) 8) s = .done bs u) ∧
    (∃ (s : State) (h : Nat) (num : Nat) (a : At), stationAt s h num (isMode 0x13 6) = some a) ∧
    (∃ (s : State) (h : Nat) (num : Nat) (a : At) (u : State) (v : State) (w : State) (runs : List (List (Nat ×
      Nat))) (us : List Unit) (bad : Bool), stationAt s h num (fun o t r => isStation 0x14 o t r && decide (parBits
      r 1 0 2 = 0)) = some a ∧ goList (fun p s => tileRuns h num ((par a.r 8 8 + num % par a.r 4 4 * (tileNums
      a.t).length * 4) + 4 * p.1) (4 * (p.2 - p.1)) true s) (occSpans (tileNums a.t).length a.t.occ) s = .done runs
      u ∧ foldBusy u h num runs.flatten = false ∧ goList (fun p s => tileClaim h num ((par a.r 8 8 + num % par a.r 4
      4 * (tileNums a.t).length * 4) + 4 * p.1) (4 * (p.2 - p.1)) s) (occSpans (tileNums a.t).length a.t.occ) u =
      .done us v ∧ foldSpans h num (par a.r 8 8 + num % par a.r 4 4 * (tileNums a.t).length * 4) (parBits a.r 1 2 2)
      (accFmt a.t.fmt) a.t.fold (tileNums a.t) (occSpans (tileNums a.t).length a.t.occ) v = .done bad w ∧ parBits
      a.r 1 4 1 = 0) ∧
    (∃ (s : State) (h : Nat) (num : Nat) (a : At) (u : State) (v : State) (w : State) (x : State) (runs : List (List
      (Nat × Nat))) (us : List Unit) (bad : Bool) (bs : Bytes), stationAt s h num (fun o t r => isStation 0x14 o t r
      && decide (parBits r 1 0 2 = 0)) = some a ∧ goList (fun p s => tileRuns h num ((par a.r 8 8 + num % par a.r 4
      4 * (tileNums a.t).length * 4) + 4 * p.1) (4 * (p.2 - p.1)) true s) (occSpans (tileNums a.t).length a.t.occ) s
      = .done runs u ∧ foldBusy u h num runs.flatten = false ∧ goList (fun p s => tileClaim h num ((par a.r 8 8 +
      num % par a.r 4 4 * (tileNums a.t).length * 4) + 4 * p.1) (4 * (p.2 - p.1)) s) (occSpans (tileNums a.t).length
      a.t.occ) u = .done us v ∧ foldSpans h num (par a.r 8 8 + num % par a.r 4 4 * (tileNums a.t).length * 4)
      (parBits a.r 1 2 2) (accFmt a.t.fmt) a.t.fold (tileNums a.t) (occSpans (tileNums a.t).length a.t.occ) v =
      .done bad w ∧ parBits a.r 1 4 1 = 1 ∧ foldRead h num (a.t.fold ++ runs.flatten) (par a.r 8 8 + num % par a.r 4
      4 * (tileNums a.t).length * 4) (4 * (tileNums a.t).length) w = .done bs x) ∧
    (∃ (s : State) (h : Nat) (num : Nat) (a : At), stationAt s h num (fun o t r => isStation 0x14 o t r && decide
      (parBits r 1 0 2 = 1)) = some a) ∧
    (∃ (s : State) (h : Nat) (num : Nat) (a : At) (u : State) (i : Nat) (b : Bytes) (ks : List Fp) (gs : List Fp)
      (rs : List ((Nat × Nat) × List Fp)), stationAt s h num (isMode 0x15 0) = some a ∧ i = ((updates a.o).findIdx?
      fun k => decide (k = a.t.stage)).getD 0 ∧ b = (a.o.block.drop (128 * i)).take 128 ∧ ks = ((a.o.coef.drop (11 *
      i)).take 11).map (fun w => fp32 w.toNat) ∧ gs = (indexed 0 ((tileNums a.t).map numFp)).map (fun x => if
      a.t.occ.getLsbD (groupOf ((tileNums a.t).map numFp).length x.1) then fpMul fmt32 x.2 (nth ks 10 .nan) else
      .fin false 0 0) ∧ goList (fun p s => (updateSpan a h num b ks gs p.1 p.2 s).bind fun ws s => .done (p, ws) s)
      (if parBits a.r 2 0 1 = 1 then occSpans ((tileNums a.t).map numFp).length a.t.occ else [(0, ((tileNums
      a.t).map numFp).length)]) s = .done rs u) ∧
    (∃ (s : State) (h : Nat) (num : Nat) (a : At) (u : State) (i : Nat) (b : Bytes) (ks : List Fp) (gs : List Fp)
      (rs : List ((Nat × Nat) × List Fp)), stationAt s h num (isMode 0x15 1) = some a ∧ i = ((updates a.o).findIdx?
      fun k => decide (k = a.t.stage)).getD 0 ∧ b = (a.o.block.drop (128 * i)).take 128 ∧ ks = ((a.o.coef.drop (11 *
      i)).take 11).map (fun w => fp32 w.toNat) ∧ gs = (indexed 0 ((tileNums a.t).map numFp)).map (fun x => if
      a.t.occ.getLsbD (groupOf ((tileNums a.t).map numFp).length x.1) then fpMul fmt32 x.2 (nth ks 10 .nan) else
      .fin false 0 0) ∧ goList (fun p s => (updateSpan a h num b ks gs p.1 p.2 s).bind fun ws s => .done (p, ws) s)
      (if parBits a.r 2 0 1 = 1 then occSpans ((tileNums a.t).map numFp).length a.t.occ else [(0, ((tileNums
      a.t).map numFp).length)]) s = .done rs u) ∧
    (∃ (s : State) (h : Nat) (num : Nat) (a : At) (u : State) (i : Nat) (b : Bytes) (ks : List Fp) (gs : List Fp)
      (rs : List ((Nat × Nat) × List Fp)), stationAt s h num (isMode 0x15 2) = some a ∧ i = ((updates a.o).findIdx?
      fun k => decide (k = a.t.stage)).getD 0 ∧ b = (a.o.block.drop (128 * i)).take 128 ∧ ks = ((a.o.coef.drop (11 *
      i)).take 11).map (fun w => fp32 w.toNat) ∧ gs = (indexed 0 ((tileNums a.t).map numFp)).map (fun x => if
      a.t.occ.getLsbD (groupOf ((tileNums a.t).map numFp).length x.1) then fpMul fmt32 x.2 (nth ks 10 .nan) else
      .fin false 0 0) ∧ goList (fun p s => (updateSpan a h num b ks gs p.1 p.2 s).bind fun ws s => .done (p, ws) s)
      (if parBits a.r 2 0 1 = 1 then occSpans ((tileNums a.t).map numFp).length a.t.occ else [(0, ((tileNums
      a.t).map numFp).length)]) s = .done rs u) ∧
    (∃ (s : State) (h : Nat) (num : Nat) (a : At) (u : State) (bs : Bytes) (nb : List Machine.Num) (w : State) (cs :
      List Cmp) (b : BitVec 64) (x : State) (v : State), stationAt s h num (fun o t r => isStation 0x18 o t r &&
      decide (parBits r 1 0 1 = 0)) = some a ∧ tileEat h num (par a.r 7 8 + num * elemBytes (par a.r 2 1)
      a.t.elems.length) (elemBytes (par a.r 2 1) a.t.elems.length) s = .done bs u ∧ compareB (par a.r 2 1)
      ((unpackElems (par a.r 2 1) bs).take a.t.elems.length) u = (nb, w) ∧ cs = (List.zip (List.zip a.t.elems
      ((unpackElems (par a.r 2 1) bs).take a.t.elems.length)) (List.zip (tileNums a.t) nb)).map (fun y => compareAt
      (0 = 1) (fpDecode fmtFp16 (par a.r 3 2)) (fpDecode fmtFp16 (par a.r 5 2)) y.1.1 y.1.2 y.2.1 y.2.2) ∧ (if
      (maxDiff (indexed 0 cs)).isSome then ((0 : BitVec 64), w) else drawFree w) = (b, x) ∧ tilePut h num (par a.r
      15 8 + 32 * num) (summaryBytes cs (b.toNat % 2 ^ 32) (b.toNat / 2 ^ 32)) x = .done () v ∧ parBits a.r 1 1 1 =
      0) ∧
    (∃ (s : State) (h : Nat) (num : Nat) (a : At) (u : State) (bs : Bytes) (nb : List Machine.Num) (w : State) (cs :
      List Cmp) (b : BitVec 64) (x : State) (v : State), stationAt s h num (fun o t r => isStation 0x18 o t r &&
      decide (parBits r 1 0 1 = 0)) = some a ∧ tileEat h num (par a.r 7 8 + num * elemBytes (par a.r 2 1)
      a.t.elems.length) (elemBytes (par a.r 2 1) a.t.elems.length) s = .done bs u ∧ compareB (par a.r 2 1)
      ((unpackElems (par a.r 2 1) bs).take a.t.elems.length) u = (nb, w) ∧ cs = (List.zip (List.zip a.t.elems
      ((unpackElems (par a.r 2 1) bs).take a.t.elems.length)) (List.zip (tileNums a.t) nb)).map (fun y => compareAt
      (0 = 1) (fpDecode fmtFp16 (par a.r 3 2)) (fpDecode fmtFp16 (par a.r 5 2)) y.1.1 y.1.2 y.2.1 y.2.2) ∧ (if
      (maxDiff (indexed 0 cs)).isSome then ((0 : BitVec 64), w) else drawFree w) = (b, x) ∧ tilePut h num (par a.r
      15 8 + 32 * num) (summaryBytes cs (b.toNat % 2 ^ 32) (b.toNat / 2 ^ 32)) x = .done () v ∧ parBits a.r 1 1 1 =
      1) ∧
    (∃ (s : State) (h : Nat) (num : Nat) (a : At) (u : State) (bs : Bytes) (nb : List Machine.Num) (w : State) (cs :
      List Cmp) (b : BitVec 64) (x : State) (v : State), stationAt s h num (fun o t r => isStation 0x18 o t r &&
      decide (parBits r 1 0 1 = 1)) = some a ∧ tileEat h num (par a.r 7 8 + num * elemBytes (par a.r 2 1)
      a.t.elems.length) (elemBytes (par a.r 2 1) a.t.elems.length) s = .done bs u ∧ compareB (par a.r 2 1)
      ((unpackElems (par a.r 2 1) bs).take a.t.elems.length) u = (nb, w) ∧ cs = (List.zip (List.zip a.t.elems
      ((unpackElems (par a.r 2 1) bs).take a.t.elems.length)) (List.zip (tileNums a.t) nb)).map (fun y => compareAt
      (1 = 1) (fpDecode fmtFp16 (par a.r 3 2)) (fpDecode fmtFp16 (par a.r 5 2)) y.1.1 y.1.2 y.2.1 y.2.2) ∧ (if
      (maxDiff (indexed 0 cs)).isSome then ((0 : BitVec 64), w) else drawFree w) = (b, x) ∧ tilePut h num (par a.r
      15 8 + 32 * num) (summaryBytes cs (b.toNat % 2 ^ 32) (b.toNat / 2 ^ 32)) x = .done () v ∧ parBits a.r 1 1 1 =
      0) ∧
    (∃ (s : State) (h : Nat) (num : Nat) (a : At) (u : State) (bs : Bytes) (nb : List Machine.Num) (w : State) (cs :
      List Cmp) (b : BitVec 64) (x : State) (v : State), stationAt s h num (fun o t r => isStation 0x18 o t r &&
      decide (parBits r 1 0 1 = 1)) = some a ∧ tileEat h num (par a.r 7 8 + num * elemBytes (par a.r 2 1)
      a.t.elems.length) (elemBytes (par a.r 2 1) a.t.elems.length) s = .done bs u ∧ compareB (par a.r 2 1)
      ((unpackElems (par a.r 2 1) bs).take a.t.elems.length) u = (nb, w) ∧ cs = (List.zip (List.zip a.t.elems
      ((unpackElems (par a.r 2 1) bs).take a.t.elems.length)) (List.zip (tileNums a.t) nb)).map (fun y => compareAt
      (1 = 1) (fpDecode fmtFp16 (par a.r 3 2)) (fpDecode fmtFp16 (par a.r 5 2)) y.1.1 y.1.2 y.2.1 y.2.2) ∧ (if
      (maxDiff (indexed 0 cs)).isSome then ((0 : BitVec 64), w) else drawFree w) = (b, x) ∧ tilePut h num (par a.r
      15 8 + 32 * num) (summaryBytes cs (b.toNat % 2 ^ 32) (b.toNat / 2 ^ 32)) x = .done () v ∧ parBits a.r 1 1 1 =
      1) := by
  and_intros
  · refine ⟨(wTileSt (wStream wSrc [wRec 0x13 0 0 0 0 0 wVa] wSink) (wMidT)), 1, 0, _, _, _, station_eq _ _ _ _ _ _
      rfl rfl ?_, go_eq _ ?_⟩ <;> decide +kernel
  · refine ⟨(wTileSt (wStream (wSrc) [wRec 0x13 1 0 0 0 0 wVa] (wSink)) (wMidT)), 1, 0, _, _, _, station_eq _ _ _ _
      _ _ rfl rfl ?_, go_eq _ ?_⟩ <;> decide +kernel
  · refine ⟨(wTileSt (wStream wSrc [wRec 0x13 2 0 0 0 0 wVa] wSink) (wMidT)), 1, 0, _, _, _, station_eq _ _ _ _ _ _
      rfl rfl ?_, go_eq _ ?_⟩ <;> decide +kernel
  · refine ⟨(wTileSt (wStream wSrc [wRec 0x13 3 0 0 0 0 wVa] wSink) (wMidT)), 1, 0, _, _, _, station_eq _ _ _ _ _ _
      rfl rfl ?_, go_eq _ ?_⟩ <;> decide +kernel
  · refine ⟨(wTileSt (wStream (wSrc) [wRec 0x13 4 0 0 0 0 wVa] (wSink)) (wMidT)), 1, 0, _, _, _, station_eq _ _ _ _
      _ _ rfl rfl ?_, go_eq _ ?_⟩ <;> decide +kernel
  · refine ⟨(wTileSt (wStream wSrc [wRec 0x13 5 0 0 0 0 wVa] wSink) (wMidT)), 1, 0, _, _, _, station_eq _ _ _ _ _ _
      rfl rfl ?_, go_eq _ ?_⟩ <;> decide +kernel
  · refine ⟨(wTileSt (wStream wSrc [wRec 0x13 6 0 0 0 0x3F800000 0] wSink) (wMidT)), 1, 0, _, station_eq _ _ _ _ _ _
      rfl rfl ?_⟩; decide +kernel
  · refine ⟨(wTileSt (wStream (wSrc) [wRec 0x14 0 0 0 1 wVa 0] (wSink)) (wMidT)), 1, 0, _, _, _, _, _, _, _,
      station_eq _ _ _ _ _ _ rfl rfl ?_, go_eq _ ?_, ?_, go_eq _ ?_, go_eq _ ?_, ?_⟩ <;> decide +kernel
  · refine ⟨(wTileSt (wStream (wSrc) [wRec 0x14 16 0 0 1 wVa 0] (wSink)) (wMidT)), 1, 0, _, _, _, _, _, _, _, _, _,
      station_eq _ _ _ _ _ _ rfl rfl ?_, go_eq _ ?_, ?_, go_eq _ ?_, go_eq _ ?_, ?_, go_eq _ ?_⟩ <;> decide +kernel
  · refine ⟨(wTileSt (wStream wSrc [wRec 0x14 1 4 0 0 0 0] wSink) (wMidT)), 1, 0, _, station_eq _ _ _ _ _ _ rfl rfl
      ?_⟩; decide +kernel
  · refine ⟨(wTileSt (wStream (wSrc) [wRec 0x15 0 1 0 0 wVa 0] (wSink)) ({ wMidT with occ := 0 })), 1, 0, _, _, _,
      _, _, _, _, station_eq _ _ _ _ _ _ rfl rfl ?_, rfl, rfl, rfl, rfl, go_eq _ ?_⟩ <;> decide +kernel
  · refine ⟨(wTileSt (wStream wSrc [wRec 0x15 1 1 0 0 wVa 0] wSink) ({ wMidT with occ := 0 })), 1, 0, _, _, _, _, _,
      _, _, station_eq _ _ _ _ _ _ rfl rfl ?_, rfl, rfl, rfl, rfl, go_eq _ ?_⟩ <;> decide +kernel
  · refine ⟨(wTileSt (wStream wSrc [wRec 0x15 2 1 0 0 wVa 0] wSink) ({ wMidT with occ := 0 })), 1, 0, _, _, _, _, _,
      _, _, station_eq _ _ _ _ _ _ rfl rfl ?_, rfl, rfl, rfl, rfl, go_eq _ ?_⟩ <;> decide +kernel
  · refine ⟨(wTileSt (wStream (wSrc) [(natLe 1 0x18 ++ natLe 1 0 ++ zeros 5 ++ natLe 8 wVa ++ natLe 8 wVa ++ zeros
      1)] (wSink)) (wMidT)), 1, 0, _, _, _, _, _, _, _, _, _, station_eq _ _ _ _ _ _ rfl rfl ?_, go_eq _ ?_, pair_of
      _, rfl, pair_of _, go_unit _ ?_, ?_⟩ <;> decide +kernel
  · refine ⟨(wTileSt (wStream (wSrc) [(natLe 1 0x18 ++ natLe 1 2 ++ zeros 5 ++ natLe 8 wVa ++ natLe 8 wVa ++ zeros
      1)] (wSink)) (wMidT)), 1, 0, _, _, _, _, _, _, _, _, _, station_eq _ _ _ _ _ _ rfl rfl ?_, go_eq _ ?_, pair_of
      _, rfl, pair_of _, go_unit _ ?_, ?_⟩ <;> decide +kernel
  · refine ⟨(wTileSt (wStream wSrc [(natLe 1 0x18 ++ natLe 1 1 ++ zeros 5 ++ natLe 8 wVa ++ natLe 8 wVa ++ zeros 1)]
      wSink) (wMidT)), 1, 0, _, _, _, _, _, _, _, _, _, station_eq _ _ _ _ _ _ rfl rfl ?_, go_eq _ ?_, pair_of _,
      rfl, pair_of _, go_unit _ ?_, ?_⟩ <;> decide +kernel
  · refine ⟨(wTileSt (wStream (wSrc) [(natLe 1 0x18 ++ natLe 1 3 ++ zeros 5 ++ natLe 8 wVa ++ natLe 8 wVa ++ zeros
      1)] (wSink)) (wMidT)), 1, 0, _, _, _, _, _, _, _, _, _, station_eq _ _ _ _ _ _ rfl rfl ?_, go_eq _ ?_, pair_of
      _, rfl, pair_of _, go_unit _ ?_, ?_⟩ <;> decide +kernel

/-- The hypotheses of SinkStationsAct can be met, clause by clause. -/
theorem meets_SinkStationsAct :
    (∃ (s : State) (h : Nat) (num : Nat) (a : At) (u : State), stationAt s h num (fun o t r => isMode 0x20 0 o t r
      && decide (t.stage = nstat o + 1)) = some a ∧ isMx a.t.fmt = false ∧ putCarried h num (rangeVa a.r 2
      (tileBytes a.t).length num) (carriedIn a.t 0 0x100000) (tileBytes a.t) s = .done () u) ∧
    (∃ (s : State) (h : Nat) (num : Nat) (a : At) (u : State) (v : State), stationAt s h num (fun o t r => isMode
      0x20 0 o t r && decide (t.stage = nstat o + 1)) = some a ∧ isMx a.t.fmt = true ∧ putCarried h num (rangeVa a.r
      2 (tileBytes a.t).length num) (carriedIn a.t 0 0x100000) (tileBytes a.t) s = .done () u ∧ putCarried h num
      (scaleVa a.r a.t.elems.length num) (carriedIn a.t 0x100000 0x100000) a.t.scales u = .done () v) ∧
    (∃ (s : State) (h : Nat) (num : Nat) (a : At) (u : State) (v : State) (ix : Bytes), stationAt s h num (fun o t r
      => isMode 0x20 1 o t r && decide (t.stage = nstat o + 1)) = some a ∧ tileEat h num (par a.r 16 8 + 4 * (num *
      ((tileBytes a.t).length / scatterRow a.r))) (4 * ((tileBytes a.t).length / scatterRow a.r)) s = .done ix u ∧
      scatterRows a h num (scatterRow a.r) (tileBytes a.t) (indexed 0 (indexList ix)) u = .done () v) ∧
    (∃ (s : State) (h : Nat) (num : Nat) (a : At), stationAt s h num (fun o t r => isMode 0x20 2 o t r && decide
      (t.stage = nstat o + 1)) = some a ∧ parBits a.r 2 4 1 = 1) ∧
    (∃ (s : State) (h : Nat) (num : Nat) (a : At) (u : State) (v : State), stationAt s h num (fun o t r => isMode
      0x20 2 o t r && decide (t.stage = nstat o + 1)) = some a ∧ parBits a.r 2 4 1 = 0 ∧ tilePut h num (headerVa a.r
      false num) (headerBytes a.t.occ (64 * num) a.t.fmt a.t.nm a.t.blocks.length) s = .done () u ∧ tilePut h num
      (par a.r 16 8 + 4096 * num) a.t.blocks.flatten u = .done () v) ∧
    (∃ (s : State) (h : Nat) (num : Nat) (a : At) (ds : List Nat), stationAt s h num (fun o t r => isMode 0x20 3 o t
      r && decide (t.stage = nstat o + 1)) = some a ∧ putTargets s a.r = some ds ∧ ds.any (unroutable s) = false ∧
      ds.any (fun d => !eidFenced s d && decide (32 ≤ openTo s d)) = false) ∧
    (∃ (s : State) (h : Nat) (num : Nat) (a : At), stationAt s h num (fun o t r => isMode 0x20 4 o t r && decide
      (t.stage = nstat o + 1)) = some a) ∧
    (∃ (s : State) (h : Nat) (num : Nat) (a : At), stationAt s h num (fun o t r => isMode 0x20 5 o t r && decide
      (t.stage = nstat o + 1)) = some a) := by
  and_intros
  · refine ⟨(wTileSt (wSinkO (wRec 0x20 0 0 0 0 wVa 0)) wSinkT), 1, 0, _, _, station_eq _ _ _ _ _ _ rfl rfl ?_, ?_,
      go_unit _ ?_⟩ <;> decide +kernel
  · refine ⟨(wTileSt (wSinkO (wRec 0x20 0 0 0 0 wVa wVa)) { wTile 1 9 32 with scales := [127] }), 1, 0, _, _, _,
      station_eq _ _ _ _ _ _ rfl rfl ?_, ?_, go_unit _ ?_, go_unit _ ?_⟩ <;> decide +kernel
  · refine ⟨(wTileSt (wSinkO (wRec 0x20 1 0 0 16 wVa wVa)) wSinkT), 1, 0, _, _, _, _, station_eq _ _ _ _ _ _ rfl rfl
      ?_, go_eq _ ?_, go_unit _ ?_⟩ <;> decide +kernel
  · refine ⟨(wTileSt (wSinkO (wRec 0x20 2 16 0 0 wVa wVa)) wSparseT), 1, 0, _, station_eq _ _ _ _ _ _ rfl rfl ?_,
      ?_⟩ <;> decide +kernel
  · refine ⟨(wTileSt (wSinkO (wRec 0x20 2 0 0 0 wVa wVa)) wSparseT), 1, 0, _, _, _, station_eq _ _ _ _ _ _ rfl rfl
      ?_, ?_, go_unit _ ?_, go_unit _ ?_⟩ <;> decide +kernel
  · refine ⟨{ wTileSt (wSinkO (wRec 0x20 3 0 0 7 wVa 0)) wSinkT with route := { wServ.route with entries := [(7, { valid := true,
                                                                                                                   ports := 1,
                                                                                                                   alt := 0,
                                                                                                                   ordered := [0],
                                                                                                                   path := 0 })] } },
      1, 0, _, _, station_eq _ _ _ _ _ _ rfl rfl ?_, some_eq _ ?_, ?_, ?_⟩ <;> decide +kernel
  · refine ⟨(wTileSt (wSinkO (wRec 0x20 4 0 1 0 wVa 0)) wSinkT), 1, 0, _, station_eq _ _ _ _ _ _ rfl rfl ?_⟩;
      decide +kernel
  · refine ⟨(wTileSt (wSinkO (wRec 0x20 5 0 0 0 0 0)) wSinkT), 1, 0, _, station_eq _ _ _ _ _ _ rfl rfl ?_⟩;
      decide +kernel

/-- The hypotheses of LinkMessagesAct can be met, clause by clause. -/
theorem meets_LinkMessagesAct :
    (∃ (s : State) (u : State) (p : Nat) (seq : Nat), takeMsg s p (fun m => decide (m.code = 1) && decide (m.a =
      seq)) = some u ∧ ((lp u p).kept.any fun k => k.fseq = seq) = true ∧ (lp u p).lastReplay = none) ∧
    (∃ (s : State) (u : State) (p : Nat) (b : Nat) (n : Nat), takeMsg s p (fun m => decide (m.code = 2) && decide
      (m.a = b) && decide (m.b = n)) = some u ∧ n ≤ 32767 ∧ (if p < 20 then (if b < 4 then 2 else 65) else nth [65,
      2, 1, 65, 5, 65] b 0) ≤ n ∧ tget u.link.limitTx (p * 16 + b) = none ∧ (buffers u p).contains b = true) ∧
    (∃ (s : State) (u : State) (p : Nat) (e : Nat) (w : Nat) (l : Nat), takeMsg s p (fun m => decide (m.code = 3) &&
      decide (m.a = e) && decide (m.b = w) && decide (m.c = l)) = some u) ∧
    (∃ (s : State) (u : State) (p : Nat) (l : Nat), takeMsg s p (fun m => decide (m.code = 4) && decide (m.a = l)) =
      some u ∧ linkState u p = 2 ∧ (lp u p).swapTx = none ∧ reserveFree (lp u p) true = true ∧ l < 8 ∧ (lp u
      p).swapRx = none) ∧
    (∃ (s : State) (u : State) (p : Nat) (l : Nat) (n : Nat), takeMsg s p (fun m => decide (m.code = 4) && decide
      (m.a = l)) = some u ∧ linkState u p = 5 ∧ (lp u p).swapTx = some (l, n)) ∧
    (∃ (s : State) (u : State) (p : Nat) (l : Nat), takeMsg s p (fun m => decide (m.code = 5) && decide (m.a = l)) =
      some u ∧ (lp u p).swapRx = some (l, none)) ∧
    (∃ (s : State) (u : State) (p : Nat) (l : Nat), takeMsg s p (fun m => decide (m.code = 6) && decide (m.a = l)) =
      some u ∧ (lp u p).swapTx = some (l, 0)) ∧
    (∃ (s : State) (u : State) (p : Nat) (w : Nat), takeMsg s p (fun m => decide (m.code = 7) && decide (m.a = w)) =
      some u ∧ (linkState u p = 2 ∨ linkState u p = 4 ∨ (linkState u p = 6 ∧ linkPower u p = 1)) ∧ w ≤ 2 ∧ (lp u
      p).widthTo = none) ∧
    (∃ (s : State) (u : State) (p : Nat) (w : Nat), takeMsg s p (fun m => decide (m.code = 8) && decide (m.a = w)) =
      some u ∧ (lp u p).widthTo = some w ∧ linkState u p = 4) ∧
    (∃ (s : State) (u : State) (p : Nat) (n : Nat), takeMsg s p (fun m => decide (m.code = 9) && decide (m.a = n)) =
      some u ∧ leads u p = true) ∧
    (∃ (s : State) (u : State) (p : Nat) (n : Nat), takeMsg s p (fun m => decide (m.code = 9) && decide (m.a = n)) =
      some u ∧ leads u p = false) ∧
    (∃ (s : State) (u : State) (p : Nat) (k : Nat), takeMsg s p (fun m => decide (m.code = 10) && decide (m.a = k))
      = some u ∧ (lp u p).granted ≠ some k ∧ linkState u p = 2 ∧ (lp u p).pwrTo = none ∧ linkBusy u p = false ∧ p <
      20 ∧ 1 ≤ k ∧ k ≤ 3) ∧
    (∃ (s : State) (u : State) (p : Nat) (k : Nat), takeMsg s p (fun m => decide (m.code = 10) && decide (m.a = k))
      = some u ∧ ((lp u p).granted = some k ∨ (linkState u p = 6 ∧ linkPower u p = k))) ∧
    (∃ (s : State) (u : State) (p : Nat) (k : Nat), takeMsg s p (fun m => decide (m.code = 10) && decide (m.a = k))
      = some u ∧ (lp u p).granted ≠ some k ∧ linkState u p = 2 ∧ (lp u p).pwrTo = none ∧ (linkBusy u p = true ∨ 20 ≤
      p ∨ k = 0 ∨ 3 < k)) ∧
    (∃ (s : State) (u : State) (p : Nat) (k : Nat), takeMsg s p (fun m => decide (m.code = 11) && decide (m.a = k)
      && decide (m.b = 0)) = some u ∧ (lp u p).pwrTo = some k ∧ k ≠ 1) ∧
    (∃ (s : State) (u : State) (p : Nat) (k : Nat), takeMsg s p (fun m => decide (m.code = 11) && decide (m.a = k)
      && decide (m.b = 0)) = some u ∧ (lp u p).pwrTo = some k ∧ k = 1) ∧
    (∃ (s : State) (u : State) (p : Nat) (k : Nat), takeMsg s p (fun m => decide (m.code = 11) && decide (m.a = k)
      && decide (m.b = 1)) = some u ∧ (lp u p).pwrTo = some k) := by
  and_intros
  · refine ⟨(wPort 21 ({ inbox := [{ code := 1, a := 9 }], kept := [{ fseq := 9, slots := [], firstHdr := 0 }] })),
      _, 21, 9, some_state _ ?_, ?_, ?_⟩ <;> decide +kernel
  · refine ⟨(wPort 21 ({ inbox := [{ code := 2, a := 0, b := 32767 }] })), _, 21, 0, 32767, some_state _ ?_, ?_, ?_,
      ?_, ?_⟩ <;> decide +kernel
  · refine ⟨(wPort 21 ({ inbox := [{ code := 3, a := 1, b := 2, c := 3 }] })), _, 21, 1, 2, 3, some_state _ ?_⟩;
      decide +kernel
  · refine ⟨(wf (wPort 21 ({ inbox := [{ code := 4, a := 3 }] })) (ra (pgFAB + 21) 0x104) 0 3 2), _, 21, 3,
      some_state _ ?_, ?_, ?_, ?_, ?_, ?_⟩ <;> decide +kernel
  · refine ⟨(wf (wPort 21 ({ inbox := [{ code := 4, a := 3 }], swapTx := some (3, 0) })) (ra (pgFAB + 21) 0x104) 0 3
      5), _, 21, 3, 0, some_state _ ?_, ?_, ?_⟩ <;> decide +kernel
  · refine ⟨(wPort 21 ({ inbox := [{ code := 5, a := 8 }], swapRx := some (8, none) })), _, 21, 8, some_state _ ?_,
      ?_⟩ <;> decide +kernel
  · refine ⟨(wPort 21 ({ inbox := [{ code := 6, a := 8 }], swapTx := some (8, 0) })), _, 21, 8, some_state _ ?_, ?_⟩
      <;> decide +kernel
  · refine ⟨(wf (wPort 21 ({ inbox := [{ code := 7, a := 2 }] })) (ra (pgFAB + 21) 0x104) 0 3 2), _, 21, 2,
      some_state _ ?_, ?_, ?_, ?_⟩ <;> decide +kernel
  · refine ⟨(wf (wPort 21 ({ inbox := [{ code := 8, a := 2 }], widthTo := some 2 })) (ra (pgFAB + 21) 0x104) 0 3 4),
      _, 21, 2, some_state _ ?_, ?_, ?_⟩ <;> decide +kernel
  · refine ⟨(wf (wf (wPort 21 { inbox := [{ code := 9, a := 1 }] }) (ra (pgFAB + 21) 0x104) 0 3 2) (ra (pgFAB + 21)
      0x104) 13 12 4095), _, 21, 1, some_state _ ?_, ?_⟩ <;> decide +kernel
  · refine ⟨(wPort 21 ({ inbox := [{ code := 9, a := 1 }] })), _, 21, 1, some_state _ ?_, ?_⟩ <;> decide +kernel
  · refine ⟨(wf (wPort 19 { inbox := [{ code := 10, a := 3 }] }) (ra (pgFAB + 19) 0x104) 0 3 2), _, 19, 3,
      some_state _ ?_, ?_, ?_, ?_, ?_, ?_, ?_, ?_⟩ <;> decide +kernel
  · refine ⟨(wf (wPort 21 ({ inbox := [{ code := 10, a := 3 }], granted := some 3 })) (ra (pgFAB + 21) 0x104) 0 3
      2), _, 21, 3, some_state _ ?_, ?_⟩ <;> decide +kernel
  · refine ⟨(wf (wPort 19 ({ inbox := [{ code := 10, a := 3 }], kept := [{ fseq := 9, slots := [], firstHdr := 0 }] }))
      (ra (pgFAB + 19) 0x104) 0 3 2), _, 19, 3, some_state _ ?_, ?_, ?_, ?_, ?_⟩ <;> decide +kernel
  · refine ⟨(wPort 21 ({ inbox := [{ code := 11, a := 3 }], pwrTo := some 3 })), _, 21, 3, some_state _ ?_, ?_, ?_⟩
      <;> decide +kernel
  · refine ⟨(wPort 21 ({ inbox := [{ code := 11, a := 1 }], pwrTo := some 1 })), _, 21, 1, some_state _ ?_, ?_, ?_⟩
      <;> decide +kernel
  · refine ⟨(wPort 21 ({ inbox := [{ code := 11, a := 3, b := 1 }], pwrTo := some 3 })), _, 21, 3, some_state _ ?_,
      ?_⟩ <;> decide +kernel

/-- The hypotheses of LinkEventsAct can be met, clause by clause. -/
theorem meets_LinkEventsAct :
    (∃ (s : State) (p : Nat) (bs : Bytes) (ps : List Nat), p < 22 ∧ bs.length = 288 ∧ usable s p = true ∧ (linkState
      s p ≠ 6 ∨ linkPower s p ≠ 2) ∧ flitDecode bs = (none, ps)) ∧
    (∃ (s : State) (u : State) (p : Nat) (h : Nat) (bs : Bytes) (body : Bytes) (ps : List Nat), p < 22 ∧ bs.length =
      288 ∧ usable s p = true ∧ (linkState s p ≠ 6 ∨ linkPower s p ≠ 2) ∧ flitDecode bs = (some (h, body), ps) ∧ u =
      linkCredit (linkAck (countLanes s p ps) p (fld h 18 18)) p (fld h 39 4) (fld h 43 16) ∧ fld h 36 2 = 0) ∧
    (∃ (s : State) (u : State) (p : Nat) (h : Nat) (bs : Bytes) (body : Bytes) (ps : List Nat), p < 22 ∧ bs.length =
      288 ∧ usable s p = true ∧ (linkState s p ≠ 6 ∨ linkPower s p ≠ 2) ∧ flitDecode bs = (some (h, body), ps) ∧ u =
      linkCredit (linkAck (countLanes s p ps) p (fld h 18 18)) p (fld h 39 4) (fld h 43 16) ∧ fld h 36 2 = 1) ∧
    (∃ (s : State) (u : State) (p : Nat) (h : Nat) (bs : Bytes) (body : Bytes) (ps : List Nat), p < 22 ∧ bs.length =
      288 ∧ usable s p = true ∧ (linkState s p ≠ 6 ∨ linkPower s p ≠ 2) ∧ flitDecode bs = (some (h, body), ps) ∧ u =
      linkCredit (linkAck (countLanes s p ps) p (fld h 18 18)) p (fld h 39 4) (fld h 43 16) ∧ fld h 36 2 = 2) ∧
    (∃ (s : State) (p : Nat), p < 22 ∧ usable s p = true ∧ (linkState s p ≠ 6 ∨ (linkBusy s p = false ∧ linkPower s
      p < 2)) ∧ (lp s p).ctl ≠ []) ∧
    (∃ (s : State) (p : Nat), p < 22 ∧ usable s p = true ∧ linkState s p ≠ 2 ∧ linkState s p ≠ 6 ∧ ((lp s p).swapTx
      = none ∨ (lp s p).swapTx.map Prod.snd = some 0) ∧ (lp s p).ctl = []) ∧
    (∃ (s : State) (p : Nat) (q : Nat) (k : Kept), p < 22 ∧ usable s p = true ∧ linkState s p = 2 ∧ ((lp s p).swapTx
      = none ∨ (lp s p).swapTx.map Prod.snd = some 0) ∧ (lp s p).ctl = [] ∧ (lp s p).replay = some q ∧ ((lp s
      p).kept.find? fun k => k.fseq = q) = some k) ∧
    (∃ (s : State) (p : Nat), p < 22 ∧ usable s p = true ∧ linkState s p = 2 ∧ ((lp s p).swapTx = none ∨ (lp s
      p).swapTx.map Prod.snd = some 0) ∧ (lp s p).ctl = [] ∧ (lp s p).replay = none ∧ tgetD s.link.tx p [] ≠ [] ∧
      keepRoom s p = true) ∧
    (∃ (s : State) (p : Nat), p < 22 ∧ usable s p = true ∧ linkState s p = 2 ∧ ((lp s p).swapTx = none ∨ (lp s
      p).swapTx.map Prod.snd = some 0) ∧ (lp s p).ctl = [] ∧ (lp s p).replay = none ∧ tgetD s.link.tx p [] = [] ∧
      (sched s (portSched p)).units = []) ∧
    (∃ (s : State) (p : Nat) (k : Kept) (ks : List Kept), (lp s p).kept = k :: ks) ∧
    (∃ (s : State) (p : Nat), (lp s p).reqOut = true) ∧
    (∃ (s : State) (p : Nat) (l : Nat) (tx : Bool), p < 22 ∧ l < 9) ∧
    (∃ (s : State) (p : Nat), (lp s p).swapTx.isSome = true) ∧
    (∃ (s : State) (p : Nat), p < 22) ∧
    (∃ (s : State) (p : Nat) (tx : BitVec 9) (rx : BitVec 9), p < 22 ∧ (linkState s p = 1 ∨ linkState s p = 3) ∧ 2 ≤
      popc 9 tx.toNat ∧ 2 ≤ popc 9 rx.toNat ∧ (lp s p).bad = false ∧ (lp s p).peer.isSome = true ∧ (buffers s p).all
      (lp s p).inits.contains = true) ∧
    (∃ (s : State) (p : Nat) (tx : BitVec 9) (rx : BitVec 9) (ok : Bool), p < 22 ∧ (linkState s p = 1 ∨ linkState s
      p = 3) ∧ (popc 9 tx.toNat < 2 ∨ popc 9 rx.toNat < 2)) ∧
    (∃ (s : State) (p : Nat) (tx : BitVec 9) (rx : BitVec 9) (ok : Bool), p < 22 ∧ (linkState s p = 1 ∨ linkState s
      p = 3) ∧ 2 ≤ popc 9 tx.toNat ∧ 2 ≤ popc 9 rx.toNat ∧ (ok = false ∨ (lp s p).bad = true ∨ (lp s p).peer = none)
      ∧ rf s (replayReg p) 24 2 ≤ (lp s p).attempts + 1) ∧
    (∃ (s : State) (p : Nat) (tx : BitVec 9) (rx : BitVec 9) (ok : Bool), p < 22 ∧ (linkState s p = 1 ∨ linkState s
      p = 3) ∧ 2 ≤ popc 9 tx.toNat ∧ 2 ≤ popc 9 rx.toNat ∧ (ok = false ∨ (lp s p).bad = true ∨ (lp s p).peer = none)
      ∧ (lp s p).attempts + 1 < rf s (replayReg p) 24 2) ∧
    (∃ (s : State) (id : Nat) (p : Nat) (v : W32), p < 22) ∧
    (∃ (s : State) (id : Nat) (p : Nat) (v : W32), p < 22) ∧
    (∃ (s : State) (id : Nat) (p : Nat) (v : W32), p < 22) ∧
    (∃ (s : State) (id : Nat) (p : Nat) (v : W32), p < 22) := by
  and_intros
  · refine ⟨(wf (wPort 21 {}) (ra (pgFAB + 21) 0x104) 0 3 2), 21, wBadFlit, (flitDecode wBadFlit).2, ?_, ?_, ?_, ?_,
      pair_eq _ _ wBadDecode⟩ <;> decide +kernel
  · refine ⟨(wf (wPort 21 {}) (ra (pgFAB + 21) 0x104) 0 3 2), _, 21, 0, wGoodFlit, (zeros 256), (flitDecode
      wGoodFlit).2, ?_, ?_, ?_, ?_, pair_eq _ _ wGoodDecode, rfl, ?_⟩ <;> decide +kernel
  · refine ⟨(wf (wPort 21 {}) (ra (pgFAB + 21) 0x104) 0 3 2), _, 21, (2 ^ 36), wControlFlit, (zeros 256),
      (flitDecode wControlFlit).2, ?_, ?_, ?_, ?_, pair_eq _ _ wControlFlit_decodes, rfl, ?_⟩ <;> decide +kernel
  · refine ⟨(wf (wPort 21 {}) (ra (pgFAB + 21) 0x104) 0 3 2), _, 21, (2 ^ 37), wPayloadFlit, (zeros 256),
      (flitDecode wPayloadFlit).2, ?_, ?_, ?_, ?_, pair_eq _ _ wPayloadFlit_decodes, rfl, ?_⟩ <;> decide +kernel
  · refine ⟨(wf (wPort 21 { ctl := [{ code := 1 }] }) (ra (pgFAB + 21) 0x104) 0 3 2), 21, ?_, ?_, ?_, ?_⟩ <;>
      decide +kernel
  · refine ⟨(wf (wPort 21 { peer := some (1, 2, 3), inits := [0, 1, 2, 3, 4, 5, 6, 7, 8, 9, 10, 11, 12, 13, 14, 15] })
      (ra (pgFAB + 21) 0x104) 0 3 1), 21, ?_, ?_, ?_, ?_, ?_, ?_⟩ <;> decide +kernel
  · refine ⟨(wf (wPort 21 { replay := some 9, kept := [{ fseq := 9, slots := [], firstHdr := 0 }] }) (ra (pgFAB +
      21) 0x104) 0 3 2), 21, _, _, ?_, ?_, ?_, ?_, ?_, some_eq _ ?_, some_eq _ ?_⟩ <;> decide +kernel
  · refine ⟨(let s := wf (wPort 21 {}) (ra (pgFAB + 21) 0x104) 0 3 2; { s with link := { s.link with tx := [(21, [{ cls := 7, len := 64 }])] } }), 21, ?_, ?_, ?_, ?_, ?_, ?_, ?_, ?_⟩ <;> decide +kernel
  · refine ⟨(wf (wPort 21 {}) (ra (pgFAB + 21) 0x104) 0 3 2), 21, ?_, ?_, ?_, ?_, ?_, ?_, ?_, ?_⟩ <;> decide +kernel
  · refine ⟨(wPort 21 { kept := [{ fseq := 9, slots := [], firstHdr := 0 }] }), 21, { fseq := 9, slots := [],
                                                                                      firstHdr := 0 }, [], ?_⟩;
      decide +kernel
  · refine ⟨(wPort 0 { reqOut := true, expected := 9 }), 0, ?_⟩; decide +kernel
  · refine ⟨State.reset, 21, 8, false, ?_, ?_⟩ <;> decide +kernel
  · refine ⟨(wPort 0 { swapTx := some (1, 4) }), 0, ?_⟩; decide +kernel
  · refine ⟨(wf (wPort 21 {}) (ra (pgFAB + 21) 0x104) 0 3 2), 21, ?_⟩; decide +kernel
  · refine ⟨(wf (wPort 21 { peer := some (1, 2, 3), inits := [0, 1, 2, 3, 4, 5, 6, 7, 8, 9, 10, 11, 12, 13, 14, 15] })
      (ra (pgFAB + 21) 0x104) 0 3 1), 21, 0x101, 3, ?_, ?_, ?_, ?_, ?_, ?_, ?_⟩ <;> decide +kernel
  · refine ⟨(wf (wPort 21 {}) (ra (pgFAB + 21) 0x104) 0 3 1), 21, 1, 3, true, ?_, ?_, ?_⟩ <;> decide +kernel
  · refine ⟨(wf (wPort 21 { attempts := 9 }) (ra (pgFAB + 21) 0x104) 0 3 1), 21, 3, 3, false, ?_, ?_, ?_, ?_, ?_,
      ?_⟩ <;> decide +kernel
  · refine ⟨(wf (wPort 21 { peer := some (1, 2, 3), inits := [0, 1, 2, 3, 4, 5, 6, 7, 8, 9, 10, 11, 12, 13, 14, 15] })
      (ra (pgFAB + 21) 0x104) 0 3 1), 21, 0x101, 3, false, ?_, ?_, ?_, ?_, ?_, ?_⟩ <;> decide +kernel
  · refine ⟨State.reset, 2, 21, 1, ?_⟩; decide +kernel
  · refine ⟨State.reset, 2, 21, 1, ?_⟩; decide +kernel
  · refine ⟨(wf (wPort 21 {}) (ra (pgFAB + 21) 0x104) 0 3 2), 0, 21, 0, ?_⟩; decide +kernel
  · refine ⟨State.reset, 2, 21, 1, ?_⟩; decide +kernel

/-- The hypotheses of RoutedPacketsAct can be met, clause by clause. -/
theorem meets_RoutedPacketsAct :
    (∃ (s : State) (u : State) (v : State) (p : Nat) (q : Nat) (b : Bool) (pkt : Packet), isLocal s pkt.dest = false
      ∧ p < 20 ∧ (route s pkt.dest).valid = true ∧ (route s pkt.dest).draining = false ∧ popRx s p pkt = some u ∧ v
      = setRoute u pkt.dest (refreshRoute u (route s pkt.dest)) ∧ choosePort v (refreshRoute u (route s pkt.dest))
      pkt = some (q, b) ∧ q ≠ p) ∧
    (∃ (s : State) (p : State) (u : State) (port : Nat) (pkt : Packet), arrivedKind s port pkt 0 p ∧ eidFenced s
      pkt.src = false ∧ serving s = true ∧ putServe s port (rxSince s port pkt) pkt false = .done () u) ∧
    (∃ (s : State) (p : State) (u : State) (port : Nat) (pkt : Packet), arrivedKind s port pkt 1 p ∧ eidFenced s
      pkt.src = false ∧ serving s = true ∧ putServe s port (rxSince s port pkt) pkt true = .done () u) ∧
    (∃ (s : State) (p : State) (port : Nat) (pkt : Packet), arrivedKind s port pkt 2 p) ∧
    (∃ (s : State) (p : State) (port : Nat) (pkt : Packet), arrivedKind s port pkt 4 p) ∧
    (∃ (s : State) (p : State) (port : Nat) (pkt : Packet), arrivedKind s port pkt 5 p) := by
  and_intros
  · refine ⟨(wf { wRx { wPkt 1 0 with dest := 9 } with route := { wServ.route with entries := [(9, { valid := true,
                                                                                                     ports := 4, alt := 0,
                                                                                                     ordered := [2],
                                                                                                     path := 0 })] } }
      (ra (pgFAB + 2) 0x104) 0 3 2), _, _, 0, _, _, { wPkt 1 0 with dest := 9 }, ?_, ?_, ?_, ?_, some_state _ ?_,
      rfl, some_pair _ ?_, ?_⟩ <;> decide +kernel
  · refine ⟨(wRx (wPut 0)), ((popRx (wRx (wPut 0)) (0) (wPut 0)).getD State.reset), _, 0, (wPut 0), (by
      unfold arrivedKind; decide +kernel), ?_, ?_, go_unit _ ?_⟩ <;> decide +kernel
  · refine ⟨(wRx (wPut 1)), ((popRx (wRx (wPut 1)) (0) (wPut 1)).getD State.reset), _, 0, (wPut 1), (by
      unfold arrivedKind; decide +kernel), ?_, ?_, go_unit _ ?_⟩ <;> decide +kernel
  · exact ⟨(wRx (wPut 2)), ((popRx (wRx (wPut 2)) (0) (wPut 2)).getD State.reset), 0, (wPut 2), (by
      unfold arrivedKind; decide +kernel)⟩
  · exact ⟨(wRx (wPut 4)), ((popRx (wRx (wPut 4)) (0) (wPut 4)).getD State.reset), 0, (wPut 4), (by
      unfold arrivedKind; decide +kernel)⟩
  · exact ⟨(wRx (wPut 5)), ((popRx (wRx (wPut 5)) (0) (wPut 5)).getD State.reset), 0, (wPut 5), (by
      unfold arrivedKind; decide +kernel)⟩

/-- The hypotheses of RouteCommandsAct can be met, clause by clause. -/
theorem meets_RouteCommandsAct :
    (∃ (s : State) (e : Nat) (m : MsgEntry), tgetD s.route.msgs e {} = m ∧ m.state ≠ 0) ∧
    (∃ (s : State) (h : Nat) (num : Nat), (tileMsgs s h num).isEmpty = false) ∧
    (∃ (s : State) (u : State) (v : State) (id : Nat) (e : Nat), isFw id = true ∧ e < 4096 ∧ s.route.swapping = none
      ∧ v = voidEid (setRoute s e { route s e with draining := true }) e ∧ u = wb { v with route := { v.route with swapping := some e } }
      (ra pgRTE 0x118) 14 true ∧ drained u e = true) ∧
    (∃ (s : State) (u : State) (v : State) (id : Nat) (e : Nat), isFw id = true ∧ e < 4096 ∧ s.route.swapping = none
      ∧ v = voidEid (setRoute s e { route s e with draining := true }) e ∧ u = wb { v with route := { v.route with swapping := some e } }
      (ra pgRTE 0x118) 14 true ∧ drained u e = false) ∧
    (∃ (s : State) (e : Nat), s.route.swapping = some e ∧ drained s e = true) ∧
    (∃ (s : State) (id : Nat) (e : Nat) (k : Nat), isFw id = true ∧ s.route.swapping = some e) ∧
    (∃ (s : State) (e : Nat), (route s e).draining = true ∧ s.route.swapping ≠ some e ∧ drained s e = true) ∧
    (∃ (s : State) (id : Nat) (e : Nat), isFw id = true ∧ e < 4096 ∧ eidFenced s e = false) ∧
    (∃ (s : State) (id : Nat) (e : Nat), isFw id = true ∧ e < 4096 ∧ eidFenced s e = true) ∧
    (∃ (s : State) (id : Nat) (e : Nat), isFw id = true ∧ e < 4096) := by
  and_intros
  · refine ⟨{ wServ with route := { wServ.route with msgs := [(5, { state := 1 })] } }, 5, { state := 1 }, ?_, ?_⟩
      <;> decide +kernel
  · refine ⟨{ wServ with cmd := { wServ.cmd with sent := [⟨1, 0, 7, 3, false⟩] } }, 1, 0, ?_⟩; decide +kernel
  · refine ⟨wServ, _, _, 2, 4095, ?_, ?_, ?_, rfl, rfl, ?_⟩ <;> decide +kernel
  · refine ⟨(let s := wServ; { s with link := { s.link with tx := [(0, [{ cls := 7, len := 64, pkt := { wPkt 1 0 with dest := 4095 } }])] } }), _, _, 2, 4095, ?_, ?_, ?_, rfl, rfl, ?_⟩ <;> decide +kernel
  · refine ⟨{ State.reset with route := { swapping := some 5 } }, _, some_eq _ ?_, ?_⟩ <;> decide +kernel
  · refine ⟨{ State.reset with route := { swapping := some 5 } }, 2, _, 0, ?_, some_eq _ ?_⟩ <;> decide +kernel
  · refine ⟨{ wServ with route := { wServ.route with entries := [(9, { draining := true })] } }, 9, ?_, ?_, ?_⟩ <;>
      decide +kernel
  · refine ⟨wServ, 2, 4095, ?_, ?_, ?_⟩ <;> decide +kernel
  · refine ⟨{ wServ with route := { wServ.route with entries := [(4095, { fenced := true })] } }, 2, 4095, ?_, ?_,
      ?_⟩ <;> decide +kernel
  · refine ⟨wServ, 2, 4095, ?_, ?_⟩ <;> decide +kernel

/-- The hypotheses of CxlMemRequestsAreServed can be met, clause by clause. -/
theorem meets_CxlMemRequestsAreServed :
    (∃ (s : State) (u : State) (hpa : Nat) (pa : Nat) (pl : Place), linkUp s = true ∧ s.weir.cxlHeld = [] ∧ cxlTaken
      s { hpa := hpa / 64 * 64, write := false, start := s.now } pa pl u) ∧
    (∃ (s : State) (u : State) (hpa : Nat) (pa : Nat) (data : Bytes) (mask : BitVec 64) (poison : Bool) (pl :
      Place), linkUp s = true ∧ s.weir.cxlHeld = [] ∧ cxlTaken s { hpa := hpa / 64 * 64, write := true, data :=
                                                                     fitBytes 64 data, mask := mask, poison :=
                                                                     poison, start := s.now } pa pl u) ∧
    (∃ (s : State) (r : State) (u : State) (w : CxlWait) (ws : List CxlWait) (pa : Nat) (pl : Place), s.weir.cxlHeld
      = w :: ws ∧ r = { s with weir := { s.weir with cxlHeld := ws } } ∧ cxlTaken r w pa pl u) := by
  and_intros
  · refine ⟨wCxlMem, ((weirAdmit wCxlMem 4096 (cxlClass wCxlMem) 64 [(20, cxlRespBytes 0x1D)]).getD State.reset),
      63, wVa, wPlace, ?_, ?_, (by unfold cxlTaken; decide +kernel)⟩ <;> decide +kernel
  · refine ⟨wCxlMem, ((weirAdmit wCxlMem 4096 (cxlClass wCxlMem) 64 [(20, cxlRespBytes 0x12)]).getD State.reset),
      63, wVa, [1], 1, false, wPlace, ?_, ?_, (by unfold cxlTaken; decide +kernel)⟩ <;> decide +kernel
  · refine ⟨{ wCxlMem with weir := { wCxlMem.weir with cxlHeld := [{ hpa := 0, write := false, start := 0 }] } }, _,
      ((weirAdmit { wCxlMem with weir := { wCxlMem.weir with cxlHeld := [] } } 4096 (cxlClass wCxlMem) 64 [(20,
      cxlRespBytes 0x1D)]).getD State.reset), { hpa := 0, write := false, start := 0 }, [], wVa, wPlace, ?_, rfl,
      (by unfold cxlTaken; decide +kernel)⟩; decide +kernel

/-- The hypotheses of CxlLinkCommandsAct can be met, clause by clause. -/
theorem meets_CxlLinkCommandsAct :
    (∃ (s : State) (u : State), u = wr (cxlDropRequests s) (ra pgCXLP 0x114) 0) ∧
    (∃ (s : State) (off : Nat) (b : Nat) (v : W32), linkUp s = true ∧ s.cxl.memActive = true ∧ off % 4 = 0 ∧ off ≠ 4
      ∧ barBit off = some b) ∧
    (∃ (s : State) (off : Nat) (b : Nat) (v : W32) (x : W32), linkUp s = true ∧ s.cxl.memActive = true ∧ off % 4 = 0
      ∧ barBit off = some b ∧ tget s.cxl.cfg off = some x) ∧
    (∃ (s : State) (v : W32), linkUp s = true ∧ s.cxl.memActive = true) ∧
    (∃ (s : State) (off : Nat) (wr : Bool) (v : W32), linkUp s = true ∧ s.cxl.memActive = false) ∧
    (∃ (s : State) (v : W32), rb s (ra pgCXLP 0x114) 8 = true) ∧
    (∃ (s : State) (d : Nat) (b : Nat) (n : Nat) (p : Nat) (w : Nat), linkUp s = true ∧ d < 4 ∧ rb s (ra pgCXLP
      0x114) (4 + d) = false ∧ w = 1 ∧ p / 0x10000000 * 0x10000000 + n / 0x10000000 * 0x10000000 ≤ rf s (ra pgCXLP
      0x110) 0 16 * 0x10000000) ∧
    (∃ (s : State) (d : Nat) (b : Nat) (n : Nat) (p : Nat) (w : Nat), linkUp s = true ∧ d < 4 ∧ rb s (ra pgCXLP
      0x114) (4 + d) = false ∧ (w ≠ 1 ∨ p / 0x10000000 * 0x10000000 + n / 0x10000000 * 0x10000000 > rf s (ra pgCXLP
      0x110) 0 16 * 0x10000000)) ∧
    (∃ (s : State) (d : Nat) (b : Nat) (n : Nat) (p : Nat) (w : Nat), linkUp s = true ∧ d < 4) ∧
    (∃ (s : State) (v : Nat), linkUp s = true ∧ v < 2048) ∧
    (∃ (s : State) (v : Nat), linkUp s = true ∧ v < 2048) ∧
    (∃ (s : State) (on : Bool), linkUp s = true) ∧
    (∃ (s : State) (on : Bool), linkUp s = true) ∧
    (∃ (s : State) (on : Bool), linkUp s = true) ∧
    (∃ (s : State) (on : Bool), linkUp s = true) ∧
    (∃ (s : State) (i : Nat), linkUp s = true) ∧
    (∃ (s : State) (i : Nat), linkUp s = true ∧ i ≤ 4) ∧
    (∃ (s : State) (i : Nat) (w : Walk), s.xlt.walks.find? (fun w => w.id = i) = some w ∧ viewHost w.view = true) ∧
    (∃ (s : State) (q : Nat), q < 256 ∧ sqEn s q = true ∧ sqHost s q = true ∧ sqHead s q ≠ sqTail s q ∧ cqFree s
      (cqNum s q) = true) := by
  and_intros
  · exact ⟨wCxl, _, rfl⟩
  · refine ⟨wCxl, 16, _, 7, ?_, ?_, ?_, ?_, some_eq _ ?_⟩ <;> decide +kernel
  · refine ⟨{ wCxl with cxl := { wCxl.cxl with cfg := [(16, 7)] } }, 16, _, 0, _, ?_, ?_, ?_, some_eq _ ?_, some_eq
      _ ?_⟩ <;> decide +kernel
  · refine ⟨wCxl, 7, ?_, ?_⟩ <;> decide +kernel
  · refine ⟨{ wCxl with cxl := State.reset.cxl }, 16, true, 0, ?_, ?_⟩ <;> decide +kernel
  · refine ⟨(wb wCxl (ra pgCXLP 0x114) 8 true), 0x8001, ?_⟩; decide +kernel
  · refine ⟨(wf wCxl (ra pgCXLP 0x110) 0 16 4), 3, 0x10000000, 0x40000000, 0, _, ?_, ?_, ?_, rfl, ?_⟩ <;>
      decide +kernel
  · refine ⟨(wf wCxl (ra pgCXLP 0x110) 0 16 4), 3, 0x10000000, 0x40000000, 0, 0, ?_, ?_, ?_, ?_⟩ <;> decide +kernel
  · refine ⟨(wf wCxl (ra pgCXLP 0x110) 0 16 4), 3, 0x10000000, 0x40000000, 0, 0, ?_, ?_⟩ <;> decide +kernel
  · refine ⟨{ wf wCxl (ra pgCXLP 0x114) 0 4 7 with cxl := { wCxl.cxl with pba := [5] } }, 5, ?_, ?_⟩ <;>
      decide +kernel
  · refine ⟨{ wf wCxl (ra pgCXLP 0x114) 0 4 7 with cxl := { wCxl.cxl with pba := [5] } }, 5, ?_, ?_⟩ <;>
      decide +kernel
  · refine ⟨{ wf wCxl (ra pgCXLP 0x114) 0 4 7 with cxl := { wCxl.cxl with pba := [5] } }, true, ?_⟩; decide +kernel
  · refine ⟨{ wf wCxl (ra pgCXLP 0x114) 0 4 7 with cxl := { wCxl.cxl with pba := [5] } }, true, ?_⟩; decide +kernel
  · refine ⟨{ wf wCxl (ra pgCXLP 0x114) 0 4 7 with cxl := { wCxl.cxl with pba := [5] } }, true, ?_⟩; decide +kernel
  · refine ⟨{ wf wCxl (ra pgCXLP 0x114) 0 4 7 with cxl := { wCxl.cxl with pba := [5] } }, true, ?_⟩; decide +kernel
  · refine ⟨wCxl, 2, ?_⟩; decide +kernel
  · refine ⟨wCxl, 0, ?_, ?_⟩ <;> decide +kernel
  · refine ⟨(wWalkSt true), 1, _, some_eq _ ?_, ?_⟩ <;> decide +kernel
  · refine ⟨(wQueue true), 255, ?_, ?_, ?_, ?_, ?_⟩ <;> decide +kernel

/-- The hypotheses of CxlMailboxCommandsAnswer can be met, clause by clause. -/
theorem meets_CxlMailboxCommandsAnswer :
    (∃ (s : State) (l : Nat), linkUp s = true ∧ l < 4) ∧
    (∃ (s : State) (l : Nat), linkUp s = true ∧ 4 ≤ l) ∧
    (∃ (s : State) (l : Nat), linkUp s = true ∧ l < 4) ∧
    (∃ (s : State) (l : Nat) (hs : List Nat), linkUp s = true ∧ l < 4 ∧ hs ≠ [] ∧ ((tgetD s.cxl.logs l
      {}).records.map fun r => r.handle).take hs.length = hs) ∧
    (∃ (s : State), linkUp s = true) ∧
    (∃ (s : State) (p : List Nat), linkUp s = true ∧ p.length = 4 ∧ p.all (· ≤ 1) = true) ∧
    (∃ (s : State) (p : List Nat), linkUp s = true ∧ (p.length ≠ 4 ∨ p.all (· ≤ 1) = false)) ∧
    (∃ (s : State), linkUp s = true) ∧
    (∃ (s : State) (a : Nat), linkUp s = true ∧ s.cxl.stampAt = some a) ∧
    (∃ (s : State), linkUp s = true ∧ s.cxl.stampAt = none) ∧
    (∃ (s : State) (v : BitVec 64), linkUp s = true) ∧
    (∃ (s : State), linkUp s = true) ∧
    (∃ (s : State) (u : BitVec 128) (o : Nat) (n : Nat), linkUp s = true ∧ u.toNat = celUuid ∧ o + n ≤
      celBytes.length) ∧
    (∃ (s : State) (u : BitVec 128) (o : Nat) (n : Nat), linkUp s = true ∧ (u.toNat ≠ celUuid ∨ celBytes.length < o
      + n)) ∧
    (∃ (s : State), linkUp s = true) ∧
    (∃ (s : State), linkUp s = true) ∧
    (∃ (s : State) (u : State) (v : BitVec 64), linkUp s = true ∧ drawFree s = (v, u)) ∧
    (∃ (s : State) (o : Nat), linkUp s = true ∧ o ∉ [0x0100, 0x0101, 0x0102, 0x0103, 0x0200, 0x0300, 0x0301, 0x0400,
      0x0401, 0x4000, 0x4100, 0x4200]) := by
  and_intros
  · refine ⟨wCxl, 3, ?_, ?_⟩ <;> decide +kernel
  · refine ⟨wCxl, 4, ?_, ?_⟩ <;> decide +kernel
  · refine ⟨wCxl, 0, ?_, ?_⟩ <;> decide +kernel
  · refine ⟨{ wCxl with cxl := { wCxl.cxl with logs := [(3, { records := [⟨7, 0, 0, 0⟩], nextHandle := 8 })] } }, 3,
      [7], ?_, ?_, ?_, ?_⟩ <;> decide +kernel
  · refine ⟨wCxl, ?_⟩; decide +kernel
  · refine ⟨wCxl, [1, 0, 1, 0], ?_, ?_, ?_⟩ <;> decide +kernel
  · refine ⟨wCxl, [1], ?_, ?_⟩ <;> decide +kernel
  · refine ⟨{ wCxl with cxl := { wCxl.cxl with logs := [(3, { records := [⟨7, 0, 0, 0⟩], nextHandle := 8 })] } },
      ?_⟩; decide +kernel
  · refine ⟨{ wCxl with cxl := { wCxl.cxl with stampAt := some 0 } }, _, ?_, some_eq _ ?_⟩ <;> decide +kernel
  · refine ⟨wCxl, ?_, ?_⟩ <;> decide +kernel
  · refine ⟨wCxl, 9, ?_⟩; decide +kernel
  · refine ⟨wCxl, ?_⟩; decide +kernel
  · refine ⟨wCxl, (BitVec.ofNat 128 celUuid), 4, 4, ?_, ?_, ?_⟩ <;> decide +kernel
  · refine ⟨wCxl, 0, 0, 0, ?_, ?_⟩ <;> decide +kernel
  · refine ⟨wCxl, ?_⟩; decide +kernel
  · refine ⟨{ wCxl with cxl := { wCxl.cxl with logs := [(3, { records := [⟨7, 0, 0, 0⟩], nextHandle := 8 })] } },
      ?_⟩; decide +kernel
  · refine ⟨wCxl, _, _, ?_, pair_of _⟩; decide +kernel
  · refine ⟨wCxl, 0, ?_, ?_⟩ <;> decide +kernel

/-- The hypotheses of MailboxCommandsMoveMessages can be met, clause by clause. -/
theorem meets_MailboxCommandsMoveMessages :
    (∃ (s : State) (v : W32) (b : MbxBind), locked s pgMBXC = false ∧ b = { sender := if (ri s 2 (ra pgMBXC 0x100) %
                                                                              64) = 63 then 2 else fld v.toNat 0 13,
                                                                            receiver := fld v.toNat 13 13, valid :=
                                                                              v.toNat.testBit 26 } ∧ (b.valid =
      false ∨ (b.sender ≠ b.receiver ∧ mbxIdentity b.sender = true ∧ mbxIdentity b.receiver = true))) ∧
    (∃ (s : State) (id : Nat) (ch : Nat) (v : W32), ch < 64 ∧ v.toNat.testBit 9 = true ∧ (mbxBind s ch).valid = true
      ∧ (mbxBind s ch).sender = id ∧ mbxFull s ch = false ∧ 1 ≤ fld v.toNat 0 9 ∧ fld v.toNat 0 9 ≤ 256 ∧ mbxLocked
      s ch = true) ∧
    (∃ (s : State) (id : Nat) (ch : Nat), ch < 64 ∧ (mbxBind s ch).valid = true ∧ (mbxBind s ch).sender = id ∧
      mbxFull s ch = true) ∧
    (∃ (s : State) (id : Nat) (ch : Nat), ch < 64 ∧ (mbxBind s ch).valid = true ∧ (mbxBind s ch).receiver = id ∧
      mbxFull s ch = true) ∧
    (∃ (s : State) (id : Nat) (ch : Nat) (v : W32), ch < 64 ∧ v.toNat.testBit 9 = true ∧ ((mbxBind s ch).valid =
      false ∨ (mbxBind s ch).sender ≠ id)) ∧
    (∃ (s : State) (id : Nat) (ch : Nat), ch < 64 ∧ ((mbxBind s ch).valid = false ∨ (mbxBind s ch).receiver ≠ id)) ∧
    (∃ (s : State) (u : State) (ch : Nat) (d : Bytes), takeRunnel s (runMailbox ch 0 d) = some u ∧ ch < 64 ∧
      (mbxBind s ch).valid = true ∧ (mbxBind s ch).sender = 4 ∧ mbxFull u ch = false ∧ mbxLocked u ch = true ∧ d ≠
      [] ∧ d.length ≤ 256) ∧
    (∃ (s : State) (u : State) (ch : Nat) (d : Bytes), takeRunnel s (runMailbox ch 1 d) = some u ∧ ch < 64 ∧
      (mbxBind s ch).valid = true ∧ (mbxBind s ch).receiver = 4 ∧ mbxFull u ch = true) ∧
    (∃ (s : State) (ch : Nat), ch < 64 ∧ mbxFull s ch = true ∧ mbxRx s ch = 0) := by
  and_intros
  · refine ⟨State.reset, 0x4006001, _, ?_, rfl, ?_⟩ <;> decide +kernel
  · refine ⟨(wMbx false), 2, 63, 0x240, ?_, ?_, ?_, ?_, ?_, ?_, ?_, ?_⟩ <;> decide +kernel
  · refine ⟨(wMbx true), 2, 63, ?_, ?_, ?_, ?_⟩ <;> decide +kernel
  · refine ⟨(wMbx true), 3, 63, ?_, ?_, ?_, ?_⟩ <;> decide +kernel
  · refine ⟨(wMbx true), 3, 63, 0x240, ?_, ?_, ?_⟩ <;> decide +kernel
  · refine ⟨State.reset, 0, 0, ?_, ?_⟩ <;> decide +kernel
  · refine ⟨(wRun (let s := wServ; let s := { s with mbx := { s.mbx with binds := [(5, { sender := 4, receiver := 3, valid := true })] } }; wb (wb s (mbxStat 5) 0 false) (ra pgMBXC 0x008) 2 true) (runMailbox 5 0 [7])), _, 5, [7], some_state _ ?_, ?_, ?_, ?_, ?_, ?_, ?_, ?_⟩ <;> decide +kernel
  · refine ⟨(wRun (let s := wServ; let s := { s with mbx := { s.mbx with binds := [(5, { sender := 3, receiver := 4, valid := true })] } }; wb (wb s (mbxStat 5) 0 true) (ra pgMBXC 0x008) 2 true) (runMailbox 5 1 [])), _, 5, [], some_state _ ?_, ?_, ?_, ?_, ?_⟩ <;> decide +kernel
  · refine ⟨(wMbx true), 63, ?_, ?_, ?_⟩ <;> decide +kernel

/-- The hypotheses of DramCommandsAct can be met, clause by clause. -/
theorem meets_DramCommandsAct :
    (∃ (s : State) (u : State) (v : State) (ch : Nat) (ca : Nat) (r : DramReq), ch < 24 ∧ chanState s ch = 2 ∧ u =
      drainUpdate (serveQueued s ch) ch ∧ dramPick u ch = some r ∧ ca = servedCa u ch r.row ∧ v = count (if rowHit u
      ch r then count u (drPage ch) 5 1 else u) (drPage ch) (if r.write then 4 else 3) 1) ∧
    (∃ (s : State) (ch : Nat) (da : Nat) (us : List (Nat × Nat × BitVec 16)), ch < 24) ∧
    (∃ (s : State) (ch : Nat) (l : Nat) (e : MergeEntry), (mergeOf s ch).find? (fun e => e.line = l) = some e) ∧
    (∃ (s : State) (ch : Nat) (sc : Nat) (bank : Nat) (k : Nat), ch < 24 ∧ sc < 2 ∧ bank < 8 ∧ 1 ≤ chanState s ch ∧
      k = (ch * 2 + sc) * 8 + bank ∧ refUrgent s ch sc (bank / 4) (bank % 4) = true ∧ tgetD s.dram.refDue k 0 < 4) ∧
    (∃ (s : State) (ch : Nat) (sc : Nat) (bank : Nat) (k : Nat), ch < 24 ∧ sc < 2 ∧ bank < 8 ∧ 1 ≤ chanState s ch ∧
      k = (ch * 2 + sc) * 8 + bank ∧ refUrgent s ch sc (bank / 4) (bank % 4) = true ∧ 4 ≤ tgetD s.dram.refDue k 0) ∧
    (∃ (s : State) (ch : Nat) (sc : Nat) (bank : Nat) (k : Nat), ch < 24 ∧ sc < 2 ∧ bank < 8 ∧ 1 ≤ chanState s ch ∧
      k = (ch * 2 + sc) * 8 + bank ∧ refUrgent s ch sc (bank / 4) (bank % 4) = false) ∧
    (∃ (s : State) (ch : Nat), ch < 24 ∧ 1 ≤ chanState s ch) ∧
    (∃ (s : State) (u : State) (v : State) (ch : Nat) (t : Nat) (b : Nat), ch < 24 ∧ 1 ≤ chanState s ch ∧ b = bandOf
      (rf s (drStat ch) 4 4) t ∧ u = wf (wf s (drStat ch) 8 8 (min 255 t)) (drStat ch) 4 4 b ∧ v = (rangeFrom 0
      24).foldl (fun x c => wb x (drStat c) 16 (((rangeFrom 0 24).any fun c => 85 ≤ rf u (drStat c) 8 8) && decide
      (1 ≤ chanState x c))) u ∧ b = rf s (drStat ch) 4 4) ∧
    (∃ (s : State) (u : State) (v : State) (ch : Nat) (t : Nat) (b : Nat), ch < 24 ∧ 1 ≤ chanState s ch ∧ b = bandOf
      (rf s (drStat ch) 4 4) t ∧ u = wf (wf s (drStat ch) 8 8 (min 255 t)) (drStat ch) 4 4 b ∧ v = (rangeFrom 0
      24).foldl (fun x c => wb x (drStat c) 16 (((rangeFrom 0 24).any fun c => 85 ≤ rf u (drStat c) 8 8) && decide
      (1 ≤ chanState x c))) u ∧ b ≠ rf s (drStat ch) 4 4) ∧
    (∃ (s : State) (u : State) (id : Nat) (ch : Nat) (v : W32), ch < 24 ∧ isFw id = true ∧ u = wr s (ra (drPage ch)
      0x138) (writeFields false (rd s (ra (drPage ch) 0x138)) v.toNat [fRW 0 4]) ∧ v.toNat.testBit 4 = true) ∧
    (∃ (s : State) (u : State) (id : Nat) (ch : Nat) (v : W32), ch < 24 ∧ isFw id = true ∧ u = wr s (ra (drPage ch)
      0x138) (writeFields false (rd s (ra (drPage ch) 0x138)) v.toNat [fRW 0 4]) ∧ v.toNat.testBit 4 = false) ∧
    (∃ (s : State) (ch : Nat), ch < 24 ∧ rb s (drStat ch) 17 = true) ∧
    (∃ (s : State) (id : Nat) (ch : Nat) (k : Nat), remapOpen s id ch = true ∧ remapSlot s ch (remapKey s id ch) =
      none ∧ freeSlot s ch = some k) ∧
    (∃ (s : State) (id : Nat) (ch : Nat) (k : Nat), remapOpen s id ch = true ∧ remapSlot s ch (remapKey s id ch) =
      some k) ∧
    (∃ (s : State) (id : Nat) (ch : Nat), remapOpen s id ch = true ∧ remapSlot s ch (remapKey s id ch) = none ∧
      freeSlot s ch = none) ∧
    (∃ (s : State) (id : Nat) (ch : Nat) (k : Nat), remapOpen s id ch = true ∧ remapSlot s ch (remapKey s id ch) =
      some k) ∧
    (∃ (s : State) (id : Nat) (ch : Nat), remapOpen s id ch = true ∧ remapSlot s ch (remapKey s id ch) = none) ∧
    (∃ (s : State) (u : State) (id : Nat) (ch : Nat), remapOpen s id ch = true ∧ chanState s ch ≠ 2 ∧ u = { s with dram := { s.dram with ppr := tput s.dram.ppr ch (insNat (remapKey s id ch) (tgetD s.dram.ppr ch [])) } }) ∧
    (∃ (s : State) (u : State) (id : Nat) (ch : Nat) (k : Nat), remapOpen s id ch = true ∧ chanState s ch ≠ 2 ∧
      remapSlot s ch (remapKey s id ch) = none ∧ freeSlot s ch = some k ∧ u = wb (remapInstall s ch k (remapKey s id
      ch)) (drCmd ch) 4 true) ∧
    (∃ (s : State) (id : Nat) (ch : Nat) (r : Bool), remapOpen s id ch = true ∧ chanState s ch = 2) ∧
    (∃ (s : State) (ch : Nat) (k : Nat) (key : Nat) (a : Bool), tget s.dram.copying ch = some (k, key, a)) ∧
    (∃ (s : State) (ch : Nat) (key : Nat) (ks : List Nat), tgetD s.fault.rowWait ch [] = key :: ks ∧ ch < 24 ∧ rb s
      (ra pgFLT 0x100) 0 = true ∧ rb s (drCmd ch) 2 = false) ∧
    (∃ (s : State) (ch : Nat), ch < 24 ∧ chanState s ch = 2) := by
  and_intros
  · refine ⟨{ wChan 2 with dram := { wServ.dram with queue := [(23, [⟨0, 5, false, 10, 3, 3⟩])] } }, _, _, 23, _, _,
      ?_, ?_, rfl, some_eq _ ?_, rfl, rfl⟩ <;> decide +kernel
  · refine ⟨(wChan 2), 23, 0x170000, [], ?_⟩; decide +kernel
  · refine ⟨{ wChan 2 with dram := { wServ.dram with merge := [(23, [⟨5, 1, zeros 64, 0⟩])] } }, 23, 5, ⟨5, 1, zeros
      64, 0⟩, ?_⟩; decide +kernel
  · refine ⟨{ wChan 2 with dram := { wServ.dram with queue := [(23, [⟨0, 5, false, 10, 3, 3⟩])] } }, 23, 0, 0, _,
      ?_, ?_, ?_, ?_, rfl, ?_, ?_⟩ <;> decide +kernel
  · refine ⟨{ wChan 1 with dram := { wServ.dram with refDue := [(368, 4)], queue := [(23, [⟨0, 5, false, 0, 3, 3⟩])] } },
      23, 0, 0, _, ?_, ?_, ?_, ?_, rfl, ?_, ?_⟩ <;> decide +kernel
  · refine ⟨(wChan 1), 23, 1, 0, _, ?_, ?_, ?_, ?_, rfl, ?_⟩ <;> decide +kernel
  · refine ⟨{ wChan 2 with dram := { wServ.dram with queue := [(23, [⟨0, 5, false, 10, 3, 3⟩])] } }, 23, ?_, ?_⟩ <;>
      decide +kernel
  · refine ⟨{ wChan 2 with dram := { wServ.dram with queue := [(23, [⟨0, 5, false, 10, 3, 3⟩])] } }, _, _, 23, 0, _,
      ?_, ?_, rfl, rfl, rfl, ?_⟩ <;> decide +kernel
  · refine ⟨(wChan 1), _, _, 23, 86, _, ?_, ?_, rfl, rfl, rfl, ?_⟩ <;> decide +kernel
  · refine ⟨State.reset, _, 0x14, 23, 0x1F, ?_, ?_, rfl, ?_⟩ <;> decide +kernel
  · refine ⟨State.reset, _, 2, 23, 0, ?_, ?_, rfl, ?_⟩ <;> decide +kernel
  · refine ⟨(wb State.reset (drStat 23) 17 true), 23, ?_, ?_⟩ <;> decide +kernel
  · refine ⟨State.reset, 2, 23, _, ?_, ?_, some_eq _ ?_⟩ <;> decide +kernel
  · refine ⟨(wi { wServ with dram := { wServ.dram with remap := [(94208, 5)] } } 2 (ra (drPage 23) 0x13C) 5), 2, 23,
      _, ?_, some_eq _ ?_⟩ <;> decide +kernel
  · refine ⟨{ wServ with dram := { wServ.dram with remap := (rangeFrom 0 4096).map fun k => (94208 + k, 100 + k) } },
      2, 23, ?_, ?_, ?_⟩ <;> decide +kernel
  · refine ⟨{ State.reset with dram := { State.reset.dram with remap := [(23 * 4096 + 5, 0)] } }, 2, 23, _, ?_,
      some_eq _ ?_⟩ <;> decide +kernel
  · refine ⟨State.reset, 2, 0, ?_, ?_⟩ <;> decide +kernel
  · refine ⟨State.reset, _, 2, 23, ?_, ?_, rfl⟩ <;> decide +kernel
  · refine ⟨State.reset, _, 2, 23, _, ?_, ?_, ?_, some_eq _ ?_, rfl⟩ <;> decide +kernel
  · refine ⟨(wChan 2), 2, 23, true, ?_, ?_⟩ <;> decide +kernel
  · refine ⟨{ wServ with dram := { wServ.dram with copying := [(23, (1, 5, true))] } }, 23, 1, 5, true, ?_⟩;
      decide +kernel
  · refine ⟨{ wb State.reset (ra pgFLT 0x100) 0 true with fault := { State.reset.fault with rowWait := [(23, [7])] } },
      23, 7, [], ?_, ?_, ?_, ?_⟩ <;> decide +kernel
  · refine ⟨(wf State.reset (drStat 23) 0 2 2), 23, ?_, ?_⟩ <;> decide +kernel

/-- The hypotheses of BasinAccessesAndAtomics can be met, clause by clause. -/
theorem meets_BasinAccessesAndAtomics :
    (∃ (s : State) (a : BasinAccess) (n : Nat), a.group < 64 ∧ a.offset < 0x4000000 ∧ servingBank s a.group
      (a.offset / 64 * 64) = some n ∧ a.write = none) ∧
    (∃ (s : State) (a : BasinAccess) (n : Nat) (c : Nat) (d : Bytes) (m : BitVec 64), a.group < 64 ∧ a.offset <
      0x4000000 ∧ servingBank s a.group (a.offset / 64 * 64) = some n ∧ a.write = some (d, m, c)) ∧
    (∃ (s : State) (q : AtomicReq) (pl : Place), atomicAllowed s .addI32 q pl) ∧
    (∃ (s : State) (q : AtomicReq), q.pa % 4 ≠ 0) ∧
    (∃ (s : State) (q : AtomicReq) (pl : Place), atomicAllowed s .addI64 q pl) ∧
    (∃ (s : State) (q : AtomicReq), q.pa % 8 ≠ 0) ∧
    (∃ (s : State) (q : AtomicReq) (pl : Place), atomicAllowed s .addF32 q pl) ∧
    (∃ (s : State) (q : AtomicReq), q.pa % 4 ≠ 0) ∧
    (∃ (s : State) (q : AtomicReq) (pl : Place), atomicAllowed s .addBf16x2 q pl) ∧
    (∃ (s : State) (q : AtomicReq), q.pa % 4 ≠ 0) ∧
    (∃ (s : State) (q : AtomicReq) (pl : Place), atomicAllowed s .swap32 q pl) ∧
    (∃ (s : State) (q : AtomicReq), q.pa % 4 ≠ 0) ∧
    (∃ (s : State) (q : AtomicReq) (pl : Place), atomicAllowed s .swap64 q pl) ∧
    (∃ (s : State) (q : AtomicReq), q.pa % 8 ≠ 0) ∧
    (∃ (k : AtomicKind) (q : AtomicReq) (l : Bytes) (j : Nat), l.length = 64 ∧ q.pa % 64 + atomicWidth k ≤ 64 ∧ j <
      64) := by
  and_intros
  · refine ⟨State.reset, { group := 63, offset := 0x3FFFFFF }, _, ?_, ?_, some_eq _ ?_, ?_⟩ <;> decide +kernel
  · refine ⟨State.reset, { group := 0, offset := 0, write := some ([], 1, 0) }, _, 0, [], 1, ?_, ?_, some_eq _ ?_,
      ?_⟩ <;> decide +kernel
  · exact ⟨wPool, ⟨wVa + 56, 1⟩, ⟨0, wRegion, false, wVa + 56⟩, (by unfold atomicAllowed; decide +kernel)⟩
  · refine ⟨wPool, ⟨wVa + 1, 1⟩, ?_⟩; decide +kernel
  · exact ⟨wPool, ⟨wVa + 56, 1⟩, ⟨0, wRegion, false, wVa + 56⟩, (by unfold atomicAllowed; decide +kernel)⟩
  · refine ⟨wPool, ⟨wVa + 1, 1⟩, ?_⟩; decide +kernel
  · exact ⟨wPool, ⟨wVa + 56, 1⟩, ⟨0, wRegion, false, wVa + 56⟩, (by unfold atomicAllowed; decide +kernel)⟩
  · refine ⟨wPool, ⟨wVa + 1, 1⟩, ?_⟩; decide +kernel
  · exact ⟨wPool, ⟨wVa + 56, 1⟩, ⟨0, wRegion, false, wVa + 56⟩, (by unfold atomicAllowed; decide +kernel)⟩
  · refine ⟨wPool, ⟨wVa + 1, 1⟩, ?_⟩; decide +kernel
  · exact ⟨wPool, ⟨wVa + 56, 1⟩, ⟨0, wRegion, false, wVa + 56⟩, (by unfold atomicAllowed; decide +kernel)⟩
  · refine ⟨wPool, ⟨wVa + 1, 1⟩, ?_⟩; decide +kernel
  · exact ⟨wPool, ⟨wVa + 56, 1⟩, ⟨0, wRegion, false, wVa + 56⟩, (by unfold atomicAllowed; decide +kernel)⟩
  · refine ⟨wPool, ⟨wVa + 1, 1⟩, ?_⟩; decide +kernel
  · refine ⟨.addI64, ⟨wVa + 56, 1⟩, (zeros 64), 1, ?_, ?_, ?_⟩ <;> decide +kernel

/-- The hypotheses of BankCommandsAct can be met, clause by clause. -/
theorem meets_BankCommandsAct :
    (∃ (s : State) (g : Nat) (n : Nat), g < 64 ∧ n < 17 ∧ mayRet s g n = true ∧ bankPwr s g n = 0 ∧ 1 ≤ bankLevel s
      g) ∧
    (∃ (s : State) (u : State) (id : Nat) (g : Nat) (n : Nat) (r : Nat), g < 64 ∧ isFw id = true ∧ bankBusy s g =
      false ∧ u = cmdErr s g false ∧ n < 17 ∧ bankRole u g n = 0 ∧ reserveBank u g = some r) ∧
    (∃ (s : State) (u : State) (id : Nat) (g : Nat) (n : Nat), g < 64 ∧ isFw id = true ∧ bankBusy s g = false ∧ u =
      cmdErr s g false ∧ (17 ≤ n ∨ bankRole u g n ≠ 0 ∨ reserveBank u g = none)) ∧
    (∃ (s : State) (g : Nat) (n : Nat) (r : Nat) (k : Nat), tget s.basin.subst g = some (n, r, k)) ∧
    (∃ (s : State) (u : State) (id : Nat) (g : Nat) (n : Nat), g < 64 ∧ isFw id = true ∧ bankBusy s g = false ∧ u =
      cmdErr s g false ∧ n < 17 ∧ (bankRole u g n = 1 ∨ bankRole u g n = 2)) ∧
    (∃ (s : State) (u : State) (v : State) (g : Nat) (n : Nat), tget s.basin.test g = some n ∧ u = wb { s with basin := { s.basin with test := tdel s.basin.test g } }
      (bankCmd g) 8 false ∧ v = setPwr (setBankRole u g n 1) g n 2) ∧
    (∃ (s : State) (u : State) (v : State) (g : Nat) (n : Nat), tget s.basin.test g = some n ∧ u = wb { s with basin := { s.basin with test := tdel s.basin.test g } }
      (bankCmd g) 8 false ∧ v = setPwr (setBankRole u g n 2) g n 2) ∧
    (∃ (s : State) (u : State) (id : Nat) (g : Nat) (n : Nat), g < 64 ∧ isFw id = true ∧ bankBusy s g = false ∧ u =
      cmdErr s g false ∧ n < 17 ∧ bankRole u g n = 0) ∧
    (∃ (s : State) (u : State) (id : Nat) (g : Nat) (n : Nat), g < 64 ∧ isFw id = true ∧ bankBusy s g = false ∧ u =
      cmdErr s g false ∧ n < 17 ∧ mayRet u g n = true) ∧
    (∃ (s : State) (u : State) (id : Nat) (g : Nat) (n : Nat), g < 64 ∧ isFw id = true ∧ bankBusy s g = false ∧ u =
      cmdErr s g false ∧ n < 17 ∧ mayOff u g n = true) ∧
    (∃ (s : State) (u : State) (g : Nat) (n : Nat) (r : Nat) (ns : List Nat), tgetD s.fault.bankWait g [] = n :: ns
      ∧ g < 64 ∧ rb s (ra pgFLT 0x100) 1 = true ∧ bankBusy s g = false ∧ u = { s with fault := { s.fault with bankWait := tset [] s.fault.bankWait g ns } }
      ∧ n < 17 ∧ bankRole u g n = 0 ∧ reserveBank u g = some r) ∧
    (∃ (s : State) (g : Nat) (n : Nat) (c : Nat), g < 64 ∧ n < 17 ∧ bankPwr s g n = 2 ∧ (bankRole s g n = 1 ∨
      bankRole s g n = 2) ∧ 0 < tgetD s.basin.cols (globalBank g n) 32) ∧
    (∃ (s : State) (id : Nat) (g : Nat) (n : Nat), g < 64 ∧ isFw id = true ∧ bankBusy s g = true) := by
  and_intros
  · refine ⟨(wf (wf (wf wServ (ra pgPWR 0x100) 0 2 3) (bankReg 63 16) 6 2 0) (bankReg 63 16) 4 2 0), 63, 16, ?_, ?_,
      ?_, ?_, ?_⟩ <;> decide +kernel
  · refine ⟨(wf (wf (wServ) (bankReg 63 16) 6 2 1) (bankReg 63 16) 4 2 0), _, 2, 63, 0, _, ?_, ?_, ?_, rfl, ?_, ?_,
      some_eq _ ?_⟩ <;> decide +kernel
  · refine ⟨(wf (wf (wServ) (bankReg 63 16) 6 2 2) (bankReg 63 16) 4 2 0), _, 2, 63, 16, ?_, ?_, ?_, rfl, ?_⟩ <;>
      decide +kernel
  · refine ⟨{ State.reset with basin := { State.reset.basin with subst := [(3, (1, 16, 0))] } }, 3, 1, 16, 0, ?_⟩;
      decide +kernel
  · refine ⟨(wf (wf (wServ) (bankReg 63 16) 6 2 2) (bankReg 63 16) 4 2 0), _, 2, 63, 16, ?_, ?_, ?_, rfl, ?_, ?_⟩
      <;> decide +kernel
  · refine ⟨{ State.reset with basin := { State.reset.basin with test := [(3, 16)] } }, _, _, 3, _, some_eq _ ?_,
      rfl, rfl⟩; decide +kernel
  · refine ⟨{ State.reset with basin := { State.reset.basin with test := [(3, 16)] } }, _, _, 3, _, some_eq _ ?_,
      rfl, rfl⟩; decide +kernel
  · refine ⟨(wf (wf (wServ) (bankReg 63 16) 6 2 0) (bankReg 63 16) 4 2 0), _, 2, 63, 16, ?_, ?_, ?_, rfl, ?_, ?_⟩
      <;> decide +kernel
  · refine ⟨(wf (wf (wServ) (bankReg 63 16) 6 2 0) (bankReg 63 16) 4 2 0), _, 2, 63, 16, ?_, ?_, ?_, rfl, ?_, ?_⟩
      <;> decide +kernel
  · refine ⟨(wf (wf (wServ) (bankReg 63 16) 6 2 1) (bankReg 63 16) 4 2 0), _, 2, 63, 0, ?_, ?_, ?_, rfl, ?_, ?_⟩ <;>
      decide +kernel
  · refine ⟨{ wb State.reset (ra pgFLT 0x100) 1 true with fault := { State.reset.fault with bankWait := [(63, [7])] } },
      _, 63, 7, _, [], ?_, ?_, ?_, ?_, rfl, ?_, ?_, some_eq _ ?_⟩ <;> decide +kernel
  · refine ⟨(wf (wf (wServ) (bankReg 63 16) 6 2 2) (bankReg 63 16) 4 2 2), 63, 16, 31, ?_, ?_, ?_, ?_, ?_⟩ <;>
      decide +kernel
  · refine ⟨(wb State.reset (bankCmd 63) 8 true), 2, 63, 16, ?_, ?_, ?_⟩ <;> decide +kernel

/-- The hypotheses of FaultCommandsAct can be met, clause by clause. -/
theorem meets_FaultCommandsAct :
    (∃ (s : State) (h : Nat) (o : Op), ready s h 0x20 = some o ∧ scrubOk s h o = true) ∧
    (∃ (s : State) (h : Nat) (o : Op), ready s h 0x20 = some o ∧ scrubOk s h o = false) ∧
    (∃ (s : State) (u : State) (v : State) (w : State) (h : Nat) (o : Op) (cut : BitVec 64) (bad : BitVec 64) (x :
      Scrubbed) (b : Bool), opOf s h = some o ∧ o.opcode = 0x20 ∧ o.phase = .running ∧ drawFree s = (cut, u) ∧
      drawFree u = (bad, v) ∧ x = scrubRead v o cut.toNat ∧ userWrite v (opUser o (.fetch h) h) (sumPa o)
      (scrubBytes x o.prog (bad.toNat % (x.blocks + 1))) 0 .atomic = .done b w) ∧
    (∃ (s : State) (b : Bool) (i : Nat), i < (if b then 64 else 24)) ∧
    (∃ (s : State) (h : Nat) (o : Op) (es : List Nat), ready s h 0x21 = some o ∧ namedEngines s o = some es) ∧
    (∃ (s : State) (h : Nat) (g : Nat) (e : Nat) (n : Nat) (o : Op), opOf s h = some o ∧ o.opcode = 0x21 ∧ o.phase =
      .running ∧ testEngine s g = some e ∧ o.tests.find? (fun t => t.1 = g) = some (g, n) ∧ testedEarlier s h e =
      false ∧ s.cmd.tiles.any (fun t => t.eng = some e) = false ∧ 1 < n) ∧
    (∃ (s : State) (h : Nat) (g : Nat) (e : Nat) (n : Nat) (o : Op), opOf s h = some o ∧ o.opcode = 0x21 ∧ o.phase =
      .running ∧ testEngine s g = some e ∧ o.tests.find? (fun t => t.1 = g) = some (g, n) ∧ testedEarlier s h e =
      false ∧ s.cmd.tiles.any (fun t => t.eng = some e) = false ∧ n ≤ 1) ∧
    (∃ (s : State) (u : State) (v : State) (h : Nat) (g : Nat) (e : Nat) (n : Nat) (o : Op), opOf s h = some o ∧
      o.opcode = 0x21 ∧ o.phase = .running ∧ testEngine s g = some e ∧ o.tests.find? (fun t => t.1 = g) = some (g,
      n) ∧ testedEarlier s h e = false ∧ s.cmd.tiles.any (fun t => t.eng = some e) = false ∧ u = retireEngine (modOp
      s h (fun o => { o with tests := o.tests.filter fun t => t.1 ≠ g, tested := o.tested + 1, testFails :=
                               o.testFails ++ [e] })) e ∧ v = (if coreRole u (e / 4) = 3 then modOp u h fun o => { o with substituted := o.substituted + 1 }
      else u)) ∧
    (∃ (s : State) (id : Nat), isCp id = true) ∧
    (∃ (s : State) (t : State) (u : State) (v : State) (c : Nat) (n : Nat), c < 5 ∧ cpLate s c = true ∧ t = eventAt
      (setCpRole s c 2) pgFLT sevError clCp c ∧ u = (tkeys t.cmd.ops (heldBy t c)).foldl (fun s h => endWith
      (leaveQueue s h) h stInternal [0, 0, 0, 0]) t ∧ (rangeFrom 0 5).find? (fun n => cpRole u n = 1) = some n ∧ v =
      wb (setCpRole u n 0) (ra pgFLT 0x138) 21 false) ∧
    (∃ (s : State) (t : State) (u : State) (c : Nat), c < 5 ∧ cpLate s c = true ∧ t = eventAt (setCpRole s c 2)
      pgFLT sevError clCp c ∧ u = (tkeys t.cmd.ops (heldBy t c)).foldl (fun s h => endWith (leaveQueue s h) h
      stInternal [0, 0, 0, 0]) t ∧ (rangeFrom 0 5).find? (fun n => cpRole u n = 1) = none) ∧
    (∃ (s : State) (id : Nat) (n : Nat) (v : W32), n = (v.toNat % 4096 + 4096 - rd s (ra pgFLT 0x118)) % 4096 ∧ n ≤
      s.fault.used) ∧
    (∃ (s : State) (id : Nat) (v : W32), s.fault.used < (v.toNat % 4096 + 4096 - rd s (ra pgFLT 0x118)) % 4096) ∧
    (∃ (s : State) (k : Nat) (x : OvfSlot), s.fault.ovf = [(k, x)] ∧ entryFree s x.sev = true) ∧
    (∃ (s : State) (u : State) (id : Nat), u = wf { s with fault := { s.fault with acked := 0 } } (ra pgFLT 0x128) 2
      12 (rf s (ra pgFLT 0x128) 2 12 - s.fault.acked) ∧ (s.fault.acked < rf s (ra pgFLT 0x128) 2 12 ∨ rb u (ra pgFLT
      0x128) 0 = false)) ∧
    (∃ (s : State) (u : State) (id : Nat), u = wf { s with fault := { s.fault with acked := 0 } } (ra pgFLT 0x128) 2
      12 (rf s (ra pgFLT 0x128) 2 12 - s.fault.acked) ∧ rf s (ra pgFLT 0x128) 2 12 ≤ s.fault.acked ∧ rb u (ra pgFLT
      0x128) 0 = true) := by
  and_intros
  · refine ⟨{ wPool with cmd := { wPool.cmd with ops := [(1, wOp 0x20 [0, 0, 0, 0, 1, 0, 0x40000000, 0])] } }, 1, _,
      some_eq _ ?_, ?_⟩ <;> decide +kernel
  · refine ⟨{ wPool with cmd := { wPool.cmd with ops := [(1, wOp 0x20 [3, 0, 0, 0, 1, 0, 0x40000000, 0])] } }, 1, _,
      some_eq _ ?_, ?_⟩ <;> decide +kernel
  · refine ⟨{ wPool with cmd := { wPool.cmd with ops := [(1, { wOp 0x20 [0, 0, 0, 0, 1, 0, 0x40000000, 0] with phase := .running })] } },
      _, _, _, 1, _, _, _, _, _, some_eq _ ?_, ?_, ?_, pair_of _, pair_of _, rfl, go_eq _ ?_⟩ <;> decide +kernel
  · refine ⟨State.reset, true, 63, ?_⟩; decide +kernel
  · refine ⟨(wSt (wOp 0x21 [2])), 1, _, _, some_eq _ ?_, some_eq _ ?_⟩ <;> decide +kernel
  · refine ⟨(wSt ({ wOp 0x21 [2] with phase := .running, tests := [(75, 2)] })), 1, 75, _, 2, _, some_eq _ ?_, ?_,
      ?_, some_eq _ ?_, ?_, ?_, ?_, ?_⟩ <;> decide +kernel
  · refine ⟨(wSt { wOp 0x21 [2] with phase := .running, tests := [(75, 1)] }), 1, 75, _, 1, _, some_eq _ ?_, ?_, ?_,
      some_eq _ ?_, ?_, ?_, ?_, ?_⟩ <;> decide +kernel
  · refine ⟨(wSt { wOp 0x21 [2] with phase := .running, tests := [(75, 1)] }), _, _, 1, 75, _, 1, _, some_eq _ ?_,
      ?_, ?_, some_eq _ ?_, ?_, ?_, ?_, rfl, rfl⟩ <;> decide +kernel
  · refine ⟨State.reset, 0x14, ?_⟩; decide +kernel
  · refine ⟨(wf { wServ with now := 2 ^ 40 } (ra pgFLT 0x130) 10 10 0x100), _, _, _, 0, _, ?_, ?_, rfl, rfl, some_eq
      _ ?_, rfl⟩ <;> decide +kernel
  · refine ⟨(wf { wServ with now := 2 ^ 40 } (ra pgFLT 0x130) 10 10 0), _, _, 0, ?_, ?_, rfl, rfl, ?_⟩ <;>
      decide +kernel
  · refine ⟨{ State.reset with fault := { State.reset.fault with used := 4 } }, 2, _, 0x1004, rfl, ?_⟩;
      decide +kernel
  · refine ⟨{ wPool with cmd := { wPool.cmd with ops := [(1, wOp 0x20 [0, 0, 0, 0, 1, 0, 0x40000000, 0])] } }, 1, 1,
      ?_⟩; decide +kernel
  · refine ⟨{ wServ with fault := { wServ.fault with ovf := [(1, ⟨3, { source := 0, sev := 0, cls := 1 }, { source := 0,
                                                                                                            sev := 0,
                                                                                                            cls := 1 },
                                                       0⟩)] } }, 1, ⟨3, { source := 0, sev := 0, cls := 1 }, { source := 0,
                                                                                                               sev := 0,
                                                                                                               cls := 1 },
      0⟩, ?_, ?_⟩ <;> decide +kernel
  · refine ⟨{ wPool with cmd := { wPool.cmd with ops := [(1, wOp 0x20 [0, 0, 0, 0, 1, 0, 0x40000000, 0])] } }, _, 0,
      rfl, ?_⟩; decide +kernel
  · refine ⟨(wb State.reset (ra pgFLT 0x128) 0 true), _, 2, rfl, ?_, ?_⟩ <;> decide +kernel

/-- The hypotheses of PairHeartbeatsAct can be met, clause by clause. -/
theorem meets_PairHeartbeatsAct :
    (∃ (s : State) (u : State), s.pwr.held = 0 ∧ (serving s = true ∨ (pairState s = 3 ∧ s.pair.beats = true)) ∧ u =
      modPair s (fun p => { p with seq := (s.pair.seq + 1) % 65536 })) ∧
    (∃ (s : State) (b : Heartbeat), s.pwr.held = 0 ∧ b.pathB = true ∧ b.crcOk = true) ∧
    (∃ (s : State) (u : State) (b : Heartbeat) (p : Nat), s.pwr.held = 0 ∧ b.pathB = false ∧ b.crcOk = true ∧
      takeBeat s b = some (p, u)) ∧
    (∃ (s : State) (u : State) (b : Heartbeat) (p : Nat), s.pwr.held = 0 ∧ b.pathB = false ∧ takeBeat s b = some (p,
      u)) ∧
    (∃ (s : State) (b : Heartbeat), s.pwr.held = 0 ∧ b.pathB = true ∧ b.crcOk = false) ∧
    (∃ (s : State) (u : State) (b : Heartbeat) (p : Nat), s.pwr.held = 0 ∧ b.pathB = false ∧ b.crcOk = false ∧
      takeBeat s b = some (p, u)) ∧
    (∃ (s : State) (v : State), pathGood s false = true ∧ v = setClean (modPair (wb s pairStat (pathBit false)
      false) fun p => { p with goodA := 0, since := none }) 0 ∧ heartbeatGood v = true) ∧
    (∃ (s : State) (v : State), pathGood s true = true ∧ v = setClean (modPair (wb s pairStat (pathBit true) false)
      fun p => { p with goodB := 0, since := none }) 0 ∧ heartbeatGood v = true) ∧
    (∃ (s : State) (v : State) (u : State), pathGood s false = true ∧ v = setClean (modPair (wb s pairStat (pathBit
      false) false) fun p => { p with goodA := 0, since := none }) 0 ∧ heartbeatGood v = false ∧ u = modPair (wb (wf
      v pairStat 3 3 7) pairStat 8 false) (fun p => { p with pause := false, finalTick := false })) ∧
    (∃ (s : State), serving s = true ∧ s.pair.recognised = true) ∧
    (∃ (s : State), pairState s = 3) ∧
    (∃ (s : State) (u : State) (ds : List Nat), pairState s = 3 ∧ s.pair.fencedSelf = true ∧ heartbeatGood s = false
      ∧ activeDrives s ≠ [] ∧ u = askReports s ∧ (activeDrives u).all ds.contains = true) ∧
    (∃ (s : State) (u : State) (ds : List Nat), pairState s = 3 ∧ s.pair.fencedSelf = true ∧ heartbeatGood s = false
      ∧ activeDrives s ≠ [] ∧ u = askReports s ∧ (activeDrives u).all ds.contains = false) ∧
    (∃ (s : State), usable s 20 = false ∧ usable s 21 = false ∧ pathGood s true = true ∧ pairState s = 0) ∧
    (∃ (s : State), usable s 20 = false ∧ usable s 21 = false ∧ pathGood s true = true ∧ pairState s = 1) ∧
    (∃ (s : State) (a : Bool), s.pair.booting = true ∧ pairState s = 3 ∧ heartbeatGood s = false ∧ partnerState s =
      7 ∧ (if (activeDrives s).isEmpty then !secondary s else a) = true) ∧
    (∃ (s : State) (a : Bool), s.pair.booting = true ∧ pairState s = 3 ∧ heartbeatGood s = false ∧ partnerState s =
      7 ∧ (if (activeDrives s).isEmpty then !secondary s else a) = false) ∧
    (∃ (s : State) (u : State), s.pair.audit = true ∧ u = { (modPair s fun p => { p with audit := false }) with tier := { s.tier with cisUsed := s.tier.cisUsed.filter ((s.tier.subs.filter fun e => e.2.state = 3).map fun e => e.2.frame).contains } }) := by
  and_intros
  · refine ⟨(wf (wb wOn pairStat 6 true) pairStat 0 3 0), _, ?_, ?_, rfl⟩ <;> decide +kernel
  · refine ⟨wOn, ⟨true, 65535, 1, 1, true, 0, true⟩, ?_, ?_, ?_⟩ <;> decide +kernel
  · refine ⟨(wRun wServ (runCtl 1 (natLe 8 (beatFrame 1 1 1 true 5)))), _, { pathB := false, seq := 1, state := 1,
                                                                             role := 1, clean := true, tick := 5 },
      _, ?_, ?_, ?_, some_beat _ ?_⟩ <;> decide +kernel
  · refine ⟨(wRun wServ (runCtl 1 (natLe 8 (beatFrame 1 1 1 true 5)))), _, { pathB := false, seq := 1, state := 1,
                                                                             role := 1, clean := true, tick := 5 },
      _, ?_, ?_, some_beat _ ?_⟩ <;> decide +kernel
  · refine ⟨wOn, ⟨true, 65535, 1, 1, true, 0, false⟩, ?_, ?_, ?_⟩ <;> decide +kernel
  · refine ⟨(wRun wServ (runCtl 1 (natLe 8 (Nat.xor (beatFrame 1 1 1 true 5) (2 ^ 56))))), _, { pathB := false, seq := 1,
                                                                                                state := 1, role := 1,
                                                                                                clean := true, tick := 5,
                                                                                                crcOk := false }, _,
      ?_, ?_, ?_, some_beat _ ?_⟩ <;> decide +kernel
  · refine ⟨(wf wOn pairStat 6 2 3), _, ?_, rfl, ?_⟩ <;> decide +kernel
  · refine ⟨(wf wOn pairStat 6 2 3), _, ?_, rfl, ?_⟩ <;> decide +kernel
  · refine ⟨(wf (wb wOn pairStat 6 true) pairStat 0 3 0), _, _, ?_, rfl, ?_, rfl⟩ <;> decide +kernel
  · refine ⟨{ wf wOn pairStat 0 3 0 with pair := { wOn.pair with recognised := true } }, ?_, ?_⟩ <;> decide +kernel
  · refine ⟨wOn, ?_⟩; decide +kernel
  · refine ⟨{ setDrv (wf wOn pairStat 0 9 3) 15 2 with pair := { wOn.pair with fencedSelf := true } }, _, [15], ?_,
      ?_, ?_, ?_, rfl, ?_⟩ <;> decide +kernel
  · refine ⟨(let s := wDrive wOn; let s := wf s pairStat 0 3 3; { s with pair := { s.pair with fencedSelf := true } }), _, [], ?_, ?_, ?_, ?_, rfl, ?_⟩ <;> decide +kernel
  · refine ⟨(wf (wf (wb (wf wOn pairStat 0 3 0) pairStat 7 true) (ra (pgFAB + 20) 0x104) 0 3 0) (ra (pgFAB + 21)
      0x104) 0 3 0), ?_, ?_, ?_, ?_⟩ <;> decide +kernel
  · refine ⟨(wf (wf (wb (wf wOn pairStat 0 3 1) pairStat 7 true) (ra (pgFAB + 20) 0x104) 0 3 0) (ra (pgFAB + 21)
      0x104) 0 3 0), ?_, ?_, ?_, ?_⟩ <;> decide +kernel
  · refine ⟨{ wf wOn pairStat 0 9 (3 + 56) with pair := { wOn.pair with booting := true } }, false, ?_, ?_, ?_, ?_,
      ?_⟩ <;> decide +kernel
  · refine ⟨(wf (wf (wb { wOn with pair := { wOn.pair with booting := true } } (ra pgPAIR 0x100) 0 true) pairStat 0
      3 3) pairStat 3 3 7), false, ?_, ?_, ?_, ?_, ?_⟩ <;> decide +kernel
  · refine ⟨{ wOn with pair := { wOn.pair with audit := true } }, _, ?_, rfl⟩; decide +kernel

/-- The hypotheses of PairMirrorAndHandoverAct can be met, clause by clause. -/
theorem meets_PairMirrorAndHandoverAct :
    (∃ (s : State) (u : State) (v : State) (t : Nat) (pa : Nat) (d : Bytes) (p : Option Nat) (n : Nat), receives s =
      true ∧ n = (p.map storedCode).getD 0 ∧ takeRunnel s (runMwr t pa none n d) = some u ∧ stagedOn u ⟨t, false,
      pa, d, none, n⟩ = false ∧ (subsOf pa d.length).foldl (fun (acc : Option State) q => acc.bind fun s => ownFrame
      s q) (some u) = some v) ∧
    (∃ (s : State) (u : State) (v : State) (t : Nat) (pa : Nat) (d : Bytes) (p : Option Nat) (n : Nat) (m : BitVec
      64), receives s = true ∧ n = (p.map storedCode).getD 0 ∧ takeRunnel s (runMwr t pa (some m) n d) = some u ∧
      stagedOn u ⟨t, false, pa, d, some m, n⟩ = false ∧ (subsOf pa d.length).foldl (fun (acc : Option State) q =>
      acc.bind fun s => ownFrame s q) (some u) = some v) ∧
    (∃ (s : State) (u : State) (t : Nat) (pa : Nat) (d : Bytes) (m : Option (BitVec 64)) (p : Option Nat) (n : Nat),
      receives s = true ∧ n = (p.map storedCode).getD 0 ∧ takeRunnel s (runMwr t pa m n d) = some u ∧ stagedOn u ⟨t,
      false, pa, d, m, n⟩ = true ∧ (u.pair.staged.map fun x => x.data.length).sum + d.length ≤ 67108864) ∧
    (∃ (s : State) (u : State) (t : Nat) (c : DirChange), receives s = true ∧ takeRunnel s (changeMsg t (.line c)) =
      some u ∧ c.data = none) ∧
    (∃ (s : State) (u : State) (v : State) (t : Nat) (k : Nat) (c : DirChange) (d : Bytes) (w : MirrorWrite),
      receives s = true ∧ takeRunnel s (changeMsg t (.line c)) = some u ∧ c.data = some (d, k) ∧ w = ⟨t, true,
      c.line * 64, fitBytes 64 d, none, k⟩ ∧ stagedOn (dirMirrored u c) w = false ∧ applyMirror (dirMirrored u c) w
      = some v) ∧
    (∃ (s : State) (u : State) (t : Nat) (i : Nat) (x : Bool), receives s = true ∧ takeRunnel s (changeMsg t (.fence
      i x)) = some u) ∧
    (∃ (s : State) (u : State) (t : Nat) (q : Nat) (h : Nat) (o : Nat) (d : Nat), receives s = true ∧ takeRunnel s
      (changeMsg t (.taken q h o d)) = some u) ∧
    (∃ (s : State) (u : State) (t : Nat) (q : Nat) (f : Nat), receives s = true ∧ takeRunnel s (changeMsg t
      (.cistern q (some f))) = some u) ∧
    (∃ (s : State) (u : State) (t : Nat) (q : Nat), receives s = true ∧ takeRunnel s (changeMsg t (.cistern q none))
      = some u) ∧
    (∃ (s : State) (u : State) (t : Nat) (d : Bool) (m : Nat × Bool × MackFor), takeRunnel s (runMack t d) = some u
      ∧ u.pair.macks.find? (fun m => decide (m.1 = t) && m.2.1 == d) = some m ∧ u.pair.recognised = false) ∧
    (∃ (s : State) (u : State) (t : Nat) (d : Bool) (m : Nat × Bool × MackFor), takeRunnel s (runMack t d) = some u
      ∧ u.pair.macks.find? (fun m => decide (m.1 = t) && m.2.1 == d) = some m ∧ u.pair.recognised = true) ∧
    (∃ (s : State), mirroring s = true) ∧
    (∃ (s : State) (t : Nat) (x : Slow), receives s = true ∧ rd s (ra pgPAIR 0x10C) < t) ∧
    (∃ (s : State) (t : Nat) (x : Slow), pairState s = 2) ∧
    (∃ (s : State) (t : Nat) (es : Tbl DirEntry), receives s = true) ∧
    (∃ (s : State) (u : State) (t : Nat) (q : Nat) (d : Bytes) (ps : List (Nat × Nat)), receives s = true ∧ ownFrame
      s q = some u) ∧
    (∃ (s : State) (u : State) (t : Nat), takeRunnel s (runCtl 2 (natLe 4 t)) = some u ∧ serving u = true ∧ rd u (ra
      pgPAIR 0x10C) < t ∧ t ≤ u.pair.tick) ∧
    (∃ (s : State) (u : State) (p : Nat) (k : Packet), serving s = true ∧ p < 21 ∧ takeRunnel s (runRelay p
      (packetBytes k)) = some u) ∧
    (∃ (s : State) (u : State) (p : Nat) (a : Nat) (bs : Bytes), serving s = true ∧ p < 21 ∧ bs = cxlRelayed { hpa := a / 64 * 64,
                                                                                                               write := false,
                                                                                                               start := s.now }
      ∧ takeRunnel s (runRelay p bs) = some u) ∧
    (∃ (s : State) (u : State) (p : Nat) (a : Nat) (bs : Bytes) (d : Bytes) (m : BitVec 64) (x : Bool), serving s =
      true ∧ p < 21 ∧ bs = cxlRelayed { hpa := a / 64 * 64, write := true, data := fitBytes 64 d, mask := m, poison
                                          := x, start := s.now } ∧ takeRunnel s (runRelay p bs) = some u) ∧
    (∃ (s : State) (u : State) (v : State) (n : Nat) (w : Nat) (c : Bool) (f : BitVec 4), w = (if c then 1 else 0) +
      f.toNat * 2 + n % 65536 * 65536 ∧ takeRunnel s (runCtl 3 (natLe 4 w)) = some u ∧ serving u = true ∧ v = wr u
      (ra pgPAIR 0x118) w) ∧
    (∃ (s : State) (u : State) (v : State) (n : Nat) (w : Nat), s.pair.fails ≠ 0 ∧ pairState s = 1 ∧ rb v (ra pgPAIR
      0x100) 1 = false ∧ n = (rf s (ra pgPAIR 0x118) 16 16 + 1) % 65536 ∧ w = s.pair.fails.toNat * 2 + n * 65536 ∧ u
      = modPair (sendRunnel (wr s (ra pgPAIR 0x118) w) 0 (runCtl 3 (natLe 4 w))) (fun p => { p with fails := 0,
                                                                                                    errSeen := (sendRunnel (wr s (ra pgPAIR 0x118) w) 0 (runCtl 3 (natLe 4 w))).fault.errors })
      ∧ v = setClean u 0) ∧
    (∃ (s : State) (u : State) (v : State) (n : Nat) (w : Nat), s.pair.fails = 0 ∧ s.fault.errors = s.pair.errSeen ∧
      pairState s = 1 ∧ rb v (ra pgPAIR 0x100) 1 = false ∧ n = (rf s (ra pgPAIR 0x118) 16 16 + 1) % 65536 ∧ w = 1 +
      n * 65536 ∧ u = modPair (sendRunnel (wr s (ra pgPAIR 0x118) w) 0 (runCtl 3 (natLe 4 w))) (fun p => { p with fails := 0,
                                                                                                                  errSeen := (sendRunnel (wr s (ra pgPAIR 0x118) w) 0 (runCtl 3 (natLe 4 w))).fault.errors })
      ∧ v = setClean u (cleanReports u + 1)) ∧
    (∃ (s : State), serving s = true) ∧
    (∃ (s : State) (u : State), takeRunnel s (runCtl 5 []) = some u ∧ pairState u = 0 ∧ partnerState u = 1 ∧
      u.pair.pause = false) ∧
    (∃ (s : State) (u : State), takeRunnel s (runCtl 5 []) = some u ∧ pairState u = 1 ∧ u.pair.returning = false) ∧
    (∃ (s : State), s.pair.pause = true ∧ s.pair.finalTick = false ∧ s.cmd.tiles = []) ∧
    (∃ (s : State) (u : State) (v : State) (w : State), s.pair.pause = true ∧ s.pair.finalTick = false ∧ u =
      (s.cmd.tiles.filter Tile.issued).foldl (fun s t =>
      match opOf s t.op with | some o => tileDone s t.op o t | none => s) s ∧ v = u.cmd.tiles.foldl (fun s t =>
      wasteTile s t 18) u ∧ w = u.cmd.tiles.foldl (fun s t => giveBack s t.op [t.num]) { v with cmd := { v.cmd with tiles := [] } }) ∧
    (∃ (s : State) (u : State), takeRunnel s (runCtl 6 []) = some u ∧ u.pair.pause = true ∧ u.pair.finalTick = true
      ∧ (handoverGone u).pwr.warm ≠ 1) ∧
    (∃ (s : State) (u : State), takeRunnel s (runCtl 6 []) = some u ∧ u.pair.pause = true ∧ u.pair.finalTick = true
      ∧ (handoverGone u).pwr.warm = 1) ∧
    (∃ (s : State), pairState s = 1 ∧ partnerState s = 0 ∧ heartbeatGood s = true) ∧
    (∃ (s : State) (u : State), takeRunnel s (runCtl 7 []) = some u) ∧
    (∃ (s : State), pairState s = 2) ∧
    (∃ (s : State), pairState s = 4 ∧ partnerState s = 2) ∧
    (∃ (s : State) (u : State), serving s = true ∧ u = wb s pairCmd 2 false) ∧
    (∃ (s : State), pairState s = 3 ∧ heartbeatGood s = false) ∧
    (∃ (s : State) (u : State), pairState s = 0 ∧ partnerState s = 1 ∧ heartbeatGood s = true ∧ s.pair.pause = false
      ∧ u = wb s pairCmd 2 false) ∧
    (∃ (s : State), serving s = false) := by
  and_intros
  · refine ⟨(wRun wStand (runMwr 1 wVa none 0 [1])), _, _, 1, wVa, [1], none, _, ?_, rfl, some_state _ ?_, ?_,
      some_state _ ?_⟩ <;> decide +kernel
  · refine ⟨(wRun wStand (runMwr 1 wVa (some 1) 0 [1])), _, _, 1, wVa, [1], none, _, 1, ?_, rfl, some_state _ ?_,
      ?_, some_state _ ?_⟩ <;> decide +kernel
  · refine ⟨(let s := wRun wStand (runMwr 1 wVa none 0 [1]); { s with pair := { s.pair with staged := [⟨0, false, wVa, [2], none, 0⟩] } }), _, 1, wVa, [1], none, none, _, ?_, rfl, some_state _ ?_, ?_, ?_⟩ <;> decide +kernel
  · refine ⟨(wRun wStand (changeMsg 1 (.line { line := wLine, state := 0, owner := 0 }))), _, 1, { line := wLine,
                                                                                                   state := 0, owner := 0 },
      ?_, some_state _ ?_, ?_⟩ <;> decide +kernel
  · refine ⟨(wRun wStand (changeMsg 1 (.line { line := wLine, state := 0, owner := 0, data := some (zeros 64, 0) }))),
      _, _, 1, _, { line := wLine, state := 0, owner := 0, data := some (zeros 64, 0) }, _, _, ?_, some_state _ ?_,
      some_pair _ ?_, rfl, ?_, some_state _ ?_⟩ <;> decide +kernel
  · refine ⟨(wRun wStand (changeMsg 1 (.fence 3 true))), _, 1, 3, true, ?_, some_state _ ?_⟩ <;> decide +kernel
  · refine ⟨(wRun wStand (changeMsg 1 (.taken 3 5 1 9))), _, 1, 3, 5, 1, 9, ?_, some_state _ ?_⟩ <;> decide +kernel
  · refine ⟨(wRun wStand (changeMsg 1 (.cistern 16384 (some 9)))), _, 1, 16384, 9, ?_, some_state _ ?_⟩ <;>
      decide +kernel
  · refine ⟨(wRun wStand (changeMsg 1 (.cistern 16384 none))), _, 1, 16384, ?_, some_state _ ?_⟩ <;> decide +kernel
  · refine ⟨(wRun { wServ with pair := { wServ.pair with macks := [(1, false, .tile 1 0)], recognised := false } }
      (runMack 1 false)), _, 1, false, _, some_state _ ?_, some_eq _ ?_, ?_⟩ <;> decide +kernel
  · refine ⟨(wRun { wServ with pair := { wServ.pair with macks := [(1, false, .tile 1 0)], recognised := true } }
      (runMack 1 false)), _, 1, false, _, some_state _ ?_, some_eq _ ?_, ?_⟩ <;> decide +kernel
  · refine ⟨(wf wOn pairStat 0 6 8), ?_⟩; decide +kernel
  · refine ⟨(wf wPool pairStat 0 3 1), 5, {}, ?_, ?_⟩ <;> decide +kernel
  · refine ⟨(wf wPool pairStat 0 3 2), 5, {}, ?_⟩; decide +kernel
  · refine ⟨(wf wOn pairStat 0 3 1), 5, [], ?_⟩; decide +kernel
  · refine ⟨(wf wPool pairStat 0 3 1), _, 0, 16384, [], [], ?_, some_state _ ?_⟩ <;> decide +kernel
  · refine ⟨(wRun { wServ with pair := { wServ.pair with tick := 9 } } (runCtl 2 (natLe 4 7))), _, 7, some_state _
      ?_, ?_, ?_, ?_⟩ <;> decide +kernel
  · refine ⟨(wRun wServ (runRelay 0 (packetBytes (wPkt 1 0)))), _, 0, (wPkt 1 0), ?_, ?_, some_state _ ?_⟩ <;>
      decide +kernel
  · refine ⟨(wRun wServ (runRelay 0 (cxlRelayed { hpa := 64, write := false, start := 0 }))), _, 0, 64, _, ?_, ?_,
      rfl, some_state _ ?_⟩ <;> decide +kernel
  · refine ⟨(wRun wServ (runRelay 0 (cxlRelayed { hpa := 64, write := true, data := fitBytes 64 [1], mask := 1,
                                                  start := 0 }))), _, 0, 64, _, [1], 1, false, ?_, ?_, rfl,
      some_state _ ?_⟩ <;> decide +kernel
  · refine ⟨(wRun wServ (runCtl 3 (natLe 4 65537))), _, _, 1, _, true, 0, rfl, some_state _ ?_, ?_, rfl⟩ <;>
      decide +kernel
  · refine ⟨(wf (wb { wOn with pair := { wOn.pair with fails := 1 } } (ra pgPAIR 0x100) 1 false) pairStat 0 3 1), _,
      _, _, _, ?_, ?_, ?_, rfl, rfl, rfl, rfl⟩ <;> decide +kernel
  · refine ⟨(wf (wb wOn (ra pgPAIR 0x100) 1 false) pairStat 0 3 1), _, _, _, _, ?_, ?_, ?_, ?_, rfl, rfl, rfl, rfl⟩
      <;> decide +kernel
  · refine ⟨(wf wOn pairStat 0 3 0), ?_⟩; decide +kernel
  · refine ⟨(wRun (wf (wf wOn pairStat 0 3 0) pairStat 3 3 1) (runCtl 5 [])), _, some_state _ ?_, ?_, ?_, ?_⟩ <;>
      decide +kernel
  · refine ⟨(wRun (wf (wf wOn pairStat 0 3 1) pairStat 3 3 1) (runCtl 5 [])), _, some_state _ ?_, ?_, ?_⟩ <;>
      decide +kernel
  · refine ⟨{ wOn with pair := { wOn.pair with pause := true } }, ?_, ?_, ?_⟩ <;> decide +kernel
  · refine ⟨{ wOn with pair := { wOn.pair with pause := true } }, _, _, _, ?_, ?_, rfl, rfl, rfl⟩ <;> decide +kernel
  · refine ⟨(wRun { wServ with pair := { wServ.pair with pause := true, finalTick := true } } (runCtl 6 [])), _,
      some_state _ ?_, ?_, ?_, ?_⟩ <;> decide +kernel
  · refine ⟨(wRun { wServ with pair := { wServ.pair with pause := true, finalTick := true }, pwr := { wServ.pwr with warm := 1 } }
      (runCtl 6 [])), _, some_state _ ?_, ?_, ?_, ?_⟩ <;> decide +kernel
  · refine ⟨(wf wOn pairStat 0 9 (1 + 64)), ?_, ?_, ?_⟩ <;> decide +kernel
  · refine ⟨(wRun wServ (runCtl 7 [])), _, some_state _ ?_⟩; decide +kernel
  · refine ⟨(wf wOn pairStat 0 3 2), ?_⟩; decide +kernel
  · refine ⟨(wf wServ pairStat 3 3 2), ?_, ?_⟩ <;> decide +kernel
  · refine ⟨(wf wOn pairStat 0 3 0), _, ?_, rfl⟩; decide +kernel
  · refine ⟨(wf wOn pairStat 0 9 3), ?_, ?_⟩ <;> decide +kernel
  · refine ⟨(wf wOn pairStat 0 9 (8 + 64)), _, ?_, ?_, ?_, ?_, rfl⟩ <;> decide +kernel
  · refine ⟨(wf wPool pairStat 0 3 1), ?_⟩; decide +kernel

/-- The hypotheses of StandbyTestsAct can be met, clause by clause. -/
theorem meets_StandbyTestsAct :
    (∃ (s : State) (u : State) (i : Nat) (p : Bool), pairState s = 1 ∧ (rangeFrom s.pair.nextEng 80).find? (fun i =>
      coreRole s (i % 80 / 4) ≤ 1) = some i ∧ u = modPair s (fun p => { p with nextEng := (i % 80 + 1) % 80 })) ∧
    (∃ (s : State) (u : State) (i : Nat) (p : Bool), pairState s = 1 ∧ (rangeFrom s.pair.nextBank 1088).find? (fun i
      => bankRole s (i % 1088 / 17) (i % 17) = 1) = some i ∧ u = modPair s (fun p => { p with nextBank := (i % 1088 + 1) % 1088 })) ∧
    (∃ (s : State) (l : Nat) (da : Nat) (ch : Nat), pairState s = 1 ∧ lineDa s l = some da ∧ lineChannel s l = some
      ch) ∧
    (∃ (s : State) (ls : List Nat), pairState s = 1 ∧ ls ≠ []) := by
  and_intros
  · refine ⟨(wf wPool pairStat 0 3 1), _, _, true, ?_, some_eq _ ?_, rfl⟩ <;> decide +kernel
  · refine ⟨(wf (wf wPool pairStat 0 3 1) (bankReg 0 16) 6 2 1), _, _, true, ?_, some_eq _ ?_, rfl⟩ <;>
      decide +kernel
  · refine ⟨(wf wPool pairStat 0 3 1), 0x1000000, _, _, ?_, some_eq _ ?_, some_eq _ ?_⟩ <;> decide +kernel
  · refine ⟨(wf wPool pairStat 0 3 1), [1], ?_, ?_⟩ <;> decide +kernel

/-- The hypotheses of BindingsAndKeysAct can be met, clause by clause. -/
theorem meets_BindingsAndKeysAct :
    (∃ (s : State) (u : State) (i : Nat) (b : Binding), i = fld (ri s 2 (ra pgSEC 0x100)) 0 13 ∧ bindRegs s 2 = (b,
      true) ∧ bindRefusal s i b true = 0 ∧ u = wf (wb s bindCmd 2 false) bindCmd 3 3 0) ∧
    (∃ (s : State) (u : State) (i : Nat) (b : Binding), i = fld (ri s 2 (ra pgSEC 0x100)) 0 13 ∧ bindRegs s 2 = (b,
      false) ∧ bindRefusal s i b false = 0 ∧ u = wf (wb s bindCmd 2 false) bindCmd 3 3 0) ∧
    (∃ (s : State) (i : Nat) (e : Nat) (b : Binding) (v : Bool), i = fld (ri s 2 (ra pgSEC 0x100)) 0 13 ∧ bindRegs s
      2 = (b, v) ∧ bindRefusal s i b v = e ∧ e ≠ 0) ∧
    (∃ (s : State) (u : State) (i : Nat) (b : Binding), i = fld (ri s 2 (ra pgSEC 0x100)) 0 13 ∧ tget s.sec.binds i
      = some b ∧ u = wi (wi s 2 (ra pgSEC 0x104) b.base) 2 (ra pgSEC 0x108) b.pages) ∧
    (∃ (s : State) (u : State) (d : Nat) (k : BitVec 512), keyBusy s = false ∧ keySlot s 2 = d ∧ keyFillable s d =
      true ∧ drawRandom s = (k, u)) ∧
    (∃ (s : State) (d : Nat), keyBusy s = false ∧ keySlot s 2 = d ∧ keyFillable s d = false) ∧
    (∃ (s : State) (d : Nat) (n : Nat) (w : Bytes) (x : Session), keyBusy s = false ∧ keySlot s 2 = d ∧ authSession
      s n = some x ∧ keyFillable s d = true ∧ w.length = 72) ∧
    (∃ (s : State) (d : Nat) (n : Nat) (w : Bytes), keyBusy s = false ∧ keySlot s 2 = d ∧ authSession s n = none) ∧
    (∃ (s : State) (u : State) (d : Nat), keyBusy s = false ∧ keySlot s 2 = d ∧ d < 1024 ∧ charge s d 0 = 0 ∧ charge
      s d 2 = 0 ∧ locked s pgSEC = false ∧ u = keyErr { s with sec := { s.sec with keys := tdel s.sec.keys d } }
      false ∧ (partnerState u ≠ 1 ∨ pairState u ≠ 0)) ∧
    (∃ (s : State) (u : State) (d : Nat), keyBusy s = false ∧ keySlot s 2 = d ∧ d < 1024 ∧ charge s d 0 = 0 ∧ charge
      s d 2 = 0 ∧ locked s pgSEC = false ∧ u = keyErr { s with sec := { s.sec with keys := tdel s.sec.keys d } }
      false ∧ partnerState u = 1 ∧ pairState u = 0) ∧
    (∃ (s : State) (d : Nat), keyBusy s = false ∧ keySlot s 2 = d ∧ (1024 ≤ d ∨ charge s d 0 ≠ 0 ∨ charge s d 2 ≠ 0
      ∨ locked s pgSEC = true)) ∧
    (∃ (s : State) (d : Nat) (k : KeySlot), tget s.sec.keys d = some k ∧ k.state = 1 ∧ pairState s ≠ 1) ∧
    (∃ (s : State) (u : State) (v : W32) (x : Session), v.toNat.testBit 0 = true ∧ x ∈ s.sec.sessions ∧
      x.established = true ∧ x.mutAuth = true ∧ rb s (ra pgSEC 0x120) 0 = false ∧ u = s ∧ debugOpen s = false) ∧
    (∃ (s : State) (u : State) (v : W32) (x : Session), v.toNat.testBit 0 = true ∧ x ∈ s.sec.sessions ∧
      x.established = true ∧ x.mutAuth = true ∧ rb s (ra pgSEC 0x120) 0 = false ∧ u = wf s debugReg 0 2 2 ∧
      debugOpen s = true) := by
  and_intros
  · refine ⟨(wi (wi (wi (wi { wServ with sec := { wServ.sec with keys := [(0, ⟨2, 0⟩)] } } 2 (ra pgSEC 0x100) 8191)
      2 (ra pgSEC 0x104) 512) 2 (ra pgSEC 0x108) 1) 2 (ra pgSEC 0x10C) 0x03801000), _, _, (bindRegs (wi (wi (wi (wi
      { wServ with sec := { wServ.sec with keys := [(0, ⟨2, 0⟩)] } } 2 (ra pgSEC 0x100) 8191) 2 (ra pgSEC 0x104)
      512) 2 (ra pgSEC 0x108) 1) 2 (ra pgSEC 0x10C) 0x03801000) 2).1, rfl, ?_, ?_, rfl⟩ <;> decide +kernel
  · refine ⟨State.reset, _, _, ⟨0, 0, 0, 0, false, false⟩, rfl, ?_, ?_, rfl⟩ <;> decide +kernel
  · refine ⟨(wi (wi (wi (wi { wServ with sec := { wServ.sec with keys := [(0, ⟨2, 0⟩)] } } 2 (ra pgSEC 0x100) 8191)
      2 (ra pgSEC 0x104) 512) 2 (ra pgSEC 0x108) 0) 2 (ra pgSEC 0x10C) 0x03801000), _, 3, _, _, rfl, pair_of _, ?_,
      ?_⟩ <;> decide +kernel
  · refine ⟨{ State.reset with sec := { State.reset.sec with binds := [(0, ⟨1, 2, 4096, 1023, true, false⟩)] } }, _,
      _, _, rfl, some_eq _ ?_, rfl⟩; decide +kernel
  · refine ⟨State.reset, _, 0, _, ?_, ?_, ?_, pair_of _⟩ <;> decide +kernel
  · refine ⟨(wi (wi (wi (wi { wServ with sec := { wServ.sec with keys := [(0, ⟨2, 0⟩)] } } 2 (ra pgSEC 0x100) 8191)
      2 (ra pgSEC 0x104) 512) 2 (ra pgSEC 0x108) 1) 2 (ra pgSEC 0x10C) 0x03801000), 0, ?_, ?_, ?_⟩ <;>
      decide +kernel
  · refine ⟨(wi { wServ with sec := { wServ.sec with sessions := [⟨7, 1, true, true, 0⟩] } } 2 (ra pgSEC 0x114)
      1023), 1023, 7, (zeros 72), _, ?_, ?_, some_eq _ ?_, ?_, ?_⟩ <;> decide +kernel
  · refine ⟨State.reset, 0, 1, [], ?_, ?_, ?_⟩ <;> decide +kernel
  · refine ⟨State.reset, _, 0, ?_, ?_, ?_, ?_, ?_, ?_, rfl, ?_⟩ <;> decide +kernel
  · refine ⟨(wf State.reset pairStat 0 6 8), _, 0, ?_, ?_, ?_, ?_, ?_, ?_, rfl, ?_, ?_⟩ <;> decide +kernel
  · refine ⟨(wi wServ 2 (ra pgSEC 0x114) 1024), 1024, ?_, ?_, ?_⟩ <;> decide +kernel
  · refine ⟨{ wServ with sec := { wServ.sec with keys := [(1023, ⟨1, 5⟩)] } }, 1023, _, some_eq _ ?_, ?_, ?_⟩ <;>
      decide +kernel
  · refine ⟨{ wServ with sec := { wServ.sec with sessions := [⟨7, 1, true, true, 0⟩] } }, _, 1, ⟨7, 1, true, true,
      0⟩, ?_, ?_, ?_, ?_, ?_, rfl, ?_⟩ <;> decide +kernel
  · refine ⟨(wf { wServ with sec := { wServ.sec with sessions := [⟨7, 1, true, true, 0⟩] } } debugReg 0 2 1), _, 1,
      ⟨7, 1, true, true, 0⟩, ?_, ?_, ?_, ?_, ?_, rfl, ?_⟩ <;> decide +kernel

/-- The hypotheses of SpdmRequestsAnswer can be met, clause by clause. -/
theorem meets_SpdmRequestsAnswer :
    (∃ (s : State) (v : Nat), 1 ≤ spdmStage s v) ∧
    (∃ (s : State) (v : Nat), 2 ≤ spdmStage s v) ∧
    (∃ (s : State) (v : Nat) (a : SpdmAlgs), 2 ≤ spdmStage s v ∧ a.ecdsaP256 = false) ∧
    (∃ (s : State) (v : Nat), 3 ≤ spdmStage s v) ∧
    (∃ (s : State) (v : Nat) (o : Nat) (n : Nat), 3 ≤ spdmStage s v) ∧
    (∃ (s : State) (u : State) (r : BitVec 512) (v : Nat) (n : BitVec 256), 3 ≤ spdmStage s v ∧ drawRandom s = (r,
      u)) ∧
    (∃ (s : State) (v : Nat) (i : Nat), 3 ≤ spdmStage s v ∧ 1 ≤ i ∧ i ≤ 9) ∧
    (∃ (s : State) (u : State) (r : BitVec 512) (v : Nat) (i : Nat) (n : BitVec 256), 3 ≤ spdmStage s v ∧ 1 ≤ i ∧ i
      ≤ 9 ∧ drawRandom s = (r, u)) ∧
    (∃ (s : State) (u : State) (w : State) (v : Nat) (m : Bool) (e : Bytes) (r : BitVec 512) (bs : Bytes), 4 ≤
      spdmStage s v ∧ s.sec.sessions.length < 4 ∧ drawRandom s = (r, u) ∧ w = { u with sec := { u.sec with sessions := u.sec.sessions ++ [{ id := s.sec.nextSession,
                                                                                                                                            via := v,
                                                                                                                                            mutAuth := m }],
                                                                                                           nextSession := s.sec.nextSession + 1 } }
      ∧ bs = natLe 32 r.toNat ++ Config.exchangeReply w.fresh e) ∧
    (∃ (s : State) (v : Nat) (m : Bool) (e : Bytes), 4 ≤ spdmStage s v ∧ 4 ≤ s.sec.sessions.length) ∧
    (∃ (s : State) (n : Nat) (x : Session), s.sec.sessions.find? (fun x => decide (x.id = n) && !x.established) =
      some x) ∧
    (∃ (s : State) (n : Nat) (x : Session), s.sec.sessions.find? (fun x => decide (x.id = n) && x.established) =
      some x) ∧
    (∃ (s : State) (n : Nat) (x : Session), s.sec.sessions.find? (fun x => decide (x.id = n) && x.established) =
      some x) ∧
    (∃ (s : State) (n : Nat) (k : Nat) (x : Session), s.sec.sessions.find? (fun x => decide (x.id = n) &&
      x.established) = some x ∧ (k = 1 ∨ k = 2)) ∧
    (∃ (s : State) (n : Nat) (x : Session), s.sec.sessions.find? (fun x => decide (x.id = n) && x.established) =
      some x) ∧
    (∃ (s : State) (u : State) (n : Nat) (g : Bytes) (x : Session), authSession s n = some x ∧ u = { s with sec := { s.sec with nonceNo := s.fresh },
                                                                                                            fresh := s.fresh + 1 }) ∧
    (∃ (s : State) (n : Nat) (k : Nat) (g : Bytes), authSession s n = none ∧ s.sec.sessions.find? (fun x => decide
      (x.id = n) && x.established) = none) ∧
    (∃ (s : State) (v : Nat), spdmStage s v = 0) := by
  and_intros
  · refine ⟨{ State.reset with sec := { State.reset.sec with spdm := [(9, 1)] } }, 9, ?_⟩; decide +kernel
  · refine ⟨{ State.reset with sec := { State.reset.sec with spdm := [(9, 2)] } }, 9, ?_⟩; decide +kernel
  · refine ⟨{ State.reset with sec := { State.reset.sec with spdm := [(9, 2)] } }, 9, ⟨false, true, true, true⟩, ?_,
      ?_⟩ <;> decide +kernel
  · refine ⟨{ State.reset with sec := { State.reset.sec with spdm := [(9, 3)] } }, 9, ?_⟩; decide +kernel
  · refine ⟨{ wServ with sec := { wServ.sec with spdm := [(1, 3)] } }, 1, 0, 1, ?_⟩; decide +kernel
  · refine ⟨{ State.reset with sec := { State.reset.sec with spdm := [(9, 3)] } }, _, _, 9, 7, ?_, pair_of _⟩;
      decide +kernel
  · refine ⟨{ State.reset with sec := { State.reset.sec with spdm := [(9, 3)] } }, 9, 9, ?_, ?_, ?_⟩ <;>
      decide +kernel
  · refine ⟨{ State.reset with sec := { State.reset.sec with spdm := [(9, 3)] } }, _, _, 9, 1, 7, ?_, ?_, ?_,
      pair_of _⟩ <;> decide +kernel
  · refine ⟨{ State.reset with sec := { State.reset.sec with spdm := [(9, 4)] } }, _, _, 9, true, [], _, _, ?_, ?_,
      pair_of _, rfl, rfl⟩ <;> decide +kernel
  · refine ⟨{ wServ with sec := { wServ.sec with spdm := [(1, 4)], sessions := [⟨1, 1, true, true, 0⟩, ⟨2, 1, true,
                                                   true, 0⟩, ⟨3, 1, true, true, 0⟩, ⟨4, 1, true, true, 0⟩] } }, 1,
      false, [], ?_, ?_⟩ <;> decide +kernel
  · refine ⟨{ State.reset with sec := { State.reset.sec with sessions := [{ id := 5, via := 9, mutAuth := true,
                                                                            established := false }] } }, 5, { id := 5,
                                                                                                              via := 9,
                                                                                                              mutAuth := true,
                                                                                                              established := false },
      ?_⟩; decide +kernel
  · refine ⟨{ State.reset with sec := { State.reset.sec with sessions := [{ id := 5, via := 9, mutAuth := true,
                                                                            established := true }] } }, 5, { id := 5,
                                                                                                             via := 9,
                                                                                                             mutAuth := true,
                                                                                                             established := true },
      ?_⟩; decide +kernel
  · refine ⟨{ State.reset with sec := { State.reset.sec with sessions := [{ id := 5, via := 9, mutAuth := true,
                                                                            established := true }] } }, 5, { id := 5,
                                                                                                             via := 9,
                                                                                                             mutAuth := true,
                                                                                                             established := true },
      ?_⟩; decide +kernel
  · refine ⟨{ State.reset with sec := { State.reset.sec with sessions := [{ id := 5, via := 9, mutAuth := true,
                                                                            established := true }] } }, 5, 2, { id := 5,
                                                                                                                via := 9,
                                                                                                                mutAuth := true,
                                                                                                                established := true },
      ?_, ?_⟩ <;> decide +kernel
  · refine ⟨{ State.reset with sec := { State.reset.sec with sessions := [{ id := 5, via := 9, mutAuth := true,
                                                                            established := true }] } }, 5, { id := 5,
                                                                                                             via := 9,
                                                                                                             mutAuth := true,
                                                                                                             established := true },
      ?_⟩; decide +kernel
  · refine ⟨{ State.reset with sec := { State.reset.sec with sessions := [{ id := 5, via := 9, mutAuth := true,
                                                                            established := true }] } }, _, 5, [], _,
      some_eq _ ?_, rfl⟩; decide +kernel
  · refine ⟨{ State.reset with sec := { State.reset.sec with spdm := [(9, 1)] } }, 0, 0, [], ?_, ?_⟩ <;>
      decide +kernel
  · refine ⟨{ State.reset with sec := { State.reset.sec with sessions := [{ id := 5, via := 9, mutAuth := true,
                                                                            established := false }] } }, 1, ?_⟩;
      decide +kernel

/-- The hypotheses of FirmwareCommandsAct can be met, clause by clause. -/
theorem meets_FirmwareCommandsAct :
    (∃ (s : State) (u : State), s.fw.phase = 0 ∧ (u = (if fwuState s = 2 ∨ fwuState s = 4 then setFwu s 0 else s))) ∧
    (∃ (s : State) (ts : List Nat), s.fw.phase = 1) ∧
    (∃ (s : State) (i : ImageHead), s.fw.phase = 2 ∧ offerRefusal s i ≠ 0 ∧ fwuState s = 0) ∧
    (∃ (s : State) (h : ImageHead) (p : ImagePiece), s.fw.head = some h ∧ s.fw.phase = 3 ∧ p.bytes ≠ [] ∧
      p.bytes.length ≤ 4096 ∧ s.fw.body ≠ [] ∧ (imgType s h.type).state = 3) ∧
    (∃ (s : State) (h : ImageHead) (p : ImagePiece), s.fw.head = some h ∧ s.fw.phase = 3 ∧ p.bytes ≠ [] ∧
      p.bytes.length ≤ 4096 ∧ s.fw.body = [] ∧ s.fw.part = []) ∧
    (∃ (s : State), s.fw.phase = 4) ∧
    (∃ (s : State) (u : State), s.fw.phase = 3 ∧ u = setFwu (wf (wb (dropTransfer s) fwuCmd 7 true) fwuCmd 8 3 0) 0) ∧
    (∃ (s : State) (u : State), s.fw.phase ≠ 0 ∧ u = cancelComponent s) ∧
    (∃ (s : State) (u : State) (t : Nat), (imgType s t).state = 1 ∧ s.fw.acted ≠ some (t, s.now) ∧ u = wb { s with fw := { s.fw with acted := some (t, s.now) } }
      fwuCmd 6 false) ∧
    (∃ (s : State) (u : State) (t : Nat), (imgType s t).state = 1 ∧ s.fw.acted ≠ some (t, s.now) ∧ u = wb { s with fw := { s.fw with acted := some (t, s.now) } }
      fwuCmd 6 false) ∧
    (∃ (s : State) (t : Nat), (imgType s t).state ≠ 1 ∨ s.fw.acted = some (t, s.now)) ∧
    (∃ (s : State) (t : Nat), confirmDue s t = true ∧ (imgType s t).state = 1) ∧
    (∃ (s : State) (u : State) (t : Nat) (x : ImageType), x = imgType s t ∧ x.copying = true ∧ u = setImg s t { x with b := x.a,
                                                                                                                       copying := false }) := by
  and_intros
  · refine ⟨State.reset, _, ?_, rfl⟩; decide +kernel
  · refine ⟨{ State.reset with fw := { State.reset.fw with phase := 1 } }, [], ?_⟩; decide +kernel
  · refine ⟨{ wOn with fw := { wOn.fw with phase := 2 } }, { magic := 1, type := 0, format := 1, setFmt := 0,
                                                             version := 1, svn := 0, length := 64, nblk := 1, key :=
                                                               0, rsvd := 0, patchLen := 0, baseHash := 0, hashes :=
                                                               [], sig := [] }, ?_, ?_, ?_⟩ <;> decide +kernel
  · refine ⟨{ wOn with fw := { wOn.fw with phase := 3, head := some { magic := 1, type := 0, format := 1, setFmt :=
                                                                        0, version := 1, svn := 0, length := 64,
                                                                      nblk := 1, key := 0, rsvd := 0, patchLen := 0,
                                                                      baseHash := 0, hashes := [], sig := [] }, body
                                             := [1], types := [(0, { state := 3 })] } }, _, ⟨zeros 4096⟩, some_eq _
      ?_, ?_, ?_, ?_, ?_, ?_⟩ <;> decide +kernel
  · refine ⟨{ wOn with fw := { wOn.fw with phase := 3, head := some { magic := 0, type := 1, format := 1, setFmt :=
                                                                        0, version := 1, svn := 0, length := 64,
                                                                      nblk := 1, key := 0, rsvd := 0, patchLen := 0,
                                                                      baseHash := 0, hashes := [], sig := [] } } },
      _, ⟨[1]⟩, some_eq _ ?_, ?_, ?_, ?_, ?_, ?_⟩ <;> decide +kernel
  · refine ⟨{ State.reset with fw := { State.reset.fw with phase := 4 } }, ?_⟩; decide +kernel
  · refine ⟨{ State.reset with fw := { State.reset.fw with phase := 3 } }, _, ?_, rfl⟩; decide +kernel
  · refine ⟨{ State.reset with fw := { State.reset.fw with phase := 2 } }, _, ?_, rfl⟩; decide +kernel
  · refine ⟨{ State.reset with fw := { State.reset.fw with types := [(4, { state := 1 })] } }, _, 4, ?_, ?_, rfl⟩
      <;> decide +kernel
  · refine ⟨{ State.reset with fw := { State.reset.fw with types := [(4, { state := 1 })] } }, _, 4, ?_, ?_, rfl⟩
      <;> decide +kernel
  · refine ⟨State.reset, 0, ?_⟩; decide +kernel
  · refine ⟨(let s := wf { wOn with now := 5000000000 } (ra pgFWU 0x118) 3 16 1; { s with fw := { s.fw with since := [(1, 0)], types := [(1, { state := 1 })] } }), 1, ?_, ?_⟩ <;> decide +kernel
  · refine ⟨{ State.reset with fw := { State.reset.fw with types := [(4, { copying := true })] } }, _, 4, _, rfl,
      ?_, rfl⟩; decide +kernel

/-- An image of type 9 of `n` bytes in `k` blocks. -/
def wImage (n k : Nat) : ImageHead :=
  { magic := 0x51494D47, type := 9, format := 1, setFmt := 0, version := 1, svn := 0, length := n, nblk := k
    key := signer 9, rsvd := 0, patchLen := 0, baseHash := 0, hashes := List.replicate k 0, sig := [] }
def wUpdate : State := { wOn with fw := { wOn.fw with phase := 2 } }
theorem wOffer (n k : Nat) (hv : ∀ j m, Config.sigOk j m [] = true) (h : headOk (wImage n k) = true) :
    offerRefusal wUpdate (wImage n k) = 0 := by
  have h1 : fwuState wUpdate = 0 := by decide +kernel
  have h2 : (imgType wUpdate 9).state ≠ 1 := by decide +kernel
  have h3 : minSvn wUpdate 9 = 0 := by decide +kernel
  have e : (wImage n k).type = 9 ∧ (wImage n k).svn = 0 ∧ (wImage n k).format = 1 ∧ (wImage n k).sig = [] :=
    ⟨rfl, rfl, rfl, rfl⟩
  simp [offerRefusal, h, h1, e, h2, h3, hv]

/-- The same of its clauses on an accepted image, where the signature verifies. -/
theorem meets_FirmwareCommandsAct_signed (hv : ∀ j m, Config.sigOk j m [] = true) :
    (∃ (s : State) (u : State) (v : State) (i : ImageHead), s.fw.phase = 2 ∧ fwuState s = 0 ∧ offerRefusal s i = 0 ∧
      u = setFwu (wf (wf (wb s fwuCmd 7 false) fwuCmd 8 3 0) fwuStat 8 8 i.type) 1 ∧ v = pldmReply { u with fw := { u.fw with phase := 3,
                                                                                                                              head := some i,
                                                                                                                              body := [],
                                                                                                                              part := [],
                                                                                                                              blocks := 0,
                                                                                                                              patched := 0 } }
      0x14 [0] ∧ (i.length ≠ 0 ∨ i.format ≠ 1)) ∧
    (∃ (s : State) (u : State) (v : State) (i : ImageHead), s.fw.phase = 2 ∧ fwuState s = 0 ∧ offerRefusal s i = 0 ∧
      u = setFwu (wf (wf (wb s fwuCmd 7 false) fwuCmd 8 3 0) fwuStat 8 8 i.type) 1 ∧ v = pldmReply { u with fw := { u.fw with phase := 3,
                                                                                                                              head := some i,
                                                                                                                              body := [],
                                                                                                                              part := [],
                                                                                                                              blocks := 0,
                                                                                                                              patched := 0 } }
      0x14 [0] ∧ i.length = 0 ∧ i.format = 1) := by
  and_intros
  · exact ⟨wUpdate, _, _, wImage 1 1, by decide +kernel, by decide +kernel, wOffer 1 1 hv (by decide +kernel), rfl,
      rfl, by decide +kernel⟩
  · exact ⟨wUpdate, _, _, wImage 0 0, by decide +kernel, by decide +kernel, wOffer 0 0 hv (by decide +kernel), rfl,
      rfl, rfl, rfl⟩

/-- The hypotheses of ResetsAndStartUp can be met, clause by clause. -/
theorem meets_ResetsAndStartUp :
    (∃ (s : State) (b : BootInput), s.pwr.held = 1 ∧ s.pwr.aon = true ∧ s.pwr.order = false) ∧
    (∃ (s : State) (u : State) (b : WarmInput), s.pwr.held = 0 ∧ s.pwr.warm ≠ 2 ∧ startedUp s = true ∧ u = setCause
      { s with pwr := { s.pwr with warmIn := b } } 3 ∧ (pairState u ≠ 0 ∨ partnerState u ≠ 1 ∨ heartbeatGood u =
      false)) ∧
    (∃ (s : State) (u : State) (v : State) (b : WarmInput), s.pwr.held = 0 ∧ s.pwr.warm ≠ 2 ∧ startedUp s = true ∧ u
      = setCause { s with pwr := { s.pwr with warmIn := b } } 3 ∧ pairState u = 0 ∧ partnerState u = 1 ∧
      heartbeatGood u = true ∧ v = { u with pwr := { u.pwr with warm := 1 } } ∧ v.pair.pause = false) ∧
    (∃ (s : State), s.pwr.held = 0) ∧
    (∃ (s : State) (n : Nat), n ≤ 20 ∧ s.pwr.aon = true ∧ s.pwr.held = 1) ∧
    (∃ (s : State) (r : Nat), s.pwr.aon = true ∧ 0 < r ∧ r < 9 ∧ s.pwr.held ≠ 1) ∧
    (∃ (s : State) (p : Bool), s.pwr.aon = true ∧ s.pwr.held ≠ 1) ∧
    (∃ (s : State), s.pwr.aon = true) ∧
    (∃ (s : State), s.pwr.aon = false) := by
  and_intros
  · refine ⟨wAon, {}, ?_, ?_, ?_⟩ <;> decide +kernel
  · refine ⟨(wf wOn (ra pgRST 0x108) 0 4 15), _, {}, ?_, ?_, ?_, rfl, ?_⟩ <;> decide +kernel
  · refine ⟨(let s := wf (wf (wf wOn pairStat 0 3 0) pairStat 3 3 1) rstStat 0 4 15; wb s pairStat 6 true), _, _, {}, ?_, ?_, ?_, rfl, ?_, ?_, ?_, rfl, ?_⟩ <;> decide +kernel
  · refine ⟨wOn, ?_⟩; decide +kernel
  · refine ⟨wAon, 20, ?_, ?_, ?_⟩ <;> decide +kernel
  · refine ⟨wOn, 8, ?_, ?_, ?_, ?_⟩ <;> decide +kernel
  · refine ⟨(wf wOn (ra pgRST 0x108) 0 4 15), true, ?_, ?_⟩ <;> decide +kernel
  · refine ⟨wAon, ?_⟩; decide +kernel
  · refine ⟨{ State.reset with pwr := { State.reset.pwr with aon := false } }, ?_⟩; decide +kernel

/-- The hypotheses of PowerManagementActs can be met, clause by clause. -/
theorem meets_PowerManagementActs :
    (∃ (s : State) (u : State) (h : Nat) (o : Op) (ds : List Nat), ready s h 0x31 = some o ∧ ds = (if bitN (opnd o
      0x10 4) 10 then rangeFrom 0 1024 else [fld (opnd o 0x10 4) 0 10]) ∧ u = ds.foldl (fun s d => setTol s d (opnd
      o 0x14 4)) s ∧ (hostDomains u).any ds.contains = false) ∧
    (∃ (s : State) (u : State) (h : Nat) (o : Op) (ds : List Nat), ready s h 0x31 = some o ∧ ds = (if bitN (opnd o
      0x10 4) 10 then rangeFrom 0 1024 else [fld (opnd o 0x10 4) 0 10]) ∧ u = ds.foldl (fun s d => setTol s d (opnd
      o 0x14 4)) s ∧ (hostDomains u).any ds.contains = true) ∧
    (∃ (s : State) (u : State) (c : Nat) (w : Bool) (t : Bool), s.pwr.held = 0 ∧ w = limitHolds (rb s (ra pgPWR
      0x110) 8) c (rf s (ra pgPWR 0x100) 10 8) ∧ t = limitHolds (rb s (ra pgPWR 0x110) 9) c (rf s (ra pgPWR 0x100) 2
      8) ∧ u = wb (wb (wf s (ra pgPWR 0x110) 0 8 (min 255 c)) (ra pgPWR 0x110) 8 w) (ra pgPWR 0x110) 9 t ∧ rb s (ra
      pgPWR 0x110) 8 = w ∧ rb s (ra pgPWR 0x110) 9 = t) ∧
    (∃ (s : State) (u : State) (c : Nat) (w : Bool) (t : Bool), s.pwr.held = 0 ∧ w = limitHolds (rb s (ra pgPWR
      0x110) 8) c (rf s (ra pgPWR 0x100) 10 8) ∧ t = limitHolds (rb s (ra pgPWR 0x110) 9) c (rf s (ra pgPWR 0x100) 2
      8) ∧ u = wb (wb (wf s (ra pgPWR 0x110) 0 8 (min 255 c)) (ra pgPWR 0x110) 8 w) (ra pgPWR 0x110) 9 t ∧ rb s (ra
      pgPWR 0x110) 8 = false ∧ w = true ∧ rb s (ra pgPWR 0x110) 9 = t) ∧
    (∃ (s : State) (u : State) (c : Nat) (w : Bool) (t : Bool), s.pwr.held = 0 ∧ w = limitHolds (rb s (ra pgPWR
      0x110) 8) c (rf s (ra pgPWR 0x100) 10 8) ∧ t = limitHolds (rb s (ra pgPWR 0x110) 9) c (rf s (ra pgPWR 0x100) 2
      8) ∧ u = wb (wb (wf s (ra pgPWR 0x110) 0 8 (min 255 c)) (ra pgPWR 0x110) 8 w) (ra pgPWR 0x110) 9 t ∧ rb s (ra
      pgPWR 0x110) 8 = w ∧ rb s (ra pgPWR 0x110) 9 = false ∧ t = true) ∧
    (∃ (s : State) (u : State) (v : W32), rb s (ra pgCXLP 0x114) 8 = true ∧ u = (hostDomains s).foldl (fun s d =>
      setTol s d (ltrNs v.toNat)) s) ∧
    (∃ (s : State) (p : Nat) (u : Nat), p < 20 ∧ linkBusy s p = false ∧ 1 ≤ portLevel s p ∧ 10 ≤ u ∧ (portLevel s p
      < 3 ∨ u < 100)) ∧
    (∃ (s : State) (v : State) (p : Nat) (u : Nat), p < 20 ∧ linkBusy s p = false ∧ 3 ≤ portLevel s p ∧ 100 ≤ u ∧ (v
      = (if linkState s p = 6 ∧ linkPower s p = 2 then exitPower s p else s))) ∧
    (∃ (s : State) (c : Nat), c < 20 ∧ coreInService s c = true ∧ s.cmd.tiles.any (fun t => t.core = c) = false ∧ 1
      ≤ coreLevel s ∧ ((clusterCores s (c / 5)).any fun d => decide (d ≠ c) && !coreGated s d) = true) ∧
    (∃ (s : State) (c : Nat), c < 20 ∧ coreInService s c = true ∧ s.cmd.tiles.any (fun t => t.core = c) = false ∧ 2
      ≤ coreLevel s ∧ (rangeFrom (5 * (c / 5)) 5).all (fun d => !(s.cmd.tiles.any fun t => t.core = d)) = true) ∧
    (∃ (s : State) (u : State) (d : Nat), d < 16 ∧ drvState s d = 2 ∧ 3 ≤ driveLevel s ∧ s.tier.drvIdle.contains d =
      false ∧ s.tier.moves.any (fun m => m.drive = d) = false ∧ u = put s (.nvme d .sleep)) ∧
    (∃ (s : State) (b : State) (u : State) (v : State) (d : Nat) (n : Nat) (q : Bool), d < 16 ∧ rb s (ra pgCIS
      0x100) 0 = true ∧ (drvState s d ≤ 1 ∨ s.tier.waking.contains d = true) ∧ b = bringUp s d ∧ u = wb (setDrv b d
      (if spareMask b d then 3 else 2)) (ra pgCIS (0x140 + 4 * d)) 4 q ∧ v = { u with tier := { u.tier with drvFrames := tset 0 u.tier.drvFrames d (min n 233918112),
                                                                                                            waking := u.tier.waking.erase d } }
      ∧ paired v = false) ∧
    (∃ (s : State) (b : State) (u : State) (v : State) (w : State) (d : Nat) (n : Nat) (q : Bool), d < 16 ∧ rb s (ra
      pgCIS 0x100) 0 = true ∧ (drvState s d ≤ 1 ∨ s.tier.waking.contains d = true) ∧ b = bringUp s d ∧ u = wb
      (setDrv b d (if spareMask b d then 3 else 2)) (ra pgCIS (0x140 + 4 * d)) 4 q ∧ v = { u with tier := { u.tier with drvFrames := tset 0 u.tier.drvFrames d (min n 233918112),
                                                                                                                        waking := u.tier.waking.erase d } }
      ∧ paired v = true ∧ w = issueNvme v d (.resRegister (resKey v)) ∧ paired w = true ∧ serving w = true) ∧
    (∃ (s : State) (b : State) (u : State) (v : State) (w : State) (d : Nat) (n : Nat) (q : Bool), d < 16 ∧ rb s (ra
      pgCIS 0x100) 0 = true ∧ (drvState s d ≤ 1 ∨ s.tier.waking.contains d = true) ∧ b = bringUp s d ∧ u = wb
      (setDrv b d (if spareMask b d then 3 else 2)) (ra pgCIS (0x140 + 4 * d)) 4 q ∧ v = { u with tier := { u.tier with drvFrames := tset 0 u.tier.drvFrames d (min n 233918112),
                                                                                                                        waking := u.tier.waking.erase d } }
      ∧ paired v = true ∧ w = issueNvme v d (.resRegister (resKey v)) ∧ serving w = false) ∧
    (∃ (s : State) (d : Nat), d < 16 ∧ drvState s d = 1) := by
  and_intros
  · refine ⟨(wSt (wOp 0x31 [0x400])), _, 1, _, _, some_eq _ ?_, rfl, rfl, ?_⟩ <;> decide +kernel
  · refine ⟨(let s := wSt (wOp 0x31 [0x400, 50]); { s with sec := wPool.sec }), _, 1, _, _, some_eq _ ?_, rfl, rfl, ?_⟩ <;> decide +kernel
  · refine ⟨(wSt (wOp 0x31 [5])), _, 0, _, _, ?_, rfl, rfl, rfl, ?_, ?_⟩ <;> decide +kernel
  · refine ⟨(wf wOn (ra pgPWR 0x100) 2 16 0x6469), _, 101, _, _, ?_, rfl, rfl, rfl, ?_, ?_, ?_⟩ <;> decide +kernel
  · refine ⟨(wb wServ (ra pgPWR 0x110) 8 true), _, 250, _, _, ?_, rfl, rfl, rfl, ?_, ?_, ?_⟩ <;> decide +kernel
  · refine ⟨(wb wServ (ra pgCXLP 0x114) 8 true), _, 0x8001, ?_, rfl⟩; decide +kernel
  · refine ⟨(wf wServ (ra pgPWR 0x100) 0 2 3), 19, 10, ?_, ?_, ?_, ?_, ?_⟩ <;> decide +kernel
  · refine ⟨(wf wServ (ra pgPWR 0x100) 0 2 3), _, 19, 100, ?_, ?_, ?_, ?_, rfl⟩ <;> decide +kernel
  · refine ⟨(wf wServ (ra pgPWR 0x100) 0 2 3), 18, ?_, ?_, ?_, ?_, ?_⟩ <;> decide +kernel
  · refine ⟨(wf wServ (ra pgPWR 0x100) 0 2 3), 18, ?_, ?_, ?_, ?_, ?_⟩ <;> decide +kernel
  · refine ⟨(wf (wf wServ (ra pgPWR 0x100) 0 2 3) (ra pgCIS 0x17C) 0 3 2), _, 15, ?_, ?_, ?_, ?_, ?_, rfl⟩ <;>
      decide +kernel
  · refine ⟨(wb (wb wServ (ra pgCIS 0x100) 0 true) (ra pgRTE 0x104) 24 false), _, _, _, 15, 10, false, ?_, ?_, ?_,
      rfl, rfl, rfl, ?_⟩ <;> decide +kernel
  · refine ⟨(wb (wb wServ (ra pgCIS 0x100) 0 true) (ra pgRTE 0x104) 24 true), _, _, _, _, 15, 10, false, ?_, ?_, ?_,
      rfl, rfl, rfl, ?_, rfl, ?_, ?_⟩ <;> decide +kernel
  · refine ⟨(wf (wb (wb wServ (ra pgCIS 0x100) 0 true) (ra pgRTE 0x104) 24 true) pairStat 0 3 1), _, _, _, _, 15,
      10, false, ?_, ?_, ?_, rfl, rfl, rfl, ?_, rfl, ?_⟩ <;> decide +kernel
  · refine ⟨(setDrv State.reset 15 1), 15, ?_, ?_⟩ <;> decide +kernel

/-- The hypotheses of CountersAndProfilesAct can be met, clause by clause. -/
theorem meets_CountersAndProfilesAct :
    (∃ (s : State), rb s (ra pgCTR 0x100) 0 = true ∧ s.pwr.held = 0 ∧ confidential s = false) ∧
    (∃ (s : State) (u : State), rb s (ra pgCTR 0x100) 0 = true ∧ s.pwr.held = 0 ∧ confidential s = true ∧ u =
      capture s true) ∧
    (∃ (s : State) (u : State) (id : Nat) (p : Nat) (v : Nat), assigned p = true ∧ s.pwr.held = 0 ∧ cntLo s id p =
      (v, u)) ∧
    (∃ (s : State) (h : Nat) (o : Op) (x : Snapshot) (rs : List CapRecord), ready s h 0x32 = some o ∧ snapMode o = 0
      ∧ 1 ≤ snapPages o ∧ snapPages o ≤ 4096 ∧ newest s = some x ∧ rs = x.recs.filter (fun r => decide (snapFirst o
      ≤ r.page) && decide (r.page < snapFirst o + snapPages o) && snapGranted s o.dom r)) ∧
    (∃ (s : State) (h : Nat) (o : Op) (t : Op), ready s h 0x32 = some o ∧ snapMode o = 1 ∧ opOf s (opnd o 0x18 4) =
      some t ∧ t.dom = o.dom ∧ (t.slot = true ∨ t.released ≠ 0) ∧ confidential s = false) ∧
    (∃ (s : State) (h : Nat) (n : Nat) (o : Op) (x : Profile), ready s h 0x30 = some o ∧ bitN (setProfileByte o) 2 =
      false ∧ n = fld (setProfileByte o) 0 2 ∧ storedProfile s n = some x ∧ profileFail (moduleGb s) x = 0 ∧ x.dirG
      ≠ 0 ∧ pinnedBasin s ≤ x.pinLimit) ∧
    (∃ (s : State) (h : Nat) (o : Op), ready s h 0x30 = some o ∧ bitN (setProfileByte o) 2 = true) := by
  and_intros
  · refine ⟨(wb wOn (ra pgCTR 0x100) 0 true), ?_, ?_, ?_⟩ <;> decide +kernel
  · refine ⟨(wb (wb wServ (ra pgCTR 0x100) 0 true) (ra pgSEC 0x120) 0 true), _, ?_, ?_, ?_, rfl⟩ <;> decide +kernel
  · refine ⟨(wb wOn (ra pgCTR 0x100) 0 true), _, 0, 0, _, ?_, ?_, pair_of _⟩ <;> decide +kernel
  · refine ⟨{ wSt (wOp 0x32 [0, 0x1000]) with ctr := { slots := [(1, ⟨1, 0, false, false, []⟩)], gen := 1 } }, 1, _,
      _, _, some_eq _ ?_, ?_, ?_, ?_, some_eq _ ?_, rfl⟩ <;> decide +kernel
  · refine ⟨{ wPool with cmd := { wPool.cmd with ops := [(1, wOp 0x32 [1, 0, 2]), (2, wStream wSrc [] wSink)] } },
      1, _, _, some_eq _ ?_, ?_, some_eq _ ?_, ?_, ?_, ?_⟩ <;> decide +kernel
  · refine ⟨(wf { wSt (wOp 0x30 [1]) with fw := { wServ.fw with types := [(9, { state := 0, a := { profile := some { version := 1,
                                                                                                                     moduleGb := 64,
                                                                                                                     dirG := 3,
                                                                                                                     scratchG := 9,
                                                                                                                     cacheG := 48 } } })] } }
      (ra 0x20 0x104) 2 2 2), 1, _, _, _, some_eq _ ?_, ?_, rfl, some_eq _ ?_, ?_, ?_, ?_⟩ <;> decide +kernel
  · refine ⟨(wSt (wOp 0x30 [4])), 1, _, some_eq _ ?_, ?_⟩ <;> decide +kernel

/-- The hypotheses of SidebandAndJtagAct can be met, clause by clause. -/
theorem meets_SidebandAndJtagAct :
    (∃ (s : State) (t : State) (a : Nat) (v : Nat), s.pwr.held ≠ 1 ∧ regRead s 3 a = (v, t)) ∧
    (∃ (s : State) (a : Nat) (v : W32), s.pwr.held ≠ 1) ∧
    (∃ (s : State) (t : State) (a : Nat) (v : W32), s.pwr.held ≠ 1 ∧ assigned (a / 4096) = true ∧ pageHeld s (a /
      4096) = false ∧ a % 4 = 0 ∧ regWrite s 3 (a / 4096) (a % 4096) (v.toNat % 2 ^ 32) = .next t) ∧
    (∃ (s : State) (e : Nat), s.pwr.held ≠ 1 ∧ 1 ≤ e ∧ e ≤ 254) ∧
    (∃ (s : State) (e : Nat), s.pwr.held ≠ 1 ∧ (e = 0 ∨ 254 < e)) ∧
    (∃ (s : State) (c : Nat), s.pwr.held ≠ 1) ∧
    (∃ (s : State) (r : Nat), s.pwr.held ≠ 1 ∧ 1 ≤ r ∧ r ≤ 29) ∧
    (∃ (s : State) (n : Nat) (v : Nat), s.pwr.held ≠ 1 ∧ sensorValue s n = some v) ∧
    (∃ (s : State), s.pwr.held ≠ 1) ∧
    (∃ (s : State) (e : Option Nat), s.pwr.held ≠ 1) ∧
    (∃ (s : State), s.pwr.held ≠ 1) ∧
    (∃ (s : State), confidential s = false ∧ s.pwr.aon = true) ∧
    (∃ (s : State) (i : Nat), confidential s = false ∧ s.pwr.aon = true ∧ debugOpen s = false ∧ 2 ≤ i) := by
  and_intros
  · refine ⟨wOn, _, 0, _, ?_, pair_of _⟩; decide +kernel
  · refine ⟨wOn, 0x100, 1, ?_⟩; decide +kernel
  · refine ⟨wOn, _, 0x100, 1, ?_, ?_, ?_, ?_, out_eq _ ?_⟩ <;> decide +kernel
  · refine ⟨wOn, 254, ?_, ?_, ?_⟩ <;> decide +kernel
  · refine ⟨wServ, 0, ?_, ?_⟩ <;> decide +kernel
  · refine ⟨wOn, 0, ?_⟩; decide +kernel
  · refine ⟨wOn, 28, ?_, ?_, ?_⟩ <;> decide +kernel
  · refine ⟨wOn, 1, _, ?_, some_eq _ ?_⟩ <;> decide +kernel
  · refine ⟨wOn, ?_⟩; decide +kernel
  · refine ⟨wOn, (some 8), ?_⟩; decide +kernel
  · refine ⟨wOn, ?_⟩; decide +kernel
  · refine ⟨wOn, ?_, ?_⟩ <;> decide +kernel
  · refine ⟨wOn, 2, ?_, ?_, ?_, ?_⟩ <;> decide +kernel

/-- The hypotheses of CommonHeaderActs can be met, clause by clause. -/
theorem meets_CommonHeaderActs :
    (∃ (s : State) (id : Nat) (p : Nat), headerOpen s p = true ∧ mayWrite id p 0x008 = true) ∧
    (∃ (s : State) (id : Nat) (p : Nat), headerOpen s p = true ∧ mayWrite id p 0x008 = true) ∧
    (∃ (s : State) (id : Nat) (p : Nat) (v : W32), headerOpen s p = true) ∧
    (∃ (s : State) (id : Nat) (p : Nat) (v : W32), headerOpen s p = true) := by
  and_intros
  · refine ⟨wOn, 2, 0x108, ?_, ?_⟩ <;> decide +kernel
  · refine ⟨wOn, 2, pgWEIR, ?_, ?_⟩ <;> decide +kernel
  · refine ⟨wOn, 2, pgWEIR, 1, ?_⟩; decide +kernel
  · refine ⟨wOn, 2, pgWEIR, 1, ?_⟩; decide +kernel

/-- A command with a next state. -/
theorem meets_CommandsKeepTheirFrame : ∃ (i : Instr) (s t : State), exec i s = .next t :=
  ⟨.blkLock 2 pgXLT, wOn, outState (execBlkLock 2 pgXLT wOn), out_eq (execBlkLock 2 pgXLT wOn) (by decide +kernel)⟩

/-- A step with a next state, with two commands waiting. -/
theorem meets_QueueIsFirstInFirstOut :
    ∃ (s t : State) (c : Instr) (cs : List Instr), s.pending = c :: cs ∧ step s = .next t :=
  ⟨{ wOn with pending := [.blkLock 2 pgXLT, .cxlHotReset] }, _, .blkLock 2 pgXLT, [.cxlHotReset], rfl,
    out_eq (execBlkLock 2 pgXLT { wOn with pending := [.cxlHotReset] }) (by decide +kernel)⟩

/-- A step with a next state. -/
theorem meets_WhatHasLeftStays : ∃ s t : State, step s = .next t :=
  ⟨{ wOn with pending := [.getTimestamp] }, _, out_eq (execGetTimestamp { wOn with pending := [] }) (by decide +kernel)⟩

def wMixed : State := { wOnes with poison := [(5, 7)], counters := [(9, 1)] }

theorem wMixed_step :
    step { wMixed with pending := [.atomicAddI32 ⟨wVa + 4, 1⟩] } =
      execAtomicAddI32 ⟨wVa + 4, 1⟩ { wMixed with pending := [] } := rfl

/-- A step from a state that keeps the invariant and lists bytes, poison and a counter. -/
theorem meets_StepKeepsCanonicalForm : ∃ s t : State, Sys2Proof.Machine.Inv s ∧ step s = .next t :=
  ⟨{ wMixed with pending := [.atomicAddI32 ⟨wVa + 4, 1⟩] }, _,
    by unfold Sys2Proof.Machine.Inv; decide +kernel,
    wMixed_step.trans (out_eq _ (by decide +kernel))⟩

/-- Each stop is reached. -/
theorem meets_OnlyTheseCommandsStop :
    outFault (execRailOrder 21 wOn) = some .outsideRatings ∧
    outRefusal (execRegisterWrite 2 (pgHHD * 4096 + 0x100) 4 0 wOn) = some .hhdRegister ∧
    outRefusal (execJtagTapAccess 2 (wf wOn debugReg 0 2 1)) = some .jtagUnlocked := by decide +kernel

end Sys2Proof.Tests
end

section
/-!
PROOFS. The register map of chapter 00's scope: what a write makes of the fields of a register (R9), which writes of the
bus act (R7, R485, R489, R491), and the stepping that BLK_ID reports (R2).
-/
namespace Sys2Proof.Machine

/-! ## Fields under a write -/

/-- Two fields share no bit. -/
abbrev Field.Apart (a b : Field) : Prop := a.lo + a.w ≤ b.lo ∨ b.lo + b.w ≤ a.lo

/-- Whatever its access code, a field's write replaces no bits but the field's own. -/
theorem writeField_eq_old_or_setFld (lk : Bool) (old new : Nat) (f : Field) :
    writeField lk old new f = old ∨ ∃ x, writeField lk old new f = setFld old f.lo f.w x := by
  unfold writeField
  cases f.acc with
  | ro | wo => exact .inl rfl
  | rw | rwl =>
    dsimp only
    split
    · exact .inr ⟨_, rfl⟩
    · exact .inl rfl
  | w1c => exact .inr ⟨_, rfl⟩

/-- The write of one field leaves a field apart from it. -/
theorem fld_writeField_of_apart (lk : Bool) (old new : Nat) {f g : Field} (h : g.Apart f) :
    fld (writeField lk old new g) f.lo f.w = fld old f.lo f.w := by
  rcases writeField_eq_old_or_setFld lk old new g with e | ⟨x, e⟩ <;> rw [e]
  rcases h with above | below
  · exact fld_setFld_above _ _ _ _ _ _ above
  · exact fld_setFld_below _ _ _ _ _ _ below

/-- The write of fields all apart from one leaves that one. -/
theorem fld_writeFields_of_apart (lk : Bool) (old new : Nat) (gs : List Field) (f : Field) (h : ∀ g ∈ gs, g.Apart f) :
    fld (writeFields lk old new gs) f.lo f.w = fld old f.lo f.w := by
  unfold writeFields
  induction gs generalizing old with
  | nil => rfl
  | cons g gs ih =>
    rw [List.foldl_cons, ih _ fun g' hg' => h g' (List.mem_cons_of_mem _ hg'),
      fld_writeField_of_apart _ _ _ (h g List.mem_cons_self)]

/-- An RW field, or an RWL field off a locked page, takes a legal value and keeps its own under a reserved one (R9). -/
theorem fld_writeField_self (lk : Bool) (old new : Nat) (f : Field) (hacc : f.acc = .rw ∨ f.acc = .rwl) :
    fld (writeField lk old new f) f.lo f.w =
      if (f.acc = .rw ∨ lk = false) ∧ f.minv ≤ fld new f.lo f.w ∧ fld new f.lo f.w ≤ f.maxv then fld new f.lo f.w
      else fld old f.lo f.w := by
  have hset : fld (setFld old f.lo f.w (fld new f.lo f.w)) f.lo f.w = fld new f.lo f.w := by
    rw [fld_setFld_same, Nat.mod_eq_of_lt (fld_lt _ _ _)]
  rcases hacc with hrw | hrwl
  · simp only [writeField, hrw, apply_ite (fld · f.lo f.w), hset, true_or, true_and, Bool.and_eq_true, decide_eq_true_eq]
  · simp only [writeField, hrwl, apply_ite (fld · f.lo f.w), hset, reduceCtorEq, false_or, Bool.and_eq_true,
      decide_eq_true_eq, Bool.not_eq_true', and_comm (b := lk = false)]

/-- In a register whose fields are apart, a write does to a field what it does to that field alone. -/
theorem fld_writeFields_eq_writeField (lk : Bool) (old new : Nat) (fs : List Field) (f : Field)
    (hfs : fs.Pairwise Field.Apart) (hf : f ∈ fs) (hacc : f.acc = .rw ∨ f.acc = .rwl) :
    fld (writeFields lk old new fs) f.lo f.w = fld (writeField lk old new f) f.lo f.w := by
  obtain ⟨before, after, rfl⟩ := List.append_of_mem hf
  obtain ⟨-, hrest, hcross⟩ := List.pairwise_append.1 hfs
  have hbefore : ∀ g ∈ before, g.Apart f := fun g hg => hcross g hg f List.mem_cons_self
  have hafter : ∀ g ∈ after, g.Apart f := fun g hg => ((List.pairwise_cons.1 hrest).1 g hg).symm
  have hsplit : writeFields lk old new (before ++ f :: after) =
      writeFields lk (writeField lk (writeFields lk old new before) new f) new after := by
    simp only [writeFields, List.foldl_append, List.foldl_cons]
  rw [hsplit, fld_writeFields_of_apart _ _ _ _ _ hafter, fld_writeField_self _ _ _ _ hacc,
    fld_writeField_self _ _ _ _ hacc, fld_writeFields_of_apart _ _ _ _ _ hbefore]

/-! ## The descriptions of the register map -/

/-- The lists that `regsOfPage` chooses from. -/
def pageLists : List (List RegD) :=
  [regsTop, regsProf, regsSec, regsWeir, regsXlt, regsTier, regsRte, regsDram, regsFab, regsCore, regsCmdq]

theorem regsOfPage_mem_pageLists (p : Nat) : regsOfPage p ∈ pageLists := by
  unfold regsOfPage
  split_ifs <;> simp [pageLists]

theorem regsHeader_fields_apart : ∀ d ∈ regsHeader, d.fields.Pairwise Field.Apart := by decide

theorem pageLists_fields_apart : ∀ l ∈ pageLists, ∀ d ∈ l, d.fields.Pairwise Field.Apart := by decide

/-- Settles O4: the other fields of the register are apart from the field, so that their writes do not reach it, and
its own write takes a legal value whole or leaves the field. -/
theorem reservedEncodingsLeaveTheFieldAlone : Obligations.ReservedEncodingsLeaveTheFieldAlone := by
  unfold Obligations.ReservedEncodingsLeaveTheFieldAlone
  refine ⟨fun lk old new fs f hfs hf hacc => ?_, fun p d hd => ?_⟩
  · rw [fld_writeFields_eq_writeField lk old new fs f hfs hf hacc, fld_writeField_self lk old new f hacc]
  · rcases List.mem_append.1 hd with hheader | hpage
    · exact regsHeader_fields_apart d hheader
    · exact pageLists_fields_apart _ (regsOfPage_mem_pageLists p) d hpage

/-! ## Writes of the bus -/

/-- The low word of a write holds the bits that it carries. -/
theorem testBit_lowWord (v : Nat) {i : Nat} (hi : i < 32) : (v % 0x100000000).testBit i = v.testBit i := by
  rw [show 0x100000000 = 2 ^ 32 from rfl, Nat.testBit_mod_two_pow, decide_eq_true hi, Bool.true_and]

section BusWrite

variable {s : State} {id a : Nat} (v : Nat) (hp : assigned (a / 4096) = true) (hh : pageHeld s (a / 4096) = false)

include hp hh

/-- An aligned write of 32 bits is a write of its register. -/
theorem busWrite_word (ha : a % 4 = 0) :
    busWrite s id a 4 v = regWrite s id (a / 4096) (a % 4096) (v % 0x100000000) := by
  simp [busWrite, hp, hh, ha]

/-- An aligned write of 64 bits whose first half answers a state: the second half follows on the same page, while that
page is not held. -/
theorem busWrite_double (ha : a % 4 = 0) {t : State}
    (hw : regWrite s id (a / 4096) (a % 4096) (v % 0x100000000) = .next t) :
    busWrite s id a 8 v =
      if (a + 4) / 4096 = a / 4096 ∧ ¬ pageHeld t (a / 4096) then
        regWrite t id (a / 4096) ((a + 4) % 4096) (v / 0x100000000 % 0x100000000)
      else .next t := by
  simp [busWrite, hp, hh, ha, hw]

/-- A write that is misaligned, or of another size, is counted (R485). -/
theorem busWrite_malformed {n : Nat} (hbad : a % 4 ≠ 0 ∨ (n ≠ 4 ∧ n ≠ 8)) :
    busWrite s id a n v = .next (errInc s (a / 4096) 1) := by
  have h4 : ¬ (a % 4 = 0 ∧ n = 4) := by omega
  have h8 : ¬ (a % 4 = 0 ∧ n = 8) := by omega
  simp [busWrite, hp, hh, h4, h8]

end BusWrite

/-- A write of a register that no command stands behind is a plain one. -/
theorem regWrite_plain {s : State} {id p off v : Nat} (h8 : off ≠ 8) (h10 : off ≠ 0x10) (h14 : off ≠ 0x14)
    (hmgmt : mgmtWrite s id p off v = none) (hblock : blockWrite s id p off v = none)
    (hunit : unitWrite s id p off v = none) : regWrite s id p off v = .next (plainWrite s id p off v) := by
  simp only [regWrite, h8, h10, h14, if_false, hmgmt, hblock, hunit]

/-- A write of BLK_CTL by an identity that may, with SRST 0 and LOCK 1, sets LOCK (R489, R491). -/
theorem regWrite_blkCtl_lock {s : State} {id p v : Nat} (hid : mayWrite id p 8 = true) (hsrst : v.testBit 1 = false)
    (hlock : v.testBit 2 = true) : regWrite s id p 8 v = .next (wb s (ra p 8) 2 true) := by
  simp [regWrite, bitN, hid, hsrst, hlock]

/-- A write of BLK_CTL by another identity changes nothing (R489). -/
theorem regWrite_blkCtl_ignored {s : State} {id p v : Nat} (hid : mayWrite id p 8 = false) :
    regWrite s id p 8 v = .next s := by
  simp [regWrite, hid]

section PlainWrite

variable {s : State} {id p off v : Nat} {d : RegD} (hd : regDesc p off = some d) (hid : mayWrite id p off = true)
  (hdata : dataWrite s id p off v = none)

include hd hid hdata

/-- A register kept per identity takes its fields in that identity's copy (R487). -/
theorem plainWrite_perId (hper : d.perId = true) :
    plainWrite s id p off v =
      wi s id (ra p off) (writeFields (locked s p) (ri s id (ra p off)) v (openFields s p off d.fields)) := by
  simp [plainWrite, hd, hid, hdata, hper]

/-- A register kept once takes its fields, within the limits that other fields set. -/
theorem plainWrite_shared (hper : d.perId = false) :
    plainWrite s id p off v =
      afterWrite (wr s (ra p off) (crossFields s p off (rd s (ra p off))
        (writeFields (locked s p) (rd s (ra p off)) v (openFields s p off d.fields)))) p off (rd s (ra p off)) := by
  simp [plainWrite, hd, hid, hdata, hper]

end PlainWrite

/-- REGISTER_WRITE is the write of the bus. -/
theorem exec_registerWrite (id a n : Nat) (v : BitVec 64) (s : State) :
    exec (.registerWrite id a n v) s = busWrite s id a n v.toNat := rfl

/-- BLK_CTL of a page. -/
theorem exec_registerWrite_blkCtl (id p : Nat) (v : BitVec 64) (s : State) (hp : assigned p = true)
    (hh : pageHeld s p = false) :
    exec (.registerWrite id (4096 * p + 8) 4 v) s = regWrite s id p 8 (v.toNat % 0x100000000) := by
  have hpage : (4096 * p + 8) / 4096 = p := by omega
  have hoff : (4096 * p + 8) % 4096 = 8 := by omega
  rw [exec_registerWrite, busWrite_word v.toNat (by rwa [hpage]) (by rwa [hpage]) (by omega), hpage, hoff]

/-- Settles O1: each size and alignment by its case of the bus write, each register by its case of the register write. -/
theorem registerWritesAct : Obligations.RegisterWritesAct := by
  unfold Obligations.RegisterWritesAct
  refine ⟨?perIdentity, ?shared, ?bothHalves, ?firstHalf, ?malformed, ?lock, ?lockRefused⟩
  case perIdentity =>
    intro s id a v d hp hh ha h8 h10 h14 hmgmt hblock hunit hd hid hdata hper
    rw [exec_registerWrite, busWrite_word _ hp hh ha, regWrite_plain h8 h10 h14 hmgmt hblock hunit,
      plainWrite_perId hd hid hdata hper]
  case shared =>
    intro s id a v d hp hh ha h8 h10 h14 hmgmt hblock hunit hd hid hdata hper
    rw [exec_registerWrite, busWrite_word _ hp hh ha, regWrite_plain h8 h10 h14 hmgmt hblock hunit,
      plainWrite_shared hd hid hdata hper]
  case bothHalves =>
    intro s t id a v hp hh ha hw hsame ht
    rw [exec_registerWrite, busWrite_double _ hp hh ha hw, if_pos ⟨hsame, by simp [ht]⟩]
  case firstHalf =>
    intro s t id a v hp hh ha hw hother
    rw [exec_registerWrite, busWrite_double _ hp hh ha hw, if_neg fun h => hother h.1]
  case malformed =>
    intro s id a n v hp hh hbad
    rw [exec_registerWrite, busWrite_malformed _ hp hh hbad]
  case lock =>
    intro s id p v hp hh hid hsrst hlock
    rw [exec_registerWrite_blkCtl id p v s hp hh,
      regWrite_blkCtl_lock hid ((testBit_lowWord _ (by decide)).trans hsrst)
        ((testBit_lowWord _ (by decide)).trans hlock)]
    exact ⟨rfl, rb_wb_same s (ra p 8) 2 true (by decide)⟩
  case lockRefused =>
    intro s id p v hp hh hid
    rw [exec_registerWrite_blkCtl id p v s hp hh, regWrite_blkCtl_ignored hid]

/-! ## The stepping -/

/-- BLK_ID of a page that is assigned and not held reads as Table 22-2 gives it, for any identity. -/
theorem regRead_blkId (s : State) (id p : Nat) (hp : assigned p = true) (hh : pageHeld s p = false) :
    regRead s id (4096 * p) = (blkId p, s) := by
  have hpage : 4096 * p / 4096 = p := by omega
  have hoff : 4096 * p % 4096 = 0 := by omega
  have hword : 4096 * p % 4 = 0 := by omega
  simp [regRead, regValue, hpage, hoff, hword, hp, hh]

/-- Settles O3: page 0 is TOP's, and its BLK_ID is a constant of the map. -/
theorem steppingIsReported : Obligations.SteppingIsReported := by
  unfold Obligations.SteppingIsReported
  intro s id hh
  exact ⟨blkId pgTOP, regRead_blkId s id pgTOP (by decide) hh, by decide⟩

end Sys2Proof.Machine
end

section
/-!
PROOFS. Pages of BAR0 that no block has (R21), and the commands of the engines: dealing and assigning tiles (R230, R232,
R240), their commit (R23), the end of a closed reduction (R224) and the entry of the reserve core (R239, R240).
-/
namespace Sys2Proof.Machine

/-! ## Pages that no block has -/

/-- A read of a page that is not assigned answers zero and leaves the state, whatever the identity (R21). -/
theorem regRead_of_unassigned (s : State) (id : Nat) {a : Nat} (hp : assigned (a / 4096) = false) :
    regRead s id a = (0, s) := by
  simp [regRead, hp]

/-- A write to a page that is not assigned is ignored, and not counted (R21). -/
theorem busWrite_of_unassigned (s : State) (id n v : Nat) {a : Nat} (hp : assigned (a / 4096) = false) :
    busWrite s id a n v = .next s := by
  simp [busWrite, hp]

/-- The mailboxes are the last block of the page map. -/
theorem pageTypes_end_le : ∀ r ∈ pageTypes, r.2.1 ≤ 0x23F := by decide

/-- No page beyond the mailboxes is assigned. -/
theorem assigned_of_gt {p : Nat} (hp : 0x23F < p) : assigned p = false := by
  have hnone : pageRange p = none := by
    refine List.find?_eq_none.2 fun r hr => ?_
    have hend := pageTypes_end_le r hr
    simp only [Bool.and_eq_true, decide_eq_true_eq]
    omega
  rw [assigned, hnone, Option.isSome_none]

/-- Settles O2: reads and writes of the bus stop at a page that is not assigned, and the private pages lie beyond the
last block of the page map. -/
theorem unassignedPagesReadZero : Obligations.UnassignedPagesReadZero := by
  unfold Obligations.UnassignedPagesReadZero
  refine ⟨fun s id a n v hp => ⟨regRead_of_unassigned s id hp, ?_⟩, fun p hlow _ => assigned_of_gt (by omega)⟩
  rw [exec_registerWrite, busWrite_of_unassigned s id n _ hp]

/-! ## Dealing -/

section Dealing

variable {s : State} {cl c h : Nat} {o : Op} (hcl : cl < 4) (hpause : s.pair.pause = false)
  (hserving : serving s = true) (hask : askingCore s cl = some c)

include hcl hpause hserving hask

/-- With nothing stranded, the asking core is dealt the next batch of the operation that is picked (R230). -/
theorem execBatchDeal_of_picked (hnone : strandedBatch s cl = []) (hpick : dealPick s cl = some (h, o)) :
    execBatchDeal cl s = .next (dealBatch (count s (pgCLU + cl) 11 1) cl c h o) := by
  simp [execBatchDeal, Nat.not_le.2 hcl, hpause, hserving, hask, hnone, hpick]

/-- What a retired core has left is dealt whether or not an operation has a batch (R240, log entry 84). -/
theorem execBatchDeal_of_stranded (hsome : strandedBatch s cl ≠ []) :
    execBatchDeal cl s = .next (dealStranded (count s (pgCLU + cl) 11 1) cl c (strandedBatch s cl)) := by
  cases hb : strandedBatch s cl with
  | nil => exact absurd hb hsome
  | cons t ts => simp [execBatchDeal, Nat.not_le.2 hcl, hpause, hserving, hask, hb]

end Dealing

/-! ## Assignment -/

/-- The first tile of a list is assigned where its operation is below its cap and its records translate (R232). -/
theorem assignFirst_cons_of_translated {s u : State} {e : Nat} {o : Op} {t w : Tile} (ts : List Tile)
    (ho : opOf s t.op = some o) (hw : tileOf s t.op t.num = some w) (hcap : inEngines s t.op < opCap o)
    (htr : translateTile t.op t.num o s = .done () u) :
    assignFirst e (t :: ts) s =
      modTile u t.op t.num fun t => { t with eng := some e, serial := u.cmd.serial, stage := 0 } := by
  simp [assignFirst, ho, hw, Nat.not_le.2 hcap, htr]

/-- A core in service that has a free engine assigns it the first of its started tiles that can be assigned (R232). -/
theorem execTileAssign_of_free {s : State} {core e : Nat} (hcore : core < 20) (hin : coreInService s core = true)
    (hgate : coreGated s core = false) (hpause : s.pair.pause = false) (hserving : serving s = true)
    (hfree : freeEngine s core = some e) :
    execTileAssign core s = .next (assignFirst e ((coreDealt s core).filter fun t => t.started) s) := by
  simp [execTileAssign, Nat.not_le.2 hcore, hin, hgate, hpause, hserving, hfree]

/-! ## The commit of a tile -/

section Commit

variable {s : State} {h num : Nat} {o : Op} {t : Tile} (ho : opOf s h = some o) (ht : tileOf s h num = some t)
  (heng : t.eng.isNone = false) (hstage : t.stage = nstat o + 2) (hmsgs : (tileMsgs s h num).isEmpty = true)

include ho ht heng hstage hmsgs

/-- A tile whose writes have been issued commits once none of them is still on its way. -/
theorem execTileCommit_of_issued (hissued : t.issued = true) (hwriting : tileWriting s h num = false) :
    execTileCommit h num s = .next (tileDone s h o t) := by
  simp [execTileCommit, ho, ht, heng, hstage, hmsgs, hissued, hwriting]

/-- A tile whose writes can be issued commits with them, or waits for those that are still on their way (R23). -/
theorem execTileCommit_of_issueWrites {u v : State} (hissued : t.issued = false)
    (hextra : commitExtra ⟨o, t, recOf o (nstat o + 1)⟩ h num s = .done () u)
    (hissue : issueWrites o ((tileOf (forgetSnoops u (.tile h num)) h num).getD t) h (forgetSnoops u (.tile h num)) =
      .done () v) :
    execTileCommit h num s =
      if tileWriting v h num then .next v else .next (tileDone v h o ((tileOf v h num).getD t)) := by
  simp [execTileCommit, ho, ht, heng, hstage, hmsgs, hissued, hextra, hissue]

end Commit

/-! ## The end of a reduction -/

/-- A reduction that is armed, not cancelled and closed, with no tile left, ends with STATE 2 (R224, Table 9-2). -/
theorem execReductionComplete_of_closed {s : State} {h : Nat} {o : Op} {a : Arrival} (ho : opOf s h = some o)
    (harr : o.arrival = some a) (hphase : o.phase = .running ∨ o.phase = .suspending) (hkept : o.cancelled = false)
    (harmed : a.armed = true) (htiles : (opTiles s h).isEmpty = true) (hclosed : reductionClosed a = true) :
    execReductionComplete h s = .next (closeReduction (markLost s h) h) := by
  have hdue : ((decide (o.phase = .running) || decide (o.phase = .suspending)) && !o.cancelled && a.armed &&
      (opTiles s h).isEmpty && reductionClosed a) = true := by
    rw [← Bool.decide_or, decide_eq_true hphase, hkept, harmed, htiles, hclosed]
    rfl
  simp only [execReductionComplete, ho, harr, hdue, guarded_true]

/-! ## The reserve core -/

section Reserve

variable {s : State} {cl c r : Nat} (hcl : cl < 4) (hsub : substituting s cl = some c)
  (hres : reserveCore s cl = some r)

include hcl hsub hres

/-- The reserve core that is to serve leaves power gating (R239). -/
theorem execReservePowerUp_of_substituting : execReservePowerUp cl s = .next (setGated s r false) := by
  simp [execReservePowerUp, hcl, hsub, hres]

/-- Where its golden tile passes, the reserve core takes the role, the place and the waiting tiles of the core that is
substituted, which is retired (R239). -/
theorem execReserveGoldenTileDone_of_pass (hgate : coreGated s r = false) :
    ∃ u v, u = engineLedger (wf (setRole (setRole s c 2) r 0) (coreReg r) 2 3 (c % 5)) ∧
      v = { u with cmd := { u.cmd with
        tiles := u.cmd.tiles.map fun t => if t.core = c ∧ t.eng.isNone then { t with core := r } else t } } ∧
      execReserveGoldenTileDone cl true s = .next (reserveEvent v (pgCORE + r) c (enginesLeft v)) := by
  refine ⟨_, _, rfl, rfl, ?_⟩
  simp [execReserveGoldenTileDone, hcl, hsub, hres, hgate]

/-- Where its golden tile fails, the reserve core is retired with the core that it was to serve (R240). -/
theorem execReserveGoldenTileDone_of_fail (hgate : coreGated s r = false) :
    execReserveGoldenTileDone cl false s =
      .next (retireCore (event (engineLedger (setRole (setRole s c 2) r 2))
        { source := pgCORE + r, sev := sevError, cls := clEngine, loc := 4 * r }) c) := by
  simp [execReserveGoldenTileDone, hcl, hsub, hres, hgate]

end Reserve

/-- Settles O32: each command by its case above; the two clauses of a commit that issues its writes are the two branches
of one equation. -/
theorem tilesAreDealtAssignedAndCommitted : Obligations.TilesAreDealtAssignedAndCommitted := by
  unfold Obligations.TilesAreDealtAssignedAndCommitted
  refine ⟨?dealPicked, ?dealStranded, ?assign, ?assignHead, ?commitIssued, ?commitNow, ?commitWaits, ?reduction,
    ?powerUp, ?goldenPass, ?goldenFail⟩
  case dealPicked => exact fun _ _ _ _ _ => execBatchDeal_of_picked
  case dealStranded => exact fun _ _ _ => execBatchDeal_of_stranded
  case assign => exact fun _ _ _ => execTileAssign_of_free
  case assignHead =>
    intro s u core e o t w ts hcore hin hgate hpause hserving hfree hhead ho hw hcap htr
    refine (execTileAssign_of_free hcore hin hgate hpause hserving hfree).trans ?_
    rw [hhead, assignFirst_cons_of_translated ts ho hw hcap htr]
  case commitIssued => exact fun _ _ _ _ _ => execTileCommit_of_issued
  case commitNow =>
    intro s u v h num o t ho ht heng hstage hmsgs hissued hextra hissue hwriting
    refine (execTileCommit_of_issueWrites ho ht heng hstage hmsgs hissued hextra hissue).trans ?_
    rw [hwriting, if_neg Bool.false_ne_true]
  case commitWaits =>
    intro s u v h num o t ho ht heng hstage hmsgs hissued hextra hissue hwriting
    exact (execTileCommit_of_issueWrites ho ht heng hstage hmsgs hissued hextra hissue).trans (if_pos hwriting)
  case reduction => exact fun _ _ _ _ => execReductionComplete_of_closed
  case powerUp => exact fun _ _ _ _ => execReservePowerUp_of_substituting
  case goldenPass => exact fun _ _ _ _ => execReserveGoldenTileDone_of_pass
  case goldenFail => exact fun _ _ _ _ => execReserveGoldenTileDone_of_fail

end Sys2Proof.Machine
end

section
/-!
PROOFS. The allocator of chapter 02: ALLOC (R27, R30, R32), FREE, RESIZE, SET_ATTR, PIN and UNPIN on a live region
(R41 to R43, R132, R515), PUBLISH (R40, R48, R50) and the deferred ends (R44).
-/
namespace Sys2Proof.Machine

/-! ## Operations and regions under the allocator's updates -/

@[simp] theorem opOf_count (s : State) (p i n h : Nat) : opOf (count s p i n) h = opOf s h := rfl
@[simp] theorem opOf_modOp_same (s : State) (h : Nat) (f : Op → Op) : opOf (modOp s h f) h = (opOf s h).map f :=
  tget_tmod_same s.cmd.ops h f

@[simp] theorem alloc_modOp (s : State) (h : Nat) (f : Op → Op) : (modOp s h f).alloc = s.alloc := rfl
@[simp] theorem regionOf_modOp (s : State) (h g : Nat) (f : Op → Op) : regionOf (modOp s h f) g = regionOf s g := rfl
@[simp] theorem opOf_leaveQueue (s : State) (g h : Nat) : opOf (leaveQueue s g) h = opOf s h := rfl
@[simp] theorem regions_leaveQueue (s : State) (h : Nat) : (leaveQueue s h).alloc.regions = s.alloc.regions := rfl
@[simp] theorem regionOf_leaveQueue (s : State) (h g : Nat) : regionOf (leaveQueue s h) g = regionOf s g := rfl
@[simp] theorem opOf_setRegion (s : State) (idx h : Nat) (r : Region) : opOf (setRegion s idx r) h = opOf s h := rfl
@[simp] theorem regions_setRegion (s : State) (idx : Nat) (r : Region) :
    (setRegion s idx r).alloc.regions = tput s.alloc.regions idx r := rfl
@[simp] theorem opOf_chargeAdd (s : State) (dom k n h : Nat) : opOf (chargeAdd s dom k n) h = opOf s h := rfl
@[simp] theorem regions_chargeAdd (s : State) (dom k n : Nat) :
    (chargeAdd s dom k n).alloc.regions = s.alloc.regions := rfl

/-- A TIERED region asks for no pin quota, and is charged none (R29). -/
@[simp] theorem pinOk_tiered (s : State) (dom n : Nat) : pinOk s dom 0 n = true := rfl
@[simp] theorem pinCharge_tiered (s : State) (dom n : Nat) : pinCharge s dom 0 n = s := rfl

/-- The sub-pages of a TIERED region move nowhere (R132). -/
theorem pinStep_of_tiered {s : State} {idx : Nat} {r : Region} (hr : tget s.alloc.regions idx = some r)
    (ht : r.residency = 0) : pinStep s idx = s := by
  simp [pinStep, hr, ht]

/-- A handle still names its region, of the same generation, once that is replaced (R32). -/
theorem regionOf_setRegion {s : State} {hd : Nat} {r r' : Region} (hg : regionOf s hd = some r)
    (hgen : r'.gen = r.gen) : regionOf (setRegion s (hd % 65536) r') hd = some r' := by
  obtain ⟨x, -, hx⟩ := Option.bind_eq_some_iff.1 hg
  obtain ⟨hlive, hx⟩ := Option.ite_none_right_eq_some.1 hx
  obtain rfl := Option.some.inj hx
  simp [regionOf, hgen, hlive]

/-! ## The end of an operation that is no arrival-driven reduction -/

/-- An operation that is no reduction has no record to flush (R221). -/
theorem flushRecord_of_noArrival {s : State} {h : Nat} {o : Op} (ho : opOf s h = some o) (ha : o.arrival = none) :
    flushRecord s h = s := by
  simp [flushRecord, ho, ha]

/-- Ending the arrival state leaves an operation that has none. -/
theorem opOf_arrivalEnd_of_noArrival {s : State} {h : Nat} {o : Op} (ho : opOf s h = some o) (ha : o.arrival = none) :
    opOf (arrivalEnd s h) h = some o := by
  obtain ⟨⟩ := o
  cases ha
  simp [arrivalEnd, modArrival, ho]

/-- A running operation that has ended its work is ending (R161). -/
theorem phase_endOp_of_running {s : State} {h c : Nat} {o : Op} (ho : opOf s h = some o) (ha : o.arrival = none)
    (hrun : o.phase = .running) : (opOf (endOp s h c) h).map (fun x => x.phase) = some .ending := by
  have hkept := opOf_arrivalEnd_of_noArrival ho ha
  simp [endOp, flushRecord_of_noArrival hkept ha, hkept, hrun]

/-- The end of an operation that is no reduction leaves the allocator. -/
theorem alloc_endOp_of_noArrival {s : State} {h c : Nat} {o : Op} (ho : opOf s h = some o) (ha : o.arrival = none) :
    (endOp s h c).alloc = s.alloc := by
  rw [endOp_plain s h c (by simp [ho, ha])]

/-! ## ALLOC -/

/-- MAX_SIZE as ALLOC takes it: SIZE where it is 0 (Table 2-4). -/
def allocMax (o : Op) : Nat := if opnd o 0x14 4 = 0 then opnd o 0x10 4 else opnd o 0x14 4

/-- The region that an ALLOC of a TIERED residency describes, at a base (R30, Table 2-3). -/
def allocatedRegion (s : State) (o : Op) (base : Nat) : Region where
  gen := nextGen s (findIndex s)
  dom := o.dom
  base := base
  size := opnd o 0x10 4
  max := allocMax o
  coherent := bitN (opnd o 0x18 4) 0
  mirrored := bitN (opnd o 0x18 4) 1
  versioned := bitN (opnd o 0x18 4) 2
  reserve := bitN (opnd o 0x18 4) 3
  residency := 0
  grain := fld (opnd o 0x18 4) 6 3
  defaultSc := fld (opnd o 0x18 4) 9 3
  unitsLeft := if bitN (opnd o 0x18 4) 3 then opnd o 0x10 4 else 0
  dramUnits := bitN (opnd o 0x18 4) 0

/-- The state in which a region is listed at its index and charged to its domain (R24, R29, R32). -/
def listRegion (s : State) (idx : Nat) (r : Region) : State :=
  let u : State := { s with fresh := s.fresh + 1 }
  let u : State := { setRegion u idx r with
    alloc := { (setRegion u idx r).alloc with gens := tput u.alloc.gens idx r.gen } }
  let u := chargeAdd (chargeAdd u r.dom 0 1) r.dom 1 r.size
  if r.reserve then chargeAdd u r.dom 2 r.size else u

@[simp] theorem regions_listRegion (s : State) (idx : Nat) (r : Region) :
    (listRegion s idx r).alloc.regions = tput s.alloc.regions idx r := by
  unfold listRegion
  split <;> rfl

@[simp] theorem opOf_listRegion (s : State) (idx h : Nat) (r : Region) : opOf (listRegion s idx r) h = opOf s h := by
  unfold listRegion
  split <;> rfl

/-- What an ALLOC of a TIERED residency needs of its operands (Tables 2-3 and 2-4), of the directory, of the domain's
key and quotas and of the free space, at a base that is found for it (R24, R27, R30, R35). -/
structure AllocFits (s : State) (o : Op) (base : Nat) : Prop where
  pos : opnd o 0x10 4 ≠ 0
  size : opnd o 0x10 4 ≤ 0x8000000
  max : opnd o 0x14 4 = 0 ∨ (opnd o 0x10 4 ≤ opnd o 0x14 4 ∧ opnd o 0x14 4 ≤ 0x8000000)
  flags : opnd o 0x18 4 < 0x1000
  tiered : fld (opnd o 0x18 4) 4 2 = 0
  attrs : attrsRefused (bitN (opnd o 0x18 4) 0) (bitN (opnd o 0x18 4) 2) (bitN (opnd o 0x18 4) 3) 0
    (fld (opnd o 0x18 4) 6 3) (fld (opnd o 0x18 4) 9 3) = false
  directory : bitN (opnd o 0x18 4) 0 = false ∨ (noDirectory s = false ∧ pendProfile s = none)
  key : keyed s o.dom = true
  regionQuota : quotaOk s o.dom 0 1 = true
  sizeQuota : quotaOk s o.dom 1 (opnd o 0x10 4) = true
  reserve : bitN (opnd o 0x18 4) 3 = false ∨
    reserveOk s o.dom (opnd o 0x10 4) (bitN (opnd o 0x18 4) 0) = true
  room : s.alloc.regions.length < 65536
  found : findBase s (if bitN (opnd o 0x18 4) 2 then 2 * allocMax o else allocMax o) = some base

/-- The size and the maximum are in range, and the maximum is no less than the size. -/
theorem AllocFits.allocMax_bounds {s : State} {o : Op} {base : Nat} (hfits : AllocFits s o base) :
    opnd o 0x10 4 ≤ allocMax o ∧ allocMax o ≤ 0x8000000 := by
  have hsize := hfits.size
  have hmax := hfits.max
  unfold allocMax
  split <;> omega

/-- A coherent region has a directory, now and under the pending profile (R480). -/
theorem AllocFits.directory_on {s : State} {o : Op} {base : Nat} (hfits : AllocFits s o base) :
    ¬ (bitN (opnd o 0x18 4) 0 = true ∧
      (noDirectory s || ((pendProfile s).map fun p => decide (p.dirG = 0)).getD false) = true) := by
  rintro ⟨hcoherent, hoff⟩
  obtain ⟨hpart, hprof⟩ := hfits.directory.resolve_left (by simp [hcoherent])
  simp [hpart, hprof] at hoff

/-- A reserve asked for can be had. -/
theorem AllocFits.reserve_ok {s : State} {o : Op} {base : Nat} (hfits : AllocFits s o base) :
    (bitN (opnd o 0x18 4) 3 && !reserveOk s o.dom (opnd o 0x10 4) (bitN (opnd o 0x18 4) 0)) = false := by
  rcases hfits.reserve with hr | hr <;> simp [hr]

/-- An ALLOC that fits lists its region at the chosen index (R24, R30, R32). -/
theorem allocRegion_regions {s : State} {h base : Nat} {o : Op} (ho : opOf s h = some o) (harr : o.arrival = none)
    (hfits : AllocFits s o base) :
    (allocRegion s h o).alloc.regions = tput s.alloc.regions (findIndex s) (allocatedRegion s o base) := by
  have hmax := hfits.allocMax_bounds
  have hdirectory := hfits.directory_on
  have hreserve := hfits.reserve_ok
  obtain ⟨hpos, hsize, -, hflags, htiered, hattrs, -, hkey, hregions, hpages, -, hroom, hbase⟩ := hfits
  unfold allocMax at hmax hbase
  simp only [allocRegion, htiered, ne_eq, not_true_eq_false, decide_false, Bool.or_false]
  rw [if_neg (by simp only [hattrs, hkey, hdirectory, Bool.false_eq_true, not_true_eq_false, or_false]; omega),
    if_neg (by simp [hregions, hpages, hreserve, hroom]), hbase]
  change (allocEnd (listRegion s (findIndex s) (allocatedRegion s o base)) h stOk _).alloc.regions = _
  rw [allocEnd_regions _ _ _ _ (by simp [ho, harr]), regions_listRegion]

/-- ALLOC that is ready and in its turn (R38). -/
theorem execAlloc_of_turn {s : State} {h : Nat} {o : Op} (hready : ready s h 0x10 = some o)
    (hturn : allocTurn s h = true) : execAlloc h s = .next (allocRegion (count s pgALLOC 0 1) h o) :=
  allocCmd_eq s h 0x10 o _ hready hturn

/-- Settles O18: the command runs in its turn, and on the counted state its region is listed. -/
theorem allocationTakesAFreeRegion : Obligations.AllocationTakesAFreeRegion := by
  unfold Obligations.AllocationTakesAFreeRegion
  refine ⟨fun s h o => execAlloc_of_turn, ?_⟩
  intro s h o base hready hturn hpos hsize hmax hflags htiered hattrs hdir hkey hregions hpages hreserve hroom hbase
    harr
  have hfits : AllocFits (count s pgALLOC 0 1) o base :=
    ⟨hpos, hsize, hmax, hflags, htiered, hattrs, hdir, hkey, hregions, hpages, hreserve, hroom, hbase⟩
  have hlisted := allocRegion_regions (s := count s pgALLOC 0 1) (ready_op hready) harr hfits
  refine ⟨_, allocatedRegion s o base, execAlloc_of_turn hready hturn, ?_, ?_⟩
  · rw [hlisted]
    exact tget_tput_same ..
  · and_intros <;> rfl

/-! ## RESIZE -/

/-- A TIERED region without a reserve grows at once where the SIZE quota allows it (Table 2-5, R515). -/
theorem growRegion_regions_of_tiered {s : State} {h idx new : Nat} {o : Op} {r : Region} (ho : opOf s h = some o)
    (harr : o.arrival = none) (htiered : r.residency = 0) (hreserve : r.reserve = false)
    (hquota : quotaOk s r.dom 1 (new - r.size) = true) :
    (growRegion s h idx r new).alloc.regions = tput s.alloc.regions idx { r with size := new } := by
  simp only [growRegion, htiered, hreserve, hquota, pinOk_tiered, pinCharge_tiered, Bool.not_true, Bool.false_and,
    Bool.or_self, Bool.false_eq_true, if_false]
  rw [pinStep_of_tiered (r := { r with size := new }) (by simp [htiered, hreserve]) htiered,
    allocEnd_regions _ _ _ _ (by simp [ho, harr])]
  simp

section Resize

variable {s : State} {h idx : Nat} {o : Op} {r : Region}

/-- RESIZE to more pages grows the region (R41). -/
theorem resizeRegion_of_grow (hgrow : r.size < opnd o 0x14 4) (hmax : opnd o 0x14 4 ≤ r.max) :
    resizeRegion s h o idx r = growRegion s h idx r (opnd o 0x14 4) := by
  rw [resizeRegion, if_neg (by omega), if_pos hgrow]

/-- RESIZE to fewer pages begins to shrink it. -/
theorem resizeRegion_of_shrink (hpos : 0 < opnd o 0x14 4) (hshrink : opnd o 0x14 4 < r.size) (hmax : r.size ≤ r.max) :
    resizeRegion s h o idx r = shrinkRegion s h idx r (opnd o 0x14 4) (bitN (opnd o 0x18 4) 0) := by
  rw [resizeRegion, if_neg (by omega), if_neg (by omega), if_pos hshrink]

/-- RESIZE to the size that it has ends at once. -/
theorem resizeRegion_of_same (hpos : 0 < r.size) (hsame : opnd o 0x14 4 = r.size) (hmax : r.size ≤ r.max) :
    resizeRegion s h o idx r = allocEnd s h stOk [0, 0, 0, 0] := by
  rw [resizeRegion, if_neg (by omega), if_neg (by omega), if_neg (by omega)]

variable (hready : ready s h 0x12 = some o) (hturn : allocTurn s h = true)
  (hg : regionOf s (opnd o 0x10 4) = some r) (hdom : r.dom = o.dom) (hlive : r.freeing = false)

include hready hturn hg hdom hlive

/-- With no shrink of the region running, RESIZE executes with its operands. -/
theorem execResize_of_settled (hsettled : r.shrinking = 0) :
    execResize h s = .next (resizeRegion (count s pgALLOC 0 1) h o (opnd o 0x10 4 % 65536) r) := by
  rw [execResize, regionCmd_eq s h 0x12 o r _ hready hturn hg hdom hlive]
  simp only [hsettled, ne_eq, not_true_eq_false, false_and, if_false]

/-- While a shrink of the region runs, a legal RESIZE waits (R515). -/
theorem execResize_of_shrinking (hshrinking : r.shrinking ≠ 0) (hpos : 0 < opnd o 0x14 4)
    (hmax : opnd o 0x14 4 ≤ r.max) :
    execResize h s = .next (modOp (count s pgALLOC 0 1) h fun o => { o with phase := .running, aux := [1] }) := by
  rw [execResize, regionCmd_eq s h 0x12 o r _ hready hturn hg hdom hlive]
  simp only [hshrinking, hpos, hmax, ne_eq, not_false_eq_true, true_and, if_true]

end Resize

/-! ## SET_ATTR -/

/-- DEFAULT_SC as SET_ATTR leaves it: each of its bits that the mask names is taken (Table 2-4). -/
def setClass (o : Op) (r : Region) : Nat :=
  (if bitN (opnd o 0x14 4) 9 then fld (opnd o 0x18 4) 9 1 else fld r.defaultSc 0 1) +
    2 * (if bitN (opnd o 0x14 4) 10 then fld (opnd o 0x18 4) 10 1 else fld r.defaultSc 1 1) +
    4 * (if bitN (opnd o 0x14 4) 11 then fld (opnd o 0x18 4) 11 1 else fld r.defaultSc 2 1)

/-- A SET_ATTR that leaves COHERENT, MIRRORED and RESERVE gives the region its class and has nothing to wait for. -/
theorem setAttr_of_classOnly {s : State} {h idx : Nat} {o : Op} {r : Region}
    (hmask : Nat.land (opnd o 0x14 4) 0xE0B = opnd o 0x14 4)
    (hway : coherentWay (opnd o 0x14 4) (opnd o 0x18 4) r = 0) (hmirrored : bitN (opnd o 0x14 4) 1 = false)
    (hreserve : bitN (opnd o 0x14 4) 3 = false)
    (hattrs : attrsRefused (if bitN (opnd o 0x14 4) 0 then bitN (opnd o 0x18 4) 0 else r.coherent) r.versioned r.reserve
      r.residency r.grain (setClass o r) = false)
    (hquota : quotaOk s r.dom 2 0 = true) :
    setAttr s h o idx r =
      modOp (leaveQueue (setRegion (chargeAdd s r.dom 2 0) idx { r with defaultSc := setClass o r }) h) h fun x =>
        { x with phase := .running, aux := [3, 0, 0] } := by
  unfold setClass at hattrs ⊢
  simp only [setAttr, hway, hmirrored, hreserve, Bool.false_eq_true, if_false, and_not_self]
  rw [if_neg (by simp only [hmask, hattrs, ne_eq, not_true_eq_false, Bool.false_eq_true, zero_ne_one, false_and,
    or_self, not_false_eq_true]), if_neg (by simp [hquota])]
  simp

/-- A SET_ATTR that changes no COHERENT, and whose copy, if any, has reached the partner, ends (Table 2-5). -/
theorem setAttrFinish_of_unchanging {s : State} {h : Nat} {o : Op} {r : Region} (ho : opOf s h = some o)
    (hg : regionOf s (opnd o 0x10 4) = some r) (hway : nth o.aux 1 0 = 0)
    (hcopied : mirroring s = false ∨ nth o.aux 2 0 ≤ rd s (ra pgPAIR 0x10C)) :
    setAttrFinish s h = endOp (gauge s pgALLOC 3 (unitsFree s)) h 0 := by
  have hcopy : (mirroring s && decide (rd s (ra pgPAIR 0x10C) < nth o.aux 2 0)) = false := by
    rcases hcopied with hoff | hdone
    · simp [hoff]
    · simp [Nat.not_lt.2 hdone]
  simp [setAttrFinish, ho, hg, hway, hcopy]

/-! ## PIN -/

/-- PIN to the region's own tier, with DRAM units held, charges nothing: its sub-pages move there (R132). -/
theorem pinRegion_of_ownTier {s : State} {h idx : Nat} {o : Op} {r : Region}
    (htier : opnd o 0x14 4 = 1 ∨ opnd o 0x14 4 = 2)
    (hattrs : attrsRefused r.coherent r.versioned r.reserve (opnd o 0x14 4) r.grain r.defaultSc = false)
    (hown : opnd o 0x14 4 = r.residency) (hunits : r.dramUnits = true) :
    pinRegion s h o idx r =
      pinStep (modOp (leaveQueue (setRegion (abandonMoves s r.base r.size fun m => decide (m.kind ≠ .promote)) idx
        { r with residency := opnd o 0x14 4, dramUnits := true }) h) h
        fun x => { x with phase := .running, aux := [2, handleOf idx r] }) idx := by
  have hlegal : ¬ ((opnd o 0x14 4 ≠ 1 ∧ opnd o 0x14 4 ≠ 2) ∨
      attrsRefused r.coherent r.versioned r.reserve (opnd o 0x14 4) r.grain r.defaultSc = true) := by
    simp only [hattrs, Bool.false_eq_true, or_false]
    omega
  rw [pinRegion]
  simp only [if_neg hlegal]
  rw [if_neg (by simp [hown, hunits]), if_pos hown]

/-! ## Commands on a live region of their domain -/

section LiveRegion

variable {s : State} {h : Nat} {o : Op} {r : Region} (hturn : allocTurn s h = true)
  (hg : regionOf s (opnd o 0x10 4) = some r) (hdom : r.dom = o.dom) (hlive : r.freeing = false)

include hturn hg hdom hlive

/-- FREE marks the region FREEING, abandons its moves and begins to run (R42, R43). -/
theorem execFree_of_live (hready : ready s h 0x11 = some o) :
    execFree h s = .next (modOp (leaveQueue (retryTier (abandonFreed (setRegion
        { count s pgALLOC 0 1 with cmd := { s.cmd with serial := s.cmd.serial + 1 } } (opnd o 0x10 4 % 65536)
        { r with freeing := true, freedBy := h, force := bitN (opnd o 0x14 4) 0, freedAt := s.cmd.serial + 1 })
        r.base r.size)) h) h fun o => { o with phase := .running }) :=
  regionCmd_eq s h 0x11 o r _ hready hturn hg hdom hlive

/-- SET_ATTR ends at once where it has nothing to wait for (R41). -/
theorem execSetAttr_of_live (hready : ready s h 0x13 = some o) :
    execSetAttr h s =
      .next (if ((opOf (setAttr (count s pgALLOC 0 1) h o (opnd o 0x10 4 % 65536) r) h).map fun o =>
          decide (o.phase = .running)).getD false then
        setAttrFinish (setAttr (count s pgALLOC 0 1) h o (opnd o 0x10 4 % 65536) r) h
      else setAttr (count s pgALLOC 0 1) h o (opnd o 0x10 4 % 65536) r) :=
  regionCmd_eq s h 0x13 o r _ hready hturn hg hdom hlive

/-- A SET_ATTR that changes the class alone gives the region its class and ends. -/
theorem execSetAttr_of_classOnly (hready : ready s h 0x13 = some o)
    (hmask : Nat.land (opnd o 0x14 4) 0xE0B = opnd o 0x14 4)
    (hway : coherentWay (opnd o 0x14 4) (opnd o 0x18 4) r = 0) (hmirrored : bitN (opnd o 0x14 4) 1 = false)
    (hreserve : bitN (opnd o 0x14 4) 3 = false)
    (hattrs : attrsRefused (if bitN (opnd o 0x14 4) 0 then bitN (opnd o 0x18 4) 0 else r.coherent) r.versioned r.reserve
      r.residency r.grain (setClass o r) = false)
    (hquota : quotaOk s r.dom 2 0 = true) (harr : o.arrival = none) :
    ∃ t, execSetAttr h s = .next t ∧
      tget t.alloc.regions (opnd o 0x10 4 % 65536) = some { r with defaultSc := setClass o r } ∧
      (opOf t h).map (fun x => x.phase) = some .ending := by
  have hset := setAttr_of_classOnly (s := count s pgALLOC 0 1) (h := h) (idx := opnd o 0x10 4 % 65536) hmask hway
    hmirrored hreserve hattrs hquota
  set u := setAttr (count s pgALLOC 0 1) h o (opnd o 0x10 4 % 65536) r with hu
  have hop : opOf u h = some { o with phase := .running, aux := [3, 0, 0] } := by simp [hset, ready_op hready]
  have hregion : regionOf u (opnd o 0x10 4) = some { r with defaultSc := setClass o r } := by
    rw [hset, regionOf_modOp, regionOf_leaveQueue]
    exact regionOf_setRegion (s := chargeAdd (count s pgALLOC 0 1) r.dom 2 0) hg rfl
  have hfinish := setAttrFinish_of_unchanging hop hregion rfl (.inr (Nat.zero_le _))
  refine ⟨setAttrFinish u h, ?_, ?_, ?_⟩
  · rw [execSetAttr_of_live hturn hg hdom hlive hready, ← hu, if_pos (by simp [hop])]
  · rw [hfinish, alloc_endOp_of_noArrival (s := gauge u pgALLOC 3 (unitsFree u)) hop harr]
    simp [gauge, hset]
  · rw [hfinish]
    exact phase_endOp_of_running (s := gauge u pgALLOC 3 (unitsFree u)) hop harr rfl

/-- PIN executes with its operands. -/
theorem execPin_of_live (hready : ready s h 0x14 = some o) :
    execPin h s = .next (pinRegion (count s pgALLOC 0 1) h o (opnd o 0x10 4 % 65536) r) :=
  regionCmd_eq s h 0x14 o r _ hready hturn hg hdom hlive

/-- UNPIN of a TIERED region ends at once. -/
theorem execUnpin_of_tiered (hready : ready s h 0x15 = some o) (htiered : r.residency = 0) :
    execUnpin h s = .next (allocEnd (count s pgALLOC 0 1) h stOk [0, 0, 0, 0]) := by
  rw [execUnpin, regionCmd_eq s h 0x15 o r _ hready hturn hg hdom hlive]
  simp only [if_pos htiered]

/-- UNPIN makes a pinned region TIERED, with its pin quota released (R132). -/
theorem execUnpin_of_pinned (hready : ready s h 0x15 = some o) (hpinned : r.residency ≠ 0)
    (hattrs : attrsRefused r.coherent r.versioned r.reserve 0 r.grain r.defaultSc = false) :
    execUnpin h s = .next (allocEnd (pinRelease (setRegion (count s pgALLOC 0 1) (opnd o 0x10 4 % 65536)
      { r with residency := 0, dramUnits := r.coherent || decide (r.changing ≠ 0) }) r.dom r.residency r.size) h stOk
      [0, 0, 0, 0]) := by
  rw [execUnpin, regionCmd_eq s h 0x15 o r _ hready hturn hg hdom hlive]
  simp only [if_neg hpinned, hattrs, Bool.false_eq_true, if_false]

end LiveRegion

/-- Settles O19: each command reaches its region, and each clause is one branch of what it does there. -/
theorem regionCommandsAct : Obligations.RegionCommandsAct := by
  unfold Obligations.RegionCommandsAct
  refine ⟨?free, ?grow, ?growTiered, ?shrink, ?sameSize, ?waits, ?setAttrClass, ?setAttrCoherent, ?pin, ?pinOwnTier,
    ?unpinTiered, ?unpinPinned⟩
  case free =>
    intro s h o r hready hturn hg hdom hlive
    exact execFree_of_live hturn hg hdom hlive hready
  case grow =>
    intro s h o r hready hturn hg hdom hlive hsettled hgrow hmax
    exact (execResize_of_settled hready hturn hg hdom hlive hsettled).trans (by rw [resizeRegion_of_grow hgrow hmax])
  case growTiered =>
    intro s h o r hready hturn hg hdom hlive hsettled hgrow hmax htiered hreserve hquota harr
    refine ⟨_, execResize_of_settled hready hturn hg hdom hlive hsettled, ?_⟩
    rw [resizeRegion_of_grow hgrow hmax, growRegion_regions_of_tiered (s := count s pgALLOC 0 1) (ready_op hready) harr
      htiered hreserve hquota]
    exact tget_tput_same ..
  case shrink =>
    intro s h o r hready hturn hg hdom hlive hsettled hpos hshrink hmax
    exact (execResize_of_settled hready hturn hg hdom hlive hsettled).trans
      (by rw [resizeRegion_of_shrink hpos hshrink hmax])
  case sameSize =>
    intro s h o r hready hturn hg hdom hlive hsettled hpos hsame hmax
    exact (execResize_of_settled hready hturn hg hdom hlive hsettled).trans
      (by rw [resizeRegion_of_same hpos hsame hmax])
  case waits =>
    intro s h o r hready hturn hg hdom hlive hshrinking hpos hmax
    exact execResize_of_shrinking hready hturn hg hdom hlive hshrinking hpos hmax
  case setAttrClass =>
    intro s h o r hready hturn hg hdom hlive hmask hway hmirrored hreserve hattrs hquota harr
    exact execSetAttr_of_classOnly hturn hg hdom hlive hready hmask hway hmirrored hreserve hattrs hquota harr
  case setAttrCoherent =>
    intro s h o r hready hturn hg hdom hlive _ _ _ _ _ _ _ _
    exact ⟨_, _, rfl, execSetAttr_of_live hturn hg hdom hlive hready, rfl⟩
  case pin =>
    intro s h o r hready hturn hg hdom hlive
    exact execPin_of_live hturn hg hdom hlive hready
  case pinOwnTier =>
    intro s h o r hready hturn hg hdom hlive htier hattrs hown hunits
    refine ⟨_, rfl, (execPin_of_live hturn hg hdom hlive hready).trans ?_⟩
    rw [pinRegion_of_ownTier htier hattrs hown hunits]
  case unpinTiered =>
    intro s h o r hready hturn hg hdom hlive htiered
    exact execUnpin_of_tiered hturn hg hdom hlive hready htiered
  case unpinPinned =>
    intro s h o r hready hturn hg hdom hlive hpinned hattrs
    exact execUnpin_of_pinned hturn hg hdom hlive hready hpinned hattrs

/-! ## PUBLISH -/

section Publish

variable {s : State} {h : Nat} {o : Op} {r : Region} (hready : ready s h 0x16 = some o) (hturn : allocTurn s h = true)
  (hg : regionOf s (opnd o 0x10 4) = some r) (hdom : r.dom = o.dom) (hlive : r.freeing = false)
  (hversioned : r.versioned = true)

include hready hturn hg hdom hlive hversioned

/-- PUBLISH with DISCARD drops what its owner has staged, if anything, and ends with the version as it was (R48). -/
theorem execPublish_of_discard (hdiscard : bitN (opnd o 0x14 4) 0 = true) :
    execPublish h s = .next (retryPromotes (allocEnd
      ((stagingOf s (opnd o 0x10 4 % 65536) o.owner).elim (count s pgALLOC 0 1)
        fun v => dropStaging (count s pgALLOC 0 1) v r.dom) h stOk [r.version, 0, 0, 0])) := by
  rw [execPublish, allocCmd_eq s h 0x16 o _ hready hturn]
  simp only [regionOf_count, stagingOf_count, hg, hdom, hlive, hversioned, hdiscard, ne_eq, not_true_eq_false,
    Bool.false_eq_true, or_self, if_false, if_true]
  cases stagingOf s (opnd o 0x10 4 % 65536) o.owner <;> rfl

/-- PUBLISH of the version that the region has publishes what its owner has staged, if anything, and ends with the next
version (R40, R47). -/
theorem execPublish_of_current (hkeep : bitN (opnd o 0x14 4) 0 = false) (hversion : opnd o 0x18 4 = r.version) :
    ∃ u, u = (stagingOf s (opnd o 0x10 4 % 65536) o.owner).elim (count s pgALLOC 0 1)
        (Machine.publish (count s pgALLOC 0 1) (opnd o 0x10 4 % 65536) r) ∧
      execPublish h s = .next (retryPromotes (allocEnd (setRegion u (opnd o 0x10 4 % 65536)
        { ((tget u.alloc.regions (opnd o 0x10 4 % 65536)).getD r) with version := nextVersion r.version }) h stOk
        [nextVersion r.version, 0, 0, 0])) := by
  refine ⟨_, rfl, ?_⟩
  rw [execPublish, allocCmd_eq s h 0x16 o _ hready hturn]
  simp only [regionOf_count, stagingOf_count, hg, hdom, hlive, hversioned, hkeep, hversion, ne_eq, not_true_eq_false,
    Bool.false_eq_true, or_self, if_false]
  cases stagingOf s (opnd o 0x10 4 % 65536) o.owner <;> rfl

end Publish

/-- VERSION_UNITS_RELEASE drops a replaced version that no tile assigned before its PUBLISH uses (R50). -/
theorem execVersionUnitsRelease_of_unused {s : State} {region version : Nat} {v : OldVersion}
    (hold : (s.alloc.old.find? fun v => v.region = region && v.version = version) = some v)
    (hunused : (s.cmd.tiles.any fun t => t.eng.isSome && decide (t.serial < v.serial)) = false) :
    ∃ u, u = retryPromotes (dropOld s v (((tget s.alloc.regions region).map fun r => r.dom).getD 0)) ∧
      execVersionUnitsRelease region version s = .next (gauge u pgALLOC 3 (unitsFree u)) := by
  refine ⟨_, rfl, ?_⟩
  simp only [execVersionUnitsRelease, hold, hunused, Bool.not_false, guarded_true]

/-- Settles O20: the clauses of a PUBLISH with and without a staged version are the two cases of one equation. -/
theorem publishMakesTheStagedVersionLive : Obligations.PublishMakesTheStagedVersionLive := by
  unfold Obligations.PublishMakesTheStagedVersionLive
  refine ⟨?staged, ?unstaged, ?discardStaged, ?discardUnstaged, ?release⟩
  case staged =>
    intro s h o r v hready hturn hg hdom hlive hversioned hkeep hversion hstaged
    have hpublish := execPublish_of_current hready hturn hg hdom hlive hversioned hkeep hversion
    rwa [hstaged] at hpublish
  case unstaged =>
    intro s h o r hready hturn hg hdom hlive hversioned hkeep hversion hstaged
    have hpublish := execPublish_of_current hready hturn hg hdom hlive hversioned hkeep hversion
    rwa [hstaged] at hpublish
  case discardStaged =>
    intro s h o r v hready hturn hg hdom hlive hversioned hdiscard hstaged
    have hdrop := execPublish_of_discard hready hturn hg hdom hlive hversioned hdiscard
    rwa [hstaged] at hdrop
  case discardUnstaged =>
    intro s h o r hready hturn hg hdom hlive hversioned hdiscard hstaged
    have hdrop := execPublish_of_discard hready hturn hg hdom hlive hversioned hdiscard
    rwa [hstaged] at hdrop
  case release => exact fun _ _ _ _ => execVersionUnitsRelease_of_unused

/-! ## The deferred ends -/

section Completions

variable {s : State} {h : Nat} {o : Op} {r : Region} (ho : opOf s h = some o)

include ho

/-- FREE_COMPLETE removes a region that no earlier user is left of and no line is cached of (R44). -/
theorem execFreeComplete_of_done (hg : regionOf s (opnd o 0x10 4) = some r) (hop : o.opcode = 0x11)
    (hrun : o.phase = .running) (hdone : freeReady s h r.dom r.force r.freedAt r.base (spanOf r) = true)
    (hlines : noneCached (recallLines s (lineIn r.base r.max) true) (lineIn r.base r.max) = true) :
    ∃ v, v = retryPromotes (removeRegion (recallLines s (lineIn r.base r.max) true) (opnd o 0x10 4 % 65536) r) ∧
      execFreeComplete h s = .next (endOp (gauge v pgALLOC 3 (unitsFree v)) h 0) := by
  refine ⟨_, rfl, ?_⟩
  simp only [execFreeComplete, ho, hg]
  rw [if_neg (by simp [hop, hrun, hdone]), if_neg (by simp [hlines])]

/-- RESIZE_SHRINK_COMPLETE takes the pages above the new size out of the region under the same conditions (R44). -/
theorem execResizeShrinkComplete_of_done (hop : o.opcode = 0x12) (hrun : o.phase = .running) (haux : o.aux ≠ [1])
    (hg : regionOf s (opnd o 0x10 4) = some r) (hmine : r.shrinking = h)
    (hdone : freeReady s h r.dom r.shrinkForce r.shrinkAt (r.base + r.shrinkTo) (r.size - r.shrinkTo) = true)
    (hlines : noneCached (recallLines s (lineIn (r.base + r.shrinkTo) (r.size - r.shrinkTo)) true)
      (lineIn (r.base + r.shrinkTo) (r.size - r.shrinkTo)) = true) :
    ∃ v, v = retryPromotes (shrinkNow (recallLines s (lineIn (r.base + r.shrinkTo) (r.size - r.shrinkTo)) true)
        (opnd o 0x10 4 % 65536) r) ∧
      execResizeShrinkComplete h s = .next (endOp (gauge v pgALLOC 3 (unitsFree v)) h 0) := by
  refine ⟨_, rfl, ?_⟩
  simp only [execResizeShrinkComplete, ho, hg]
  rw [if_neg (by simp [hop, hrun, haux]), if_neg (by simp [hmine, hdone]), if_neg (by simp [hlines])]

/-- RESIZE_GROW_RESUME runs a RESIZE that has waited, once it is the first and no shrink of its region runs (R515). -/
theorem execResizeGrowResume_of_settled (haux : o.aux = [1]) (hrun : o.phase = .running)
    (hfirst : (before s h).any (fun x => waitingResize s x && decide (namedRegion s x = namedRegion s h)) = false)
    (hg : regionOf s (opnd o 0x10 4) = some r) (hlive : r.freeing = false) (hsettled : r.shrinking = 0) :
    execResizeGrowResume h s =
      .next (resizeRegion (modOp s h fun o => { o with aux := [] }) h o (opnd o 0x10 4 % 65536) r) := by
  simp only [execResizeGrowResume, ho, hg]
  rw [if_neg (by simp [haux, hrun, hfirst])]
  simp only [hlive, hsettled, Bool.false_eq_true, if_false, decide_true, guarded_true]

/-- SET_ATTR_COMPLETE of a SET_ATTR that runs looks at what it waits for. -/
theorem execSetAttrComplete_of_running (hop : o.opcode = 0x13) (hrun : o.phase = .running) :
    execSetAttrComplete h s = .next (setAttrFinish s h) := by
  simp [execSetAttrComplete, ho, hop, hrun, guarded_true]

/-- PIN_COMPLETE of an operation that pins looks at its region. -/
theorem execPinComplete_of_running (hrun : o.phase = .running) (hpins : o.aux.head? = some 2) :
    execPinComplete h s = .next (pinFinish s h) := by
  simp [execPinComplete, ho, hrun, hpins, guarded_true]

/-- A pin ends once every sub-page of its region has reached the tier. -/
theorem pinFinish_of_ready (hg : regionOf s (nth o.aux 1 0) = some r)
    (hpinned : (regionOf (pinStep s (nth o.aux 1 0 % 65536)) (nth o.aux 1 0)).map
      (pinReady (pinStep s (nth o.aux 1 0 % 65536))) = some true) :
    ∃ u, u = pinStep s (nth o.aux 1 0 % 65536) ∧ pinFinish s h = endOp (gauge u pgALLOC 3 (unitsFree u)) h 0 := by
  refine ⟨_, rfl, ?_⟩
  simp only [pinFinish, ho, hg, hpinned, Option.isNone_some, Bool.false_eq_true, if_false, Option.getD_some, if_true]

end Completions

/-- Settles O21: each completion finds its operation running, its region live and nothing left to wait for. -/
theorem allocatorCompletionsAct : Obligations.AllocatorCompletionsAct := by
  unfold Obligations.AllocatorCompletionsAct
  refine ⟨?free, ?shrink, ?growResume, ?setAttrEnds, ?setAttr, ?pin⟩
  case free => exact fun _ _ _ _ => execFreeComplete_of_done
  case shrink => exact fun _ _ _ _ => execResizeShrinkComplete_of_done
  case growResume =>
    intro s h o r ho haux hrun hfirst hg hlive hsettled hgrow hmax
    refine (execResizeGrowResume_of_settled ho haux hrun hfirst hg hlive hsettled).trans ?_
    rw [resizeRegion_of_grow hgrow hmax]
  case setAttrEnds =>
    intro s h o r ho hop hrun hg hway hcopied
    refine (execSetAttrComplete_of_running ho hop hrun).trans ?_
    rw [setAttrFinish_of_unchanging ho hg hway hcopied]
  case setAttr => exact fun _ _ _ => execSetAttrComplete_of_running
  case pin =>
    intro s h o r ho hrun hpins hg hpinned
    obtain ⟨u, hu, hfinish⟩ := pinFinish_of_ready ho hg hpinned
    refine ⟨u, hu, (execPinComplete_of_running ho hrun hpins).trans ?_⟩
    rw [hfinish]

end Sys2Proof.Machine
end

section
/-!
PROOFS. The request packets of chapter 04, from the port to the home (R26, R82, R86, R107).
-/
namespace Sys2Proof.Machine

/-! ## A packet at its port -/

/-- A packet that has arrived, with its own code and channel, is taken from its port and served. -/
theorem arrive_of_arrived {s p : State} {port code ch : Nat} {pkt : Packet} {idle fenced serve : State → State}
    (harrived : arrived s port pkt code ch p) :
    arrive s port pkt (decide (pkt.code = code) && decide (pkt.ch = ch)) idle fenced serve = .next (serve p) := by
  obtain ⟨hcode, hch, hlocal, hpause, hpop, hserving, hfree⟩ := harrived
  simp [arrive, hcode, hch, hlocal, hpause, hpop, hserving, hfree]

/-! ## Requests -/

section Request

variable {s p a : State} {kind : ReqKind} {code port sch : Nat} {pkt : Packet} {pl : Place}

/-- A request whose slice is not held is served from the port (R82). -/
theorem reqPacket_of_arrived (harrived : arrived s port pkt code 0 p)
    (hslice : sliceHeld s (homeSlice pkt.line) = false) :
    reqPacket kind code port pkt s = .next (reqServe kind port (rxSince s port pkt) pkt p) := by
  rw [reqPacket, if_neg (by simp [hslice]), arrive_of_arrived harrived]

/-- A request that is not permitted is answered with a NAK (R26). -/
theorem reqServe_of_refused {since : Nat} (hrefused : reqRefused p kind pkt = none) :
    reqServe kind port since pkt p = nakPacket p pkt stNotPermitted := by
  simp only [reqServe, hrefused]

/-- A request that is permitted, admitted by the Weir and meets its class's residency is counted and begins at the home
of its line (R86, R106, R107). -/
theorem reqPacket_of_admitted (harrived : arrived s port pkt code 0 p)
    (hslice : sliceHeld s (homeSlice pkt.line) = false) (hpermitted : reqRefused p kind pkt = some pl)
    (hsched : respSched p pkt.src (if kind = .wrOnce then 2 else 3) = some sch)
    (hadmit : weirAdmit p pkt.src (fabricClass pkt.sc pl.reg) 64 [(sch, respBytes p kind pkt)] = some a)
    (hresident : residencyOk p (fabricClass pkt.sc pl.reg) pl.reg
      (subRec p (viewSub p pl (0x100 + pkt.src) none)).state = true)
    (hhere : (subRec p (viewSub p pl (0x100 + pkt.src) none)).state ≠ 3) :
    ∃ c q, c = fabricClass pkt.sc pl.reg ∧ q = viewSub p pl (0x100 + pkt.src) none ∧
      reqPacket kind code port pkt s = .next (homeBegin (access a [q])
        { kind := kind, who := .fabric pkt.src, tag := pkt.tag, sc := c, line := pkt.line, start := rxSince s port pkt,
          void := bornVoid p (some pkt.src) (some port) sch (q * 1024 + pkt.line % 1024), bound := boundNs p c 64,
          dom := pl.reg.dom, sch := sch, via := some port, charge := respBytes p kind pkt + overhead p sch }) := by
  refine ⟨_, _, rfl, rfl, (reqPacket_of_arrived harrived hslice).trans ?_⟩
  simp only [reqServe, hpermitted, hsched, hadmit, hresident, Bool.not_true, Bool.false_eq_true, if_false, if_neg hhere,
    Option.getD_some]

end Request

/-- Settles O23: the five requests are one command in their kind and code. -/
theorem coherenceRequestsReachTheHome : Obligations.CoherenceRequestsReachTheHome := by
  unfold Obligations.CoherenceRequestsReachTheHome
  refine ⟨?rdShared, ?rdSharedServed, ?rdOwn, ?rdOwnServed, ?upgrade, ?upgradeServed, ?rdOnce, ?rdOnceServed, ?wrOnce,
    ?wrOnceServed, ?refused⟩
  case rdShared => exact fun _ _ _ _ _ _ _ => reqPacket_of_admitted (kind := .rdShared)
  case rdSharedServed => exact fun _ _ _ _ => reqPacket_of_arrived
  case rdOwn => exact fun _ _ _ _ _ _ _ => reqPacket_of_admitted (kind := .rdOwn)
  case rdOwnServed => exact fun _ _ _ _ => reqPacket_of_arrived
  case upgrade => exact fun _ _ _ _ _ _ _ => reqPacket_of_admitted (kind := .upgrade)
  case upgradeServed => exact fun _ _ _ _ => reqPacket_of_arrived
  case rdOnce => exact fun _ _ _ _ _ _ _ => reqPacket_of_admitted (kind := .rdOnce)
  case rdOnceServed => exact fun _ _ _ _ => reqPacket_of_arrived
  case wrOnce => exact fun _ _ _ _ _ _ _ => reqPacket_of_admitted (kind := .wrOnce)
  case wrOnceServed => exact fun _ _ _ _ => reqPacket_of_arrived
  case refused => exact fun _ _ _ _ _ => reqServe_of_refused

end Sys2Proof.Machine
end

section
/-!
PROOFS. The home's own events and the agent table of chapter 04: the close of a transaction (R85), the recall timeout
(R92), the end of a sweep (R94, R95), and the entry, the fence and the release of an agent by firmware (R79, R95).
-/
namespace Sys2Proof.Machine

/-! ## The home's own events -/

/-- A transaction whose response has left is closed, and its requester's bound is checked (R85). -/
theorem execTransactionClose_of_done {s : State} {line : Nat} {t : Tran} (ht : tranOf s line = some t)
    (hdone : t.done = true) :
    execTransactionClose line s = .next (boundReport (closeTran s line) t.req.sc t.req.sch (reqIndex t.req.who)
      t.req.dom 0 t.req.start t.req.bound t.req.void) := by
  simp only [execTransactionClose, ht, hdone, Bool.not_true, Bool.false_eq_true, if_false]

/-- An agent that owes the transaction an answer or a write-back is fenced as timed out, its sweep begins, and the line
goes on without it (R92, R93). -/
theorem execRecallTimeout_of_owed {s : State} {line i : Nat} {t : Tran} (ht : tranOf s line = some t)
    (howed : (t.waits.any fun w => w.agent = i) = true ∨ t.awaitWb = some i) :
    ∃ a u, a = mirrorFence (setAgent s i
        { agent s i with fenced := true, timedOut := true, sweepDone := false, answers := false }) i true ∧
      u = count (fenceEffects a (agent s i).eid) pgDIR 5 1 ∧
      execRecallTimeout line i s =
        .next (timeoutLine { u with dir := { u.dir with sweeps := insNat i u.dir.sweeps } } line i) := by
  refine ⟨_, _, rfl, rfl, ?_⟩
  simp only [execRecallTimeout, ht, if_pos howed]

/-- The running sweep of an agent ends once neither an entry nor an open transaction names it (R94, R95). -/
theorem execDirectorySweepDone_of_unnamed {s u : State} {i : Nat} (hsweeps : s.dir.sweeps.contains i = true)
    (hu : u = if (agent s i).answers then recallAgent s i else sweepSilent s i)
    (hentries : (u.dir.entries.any fun e => entryNames e.2 i) = false)
    (htrans : (u.dir.trans.any fun e => tranNames e.2 i) = false) :
    ∃ v, v = setAgent u i { agent u i with sweepDone := true, answers := false } ∧
      execDirectorySweepDone i s = .next (event { v with dir := { v.dir with sweeps := v.dir.sweeps.erase i } }
        { source := pgDIR, sev := sevInfo, cls := clCoherence, detail := i }) := by
  refine ⟨_, rfl, ?_⟩
  simp only [execDirectorySweepDone, hsweeps, ← hu, hentries, htrans, Bool.or_self, Bool.not_true, Bool.false_eq_true,
    if_false]

/-! ## The agent table by firmware -/

/-- An operation whose condition fails leaves the state. -/
theorem guarded_false (s : State) (f : State → State) : guarded false s f = .next s := rfl

/-- The agent that AGENT_DATA speaks of: INDEX of the identity's own AGENT_IDX (Table 4-3). -/
abbrev indexedAgent (s : State) (id : Nat) : Nat := fld (ri s id (ra pgDIR 0x100)) 0 8

section AgentTable

variable {s : State} {id i : Nat} (hid : isFw id = true)

include hid

/-- An entry that is not valid, or whose agent is fenced and swept, takes a new EID and VALID (R79). -/
theorem execAgentDataWrite_of_free (v : W32) (hfree : (agent s (indexedAgent s id)).valid = false ∨
      (agent s (indexedAgent s id)).fenced = true ∧ (agent s (indexedAgent s id)).sweepDone = true) :
    execAgentDataWrite id v s = .next (setAgent s (indexedAgent s id)
      { agent s (indexedAgent s id) with eid := fld v.toNat 0 12, valid := v.toNat.testBit 12 }) := by
  have hmay : (!(agent s (indexedAgent s id)).valid ||
      ((agent s (indexedAgent s id)).fenced && (agent s (indexedAgent s id)).sweepDone)) = true := by
    rcases hfree with hinvalid | ⟨hfenced, hswept⟩
    · rw [hinvalid, Bool.not_false, Bool.true_or]
    · rw [hfenced, hswept, Bool.and_self, Bool.or_true]
  simp only [execAgentDataWrite, hid, hmay, Bool.or_true, Bool.and_self, guarded_true]

/-- AGENT_FENCE of an agent of the table is the fence of that agent (R95). -/
theorem execAgentFence_of_lt (hi : i < 256) : execAgentFence id i s = .next (fenceAgent s i) := by
  simp only [execAgentFence, hid, decide_eq_true hi, Bool.and_self, guarded_true]

/-- UNFENCE of an agent whose sweep is done frees it (R95). -/
theorem execAgentUnfence_of_swept (hswept : (agent s i).sweepDone = true) :
    execAgentUnfence id i s =
      .next (setAgent s i { agent s i with fenced := false, timedOut := false, sweepDone := false }) := by
  simp only [execAgentUnfence, hid, hswept, Bool.and_self, guarded_true]

end AgentTable

/-- The entry of a valid agent that is not fenced keeps its EID and its VALID, whoever writes (R79). -/
theorem execAgentDataWrite_of_live {s : State} {id : Nat} {v : W32}
    (hvalid : (agent s (indexedAgent s id)).valid = true) (hlive : (agent s (indexedAgent s id)).fenced = false)
    (hchanges : fld v.toNat 0 12 ≠ (agent s (indexedAgent s id)).eid ∨ v.toNat.testBit 12 = false) :
    execAgentDataWrite id v s = .next s := by
  have hchange : (decide (fld v.toNat 0 12 ≠ (agent s (indexedAgent s id)).eid) ||
      ((agent s (indexedAgent s id)).valid && !v.toNat.testBit 12)) = true := by
    rcases hchanges with heid | hgone
    · rw [decide_eq_true heid, Bool.true_or]
    · rw [hvalid, hgone, Bool.not_false, Bool.and_self, Bool.or_true]
  have hbarred : (!(agent s (indexedAgent s id)).valid ||
      ((agent s (indexedAgent s id)).fenced && (agent s (indexedAgent s id)).sweepDone)) = false := by
    rw [hvalid, hlive, Bool.not_true, Bool.false_and, Bool.or_self]
  simp only [execAgentDataWrite, hchange, hbarred, Bool.not_true, Bool.or_self, Bool.and_false, guarded_false]

/-- An agent that is not fenced is fenced, with the effects of a fenced EID, and its closed lines are recalled while it
still answers (R95). -/
theorem fenceAgent_of_unfenced {s : State} {i : Nat} (hlive : (agent s i).fenced = false) :
    ∃ a u, a = mirrorFence (setAgent s i
        { agent s i with fenced := true, sweepDone := false, timedOut := false, answers := true }) i false ∧
      u = fenceEffects a (agent s i).eid ∧
      fenceAgent s i = recallAgent { u with dir := { u.dir with sweeps := insNat i u.dir.sweeps } } i := by
  refine ⟨_, _, rfl, rfl, ?_⟩
  simp only [fenceAgent, hlive, Bool.false_eq_true, if_false]

/-- AGENT_FENCE of an agent that is fenced already changes nothing, whoever sends it. -/
theorem execAgentFence_of_fenced {s : State} {i : Nat} (id : Nat) (hfenced : (agent s i).fenced = true) :
    execAgentFence id i s = .next s := by
  have hsame : fenceAgent s i = s := if_pos hfenced
  simp only [execAgentFence, guarded, hsame, ite_self]

/-- UNFENCE of an agent whose sweep is not done changes nothing, whoever sends it (R95). -/
theorem execAgentUnfence_of_unswept {s : State} {i : Nat} (id : Nat) (hunswept : (agent s i).sweepDone = false) :
    execAgentUnfence id i s = .next s := by
  simp only [execAgentUnfence, hunswept, Bool.and_false, guarded_false]

/-- Settles O25: each event by its case above; a fence by AGENT_FENCE is that of a live agent. -/
theorem homeEventsAct : Obligations.HomeEventsAct := by
  unfold Obligations.HomeEventsAct
  refine ⟨?close, ?timeout, ?sweepDone, ?dataWrite, ?dataWriteRefused, ?fence, ?fencedAlready, ?unfence,
    ?unfenceRefused⟩
  case close => exact fun _ _ _ => execTransactionClose_of_done
  case timeout => exact fun _ _ _ _ => execRecallTimeout_of_owed
  case sweepDone => exact fun _ _ _ => execDirectorySweepDone_of_unnamed
  case dataWrite => exact fun _ _ v hid => execAgentDataWrite_of_free hid v
  case dataWriteRefused => exact fun _ _ _ _ => execAgentDataWrite_of_live
  case fence =>
    intro s id i hid hi hlive
    obtain ⟨a, u, ha, hu, hfence⟩ := fenceAgent_of_unfenced hlive
    refine ⟨a, u, ha, hu, (execAgentFence_of_lt hid hi).trans ?_⟩
    rw [hfence]
  case fencedAlready => exact fun _ id _ _ => execAgentFence_of_fenced id
  case unfence => exact fun _ _ _ => execAgentUnfence_of_swept
  case unfenceRefused => exact fun _ id _ _ => execAgentUnfence_of_unswept id

end Sys2Proof.Machine
end

section
/-!
PROOFS. The schedulers, the gates and the Weir of chapter 05: the unit that starts (R108, R109, R110), the gate list from
commit to its first window and on (R110, R111), and the retry of a tile's admission (R100, R107).
-/
namespace Sys2Proof.Machine

/-! ## Schedulers and gates -/

/-- A scheduler starts the unit that its arbitration picks (R109). -/
theorem execSchedulerStartUnit_of_next {s : State} {sch : Nat} {u : WUnit} (hpick : nextUnit s sch = some u) :
    execSchedulerStartUnit sch s = .next (startUnit s sch u) := by
  simp only [execSchedulerStartUnit, hpick]

section GateCommit

variable {s u : State} {id port g : Nat} {v : W32} (hport : port ≤ 20) (hid : id ≠ 0)
  (hcommit : v.toNat.testBit 17 = true)
  (hg : g = writeFields false (rd s (ra pgWEIR (0x280 + 4 * port))) v.toNat
    [fRW 0 10 10 10 1000, fRW 10 7 0 0 64, fW1C 19 1])
  (hu : u = wr s (ra pgWEIR (0x280 + 4 * port)) g)

include hport hid hcommit hg hu

/-- COMMIT by a master writes the fields of GATE_CTL and checks the shadow list that they give (R111). -/
theorem execGateCommit_of_commit :
    execGateCommit id port v s =
      if gateListOk (shadowList u port (fld g 10 7)) (fld g 0 10) then
        .next (wb (setGate u port { gate u port with pending := some (shadowList u port (fld g 10 7)) })
          (ra pgWEIR (0x280 + 4 * port)) 18 true)
      else .next (wb u (ra pgWEIR (0x280 + 4 * port)) 19 true) := by
  have hallowed : ¬ (20 < port ∨ id = 0) := not_or.mpr ⟨hport.not_gt, hid⟩
  subst hu hg
  simp only [execGateCommit, if_neg hallowed, if_pos hcommit]

/-- A legal list is accepted, and PENDING is set (R111). -/
theorem execGateCommit_of_legal (hlegal : gateListOk (shadowList u port (fld g 10 7)) (fld g 0 10) = true) :
    execGateCommit id port v s =
      .next (wb (setGate u port { gate u port with pending := some (shadowList u port (fld g 10 7)) })
        (ra pgWEIR (0x280 + 4 * port)) 18 true) :=
  (execGateCommit_of_commit hport hid hcommit hg hu).trans (if_pos hlegal)

/-- A list that is not legal is not taken, and COMMIT_ERR is set (R111). -/
theorem execGateCommit_of_illegal (hillegal : gateListOk (shadowList u port (fld g 10 7)) (fld g 0 10) = false) :
    execGateCommit id port v s = .next (wb u (ra pgWEIR (0x280 + 4 * port)) 19 true) :=
  (execGateCommit_of_commit hport hid hcommit hg hu).trans (if_neg (Bool.eq_false_iff.mp hillegal))

end GateCommit

/-- The next window of the list in force begins where the present one ends (R110). -/
theorem execGateWindowBoundary_of_more {s : State} {port : Nat}
    (hmore : (gate s port).window + 1 < (gate s port).active.length) :
    execGateWindowBoundary port s = .next (setGate s port { gate s port with
      window := (gate s port).window + 1,
      since := (gate s port).since + (nth (gate s port).active (gate s port).window (0, 0)).1 }) := by
  simp only [execGateWindowBoundary, decide_eq_true hmore, guarded_true]

/-! ## The admission of a tile -/

/-- A serving controller tries the admission of the tile again (R107). -/
theorem execTileAdmissionRetry_of_serving {s : State} (hserving : serving s = true) (h num : Nat) :
    execTileAdmissionRetry h num s = .next (admitTile s h num) := by
  rw [execTileAdmissionRetry, hserving, guarded_true]

section AdmitTile

variable {s : State} {h num : Nat} {o : Op} {t : Tile} (ho : opOf s h = some o) (ht : tileOf s h num = some t)
  (hadmitted : t.admitted = false) (heng : t.eng = none) (hen : admitEn s = true) (hrate : scRate s (opClass o) ≠ 0)

include ho ht hadmitted heng hen hrate

/-- A tile that the Weir admits has its bound fixed and is queued at its cluster's scheduler, and its operation's run has
begun (R100, R106). -/
theorem admitTile_of_weirAdmit {a : State}
    (hadmit : weirAdmit s (qReq o.queue) (opClass o) 4096 [(24 + t.core / 5, 4096)] = some a) :
    ∃ u e, u = modTile a h num (fun t => { t with
          admitted := true, start := a.now, bound := boundNs a (opClass o) 4096,
          void := t.void || tileBornVoid a t }) ∧
      e = enqueue u (24 + t.core / 5) {
          tag := 0, cls := opClass o, len := 4096,
          charge := 4096 + overhead u (24 + t.core / 5), tile := some (h, num) } ∧
      admitTile s h num = modOp e h fun o' => { o' with
          bytesAdmitted := o'.bytesAdmitted + 4096, runStart := some (o'.runStart.getD e.now),
          terms := if o'.runStart.isNone then boundTerms e (opClass o) else o'.terms } := by
  refine ⟨_, _, rfl, rfl, ?_⟩
  simp [admitTile, ho, ht, hadmitted, heng, hen, hrate, hadmit]

/-- A tile that the Weir does not admit is counted as refused and goes on waiting (R107). -/
theorem admitTile_of_not_weirAdmit
    (hrefused : weirAdmit s (qReq o.queue) (opClass o) 4096 [(24 + t.core / 5, 4096)] = none) :
    admitTile s h num = countRefusal s (qReq o.queue) (opClass o) 4096 := by
  simp [admitTile, ho, ht, hadmitted, heng, hen, hrate, hrefused]

end AdmitTile

/-- Settles O26: each command by its case above; a retry is the admission of the tile, by what the Weir answers. -/
theorem weirCommandsAct : Obligations.WeirCommandsAct := by
  unfold Obligations.WeirCommandsAct
  refine ⟨?start, ?commit, ?commitRefused, ?cycleStart, ?windowBoundary, ?admitted, ?notAdmitted⟩
  case start => exact fun _ _ _ => execSchedulerStartUnit_of_next
  case commit => exact fun _ _ _ _ _ _ => execGateCommit_of_legal
  case commitRefused => exact fun _ _ _ _ _ _ => execGateCommit_of_illegal
  case cycleStart => exact fun _ _ => rfl
  case windowBoundary => exact fun _ _ => execGateWindowBoundary_of_more
  case admitted =>
    intro s a h num o t hserving ho ht hadmitted heng hen hrate hadmit
    obtain ⟨u, e, hu, he, htile⟩ := admitTile_of_weirAdmit ho ht hadmitted heng hen hrate hadmit
    refine ⟨_, _, u, e, rfl, rfl, hu, he, (execTileAdmissionRetry_of_serving hserving h num).trans ?_⟩
    rw [htile]
  case notAdmitted =>
    intro s h num o t hserving ho ht hadmitted heng hen hrate hrefused
    refine (execTileAdmissionRetry_of_serving hserving h num).trans ?_
    rw [admitTile_of_not_weirAdmit ho ht hadmitted heng hen hrate hrefused]

end Sys2Proof.Machine
end

section
/-!
PROOFS. Chapter 06: the end of an epoch (R126), the drives and their enable (R137, R139, R142, R503), and MIGRATE (R143
to R145).
-/
namespace Sys2Proof.Machine

/-! ## The end of an epoch -/

section Tables

variable {V : Type}

theorem tget_tmap (t : Tbl V) (f : Nat → V → V) (a : Nat) : tget (tmap t f) a = (tget t a).map (f a) := by
  induction t with
  | nil => rfl
  | cons e t ih =>
    obtain ⟨k, v⟩ := e
    rw [tmap, List.map_cons, tget, tget]
    split
    · next hk => rw [hk, Option.map_some]
    · exact ih

theorem keys_tmap (t : Tbl V) (f : Nat → V → V) : (tmap t f).map Prod.fst = t.map Prod.fst := by
  simp [tmap, Function.comp_def]

/-- A key that no entry has is not listed. -/
theorem tget_eq_none {t : Tbl V} {a : Nat} (ha : a ∉ t.map Prod.fst) : tget t a = none := by
  induction t with
  | nil => rfl
  | cons e t ih =>
    obtain ⟨hk, ht⟩ := List.ne_and_not_mem_of_not_mem_cons ha
    exact (if_neg hk).trans (ih ht)

/-- A table that lists no key twice reads the same without the default values that it lists. -/
theorem tgetD_tfilter_ne_default [DecidableEq V] (d : V) {t : Tbl V} (ht : (t.map Prod.fst).Nodup) (a : Nat) :
    tgetD (tfilter t fun _ v => v ≠ d) a d = tgetD t a d := by
  induction t with
  | nil => rfl
  | cons e t ih =>
    obtain ⟨k, v⟩ := e
    obtain ⟨hk, ht⟩ := List.nodup_cons.1 ht
    have hrest := ih ht
    by_cases hv : v = d
    · have hdrop : tfilter ((k, v) :: t) (fun _ v => v ≠ d) = tfilter t fun _ v => v ≠ d := by simp [tfilter, hv]
      rw [hdrop, hrest]
      by_cases ha : a = k
      · subst ha
        rw [tgetD, tget_eq_none hk, tgetD, tget, if_pos rfl, hv]
        rfl
      · rw [tgetD, tgetD, tget, if_neg ha]
    · have hkeep : tfilter ((k, v) :: t) (fun _ v => v ≠ d) = (k, v) :: tfilter t fun _ v => v ≠ d := by
        simp [tfilter, hv]
      rw [hkeep]
      simp only [tgetD, tget] at hrest ⊢
      split
      · rfl
      · exact hrest

end Tables

/-- A page's record after EPOCH_END: the count halved, the touched bits shifted (R126). -/
def epochRec (r : PageRec) : PageRec := { r with count := r.count / 2, prevTouched := r.touched, touched := 0 }

/-- EPOCH_END does to every page's record what R126 says, where the table lists no page twice. -/
theorem pageRec_epochEnd {s t : State} (hpages : (s.tier.pages.map Prod.fst).Nodup)
    (ht : exec .epochEnd s = .next t) (p : Nat) : pageRec t p = epochRec (pageRec s p) := by
  obtain rfl := Host.Outcome.next.inj ht
  have hread : tgetD (tmap s.tier.pages fun _ => epochRec) p {} = epochRec (pageRec s p) := by
    rw [tgetD, tget_tmap, pageRec, tgetD]
    cases tget s.tier.pages p <;> rfl
  exact (tgetD_tfilter_ne_default _ (by rwa [keys_tmap]) p).trans hread

/-- Refutes O27, at its clause on what a page's record holds after EPOCH_END. The clause is said of every state, also of
one whose table lists a page twice: where the first record of the page ages to the default it is dropped, and the
second one is read in its place. -/
theorem not_tierEventsAct : ¬ Obligations.TierEventsAct := by
  unfold Obligations.TierEventsAct
  rintro ⟨-, -, -, -, hepoch, -⟩
  have hzero := hepoch { tier := { pages := [(0, { count := 1 }), (0, { count := 2 })] } } _ 0 rfl
  exact absurd hzero (by decide)

/-! ## Drives -/

/-- An overdue command is counted, and either issued once more or, the second time, the end of its drive (R137). -/
theorem execNvmeCmdTimeout_of_cisCmd {s : State} {d f : Nat} {c : CisCmd} (hd : d < 16) (hf : f < 0x10000000)
    (hc : cisCmd s (d * 0x10000000 + f) = some c) :
    execNvmeCmdTimeout d f s = .next (if c.twice then failDrive (count s (pgCISP + d) 4 1) d
      else retryCis (count s (pgCISP + d) 4 1) (d * 0x10000000 + f) c) := by
  simp only [execNvmeCmdTimeout, hc, decide_eq_true hd, decide_eq_true hf, Bool.and_self, guarded_true]

/-- A drive that is present and has not failed fails (R137). -/
theorem execDriveFailure_of_up {s : State} {d : Nat} (hd : d < 16) (hpresent : drvState s d ≠ 0)
    (hup : drvState s d ≠ 4) : execDriveFailure d s = .next (failDrive s d) := by
  simp only [execDriveFailure, decide_eq_true hd, decide_eq_true hpresent, decide_eq_true hup, Bool.and_self,
    guarded_true]

/-- A preempt that is under way ends with the drive's reservation held: the commands that waited for it go out, and the
reads in flight are issued again (R139). -/
theorem execReservationPreemptDone_of_preempting {s : State} {d : Nat} (hd : s.tier.preempt.contains d = true) :
    ∃ u v, u = { s with tier := { s.tier with
        preempt := s.tier.preempt.erase d, later := s.tier.later.filter fun e => e.1 ≠ d } } ∧
      v = (s.tier.later.filter fun e => e.1 = d).foldl (fun s e => put s (.nvme e.1 e.2)) (setHeld u d true) ∧
      execReservationPreemptDone d s =
        .next (retryPromotes ((v.tier.moves.filter fun m => decide (m.drive = d) && decide (m.kind = .promote)).foldl
          (fun s m => readCis s (subRec s m.sub).frame m.dest) v)) := by
  refine ⟨_, _, rfl, rfl, ?_⟩
  rw [execReservationPreemptDone, hd, guarded_true]

/-! ## CIS.CFG -/

/-- The state after a write of CIS.CFG's fields (Table 6-9). -/
def writeCisCfg (s : State) (v : W32) : State :=
  wr s (ra pgCIS 0x100)
    (writeFields false (rd s (ra pgCIS 0x100)) v.toNat [fRW 0 1, fRW 1 7 16 1 64, fRW 8 10 30 1 1000])

/-- CIS.CFG.EN. -/
abbrev cisEn (s : State) : Bool := rb s (ra pgCIS 0x100) 0

/-- Every drive that has not failed is absent, with no reservation, once EN is cleared (log entry 65). -/
def dropDrives (s : State) : State :=
  (rangeFrom 0 16).foldl (fun s d => if drvState s d = 4 then s else setHeld (setDrv s d 0) d false) s

section CisternEnable

variable {s : State} {v : W32} (id : Nat)

/-- A write of CIS.CFG that leaves EN changes its fields alone. -/
theorem execCisternEnable_of_kept (hkept : cisEn (writeCisCfg s v) = cisEn s) :
    execCisternEnable id v s = .next (writeCisCfg s v) := if_pos hkept

/-- Setting EN raises CIS_PERST_N (R142, R503). -/
theorem execCisternEnable_of_set (hwas : cisEn s = false) (his : cisEn (writeCisCfg s v) = true) :
    execCisternEnable id v s = .next (put (writeCisCfg s v) (.pin "CIS_PERST_N" true)) :=
  have hchanged : cisEn (writeCisCfg s v) ≠ cisEn s := by rw [his, hwas]; decide
  (if_neg hchanged).trans (if_pos his)

/-- Clearing EN drops the drives and asserts CIS_PERST_N (R142, R503, log entry 65). -/
theorem execCisternEnable_of_cleared (hwas : cisEn s = true) (his : cisEn (writeCisCfg s v) = false) :
    execCisternEnable id v s =
      .next (drvGauges (put (dropDrives (writeCisCfg s v)) (.pin "CIS_PERST_N" false))) :=
  have hchanged : cisEn (writeCisCfg s v) ≠ cisEn s := by rw [his, hwas]; decide
  (if_neg hchanged).trans (if_neg (Bool.eq_false_iff.1 his))

end CisternEnable

/-! ## MIGRATE -/

/-- A MIGRATE that is set up: it starts at the first sub-page of its range, and suspends at once where that was asked
before it ran (R166). -/
def beginMigrate (s : State) (h : Nat) (r : Region) : State :=
  modOp s h fun o => { o with
    phase := if o.askSusp then .suspending else .running, prog := { o.prog with next := migStart o r } }

/-- MIGRATE with the operands and the region that R143 and Table 6-10 allow runs, unless it is to suspend. -/
theorem execMigrate_of_legal {s : State} {h : Nat} {o : Op} {r : Region} (hready : ready s h 0x17 = some o)
    (hregion : regionOf s (opnd o 0x10 4) = some r) (hlive : r.freeing = false) (hdom : r.dom = o.dom)
    (hpages : opnd o 0x18 4 ≠ 0) (hrange : opnd o 0x14 4 + opnd o 0x18 4 ≤ r.size) (htarget : migTarget o ≠ 3)
    (hgrain5 : migGrain o ≠ 5) (hgrain6 : migGrain o ≠ 6)
    (hdemote : migTarget o ≠ 2 ∨ (r.coherent = false ∧ r.residency = 0))
    (hwhole : migGrain o = 7 ∨ (opnd o 0x14 4 = 0 ∧ opnd o 0x18 4 = r.size)) :
    execMigrate h s = .next (if o.askSusp then beginMigrate s h r else migGo (beginMigrate s h r) h) := by
  have hdemote' : (decide (migTarget o = 2) && (r.coherent || decide (r.residency ≠ 0))) = false := by
    rcases hdemote with hother | ⟨hcoherent, htiered⟩
    · rw [decide_eq_false hother, Bool.false_and]
    · simp [hcoherent, htiered]
  have hwhole' : (decide (migGrain o ≠ 7) && (decide (opnd o 0x14 4 ≠ 0) || decide (opnd o 0x18 4 ≠ r.size))) =
      false := by
    rcases hwhole with hkeep | ⟨hfirst, hall⟩
    · simp [hkeep]
    · simp [hfirst, hall]
  simp only [execMigrate, hready, hregion, hlive, hdom, hpages, Nat.not_lt.2 hrange, htarget, hgrain5, hgrain6,
    hdemote', hwhole', ne_eq, not_true_eq_false, decide_false, Bool.or_self, Bool.false_eq_true, if_false, beginMigrate]

/-- The move of a MIGRATE that runs, if one does, has been made. -/
def commitMove (s : State) (h : Nat) : State :=
  match s.tier.moves.find? fun m => m.op = h with
  | some m => if m.kind = MoveKind.promote then promoteCommit s m 0 else demoteWritten s m
  | none => s

section MoveDone

variable {s : State} {h : Nat}

theorem commitMove_of_none (hnone : s.tier.moves.find? (fun m => m.op = h) = none) : commitMove s h = s := by
  rw [commitMove, hnone]

theorem commitMove_of_some {m : Move} (hmove : s.tier.moves.find? (fun m => m.op = h) = some m) :
    commitMove s h = if m.kind = .promote then promoteCommit s m 0 else demoteWritten s m := by
  rw [commitMove, hmove]

variable {u : State} {o : Op} {r : Region} (ho : opOf s h = some o) (hop : o.opcode = 0x17) (hu : commitMove s h = u)
  (hregion : regionOf u (opnd o 0x10 4) = some r)
  (hdone : (migResults u h r).tier.moves.any (fun m => m.op = h) = false)

include ho hop hu hregion hdone

/-- Once the move has committed, its results stand: a cancelled MIGRATE ends, one that is to suspend stops there, and
another takes the next sub-page (R144, R145). -/
theorem execMigrateMoveDone_of_done (hphase : o.phase = .running ∨ o.phase = .suspending) :
    execMigrateMoveDone h s = .next (
      if o.cancelled then endOp (migResults u h r) h (migCond (migResults u h r) h)
      else if o.phase = .suspending then migResults u h r
      else migGo (migResults u h r) h) := by
  have hruns : ¬ (o.opcode ≠ 0x17 ∨ o.phase ≠ .running ∧ o.phase ≠ .suspending) := by
    rw [← not_or, not_or]
    exact ⟨not_not_intro hop, not_not_intro hphase⟩
  cases hmove : s.tier.moves.find? fun m => m.op = h with
  | none =>
    obtain rfl := (commitMove_of_none hmove).symm.trans hu
    simp only [execMigrateMoveDone, ho, if_neg hruns, hmove, hregion, hdone, Bool.false_eq_true, if_false,
      apply_ite Host.Outcome.next]
  | some m =>
    rw [commitMove_of_some hmove] at hu
    simp only [execMigrateMoveDone, ho, if_neg hruns, hmove, hu, hregion, hdone, Bool.false_eq_true, if_false,
      apply_ite Host.Outcome.next]

end MoveDone

/-- Settles O28: each command by its case above. -/
theorem cisternEventsAct : Obligations.CisternEventsAct := by
  unfold Obligations.CisternEventsAct
  refine ⟨?retried, ?failed, ?driveFailure, ?preempted, ?raised, ?dropped, ?kept, ?migrate, ?migrateSuspends,
    ?firstMove, ?moveDone, ?moveSuspends, ?moveCancelled⟩
  case retried =>
    intro s d f c hd hf hc honce
    refine (execNvmeCmdTimeout_of_cisCmd hd hf hc).trans ?_
    rw [honce, if_neg Bool.false_ne_true]
  case failed =>
    intro s d f c hd hf hc htwice
    exact (execNvmeCmdTimeout_of_cisCmd hd hf hc).trans (by rw [if_pos htwice])
  case driveFailure => exact fun _ _ => execDriveFailure_of_up
  case preempted => exact fun _ _ => execReservationPreemptDone_of_preempting
  case raised =>
    rintro s _ id v rfl hwas his
    exact execCisternEnable_of_set id hwas his
  case dropped =>
    rintro s _ id v rfl hwas his
    exact execCisternEnable_of_cleared id hwas his
  case kept =>
    rintro s _ id v rfl hkept
    exact execCisternEnable_of_kept id hkept
  case migrate =>
    intro s h o r hready hregion hlive hdom hpages hrange htarget hgrain5 hgrain6 hdemote hwhole hgo
    refine (execMigrate_of_legal hready hregion hlive hdom hpages hrange htarget hgrain5 hgrain6 hdemote hwhole).trans
      ?_
    rw [hgo, if_neg Bool.false_ne_true]
    rfl
  case migrateSuspends =>
    intro s h o r hready hregion hlive hdom hpages hrange htarget hgrain5 hgrain6 hdemote hwhole hsusp
    refine (execMigrate_of_legal hready hregion hlive hdom hpages hrange htarget hgrain5 hgrain6 hdemote hwhole).trans
      ?_
    rw [if_pos hsusp]
    rfl
  case firstMove =>
    intro s h o r ho hop hphase hkept hnone hregion hdone
    refine (execMigrateMoveDone_of_done ho hop (commitMove_of_none hnone) hregion hdone (.inl hphase)).trans ?_
    simp [hkept, hphase]
  case moveDone =>
    rintro s u _ h o m r ho hop hphase hkept hmove rfl hregion rfl hdone
    refine (execMigrateMoveDone_of_done ho hop (commitMove_of_some hmove) hregion hdone (.inl hphase)).trans ?_
    simp [hkept, hphase]
  case moveSuspends =>
    rintro s u _ h o m r ho hop hphase hkept hmove rfl hregion rfl hdone
    refine (execMigrateMoveDone_of_done ho hop (commitMove_of_some hmove) hregion hdone (.inr hphase)).trans ?_
    simp [hkept, hphase]
  case moveCancelled =>
    rintro s u _ h o m r ho hop hphase hcancelled hmove rfl hregion rfl hdone
    refine (execMigrateMoveDone_of_done ho hop (commitMove_of_some hmove) hregion hdone (.inl hphase)).trans ?_
    rw [if_pos hcancelled]

end Sys2Proof.Machine
end

section
/-!
PROOFS. The power management of chapter 20: latency tolerance (R302, R457), the die temperature and its limits (R461,
R477), the idle timers (R458, Table 20-9) and the drives that become ready (R139, R452).
-/
namespace Sys2Proof.Machine

/-! ## Latency tolerance -/

/-- SET_LATENCY_TOL states the tolerance for each domain that it names and completes; it governs where a domain of the
CXL host is among them (R302, R457). -/
theorem execSetLatencyTol_of_ready {s u : State} {h : Nat} {o : Op} {ds : List Nat} (hready : ready s h 0x31 = some o)
    (hds : ds = if bitN (opnd o 0x10 4) 10 then rangeFrom 0 1024 else [fld (opnd o 0x10 4) 0 10])
    (hu : u = ds.foldl (fun s d => setTol s d (opnd o 0x14 4)) s) :
    execSetLatencyTol h s = .next (endWith
      (if (hostDomains u).any ds.contains then wr u (ra pgCXLP 0x118) (opnd o 0x14 4) else u) h 0 [0, 0, 0, 0]) := by
  simp only [execSetLatencyTol, hready, ← hds, ← hu, stOk]

/-- LTR from the host is recorded for each of its domains, and in LTR's register (R302, R457). -/
theorem execLtrWrite_of_enabled {s : State} (v : W32) (hen : rb s (ra pgCXLP 0x114) 8 = true) :
    execLtrWrite v s = .next (wr ((hostDomains s).foldl (fun s d => setTol s d (ltrNs v.toNat)) s) (ra pgCXLP 0x118)
      (ltrNs v.toNat)) := by
  rw [execLtrWrite, hen, guarded_true]

/-! ## Temperature -/

/-- The events of a sample that takes WARN from `w0` to `w` and THROTTLE from `t0` to `t`: one for a limit that is
crossed upwards, and a platform event for each that changes (R461, R477). -/
def limitEvents (s : State) (c : Nat) (w0 w t0 t : Bool) : State :=
  let s := if w && !w0 then eventAt s pgPWR sevWarn clConfig c else s
  let s := if t && !t0 then eventAt s pgPWR sevError clConfig c else s
  let s := if w == w0 then s else platformEvent s [1, c, if w then 1 else 0]
  if t == t0 then s else platformEvent s [1, c, if t then 3 else 2]

theorem limitEvents_unchanged (s : State) (c : Nat) (w t : Bool) : limitEvents s c w w t t = s := by
  simp [limitEvents]

theorem limitEvents_warn (s : State) (c : Nat) (t : Bool) :
    limitEvents s c false true t t = platformEvent (eventAt s pgPWR sevWarn clConfig c) [1, c, 1] := by
  simp [limitEvents]

theorem limitEvents_throttle (s : State) (c : Nat) (w : Bool) :
    limitEvents s c w w false true = platformEvent (eventAt s pgPWR sevError clConfig c) [1, c, 3] := by
  simp [limitEvents]

/-- A sample sets the temperature and the two limits, with the events of what changed (R461, R477). -/
theorem execDieTempSample_of_running {s u : State} {c : Nat} {w t : Bool} (hrun : s.pwr.held = 0)
    (hw : w = limitHolds (rb s (ra pgPWR 0x110) 8) c (rf s (ra pgPWR 0x100) 10 8))
    (ht : t = limitHolds (rb s (ra pgPWR 0x110) 9) c (rf s (ra pgPWR 0x100) 2 8))
    (hu : u = wb (wb (wf s (ra pgPWR 0x110) 0 8 (min 255 c)) (ra pgPWR 0x110) 8 w) (ra pgPWR 0x110) 9 t) :
    execDieTempSample c s =
      .next (limitEvents u c (rb s (ra pgPWR 0x110) 8) w (rb s (ra pgPWR 0x110) 9) t) := by
  subst hw ht hu
  rw [execDieTempSample, decide_eq_true hrun, guarded_true]
  rfl

/-! ## Idle ports and cores -/

section PortIdle

variable {s v : State} {p u : Nat} (hp : p < 20) (hidle : linkBusy s p = false)

include hp hidle

/-- An idle port asks for STANDBY where its level, or the time that it has been idle, does not reach OFF (R458,
Table 20-9). -/
theorem execPortIdleTimeout_of_standby (hlevel : 1 ≤ portLevel s p) (htime : 10 ≤ u)
    (hshort : portLevel s p < 3 ∨ u < 100) :
    execPortIdleTimeout p u s = .next (requestPower (wf s (ctlReg p) 4 2 2) p 2) := by
  have hoff : ¬ (3 ≤ portLevel s p ∧ 100 ≤ u) := by omega
  simp only [execPortIdleTimeout, decide_eq_true hp, hidle, Bool.not_false, Bool.and_self, guarded_true, if_neg hoff,
    if_pos (And.intro hlevel htime)]

/-- A port that has been idle for 100 µs at PL3 leaves STANDBY and asks for OFF (R458, Table 20-9). -/
theorem execPortIdleTimeout_of_off (hlevel : 3 ≤ portLevel s p) (htime : 100 ≤ u)
    (hv : v = if linkState s p = 6 ∧ linkPower s p = 2 then exitPower s p else s) :
    execPortIdleTimeout p u s = .next (requestPower (wf v (ctlReg p) 4 2 3) p 3) := by
  simp only [execPortIdleTimeout, decide_eq_true hp, hidle, Bool.not_false, Bool.and_self, guarded_true,
    if_pos (And.intro hlevel htime), hv]

end PortIdle

section CoreIdle

variable {s : State} {c : Nat} (hc : c < 20) (hservice : coreInService s c = true)
  (hidle : s.cmd.tiles.any (fun t => t.core = c) = false)

include hc hservice hidle

/-- An idle core is gated at PL1 where another core of its cluster stays ungated (R458). -/
theorem execCoreIdleGate_of_other (hlevel : 1 ≤ coreLevel s)
    (hother : ((clusterCores s (c / 5)).any fun d => decide (d ≠ c) && !coreGated s d) = true) :
    execCoreIdleGate c s = .next (setGated s c true) := by
  simp only [execCoreIdleGate, decide_eq_true hc, hservice, decide_eq_true hlevel, hidle, hother, Bool.not_false,
    Bool.true_or, Bool.and_self, guarded_true]

/-- At PL2 a core is gated with its whole cluster idle (R458). -/
theorem execCoreIdleGate_of_cluster (hlevel : 2 ≤ coreLevel s)
    (hcluster : (rangeFrom (5 * (c / 5)) 5).all (fun d => !(s.cmd.tiles.any fun t => t.core = d)) = true) :
    execCoreIdleGate c s = .next (setGated s c true) := by
  have hlevel1 : 1 ≤ coreLevel s := by omega
  simp only [execCoreIdleGate, decide_eq_true hc, hservice, decide_eq_true hlevel1, decide_eq_true hlevel, hidle,
    hcluster, Bool.not_false, Bool.or_true, Bool.and_self, guarded_true]

end CoreIdle

/-! ## Drives -/

/-- An ACTIVE drive that nothing uses is put to sleep at PL3 (R458). -/
theorem execDriveIdleTimeout_of_active {s u : State} {d : Nat} (hd : d < 16) (hactive : drvState s d = 2)
    (hlevel : 3 ≤ driveLevel s) (hawake : s.tier.drvIdle.contains d = false)
    (hmoves : s.tier.moves.any (fun m => m.drive = d) = false) (hu : u = put s (.nvme d .sleep)) :
    execDriveIdleTimeout d s = .next { u with tier := { u.tier with drvIdle := insNat d u.tier.drvIdle } } := by
  simp only [execDriveIdleTimeout, decide_eq_true hd, decide_eq_true hactive, decide_eq_true hlevel, hawake, hmoves,
    Bool.not_false, Bool.and_self, guarded_true, hu]

/-- In a pair a drive that has come up takes this controller's key, and the one that serves acquires its reservation
(R139). -/
def reserveDrive (s : State) (d : Nat) : State :=
  let s := if paired s then issueNvme s d (.resRegister (resKey s)) else s
  if paired s && serving s then acquireDrives s [d] else s

theorem reserveDrive_of_unpaired {s : State} (d : Nat) (hpaired : paired s = false) : reserveDrive s d = s := by
  simp [reserveDrive, hpaired]

section Reserve

variable {s w : State} {d : Nat} (hpaired : paired s = true) (hw : w = issueNvme s d (.resRegister (resKey s)))

include hpaired hw

theorem reserveDrive_of_serving (hstill : paired w = true) (hserving : serving w = true) :
    reserveDrive s d = acquireDrives w [d] := by
  simp [reserveDrive, hpaired, ← hw, hstill, hserving]

theorem reserveDrive_of_standby (hstandby : serving w = false) : reserveDrive s d = w := by
  simp [reserveDrive, hpaired, ← hw, hstandby]

end Reserve

/-- A drive that is awaited is brought up, its state, its ports and its frames recorded and its reservation seen to
(R138, R139, R142). -/
theorem execDriveReady_of_awaited {s b u v : State} {d n : Nat} {q : Bool} (hd : d < 16)
    (hen : rb s (ra pgCIS 0x100) 0 = true) (hawaited : drvState s d ≤ 1 ∨ s.tier.waking.contains d = true)
    (hb : b = bringUp s d)
    (hu : u = wb (setDrv b d (if spareMask b d then 3 else 2)) (ra pgCIS (0x140 + 4 * d)) 4 q)
    (hv : v = { u with tier := { u.tier with
      drvFrames := tset 0 u.tier.drvFrames d (min n 233918112), waking := u.tier.waking.erase d } }) :
    execDriveReady d q n s = .next (drvGauges (retryPromotes (reserveDrive v d))) := by
  have hdue : (decide (drvState s d ≤ 1) || s.tier.waking.contains d) = true := by
    rcases hawaited with hearly | hwaking
    · rw [decide_eq_true hearly, Bool.true_or]
    · rw [hwaking, Bool.or_true]
  simp only [execDriveReady, decide_eq_true hd, hen, hdue, Bool.and_self, guarded_true, reserveDrive, hv, hu, hb]

/-- A drive whose bring-up takes too long fails with an event (R452). -/
theorem execDriveReadyTimeout_of_waiting {s : State} {d : Nat} (hd : d < 16) (hwaiting : drvState s d = 1) :
    execDriveReadyTimeout d s =
      .next (event (setDrv s d 4) { source := pgCISP + d, sev := sevError, cls := clCistern, loc := d }) := by
  simp only [execDriveReadyTimeout, decide_eq_true hd, decide_eq_true hwaiting, Bool.and_self, guarded_true]

/-- Settles O57: each command by its case above. -/
theorem powerManagementActs : Obligations.PowerManagementActs := by
  unfold Obligations.PowerManagementActs
  refine ⟨?tolerance, ?hostTolerance, ?steady, ?warn, ?throttle, ?ltr, ?portStandby, ?portOff, ?coreOther,
    ?coreCluster, ?driveIdle, ?ready, ?readyServing, ?readyStandby, ?readyTimeout⟩
  case tolerance =>
    intro s u h o ds hready hds hu hother
    refine (execSetLatencyTol_of_ready hready hds hu).trans ?_
    rw [hother, if_neg Bool.false_ne_true]
  case hostTolerance =>
    intro s u h o ds hready hds hu hhost
    refine (execSetLatencyTol_of_ready hready hds hu).trans ?_
    rw [if_pos hhost]
  case steady =>
    intro s u c w t hrun hw ht hu hwarn hthrottle
    refine (execDieTempSample_of_running hrun hw ht hu).trans ?_
    rw [hwarn, hthrottle, limitEvents_unchanged]
  case warn =>
    intro s u c w t hrun hw ht hu hbefore hwarn hthrottle
    refine (execDieTempSample_of_running hrun hw ht hu).trans ?_
    rw [hbefore, hwarn, hthrottle, limitEvents_warn]
  case throttle =>
    intro s u c w t hrun hw ht hu hwarn hbefore hthrottle
    refine (execDieTempSample_of_running hrun hw ht hu).trans ?_
    rw [hwarn, hbefore, hthrottle, limitEvents_throttle]
  case ltr =>
    rintro s _ v hen rfl
    exact execLtrWrite_of_enabled v hen
  case portStandby => exact fun _ _ _ => execPortIdleTimeout_of_standby
  case portOff => exact fun _ _ _ _ => execPortIdleTimeout_of_off
  case coreOther => exact fun _ _ => execCoreIdleGate_of_other
  case coreCluster => exact fun _ _ => execCoreIdleGate_of_cluster
  case driveIdle => exact fun _ _ _ => execDriveIdleTimeout_of_active
  case ready =>
    intro s b u v d n q hd hen hawaited hb hu hv hpaired
    refine (execDriveReady_of_awaited hd hen hawaited hb hu hv).trans ?_
    rw [reserveDrive_of_unpaired d hpaired]
  case readyServing =>
    intro s b u v w d n q hd hen hawaited hb hu hv hpaired hw hstill hserving
    refine (execDriveReady_of_awaited hd hen hawaited hb hu hv).trans ?_
    rw [reserveDrive_of_serving hpaired hw hstill hserving]
  case readyStandby =>
    intro s b u v w d n q hd hen hawaited hb hu hv hpaired hw hstandby
    refine (execDriveReady_of_awaited hd hen hawaited hb hu hv).trans ?_
    rw [reserveDrive_of_standby hpaired hw hstandby]
  case readyTimeout => exact fun _ _ => execDriveReadyTimeout_of_waiting

end Sys2Proof.Machine
end

section
/-!
PROOFS. The queues of chapter 07: doorbells (R149), the configuration of the rings (R148, R151, R152) and the taking of
the entry at HEAD (R151, R516).
-/
namespace Sys2Proof.Machine

/-! ## Doorbells -/

/-- A data packet of a kind that has arrived is taken from its port and served, where it meets what else its command
asks of it. -/
theorem arrive_of_arrivedKind {s p : State} {port kind : Nat} {pkt : Packet} {more : Bool}
    {idle fenced serve : State → State} (harrived : arrivedKind s port pkt kind p) (hmore : more = true) :
    arrive s port pkt (decide (4 ≤ pkt.ch) && decide (pkt.kind = kind) && more) idle fenced serve =
      .next (serve p) := by
  obtain ⟨hch, hkind, hlocal, hpause, hpop, hserving, hfree⟩ := harrived
  simp only [arrive, hch, hkind, hmore, hlocal, hpause, hpop, hserving, hfree, decide_true, Bool.and_self,
    Bool.false_and, Bool.not_true, Bool.or_self, Bool.false_eq_true, if_false]

/-- A doorbell register rings its queue for the identity that writes it (R149). -/
theorem execSqDoorbell_of_lt {q : Nat} (hq : q < 256) (id : Nat) (v : W32) (s : State) :
    execSqDoorbell id q v s = .next (doorbell s id q (v.toNat % 65536)) := by
  rw [execSqDoorbell, decide_eq_true hq, guarded_true]

/-- A doorbell packet rings its queue for the identity of its EID (R149). -/
theorem execDoorbellPacket_of_arrived {s p : State} {port : Nat} {pkt : Packet}
    (harrived : arrivedKind s port pkt 3 p) (hq : pkt.queue < 256) :
    execDoorbellPacket port pkt s =
      .next (doorbell p (0x100 + pkt.src) pkt.queue (pkt.tail % 65536)) :=
  arrive_of_arrivedKind harrived (decide_eq_true hq)

/-! ## The configuration of the rings -/

/-- A completion ring that is enabled begins its phase anew, with no entry held back (R148). -/
def restartCq (s : State) (q : Nat) : State := { s with cmd := { s.cmd with cqs := tset {} s.cmd.cqs q {} } }

section RingConfig

variable {s u : State} {q : Nat} {v : W32} (hq : q < 256) (id : Nat)

include hq

/-- The configuration of a disabled submission queue takes its SIZE too, and enabling it sets its pointers to 0
(R148). -/
theorem execSqCfgWrite_of_disabled (hwas : sqEn s q = false)
    (hu : u = wr s (ra (qPage q) 0x108) (writeFields false (rd s (ra (qPage q) 0x108)) v.toNat
      [fRW 0 5 4 4 16, fRW 5 1, fRW 6 1, fRW 8 8])) :
    execSqCfgWrite id q v s =
      .next (if sqEn u q then wr (wr u (ra (qPage q) 0x110) 0) (ra (qPage q) 0x10C) 0 else u) := by
  subst hu
  simp only [execSqCfgWrite, decide_eq_true hq, guarded_true, hwas, Bool.false_eq_true, if_false, Bool.not_false,
    Bool.true_and, List.cons_append, List.nil_append]

/-- An enabled submission queue keeps its SIZE and its pointers (R148). -/
theorem execSqCfgWrite_of_enabled (hwas : sqEn s q = true)
    (hu : u = wr s (ra (qPage q) 0x108) (writeFields false (rd s (ra (qPage q) 0x108)) v.toNat
      [fRW 5 1, fRW 6 1, fRW 8 8])) :
    execSqCfgWrite id q v s = .next u := by
  subst hu
  simp only [execSqCfgWrite, decide_eq_true hq, guarded_true, hwas, if_true, Bool.not_true, Bool.false_and,
    Bool.false_eq_true, if_false, List.nil_append]

/-- The configuration of a disabled completion queue takes its SIZE too, and enabling it sets its pointers to 0 and
begins its phase and its notifications anew (R148). -/
theorem execCqCfgWrite_of_disabled (hwas : cqEn s q = false)
    (hu : u = wr s (ra (qPage q) 0x11C) (writeFields false (rd s (ra (qPage q) 0x11C)) v.toNat
      [fRW 0 5 4 4 16, fRW 5 1, fRW 6 1, fW1C 7 1])) :
    execCqCfgWrite id q v s =
      .next (if cqEn u q then restartCq (wr (wr u (ra (qPage q) 0x124) 0) (ra (qPage q) 0x128) 0) q else u) := by
  subst hu
  simp only [execCqCfgWrite, restartCq, decide_eq_true hq, guarded_true, hwas, Bool.false_eq_true, if_false,
    Bool.not_false, Bool.true_and, Bool.false_and, List.cons_append, List.nil_append]

/-- An enabled completion queue keeps its SIZE, and disabling it cancels its reservations (R148, R152). -/
theorem execCqCfgWrite_of_enabled (hwas : cqEn s q = true)
    (hu : u = wr s (ra (qPage q) 0x11C) (writeFields false (rd s (ra (qPage q) 0x11C)) v.toNat
      [fRW 5 1, fRW 6 1, fW1C 7 1])) :
    execCqCfgWrite id q v s = .next (if cqEn u q then u else cancelReservations u q) := by
  subst hu
  simp only [execCqCfgWrite, decide_eq_true hq, guarded_true, hwas, if_true, Bool.not_true, Bool.false_and,
    Bool.true_and, Bool.false_eq_true, if_false, List.nil_append, Bool.not_eq_true', ← Bool.not_eq_true, ite_not]

/-- HEAD of a completion queue moves to what is written (R151). -/
theorem execCqHeadWrite_of_lt (v : W32) (s : State) :
    execCqHeadWrite id q v s = .next (wr s (ra (qPage q) 0x124) (v.toNat % 65536)) := by
  rw [execCqHeadWrite, decide_eq_true hq, guarded_true]

end RingConfig

/-! ## The entry at HEAD -/

/-- A queue's entry may be read: the controller serves and takes entries, the queue is enabled and holds one, and it is
its turn (R151, R516, Table 5-13). -/
structure EntryDue (s : State) (q : Nat) : Prop where
  queue : q < 256
  serving : serving s = true
  unpaused : s.pair.pause = false
  warm : s.pwr.warm ≠ 2
  enabled : sqEn s q = true
  pending : sqHead s q ≠ sqTail s q
  processor : (cpsInService s).isEmpty = false
  turn : turnOf s q = true

/-- None of the grounds on which TAKE_ENTRY does nothing holds. -/
theorem EntryDue.not_idle {s : State} {q : Nat} (hdue : EntryDue s q) :
    ¬ (256 ≤ q ∨ ¬ Machine.serving s = true ∨ s.pair.pause = true ∨ s.pwr.warm = 2 ∨ ¬ sqEn s q = true ∨
      sqHead s q = sqTail s q ∨ (cpsInService s).isEmpty = true ∨ ¬ turnOf s q = true) := by
  obtain ⟨hq, hserving, hpause, hwarm, hen, hpending, hcp, hturn⟩ := hdue
  simp [hq, hserving, hpause, hwarm, hen, hpending, hcp, hturn]

section TakeEntry

variable {s u : State} {q : Nat} {e : Bytes} (hdue : EntryDue s q)

include hdue

/-- An entry that the host returns is taken where it may be (R151). -/
theorem execTakeEntry_of_host (hhost : sqHost s q = true) (hlen : e.length = 64) (htake : takeable s q e = true) :
    execTakeEntry q (.host e) s =
      .next (takeEntry (put s (.hostRead (sqBase s q + 64 * sqHead s q) 64)) q e) := by
  simp only [execTakeEntry, if_neg hdue.not_idle, hhost, hlen, htake, not_true_eq_false, ne_eq, or_self, if_false,
    guarded_true]

/-- A host read that fails stops the queue (R152). -/
theorem execTakeEntry_of_error (hhost : sqHost s q = true) (hfree : cqFree s (cqNum s q) = true) :
    execTakeEntry q .error s = .next (ringFail s q) := by
  simp only [execTakeEntry, if_neg hdue.not_idle, hhost, hfree, Bool.and_self, guarded_true]

/-- An entry that pool memory holds without poison is taken where it may be (R151). -/
theorem execTakeEntry_of_pool {ps : List Nat} (hpool : sqHost s q = false) (hfree : cqFree s (cqNum s q) = true)
    (hread : userRead s
      { who := .fetch (2 ^ 41 + q), req := some (qReq q), dom := qDomain s q, ident := qOwner s q }
      (sqBase s q + 64 * sqHead s q) 64 = .done (e, ps) u)
    (hclean : ps.any (· ≠ 0) = false)
    (htake : takeable (forgetSnoops u (.fetch (2 ^ 41 + q))) q e = true) :
    execTakeEntry q .pool s = .next (takeEntry (forgetSnoops u (.fetch (2 ^ 41 + q))) q e) := by
  simp only [execTakeEntry, if_neg hdue.not_idle, hpool, hfree, hread, hclean, htake, Bool.false_eq_true,
    not_true_eq_false, or_self, if_false, guarded_true]

end TakeEntry

/-- Settles O29: each command by its case above; the clauses of a configuration write are the branches of the equations
for a queue that was disabled and one that was enabled. -/
theorem queueCommandsAct : Obligations.QueueCommandsAct := by
  unfold Obligations.QueueCommandsAct
  refine ⟨?doorbell, ?doorbellPacket, ?takeHost, ?takeError, ?takePool, ?sqEnabling, ?sqDisabled, ?sqEnabled,
    ?cqEnabling, ?cqDisabled, ?cqEnabled, ?cqDisabling, ?cqHead⟩
  case doorbell => exact fun s id _ v hq => execSqDoorbell_of_lt hq id v s
  case doorbellPacket => exact fun _ _ _ _ => execDoorbellPacket_of_arrived
  case takeHost =>
    intro s q e hq hserving hpause hwarm hen hpending hcp hturn
    exact execTakeEntry_of_host ⟨hq, hserving, hpause, hwarm, hen, hpending, hcp, hturn⟩
  case takeError =>
    intro s q hq hserving hpause hwarm hen hpending hcp hturn
    exact execTakeEntry_of_error ⟨hq, hserving, hpause, hwarm, hen, hpending, hcp, hturn⟩
  case takePool =>
    intro s u q e ps hq hserving hpause hwarm hen hpending hcp hturn
    exact execTakeEntry_of_pool ⟨hq, hserving, hpause, hwarm, hen, hpending, hcp, hturn⟩
  case sqEnabling =>
    intro s u id q v hq hwas hu hen
    refine (execSqCfgWrite_of_disabled hq id hwas hu).trans ?_
    rw [if_pos hen]
  case sqDisabled =>
    intro s u id q v hq hwas hu hen
    refine (execSqCfgWrite_of_disabled hq id hwas hu).trans ?_
    rw [hen, if_neg Bool.false_ne_true]
  case sqEnabled => exact fun _ _ id _ _ hq => execSqCfgWrite_of_enabled hq id
  case cqEnabling =>
    intro s u id q v hq hwas hu hen
    refine (execCqCfgWrite_of_disabled hq id hwas hu).trans ?_
    rw [if_pos hen, restartCq]
  case cqDisabled =>
    intro s u id q v hq hwas hu hen
    refine (execCqCfgWrite_of_disabled hq id hwas hu).trans ?_
    rw [hen, if_neg Bool.false_ne_true]
  case cqEnabled =>
    intro s u id q v hq hwas hu hen
    refine (execCqCfgWrite_of_enabled hq id hwas hu).trans ?_
    rw [if_pos hen]
  case cqDisabling =>
    intro s u id q v hq hwas hu hen
    refine (execCqCfgWrite_of_enabled hq id hwas hu).trans ?_
    rw [hen, if_neg Bool.false_ne_true]
  case cqHead => exact fun s id _ v hq => execCqHeadWrite_of_lt hq id v s

end Sys2Proof.Machine
end

section
/-!
PROOFS. A STREAM before its first tile (R155, R157, R205, R237): its descriptor and its update blocks.
-/
namespace Sys2Proof.Machine

/-- A STREAM that is ready, with an aligned descriptor address, begins to fetch its descriptor (R155). -/
theorem execStream_of_aligned {s : State} {h : Nat} {o : Op} (hready : ready s h 0x01 = some o)
    (haligned : leAt o.entry 8 8 % 256 = 0) :
    execStream h s = .next (modOp s h fun o => { o with phase := .fetching }) := by
  simp only [execStream, hready, haligned, ne_eq, not_true_eq_false, if_false]

/-- A descriptor that chapter 07 accepts, of a usable context, of a tile at least and of a class with a rate, begins the
run, or the reading of the update blocks that it names (R52, R157, R205). -/
theorem descChecked_of_accepted {s : State} {h : Nat} {o : Op} (hchain : chainOk s o = true)
    (hctx : ctxUsable s o (opCtx o) = true) (htiles : opN o ≠ 0) (hen : admitEn s = true)
    (hrate : scRate s (opClass o) ≠ 0) :
    descChecked h o s = if (updates o).isEmpty then beginRun h o s
      else .done () (modOp (forgetSnoops s (.fetch h)) h fun o => { o with phase := .block }) := by
  simp only [descChecked, hchain, hctx, if_neg htiles, hen, decide_eq_false hrate, Bool.not_true, Bool.or_self,
    Bool.false_eq_true, if_false]

/-- A descriptor that has been read, in a context that the queue may use, is checked as the operation's own (R155,
R157). -/
theorem execDescriptorFetchDone_of_read {s u : State} {h : Nat} {o : Op} {d : Bytes} (ho : opOf s h = some o)
    (hphase : o.phase = .fetching) (hctx : ctxUsable s o (qDescCtx s o.queue) = true)
    (hread : opRead h o (qDescCtx s o.queue) (leAt o.entry 8 8) 256 s = .done d u) :
    execDescriptorFetchDone h s =
      setupEnd h (descChecked h { o with desc := d } (modOp u h fun y => { y with desc := d })) := by
  simp only [execDescriptorFetchDone, ho, hphase, hctx, hread, Go.bind, ne_eq, not_true_eq_false, Bool.not_true,
    Bool.false_eq_true, if_false]

/-- Update blocks that have been read and are legal, and fit with their auxiliary streams, begin the run (R205, R206,
R237). -/
theorem execUpdateBlockFetchDone_of_legal {s u : State} {h : Nat} {o : Op} {bs : List (Nat × Bytes)}
    (ho : opOf s h = some o) (hphase : o.phase = .block) (hread : readBlocks h o s = .done bs u)
    (hlegal : bs.all (fun b => blockOkFor b.1 b.2) = true)
    (hfits : auxTotal o (middles o) (bs.map fun b => updateBytes b.2) ≤ 65536) :
    execUpdateBlockFetchDone h s = setupEnd h (beginRun h
      { o with block := bs.flatMap Prod.snd, coef := bs.flatMap fun b => coefficients b.1 b.2 }
      (modOp u h fun x =>
        { x with block := bs.flatMap Prod.snd, coef := bs.flatMap fun b => coefficients b.1 b.2 })) := by
  simp only [execUpdateBlockFetchDone, ho, hphase, hread, Go.bind, hlegal, decide_eq_false hfits.not_gt, ne_eq,
    not_true_eq_false, Bool.not_true, Bool.or_self, Bool.false_eq_true, if_false]

/-- Settles O30: a descriptor that is read is checked, and the check has one equation with a branch for each of its two
outcomes. -/
theorem operationSetUpActs : Obligations.OperationSetUpActs := by
  unfold Obligations.OperationSetUpActs
  refine ⟨?stream, ?descriptorRuns, ?descriptorNamesBlocks, ?blocks⟩
  case stream => exact fun _ _ _ => execStream_of_aligned
  case descriptorRuns =>
    rintro s u _ v h o _ d ho hphase hdesc hread rfl rfl hchain hctx htiles hen hrate hnone hrun
    refine (execDescriptorFetchDone_of_read ho hphase hdesc hread).trans ?_
    rw [descChecked_of_accepted hchain hctx htiles hen hrate, if_pos hnone, hrun, setupEnd]
  case descriptorNamesBlocks =>
    rintro s u _ h o _ d ho hphase hdesc hread rfl rfl hchain hctx htiles hen hrate hsome
    refine (execDescriptorFetchDone_of_read ho hphase hdesc hread).trans ?_
    rw [descChecked_of_accepted hchain hctx htiles hen hrate, hsome, if_neg Bool.false_ne_true, setupEnd]
  case blocks =>
    intro s u v h o bs ho hphase hread hlegal hfits hrun
    refine (execUpdateBlockFetchDone_of_legal ho hphase hread hlegal hfits).trans ?_
    rw [hrun, setupEnd]

end Sys2Proof.Machine
end

section
/-!
PROOFS. The control commands of chapter 07: SUSPEND (R166), RESUME (R167) and CANCEL (R168) over their target, FENCE
(R172), and what completions and their notifications write (R161, R164).
-/
namespace Sys2Proof.Machine

/-! ## A control command and its target -/

section Control

variable {s : State} {h op k : Nat} {o x : Op} (hready : ready s h op = some o)

include hready

/-- A control command that is ready acts on its target. -/
theorem control_of_target (f : State → Nat → Op → State) (htarget : target s o = some (k, x))
    (htargetable : targetable x.opcode = true) : control s h op f = .next (f s k x) := by
  simp only [control, hready, htarget, htargetable, Bool.not_true, Bool.false_eq_true, if_false]

/-- A control command that names nothing in flight completes with 0 (R165). -/
theorem control_of_noTarget (f : State → Nat → Op → State) (hnone : target s o = none) :
    control s h op f = .next (endWith s h stOk [0, 0, 0, 0]) := by
  simp only [control, hready, hnone]

end Control

/-! ## SUSPEND -/

section Suspend

variable {s : State} {h k : Nat} {o x : Op} (hready : ready s h 0x02 = some o) (htarget : target s o = some (k, x))
  (htargetable : targetable x.opcode = true)

include hready htarget htargetable

/-- A SUSPEND of a running operation waits for it, and drains it unless it is being cancelled (R166). -/
theorem execSuspend_of_running (hphase : x.phase = .running) :
    execSuspend h s = .next (awaitTarget (if x.cancelled then s else beginSuspend s k) h k) := by
  refine (control_of_target hready _ htarget htargetable).trans ?_
  rw [hphase]

/-- A SUSPEND of a suspended operation completes at once (R166). -/
theorem execSuspend_of_suspended (hphase : x.phase = .suspended) :
    execSuspend h s = .next (endWith s h stOk [2, 0, 0, 0]) := by
  refine (control_of_target hready _ htarget htargetable).trans ?_
  rw [hphase]

/-- A SUSPEND of an operation that drains already waits for it (R166). -/
theorem execSuspend_of_suspending (hphase : x.phase = .suspending) :
    execSuspend h s = .next (awaitTarget s h k) := by
  refine (control_of_target hready _ htarget htargetable).trans ?_
  rw [hphase]

/-- A SUSPEND of an operation that has yet to begin is held for it: the model's reading (log entry 64). -/
theorem execSuspend_of_early (hnotSuspending : x.phase ≠ .suspending) (hnotRunning : x.phase ≠ .running)
    (hnotSuspended : x.phase ≠ .suspended) :
    execSuspend h s = .next (awaitTarget (modOp s k fun x => { x with askSusp := true }) h k) := by
  refine (control_of_target hready _ htarget htargetable).trans ?_
  split
  next hphase => exact absurd hphase hnotSuspended
  next hphase => exact absurd hphase hnotRunning
  next hphase => exact absurd hphase hnotSuspending
  next => rfl

end Suspend

/-- A drained operation with work left records its frontier: its SUSPENDED completion is written, and the commands that
waited for it complete (R166). -/
theorem execOperationSuspended_of_written {s v : State} {h : Nat} {o : Op} (ho : opOf s h = some o)
    (hphase : o.phase = .suspending) (htiles : (opTiles s h).isEmpty = true)
    (hmoves : s.tier.moves.any (fun m => m.op = h) = false)
    (hleft : o.opcode ≠ 0x01 ∨ o.arrival.isSome = true ∨ o.committed < opN o)
    (hopen : (o.arrival.map reductionClosed).getD false = false) (hsettled : recordSettled s h = true)
    (hwritten : completeRun s h { o with cond := addCond o.cond stSuspended } false = .written v) :
    execOperationSuspended h s =
      .next (wakeWaiters (modOp v h fun x => afterSuspend { x with suspendedAt := v.now }) h 2) := by
  have hunfinished : ¬ (o.opcode = 0x01 ∧ o.arrival.isNone = true ∧ opN o ≤ o.committed) := by
    rintro ⟨hstream, hnone, hall⟩
    rcases hleft with hother | hsome | hfewer
    · exact hother hstream
    · simp [Option.isNone_iff_eq_none.mp hnone] at hsome
    · exact hfewer.not_ge hall
  have hdrained : ¬ (o.phase ≠ .suspending ∨ ¬ (opTiles s h).isEmpty = true ∨
      s.tier.moves.any (fun m => m.op = h) = true) := by
    simp [hphase, htiles, hmoves]
  simp only [execOperationSuspended, ho, if_neg hdrained, if_neg hunfinished, hopen, hsettled, hwritten, Bool.not_true,
    Bool.false_eq_true, if_false]

/-! ## RESUME -/

section Resume

variable {s : State} {h k : Nat} {o x : Op} (hready : ready s h 0x03 = some o) (htarget : target s o = some (k, x))
  (htargetable : targetable x.opcode = true)

include hready htarget htargetable

/-- A suspended operation runs again, with a completion slot of its own (R167). -/
theorem execResume_of_suspended (hphase : x.phase = .suspended) (hfree : cqFree s x.cq = true) :
    execResume h s = .next (endWith (settleOp (modOp s k fun x => { x with
      phase := .running, reserved := true, slotLost := false,
      arrival := x.arrival.map fun a => { a with foldSince := if a.queue.isEmpty then none else some s.now } }) k)
      h stOk [1, 0, 0, 0]) := by
  refine (control_of_target hready _ htarget htargetable).trans ?_
  simp only [hphase, hfree, Bool.not_true, Bool.false_eq_true, if_false]

/-- A RESUME of an operation that is neither suspended nor draining leaves it as it is (R167). -/
theorem execResume_of_unsuspended (hnotSuspended : x.phase ≠ .suspended) (hnotSuspending : x.phase ≠ .suspending) :
    execResume h s = .next (endWith s h stOk [1, 0, 0, 0]) := by
  refine (control_of_target hready _ htarget htargetable).trans ?_
  split
  next hphase => exact absurd hphase hnotSuspended
  next hphase => exact absurd hphase hnotSuspending
  next => rfl

end Resume

/-! ## CANCEL -/

section Cancel

variable {s : State} {h k : Nat} {o x : Op} (hready : ready s h 0x04 = some o) (htarget : target s o = some (k, x))
  (htargetable : targetable x.opcode = true) (hask : x.askSusp = false)

include hready htarget htargetable hask

/-- A CANCEL of a running stream discards its tiles that have not begun their sink write (R168). -/
theorem execCancel_of_runningStream (hphase : x.phase = .running) (hstream : x.opcode = 0x01) :
    execCancel h s = .next (beginCancel (awaitTarget s h k) k) := by
  refine (control_of_target hready _ htarget htargetable).trans ?_
  simp [hphase, hask, hstream]

/-- A CANCEL of a suspended operation that is no scrub ends it with PARTIAL, and with QUOTA where a MIGRATE has left
sub-pages (R145, R168). -/
theorem execCancel_of_suspended (hphase : x.phase = .suspended) (hother : x.opcode ≠ 0x20) :
    execCancel h s =
      .next (endOp (modOp (awaitTarget s h k) k fun x => { x with cancelled := true }) k (cancelConds x)) := by
  refine (control_of_target hready _ htarget htargetable).trans ?_
  simp [hphase, hask, hother]

/-- A CANCEL of a scrub that has begun lets it write the summary of what it has read (R363, log entry 35). -/
theorem execCancel_of_scrub (hphase : x.phase = .running ∨ x.phase = .suspended) (hscrub : x.opcode = 0x20) :
    execCancel h s = .next (cancelScrub (awaitTarget s h k) k) := by
  refine (control_of_target hready _ htarget htargetable).trans ?_
  rcases hphase with hrunning | hsuspended
  · simp [hrunning, hask, hscrub]
  · simp [hsuspended, hask, hscrub]

/-- A CANCEL of an operation that has yet to begin ends it with PARTIAL (R168). -/
theorem execCancel_of_early (hnotRunning : x.phase ≠ .running) (hnotSuspended : x.phase ≠ .suspended)
    (hnotSuspending : x.phase ≠ .suspending) :
    execCancel h s =
      .next (endOp (modOp (awaitTarget s h k) k fun x => { x with cancelled := true }) k (condOf stPartial)) := by
  refine (control_of_target hready _ htarget htargetable).trans ?_
  dsimp only
  rw [if_neg (by simp [hnotSuspending, hask])]
  split
  next hphase => exact absurd hphase hnotRunning
  next hphase => exact absurd hphase hnotSuspended
  next => rfl

end Cancel

/-! ## FENCE -/

/-- A FENCE that is ready is open (R172). -/
theorem execFence_of_ready {s : State} {h : Nat} {o : Op} (hready : ready s h 0x05 = some o) :
    execFence h s = .next (modOp s h fun o => { o with phase := .running }) := by
  simp only [execFence, hready]

/-- A FENCE ends once no earlier operation of its scope is without its completion (R172). -/
theorem execFenceComplete_of_reached {s : State} {h : Nat} {o : Op} (ho : opOf s h = some o)
    (hfence : o.opcode = 0x05) (hopen : o.phase = .running)
    (hreached : (s.cmd.ops.any fun e => earlier e.1 h && !e.2.wrote &&
      (if (opnd o 0x10 1).testBit 0 then decide (e.2.dom = o.dom) else decide (e.2.queue = o.queue))) = false) :
    execFenceComplete h s = .next (endOp s h 0) := by
  simp only [execFenceComplete, ho, hfence, hopen, hreached, Bool.false_eq_true, not_false_eq_true, and_self, if_true]

/-! ## Completions and notifications -/

/-- An operation whose last work has ended writes its final completion and releases its slot; the commands that waited
for it complete (R160, R161). -/
theorem execOperationComplete_of_written {s v w : State} {h : Nat} {o : Op} (ho : opOf s h = some o)
    (hphase : o.phase = .ending) (htiles : (opTiles s h).isEmpty = true) (hacked : tickAcked s o = true)
    (hsettled : recordSettled s h = true) (hwritten : completeRun s h o true = .written v)
    (hw : w = if (runBound v h o).1.cond.testBit 10 then count v (qPage o.queue) 9 1 else v) :
    execOperationComplete h s = .next (releaseOp (wakeWaiters (keepHistory w h o) h 3) h) := by
  subst hw
  simp only [execOperationComplete, ho, hphase, htiles, hacked, hsettled, hwritten, ne_eq, not_true_eq_false,
    Bool.not_true, Bool.false_eq_true, or_self, if_false]

/-- A notification that was held for its coalescing time is sent (R164). -/
theorem execNotifyCoalTimeout_of_held {s : State} {q : Nat} (hq : q < 256) (hheld : 0 < (tgetD s.cmd.cqs q {}).accum)
    (hkind : rf s (ra (qPage q) 0x120) 12 2 ≠ 0) (htime : rf s (ra (qPage q) 0x120) 22 10 ≠ 0) :
    execNotifyCoalTimeout q s = .next (notify s q) := by
  unfold rf at hkind htime
  simp only [execNotifyCoalTimeout, decide_eq_true hq, decide_eq_true hheld, decide_eq_true hkind,
    decide_eq_true htime, Bool.and_self, guarded_true]

/-- Settles O31: each command over its target by the target's phase, and the others by their cases above. -/
theorem controlCommandsAct : Obligations.ControlCommandsAct := by
  unfold Obligations.ControlCommandsAct
  refine ⟨?suspendRunning, ?suspendSuspended, ?suspendDraining, ?suspendEarly, ?operationSuspended, ?resumeSuspended,
    ?resumeOther, ?cancelStream, ?cancelSuspended, ?cancelScrub, ?cancelEarly, ?suspendNothing, ?resumeNothing,
    ?cancelNothing, ?fence, ?fenceComplete, ?operationComplete, ?notifyTimeout⟩
  case suspendRunning =>
    intro s h k o x hready htarget htargetable hphase hlive
    refine (execSuspend_of_running hready htarget htargetable hphase).trans ?_
    rw [hlive, if_neg Bool.false_ne_true]
  case suspendSuspended => exact fun _ _ _ _ _ => execSuspend_of_suspended
  case suspendDraining =>
    rintro s h k o x hready htarget htargetable (hphase | ⟨hphase, hcancelled⟩)
    · exact execSuspend_of_suspending hready htarget htargetable hphase
    · refine (execSuspend_of_running hready htarget htargetable hphase).trans ?_
      rw [if_pos hcancelled]
  case suspendEarly => exact fun _ _ _ _ _ => execSuspend_of_early
  case operationSuspended => exact fun _ _ _ _ => execOperationSuspended_of_written
  case resumeSuspended => exact fun _ _ _ _ _ => execResume_of_suspended
  case resumeOther => exact fun _ _ _ _ _ => execResume_of_unsuspended
  case cancelStream => exact fun _ _ _ _ _ => execCancel_of_runningStream
  case cancelSuspended => exact fun _ _ _ _ _ => execCancel_of_suspended
  case cancelScrub => exact fun _ _ _ _ _ => execCancel_of_scrub
  case cancelEarly => exact fun _ _ _ _ _ => execCancel_of_early
  case suspendNothing =>
    intro s h o hready hnone
    exact show execSuspend h s = _ from control_of_noTarget hready _ hnone
  case resumeNothing =>
    intro s h o hready hnone
    exact show execResume h s = _ from control_of_noTarget hready _ hnone
  case cancelNothing =>
    intro s h o hready hnone
    exact show execCancel h s = _ from control_of_noTarget hready _ hnone
  case fence => exact fun _ _ _ => execFence_of_ready
  case fenceComplete => exact fun _ _ _ => execFenceComplete_of_reached
  case operationComplete => exact fun _ _ _ _ _ => execOperationComplete_of_written
  case notifyTimeout => exact fun _ _ => execNotifyCoalTimeout_of_held

end Sys2Proof.Machine
end

section
/-!
PROOFS. How elements lie in their bytes (R5, R180): the 24-byte runs of `unpackElems` and `packElems` are only an order
of work, so that both are about one little-endian number. From that: each element's bits, and the round trip (R176).
-/
namespace Sys2Proof.Machine

/-! ## Little-endian numbers -/

theorem leNat_append (as bs : Bytes) : leNat (as ++ bs) = leNat as + 2 ^ (8 * as.length) * leNat bs := by
  induction as with
  | nil => simp [leNat]
  | cons a as ih =>
    rw [List.cons_append, leNat, leNat, ih, List.length_cons, Nat.mul_succ, pow_add]
    ring

theorem leNat_lt (bs : Bytes) : leNat bs < 2 ^ (8 * bs.length) := by
  induction bs with
  | nil => simp [leNat]
  | cons b bs ih =>
    have hb := b.isLt
    rw [leNat, List.length_cons, Nat.mul_succ, pow_add]
    omega

@[simp] theorem length_natLe (n v : Nat) : (natLe n v).length = n := by
  induction n generalizing v with
  | zero => rfl
  | succ n ih => rw [natLe, List.length_cons, ih]

/-- The number in the low bytes of a number. -/
theorem leNat_natLe (n v : Nat) : leNat (natLe n v) = v % 2 ^ (8 * n) := by
  induction n generalizing v with
  | zero => simp [natLe, leNat, Nat.mod_one]
  | succ n ih =>
    rw [natLe, leNat, ih, BitVec.toNat_ofNat, Nat.mul_succ, Nat.add_comm (8 * n), pow_add, Nat.mod_mul]
    rfl

/-- The bytes of two numbers of which the first fills whole bytes. -/
theorem natLe_add (a b l h : Nat) (hl : l < 2 ^ (8 * a)) :
    natLe (a + b) (l + 2 ^ (8 * a) * h) = natLe a l ++ natLe b h := by
  induction a generalizing l with
  | zero =>
    obtain rfl : l = 0 := by omega
    simp [natLe]
  | succ a ih =>
    have hexp : 2 ^ (8 * (a + 1)) = 256 * 2 ^ (8 * a) := by rw [Nat.mul_succ, Nat.add_comm, pow_add]; rfl
    rw [hexp] at hl ⊢
    have hlow : BitVec.ofNat 8 (l + 256 * 2 ^ (8 * a) * h) = BitVec.ofNat 8 l := by
      apply BitVec.eq_of_toNat_eq
      rw [BitVec.toNat_ofNat, BitVec.toNat_ofNat, Nat.mul_assoc]
      exact Nat.add_mul_mod_self_left _ _ _
    have hhigh : (l + 256 * 2 ^ (8 * a) * h) / 256 = l / 256 + 2 ^ (8 * a) * h := by
      rw [Nat.mul_assoc, Nat.add_mul_div_left _ _ (by decide)]
    rw [Nat.succ_add_eq_add_succ, Nat.add_succ, natLe, natLe, hlow, hhigh, ih _ (by omega), List.cons_append]

/-- A field that ends below a bit does not see what stands from that bit on. -/
theorem fld_add_mul {lo w n : Nat} (h : lo + w ≤ n) (l x : Nat) : fld (l + 2 ^ n * x) lo w = fld l lo w := by
  obtain ⟨d, rfl⟩ := Nat.exists_eq_add_of_le h
  rw [fld_eq, fld_eq, pow_add, pow_add, Nat.mul_assoc, Nat.mul_assoc, Nat.add_mul_div_left _ _ (Nat.two_pow_pos lo),
    Nat.add_mul_mod_self_left]

/-- A field of a run of bytes is read from the bytes that it lies in. -/
theorem fld_leNat (bs : Bytes) (o k lo w : Nat) (hw : lo + w ≤ 8 * k) (hk : o + k ≤ bs.length) :
    fld (leNat bs) (8 * o + lo) w = fld (leNat ((bs.drop o).take k)) lo w := by
  have hfirst : (bs.take o).length = o := List.length_take_of_le (by omega)
  have hrun : ((bs.drop o).take k).length = k := List.length_take_of_le (by rw [List.length_drop]; omega)
  conv_lhs => rw [← List.take_append_drop o bs, leNat_append, hfirst]
  have hdrop : fld (leNat (bs.take o) + 2 ^ (8 * o) * leNat (bs.drop o)) (8 * o + lo) w =
      fld (leNat (bs.drop o)) lo w := by
    have hlt := hfirst ▸ leNat_lt (bs.take o)
    rw [fld_eq, fld_eq, pow_add, ← Nat.div_div_eq_div_mul, Nat.add_mul_div_left _ _ (Nat.two_pow_pos _),
      Nat.div_eq_of_lt hlt, Nat.zero_add]
  rw [hdrop]
  conv_lhs => rw [← List.take_append_drop k (bs.drop o), leNat_append, hrun, fld_add_mul hw]

/-! ## Codes in a number -/

/-- The codes of two numbers of which the first holds whole codes. -/
theorem codesOf_add (w a b l h : Nat) (hl : l < 2 ^ (w * a)) :
    codesOf w (a + b) (l + 2 ^ (w * a) * h) = codesOf w a l ++ codesOf w b h := by
  induction a generalizing l with
  | zero =>
    obtain rfl : l = 0 := by simpa using hl
    simp [codesOf]
  | succ a ih =>
    have hexp : 2 ^ (w * (a + 1)) = 2 ^ w * 2 ^ (w * a) := by rw [Nat.mul_succ, Nat.add_comm, pow_add]
    rw [hexp] at hl ⊢
    rw [Nat.succ_add_eq_add_succ, Nat.add_succ, codesOf, codesOf, Nat.mul_assoc, Nat.add_mul_mod_self_left,
      Nat.shiftRight_eq_div_pow, Nat.add_mul_div_left _ _ (Nat.two_pow_pos w), Nat.shiftRight_eq_div_pow,
      ih _ (Nat.div_lt_of_lt_mul hl), List.cons_append]

/-- Code i of a number is its field of bits [w * i + w - 1 : w * i]. -/
theorem nth_codesOf (w n v i : Nat) (hi : i < n) : nth (codesOf w n v) i 0 = BitVec.ofNat 64 (fld v (w * i) w) := by
  induction n generalizing v i with
  | zero => omega
  | succ n ih =>
    cases i with
    | zero => rfl
    | succ i =>
      have hnext : nth (codesOf w n (v >>> w)) i 0 = BitVec.ofNat 64 (fld (v >>> w) (w * i) w) := ih _ _ (by omega)
      rw [fld, ← Nat.shiftRight_add, Nat.add_comm, ← Nat.mul_succ] at hnext
      exact hnext

theorem take_codesOf (w v : Nat) {m n : Nat} (hmn : m ≤ n) : (codesOf w n v).take m = codesOf w m v := by
  induction m generalizing n v with
  | zero => rfl
  | succ m ih =>
    obtain ⟨n, rfl⟩ : ∃ k, n = k + 1 := ⟨n - 1, by omega⟩
    rw [codesOf, codesOf, List.take_succ_cons, ih _ (by omega)]

theorem codesNum_append (w : Nat) (xs ys : List (BitVec 64)) :
    codesNum w (xs ++ ys) = codesNum w xs + 2 ^ (w * xs.length) * codesNum w ys := by
  induction xs with
  | nil => simp [codesNum]
  | cons x xs ih =>
    rw [List.cons_append, codesNum, codesNum, ih, List.length_cons, Nat.mul_succ, pow_add]
    ring

theorem codesNum_lt (w : Nat) (xs : List (BitVec 64)) : codesNum w xs < 2 ^ (w * xs.length) := by
  induction xs with
  | nil => simp [codesNum]
  | cons x xs ih =>
    have hx : x.toNat % 2 ^ w < 2 ^ w := Nat.mod_lt _ (Nat.two_pow_pos w)
    rw [codesNum, List.length_cons, Nat.mul_succ, pow_add]
    calc x.toNat % 2 ^ w + codesNum w xs * 2 ^ w < 2 ^ w + codesNum w xs * 2 ^ w := Nat.add_lt_add_right hx _
      _ = (codesNum w xs + 1) * 2 ^ w := by ring
      _ ≤ 2 ^ (w * xs.length) * 2 ^ w := Nat.mul_le_mul_right _ ih

/-- The codes of a number made of codes are those codes, where they fit the width. -/
theorem codesOf_codesNum (w : Nat) (xs : List (BitVec 64)) (hfit : ∀ x ∈ xs, x.toNat < 2 ^ w) :
    codesOf w xs.length (codesNum w xs) = xs := by
  induction xs with
  | nil => rfl
  | cons x xs ih =>
    obtain ⟨hx, hxs⟩ := List.forall_mem_cons.1 hfit
    rw [codesNum, List.length_cons, codesOf, Nat.shiftRight_eq_div_pow, Nat.add_mul_mod_self_right,
      Nat.add_mul_div_right _ _ (Nat.two_pow_pos w), Nat.mod_mod, Nat.mod_eq_of_lt hx, Nat.div_eq_of_lt hx,
      Nat.zero_add, ih hxs, BitVec.ofNat_toNat, BitVec.setWidth_eq]

/-! ## Runs of 24 bytes -/

/-- Where a function of lists turns whole runs of `n` into a sum, the runs of a list give what the list gives. -/
theorem flatMap_chunks {α β : Type} {n : Nat} (hn : 0 < n) (f : List α → List β) (hnil : f [] = [])
    (hadd : ∀ xs ys : List α, xs.length = n → f (xs ++ ys) = f xs ++ f ys) {k : Nat} {xs : List α}
    (hk : xs.length < k) : (chunks n k xs).flatMap f = f xs := by
  induction k generalizing xs with
  | zero => omega
  | succ k ih =>
    cases hxs : xs with
    | nil => simp [chunks, hnil]
    | cons x l =>
      rw [← hxs]
      have hpos : 0 < xs.length := by simp [hxs]
      have hne : xs.isEmpty = false := by simp [hxs]
      have hstep : (chunks n (k + 1) xs).flatMap f = f (xs.take n) ++ f (xs.drop n) := by
        rw [chunks, hne, if_neg Bool.false_ne_true, List.flatMap_cons, ih (by rw [List.length_drop]; omega)]
      rw [hstep]
      by_cases hlong : n ≤ xs.length
      · rw [← hadd _ _ (List.length_take_of_le hlong), List.take_append_drop]
      · rw [List.take_of_length_le (by omega), List.drop_of_length_le (by omega), hnil, List.append_nil]

/-- The widths of the formats (Table 8-1). -/
theorem elemBits_mem (f : Nat) : elemBits f ∈ [4, 6, 8, 16, 32, 64] := by
  unfold elemBits
  split <;> decide

/-- 24 bytes hold whole elements of every format. -/
theorem elemBits_mul_div (f : Nat) : elemBits f * (192 / elemBits f) = 192 :=
  (by decide : ∀ w ∈ [4, 6, 8, 16, 32, 64], w * (192 / w) = 192) _ (elemBits_mem f)

theorem elemBits_pos (f : Nat) : 0 < elemBits f :=
  (by decide : ∀ w ∈ [4, 6, 8, 16, 32, 64], 0 < w) _ (elemBits_mem f)

theorem elemBits_le (f : Nat) : elemBits f ≤ 64 :=
  (by decide : ∀ w ∈ [4, 6, 8, 16, 32, 64], w ≤ 64) _ (elemBits_mem f)

/-- The elements of a run of bytes are the codes of the number that it holds. -/
theorem unpackElems_eq_codesOf (f : Nat) (bs : Bytes) :
    unpackElems f bs = codesOf (elemBits f) (bs.length * 8 / elemBits f) (leNat bs) := by
  refine flatMap_chunks (by decide) (fun c => codesOf (elemBits f) (c.length * 8 / elemBits f) (leNat c))
    (by simp [codesOf]) (fun xs ys hxs => ?_) (Nat.lt_succ_self _)
  have hbits := elemBits_mul_div f
  have hcount : (xs ++ ys).length * 8 / elemBits f = 192 / elemBits f + ys.length * 8 / elemBits f := by
    rw [List.length_append, hxs, Nat.add_mul, ← Nat.mul_add_div (elemBits_pos f), hbits]
  have hlow : leNat xs < 2 ^ (elemBits f * (192 / elemBits f)) := by
    have hlt := leNat_lt xs
    rwa [hxs, show 8 * 24 = 192 from rfl, ← hbits] at hlt
  have hnum : leNat (xs ++ ys) = leNat xs + 2 ^ (elemBits f * (192 / elemBits f)) * leNat ys := by
    rw [leNat_append, hxs, hbits]
  rw [hcount, hnum, codesOf_add _ _ _ _ _ hlow, hxs]

/-- The bytes of elements are those of the number that the codes make. -/
theorem packElems_eq_natLe (f : Nat) (xs : List (BitVec 64)) :
    packElems f xs = natLe ((xs.length * elemBits f + 7) / 8) (codesNum (elemBits f) xs) := by
  have hbits := elemBits_mul_div f
  have hper : 0 < 192 / elemBits f := Nat.div_pos ((elemBits_le f).trans (by decide)) (elemBits_pos f)
  refine flatMap_chunks hper (fun c => natLe ((c.length * elemBits f + 7) / 8) (codesNum (elemBits f) c))
    (by simp [natLe]) (fun xs ys hxs => ?_) (Nat.lt_succ_self _)
  have hxbits : xs.length * elemBits f = 192 := by rw [hxs, Nat.mul_comm, hbits]
  have hcount : ((xs ++ ys).length * elemBits f + 7) / 8 = 24 + (ys.length * elemBits f + 7) / 8 := by
    rw [List.length_append, Nat.add_mul, hxbits]; omega
  have hlow : codesNum (elemBits f) xs < 2 ^ (8 * 24) := by
    have hlt := codesNum_lt (elemBits f) xs
    rwa [Nat.mul_comm, hxbits] at hlt
  rw [hcount, codesNum_append, Nat.mul_comm (elemBits f), hxbits, show 192 = 8 * 24 from rfl, natLe_add _ _ _ _ hlow]

/-- Settles O6: the bytes hold the number of the codes, which the width gives back code by code. -/
theorem elementsSurvivePacking : Obligations.ElementsSurvivePacking := by
  unfold Obligations.ElementsSurvivePacking
  intro f xs hfit
  have hroom : elemBits f * xs.length ≤ 8 * ((xs.length * elemBits f + 7) / 8) := by
    rw [Nat.mul_comm]; omega
  have hnum : codesNum (elemBits f) xs < 2 ^ (8 * ((xs.length * elemBits f + 7) / 8)) :=
    lt_of_lt_of_le (codesNum_lt _ xs) (Nat.pow_le_pow_right (by decide) hroom)
  have hcount : xs.length ≤ (xs.length * elemBits f + 7) / 8 * 8 / elemBits f := by
    rw [Nat.le_div_iff_mul_le (elemBits_pos f)]; omega
  rw [unpackElems_eq_codesOf, packElems_eq_natLe, length_natLe, leNat_natLe, Nat.mod_eq_of_lt hnum,
    take_codesOf _ _ hcount, codesOf_codesNum _ _ hfit]

/-- Element i of a run of bytes is a field of the `k` bytes from byte `o` on, where it begins `lo` bits into them and ends
within them. -/
theorem toNat_nth_unpackElems (f : Nat) (bs : Bytes) {i o k lo : Nat} (hi : elemBits f * i = 8 * o + lo)
    (hw : lo + elemBits f ≤ 8 * k) (hk : o + k ≤ bs.length) :
    (nth (unpackElems f bs) i 0).toNat = fld (leNat ((bs.drop o).take k)) lo (elemBits f) := by
  have hcount : i < bs.length * 8 / elemBits f := by
    rw [Nat.lt_div_iff_mul_lt (elemBits_pos f), Nat.mul_comm]
    have hpos := elemBits_pos f
    omega
  have hfit : fld (leNat ((bs.drop o).take k)) lo (elemBits f) < 2 ^ 64 :=
    lt_of_lt_of_le (fld_lt _ _ _) (Nat.pow_le_pow_right (by decide) (elemBits_le f))
  rw [unpackElems_eq_codesOf, nth_codesOf _ _ _ _ hcount, hi, fld_leNat _ _ _ _ _ hw hk, BitVec.toNat_ofNat,
    Nat.mod_eq_of_lt hfit]

/-- The number in one byte of a run. -/
theorem leNat_take_one_drop (bs : Bytes) {m : Nat} (hm : m < bs.length) :
    leNat ((bs.drop m).take 1) = (nth bs m 0).toNat := by
  rw [List.drop_eq_getElem_cons hm, nth, List.getD_eq_getElem _ _ hm]
  rfl

/-- Settles O5: a 4-bit element lies in one byte, a 6-bit element in its word of three. -/
theorem elementsLieInTheirBits : Obligations.ElementsLieInTheirBits := by
  unfold Obligations.ElementsLieInTheirBits
  refine ⟨fun f m bs hbits hm => ?_, fun f m p bs hbits hm hp => ?_⟩
  · have hword (i lo : Nat) (hi : 4 * i = 8 * m + lo) (hlo : lo ≤ 4) :
        (nth (unpackElems f bs) i 0).toNat = fld (nth bs m 0).toNat lo 4 := by
      rw [toNat_nth_unpackElems f bs (o := m) (k := 1) (lo := lo) (by rw [hbits, hi]) (by rw [hbits]; omega) hm, hbits,
        leNat_take_one_drop bs hm]
    exact ⟨hword _ 0 (by omega) (by omega), hword _ 4 (by omega) (by omega)⟩
  · rw [toNat_nth_unpackElems f bs (o := 3 * m) (k := 3) (lo := 6 * p) (by rw [hbits]; omega) (by rw [hbits]; omega)
      (by omega), hbits]

end Sys2Proof.Machine
end

section
/-!
PROOFS. What a passed station leaves (R175, R176), and the sources (R182 to R187, R191 to R193) and the element stations
(R194 to R200, R208, R209) of chapter 08, each as its case of `runStation` in which its accesses are done.
-/
namespace Sys2Proof.Machine

/-! ## What a passed station leaves -/

/-- The tile that a change has been made to, where the change leaves its name. -/
theorem tileOf_modTile_same {s : State} {h num : Nat} {f : Tile → Tile} {t : Tile} (ht : tileOf s h num = some t)
    (hop : (f t).op = t.op) (hnum : (f t).num = t.num) : tileOf (modTile s h num f) h num = some (f t) := by
  obtain ⟨hname, before, after, hsplit, hbefore⟩ := List.find?_eq_some_iff_append.1 ht
  have hkept : ∀ u ∈ before, ¬ (u.op = h ∧ u.num = num) := by simpa [← not_and_or] using hbefore
  have hsame : before.map (fun u => if u.op = h ∧ u.num = num then f u else u) = before :=
    List.map_congr_left (g := id) (fun u hu => if_neg (hkept u hu)) |>.trans before.map_id
  have ht : t.op = h ∧ t.num = num := by simpa using hname
  refine List.find?_eq_some_iff_append.2 ⟨by simpa [hop, hnum] using ht, before,
    after.map (fun u => if u.op = h ∧ u.num = num then f u else u), ?_, hbefore⟩
  simp only [modTile, hsplit, List.map_append, List.map_cons, hsame, if_pos ht]

/-- Another tile than the one that a change is made to, where the change leaves the names. -/
theorem tileOf_modTile_other {s : State} {h num h' num' : Nat} {f : Tile → Tile}
    (hf : ∀ t, (f t).op = t.op ∧ (f t).num = t.num) (hne : h' ≠ h ∨ num' ≠ num) :
    tileOf (modTile s h num f) h' num' = tileOf s h' num' := by
  have hname (t : Tile) : (decide ((if t.op = h ∧ t.num = num then f t else t).op = h') &&
      decide ((if t.op = h ∧ t.num = num then f t else t).num = num')) =
      (decide (t.op = h') && decide (t.num = num')) := by
    split
    · rw [(hf t).1, (hf t).2]
    · rfl
  simp only [tileOf, modTile, List.find?_map, Function.comp_def, hname]
  cases ht : s.cmd.tiles.find? fun t => t.op = h' && t.num = num' with
  | none => rfl
  | some t =>
    have htname : t.op = h' ∧ t.num = num' := by simpa using List.find?_some ht
    rw [Option.map_some, if_neg (by omega)]

/-- The tile that a station command acts on is the one it names. -/
theorem tileOf_of_stationAt {s : State} {h num : Nat} {p : Op → Tile → Bytes → Bool} {a : At}
    (ha : stationAt s h num p = some a) : tileOf s h num = some a.t := by
  unfold stationAt at ha
  split at ha
  · next o t _ ht =>
    obtain ⟨-, heq⟩ := Option.ite_none_right_eq_some.1 ha
    exact Option.some.inj heq ▸ ht
  · cases ha

/-- Settles O33: passing a station is a change of the one tile, which keeps its name. -/
theorem stationsAdvanceTheTile : Obligations.StationsAdvanceTheTile := by
  unfold Obligations.StationsAdvanceTheTile
  refine ⟨fun s h num a p g n ha hop hnum => ⟨?_, rfl, rfl, rfl⟩, fun s h num a h' num' p g n _ hg hne => ?_⟩
  · exact tileOf_modTile_same (tileOf_of_stationAt ha) hop hnum
  · exact tileOf_modTile_other hg hne

/-! ## Sources -/

/-- What follows a finished access acts on its result. -/
@[simp] theorem Go.done_bind {α β : Type} (x : α) (s : State) (f : α → State → Go β) :
    (Go.done x s).bind f = f x s := rfl

section Sources

variable {s u v : State} {h num : Nat} {a : At}

/-- A RANGE tile of a format that is not MX has been read (R191). -/
theorem execFetchRange_of_read {d : Bytes × List (Nat × Nat × Nat)}
    (ha : stationAt s h num (fun o t r => isMode 0x01 0 o t r && decide (t.stage = 0)) = some a)
    (hmx : isMx (srcShape a.o).fmt = false)
    (hread : sourceRead a h num (rangeVa a.r 3 (srcShape a.o).bytes num) (srcShape a.o).bytes s = .done d u) :
    ∃ xs, xs = unpackElems (srcShape a.o).fmt d.1 ∧ execFetchRange h num s = .next (stationDone u h num a (fun t =>
      { withElems (srcShape a.o).fmt xs (occOf xs) t with
        scales := [], carried := carryBlocks 0 d.2 ++ carryBlocks 0x100000 [] }) 0) :=
  ⟨_, rfl, runStation_done _ ha (by simp only [hread, hmx, Go.done_bind, Bool.false_eq_true, if_false])⟩

/-- A RANGE tile of an MX format and its scales have been read (R181, R191). -/
theorem execFetchRange_of_mxRead {d e : Bytes × List (Nat × Nat × Nat)}
    (ha : stationAt s h num (fun o t r => isMode 0x01 0 o t r && decide (t.stage = 0)) = some a)
    (hmx : isMx (srcShape a.o).fmt = true)
    (hread : sourceRead a h num (rangeVa a.r 3 (srcShape a.o).bytes num) (srcShape a.o).bytes s = .done d u)
    (hscales : sourceRead a h num (scaleVa a.r (srcShape a.o).e num) ((srcShape a.o).e / 32) u = .done e v) :
    ∃ xs, xs = unpackElems (srcShape a.o).fmt d.1 ∧ execFetchRange h num s = .next (stationDone v h num a (fun t =>
      { withElems (srcShape a.o).fmt xs (occOf xs) t with
        scales := e.1, carried := carryBlocks 0 d.2 ++ carryBlocks 0x100000 e.2 }) 0) :=
  ⟨_, rfl, runStation_done _ ha (by simp only [hread, hmx, hscales, Go.done_bind, if_true])⟩

/-- The indices and the rows of a GATHER tile have been read (R191, R192). -/
theorem execFetchGather_of_read {ix : Bytes} {ps : List (Bytes × List (Nat × Nat × Nat))}
    (ha : stationAt s h num (fun o t r => isMode 0x01 1 o t r && decide (t.stage = 0)) = some a)
    (hindex : tileEat h num (par a.r 16 8 + 4 * (num * (4096 / gatherRow a.r))) (4 * (4096 / gatherRow a.r)) s =
      .done ix u)
    (hrows : gatherRows a h num (indexList ix) u = .done ps v) :
    ∃ xs, xs = unpackElems (srcShape a.o).fmt (joinParts 0 ps).1 ∧
      execFetchGather h num s = .next (stationDone v h num a (fun t =>
        { withElems (srcShape a.o).fmt xs (occOf xs) t with carried := carryBlocks 0 (joinParts 0 ps).2 }) 0) :=
  ⟨_, rfl, runStation_done _ ha (by simp only [hindex, hrows, Go.done_bind])⟩

/-- A sparse tile whose header and blocks have been read and are well formed (R184 to R187). -/
theorem execFetchSparse_of_read {hb body : Bytes}
    (ha : stationAt s h num (fun o t r => isMode 0x01 2 o t r && decide (t.stage = 0)) = some a)
    (hheader : tileEat h num (headerVa a.r (parBits a.r 3 4 1 = 1) num) 16 s = .done hb u)
    (hok : headerOk (leNat hb) (par a.r 2 1) = true)
    (hbody : tileEat h num (par a.r 16 8 + if parBits a.r 3 4 1 = 1 then 64 * fld (leNat hb) 64 32 else 4096 * num)
      (64 * fld (leNat hb) 106 7) u = .done body v)
    (hblocks : (chunks 64 65 body).all (blockOk (par a.r 2 1) (fld (leNat hb) 104 2)) = true) :
    execFetchSparse h num s = .next (stationDone v h num a (fun t =>
      { t with
        fmt := par a.r 2 1, sparse := true, nm := fld (leNat hb) 104 2,
        blocks := (chunks 64 65 body).map (canonBlock (par a.r 2 1) (fld (leNat hb) 104 2)),
        occ := BitVec.ofNat 64 (fld (leNat hb) 0 64), elems := [], scales := [] }) 0) :=
  runStation_done _ ha (by
    simp only [hheader, hok, hbody, hblocks, Go.done_bind, Bool.not_true, Bool.false_eq_true, if_false])

/-- A FILL tile has the elements of its mode (R193). -/
theorem fillTile_eq {mode : Nat} (f : At → Shape → List (BitVec 64))
    (ha : stationAt s h num (fun o t r => isMode 0x02 mode o t r && decide (t.stage = 0)) = some a) :
    fillTile s h num mode f = .next (stationDone s h num a
      (withElems (srcShape a.o).fmt (f a (srcShape a.o)) (occOf (f a (srcShape a.o))))
      (max 1 ((srcShape a.o).bytes / 128))) :=
  runStation_done _ ha rfl

end Sources

/-- Settles O34: each source by its case above. -/
theorem sourceStationsAct : Obligations.SourceStationsAct := by
  unfold Obligations.SourceStationsAct
  refine ⟨?fetchRange, ?fetchRangeMx, ?fetchGather, ?fetchSparse, ?fillConst, ?fillPattern, ?fillRamp⟩
  case fetchRange => exact fun _ _ _ _ _ _ => execFetchRange_of_read
  case fetchRangeMx => exact fun _ _ _ _ _ _ _ _ => execFetchRange_of_mxRead
  case fetchGather => exact fun _ _ _ _ _ _ _ _ => execFetchGather_of_read
  case fetchSparse => exact fun _ _ _ _ _ _ _ _ => execFetchSparse_of_read
  case fillConst => exact fun s h num _ ha => ⟨_, rfl, show execFillConst h num s = _ from fillTile_eq _ ha⟩
  case fillPattern => exact fun s h num _ ha => ⟨_, rfl, show execFillPattern h num s = _ from fillTile_eq _ ha⟩
  case fillRamp => exact fun s h num _ ha => ⟨_, rfl, show execFillRamp h num s = _ from fillTile_eq _ ha⟩

/-! ## Element stations -/

/-- A test of CHECK that looks at the elements alone fails: NaN, infinity or range (R209). -/
def elementTestFails (a : At) : Bool :=
  ((par a.r 1 1).testBit 0 && (tileNums a.t).any numNan) ||
    ((par a.r 1 1).testBit 1 && (tileNums a.t).any fun v => match v with
      | .fp x => fpIsInf x
      | .int _ => false) ||
    ((par a.r 1 1).testBit 2 && (tileNums a.t).any (rangeFails (toSigned 8 (par a.r 2 1)) (toSigned 8 (par a.r 3 1))))

/-- What CHECK leaves: a tile in which a test has failed is SUSPECT, unless all its groups are absent (R209). -/
def markSuspect (a : At) (b : Bool) (t : Tile) : Tile :=
  { t with suspect := t.suspect || (b && decide (a.t.occ ≠ 0)) }

section Elements

variable {s u : State} {h num : Nat} {a : At}

/-- EXPAND gives the dense elements (R194). -/
theorem execExpand_of_station (ha : stationAt s h num (isStation 0x10) = some a) :
    execExpand h num s = .next (stationDone s h num a (withElems a.t.fmt (tileElems a.t) a.t.occ)
      (groupCycles a (laneRate a.t.fmt))) :=
  runStation_done _ ha rfl

/-- CONVERT to an MX format gives codes and scales (R196). -/
theorem execConvert_of_mx {cs : List Nat} {sc : Bytes} (ha : stationAt s h num (isStation 0x11) = some a)
    (hmx : isMx (par a.r 1 1) = true)
    (hcodes : convertMx (par a.r 1 1) (parBits a.r 2 1 1 = 1) ((indexed 0 (tileNums a.t)).map fun v =>
      ((if (par a.r 4 4).testBit 31 && fpFinite (preScale a.r) && !a.t.occ.getLsbD (groupOf a.t.elems.length v.1)
        then .fin false 0 0 else scaled a.r false v.2), tileRnd a.o num v.1)) = (cs, sc)) :
    ∃ xs, xs = cs.map (BitVec.ofNat 64) ∧ execConvert h num s = .next (stationDone s h num a (fun t =>
      { withElems (par a.r 1 1) xs (keepOcc t xs) t with scales := sc }) (groupCycles a (laneRate a.t.fmt))) :=
  ⟨_, rfl, runStation_done _ ha (by simp only [hmx, hcodes, if_true])⟩

/-- CONVERT to another format gives codes: of the values themselves between integer formats without a scale, else of the
values scaled (R195). -/
theorem execConvert_of_not_mx (ha : stationAt s h num (isStation 0x11) = some a) (hmx : isMx (par a.r 1 1) = false) :
    ∃ exact xs,
      exact = (isIntFmt a.t.fmt && isIntFmt (par a.r 1 1) &&
        (decide (par a.r 4 4 = 0) || decide (par a.r 4 4 = 0x3F800000))) ∧
      xs = ((indexed 0 (tileNums a.t)).map fun v =>
        numCode (par a.r 1 1) (parBits a.r 2 0 1 = 1) (tileRnd a.o num v.1)
          (if exact then v.2 else .fp (if (par a.r 4 4).testBit 31 && fpFinite (preScale a.r) &&
            !a.t.occ.getLsbD (groupOf a.t.elems.length v.1) then .fin false 0 0
            else scaled a.r (parBits a.r 2 0 1 = 1) v.2))).map (BitVec.ofNat 64) ∧
      execConvert h num s = .next (stationDone s h num a (withElems (par a.r 1 1) xs (keepOcc a.t xs))
        (groupCycles a (laneRate a.t.fmt))) :=
  ⟨_, _, rfl, rfl, runStation_done _ ha (by simp only [hmx, Bool.false_eq_true, if_false, goOn])⟩

/-- MASK keeps the elements for which its predicate holds (R198). -/
theorem execSelectMask_of_station (ha : stationAt s h num (isMode 0x12 0) = some a) :
    ∃ xs, xs = a.t.elems.map (fun c =>
        if maskHolds (par a.r 2 1) (numOf a.t.fmt c.toNat) (threshold a.t.fmt (par a.r 8 4)) then c else 0) ∧
      execSelectMask h num s = .next (stationDone s h num a (withElems a.t.fmt xs (a.t.occ &&& occOf xs))
        (groupCycles a (laneRate a.t.fmt))) :=
  ⟨_, rfl, runStation_done _ ha rfl⟩

/-- TOPK gives the records of every row (R199). -/
theorem execSelectTopk_of_station (ha : stationAt s h num (isMode 0x12 1) = some a) :
    ∃ ns rows xs, ns = tileNums a.t ∧ rows = ns.length / par a.r 4 2 ∧
      xs = (((chunks (par a.r 4 2) (ns.length + 1) ns).take rows).flatMap fun row =>
        (topk (parBits a.r 2 0 1 = 1) (parBits a.r 2 1 1 = 1) (par a.r 3 1) row).map fun x =>
          BitVec.ofNat 64 (code32 (numFp x.1) + x.2 * 2 ^ 32)) ∧
      execSelectTopk h num s = .next (stationDone s h num a (withElems fmtPair xs (occOf xs))
        (max 1 (ns.length / 16 + 2 * par a.r 3 1 * rows))) :=
  ⟨_, _, _, rfl, rfl, rfl, runStation_done _ ha rfl⟩

/-- ROUTE has read its records, and each names an output or none (R200). -/
theorem execSelectRoute_of_read {bs : Bytes} {rs : List (Nat × Nat × Nat)}
    (ha : stationAt s h num (isMode 0x12 2) = some a)
    (hread : tileEat h num (par a.r 16 8 + 8 * (par a.r 3 1 * (num * (a.t.elems.length / par a.r 4 2))))
      (8 * par a.r 3 1 * (a.t.elems.length / par a.r 4 2)) s = .done bs u)
    (hrs : rs = (indexed 0 (unpackElems fmtPair bs)).map fun x =>
      (x.1 / par a.r 3 1, fld x.2.toNat 32 32, fld x.2.toNat 0 32))
    (hlegal : (rs.any fun x =>
      decide (x.2.1 ≠ 0xFFFFFFFF) && decide (par (recOf a.o (nstat a.o + 1)) 3 1 ≤ x.2.1)) = false) :
    execSelectRoute h num s = .next (stationDone u h num a (fun t =>
      { t with routes := rs.filter fun x => x.2.1 ≠ 0xFFFFFFFF, rowLen := par a.r 4 2 })
      (max 1 (a.t.elems.length / par a.r 4 2))) := by
  subst hrs
  exact runStation_done _ ha (by simp only [hread, Go.done_bind, hlegal, Bool.false_eq_true, if_false])

/-- COMPACT keeps the groups in which an element does not count as absent (R208). -/
theorem execCompact_of_station (ha : stationAt s h num (isStation 0x16) = some a) :
    ∃ kept bs occ,
      kept = (indexed 0 (chunks (512 / elemBits a.t.fmt) (a.t.elems.length + 1) a.t.elems)).filter (fun g =>
        !g.2.all fun c => belowThr (threshold a.t.fmt (par a.r 4 4)) (numOf a.t.fmt c.toNat)) ∧
      bs = kept.map (fun g =>
        if parBits a.r 1 0 2 = 0 then packElems a.t.fmt g.2 else pruneBlock a.t.fmt (parBits a.r 1 0 2) g.2) ∧
      occ = kept.foldl (fun v g => setBit v g.1) (0 : BitVec 64) ∧
      execCompact h num s = .next (stationDone s h num a (fun t =>
        { t with sparse := true, nm := parBits a.r 1 0 2, blocks := bs, occ := occ, elems := [] })
        (groupCycles a (laneRate a.t.fmt) * if parBits a.r 1 0 2 = 0 then 1 else 2)) :=
  ⟨_, _, _, rfl, rfl, rfl, runStation_done _ ha rfl⟩

section Check

variable (ha : stationAt s h num (isStation 0x17) = some a)

include ha

/-- CHECK without a residue test marks by the tests of the elements (R209). -/
theorem execCheck_of_elements (hrecord : (par a.r 1 1).testBit 4 = false) (hresidue : (par a.r 1 1).testBit 3 = false) :
    execCheck h num s = .next (stationDone s h num a (markSuspect a (elementTestFails a))
      (groupCycles a (laneRate a.t.fmt))) :=
  runStation_done _ ha (by simp only [hrecord, hresidue, Bool.false_eq_true, if_false]; rfl)

/-- CHECK that records the residue has written its sum (R209). -/
theorem execCheck_of_recorded (hrecord : (par a.r 1 1).testBit 4 = true)
    (hput : tilePut h num (par a.r 8 8 + 4 * num) (natLe 4 (code32 (residue (tileNums a.t) (isIntFmt a.t.fmt)).1)) s =
      .done () u) :
    execCheck h num s = .next (stationDone u h num a (markSuspect a (elementTestFails a))
      (groupCycles a (laneRate a.t.fmt))) :=
  runStation_done _ ha (by simp only [hrecord, hput, Go.done_bind, if_true]; rfl)

/-- CHECK that compares the residue has read the sum to compare with (R209). -/
theorem execCheck_of_compared {bs : Bytes} {sum mags : Fp} (hrecord : (par a.r 1 1).testBit 4 = false)
    (hresidue : (par a.r 1 1).testBit 3 = true) (hread : tileEat h num (par a.r 8 8 + 4 * num) 4 s = .done bs u)
    (hsums : residue (tileNums a.t) (isIntFmt a.t.fmt) = (sum, mags)) :
    execCheck h num s = .next (stationDone u h num a (markSuspect a (elementTestFails a ||
      fpLt (fpMul fmt32 (fp32 (par a.r 4 4)) mags) (fpAbs (fpSub fmt32 sum (fp32 (leNat bs))))))
      (groupCycles a (laneRate a.t.fmt))) :=
  runStation_done _ ha (by
    simp only [hrecord, hresidue, hread, hsums, Go.done_bind, Bool.false_eq_true, if_false, if_true]; rfl)

end Check

end Elements

/-- Settles O35: each station by its case above; the tests of the elements are the same in the three cases of CHECK. -/
theorem elementStationsAct : Obligations.ElementStationsAct := by
  unfold Obligations.ElementStationsAct
  refine ⟨?expand, ?convertMx, ?convert, ?selectMask, ?selectTopk, ?selectRoute, ?compact, ?check, ?checkRecorded,
    ?checkCompared⟩
  case expand => exact fun _ _ _ _ => execExpand_of_station
  case convertMx => exact fun _ _ _ _ _ _ => execConvert_of_mx
  case convert => exact fun _ _ _ _ => execConvert_of_not_mx
  case selectMask => exact fun _ _ _ _ => execSelectMask_of_station
  case selectTopk => exact fun _ _ _ _ => execSelectTopk_of_station
  case selectRoute => exact fun _ _ _ _ _ _ _ => execSelectRoute_of_read
  case compact => exact fun _ _ _ _ => execCompact_of_station
  case check =>
    rintro s h num a b ha hrecord hresidue rfl
    exact execCheck_of_elements ha hrecord hresidue
  case checkRecorded =>
    rintro s h num a u b ha hrecord rfl hput
    exact execCheck_of_recorded ha hrecord hput
  case checkCompared =>
    rintro s h num a u b bs sum mags ha hrecord hresidue rfl hread hsums
    exact execCheck_of_compared ha hrecord hresidue hread hsums

end Sys2Proof.Machine
end

section
/-!
PROOFS. The arithmetic stations (R201 to R207, R210) and the sinks (R211, R212, R287) of chapter 08, each as its case of
`runStation` or `runSink` in which its accesses are done.
-/
namespace Sys2Proof.Machine

/-! ## Arithmetic stations -/

/-- The fold of one group of rows, in ascending order (R202). -/
def foldGroup (opc : Nat) : List (List Machine.Num) → List Machine.Num
  | [] => []
  | r :: rs => rs.foldl (fun acc x => (List.zip acc x).map fun p => foldStep opc p.1 p.2) r

/-- The output of UPDATE at an element: its new weight, or +0 where the element has not been stepped (R206). -/
def steppedCode (res : Tbl Fp) (j : Nat) : BitVec 64 :=
  match tget res j with
  | some w => BitVec.ofNat 64 (code32 w)
  | none => 0

section Arithmetic

variable {s u v w x : State} {h num : Nat} {a : At} {bs : Bytes}

/-- COMBINE with an operation that reads B, whose elements have been read (R201). -/
theorem combineTile_of_read {opc : Nat} (hreads : opc ≠ 6) (ha : stationAt s h num (isMode 0x13 opc) = some a)
    (hread : tileEat h num
      (par a.r 16 8 + (combineB a.r num a.t.elems.length).1 * elemBits (par a.r 2 1) / 8)
      (ceilDiv (((combineB a.r num a.t.elems.length).1 * elemBits (par a.r 2 1) % 8 / elemBits (par a.r 2 1) +
        (combineB a.r num a.t.elems.length).2) * elemBits (par a.r 2 1)) 8) s = .done bs u) :
    ∃ ys xs,
      ys = ((unpackElems (par a.r 2 1) bs).drop
        ((combineB a.r num a.t.elems.length).1 * elemBits (par a.r 2 1) % 8 / elemBits (par a.r 2 1))).map
          (fun c => numOf (par a.r 2 1) c.toNat) ∧
      xs = ((indexed 0 (tileNums a.t)).map fun v =>
        numCode (par a.r 3 1) false (tileRnd a.o num v.1) (combine opc (par a.r 8 4) v.2
          (nth ys ((num * a.t.elems.length + v.1) / 2 ^ parBits a.r 4 0 4 - (combineB a.r num a.t.elems.length).1)
            (.fp .nan)))).map (BitVec.ofNat 64) ∧
      combineTile opc h num s = .next (stationDone u h num a (withElems (par a.r 3 1) xs (keepOcc a.t xs))
        (groupCycles a (min (laneRate a.t.fmt) (laneRate (par a.r 2 1))))) :=
  ⟨_, _, rfl, rfl, runStation_done _ ha (by simp only [hreads, hread, Go.done_bind, if_false, goOn])⟩

/-- SCALE reads no B (R201). -/
theorem combineTile_scale (ha : stationAt s h num (isMode 0x13 6) = some a) :
    ∃ xs,
      xs = ((indexed 0 (tileNums a.t)).map fun v =>
        numCode (par a.r 3 1) false (tileRnd a.o num v.1) (combine 6 (par a.r 8 4) v.2
          (if isIntFmt a.t.fmt then .int 0 else .fp (.fin false 0 0)))).map (BitVec.ofNat 64) ∧
      combineTile 6 h num s = .next (stationDone s h num a (withElems (par a.r 3 1) xs (keepOcc a.t xs))
        (groupCycles a (min (laneRate a.t.fmt) (laneRate (par a.r 2 1))))) :=
  ⟨_, rfl, runStation_done _ ha rfl⟩

section Accumulate

variable {runs : List (List (Nat × Nat))} {us : List Unit} {bad : Bool}
  (ha : stationAt s h num (fun o t r => isStation 0x14 o t r && decide (parBits r 1 0 2 = 0)) = some a)
  (hruns : goList (fun p s => tileRuns h num ((par a.r 8 8 + num % par a.r 4 4 * (tileNums a.t).length * 4) + 4 * p.1)
    (4 * (p.2 - p.1)) true s) (occSpans (tileNums a.t).length a.t.occ) s = .done runs u)
  (hfree : foldBusy u h num runs.flatten = false)
  (hclaim : goList (fun p s => tileClaim h num ((par a.r 8 8 + num % par a.r 4 4 * (tileNums a.t).length * 4) + 4 * p.1)
    (4 * (p.2 - p.1)) s) (occSpans (tileNums a.t).length a.t.occ) u = .done us v)
  (hfold : foldSpans h num (par a.r 8 8 + num % par a.r 4 4 * (tileNums a.t).length * 4) (parBits a.r 1 2 2)
    (accFmt a.t.fmt) a.t.fold (tileNums a.t) (occSpans (tileNums a.t).length a.t.occ) v = .done bad w)

include ha hruns hfree hclaim hfold

/-- REDUCE into an accumulator that it does not pass on leaves an empty tile (R202, R203). -/
theorem execReduceAccum_of_folded (hkeep : parBits a.r 1 4 1 = 0) :
    execReduceAccum h num s = .next (stationDone w h num a (fun t =>
      { withElems (accFmt a.t.fmt) [] 0 t with fold := t.fold ++ runs.flatten, suspect := t.suspect || bad })
      (groupCycles a (laneRate a.t.fmt))) :=
  runStation_done _ ha (by
    simp only [hruns, hfree, hclaim, hfold, hkeep, Go.done_bind, Bool.false_eq_true, if_false, Nat.zero_ne_one])

/-- REDUCE into an accumulator that it passes on has read it (R202 to R204). -/
theorem execReduceAccum_of_read (hpass : parBits a.r 1 4 1 = 1)
    (hread : foldRead h num (a.t.fold ++ runs.flatten)
      (par a.r 8 8 + num % par a.r 4 4 * (tileNums a.t).length * 4) (4 * (tileNums a.t).length) w = .done bs x) :
    ∃ xs, xs = unpackElems (accFmt a.t.fmt) bs ∧
      execReduceAccum h num s = .next (stationDone x h num a (fun t =>
        { withElems (accFmt a.t.fmt) xs (keepOcc t xs) t with
          fold := t.fold ++ runs.flatten,
          suspect := t.suspect || (bad || xs.any fun c => foldBad (numOf (accFmt a.t.fmt) c.toNat)) })
        (groupCycles a (laneRate a.t.fmt))) :=
  ⟨_, rfl, runStation_done _ ha (by
    simp only [hruns, hfree, hclaim, hfold, hpass, hread, Go.done_bind, Bool.false_eq_true, if_false, if_true])⟩

end Accumulate

/-- REDUCE of groups folds the rows of each (R202, R204). -/
theorem execReduceGroup_of_station
    (ha : stationAt s h num (fun o t r => isStation 0x14 o t r && decide (parBits r 1 0 2 = 1)) = some a) :
    ∃ rows res xs,
      rows = chunks (2 ^ par a.r 2 1) ((tileNums a.t).length + 1) (tileNums a.t) ∧
      res = (chunks (par a.r 3 1) (rows.length + 1) rows).flatMap (foldGroup (parBits a.r 1 2 2)) ∧
      xs = res.map (fun v => BitVec.ofNat 64 (numCode (accFmt a.t.fmt) false none v)) ∧
      execReduceGroup h num s = .next (stationDone s h num a (fun t =>
        { withElems (accFmt a.t.fmt) xs (occOf xs) t with suspect := t.suspect || res.any foldBad })
        (cyclesOf (tileNums a.t).length (laneRate a.t.fmt))) :=
  ⟨_, _, _, rfl, rfl, rfl, runStation_done _ ha rfl⟩

/-- UPDATE whose spans have been stepped (R205 to R207). -/
theorem updateTile_of_stepped {rule i : Nat} {b : Bytes} {ks gs : List Fp} {rs : List ((Nat × Nat) × List Fp)}
    (ha : stationAt s h num (isMode 0x15 rule) = some a)
    (hi : i = ((updates a.o).findIdx? fun k => decide (k = a.t.stage)).getD 0)
    (hb : b = (a.o.block.drop (128 * i)).take 128)
    (hks : ks = ((a.o.coef.drop (11 * i)).take 11).map fun w => fp32 w.toNat)
    (hgs : gs = (indexed 0 ((tileNums a.t).map numFp)).map fun x =>
      if a.t.occ.getLsbD (groupOf ((tileNums a.t).map numFp).length x.1) then fpMul fmt32 x.2 (nth ks 10 .nan)
      else .fin false 0 0)
    (hstep : goList (fun p s => (updateSpan a h num b ks gs p.1 p.2 s).bind fun ws s => .done (p, ws) s)
      (if parBits a.r 2 0 1 = 1 then occSpans ((tileNums a.t).map numFp).length a.t.occ
        else [(0, ((tileNums a.t).map numFp).length)]) s = .done rs u) :
    ∃ res xs,
      res = rs.flatMap (fun r => indexed r.1.1 r.2) ∧
      xs = (rangeFrom 0 ((tileNums a.t).map numFp).length).map (steppedCode res) ∧
      updateTile rule h num s = .next (stationDone u h num a (fun t =>
        { withElems 0 xs (keepOcc t xs) t with
          suspect := t.suspect || res.any fun w => fpIsNan w.2 || fpIsInf w.2 })
        (groupCycles a (if rule = 0 ∨ leAt b 0x10 8 = 0 then 8 else 4))) := by
  subst hi hb hks hgs
  exact ⟨_, _, rfl, rfl, runStation_done _ ha (by simp only [decide_eq_true_eq, hstep]; rfl)⟩

section Compare

variable {mode : Nat} {nb : List Machine.Num} {cs : List Cmp} {b : BitVec 64}
  (ha : stationAt s h num (fun o t r => isStation 0x18 o t r && decide (parBits r 1 0 1 = mode)) = some a)
  (hread : tileEat h num (par a.r 7 8 + num * elemBytes (par a.r 2 1) a.t.elems.length)
    (elemBytes (par a.r 2 1) a.t.elems.length) s = .done bs u)
  (hnb : compareB (par a.r 2 1) ((unpackElems (par a.r 2 1) bs).take a.t.elems.length) u = (nb, w))
  (hcs : cs = (List.zip (List.zip a.t.elems ((unpackElems (par a.r 2 1) bs).take a.t.elems.length))
      (List.zip (tileNums a.t) nb)).map fun y =>
    compareAt (mode = 1) (fpDecode fmtFp16 (par a.r 3 2)) (fpDecode fmtFp16 (par a.r 5 2)) y.1.1 y.1.2 y.2.1 y.2.2)
  (hdraw : (if (maxDiff (indexed 0 cs)).isSome then ((0 : BitVec 64), w) else drawFree w) = (b, x))
  (hput : tilePut h num (par a.r 15 8 + 32 * num) (summaryBytes cs (b.toNat % 2 ^ 32) (b.toNat / 2 ^ 32)) x =
    .done () v)

include ha hread hnb hcs hdraw hput

/-- COMPARE that passes the tile on as it is, with its summary written (R210). -/
theorem compareTile_of_kept (hkeep : parBits a.r 1 1 1 = 0) :
    compareTile mode h num s = .next (stationDone v h num a id (cyclesOf a.t.elems.length (laneRate a.t.fmt))) := by
  subst hcs
  exact runStation_done _ ha (by simp only [hread, hnb, hdraw, hput, hkeep, Go.done_bind, if_true])

/-- COMPARE that passes the differences on, with its summary written (R210). -/
theorem compareTile_of_differences (hdiff : parBits a.r 1 1 1 = 1) :
    ∃ f xs,
      f = (if isIntFmt a.t.fmt && isIntFmt (par a.r 2 1) then 0x10 else 0x00) ∧
      xs = ((List.zip (tileNums a.t) nb).map fun x => numCode f false none (combine 1 0 x.1 x.2)).map
        (BitVec.ofNat 64) ∧
      compareTile mode h num s = .next (stationDone v h num a (withElems f xs (keepOcc a.t xs))
        (cyclesOf a.t.elems.length (laneRate a.t.fmt))) := by
  subst hcs
  exact ⟨_, _, rfl, rfl, runStation_done _ ha (by
    simp only [hread, hnb, hdraw, hput, hdiff, Go.done_bind, Nat.one_ne_zero, if_false, goOn])⟩

end Compare

end Arithmetic

/-- Settles O36: COMBINE, UPDATE and COMPARE once for all their operations, rules and modes. -/
theorem arithmeticStationsAct : Obligations.ArithmeticStationsAct := by
  unfold Obligations.ArithmeticStationsAct
  refine ⟨?add, ?sub, ?mul, ?max, ?min, ?fma, ?scale, ?accumulate, ?accumulatePass, ?group, ?sgdm, ?adamw, ?table,
    ?bitwise, ?bitwiseDifferences, ?tolerance, ?toleranceDifferences⟩
  case add => exact fun _ _ _ _ _ _ => combineTile_of_read (opc := 0) (by decide)
  case sub => exact fun _ _ _ _ _ _ => combineTile_of_read (opc := 1) (by decide)
  case mul => exact fun _ _ _ _ _ _ => combineTile_of_read (opc := 2) (by decide)
  case max => exact fun _ _ _ _ _ _ => combineTile_of_read (opc := 3) (by decide)
  case min => exact fun _ _ _ _ _ _ => combineTile_of_read (opc := 4) (by decide)
  case fma => exact fun _ _ _ _ _ _ => combineTile_of_read (opc := 5) (by decide)
  case scale => exact fun _ _ _ _ => combineTile_scale
  case accumulate => exact fun _ _ _ _ _ _ _ _ _ _ => execReduceAccum_of_folded
  case accumulatePass => exact fun _ _ _ _ _ _ _ _ _ _ _ _ => execReduceAccum_of_read
  case group => exact fun _ _ _ _ => execReduceGroup_of_station
  case sgdm => exact fun _ _ _ _ _ _ _ _ _ _ => updateTile_of_stepped (rule := 0)
  case adamw => exact fun _ _ _ _ _ _ _ _ _ _ => updateTile_of_stepped (rule := 1)
  case table => exact fun _ _ _ _ _ _ _ _ _ _ => updateTile_of_stepped (rule := 2)
  case bitwise => exact fun _ _ _ _ _ _ _ _ _ _ _ _ => compareTile_of_kept (mode := 0)
  case bitwiseDifferences => exact fun _ _ _ _ _ _ _ _ _ _ _ _ => compareTile_of_differences (mode := 0)
  case tolerance => exact fun _ _ _ _ _ _ _ _ _ _ _ _ => compareTile_of_kept (mode := 1)
  case toleranceDifferences => exact fun _ _ _ _ _ _ _ _ _ _ _ _ => compareTile_of_differences (mode := 1)

/-! ## Sinks -/

section Sinks

variable {s u v : State} {h num : Nat} {a : At}

section Range

variable
  (ha : stationAt s h num (fun o t r => isMode 0x20 0 o t r && decide (t.stage = nstat o + 1)) = some a)
  (hput : putCarried h num (rangeVa a.r 2 (tileBytes a.t).length num) (carriedIn a.t 0 0x100000) (tileBytes a.t) s =
    .done () u)

include ha hput

/-- STORE of a RANGE tile of a format that is not MX: its bytes are recorded (R211). -/
theorem execStoreRange_of_put (hmx : isMx a.t.fmt = false) :
    execStoreRange h num s = .next (sinkDone u h num (tileBytes a.t).length) :=
  runSink_done _ ha (by simp only [hput, hmx, Go.done_bind, Bool.false_eq_true, if_false])

/-- STORE of a RANGE tile of an MX format: its bytes and its scales are recorded (R181, R211). -/
theorem execStoreRange_of_mxPut (hmx : isMx a.t.fmt = true)
    (hscales : putCarried h num (scaleVa a.r a.t.elems.length num) (carriedIn a.t 0x100000 0x100000) a.t.scales u =
      .done () v) :
    execStoreRange h num s = .next (sinkDone v h num ((tileBytes a.t).length + a.t.scales.length)) :=
  runSink_done _ ha (by simp only [hput, hmx, hscales, Go.done_bind, if_true])

end Range

/-- STORE of the rows of a SCATTER tile, whose indices have been read: the rows are recorded (R211). -/
theorem execStoreScatter_of_put {ix : Bytes}
    (ha : stationAt s h num (fun o t r => isMode 0x20 1 o t r && decide (t.stage = nstat o + 1)) = some a)
    (hindex : tileEat h num (par a.r 16 8 + 4 * (num * ((tileBytes a.t).length / scatterRow a.r)))
      (4 * ((tileBytes a.t).length / scatterRow a.r)) s = .done ix u)
    (hrows : scatterRows a h num (scatterRow a.r) (tileBytes a.t) (indexed 0 (indexList ix)) u = .done () v) :
    execStoreScatter h num s = .next (sinkDone v h num (tileBytes a.t).length) :=
  runSink_done _ ha (by simp only [hindex, hrows, Go.done_bind])

section Sparse

variable
  (ha : stationAt s h num (fun o t r => isMode 0x20 2 o t r && decide (t.stage = nstat o + 1)) = some a)

include ha

/-- STORE of a PACKED sparse tile records nothing before its commit (R185). -/
theorem execStoreSparse_of_packed (hpacked : parBits a.r 2 4 1 = 1) :
    execStoreSparse h num s = .next (sinkDone s h num (16 + 64 * a.t.blocks.length)) :=
  runSink_done _ ha (by simp only [hpacked, if_true])

/-- STORE of another sparse tile: its header and its blocks are recorded (R184). -/
theorem execStoreSparse_of_put (hplaced : parBits a.r 2 4 1 = 0)
    (hheader : tilePut h num (headerVa a.r false num)
      (headerBytes a.t.occ (64 * num) a.t.fmt a.t.nm a.t.blocks.length) s = .done () u)
    (hblocks : tilePut h num (par a.r 16 8 + 4096 * num) a.t.blocks.flatten u = .done () v) :
    execStoreSparse h num s = .next (sinkDone v h num (16 + 64 * a.t.blocks.length)) :=
  runSink_done _ ha (by simp only [hplaced, hheader, hblocks, Go.done_bind, Nat.zero_ne_one, if_false])

end Sparse

/-- STORE PUT whose targets have routes and room sends its message to each (R211, R287, R292). -/
theorem execStorePut_of_room {ds : List Nat}
    (ha : stationAt s h num (fun o t r => isMode 0x20 3 o t r && decide (t.stage = nstat o + 1)) = some a)
    (htargets : putTargets s a.r = some ds) (hroutes : ds.any (unroutable s) = false)
    (hroom : (ds.any fun d => !eidFenced s d && decide (32 ≤ openTo s d)) = false) :
    execStorePut h num s = .next (sinkDone
      (ds.foldl (fun s d => putSend a h num (putMessage a num).1 (putMessage a num).2 d s) s) h num
      ((putMessage a num).2.map fun p => p.2.1.length).sum) :=
  runSink_done _ ha (by simp only [htargets, hroutes, hroom, Bool.false_eq_true, if_false])

/-- STORE of a ROUTED tile records nothing before its commit (R212). -/
theorem execStoreRouted_of_station
    (ha : stationAt s h num (fun o t r => isMode 0x20 4 o t r && decide (t.stage = nstat o + 1)) = some a) :
    execStoreRouted h num s = .next (sinkDone s h num (a.t.routes.length * elemBytes a.t.fmt a.t.rowLen)) :=
  runSink_done _ ha rfl

/-- STORE NULL writes nothing (R211). -/
theorem execStoreNull_of_station
    (ha : stationAt s h num (fun o t r => isMode 0x20 5 o t r && decide (t.stage = nstat o + 1)) = some a) :
    execStoreNull h num s = .next (sinkDone s h num 0) :=
  runSink_done _ ha rfl

end Sinks

/-- Settles O37: each sink by its case above. -/
theorem sinkStationsAct : Obligations.SinkStationsAct := by
  unfold Obligations.SinkStationsAct
  refine ⟨?range, ?rangeMx, ?scatter, ?packed, ?sparse, ?put, ?routed, ?null⟩
  case range => exact fun _ _ _ _ _ ha hmx hput => execStoreRange_of_put ha hput hmx
  case rangeMx => exact fun _ _ _ _ _ _ ha hmx hput hscales => execStoreRange_of_mxPut ha hput hmx hscales
  case scatter => exact fun _ _ _ _ _ _ _ => execStoreScatter_of_put
  case packed => exact fun _ _ _ _ => execStoreSparse_of_packed
  case sparse => exact fun _ _ _ _ _ _ => execStoreSparse_of_put
  case put => exact fun _ _ _ _ _ => execStorePut_of_room
  case routed => exact fun _ _ _ _ => execStoreRouted_of_station
  case null => exact fun _ _ _ _ => execStoreNull_of_station

end Sys2Proof.Machine
end

section
/-!
PROOFS. The link messages of chapter 11 (R246, R250, R253, R258, R267 to R271): each as what its command does once the
message has been taken out of the port's inbox.
-/
namespace Sys2Proof.Machine

/-- A message that has been received acts on the state without it. -/
theorem onMsg_of_taken {s u : State} {p : Nat} {f : LinkMsg → Bool} (htake : takeMsg s p f = some u)
    (g : State → State) : onMsg s p f g = .next (g u) := by
  rw [onMsg, htake]

section Messages

variable {s u : State} {p : Nat}

/-! ## Replay and training messages -/

/-- REPLAY_REQ of a kept flit begins its replay where none has begun since training (R258). -/
theorem execReplayReq_of_kept {seq : Nat}
    (htake : takeMsg s p (fun m => decide (m.code = 1) && decide (m.a = seq)) = some u)
    (hkept : ((lp u p).kept.any fun k => k.fseq = seq) = true) (hfirst : (lp u p).lastReplay = none) :
    execReplayReq p seq s = .next (beginReplay u p seq) := by
  rw [execReplayReq, onMsg_of_taken htake]
  simp only [hkept, hfirst, Bool.false_eq_true, not_false_eq_true, and_self, if_true]

/-- CREDIT_INIT of a legal size, the first for an enabled buffer, sets the buffer's limit (R253, R268). -/
theorem execCreditInit_of_legal {b n : Nat}
    (htake : takeMsg s p (fun m => decide (m.code = 2) && decide (m.a = b) && decide (m.b = n)) = some u)
    (hmax : n ≤ 32767) (hmin : (if p < 20 then (if b < 4 then 2 else 65) else nth [65, 2, 1, 65, 5, 65] b 0) ≤ n)
    (hfirst : tget u.link.limitTx (p * 16 + b) = none) (hbuffer : (buffers u p).contains b = true) :
    execCreditInit p b n s =
      .next (modLp { u with link := { u.link with limitTx := tput u.link.limitTx (p * 16 + b) n } } p fun x =>
        { x with inits := insNat b x.inits }) := by
  rw [execCreditInit, onMsg_of_taken htake]
  simp only [decide_eq_false hmax.not_gt, decide_eq_false hmin.not_gt, hfirst, hbuffer, Bool.not_true, Bool.or_self,
    Bool.false_eq_true, if_false]

/-- LINK_ID names the peer, whose EID is not to be this end's own (R268, R269). -/
theorem execLinkId_of_taken {e w l : Nat}
    (htake : takeMsg s p (fun m => decide (m.code = 3) && decide (m.a = e) && decide (m.b = w) && decide (m.c = l)) =
      some u) :
    ∃ v, v = wf u (statReg p) 13 12 e ∧
      execLinkId p e w l s =
        .next (modLp v p fun x => { x with peer := some (e, w, l), bad := x.bad || decide (e = ownEid v) }) :=
  ⟨_, rfl, onMsg_of_taken htake _⟩

/-- RETRAIN_REQ begins a retrain; a request of this end's own is aborted unless it leads (R268, R269). -/
theorem execRetrainReq_of_taken {n : Nat}
    (htake : takeMsg s p (fun m => decide (m.code = 9) && decide (m.a = n)) = some u) :
    execRetrainReq p n s = .next (retrain (if leads u p then u else answered u p 9) p false) :=
  onMsg_of_taken htake _

/-! ## Swap messages (Table 11-8) -/

section SwapReq

variable {l : Nat} (htake : takeMsg s p (fun m => decide (m.code = 4) && decide (m.a = l)) = some u)

include htake

/-- SWAP_REQ to an ACTIVE port that swaps in neither direction begins the swap where the reserve is free (R269). -/
theorem execSwapReq_of_free (hactive : linkState u p = 2) (htx : (lp u p).swapTx = none)
    (hreserve : reserveFree (lp u p) true = true) (hl : l < 8) (hrx : (lp u p).swapRx = none) :
    execSwapReq p l s =
      .next (setLinkState (modLp (voidPort u p) p fun x => { x with swapTx := some (l, 4) }) p 5) := by
  rw [execSwapReq, onMsg_of_taken htake]
  simp only [hrx, hactive, htx, hreserve, Nat.not_le.mpr hl, Option.isSome_none, Option.map_none, reduceCtorEq,
    Nat.reduceEqDiff, ne_eq, not_true_eq_false, and_self, false_and, or_self, if_false]

/-- SWAP_REQ of the lane that is being swapped is answered again (R250). -/
theorem execSwapReq_of_repeated (hswap : linkState u p = 5) {n : Nat} (htx : (lp u p).swapTx = some (l, n)) :
    execSwapReq p l s = .next (setLp u p { lp u p with swapTx := some (l, 4) }) := by
  rw [execSwapReq, onMsg_of_taken htake]
  simp only [hswap, htx, Option.map_some, and_self, if_true]

end SwapReq

/-- SWAP_MARK of the lane that this end asked for maps that lane to the reserve. -/
theorem execSwapMark_of_asked {l : Nat}
    (htake : takeMsg s p (fun m => decide (m.code = 5) && decide (m.a = l)) = some u)
    (hrx : (lp u p).swapRx = some (l, none)) :
    ∃ v, v = modLp (answered u p 4) p (fun x => { x with swapRx := some (l, some 0) }) ∧
      execSwapMark p l s =
        .next (laneEvents (setLanes v p (linkWidth v p) (lp v p).txLanes (setNth (lp v p).rxLanes l 8)) p l) := by
  refine ⟨_, rfl, ?_⟩
  rw [execSwapMark, onMsg_of_taken htake]
  simp only [hrx, ne_eq, not_true_eq_false, if_false]

/-- SWAP_DONE of the swap whose marks have been sent ends it, and the crossings that waited are decided. -/
theorem execSwapDone_of_marked {l : Nat}
    (htake : takeMsg s p (fun m => decide (m.code = 6) && decide (m.a = l)) = some u)
    (htx : (lp u p).swapTx = some (l, 0)) :
    execSwapDone p l s =
      .next (retryLanes (laneEvents (setLinkState (modLp u p fun x => { x with swapTx := none }) p 2) p l) p) := by
  rw [execSwapDone, onMsg_of_taken htake]
  simp only [htx, ne_eq, not_true_eq_false, Nat.lt_irrefl, or_self, if_false]

/-! ## Width messages (R267) -/

/-- WIDTH_REQ to a port that may follow, and has no request of its own, is answered and takes effect. -/
theorem execWidthReq_of_follows {w : Nat}
    (htake : takeMsg s p (fun m => decide (m.code = 7) && decide (m.a = w)) = some u)
    (hstate : linkState u p = 2 ∨ linkState u p = 4 ∨ (linkState u p = 6 ∧ linkPower u p = 1)) (hw : w ≤ 2)
    (hown : (lp u p).widthTo = none) :
    execWidthReq p w s =
      .next (widthDone (say (voidPort u p) p { code := 8, a := w }) p w (askedSet s p w)) := by
  have hfollows : ¬ (linkState u p ≠ 2 ∧ linkState u p ≠ 4 ∧
      ¬ (decide (linkState u p = 6) && decide (linkPower u p = 1)) = true) := by
    rcases hstate with hactive | hchanging | ⟨hlow, hnarrow⟩
    · exact fun h => h.1 hactive
    · exact fun h => h.2.1 hchanging
    · exact fun h => h.2.2 (by rw [hlow, hnarrow]; rfl)
  rw [execWidthReq, onMsg_of_taken htake]
  simp only [hfollows, hw.not_gt, hown, Option.isSome_none, Bool.false_eq_true, false_and, or_self, if_false]

/-- WIDTH_ACK of the width that this end asked for takes effect on the lanes that its request named. -/
theorem execWidthAck_of_asked {w : Nat}
    (htake : takeMsg s p (fun m => decide (m.code = 8) && decide (m.a = w)) = some u)
    (hwidth : (lp u p).widthTo = some w) (hchanging : linkState u p = 4) :
    execWidthAck p w s = .next (widthDone (answered u p 7) p w
      (BitVec.ofNat 9 ((((lp u p).awaiting.find? fun m => m.code = 7).map LinkMsg.b).getD 0))) := by
  rw [execWidthAck, onMsg_of_taken htake]
  simp only [hwidth, hchanging, and_self, if_true]

/-! ## Power messages (R271) -/

section PwrReq

variable {k : Nat} (htake : takeMsg s p (fun m => decide (m.code = 10) && decide (m.a = k)) = some u)

include htake

/-- PWR_REQ of a state that is granted or in force is answered again (R250). -/
theorem execPwrReq_of_repeated (hgranted : (lp u p).granted = some k ∨ (linkState u p = 6 ∧ linkPower u p = k)) :
    execPwrReq p k s = .next (say u p { code := 11, a := k }) := by
  rw [execPwrReq, onMsg_of_taken htake]
  simp only [if_pos hgranted]

section Active

variable (hnew : (lp u p).granted ≠ some k) (hactive : linkState u p = 2) (hown : (lp u p).pwrTo = none)

include hnew hactive hown

/-- PWR_REQ to an ACTIVE port that has not asked itself is refused or granted by R271's conditions. -/
theorem execPwrReq_of_active :
    execPwrReq p k s = .next (
      if linkBusy u p ∨ 20 ≤ p ∨ k = 0 ∨ 3 < k then say u p { code := 11, a := k, b := 1 }
      else say (modLp u p fun x => { x with granted := some k }) p { code := 11, a := k }) := by
  rw [execPwrReq, onMsg_of_taken htake]
  simp only [hnew, hactive, hown, Option.isSome_none, Nat.reduceEqDiff, ne_eq, not_true_eq_false, Bool.false_eq_true,
    false_and, or_self, if_false]

/-- A fabric port with nothing to send grants a low power state. -/
theorem execPwrReq_of_idle (hidle : linkBusy u p = false) (hp : p < 20) (hk : 1 ≤ k) (hk' : k ≤ 3) :
    execPwrReq p k s =
      .next (say (modLp u p fun x => { x with granted := some k }) p { code := 11, a := k }) := by
  have hgrants : ¬ (linkBusy u p = true ∨ 20 ≤ p ∨ k = 0 ∨ 3 < k) := by
    simp only [hidle, Bool.false_eq_true, false_or]
    omega
  rw [execPwrReq_of_active htake hnew hactive hown, if_neg hgrants]

/-- A port that is busy, a mirror port, and any port that is asked for another state refuse. -/
theorem execPwrReq_of_refused (hrefused : linkBusy u p = true ∨ 20 ≤ p ∨ k = 0 ∨ 3 < k) :
    execPwrReq p k s = .next (say u p { code := 11, a := k, b := 1 }) := by
  rw [execPwrReq_of_active htake hnew hactive hown, if_pos hrefused]

end Active

end PwrReq

/-- PWR_ACK of the state that this end asked for ends the request, and the port goes down to that state. -/
theorem execPwrAck_of_asked {k : Nat}
    (htake : takeMsg s p (fun m => decide (m.code = 11) && decide (m.a = k) && decide (m.b = 0)) = some u)
    (hasked : (lp u p).pwrTo = some k) :
    execPwrAck p k s =
      .next (if k = 1 then narrowDown (answered u p 10) p else enterPower (answered u p 10) p k) := by
  rw [execPwrAck, onMsg_of_taken htake]
  simp only [if_pos hasked]

/-- PWR_NAK of the state that this end asked for ends the request. -/
theorem execPwrNak_of_asked {k : Nat}
    (htake : takeMsg s p (fun m => decide (m.code = 11) && decide (m.a = k) && decide (m.b = 1)) = some u)
    (hasked : (lp u p).pwrTo = some k) :
    execPwrNak p k s = .next (answered (modLp u p fun x => { x with pwrTo := none }) p 10) := by
  rw [execPwrNak, onMsg_of_taken htake]
  simp only [if_pos hasked]

end Messages

/-- Settles O38: each message by its case above; the two clauses of RETRAIN_REQ and of PWR_ACK are the branches of one
equation. -/
theorem linkMessagesAct : Obligations.LinkMessagesAct := by
  unfold Obligations.LinkMessagesAct
  refine ⟨?replayReq, ?creditInit, ?linkId, ?swapReq, ?swapReqAgain, ?swapMark, ?swapDone, ?widthReq, ?widthAck,
    ?retrainLeads, ?retrainFollows, ?pwrGrant, ?pwrAgain, ?pwrRefuse, ?pwrAck, ?pwrAckNarrow, ?pwrNak⟩
  case replayReq => exact fun _ _ _ _ => execReplayReq_of_kept
  case creditInit =>
    intro s u p b n htake hmax hmin hfirst hbuffer
    exact ⟨_, rfl, execCreditInit_of_legal htake hmax hmin hfirst hbuffer⟩
  case linkId => exact fun _ _ _ _ _ _ => execLinkId_of_taken
  case swapReq => exact fun _ _ _ _ => execSwapReq_of_free
  case swapReqAgain => exact fun _ _ _ _ _ htake hswap => execSwapReq_of_repeated htake hswap
  case swapMark => exact fun _ _ _ _ => execSwapMark_of_asked
  case swapDone => exact fun _ _ _ _ => execSwapDone_of_marked
  case widthReq => exact fun _ _ _ _ => execWidthReq_of_follows
  case widthAck => exact fun _ _ _ _ => execWidthAck_of_asked
  case retrainLeads =>
    intro s u p n htake hleads
    refine (execRetrainReq_of_taken htake).trans ?_
    rw [if_pos hleads]
  case retrainFollows =>
    intro s u p n htake hleads
    refine (execRetrainReq_of_taken htake).trans ?_
    rw [hleads, if_neg Bool.false_ne_true]
  case pwrGrant => exact fun _ _ _ _ => execPwrReq_of_idle
  case pwrAgain => exact fun _ _ _ _ => execPwrReq_of_repeated
  case pwrRefuse => exact fun _ _ _ _ => execPwrReq_of_refused
  case pwrAck =>
    intro s u p k htake hasked hother
    refine (execPwrAck_of_asked htake hasked).trans ?_
    rw [if_neg hother]
  case pwrAckNarrow =>
    intro s u p k htake hasked hnarrow
    refine (execPwrAck_of_asked htake hasked).trans ?_
    rw [if_pos hnarrow]
  case pwrNak => exact fun _ _ _ _ => execPwrNak_of_asked

end Sys2Proof.Machine
end

section
/-!
PROOFS. The flits, the timeouts, the training and the control register of a port (chapter 11).
-/
namespace Sys2Proof.Machine

/-! ## Flits that come -/

/-- What a flit that has been decoded does beside its ACK and its credit, by its type (R250, R257, Table 11-8). -/
def actOnBody (s : State) (p h : Nat) (body : Bytes) : State :=
  match fld h 36 2 with
  | 0 => idleFlit s p
  | 1 => payloadFlit s p (fld h 0 18) body
  | _ => modLp s p fun x => { x with inbox := x.inbox ++
      ((rangeFrom 0 16).map fun k => slotMsg ((body.drop (16 * k)).take 16)).filter fun m =>
        m.code ≠ 0 && m.code ≤ 11 }

section Receive

variable {s u : State} {p h : Nat} {bs body : Bytes} {ps : List Nat} (hp : p < 22) (hlen : bs.length = 288)
  (husable : usable s p = true) (hawake : linkState s p ≠ 6 ∨ linkPower s p ≠ 2)

include hp hlen husable

/-- None of the grounds on which FLIT_RECEIVE does nothing holds. -/
theorem flitReceive_not_ignored : ¬ (22 ≤ p ∨ bs.length ≠ 288 ∨ ¬ usable s p = true) :=
  not_or.mpr ⟨hp.not_ge, not_or.mpr ⟨not_not.mpr hlen, not_not.mpr husable⟩⟩

include hawake

/-- A flit that does not decode is bad, though its corrections count (R245, R257). -/
theorem execFlitReceive_of_bad (hdecode : flitDecode bs = (none, ps)) :
    execFlitReceive p bs s = .next (flitBad (countLanes s p ps) p) := by
  simp only [execFlitReceive, if_neg (flitReceive_not_ignored hp hlen husable), if_neg (not_and_or.mpr hawake), hdecode]

/-- A flit that decodes, of a type that flits have, acts by the ACK and the credit of its header and then by its body
(R256, R257). -/
theorem execFlitReceive_of_decoded (hdecode : flitDecode bs = (some (h, body), ps))
    (hu : u = linkCredit (linkAck (countLanes s p ps) p (fld h 18 18)) p (fld h 39 4) (fld h 43 16))
    (htype : fld h 36 2 ≠ 3) : execFlitReceive p bs s = .next (actOnBody u p h body) := by
  subst hu
  simp only [execFlitReceive, if_neg (flitReceive_not_ignored hp hlen husable), if_neg (not_and_or.mpr hawake), hdecode,
    if_neg htype, actOnBody]
  generalize fld h 36 2 = ty
  match ty with
  | 0 | 1 | _ + 2 => simp only

end Receive

/-! ## Flits that leave -/

/-- SWAP_MARK messages of a swap are still to be sent (Table 11-8). -/
def marksDue (x : LinkPort) : Bool :=
  match x.swapTx with
  | some (_, n) => decide (0 < n)
  | none => false

/-- A swap that has sent its marks owes none, nor does a port that does not swap. -/
theorem marksDue_eq_false {x : LinkPort} (hmarks : x.swapTx = none ∨ x.swapTx.map Prod.snd = some 0) :
    marksDue x = false := by
  rcases hmarks with hnone | hsent
  · simp only [marksDue, hnone]
  · obtain ⟨⟨_, _⟩, hswap, rfl⟩ := Option.map_eq_some_iff.mp hsent
    simp only [marksDue, hswap, Nat.lt_irrefl, decide_false]

/-- The kept flit at which the replay of an ACTIVE port stands (R258). -/
def replayDue (s : State) (p : Nat) : Option Kept :=
  if linkState s p = 2 then (lp s p).replay.bind fun q => (lp s p).kept.find? fun k => k.fseq = q else none

/-- Units wait at the port's scheduler, and none of them has the credit to start (R251). -/
def lacksCredit (s : State) (p : Nat) : Bool :=
  !(sched s (portSched p)).units.isEmpty && (sched s (portSched p)).units.all fun u => !creditOk s p u.pkt

/-- The flit of a port that has no message to send: of a replay, of the started units, or idle (R251). -/
def dataFlit (s : State) (p : Nat) : State :=
  match replayDue s p with
  | some k => sendReplay s p k
  | none =>
    if linkState s p = 2 ∧ tgetD s.link.tx p [] ≠ [] then
      if keepRoom s p then sendPayload s p else sendFlit (count s (portPage p) 9 1) p 0 0 false 31 []
    else
      sendFlit (if linkState s p = 2 ∧ lacksCredit s p then count s (portPage p) 8 1 else s) p 0 0 false 31 []

/-- A port that does not run sends idle flits. -/
theorem dataFlit_of_not_active {s : State} {p : Nat} (hstate : linkState s p ≠ 2) :
    dataFlit s p = sendFlit s p 0 0 false 31 [] := by
  simp only [dataFlit, replayDue, hstate, false_and, if_false]

section DataFlit

variable {s : State} {p : Nat} (hactive : linkState s p = 2)

include hactive

/-- A replay goes before new flits. -/
theorem dataFlit_of_replay {q : Nat} {k : Kept} (hreplay : (lp s p).replay = some q)
    (hkept : ((lp s p).kept.find? fun k => k.fseq = q) = some k) : dataFlit s p = sendReplay s p k := by
  simp only [dataFlit, replayDue, hactive, hreplay, Option.bind_some, hkept, if_true]

variable (hreplay : (lp s p).replay = none)

include hreplay

/-- Started units fill a flit where the port may keep one more (R262). -/
theorem dataFlit_of_started (hunits : tgetD s.link.tx p [] ≠ []) (hroom : keepRoom s p = true) :
    dataFlit s p = sendPayload s p := by
  simp only [dataFlit, replayDue, hactive, hreplay, Option.bind_none, hunits, hroom, ne_eq, not_false_eq_true, and_self,
    if_true]

/-- With nothing started and nothing waiting the flit is idle, and the port lacks no credit. -/
theorem dataFlit_of_nothing (hunits : tgetD s.link.tx p [] = []) (hwaiting : (sched s (portSched p)).units = []) :
    dataFlit s p = sendFlit s p 0 0 false 31 [] := by
  simp only [dataFlit, replayDue, lacksCredit, hactive, hreplay, Option.bind_none, hunits, hwaiting, List.isEmpty_nil,
    Bool.not_true, Bool.false_and, Bool.false_eq_true, ne_eq, not_true_eq_false, and_false, if_false, ite_self]

end DataFlit

section Transmit

variable {s : State} {p : Nat} (hp : p < 22) (husable : usable s p = true)

include hp husable

/-- A usable port whose lanes carry flits sends a control flit where a message or a mark is due, else a flit of its data
(R251). -/
theorem execFlitTransmit_of_sending
    (hlanes : linkState s p ≠ 6 ∨ (linkBusy s p = false ∧ linkPower s p < 2)) :
    execFlitTransmit p s =
      .next (if marksDue (lp s p) || !(lp s p).ctl.isEmpty then sendControl s p else dataFlit s p) := by
  have hknown : ¬ (22 ≤ p ∨ ¬ usable s p = true) := not_or.mpr ⟨hp.not_ge, not_not.mpr husable⟩
  have hstays : ¬ (linkState s p = 6 ∧ linkBusy s p = true) := fun ⟨hlow, hbusy⟩ =>
    hlanes.elim (· hlow) fun h => by simp [h.1] at hbusy
  have hcarries : ¬ (linkState s p = 6 ∧ 2 ≤ linkPower s p) := fun ⟨hlow, hoff⟩ =>
    hlanes.elim (· hlow) fun h => h.2.not_ge hoff
  simp only [execFlitTransmit, if_neg hknown, if_neg hstays, if_neg hcarries]
  by_cases hdue : (marksDue (lp s p) || !(lp s p).ctl.isEmpty) = true
  · rw [if_pos hdue]
    exact if_pos hdue
  · rw [if_neg hdue]
    refine (if_neg hdue).trans ?_
    cases hreplay : replayDue s p with
    | some k =>
      simp only [dataFlit, hreplay]
      simp only [replayDue] at hreplay
      simp only [decide_eq_true_eq, hreplay]
    | none =>
      simp only [dataFlit, lacksCredit, hreplay]
      simp only [replayDue] at hreplay
      -- the tests that the model states of Bools, as those of `dataFlit`
      simp only [decide_eq_true_eq, hreplay, Bool.and_eq_true, Bool.not_eq_true', List.isEmpty_eq_false_iff, and_assoc]
      split_ifs <;> rfl

/-- A message goes before data. -/
theorem execFlitTransmit_of_control (hlanes : linkState s p ≠ 6 ∨ (linkBusy s p = false ∧ linkPower s p < 2))
    (hctl : (lp s p).ctl ≠ []) : execFlitTransmit p s = .next (sendControl s p) := by
  have hdue : (marksDue (lp s p) || !(lp s p).ctl.isEmpty) = true := by
    rw [List.isEmpty_eq_false_iff.mpr hctl, Bool.not_false, Bool.or_true]
  rw [execFlitTransmit_of_sending hp husable hlanes, if_pos hdue]

/-- With no message and no mark due, the flit is one of data. -/
theorem execFlitTransmit_of_quiet (hlanes : linkState s p ≠ 6)
    (hmarks : (lp s p).swapTx = none ∨ (lp s p).swapTx.map Prod.snd = some 0) (hctl : (lp s p).ctl = []) :
    execFlitTransmit p s = .next (dataFlit s p) := by
  have hnotDue : ¬ (marksDue (lp s p) || !(lp s p).ctl.isEmpty) = true := by
    simp [marksDue_eq_false hmarks, hctl]
  rw [execFlitTransmit_of_sending hp husable (Or.inl hlanes), if_neg hnotDue]

end Transmit

/-! ## Timeouts and writes -/

/-- The oldest kept flit is replayed where no ACK advances, whose time begins anew (R258). -/
theorem execAckTimeout_of_kept {s : State} {p : Nat} {k : Kept} {ks : List Kept} (hkept : (lp s p).kept = k :: ks) :
    execAckTimeout p s = .next (beginReplay (modLp s p fun x => { x with ackAt := s.now }) p k.fseq) := by
  simp only [execAckTimeout, hkept]

/-- An operation whose condition holds acts. -/
theorem guarded_of {c : Bool} (hc : c = true) (s : State) (f : State → State) : guarded c s f = .next (f s) := by
  rw [hc, guarded_true]

/-! ## The end of a training attempt -/

/-- An attempt whose exchange did not end, met a fault or did not name the peer has failed (R268). -/
theorem exchange_eq_false {ok : Bool} {x : LinkPort} (hfailed : ok = false ∨ x.bad = true ∨ x.peer = none)
    (b : Bool) : (ok && !x.bad && x.peer.isSome && b) = false := by
  rcases hfailed with hok | hbad | hpeer
  · rw [hok, Bool.false_and, Bool.false_and, Bool.false_and]
  · rw [hbad, Bool.not_true, Bool.and_false, Bool.false_and, Bool.false_and]
  · rw [hpeer, Option.isSome_none, Bool.and_false, Bool.false_and]

section RetrainComplete

variable {s : State} {p : Nat} {tx rx : BitVec 9} (hp : p < 22) (hstate : linkState s p = 1 ∨ linkState s p = 3)

include hp hstate

/-- None of the grounds on which RETRAIN_COMPLETE does nothing holds. -/
theorem retrainComplete_not_ignored : ¬ (22 ≤ p ∨ (linkState s p ≠ 1 ∧ linkState s p ≠ 3)) :=
  not_or.mpr ⟨hp.not_ge, fun h => hstate.elim h.1 h.2⟩

/-- A port with less than two good lanes in a direction fails (R270). -/
theorem execRetrainComplete_of_fewLanes (hfew : popc 9 tx.toNat < 2 ∨ popc 9 rx.toNat < 2) (ok : Bool) :
    execRetrainComplete p tx rx ok s = .next (returnReady (portFail s p)) := by
  simp only [execRetrainComplete, if_neg (retrainComplete_not_ignored hp hstate), if_pos hfew]

variable (htx : 2 ≤ popc 9 tx.toNat) (hrx : 2 ≤ popc 9 rx.toNat)

include htx hrx

/-- An attempt with lanes, the peer's identity and the sizes of all its buffers succeeds (R268). -/
theorem execRetrainComplete_of_exchanged (hgood : (lp s p).bad = false) (hpeer : (lp s p).peer.isSome = true)
    (hinits : (buffers s p).all (lp s p).inits.contains = true) :
    execRetrainComplete p tx rx true s = .next (returnReady (trained s p tx rx)) := by
  simp only [execRetrainComplete, if_neg (retrainComplete_not_ignored hp hstate),
    if_neg (not_or.mpr ⟨htx.not_gt, hrx.not_gt⟩), hgood, hpeer, hinits, Bool.not_false, Bool.and_self, if_true]

/-- An attempt that has failed is followed by the next, or by the port's failure once their number is reached (R270). -/
theorem execRetrainComplete_of_failed {ok : Bool}
    (hfailed : ok = false ∨ (lp s p).bad = true ∨ (lp s p).peer = none) :
    execRetrainComplete p tx rx ok s = .next (returnReady
      (if rf s (replayReg p) 24 2 ≤ (lp s p).attempts + 1 then portFail s p
        else startTraining (setLp s p { lp s p with attempts := (lp s p).attempts + 1 }) p (linkState s p))) := by
  simp only [execRetrainComplete, if_neg (retrainComplete_not_ignored hp hstate),
    if_neg (not_or.mpr ⟨htx.not_gt, hrx.not_gt⟩), exchange_eq_false hfailed, Bool.false_eq_true, if_false]

end RetrainComplete

/-- Settles O39: each event by its case above; the clauses of a flit received are the types of one equation, those of a
flit sent the cases of `dataFlit`, and the four control writes are one. -/
theorem linkEventsAct : Obligations.LinkEventsAct := by
  unfold Obligations.LinkEventsAct
  refine ⟨?bad, ?idle, ?payload, ?control, ?sendControl, ?sendUntrained, ?sendReplay, ?sendPayload, ?sendIdle,
    ?ackTimeout, ?replayReqTimeout, ?msgRepeat, ?laneCrossed, ?swapTimeout, ?lockLoss, ?trained, ?fewLanes,
    ?lastAttempt, ?nextAttempt, ?enable, ?widthMax, ?retrain, ?power⟩
  case bad => exact fun _ _ _ _ => execFlitReceive_of_bad
  case idle | payload | control =>
    intro s u p h bs body ps hp hlen husable hawake hdecode hu htype
    refine (execFlitReceive_of_decoded hp hlen husable hawake hdecode hu (by omega)).trans ?_
    simp only [actOnBody, htype]
  case sendControl => exact fun _ _ => execFlitTransmit_of_control
  case sendUntrained =>
    intro s p hp husable hstate hlanes hmarks hctl
    refine (execFlitTransmit_of_quiet hp husable hlanes hmarks hctl).trans ?_
    rw [dataFlit_of_not_active hstate]
  case sendReplay =>
    intro s p q k hp husable hactive hmarks hctl hreplay hkept
    refine (execFlitTransmit_of_quiet hp husable (by omega) hmarks hctl).trans ?_
    rw [dataFlit_of_replay hactive hreplay hkept]
  case sendPayload =>
    intro s p hp husable hactive hmarks hctl hreplay hunits hroom
    refine (execFlitTransmit_of_quiet hp husable (by omega) hmarks hctl).trans ?_
    rw [dataFlit_of_started hactive hreplay hunits hroom]
  case sendIdle =>
    intro s p hp husable hactive hmarks hctl hreplay hunits hwaiting
    refine (execFlitTransmit_of_quiet hp husable (by omega) hmarks hctl).trans ?_
    rw [dataFlit_of_nothing hactive hreplay hunits hwaiting]
  case ackTimeout => exact fun _ _ _ _ => execAckTimeout_of_kept
  case replayReqTimeout =>
    intro s p hout
    exact guarded_of hout s fun s => say s p { code := 1, a := (lp s p).expected }
  case msgRepeat => exact fun _ _ => rfl
  case laneCrossed =>
    intro s p l tx hp hl
    have hlane : (decide (p < 22) && decide (l < 9)) = true := by
      rw [decide_eq_true hp, decide_eq_true hl, Bool.and_self]
    exact guarded_of hlane s fun s => crossLane s p tx l
  case swapTimeout => exact fun s p hswaps => guarded_of hswaps s fun s => retrain s p true
  case lockLoss => exact fun s p hp => guarded_of (decide_eq_true hp) s fun s => retrain s p true
  case trained => exact fun _ _ _ _ => execRetrainComplete_of_exchanged
  case fewLanes => exact fun _ _ _ _ ok hp hstate hfew => execRetrainComplete_of_fewLanes hp hstate hfew ok
  case lastAttempt =>
    intro s p tx rx ok hp hstate htx hrx hfailed hlast
    refine (execRetrainComplete_of_failed hp hstate htx hrx hfailed).trans ?_
    rw [if_pos hlast]
  case nextAttempt =>
    intro s p tx rx ok hp hstate htx hrx hfailed hmore
    refine (execRetrainComplete_of_failed hp hstate htx hrx hfailed).trans ?_
    rw [if_neg hmore.not_ge]
  case enable | widthMax | retrain | power =>
    intro s id p v hp
    exact guarded_of (decide_eq_true hp) s fun s => linkCtlWrite s p v.toNat

end Sys2Proof.Machine
end

section
/-!
PROOFS. Packets that pass through and data packets that arrive (chapter 12: R277, R286, R288).
-/
namespace Sys2Proof.Machine

/-! ## Pass-through -/

/-- A packet with a valid route that does not drain leaves its ingress buffer for the port that its refreshed route
chooses (R277 to R279). -/
theorem execPassThroughPacket_of_routed {s u v : State} {p q : Nat} {b : Bool} {pkt : Packet}
    (hpass : isLocal s pkt.dest = false) (hp : p < 20) (hvalid : (route s pkt.dest).valid = true)
    (hdrain : (route s pkt.dest).draining = false) (hpop : popRx s p pkt = some u)
    (hv : v = setRoute u pkt.dest (refreshRoute u (route s pkt.dest)))
    (hport : choosePort v (refreshRoute u (route s pkt.dest)) pkt = some (q, b)) (hother : q ≠ p) :
    execPassThroughPacket p pkt s =
      .next (placeAt (count v (portPage p) 4 1) q b { cls := pkt.sc, len := 0, pkt := pkt }) := by
  subst hv
  have hhere : ¬ (isLocal s pkt.dest = true ∨ 20 ≤ p) := not_or.mpr ⟨ne_true_of_eq_false hpass, hp.not_ge⟩
  simp only [execPassThroughPacket, if_neg hhere, hvalid, hdrain, hpop, hport, if_neg hother, Bool.not_true,
    Bool.false_eq_true, and_false, if_false]

/-! ## Data packets -/

/-- A data packet that has arrived, and of which its command asks only its kind, is taken from its port and served. -/
theorem arrive_of_arrivedKind_only {s p : State} {port kind : Nat} {pkt : Packet} {idle fenced serve : State → State}
    (harrived : arrivedKind s port pkt kind p) :
    arrive s port pkt (decide (4 ≤ pkt.ch) && decide (pkt.kind = kind)) idle fenced serve = .next (serve p) := by
  simpa only [Bool.and_true] using arrive_of_arrivedKind harrived rfl

/-- A PUT-kind packet that has arrived and need not wait is counted into its message's entry and leaves its port
(R288). -/
theorem putPacket_of_served {s p u : State} {port kind : Nat} {pkt : Packet} {sparse : Bool}
    (harrived : arrivedKind s port pkt kind p) (hfree : eidFenced s pkt.src = false) (hserving : serving s = true)
    (hsparse : decide (kind = 1) = sparse) (hserve : putServe s port (rxSince s port pkt) pkt sparse = .done () u) :
    putPacket kind port pkt s = .next ((popRx u port pkt).getD u) := by
  obtain ⟨hch, hkind, hlocal, hpause, hpop, -, -⟩ := harrived
  have hfits : ¬ (pkt.ch < 4 ∨ pkt.kind ≠ kind ∨ ¬ isLocal s pkt.dest = true ∨ s.pair.pause = true) := by
    rw [hlocal, hpause]
    simp [hkind, hch]
  simp only [putPacket, if_neg hfits, hpop, hserving, hfree, hsparse, hserve, Bool.not_true, Bool.false_eq_true, if_false]

/-- Settles O40: each packet by its case above; the two PUT kinds are one command, and so are the consumed kinds. -/
theorem routedPacketsAct : Obligations.RoutedPacketsAct := by
  unfold Obligations.RoutedPacketsAct
  refine ⟨?passThrough, ?put, ?putSparse, ?cmp, ?notify, ?pubNotify⟩
  case passThrough => exact fun _ _ _ _ _ _ _ => execPassThroughPacket_of_routed
  case put | putSparse =>
    intro s p u port pkt harrived hfree hserving hserve
    exact putPacket_of_served harrived hfree hserving rfl hserve
  case cmp | notify | pubNotify => exact fun _ _ _ _ => arrive_of_arrivedKind_only

end Sys2Proof.Machine
end

section
/-!
PROOFS. The swap of a route, the fence of an EID and the timeouts of messages (chapter 12: R280, R289 to R291, R294).
-/
namespace Sys2Proof.Machine

/-! ## Swapping a route -/

/-- The state in which an EID's old route drains and its swap runs: steps 1 and 2 of Table 12-5. -/
def swapBegun (s : State) (e : Nat) : State :=
  let v := voidEid (setRoute s e { route s e with draining := true }) e
  wb { v with route := { v.route with swapping := some e } } (ra pgRTE 0x118) 14 true

section Firmware

variable {s : State} {id e : Nat} (hid : isFw id = true) (he : e < 4096)

include hid he

/-- What the route commands of the firmware ask of their operands. -/
theorem isFw_and_isEid : (isFw id && decide (e < 4096)) = true := by
  rw [hid, decide_eq_true he, Bool.and_self]

/-- ROUTE_SWAP, where no swap runs, begins one, which is done at once where nothing drains (R294; that it does not wait
is the model's choice, log 60). -/
theorem execRouteSwap_of_idle (hidle : s.route.swapping = none) :
    execRouteSwap id e s =
      .next (if drained (swapBegun s e) e then swapDone (swapBegun s e) e else swapBegun s e) := by
  have hruns : (isFw id && decide (e < 4096) && s.route.swapping.isNone) = true := by
    rw [isFw_and_isEid hid he, hidle, Option.isNone_none, Bool.and_self]
  exact guarded_of hruns s fun s => if drained (swapBegun s e) e then swapDone (swapBegun s e) e else swapBegun s e

/-! ## Fencing -/

/-- EID_FENCE sets the fence; its effects are those of an EID that becomes fenced, and come once (R291). -/
theorem execEidFence_of_fw :
    execEidFence id e s =
      .next (if eidFenced s e then setRoute s e { route s e with fenced := true }
        else fenceEffects (setRoute s e { route s e with fenced := true }) e) :=
  guarded_of (isFw_and_isEid hid he) s _

/-- EID_UNFENCE clears the fence of the route, and that the EID was unreachable (R291). -/
theorem execEidUnfence_of_fw :
    execEidUnfence id e s = .next (setRoute s e { route s e with fenced := false, unreachable := false }) :=
  guarded_of (isFw_and_isEid hid he) s _

end Firmware

/-- ROUTE_SWAP_COMPLETE makes the shadow live once the old route has drained (R294). -/
theorem execRouteSwapComplete_of_drained {s : State} {e : Nat} (hswap : s.route.swapping = some e)
    (hdrained : drained s e = true) : execRouteSwapComplete s = .next (swapDone s e) := by
  simp only [execRouteSwapComplete, hswap]
  exact guarded_of hdrained s _

/-- ROUTE_SWAP_ABORT ends the swap that runs and drops its shadow, whatever EID it names (R294; log 60). -/
theorem execRouteSwapAbort_of_swapping {s : State} {id e : Nat} (hid : isFw id = true)
    (hswap : s.route.swapping = some e) (k : Nat) :
    ∃ u v, u = setRoute s e { route s e with draining := false } ∧
      v = { u with route := { u.route with swapping := none, shadow := tdel u.route.shadow e } } ∧
      execRouteSwapAbort id k s =
        .next (releaseHeld (wb (wb v (ra pgRTE 0x118) 14 false) (ra pgRTE 0x118) 15 true) e) := by
  refine ⟨_, _, rfl, rfl, ?_⟩
  simp only [execRouteSwapAbort, hswap]
  exact guarded_of hid s _

/-- ROUTE_RETURN_DRAIN_DONE, where no swap drains the EID, moves it back with a new ordered set (R280). -/
theorem execRouteReturnDrainDone_of_drained {s : State} {e : Nat} (hdrain : (route s e).draining = true)
    (hswap : s.route.swapping ≠ some e) (hdrained : drained s e = true) :
    execRouteReturnDrainDone e s = .next (releaseHeld (setRoute s e (freshRoute s (route s e))) e) := by
  have hdone : ((route s e).draining && decide (s.route.swapping ≠ some e) && drained s e) = true := by
    rw [hdrain, decide_eq_true hswap, hdrained, Bool.and_self, Bool.and_self]
  rw [execRouteReturnDrainDone]
  exact guarded_of hdone s _

/-! ## Timeouts of messages -/

/-- MSG_TIMEOUT ends the message of an entry that is not FREE with INTERNAL, and records a WARN event (R289). -/
theorem execMsgTimeout_of_open {s : State} {e : Nat} {m : MsgEntry} (hm : tgetD s.route.msgs e {} = m)
    (hopen : m.state ≠ 0) :
    execMsgTimeout e s = .next (event (msgEnd s e m stInternal)
      { source := pgRTE, sev := sevWarn, cls := clLink, loc := e / 32, status := stInternal }) := by
  subst hm
  rw [execMsgTimeout]
  exact guarded_of (decide_eq_true hopen) s _

/-- PUT_CMP_TIMEOUT of a tile that awaits a CMP forgets its messages and fails it with INTERNAL (R290). -/
theorem execPutCmpTimeout_of_waiting {s : State} {h num : Nat} (hwaits : (tileMsgs s h num).isEmpty = false) :
    execPutCmpTimeout h num s =
      .next (failTile { s with cmd := { s.cmd with
        sent := s.cmd.sent.filter fun m => !(decide (m.op = h) && decide (m.tile = num)) } } h num stInternal) := by
  have hsome : (!(tileMsgs s h num).isEmpty) = true := by rw [hwaits, Bool.not_false]
  exact guarded_of hsome s _

/-- Settles O41: each command by its case above; the two clauses of ROUTE_SWAP and of EID_FENCE are the branches of one
equation. The clauses on a swap with nothing to drain and on the EID that an abort names are of the model's choice,
log 60. -/
theorem routeCommandsAct : Obligations.RouteCommandsAct := by
  unfold Obligations.RouteCommandsAct
  refine ⟨?msgTimeout, ?putCmpTimeout, ?swapAtOnce, ?swapBegins, ?swapComplete, ?swapAbort, ?returnDone, ?fence,
    ?fenceAgain, ?unfence⟩
  case msgTimeout => exact fun _ _ _ => execMsgTimeout_of_open
  case putCmpTimeout => exact fun _ _ _ => execPutCmpTimeout_of_waiting
  case swapAtOnce =>
    intro s u v id e hid he hidle hv hu hdrained
    subst hv hu
    exact (execRouteSwap_of_idle hid he hidle).trans (congrArg Host.Outcome.next (if_pos hdrained))
  case swapBegins =>
    intro s u v id e hid he hidle hv hu hdrains
    subst hv hu
    exact (execRouteSwap_of_idle hid he hidle).trans
      (congrArg Host.Outcome.next (if_neg (ne_true_of_eq_false hdrains)))
  case swapComplete => exact fun _ _ => execRouteSwapComplete_of_drained
  case swapAbort => exact fun _ _ _ k hid hswap => execRouteSwapAbort_of_swapping hid hswap k
  case returnDone => exact fun _ _ => execRouteReturnDrainDone_of_drained
  case fence =>
    intro s id e hid he hfree
    exact (execEidFence_of_fw hid he).trans (congrArg Host.Outcome.next (if_neg (ne_true_of_eq_false hfree)))
  case fenceAgain =>
    intro s id e hid he hfenced
    exact (execEidFence_of_fw hid he).trans (congrArg Host.Outcome.next (if_pos hfenced))
  case unfence => exact fun _ _ _ => execEidUnfence_of_fw

end Sys2Proof.Machine
end

section
/-!
PROOFS. CXL.mem at the port, from the link to the home (R107, R308, Table 5-9; the bytes that a response weighs are log
entry 31).
-/
namespace Sys2Proof.Machine

/-- A request from the link that finds none waiting before it, and that passes every test, is counted and begins at its
home (R308, Table 5-9). -/
theorem cxlArrive_eq_home {s u : State} {w : CxlWait} {pa : Nat} {pl : Place} (hfirst : s.weir.cxlHeld = [])
    (htaken : cxlTaken s w pa pl u) :
    cxlArrive s w =
      homeBegin (access (count u pgCXLP (if w.write then 8 else 7) 1) [cxlSub s pl]) (cxlHome s w pa pl) :=
  Option.some.inj ((cxlArrive_taken htaken hfirst).trans (cxlServe_taken htaken))

/-- CXL_MEM_ADMISSION_RETRY serves the oldest request that waits, which leaves the list (R107). -/
theorem execCxlMemAdmissionRetry_of_taken {s r u : State} {w : CxlWait} {ws : List CxlWait} {pa : Nat} {pl : Place}
    (hheld : s.weir.cxlHeld = w :: ws) (hrest : r = { s with weir := { s.weir with cxlHeld := ws } })
    (htaken : cxlTaken r w pa pl u) :
    execCxlMemAdmissionRetry s =
      .next (homeBegin (access (count u pgCXLP (if w.write then 8 else 7) 1) [cxlSub r pl]) (cxlHome r w pa pl)) := by
  subst hrest
  simp only [execCxlMemAdmissionRetry, hheld, cxlServe_taken htaken]

/-- Settles O42: a read and a write are one request, each in its kind, and a retry serves the oldest that waits. The
bytes that the response is charged are the model's choice, log 31; R308 stands in chapter 13. -/
theorem cxlMemRequestsAreServed : Obligations.CxlMemRequestsAreServed := by
  unfold Obligations.CxlMemRequestsAreServed
  refine ⟨?read, ?write, ?retry⟩
  case read =>
    intro s u hpa pa pl hup hfirst htaken
    exact (guarded_of hup s fun s => cxlArrive s _).trans
      (congrArg Host.Outcome.next (cxlArrive_eq_home hfirst htaken))
  case write =>
    intro s u hpa pa data mask poison pl hup hfirst htaken
    exact (guarded_of hup s fun s => cxlArrive s _).trans
      (congrArg Host.Outcome.next (cxlArrive_eq_home hfirst htaken))
  case retry => exact fun _ _ _ _ _ _ _ => execCxlMemAdmissionRetry_of_taken

end Sys2Proof.Machine
end

section
/-!
PROOFS. The configuration side of the CXL port (chapter 13: R301, R303, R305, R306, R311, R316), and the reads over
CXL.io that time out (R61, R152). The places of the PCI registers and the lock of a committed decoder are log entry 91.
-/
namespace Sys2Proof.Machine

/-! ## The configuration space -/

section Config

variable {s : State} {off bit : Nat} (hup : linkUp s = true)

include hup

/-- Before Memory_Active every configuration request is answered with Retry Status (R454). -/
theorem execCxlConfigRequest_of_inactive (write : Bool) (v : W32) (hidle : s.cxl.memActive = false) :
    execCxlConfigRequest write off v s = .next (put s (.reply 0x20001 [off / 4 * 4] [])) := by
  rw [execCxlConfigRequest, guarded_of hup, hidle]
  rfl

variable (hactive : s.cxl.memActive = true) (haligned : off % 4 = 0)

include hactive haligned

/-- A configuration write to an aligned offset is one to its word. -/
theorem execCxlConfigRequest_write (v : W32) : execCxlConfigRequest true off v s = .next (configWrite s off v) := by
  rw [execCxlConfigRequest, guarded_of hup, hactive, Nat.div_mul_cancel (Nat.dvd_of_mod_eq_zero haligned)]
  rfl

/-- A configuration read of an aligned offset answers its word. -/
theorem execCxlConfigRequest_read (v : W32) :
    execCxlConfigRequest false off v s =
      .next (put (configRead s off).2 (.readData off (configRead s off).1)) := by
  rw [execCxlConfigRequest, guarded_of hup, hactive, Nat.div_mul_cancel (Nat.dvd_of_mod_eq_zero haligned)]
  rfl

end Config

/-- A write of a BAR keeps its writable bits (R303, Table 13-2). -/
theorem configWrite_of_bar {off bit : Nat} (s : State) (v : W32) (hplace : off ≠ 4) (hbar : barBit off = some bit) :
    configWrite s off v = { s with cxl := { s.cxl with cfg := tput s.cxl.cfg off (barWord bit v) } } := by
  simp only [configWrite, if_neg hplace, hbar]

/-- A read of a BAR that has been written returns what it keeps. -/
theorem configRead_of_bar {s : State} {off bit : Nat} {x : W32} (hbar : barBit off = some bit)
    (hkept : tget s.cxl.cfg off = some x) : configRead s off = (x, s) := by
  simp only [configRead, hbar, hkept, Option.getD_some]

/-! ## Decoders -/

section Decoder

variable {s : State} {d : Nat} (hup : linkUp s = true) (hd : d < 4)

include hup hd

/-- What HDM_DECODER_COMMIT asks of the link and of the decoder's number. -/
theorem linkUp_and_isDecoder : (linkUp s && decide (d < 4)) = true := by
  rw [hup, decide_eq_true hd, Bool.and_self]

/-- The commit of a decoder is taken back (R306; log entry 91). -/
theorem execHdmDecoderCommit_of_none (b n p : Nat) :
    execHdmDecoderCommit d b n p none s =
      .next (wb { s with cxl := { s.cxl with decoders := tdel s.cxl.decoders d } } (ra pgCXLP 0x114) (4 + d)
        false) := by
  rw [execHdmDecoderCommit, guarded_of (linkUp_and_isDecoder hup hd)]
  rfl

variable {b n p w : Nat} (hopen : rb s (ra pgCXLP 0x114) (4 + d) = false)

include hopen

/-- A decoder that interleaves or reaches beyond DPA_SIZE answers Error Not Committed (R306). -/
theorem execHdmDecoderCommit_of_refused
    (hrefused : w ≠ 1 ∨ p / 0x10000000 * 0x10000000 + n / 0x10000000 * 0x10000000 >
      rf s (ra pgCXLP 0x110) 0 16 * 0x10000000) :
    execHdmDecoderCommit d b n p (some w) s = .next (put s (.reply 0x20002 [d, 1] [])) := by
  have hground : some w ≠ some 1 ∨ rf s (ra pgCXLP 0x110) 0 16 * 0x10000000 <
      p / 0x10000000 * 0x10000000 + n / 0x10000000 * 0x10000000 :=
    hrefused.imp_left fun hw h => hw (Option.some.inj h)
  simp only [execHdmDecoderCommit, guarded_of (linkUp_and_isDecoder hup hd), hopen, if_pos hground, Option.isNone_some,
    Bool.false_eq_true, if_false]

/-- A decoder without interleave that stays within DPA_SIZE is committed with its range in units of 256 MiB (R306). -/
theorem execHdmDecoderCommit_of_fits
    (hfits : p / 0x10000000 * 0x10000000 + n / 0x10000000 * 0x10000000 ≤ rf s (ra pgCXLP 0x110) 0 16 * 0x10000000) :
    execHdmDecoderCommit d b n p (some 1) s =
      .next (put (wb { s with cxl := { s.cxl with decoders := tput s.cxl.decoders d {
          base := b / 0x10000000 * 0x10000000, size := n / 0x10000000 * 0x10000000,
          dpa := p / 0x10000000 * 0x10000000 } } } (ra pgCXLP 0x114) (4 + d) true) (.reply 0x20002 [d, 0] [])) := by
  have hnone : ¬ (some 1 ≠ some 1 ∨ rf s (ra pgCXLP 0x110) 0 16 * 0x10000000 <
      p / 0x10000000 * 0x10000000 + n / 0x10000000 * 0x10000000) :=
    not_or.mpr ⟨not_not_intro rfl, hfits.not_gt⟩
  simp only [execHdmDecoderCommit, guarded_of (linkUp_and_isDecoder hup hd), hopen, if_neg hnone, Option.isNone_some,
    Bool.false_eq_true, if_false]

end Decoder

/-! ## MSI-X, DOE and CDAT -/

/-- A write to the mask of a vector of the table opens or closes it and sends what it unmasks (R305). -/
theorem execMsixUnmask_vector {s : State} {v : Nat} (hup : linkUp s = true) (hv : v < 2048) (masked : Bool) :
    execMsixUnmask (.vector v masked) s =
      .next (msixFlush { s with cxl := { s.cxl with
        vecOpen := if masked then s.cxl.vecOpen.erase v else insNat v s.cxl.vecOpen } }) := by
  rw [execMsixUnmask, guarded_of hup]
  exact congrArg Host.Outcome.next (if_neg hv.not_ge)

/-- DOE discovery answers the protocol at each index, Table 13-1's three, and the end of the list beyond. -/
theorem execDoeDiscovery_of_linkUp {s : State} (hup : linkUp s = true) : ∀ i,
    execDoeDiscovery i s =
      .next (put s (.reply 0x20003
        (if i = 0 then [0x0001, 0, 1] else if i = 1 then [0x0001, 1, 2] else if i = 2 then [0x1E98, 2, 0]
          else [0xFFFF, 0, 0]) []))
  | 0 | 1 | 2 | _ + 3 => guarded_of hup s _

/-- CDAT answers the memory range, the two latencies and the two bandwidths (R311). -/
theorem execCdatTableAccess_of_linkUp {s : State} (hup : linkUp s = true) : ∀ {i}, i ≤ 4 →
    execCdatTableAccess i s =
      .next (put s (.reply 0x20004
        (if i = 0 then [0, 0, rf s (ra pgCXLP 0x110) 0 16 * 0x10000000, 1] else if i = 1 then [1, 1, 400, 2]
          else if i = 2 then [1, 2, 400, 3] else if i = 3 then [1, 4, s.cxl.bandwidth, 4]
          else [1, 5, s.cxl.bandwidth, 0xFFFF]) []))
  | 0, _ | 1, _ | 2, _ | 3, _ | 4, _ => guarded_of hup s _

/-! ## Reads over CXL.io -/

/-- A table read of the host that times out ends its walk with fault 5 (R61). -/
theorem execCxlioReadTimeout_walk {s : State} {i : Nat} {w : Walk}
    (hwalk : s.xlt.walks.find? (fun w => w.id = i) = some w) (hhost : viewHost w.view = true) :
    execCxlioReadTimeout (.walk i) s = .next (walkFault s w 5) := by
  simp only [execCxlioReadTimeout, hwalk]
  exact guarded_of hhost s _

/-- A ring read of the host that times out, of a queue that reads, fails (R152). -/
theorem execCxlioReadTimeout_ring {s : State} {q : Nat} (hq : q < 256) (hen : sqEn s q = true)
    (hhost : sqHost s q = true) (hentry : sqHead s q ≠ sqTail s q) (hfree : cqFree s (cqNum s q) = true) :
    execCxlioReadTimeout (.ring q) s = .next (ringFail s q) := by
  have hreads : (decide (q < 256) && sqEn s q && sqHost s q && decide (sqHead s q ≠ sqTail s q) &&
      cqFree s (cqNum s q)) = true := by
    simp only [decide_eq_true hq, hen, hhost, decide_eq_true hentry, hfree, Bool.and_self]
  rw [execCxlioReadTimeout, guarded_of hreads]

/-- Settles O43: each command by its case above; those that ask only for the link are what they do once it is up. The
rules of the port stand in chapter 13. -/
theorem cxlLinkCommandsAct : Obligations.CxlLinkCommandsAct := by
  unfold Obligations.CxlLinkCommandsAct
  refine ⟨?hotReset, ?writeBar, ?readBar, ?writeCommand, ?retryStatus, ?ltr, ?commit, ?refuse, ?uncommit, ?unmask,
    ?mask, ?enable, ?functionMask, ?busMaster, ?ltrEnable, ?doe, ?cdat, ?up, ?walk, ?ring⟩
  case hotReset =>
    rintro s _ rfl
    rfl
  case writeBar =>
    intro s off b v hup hactive haligned hplace hbar
    exact (execCxlConfigRequest_write hup hactive haligned v).trans
      (congrArg Host.Outcome.next (configWrite_of_bar s v hplace hbar))
  case readBar =>
    intro s off b v x hup hactive haligned hbar hkept
    refine (execCxlConfigRequest_read hup hactive haligned v).trans ?_
    rw [configRead_of_bar hbar hkept]
  case writeCommand => exact fun s v hup hactive => execCxlConfigRequest_write hup hactive rfl v
  case retryStatus => exact fun s off write v hup => execCxlConfigRequest_of_inactive hup write v
  case ltr => exact fun s v => execLtrWrite_of_enabled v
  case commit =>
    rintro s d b n p _ hup hd hopen rfl hfits
    exact ⟨_, rfl, execHdmDecoderCommit_of_fits hup hd hopen hfits⟩
  case refuse => exact fun _ _ b _ _ _ hup hd hopen => execHdmDecoderCommit_of_refused hup hd hopen
  case uncommit => exact fun s d b n p _ hup hd => execHdmDecoderCommit_of_none hup hd b n p
  case unmask => exact fun s v hup hv => execMsixUnmask_vector hup hv false
  case mask => exact fun s v hup hv => execMsixUnmask_vector hup hv true
  case enable | functionMask | busMaster | ltrEnable => exact fun s _ hup => guarded_of hup s fun _ => _
  case doe => exact fun s i hup => execDoeDiscovery_of_linkUp hup i
  case cdat => exact fun s i hup => execCdatTableAccess_of_linkUp hup
  case up => exact fun s => rfl
  case walk => exact fun s i w => execCxlioReadTimeout_walk
  case ring => exact fun s q => execCxlioReadTimeout_ring

end Sys2Proof.Machine
end

section
/-!
PROOFS. The commands of the memory-device mailbox (chapter 13: R310, R312, Table 13-4). Its return codes and log
identifiers are log entry 32.
-/
namespace Sys2Proof.Machine

section MailboxCommand

variable {s : State} (hup : linkUp s = true)

include hup

/-- While the link is up a mailbox command does what it says. -/
theorem mailbox_of_linkUp (f : State → State) : mailbox s f = .next (f s) := guarded_of hup s f

/-! ## Event records -/

/-- GET_EVENT_RECORDS of a log that the device does not have. -/
theorem execGetEventRecords_of_noLog {l : Nat} (hl : 4 ≤ l) :
    execGetEventRecords l s = .next (mbReply s 0x0100 mbInvalidLog []) :=
  (mailbox_of_linkUp hup _).trans (congrArg Host.Outcome.next (if_pos hl))

/-- GET_EVENT_RECORDS returns the overflow, the count of lost records and the records of the log (R312). -/
theorem execGetEventRecords_of_log {l : Nat} (hl : l < 4) :
    execGetEventRecords l s =
      .next (mbReply s 0x0100 mbSuccess
        ((if (tgetD s.cxl.logs l {}).overflow then 1 else 0) :: (tgetD s.cxl.logs l {}).lost ::
          (tgetD s.cxl.logs l {}).records.length :: (tgetD s.cxl.logs l {}).records.flatMap cxlRecordWords)) :=
  (mailbox_of_linkUp hup _).trans (congrArg Host.Outcome.next (if_neg hl.not_ge))

/-- CLEAR_EVENT_RECORDS that names the oldest records, in order, drops them, and all where it names none (R312). -/
theorem execClearEventRecords_of_oldest {l : Nat} {hs : List Nat} (hl : l < 4)
    (holdest : ((tgetD s.cxl.logs l {}).records.map fun r => r.handle).take hs.length = hs) :
    execClearEventRecords l hs s =
      .next (mbReply { s with cxl := { s.cxl with logs := tset {} s.cxl.logs l { tgetD s.cxl.logs l {} with
        records := if hs.isEmpty then [] else (tgetD s.cxl.logs l {}).records.drop hs.length,
        overflow := false, lost := 0 } } } 0x0101 mbSuccess []) := by
  rw [execClearEventRecords, mailbox_of_linkUp hup]
  exact congrArg Host.Outcome.next ((if_neg hl.not_ge).trans (if_neg (not_not_intro holdest)))

/-! ## The interrupt policy, the time and the logs -/

/-- SET_EVENT_INTERRUPT_POLICY takes a setting for each of the four logs, none or MSI-X (R310). -/
theorem execSetEventInterruptPolicy_eq (p : List Nat) :
    execSetEventInterruptPolicy p s =
      .next (if p.length = 4 ∧ p.all (· ≤ 1) = true then
          mbReply { s with cxl := { s.cxl with policy := p } } 0x0103 mbSuccess []
        else mbReply s 0x0103 mbInvalidInput []) :=
  mailbox_of_linkUp hup _

/-- GET_TIMESTAMP returns the host's time, advanced by the device time since it was set (R310). -/
theorem execGetTimestamp_of_set {a : Nat} (hset : s.cxl.stampAt = some a) :
    execGetTimestamp s = .next (mbReply s 0x0300 mbSuccess [s.cxl.stamp + (s.now - a)]) := by
  simp only [execGetTimestamp, mailbox_of_linkUp hup, hset]

/-- GET_TIMESTAMP returns 0 before the host has set the time (R310). -/
theorem execGetTimestamp_of_unset (hunset : s.cxl.stampAt = none) :
    execGetTimestamp s = .next (mbReply s 0x0300 mbSuccess [0]) := by
  simp only [execGetTimestamp, mailbox_of_linkUp hup, hunset]

/-- GET_LOG answers a part of the Command Effects Log, and nothing outside it (R310). -/
theorem execGetLog_eq (u : BitVec 128) (o n : Nat) :
    execGetLog u o n s =
      .next (if u.toNat ≠ celUuid ∨ celBytes.length < o + n then mbReply s 0x0401 mbInvalidInput []
        else mbReply s 0x0401 mbSuccess [] ((celBytes.drop o).take n)) :=
  mailbox_of_linkUp hup _

/-! ## Health and the opcodes outside the list -/

/-- GET_HEALTH_INFO returns the die temperature and two corrected-error counts, which are a free value (R310; log
entry 8). -/
theorem execGetHealthInfo_of_drawn {u : State} {v : BitVec 64} (hdrawn : drawFree s = (v, u)) :
    execGetHealthInfo s =
      .next (mbReply u 0x4200 mbSuccess [rf u (ra pgPWR 0x110) 0 8, v.toNat % 2 ^ 32, v.toNat / 2 ^ 32]) := by
  simp only [execGetHealthInfo, mailbox_of_linkUp hup, hdrawn]

/-- An opcode outside Table 13-4's list answers Unsupported (R310). -/
theorem execUnsupportedMailboxOpcode_of_unlisted {o : Nat}
    (hunlisted : o ∉ [0x0100, 0x0101, 0x0102, 0x0103, 0x0200, 0x0300, 0x0301, 0x0400, 0x0401, 0x4000, 0x4100,
      0x4200]) :
    execUnsupportedMailboxOpcode o s = .next (mbReply s o mbUnsupported []) :=
  (mailbox_of_linkUp hup _).trans
    (congrArg Host.Outcome.next (if_neg fun h => hunlisted (List.contains_iff_mem.mp h)))

end MailboxCommand

/-- Settles O44: each command by its case above, and those that have one case are what they do once the link is up. The
return codes are the model's choice, log 32; the rules of the mailbox stand in chapter 13. -/
theorem cxlMailboxCommandsAnswer : Obligations.CxlMailboxCommandsAnswer := by
  unfold Obligations.CxlMailboxCommandsAnswer
  refine ⟨?getRecords, ?getNoLog, ?clearAll, ?clearOldest, ?getPolicy, ?setPolicy, ?refusePolicy, ?firmware, ?time,
    ?noTime, ?setTime, ?logs, ?log, ?refuseLog, ?identify, ?partition, ?health, ?unsupported⟩
  case getRecords => exact fun s l hup hl => execGetEventRecords_of_log hup hl
  case getNoLog => exact fun s l hup hl => execGetEventRecords_of_noLog hup hl
  case clearAll => exact fun s l hup hl => execClearEventRecords_of_oldest hup hl rfl
  case clearOldest =>
    intro s l hs hup hl hsome holdest
    refine (execClearEventRecords_of_oldest hup hl holdest).trans ?_
    rw [if_neg (mt List.isEmpty_iff.mp hsome)]
    rfl
  case getPolicy | firmware | logs | identify | partition => exact fun s hup => mailbox_of_linkUp hup fun _ => _
  case setPolicy =>
    intro s p hup hlen hsettings
    exact (execSetEventInterruptPolicy_eq hup p).trans (congrArg Host.Outcome.next (if_pos ⟨hlen, hsettings⟩))
  case refusePolicy =>
    intro s p hup hbad
    refine (execSetEventInterruptPolicy_eq hup p).trans (congrArg Host.Outcome.next (if_neg ?_))
    rintro ⟨hlen, hsettings⟩
    exact hbad.elim (absurd hlen) (ne_true_of_eq_false · hsettings)
  case time => exact fun s a hup => execGetTimestamp_of_set hup
  case noTime => exact fun s hup => execGetTimestamp_of_unset hup
  case setTime => exact fun s v hup => mailbox_of_linkUp hup fun _ => _
  case log =>
    intro s u o n hup hu hfits
    exact (execGetLog_eq hup u o n).trans
      (congrArg Host.Outcome.next (if_neg (not_or.mpr ⟨not_not_intro hu, hfits.not_gt⟩)))
  case refuseLog =>
    exact fun s u o n hup hbad => (execGetLog_eq hup u o n).trans (congrArg Host.Outcome.next (if_pos hbad))
  case health => exact fun s u v hup => execGetHealthInfo_of_drawn hup
  case unsupported => exact fun s o hup => execUnsupportedMailboxOpcode_of_unlisted hup

end Sys2Proof.Machine
end

section
/-!
PROOFS. The mailbox channels of chapter 13 (R313 to R316, Table 13-7).
-/
namespace Sys2Proof.Machine

/-! ## The binding -/

/-- Holhild writes the binding of the channel that its index names into an unlocked MBXC, a valid one for two different
identities (R313). -/
theorem execMailboxBindWrite_of_allowed {s : State} {v : W32} {b : MbxBind} (hopen : locked s pgMBXC = false)
    (hb : b = {
      sender := if ri s 2 (ra pgMBXC 0x100) % 64 = 63 then 2 else fld v.toNat 0 13
      receiver := fld v.toNat 13 13
      valid := v.toNat.testBit 26 })
    (hallowed : b.valid = false ∨
      (b.sender ≠ b.receiver ∧ mbxIdentity b.sender = true ∧ mbxIdentity b.receiver = true)) :
    execMailboxBindWrite 2 v s =
      .next { s with mbx := { s.mbx with binds := tset {} s.mbx.binds (ri s 2 (ra pgMBXC 0x100) % 64) b } } := by
  have hfine : (b.valid && (decide (b.sender = b.receiver) || !mbxIdentity b.sender || !mbxIdentity b.receiver))
      = false := by
    rcases hallowed with hinvalid | ⟨hdiffer, hsender, hreceiver⟩
    · rw [hinvalid, Bool.false_and]
    · rw [decide_eq_false hdiffer, hsender, hreceiver, Bool.not_true, Bool.or_self, Bool.or_self, Bool.and_false]
  subst hb
  simp only [execMailboxBindWrite, hfine, hopen, decide_true, Bool.not_false, Bool.and_self, guarded_true]

/-! ## A channel's messages by its identities -/

section Channel

variable {s : State} {ch : Nat} (hch : ch < 64)

include hch

/-- A write of MSG_CTL with SEND posts the message or counts an error (R314, R315). -/
theorem execMailboxSend_eq {v : W32} (hsend : v.toNat.testBit 9 = true) (id : Nat) :
    execMailboxSend id ch v s =
      .next (if !(mbxBind s ch).valid || decide ((mbxBind s ch).sender ≠ id) || mbxFull s ch ||
            decide (fld v.toNat 0 9 = 0) || decide (256 < fld v.toNat 0 9) || !mbxLocked s ch then
          errInc s (pgMBX + ch) 1
        else mbxPost s ch (fld v.toNat 0 9)) := by
  have hsends : (decide (ch < 64) && v.toNat.testBit 9) = true := by
    rw [decide_eq_true hch, hsend, Bool.and_self]
  rw [execMailboxSend, guarded_of hsends]

/-- RETRACT empties a full channel for its sender, and counts an error for another (R314, R315). -/
theorem execMailboxRetract_eq (id : Nat) :
    execMailboxRetract id ch s =
      .next (if !(mbxBind s ch).valid || decide ((mbxBind s ch).sender ≠ id) then errInc s (pgMBX + ch) 1
        else if mbxFull s ch then mbxEmptyInt (wb (mbxClear s ch) (mbxStat ch) 1 true) ch
        else s) := by
  rw [execMailboxRetract, guarded_of (decide_eq_true hch)]

/-- ACK empties a full channel for its receiver, and counts an error for another (R314, R315). -/
theorem execMailboxAck_eq (id : Nat) :
    execMailboxAck id ch s =
      .next (if !(mbxBind s ch).valid || decide ((mbxBind s ch).receiver ≠ id) then errInc s (pgMBX + ch) 1
        else if mbxFull s ch then fatalTaken (mbxEmptyInt (mbxClear s ch) ch) ch
        else s) := by
  rw [execMailboxAck, guarded_of (decide_eq_true hch)]

end Channel

/-- A channel refuses an identity where its binding is not valid or names another. -/
theorem mbxRefuses_iff {valid : Bool} {named id : Nat} :
    (!valid || decide (named ≠ id)) = true ↔ valid = false ∨ named ≠ id := by
  rw [Bool.or_eq_true, Bool.not_eq_true', decide_eq_true_iff]

/-- A channel does not refuse the identity that its valid binding names. -/
theorem mbxRefuses_named {valid : Bool} {named id : Nat} (hvalid : valid = true) (hnamed : named = id) :
    (!valid || decide (named ≠ id)) = false := by
  rw [hvalid, hnamed, Bool.not_true, decide_eq_false (not_not_intro rfl), Bool.or_self]

/-! ## The partner's messages -/

/-- A Runnel packet that has come is acted on. -/
theorem onRunnel_of_taken {s u : State} {m : RunMsg} (htaken : takeRunnel s m = some u) (f : State → State) :
    onRunnel s m f = .next (f u) := by
  simp only [onRunnel, htaken]

section Packet

variable {s u : State} {ch : Nat} {data : Bytes} (hch : ch < 64) (hvalid : (mbxBind s ch).valid = true)

include hch hvalid

/-- A packet for a channel of the table with a valid binding is not dropped. -/
theorem mailboxPacket_bound : ¬ (64 ≤ ch ∨ ¬ (mbxBind s ch).valid = true) :=
  not_or.mpr ⟨hch.not_ge, not_not_intro hvalid⟩

/-- The partner's message is copied into the empty channel of the same number (R316). -/
theorem execMailboxPacket_message (htaken : takeRunnel s (runMailbox ch 0 data) = some u)
    (hsender : (mbxBind s ch).sender = 4) (hempty : mbxFull u ch = false) (hlocked : mbxLocked u ch = true)
    (hsome : data ≠ []) (hlen : data.length ≤ 256) :
    execMailboxPacket ch false data s =
      .next (mbxPost (mbxData u ch 64 (fitBytes 256 data) 0) ch data.length) := by
  have htakes : (mbxBind s ch).sender = 4 ∧ ¬ mbxFull u ch = true ∧ mbxLocked u ch = true ∧ data ≠ [] ∧
      data.length ≤ 256 :=
    ⟨hsender, ne_true_of_eq_false hempty, hlocked, hsome, hlen⟩
  refine (onRunnel_of_taken htaken _).trans (congrArg Host.Outcome.next ?_)
  exact (if_neg (mailboxPacket_bound hch hvalid)).trans (if_pos htakes)

/-- The partner's ACK empties the full channel of the same number (R316). -/
theorem execMailboxPacket_ack (htaken : takeRunnel s (runMailbox ch 1 data) = some u)
    (hreceiver : (mbxBind s ch).receiver = 4) (hfull : mbxFull u ch = true) :
    execMailboxPacket ch true data s = .next (fatalTaken (mbxEmptyInt (mbxClear u ch) ch) ch) := by
  have htakes : (mbxBind s ch).receiver = 4 ∧ mbxFull u ch = true := ⟨hreceiver, hfull⟩
  refine (onRunnel_of_taken htaken _).trans (congrArg Host.Outcome.next ?_)
  exact (if_neg (mailboxPacket_bound hch hvalid)).trans (if_pos htakes)

end Packet

/-- A receiver that becomes LIVE is woken for the message that waits (R316). -/
theorem execRxStateLive_of_waiting {s : State} {ch : Nat} (hch : ch < 64) (hfull : mbxFull s ch = true)
    (hlive : mbxRx s ch = 0) : execRxStateLive ch s = .next (mbxWakeEvent s ch) :=
  guarded_of (by rw [decide_eq_true hch, hfull, decide_eq_true hlive, Bool.and_self, Bool.and_self]) s _

/-- Settles O45: SEND, RETRACT and ACK each have one equation, whose first test is that of the identity; the partner's
packets and the others by their cases above. -/
theorem mailboxCommandsMoveMessages : Obligations.MailboxCommandsMoveMessages := by
  unfold Obligations.MailboxCommandsMoveMessages
  refine ⟨?bind, ?send, ?retract, ?ack, ?notSender, ?notReceiver, ?message, ?partnerAck, ?live⟩
  case bind => exact fun s v b => execMailboxBindWrite_of_allowed
  case send =>
    intro s id ch v hch hsend hvalid hsender hempty hpos hlen hlocked
    have hzero : decide (fld v.toNat 0 9 = 0) = false := decide_eq_false (Nat.one_le_iff_ne_zero.mp hpos)
    have hlong : decide (256 < fld v.toNat 0 9) = false := decide_eq_false hlen.not_gt
    refine (execMailboxSend_eq hch hsend id).trans (congrArg Host.Outcome.next (if_neg ?_))
    rw [mbxRefuses_named hvalid hsender, hempty, hzero, hlong, hlocked]
    exact Bool.false_ne_true
  case retract =>
    intro s id ch hch hvalid hsender hfull
    refine (execMailboxRetract_eq hch id).trans (congrArg Host.Outcome.next ?_)
    exact (if_neg (ne_true_of_eq_false (mbxRefuses_named hvalid hsender))).trans (if_pos hfull)
  case ack =>
    intro s id ch hch hvalid hreceiver hfull
    refine (execMailboxAck_eq hch id).trans (congrArg Host.Outcome.next ?_)
    exact (if_neg (ne_true_of_eq_false (mbxRefuses_named hvalid hreceiver))).trans (if_pos hfull)
  case notSender =>
    intro s id ch v hch hsend hother
    have hrefuses := mbxRefuses_iff.mpr hother
    constructor
    · refine (execMailboxSend_eq hch hsend id).trans (congrArg Host.Outcome.next (if_pos ?_))
      rw [hrefuses]
      simp only [Bool.true_or]
    · exact (execMailboxRetract_eq hch id).trans (congrArg Host.Outcome.next (if_pos hrefuses))
  case notReceiver =>
    intro s id ch hch hother
    exact (execMailboxAck_eq hch id).trans (congrArg Host.Outcome.next (if_pos (mbxRefuses_iff.mpr hother)))
  case message =>
    intro s u ch data htaken hch hvalid
    exact execMailboxPacket_message hch hvalid htaken
  case partnerAck =>
    intro s u ch data htaken hch hvalid
    exact execMailboxPacket_ack hch hvalid htaken
  case live => exact fun s ch => execRxStateLive_of_waiting

end Sys2Proof.Machine
end

section
/-!
PROOFS. What every command and every step keeps: the queue's rest, what has left the block, the canonical form, and each
part of the state that the command does not touch. The files Laws/Keeps say it for each operation; here they are put
together over the opcode table.
-/
namespace Sys2Proof.Machine

/-! ## Sets of parts as numbers -/

theorem Part.ofNat_index (p : Part) : Part.ofNat p.index = p := by cases p <;> rfl

theorem Part.index_lt (p : Part) : p.index < 27 := by cases p <;> decide

/-- Every bit of `n`, read as `Keeps` reads it, stands for a part of the list. -/
def bitsWithin (n : Nat) (ps : List Part) : Bool :=
  ((List.range 27).map Part.ofNat).all fun p => !n.testBit p.index || ps.contains p

/-- The bit of a part outside the list is clear. -/
theorem testBit_of_bitsWithin {n : Nat} {ps : List Part} {p : Part} (h : bitsWithin n ps = true) (hp : p ∉ ps) :
    n.testBit p.index = false := by
  have hlisted : p ∈ (List.range 27).map Part.ofNat :=
    List.mem_map.mpr ⟨p.index, List.mem_range.mpr p.index_lt, p.ofNat_index⟩
  have hbit := List.all_eq_true.mp h p hlisted
  simpa only [Bool.or_eq_true, List.contains_iff_mem, or_iff_left hp, Bool.not_eq_true'] using hbit

/-! ## One command -/

/-- Every command keeps what `Keeps` says, with changes in parts that it touches alone: one operation's lemma for each
row of the opcode table. -/
theorem exec_keeps (i : Instr) (s : State) : ∃ n, KeepsRes n s (exec i s) ∧ bitsWithin n (touches i) = true := by
  cases i with
  | registerWrite id addr size value =>
    exact ⟨_, execRegisterWrite_keeps id addr size value s (Nat.and_self _) (.refl _ s), rfl⟩
  | alloc h => exact ⟨_, execAlloc_keeps h s (Nat.and_self _) (.refl _ s), rfl⟩
  | free h => exact ⟨_, execFree_keeps h s (Nat.and_self _) (.refl _ s), rfl⟩
  | freeComplete h => exact ⟨_, execFreeComplete_keeps h s (Nat.and_self _) (.refl _ s), rfl⟩
  | resize h => exact ⟨_, execResize_keeps h s (Nat.and_self _) (.refl _ s), rfl⟩
  | resizeShrinkComplete h => exact ⟨_, execResizeShrinkComplete_keeps h s (Nat.and_self _) (.refl _ s), rfl⟩
  | resizeGrowResume h => exact ⟨_, execResizeGrowResume_keeps h s (Nat.and_self _) (.refl _ s), rfl⟩
  | setAttr h => exact ⟨_, execSetAttr_keeps h s (Nat.and_self _) (.refl _ s), rfl⟩
  | setAttrComplete h => exact ⟨_, execSetAttrComplete_keeps h s (Nat.and_self _) (.refl _ s), rfl⟩
  | pin h => exact ⟨_, execPin_keeps h s (Nat.and_self _) (.refl _ s), rfl⟩
  | pinComplete h => exact ⟨_, execPinComplete_keeps h s (Nat.and_self _) (.refl _ s), rfl⟩
  | unpin h => exact ⟨_, execUnpin_keeps h s (Nat.and_self _) (.refl _ s), rfl⟩
  | publish h => exact ⟨_, execPublish_keeps h s (Nat.and_self _) (.refl _ s), rfl⟩
  | versionUnitsRelease region version =>
    exact ⟨_, execVersionUnitsRelease_keeps region version s (Nat.and_self _) (.refl _ s), rfl⟩
  | xltInval h => exact ⟨_, execXltInval_keeps h s (Nat.and_self _) (.refl _ s), rfl⟩
  | xltInvalComplete h => exact ⟨_, execXltInvalComplete_keeps h s (Nat.and_self _) (.refl _ s), rfl⟩
  | ctxIdxWrite id value => exact ⟨_, execCtxIdxWrite_keeps id value s (Nat.and_self _) (.refl _ s), rfl⟩
  | ctxData3Write id value => exact ⟨_, execCtxData3Write_keeps id value s (Nat.and_self _) (.refl _ s), rfl⟩
  | translationPrefetch core => exact ⟨_, execTranslationPrefetch_keeps core s (Nat.and_self _) (.refl _ s), rfl⟩
  | walkEntryRead walk read => exact ⟨_, execWalkEntryRead_keeps walk read s (Nat.and_self _) (.refl _ s), rfl⟩
  | rdShared port pkt => exact ⟨_, execRdShared_keeps port pkt s (Nat.and_self _) (.refl _ s), rfl⟩
  | rdOwn port pkt => exact ⟨_, execRdOwn_keeps port pkt s (Nat.and_self _) (.refl _ s), rfl⟩
  | upgrade port pkt => exact ⟨_, execUpgrade_keeps port pkt s (Nat.and_self _) (.refl _ s), rfl⟩
  | rdOnce port pkt => exact ⟨_, execRdOnce_keeps port pkt s (Nat.and_self _) (.refl _ s), rfl⟩
  | wrOnce port pkt => exact ⟨_, execWrOnce_keeps port pkt s (Nat.and_self _) (.refl _ s), rfl⟩
  | wrData port pkt => exact ⟨_, execWrData_keeps port pkt s (Nat.and_self _) (.refl _ s), rfl⟩
  | wbDirty port pkt => exact ⟨_, execWbDirty_keeps port pkt s (Nat.and_self _) (.refl _ s), rfl⟩
  | evict port pkt => exact ⟨_, execEvict_keeps port pkt s (Nat.and_self _) (.refl _ s), rfl⟩
  | ackShr port pkt => exact ⟨_, execAckShr_keeps port pkt s (Nat.and_self _) (.refl _ s), rfl⟩
  | ackInv port pkt => exact ⟨_, execAckInv_keeps port pkt s (Nat.and_self _) (.refl _ s), rfl⟩
  | ackMiss port pkt => exact ⟨_, execAckMiss_keeps port pkt s (Nat.and_self _) (.refl _ s), rfl⟩
  | ackClean port pkt => exact ⟨_, execAckClean_keeps port pkt s (Nat.and_self _) (.refl _ s), rfl⟩
  | holdData port pkt => exact ⟨_, execHoldData_keeps port pkt s (Nat.and_self _) (.refl _ s), rfl⟩
  | transactionClose line => exact ⟨_, execTransactionClose_keeps line s (Nat.and_self _) (.refl _ s), rfl⟩
  | recallTimeout line agent => exact ⟨_, execRecallTimeout_keeps line agent s (Nat.and_self _) (.refl _ s), rfl⟩
  | directorySweepDone agent => exact ⟨_, execDirectorySweepDone_keeps agent s (Nat.and_self _) (.refl _ s), rfl⟩
  | agentDataWrite id value => exact ⟨_, execAgentDataWrite_keeps id value s (Nat.and_self _) (.refl _ s), rfl⟩
  | agentFence id agent => exact ⟨_, execAgentFence_keeps id agent s (Nat.and_self _) (.refl _ s), rfl⟩
  | agentUnfence id agent => exact ⟨_, execAgentUnfence_keeps id agent s (Nat.and_self _) (.refl _ s), rfl⟩
  | schedulerStartUnit sched => exact ⟨_, execSchedulerStartUnit_keeps sched s (Nat.and_self _) (.refl _ s), rfl⟩
  | gateCommit id port value => exact ⟨_, execGateCommit_keeps id port value s (Nat.and_self _) (.refl _ s), rfl⟩
  | gateCycleStart port => exact ⟨_, execGateCycleStart_keeps port s (Nat.and_self _) (.refl _ s), rfl⟩
  | gateWindowBoundary port => exact ⟨_, execGateWindowBoundary_keeps port s (Nat.and_self _) (.refl _ s), rfl⟩
  | tileAdmissionRetry op tile => exact ⟨_, execTileAdmissionRetry_keeps op tile s (Nat.and_self _) (.refl _ s), rfl⟩
  | cacheFillDone sub => exact ⟨_, execCacheFillDone_keeps sub s (Nat.and_self _) (.refl _ s), rfl⟩
  | cacheReleaseDone sub => exact ⟨_, execCacheReleaseDone_keeps sub s (Nat.and_self _) (.refl _ s), rfl⟩
  | epochEnd => exact ⟨_, execEpochEnd_keeps s (Nat.and_self _) (.refl _ s), rfl⟩
  | cisternPromotionDone sub failed =>
    exact ⟨_, execCisternPromotionDone_keeps sub failed s (Nat.and_self _) (.refl _ s), rfl⟩
  | lehrDemoteStart => exact ⟨_, execLehrDemoteStart_keeps s (Nat.and_self _) (.refl _ s), rfl⟩
  | lehrDemotionCommit sub => exact ⟨_, execLehrDemotionCommit_keeps sub s (Nat.and_self _) (.refl _ s), rfl⟩
  | nvmeCmdTimeout drive sub => exact ⟨_, execNvmeCmdTimeout_keeps drive sub s (Nat.and_self _) (.refl _ s), rfl⟩
  | driveFailure drive => exact ⟨_, execDriveFailure_keeps drive s (Nat.and_self _) (.refl _ s), rfl⟩
  | reservationPreemptDone drive =>
    exact ⟨_, execReservationPreemptDone_keeps drive s (Nat.and_self _) (.refl _ s), rfl⟩
  | cisternEnable id value => exact ⟨_, execCisternEnable_keeps id value s (Nat.and_self _) (.refl _ s), rfl⟩
  | migrate h => exact ⟨_, execMigrate_keeps h s (Nat.and_self _) (.refl _ s), rfl⟩
  | migrateMoveDone h => exact ⟨_, execMigrateMoveDone_keeps h s (Nat.and_self _) (.refl _ s), rfl⟩
  | sqDoorbell id q value => exact ⟨_, execSqDoorbell_keeps id q value s (Nat.and_self _) (.refl _ s), rfl⟩
  | doorbellPacket port pkt => exact ⟨_, execDoorbellPacket_keeps port pkt s (Nat.and_self _) (.refl _ s), rfl⟩
  | takeEntry q read => exact ⟨_, execTakeEntry_keeps q read s (Nat.and_self _) (.refl _ s), rfl⟩
  | sqCfgWrite id q value => exact ⟨_, execSqCfgWrite_keeps id q value s (Nat.and_self _) (.refl _ s), rfl⟩
  | cqCfgWrite id q value => exact ⟨_, execCqCfgWrite_keeps id q value s (Nat.and_self _) (.refl _ s), rfl⟩
  | cqHeadWrite id q value => exact ⟨_, execCqHeadWrite_keeps id q value s (Nat.and_self _) (.refl _ s), rfl⟩
  | stream h => exact ⟨_, execStream_keeps h s (Nat.and_self _) (.refl _ s), rfl⟩
  | descriptorFetchDone h => exact ⟨_, execDescriptorFetchDone_keeps h s (Nat.and_self _) (.refl _ s), rfl⟩
  | updateBlockFetchDone h => exact ⟨_, execUpdateBlockFetchDone_keeps h s (Nat.and_self _) (.refl _ s), rfl⟩
  | suspend h => exact ⟨_, execSuspend_keeps h s (Nat.and_self _) (.refl _ s), rfl⟩
  | operationSuspended h => exact ⟨_, execOperationSuspended_keeps h s (Nat.and_self _) (.refl _ s), rfl⟩
  | resume h => exact ⟨_, execResume_keeps h s (Nat.and_self _) (.refl _ s), rfl⟩
  | cancel h => exact ⟨_, execCancel_keeps h s (Nat.and_self _) (.refl _ s), rfl⟩
  | fence h => exact ⟨_, execFence_keeps h s (Nat.and_self _) (.refl _ s), rfl⟩
  | fenceComplete h => exact ⟨_, execFenceComplete_keeps h s (Nat.and_self _) (.refl _ s), rfl⟩
  | operationComplete h => exact ⟨_, execOperationComplete_keeps h s (Nat.and_self _) (.refl _ s), rfl⟩
  | notifyCoalTimeout cq => exact ⟨_, execNotifyCoalTimeout_keeps cq s (Nat.and_self _) (.refl _ s), rfl⟩
  | batchDeal cluster => exact ⟨_, execBatchDeal_keeps cluster s (Nat.and_self _) (.refl _ s), rfl⟩
  | tileAssign core => exact ⟨_, execTileAssign_keeps core s (Nat.and_self _) (.refl _ s), rfl⟩
  | tileCommit op tile => exact ⟨_, execTileCommit_keeps op tile s (Nat.and_self _) (.refl _ s), rfl⟩
  | fetchRange op tile => exact ⟨_, execFetchRange_keeps op tile s (Nat.and_self _) (.refl _ s), rfl⟩
  | fetchGather op tile => exact ⟨_, execFetchGather_keeps op tile s (Nat.and_self _) (.refl _ s), rfl⟩
  | fetchSparse op tile => exact ⟨_, execFetchSparse_keeps op tile s (Nat.and_self _) (.refl _ s), rfl⟩
  | fillConst op tile => exact ⟨_, execFillConst_keeps op tile s (Nat.and_self _) (.refl _ s), rfl⟩
  | fillPattern op tile => exact ⟨_, execFillPattern_keeps op tile s (Nat.and_self _) (.refl _ s), rfl⟩
  | fillRamp op tile => exact ⟨_, execFillRamp_keeps op tile s (Nat.and_self _) (.refl _ s), rfl⟩
  | expand op tile => exact ⟨_, execExpand_keeps op tile s (Nat.and_self _) (.refl _ s), rfl⟩
  | convert op tile => exact ⟨_, execConvert_keeps op tile s (Nat.and_self _) (.refl _ s), rfl⟩
  | selectMask op tile => exact ⟨_, execSelectMask_keeps op tile s (Nat.and_self _) (.refl _ s), rfl⟩
  | selectTopk op tile => exact ⟨_, execSelectTopk_keeps op tile s (Nat.and_self _) (.refl _ s), rfl⟩
  | selectRoute op tile => exact ⟨_, execSelectRoute_keeps op tile s (Nat.and_self _) (.refl _ s), rfl⟩
  | combineAdd op tile => exact ⟨_, execCombineAdd_keeps op tile s (Nat.and_self _) (.refl _ s), rfl⟩
  | combineSub op tile => exact ⟨_, execCombineSub_keeps op tile s (Nat.and_self _) (.refl _ s), rfl⟩
  | combineMul op tile => exact ⟨_, execCombineMul_keeps op tile s (Nat.and_self _) (.refl _ s), rfl⟩
  | combineMax op tile => exact ⟨_, execCombineMax_keeps op tile s (Nat.and_self _) (.refl _ s), rfl⟩
  | combineMin op tile => exact ⟨_, execCombineMin_keeps op tile s (Nat.and_self _) (.refl _ s), rfl⟩
  | combineFma op tile => exact ⟨_, execCombineFma_keeps op tile s (Nat.and_self _) (.refl _ s), rfl⟩
  | combineScale op tile => exact ⟨_, execCombineScale_keeps op tile s (Nat.and_self _) (.refl _ s), rfl⟩
  | reduceAccum op tile => exact ⟨_, execReduceAccum_keeps op tile s (Nat.and_self _) (.refl _ s), rfl⟩
  | reduceGroup op tile => exact ⟨_, execReduceGroup_keeps op tile s (Nat.and_self _) (.refl _ s), rfl⟩
  | updateSgdm op tile => exact ⟨_, execUpdateSgdm_keeps op tile s (Nat.and_self _) (.refl _ s), rfl⟩
  | updateAdamw op tile => exact ⟨_, execUpdateAdamw_keeps op tile s (Nat.and_self _) (.refl _ s), rfl⟩
  | updateTable op tile => exact ⟨_, execUpdateTable_keeps op tile s (Nat.and_self _) (.refl _ s), rfl⟩
  | compact op tile => exact ⟨_, execCompact_keeps op tile s (Nat.and_self _) (.refl _ s), rfl⟩
  | check op tile => exact ⟨_, execCheck_keeps op tile s (Nat.and_self _) (.refl _ s), rfl⟩
  | compareBitwise op tile => exact ⟨_, execCompareBitwise_keeps op tile s (Nat.and_self _) (.refl _ s), rfl⟩
  | compareTol op tile => exact ⟨_, execCompareTol_keeps op tile s (Nat.and_self _) (.refl _ s), rfl⟩
  | storeRange op tile => exact ⟨_, execStoreRange_keeps op tile s (Nat.and_self _) (.refl _ s), rfl⟩
  | storeScatter op tile => exact ⟨_, execStoreScatter_keeps op tile s (Nat.and_self _) (.refl _ s), rfl⟩
  | storeSparse op tile => exact ⟨_, execStoreSparse_keeps op tile s (Nat.and_self _) (.refl _ s), rfl⟩
  | storePut op tile => exact ⟨_, execStorePut_keeps op tile s (Nat.and_self _) (.refl _ s), rfl⟩
  | storeRouted op tile => exact ⟨_, execStoreRouted_keeps op tile s (Nat.and_self _) (.refl _ s), rfl⟩
  | storeNull op tile => exact ⟨_, execStoreNull_keeps op tile s (Nat.and_self _) (.refl _ s), rfl⟩
  | reductionComplete h => exact ⟨_, execReductionComplete_keeps h s (Nat.and_self _) (.refl _ s), rfl⟩
  | reservePowerUp cluster => exact ⟨_, execReservePowerUp_keeps cluster s (Nat.and_self _) (.refl _ s), rfl⟩
  | reserveGoldenTileDone cluster pass =>
    exact ⟨_, execReserveGoldenTileDone_keeps cluster pass s (Nat.and_self _) (.refl _ s), rfl⟩
  | flitReceive port bytes => exact ⟨_, execFlitReceive_keeps port bytes s (Nat.and_self _) (.refl _ s), rfl⟩
  | flitTransmit port => exact ⟨_, execFlitTransmit_keeps port s (Nat.and_self _) (.refl _ s), rfl⟩
  | replayReq port seq => exact ⟨_, execReplayReq_keeps port seq s (Nat.and_self _) (.refl _ s), rfl⟩
  | ackTimeout port => exact ⟨_, execAckTimeout_keeps port s (Nat.and_self _) (.refl _ s), rfl⟩
  | replayReqTimeout port => exact ⟨_, execReplayReqTimeout_keeps port s (Nat.and_self _) (.refl _ s), rfl⟩
  | linkMsgRepeat port => exact ⟨_, execLinkMsgRepeat_keeps port s (Nat.and_self _) (.refl _ s), rfl⟩
  | creditInit port buf size => exact ⟨_, execCreditInit_keeps port buf size s (Nat.and_self _) (.refl _ s), rfl⟩
  | linkId port eid width lanes => exact ⟨_, execLinkId_keeps port eid width lanes s (Nat.and_self _) (.refl _ s), rfl⟩
  | laneThresholdCrossed port tx lane =>
    exact ⟨_, execLaneThresholdCrossed_keeps port tx lane s (Nat.and_self _) (.refl _ s), rfl⟩
  | swapReq port lane => exact ⟨_, execSwapReq_keeps port lane s (Nat.and_self _) (.refl _ s), rfl⟩
  | swapMark port lane => exact ⟨_, execSwapMark_keeps port lane s (Nat.and_self _) (.refl _ s), rfl⟩
  | swapDone port lane => exact ⟨_, execSwapDone_keeps port lane s (Nat.and_self _) (.refl _ s), rfl⟩
  | swapTimeout port => exact ⟨_, execSwapTimeout_keeps port s (Nat.and_self _) (.refl _ s), rfl⟩
  | widthReq port width => exact ⟨_, execWidthReq_keeps port width s (Nat.and_self _) (.refl _ s), rfl⟩
  | widthAck port width => exact ⟨_, execWidthAck_keeps port width s (Nat.and_self _) (.refl _ s), rfl⟩
  | retrainReq port attempt => exact ⟨_, execRetrainReq_keeps port attempt s (Nat.and_self _) (.refl _ s), rfl⟩
  | frameLockLoss port => exact ⟨_, execFrameLockLoss_keeps port s (Nat.and_self _) (.refl _ s), rfl⟩
  | retrainComplete port txOk rxOk exchangeOk =>
    exact ⟨_, execRetrainComplete_keeps port txOk rxOk exchangeOk s (Nat.and_self _) (.refl _ s), rfl⟩
  | pwrReq port target => exact ⟨_, execPwrReq_keeps port target s (Nat.and_self _) (.refl _ s), rfl⟩
  | pwrAck port target => exact ⟨_, execPwrAck_keeps port target s (Nat.and_self _) (.refl _ s), rfl⟩
  | pwrNak port target => exact ⟨_, execPwrNak_keeps port target s (Nat.and_self _) (.refl _ s), rfl⟩
  | linkEnableWrite id port value =>
    exact ⟨_, execLinkEnableWrite_keeps id port value s (Nat.and_self _) (.refl _ s), rfl⟩
  | widthMaxWrite id port value => exact ⟨_, execWidthMaxWrite_keeps id port value s (Nat.and_self _) (.refl _ s), rfl⟩
  | linkRetrainWrite id port value =>
    exact ⟨_, execLinkRetrainWrite_keeps id port value s (Nat.and_self _) (.refl _ s), rfl⟩
  | pwrTargetWrite id port value =>
    exact ⟨_, execPwrTargetWrite_keeps id port value s (Nat.and_self _) (.refl _ s), rfl⟩
  | passThroughPacket port pkt => exact ⟨_, execPassThroughPacket_keeps port pkt s (Nat.and_self _) (.refl _ s), rfl⟩
  | putPacket port pkt => exact ⟨_, execPutPacket_keeps port pkt s (Nat.and_self _) (.refl _ s), rfl⟩
  | putSparsePacket port pkt => exact ⟨_, execPutSparsePacket_keeps port pkt s (Nat.and_self _) (.refl _ s), rfl⟩
  | cmpPacket port pkt => exact ⟨_, execCmpPacket_keeps port pkt s (Nat.and_self _) (.refl _ s), rfl⟩
  | notifyPacket port pkt => exact ⟨_, execNotifyPacket_keeps port pkt s (Nat.and_self _) (.refl _ s), rfl⟩
  | pubNotifyPacket port pkt => exact ⟨_, execPubNotifyPacket_keeps port pkt s (Nat.and_self _) (.refl _ s), rfl⟩
  | msgTimeout entry => exact ⟨_, execMsgTimeout_keeps entry s (Nat.and_self _) (.refl _ s), rfl⟩
  | putCmpTimeout op tile => exact ⟨_, execPutCmpTimeout_keeps op tile s (Nat.and_self _) (.refl _ s), rfl⟩
  | routeSwap id eid => exact ⟨_, execRouteSwap_keeps id eid s (Nat.and_self _) (.refl _ s), rfl⟩
  | routeSwapComplete => exact ⟨_, execRouteSwapComplete_keeps s (Nat.and_self _) (.refl _ s), rfl⟩
  | routeSwapAbort id eid => exact ⟨_, execRouteSwapAbort_keeps id eid s (Nat.and_self _) (.refl _ s), rfl⟩
  | routeReturnDrainDone eid => exact ⟨_, execRouteReturnDrainDone_keeps eid s (Nat.and_self _) (.refl _ s), rfl⟩
  | eidFence id eid => exact ⟨_, execEidFence_keeps id eid s (Nat.and_self _) (.refl _ s), rfl⟩
  | eidUnfence id eid => exact ⟨_, execEidUnfence_keeps id eid s (Nat.and_self _) (.refl _ s), rfl⟩
  | cxlMemRead hpa => exact ⟨_, execCxlMemRead_keeps hpa s (Nat.and_self _) (.refl _ s), rfl⟩
  | cxlMemWrite hpa data mask poison =>
    exact ⟨_, execCxlMemWrite_keeps hpa data mask poison s (Nat.and_self _) (.refl _ s), rfl⟩
  | cxlHotReset => exact ⟨_, execCxlHotReset_keeps s (Nat.and_self _) (.refl _ s), rfl⟩
  | cxlConfigRequest write offset value =>
    exact ⟨_, execCxlConfigRequest_keeps write offset value s (Nat.and_self _) (.refl _ s), rfl⟩
  | ltrWrite value => exact ⟨_, execLtrWrite_keeps value s (Nat.and_self _) (.refl _ s), rfl⟩
  | hdmDecoderCommit dec base size dpa ways =>
    exact ⟨_, execHdmDecoderCommit_keeps dec base size dpa ways s (Nat.and_self _) (.refl _ s), rfl⟩
  | msixUnmask req => exact ⟨_, execMsixUnmask_keeps req s (Nat.and_self _) (.refl _ s), rfl⟩
  | getEventRecords log => exact ⟨_, execGetEventRecords_keeps log s (Nat.and_self _) (.refl _ s), rfl⟩
  | clearEventRecords log handles =>
    exact ⟨_, execClearEventRecords_keeps log handles s (Nat.and_self _) (.refl _ s), rfl⟩
  | getEventInterruptPolicy => exact ⟨_, execGetEventInterruptPolicy_keeps s (Nat.and_self _) (.refl _ s), rfl⟩
  | setEventInterruptPolicy policy =>
    exact ⟨_, execSetEventInterruptPolicy_keeps policy s (Nat.and_self _) (.refl _ s), rfl⟩
  | getFwInfo => exact ⟨_, execGetFwInfo_keeps s (Nat.and_self _) (.refl _ s), rfl⟩
  | getTimestamp => exact ⟨_, execGetTimestamp_keeps s (Nat.and_self _) (.refl _ s), rfl⟩
  | setTimestamp value => exact ⟨_, execSetTimestamp_keeps value s (Nat.and_self _) (.refl _ s), rfl⟩
  | getSupportedLogs => exact ⟨_, execGetSupportedLogs_keeps s (Nat.and_self _) (.refl _ s), rfl⟩
  | getLog uuid offset len => exact ⟨_, execGetLog_keeps uuid offset len s (Nat.and_self _) (.refl _ s), rfl⟩
  | identifyMemoryDevice => exact ⟨_, execIdentifyMemoryDevice_keeps s (Nat.and_self _) (.refl _ s), rfl⟩
  | getPartitionInfo => exact ⟨_, execGetPartitionInfo_keeps s (Nat.and_self _) (.refl _ s), rfl⟩
  | getHealthInfo => exact ⟨_, execGetHealthInfo_keeps s (Nat.and_self _) (.refl _ s), rfl⟩
  | unsupportedMailboxOpcode opcode =>
    exact ⟨_, execUnsupportedMailboxOpcode_keeps opcode s (Nat.and_self _) (.refl _ s), rfl⟩
  | doeDiscovery index => exact ⟨_, execDoeDiscovery_keeps index s (Nat.and_self _) (.refl _ s), rfl⟩
  | cdatTableAccess entry => exact ⟨_, execCdatTableAccess_keeps entry s (Nat.and_self _) (.refl _ s), rfl⟩
  | mailboxBindWrite id value => exact ⟨_, execMailboxBindWrite_keeps id value s (Nat.and_self _) (.refl _ s), rfl⟩
  | mailboxSend id ch value => exact ⟨_, execMailboxSend_keeps id ch value s (Nat.and_self _) (.refl _ s), rfl⟩
  | mailboxRetract id ch => exact ⟨_, execMailboxRetract_keeps id ch s (Nat.and_self _) (.refl _ s), rfl⟩
  | mailboxAck id ch => exact ⟨_, execMailboxAck_keeps id ch s (Nat.and_self _) (.refl _ s), rfl⟩
  | mailboxPacket ch ack data => exact ⟨_, execMailboxPacket_keeps ch ack data s (Nat.and_self _) (.refl _ s), rfl⟩
  | rxStateLive ch => exact ⟨_, execRxStateLive_keeps ch s (Nat.and_self _) (.refl _ s), rfl⟩
  | dramCommandIssue ch => exact ⟨_, execDramCommandIssue_keeps ch s (Nat.and_self _) (.refl _ s), rfl⟩
  | dramReadData ch da upset => exact ⟨_, execDramReadData_keeps ch da upset s (Nat.and_self _) (.refl _ s), rfl⟩
  | mergeWindowExpiry ch line => exact ⟨_, execMergeWindowExpiry_keeps ch line s (Nat.and_self _) (.refl _ s), rfl⟩
  | refsbDue ch sc bank => exact ⟨_, execRefsbDue_keeps ch sc bank s (Nat.and_self _) (.refl _ s), rfl⟩
  | zqCalibration ch => exact ⟨_, execZqCalibration_keeps ch s (Nat.and_self _) (.refl _ s), rfl⟩
  | spdTempRead ch tempC => exact ⟨_, execSpdTempRead_keeps ch tempC s (Nat.and_self _) (.refl _ s), rfl⟩
  | dlyApply id ch value => exact ⟨_, execDlyApply_keeps id ch value s (Nat.and_self _) (.refl _ s), rfl⟩
  | dlyStaleWarn ch => exact ⟨_, execDlyStaleWarn_keeps ch s (Nat.and_self _) (.refl _ s), rfl⟩
  | remap id ch => exact ⟨_, execRemap_keeps id ch s (Nat.and_self _) (.refl _ s), rfl⟩
  | remapLookup id ch => exact ⟨_, execRemapLookup_keeps id ch s (Nat.and_self _) (.refl _ s), rfl⟩
  | ppr id ch repaired => exact ⟨_, execPpr_keeps id ch repaired s (Nat.and_self _) (.refl _ s), rfl⟩
  | remapCopyDone ch => exact ⟨_, execRemapCopyDone_keeps ch s (Nat.and_self _) (.refl _ s), rfl⟩
  | autoRemapStart ch => exact ⟨_, execAutoRemapStart_keeps ch s (Nat.and_self _) (.refl _ s), rfl⟩
  | dramChannelFail ch => exact ⟨_, execDramChannelFail_keeps ch s (Nat.and_self _) (.refl _ s), rfl⟩
  | basinLineAccess acc => exact ⟨_, execBasinLineAccess_keeps acc s (Nat.and_self _) (.refl _ s), rfl⟩
  | atomicAddI32 req => exact ⟨_, execAtomicAddI32_keeps req s (Nat.and_self _) (.refl _ s), rfl⟩
  | atomicAddI64 req => exact ⟨_, execAtomicAddI64_keeps req s (Nat.and_self _) (.refl _ s), rfl⟩
  | atomicAddF32 req => exact ⟨_, execAtomicAddF32_keeps req s (Nat.and_self _) (.refl _ s), rfl⟩
  | atomicAddBf16x2 req => exact ⟨_, execAtomicAddBf16x2_keeps req s (Nat.and_self _) (.refl _ s), rfl⟩
  | atomicSwap32 req => exact ⟨_, execAtomicSwap32_keeps req s (Nat.and_self _) (.refl _ s), rfl⟩
  | atomicSwap64 req => exact ⟨_, execAtomicSwap64_keeps req s (Nat.and_self _) (.refl _ s), rfl⟩
  | bankRetEntry group bank => exact ⟨_, execBankRetEntry_keeps group bank s (Nat.and_self _) (.refl _ s), rfl⟩
  | bankSubstitute id group bank =>
    exact ⟨_, execBankSubstitute_keeps id group bank s (Nat.and_self _) (.refl _ s), rfl⟩
  | bankSubstitutionDone group => exact ⟨_, execBankSubstitutionDone_keeps group s (Nat.and_self _) (.refl _ s), rfl⟩
  | bankReinstate id group bank => exact ⟨_, execBankReinstate_keeps id group bank s (Nat.and_self _) (.refl _ s), rfl⟩
  | reinstateTestDone group pass =>
    exact ⟨_, execReinstateTestDone_keeps group pass s (Nat.and_self _) (.refl _ s), rfl⟩
  | bankSetOn id group bank => exact ⟨_, execBankSetOn_keeps id group bank s (Nat.and_self _) (.refl _ s), rfl⟩
  | bankSetRet id group bank => exact ⟨_, execBankSetRet_keeps id group bank s (Nat.and_self _) (.refl _ s), rfl⟩
  | bankSetOff id group bank => exact ⟨_, execBankSetOff_keeps id group bank s (Nat.and_self _) (.refl _ s), rfl⟩
  | autoSubstituteStart group => exact ⟨_, execAutoSubstituteStart_keeps group s (Nat.and_self _) (.refl _ s), rfl⟩
  | fieldFuseBlow id group bank column =>
    exact ⟨_, execFieldFuseBlow_keeps id group bank column s (Nat.and_self _) (.refl _ s), rfl⟩
  | scrub h => exact ⟨_, execScrub_keeps h s (Nat.and_self _) (.refl _ s), rfl⟩
  | scrubComplete h => exact ⟨_, execScrubComplete_keeps h s (Nat.and_self _) (.refl _ s), rfl⟩
  | ceBucketLeak basin index => exact ⟨_, execCeBucketLeak_keeps basin index s (Nat.and_self _) (.refl _ s), rfl⟩
  | engineTest h => exact ⟨_, execEngineTest_keeps h s (Nat.and_self _) (.refl _ s), rfl⟩
  | engineTestRoundDone h eng pass =>
    exact ⟨_, execEngineTestRoundDone_keeps h eng pass s (Nat.and_self _) (.refl _ s), rfl⟩
  | cpKick id => exact ⟨_, execCpKick_keeps id s (Nat.and_self _) (.refl _ s), rfl⟩
  | cpWatchdogExpiry cp => exact ⟨_, execCpWatchdogExpiry_keeps cp s (Nat.and_self _) (.refl _ s), rfl⟩
  | faultQHeadWrite id value => exact ⟨_, execFaultQHeadWrite_keeps id value s (Nat.and_self _) (.refl _ s), rfl⟩
  | eventRateRefill source => exact ⟨_, execEventRateRefill_keeps source s (Nat.and_self _) (.refl _ s), rfl⟩
  | foldSummary => exact ⟨_, execFoldSummary_keeps s (Nat.and_self _) (.refl _ s), rfl⟩
  | overflowRecordWrite => exact ⟨_, execOverflowRecordWrite_keeps s (Nat.and_self _) (.refl _ s), rfl⟩
  | alertAck id => exact ⟨_, execAlertAck_keeps id s (Nat.and_self _) (.refl _ s), rfl⟩
  | heartbeatSend => exact ⟨_, execHeartbeatSend_keeps s (Nat.and_self _) (.refl _ s), rfl⟩
  | heartbeat hb => exact ⟨_, execHeartbeat_keeps hb s (Nat.and_self _) (.refl _ s), rfl⟩
  | heartbeatAnswer hb => exact ⟨_, execHeartbeatAnswer_keeps hb s (Nat.and_self _) (.refl _ s), rfl⟩
  | heartbeatPathLoss pathB => exact ⟨_, execHeartbeatPathLoss_keeps pathB s (Nat.and_self _) (.refl _ s), rfl⟩
  | selfFence => exact ⟨_, execSelfFence_keeps s (Nat.and_self _) (.refl _ s), rfl⟩
  | fencedPortsOut => exact ⟨_, execFencedPortsOut_keeps s (Nat.and_self _) (.refl _ s), rfl⟩
  | soloWaitExpiry held => exact ⟨_, execSoloWaitExpiry_keeps held s (Nat.and_self _) (.refl _ s), rfl⟩
  | runnelLossTimeout => exact ⟨_, execRunnelLossTimeout_keeps s (Nat.and_self _) (.refl _ s), rfl⟩
  | bootWaitExpiry acquired => exact ⟨_, execBootWaitExpiry_keeps acquired s (Nat.and_self _) (.refl _ s), rfl⟩
  | frameAuditDone => exact ⟨_, execFrameAuditDone_keeps s (Nat.and_self _) (.refl _ s), rfl⟩
  | mwr tag pa data mask poison => exact ⟨_, execMwr_keeps tag pa data mask poison s (Nat.and_self _) (.refl _ s), rfl⟩
  | mdir tag change => exact ⟨_, execMdir_keeps tag change s (Nat.and_self _) (.refl _ s), rfl⟩
  | mack tag dir => exact ⟨_, execMack_keeps tag dir s (Nat.and_self _) (.refl _ s), rfl⟩
  | tickClose => exact ⟨_, execTickClose_keeps s (Nat.and_self _) (.refl _ s), rfl⟩
  | delta tick change => exact ⟨_, execDelta_keeps tick change s (Nat.and_self _) (.refl _ s), rfl⟩
  | tickAck tick => exact ⟨_, execTickAck_keeps tick s (Nat.and_self _) (.refl _ s), rfl⟩
  | relay port what => exact ⟨_, execRelay_keeps port what s (Nat.and_self _) (.refl _ s), rfl⟩
  | health seq clean fails => exact ⟨_, execHealth_keeps seq clean fails s (Nat.and_self _) (.refl _ s), rfl⟩
  | healthReportSend => exact ⟨_, execHealthReportSend_keeps s (Nat.and_self _) (.refl _ s), rfl⟩
  | healthReportMissed => exact ⟨_, execHealthReportMissed_keeps s (Nat.and_self _) (.refl _ s), rfl⟩
  | handoverReq => exact ⟨_, execHandoverReq_keeps s (Nat.and_self _) (.refl _ s), rfl⟩
  | handoverDrainTimeout => exact ⟨_, execHandoverDrainTimeout_keeps s (Nat.and_self _) (.refl _ s), rfl⟩
  | handoverGo received => exact ⟨_, execHandoverGo_keeps received s (Nat.and_self _) (.refl _ s), rfl⟩
  | handoverDone => exact ⟨_, execHandoverDone_keeps s (Nat.and_self _) (.refl _ s), rfl⟩
  | resyncComplete => exact ⟨_, execResyncComplete_keeps s (Nat.and_self _) (.refl _ s), rfl⟩
  | fenceSelf id => exact ⟨_, execFenceSelf_keeps id s (Nat.and_self _) (.refl _ s), rfl⟩
  | goSolo id => exact ⟨_, execGoSolo_keeps id s (Nat.and_self _) (.refl _ s), rfl⟩
  | handover id => exact ⟨_, execHandover_keeps id s (Nat.and_self _) (.refl _ s), rfl⟩
  | standbyGoldenRound pass => exact ⟨_, execStandbyGoldenRound_keeps pass s (Nat.and_self _) (.refl _ s), rfl⟩
  | standbyMarchTest pass => exact ⟨_, execStandbyMarchTest_keeps pass s (Nat.and_self _) (.refl _ s), rfl⟩
  | dramPatrolRead line outcome => exact ⟨_, execDramPatrolRead_keeps line outcome s (Nat.and_self _) (.refl _ s), rfl⟩
  | eyeMarginCheck failed => exact ⟨_, execEyeMarginCheck_keeps failed s (Nat.and_self _) (.refl _ s), rfl⟩
  | bindWrite id => exact ⟨_, execBindWrite_keeps id s (Nat.and_self _) (.refl _ s), rfl⟩
  | bindRead id => exact ⟨_, execBindRead_keeps id s (Nat.and_self _) (.refl _ s), rfl⟩
  | keyGenerate id => exact ⟨_, execKeyGenerate_keeps id s (Nat.and_self _) (.refl _ s), rfl⟩
  | keyImport id session wrapped =>
    exact ⟨_, execKeyImport_keeps id session wrapped s (Nat.and_self _) (.refl _ s), rfl⟩
  | keyZeroise id => exact ⟨_, execKeyZeroise_keeps id s (Nat.and_self _) (.refl _ s), rfl⟩
  | keyPartnerInstalled slot => exact ⟨_, execKeyPartnerInstalled_keeps slot s (Nat.and_self _) (.refl _ s), rfl⟩
  | getVersion via => exact ⟨_, execGetVersion_keeps via s (Nat.and_self _) (.refl _ s), rfl⟩
  | getCapabilities via => exact ⟨_, execGetCapabilities_keeps via s (Nat.and_self _) (.refl _ s), rfl⟩
  | negotiateAlgorithms via offer =>
    exact ⟨_, execNegotiateAlgorithms_keeps via offer s (Nat.and_self _) (.refl _ s), rfl⟩
  | getDigests via => exact ⟨_, execGetDigests_keeps via s (Nat.and_self _) (.refl _ s), rfl⟩
  | getCertificate via slot offset len =>
    exact ⟨_, execGetCertificate_keeps via slot offset len s (Nat.and_self _) (.refl _ s), rfl⟩
  | challenge via slot nonce => exact ⟨_, execChallenge_keeps via slot nonce s (Nat.and_self _) (.refl _ s), rfl⟩
  | getMeasurements via index nonce =>
    exact ⟨_, execGetMeasurements_keeps via index nonce s (Nat.and_self _) (.refl _ s), rfl⟩
  | keyExchange via slot mutAuth exchange =>
    exact ⟨_, execKeyExchange_keeps via slot mutAuth exchange s (Nat.and_self _) (.refl _ s), rfl⟩
  | finish session verified => exact ⟨_, execFinish_keeps session verified s (Nat.and_self _) (.refl _ s), rfl⟩
  | endSession session => exact ⟨_, execEndSession_keeps session s (Nat.and_self _) (.refl _ s), rfl⟩
  | spdmHeartbeat session => exact ⟨_, execSpdmHeartbeat_keeps session s (Nat.and_self _) (.refl _ s), rfl⟩
  | keyUpdate session keyOp => exact ⟨_, execKeyUpdate_keeps session keyOp s (Nat.and_self _) (.refl _ s), rfl⟩
  | debugUnlock session sig => exact ⟨_, execDebugUnlock_keeps session sig s (Nat.and_self _) (.refl _ s), rfl⟩
  | spdmUnsupportedRequest via code =>
    exact ⟨_, execSpdmUnsupportedRequest_keeps via code s (Nat.and_self _) (.refl _ s), rfl⟩
  | confEnable id value => exact ⟨_, execConfEnable_keeps id value s (Nat.and_self _) (.refl _ s), rfl⟩
  | queryDeviceIdentifiers => exact ⟨_, execQueryDeviceIdentifiers_keeps s (Nat.and_self _) (.refl _ s), rfl⟩
  | getFirmwareParameters => exact ⟨_, execGetFirmwareParameters_keeps s (Nat.and_self _) (.refl _ s), rfl⟩
  | requestUpdate => exact ⟨_, execRequestUpdate_keeps s (Nat.and_self _) (.refl _ s), rfl⟩
  | passComponentTable types => exact ⟨_, execPassComponentTable_keeps types s (Nat.and_self _) (.refl _ s), rfl⟩
  | updateComponent image => exact ⟨_, execUpdateComponent_keeps image s (Nat.and_self _) (.refl _ s), rfl⟩
  | firmwareDataReceived piece => exact ⟨_, execFirmwareDataReceived_keeps piece s (Nat.and_self _) (.refl _ s), rfl⟩
  | activateFirmware => exact ⟨_, execActivateFirmware_keeps s (Nat.and_self _) (.refl _ s), rfl⟩
  | getStatus => exact ⟨_, execGetStatus_keeps s (Nat.and_self _) (.refl _ s), rfl⟩
  | cancelUpdateComponent => exact ⟨_, execCancelUpdateComponent_keeps s (Nat.and_self _) (.refl _ s), rfl⟩
  | cancelUpdate => exact ⟨_, execCancelUpdate_keeps s (Nat.and_self _) (.refl _ s), rfl⟩
  | fwuConfirm id type => exact ⟨_, execFwuConfirm_keeps id type s (Nat.and_self _) (.refl _ s), rfl⟩
  | fwuRevert id type => exact ⟨_, execFwuRevert_keeps id type s (Nat.and_self _) (.refl _ s), rfl⟩
  | autoConfirmExpiry type => exact ⟨_, execAutoConfirmExpiry_keeps type s (Nat.and_self _) (.refl _ s), rfl⟩
  | coldStart boot => exact ⟨_, execColdStart_keeps boot s (Nat.and_self _) (.refl _ s), rfl⟩
  | coldReset perst => exact ⟨_, execColdReset_keeps perst s (Nat.and_self _) (.refl _ s), rfl⟩
  | warmResetPin boot => exact ⟨_, execWarmResetPin_keeps boot s (Nat.and_self _) (.refl _ s), rfl⟩
  | warm id boot => exact ⟨_, execWarm_keeps id boot s (Nat.and_self _) (.refl _ s), rfl⟩
  | mgmtRestart id => exact ⟨_, execMgmtRestart_keeps id s (Nat.and_self _) (.refl _ s), rfl⟩
  | railOrder breachMs => exact ⟨_, execRailOrder_keeps breachMs s (Nat.and_self _) (.refl _ s), rfl⟩
  | railDrop rail => exact ⟨_, execRailDrop_keeps rail s (Nat.and_self _) (.refl _ s), rfl⟩
  | refLost pll => exact ⟨_, execRefLost_keeps pll s (Nat.and_self _) (.refl _ s), rfl⟩
  | setLatencyTol h => exact ⟨_, execSetLatencyTol_keeps h s (Nat.and_self _) (.refl _ s), rfl⟩
  | dieTempSample tempC => exact ⟨_, execDieTempSample_keeps tempC s (Nat.and_self _) (.refl _ s), rfl⟩
  | thermtrip => exact ⟨_, execThermtrip_keeps s (Nat.and_self _) (.refl _ s), rfl⟩
  | portIdleTimeout port idleUs => exact ⟨_, execPortIdleTimeout_keeps port idleUs s (Nat.and_self _) (.refl _ s), rfl⟩
  | coreIdleGate core => exact ⟨_, execCoreIdleGate_keeps core s (Nat.and_self _) (.refl _ s), rfl⟩
  | driveIdleTimeout drive => exact ⟨_, execDriveIdleTimeout_keeps drive s (Nat.and_self _) (.refl _ s), rfl⟩
  | counterCapture => exact ⟨_, execCounterCapture_keeps s (Nat.and_self _) (.refl _ s), rfl⟩
  | cntLoRead id page => exact ⟨_, execCntLoRead_keeps id page s (Nat.and_self _) (.refl _ s), rfl⟩
  | counterSnapshotPages h => exact ⟨_, execCounterSnapshotPages_keeps h s (Nat.and_self _) (.refl _ s), rfl⟩
  | counterSnapshotOperation h => exact ⟨_, execCounterSnapshotOperation_keeps h s (Nat.and_self _) (.refl _ s), rfl⟩
  | setProfile h => exact ⟨_, execSetProfile_keeps h s (Nat.and_self _) (.refl _ s), rfl⟩
  | setProfileCancel h => exact ⟨_, execSetProfileCancel_keeps h s (Nat.and_self _) (.refl _ s), rfl⟩
  | read32 addr => exact ⟨_, execRead32_keeps addr s (Nat.and_self _) (.refl _ s), rfl⟩
  | write32 addr value => exact ⟨_, execWrite32_keeps addr value s (Nat.and_self _) (.refl _ s), rfl⟩
  | mctpControl req => exact ⟨_, execMctpControl_keeps req s (Nat.and_self _) (.refl _ s), rfl⟩
  | getPdr record => exact ⟨_, execGetPdr_keeps record s (Nat.and_self _) (.refl _ s), rfl⟩
  | getSensorReading sensor => exact ⟨_, execGetSensorReading_keeps sensor s (Nat.and_self _) (.refl _ s), rfl⟩
  | getStateSensorReadings sensor =>
    exact ⟨_, execGetStateSensorReadings_keeps sensor s (Nat.and_self _) (.refl _ s), rfl⟩
  | setEventReceiver eid => exact ⟨_, execSetEventReceiver_keeps eid s (Nat.and_self _) (.refl _ s), rfl⟩
  | softReset id page => exact ⟨_, execSoftReset_keeps id page s (Nat.and_self _) (.refl _ s), rfl⟩
  | blkLock id page => exact ⟨_, execBlkLock_keeps id page s (Nat.and_self _) (.refl _ s), rfl⟩
  | blkIsrClear id page value => exact ⟨_, execBlkIsrClear_keeps id page value s (Nat.and_self _) (.refl _ s), rfl⟩
  | blkIerWrite id page value => exact ⟨_, execBlkIerWrite_keeps id page value s (Nat.and_self _) (.refl _ s), rfl⟩
  | cxlioReadTimeout what => exact ⟨_, execCxlioReadTimeout_keeps what s (Nat.and_self _) (.refl _ s), rfl⟩
  | cxlMemAdmissionRetry => exact ⟨_, execCxlMemAdmissionRetry_keeps s (Nat.and_self _) (.refl _ s), rfl⟩
  | driveReady drive dualPort frames =>
    exact ⟨_, execDriveReady_keeps drive dualPort frames s (Nat.and_self _) (.refl _ s), rfl⟩
  | driveReadyTimeout drive => exact ⟨_, execDriveReadyTimeout_keeps drive s (Nat.and_self _) (.refl _ s), rfl⟩
  | confirmCopyDone type => exact ⟨_, execConfirmCopyDone_keeps type s (Nat.and_self _) (.refl _ s), rfl⟩
  | cxlLinkUp => exact ⟨_, execCxlLinkUp_keeps s (Nat.and_self _) (.refl _ s), rfl⟩
  | pldmBase code => exact ⟨_, execPldmBase_keeps code s (Nat.and_self _) (.refl _ s), rfl⟩
  | vddAonLoss => exact ⟨_, execVddAonLoss_keeps s (Nat.and_self _) (.refl _ s), rfl⟩
  | vddAonValid => exact ⟨_, execVddAonValid_keeps s (Nat.and_self _) (.refl _ s), rfl⟩
  | jtagTapAccess instr => exact ⟨_, execJtagTapAccess_keeps instr s (Nat.and_self _) (.refl _ s), rfl⟩

/-- A command that answers a next state: the same, of that state. -/
theorem keeps_of_exec {i : Instr} {s t : State} (h : exec i s = .next t) :
    ∃ n, Keeps n s t ∧ bitsWithin n (touches i) = true := by
  obtain ⟨n, hkeeps, hbits⟩ := exec_keeps i s
  rw [h] at hkeeps
  exact ⟨n, hkeeps, hbits⟩

/-- Settles O11: a part outside the list has its bit clear, and where a bit is clear the states agree. -/
theorem commandsKeepTheirFrame : Obligations.CommandsKeepTheirFrame := by
  unfold Obligations.CommandsKeepTheirFrame
  intro i s t h p hp
  obtain ⟨_, hkeeps, hbits⟩ := keeps_of_exec h
  exact hkeeps.same p (testBit_of_bitsWithin hbits hp)

/-! ## One step -/

/-- A step on an empty queue passes time. -/
theorem step_idle {s : State} (h : s.pending = []) : step s = .next (tick s) := by
  unfold step
  rw [h]

/-- A step with a command in front runs it. -/
theorem step_front {s : State} {c : Instr} {cs : List Instr} (h : s.pending = c :: cs) :
    step s = exec c { s with pending := cs } := by
  unfold step
  rw [h]

/-- What a step keeps, whichever it is: it goes on from the state with the queue's rest. -/
theorem keeps_of_step {s t : State} (h : step s = .next t) : ∃ W, Keeps W { s with pending := s.pending.tail } t := by
  cases hp : s.pending with
  | nil =>
    rw [step_idle hp] at h
    obtain rfl : tick s = t := Host.Outcome.next.inj h
    have hs : { s with pending := [] } = s := by rw [← hp]
    rw [List.tail_nil, hs]
    exact ⟨117440509, tick_keeps s rfl (.refl _ s)⟩
  | cons c cs =>
    rw [step_front hp] at h
    obtain ⟨n, hkeeps, _⟩ := keeps_of_exec h
    exact ⟨n, hkeeps⟩

/-- Settles O9: the step's second case. -/
theorem stepRunsTheFrontCommand : Obligations.StepRunsTheFrontCommand := by
  unfold Obligations.StepRunsTheFrontCommand
  exact fun _ _ _ => step_front

/-- Settles O12: no command changes the waiting commands, and the step has taken the first. -/
theorem queueIsFirstInFirstOut : Obligations.QueueIsFirstInFirstOut := by
  unfold Obligations.QueueIsFirstInFirstOut
  intro s t c cs hp h
  rw [step_front hp] at h
  obtain ⟨_, hkeeps, _⟩ := keeps_of_exec h
  exact hkeeps.pending

/-- Settles O13: the lists that have left only grow at their front, and free values are only drawn. -/
theorem whatHasLeftStays : Obligations.WhatHasLeftStays := by
  unfold Obligations.WhatHasLeftStays
  intro s t h
  obtain ⟨_, hkeeps⟩ := keeps_of_step h
  exact ⟨hkeeps.outSuffix, hkeeps.freshLe⟩

/-- Settles O14: the invariant does not speak of the queue, and what a step does keeps it. -/
theorem stepKeepsCanonicalForm : Obligations.StepKeepsCanonicalForm := by
  unfold Obligations.StepKeepsCanonicalForm
  intro s t hinv h
  obtain ⟨_, hkeeps⟩ := keeps_of_step h
  exact hkeeps.canonical hinv

/-- Settles O15: memory, marks and counters are empty. -/
theorem resetIsCanonical : Obligations.ResetIsCanonical := by
  unfold Obligations.ResetIsCanonical
  exact ⟨rfl, rfl, rfl⟩

end Sys2Proof.Machine
end

section
/-!
PROOFS. Bytes of memory after a run of them has been set (chapters 02 and 06).
-/
namespace Sys2Proof.Machine

/-- A byte after one was set, in the pool's table or in that of the staged copies. -/
theorem byteAt_setByte (s : State) (a b : Nat) (x : Byte) :
    byteAt (setByte s a x) b = if b = a then x else byteAt s b := by
  unfold byteAt setByte
  by_cases ha : a < 2 ^ 52 <;> by_cases hb : b < 2 ^ 52
  · simp only [if_pos ha, if_pos hb, tgetD_tset]
  · have hne : b ≠ a := by omega
    simp only [if_pos ha, if_neg hb, if_neg hne]
  · have hne : b ≠ a := by omega
    simp only [if_neg ha, if_pos hb, if_neg hne]
  · simp only [if_neg ha, if_neg hb, tgetD_tset]

/-- A byte after a run was set: as set where the run holds it, else as before. -/
theorem byteAt_setBytes (s : State) (pa a : Nat) (d : Bytes) :
    byteAt (setBytes s pa d) a = if pa ≤ a ∧ a < pa + d.length then nth d (a - pa) 0 else byteAt s a := by
  induction d generalizing s pa with
  | nil =>
    have hempty : ¬ (pa ≤ a ∧ a < pa + ([] : Bytes).length) := by simp
    rw [if_neg hempty, setBytes]
  | cons x xs ih =>
    rw [setBytes, ih, byteAt_setByte, List.length_cons]
    rcases Nat.lt_trichotomy a pa with hlow | rfl | hhigh
    · rw [if_neg (by omega), if_neg (by omega), if_neg (by omega)]
    · rw [if_neg (by omega), if_pos rfl, if_pos (by omega), Nat.sub_self]
      rfl
    · obtain ⟨k, rfl⟩ : ∃ k, a = pa + 1 + k := ⟨a - pa - 1, by omega⟩
      have hnext : pa + 1 + k - pa = k + 1 := by omega
      rw [if_neg (by omega : pa + 1 + k ≠ pa), Nat.add_sub_cancel_left, hnext]
      exact if_congr (by omega) rfl rfl

/-- Settles O7: byte by byte along the run. -/
theorem memoryReadsWhatWasWritten : Obligations.MemoryReadsWhatWasWritten := by
  unfold Obligations.MemoryReadsWhatWasWritten
  exact byteAt_setBytes

end Sys2Proof.Machine
end

section
/-!
PROOFS. What an idle step does (R446, R513, log entry 4).
-/
namespace Sys2Proof.Machine

/-- Before the release of reset time stands. -/
theorem tick_of_unreleased {s : State} (hheld : s.pwr.held = 1) : tick s = s := by
  rw [tick, if_pos hheld]

/-- Held in reset, only time goes on. -/
theorem tick_of_held {s : State} (hheld : s.pwr.held = 2) : tick s = { s with now := s.now + 10 } := by
  have hnot (n : Nat) (hn : n ≠ 2) : s.pwr.held ≠ n := hheld ▸ hn.symm
  rw [tick, if_neg (hnot 1 (by decide))]
  exact if_neg (hnot 0 (by decide))

/-- Where no root port's reset runs, none ends. -/
theorem perstEnd_of_none {s : State} (h : s.tier.perst = []) : perstEnd s = s := by
  simp only [perstEnd, h, List.filter_nil, List.foldl_nil]

/-- Where there is no operation, no reduction owes anything to memory. -/
theorem settleReductions_of_noOps {s : State} (h : s.cmd.ops = []) : settleReductions s = s := by
  have hkeys : (tkeys s.cmd.ops fun _ o => o.arrival.isSome) = [] := by rw [h]; rfl
  simp only [settleReductions, flushRecords, hkeys, List.foldl_nil]

/-- Where no copy to a partner runs, none goes on. -/
theorem copyOn_of_noSync {s : State} (h : s.pair.sync = none) : copyOn s = s := by
  rw [copyOn, syncStep, h, ite_self]

/-- Where no warm reset has begun, none goes on. -/
theorem warmGo_of_notBegun {s : State} (h : s.pwr.warm ≠ 2) : warmGo s = s := by
  rw [warmGo, decide_eq_false h, Bool.false_and, if_neg Bool.false_ne_true]

/-- The state 10 ns on, with the buckets filled. -/
def tickBegun (s : State) : State := refill { s with now := s.now + 10 }

/-- Out of reset the rest of the tick goes on from there. -/
theorem tick_of_running {s : State} (hheld : s.pwr.held = 0) :
    tick s = warmGo (copyOn (drainStaged s.pair.staged (settleReductions (perstEnd (tickBegun s))))) := by
  have hnot : s.pwr.held ≠ 1 := hheld ▸ Nat.zero_ne_one
  rw [tick, if_neg hnot]
  exact if_pos hheld

/-- Where nothing is under way, the buckets fill and time goes on. -/
theorem tick_of_quiet {s : State} (hheld : s.pwr.held = 0) (hwarm : s.pwr.warm ≠ 2) (hstaged : s.pair.staged = [])
    (hsync : s.pair.sync = none) (hperst : s.tier.perst = []) (hops : s.cmd.ops = []) : tick s = tickBegun s := by
  have hperst' : (tickBegun s).tier.perst = [] := hperst
  have hops' : (tickBegun s).cmd.ops = [] := hops
  have hsync' : (tickBegun s).pair.sync = none := hsync
  have hwarm' : (tickBegun s).pwr.warm ≠ 2 := hwarm
  rw [tick_of_running hheld, perstEnd_of_none hperst', settleReductions_of_noOps hops', hstaged, drainStaged,
    copyOn_of_noSync hsync', warmGo_of_notBegun hwarm']

/-- Settles O10: the tick's three cases; the buckets that fill are the Weir's alone. -/
theorem idleStepsPassTime : Obligations.IdleStepsPassTime := by
  unfold Obligations.IdleStepsPassTime
  refine ⟨?unreleased, ?held, ?quiet⟩
  case unreleased =>
    intro s hidle hheld
    rw [step_idle hidle, tick_of_unreleased hheld]
  case held =>
    intro s hidle hheld
    rw [step_idle hidle, tick_of_held hheld]
  case quiet =>
    intro s hidle hheld hwarm hstaged hsync hperst hops
    exact ⟨_, (step_idle hidle).trans (congrArg Host.Outcome.next (tick_of_quiet hheld hwarm hstaged hsync hperst hops)),
      rfl, rfl, rfl, rfl, rfl, rfl, rfl, hidle⟩

end Sys2Proof.Machine
end

section
/-!
PROOFS. The commands of the DRAM channels (chapter 14), each on a state that meets its conditions.
-/
namespace Sys2Proof.Machine

/-- A guard of two tests that both hold. -/
theorem and_holds {a b : Bool} (ha : a = true) (hb : b = true) : (a && b) = true := by rw [ha, hb, Bool.and_self]

/-! ## Scheduling, refresh and temperature (R325, R326, R331) -/

/-- An ACTIVE channel issues the request that the scheduler picks (R325). -/
theorem execDramCommandIssue_of_pick {s u v : State} {ch ca : Nat} {r : DramReq} (hch : ch < 24)
    (hactive : chanState s ch = 2) (hu : u = drainUpdate (serveQueued s ch) ch) (hpick : dramPick u ch = some r)
    (hca : ca = servedCa u ch r.row)
    (hv : v = count (if rowHit u ch r then count u (drPage ch) 5 1 else u) (drPage ch) (if r.write then 4 else 3) 1) :
    execDramCommandIssue ch s = .next (drainUpdate (put { v with dram := { v.dram with
      queue := tset [] v.dram.queue ch ((tgetD v.dram.queue ch []).erase r)
      open_ := tput v.dram.open_ (ch * 256 + bankOf (chanDecode u ch ca)) ((chanDecode u ch ca).row + 1) } }
      (.dram ch (if r.write then 2 else 1) ca)) ch) := by
  have hruns : ¬ (24 ≤ ch ∨ chanState s ch ≠ 2) := not_or.mpr ⟨hch.not_ge, not_not_intro hactive⟩
  subst hu hca hv
  refine (if_neg hruns).trans ?_
  simp only [hpick]

/-- A merge entry leaves at the end of its window (R335). -/
theorem execMergeWindowExpiry_of_entry {s : State} {ch l : Nat} {e : MergeEntry}
    (hentry : (mergeOf s ch).find? (fun e => e.line = l) = some e) :
    execMergeWindowExpiry ch l s = .next (mergeLeave s ch 7 e) := by
  simp only [execMergeWindowExpiry, hentry]

/-- A refresh falls due for a bank of a channel that is up. -/
theorem refreshGuard {s : State} {ch sc bank : Nat} (hch : ch < 24) (hsc : sc < 2) (hbank : bank < 8)
    (hup : 1 ≤ chanState s ch) :
    (decide (ch < 24) && decide (sc < 2) && decide (bank < 8) && decide (1 ≤ chanState s ch)) = true :=
  and_holds (and_holds (and_holds (decide_eq_true hch) (decide_eq_true hsc)) (decide_eq_true hbank))
    (decide_eq_true hup)

section Refresh

variable {s : State} {ch sc bank k : Nat} (hch : ch < 24) (hsc : sc < 2) (hbank : bank < 8)
  (hup : 1 ≤ chanState s ch) (hk : k = (ch * 2 + sc) * 8 + bank)

include hch hsc hbank hup hk

/-- A refresh behind an urgent entry is postponed, up to four times (R326). -/
theorem execRefsbDue_postponed (hurgent : refUrgent s ch sc (bank / 4) (bank % 4) = true)
    (hdebt : tgetD s.dram.refDue k 0 < 4) :
    execRefsbDue ch sc bank s = .next (count
      { s with dram := { s.dram with refDue := tput s.dram.refDue k (tgetD s.dram.refDue k 0 + 1) } }
      (drPage ch) 8 1) := by
  subst hk
  rw [execRefsbDue, guarded_of (refreshGuard hch hsc hbank hup)]
  refine congrArg Host.Outcome.next (if_pos ?_)
  rw [hurgent, decide_eq_true hdebt, Bool.and_self]

/-- After four postponements one refresh is done all the same (R326). -/
theorem execRefsbDue_forced (hurgent : refUrgent s ch sc (bank / 4) (bank % 4) = true)
    (hdebt : 4 ≤ tgetD s.dram.refDue k 0) :
    execRefsbDue ch sc bank s =
      .next (dlyInstall (put s (.dram ch 3 (sc + 2 * (bank / 4) + 4 * (bank % 4)))) ch sc) := by
  subst hk
  rw [execRefsbDue, guarded_of (refreshGuard hch hsc hbank hup), hurgent, decide_eq_false hdebt.not_gt]
  rfl

/-- With no urgent entry the refresh is done, with those postponed before it (R326, log entry 93). -/
theorem execRefsbDue_done (hcalm : refUrgent s ch sc (bank / 4) (bank % 4) = false) :
    execRefsbDue ch sc bank s = .next (dlyInstall ((rangeFrom 0 (tgetD s.dram.refDue k 0 + 1)).foldl
      (fun s _ => put s (.dram ch 3 (sc + 2 * (bank / 4) + 4 * (bank % 4))))
      { s with dram := { s.dram with refDue := tdel s.dram.refDue k } }) ch sc) := by
  subst hk
  rw [execRefsbDue, guarded_of (refreshGuard hch hsc hbank hup), hcalm]
  rfl

end Refresh

/-- What a read of a channel's line finds (R333, R334). -/
theorem execDramReadData_of_channel {s : State} {ch : Nat} (da : Nat) (us : List (Nat × Nat × BitVec 16))
    (hch : ch < 24) :
    execDramReadData ch da us s =
      .next (dramRead s ch (da / 64 * 64) (us.map fun u => (u.1, u.2.1, u.2.2.toNat))) :=
  guarded_of (decide_eq_true hch) s _

/-- A channel that is up is calibrated (R326). -/
theorem execZqCalibration_of_up {s : State} {ch : Nat} (hch : ch < 24) (hup : 1 ≤ chanState s ch) :
    execZqCalibration ch s = .next (put s (.dram ch 4 0)) :=
  guarded_of (and_holds (decide_eq_true hch) (decide_eq_true hup)) s _

/-- Delays that stay stale are reported (R331). -/
theorem execDlyStaleWarn_of_stale {s : State} {ch : Nat} (hch : ch < 24) (hstale : rb s (drStat ch) 17 = true) :
    execDlyStaleWarn ch s = .next (eventAt s (drPage ch) sevWarn clDramChannel (rf s (drStat ch) 4 4)) :=
  guarded_of (and_holds (decide_eq_true hch) hstale) s _

/-- An ACTIVE channel fails (R334). -/
theorem execDramChannelFail_of_active {s : State} {ch : Nat} (hch : ch < 24) (hactive : chanState s ch = 2) :
    execDramChannelFail ch s =
      .next (eventAt (wf s (drStat ch) 0 2 3) (drPage ch) sevFatal clDramChannel ch) :=
  guarded_of (and_holds (decide_eq_true hch) (decide_eq_true hactive)) s _

/-- The state after a module's temperature was read: its own fields, then HOT on every channel (R326, R331). -/
def temperatureRead (s : State) (ch t : Nat) : State :=
  let u := wf (wf s (drStat ch) 8 8 (min 255 t)) (drStat ch) 4 4 (bandOf (rf s (drStat ch) 4 4) t)
  (rangeFrom 0 24).foldl (fun x c =>
    wb x (drStat c) 16 (((rangeFrom 0 24).any fun c => 85 ≤ rf u (drStat c) 8 8) && decide (1 ≤ chanState x c))) u

/-- A module's temperature is read; a new band asks for new delays (R331). -/
theorem execSpdTempRead_eq {s : State} {ch : Nat} (hch : ch < 24) (hup : 1 ≤ chanState s ch) (t : Nat) :
    execSpdTempRead ch t s = .next (if bandOf (rf s (drStat ch) 4 4) t = rf s (drStat ch) 4 4
      then temperatureRead s ch t
      else setIsr (wb (temperatureRead s ch t) (drStat ch) 17 true) (drPage ch) 0) :=
  guarded_of (and_holds (decide_eq_true hch) (decide_eq_true hup)) s _

/-- APPLY asks for both subchannels' shadow sets (R331, R341). -/
theorem execDlyApply_eq {s : State} {id ch : Nat} (hch : ch < 24) (hfw : isFw id = true) (v : W32) {u : State}
    (hu : u = wr s (ra (drPage ch) 0x138) (writeFields false (rd s (ra (drPage ch) 0x138)) v.toNat [fRW 0 4])) :
    execDlyApply id ch v s = .next (if v.toNat.testBit 4
      then { u with dram := { u.dram with apply := insNat (2 * ch) (insNat (2 * ch + 1) u.dram.apply) } } else u) := by
  subst hu
  rw [execDlyApply, guarded_of (and_holds (decide_eq_true hch) hfw)]

/-! ## Remaps and repair (R338, R339, R367) -/

section Remap

variable {s : State} {id ch : Nat}

/-- REMAP starts the copy of the key that the identity has written (R338). -/
theorem execRemap_of_open (hopen : remapOpen s id ch = true) :
    execRemap id ch s = .next (remapStart s ch (remapKey s id ch) false) := guarded_of hopen s _

/-- A key that is remapped already answers its slot (R338). -/
theorem remapStart_of_hit {key k : Nat} (hslot : remapSlot s ch key = some k) (auto : Bool) :
    remapStart s ch key auto = wf (wb s (drCmd ch) 4 true) (drCmd ch) 5 12 k := by
  simp only [remapStart, hslot]

/-- With no slot free no copy starts (R338). -/
theorem remapStart_of_noSlot {key : Nat} (hslot : remapSlot s ch key = none) (hfree : freeSlot s ch = none) :
    remapStart s ch key false = wb (wb s (drCmd ch) 3 true) (drCmd ch) 4 false := by
  simp only [remapStart, hslot, hfree]
  rfl

/-- The copy into the lowest free slot starts (R338). -/
theorem remapStart_of_free {key k : Nat} (hslot : remapSlot s ch key = none) (hfree : freeSlot s ch = some k)
    (auto : Bool) {u : State}
    (hu : u = wf (wb (wb (wb s (drCmd ch) 4 false) (drCmd ch) 3 false) (drCmd ch) 2 true) (drCmd ch) 5 12 k) :
    remapStart s ch key auto =
      { u with dram := { u.dram with copying := tput u.dram.copying ch (k, key, auto) } } := by
  subst hu
  simp only [remapStart, hslot, hfree]

/-- REMAP_LOOKUP of a remapped key answers its slot (R338). -/
theorem execRemapLookup_of_hit {k : Nat} (hopen : remapOpen s id ch = true)
    (hslot : remapSlot s ch (remapKey s id ch) = some k) :
    execRemapLookup id ch s = .next (wf (wb s (drCmd ch) 4 true) (drCmd ch) 5 12 k) := by
  rw [execRemapLookup, guarded_of hopen, hslot]

/-- REMAP_LOOKUP of another key answers no HIT (R338). -/
theorem execRemapLookup_of_miss (hopen : remapOpen s id ch = true)
    (hslot : remapSlot s ch (remapKey s id ch) = none) :
    execRemapLookup id ch s = .next (wb s (drCmd ch) 4 false) := by
  rw [execRemapLookup, guarded_of hopen, hslot]

/-- A repair in the device is recorded and reported (R339, R372). -/
theorem execPpr_repaired {u : State} (hopen : remapOpen s id ch = true) (hstate : chanState s ch ≠ 2)
    (hu : u = { s with dram := { s.dram with
      ppr := tput s.dram.ppr ch (insNat (remapKey s id ch) (tgetD s.dram.ppr ch [])) } }) :
    execPpr id ch true s = .next (eventAt (wb u (drCmd ch) 4 false) (drPage ch) sevInfo clReserve
      (remapKey s id ch + ch * 0x1000000)) := by
  subst hu
  exact guarded_of (and_holds hopen (decide_eq_true hstate)) s _

/-- Where the device has no repair left, a free slot takes the row (R339, R372). -/
theorem execPpr_remapped {u : State} {k : Nat} (hopen : remapOpen s id ch = true) (hstate : chanState s ch ≠ 2)
    (hslot : remapSlot s ch (remapKey s id ch) = none) (hfree : freeSlot s ch = some k)
    (hu : u = wb (remapInstall s ch k (remapKey s id ch)) (drCmd ch) 4 true) :
    execPpr id ch false s =
      .next (reserveEvent u (drPage ch) (remapKey s id ch + ch * 0x1000000) (4096 - slotsUsed u ch)) := by
  subst hu
  rw [execPpr, guarded_of (and_holds hopen (decide_eq_true hstate)), if_neg Bool.false_ne_true]
  simp only [hslot, hfree]

/-- PPR is ignored on an ACTIVE channel (R339). -/
theorem execPpr_of_active (hactive : chanState s ch = 2) (repaired : Bool) : execPpr id ch repaired s = .next s := by
  rw [execPpr, decide_eq_false (not_not_intro hactive), Bool.and_false, guarded_false]

/-- At the end of its copy the remap takes effect and the row starts anew in its tracker (R338). -/
theorem execRemapCopyDone_of_copy {k key : Nat} {auto : Bool} (hcopy : tget s.dram.copying ch = some (k, key, auto))
    {u v : State}
    (hu : u = wb (remapInstall { s with dram := { s.dram with copying := tdel s.dram.copying ch } } ch k key)
      (drCmd ch) 2 false)
    (hv : v = setTrackRows u ch ((trackRows u ch).filter fun t => t.key ≠ key)) :
    execRemapCopyDone ch s =
      .next (reserveEvent (setIsr v (drPage ch) 1) (drPage ch) (key + ch * 0x1000000) (4096 - slotsUsed v ch)) := by
  subst hu hv
  simp only [execRemapCopyDone, hcopy]

/-- The lasting row that has waited longest is remapped (R367). -/
theorem execAutoRemapStart_of_waiting {key : Nat} {ks : List Nat} (hwait : tgetD s.fault.rowWait ch [] = key :: ks)
    (hch : ch < 24) (hauto : rb s (ra pgFLT 0x100) 0 = true) (hidle : rb s (drCmd ch) 2 = false) :
    execAutoRemapStart ch s = .next (remapStart
      { s with fault := { s.fault with rowWait := tset [] s.fault.rowWait ch ks } } ch key true) := by
  simp only [execAutoRemapStart, hwait]
  exact guarded_of (and_holds (and_holds (decide_eq_true hch) hauto) (by rw [hidle]; rfl)) s _

end Remap

/-- Settles O46: each command's equation. HIT and NO_SLOT of the last command written, the repayment of postponed
refreshes, the corner cases of the tiers below and the operand of REFSB_DUE are the model's choices (log entries 16, 93,
19 and 101). -/
theorem dramCommandsAct : Obligations.DramCommandsAct := by
  unfold Obligations.DramCommandsAct
  refine ⟨?issue, ?read, ?merge, ?postponed, ?forced, ?refresh, ?calibration, ?sameBand, ?newBand, ?apply, ?noApply,
    ?stale, ?remap, ?remapHit, ?remapNoSlot, ?lookupHit, ?lookupMiss, ?repaired, ?pprRemap, ?pprActive, ?copyDone,
    ?autoRemap, ?fails⟩
  case issue => exact fun s u v ch ca r => execDramCommandIssue_of_pick
  case read => exact fun s ch da us => execDramReadData_of_channel da us
  case merge => exact fun s ch l e => execMergeWindowExpiry_of_entry
  case postponed => exact fun s ch sc bank k => execRefsbDue_postponed
  case forced => exact fun s ch sc bank k => execRefsbDue_forced
  case refresh => exact fun s ch sc bank k => execRefsbDue_done
  case calibration => exact fun s ch => execZqCalibration_of_up
  case sameBand =>
    intro s u v ch t b hch hup hb hu hv hsame
    subst hb hu hv
    exact (execSpdTempRead_eq hch hup t).trans (congrArg Host.Outcome.next (if_pos hsame))
  case newBand =>
    intro s u v ch t b hch hup hb hu hv hnew
    subst hb hu hv
    exact (execSpdTempRead_eq hch hup t).trans (congrArg Host.Outcome.next (if_neg hnew))
  case apply =>
    intro s u id ch v hch hfw hu happly
    exact (execDlyApply_eq hch hfw v hu).trans (congrArg Host.Outcome.next (if_pos happly))
  case noApply =>
    intro s u id ch v hch hfw hu hnot
    exact (execDlyApply_eq hch hfw v hu).trans (congrArg Host.Outcome.next (if_neg (ne_true_of_eq_false hnot)))
  case stale => exact fun s ch => execDlyStaleWarn_of_stale
  case remap =>
    intro s id ch k hopen hslot hfree
    exact ⟨_, rfl, (execRemap_of_open hopen).trans
      (congrArg Host.Outcome.next (remapStart_of_free hslot hfree false rfl))⟩
  case remapHit =>
    intro s id ch k hopen hslot
    exact (execRemap_of_open hopen).trans (congrArg Host.Outcome.next (remapStart_of_hit hslot false))
  case remapNoSlot =>
    intro s id ch hopen hslot hfree
    exact (execRemap_of_open hopen).trans (congrArg Host.Outcome.next (remapStart_of_noSlot hslot hfree))
  case lookupHit => exact fun s id ch k => execRemapLookup_of_hit
  case lookupMiss => exact fun s id ch => execRemapLookup_of_miss
  case repaired => exact fun s u id ch => execPpr_repaired
  case pprRemap => exact fun s u id ch k => execPpr_remapped
  case pprActive => exact fun s id ch r hopen hactive => execPpr_of_active hactive r
  case copyDone => exact fun s ch k key a hcopy => ⟨_, _, rfl, rfl, execRemapCopyDone_of_copy hcopy rfl rfl⟩
  case autoRemap => exact fun s ch key ks => execAutoRemapStart_of_waiting
  case fails => exact fun s ch => execDramChannelFail_of_active

end Sys2Proof.Machine
end

section
/-!
PROOFS. Line accesses of the Basin and the bank atomics (chapter 15).
-/
namespace Sys2Proof.Machine

/-! ## Line accesses (R343 to R347) -/

section Access

variable {s : State} {a : BasinAccess} {n : Nat} (hgroup : a.group < 64) (hoffset : a.offset < 0x4000000)
  (hbank : servingBank s a.group (a.offset / 64 * 64) = some n)

include hgroup hoffset hbank

/-- An access that a bank serves is counted and wakes the bank; then it is a read or a write of the line. -/
theorem execBasinLineAccess_of_served :
    execBasinLineAccess a s =
      let u := count (bankWake s a.group n) (pgBASN + a.group) 3 1
      .next (match a.write with
        | none => basinAnswer (basinDecode u a.group (a.offset / 64 * 64) n a.upset0.toNat a.upset1.toNat) a.group
            (a.offset / 64 * 64) a.parity
        | some (d, m, c) => basinWrite u a.group (a.offset / 64 * 64) n a.upset0.toNat a.upset1.toNat d m c
            a.parity) := by
  simp only [execBasinLineAccess, if_pos (And.intro hgroup hoffset), hbank]
  rfl

/-- A read answers the line as its decode leaves it. -/
theorem execBasinLineAccess_read (hread : a.write = none) :
    execBasinLineAccess a s = .next (basinAnswer (basinDecode (count (bankWake s a.group n) (pgBASN + a.group) 3 1)
      a.group (a.offset / 64 * 64) n a.upset0.toNat a.upset1.toNat) a.group (a.offset / 64 * 64) a.parity) := by
  simp only [execBasinLineAccess_of_served hgroup hoffset hbank, hread]

/-- A write stores the masked bytes. -/
theorem execBasinLineAccess_write {d : Bytes} {m : BitVec 64} {c : Nat} (hwrite : a.write = some (d, m, c)) :
    execBasinLineAccess a s = .next (basinWrite (count (bankWake s a.group n) (pgBASN + a.group) 3 1) a.group
      (a.offset / 64 * 64) n a.upset0.toNat a.upset1.toNat d m c a.parity) := by
  simp only [execBasinLineAccess_of_served hgroup hoffset hbank, hwrite]

end Access

/-! ## Atomics (R348, R349) -/

/-- An atomic that is not naturally aligned is refused. -/
theorem atomic_of_misaligned {k : AtomicKind} {q : AtomicReq} (halign : q.pa % atomicWidth k ≠ 0) (s : State) :
    atomic k q s = .next (atomicAnswer s q stNotPermitted 0 0) := by
  refine if_pos ?_
  rw [decide_eq_true halign, Bool.true_or, Bool.true_or]

/-- A byte of a run in which other bytes were put from `o` on. -/
theorem nth_splice {bs xs : Bytes} {o : Nat} (hroom : o + xs.length ≤ bs.length) (j : Nat) (d : Byte) :
    nth (splice bs o xs) j d = if o ≤ j ∧ j < o + xs.length then nth xs (j - o) d else nth bs j d := by
  have htake : (bs.take o).length = o := List.length_take_of_le (by omega)
  unfold nth splice
  rcases Nat.lt_or_ge j o with hbefore | hfrom
  · rw [if_neg (by omega), List.append_assoc, List.getD_append _ _ _ _ (by omega)]
    simp only [List.getD_eq_getElem?_getD, List.getElem?_take_of_lt hbefore]
  · rcases Nat.lt_or_ge j (o + xs.length) with hin | hafter
    · rw [if_pos ⟨hfrom, hin⟩, List.append_assoc, List.getD_append_right _ _ _ _ (by omega),
        List.getD_append _ _ _ _ (by omega), htake]
    · have hlen : (bs.take o ++ xs).length = o + xs.length := by rw [List.length_append, htake]
      rw [if_neg (by omega), List.getD_append_right _ _ _ _ (by omega), hlen]
      simp only [List.getD_eq_getElem?_getD, List.getElem?_drop, Nat.add_sub_cancel' hafter]

/-- Every byte of a run of zeros is zero. -/
theorem nth_zeros (n j : Nat) : nth (zeros n) j 0 = 0 := by
  simp only [nth, zeros, List.getD_eq_getElem?_getD, List.getElem?_replicate]
  split <;> rfl

/-- An atomic writes the result of Table 15-1 in its operand's bytes, and zeros elsewhere. -/
theorem nth_atomicData (k : AtomicKind) (q : AtomicReq) (l : Bytes) (j : Nat)
    (hroom : q.pa % 64 + atomicWidth k ≤ 64) :
    nth (atomicData k q l) j 0 = if q.pa % 64 ≤ j ∧ j < q.pa % 64 + atomicWidth k then
      nth (natLe (atomicWidth k) (atomicResult k (leAt l (q.pa % 64) (atomicWidth k))
        (q.value.toNat % 2 ^ (8 * atomicWidth k)))) (j - q.pa % 64) 0 else 0 := by
  have hline : (zeros 64).length = 64 := List.length_replicate
  rw [atomicData, nth_splice (by rw [length_natLe, hline]; exact hroom), length_natLe, nth_zeros]
  rfl

/-- Settles O47: a served access is a read or a write, an atomic begins at its line's home or is refused, and what it
writes is a splice. That a partial write decodes its line first, and that an atomic has class SC7 at its home and one
reply, are the model's choices (log entries 15 and 89). -/
theorem basinAccessesAndAtomics : Obligations.BasinAccessesAndAtomics := by
  unfold Obligations.BasinAccessesAndAtomics
  refine ⟨?read, ?write, ?addI32, ?addI32Off, ?addI64, ?addI64Off, ?addF32, ?addF32Off, ?addBf16x2, ?addBf16x2Off,
    ?swap32, ?swap32Off, ?swap64, ?swap64Off, ?data⟩
  case read => exact fun s a n => execBasinLineAccess_read
  case write => exact fun s a n c d m hgroup hoffset hbank => execBasinLineAccess_write hgroup hoffset hbank
  case addI32 | addI64 | addF32 | addBf16x2 | swap32 | swap64 => exact fun s q pl hallowed => atomic_home hallowed
  case addI32Off => exact fun s q halign => atomic_of_misaligned (k := .addI32) halign s
  case addI64Off => exact fun s q halign => atomic_of_misaligned (k := .addI64) halign s
  case addF32Off => exact fun s q halign => atomic_of_misaligned (k := .addF32) halign s
  case addBf16x2Off => exact fun s q halign => atomic_of_misaligned (k := .addBf16x2) halign s
  case swap32Off => exact fun s q halign => atomic_of_misaligned (k := .swap32) halign s
  case swap64Off => exact fun s q halign => atomic_of_misaligned (k := .swap64) halign s
  case data => exact fun k q l j _ hroom _ => nth_atomicData k q l j hroom

end Sys2Proof.Machine
end

section
/-!
PROOFS. The states of the Basin's banks, substitution and repair (chapter 15).
-/
namespace Sys2Proof.Machine

/-- A command for a bank of a group that is not busy runs, with CMD_ERR clear (R350, R354). -/
theorem bankWriteCmd_of_free {s : State} {id g : Nat} (hgroup : g < 64) (hfw : isFw id = true)
    (hfree : bankBusy s g = false) (errBusy : Bool) (f : State → State) :
    bankWriteCmd id g s errBusy f = .next (f (cmdErr s g false)) := by
  rw [bankWriteCmd, guarded_of (and_holds (decide_eq_true hgroup) hfw), hfree]
  rfl

/-- While the group is busy a command that raises no error changes nothing (R354). -/
theorem bankWriteCmd_of_busy {s : State} {id g : Nat} (hgroup : g < 64) (hfw : isFw id = true)
    (hbusy : bankBusy s g = true) (f : State → State) : bankWriteCmd id g s false f = .next s := by
  rw [bankWriteCmd, guarded_of (and_holds (decide_eq_true hgroup) hfw), hbusy]
  rfl

/-- An idle bank enters RET at PL1 or deeper (R350, R458). -/
theorem execBankRetEntry_of_idle {s : State} {g n : Nat} (hgroup : g < 64) (hn : n < 17) (hmay : mayRet s g n = true)
    (hon : bankPwr s g n = 0) (hlevel : 1 ≤ bankLevel s g) :
    execBankRetEntry g n s = .next (setPwr s g n 1) :=
  guarded_of (and_holds (and_holds (and_holds (and_holds (decide_eq_true hgroup) (decide_eq_true hn)) hmay)
    (decide_eq_true hon)) (decide_eq_true hlevel)) s _

/-! ## Substitution (R352, R367, R372) -/

/-- A bank in service in a group with a reserve is substituted. -/
theorem substStart_of_reserve {s : State} {g n r : Nat} (hn : n < 17) (hrole : bankRole s g n = 0)
    (hreserve : reserveBank s g = some r) {v w : State}
    (hv : v = wb (setPwr (setPwr (setBankRole s g n 3) g n 0) g r 0) (bankCmd g) 8 true)
    (hw : w = { v with basin := { v.basin with subst := tput v.basin.subst g (n, r, v.now) } }) :
    substStart s g n = wf (voidLines w fun line => ((basinPlace w line).map fun x => decide (x.1 = g)).getD false)
      (ra (pgBASN + g) 0x148) 0 17 0 := by
  subst hv hw
  simp only [substStart, if_pos (And.intro hn hrole), hreserve]
  rfl

/-- Another bank, or a group with no reserve, sets CMD_ERR. -/
theorem substStart_of_refused {s : State} {g n : Nat} (h : 17 ≤ n ∨ bankRole s g n ≠ 0 ∨ reserveBank s g = none) :
    substStart s g n = cmdErr s g true := by
  have hnone : (if n < 17 ∧ bankRole s g n = 0 then reserveBank s g else none) = none := by
    split
    case isTrue hin =>
      obtain ⟨hn, hrole⟩ := hin
      rcases h with hlarge | hother | hempty
      · exact absurd hn hlarge.not_gt
      · exact absurd hrole hother
      · exact hempty
    case isFalse => rfl
  simp only [substStart, hnone]

/-- At its end the reserve has taken the bank's place (R352, R367, R372). -/
theorem execBankSubstitutionDone_of_running {s : State} {g n r k : Nat} (hrun : tget s.basin.subst g = some (n, r, k))
    {u v w x : State}
    (hu : u = wf (setBankRole s g r 0) (bankReg g r) 0 4 (bankPos s g n))
    (hv : v = wf (wb (setPwr (setBankRole u g n 2) g n 2) (bankCmd g) 8 false) (ra (pgBASN + g) 0x148) 0 17 65536)
    (hw : w = { v with
      basin := { v.basin with
        subst := tdel v.basin.subst g, entered := insNat (globalBank g r) v.basin.entered },
      fault := { v.fault with banks := tdel v.fault.banks (globalBank g r) } })
    (hx : x = bankLedger w) :
    execBankSubstitutionDone g s =
      .next (reserveEvent x (pgBASN + g) (2 ^ 63 + globalBank g n) (banksLeft x)) := by
  subst hu hv hw hx
  simp only [execBankSubstitutionDone, hrun]
  rfl

/-- The lasting bank that has waited longest is substituted (R367). -/
theorem execAutoSubstituteStart_of_waiting {s : State} {g n : Nat} {ns : List Nat}
    (hwait : tgetD s.fault.bankWait g [] = n :: ns) (hgroup : g < 64) (hauto : rb s (ra pgFLT 0x100) 1 = true)
    (hfree : bankBusy s g = false) :
    execAutoSubstituteStart g s = .next (substStart
      { s with fault := { s.fault with bankWait := tset [] s.fault.bankWait g ns } } g n) := by
  simp only [execAutoSubstituteStart, hwait]
  exact guarded_of (and_holds (and_holds (decide_eq_true hgroup) hauto) (Bool.not_eq_true' _ ▸ hfree)) s _

/-! ## Tests and fuses (R353, R372) -/

section Commands

variable {s u : State} {id g n : Nat} (hgroup : g < 64) (hfw : isFw id = true) (hfree : bankBusy s g = false)
  (hu : u = cmdErr s g false)

include hgroup hfw hfree hu

/-- A command for a bank of a free group, from firmware, is what its own part does to the state with CMD_ERR clear. -/
theorem execBankSubstitute_of_free : execBankSubstitute id g n s = .next (substStart u g n) := by
  rw [execBankSubstitute, bankWriteCmd_of_free hgroup hfw hfree, hu]

/-- A retired or reserve bank is tested before it is reinstated (R353). -/
theorem execBankReinstate_of_out (hn : n < 17) (hout : bankRole u g n = 1 ∨ bankRole u g n = 2) {v : State}
    (hv : v = wb (setPwr u g n 0) (bankCmd g) 8 true) :
    execBankReinstate id g n s = .next { v with basin := { v.basin with test := tput v.basin.test g n } } := by
  subst hu hv
  rw [execBankReinstate, bankWriteCmd_of_free hgroup hfw hfree]
  exact congrArg Host.Outcome.next (if_pos ⟨hn, hout⟩)

/-- A bank in service is set ON. -/
theorem execBankSetOn_of_inService (hn : n < 17) (hrole : bankRole u g n = 0) :
    execBankSetOn id g n s = .next (setPwr u g n 0) := by
  subst hu
  rw [execBankSetOn, bankWriteCmd_of_free hgroup hfw hfree]
  exact congrArg Host.Outcome.next (if_pos ⟨hn, hrole⟩)

/-- A bank that may retain is set to RET. -/
theorem execBankSetRet_of_may (hn : n < 17) (hmay : mayRet u g n = true) :
    execBankSetRet id g n s = .next (setPwr u g n 1) := by
  subst hu
  rw [execBankSetRet, bankWriteCmd_of_free hgroup hfw hfree]
  exact congrArg Host.Outcome.next (if_pos (and_holds (decide_eq_true hn) hmay))

/-- A bank that may be OFF loses its lines. -/
theorem execBankSetOff_of_may (hn : n < 17) (hmay : mayOff u g n = true) :
    execBankSetOff id g n s = .next (loseBank (setPwr u g n 2) g n) := by
  subst hu
  rw [execBankSetOff, bankWriteCmd_of_free hgroup hfw hfree]
  exact congrArg Host.Outcome.next (if_pos (and_holds (decide_eq_true hn) hmay))

end Commands

/-- BANK_SET_ON changes nothing while the group is busy (R354). -/
theorem execBankSetOn_of_busy {s : State} {id g : Nat} (hgroup : g < 64) (hfw : isFw id = true)
    (hbusy : bankBusy s g = true) (n : Nat) : execBankSetOn id g n s = .next s :=
  bankWriteCmd_of_busy hgroup hfw hbusy _

/-- BANK_REINSTATE changes nothing while the group is busy (R354). -/
theorem execBankReinstate_of_busy {s : State} {id g : Nat} (hgroup : g < 64) (hfw : isFw id = true)
    (hbusy : bankBusy s g = true) (n : Nat) : execBankReinstate id g n s = .next s :=
  bankWriteCmd_of_busy hgroup hfw hbusy _

section Test

variable {s u v : State} {g n : Nat} (htest : tget s.basin.test g = some n)
  (hu : u = wb { s with basin := { s.basin with test := tdel s.basin.test g } } (bankCmd g) 8 false)

include htest hu

/-- A bank that passes its test joins the reserve (R353). -/
theorem execReinstateTestDone_passed (hv : v = setPwr (setBankRole u g n 1) g n 2) :
    execReinstateTestDone g true s = .next (bankLedger { v with
      basin := { v.basin with entered := v.basin.entered.erase (globalBank g n) },
      fault := { v.fault with banks := tdel v.fault.banks (globalBank g n) } }) := by
  subst hu hv
  simp only [execReinstateTestDone, htest]
  rfl

/-- A bank that fails it is retired, with CMD_ERR (R353). -/
theorem execReinstateTestDone_failed (hv : v = setPwr (setBankRole u g n 2) g n 2) :
    execReinstateTestDone g false s = .next (bankLedger (cmdErr v g true)) := by
  subst hu hv
  simp only [execReinstateTestDone, htest]
  rfl

end Test

/-- Holhild blows a fuse of a bank that is OFF and out of service, while columns are left (R353, R372). -/
theorem execFieldFuseBlow_of_off {s : State} {g n k left : Nat} (c : Nat) (hgroup : g < 64) (hn : n < 17)
    (hoff : bankPwr s g n = 2) (hout : bankRole s g n = 1 ∨ bankRole s g n = 2)
    (hleft : 0 < tgetD s.basin.cols (globalBank g n) 32) (hk : k = globalBank g n)
    (hl : left = tgetD s.basin.cols k 32 - 1) :
    execFieldFuseBlow 2 g n c s = .next (reserveEvent
      { s with basin := { s.basin with cols := tset 32 s.basin.cols k left } } (pgBASN + g) (2 ^ 63 + k) left) := by
  have hrole : (decide (bankRole s g n = 1) || decide (bankRole s g n = 2)) = true := by
    rw [Bool.or_eq_true, decide_eq_true_iff, decide_eq_true_iff]
    exact hout
  subst hk hl
  rw [execFieldFuseBlow, guarded_of (and_holds (and_holds (and_holds (and_holds (and_holds (decide_eq_true (Eq.refl 2))
    (decide_eq_true hgroup)) (decide_eq_true hn)) (decide_eq_true hoff)) hrole) (decide_eq_true hleft))]
  rfl

/-- Settles O48: commands of BANK_CMD through `bankWriteCmd`, the two substitutions through `substStart`. That a busy
bank keeps its result bits is the model's choice (log entry 16). -/
theorem bankCommandsAct : Obligations.BankCommandsAct := by
  unfold Obligations.BankCommandsAct
  refine ⟨?ret, ?substitute, ?refused, ?done, ?reinstate, ?passed, ?failed, ?setOn, ?setRet, ?setOff, ?auto, ?fuse,
    ?busy⟩
  case ret => exact fun s g n => execBankRetEntry_of_idle
  case substitute =>
    intro s u id g n r hgroup hfw hfree hu hn hrole hreserve
    exact ⟨_, _, rfl, rfl, (execBankSubstitute_of_free hgroup hfw hfree hu).trans
      (congrArg Host.Outcome.next (substStart_of_reserve hn hrole hreserve rfl rfl))⟩
  case refused =>
    intro s u id g n hgroup hfw hfree hu hrefused
    exact (execBankSubstitute_of_free hgroup hfw hfree hu).trans
      (congrArg Host.Outcome.next (substStart_of_refused hrefused))
  case done =>
    exact fun s g n r k hrun =>
      ⟨_, _, _, _, rfl, rfl, rfl, rfl, execBankSubstitutionDone_of_running hrun rfl rfl rfl rfl⟩
  case reinstate =>
    exact fun s u id g n hgroup hfw hfree hu hn hout =>
      ⟨_, rfl, execBankReinstate_of_out hgroup hfw hfree hu hn hout rfl⟩
  case passed => exact fun s u v g n => execReinstateTestDone_passed
  case failed => exact fun s u v g n => execReinstateTestDone_failed
  case setOn => exact fun s u id g n => execBankSetOn_of_inService
  case setRet => exact fun s u id g n => execBankSetRet_of_may
  case setOff => exact fun s u id g n => execBankSetOff_of_may
  case auto =>
    intro s u g n r ns hwait hgroup hauto hfree hu hn hrole hreserve
    subst hu
    exact ⟨_, _, rfl, rfl, (execAutoSubstituteStart_of_waiting hwait hgroup hauto hfree).trans
      (congrArg Host.Outcome.next (substStart_of_reserve hn hrole hreserve rfl rfl))⟩
  case fuse =>
    exact fun s g n c hgroup hn hoff hout hleft =>
      ⟨_, _, rfl, rfl, execFieldFuseBlow_of_off c hgroup hn hoff hout hleft rfl rfl⟩
  case busy =>
    exact fun s id g n hgroup hfw hbusy =>
      ⟨execBankSetOn_of_busy hgroup hfw hbusy n, execBankReinstate_of_busy hgroup hfw hbusy n⟩

end Sys2Proof.Machine
end

section
/-!
PROOFS. Scrubs, engine tests, the watchdog of the processors, the fault queue and the alert (chapter 16).
-/
namespace Sys2Proof.Machine

/-! ## SCRUB and ENGINE_TEST (R362 to R364, R369, R370) -/

/-- A SCRUB runs where it keeps Table 16-2, and is not permitted otherwise. -/
theorem execScrub_of_ready {s : State} {h : Nat} {o : Op} (hready : ready s h 0x20 = some o) :
    execScrub h s = .next (if scrubOk s h o then
      modOp s h fun o => { o with phase := if o.askSusp then .suspending else .running }
      else endWith s h stNotPermitted [0, 0, 0, 0]) := by
  simp only [execScrub, hready]

/-- A running SCRUB whose summary can be written completes with it (R363, R364). -/
theorem execScrubComplete_of_written {s u v w : State} {h : Nat} {o : Op} {cut bad : BitVec 64} {x : Scrubbed}
    {b : Bool} (hop : opOf s h = some o) (hcode : o.opcode = 0x20) (hrun : o.phase = .running)
    (hcut : drawFree s = (cut, u)) (hbad : drawFree u = (bad, v)) (hx : x = scrubRead v o cut.toNat)
    (hwrite : userWrite v (opUser o (.fetch h) h) (sumPa o) (scrubBytes x o.prog (bad.toNat % (x.blocks + 1))) 0
      .atomic = .done b w) :
    execScrubComplete h s = .next (endWith (count w pgFLT 4 x.read) h 0 [o.prog.uncorr, o.prog.rowsMarked,
      (o.prog.corr.map Prod.snd).sum + o.prog.corrBasin, x.read]) := by
  have hactive : ¬ (o.opcode ≠ 0x20 ∨ o.phase ≠ .running) := not_or.mpr ⟨not_not_intro hcode, not_not_intro hrun⟩
  subst hx
  simp only [execScrubComplete, hop, if_neg hactive, hcut, hbad, hwrite]
  rfl

/-- ENGINE_TEST begins the rounds of the engines that it names and that are not retired (R369). -/
theorem execEngineTest_of_named {s : State} {h n : Nat} {o : Op} {es ts : List Nat} (hready : ready s h 0x21 = some o)
    (hnamed : namedEngines s o = some es) (hts : ts = es.filter fun e => !engineRetired s e)
    (hn : n = if fld (opnd o 0x10 4) 8 8 = 0 then 16 else fld (opnd o 0x10 4) 8 8) :
    execEngineTest h s = .next (testEnd (ts.foldl wakeReserve (modOp s h fun o => { o with
      phase := .running, tests := ts.map fun e => (e, n) })) h) := by
  subst hts hn
  simp only [execEngineTest, hready, hnamed]

section Round

variable {s : State} {h g e n : Nat} {o : Op} (hop : opOf s h = some o) (hcode : o.opcode = 0x21)
  (hrun : o.phase = .running) (hengine : testEngine s g = some e)
  (htest : o.tests.find? (fun t => t.1 = g) = some (g, n)) (hearlier : testedEarlier s h e = false)
  (htiles : s.cmd.tiles.any (fun t => t.eng = some e) = false)

include hop hcode hrun hengine htest hearlier htiles

/-- A round of an engine that no earlier command tests and no tile occupies is counted (R370, Table 16-9). -/
theorem execEngineTestRoundDone_of_turn (pass : Bool) :
    execEngineTestRoundDone h g pass s =
      if pass ∧ 1 < n then
        .next (modOp s h fun o => { o with tests := o.tests.map fun t => if t.1 = g then (g, n - 1) else t })
      else
        let u := modOp s h fun o => { o with
          tests := o.tests.filter fun t => t.1 ≠ g, tested := o.tested + 1,
          testFails := if pass then o.testFails else o.testFails ++ [e] }
        .next (testEnd (if pass then gateReserve u (e / 4)
          else if coreRole (retireEngine u e) (e / 4) = 3 then
            modOp (retireEngine u e) h fun o => { o with substituted := o.substituted + 1 }
          else retireEngine u e) h) := by
  have hactive : ¬ (o.opcode ≠ 0x21 ∨ o.phase ≠ .running) := not_or.mpr ⟨not_not_intro hcode, not_not_intro hrun⟩
  have hturn : ¬ (testedEarlier s h e = true ∨ (s.cmd.tiles.any fun t => t.eng = some e) = true) :=
    not_or.mpr ⟨ne_true_of_eq_false hearlier, ne_true_of_eq_false htiles⟩
  simp only [execEngineTestRoundDone, hop, if_neg hactive, hengine, htest, if_neg hturn]

end Round

/-! ## The processors' watchdog (R371, R372) -/

/-- A processor's kick is the time now. -/
theorem execCpKick_of_cp {s : State} {id : Nat} (hcp : isCp id = true) :
    execCpKick id s =
      .next { s with fault := { s.fault with kicks := setNth s.fault.kicks (id - 0x010) s.now } } :=
  guarded_of hcp s _

/-- A processor that is late is retired with the entries that it held, and the reserve takes its place. -/
theorem execCpWatchdogExpiry_of_late {s t u : State} {c : Nat} (hc : c < 5) (hlate : cpLate s c = true)
    (ht : t = eventAt (setCpRole s c 2) pgFLT sevError clCp c)
    (hu : u = (tkeys t.cmd.ops (heldBy t c)).foldl
      (fun s h => endWith (leaveQueue s h) h stInternal [0, 0, 0, 0]) t) :
    execCpWatchdogExpiry c s = .next (match (rangeFrom 0 5).find? fun n => cpRole u n = 1 with
      | none => u
      | some n =>
        let v := wb (setCpRole u n 0) (ra pgFLT 0x138) 21 false
        reserveEvent { v with fault := { v.fault with kicks := setNth v.fault.kicks n v.now } } pgFLT n 0) := by
  subst ht hu
  exact guarded_of (and_holds (decide_eq_true hc) hlate) s _

/-! ## The fault queue and the alert (R373 to R377) -/

/-- A correction leaks from its bucket (R365). -/
theorem execCeBucketLeak_of_bucket {s : State} {b : Bool} {i k : Nat} (hi : i < if b then 64 else 24)
    (hk : k = if b then 64 + i else i) :
    execCeBucketLeak b i s = .next { s with fault := { s.fault with
      buckets := tset 0 s.fault.buckets k (tgetD s.fault.buckets k 0 - 1) } } := by
  subst hk
  rw [execCeBucketLeak, guarded_of (decide_eq_true hi)]

/-- The head pointer frees entries that are used (R373). -/
theorem execFaultQHeadWrite_of_used {s : State} {n : Nat} (id : Nat) {v : W32}
    (hn : n = (v.toNat % 4096 + 4096 - rd s (ra pgFLT 0x118)) % 4096) (hused : n ≤ s.fault.used) :
    execFaultQHeadWrite id v s = .next (faultStat (wr { s with fault := { s.fault with used := s.fault.used - n } }
      (ra pgFLT 0x118) (v.toNat % 4096))) := by
  subst hn
  exact if_neg hused.not_gt

/-- A head pointer past the entries in use is an error (R373). -/
theorem execFaultQHeadWrite_of_unused {s : State} (id : Nat) {v : W32}
    (hpast : s.fault.used < (v.toNat % 4096 + 4096 - rd s (ra pgFLT 0x118)) % 4096) :
    execFaultQHeadWrite id v s = .next (errInc s pgFLT 1) :=
  if_pos hpast

/-- The overflow record of a slot is written once an entry is free for it (R376). -/
theorem execOverflowRecordWrite_of_free {s : State} {k : Nat} {x : OvfSlot} (hslot : s.fault.ovf = [(k, x)])
    (hfree : entryFree s x.sev = true) :
    execOverflowRecordWrite s = .next (faultStat (faultPut
      { s with fault := { s.fault with ovf := tdel s.fault.ovf k } }
      { time := s.now, source := pgFLT, sev := x.sev, cls := 0x3F, count := x.count, detail := k })) := by
  simp only [execOverflowRecordWrite, hslot, List.foldl_cons, List.foldl_nil, if_pos hfree]

section Alert

variable {s u : State} (hu : u = wf { s with fault := { s.fault with acked := 0 } } (ra pgFLT 0x128) 2 12
  (rf s (ra pgFLT 0x128) 2 12 - s.fault.acked))

include hu

/-- The FATAL events that were sent leave PENDING; the alert falls when none is left (R377). -/
theorem execAlertAck_eq (id : Nat) :
    execAlertAck id s = .next (if rf s (ra pgFLT 0x128) 2 12 - s.fault.acked = 0 ∧ rb u (ra pgFLT 0x128) 0 = true then
      put (wb u (ra pgFLT 0x128) 0 false) (.pin "ALERT_N" true) else u) := by
  subst hu
  rfl

/-- With an event still pending, or no alert raised, the pin stays. -/
theorem execAlertAck_of_pending (id : Nat)
    (hpending : s.fault.acked < rf s (ra pgFLT 0x128) 2 12 ∨ rb u (ra pgFLT 0x128) 0 = false) :
    execAlertAck id s = .next u := by
  refine (execAlertAck_eq hu id).trans (congrArg Host.Outcome.next (if_neg ?_))
  rintro ⟨hnone, hraised⟩
  rcases hpending with hleft | hlow
  · omega
  · exact absurd hraised (ne_true_of_eq_false hlow)

/-- With none left the alert falls. -/
theorem execAlertAck_of_none (id : Nat) (hnone : rf s (ra pgFLT 0x128) 2 12 ≤ s.fault.acked)
    (hraised : rb u (ra pgFLT 0x128) 0 = true) :
    execAlertAck id s = .next (put (wb u (ra pgFLT 0x128) 0 false) (.pin "ALERT_N" true)) :=
  (execAlertAck_eq hu id).trans (congrArg Host.Outcome.next (if_pos ⟨Nat.sub_eq_zero_of_le hnone, hraised⟩))

end Alert

/-- Settles O49: each command's equation. That a refill returns one event, and that an entry which the failed processor
had taken is ended here when it was not passed on, are the model's choices (log entries 66 and 36). -/
theorem faultCommandsAct : Obligations.FaultCommandsAct := by
  unfold Obligations.FaultCommandsAct
  refine ⟨?scrub, ?scrubRefused, ?scrubComplete, ?leak, ?engineTest, ?roundOn, ?roundLast, ?roundFails, ?kick,
    ?expiry, ?expiryNoReserve, ?head, ?headPast, ?refill, ?fold, ?overflow, ?alertStays, ?alertFalls⟩
  case scrub =>
    intro s h o hready hok
    exact (execScrub_of_ready hready).trans (congrArg Host.Outcome.next (if_pos hok))
  case scrubRefused =>
    intro s h o hready hbad
    exact (execScrub_of_ready hready).trans (congrArg Host.Outcome.next (if_neg (ne_true_of_eq_false hbad)))
  case scrubComplete => exact fun s u v w h o cut bad x b => execScrubComplete_of_written
  case leak => exact fun s b i hi => ⟨_, rfl, execCeBucketLeak_of_bucket hi rfl⟩
  case engineTest => exact fun s h o es hready hnamed => ⟨_, _, rfl, rfl, execEngineTest_of_named hready hnamed rfl rfl⟩
  case roundOn =>
    intro s h g e n o hop hcode hrun hengine htest hearlier htiles hmore
    exact (execEngineTestRoundDone_of_turn hop hcode hrun hengine htest hearlier htiles true).trans
      (if_pos ⟨rfl, hmore⟩)
  case roundLast =>
    intro s h g e n o hop hcode hrun hengine htest hearlier htiles hlast
    exact (execEngineTestRoundDone_of_turn hop hcode hrun hengine htest hearlier htiles true).trans
      (if_neg fun ⟨_, hmore⟩ => hlast.not_gt hmore)
  case roundFails =>
    intro s u v h g e n o hop hcode hrun hengine htest hearlier htiles hu hv
    subst hu hv
    exact (execEngineTestRoundDone_of_turn hop hcode hrun hengine htest hearlier htiles false).trans
      (if_neg fun ⟨hpass, _⟩ => Bool.false_ne_true hpass)
  case kick => exact fun s id => execCpKick_of_cp
  case expiry =>
    intro s t u v c n hc hlate ht hu hreserve hv
    subst hv
    rw [show exec (.cpWatchdogExpiry c) s = _ from execCpWatchdogExpiry_of_late hc hlate ht hu, hreserve]
  case expiryNoReserve =>
    intro s t u c hc hlate ht hu hnone
    rw [show exec (.cpWatchdogExpiry c) s = _ from execCpWatchdogExpiry_of_late hc hlate ht hu, hnone]
  case head => exact fun s id n v => execFaultQHeadWrite_of_used id
  case headPast => exact fun s id v => execFaultQHeadWrite_of_unused id
  case refill => exact fun s k => rfl
  case fold => exact fun s => rfl
  case overflow => exact fun s k x => execOverflowRecordWrite_of_free
  case alertStays => exact fun s u id hu => execAlertAck_of_pending hu id
  case alertFalls => exact fun s u id hu => execAlertAck_of_none hu id

end Sys2Proof.Machine
end

section
/-!
PROOFS. Heartbeats, the loss of the paths and the waits of the pair (chapter 17).
-/
namespace Sys2Proof.Machine

/-! ## Heartbeats (R393, R394) -/

/-- The serving controller, and one that has fenced itself, sends its frame on both paths. -/
theorem execHeartbeatSend_of_beating {s u : State} (hheld : s.pwr.held = 0)
    (hbeats : serving s = true ∨ (pairState s = 3 ∧ s.pair.beats = true))
    (hu : u = modPair s fun p => { p with seq := (s.pair.seq + 1) % 65536 }) {f : Nat}
    (hf : f = ownBeat u ((s.pair.seq + 1) % 65536)) :
    execHeartbeatSend s = .next (put (beatPacket (beatPacket u 20 f) 21 f) (.heartbeat f)) := by
  have hsends : (serving s || (decide (pairState s = 3) && s.pair.beats)) = true := by
    rcases hbeats with hserves | ⟨hfenced, hbeats⟩
    · rw [hserves, Bool.true_or]
    · rw [decide_eq_true hfenced, hbeats, Bool.and_self, Bool.or_true]
  subst hf hu
  exact guarded_of (and_holds (decide_eq_true hheld) hsends) s _

/-- A frame with a bad CRC ends the run of good ones on its path (R394). -/
theorem beat_of_badCrc {b : Heartbeat} (hcrc : b.crcOk = false) (s : State) :
    beat s b = modPair s fun p => if b.pathB then { p with goodB := 0 } else { p with goodA := 0 } := by
  rw [beat, hcrc]
  rfl

section Beat

variable {s : State} {b : Heartbeat} (hheld : s.pwr.held = 0)

include hheld

/-- On path B a frame is recorded, and answered where that is asked and its CRC is good. -/
theorem onBeat_pathB (hpath : b.pathB = true) (answer : Bool) :
    onBeat b answer s = .next (if answer && b.crcOk then put (beat s b) (.heartbeat (ownBeat (beat s b) b.seq))
      else beat s b) := by
  simp only [onBeat, guarded_of (decide_eq_true hheld), if_pos hpath]

/-- On path A its packet is taken, and the answer leaves on the port that it came to. -/
theorem onBeat_pathA {u : State} {p : Nat} (hpath : b.pathB = false) (htake : takeBeat s b = some (p, u))
    (answer : Bool) :
    onBeat b answer s = .next (if answer && b.crcOk then beatPacket (beat u b) p (ownBeat (beat u b) b.seq)
      else beat u b) := by
  simp only [onBeat, guarded_of (decide_eq_true hheld), if_neg (ne_true_of_eq_false hpath), htake]

/-- A heartbeat with a good CRC on path B is answered there. -/
theorem execHeartbeat_pathB_good (hpath : b.pathB = true) (hcrc : b.crcOk = true) :
    execHeartbeat b s = .next (put (beat s b) (.heartbeat (ownBeat (beat s b) b.seq))) :=
  (onBeat_pathB hheld hpath true).trans (congrArg Host.Outcome.next (if_pos hcrc))

/-- An answer on path B is recorded alone. -/
theorem execHeartbeatAnswer_pathB (hpath : b.pathB = true) : execHeartbeatAnswer b s = .next (beat s b) :=
  (onBeat_pathB hheld hpath false).trans (congrArg Host.Outcome.next (if_neg Bool.false_ne_true))

/-- A heartbeat with a bad CRC on path B is recorded alone. -/
theorem execHeartbeat_pathB_bad (hpath : b.pathB = true) (hcrc : b.crcOk = false) :
    execHeartbeat b s = .next (beat s b) :=
  (onBeat_pathB hheld hpath true).trans (congrArg Host.Outcome.next (if_neg (ne_true_of_eq_false hcrc)))

section PathA

variable {u : State} {p : Nat} (hpath : b.pathB = false) (htake : takeBeat s b = some (p, u))

include hpath htake

/-- A heartbeat with a good CRC on path A is answered on its port. -/
theorem execHeartbeat_pathA_good (hcrc : b.crcOk = true) :
    execHeartbeat b s = .next (beatPacket (beat u b) p (ownBeat (beat u b) b.seq)) :=
  (onBeat_pathA hheld hpath htake true).trans (congrArg Host.Outcome.next (if_pos hcrc))

/-- A heartbeat with a bad CRC on path A is recorded alone. -/
theorem execHeartbeat_pathA_bad (hcrc : b.crcOk = false) : execHeartbeat b s = .next (beat u b) :=
  (onBeat_pathA hheld hpath htake true).trans (congrArg Host.Outcome.next (if_neg (ne_true_of_eq_false hcrc)))

/-- An answer on path A is recorded alone. -/
theorem execHeartbeatAnswer_pathA : execHeartbeatAnswer b s = .next (beat u b) :=
  (onBeat_pathA hheld hpath htake false).trans (congrArg Host.Outcome.next (if_neg Bool.false_ne_true))

end PathA

end Beat

/-! ## The loss of the paths (R383, R394 to R396) -/

/-- The state once a path is lost, with no run of good heartbeats left. -/
def pathLost (s : State) (pathB : Bool) : State :=
  setClean (modPair (wb s pairStat (pathBit pathB) false) fun p =>
    if pathB then { p with goodB := 0, since := none } else { p with goodA := 0, since := none }) 0

/-- The partner is not seen on any path. -/
def partnerUnseen (v : State) : State :=
  modPair (wb (wf v pairStat 3 3 7) pairStat 8 false) fun p => { p with pause := false, finalTick := false }

/-- What a controller that has lost its partner does, by its pair state (R395, R396). -/
def partnerLost (u : State) : State :=
  match pairState u with
  | 1 => takeover u
  | 2 => portsFollow (setPair u 3)
  | 0 | 4 => modPair u fun p => { p with recognised := true }
  | _ => u

section PathLoss

variable {s : State} {pathB : Bool} (hgood : pathGood s pathB = true)

include hgood

/-- One path of two is lost: the loss is reported. -/
theorem execHeartbeatPathLoss_of_other (hother : heartbeatGood (pathLost s pathB) = true) :
    execHeartbeatPathLoss pathB s =
      .next (eventAt (pathLost s pathB) pgPAIR sevWarn clPair (if pathB then 1 else 0)) :=
  (guarded_of hgood s _).trans (congrArg Host.Outcome.next (if_pos hother))

/-- Both paths of the pair are lost. -/
theorem execHeartbeatPathLoss_of_both (hboth : heartbeatGood (pathLost s pathB) = false) :
    execHeartbeatPathLoss pathB s = .next (partnerLost (partnerUnseen (pathLost s pathB))) :=
  (guarded_of hgood s _).trans (congrArg Host.Outcome.next ((if_neg (ne_true_of_eq_false hboth)).trans rfl))

end PathLoss

/-- A STANDBY takes over. -/
theorem partnerLost_of_standby {u : State} (hstate : pairState u = 1) : partnerLost u = takeover u := by
  simp only [partnerLost, hstate]

/-- A SYNCING controller fences. -/
theorem partnerLost_of_syncing {u : State} (hstate : pairState u = 2) :
    partnerLost u = portsFollow (setPair u 3) := by
  simp only [partnerLost, hstate]

/-- A serving controller recognises the failure. -/
theorem partnerLost_of_serving {u : State} (hstate : pairState u = 0 ∨ pairState u = 4) :
    partnerLost u = modPair u fun p => { p with recognised := true } := by
  rcases hstate with hactive | hsolo
  · simp only [partnerLost, hactive]
  · simp only [partnerLost, hsolo]

section RunnelLoss

variable {s : State} (hdown : usable s 20 = false) (hdown' : usable s 21 = false) (hbeats : pathGood s true = true)

include hdown hdown' hbeats

/-- Both mirror ports are out of use while heartbeats still come on path B. -/
theorem runnelLossGuard : (!usable s 20 && !usable s 21 && pathGood s true) = true := by
  rw [hdown, hdown', hbeats]
  rfl

/-- The active becomes SOLO (R383). -/
theorem execRunnelLossTimeout_active (hstate : pairState s = 0) : execRunnelLossTimeout s = .next (goSolo s) := by
  rw [execRunnelLossTimeout, guarded_of (runnelLossGuard hdown hdown' hbeats), hstate]
  rfl

/-- Its partner fences (R383). -/
theorem execRunnelLossTimeout_standby (hstate : pairState s = 1) :
    execRunnelLossTimeout s = .next (portsFollow (setPair s 3)) := by
  rw [execRunnelLossTimeout, guarded_of (runnelLossGuard hdown hdown' hbeats), hstate]
  rfl

end RunnelLoss

/-- A serving controller that has recognised the failure fences (R396). -/
theorem execSelfFence_of_recognised {s : State} (hserves : serving s = true) (hlost : s.pair.recognised = true) :
    execSelfFence s = .next (fenceSelf s) :=
  guarded_of (and_holds hserves hlost) s _

/-- A fenced controller's ports leave service (R396). -/
theorem execFencedPortsOut_of_fenced {s : State} (hstate : pairState s = 3) :
    execFencedPortsOut s = .next (servicePorts s false) :=
  guarded_of (decide_eq_true hstate) s _

/-! ## The waits (R383, R395, R397) -/

/-- A controller that fenced itself asks every ACTIVE drive: with all still held it is SOLO, else those that another
holds are PREEMPTED (R397). -/
theorem execSoloWaitExpiry_of_fenced {s : State} (hstate : pairState s = 3) (hself : s.pair.fencedSelf = true)
    (hlost : heartbeatGood s = false) (hdrives : activeDrives s ≠ []) (ds : List Nat) :
    execSoloWaitExpiry ds s = .next (if (activeDrives (askReports s)).all ds.contains then goSolo (askReports s)
      else drvGauges (((activeDrives (askReports s)).filter fun d => !ds.contains d).foldl driveTaken
        (askReports s))) := by
  have hsome : (!(activeDrives s).isEmpty) = true := by
    rw [Bool.not_eq_true', List.isEmpty_eq_false_iff]
    exact hdrives
  have hnotGood : (!heartbeatGood s) = true := by rw [hlost, Bool.not_false]
  exact guarded_of (and_holds (and_holds (and_holds (decide_eq_true hstate) hself) hnotGood) hsome) s _

/-- A booting controller that sees no partner becomes SOLO where the drives allow it, and stays FENCED else (R383). -/
theorem execBootWaitExpiry_of_alone {s : State} (hboot : s.pair.booting = true) (hstate : pairState s = 3)
    (hlost : heartbeatGood s = false) (hpartner : partnerState s = 7) (acquired : Bool) :
    execBootWaitExpiry acquired s =
      .next (if (if (activeDrives s).isEmpty then !secondary s else acquired) then finishStart (goSolo s)
        else finishStart (eventAt s pgPAIR sevError clPair 3)) := by
  have hnotGood : (!heartbeatGood s) = true := by rw [hlost, Bool.not_false]
  exact guarded_of (and_holds (and_holds (and_holds hboot (decide_eq_true hstate)) hnotGood)
    (decide_eq_true hpartner)) s _

/-- After the audit, Cistern frames of no mirrored sub-page are free (R395). -/
theorem execFrameAuditDone_of_audit {s u : State} (haudit : s.pair.audit = true)
    (hu : u = { (modPair s fun p => { p with audit := false }) with tier := { s.tier with
      cisUsed := s.tier.cisUsed.filter ((s.tier.subs.filter fun e => e.2.state = 3).map fun e => e.2.frame).contains } }) :
    execFrameAuditDone s = .next (wr u (ra pgTIER 0x118) (cisFree u)) := by
  subst hu
  exact guarded_of haudit s _

/-- Settles O50: heartbeats by path and CRC, the loss of both paths by the pair state. The corner cases of the pair
are the model's reading (log entry 37). -/
theorem pairHeartbeatsAct : Obligations.PairHeartbeatsAct := by
  unfold Obligations.PairHeartbeatsAct
  refine ⟨?send, ?goodB, ?goodA, ?answerA, ?badB, ?badA, ?lossA, ?lossB, ?lossBoth, ?selfFence, ?portsOut, ?solo,
    ?preempted, ?runnelActive, ?runnelStandby, ?bootSolo, ?bootFenced, ?audit⟩
  case send => exact fun s u hheld hbeats hu => ⟨_, rfl, execHeartbeatSend_of_beating hheld hbeats hu rfl⟩
  case goodB =>
    exact fun s b hheld hpath hcrc =>
      ⟨execHeartbeat_pathB_good hheld hpath hcrc, execHeartbeatAnswer_pathB hheld hpath⟩
  case goodA =>
    exact fun s u b p hheld hpath hcrc htake => execHeartbeat_pathA_good hheld hpath htake hcrc
  case answerA => exact fun s u b p hheld hpath htake => execHeartbeatAnswer_pathA hheld hpath htake
  case badB =>
    intro s b hheld hpath hcrc
    have hbeat : beat s b = modPair s fun p => { p with goodB := 0 } := by rw [beat_of_badCrc hcrc, hpath]; rfl
    rw [← hbeat]
    exact ⟨execHeartbeat_pathB_bad hheld hpath hcrc, execHeartbeatAnswer_pathB hheld hpath⟩
  case badA =>
    intro s u b p hheld hpath hcrc htake
    have hbeat : beat u b = modPair u fun p => { p with goodA := 0 } := by rw [beat_of_badCrc hcrc, hpath]; rfl
    rw [← hbeat]
    exact execHeartbeat_pathA_bad hheld hpath htake hcrc
  case lossA =>
    intro s v hgood hv hother
    subst hv
    exact execHeartbeatPathLoss_of_other hgood hother
  case lossB =>
    intro s v hgood hv hother
    subst hv
    exact execHeartbeatPathLoss_of_other hgood hother
  case lossBoth =>
    intro s v u hgood hv hboth hu
    subst hv hu
    have hlost := execHeartbeatPathLoss_of_both hgood hboth
    exact ⟨fun h => hlost.trans (congrArg Host.Outcome.next (partnerLost_of_standby h)),
      fun h => hlost.trans (congrArg Host.Outcome.next (partnerLost_of_syncing h)),
      fun h => hlost.trans (congrArg Host.Outcome.next (partnerLost_of_serving h))⟩
  case selfFence => exact fun s => execSelfFence_of_recognised
  case portsOut => exact fun s => execFencedPortsOut_of_fenced
  case solo =>
    intro s u ds hstate hself hlost hdrives hu hall
    subst hu
    exact (execSoloWaitExpiry_of_fenced hstate hself hlost hdrives ds).trans
      (congrArg Host.Outcome.next (if_pos hall))
  case preempted =>
    intro s u ds hstate hself hlost hdrives hu hnot
    subst hu
    exact (execSoloWaitExpiry_of_fenced hstate hself hlost hdrives ds).trans
      (congrArg Host.Outcome.next (if_neg (ne_true_of_eq_false hnot)))
  case runnelActive => exact fun s => execRunnelLossTimeout_active
  case runnelStandby => exact fun s => execRunnelLossTimeout_standby
  case bootSolo =>
    intro s a hboot hstate hlost hpartner hsolo
    exact (execBootWaitExpiry_of_alone hboot hstate hlost hpartner a).trans
      (congrArg Host.Outcome.next (if_pos hsolo))
  case bootFenced =>
    intro s a hboot hstate hlost hpartner hnot
    exact (execBootWaitExpiry_of_alone hboot hstate hlost hpartner a).trans
      (congrArg Host.Outcome.next (if_neg (ne_true_of_eq_false hnot)))
  case audit => exact fun s u => execFrameAuditDone_of_audit

end Sys2Proof.Machine
end

section
/-!
PROOFS. The mirror of the pair, the health of the standby, handover and resynchronisation (chapter 17).
-/
namespace Sys2Proof.Machine

/-! ## Mirrored writes (R389, R390) -/

/-- The frames that a mirror write needs, taken one sub-page after the other. -/
abbrev ownFrames (s : State) (pa n : Nat) : Option State :=
  (subsOf pa n).foldl (fun (acc : Option State) q => acc.bind fun s => ownFrame s q) (some s)

/-- With a frame for each of its sub-pages an unmasked mirror write is stored and acknowledged. -/
theorem applyMirror_of_run {u v : State} {t pa k : Nat} {dir : Bool} {d : Bytes}
    (hframes : ownFrames u pa d.length = some v) :
    applyMirror u ⟨t, dir, pa, d, none, k⟩ = some (sendRunnel (writeRun v pa d k) 0 (runMack t dir)) :=
  congrArg (Option.map _) hframes

/-- With a frame for its line a masked one is. -/
theorem applyMirror_of_line {u v : State} {t pa k : Nat} {dir : Bool} {d : Bytes} {m : BitVec 64}
    (hframes : ownFrames u pa d.length = some v) :
    applyMirror u ⟨t, dir, pa, d, some m, k⟩ =
      some (sendRunnel (writeLine v (pa / 64) (fitBytes 64 d) m.toNat k) 0 (runMack t dir)) :=
  congrArg (Option.map _) hframes

/-- A mirror write that nothing stands before is applied. -/
theorem takeMirror_of_unstaged {u v : State} {w : MirrorWrite} (hfirst : stagedOn u w = false)
    (happlied : applyMirror u w = some v) : takeMirror u w = some v := by
  simp only [takeMirror, if_neg (ne_true_of_eq_false hfirst), happlied]

/-- Behind another of its sub-page it waits in mirror staging. -/
theorem takeMirror_of_staged {u : State} {w : MirrorWrite} (hbehind : stagedOn u w = true)
    (hroom : (u.pair.staged.map fun x => x.data.length).sum + w.data.length ≤ 67108864) :
    takeMirror u w = some (modPair u fun p => { p with staged := p.staged ++ [w] }) := by
  simp only [takeMirror, if_pos hbehind, if_pos hroom]

/-- A receiving controller takes the packet of a mirrored write. -/
theorem execMwr_of_taken {s u v : State} {t pa n : Nat} {d : Bytes} {m : Option (BitVec 64)} {p : Option Nat}
    (hreceives : receives s = true) (hn : n = (p.map storedCode).getD 0)
    (htaken : takeRunnel s (runMwr t pa m n d) = some u) (hmirror : takeMirror u ⟨t, false, pa, d, m, n⟩ = some v) :
    execMwr t pa d m p s = .next v := by
  subst hn
  simp only [execMwr, guarded_of hreceives, htaken, Option.bind_some, hmirror]

/-! ## Directory changes and what else travels with them (R389, Table 17-5) -/

section Mdir

variable {s u : State} {t : Nat} (hreceives : receives s = true)

include hreceives

/-- A line's change without data is applied and acknowledged. -/
theorem execMdir_line {c : DirChange} (htaken : takeRunnel s (changeMsg t (.line c)) = some u)
    (hbare : c.data = none) :
    execMdir t (.line c) s = .next (sendRunnel (dirMirrored u c) 0 (runMack t true)) := by
  simp only [execMdir, guarded_of hreceives, htaken, hbare]

/-- A line's change with data is a mirrored write of the line too. -/
theorem execMdir_lineData {v : State} {k : Nat} {c : DirChange} {d : Bytes}
    (htaken : takeRunnel s (changeMsg t (.line c)) = some u) (hdata : c.data = some (d, k))
    (hmirror : takeMirror (dirMirrored u c) ⟨t, true, c.line * 64, fitBytes 64 d, none, k⟩ = some v) :
    execMdir t (.line c) s = .next v := by
  simp only [execMdir, guarded_of hreceives, htaken, hdata, hmirror, Option.getD_some]

/-- An agent's fence state is taken over. -/
theorem execMdir_fence {i : Nat} {x : Bool} (htaken : takeRunnel s (changeMsg t (.fence i x)) = some u) :
    execMdir t (.fence i x) s = .next (sendRunnel (fenceMirrored u i x) 0 (runMack t true)) := by
  simp only [execMdir, guarded_of hreceives, htaken]

/-- An entry that the partner took is taken here. -/
theorem execMdir_taken {q h o d : Nat} (htaken : takeRunnel s (changeMsg t (.taken q h o d)) = some u) :
    execMdir t (.taken q h o d) s = .next (sendRunnel (takenMirrored u q h o d) 0 (runMack t true)) := by
  simp only [execMdir, guarded_of hreceives, htaken]

/-- A sub-page enters CISTERN in a frame. -/
theorem execMdir_enter {q f : Nat} (htaken : takeRunnel s (changeMsg t (.cistern q (some f))) = some u) :
    execMdir t (.cistern q (some f)) s =
      .next (sendRunnel (setSub (releaseRec (dropMerges u q) (subRec u q)) q { state := 3, frame := f }) 0
        (runMack t true)) := by
  simp only [execMdir, guarded_of hreceives, htaken]

/-- A sub-page that leaves it is acknowledged. -/
theorem execMdir_leave {q : Nat} (htaken : takeRunnel s (changeMsg t (.cistern q none)) = some u) :
    execMdir t (.cistern q none) s = .next (sendRunnel u 0 (runMack t true)) := by
  simp only [execMdir, guarded_of hreceives, htaken]

/-! ## Ticks (R391, R392, R404) -/

/-- The last part of a newer tick's delta is installed and acknowledged. -/
theorem execDelta_whole (x : Slow) (hnew : ¬ (t ≤ rd s (ra pgPAIR 0x10C) ∧ pairState s = 1)) :
    execDelta t (.whole x) s =
      .next (sendRunnel (wr (installSlow s x) (ra pgPAIR 0x10C) t) 0 (runCtl 2 (natLe 4 t))) :=
  (guarded_of hreceives s _).trans (congrArg Host.Outcome.next (if_neg hnew))

/-- The directory of a resynchronisation is taken over. -/
theorem execDelta_dir (es : Tbl DirEntry) :
    execDelta t (.dir es) s = .next { s with dir := { s.dir with entries := es } } :=
  guarded_of hreceives s _

/-- A copied sub-page takes a frame of this controller's own. -/
theorem execDelta_copy {q : Nat} (hframe : ownFrame s q = some u) (d : Bytes) (ps : List (Nat × Nat)) :
    execDelta t (.copy q d ps) s = .next (ps.foldl (fun s p => setPoison s p.1 p.2)
      (setBytes (zeroSub u q) (q * 65536) (fitBytes 65536 d))) := by
  simp only [execDelta, guarded_of hreceives, hframe]

end Mdir

/-- A STANDBY receives, and so does a SYNCING controller. -/
theorem receives_of_syncing {s : State} (hstate : pairState s = 2) : receives s = true := by
  rw [receives, decide_eq_true hstate, Bool.or_true]

/-- A tick closes with its number. -/
theorem execTickClose_of_mirroring {s : State} (hmirrors : mirroring s = true) :
    execTickClose s = .next (sendRunnel (modPair s fun p => { p with tick := s.pair.tick + 1 }) 0
      (runDelta (s.pair.tick + 1) 0 [])) :=
  guarded_of hmirrors s _

/-- The acknowledgement of a tick that is newer and has closed is recorded. -/
theorem execTickAck_of_newer {s u : State} {t : Nat} (htaken : takeRunnel s (runCtl 2 (natLe 4 t)) = some u)
    (hserves : serving u = true) (hnewer : rd u (ra pgPAIR 0x10C) < t) (hclosed : t ≤ u.pair.tick) :
    execTickAck t s = .next (wr u (ra pgPAIR 0x10C) t) :=
  (onRunnel_of_taken htaken _).trans (congrArg Host.Outcome.next (if_pos ⟨hserves, hnewer, hclosed⟩))

/-! ## Acknowledgements (R389, R396) -/

section Mack

variable {s u : State} {t : Nat} {d : Bool} {m : Nat × Bool × MackFor} (htaken : takeRunnel s (runMack t d) = some u)
  (hwaits : u.pair.macks.find? (fun m => decide (m.1 = t) && m.2.1 == d) = some m)

include htaken hwaits

/-- What waits for an acknowledgement goes on. -/
theorem execMack_of_sound (hsound : u.pair.recognised = false) :
    execMack t d s = .next (mackTake (modPair u fun p => { p with
      macks := p.macks.erase m, unacked := p.unacked.filter fun w => w.2.tag ≠ t }) d m.2.2) := by
  refine (onRunnel_of_taken htaken _).trans (congrArg Host.Outcome.next ?_)
  simp only [hwaits, if_neg (ne_true_of_eq_false hsound)]

/-- A controller that has recognised failure lets nothing go on. -/
theorem execMack_of_recognised (hlost : u.pair.recognised = true) : execMack t d s = .next u := by
  refine (onRunnel_of_taken htaken _).trans (congrArg Host.Outcome.next ?_)
  simp only [hwaits, if_pos hlost]

end Mack

/-! ## Relays (R403) -/

section Relay

variable {s u : State} {p : Nat} (hserves : serving s = true) (hp : p < 21)

include hserves hp

/-- A relayed packet stands among those that came to its port. -/
theorem execRelay_packet {k : Packet} (htaken : takeRunnel s (runRelay p (packetBytes k)) = some u) :
    execRelay p (.packet k) s = .next { u with link := { u.link with
      rx := tput u.link.rx p (tgetD u.link.rx p [] ++
        [{ pkt := parsePacket (packetBytes k), since := u.now, stale := true }]) } } := by
  simp only [execRelay, guarded_of (and_holds hserves (decide_eq_true hp)), htaken]

/-- A relayed CXL.mem read arrives. -/
theorem execRelay_read {a : Nat} {bs : Bytes}
    (hbs : bs = cxlRelayed { hpa := a / 64 * 64, write := false, start := s.now })
    (htaken : takeRunnel s (runRelay p bs) = some u) :
    execRelay p (.cxlRead a) s = .next (cxlArrive u { hpa := a / 64 * 64, write := false, start := u.now }) := by
  subst hbs
  simp only [execRelay, guarded_of (and_holds hserves (decide_eq_true hp)), htaken]

/-- A relayed CXL.mem write arrives. -/
theorem execRelay_write {a : Nat} {bs d : Bytes} {m : BitVec 64} {x : Bool}
    (hbs : bs = cxlRelayed { hpa := a / 64 * 64, write := true, data := fitBytes 64 d, mask := m, poison := x, start := s.now })
    (htaken : takeRunnel s (runRelay p bs) = some u) :
    execRelay p (.cxlWrite a d m x) s = .next (cxlArrive u
      { hpa := a / 64 * 64, write := true, data := fitBytes 64 d, mask := m, poison := x, start := u.now }) := by
  subst hbs
  simp only [execRelay, guarded_of (and_holds hserves (decide_eq_true hp)), htaken]

end Relay

/-! ## Health (R400, R401) -/

/-- A health report counts at the serving controller. -/
theorem execHealth_of_serving {s u v : State} {n w : Nat} {c : Bool} {f : BitVec 4}
    (hw : w = (if c then 1 else 0) + f.toNat * 2 + n % 65536 * 65536)
    (htaken : takeRunnel s (runCtl 3 (natLe 4 w)) = some u) (hserves : serving u = true)
    (hv : v = wr u (ra pgPAIR 0x118) w) :
    execHealth n c f s = .next (setClean v (if c then cleanReports u + 1 else 0)) := by
  subst hv hw
  exact (onRunnel_of_taken htaken _).trans (congrArg Host.Outcome.next (if_pos hserves))

/-- A STANDBY that does not return by itself sends its report and counts the clean ones. -/
theorem execHealthReportSend_of_staying {s u v : State} {n w : Nat} {c : Bool}
    (hc : (decide (s.pair.fails = 0) && decide (s.fault.errors = s.pair.errSeen)) = c) (hstate : pairState s = 1)
    (hn : n = (rf s (ra pgPAIR 0x118) 16 16 + 1) % 65536)
    (hw : w = (if c then 1 else 0) + s.pair.fails.toNat * 2 + n * 65536)
    (hu : u = modPair (sendRunnel (wr s (ra pgPAIR 0x118) w) 0 (runCtl 3 (natLe 4 w))) fun p => { p with
      fails := 0
      errSeen := (sendRunnel (wr s (ra pgPAIR 0x118) w) 0 (runCtl 3 (natLe 4 w))).fault.errors })
    (hv : v = setClean u (if c then cleanReports u + 1 else 0)) (hstays : rb v (ra pgPAIR 0x100) 1 = false) :
    execHealthReportSend s = .next v := by
  subst hc hn hw hu hv
  refine (guarded_of (decide_eq_true hstate) s _).trans (congrArg Host.Outcome.next (if_neg ?_))
  rw [hstays]
  simp only [Bool.false_and, Bool.false_eq_true, not_false_eq_true]

/-- A report that does not come ends the run of clean ones. -/
theorem execHealthReportMissed_of_serving {s : State} (hserves : serving s = true) :
    execHealthReportMissed s = .next (wf s pairStat 16 16 0) :=
  guarded_of hserves s _

/-! ## Handover (R405, R406) -/

/-- The serving controller that is asked begins the pause. -/
theorem execHandoverReq_of_active {s u : State} (htaken : takeRunnel s (runCtl 5 []) = some u)
    (hstate : pairState u = 0) (hpartner : partnerState u = 1) (hruns : u.pair.pause = false) :
    execHandoverReq s = .next (startPause u) :=
  (onRunnel_of_taken htaken _).trans (congrArg Host.Outcome.next
    ((if_pos ⟨hstate, hpartner⟩).trans (if_neg (ne_true_of_eq_false hruns))))

/-- A STANDBY that is asked takes its ports into service. -/
theorem execHandoverReq_of_standby {s u : State} (htaken : takeRunnel s (runCtl 5 []) = some u)
    (hstate : pairState u = 1) (hnew : u.pair.returning = false) :
    execHandoverReq s = .next (startReturn u) := by
  have hnotActive : ¬ (pairState u = 0 ∧ partnerState u = 1) := fun ⟨hactive, _⟩ =>
    absurd (hstate.symm.trans hactive) (by decide)
  exact (onRunnel_of_taken htaken _).trans (congrArg Host.Outcome.next
    ((if_neg hnotActive).trans (if_pos ⟨hstate, ne_true_of_eq_false hnew⟩)))

/-- At the time-out issued tiles count as committed, the others go back to their operations, and the final tick closes
(log entry 88). -/
theorem execHandoverDrainTimeout_of_pause {s u v w : State} (hpause : s.pair.pause = true)
    (hnot : s.pair.finalTick = false)
    (hu : u = (s.cmd.tiles.filter Tile.issued).foldl (fun s t =>
      match opOf s t.op with | some o => tileDone s t.op o t | none => s) s)
    (hv : v = u.cmd.tiles.foldl (fun s t => wasteTile s t 18) u)
    (hw : w = u.cmd.tiles.foldl (fun s t => giveBack s t.op [t.num]) { v with cmd := { v.cmd with tiles := [] } }) :
    execHandoverDrainTimeout s = .next (sendRunnel (modPair w fun p => { p with
      tick := w.pair.tick + 1, finalTick := true }) 0 (runDelta (w.pair.tick + 1) 0 [])) := by
  subst hu hv hw
  have hdrains : (s.pair.pause && !s.pair.finalTick) = true := by rw [hpause, hnot]; rfl
  exact guarded_of hdrains s _

/-- A state that has no tile is as it is with its tiles cleared. -/
theorem clearTiles_of_none {s : State} (hnone : s.cmd.tiles = []) :
    { s with cmd := { s.cmd with tiles := [] } } = s := by
  rw [← hnone]

/-- The controller that pauses hands over. -/
theorem execHandoverGo_of_final {s u : State} (htaken : takeRunnel s (runCtl 6 []) = some u)
    (hpause : u.pair.pause = true) (hfinal : u.pair.finalTick = true) :
    execHandoverGo true s = .next (if (handoverGone u).pwr.warm = 1 then warmGo (warmBegin (handoverGone u))
      else handoverGone u) :=
  (onRunnel_of_taken htaken _).trans (congrArg Host.Outcome.next (if_pos ⟨hpause, hfinal⟩))

/-- The STANDBY of an ACTIVE controller takes over its part. -/
theorem execHandoverGo_of_standby {s : State} (hstate : pairState s = 1) (hpartner : partnerState s = 0)
    (hgood : heartbeatGood s = true) : execHandoverGo false s = .next (handoverTaken s) :=
  guarded_of (and_holds (and_holds (decide_eq_true hstate) (decide_eq_true hpartner)) hgood) s _

/-! ## The end of a resynchronisation (R383, R404) -/

/-- A SYNCING controller becomes STANDBY. -/
theorem execResyncComplete_of_syncing {s : State} (hstate : pairState s = 2) :
    execResyncComplete s = .next (portsFollow (modPair (wf (setPair s 1) pairStat 3 3 0) fun p => { p with
      errSeen := s.fault.errors, took := false })) := by
  simp only [execResyncComplete, hstate]

/-- Its SOLO partner becomes ACTIVE. -/
theorem execResyncComplete_of_solo {s : State} (hstate : pairState s = 4) (hpartner : partnerState s = 2) :
    execResyncComplete s =
      .next (setClean (wf (setPair (wr (finishSync s) (ra pgPAIR 0x114) 0) 0) pairStat 3 3 1) 0) := by
  simp only [execResyncComplete, hstate]
  exact guarded_of (decide_eq_true hpartner) s _

/-! ## PAIR.CMD (R409) -/

/-- An action that is allowed runs with CMD_ERR clear. -/
theorem pairAction_of_allowed {s : State} {allowed : Bool} (hallowed : allowed = true) (f : State → State) :
    pairAction 2 s allowed f = .next (f (wb s pairCmd 2 false)) := by
  subst hallowed
  rfl

/-- One that is not sets CMD_ERR. -/
theorem pairAction_of_refused {s : State} {allowed : Bool} (hrefused : allowed = false) (f : State → State) :
    pairAction 2 s allowed f = .next (wb s pairCmd 2 true) := by
  subst hrefused
  rfl

/-- A serving controller is told to fence; it does not try to be SOLO by itself then. -/
theorem execFenceSelf_of_serving {s : State} (hserves : serving s = true) :
    execFenceSelf 2 s = .next (portsFollow (modPair (fenceSelf (wb s pairCmd 2 false)) fun p => { p with
      fencedSelf := false })) :=
  pairAction_of_allowed hserves _

/-- Another is not told to. -/
theorem execFenceSelf_of_notServing {s : State} (hnot : serving s = false) :
    execFenceSelf 2 s = .next (wb s pairCmd 2 true) :=
  pairAction_of_refused hnot _

/-- A fenced controller without heartbeats is told to be SOLO (R397). -/
theorem execGoSolo_of_fenced {s : State} (hstate : pairState s = 3) (hlost : heartbeatGood s = false) :
    execGoSolo 2 s = .next (goSolo (wb s pairCmd 2 false)) :=
  pairAction_of_allowed (and_holds (decide_eq_true hstate) (by rw [hlost, Bool.not_false])) _

/-- A handover towards a SECONDARY pauses at once; a PRIMARY asks for its ports first. -/
theorem execHandover_of_active {s : State} (hstate : pairState s = 0) (hpartner : partnerState s = 1)
    (hgood : heartbeatGood s = true) (hruns : s.pair.pause = false) :
    execHandover 2 s = .next (if secondary (wb s pairCmd 2 false) then
      sendRunnel (wb s pairCmd 2 false) 0 (runCtl 5 []) else startPause (wb s pairCmd 2 false)) := by
  have hallowed : (decide (pairState s = 0) && decide (partnerState s = 1) && heartbeatGood s && !s.pair.pause) =
      true := by
    rw [decide_eq_true hstate, decide_eq_true hpartner, hgood, hruns]
    rfl
  exact pairAction_of_allowed hallowed _

/-- A controller that does not serve is not ACTIVE: it does not hand over. -/
theorem execHandover_of_notServing {s : State} (hnot : serving s = false) :
    execHandover 2 s = .next (wb s pairCmd 2 true) := by
  have hstate : pairState s ≠ 0 := fun hactive => by
    rw [serving, decide_eq_true hactive, Bool.true_or] at hnot
    exact Bool.false_ne_true hnot.symm
  refine pairAction_of_refused ?_ _
  rw [decide_eq_false hstate]
  simp only [Bool.false_and]

/-- Settles O51: each packet's equation once it is taken, and each action of PAIR.CMD through `pairAction`. The packets'
bits are the model's (log entry 22), as are the tiles that count as committed (log entry 88). -/
theorem pairMirrorAndHandoverAct : Obligations.PairMirrorAndHandoverAct := by
  unfold Obligations.PairMirrorAndHandoverAct
  refine ⟨?run, ?masked, ?staged, ?line, ?lineData, ?fence, ?taken, ?enter, ?leave, ?mack, ?mackLost, ?tickClose,
    ?delta, ?deltaSync, ?deltaDir, ?deltaCopy, ?tickAck, ?relayPacket, ?relayRead, ?relayWrite, ?health, ?reportFails,
    ?reportClean, ?reportMissed, ?reqActive, ?reqStandby, ?drainNone, ?drain, ?go, ?goWarm, ?goTaken, ?done,
    ?syncStandby, ?syncActive, ?fenceSelf, ?goSolo, ?handover, ?refused⟩
  case run =>
    exact fun s u v t pa d p n hreceives hn htaken hfirst hframes =>
      execMwr_of_taken hreceives hn htaken (takeMirror_of_unstaged hfirst (applyMirror_of_run hframes))
  case masked =>
    exact fun s u v t pa d p n m hreceives hn htaken hfirst hframes =>
      execMwr_of_taken hreceives hn htaken (takeMirror_of_unstaged hfirst (applyMirror_of_line hframes))
  case staged =>
    exact fun s u t pa d m p n hreceives hn htaken hbehind hroom =>
      execMwr_of_taken hreceives hn htaken (takeMirror_of_staged hbehind hroom)
  case line => exact fun s u t c hreceives => execMdir_line hreceives
  case lineData =>
    intro s u v t k c d w hreceives htaken hdata hw hfirst happlied
    subst hw
    exact execMdir_lineData hreceives htaken hdata (takeMirror_of_unstaged hfirst happlied)
  case fence => exact fun s u t i x hreceives => execMdir_fence hreceives
  case taken => exact fun s u t q h o d hreceives => execMdir_taken hreceives
  case enter => exact fun s u t q f hreceives => execMdir_enter hreceives
  case leave => exact fun s u t q hreceives => execMdir_leave hreceives
  case mack => exact fun s u t d m => execMack_of_sound
  case mackLost => exact fun s u t d m => execMack_of_recognised
  case tickClose => exact fun s => execTickClose_of_mirroring
  case delta =>
    exact fun s t x hreceives hnewer => execDelta_whole hreceives x fun ⟨hold, _⟩ => hnewer.not_ge hold
  case deltaSync =>
    exact fun s t x hstate => execDelta_whole (receives_of_syncing hstate) x fun ⟨_, hstandby⟩ =>
      absurd (hstate.symm.trans hstandby) (by decide)
  case deltaDir => exact fun s t es hreceives => execDelta_dir (t := t) hreceives es
  case deltaCopy => exact fun s u t q d ps hreceives hframe => execDelta_copy (t := t) hreceives hframe d ps
  case tickAck => exact fun s u t => execTickAck_of_newer
  case relayPacket => exact fun s u p k hserves hp => execRelay_packet hserves hp
  case relayRead => exact fun s u p a bs hserves hp => execRelay_read hserves hp
  case relayWrite => exact fun s u p a bs d m x hserves hp => execRelay_write hserves hp
  case health => exact fun s u v n w c f => execHealth_of_serving
  case reportFails =>
    intro s u v n w hfails hstate hstays hn hw hu hv
    have hc : (decide (s.pair.fails = 0) && decide (s.fault.errors = s.pair.errSeen)) = false := by
      rw [decide_eq_false hfails, Bool.false_and]
    exact execHealthReportSend_of_staying hc hstate hn (hw.trans (by rw [if_neg Bool.false_ne_true, Nat.zero_add])) hu
      hv hstays
  case reportClean =>
    intro s u v n w hfails herrors hstate hstays hn hw hu hv
    have hc : (decide (s.pair.fails = 0) && decide (s.fault.errors = s.pair.errSeen)) = true :=
      and_holds (decide_eq_true hfails) (decide_eq_true herrors)
    exact execHealthReportSend_of_staying hc hstate hn (hw.trans (by rw [hfails]; rfl)) hu hv hstays
  case reportMissed => exact fun s => execHealthReportMissed_of_serving
  case reqActive => exact fun s u => execHandoverReq_of_active
  case reqStandby => exact fun s u => execHandoverReq_of_standby
  case drainNone =>
    intro s hpause hnot hnone
    have hcleared := clearTiles_of_none hnone
    have hstays : s = s.cmd.tiles.foldl (fun s t => giveBack s t.op [t.num])
        { s with cmd := { s.cmd with tiles := [] } } := by rw [hcleared, hnone, List.foldl_nil]
    exact execHandoverDrainTimeout_of_pause hpause hnot (by rw [hnone, List.filter_nil, List.foldl_nil])
      (by rw [hnone, List.foldl_nil]) hstays
  case drain => exact fun s u v w => execHandoverDrainTimeout_of_pause
  case go =>
    intro s u htaken hpause hfinal hcold
    exact (execHandoverGo_of_final htaken hpause hfinal).trans (congrArg Host.Outcome.next (if_neg hcold))
  case goWarm =>
    intro s u htaken hpause hfinal hwarm
    exact (execHandoverGo_of_final htaken hpause hfinal).trans (congrArg Host.Outcome.next (if_pos hwarm))
  case goTaken => exact fun s => execHandoverGo_of_standby
  case done => exact fun s u htaken => onRunnel_of_taken htaken id
  case syncStandby => exact fun s => execResyncComplete_of_syncing
  case syncActive => exact fun s => execResyncComplete_of_solo
  case fenceSelf =>
    intro s u hserves hu
    subst hu
    exact execFenceSelf_of_serving hserves
  case goSolo => exact fun s => execGoSolo_of_fenced
  case handover =>
    intro s u hstate hpartner hgood hruns hu
    subst hu
    have hrun := execHandover_of_active hstate hpartner hgood hruns
    exact ⟨fun hsecondary => hrun.trans (congrArg Host.Outcome.next (if_pos hsecondary)),
      fun hprimary => hrun.trans (congrArg Host.Outcome.next (if_neg (ne_true_of_eq_false hprimary)))⟩
  case refused =>
    exact fun s hnot =>
      ⟨execFenceSelf_of_notServing hnot, execHandover_of_notServing hnot⟩

end Sys2Proof.Machine
end

section
/-!
PROOFS. The standby's own tests (chapter 17).
-/
namespace Sys2Proof.Machine

section Standby

variable {s : State} (hstate : pairState s = 1)

include hstate

/-- The golden round of the next engine that serves or stands in reserve. -/
theorem execStandbyGoldenRound_of_next {u : State} {i : Nat}
    (hnext : (rangeFrom s.pair.nextEng 80).find? (fun i => coreRole s (i % 80 / 4) ≤ 1) = some i)
    (hu : u = modPair s fun p => { p with nextEng := (i % 80 + 1) % 80 }) (pass : Bool) :
    execStandbyGoldenRound pass s = .next (if pass then u
      else modPair (retireEngine u (i % 80)) fun p => { p with fails := setBit p.fails 0 }) := by
  subst hu
  simp only [execStandbyGoldenRound, guarded_of (decide_eq_true hstate), hnext, testFailed]

/-- The march test of the next RESERVE bank. -/
theorem execStandbyMarchTest_of_next {u : State} {i : Nat}
    (hnext : (rangeFrom s.pair.nextBank 1088).find? (fun i => bankRole s (i % 1088 / 17) (i % 17) = 1) = some i)
    (hu : u = modPair s fun p => { p with nextBank := (i % 1088 + 1) % 1088 }) (pass : Bool) :
    execStandbyMarchTest pass s = .next (if pass then u
      else modPair (bankLedger (setBankRole u (i % 1088 / 17) (i % 1088 % 17) 2)) fun p => { p with
        fails := setBit p.fails 1 }) := by
  subst hu
  simp only [execStandbyMarchTest, guarded_of (decide_eq_true hstate), hnext, testFailed]

section Patrol

variable {l da ch : Nat} (hda : lineDa s l = some da) (hch : lineChannel s l = some ch)

include hda hch

/-- A patrol read that finds the line clean changes nothing. -/
theorem execDramPatrolRead_clean : execDramPatrolRead l .clean s = .next s := by
  simp only [execDramPatrolRead, hda, hch, guarded_of (decide_eq_true hstate)]

/-- One that corrects it counts. -/
theorem execDramPatrolRead_corrected :
    execDramPatrolRead l .corrected s =
      .next (dramCorrected s ch (chanDecode s ch (mapDa (grainOf s (da / 1572864)) da).2) (some l)) := by
  simp only [execDramPatrolRead, hda, hch, guarded_of (decide_eq_true hstate)]

/-- One that cannot has the line fetched again. -/
theorem execDramPatrolRead_uncorrectable :
    execDramPatrolRead l .uncorrectable s = .next (modPair (sendRunnel (setPoison (dramUncorrectable s ch
      (chanDecode s ch (mapDa (grainOf s (da / 1572864)) da).2) (some l) da) l 1) 0
      (runDelta 0 0 (natLe 8 (l * 64)))) fun p => { p with fails := setBit p.fails 2 }) := by
  simp only [execDramPatrolRead, hda, hch, guarded_of (decide_eq_true hstate), testFailed]

end Patrol

/-- Lanes below the profile's minimum are reported. -/
theorem execEyeMarginCheck_of_failed {ls : List Nat} (hfailed : ls ≠ []) :
    execEyeMarginCheck ls s = .next (modPair (ls.foldl (fun s l => eventAt s pgPAIR sevWarn clLink l) s) fun p =>
      { p with fails := setBit p.fails 3 }) := by
  have hsome : (!ls.isEmpty) = true := by
    rw [Bool.not_eq_true', List.isEmpty_eq_false_iff]
    exact hfailed
  exact guarded_of (and_holds (decide_eq_true hstate) hsome) s _

end Standby

/-- Settles O52: each test's equation. -/
theorem standbyTestsAct : Obligations.StandbyTestsAct := by
  unfold Obligations.StandbyTestsAct
  refine ⟨?golden, ?march, ?patrol, ?margin⟩
  case golden => exact fun s u i p hstate hnext hu => execStandbyGoldenRound_of_next hstate hnext hu p
  case march => exact fun s u i p hstate hnext hu => execStandbyMarchTest_of_next hstate hnext hu p
  case patrol =>
    exact fun s l da ch hstate hda hch => ⟨execDramPatrolRead_clean hstate hda hch,
      execDramPatrolRead_corrected hstate hda hch, execDramPatrolRead_uncorrectable hstate hda hch⟩
  case margin => exact fun s ls hstate hfailed => execEyeMarginCheck_of_failed hstate hfailed

end Sys2Proof.Machine
end

section
/-!
PROOFS. Requester bindings, domain keys and confidential mode (chapter 18).
-/
namespace Sys2Proof.Machine

/-! ## Requester bindings (R411, R413) -/

/-- A WRITE says in ERR and ERR_CODE how it went, and stores the entry where nothing refuses it. -/
theorem execBindWrite_eq {s : State} {i e : Nat} {b : Binding} {valid : Bool}
    (hi : i = fld (ri s 2 (ra pgSEC 0x100)) 0 13) (hregs : bindRegs s 2 = (b, valid))
    (he : bindRefusal s i b valid = e) {u : State} (hu : u = wf (wb s bindCmd 2 (decide (e ≠ 0))) bindCmd 3 3 e) :
    execBindWrite 2 s = .next (if e ≠ 0 then u
      else if valid then { u with sec := { u.sec with
        binds := tput u.sec.binds i b, bindsOff := tdel u.sec.bindsOff i } }
      else { u with sec := { u.sec with
        binds := tdel u.sec.binds i, bindsOff := tset ⟨0, 0, 0, 0, false, false⟩ u.sec.bindsOff i b } }) := by
  obtain ⟨rfl, rfl⟩ : b = (bindRegs s 2).1 ∧ valid = (bindRegs s 2).2 := by rw [hregs]; exact ⟨rfl, rfl⟩
  subst hi he hu
  exact guarded_of (decide_eq_true (Eq.refl 2)) s _

section BindWrite

variable {s u : State} {i : Nat} {b : Binding} (hi : i = fld (ri s 2 (ra pgSEC 0x100)) 0 13)
  (hu : u = wf (wb s bindCmd 2 false) bindCmd 3 3 0)

include hi hu

/-- A valid entry that no ground refuses is stored. -/
theorem execBindWrite_valid (hregs : bindRegs s 2 = (b, true)) (hfree : bindRefusal s i b true = 0) :
    execBindWrite 2 s = .next { u with sec := { u.sec with
      binds := tput u.sec.binds i b, bindsOff := tdel u.sec.bindsOff i } } :=
  (execBindWrite_eq hi hregs hfree hu).trans
    (congrArg Host.Outcome.next ((if_neg (not_not_intro rfl)).trans (if_pos rfl)))

/-- So is one that invalidates its entry. -/
theorem execBindWrite_invalid (hregs : bindRegs s 2 = (b, false)) (hfree : bindRefusal s i b false = 0) :
    execBindWrite 2 s = .next { u with sec := { u.sec with
      binds := tdel u.sec.binds i, bindsOff := tset ⟨0, 0, 0, 0, false, false⟩ u.sec.bindsOff i b } } :=
  (execBindWrite_eq hi hregs hfree hu).trans
    (congrArg Host.Outcome.next ((if_neg (not_not_intro rfl)).trans (if_neg Bool.false_ne_true)))

end BindWrite

/-- A refused entry leaves its ground in ERR_CODE. -/
theorem execBindWrite_refused {s : State} {i e : Nat} {b : Binding} {valid : Bool}
    (hi : i = fld (ri s 2 (ra pgSEC 0x100)) 0 13) (hregs : bindRegs s 2 = (b, valid))
    (he : bindRefusal s i b valid = e) (hground : e ≠ 0) :
    execBindWrite 2 s = .next (wf (wb s bindCmd 2 true) bindCmd 3 3 e) := by
  rw [execBindWrite_eq hi hregs he rfl, if_pos hground, decide_eq_true hground]

/-- A READ shows a valid entry in the data registers. -/
theorem execBindRead_of_entry {s u : State} {i : Nat} {b : Binding} (hi : i = fld (ri s 2 (ra pgSEC 0x100)) 0 13)
    (hentry : tget s.sec.binds i = some b)
    (hu : u = wi (wi s 2 (ra pgSEC 0x104) b.base) 2 (ra pgSEC 0x108) b.pages) :
    execBindRead 2 s = .next (wi u 2 (ra pgSEC 0x10C)
      (b.req + b.dom * 8192 + (if b.rd then 2 ^ 23 else 0) + (if b.wr then 2 ^ 24 else 0) + 2 ^ 25)) := by
  subst hi hu
  rw [execBindRead, guarded_of (decide_eq_true (Eq.refl 2))]
  simp only [hentry, Option.getD_some, Option.isSome_some, if_true]

/-! ## Keys (R413, R414, R417) -/

section Keys

variable {s : State} {d : Nat} (hidle : keyBusy s = false)

include hidle

/-- Holhild's key command while none runs. -/
theorem keyGuard : (decide (2 = 2) && !keyBusy s) = true := by
  rw [hidle]
  rfl

section Slot

variable (hslot : keySlot s 2 = d)

include hslot

/-- A key is generated in a slot that can be filled. -/
theorem execKeyGenerate_of_fillable {u : State} {k : BitVec 512} (hfill : keyFillable s d = true)
    (hdraw : drawRandom s = (k, u)) : execKeyGenerate 2 s = .next (keyFill (keyErr u false) d k) := by
  subst hslot
  rw [execKeyGenerate, guarded_of (keyGuard hidle)]
  simp only [if_pos hfill, hdraw]

/-- Another slot is refused. -/
theorem execKeyGenerate_of_unfillable (hfill : keyFillable s d = false) :
    execKeyGenerate 2 s = .next (keyErr s true) := by
  subst hslot
  rw [execKeyGenerate, guarded_of (keyGuard hidle)]
  simp only [if_neg (ne_true_of_eq_false hfill)]

section Import

variable {n : Nat} {w : Bytes} {x : Session} (hsession : authSession s n = some x)

include hsession

/-- A wrapped key that the session's key opens is imported. -/
theorem execKeyImport_of_opened {k : BitVec 512} (hfill : keyFillable s d = true) (hlen : w.length = 72)
    (hkey : Config.unwrap (x.id * 4294967296 + x.keyGen) w = some k) :
    execKeyImport 2 n w s = .next (keyFill (keyErr s false) d k) := by
  subst hslot
  rw [execKeyImport, guarded_of (keyGuard hidle)]
  simp only [hsession, Option.bind_some, hkey,
    if_pos (and_holds hfill (decide_eq_true hlen))]

omit hslot in
/-- One that it does not open is refused. -/
theorem execKeyImport_of_unopened (hkey : Config.unwrap (x.id * 4294967296 + x.keyGen) w = none) :
    execKeyImport 2 n w s = .next (keyErr s true) := by
  rw [execKeyImport, guarded_of (keyGuard hidle)]
  simp only [hsession, Option.bind_some, hkey]

end Import

omit hslot in
/-- Without an authenticated session nothing is imported. -/
theorem execKeyImport_of_noSession {n : Nat} (hsession : authSession s n = none) (w : Bytes) :
    execKeyImport 2 n w s = .next (keyErr s true) := by
  rw [execKeyImport, guarded_of (keyGuard hidle)]
  simp only [hsession, Option.bind_none]

/-- A slot that is not used is zeroised, at the partner too where it is STANDBY. -/
theorem execKeyZeroise_of_unused {u : State} (hd : d < 1024) (hlines : charge s d 0 = 0) (hunits : charge s d 2 = 0)
    (hopen : locked s pgSEC = false)
    (hu : u = keyErr { s with sec := { s.sec with keys := tdel s.sec.keys d } } false) :
    execKeyZeroise 2 s =
      .next (if decide (partnerState u = 1) && decide (pairState u = 0) then sendKey u d none else u) := by
  have hallowed : (decide (1024 ≤ d) || decide (charge s d 0 ≠ 0) || decide (charge s d 2 ≠ 0) || locked s pgSEC) =
      false := by
    rw [decide_eq_false hd.not_ge, decide_eq_false (not_not_intro hlines), decide_eq_false (not_not_intro hunits), hopen]
    rfl
  subst hslot hu
  rw [execKeyZeroise, guarded_of (keyGuard hidle)]
  exact congrArg Host.Outcome.next (if_neg (ne_true_of_eq_false hallowed))

/-- One that is used, or frozen, is refused. -/
theorem execKeyZeroise_of_used
    (hused : 1024 ≤ d ∨ charge s d 0 ≠ 0 ∨ charge s d 2 ≠ 0 ∨ locked s pgSEC = true) :
    execKeyZeroise 2 s = .next (keyErr s true) := by
  have hrefused : (decide (1024 ≤ d) || decide (charge s d 0 ≠ 0) || decide (charge s d 2 ≠ 0) || locked s pgSEC) =
      true := by
    simp only [Bool.or_eq_true, decide_eq_true_iff, or_assoc]
    exact hused
  subst hslot
  rw [execKeyZeroise, guarded_of (keyGuard hidle)]
  exact congrArg Host.Outcome.next (if_pos hrefused)

end Slot

end Keys

/-- A PENDING key is ARMED once the partner has it. -/
theorem execKeyPartnerInstalled_of_pending {s : State} {d : Nat} {k : KeySlot} (hkey : tget s.sec.keys d = some k)
    (hpending : k.state = 1) (hstate : pairState s ≠ 1) :
    execKeyPartnerInstalled d s =
      .next (wb { s with sec := { s.sec with keys := tput s.sec.keys d { k with state := 2 } } } keyCmd 3 false) := by
  simp only [execKeyPartnerInstalled, hkey]
  exact guarded_of (and_holds (decide_eq_true hpending) (decide_eq_true hstate)) s _

/-! ## Confidential mode (R422) -/

/-- Holhild enters confidential mode within an authenticated session; an unlocked debug is locked at once. -/
theorem execConfEnable_of_session {s u : State} {v : W32} {x : Session} (hbit : v.toNat.testBit 0 = true)
    (hx : x ∈ s.sec.sessions) (hestablished : x.established = true) (hmutual : x.mutAuth = true)
    (hoff : rb s (ra pgSEC 0x120) 0 = false) (hu : u = if debugOpen s then wf s debugReg 0 2 2 else s) :
    execConfEnable 2 v s =
      .next { (wb u (ra pgSEC 0x120) 0 true) with sec := { u.sec with confNext := true } } := by
  have hsession : (s.sec.sessions.any fun x => x.established && x.mutAuth) = true :=
    List.any_eq_true.mpr ⟨x, hx, and_holds hestablished hmutual⟩
  have hnotOn : (!rb s (ra pgSEC 0x120) 0) = true := by rw [hoff, Bool.not_false]
  subst hu
  have hset : bitN v.toNat 0 = true := hbit
  rw [execConfEnable, guarded_of (and_holds (and_holds (and_holds (decide_eq_true (Eq.refl 2)) hset) hsession) hnotOn)]

/-- Settles O53: WRITE by its ground, each key command by its slot. Which ground a refusal names is the model's reading
of R411 and Table 18-6 (log entry 38). -/
theorem bindingsAndKeysAct : Obligations.BindingsAndKeysAct := by
  unfold Obligations.BindingsAndKeysAct
  refine ⟨?bind, ?unbind, ?bindRefused, ?read, ?generate, ?generateRefused, ?import_, ?importRefused, ?zeroise,
    ?zeroiseBoth, ?zeroiseRefused, ?installed, ?confidential, ?confidentialOpen⟩
  case bind => exact fun s u i b hi hregs hfree hu => execBindWrite_valid hi hu hregs hfree
  case unbind => exact fun s u i b hi hregs hfree hu => execBindWrite_invalid hi hu hregs hfree
  case bindRefused => exact fun s i e b v => execBindWrite_refused
  case read => exact fun s u i b => execBindRead_of_entry
  case generate => exact fun s u d k hidle hslot => execKeyGenerate_of_fillable hidle hslot
  case generateRefused => exact fun s d hidle hslot => execKeyGenerate_of_unfillable hidle hslot
  case import_ =>
    exact fun s d n w x hidle hslot hsession hfill hlen =>
      ⟨fun k hkey => execKeyImport_of_opened hidle hslot hsession hfill hlen hkey,
        fun hkey => execKeyImport_of_unopened hidle hsession hkey⟩
  case importRefused => exact fun s d n w hidle _ hsession => execKeyImport_of_noSession hidle hsession w
  case zeroise =>
    intro s u d hidle hslot hd hlines hunits hopen hu hpartner
    refine (execKeyZeroise_of_unused hidle hslot hd hlines hunits hopen hu).trans
      (congrArg Host.Outcome.next (if_neg ?_))
    rw [Bool.and_eq_true, decide_eq_true_iff, decide_eq_true_iff, not_and_or]
    exact hpartner
  case zeroiseBoth =>
    intro s u d hidle hslot hd hlines hunits hopen hu hpartner hactive
    exact (execKeyZeroise_of_unused hidle hslot hd hlines hunits hopen hu).trans
      (congrArg Host.Outcome.next (if_pos (and_holds (decide_eq_true hpartner) (decide_eq_true hactive))))
  case zeroiseRefused => exact fun s d hidle hslot => execKeyZeroise_of_used hidle hslot
  case installed => exact fun s d k => execKeyPartnerInstalled_of_pending
  case confidential =>
    intro s u v x hbit hx hestablished hmutual hoff hu hlocked
    exact execConfEnable_of_session hbit hx hestablished hmutual hoff
      (hu.trans (if_neg (ne_true_of_eq_false hlocked)).symm)
  case confidentialOpen =>
    intro s u v x hbit hx hestablished hmutual hoff hu hopen
    exact execConfEnable_of_session hbit hx hestablished hmutual hoff (hu.trans (if_pos hopen).symm)

end Sys2Proof.Machine
end

section
/-!
PROOFS. The SPDM responder and debug unlock (chapter 18).
-/
namespace Sys2Proof.Machine

/-! ## Requests of the handshake (R419, R420) -/

/-- A request that the handshake has led up to is answered. -/
theorem spdmAfter_of_stage {s : State} {via n : Nat} (hstage : n ≤ spdmStage s via) (f : State → State) :
    spdmAfter s via n f = .next (f s) :=
  congrArg Host.Outcome.next (if_pos hstage)

/-- One that comes too early answers ERROR. -/
theorem spdmAfter_of_early {s : State} {via n : Nat} (hearly : spdmStage s via < n) (f : State → State) :
    spdmAfter s via n f = .next (spdmError s spdmUnexpected) :=
  congrArg Host.Outcome.next (if_neg hearly.not_ge)

section Handshake

variable {s : State} {v : Nat}

/-- The messages of Table 18-2. -/
theorem execGetCapabilities_of_stage (hstage : 1 ≤ spdmStage s v) :
    execGetCapabilities v s = .next (spdmReply (setStage s v (max 2 (spdmStage s v))) 0x61
      [0x81, 0x82, 0x83, 0x84, 0xE0, 0xE1, 0xE3, 0xE4, 0xE5, 0xE8, 0xE9, 0xEC, 0xFE] []) :=
  spdmAfter_of_stage hstage _

/-- Before any GET_VERSION there are no capabilities. -/
theorem execGetCapabilities_of_early (hearly : spdmStage s v < 1) :
    execGetCapabilities v s = .next (spdmError s spdmUnexpected) :=
  spdmAfter_of_early hearly _

/-- All that is supported is offered: sessions can be opened. -/
theorem execNegotiateAlgorithms_all (hstage : 2 ≤ spdmStage s v) :
    execNegotiateAlgorithms v ⟨true, true, true, true⟩ s =
      .next (spdmReply (setStage s v 4) 0x63 [1, 1, 1, 1] []) :=
  spdmAfter_of_stage hstage _

/-- Without the signature algorithm the handshake stays where it is. -/
theorem execNegotiateAlgorithms_unsigned {a : SpdmAlgs} (hstage : 2 ≤ spdmStage s v) (hsign : a.ecdsaP256 = false) :
    execNegotiateAlgorithms v a s = .next (spdmReply (setStage s v 2) 0x63
      [0, if a.sha256 then 1 else 0, if a.secp256r1 then 1 else 0, if a.aesGcm then 1 else 0] []) := by
  rw [execNegotiateAlgorithms, spdmAfter_of_stage hstage]
  simp only [hsign, Bool.false_and, Bool.false_eq_true, if_false]

/-- The digest of slot 0's chain. -/
theorem execGetDigests_of_stage (hstage : 3 ≤ spdmStage s v) :
    execGetDigests v s = .next (spdmReply s 0x01 [1] (hashBytes (Config.sha256 (certChain s)))) :=
  spdmAfter_of_stage hstage _

/-- There are no digests before the algorithms are agreed. -/
theorem execGetDigests_of_early (hearly : spdmStage s v < 3) :
    execGetDigests v s = .next (spdmError s spdmUnexpected) :=
  spdmAfter_of_early hearly _

/-- A part of slot 0's chain, and how much remains. -/
theorem execGetCertificate_slot0 (hstage : 3 ≤ spdmStage s v) (o n : Nat) :
    execGetCertificate v 0 o n s = .next (if (certChain s).length ≤ o then spdmError s spdmInvalid
      else spdmReply s 0x02 [(((certChain s).drop o).take n).length,
        (certChain s).length - o - (((certChain s).drop o).take n).length] (((certChain s).drop o).take n)) := by
  rw [execGetCertificate, spdmAfter_of_stage hstage]
  simp only [ne_eq, not_true_eq_false, false_or]

/-- Holhild signs both nonces and the chain's digest. -/
theorem execChallenge_slot0 {u : State} {r : BitVec 512} (hstage : 3 ≤ spdmStage s v) (hdraw : drawRandom s = (r, u))
    (n : BitVec 256) :
    execChallenge v 0 n s = .next (spdmReply u 0x03 [] (chainDigest u ++ natLe 32 r.toNat ++
      aliasSign u (natLe 32 n.toNat ++ chainDigest u ++ natLe 32 r.toNat))) := by
  rw [execChallenge, spdmAfter_of_stage hstage]
  simp only [ne_eq, not_true_eq_false, if_false, hdraw]

section Measurement

variable {i : Nat} (hstage : 3 ≤ spdmStage s v) (hlow : 1 ≤ i) (hhigh : i ≤ 9)

include hstage hlow hhigh

/-- One measurement, signed where a nonce asks for it (R420). -/
theorem execGetMeasurements_one (nonce : Option (BitVec 256)) :
    execGetMeasurements v i nonce s = .next (match nonce with
      | none => spdmReply s 0x60 [1] (hashBytes (nth (measurements s) (i - 1) 0))
      | some n =>
        let own := natLe 32 (drawRandom s).1.toNat
        let bs := hashBytes (nth (measurements s) (i - 1) 0)
        spdmReply (drawRandom s).2 0x60 [1]
          (bs ++ own ++ aliasSign (drawRandom s).2 (natLe 32 n.toNat ++ bs ++ own))) := by
  have hknown : ¬ (9 < i ∧ i ≠ 255) := fun ⟨hover, _⟩ => hhigh.not_gt hover
  have hnotNumber : i ≠ 0 := Nat.one_le_iff_ne_zero.mp hlow
  have hnotAll : i ≠ 255 := by omega
  rw [execGetMeasurements, spdmAfter_of_stage hstage]
  cases nonce <;> simp only [if_neg hknown, if_neg hnotNumber, if_neg hnotAll]

end Measurement

/-! ## Sessions (R419, Table 18-2) -/

/-- A session is opened while fewer than four are. -/
theorem execKeyExchange_of_room {u w : State} {m : Bool} {e bs : Bytes} {r : BitVec 512}
    (hstage : 4 ≤ spdmStage s v) (hroom : s.sec.sessions.length < 4) (hdraw : drawRandom s = (r, u))
    (hw : w = { u with sec := { u.sec with
      sessions := u.sec.sessions ++ [{ id := s.sec.nextSession, via := v, mutAuth := m }]
      nextSession := s.sec.nextSession + 1 } })
    (hbs : bs = natLe 32 r.toNat ++ Config.exchangeReply w.fresh e) :
    execKeyExchange v 0 m e s = .next (spdmReply w 0x64 [s.sec.nextSession, if m then 1 else 0]
      (bs ++ aliasSign w (e ++ bs))) := by
  subst hbs hw
  rw [execKeyExchange, spdmAfter_of_stage hstage]
  simp only [ne_eq, not_true_eq_false, if_false, if_neg hroom.not_ge, hdraw]

/-- A fifth is not. -/
theorem execKeyExchange_of_limit (m : Bool) (e : Bytes) (hstage : 4 ≤ spdmStage s v)
    (hfull : 4 ≤ s.sec.sessions.length) : execKeyExchange v 0 m e s = .next (spdmError s spdmSessionLimit) := by
  rw [execKeyExchange, spdmAfter_of_stage hstage]
  simp only [ne_eq, not_true_eq_false, if_false, if_pos hfull]

end Handshake

section Session

variable {s : State} {n : Nat}

/-- A session whose proof verifies is established, and ends where it does not. -/
theorem execFinish_of_opened {x : Session}
    (hopened : s.sec.sessions.find? (fun x => decide (x.id = n) && !x.established) = some x) (verified : Bool) :
    execFinish n verified s = if verified then .next (spdmReply { s with sec := { s.sec with
        sessions := s.sec.sessions.map fun x => if x.id = n then { x with established := true } else x } } 0x65 [n] [])
      else .next (spdmError (dropSession s n) spdmDecrypt) := by
  simp only [execFinish, hopened]

/-- A request inside an established session is answered. -/
theorem inSession_of_established {x : Session}
    (hfound : s.sec.sessions.find? (fun x => decide (x.id = n) && x.established) = some x) (f : Session → State) :
    inSession s n f = .next (f x) := by
  simp only [inSession, hfound]

/-- Outside one it answers SessionRequired. -/
theorem inSession_of_none (hnone : s.sec.sessions.find? (fun x => decide (x.id = n) && x.established) = none)
    (f : Session → State) : inSession s n f = .next (spdmError s spdmSessionRequired) := by
  simp only [inSession, hnone]

section Established

variable {x : Session} (hfound : s.sec.sessions.find? (fun x => decide (x.id = n) && x.established) = some x)

include hfound

/-- A session ends. -/
theorem execEndSession_of_established : execEndSession n s = .next (spdmReply (dropSession s n) 0x6C [n] []) :=
  inSession_of_established hfound _

/-- A session is kept alive. -/
theorem execSpdmHeartbeat_of_established : execSpdmHeartbeat n s = .next (spdmReply s 0x68 [n] []) :=
  inSession_of_established hfound _

/-- UpdateKey and UpdateAllKeys make the next keys. -/
theorem execKeyUpdate_next {k : Nat} (hk : k = 1 ∨ k = 2) :
    execKeyUpdate n k s = .next (spdmReply { s with sec := { s.sec with
      sessions := s.sec.sessions.map fun y => if y.id = x.id then { y with keyGen := y.keyGen + 1 } else y } }
      0x69 [n, k] []) := by
  rw [execKeyUpdate, inSession_of_established hfound, if_pos hk]

/-- VerifyNewKey does not. -/
theorem execKeyUpdate_verify : execKeyUpdate n 3 s = .next (spdmReply s 0x69 [n, 3] []) :=
  inSession_of_established hfound _

end Established

section Outside

variable (hnone : s.sec.sessions.find? (fun x => decide (x.id = n) && x.established) = none)

include hnone

theorem execEndSession_of_none : execEndSession n s = .next (spdmError s spdmSessionRequired) :=
  inSession_of_none hnone _

theorem execSpdmHeartbeat_of_none : execSpdmHeartbeat n s = .next (spdmError s spdmSessionRequired) :=
  inSession_of_none hnone _

theorem execKeyUpdate_of_none (k : Nat) : execKeyUpdate n k s = .next (spdmError s spdmSessionRequired) :=
  inSession_of_none hnone _

end Outside

/-! ## Debug unlock (R421) -/

/-- Each attempt takes a new nonce; one that is refused counts. -/
theorem execDebugUnlock_of_session {u : State} {g : Bytes} {x : Session} (hsession : authSession s n = some x)
    (hu : u = { s with sec := { s.sec with nonceNo := s.fresh }, fresh := s.fresh + 1 }) :
    execDebugUnlock n g s = .next (if unlockOk s g then spdmReply (wf u debugReg 0 2 1) 0x7E [1] []
      else spdmReply (wf u debugReg 2 2 (min 3 (rf u debugReg 2 2 + 1))) 0x7E [0] []) := by
  subst hu
  simp only [execDebugUnlock, hsession]
  exact (apply_ite Host.Outcome.next _ _ _).symm

/-- Outside an authenticated session there is no attempt. -/
theorem execDebugUnlock_of_none (hnone : authSession s n = none) (g : Bytes) :
    execDebugUnlock n g s = .next (spdmError s spdmSessionRequired) := by
  simp only [execDebugUnlock, hnone]

end Session

/-- Settles O54: the handshake's requests through `spdmAfter`, those of a session through `inSession`. Codes and order
are those of SPDM 1.2 as the model takes them (log entry 39). -/
theorem spdmRequestsAnswer : Obligations.SpdmRequestsAnswer := by
  unfold Obligations.SpdmRequestsAnswer
  refine ⟨?version, ?capabilities, ?algorithms, ?unsigned, ?digests, ?certificate, ?challenge, ?measurement, ?signed,
    ?exchange, ?limit, ?finish, ?endSession, ?heartbeat, ?update, ?verify, ?unlock, ?outside, ?unsupported, ?early⟩
  case version => exact fun s v => rfl
  case capabilities => exact fun s v => execGetCapabilities_of_stage
  case algorithms => exact fun s v => execNegotiateAlgorithms_all
  case unsigned => exact fun s v a => execNegotiateAlgorithms_unsigned
  case digests => exact fun s v => execGetDigests_of_stage
  case certificate => exact fun s v o n hstage => execGetCertificate_slot0 hstage o n
  case challenge => exact fun s u r v n hstage hdraw => execChallenge_slot0 hstage hdraw n
  case measurement => exact fun s v i hstage hlow hhigh => execGetMeasurements_one hstage hlow hhigh none
  case signed =>
    intro s u r v i n hstage hlow hhigh hdraw
    have hreply := execGetMeasurements_one hstage hlow hhigh (some n)
    rw [hdraw] at hreply
    exact hreply
  case exchange => exact fun s u w v m e r bs => execKeyExchange_of_room
  case limit => exact fun s v m e => execKeyExchange_of_limit m e
  case finish => exact fun s n x hopened => ⟨execFinish_of_opened hopened true, execFinish_of_opened hopened false⟩
  case endSession => exact fun s n x => execEndSession_of_established
  case heartbeat => exact fun s n x => execSpdmHeartbeat_of_established
  case update => exact fun s n k x hfound => execKeyUpdate_next hfound
  case verify => exact fun s n x => execKeyUpdate_verify
  case unlock => exact fun s u n g x => execDebugUnlock_of_session
  case outside =>
    exact fun s n k g hauth hnone => ⟨execDebugUnlock_of_none hauth g, execEndSession_of_none hnone,
      execSpdmHeartbeat_of_none hnone, execKeyUpdate_of_none hnone k⟩
  case unsupported => exact fun s v c => rfl
  case early =>
    intro s v hstage
    have hearly (n : Nat) (hn : 0 < n) : spdmStage s v < n := hstage ▸ hn
    exact ⟨execGetCapabilities_of_early (hearly 1 (by decide)), execGetDigests_of_early (hearly 3 (by decide))⟩

end Sys2Proof.Machine
end

section
/-!
PROOFS. PLDM for firmware update, confirmation and activation (chapter 19).
-/
namespace Sys2Proof.Machine

/-! ## The phases of an update (R431 to R434, R439) -/

/-- An update is requested while none runs. -/
theorem execRequestUpdate_of_idle {s u : State} (hphase : s.fw.phase = 0)
    (hu : u = if fwuState s = 2 ∨ fwuState s = 4 then setFwu s 0 else s) :
    execRequestUpdate s = .next (pldmReply { u with fw := { u.fw with phase := 1 } } 0x10 [0]) := by
  subst hu
  exact if_neg (not_not_intro hphase)

section Offer

variable {s : State} {i : ImageHead} (hphase : s.fw.phase = 2) (hidle : fwuState s = 0)

include hphase

section Accepted

variable {u v : State} (haccepted : offerRefusal s i = 0)
  (hu : u = setFwu (wf (wf (wb s fwuCmd 7 false) fwuCmd 8 3 0) fwuStat 8 8 i.type) 1)
  (hv : v = pldmReply { u with fw := { u.fw with
    phase := 3, head := some i, body := [], part := [], blocks := 0, patched := 0 } } 0x14 [0])

include haccepted hu hv

/-- A component that nothing refuses is accepted: an empty native body has come already, else the first piece is
asked for. -/
theorem execUpdateComponent_of_accepted :
    execUpdateComponent i s = if i.length = 0 ∧ i.format = 1 then .next (transferDone v i [])
      else .next (askPiece v) := by
  subst hu hv
  exact (if_neg (not_not_intro hphase)).trans (if_neg (not_not_intro haccepted))

end Accepted

include hidle

/-- One that is refused ends the update with its ground. -/
theorem execUpdateComponent_of_refused (hrefused : offerRefusal s i ≠ 0) :
    execUpdateComponent i s = .next (updateFails s (offerRefusal s i)) :=
  (if_neg (not_not_intro hphase)).trans
    ((if_pos hrefused).trans (congrArg Host.Outcome.next (if_pos hidle)))

end Offer

/-- A piece of at most 4,096 B is taken; the first write makes the type INCOMPLETE (R432). -/
theorem execFirmwareDataReceived_of_piece {s : State} {h : ImageHead} {p : ImagePiece} (hhead : s.fw.head = some h)
    (hphase : s.fw.phase = 3) (hsome : p.bytes ≠ []) (hlen : p.bytes.length ≤ 4096) {u : State}
    (hu : u = if (imgType s h.type).state = 3 ∧ (s.fw.body ≠ [] ∨ s.fw.part ≠ []) then s else firstWrite s h) :
    execFirmwareDataReceived p s =
      .next (if h.format = 2 then patchPiece u h p.bytes else nativePiece u h p.bytes) := by
  have hbytes : (!p.bytes.isEmpty) = true := by
    rw [Bool.not_eq_true', List.isEmpty_eq_false_iff]
    exact hsome
  subst hu
  simp only [execFirmwareDataReceived, hhead]
  exact guarded_of (and_holds (and_holds (decide_eq_true hphase) hbytes) (decide_eq_true hlen)) s _

/-- After the transfer, activation: at once for Holhild's own types, else with a reset (R434). -/
theorem execActivateFirmware_of_ready {s : State} (hphase : s.fw.phase = 4) :
    execActivateFirmware s = if selfActive (rf s fwuStat 8 8) then
        .next (activateNow (pldmReply s 0x1A [0, 0]) (rf s fwuStat 8 8))
      else .next (setFwu { (pldmReply s 0x1A [0, 1]) with fw := { s.fw with phase := 0 } } 0) := by
  have hrequested : s.fw.phase ≠ 0 := by omega
  exact (if_neg hrequested).trans (if_neg (not_not_intro hphase))

/-- A component's transfer is cancelled: the type is INCOMPLETE, and ERR says that the update ended (R433). -/
theorem execCancelUpdateComponent_of_transfer {s u : State} (hphase : s.fw.phase = 3)
    (hu : u = setFwu (wf (wb (dropTransfer s) fwuCmd 7 true) fwuCmd 8 3 0) 0) :
    execCancelUpdateComponent s = .next (pldmReply { u with fw := { u.fw with phase := 2 } } 0x1C [0]) := by
  have hcancel : cancelComponent s = u := hu ▸ if_pos hphase
  have hrequested : s.fw.phase ≠ 0 := by omega
  rw [execCancelUpdateComponent, if_neg hrequested, if_pos hphase, hcancel]
  rfl

/-- A running update is cancelled (R433). -/
theorem execCancelUpdate_of_running {s u : State} (hphase : s.fw.phase ≠ 0) (hu : u = cancelComponent s) :
    execCancelUpdate s = .next (pldmReply { u with fw := { u.fw with phase := 0 } } 0x1D [0]) := by
  subst hu
  exact if_neg hphase

/-! ## Confirmation (R436, Table 19-4) -/

/-- An action on an UNCONFIRMED type, the first of the cycle, runs with CMD_ERR clear. -/
theorem fwuAction_of_unconfirmed {s u : State} {t : Nat} (hstate : (imgType s t).state = 1)
    (hfirst : s.fw.acted ≠ some (t, s.now))
    (hu : u = wb { s with fw := { s.fw with acted := some (t, s.now) } } fwuCmd 6 false) (f : State → State) :
    fwuAction 2 t s f = .next (f u) := by
  subst hu
  exact (guarded_of (decide_eq_true (Eq.refl 2)) s _).trans (congrArg Host.Outcome.next (if_pos ⟨hstate, hfirst⟩))

/-- Another sets CMD_ERR. -/
theorem fwuAction_of_refused {s : State} {t : Nat}
    (hrefused : (imgType s t).state ≠ 1 ∨ s.fw.acted = some (t, s.now)) (f : State → State) :
    fwuAction 2 t s f = .next (wb s fwuCmd 6 true) := by
  refine (guarded_of (decide_eq_true (Eq.refl 2)) s _).trans (congrArg Host.Outcome.next (if_neg ?_))
  rintro ⟨hstate, hfirst⟩
  exact hrefused.elim (fun h => h hstate) hfirst

/-- CONFIRM and REVERT are such actions. -/
theorem execFwuConfirm_eq (s : State) (t : Nat) : execFwuConfirm 2 t s = fwuAction 2 t s fun s => confirm s t := rfl

theorem execFwuRevert_eq (s : State) (t : Nat) :
    execFwuRevert 2 t s = fwuAction 2 t s fun s => setImg s t { imgType s t with boots := 0 } := rfl

/-- The record of an image type after it was set. -/
@[simp] theorem imgType_setImg_same (s : State) (t : Nat) (x : ImageType) : imgType (setImg s t x) t = x :=
  tgetD_tset_same s.fw.types t x {}

/-- A confirmed image is CONFIRMED, and its copy begins. -/
theorem imgType_confirm (s : State) (t : Nat) :
    imgType (confirm s t) t = { imgType s t with state := 0, copying := true } := by
  have hset := imgType_setImg_same s t { imgType s t with state := 0, copying := true }
  exact (apply_ite (imgType · t) _ _ _).trans ((ite_self _).trans hset)

/-- An image that may confirm itself does (R436). -/
theorem execAutoConfirmExpiry_of_due {s : State} {t : Nat} (hdue : confirmDue s t = true)
    (hstate : (imgType s t).state = 1) : execAutoConfirmExpiry t s = .next (confirm s t) :=
  guarded_of (and_holds hdue (decide_eq_true hstate)) s _

/-- The end of the last copy returns to IDLE (R436). -/
theorem execConfirmCopyDone_of_copying {s u : State} {t : Nat} {x : ImageType} (hx : x = imgType s t)
    (hcopying : x.copying = true) (hu : u = setImg s t { x with b := x.a, copying := false }) :
    execConfirmCopyDone t s =
      .next (if fwuState u = 3 ∧ ¬ (u.fw.types.any fun e => e.2.copying) then setFwu u 0 else u) := by
  subst hx hu
  rw [execConfirmCopyDone, guarded_of hcopying]

/-- Settles O55: the phases by their tests, the actions of FWU.CMD through `fwuAction`. Codes are those of DSP0267 as the
model takes them, and STAT's return to IDLE is its reading (log entries 40 and 41). -/
theorem firmwareCommandsAct : Obligations.FirmwareCommandsAct := by
  unfold Obligations.FirmwareCommandsAct
  refine ⟨?identifiers, ?parameters, ?request, ?table, ?accept, ?acceptEmpty, ?refuse, ?piece, ?firstPiece, ?activate,
    ?status, ?cancelComponent, ?cancel, ?confirm, ?revert, ?refused, ?autoConfirm, ?copyDone⟩
  case identifiers => exact fun s => rfl
  case parameters => exact fun s => rfl
  case request => exact fun s u => execRequestUpdate_of_idle
  case table => exact fun s ts hphase => if_pos hphase
  case accept =>
    intro s u v i hphase _ haccepted hu hv hmore
    refine (execUpdateComponent_of_accepted hphase haccepted hu hv).trans (if_neg ?_)
    rintro ⟨hempty, hnative⟩
    exact hmore.elim (fun h => h hempty) fun h => h hnative
  case acceptEmpty =>
    intro s u v i hphase _ haccepted hu hv hempty hnative
    exact (execUpdateComponent_of_accepted hphase haccepted hu hv).trans (if_pos ⟨hempty, hnative⟩)
  case refuse => exact fun s i hphase hrefused hidle => execUpdateComponent_of_refused hphase hidle hrefused
  case piece =>
    intro s h p hhead hphase hsome hlen hbody hstate
    exact execFirmwareDataReceived_of_piece hhead hphase hsome hlen (if_pos ⟨hstate, .inl hbody⟩).symm
  case firstPiece =>
    intro s h p hhead hphase hsome hlen hbody hpart
    refine execFirmwareDataReceived_of_piece hhead hphase hsome hlen (if_neg ?_).symm
    rintro ⟨-, hstarted⟩
    exact hstarted.elim (fun h => h hbody) fun h => h hpart
  case activate =>
    exact fun s hphase => ⟨fun hself => (execActivateFirmware_of_ready hphase).trans (if_pos hself),
      fun hother => (execActivateFirmware_of_ready hphase).trans (if_neg (ne_true_of_eq_false hother))⟩
  case status => exact fun s => rfl
  case cancelComponent => exact fun s u => execCancelUpdateComponent_of_transfer
  case cancel => exact fun s u => execCancelUpdate_of_running
  case confirm =>
    intro s u t hstate hfirst hu
    refine ⟨(execFwuConfirm_eq s t).trans (fwuAction_of_unconfirmed hstate hfirst hu _), ?_⟩
    subst hu
    exact imgType_confirm _ t
  case revert =>
    exact fun s u t hstate hfirst hu => (execFwuRevert_eq s t).trans (fwuAction_of_unconfirmed hstate hfirst hu _)
  case refused =>
    exact fun s t hrefused => ⟨(execFwuConfirm_eq s t).trans (fwuAction_of_refused hrefused _),
      (execFwuRevert_eq s t).trans (fwuAction_of_refused hrefused _)⟩
  case autoConfirm => exact fun s t => execAutoConfirmExpiry_of_due
  case copyDone => exact fun s u t x => execConfirmCopyDone_of_copying

end Sys2Proof.Machine
end

section
/-!
PROOFS. Counters, snapshots and profiles (chapter 21).
-/
namespace Sys2Proof.Machine

/-! ## Captures and the counter window (R467, R470, R473) -/

section Capture

variable {s : State} (henabled : rb s (ra pgCTR 0x100) 0 = true) (hheld : s.pwr.held = 0)

include henabled hheld

/-- Every counter is captured, exact outside confidential mode. -/
theorem execCounterCapture_exact (hopen : confidential s = false) :
    execCounterCapture s = .next (capture s false) :=
  (guarded_of (and_holds henabled (decide_eq_true hheld)) s _).trans
    (congrArg Host.Outcome.next (if_neg (ne_true_of_eq_false hopen)))

/-- In it, coarse, and reads of counters see captures from then on. -/
theorem execCounterCapture_coarse (hconf : confidential s = true) :
    execCounterCapture s = .next { (capture s true) with sec := { s.sec with confNext := false } } :=
  (guarded_of (and_holds henabled (decide_eq_true hheld)) s _).trans
    (congrArg Host.Outcome.next (if_pos hconf))

end Capture

/-- The next slot holds the capture with its generation and time. -/
theorem capture_slot (s : State) (coarse : Bool) :
    (tget (capture s coarse).ctr.slots ((s.ctr.gen + 1) % 64)).map (fun x => (x.gen, x.time)) =
      some (s.ctr.gen + 1, s.now / 10 * 10) :=
  congrArg (Option.map fun x : Snapshot => (x.gen, x.time)) (tget_tput_same s.ctr.slots _ _)

/-- A read of CNT_LO answers the low part and latches the upper. -/
theorem execCntLoRead_of_assigned {s u : State} {id p v : Nat} (hpage : assigned p = true) (hheld : s.pwr.held = 0)
    (hread : cntLo s id p = (v, u)) :
    execCntLoRead id p s = .next (put u (.readData (ra p 0x024) (BitVec.ofNat 32 v))) := by
  simp only [execCntLoRead, guarded_of (and_holds hpage (decide_eq_true hheld)), hread]

/-! ## COUNTER_SNAPSHOT (R474, R475) -/

/-- MODE 0 writes the granted records of the newest capture. -/
theorem execCounterSnapshotPages_of_granted {s : State} {h : Nat} {o : Op} {x : Snapshot} {rs : List CapRecord}
    (hready : ready s h 0x32 = some o) (hmode : snapMode o = 0) (hsome : 1 ≤ snapPages o)
    (hfew : snapPages o ≤ 4096) (hnewest : newest s = some x)
    (hrs : rs = x.recs.filter fun r => decide (snapFirst o ≤ r.page) &&
      decide (r.page < snapFirst o + snapPages o) && snapGranted s o.dom r) :
    execCounterSnapshotPages h s = .next (snapWrite s h o (slotHeader x ++ rs.flatMap capRecordBytes)
      [x.gen % 0x100000000, rs.length, snapPages o - rs.length,
        (slotHeader x ++ rs.flatMap capRecordBytes).length]) := by
  have hpages : snapMode o ≠ 1 := by omega
  have hok : ¬ (snapMode o ≠ 0 ∨ snapPages o = 0 ∨ 4096 < snapPages o) := by omega
  subst hrs
  simp only [execCounterSnapshotPages, hready, if_neg hpages, if_neg hok, hnewest]

/-- MODE 1 writes the report of an operation of the domain. -/
theorem execCounterSnapshotOperation_of_own {s : State} {h : Nat} {o t : Op} (hready : ready s h 0x32 = some o)
    (hmode : snapMode o = 1) (hop : opOf s (opnd o 0x18 4) = some t) (hdom : t.dom = o.dom)
    (hruns : t.slot = true ∨ t.released ≠ 0) (hopen : confidential s = false) :
    execCounterSnapshotOperation h s = .next (snapWrite s h o (reportBytes (opnd o 0x18 4) t)
      [((newest s).map fun x => x.gen % 0x100000000).getD 0, 0, 0, 64]) := by
  have hok : ¬ (t.dom ≠ o.dom ∨ ¬ (t.slot = true ∨ t.released ≠ 0) ∨ confidential s = true) :=
    not_or.mpr ⟨not_not_intro hdom, not_or.mpr ⟨not_not_intro hruns, ne_true_of_eq_false hopen⟩⟩
  simp only [execCounterSnapshotOperation, hready, if_neg (not_not_intro hmode), hop, if_neg hok]

/-! ## SET_PROFILE (R480) -/

/-- A stored profile that is accepted and fits what is pinned is recorded as pending. -/
theorem execSetProfile_of_accepted {s : State} {h n : Nat} {o : Op} {x : Profile} (hready : ready s h 0x30 = some o)
    (hset : bitN (setProfileByte o) 2 = false) (hn : n = fld (setProfileByte o) 0 2)
    (hstored : storedProfile s n = some x) (haccepted : profileFail (moduleGb s) x = 0) (hdir : x.dirG ≠ 0)
    (hpinned : pinnedBasin s ≤ x.pinLimit) :
    execSetProfile h s =
      .next (endWith (wb (wf s profStat 2 2 n) profStat 4 true) h 0 [x.version, 0, 0, 0]) := by
  have hok : ¬ (profileFail (moduleGb s) x ≠ 0 ∨ (x.dirG = 0 ∧ (s.alloc.regions.any fun e => e.2.coherent) = true)) :=
    not_or.mpr ⟨not_not_intro haccepted, fun ⟨hnone, _⟩ => hdir hnone⟩
  subst hn
  simp only [execSetProfile, hready, if_neg (ne_true_of_eq_false hset), hstored, if_neg hok, if_neg hpinned.not_gt]
  rfl

/-- The pending profile is cancelled. -/
theorem execSetProfileCancel_of_cancel {s : State} {h : Nat} {o : Op} (hready : ready s h 0x30 = some o)
    (hcancel : bitN (setProfileByte o) 2 = true) :
    execSetProfileCancel h s = .next (endWith (wf s profStat 2 3 0) h 0 [0, 0, 0, 0]) := by
  simp only [execSetProfileCancel, hready, if_pos hcancel]
  rfl

/-- Settles O58: each command's equation; what a capture leaves is that of its slot. -/
theorem countersAndProfilesAct : Obligations.CountersAndProfilesAct := by
  unfold Obligations.CountersAndProfilesAct
  refine ⟨?exact, ?coarse, ?read, ?pages, ?operation, ?profile, ?cancel⟩
  case exact =>
    exact fun s henabled hheld hopen =>
      ⟨execCounterCapture_exact henabled hheld hopen, rfl, rfl, capture_slot s false⟩
  case coarse =>
    intro s u henabled hheld hconf hu
    subst hu
    exact execCounterCapture_coarse henabled hheld hconf
  case read => exact fun s u id p v => execCntLoRead_of_assigned
  case pages => exact fun s h o x rs => execCounterSnapshotPages_of_granted
  case operation => exact fun s h o t => execCounterSnapshotOperation_of_own
  case profile => exact fun s h n o x => execSetProfile_of_accepted
  case cancel => exact fun s h o => execSetProfileCancel_of_cancel

end Sys2Proof.Machine
end

section
/-!
PROOFS. The sideband and the JTAG port (chapters 21 and 23).
-/
namespace Sys2Proof.Machine

/-! ## The sideband (R476, R477) -/

section Sideband

variable {s : State} (hruns : s.pwr.held ≠ 1)

include hruns

/-- While Holhild runs the sideband acts. -/
theorem sideband_of_running (f : State → State) : sideband s f = .next (f s) :=
  guarded_of (decide_eq_true hruns) s f

/-- READ32 reads as identity 0x003. -/
theorem execRead32_of_running {t : State} {a v : Nat} (hread : regRead s 3 a = (v, t)) :
    execRead32 a s = .next (put t (.readData a (BitVec.ofNat 32 v))) := by
  simp only [execRead32, sideband_of_running hruns, hread]

/-- WRITE32 writes as identity 0x003. -/
theorem execWrite32_of_running (a : Nat) (v : W32) : execWrite32 a v s = busWrite s 3 a 4 v.toNat :=
  if_neg hruns

/-- An EID between 1 and 254 is taken. -/
theorem execMctpControl_setEid {e : Nat} (hlow : 1 ≤ e) (hhigh : e ≤ 254) :
    execMctpControl (.setEid e) s =
      .next (put { s with side := { s.side with eid := e } } (.reply 0x60001 [0, 0, e] [])) :=
  (sideband_of_running hruns _).trans (congrArg Host.Outcome.next (if_pos ⟨hlow, hhigh⟩))

/-- Another is refused. -/
theorem execMctpControl_badEid {e : Nat} (hbad : e = 0 ∨ 254 < e) :
    execMctpControl (.setEid e) s = .next (put s (.reply 0x60001 [2, 0, s.side.eid] [])) := by
  have hrange : ¬ (1 ≤ e ∧ e ≤ 254) := by omega
  exact (sideband_of_running hruns _).trans (congrArg Host.Outcome.next (if_neg hrange))

/-- The EID is answered. -/
theorem execMctpControl_getEid :
    execMctpControl .getEid s = .next (put s (.reply 0x60002 [0, s.side.eid] [])) :=
  sideband_of_running hruns _

/-- The message types are answered. -/
theorem execMctpControl_getTypes :
    execMctpControl .getTypes s = .next (put s (.reply 0x60005 [0, 4, 0x00, 0x01, 0x05, 0x7E] [])) :=
  sideband_of_running hruns _

/-- Another control command is not supported. -/
theorem execMctpControl_other (c : Nat) :
    execMctpControl (.other c) s = .next (put s (.reply (0x60000 + c) [5] [])) :=
  sideband_of_running hruns _

/-- Each sensor has a record, which names the next. -/
theorem execGetPdr_of_record {r : Nat} (hlow : 1 ≤ r) (hhigh : r ≤ 29) :
    execGetPdr r s = .next (put s (.reply 0x50251
      [0, if r = 29 then 0 else r + 1, r, if r = 28 then 4 else 2, r] [])) := by
  have hrecord : (if r = 0 then 1 else r) = r := if_neg (Nat.one_le_iff_ne_zero.mp hlow)
  rw [execGetPdr, sideband_of_running hruns, hrecord]
  exact congrArg Host.Outcome.next (if_pos hhigh)

/-- A numeric sensor is read. -/
theorem execGetSensorReading_of_sensor {n v : Nat} (hsensor : sensorValue s n = some v) :
    execGetSensorReading n s = .next (put s (.reply 0x50211 [0, v] [])) := by
  simp only [execGetSensorReading, sideband_of_running hruns, hsensor]
  rfl

/-- The state sensor is the pair state. -/
theorem execGetStateSensorReadings_pair :
    execGetStateSensorReadings 28 s = .next (put s (.reply 0x50221 [0, pairState s] [])) :=
  sideband_of_running hruns _

/-- The event receiver is set. -/
theorem execSetEventReceiver_of_running (e : Option Nat) :
    execSetEventReceiver e s =
      .next (put { s with side := { s.side with receiver := e } } (.reply 0x50204 [0] [])) :=
  sideband_of_running hruns _

/-- GetPLDMTypes answers types 0, 2 and 5. -/
theorem execPldmBase_types : execPldmBase 0x04 s = .next (put s (.reply 0x50004 [0, 37] [])) :=
  sideband_of_running hruns _

/-- GetPLDMCommands answers the endpoint's word. -/
theorem execPldmBase_commands :
    execPldmBase 0x05 s = .next (put s (.reply 0x50005 [0, Config.endpointWord 0x50005] [])) :=
  sideband_of_running hruns _

end Sideband

/-! ## The TAP (R510, R423) -/

section Tap

variable {s : State} (hopen : confidential s = false) (haon : s.pwr.aon = true)

include hopen haon

/-- Outside confidential mode, with power, the TAP is not held in reset. -/
theorem tapHeld_of_open : ¬ (confidential s = true ∨ ¬ s.pwr.aon = true) :=
  not_or.mpr ⟨ne_true_of_eq_false hopen, not_not_intro haon⟩

/-- IDCODE. -/
theorem execJtagTapAccess_idcode : execJtagTapAccess 0 s = .next (put s (.reply 0x70000 [0xB0024A7D] [])) :=
  if_neg (tapHeld_of_open hopen haon)

/-- BYPASS. -/
theorem execJtagTapAccess_bypass : execJtagTapAccess 1 s = .next (put s (.reply 0x70001 [] [])) :=
  if_neg (tapHeld_of_open hopen haon)

/-- A locked TAP answers nothing else. -/
theorem execJtagTapAccess_locked {i : Nat} (hlocked : debugOpen s = false) (hi : 2 ≤ i) :
    execJtagTapAccess i s = .next s := by
  have hidcode : i ≠ 0 := by omega
  have hbypass : i ≠ 1 := by omega
  rw [execJtagTapAccess, if_neg (tapHeld_of_open hopen haon), if_neg hidcode, if_neg hbypass,
    if_neg (ne_true_of_eq_false hlocked)]

end Tap

/-- Settles O59: the sideband's requests through `sideband`, WRITE32 as a register write, the TAP by its instruction. The
codes of MCTP and PLDM and the numbers of the TAP's instructions are the model's (log entries 48 and 55). -/
theorem sidebandAndJtagAct : Obligations.SidebandAndJtagAct := by
  unfold Obligations.SidebandAndJtagAct
  refine ⟨?read, ?write, ?writeWord, ?setEid, ?badEid, ?control, ?pdr, ?sensor, ?state, ?receiver, ?base, ?tap,
    ?tapLocked⟩
  case read => exact fun s t a v hruns => execRead32_of_running hruns
  case write => exact fun s a v hruns => execWrite32_of_running hruns a v
  case writeWord =>
    intro s t a v hruns hpage hheld halign hwrite
    exact (execWrite32_of_running hruns a v).trans ((busWrite_word v.toNat hpage hheld halign).trans hwrite)
  case setEid => exact fun s e hruns => execMctpControl_setEid hruns
  case badEid => exact fun s e hruns => execMctpControl_badEid hruns
  case control =>
    exact fun s c hruns => ⟨execMctpControl_getEid hruns, execMctpControl_getTypes hruns, execMctpControl_other hruns c⟩
  case pdr => exact fun s r hruns => execGetPdr_of_record hruns
  case sensor => exact fun s n v hruns => execGetSensorReading_of_sensor hruns
  case state => exact fun s hruns => execGetStateSensorReadings_pair hruns
  case receiver => exact fun s e hruns => execSetEventReceiver_of_running hruns e
  case base => exact fun s hruns => ⟨execPldmBase_types hruns, execPldmBase_commands hruns⟩
  case tap => exact fun s hopen haon => ⟨execJtagTapAccess_idcode hopen haon, execJtagTapAccess_bypass hopen haon⟩
  case tapLocked => exact fun s i hopen haon => execJtagTapAccess_locked hopen haon

end Sys2Proof.Machine
end

section
/-!
PROOFS. The header of every page (chapter 22).
-/
namespace Sys2Proof.Machine

section Header

variable {s : State} {p : Nat} (hopen : headerOpen s p = true)

include hopen

/-- BLK_CTL.SRST of a page. -/
theorem execSoftReset_of_open {id : Nat} (hmay : mayWrite id p 0x008 = true) :
    execSoftReset id p s = .next (srst s p) :=
  guarded_of (and_holds hopen hmay) s _

/-- BLK_CTL.LOCK of a page. -/
theorem execBlkLock_of_open {id : Nat} (hmay : mayWrite id p 0x008 = true) :
    execBlkLock id p s = .next (wb s (ra p 0x008) 2 true) :=
  guarded_of (and_holds hopen hmay) s _

/-- A W1C write of BLK_ISR. -/
theorem execBlkIsrClear_of_open (id : Nat) (v : W32) : execBlkIsrClear id p v s = .next (isrWrite s p v.toNat) :=
  guarded_of hopen s _

/-- A write of BLK_IER. -/
theorem execBlkIerWrite_of_open (id : Nat) (v : W32) : execBlkIerWrite id p v s = .next (ierWrite s p v.toNat) :=
  guarded_of hopen s _

end Header

/-- Settles O60: each write of the header reaches a page that is open; LOCK reads as it was written. What soft reset,
LOCK and BLK_IER do on pages that chapter 22 does not list is the model's reading (log entries 49, 50 and 51). -/
theorem commonHeaderActs : Obligations.CommonHeaderActs := by
  unfold Obligations.CommonHeaderActs
  refine ⟨?reset, ?lock, ?isr, ?ier⟩
  case reset => exact fun s id p hopen => execSoftReset_of_open hopen
  case lock => exact fun s id p hopen hmay => ⟨execBlkLock_of_open hopen hmay, rb_wb_same s (ra p 0x008) 2 true (by decide)⟩
  case isr => exact fun s id p v hopen => execBlkIsrClear_of_open hopen id v
  case ier => exact fun s id p v hopen => execBlkIerWrite_of_open hopen id v

end Sys2Proof.Machine
end

section
/-!
PROOFS. Where a run can end (R444, R484, R510): which commands answer a next state, whatever the state.
-/
namespace Sys2Proof.Machine

/-- A result goes on: it is no fault and no refusal. -/
def Answers (r : Result) : Prop := ∃ t, r = .next t

/-! ## The operations that commands share -/

theorem guarded_answers (c : Bool) (s : State) (f : State → State) : Answers (guarded c s f) := ⟨_, rfl⟩

theorem onRunnel_answers (s : State) (m : RunMsg) (f : State → State) : Answers (onRunnel s m f) := by
  unfold onRunnel
  split <;> exact ⟨_, rfl⟩

theorem arrive_answers (s : State) (port : Nat) (pkt : Packet) (fits : Bool) (idle fenced serve : State → State) :
    Answers (arrive s port pkt fits idle fenced serve) := by
  unfold arrive
  repeat' split
  all_goals exact ⟨_, rfl⟩

theorem reqPacket_answers (kind : ReqKind) (code port : Nat) (pkt : Packet) (s : State) :
    Answers (reqPacket kind code port pkt s) := by
  unfold reqPacket
  split
  · exact ⟨_, rfl⟩
  · exact arrive_answers ..

theorem absorb_answers (s : State) (port : Nat) (pkt : Packet) (code ch : Nat) (f : Nat → State → State) :
    Answers (absorb s port pkt code ch f) :=
  arrive_answers ..

theorem control_answers (s : State) (h op : Nat) (f : State → Nat → Op → State) : Answers (control s h op f) := by
  unfold control
  repeat' split
  all_goals exact ⟨_, rfl⟩

theorem allocCmd_answers (s : State) (h op : Nat) (f : State → Op → State) : Answers (allocCmd s h op f) := by
  unfold allocCmd
  split <;> exact ⟨_, rfl⟩

theorem regionCmd_answers (s : State) (h op : Nat) (f : State → Op → Nat → Region → State) :
    Answers (regionCmd s h op f) :=
  allocCmd_answers ..

theorem putPacket_answers (kind port : Nat) (pkt : Packet) (s : State) : Answers (putPacket kind port pkt s) := by
  unfold putPacket
  repeat' split
  all_goals exact ⟨_, rfl⟩

theorem runStation_answers (s : State) (h num : Nat) (p : Op → Tile → Bytes → Bool)
    (f : At → State → Go ((Tile → Tile) × Nat)) : Answers (runStation s h num p f) := by
  unfold runStation
  repeat' split
  all_goals exact ⟨_, rfl⟩

theorem fillTile_answers (s : State) (op tile mode : Nat) (f : At → Shape → List (BitVec 64)) :
    Answers (fillTile s op tile mode f) :=
  runStation_answers ..

theorem combineTile_answers (opc op tile : Nat) (s : State) : Answers (combineTile opc op tile s) :=
  runStation_answers ..

theorem compareTile_answers (mode op tile : Nat) (s : State) : Answers (compareTile mode op tile s) :=
  runStation_answers ..

theorem updateTile_answers (rule op tile : Nat) (s : State) : Answers (updateTile rule op tile s) :=
  runStation_answers ..

theorem runSink_answers (s : State) (h num mode : Nat) (f : At → State → Go Nat) :
    Answers (runSink s h num mode f) := by
  unfold runSink
  repeat' split
  all_goals exact ⟨_, rfl⟩

theorem setupEnd_answers (h : Nat) (g : Go Unit) : Answers (setupEnd h g) := by
  unfold setupEnd
  split <;> exact ⟨_, rfl⟩

theorem atomic_answers (k : AtomicKind) (req : AtomicReq) (s : State) : Answers (atomic k req s) := by
  unfold atomic
  extract_lets
  split <;> exact ⟨_, rfl⟩

theorem onMsg_answers (s : State) (p : Nat) (f : LinkMsg → Bool) (g : State → State) : Answers (onMsg s p f g) := by
  unfold onMsg
  split <;> exact ⟨_, rfl⟩

theorem inSession_answers (s : State) (n : Nat) (f : Session → State) : Answers (inSession s n f) := by
  unfold inSession
  split <;> exact ⟨_, rfl⟩

theorem execFreeComplete_answers (h : Nat) (s : State) : Answers (execFreeComplete h s) := by
  dsimp only [execFreeComplete]
  repeat' split
  all_goals exact ⟨_, rfl⟩

theorem execResizeShrinkComplete_answers (h : Nat) (s : State) : Answers (execResizeShrinkComplete h s) := by
  dsimp only [execResizeShrinkComplete]
  repeat' split
  all_goals exact ⟨_, rfl⟩

theorem execResizeGrowResume_answers (h : Nat) (s : State) : Answers (execResizeGrowResume h s) := by
  unfold execResizeGrowResume
  repeat' split
  all_goals exact ⟨_, rfl⟩

theorem execVersionUnitsRelease_answers (region version : Nat) (s : State) :
    Answers (execVersionUnitsRelease region version s) := by
  unfold execVersionUnitsRelease
  split <;> exact ⟨_, rfl⟩

theorem execXltInval_answers (h : Nat) (s : State) : Answers (execXltInval h s) := by
  dsimp only [execXltInval]
  repeat' split
  all_goals exact ⟨_, rfl⟩

theorem execXltInvalComplete_answers (h : Nat) (s : State) : Answers (execXltInvalComplete h s) := by
  unfold execXltInvalComplete
  repeat' split
  all_goals exact ⟨_, rfl⟩

theorem execWalkEntryRead_answers (walk : Nat) (read : TableRead) (s : State) :
    Answers (execWalkEntryRead walk read s) := by
  dsimp only [execWalkEntryRead]
  repeat' split
  all_goals exact ⟨_, rfl⟩

theorem execTransactionClose_answers (line : Nat) (s : State) : Answers (execTransactionClose line s) := by
  unfold execTransactionClose
  repeat' split
  all_goals exact ⟨_, rfl⟩

theorem execRecallTimeout_answers (line agent : Nat) (s : State) : Answers (execRecallTimeout line agent s) := by
  unfold execRecallTimeout
  repeat' split
  all_goals exact ⟨_, rfl⟩

theorem execDirectorySweepDone_answers (agent : Nat) (s : State) : Answers (execDirectorySweepDone agent s) := by
  dsimp only [execDirectorySweepDone]
  repeat' split
  all_goals exact ⟨_, rfl⟩

theorem execSchedulerStartUnit_answers (sched : Nat) (s : State) : Answers (execSchedulerStartUnit sched s) := by
  unfold execSchedulerStartUnit
  split <;> exact ⟨_, rfl⟩

theorem execGateCommit_answers (id port : Nat) (value : W32) (s : State) :
    Answers (execGateCommit id port value s) := by
  dsimp only [execGateCommit]
  repeat' split
  all_goals exact ⟨_, rfl⟩

theorem execCacheReleaseDone_answers (sub : Nat) (s : State) : Answers (execCacheReleaseDone sub s) := by
  unfold execCacheReleaseDone
  split <;> exact ⟨_, rfl⟩

theorem execCisternPromotionDone_answers (sub : Nat) (failed : BitVec 16) (s : State) :
    Answers (execCisternPromotionDone sub failed s) := by
  unfold execCisternPromotionDone
  repeat' split
  all_goals exact ⟨_, rfl⟩

theorem execLehrDemoteStart_answers (s : State) : Answers (execLehrDemoteStart s) := by
  dsimp only [execLehrDemoteStart]
  repeat' split
  all_goals exact ⟨_, rfl⟩

theorem execLehrDemotionCommit_answers (sub : Nat) (s : State) : Answers (execLehrDemotionCommit sub s) := by
  unfold execLehrDemotionCommit
  split <;> exact ⟨_, rfl⟩

theorem execNvmeCmdTimeout_answers (drive frame : Nat) (s : State) : Answers (execNvmeCmdTimeout drive frame s) := by
  dsimp only [execNvmeCmdTimeout]
  repeat' split
  all_goals exact ⟨_, rfl⟩

theorem execCisternEnable_answers (id : Nat) (value : W32) (s : State) : Answers (execCisternEnable id value s) := by
  dsimp only [execCisternEnable]
  repeat' split
  all_goals exact ⟨_, rfl⟩

theorem execMigrate_answers (h : Nat) (s : State) : Answers (execMigrate h s) := by
  dsimp only [execMigrate]
  repeat' split
  all_goals exact ⟨_, rfl⟩

theorem execMigrateMoveDone_answers (h : Nat) (s : State) : Answers (execMigrateMoveDone h s) := by
  dsimp only [execMigrateMoveDone]
  repeat' split
  all_goals exact ⟨_, rfl⟩

theorem execTakeEntry_answers (q : Nat) (read : RingRead) (s : State) : Answers (execTakeEntry q read s) := by
  unfold execTakeEntry
  split
  · exact ⟨_, rfl⟩
  · extract_lets a
    split
    · split <;> exact ⟨_, rfl⟩
    · exact ⟨_, rfl⟩
    · split
      · exact ⟨_, rfl⟩
      · split
        · exact ⟨_, rfl⟩
        · exact ⟨_, rfl⟩
        · split <;> exact ⟨_, rfl⟩

theorem execStream_answers (h : Nat) (s : State) : Answers (execStream h s) := by
  unfold execStream
  repeat' split
  all_goals exact ⟨_, rfl⟩

theorem execDescriptorFetchDone_answers (h : Nat) (s : State) : Answers (execDescriptorFetchDone h s) := by
  unfold execDescriptorFetchDone
  split
  · exact ⟨_, rfl⟩
  · split
    · exact ⟨_, rfl⟩
    · exact setupEnd_answers ..

theorem execUpdateBlockFetchDone_answers (h : Nat) (s : State) : Answers (execUpdateBlockFetchDone h s) := by
  unfold execUpdateBlockFetchDone
  split
  · exact ⟨_, rfl⟩
  · split
    · exact ⟨_, rfl⟩
    · exact setupEnd_answers ..

theorem execOperationSuspended_answers (h : Nat) (s : State) : Answers (execOperationSuspended h s) := by
  unfold execOperationSuspended
  repeat' split
  all_goals exact ⟨_, rfl⟩

theorem execFence_answers (h : Nat) (s : State) : Answers (execFence h s) := by
  unfold execFence
  split <;> exact ⟨_, rfl⟩

theorem execFenceComplete_answers (h : Nat) (s : State) : Answers (execFenceComplete h s) := by
  dsimp only [execFenceComplete]
  repeat' split
  all_goals exact ⟨_, rfl⟩

theorem execOperationComplete_answers (h : Nat) (s : State) : Answers (execOperationComplete h s) := by
  unfold execOperationComplete
  repeat' split
  all_goals exact ⟨_, rfl⟩

theorem execBatchDeal_answers (cluster : Nat) (s : State) : Answers (execBatchDeal cluster s) := by
  unfold execBatchDeal
  repeat' split
  all_goals exact ⟨_, rfl⟩

theorem execTileAssign_answers (core : Nat) (s : State) : Answers (execTileAssign core s) := by
  unfold execTileAssign
  repeat' split
  all_goals exact ⟨_, rfl⟩

theorem execTileCommit_answers (op tile : Nat) (s : State) : Answers (execTileCommit op tile s) := by
  dsimp only [execTileCommit]
  repeat' split
  all_goals exact ⟨_, rfl⟩

theorem execReductionComplete_answers (h : Nat) (s : State) : Answers (execReductionComplete h s) := by
  unfold execReductionComplete
  repeat' split
  all_goals exact ⟨_, rfl⟩

theorem execReservePowerUp_answers (cluster : Nat) (s : State) : Answers (execReservePowerUp cluster s) := by
  unfold execReservePowerUp
  split <;> exact ⟨_, rfl⟩

theorem execReserveGoldenTileDone_answers (cluster : Nat) (pass : Bool) (s : State) :
    Answers (execReserveGoldenTileDone cluster pass s) := by
  unfold execReserveGoldenTileDone
  repeat' split
  all_goals exact ⟨_, rfl⟩

theorem execFlitReceive_answers (port : Nat) (bytes : List Byte) (s : State) :
    Answers (execFlitReceive port bytes s) := by
  dsimp only [execFlitReceive]
  repeat' split
  all_goals exact ⟨_, rfl⟩

theorem execFlitTransmit_answers (port : Nat) (s : State) : Answers (execFlitTransmit port s) := by
  dsimp only [execFlitTransmit]
  repeat' split
  all_goals exact ⟨_, rfl⟩

theorem execAckTimeout_answers (port : Nat) (s : State) : Answers (execAckTimeout port s) := by
  unfold execAckTimeout
  split <;> exact ⟨_, rfl⟩

theorem execRetrainComplete_answers (port : Nat) (txOk rxOk : BitVec 9) (exchangeOk : Bool) (s : State) :
    Answers (execRetrainComplete port txOk rxOk exchangeOk s) := by
  dsimp only [execRetrainComplete]
  repeat' split
  all_goals exact ⟨_, rfl⟩

theorem execPassThroughPacket_answers (port : Nat) (pkt : Packet) (s : State) :
    Answers (execPassThroughPacket port pkt s) := by
  dsimp only [execPassThroughPacket]
  repeat' split
  all_goals exact ⟨_, rfl⟩

theorem execRouteSwapComplete_answers (s : State) : Answers (execRouteSwapComplete s) := by
  unfold execRouteSwapComplete
  split <;> exact ⟨_, rfl⟩

theorem execRouteSwapAbort_answers (id eid : Nat) (s : State) : Answers (execRouteSwapAbort id eid s) := by
  unfold execRouteSwapAbort
  split <;> exact ⟨_, rfl⟩

theorem execDramCommandIssue_answers (ch : Nat) (s : State) : Answers (execDramCommandIssue ch s) := by
  dsimp only [execDramCommandIssue]
  repeat' split
  all_goals exact ⟨_, rfl⟩

theorem execMergeWindowExpiry_answers (ch line : Nat) (s : State) : Answers (execMergeWindowExpiry ch line s) := by
  unfold execMergeWindowExpiry
  split <;> exact ⟨_, rfl⟩

theorem execRemapCopyDone_answers (ch : Nat) (s : State) : Answers (execRemapCopyDone ch s) := by
  unfold execRemapCopyDone
  split <;> exact ⟨_, rfl⟩

theorem execAutoRemapStart_answers (ch : Nat) (s : State) : Answers (execAutoRemapStart ch s) := by
  unfold execAutoRemapStart
  split <;> exact ⟨_, rfl⟩

theorem execBasinLineAccess_answers (acc : BasinAccess) (s : State) : Answers (execBasinLineAccess acc s) := by
  dsimp only [execBasinLineAccess]
  repeat' split
  all_goals exact ⟨_, rfl⟩

theorem execBankSubstitutionDone_answers (group : Nat) (s : State) : Answers (execBankSubstitutionDone group s) := by
  unfold execBankSubstitutionDone
  split <;> exact ⟨_, rfl⟩

theorem execReinstateTestDone_answers (group : Nat) (pass : Bool) (s : State) :
    Answers (execReinstateTestDone group pass s) := by
  unfold execReinstateTestDone
  split <;> exact ⟨_, rfl⟩

theorem execAutoSubstituteStart_answers (group : Nat) (s : State) : Answers (execAutoSubstituteStart group s) := by
  unfold execAutoSubstituteStart
  split <;> exact ⟨_, rfl⟩

theorem execScrub_answers (h : Nat) (s : State) : Answers (execScrub h s) := by
  unfold execScrub
  split <;> exact ⟨_, rfl⟩

theorem execScrubComplete_answers (h : Nat) (s : State) : Answers (execScrubComplete h s) := by
  unfold execScrubComplete
  repeat' split
  all_goals exact ⟨_, rfl⟩

theorem execEngineTest_answers (h : Nat) (s : State) : Answers (execEngineTest h s) := by
  unfold execEngineTest
  repeat' split
  all_goals exact ⟨_, rfl⟩

theorem execEngineTestRoundDone_answers (h eng : Nat) (pass : Bool) (s : State) :
    Answers (execEngineTestRoundDone h eng pass s) := by
  unfold execEngineTestRoundDone
  repeat' split
  all_goals exact ⟨_, rfl⟩

theorem execFaultQHeadWrite_answers (id : Nat) (value : W32) (s : State) :
    Answers (execFaultQHeadWrite id value s) := by
  dsimp only [execFaultQHeadWrite]
  repeat' split
  all_goals exact ⟨_, rfl⟩

theorem execHandoverGo_answers (received : Bool) (s : State) : Answers (execHandoverGo received s) := by
  unfold execHandoverGo
  split
  · exact onRunnel_answers ..
  · exact guarded_answers ..

theorem execResyncComplete_answers (s : State) : Answers (execResyncComplete s) := by
  unfold execResyncComplete
  split <;> exact ⟨_, rfl⟩

theorem execDramPatrolRead_answers (line : Nat) (outcome : PatrolOutcome) (s : State) :
    Answers (execDramPatrolRead line outcome s) := by
  unfold execDramPatrolRead
  split <;> exact ⟨_, rfl⟩

theorem execKeyPartnerInstalled_answers (slot : Nat) (s : State) : Answers (execKeyPartnerInstalled slot s) := by
  unfold execKeyPartnerInstalled
  split <;> exact ⟨_, rfl⟩

theorem execFinish_answers (session : Nat) (verified : Bool) (s : State) : Answers (execFinish session verified s) := by
  unfold execFinish
  repeat' split
  all_goals exact ⟨_, rfl⟩

theorem execDebugUnlock_answers (session : Nat) (sig : Bytes) (s : State) :
    Answers (execDebugUnlock session sig s) := by
  dsimp only [execDebugUnlock]
  repeat' split
  all_goals exact ⟨_, rfl⟩

theorem execRequestUpdate_answers (s : State) : Answers (execRequestUpdate s) := by
  unfold execRequestUpdate
  split <;> exact ⟨_, rfl⟩

theorem execPassComponentTable_answers (types : List Nat) (s : State) : Answers (execPassComponentTable types s) := by
  unfold execPassComponentTable
  split <;> exact ⟨_, rfl⟩

theorem execUpdateComponent_answers (image : ImageHead) (s : State) : Answers (execUpdateComponent image s) := by
  dsimp only [execUpdateComponent]
  repeat' split
  all_goals exact ⟨_, rfl⟩

theorem execFirmwareDataReceived_answers (piece : ImagePiece) (s : State) :
    Answers (execFirmwareDataReceived piece s) := by
  unfold execFirmwareDataReceived
  split <;> exact ⟨_, rfl⟩

theorem execActivateFirmware_answers (s : State) : Answers (execActivateFirmware s) := by
  dsimp only [execActivateFirmware]
  repeat' split
  all_goals exact ⟨_, rfl⟩

theorem execCancelUpdateComponent_answers (s : State) : Answers (execCancelUpdateComponent s) := by
  unfold execCancelUpdateComponent
  repeat' split
  all_goals exact ⟨_, rfl⟩

theorem execCancelUpdate_answers (s : State) : Answers (execCancelUpdate s) := by
  unfold execCancelUpdate
  split <;> exact ⟨_, rfl⟩

theorem execSetLatencyTol_answers (h : Nat) (s : State) : Answers (execSetLatencyTol h s) := by
  unfold execSetLatencyTol
  split <;> exact ⟨_, rfl⟩

theorem execCounterSnapshotPages_answers (h : Nat) (s : State) : Answers (execCounterSnapshotPages h s) := by
  unfold execCounterSnapshotPages
  repeat' split
  all_goals exact ⟨_, rfl⟩

theorem execCounterSnapshotOperation_answers (h : Nat) (s : State) : Answers (execCounterSnapshotOperation h s) := by
  dsimp only [execCounterSnapshotOperation]
  repeat' split
  all_goals exact ⟨_, rfl⟩

theorem execSetProfile_answers (h : Nat) (s : State) : Answers (execSetProfile h s) := by
  dsimp only [execSetProfile]
  repeat' split
  all_goals exact ⟨_, rfl⟩

theorem execSetProfileCancel_answers (h : Nat) (s : State) : Answers (execSetProfileCancel h s) := by
  unfold execSetProfileCancel
  repeat' split
  all_goals exact ⟨_, rfl⟩

theorem execCxlioReadTimeout_answers (what : CxlioRead) (s : State) : Answers (execCxlioReadTimeout what s) := by
  unfold execCxlioReadTimeout
  repeat' split
  all_goals exact ⟨_, rfl⟩

theorem execCxlMemAdmissionRetry_answers (s : State) : Answers (execCxlMemAdmissionRetry s) := by
  unfold execCxlMemAdmissionRetry
  repeat' split
  all_goals exact ⟨_, rfl⟩

/-! ## Register writes (R484, R485) -/

theorem mbxWrite_answers (s : State) (id m off v : Nat) : Answers (mbxWrite s id m off v) := by
  dsimp only [mbxWrite, execMailboxSend, execMailboxRetract, execMailboxAck, guarded]
  repeat' split
  all_goals exact ⟨_, rfl⟩

/-- What a register write can answer: a next state, or, to identity 0x002 on the Holhild page, a refusal. -/
def WriteAnswers (id p : Nat) (r : Result) : Prop :=
  Answers r ∨ (r = .refused .hhdRegister ∧ id = 2 ∧ p = pgHHD)

/-- The same of a write that a page may take as one of its own. -/
def OwnWriteAnswers (id p : Nat) (o : Option Result) : Prop := ∀ r, o = some r → WriteAnswers id p r

section OwnWrite

variable {id p : Nat}

theorem ownWriteAnswers_none : OwnWriteAnswers id p none :=
  fun r h => absurd h (Option.some_ne_none r).symm

theorem ownWriteAnswers_some {r : Result} (h : Answers r) : OwnWriteAnswers id p (some r) :=
  fun _ heq => .inl (Option.some.inj heq ▸ h)

end OwnWrite

/-- The Holhild page alone refuses, and identity 0x002 alone. -/
theorem mgmtWrite_answers (s : State) (id p off v : Nat) : OwnWriteAnswers id p (mgmtWrite s id p off v) := by
  unfold mgmtWrite
  extract_lets w
  split
  · refine ownWriteAnswers_some ?_
    repeat' split
    all_goals exact ⟨_, rfl⟩
  split
  · refine ownWriteAnswers_some ?_
    split <;> exact ⟨_, rfl⟩
  split
  · refine ownWriteAnswers_some ?_
    split <;> exact ⟨_, rfl⟩
  split
  · refine ownWriteAnswers_some ?_
    split <;> exact ⟨_, rfl⟩
  split
  · refine ownWriteAnswers_some ?_
    split <;> exact ⟨_, rfl⟩
  split
  · exact ownWriteAnswers_some ⟨_, rfl⟩
  split
  case isTrue hpage =>
    rintro r ⟨⟩
    split
    case isTrue hid => exact .inr ⟨rfl, hid, hpage.1⟩
    case isFalse => exact .inl ⟨_, rfl⟩
  split
  · exact ownWriteAnswers_some (execFaultQHeadWrite_answers ..)
  split
  · refine ownWriteAnswers_some ?_
    split <;> exact ⟨_, rfl⟩
  split
  · exact ownWriteAnswers_some ⟨_, rfl⟩
  · exact ownWriteAnswers_none

theorem blockWrite_answers (s : State) (id p off v : Nat) : OwnWriteAnswers id p (blockWrite s id p off v) := by
  unfold blockWrite
  extract_lets w
  split
  · exact ownWriteAnswers_some (execGateCommit_answers ..)
  split
  · exact ownWriteAnswers_some ⟨_, rfl⟩
  split
  · exact ownWriteAnswers_some ⟨_, rfl⟩
  split
  · exact ownWriteAnswers_some ⟨_, rfl⟩
  split
  · refine ownWriteAnswers_some ?_
    split <;> exact ⟨_, rfl⟩
  split
  · exact ownWriteAnswers_some (execCisternEnable_answers ..)
  split
  · refine ownWriteAnswers_some ?_
    split
    · exact ⟨_, rfl⟩
    · exact execRouteSwapAbort_answers ..
    · exact ⟨_, rfl⟩
  split
  · refine ownWriteAnswers_some ?_
    split <;> exact ⟨_, rfl⟩
  split
  · exact ownWriteAnswers_some ⟨_, rfl⟩
  · exact ownWriteAnswers_none

theorem unitWrite_answers (s : State) (id p off v : Nat) : OwnWriteAnswers id p (unitWrite s id p off v) := by
  unfold unitWrite
  extract_lets w
  split
  · exact ownWriteAnswers_some ⟨_, rfl⟩
  split
  · refine ownWriteAnswers_some ?_
    split <;> exact ⟨_, rfl⟩
  split
  · exact ownWriteAnswers_some ⟨_, rfl⟩
  split
  · refine ownWriteAnswers_some ?_
    split <;> exact ⟨_, rfl⟩
  split
  · split
    · exact ownWriteAnswers_some ⟨_, rfl⟩
    · exact ownWriteAnswers_some ⟨_, rfl⟩
    · exact ownWriteAnswers_some ⟨_, rfl⟩
    · exact ownWriteAnswers_some ⟨_, rfl⟩
    · exact ownWriteAnswers_none
  split
  · exact ownWriteAnswers_some (mbxWrite_answers ..)
  · exact ownWriteAnswers_none

theorem regWrite_answers (s : State) (id p off v : Nat) : WriteAnswers id p (regWrite s id p off v) := by
  unfold regWrite
  split
  · refine .inl ?_
    split <;> exact ⟨_, rfl⟩
  split
  · exact .inl ⟨_, rfl⟩
  split
  · exact .inl ⟨_, rfl⟩
  split
  case h_1 hown => exact mgmtWrite_answers s id p off v _ hown
  case h_2 hown => exact blockWrite_answers s id p off v _ hown
  case h_3 hown => exact unitWrite_answers s id p off v _ hown
  case h_4 => exact .inl ⟨_, rfl⟩

/-- The second half of a write of 64 bits reaches the same page. -/
theorem busWrite_answers (s : State) (id addr size v : Nat) :
    WriteAnswers id (addr / 4096) (busWrite s id addr size v) := by
  unfold busWrite
  extract_lets p
  split
  · exact .inl ⟨_, rfl⟩
  split
  · exact regWrite_answers ..
  split
  · split
    · split
      · exact regWrite_answers ..
      · exact .inl ⟨_, rfl⟩
    · exact regWrite_answers ..
  · exact .inl ⟨_, rfl⟩

/-! ## The three commands that can stop -/

/-- WRITE32 acts as identity 0x003, which no register refuses. -/
theorem execWrite32_answers (addr : Nat) (value : W32) (s : State) : Answers (execWrite32 addr value s) := by
  unfold execWrite32
  split
  · exact ⟨_, rfl⟩
  · rcases busWrite_answers s 3 addr 4 value.toNat with hnext | ⟨_, hid, _⟩
    · exact hnext
    · exact absurd hid (by decide)

/-- REGISTER_WRITE, RAIL_ORDER and JTAG_TAP_ACCESS can stop. -/
def canStop : Instr → Bool
  | .registerWrite .. | .railOrder .. | .jtagTapAccess .. => true
  | _ => false

/-- Every other command goes on, whatever the state. -/
theorem exec_answers {i : Instr} (hi : canStop i = false) (s : State) : Answers (exec i s) := by
  cases i
  case registerWrite | railOrder | jtagTapAccess => exact absurd hi.symm Bool.false_ne_true
  case alloc h => exact show Answers (execAlloc h s) from allocCmd_answers ..
  case free h => exact show Answers (execFree h s) from regionCmd_answers ..
  case freeComplete => exact execFreeComplete_answers ..
  case resize h => exact show Answers (execResize h s) from regionCmd_answers ..
  case resizeShrinkComplete => exact execResizeShrinkComplete_answers ..
  case resizeGrowResume => exact execResizeGrowResume_answers ..
  case setAttr h => exact show Answers (execSetAttr h s) from regionCmd_answers ..
  case pin h => exact show Answers (execPin h s) from regionCmd_answers ..
  case unpin h => exact show Answers (execUnpin h s) from regionCmd_answers ..
  case publish h => exact show Answers (execPublish h s) from allocCmd_answers ..
  case versionUnitsRelease => exact execVersionUnitsRelease_answers ..
  case xltInval => exact execXltInval_answers ..
  case xltInvalComplete => exact execXltInvalComplete_answers ..
  case walkEntryRead => exact execWalkEntryRead_answers ..
  case rdShared port pkt => exact show Answers (execRdShared port pkt s) from reqPacket_answers ..
  case rdOwn port pkt => exact show Answers (execRdOwn port pkt s) from reqPacket_answers ..
  case upgrade port pkt => exact show Answers (execUpgrade port pkt s) from reqPacket_answers ..
  case rdOnce port pkt => exact show Answers (execRdOnce port pkt s) from reqPacket_answers ..
  case wrOnce port pkt => exact show Answers (execWrOnce port pkt s) from reqPacket_answers ..
  case wrData port pkt => exact show Answers (execWrData port pkt s) from arrive_answers ..
  case wbDirty port pkt => exact show Answers (execWbDirty port pkt s) from absorb_answers ..
  case evict port pkt => exact show Answers (execEvict port pkt s) from absorb_answers ..
  case ackShr port pkt => exact show Answers (execAckShr port pkt s) from absorb_answers ..
  case ackInv port pkt => exact show Answers (execAckInv port pkt s) from absorb_answers ..
  case ackMiss port pkt => exact show Answers (execAckMiss port pkt s) from absorb_answers ..
  case ackClean port pkt => exact show Answers (execAckClean port pkt s) from absorb_answers ..
  case holdData port pkt => exact show Answers (execHoldData port pkt s) from absorb_answers ..
  case transactionClose => exact execTransactionClose_answers ..
  case recallTimeout => exact execRecallTimeout_answers ..
  case directorySweepDone => exact execDirectorySweepDone_answers ..
  case schedulerStartUnit => exact execSchedulerStartUnit_answers ..
  case gateCommit => exact execGateCommit_answers ..
  case cacheReleaseDone => exact execCacheReleaseDone_answers ..
  case cisternPromotionDone => exact execCisternPromotionDone_answers ..
  case lehrDemoteStart => exact execLehrDemoteStart_answers ..
  case lehrDemotionCommit => exact execLehrDemotionCommit_answers ..
  case nvmeCmdTimeout => exact execNvmeCmdTimeout_answers ..
  case cisternEnable id value => exact execCisternEnable_answers id value s
  case migrate => exact execMigrate_answers ..
  case migrateMoveDone => exact execMigrateMoveDone_answers ..
  case doorbellPacket port pkt => exact show Answers (execDoorbellPacket port pkt s) from arrive_answers ..
  case takeEntry => exact execTakeEntry_answers ..
  case stream => exact execStream_answers ..
  case descriptorFetchDone => exact execDescriptorFetchDone_answers ..
  case updateBlockFetchDone => exact execUpdateBlockFetchDone_answers ..
  case suspend h => exact show Answers (execSuspend h s) from control_answers ..
  case operationSuspended => exact execOperationSuspended_answers ..
  case resume h => exact show Answers (execResume h s) from control_answers ..
  case cancel h => exact show Answers (execCancel h s) from control_answers ..
  case fence => exact execFence_answers ..
  case fenceComplete => exact execFenceComplete_answers ..
  case operationComplete => exact execOperationComplete_answers ..
  case batchDeal => exact execBatchDeal_answers ..
  case tileAssign => exact execTileAssign_answers ..
  case tileCommit => exact execTileCommit_answers ..
  case fetchRange op tile => exact show Answers (execFetchRange op tile s) from runStation_answers ..
  case fetchGather op tile => exact show Answers (execFetchGather op tile s) from runStation_answers ..
  case fetchSparse op tile => exact show Answers (execFetchSparse op tile s) from runStation_answers ..
  case fillConst op tile => exact show Answers (execFillConst op tile s) from fillTile_answers ..
  case fillPattern op tile => exact show Answers (execFillPattern op tile s) from fillTile_answers ..
  case fillRamp op tile => exact show Answers (execFillRamp op tile s) from fillTile_answers ..
  case expand op tile => exact show Answers (execExpand op tile s) from runStation_answers ..
  case convert op tile => exact show Answers (execConvert op tile s) from runStation_answers ..
  case selectMask op tile => exact show Answers (execSelectMask op tile s) from runStation_answers ..
  case selectTopk op tile => exact show Answers (execSelectTopk op tile s) from runStation_answers ..
  case selectRoute op tile => exact show Answers (execSelectRoute op tile s) from runStation_answers ..
  case combineAdd op tile => exact show Answers (execCombineAdd op tile s) from combineTile_answers ..
  case combineSub op tile => exact show Answers (execCombineSub op tile s) from combineTile_answers ..
  case combineMul op tile => exact show Answers (execCombineMul op tile s) from combineTile_answers ..
  case combineMax op tile => exact show Answers (execCombineMax op tile s) from combineTile_answers ..
  case combineMin op tile => exact show Answers (execCombineMin op tile s) from combineTile_answers ..
  case combineFma op tile => exact show Answers (execCombineFma op tile s) from combineTile_answers ..
  case combineScale op tile => exact show Answers (execCombineScale op tile s) from combineTile_answers ..
  case reduceAccum op tile => exact show Answers (execReduceAccum op tile s) from runStation_answers ..
  case reduceGroup op tile => exact show Answers (execReduceGroup op tile s) from runStation_answers ..
  case updateSgdm op tile => exact show Answers (execUpdateSgdm op tile s) from updateTile_answers ..
  case updateAdamw op tile => exact show Answers (execUpdateAdamw op tile s) from updateTile_answers ..
  case updateTable op tile => exact show Answers (execUpdateTable op tile s) from updateTile_answers ..
  case compact op tile => exact show Answers (execCompact op tile s) from runStation_answers ..
  case check op tile => exact show Answers (execCheck op tile s) from runStation_answers ..
  case compareBitwise op tile => exact show Answers (execCompareBitwise op tile s) from compareTile_answers ..
  case compareTol op tile => exact show Answers (execCompareTol op tile s) from compareTile_answers ..
  case storeRange op tile => exact show Answers (execStoreRange op tile s) from runSink_answers ..
  case storeScatter op tile => exact show Answers (execStoreScatter op tile s) from runSink_answers ..
  case storeSparse op tile => exact show Answers (execStoreSparse op tile s) from runSink_answers ..
  case storePut op tile => exact show Answers (execStorePut op tile s) from runSink_answers ..
  case storeRouted op tile => exact show Answers (execStoreRouted op tile s) from runSink_answers ..
  case storeNull op tile => exact show Answers (execStoreNull op tile s) from runSink_answers ..
  case reductionComplete => exact execReductionComplete_answers ..
  case reservePowerUp => exact execReservePowerUp_answers ..
  case reserveGoldenTileDone => exact execReserveGoldenTileDone_answers ..
  case flitReceive => exact execFlitReceive_answers ..
  case flitTransmit => exact execFlitTransmit_answers ..
  case replayReq port seq => exact show Answers (execReplayReq port seq s) from onMsg_answers ..
  case ackTimeout => exact execAckTimeout_answers ..
  case creditInit port buf size => exact show Answers (execCreditInit port buf size s) from onMsg_answers ..
  case linkId port eid width lanes => exact show Answers (execLinkId port eid width lanes s) from onMsg_answers ..
  case swapReq port lane => exact show Answers (execSwapReq port lane s) from onMsg_answers ..
  case swapMark port lane => exact show Answers (execSwapMark port lane s) from onMsg_answers ..
  case swapDone port lane => exact show Answers (execSwapDone port lane s) from onMsg_answers ..
  case widthReq port width => exact show Answers (execWidthReq port width s) from onMsg_answers ..
  case widthAck port width => exact show Answers (execWidthAck port width s) from onMsg_answers ..
  case retrainReq port attempt => exact show Answers (execRetrainReq port attempt s) from onMsg_answers ..
  case retrainComplete => exact execRetrainComplete_answers ..
  case pwrReq port target => exact show Answers (execPwrReq port target s) from onMsg_answers ..
  case pwrAck port target => exact show Answers (execPwrAck port target s) from onMsg_answers ..
  case pwrNak port target => exact show Answers (execPwrNak port target s) from onMsg_answers ..
  case passThroughPacket => exact execPassThroughPacket_answers ..
  case putPacket port pkt => exact show Answers (execPutPacket port pkt s) from putPacket_answers ..
  case putSparsePacket port pkt => exact show Answers (execPutSparsePacket port pkt s) from putPacket_answers ..
  case cmpPacket port pkt => exact show Answers (execCmpPacket port pkt s) from arrive_answers ..
  case notifyPacket port pkt => exact show Answers (execNotifyPacket port pkt s) from arrive_answers ..
  case pubNotifyPacket port pkt => exact show Answers (execPubNotifyPacket port pkt s) from arrive_answers ..
  case routeSwapComplete => exact execRouteSwapComplete_answers ..
  case routeSwapAbort id eid => exact execRouteSwapAbort_answers id eid s
  case mailboxPacket ch ack data => exact show Answers (execMailboxPacket ch ack data s) from onRunnel_answers ..
  case dramCommandIssue => exact execDramCommandIssue_answers ..
  case mergeWindowExpiry => exact execMergeWindowExpiry_answers ..
  case remapCopyDone => exact execRemapCopyDone_answers ..
  case autoRemapStart => exact execAutoRemapStart_answers ..
  case basinLineAccess => exact execBasinLineAccess_answers ..
  case atomicAddI32 req => exact show Answers (execAtomicAddI32 req s) from atomic_answers ..
  case atomicAddI64 req => exact show Answers (execAtomicAddI64 req s) from atomic_answers ..
  case atomicAddF32 req => exact show Answers (execAtomicAddF32 req s) from atomic_answers ..
  case atomicAddBf16x2 req => exact show Answers (execAtomicAddBf16x2 req s) from atomic_answers ..
  case atomicSwap32 req => exact show Answers (execAtomicSwap32 req s) from atomic_answers ..
  case atomicSwap64 req => exact show Answers (execAtomicSwap64 req s) from atomic_answers ..
  case bankSubstitutionDone => exact execBankSubstitutionDone_answers ..
  case reinstateTestDone => exact execReinstateTestDone_answers ..
  case autoSubstituteStart => exact execAutoSubstituteStart_answers ..
  case scrub => exact execScrub_answers ..
  case scrubComplete => exact execScrubComplete_answers ..
  case engineTest => exact execEngineTest_answers ..
  case engineTestRoundDone => exact execEngineTestRoundDone_answers ..
  case faultQHeadWrite id value => exact execFaultQHeadWrite_answers id value s
  case mack tag dir => exact show Answers (execMack tag dir s) from onRunnel_answers ..
  case tickAck tick => exact show Answers (execTickAck tick s) from onRunnel_answers ..
  case health seq clean fails => exact show Answers (execHealth seq clean fails s) from onRunnel_answers ..
  case handoverReq  => exact show Answers (execHandoverReq s) from onRunnel_answers ..
  case handoverGo => exact execHandoverGo_answers ..
  case handoverDone  => exact show Answers (execHandoverDone s) from onRunnel_answers ..
  case resyncComplete => exact execResyncComplete_answers ..
  case dramPatrolRead => exact execDramPatrolRead_answers ..
  case keyPartnerInstalled => exact execKeyPartnerInstalled_answers ..
  case finish => exact execFinish_answers ..
  case endSession session => exact show Answers (execEndSession session s) from inSession_answers ..
  case spdmHeartbeat session => exact show Answers (execSpdmHeartbeat session s) from inSession_answers ..
  case keyUpdate session keyOp => exact show Answers (execKeyUpdate session keyOp s) from inSession_answers ..
  case debugUnlock => exact execDebugUnlock_answers ..
  case requestUpdate => exact execRequestUpdate_answers ..
  case passComponentTable types => exact execPassComponentTable_answers types s
  case updateComponent => exact execUpdateComponent_answers ..
  case firmwareDataReceived => exact execFirmwareDataReceived_answers ..
  case activateFirmware => exact execActivateFirmware_answers ..
  case cancelUpdateComponent => exact execCancelUpdateComponent_answers ..
  case cancelUpdate => exact execCancelUpdate_answers ..
  case setLatencyTol => exact execSetLatencyTol_answers ..
  case counterSnapshotPages => exact execCounterSnapshotPages_answers ..
  case counterSnapshotOperation => exact execCounterSnapshotOperation_answers ..
  case setProfile => exact execSetProfile_answers ..
  case setProfileCancel => exact execSetProfileCancel_answers ..
  case cxlioReadTimeout => exact execCxlioReadTimeout_answers ..
  case cxlMemAdmissionRetry => exact execCxlMemAdmissionRetry_answers ..
  case write32 => exact execWrite32_answers ..
  all_goals exact ⟨_, rfl⟩

/-- A rail order broken for more than 20 ms is outside the ratings (R444). -/
theorem execRailOrder_of_long {n : Nat} (hn : 20 < n) (s : State) : execRailOrder n s = .fault .outsideRatings :=
  if_pos hn

/-- A shorter breach holds the controller in reset. -/
theorem execRailOrder_of_short {n : Nat} (hn : ¬ 20 < n) (s : State) : Answers (execRailOrder n s) :=
  ⟨_, if_neg hn⟩

/-- A TAP access goes on, or is refused for another instruction while debug is unlocked (R510). -/
theorem execJtagTapAccess_answers (k : Nat) (s : State) :
    Answers (execJtagTapAccess k s) ∨
      (execJtagTapAccess k s = .refused .jtagUnlocked ∧ debugOpen s = true ∧ 2 ≤ k) := by
  unfold execJtagTapAccess
  split
  · exact .inl ⟨_, rfl⟩
  split
  · exact .inl ⟨_, rfl⟩
  split
  · exact .inl ⟨_, rfl⟩
  split
  case isTrue hidcode hbypass hopen => exact .inr ⟨rfl, hopen, by omega⟩
  case isFalse => exact .inl ⟨_, rfl⟩

section Stops

variable {r : Result} (h : Answers r)

include h

/-- A result that goes on is no fault. -/
theorem Answers.ne_fault (f : Fault) : r ≠ .fault f := by
  obtain ⟨t, rfl⟩ := h
  exact nofun

/-- A result that goes on is no refusal. -/
theorem Answers.ne_refused (x : Refusal) : r ≠ .refused x := by
  obtain ⟨t, rfl⟩ := h
  exact nofun

end Stops

/-- A command that faults is a rail order broken for more than 20 ms. -/
theorem exec_fault {i : Instr} {s : State} {f : Fault} (hfault : exec i s = .fault f) :
    ∃ n, i = .railOrder n ∧ 20 < n ∧ f = .outsideRatings := by
  rcases hi : canStop i with _ | _
  · exact absurd hfault ((exec_answers hi s).ne_fault f)
  cases i
  case registerWrite id addr size value =>
    rcases busWrite_answers s id addr size value.toNat with hnext | ⟨hrefused, _, _⟩
    · exact absurd hfault (hnext.ne_fault f)
    · exact absurd (hfault.symm.trans hrefused) nofun
  case railOrder n =>
    by_cases hn : 20 < n
    · cases hfault.symm.trans (execRailOrder_of_long hn s)
      exact ⟨n, rfl, hn, rfl⟩
    · exact absurd hfault ((execRailOrder_of_short hn s).ne_fault f)
  case jtagTapAccess k =>
    rcases execJtagTapAccess_answers k s with hnext | ⟨hrefused, _, _⟩
    · exact absurd hfault (hnext.ne_fault f)
    · exact absurd (hfault.symm.trans hrefused) nofun
  all_goals exact absurd hi Bool.false_ne_true

/-- A command that is refused is a write of the Holhild page by its processor, or a TAP access while debug is
unlocked. -/
theorem exec_refused {i : Instr} {s : State} {r : Refusal} (hrefused : exec i s = .refused r) :
    (r = .hhdRegister ∧ ∃ a n v, i = .registerWrite 2 a n v ∧ a / 4096 = pgHHD) ∨
      (r = .jtagUnlocked ∧ debugOpen s = true ∧ ∃ k, i = .jtagTapAccess k ∧ 2 ≤ k) := by
  rcases hi : canStop i with _ | _
  · exact absurd hrefused ((exec_answers hi s).ne_refused r)
  cases i
  case registerWrite id addr size value =>
    rcases busWrite_answers s id addr size value.toNat with hnext | ⟨hhhd, rfl, hpage⟩
    · exact absurd hrefused (hnext.ne_refused r)
    · cases hrefused.symm.trans hhhd
      exact .inl ⟨rfl, addr, size, value, rfl, hpage⟩
  case railOrder n =>
    by_cases hn : 20 < n
    · exact absurd (hrefused.symm.trans (execRailOrder_of_long hn s)) nofun
    · exact absurd hrefused ((execRailOrder_of_short hn s).ne_refused r)
  case jtagTapAccess k =>
    rcases execJtagTapAccess_answers k s with hnext | ⟨hjtag, hopen, hk⟩
    · exact absurd hrefused (hnext.ne_refused r)
    · cases hrefused.symm.trans hjtag
      exact .inr ⟨rfl, hopen, k, rfl, hk⟩
  all_goals exact absurd hi Bool.false_ne_true

/-- Settles O17: the three commands that can stop are taken one by one, every other goes on. TAP instructions are
numbered as log entry 55 gives. -/
theorem onlyTheseCommandsStop : Obligations.OnlyTheseCommandsStop :=
  ⟨fun _ _ _ => exec_fault, fun n s hn => execRailOrder_of_long (n := n) hn s, fun _ _ _ => exec_refused⟩

end Sys2Proof.Machine
end
